-- ==== Sys2Proof/Word.lean ====
section
/-! DEFINITION. Word.lean: the word types of the part (R11, R12): bytes, 32-bit registers, 64-bit quantities. -/

namespace Sys2Proof

/-- One byte of memory, of a link message or of a frame. -/
abbrev Byte := BitVec 8

/-- A register (R12: every register is 32 bits wide). -/
abbrev Word := BitVec 32

/-- A 64-bit quantity, such as a word of a descriptor. -/
abbrev DWord := BitVec 64

end Sys2Proof
end

