-- ==== Sys2Proof/Syntax.lean ====
section
/-! DEFINITION. Syntax.lean: the commands the package takes, one constructor for each row of spec/opcode_table.json, with
the operands its environment supplies: in the table's order those that have operands, then those that have none. -/

namespace Sys2Proof

/-- A context number (R133). -/
abbrev CtxId := Fin 64

/-- A bank die (R17, R70). -/
abbrev BankId := Fin 4

/-- An Eriovan port: PORT_XP, PORT_XN, PORT_YP, PORT_YN, PORT_ZP, PORT_ZN, PORT_BA, PORT_BB (chapter 12). -/
abbrev PortId := Fin 8

/-- A torus port, numbered as DAY_STATUS.PARENT minus one (Table 2.7). -/
abbrev TorusPort := Fin 6

/-- An engine position 4b + p, or 16 + b for the Special Function Unit of BANK_b (R142). -/
abbrev PosId := Fin 20

/-- Who reads or writes a register: the host over BAR 0, or the management controller (R524, R525). -/
inductive Reader where
  | host
  | mgmt
  deriving DecidableEq, Repr

/-- A position on the installation Day with its tick (R6). -/
structure DayPos where
  day : Nat
  minute : Nat
  tick : Nat
  deriving DecidableEq, Repr

/-- What a time message carries of its sender (R37, R366): Day Unit STATE code, hops, the leader's position number, ADOPTED. -/
structure TimeInfo where
  state : Nat
  hops : Nat
  leader : Nat
  adopted : Bool
  pos : DayPos
  deriving DecidableEq, Repr

/-- A bank die's fuse record (Table 3.4). -/
structure FuseRecord where
  pos : Nat
  posValid : Bool
  pkgBind : BitVec 32
  serial : Nat
  eccOk : Bool
  deriving DecidableEq, Repr

/-- What the training of a bridge found (R64, R78, R85): the functional wires that failed in each direction as (group, wire); the eye widths measured
in each direction, as (group, wire, percent of the unit interval) (Table 16.4); and the wires of the duplicated pairs that failed, as (pair, wire),
wire 0 the primary and 1 the backup. The pairs of Table 3.1 are numbered 0 the forwarded clock from the hub, 1 the forwarded clock to the hub, 2 the
reference copy, 3 the bank reset, 4 the bank alert, 5 the Minute strobe, 6 the positions. -/
structure WireTest where
  badH2b : List (Nat × Nat)
  badB2h : List (Nat × Nat)
  eyesH2b : List (Nat × Nat × Nat)
  eyesB2h : List (Nat × Nat × Nat)
  badPairs : List (Nat × Nat)
  deriving DecidableEq, Repr

/-- Whether a pair has a wire that works. -/
def WireTest.pairOk (w : WireTest) (p : Nat) : Bool := !(w.badPairs.contains (p, 0) && w.badPairs.contains (p, 1))

/-- Whether both wires of a duplicated pair other than a time pair failed (R78). -/
def WireTest.pairDead (w : WireTest) : Bool := (List.range 5).any (fun p => !w.pairOk p)

/-- Whether the strobe pair still works (R85). -/
def WireTest.strobeOk (w : WireTest) : Bool := w.pairOk 5

/-- Whether the pair of the positions still works (R85). -/
def WireTest.posOk (w : WireTest) : Bool := w.pairOk 6

/-- What the bring-up of a bank die gave: its code of Table 3.11 (0: up), the wire test of its bridge, its fuse record (none: no answer to
discovery), and the engines and the Special Function Unit that failed the self-test (R70, R73, R87, R507, R517). -/
structure BankUp where
  code : Nat
  wires : WireTest
  fuse : Option FuseRecord
  badEngines : List Nat
  badSfu : Bool
  deriving DecidableEq, Repr

/-- What the host memory gave to a read: its bytes, or the address at which it failed (R122, R123). -/
inductive HostData where
  | ok (bytes : List Byte)
  | failed (addr : Nat)
  deriving DecidableEq, Repr

/-- Which read of host memory timed out (R123). -/
inductive HostRead where
  | doorbell (block : Fin 2)
  | fetch (c : CtxId)
  | head
  | data (c : CtxId) (idx : Nat) (addr : Nat)
  deriving DecidableEq, Repr

/-- A management Block Write after its command code (R521): TAG, the request bytes and whether the PEC held. -/
structure MgtReq where
  tag : Byte
  args : List Byte
  pecOk : Bool
  deriving DecidableEq, Repr

/-- What the load of the flash found (R484, R498): which copies of the defect map load, and the positions of records whose trailer
fails. -/
structure FlashLoad where
  aOk : Bool
  bOk : Bool
  bad : List Nat
  deriving DecidableEq, Repr

/-- The kinds of message that travel on Eriovan Link (chapters 11, 12, 13) with the TIME-class records of R366 and R367. -/
inductive MsgKind where
  | timeRequest | timeResponse | discoveryProbe | discoveryRecord
  | offer | offerRefused | grant | busy | mask | chunk | ack | nack | stale
  | readRequest | writeRequest | response | refusal | interrupt | interruptAck | debugAnswer | routeStale
  | join | formed | formRefused | announce | go | refuse | colChunk | colAck | colNack
  | suspect | probe | probeAnswer | reform | reformAck | resume
  deriving DecidableEq, Repr

/-- A party on Eriovan Link: through the torus (route 0) the package at position `pos`, or behind bridge port PORT_BA (1) or PORT_BB (2)
the part with peer identifier `id` (Table 11.1). -/
structure Peer where
  route : Nat
  pos : Nat
  id : Nat
  deriving DecidableEq, Repr

/-- A message: its kind, the position it comes from, where it goes, the route epoch it was stamped with, its fields in the order its
chapter gives them, and its data. Of a message of this package also the context, GEN and descriptor it was sent for, the key of the
response that ends it, and whether it has been reissued (R357). -/
structure Msg where
  kind : MsgKind
  src : Nat
  dst : Peer
  epoch : Nat
  args : List Nat
  data : List Byte
  owner : Option (Nat × Nat × Nat) := none
  key : Option Nat := none
  reissued : Bool := false
  deriving DecidableEq, Repr

/-- A training record (R341): part kind (1 Lerina, 2 Merolaiz, 3 Jelar), revision (LNK_STATUS_p.REV), advertised capabilities, port name,
identity, largest width and rate (in Mb/s), and if known coordinates and route epoch. -/
structure TrainRecord where
  kind : Nat
  rev : Nat
  caps : Nat
  port : Nat
  identity : Nat
  width : Nat
  rate : Nat
  pos : Option (Nat × Nat × Nat)
  epoch : Option Nat
  deriving DecidableEq, Repr

/-- A discovery record (R367): coordinates, or an election identity with an offset. -/
inductive DiscRecord where
  | coords (x y z : Nat)
  | election (identity : Nat) (x y z : Int)
  deriving DecidableEq, Repr

/-- What an ANNOUNCE says of a COLLECTIVE (R388): OP, RED, DTYPE, WIDE, ALGO, COUNT, ROOT, the chunk size in use, TIMED and START. -/
structure Announce where
  op : Nat
  red : Nat
  dtype : Nat
  wide : Bool
  algo : Nat
  count : Nat
  root : Nat
  chunkLog : Nat
  timed : Bool
  start : Nat
  deriving DecidableEq, Repr

/-- What a JOIN says (R383): SHAPE, anchor, TAG, MIN_LIVE, the last epoch of the member's slot, and its INST_VALID. -/
structure Join where
  shape : Nat
  anchor : Nat × Nat × Nat
  tag : Nat
  minLive : Nat
  last : Nat
  valid : Bool
  deriving DecidableEq, Repr

/-- A collective chunk's header apart from its length and CRC (Table 13.5): slot, group epoch, CSEQ, FLAGS, STEP and CHUNK. -/
structure ChunkHead where
  slot : Fin 64
  gepoch : Nat
  cseq : Nat
  flags : Nat
  step : Nat
  chunk : Nat
  deriving DecidableEq, Repr

/-- One command: a row of the table. -/
inductive Instr where
  /-- PHREF_EDGE: a rising edge is seen on tick `t`. -/
  | phrefEdge (t : Nat)
  /-- PHREF_MISSED_CYCLE: no edge was accepted within 1.25 P, seen on tick `t`. -/
  | phrefMissedCycle (t : Nat)
  /-- TIME_REQUEST_RX: a REQUEST came in on `p`; `t1` is the sender's time, `t2` and `t3` the ticks of this package's clock at which its first byte
  came and the RESPONSE left (R366). -/
  | timeRequestRx (p : TorusPort) (from_ : TimeInfo) (t1 : DayPos) (t2 t3 : Nat)
  /-- TIME_RESPONSE_RX: a RESPONSE came in on `p` at tick `t4` of this package's clock, with the times `t1`, `t2` and `t3` of R366. -/
  | timeResponseRx (p : TorusPort) (from_ : TimeInfo) (t1 t2 t3 : DayPos) (t4 : Nat)
  /-- DAY_START_HI_WRITE: the host writes DAY_START_HI. -/
  | dayStartHiWrite (v : Word)
  /-- DAY_HOUR_OFS_WRITE: the host writes DAY_HOUR_OFS. -/
  | dayHourOfsWrite (v : Word)
  /-- DAY_HOLD_LIMIT_WRITE: the host writes DAY_HOLD_LIMIT. -/
  | dayHoldLimitWrite (v : Word)
  /-- DAY_CTRL_WRITE: the host writes DAY_CTRL. -/
  | dayCtrlWrite (v : Word)
  /-- DAY_VOTE_MISMATCH: the three copies of Day, Minute and tick show these values. -/
  | dayVoteMismatch (c1 c2 c3 : DayPos)
  /-- DAY_NOW_LO_READ: DAY_NOW_LO is read. -/
  | dayNowLoRead (who : Reader)
  /-- PAIR_LO_READ: an `_LO` register is read. -/
  | pairLoRead (off : Nat) (who : Reader)
  /-- RC_READ: the host reads a register with an RC field. -/
  | rcRead (off : Nat)
  /-- BOOT_STAGE_DONE: stage 0 or 1 ends, with a code of R516 (0: none), what the flash gave (stage 0) and the control cores and
  slices that failed their test (stage 1). -/
  | bootStageDone (code : Nat) (flash : FlashLoad) (badCores badSlices : List Nat)
  /-- BANK_BRINGUP_STEP_DONE: the step of Table 3.6 under way on BANK_n ends, with a code of Table 3.11 (0: none), what its wire
  test found, which scratchpad rows read back wrong after their fill (array, row and physical address, R498), and which physical engines and whether
  the Special Function Unit failed the self-test. -/
  | bankBringupStepDone (n : BankId) (code : Nat) (wires : WireTest) (badRows : List (Nat × Nat × Nat)) (badEngines : List Nat) (badSfu : Bool)
  /-- BANK_DISCOVERY_RESPONSE: BANK_n's fuse record arrives. -/
  | bankDiscoveryResponse (n : BankId) (r : FuseRecord)
  /-- BRIDGE_FRAME_RX: a frame of 512 data and 16 sideband bytes arrives, at the bank die (`toBank`) or at the hub. -/
  | bridgeFrameRx (n : BankId) (toBank : Bool) (frame : List Byte)
  /-- BRIDGE_CLOCK_LOSS: the forwarded clock of bridge n is lost. -/
  | bridgeClockLoss (n : BankId)
  /-- BRIDGE_RETRAIN_DONE: the retrain under way ends, trained or not. -/
  | bridgeRetrainDone (n : BankId) (ok : Bool) (wires : WireTest)
  /-- BANK_TIME_MSG_RX: BANK_n receives a position, its CRC-8 good or bad, with the time pairs that still work. -/
  | bankTimeMsgRx (n : BankId) (crcOk : Bool) (day minute : Nat) (strobeOk posOk : Bool)
  /-- BANK_DIE_LOST: BANK_n is lost; `memory`: the fault lies in a memory controller; `pll`: its PLLs lost lock. -/
  | bankDieLost (n : BankId) (memory pll : Bool)
  /-- BANK_RESET_DONE: the bank reset under way ends, with what its training, its discovery (none: no answer) and its self-test gave. -/
  | bankResetDone (n : BankId) (ok : Bool) (wires : WireTest) (fuse : Option FuseRecord) (badEngines : List Nat) (badSfu : Bool)
  /-- BANK_RESET_CMD: the host writes 1 to HUB_BANK_CMD_n.RESET. -/
  | bankResetCmd (n : BankId)
  /-- BANK_RETRY_CMD: the host writes 1 to HUB_BANK_CMD_n.RETRY. -/
  | bankRetryCmd (n : BankId)
  /-- DOORBELL_POLL: the poll interval has elapsed at tick `t`. -/
  | doorbellPoll (t : Nat)
  /-- DOORBELL_READ_DONE: the read of doorbell block `b` returns its 64 bytes, or fails. -/
  | doorbellReadDone (b : Fin 2) (data : Option (List Byte))
  /-- DESCRIPTOR_FETCH_DONE: a fetch for context `c` returns descriptors of eight words, or fails. -/
  | descriptorFetchDone (c : CtxId) (data : Option (List (List DWord)))
  /-- NOP: the next descriptor of `c`, a NOP, starts. -/
  | nop (c : CtxId)
  /-- COPY: the next descriptor of `c`, a COPY, starts; `data` is what the host memory gave where SRC_HOST is 1. -/
  | copy (c : CtxId) (data : HostData)
  /-- FILL: the next descriptor of `c`, a FILL, starts. -/
  | fill (c : CtxId)
  /-- SIGNAL: the next descriptor of `c`, a SIGNAL, starts. -/
  | signal (c : CtxId)
  /-- WAIT: the next descriptor of `c`, a WAIT, starts. -/
  | wait (c : CtxId)
  /-- WAIT_POLL: the WAIT of `c` rereads ADDR. -/
  | waitPoll (c : CtxId)
  /-- WAIT_TIMEOUT: the WAIT of `c` reaches LIMIT Minutes. -/
  | waitTimeout (c : CtxId)
  /-- LAYER: the next descriptor of `c`, a LAYER, starts. -/
  | layer (c : CtxId)
  /-- LAYER_SKIP: the next descriptor of `c`, a LAYER with SKIP_LAYER, starts. -/
  | layerSkip (c : CtxId)
  /-- GROUPED_OP: the next descriptor of `c`, a GROUPED_OP, starts. -/
  | groupedOp (c : CtxId)
  /-- SFU_PASS_ELEMENTWISE: the next descriptor of `c`, an SFU_PASS with OP 0x00 to 0x0A, starts. -/
  | sfuPassElementwise (c : CtxId)
  /-- SFU_PASS_SOFTMAX: the next descriptor of `c`, an SFU_PASS with OP SOFTMAX, starts. -/
  | sfuPassSoftmax (c : CtxId)
  /-- SFU_PASS_LAYER_NORM: the next descriptor of `c`, an SFU_PASS with OP LAYER_NORM, starts. -/
  | sfuPassLayerNorm (c : CtxId)
  /-- SFU_PASS_RMS_NORM: the next descriptor of `c`, an SFU_PASS with OP RMS_NORM, starts. -/
  | sfuPassRmsNorm (c : CtxId)
  /-- BIAS_WRITE: the next descriptor of `c`, a BIAS_WRITE, starts. -/
  | biasWrite (c : CtxId)
  /-- ROUTE_VERSION: the next descriptor of `c`, a ROUTE_VERSION, starts. -/
  | routeVersion (c : CtxId)
  /-- COLLECTIVE_ALL_REDUCE: the next descriptor of `c`, such a COLLECTIVE, starts. -/
  | collectiveAllReduce (c : CtxId)
  /-- COLLECTIVE_REDUCE_SCATTER: the next descriptor of `c`, such a COLLECTIVE, starts. -/
  | collectiveReduceScatter (c : CtxId)
  /-- COLLECTIVE_ALL_GATHER: the next descriptor of `c`, such a COLLECTIVE, starts. -/
  | collectiveAllGather (c : CtxId)
  /-- COLLECTIVE_BROADCAST: the next descriptor of `c`, such a COLLECTIVE, starts. -/
  | collectiveBroadcast (c : CtxId)
  /-- COLLECTIVE_REDUCE: the next descriptor of `c`, such a COLLECTIVE, starts. -/
  | collectiveReduce (c : CtxId)
  /-- GROUP_FORM: the next descriptor of `c`, a GROUP_FORM with DISSOLVE 0, starts. -/
  | groupForm (c : CtxId)
  /-- GROUP_DISSOLVE: the next descriptor of `c`, a GROUP_FORM with DISSOLVE 1, starts. -/
  | groupDissolve (c : CtxId)
  /-- DAWN_ALL_REDUCE: the next descriptor of `c`, such a DAWN, starts; `data` is what the host memory gave where SRC_HOST
  is 1. -/
  | dawnAllReduce (c : CtxId) (data : HostData)
  /-- DAWN_BROADCAST: the next descriptor of `c`, such a DAWN, starts. -/
  | dawnBroadcast (c : CtxId) (data : HostData)
  /-- DAWN_BARRIER: the next descriptor of `c`, such a DAWN, starts. -/
  | dawnBarrier (c : CtxId)
  /-- HANDOFF_SEND: the next descriptor of `c`, a HANDOFF_SEND, starts. -/
  | handoffSend (c : CtxId)
  /-- HANDOFF_RECV: the next descriptor of `c`, a HANDOFF_RECV, starts. -/
  | handoffRecv (c : CtxId)
  /-- INGEST_BIND: the next descriptor of `c`, an INGEST_BIND with UNBIND 0, starts. -/
  | ingestBind (c : CtxId)
  /-- INGEST_UNBIND: the next descriptor of `c`, an INGEST_BIND with UNBIND 1, starts. -/
  | ingestUnbind (c : CtxId)
  /-- KEEP_MAP: the next descriptor of `c`, a KEEP_MAP, starts. -/
  | keepMap (c : CtxId)
  /-- LEASE_TAKE: the next descriptor of `c`, a LEASE with ACTION TAKE, starts. -/
  | leaseTake (c : CtxId)
  /-- LEASE_RENEW: the next descriptor of `c`, a LEASE with ACTION RENEW, starts. -/
  | leaseRenew (c : CtxId)
  /-- LEASE_RELEASE: the next descriptor of `c`, a LEASE with ACTION RELEASE, starts. -/
  | leaseRelease (c : CtxId)
  /-- ATP_UPDATE: the next descriptor of `c`, an ATP_UPDATE, starts. -/
  | atpUpdate (c : CtxId)
  /-- DESCRIPTOR_COMPLETE: the work of descriptor `idx` of `c` has ended and its writes are acknowledged. -/
  | descriptorComplete (c : CtxId) (idx : Nat)
  /-- COMPLETION_HEAD_READ: the read of the head block returns its bytes, or fails. -/
  | completionHeadRead (data : Option (List Byte))
  /-- IRQ_DELAY_EXPIRY: at tick `t` the IRQ_DELAY of ring `c` has passed. -/
  | irqDelayExpiry (c : CtxId) (t : Nat)
  /-- HOST_READ_TIMEOUT: a read of host memory has had no answer for 2^RD_TIMEOUT ms. -/
  | hostReadTimeout (r : HostRead)
  /-- PCIE_LINK_LOSS: the link has been down without PERST# for `ns`. -/
  | pcieLinkLoss (ns : Nat)
  /-- PERST_DEASSERT: PERST# is deasserted; the link trains to this width and speed. -/
  | perstDeassert (width speed : Nat)
  /-- FUNCTION_LEVEL_RESET: a Function Level Reset, or (`hot`) a hot reset or link disable. -/
  | functionLevelReset (hot : Bool)
  /-- RING_ENABLE: the host writes HUB_RING_CFG_c with ENABLE 1. -/
  | ringEnable (c : CtxId) (v : Word)
  /-- RING_DISABLE: the host writes HUB_RING_CFG_c with ENABLE 0. -/
  | ringDisable (c : CtxId) (v : Word)
  /-- EVQ_ENABLE: the host writes HUB_EVQ_CFG. -/
  | evqEnable (v : Word)
  /-- CTX_OPEN: the host writes 1 to HUB_CTX_CMD_c.OPEN. -/
  | ctxOpen (c : CtxId)
  /-- CTX_CLOSE: the host writes 1 to HUB_CTX_CMD_c.CLOSE. -/
  | ctxClose (c : CtxId)
  /-- CTX_TEARDOWN: the host writes 1 to HUB_CTX_CMD_c.TEARDOWN. -/
  | ctxTeardown (c : CtxId)
  /-- TEARDOWN_DONE: every write and host read of `c` is acknowledged. -/
  | teardownDone (c : CtxId)
  /-- GROUP_END: position `p` ends its group after `ns` of occupancy, its writes acknowledged. -/
  | groupEnd (p : PosId) (ns : Nat)
  /-- BALLAST_END: the ballast burst of position `p` ends. -/
  | ballastEnd (p : PosId)
  /-- SPILL_DELAY_EXPIRY: at tick `t` a ready group has waited SPILL_US. -/
  | spillDelayExpiry (t : Nat)
  /-- CONTROL_CORE_HEARTBEAT_MISS: the control core in position `k` misses its heartbeat. -/
  | controlCoreHeartbeatMiss (k : Fin 4)
  /-- CONTROL_CORE_ERROR: a parity or uncorrectable store error in the control core in position `k`. -/
  | controlCoreError (k : Fin 4)
  /-- PAGE_WALK_DONE: a walk for an access of context `c` at `va` ends at the hub (`unit` 0) or at BANK_(unit - 1). -/
  | pageWalkDone (unit : Fin 5) (c : CtxId) (va : Nat)
  /-- ATP_ROOT_WRITE: ATP_ROOT_HI_c (`hi`) or ATP_ROOT_LO_c is written. -/
  | atpRootWrite (c : CtxId) (hi : Bool) (v : Word) (who : Reader)
  /-- MEMORY_CE: a corrected error in the sector that holds physical address `pa`, in the row that defect-map location `loc` and row
  number `row` name. -/
  | memoryCe (pa loc row : Nat)
  /-- MEMORY_UE: an uncorrectable error in the sector that holds `pa`, met by a read for context and descriptor `reader`, by a partial
  write, or by no context's work (none). -/
  | memoryUe (pa loc row : Nat) (reader : Option (CtxId × Nat))
  /-- INGEST_LANE_UP: `lane` has received 64 consecutive valid sync headers. -/
  | ingestLaneUp (lane : Fin 4)
  /-- ALIGNMENT_MARKER_RX: an alignment marker arrives on `lane`. -/
  | alignmentMarkerRx (lane : Fin 4)
  /-- INGEST_LANE_LOST: `lane` loses its 64b/66b lock; `got` is what has arrived of the payload of the frame being received. -/
  | ingestLaneLost (lane : Fin 4) (got : List Byte)
  /-- INGEST_CANDIDATE: the framer examines the boundary at stream position `pos`; `hdr` is the 36 bytes from there. -/
  | ingestCandidate (pos : Nat) (hdr : List Byte)
  /-- INGEST_VERIFY_HEADER: a verifier's expected position `pos` is reached with these 36 bytes, the first of which arrived `age` ticks ago. -/
  | ingestVerifyHeader (pos : Nat) (hdr : List Byte) (age : Nat)
  /-- INGEST_LOCK_HEADER: in LOCK the expected position is reached with these 36 bytes, the first of which arrived `age` ticks ago. -/
  | ingestLockHeader (hdr : List Byte) (age : Nat)
  /-- INGEST_FRAME_END: the payload of the frame being received has ended, and its PAY_CRC was `crc`. -/
  | ingestFrameEnd (payload : List Byte) (crc : BitVec 32)
  /-- INGEST_PUBLISH: the writes of the oldest received frame of `stream` are all acknowledged. -/
  | ingestPublish (stream : Fin 16)
  /-- TABLE_SPLIT: the control core in position `k` takes a handed-over table and splits its rows. -/
  | tableSplit (k : Fin 4)
  /-- COMBINE_READ_RETURN: the gather reads for a slot return, issued under this slot epoch. -/
  | combineReadReturn (slot : Fin 512) (epoch : Nat)
  /-- EVENING_LOOP: at the Evening Minute, bias set `k` is adjusted. -/
  | eveningLoop (k : Fin 16)
  /-- RTE_EVE_PARAM_WRITE: the host writes RTE_EVE_RATE_k, or with `limit` RTE_EVE_LIMIT_k. -/
  | rteEveParamWrite (k : Fin 16) (limit : Bool) (v : Word)
  /-- ROUTE_SELF_TEST: the Routing Engine's self-test ends. -/
  | routeSelfTest (ok : Bool)
  /-- BIAS_TABLE_UE: an error in bias set `k`, corrected or not. -/
  | biasTableUe (k : Fin 16) (corrected : Bool)
  /-- ENGINE_COMMAND_RX: the command issued to position `p` arrives. -/
  | engineCommandRx (p : PosId)
  /-- ENGINE_ERROR: an error in engine position `p`, corrected or not. -/
  | engineError (p : Fin 16) (corrected : Bool)
  /-- ENGINE_RESULT_BAD: the output that position `p`, or with `sfu` its Special Function Unit, has already written fails its check. -/
  | engineResultBad (p : PosId) (sfu : Bool)
  /-- ENGINE_WATCHDOG: at tick `t` the group on position `p` exceeds its watchdog. -/
  | engineWatchdog (p : Fin 16) (t : Nat)
  /-- SFU_ERROR: an error in the Special Function Unit of BANK_b, corrected or not, while it serves a tile of an engine position or an
  SFU_PASS group (none). -/
  | sfuError (b : BankId) (corrected : Bool) (tile : Option (Fin 4))
  /-- SFU_SELF_TEST: the self-test of the unit of BANK_b ends. -/
  | sfuSelfTest (b : BankId) (ok : Bool)
  /-- HANDOFF_OFFER_RX: an OFFER arrives from `from_`. -/
  | handoffOfferRx (from_ : Peer) (channel : Fin 256) (seq n d wire : Nat) (mask : Bool)
  /-- HANDOFF_GRANT_RX: a GRANT arrives with handle, grant epoch and credits; or (`refused`) the answer that the OFFER does not fit. -/
  | handoffGrantRx (from_ : Peer) (channel : Fin 256) (seq handle epoch credits : Nat) (refused : Bool)
  /-- HANDOFF_BUSY_RX: a BUSY arrives. -/
  | handoffBusyRx (from_ : Peer) (channel : Fin 256) (seq : Nat)
  /-- HANDOFF_OFFER_RETRY: at tick `t` RETRY_US have passed since a BUSY to the SEND of descriptor `idx` of `c`. -/
  | handoffOfferRetry (c : CtxId) (idx t : Nat)
  /-- HANDOFF_MASK_RX: a MASK arrives with its CRC-32C. -/
  | handoffMaskRx (from_ : Peer) (handle : Fin 64) (epoch : Nat) (data : List Byte) (crc : BitVec 32)
  /-- HANDOFF_CHUNK_RX: a CHUNK arrives with its CRC-32C. -/
  | handoffChunkRx (from_ : Peer) (handle : Fin 64) (epoch chunk : Nat) (data : List Byte) (crc : BitVec 32)
  /-- HANDOFF_CHUNK_WRITE_DONE: the writes of `chunk` of transfer `handle` are acknowledged. -/
  | handoffChunkWriteDone (handle : Fin 64) (chunk : Nat)
  /-- HANDOFF_ACK_RX: the ACK of `chunk` arrives with the credits it returns. -/
  | handoffAckRx (from_ : Peer) (handle : Fin 64) (chunk credits : Nat)
  /-- HANDOFF_NACK_RX: the NACK of `chunk`, or of the mask (none), arrives. -/
  | handoffNackRx (from_ : Peer) (handle : Fin 64) (chunk : Option Nat)
  /-- HANDOFF_STALE_RX: a STALE arrives with the current grant epoch. -/
  | handoffStaleRx (from_ : Peer) (handle : Fin 64) (epoch : Nat)
  /-- RECV_LEASE_EXPIRY: no message of transfer `handle` has come for LEASE_MIN Minutes. -/
  | recvLeaseExpiry (handle : Fin 64)
  /-- REORDER_SLOT_UE: an error in row `row` (256 bytes) of slot `slot` of the Reorder Buffer, corrected or not. -/
  | reorderSlotUe (slot : Fin 512) (row : Fin 64) (corrected : Bool)
  /-- SLOT_WATCHDOG: at tick `t` slot `slot` has been held longer than SLOT_WDOG_US. -/
  | slotWatchdog (slot : Fin 512) (t : Nat)
  /-- LINK_RECORDS_RX: the peer's training record arrives on port `p`. -/
  | linkRecordsRx (p : PortId) (r : TrainRecord)
  /-- LINK_TRAIN_DONE: lane training ends on port `p` with these good lanes (bit per lane) and the eye margin of each lane 0 to 7 in percent
  of nominal (Table 16.4). -/
  | linkTrainDone (p : PortId) (good : Nat) (margins : List Nat)
  /-- LINK_CONFIRM_DONE: the CONFIRM exchange of port `p` ends; the peer gave this credit for each class and dateline channel (two channels a class)
  and this replay window. -/
  | linkConfirmDone (p : PortId) (credits : List Nat) (window : Nat)
  /-- FLIT_RX: 256 bytes arrive on port `p`; `retrain`: a CONTROL flit that requests a retrain. -/
  | flitRx (p : PortId) (flit : List Byte) (retrain : Bool)
  /-- REPLAY_STALL: at tick `t` the replay buffer of port `p` has been full for 100 us. -/
  | replayStall (p : PortId) (t : Nat)
  /-- LINK_RETRAIN_DONE: the retrain of port `p` ends, trained on these good lanes or not, with the lanes' margins as above. -/
  | linkRetrainDone (p : PortId) (ok : Bool) (good : Nat) (margins : List Nat)
  /-- LNK_RETRAIN_CMD: the host writes 1 to LNK_CFG_p.RETRAIN. -/
  | lnkRetrainCmd (p : PortId)
  /-- LNK_ENABLE_WRITE: the host writes LNK_CFG_p. -/
  | lnkEnableWrite (p : PortId) (v : Word)
  /-- ROUTE_STALE_RX: a message of this package comes back route-stale. -/
  | routeStaleRx (m : Msg)
  /-- REMOTE_REQUEST_RX: a read or write request of `from_` with its tag arrives on port `p` (8: this package's own) for an aperture. -/
  | remoteRequestRx (p : Fin 9) (from_ : Peer) (tag : Nat) (apt : Fin 64) (write : Bool) (ra len : Nat) (data : List Byte)
  /-- REMOTE_RESPONSE_RX: the response to request `tag`: 0 done, 1 refused, 2 translation, 3 permission, 4 poisoned or lost (Table 12.8). -/
  | remoteResponseRx (tag : Nat) (outcome : Fin 5) (data : List Byte)
  /-- REMOTE_REQUEST_TIMEOUT: at tick `t` request `tag` has had no response for 2^RD_TIMEOUT ms. -/
  | remoteRequestTimeout (tag t : Nat)
  /-- INTERRUPT_RX: an INTERRUPT message for an aperture arrives on port `p` with its VALUE. -/
  | interruptRx (p : Fin 9) (from_ : Peer) (tag : Nat) (apt : Fin 64) (value : DWord)
  /-- DEBUG_REQUEST_RX: a DEBUG request arrives on port `p`. -/
  | debugRequestRx (p : PortId) (from_ : Peer) (write : Bool) (off : Nat)
  /-- PEER_LIST_RX: the part on bridge port PORT_BA (0) or PORT_BB (1) reports its peers as kind and identifier. -/
  | peerListRx (b : Fin 2) (peers : List (Nat × Nat))
  /-- DISCOVERY_PROBE_RX: a ring-length probe of package `origin` arrives on torus port `p` after `hops` hops. -/
  | discoveryProbeRx (p : TorusPort) (origin hops : Nat)
  /-- DISCOVERY_RECORD_RX: a discovery record arrives on torus port `p` at tick `t`. -/
  | discoveryRecordRx (p : TorusPort) (r : DiscRecord) (t : Nat)
  /-- DISCOVERY_ELECTION_TIMER: at tick `t` 5 ms have passed since the first torus link came UP. -/
  | discoveryElectionTimer (t : Nat)
  /-- DISCOVERY_SETTLE: at tick `t` the record has not changed for 100 us. -/
  | discoverySettle (t : Nat)
  /-- APERTURE_BIND: the host writes LNK_APT_a. -/
  | apertureBind (a : Fin 64) (v : Word)
  /-- RWIN_ENABLE: the host writes LNK_RWIN_VA_c_w. -/
  | rwinEnable (c : CtxId) (w : Fin 4) (v : Word)
  /-- JOIN_RX: a JOIN of the package at `from_` for slot `g` arrives at the lowest member. -/
  | joinRx (from_ : Nat) (g : Fin 64) (j : Join)
  /-- FORMED_RX: FORMED arrives with the epoch, or the refusal of the formation with a reason. -/
  | formedRx (g : Fin 64) (epoch reason : Nat)
  /-- FORM_LIMIT_EXPIRY: FORM_LIMIT Minutes have passed in the formation of slot `g`. -/
  | formLimitExpiry (g : Fin 64)
  /-- ANNOUNCE_RX: an ANNOUNCE of `from_` arrives at the leader. -/
  | announceRx (from_ : Nat) (g : Fin 64) (gepoch cseq : Nat) (a : Announce) (valid : Bool)
  /-- GO_RX: a GO arrives with the algorithm: RING or DTREE. -/
  | goRx (g : Fin 64) (gepoch cseq : Nat) (ring : Bool)
  /-- REFUSE_RX: a REFUSE arrives with its reason. -/
  | refuseRx (g : Fin 64) (gepoch cseq reason : Nat)
  /-- COLLECTIVE_LAUNCH: the START Minute of a TIMED collective begins. -/
  | collectiveLaunch (g : Fin 64) (cseq : Nat)
  /-- COLLECTIVE_CHUNK_RX: a chunk of the member at `from_` arrives with its CRC-32C. -/
  | collectiveChunkRx (from_ : Nat) (h : ChunkHead) (data : List Byte) (crc : BitVec 32)
  /-- COLLECTIVE_ACK_RX: the ACK or NACK of a chunk sent to `from_` arrives. -/
  | collectiveAckRx (from_ : Nat) (h : ChunkHead) (nack : Bool)
  /-- RESIDUE_MISMATCH: the slice in position `n` finds a residue error. -/
  | residueMismatch (n : Fin 8)
  /-- COLLECTIVE_LEASE_EXPIRY: the leases of a collective have seen no progress for LEASE_MIN Minutes. -/
  | collectiveLeaseExpiry (g : Fin 64) (cseq : Nat)
  /-- SUSPECT_RX: a SUSPECT of `from_` naming position `lost` arrives at the leader at tick `t`. -/
  | suspectRx (from_ : Nat) (g : Fin 64) (gepoch lost t : Nat)
  /-- SUSPECT_GATHER_EXPIRY: at tick `t` the leader has gathered SUSPECTs for 5 us. -/
  | suspectGatherExpiry (g : Fin 64) (t : Nat)
  /-- PROBE_RX: a PROBE of the leader at `from_` arrives, or (`answer`) a suspect's answer to one. -/
  | probeRx (from_ : Nat) (g : Fin 64) (gepoch : Nat) (answer : Bool)
  /-- PROBE_TIMEOUT: at tick `t` 10 us have passed since the PROBEs. -/
  | probeTimeout (g : Fin 64) (t : Nat)
  /-- REFORM_RX: a REFORM arrives with the new epoch, the positions that stay live and the highest CSEQ that received GO. -/
  | reformRx (from_ : Nat) (g : Fin 64) (epoch : Nat) (live : List Nat) (last : Option Nat)
  /-- REFORM_ACK_RX: a REFORM_ACK of `from_` arrives at the leader. -/
  | reformAckRx (from_ : Nat) (g : Fin 64) (epoch : Nat)
  /-- RESUME_RX: a RESUME arrives. -/
  | resumeRx (g : Fin 64) (epoch : Nat)
  /-- DAWN_SLOT_RX: a Dawn VALUE slot of 16 bytes arrives on torus port `p` at tick `t`. -/
  | dawnSlotRx (p : TorusPort) (slot : List Byte) (t : Nat)
  /-- DAWN_ACK_RX: a Dawn ACK slot arrives on torus port `p`. -/
  | dawnAckRx (p : TorusPort) (slot : List Byte)
  /-- DAWN_RESEND_TIMER: at tick `t` VALUE slots sent on `p` have had no ACK for 300 ns. -/
  | dawnResendTimer (p : TorusPort) (t : Nat)
  /-- SSTAT_FRAME_RX: eight bytes arrive on SSTAT at tick `t`. -/
  | sstatFrameRx (frame : List Byte) (t : Nat)
  /-- SSTAT_LOSS: at tick `t` no valid frame has come for 1 ms. -/
  | sstatLoss (t : Nat)
  /-- RAIL_SAG: rail `m` has stood at `mv` of its nominal `nominal` millivolts for 1 us; whether its monitor's reading is `plausible` (R443). -/
  | railSag (m : Fin 10) (nominal mv : Nat) (plausible : Bool)
  /-- HOUR_ACCOUNTING: a local Hour starts; the monitors measured `m` uJ over the Hour just ended. -/
  | hourAccounting (m : Nat)
  /-- LOAD_STEP_ARM: LDG_STEP_VAL_i is written. -/
  | loadStepArm (i : Fin 4) (v : Word) (who : Reader)
  /-- LOAD_STEP: the armed entry `i` reaches its Minute. -/
  | loadStep (i : Fin 4)
  /-- THERMAL_TRIP: sensor A, or B (`b`), of die `d` reads `c` degrees. -/
  | thermalTrip (d : Fin 5) (b : Bool) (c : Nat)
  /-- NIGHT_EXIT_DONE: the Night exit bring-up ends; `banks` holds what each bank die's gave. -/
  | nightExitDone (banks : List BankUp)
  /-- LEASE_EXPIRY: the resource (0x0001 or 0x0100 + s) reaches its expiry. -/
  | leaseExpiry (res : Nat)
  /-- RECONCILE: FLT_RECONCILE is written. -/
  | reconcile (v : Word)
  /-- RECORD_STORE_UE: an uncorrectable error in slot `i` of the fault record store. -/
  | recordStoreUe (i : Fin 128)
  /-- HUB_STATE_UE: an uncorrectable error in a Switch buffer or route table (0), the lease table (1), the epoch store (2), the
  sequence lock (3), the Power Ledger's state (4; Table 14.5), or the ingest receive buffer (5; Table 7.7). -/
  | hubStateUe (where_ : Fin 6)
  /-- PACKAGE_FAULT: a package-class fault detected with this SOURCE, CODE and UNIT. -/
  | packageFault (source code unit : Nat)
  /-- AGING_MONITOR_SAMPLE: the hourly delay monitor of a physical unit (`kind` 0 engine, 1 core, 2 slice; `unit` its number, for an
  engine 5b + e) reads a period `value` percent above its baseline; or (`kind` 3) lane 8p + k of a port in a PAM4 mode counted `value`
  corrected symbols in the Hour. -/
  | agingMonitorSample (kind : Fin 4) (unit value : Nat)
  /-- REPAIR_STEP_DONE: the repair step under way ends; `ok`: its self-test or repair passed. -/
  | repairStepDone (ok : Bool)
  /-- REPAIR_STEP_TIMEOUT: at tick `t` the repair step under way has passed its time limit. -/
  | repairStepTimeout (t : Nat)
  /-- DMAP_ENTRY_READ: HUB_DMAP_ENTRY_0 is read. -/
  | dmapEntryRead (who : Reader)
  /-- POWER_ON: VDD_AON is within tolerance with PKG_RST_N high. -/
  | powerOn (straps : Nat)
  /-- PKG_RST_N_ASSERT: PKG_RST_N is held low for `ns`. -/
  | pkgRstNAssert (ns : Nat)
  /-- PKG_RST_N_RELEASE: PKG_RST_N rises; the straps show MGT_ADDR_0 in bit 0, MGT_ADDR_1 in bit 1, SSTAT_TERM in bit 2 and
  TEST_MODE in bit 3. -/
  | pkgRstNRelease (straps : Nat)
  /-- SUPPLY_BROWNOUT: supply `rail` is more than 10% low for 10 us: 0 VDD_AON, 1 VDD_HUB, 2 VIO_SER, 3 VAUX, 4 + n VDD_BANK_n, 8 + n VMEM_n,
  12 + n VMEMQ_n, 16 + n VPP_n (Table 19.1). -/
  | supplyBrownout (rail : Fin 20)
  /-- WARM_RESET: the host writes HUB_RESET_CMD. -/
  | warmReset (v : Word)
  /-- WARM_RESET_DONE: a warm reset ends; `banks` holds what each bank die's bring-up gave, and `badCores` and `badSlices` the control
  cores and reduction slices that failed their self-test. -/
  | warmResetDone (banks : List BankUp) (badCores badSlices : List Nat)
  /-- RESET_TIMEOUT: at tick `t` a warm or host reset has passed its limit. -/
  | resetTimeout (t : Nat)
  /-- MGT_GET_ID: command code 0x01, or one that Table 18.1 does not list. -/
  | mgtGetId (code : Byte) (r : MgtReq)
  /-- MGT_GET_STATE: command 0x02. -/
  | mgtGetState (r : MgtReq)
  /-- MGT_READ_REG: command 0x03. -/
  | mgtReadReg (r : MgtReq)
  /-- MGT_WRITE_REG: command 0x04. -/
  | mgtWriteReg (r : MgtReq)
  /-- MGT_TELEMETRY: command 0x10. -/
  | mgtTelemetry (r : MgtReq)
  /-- MGT_GET_VIEW: command 0x11. -/
  | mgtGetView (r : MgtReq)
  /-- MGT_SET_MGMT_VIEW: command 0x12. -/
  | mgtSetMgmtView (r : MgtReq)
  /-- MGT_RECONCILE: command 0x13. -/
  | mgtReconcile (r : MgtReq)
  /-- MGT_SEQ_ABORT: command 0x14. -/
  | mgtSeqAbort (r : MgtReq)
  /-- MGT_POWER_REQ: command 0x20 with request 1 to 4 (or none of Table 18.1). -/
  | mgtPowerReq (r : MgtReq)
  /-- MGT_MIDNIGHT_EXIT: command 0x20 with request 5. -/
  | mgtMidnightExit (r : MgtReq)
  /-- MGT_WARM_RESET: command 0x21. -/
  | mgtWarmReset (r : MgtReq)
  /-- MGT_COLD_START: command 0x22, its STOP on tick `t`. -/
  | mgtColdStart (r : MgtReq) (t : Nat)
  /-- COLD_START_DELAY: the scheduled cold start is due on tick `t`. -/
  | coldStartDelay (t : Nat)
  /-- MGT_READ_RECORD: command 0x30. -/
  | mgtReadRecord (r : MgtReq)
  /-- MGT_READ_DMAP: command 0x31. -/
  | mgtReadDmap (r : MgtReq)
  /-- MGT_UNPIN: command 0x32. -/
  | mgtUnpin (r : MgtReq)
  /-- MGT_ALERT_STATUS: command 0x40. -/
  | mgtAlertStatus (r : MgtReq)
  /-- MGT_ALERT_ACK: command 0x41. -/
  | mgtAlertAck (r : MgtReq)
  /-- MGT_READ_RESPONSE: a Block Read with code 0xFF, its STOP on tick `t`. -/
  | mgtReadResponse (t : Nat)
  /-- MGT_BUS_TIMEOUT: SCL is held low for 25 ms; or (`ue`) an uncorrectable error in the port's buffers (Table 18.5). -/
  | mgtBusTimeout (ue : Bool)
  /-- JTAG_EXTEST: code 0x00 is loaded, and `bits` are shifted into the boundary register. -/
  | jtagExtest (bits : Nat)
  /-- JTAG_SAMPLE_PRELOAD: code 0x02 is loaded; the boundary register captures `pins`, which are shifted out as `bits` are shifted in. -/
  | jtagSamplePreload (pins bits : Nat)
  /-- JTAG_BYPASS: code `code` is loaded, 0xFF or one that Table 19.8 does not list. -/
  | jtagBypass (code : Nat)
  /-- HUB_ERR_CLEAR: 1 is written to HUB_ERR.LOCKED_WRITE. -/
  | hubErrClear (who : Reader)
  /-- BAR0_ILLEGAL_ACCESS: a host read or write of `len` bytes at `off` with the bytes written. -/
  | bar0IllegalAccess (write : Bool) (off len : Nat) (data : List Byte)
  /-- REGISTER_WRITE: a 4-byte write to a register. -/
  | registerWrite (off : Nat) (v : Word) (who : Reader)
  /-- TEMPERATURE_SAMPLE: the sensors of die `d` read `a` and `b`. -/
  | temperatureSample (d : Fin 5) (a b : Nat)
  /-- RAIL_SAG_END: rail `m` is back above its margin at `mv`, or no longer severe, or its monitor's reading is not `plausible` (R443). -/
  | railSagEnd (m : Fin 10) (nominal mv : Nat) (plausible : Bool)
  /-- PCIE_LINK_RETURN: the link returns with this width and speed. -/
  | pcieLinkReturn (width speed : Nat)
  /-- HBM_TEMPERATURE_REPORT: stack `u` reports `c` degrees through its temperature output. -/
  | hbmTemperatureReport (u : Fin 8) (c : Nat)
  /-- DAY_BOUNDARY: the Day ends. -/
  | dayBoundary
  /-- MINUTE_STROBE: a Minute starts. -/
  | minuteStrobe
  /-- HOLDOVER_EXPIRY: DAY_HOLD_LIMIT Days in HOLDOVER have passed. -/
  | holdoverExpiry
  /-- ACQUIRE_TIMEOUT: 64 nominal periods have passed in ACQUIRE. -/
  | acquireTimeout
  /-- TIME_EXCHANGE: Minute 30 of an installation Hour. -/
  | timeExchange
  /-- LEADER_TIMEOUT: the leader has been silent or out of LOCKED for up to 2 Hours. -/
  | leaderTimeout
  /-- ADOPT_REQUEST_TIMER: 100 us have passed before adoption. -/
  | adoptRequestTimer
  /-- ADOPTION_LIMIT: 1,000 ms after DONE. -/
  | adoptionLimit
  /-- ADOPTION_FALLBACK: 50 ms after the adoption limit. -/
  | adoptionFallback
  /-- DAY_RESYNC: the host writes 1 to DAY_CMD.RESYNC. -/
  | dayResync
  /-- REFCLK_LOSS: sixteen reference edges in a row are missing. -/
  | refclkLoss
  /-- HUB_WAKE_POLL: the host writes 1 to HUB_WAKE.POLL. -/
  | hubWakePoll
  /-- PERST_ASSERT: PERST# is asserted. -/
  | perstAssert
  /-- HOST_RESET_DONE: a host reset ends. -/
  | hostResetDone
  /-- D3HOT_ENTRY: the function enters D3hot. -/
  | d3hotEntry
  /-- D0_RETURN: the function returns to D0. -/
  | d0Return
  /-- INGEST_BUFFER_FULL: the receive buffer fills when `got` payload bytes of the frame being received have come. -/
  | ingestBufferFull (got : Nat)
  /-- INGEST_RESYNC_CMD: the host writes 1 to ING_CMD.RESYNC. -/
  | ingestResyncCmd
  /-- ROUTE_STAGE: the batch at the front of the Routing Engine's queue goes through Route. -/
  | routeStage
  /-- COMBINE_STAGE: the LAYER whose turn it is enters the Combine Unit. -/
  | combineStage
  /-- COMBINE_SLOT_RELEASE: the writes of the oldest token's row segment are acknowledged. -/
  | combineSlotRelease
  /-- ROUTE_PARITY_ERROR: the Routing Engine's data path has a parity error. -/
  | routeParityError
  /-- ENGINE_MAP_HOLD_EXPIRY: one Hour has passed since an increment of ENG_MAP_EPOCH. -/
  | engineMapHoldExpiry
  /-- STALE_HOLD_EXPIRY: the oldest message in the route-stale hold has waited STALE_HOLD Minutes. -/
  | staleHoldExpiry
  /-- ROUTE_ARM: the host writes 1 to SWI_ROUTE_CMD.ARM. -/
  | routeArm
  /-- ROUTE_DEFAULT: the host writes 1 to SWI_ROUTE_CMD.DEFAULT. -/
  | routeDefault
  /-- ROUTE_CHANGEOVER: the changeover Minute begins. -/
  | routeChangeover
  /-- PREVIOUS_ROUTE_DISCARD: one Hour has passed since a changeover. -/
  | previousRouteDiscard
  /-- STAGING_RESERVED: staging room is there for the collective that has waited longest since its GO. -/
  | stagingReserved
  /-- RIDE_THROUGH_END: at a Minute strobe, RIDE_HOLD clear Minutes have passed. -/
  | rideThroughEnd
  /-- POWER_REQ_NOON: PWR_CMD.REQ is written 1. -/
  | powerReqNoon
  /-- POWER_REQ_DUSK: PWR_CMD.REQ is written 2. -/
  | powerReqDusk
  /-- POWER_REQ_NIGHT: PWR_CMD.REQ is written 3. -/
  | powerReqNight
  /-- POWER_REQ_MIDNIGHT: PWR_CMD.REQ is written 4. -/
  | powerReqMidnight
  /-- DUSK_ENTRY: the idle conditions have held for DUSK_MIN Minutes, or a pending request is met. -/
  | duskEntry
  /-- NIGHT_AUTO: NIGHT_HOURS Hours, or one Hour with a queued remap, in Dusk. -/
  | nightAuto
  /-- NIGHT_ENTRY: the work Night waits for has drained. -/
  | nightEntry
  /-- BRACKET_COMMIT: the commit of the open bracket runs: its handshakes begin, or have ended. -/
  | bracketCommit
  /-- SEQ_ABORT: the host writes 1 to FLT_CMD.SEQ_ABORT. -/
  | seqAbort
  /-- UNPIN: the host writes 1 to FLT_CMD.UNPIN. -/
  | unpin
  /-- SHADOW_STORE_UE: an uncorrectable error in the shadow store. -/
  | shadowStoreUe
  /-- REPAIR_CANCEL: HUB_REPAIR_CMD.CANCEL is written 1. -/
  | repairCancel
  /-- DMAP_FLASH_WRITE: the oldest change of the defect map reaches the flash. -/
  | dmapFlashWrite
  /-- MGT_ALERT_RESPONSE: a read at the Alert Response Address. -/
  | mgtAlertResponse
  /-- JTAG_IDCODE: code 0x01 is loaded and its register shifted out. -/
  | jtagIdcode
  /-- JTAG_CLAMP: code 0x04 is loaded. -/
  | jtagClamp
  /-- JTAG_HIGHZ: code 0x05 is loaded. -/
  | jtagHighz
  /-- DUSK_EXIT_DONE: the exit from Dusk completes. -/
  | duskExitDone
  /-- JTAG_TEST_LOGIC_RESET: TRST_N goes low, or the port passes through Test-Logic-Reset. -/
  | jtagTestLogicReset
  deriving DecidableEq, Repr

end Sys2Proof
end

