-- ==== Sys2Proof/Machine/Bits.lean ====
section
/-! DEFINITION. Machine/Bits.lean: bit fields, saturating counters, sign extension and little-endian byte order (R11). -/

namespace Sys2Proof.Machine

/-- Field [lo+len-1:lo] of a number. -/
def bitsOf (v lo len : Nat) : Nat := v / 2 ^ lo % 2 ^ len

/-- One bit of a number. -/
def bitAt (v i : Nat) : Bool := v / 2 ^ i % 2 == 1

/-- `v` with field [lo+len-1:lo] replaced by the low bits of `x`. -/
def putBits (v lo len x : Nat) : Nat := v - bitsOf v lo len * 2 ^ lo + x % 2 ^ len * 2 ^ lo

/-- Field [lo+len-1:lo] of a register. -/
def wfld (w : Word) (lo len : Nat) : Nat := bitsOf w.toNat lo len

/-- A register with one field replaced. -/
def wput (w : Word) (lo len x : Nat) : Word := BitVec.ofNat 32 (putBits w.toNat lo len x)

/-- 1 for true. -/
def b2n (b : Bool) : Nat := if b then 1 else 0

/-- Addition that holds at `top` (the counters of R13 and the chapters hold at their largest value). -/
def satAdd (top a n : Nat) : Nat := min top (a + n)

/-- A number read as a signed `w`-bit value. -/
def toSigned (w v : Nat) : Int := if v % 2 ^ w < 2 ^ (w - 1) then (v % 2 ^ w : Nat) else (v % 2 ^ w : Nat) - (2 ^ w : Nat)

/-- A signed value in `w` bits. -/
def ofSigned (w : Nat) (i : Int) : Nat := (i % (2 ^ w : Nat)).toNat

/-- The `n` bytes of `v`, least significant first (R11). -/
def leBytes : Nat → Nat → List Byte
  | 0, _ => []
  | n + 1, v => BitVec.ofNat 8 v :: leBytes n (v / 256)

/-- The number that bytes spell, least significant first (R11). -/
def leNat : List Byte → Nat
  | [] => 0
  | b :: bs => b.toNat + 256 * leNat bs

/-- Number of bits set among the low `w`. -/
def popCount : Nat → Nat → Nat
  | 0, _ => 0
  | w + 1, v => v % 2 + popCount w (v / 2)

/-- The number whose bit `i` says whether `f i` holds, for `i` below `w`. -/
def maskOf (w : Nat) (f : Nat → Bool) : Nat :=
  (List.range w).foldl (fun a i => a + (if f i then 2 ^ i else 0)) 0

/-- The least element of a list, or `d` of the empty list. -/
def minOr (d : Nat) : List Nat → Nat
  | [] => d
  | x :: xs => xs.foldl min x

/-- Round up to a multiple of `m`. -/
def alignUp (a m : Nat) : Nat := (a + m - 1) / m * m

/-- Division rounded up. -/
def ceilDiv (a b : Nat) : Nat := (a + b - 1) / b

/-- Division of integers truncated toward zero (R16). -/
def tdiv (a b : Int) : Int := Int.tdiv a b

/-! ### Cyclic redundancy checks -/

/-- One bit of a reflected CRC-32C. -/
def crc32cBit (c : Nat) : Nat := if c % 2 = 1 then (c / 2) ^^^ 0x82F63B78 else c / 2

/-- One byte of a reflected CRC-32C. -/
def crc32cByte (c : Nat) (b : Byte) : Nat :=
  crc32cBit (crc32cBit (crc32cBit (crc32cBit (crc32cBit (crc32cBit (crc32cBit (crc32cBit (c ^^^ b.toNat))))))))

/-- CRC-32C: polynomial 0x1EDC_6F41 reflected, initial value and final exclusive-or all ones (R66, R204). -/
def crc32c (bs : List Byte) : Nat := bs.foldl crc32cByte 0xFFFFFFFF ^^^ 0xFFFFFFFF

/-- One byte of a CRC whose width is `w` and whose polynomial is `poly`, most significant bit first. -/
def crcByte (w poly c : Nat) (b : Byte) : Nat :=
  (List.range 8).foldl (fun c _ => if c / 2 ^ (w - 1) % 2 = 1 then (2 * c % 2 ^ w) ^^^ poly else 2 * c % 2 ^ w) (c ^^^ (b.toNat * 2 ^ (w - 8)))

/-- CRC-16/T10-DIF (R345): polynomial 0x8BB7, initial value 0, nothing reflected. -/
def crcT10 (bs : List Byte) : Nat := bs.foldl (crcByte 16 0x8BB7) 0

/-- CRC-8 with polynomial 0x07 and initial value 0 (R399). -/
def crc8 (bs : List Byte) : Nat := bs.foldl (crcByte 8 0x07) 0

end Sys2Proof.Machine
end

