-- ==== Sys2Proof/Machine/Tab.lean ====
section
/-! DEFINITION. Machine/Tab.lean: sparse tables in one canonical form: keys strictly rise, and no entry equals what an unlisted
key reads as. Equal tables are equal data. Device memory, the register store and every numbered set of records are such
tables. -/

namespace Sys2Proof.Machine

/-- A sparse table from numbers to `α`. -/
abbrev Tab (α : Type) := List (Nat × α)

/-- What key `k` reads as; `d` says what an unlisted key reads as. -/
def tabGet {α : Type} (d : Nat → α) : Tab α → Nat → α
  | [], k => d k
  | (i, v) :: t, k => if k = i then v else tabGet d t k

/-- The table with `v` at key `k`; writing the value an unlisted key reads as removes the entry. -/
def tabSet {α : Type} [DecidableEq α] (d : Nat → α) : Tab α → Nat → α → Tab α
  | [], k, v => if v = d k then [] else [(k, v)]
  | (i, w) :: t, k, v =>
    if k < i then (if v = d k then (i, w) :: t else (k, v) :: (i, w) :: t)
    else if k = i then (if v = d k then t else (k, v) :: t)
    else (i, w) :: tabSet d t k v

/-- The canonical form: keys strictly rise and no entry equals the unlisted value. -/
def tabWf {α : Type} [DecidableEq α] (d : Nat → α) : Tab α → Bool
  | [] => true
  | [(k, v)] => decide (v ≠ d k)
  | (k, v) :: (k', v') :: t => decide (v ≠ d k) && decide (k < k') && tabWf d ((k', v') :: t)

/-- The table with every key of `ks` returned to what an unlisted key reads as. -/
def tabClear {α : Type} [DecidableEq α] (d : Nat → α) (ks : List Nat) (t : Tab α) : Tab α :=
  ks.foldl (fun t k => tabSet d t k (d k)) t

end Sys2Proof.Machine
end

