-- ==== Sys2Proof/Machine/RegMap.lean ====
section
/-! DEFINITION. Machine/RegMap.lean: the BAR 0 register map of Table 20.3 as rows: where each set of registers lies, which bits
carry each access code of Table 0.3, what it holds after a cold start and which row of Table 17.4 it follows. -/

namespace Sys2Proof.Machine

/-- A set of registers of Table 20.3. `base + i·s1 + j·s2` for `i < n1`, `j < n2`. The masks say which bits have each access code
(a bit of no mask is RO or RSV and ignores writes). `lost` is the bit of the row of Table 17.4 (`rowC`: only at cold start;
`rowS`: shows state, never stored). -/
structure RegRow where
  base : Nat
  s1 : Nat
  n1 : Nat
  s2 : Nat
  n2 : Nat
  rw : Nat
  rwl : Nat
  woc : Nat
  wo : Nat
  rc : Nat
  dflt : Nat
  lost : Nat
  deriving DecidableEq, Repr

/-- Reset code C of Table 20.3. -/
def rowC : Nat := 100

/-- Reset code S of Table 20.3, and the codes of registers that hold nothing. -/
def rowS : Nat := 101

/-- One register. -/
def reg1 (base : Nat) (rw rwl woc wo rc dflt lost : Nat) : RegRow := ⟨base, 4, 1, 4, 1, rw, rwl, woc, wo, rc, dflt, lost⟩

/-- `n` registers `s` bytes apart. -/
def regN (base s n : Nat) (rw rwl woc wo rc dflt lost : Nat) : RegRow := ⟨base, s, n, 4, 1, rw, rwl, woc, wo, rc, dflt, lost⟩

/-- `n` groups `s` bytes apart of `m` consecutive registers. -/
def regNM (base s n m : Nat) (rw rwl woc wo rc dflt lost : Nat) : RegRow := ⟨base, s, n, 4, m, rw, rwl, woc, wo, rc, dflt, lost⟩

/-- All 32 bits. -/
def allBits : Nat := 0xFFFFFFFF

/-- HUB_ registers: identity, fabric, Host Interface, scheduler, defect map, resets (Tables 20.2, 3.10, 4.12, 5.5, 16.9, 17.5). -/
def hubRegs1 : List RegRow :=
  [ reg1 0x0000 0 0 0 0 0 0x4B330002 rowS,
    reg1 0x0004 0 0 0x80000000 0 0 0 rowC,
    reg1 0x0100 0 0 0 0 0 0 rowS,
    reg1 0x0104 0 0 0xF000000 0 0 0 rowS,
    reg1 0x0108 0 0 0 0 0 0 rowS,
    regN 0x0110 0x10 4 0 0 0 0 0xFF00 0 rowS,
    regN 0x0114 0x10 4 0xFF0F 0 0 0 0 0x4004 rowC,
    regN 0x0118 0x10 4 0 0 0 0 allBits 0 29,
    regN 0x011C 0x10 4 0 0 0 0 0xFFFF 0 29,
    regN 0x0150 4 4 0 0 0 3 0 0 rowS,
    reg1 0x0200 1 0x70 0 0 0 0x40 3,
    reg1 0x0204 0xFFFFF 0 0 0 0 2000 3,
    reg1 0x0208 0 0 0 0 0 0 rowS,
    reg1 0x020C 0 0 0 1 0 0 rowS ]

/-- HUB_ registers, second part. -/
def hubRegs2 : List RegRow :=
  [ regN 0x0210 8 2 0 0xFFFFFFC0 0 0 0 0 3,
    regN 0x0214 8 2 0 allBits 0 0 0 0 3,
    reg1 0x0220 0 0xFFFFFF00 0 0 0 0 3,
    reg1 0x0224 0 allBits 0 0 0 0 3,
    reg1 0x0228 0 0xFFFFF000 0 0 0 0 3,
    reg1 0x022C 0 allBits 0 0 0 0 3,
    reg1 0x0230 0x80000000 0xF 0 0 0 4 3,
    reg1 0x0234 0 0 0 0 0xFF00 0 3,
    reg1 0x0238 0 0 0 0 0xFFFF 0 29,
    reg1 0x0300 0x3FFFFFF 0 0 0 0 (100 * 65536 + 200) 7,
    reg1 0x0304 0 0 0x80000000 0 0xFFFF 0 rowS,
    reg1 0x0400 0 0 0 0 0 0 rowS,
    reg1 0x0404 0xFFF 0 0 0 0 0 rowC,
    regN 0x0408 4 4 0 0 0 0 0 0 rowS,
    reg1 0x0418 0x9FFFFFFF 0 0 0 0 0x851E1410 37,
    reg1 0x041C 0 0 0 1 0 0 rowS,
    reg1 0x0420 0 0 0x3F 0 0 0 37 ]

/-- HUB_ registers, third part: resets, rings and contexts. -/
def hubRegs3 : List RegRow :=
  [ reg1 0x0500 0 0 0 0 0 0 rowS,
    reg1 0x0504 0 0 0 0 0 0 rowS,
    reg1 0x0508 0 0 0 0xFFFF 0 0 rowS,
    reg1 0x0510 0 0 allBits 0 0 allBits rowC,
    reg1 0x0514 0 0 0x7F 0 0 0x7F rowC,
    regN 0x1000 0x20 64 0 0xFFFFF000 0 0 0 0 4,
    regN 0x1004 0x20 64 0 allBits 0 0 0 0 4,
    regN 0x1008 0x20 64 0 0xFFFFF000 0 0 0 0 4,
    regN 0x100C 0x20 64 0 allBits 0 0 0 0 4,
    regN 0x1010 0x20 64 0x80000000 0x0FFFFF3F 0 0 0 0x04400100 4,
    regN 0x1014 0x20 64 0 0 0x10 0 0 0 rowS,
    regN 0x1018 0x20 64 0 0 0 0 0 0 rowS,
    regN 0x101C 0x20 64 0 0x800FFFFF 0 0 0 0 4,
    regN 0x2000 0x40 64 0x1F03FF 0 0 0 0 0x100110 7,
    regN 0x2004 0x40 64 0 0 0 7 0 0 rowS,
    regN 0x2008 0x40 64 0 0 0 0 0 0 rowS,
    regNM 0x200C 0x40 64 9 0 0 0 0 0 0 8 ]

/-- DAY_ registers (Table 2.5). -/
def dayRegs : List RegRow :=
  [ reg1 0x10000 0xF06 0 0 0 0 0x402 rowC,
    reg1 0x10004 0 0 0 0 0 0 rowS,
    regN 0x10008 4 3 0 0 0 0 0 0 rowS,
    regN 0x10014 4 3 0 0 0 0 0 0 rowS,
    reg1 0x10020 0x1F 0 0 0 0 0 rowC,
    reg1 0x10024 0xFFFF 0 0 0 0 50 rowC,
    reg1 0x10028 0 allBits 0 0 0 0 rowC,
    reg1 0x1002C 0 0xFFFF 0 0 0 0 rowC,
    reg1 0x10030 0 0 0 1 0 0 rowS,
    reg1 0x10034 0 0 0x7FF 0 0 0 rowC,
    reg1 0x10038 0 0 0 0 0xFFFF 0 rowC,
    reg1 0x1003C 0 0 0 0 0xFFFF 0 rowC ]

/-- LDG_ and PWR_ registers (Tables 14.7, 14.8, 14.3). -/
def powerRegs : List RegRow :=
  [ reg1 0x20000 0xF8FF03FF 0 0 0 0 0xC0320064 32,
    reg1 0x20004 0xFFFFFF 0 0 0 0 850000 32,
    reg1 0x20008 0x7FF 0 0 0 0 0 32,
    reg1 0x2000C 0xFFFF 0 0 0 0 0x645C 32,
    reg1 0x20010 0x7FF 0 0 0 0 150 32,
    regN 0x20014 4 6 0 0 0 0 0 0 33,
    reg1 0x2002C 0 0 0xF 0 0 0 32,
    regN 0x20040 4 24 0x7F 0 0 0 0 100 32,
    regN 0x200C0 0x10 4 0 allBits 0 0 0 0 32,
    regN 0x200C4 0x10 4 0 0x87FFFFFF 0 0 0 0 32,
    regN 0x200C8 0x10 4 0x80000000 0xFFFFFF 0 0 0 0 32,
    reg1 0x20100 0xFFFF 0 0 0 0 150 32,
    reg1 0x20104 0xFFFF 0 0 0 0 300 32,
    reg1 0x20108 0xFFFF 0 0 0 0 600 32,
    reg1 0x2010C 0xFFFF 0 0 0 0 50 32,
    reg1 0x20110 0xFFFF 0 0 0 0 3000 32,
    reg1 0x20114 0xFFFF 0 0 0 0 500 32,
    reg1 0x20118 0xFFFF 0 0 0 0 1000 32,
    reg1 0x2011C 0xFFFF 0 0 0 0 1500 32,
    regN 0x20120 4 2 0xFFFF 0 0 0 0 2000 32,
    regN 0x20180 4 7 0 0 0 0 allBits 0 29,
    reg1 0xD0000 0xFFFFFF03 0 0 0 0 0x3C001E01 32,
    reg1 0xD0004 0 0 0 7 0 0 rowS,
    reg1 0xD0008 0 0 0 0 0 0 rowS,
    reg1 0xD000C 0xFF 0 0 0 0 30 32,
    reg1 0xD0010 0 0 0 0 0 0 rowS,
    reg1 0xD0014 0 0 0xFF 0 0 0 32,
    reg1 0xD0018 0 0 0 0 0 0 rowS,
    regN 0xD0040 4 10 0 0 0 0 0xFFFF0000 0 rowS,
    regN 0xD0080 4 5 0 0 0 0 0xFF0000 0 rowS ]

/-- RTE_ and CMB_ registers (Tables 8.12, 8.13, 11.5, 11.6). -/
def routeRegs : List RegRow :=
  [ reg1 0x30000 0 0 0 0 0 0 rowS,
    reg1 0x30004 0x87FF00FF 0 0 0 0 0x04380032 17,
    reg1 0x30008 0 0 0xF 0 0 0 17,
    regN 0x30040 4 9 0 0 0 0 allBits 0 17,
    regN 0x30100 0x10 16 0x800001FF 0 0 0 0 0x100 17,
    regN 0x30104 0x10 16 0 0 0 0 0 0 15,
    regN 0x30108 0x10 16 allBits 0 0 0 0 0x3A83126F 17,
    regN 0x3010C 0x10 16 allBits 0 0 0 0 0x40000000 17,
    regN 0x34000 4 4096 0 0 0 0 0 0 15,
    regN 0x38000 4 4096 0 0 0 0 0 0 16,
    reg1 0x40000 0xFF00FF06 0xFF0000 0 0 0 0x3C201002 23,
    reg1 0x40004 allBits 0 0 0 0 (50 * 65536 + 500) 23,
    reg1 0x40008 0 0 0 0 0 0 rowS,
    reg1 0x4000C 0 0 0x1F 0 0 0 23,
    regN 0x40040 4 11 0 0 0 0 allBits 0 24 ]

/-- SWI_ and LNK_ registers (Tables 12.12, 12.13). -/
def linkRegs : List RegRow :=
  [ reg1 0x50000 0xFF 0 0 0 0 16 27,
    reg1 0x50004 0 0 0 0 0 0 28,
    reg1 0x50008 0 allBits 0 0 0 0 28,
    reg1 0x50010 0 allBits 0 0 0 0 28,
    reg1 0x50014 0 0x87FFFFFF 0 0 0 0 28,
    reg1 0x50018 0 0 0 3 0 0 rowS,
    reg1 0x5001C 0 0 3 0 0 0 27,
    reg1 0x50020 0 0 0 0 0 0 rowS,
    regN 0x50400 4 128 0xF 0 0 0 0 0xF 28,
    regN 0x50800 4 128 0 0 0 0 0 0xF 28,
    reg1 0x60000 0 0 0 0 0 0 rowS,
    reg1 0x60004 0 0 0x3FF 0 0 0 27,
    regN 0x60008 4 2 0 0 0 0 0 0 rowS,
    regN 0x60100 0x40 8 0xA0FFF00F 0 0 0x40000000 0 0x80100008 27,
    regN 0x60104 0x40 8 0 0 0 0 0 0 rowS,
    regN 0x60108 0x40 8 0 0 0 0 0 0 rowS,
    regNM 0x60120 0x40 8 8 0 0 0 0 allBits 0 29,
    regN 0x60400 4 64 0x803FC03F 0 0 0 0 0 26,
    regN 0x61000 0x10 256 0 0xF7FFFFFF 0 0 0 0 26,
    regN 0x61004 0x10 256 0 0x7FFFFFF 0 0 0 0 26,
    regN 0x61008 0x10 256 0 0xFFFFF 0 0 0 0 26,
    regN 0x6100C 0x10 256 0 0x33F7F00 0 0 0 0 26,
    regN 0x62000 4 256 0 0xFFFF 0 0 0 0 26,
    regN 0x63000 4 512 0 0 0 0 0 0 rowS ]

/-- COL_, ING_ and ATP_ registers (Tables 13.11, 13.12, 7.7, 7.10, 6.10, 6.11). -/
def colRegs : List RegRow :=
  [ reg1 0x70000 0xFFFFFF1F 0 0 0 0 0x48200810 31,
    reg1 0x70004 0 0 0 0 0 0 rowS,
    reg1 0x70008 0 0 0x1F 0 0 0 31,
    regN 0x7000C 4 2 0 0 0 0 0 0 rowS,
    regN 0x70040 4 10 0 0 0 0 allBits 0 29,
    regNM 0x70100 0x20 64 8 0 0 0 0 0 0 rowS,
    reg1 0x80000 0x80000000 0x103 0 0 0 0x102 12,
    reg1 0x80004 0 0 0 0 0 0 rowS,
    reg1 0x80008 allBits 0 0 0 0 0x10001000 12,
    reg1 0x8000C 0x7F007FFF 0 0 0 0 0x10001000 12,
    reg1 0x80010 0 0 0 1 0 0 rowS,
    reg1 0x80014 0 0 0x7F 0 0 0 12,
    regN 0x80040 4 13 0 0 0 0 allBits 0 14,
    regN 0x80080 4 16 0 0 0 0 0 0 rowS,
    reg1 0x90000 0 0x1F 0 0 0 16 10,
    regN 0x90008 4 2 0 0 allBits 0 0 0 11,
    reg1 0x90010 0 0 0 0 0 0 11,
    reg1 0x90014 0 0 0 0 0 0 11,
    reg1 0x90018 0 0 0x80000000 0 0 0 11,
    reg1 0x9001C 0 0 0 0 allBits 0 11,
    regN 0x90020 4 13 0 0 0 0 allBits 0 11,
    regN 0x90060 4 13 0 0 0 0 allBits 0 11,
    regN 0x90100 8 64 0 0xFFFFF000 0 0 0 0 9,
    regN 0x90104 8 64 0 0x800000FF 0 0 0 0 9 ]

/-- ENG_, SFU_, MGT_ and FLT_ registers (Tables 9.6, 9.7, 10.7, 10.8, 18.6, 15.10, 15.11) and the MSI-X table (R577). -/
def unitRegs : List RegRow :=
  [ reg1 0xA0000 0xFF0F 0 0 0 0 0x1003 18,
    reg1 0xA0004 0 0 0 0 0 0 19,
    reg1 0xA0008 0 0 0x1F 0 0 0 18,
    regN 0xA0010 4 4 0 0 0 0 0 0 rowS,
    regNM 0xA0100 0x40 16 5 0 0 0 0 0 0 20,
    reg1 0xB0000 1 0 0 0 0 1 21,
    reg1 0xB0004 0 0 0 0 0 0 rowS,
    reg1 0xB0008 0 0 7 0 0 0 21,
    regNM 0xB0100 0x20 4 8 0 0 0 0 allBits 0 22,
    reg1 0xC0000 0x1FFFF 0 0 0 0 0x1FFFF rowC,
    reg1 0xC0004 0 0 0 0 0 0 rowS,
    reg1 0xC0008 0 0 0x1FFFF 0 0 1 rowC,
    regN 0xC0040 4 6 0 0 0 0 allBits 0 rowC,
    reg1 0xE0000 allBits 0 0 0 0 (1440 * 65536 + 14400) 36,
    reg1 0xE0004 0 0 0 0 0 0 rowS,
    reg1 0xE0008 0 0 0x7F 0 0 0 rowC,
    reg1 0xE000C 0 0 0 3 0 0 rowS,
    reg1 0xE0010 0 0 0 0xC000003F 0 0 rowS,
    regN 0xE0014 4 2 0 0 0 0 0 0 rowS,
    regN 0xE0040 4 10 0 0 0 0 allBits 0 rowC,
    regNM 0xE0100 8 16 2 0 0 0 0 0 0 rowS,
    regN 0xE0400 4 64 0 0 0 0 0 0 rowS,
    regNM 0xE1000 0x20 128 8 0 0 0 0 0 0 rowS,
    regNM 0xF0000 0x10 65 3 allBits 0 0 0 0 0 3,
    regN 0xF000C 0x10 65 1 0 0 0 0 1 3,
    regN 0xF1000 4 4 0 0 0 0 0 0 3 ]

/-- Every register of Table 20.3. -/
def regMap : List RegRow :=
  hubRegs1 ++ hubRegs2 ++ hubRegs3 ++ dayRegs ++ powerRegs ++ routeRegs ++ linkRegs ++ colRegs ++ unitRegs

/-- Whether a row holds the register at an offset. -/
def RegRow.has (r : RegRow) (off : Nat) : Bool :=
  decide (r.base ≤ off) &&
    (let d := off - r.base
     if r.n2 = 1 then d % r.s1 == 0 && decide (d / r.s1 < r.n1)
     else decide (d / r.s1 < r.n1) && d % r.s1 % r.s2 == 0 && decide (d % r.s1 / r.s2 < r.n2))

/-- The row of the register at an offset; none for a reserved offset (R566). -/
def regRow (off : Nat) : Option RegRow := regMap.find? (fun r => r.has off)

/-- What the register at an offset holds after a cold start; zero at a reserved offset. -/
def regDefault (off : Nat) : Word :=
  match regRow off with
  | some r => BitVec.ofNat 32 r.dflt
  | none => 0

/-- The event codes that Table 20.3 ties to bit `k` of the reset-lost mask: which stored registers follow row `k`. -/
def inLostRow (k off : Nat) : Bool :=
  match regRow off with
  | some r => r.lost == k
  | none => false

/-- The `_HI` partner (and, for DAY_NOW_LO, DAY_NOW_NS too, R45) that a read of an `_LO` register latches (R12). -/
def hiPartners (off : Nat) : List Nat :=
  if off = 0x10008 then [0x1000C, 0x10010]
  else if off = 0x210 ∨ off = 0x218 ∨ off = 0x220 ∨ off = 0x228 ∨ off = 0x510 then [off + 4]
  else if off = 0x10028 ∨ off = 0x50010 ∨ off = 0x60008 ∨ off = 0x90008 ∨ off = 0x90010 then [off + 4]
  else if 0x1000 ≤ off ∧ off < 0x1800 ∧ (off % 0x20 = 0 ∨ off % 0x20 = 8) then [off + 4]
  else if 0x2000 ≤ off ∧ off < 0x3000 ∧ (off % 0x40 = 0xC ∨ off % 0x40 = 0x14 ∨ off % 0x40 = 0x1C) then [off + 4]
  else if 0x200C0 ≤ off ∧ off < 0x20100 ∧ off % 0x10 = 0 then [off + 4]
  else if 0x90100 ≤ off ∧ off < 0x90300 ∧ off % 8 = 0 then [off + 4]
  else if 0xA0100 ≤ off ∧ off < 0xA0500 ∧ off % 0x40 = 0 then [off + 4]
  else []

/-- The registers that a read of `off` latches: the `_HI` partner (R12), DAY_NOW_NS (R45), the rest of a defect-map entry (R501). -/
def partners (off : Nat) : List Nat := if off = 0x408 then [0x40C, 0x410, 0x414] else hiPartners off

end Sys2Proof.Machine
end

