-- ==== Sys2Proof/Config.lean ====
section
/-! DEFINITION. Config.lean: what one part fixes (fuses) and the values the spec leaves open. Every constant here is opaque:
no proof can see a value of it, so a theorem about the model holds for each of them. -/

namespace Sys2Proof.Config

/-- Free value number `n` (assumption 2): the step that needs a value the spec leaves open applies this to the state's
counter and advances the counter. -/
opaque freeNat : Nat → Nat

/-- HUB_ID.STEPPING, a fuse (Table 20.2; R1 says 2 or later). -/
opaque stepping : BitVec 4

/-- LNK_SELF_ID, a fuse (Table 12.12). -/
opaque selfId : BitVec 64

/-- The package binding number fuse that every bank die must match (R70). -/
opaque pkgBind : BitVec 32

/-- A special function of chapter 10 is only bounded by the spec (R298) and is a function of its inputs (R299): the choice,
within the bound, for function code `f` and argument bits `x`. -/
opaque sfuChoice : Nat → Nat → Nat

/-- Whether a translation cache uses what it may hold for a page, at a count of the free values (R177 leaves it open). -/
opaque cacheHit : Nat → Nat → Bool

/-- The bytes of a CTL message between the dies, as one number: its kind and the position it carries; the format is the on-chip network's, which
the spec does not give. -/
opaque ctlMessage : Nat → Nat → Nat → Nat

/-- The bytes of a message on the CMD channel, as one number: 0 a group's command or 1 its report, and the fields R272 says it carries; the format is
the on-chip network's, which the spec does not give. -/
opaque cmdMessage : Nat → List Nat → Nat

/-- Whether a copy of the defect map is full at this number of records: R484 does not say how many a copy holds. -/
opaque flashFull : Nat → Bool

end Sys2Proof.Config
end

