-- ==== Sys2Proof/Machine/State.lean ====
section
/-! DEFINITION. Machine/State.lean: everything the spec gives the package, as plain data, and the state right after reset. The
registers of Table 20.3 that hold a written or counted value stand in the register store `regs`; registers that show state are
computed from the other fields (Machine/RegRead.lean). -/

namespace Sys2Proof.Machine

/-! ### What leaves the package -/

/-- One thing the package sent out. -/
inductive Out where
  /-- A write to host memory, with the PASID it carries and whether Relaxed Ordering is set (Table 4.1). -/
  | hostWrite (pasid : Option Nat) (relaxed : Bool) (addr : Nat) (data : List Byte)
  /-- A read request to host memory. -/
  | hostRead (pasid : Option Nat) (addr len : Nat)
  /-- An MSI-X message. -/
  | interrupt (vector addr data : Nat)
  /-- A message for this package itself, given whole to the Switch's own port 8 (R330). -/
  | link (port : Nat) (m : Msg)
  /-- A flit of 256 bytes sent out of an Eriovan port (Tables 12.5, 12.6): with it the message of this package and the number of the segment
  that it carries, since the spec lays out no bytes for a message's fields; none for a flit passed on, a CONTROL flit and an IDLE flit. -/
  | flit (port : Nat) (m : Option Msg) (seg : Nat) (bytes : List Byte)
  /-- The payload of a flit addressed to this package: port, class, segment mark, header and payload bytes. -/
  | flitDeliver (port cls seg : Nat) (raw : List Byte)
  /-- The Dawn slot of a received flit, handed to the Dawn path. -/
  | dawnDeliver (port : Nat) (slot : List Byte)
  /-- Our training record out of a port (R341, Table 12.2 steps 1 and 2). -/
  | train (port : Nat) (rec_ : List Nat)
  /-- CONFIRM out of a port (Table 12.2 step 5): the capabilities in use, the initial credits of each class and dateline channel and the
  replay window. -/
  | confirm (port caps : Nat) (credits : List Nat) (window : Nat)
  /-- A frame of 528 bytes on a Bank Bridge, to the bank die or to the hub (R66). -/
  | bridgeFrame (bank : Nat) (toBank : Bool) (frame : List Byte)
  /-- The slots of a good data frame, delivered to the die (R66): the virtual channel of each slot in order. -/
  | bridgeDeliver (bank : Nat) (toBank : Bool) (seq : Nat) (slots : List (Nat × List Byte))
  /-- The Minute strobe with the installation and the local position (R44). -/
  | strobe (day minute localDay localMinute : Nat)
  /-- The answer of a BAR 0 or register read. -/
  | readData (who : Reader) (off : Nat) (v : Word)
  /-- The bytes of a BAR 0 read from `off` (R567). -/
  | readBytes (off : Nat) (data : List Byte)
  /-- A BAR 0 read completed Unsupported Request (R567). -/
  | unsupported (off : Nat)
  /-- The block that a management Block Read returns (R521, R522). -/
  | mgtBlock (data : List Byte)
  /-- The port's address, returned at the Alert Response Address (R529). -/
  | mgtAlert (addr : Nat)
  /-- The bits that TDO shifts out of the selected data register (R558). -/
  | testData (bits : Nat)
  deriving DecidableEq, Repr

/-! ### Translation and memory errors (chapter 6) -/

/-- A cached translation (R177): its cache (0 hub, 1 to 4 the bank dies), the context and GEN it is tagged with, the 64 KiB page number
of the address that was walked, the leaf entry and the level of the leaf. -/
structure CacheLine where
  cache : Nat
  ctx : Nat
  gen : Nat
  page : Nat
  entry : Nat
  level : Nat
  deriving DecidableEq, Repr

/-- The ATP unit: the translations its caches hold, and the poisoned 32-byte sectors by sector number (R197). -/
structure AtpUnit where
  cache : List CacheLine
  poison : Tab Bool
  deriving DecidableEq, Repr

/-! ### Stream Ingest (chapter 7) -/

/-- ING_PORT_STATUS.ALIGN (Table 7.2). -/
inductive AlignState where
  | down | hunt | verify | lock
  deriving DecidableEq, Repr

/-- The binding of a stream (Table 7.3, R211, R216): `due` is the INGEST_BIND not yet completed and `since` the tick at which it completed; `first` that the next admitted frame is
FULL_FIRST; `last` the newest admitted FRAME_SEQ; `map` the pending keep-map as FOR_SEQ and the patches kept; `unbind` an
INGEST_BIND with UNBIND that waits. -/
structure Binding where
  ctx : Nat
  due : Option Nat
  since : Nat
  height : Nat
  width : Nat
  channels : Nat
  patchH : Nat
  patchW : Nat
  format : Nat
  refreshK : Nat
  replay : Bool
  keepEn : Bool
  fill : Nat
  outBase : Nat
  ctrl : Nat
  shufEpoch : Nat
  slots : Nat
  seed : Nat
  produced : Nat
  done : Nat
  first : Bool
  last : Option Nat
  map : Option (Nat × List Nat)
  unbind : Option Nat
  deriving DecidableEq, Repr

/-- The admitted frame being received: its header's fields, its arrival, the patches kept in output order and the flags [10:5] and [0] of its
record. -/
structure FrameIn where
  stream : Nat
  seq : Nat
  payLen : Nat
  srcTime : Nat
  arrival : Nat
  arrivalTick : Nat
  ids : List Nat
  flags : Nat
  deriving DecidableEq, Repr

/-- The Ingest Unit: lanes up and lanes with a marker seen, the framer's state, the lowest position not yet scanned, the verifiers (expected
position, headers seen), in LOCK the expected position, the last accepted PAYLOAD_LEN and the misses in a row; the bindings, the
frame being received, and the frames received and not yet published, as streams in order. -/
structure IngestUnit where
  up : Tab Bool
  marked : Tab Bool
  align : AlignState
  scan : Nat
  verifiers : List (Nat × Nat)
  expect : Nat
  lastLen : Nat
  misses : Nat
  binds : Tab (Option Binding)
  rx : Option FrameIn
  waiting : List Nat
  deriving DecidableEq, Repr

/-! ### Layers, grouped operations and passes at work (chapters 5, 8, 9 and 10) -/

/-- A tensor descriptor as read at a descriptor's start (Table 6.5): per dimension its global size, MODE, AXIS and BLOCK. -/
structure Tensor where
  base : Nat
  scaleOfs : Nat
  format : Nat
  dims : List (Nat × Nat × Nat × Nat)
  deriving DecidableEq, Repr

/-- An expert-table entry (Table 9.2) with its tensor descriptors, as read at the start. -/
structure Expert where
  addr : Nat
  wIn : Tensor
  wOut : Option Tensor
  bIn : Nat
  bOut : Nat
  sliceIn : Nat
  sliceOut : Nat
  inter : Nat
  act : Nat
  gated : Bool
  scale : Nat
  deriving DecidableEq, Repr

/-- A row of a grouped-operation table (Table 8.8): its expert's place in the job's list, M, START, home bank and map epoch. -/
structure TabRow where
  expert : Nat
  m : Nat
  start : Nat
  home : Option Nat
  epoch : Nat
  deriving DecidableEq, Repr

/-- Where a group stands (R142, R272): split but not yet in the split store, ready or waiting, issued to a position with its command
on the way, running there, ended. -/
inductive GroupPhase where
  | held
  | waiting
  | issued (p : Nat)
  | running (p : Nat)
  | ended
  deriving DecidableEq, Repr

/-- A group (R141, R270, R296): phase 0 UP, 1 DOWN, 2 a piece of an SFU_PASS; its rows and columns; its estimates (engine time in units
of 1/2,048,000 ns, energy in uJ); what the scheduler keeps of it; and the rows an abandoned group of an SFU_PASS in place had read (R299,
R303). -/
structure Group where
  row : Nat
  phase : Nat
  m0 : Nat
  m : Nat
  c0 : Nat
  cols : Nat
  home : Option Nat
  est : Nat
  uj : Nat
  at_ : GroupPhase
  ready : Option Nat
  deferred : Bool
  attempts : Nat
  epoch : Nat
  sat : Bool
  issuedAt : Nat
  kept : List (List Nat)
  deriving DecidableEq, Repr

/-- Stages of a LAYER (R231), and of the other two kinds. -/
inductive Stage where
  | gate | route | experts | combine | pass
  deriving DecidableEq, Repr

/-- What a LAYER keeps of its layer record, batch record and descriptor (Tables 8.1 to 8.3), and of its Route stage. -/
structure Layer where
  lrec : Nat
  work : Nat
  skipLayer : Bool
  gateW : Option Tensor
  set : Nat
  biasEn : Bool
  gating : Nat
  renorm : Bool
  dropOrder : Bool
  topK : Nat
  experts : Nat
  capMax : Nat
  capMin : Nat
  capFactor : Nat
  expFmt : Nat
  skip : Nat
  ids : Nat
  patches : Nat
  scoreKind : Bool
  scoreMode : Nat
  out : Tensor
  version : Nat
  dropped : Nat
  bare : Nat
  deriving DecidableEq, Repr

/-- A descriptor that engines run in groups (LAYER, GROUPED_OP, SFU_PASS): its input, the region addresses, its rows not yet split, its
groups, the sorted list's tokens, and what its completion reports; the parameters an SFU_PASS read at its start; the tick at which a LAYER's
last stage ended (R245, R314); and the descriptors that have run at the same time (R277, R303). -/
structure Job where
  ctx : Nat
  gen : Nat
  idx : Nat
  stage : Stage
  input : Tensor
  inputOk : Bool
  layer : Option Layer
  sfuOut : Option Tensor
  sfuA : Nat
  sfuB : Nat
  sfuScale : Nat
  sfuSat : Bool
  sfuOp : Nat
  sfuEps : Nat
  parA : Option (List Nat)
  parB : Option (List Nat)
  entries : List Expert
  rows : List TabRow
  handed : Bool
  all : List TabRow
  tokens : List Nat
  inter : Nat
  irow : Nat
  expOut : Nat
  outFmt : Nat
  groups : List Group
  assign : Nat
  saturated : Nat
  stageAt : Nat
  rivals : List (Nat × Nat)
  deriving DecidableEq, Repr

/-- `len` bytes at a physical address that descriptor `idx` of context `ctx` wrote while other descriptors ran (R277, R303). -/
structure Wrote where
  ctx : Nat
  idx : Nat
  pa : Nat
  len : Nat
  deriving DecidableEq, Repr

/-- What runs on an engine position or Special Function Unit position: a group of a job. -/
structure Occupant where
  ctx : Nat
  idx : Nat
  group : Nat
  deriving DecidableEq, Repr

/-- Work at the scheduler: the jobs in the order they started, the occupied positions (engine position 4b + p, SFU position 16 + b), the
LAYERs whose Gate stage has ended in that order (R245), those whose Experts stage has ended (R314), whether the Routing Engine
and the Special Function Units are testing themselves, the positions for which a decision is due (R144), and the bytes written by descriptors
that ran at the same time as one that still runs (R277, R303). -/
structure WorkUnit where
  jobs : List Job
  positions : Tab (Option Occupant)
  routeQueue : List (Nat × Nat)
  combineQueue : List (Nat × Nat)
  routeTest : Bool
  sfuTest : Tab Bool
  fell : List Nat
  wrote : List Wrote
  deriving DecidableEq, Repr

/-! ### Which physical unit fills which position (R18, R274, R392, R482) -/

/-- The maps from active positions to physical units and the units marked unhealthy. Engine position 4b + p holds a physical engine
0 to 4 of BANK_b; control core position k a physical core 0 to 4; slice position n a physical slice 0 to 9 (15 for none). -/
structure UnitMaps where
  engines : Tab Nat
  engBad : Tab Bool
  cores : Tab Nat
  coreBad : Tab Bool
  slices : Tab Nat
  sliceBad : Tab Bool
  prevEpoch : Nat
  prevUntil : Option Nat
  prevEngines : Tab Nat
  deriving DecidableEq, Repr

/-- Why a step stops. Nothing in this part's spec stops the machine: the model raises the one fault below only for a command no
sender can form. -/
inductive Fault where
  /-- Raised by no meaning of this model: kept so that the type of faults is not empty. Safe. -/
  | unreachable
  deriving DecidableEq, Repr

/-- Why a command has no meaning. -/
inductive Refusal where
  /-- A command whose meaning has not been written. Safe: the machine stops. -/
  | notModelled (mnemonic : String)
  deriving DecidableEq, Repr

/-! ### The Day Unit (chapter 2) -/

/-- DAY_STATUS.STATE (Table 2.2). -/
inductive DayState where
  | acquire | locked | follow | holdover | expired | free
  deriving DecidableEq, Repr

/-- What the last time message of a torus neighbour carried (R37), and the absolute Minute it came in; and from the last exchange with it a
position of its count, with the tick of this package's clock at which it stood there. -/
structure Neighbour where
  state : DayState
  hops : Nat
  leader : Nat
  adopted : Bool
  heard : Nat
  pos : DayPos
  at_ : Int
  deriving DecidableEq, Repr

/-- Day-scheduled events of one Minute, in the order of R51. -/
inductive Due where
  | leaseExpiry (res : Nat)
  | recvLease (handle : Nat)
  | collLease (slot cseq : Nat)
  | hourAccounting
  | loadStep (i : Nat)
  | evening (set : Nat)
  | launch (slot cseq : Nat)
  deriving DecidableEq, Repr

/-- The Day Unit (R31 to R61, R579). Lengths and rates are in 1/128 ns, positions in ticks of the package's 1 ns clock. `edges` are the accepted
edges since the last missed cycle, `periods` the last 16 accepted periods (R46), both newest first; `ownLeader` says that the package acts as its
own leader (R36); `evePassed` that adoption stepped past the Evening loop's position (R40). -/
structure DayUnit where
  state : DayState
  instValid : Bool
  leader : Bool
  adopted : Bool
  parent : Nat
  hops : Nat
  day : Nat
  minute : Nat
  strobed : Bool
  dayStart : Int
  acc : Nat
  pd : Nat
  period : Nat
  rate : Int
  corrLeft : Int
  reference : Option Int
  edges : List Int
  periods : List Int
  misses : Nat
  dayEdge : Option Int
  ownSkew : Int
  leaderSkew : Int
  skewSum : List Int
  skew : Int
  parentOfs : Int
  freshOfs : Option Int
  neighbours : Tab (Option Neighbour)
  rejected : Tab Nat
  leaderPos : Option Nat
  leaderHeard : Nat
  ownLeader : Bool
  hourOfs : Nat
  hourPend : Option (Nat × Nat)
  holdDays : Nat
  holdMin : Nat
  third : Nat
  acquireStart : Nat
  startWritten : Bool
  refLost : Bool
  voteFail : Bool
  realign : Bool
  evePassed : Bool
  due : List Due
  deriving DecidableEq, Repr

/-! ### Dies and Bank Bridges (chapter 3) -/

/-- What a bank die is doing (R71, R73, R74, R86). -/
inductive BankPhase where
  | down
  | bringup (step : Nat)
  | active
  | resetting
  | retained
  | failed
  deriving DecidableEq, Repr

/-- HUB_BRG_STATUS_n.STATE (Table 3.14). -/
inductive BridgeState where
  | down | training | up | retrain | idle | failed
  deriving DecidableEq, Repr

/-- One direction of a Bank Bridge (R64, R66, R67, R81, R83, R84): the sender's waiting slots with their virtual channels, its next sequence number,
its unacknowledged data frames as number and slots, its credits per virtual channel and the channel its round robin served last; the receiver's
expected number, the credits it owes per virtual channel, the NACKs in a row of one number, and the CRC failures of this Minute; and the functional
wire each group's spare stands in for. -/
structure BridgeDir where
  queue : List (Nat × List Byte)
  nextSeq : Nat
  unacked : List (Nat × List (Nat × List Byte))
  credits : Tab Nat
  rr : Nat
  expect : Nat
  owed : Tab Nat
  nackSeq : Nat
  nackRun : Nat
  crcMinute : Nat
  spares : Tab Nat
  deriving DecidableEq, Repr

/-- A write that waits for a bridge (R82): the context it is for, the die it comes from (0 the hub, n + 1 BANK_n), its physical address and bytes, and
whether it waits in the ingest receive buffer (R223). -/
structure HeldWrite where
  ctx : Nat
  die : Nat
  pa : Nat
  bytes : List Byte
  ingest : Bool
  deriving DecidableEq, Repr

/-- One bank die with its bridge. `h2b` is hub to bank, `b2h` bank to hub; `resetWait` is a RESET written during a retrain; `startAt` the tick from
which step 1 of a bring-up runs (R73); `inReset` the bank reset line and `selfRefresh` whether the stacks are in self-refresh (R74); `onBackup` the
duplicated pairs whose backup wire is in use (R64); `waiting` the writes that wait for the bridge (R82). `expDay` and `expMinute` are the position
the bank die received last, by its own count (R85). -/
structure Bank where
  phase : BankPhase
  step : Nat
  repeats : Nat
  memLost : Bool
  memFault : Bool
  pllLock : Bool
  serial : Option Nat
  bridge : BridgeState
  cause : Nat
  timeErr : Nat
  degraded : Bool
  expDay : Nat
  expMinute : Nat
  badRetrains : Nat
  resetWait : Bool
  startAt : Nat
  inReset : Bool
  selfRefresh : Bool
  onBackup : Tab Bool
  waiting : List HeldWrite
  h2b : BridgeDir
  b2h : BridgeDir
  deriving DecidableEq, Repr

/-! ### Host Interface, contexts and descriptors (chapters 4 and 5) -/

/-- HUB_RING_STATUS_c.STATE (Table 4.15). -/
inductive RingState where
  | closed | active | draining | stopped
  deriving DecidableEq, Repr

/-- HUB_CTX_STATUS_c.STATE (Table 5.1). -/
inductive CtxState where
  | free | open_ | teardown | faulted
  deriving DecidableEq, Repr

/-- Where a fetched descriptor stands: not started, started, its work ended with an outcome (R105), or its completion placed in
the reserve. -/
inductive DescPhase where
  | waiting
  | running
  | ended (code detail epoch : Nat)
  | placed
  deriving DecidableEq, Repr

/-- A fetched descriptor (Table 4.3): its index in the ring, its eight words, what the scheduler and the Ledger keep of it, and its place in the order
of acceptance (R51). -/
structure Desc where
  idx : Nat
  words : List DWord
  phase : DescPhase
  late : Bool
  start : Option Nat
  readyAt : Option Nat
  deferred : Bool
  energy : Nat
  outBase : Option Nat
  cursor : Nat
  startMin : Nat
  seq : Nat
  deriving DecidableEq, Repr

/-- A completion waiting in a context's reserve (Table 4.6); SQ_HEAD and PHASE are filled in when the entry is written. -/
structure Cpl where
  idx : Nat
  tag : Nat
  code : Nat
  kind : Nat
  detail : Nat
  when_ : Nat
  epoch : Nat
  energy : Nat
  irq : Bool
  deriving DecidableEq, Repr

/-- What R109 and R460 hold ready for the next descriptors of a context: nothing; CANCELLED up to the BR_CLOSE; or a ROLLED_BACK with
this DETAIL and then CANCELLED. -/
inductive BrMode where
  | none
  | cancel
  | report (detail : Nat)
  deriving DecidableEq, Repr

/-- The rings of one context (Table 4.15) with its fetch window and completion reserve (Table 4.10); `fetching` descriptors are being read since the
tick `fetchAt`. `failed` is the last LAYER that did not complete OK: its index, OUT BASE, code and DETAIL (R326). -/
structure Ring where
  state : RingState
  sqHead : Nat
  sqTail : Nat
  fetching : Nat
  fetchAt : Nat
  cqTail : Nat
  cqHead : Nat
  headErr : Bool
  lastCode : Nat
  window : List Desc
  reserve : List Cpl
  unsignalled : Nat
  firstUnsig : Option Nat
  br : BrMode
  failed : Option (Nat × Nat × Nat × Nat)
  deriving DecidableEq, Repr

/-- One context (Table 5.7); VT and the counters of Table 5.2 stand in the register store. -/
structure Ctx where
  state : CtxState
  cause : Nat
  gen : Nat
  deriving DecidableEq, Repr

/-- A device event (Table 4.8). -/
structure Event where
  source : Nat
  code : Nat
  ctx : Nat
  detail : Nat
  when_ : Nat
  seq : Nat
  deriving DecidableEq, Repr

/-- The Host Interface (chapter 4) apart from the rings of the contexts. `dbOut` are the doorbell blocks whose read is outstanding with the tick it was
issued, `wakePoll` those to be read once more when it returns; `msixOn` and `msixMask` the MSI-X Enable and Function Mask bits of the capability;
`dead` that the Host Interface itself failed (R127); `accepted` counts the descriptors accepted (R51). -/
structure HostIf where
  linkUp : Bool
  width : Nat
  speed : Nat
  d3hot : Bool
  perst : Bool
  evqTail : Nat
  evqHead : Nat
  evq : List Event
  lost : Nat
  evSeq : Nat
  dbFails : Nat
  dbOut : List (Nat × Nat)
  nextPoll : Nat
  headPoll : Nat
  wakePoll : List Nat
  written : List Nat
  msixOn : Bool
  msixMask : Bool
  dead : Bool
  accepted : Nat
  deriving DecidableEq, Repr

/-! ### Faults, leases and recovery (chapter 15) -/

/-- A lease on a bias set, or the sequence lock: the holder's context and GEN, the absolute Minute at whose start it expires, and
the waiting TAKEs in order (context, GEN, descriptor index, Minutes). -/
structure Lease where
  holder : Option (Nat × Nat)
  expire : Nat
  waiting : List (Nat × Nat × Nat × Nat)
  deriving DecidableEq, Repr

/-- A shadowed page-table entry (R457): its address, the new value, the value it replaces, the bank die its table lies on (4 for
the hub) and the virtual span it changes. -/
structure ShadowPte where
  addr : Nat
  new_ : Nat
  old : Nat
  bank : Nat
  va : Nat
  span : Nat
  deriving DecidableEq, Repr

/-- A shadowed bias set (R457): the lease epoch it relies on, a copy of its biases and VERSION, the LOAD entries to be cleared, and whether a
whole rewrite clears POISON at the commit (R254). -/
structure ShadowSet where
  set : Nat
  epoch : Nat
  biases : Tab Word
  version : Nat
  clearLoad : List Nat
  whole : Bool
  deriving DecidableEq, Repr

/-- A GROUP_FORM in a bracket (R382): its descriptor, slot, body words 2 and 3, whether its handshake has begun, and the epoch FORMED gave. -/
structure BracketForm where
  idx : Nat
  slot : Nat
  word2 : Nat
  word3 : Nat
  begun : Bool
  epoch : Option Nat
  deriving DecidableEq, Repr

/-- The open bracketed sequence (R456 to R460). -/
structure Bracket where
  ctx : Nat
  gen : Nat
  count : Nat
  sets : List ShadowSet
  ptes : List ShadowPte
  forms : List BracketForm
  renews : List (Nat × Nat × Nat × Nat)
  bankLost : List Nat
  closeIdx : Option Nat
  committing : Bool
  deriving DecidableEq, Repr

/-- A fault record (Table 15.8). -/
structure Rec where
  seq : Nat
  valid : Bool
  pinned : Bool
  prevBoot : Bool
  class_ : Nat
  source : Nat
  code : Nat
  ctx : Nat
  unit : Nat
  day : Nat
  minute : Nat
  tick : Nat
  detail : Nat
  deriving DecidableEq, Repr

/-- Fault records, leases, epochs, the open bracket and the two views of each unit (Table 15.5; true is failed); a package-class fault, and whether
only a cold start recovers it (Table 15.7). -/
structure FltUnit where
  records : Tab Rec
  head : Nat
  nextSeq : Nat
  retained : List Rec
  leases : Tab Lease
  epochs : Tab Nat
  bracket : Option Bracket
  dp : Tab Bool
  mgmt : Tab Bool
  disCnt : Tab Nat
  pkgFault : Bool
  pkgCold : Bool
  deriving DecidableEq, Repr

/-! ### Reset, boot and management (chapters 17 and 18) -/

/-- Boot and reset state (chapter 17, HUB_BOOT_STATUS, HUB_RESET_CAUSE, HUB_RESET_STATUS): `warmWait` is a warm reset that waits for a bank reset,
`coldAt` the tick a management cold start begins, and `sstatTerm` and `testMode` the straps
SSTAT_TERM and TEST_MODE; `fresh` marks a power-on that waits for PKG_RST_N. -/
structure Boot where
  powered : Bool
  rstN : Bool
  stage : Nat
  done : Bool
  doneAt : Nat
  code : Nat
  bank : Nat
  haltStage : Nat
  halted : Bool
  hubLock : Bool
  refOk : Bool
  backup : Bool
  count : Nat
  prev : Nat
  last : Nat
  ready : Bool
  warm : Bool
  warmWait : Bool
  warmStart : Nat
  hostReset : Bool
  resetStart : Nat
  midnightExit : Bool
  coldAt : Option Nat
  sstatTerm : Bool
  testMode : Bool
  fresh : Bool
  deriving DecidableEq, Repr

/-- The Management Port (chapter 18): port address from the straps, the last command, the held response and whether it is still unread, the TAG of
the newest command, the alert line, and the corrected errors of each memory unit since cold start. -/
structure MgtUnit where
  addr : Nat
  lastCode : Nat
  lastStatus : Nat
  response : Option (List Byte)
  unread : Bool
  tag : Option Nat
  released : Bool
  ceTotal : Tab Nat
  deriving DecidableEq, Repr

/-! ### Combine, Reorder and Hand-off (chapter 11) -/

/-- A combine slot of the Reorder Buffer (R313, R316): the token it holds, its number, the tick it was taken, its outstanding gather reads (none before
they are issued), the FP32 values of its row segment once they have returned, and whether the segment is written. -/
structure CmbSlot where
  token : Nat
  slot : Nat
  takenAt : Nat
  reads : Option Nat
  vals : Option (List Nat)
  written : Bool
  deriving DecidableEq, Repr

/-- The LAYER in the Combine Unit (R314, R316): its context with its GEN and its descriptor, its strip, the next token to take a slot, the slots held in token order, the tokens released in this
strip, and the saturated outputs so far. -/
structure CombineRun where
  ctx : Nat
  gen : Nat
  idx : Nat
  strip : Nat
  next : Nat
  slots : List CmbSlot
  released : Nat
  deriving DecidableEq, Repr

/-- Where a SEND stands: its OFFER is out, it waits to offer again from a tick on, or it is granted (Table 11.2). -/
inductive SendPhase where
  | offered
  | retry (at_ : Nat)
  | granted
  deriving DecidableEq, Repr

/-- A HANDOFF_SEND at work (R318 to R326): its descriptor, peer, CHANNEL and SEQ, source tensor, skip mask and whether it is carried, SAT,
WIRE_FORMAT, the LAYER it is pipelined to, its phase, handle, grant epoch and credits, the next chunk, the chunks sent and not
acknowledged, those to send again, the chunks re-sent, whether the mask is still to send, and NACKs in a row per chunk. -/
structure SendWin where
  ctx : Nat
  gen : Nat
  idx : Nat
  peer : Peer
  channel : Nat
  seq : Nat
  tensor : Tensor
  mask : Nat
  maskOn : Bool
  sat : Bool
  wire : Nat
  piped : Option Nat
  phase : SendPhase
  handle : Nat
  epoch : Nat
  credits : Nat
  next : Nat
  unacked : List Nat
  again : List Nat
  resent : Nat
  maskDue : Bool
  nacks : Tab Nat
  deriving DecidableEq, Repr

/-- An OFFER (Table 11.2). -/
structure Offer where
  peer : Peer
  channel : Nat
  seq : Nat
  n : Nat
  d : Nat
  wire : Nat
  mask : Bool
  deriving DecidableEq, Repr

/-- A posted HANDOFF_RECV (R321 to R324, R334): its transfer handle, descriptor, source, destination tensor and mask, the OFFER it was matched
to, the receive slots leased (with the chunk each holds, the tick it came and its wire data), the chunks done, whether the mask is written, NACKs in
a row per chunk (the mask under 2^32), all NACKs, and the Minute of the last message. -/
structure RecvWin where
  handle : Nat
  ctx : Nat
  gen : Nat
  idx : Nat
  peer : Peer
  channel : Nat
  seq : Nat
  tensor : Tensor
  mask : Nat
  sat : Bool
  offer : Option Offer
  slots : List (Nat × Option (Nat × Nat × List Byte))
  done : List Nat
  maskDone : Bool
  nacks : Tab Nat
  nacked : Nat
  last : Nat
  deriving DecidableEq, Repr

/-- The Combine Unit: the LAYER in it, transfers sent and received, the offers that wait, and the slots fenced (R336). -/
structure CombineUnit where
  run : Option CombineRun
  sends : List SendWin
  recvs : List RecvWin
  offers : List Offer
  fenced : Tab Bool
  deriving DecidableEq, Repr

/-! ### Eriovan Link (chapter 12) -/

/-- LNK_STATUS_p.STATE (Table 12.2, Table 12.13). -/
inductive PortState where
  | down | detect | exchange | train | confirm | up | held | failed
  deriving DecidableEq, Repr

/-- A flit waiting for a port or in its replay buffer: whether it is a CONTROL flit, its class and dateline channel, the port it came in by (8 for
this package's own), SEG (Table 12.6); of an own message the message with the segment's number and their count, else the bytes received. -/
structure TxFlit where
  control : Bool
  cls : Nat
  dl : Bool
  from_ : Nat
  seg : Nat
  msg : Option Msg
  index : Nat
  segs : Nat
  raw : List Byte
  deriving DecidableEq, Repr

/-- One Eriovan port (R341 to R350): what bring-up found; the sender's next sequence number, replay buffer, credits used per class and
channel and what CONFIRM gave of them and of the replay window, waiting flits, the message that holds each class channel (1 + where it comes from)
and the round-robin class; the receiver's expected number and the credits it owes while the port is not UP; NACKs in a row received and sent; this
Minute's CRC failures; failed retrains in a row. -/
structure Port where
  state : PortState
  reason : Nat
  rev : Nat
  kind : Nat
  width : Nat
  spared : Nat
  degraded : Bool
  peerCaps : Nat
  inUse : Nat
  peerId : Nat
  retraining : Bool
  treatBad : List Nat
  nextSeq : Nat
  unacked : List (Nat × TxFlit)
  fullSince : Option Nat
  used : Tab Nat
  limits : Tab Nat
  window : Nat
  queue : List TxFlit
  open_ : Tab Nat
  rr : Nat
  expect : Nat
  owed : Tab Nat
  nackGot : Nat × Nat
  nackSent : Nat × Nat
  crcMinute : Nat
  badRetrains : Nat
  deriving DecidableEq, Repr

/-- A routing table (R351, R352): the entry of each destination, or the table of R352, whose ties the source decides. -/
structure RouteTable where
  entries : Tab Nat
  dimOrder : Bool
  deriving DecidableEq, Repr

/-- A remote request of this package (R361): context, GEN and descriptor it works for, the engine position (99: none), whether it writes,
the virtual address and bytes, the NOTIFY interrupt it is, the target, aperture and remote address, and when it was issued. -/
structure RemoteReq where
  ctx : Nat
  gen : Nat
  idx : Nat
  pos : Nat
  write : Bool
  notify : Bool
  va : Nat
  len : Nat
  data : List Byte
  dst : Peer
  apt : Nat
  ra : Nat
  at_ : Nat
  deriving DecidableEq, Repr

/-- Data that a remote read brought for a descriptor or for its group on a position. -/
structure RemoteData where
  ctx : Nat
  idx : Nat
  pos : Nat
  va : Nat
  bytes : List Byte
  deriving DecidableEq, Repr

/-- The Link and Switch. `pos`, `zLen` and `origin` are LNK_POS; `lens` the axis lengths the probes found, `firstUp` when the first torus
link came UP, `heard` the coordinates neighbours led to, `elect` the election record held and `recAt` when it last changed. `table` with
SWI_ROUTE_CUR is the current table, `prev` the previous one with its epoch and the absolute Minute it is discarded, `staged` the staged one
with its epoch and changeover Minute, `stagedLate` that adoption stepped past that Minute. `hold` is the route-stale hold (messages with the Minute they entered), `parked` the messages that
wait under R356 or R365, `late` the commands of other packages whose accesses wait for a bridge (R82), `open_` the messages whose end-to-end response is awaited (key, destination, class, epoch). `tags` are the
remote request tags and `reqs` the requests that wait for one; `who` and `need` are the access under way and what it lacks, `got` the
data that came. `aptGen` holds the GEN latched by LNK_APT_a, `peers` the peer lists (kind and identifier) of the bridge ports with
their epochs, `drain` the bridge ports that wait under R365, and `collect` the flits of messages being returned route-stale. -/
structure LinkUnit where
  pos : Option (Nat × Nat × Nat)
  zLen : Nat
  origin : Bool
  lens : Tab Nat
  firstUp : Option Nat
  heard : Option (Int × Int × Int)
  elect : Option (Nat × Int × Int × Int)
  recAt : Nat
  ports : Tab Port
  table : RouteTable
  prev : Option (Nat × RouteTable × Nat)
  staged : Option (Nat × RouteTable × Nat)
  stagedLate : Bool
  hold : List (Msg × Nat)
  parked : List Msg
  open_ : List (Nat × Nat × Nat × Nat)
  late : List Instr
  tags : Tab (Option RemoteReq)
  reqs : List RemoteReq
  who : Option (Nat × Nat × Nat)
  need : Option (Nat × Nat)
  got : List RemoteData
  aptGen : Tab Nat
  peers : Tab (List (Nat × Nat))
  peerEpoch : Tab Nat
  drain : Tab Bool
  collect : Tab (List Byte)
  deriving DecidableEq, Repr

/-! ### Collectives (chapter 13) -/

/-- COL_GRP_STATUS_g.STATE (Table 13.12). -/
inductive GroupState where
  | free | forming | formed | reforming | dissolved | excluded
  deriving DecidableEq, Repr

/-- A group slot (R381 to R384, R403 to R406): its state, holder, formation, live members, effective MIN_LIVE, LAST_REASON, next CSEQ and DSEQ; the
GROUP_FORM that waits (its descriptor; none at a bracket's commit) with the Minute it gives up; at the lowest member the JOINs received;
at the leader the highest CSEQ that received GO, the suspects, those that named themselves, when gathering ends, the suspects PROBEd
and silent, when the PROBEs time out, and the members whose REFORM_ACK is awaited. -/
structure GroupSlot where
  state : GroupState
  ctx : Nat
  gen : Nat
  shape : Nat
  anchor : Nat × Nat × Nat
  tag : Nat
  members : List Nat
  live : List Nat
  minLive : Nat
  reason : Nat
  cseq : Nat
  dseq : Nat
  idx : Option Nat
  limit : Option Nat
  joins : List (Nat × Join)
  goMax : Option Nat
  suspects : List Nat
  leavers : List Nat
  gatherAt : Option Nat
  probing : List Nat
  probeAt : Option Nat
  acks : List Nat
  deriving DecidableEq, Repr

/-- A chunk a collective sends: to whom, FLAGS, STEP, CHUNK, data, and its NACKs in a row. -/
structure ColSend where
  dst : Nat
  flags : Nat
  step : Nat
  chunk : Nat
  data : List Byte
  nacks : Nat
  deriving DecidableEq, Repr

/-- A chunk that came before the collective could take it. -/
structure ColEarly where
  from_ : Nat
  flags : Nat
  step : Nat
  chunk : Nat
  data : List Byte
  deriving DecidableEq, Repr

/-- Where a COLLECTIVE stands: announced, waiting for staging after GO, reserved until its data can be read (a TIMED one until its START
Minute), moving data. -/
inductive ColPhase where
  | announced
  | staging
  | reserved
  | running
  deriving DecidableEq, Repr

/-- A COLLECTIVE at work (R385 to R396): its slot, CSEQ and descriptor, what it announced, SRC and DST, its phase, whether it runs as RING, the
bytes of staging reserved; the elements it holds; of RING the stage (axis) it is in and the transfers received in it (step, direction,
chunk); of DTREE the children's partials received (chunk, child) and the chunks delivered here; chunks that wait; chunks to send and
chunks sent and not acknowledged; chunks re-sent; the Minute of its last progress. -/
structure Coll where
  slot : Nat
  cseq : Nat
  ctx : Nat
  gen : Nat
  idx : Nat
  spec : Announce
  src : Nat
  dst : Nat
  phase : ColPhase
  ring : Bool
  staged : Nat
  buf : List Nat
  stage : Nat
  got : List (Nat × Nat × Nat)
  partials : List (Nat × Nat)
  delivered : List Nat
  early : List ColEarly
  outq : List ColSend
  sent : List ColSend
  resent : Nat
  last : Nat
  untold : Bool
  deriving DecidableEq, Repr

/-- A slice slot in use (R392): the active position, and the collective's slot, CSEQ, and the chunk's STEP, FLAGS and number. -/
structure SliceLease where
  pos : Nat
  slot : Nat
  cseq : Nat
  step : Nat
  flags : Nat
  chunk : Nat
  deriving DecidableEq, Repr

/-- A DAWN at work (R397 to R401): slot, DSEQ and descriptor, its fields, DST, the phase it is in and its value for it (none: a BROADCAST not yet
here). -/
structure DawnOp where
  slot : Nat
  dseq : Nat
  ctx : Nat
  gen : Nat
  idx : Nat
  op : Nat
  red : Nat
  dtype : Nat
  nbytes : Nat
  root : Nat
  dst : Nat
  dstHost : Bool
  phase : Nat
  value : Option (List Byte)
  deriving DecidableEq, Repr

/-- A value, or a part of it, received on the Dawn path: slot, DSEQ, axis, ORIGIN; OP, RED, DTYPE and NBYTES; the parts by PART, and the number
of parts once the last one is here. -/
structure DawnValue where
  slot : Nat
  dseq : Nat
  axis : Nat
  origin : Nat
  op : Nat
  red : Nat
  dtype : Nat
  nbytes : Nat
  parts : List (Nat × Nat)
  count : Option Nat
  deriving DecidableEq, Repr

/-- The Collectives unit: slots; collectives in the order they started, and in the order of their GO those that wait for staging; the announce
table (slot, CSEQ, and per member what it announced with its INST_VALID); slice slots; DAWNs and the values received; and per port the VALUE
slots sent or waiting, with the tick each was last sent. -/
structure ColUnit where
  groups : Tab GroupSlot
  colls : List Coll
  goOrder : List (Nat × Nat)
  table : List (Nat × Nat × List (Nat × Announce × Bool))
  slices : List SliceLease
  dawns : List DawnOp
  values : List DawnValue
  sendq : List (Nat × Nat × Option Nat)
  deriving DecidableEq, Repr

/-! ### Power, heat and the Ledger (chapter 14) -/

/-- The power states of Table 14.4. -/
inductive PowerState where
  | noon | afternoon | dusk | night | midnight
  deriving DecidableEq, Repr

/-- A reservation of the Ledger (R423): which item (0 a group on position `a`; 1 descriptor `b` of context `a`; 2 ballast on
position `a`), and what it still reserves, in uJ. -/
structure Reservation where
  kind : Nat
  a : Nat
  b : Nat
  est : Nat
  deriving DecidableEq, Repr

/-- The Power Ledger of the current local Hour (R423, R424, R428): A, W, M, C, U and debt of the accounting, the charges of the
Hour so far, reservations and by how much they exceed what the Hour has left (R147), the Hour's start tick and length, the Minute it was accounted in, whether an Hour was measured; the armed load
steps (Minute, late); the settings in force since the last accounting, by register (R441); which of HEAT, SHELF and PROFILE (bits 1 to
3) reduced A when it was last computed; and the ballast energy that LDG_CNT_3 does not yet show, below a whole mJ. -/
structure Ledger where
  running : Bool
  allowance : Nat
  whole : Nat
  measM : Nat
  lastC : Nat
  lastT : Nat
  unattr : Nat
  debtAtAcct : Nat
  charged : Nat
  reserved : List Reservation
  short : Nat
  hourStart : Nat
  hourLen : Nat
  acctMin : Nat
  measured : Bool
  floor : Nat
  stateErr : Bool
  steps : Tab (Option (Nat × Bool))
  inForce : Tab Word
  cuts : Nat
  ballastUj : Nat
  deriving DecidableEq, Repr

/-- Power states, supply and temperatures. CAUSE holds RIDE, HEAT, SHELF and PROFILE in bits 0 to 3. A rail's `sag` is 0 none,
1 a sag, 2 severe. `tripped` is whether a thermal trip led into Midnight (R440), `tripLow` whether THERM_TRIP_N is driven low (R557), and `exitAsked` whether a
trigger has asked to leave Midnight while it was too hot (assumption 56). -/
structure PwrUnit where
  state : PowerState
  cause : Nat
  pendingReq : Nat
  ride : Bool
  rideClearFrom : Nat
  sstat : Nat
  sstatSeq : Nat
  sstatOk : Bool
  sstatAt : Nat
  sag : Tab Nat
  railMv : Tab Nat
  railLow : Tab Nat
  tempA : Tab Nat
  tempB : Tab Nat
  peak : Tab Nat
  tripped : Bool
  tripLow : Bool
  exitAsked : Bool
  idleSince : Option Nat
  duskSince : Nat
  exiting : Bool
  wakeWork : List Instr
  ballast : Tab Bool
  hbmHot : Tab Bool
  ledger : Ledger
  deriving DecidableEq, Repr

/-! ### Defect map and self-repair (chapter 16) -/

/-- A defect-map entry (Table 16.2), with the physical address of its row for KIND 6 and 7 (R497). -/
structure DEntry where
  kind : Nat
  cause : Nat
  state : Nat
  loc : Nat
  target : Nat
  spare : Nat
  minute : Nat
  day : Nat
  pa : Nat
  deriving DecidableEq, Repr

/-- The defect map as the hub holds it, the records of its two flash copies in the order they were appended (index and entry), the
changes that have not reached the flash, LOST, FULL and DEGRADED, the repair step under way (the index of its entry), whether the
repair phase runs, the entries whose remap takes effect at the Night exit, the corrected
errors per memory row (unit and row, with the count), and the Reorder Buffer rows (LOC and row) whose slots return at the Night exit. -/
structure RepairUnit where
  entries : List DEntry
  copyA : List (Nat × DEntry)
  copyB : List (Nat × DEntry)
  dirty : List Nat
  lost : Bool
  full : Bool
  degraded : Bool
  step : Option Nat
  phase : Bool
  stepAt : Nat
  rowCe : Tab Nat
  unfence : List (Nat × Nat)
  deriving DecidableEq, Repr

/-! ### The test port (chapter 19) -/

/-- The test access port (R558, R559): the loaded instruction code, whether PKG_RST_N has risen since it was loaded, and the boundary register as
one number. -/
structure TestPort where
  code : Nat
  parked : Bool
  boundary : Nat
  deriving DecidableEq, Repr

/-! ### The package -/

/-- The whole package. The model's own fields are `pending` (the commands waiting), `clk` (the 1 ns clock the Day Unit and every
timer count), `free` (the free values used so far, assumption 2) and `sent` (what left the package, newest first). -/
structure State where
  pending : List Instr
  clk : Nat
  free : Nat
  sent : List Out
  held : List Out
  regs : Tab Word
  latchHost : Tab (Option Word)
  latchMgmt : Tab (Option Word)
  mem : List Host.Cell
  day : DayUnit
  banks : Tab Bank
  host : HostIf
  rings : Tab Ring
  ctxs : Tab Ctx
  flt : FltUnit
  boot : Boot
  mgt : MgtUnit
  atp : AtpUnit
  ing : IngestUnit
  work : WorkUnit
  maps : UnitMaps
  cmb : CombineUnit
  lnk : LinkUnit
  col : ColUnit
  pwr : PwrUnit
  rep : RepairUnit
  test : TestPort
  deriving DecidableEq, Repr

/-- The Day Unit at the start of boot stage 0 (Table 2.4, Tables 2.6 to 2.16). -/
def DayUnit.reset : DayUnit :=
  { state := .acquire, instValid := false, leader := false, adopted := false, parent := 0, hops := 0xFF, day := 0, minute := 0,
    strobed := false, dayStart := 0, acc := 0, pd := 2560000000, period := 2560000000, rate := 0, corrLeft := 0,
    reference := none, edges := [], periods := [], misses := 0, dayEdge := none, ownSkew := 0, leaderSkew := 0, skewSum := [], skew := 0,
    parentOfs := 0, freshOfs := none, neighbours := [], rejected := [], leaderPos := none, leaderHeard := 0, ownLeader := false,
    hourOfs := 0, hourPend := none, holdDays := 0, holdMin := 0, third := 0, acquireStart := 0, startWritten := false, refLost := false, voteFail := false,
    realign := false, evePassed := false, due := [] }

/-- One direction of a bridge after its training: nothing sent or received, full credits (Table 3.3). -/
def BridgeDir.reset : BridgeDir :=
  { queue := [], nextSeq := 0, unacked := [], credits := [], rr := 4, expect := 0, owed := [], nackSeq := 0, nackRun := 0, crcMinute := 0, spares := [] }

/-- A bank die before its bring-up. -/
def Bank.reset : Bank :=
  { phase := .down, step := 0, repeats := 0, memLost := false, memFault := false, pllLock := false, serial := none,
    bridge := .down, cause := 0, timeErr := 0, degraded := false, expDay := 0, expMinute := 0, badRetrains := 0, resetWait := false,
    startAt := 0, inReset := true, selfRefresh := false, onBackup := [], waiting := [],
    h2b := BridgeDir.reset, b2h := BridgeDir.reset }

/-- A CLOSED ring (Table 4.11, Table 4.15). -/
def Ring.reset : Ring :=
  { state := .closed, sqHead := 0, sqTail := 0, fetching := 0, fetchAt := 0, cqTail := 0, cqHead := 0, headErr := false, lastCode := 0,
    window := [], reserve := [], unsignalled := 0, firstUnsig := none, br := .none, failed := none }

/-- A FREE context (Table 5.4). -/
def Ctx.reset : Ctx := { state := .free, cause := 0, gen := 0 }

/-- The Host Interface after a cold start (Tables 4.13, 4.14); the link has not trained. -/
def HostIf.reset : HostIf :=
  { linkUp := false, width := 0, speed := 0, d3hot := false, perst := false, evqTail := 0, evqHead := 0, evq := [], lost := 0,
    evSeq := 0, dbFails := 0, dbOut := [], nextPoll := 0, headPoll := 0, wakePoll := [], written := [], msixOn := true, msixMask := false,
    dead := false, accepted := 0 }

/-- No lease, no waiting TAKE. -/
def Lease.reset : Lease := { holder := none, expire := 0, waiting := [] }

/-- An empty record slot (Table 15.8). -/
def Rec.reset : Rec :=
  { seq := 0, valid := false, pinned := false, prevBoot := false, class_ := 0, source := 0, code := 0, ctx := 0, unit := 0,
    day := 0, minute := 0, tick := 0, detail := 0 }

/-- Chapter 15's state after a cold start (Table 15.9). -/
def FltUnit.reset : FltUnit :=
  { records := [], head := 0, nextSeq := 1, retained := [], leases := [], epochs := [], bracket := none, dp := [], mgmt := [],
    disCnt := [], pkgFault := false, pkgCold := false }

/-- Boot stage 0, entered by power-on (Tables 3.11, 17.6). -/
def Boot.reset : Boot :=
  { powered := true, rstN := true, stage := 0, done := false, doneAt := 0, code := 0, bank := 0xF, haltStage := 0,
    halted := false, hubLock := false, refOk := true, backup := true, count := 0, prev := 0, last := 1, ready := false,
    warm := false, warmWait := false, warmStart := 0, hostReset := false, resetStart := 0, midnightExit := false, coldAt := none,
    sstatTerm := false, testMode := false, fresh := false }

/-- The Management Port after a cold start with both strap pins low (Table 18.6). -/
def MgtUnit.reset : MgtUnit :=
  { addr := 0x58, lastCode := 0, lastStatus := 0, response := none, unread := false, tag := none, released := false, ceTotal := [] }

/-- Empty caches, no poisoned sector. -/
def AtpUnit.reset : AtpUnit := { cache := [], poison := [] }

/-- The port down, no stream bound (Table 7.8). -/
def IngestUnit.reset : IngestUnit :=
  { up := [], marked := [], align := .down, scan := 0, verifiers := [], expect := 0, lastLen := 0, misses := 0, binds := [], rx := none,
    waiting := [] }

/-- No work. -/
def WorkUnit.reset : WorkUnit :=
  { jobs := [], positions := [], routeQueue := [], combineQueue := [], routeTest := false, sfuTest := [], fell := [], wrote := [] }

/-- Every position filled by the physical unit of its own number. -/
def UnitMaps.reset : UnitMaps :=
  { engines := [], engBad := [], cores := [], coreBad := [], slices := [], sliceBad := [], prevEpoch := 0, prevUntil := none,
    prevEngines := [] }

/-- The Combine Unit empty (Table 11.4). -/
def CombineUnit.reset : CombineUnit := { run := none, sends := [], recvs := [], offers := [], fenced := [] }

/-- A port after a cold start: DOWN until the hub's own blocks come up (R341, Table 12.13); sequence numbers from 0, every credit free. -/
def Port.reset : Port :=
  { state := .down, reason := 0, rev := 0, kind := 0, width := 0, spared := 0xF, degraded := false, peerCaps := 0, inUse := 0, peerId := 0,
    retraining := false, treatBad := [], nextSeq := 0, unacked := [], fullSince := none, used := [], limits := [], window := 512, queue := [],
    open_ := [], rr := 0, expect := 0, owed := [], nackGot := (0, 0), nackSent := (0, 0), crcMinute := 0, badRetrains := 0 }

/-- An empty table: every entry NONE (R368). -/
def RouteTable.empty : RouteTable := { entries := [], dimOrder := false }

/-- No position, no route table, nothing in flight (Table 12.11). -/
def LinkUnit.reset : LinkUnit :=
  { pos := none, zLen := 1, origin := false, lens := [], firstUp := none, heard := none, elect := none, recAt := 0, ports := [],
    table := RouteTable.empty, prev := none, staged := none, stagedLate := false, hold := [], parked := [], open_ := [], late := [], tags := [], reqs := [], who := none,
    need := none, got := [], aptGen := [], peers := [], peerEpoch := [], drain := [], collect := [] }

/-- A FREE slot (Table 13.12). -/
def GroupSlot.reset : GroupSlot :=
  { state := .free, ctx := 0, gen := 0, shape := 0, anchor := (0, 0, 0), tag := 0, members := [], live := [], minLive := 0, reason := 0, cseq := 0,
    dseq := 0, idx := none, limit := none, joins := [], goMax := none, suspects := [], leavers := [], gatherAt := none, probing := [],
    probeAt := none, acks := [] }

/-- No group, nothing in flight (Table 13.10). -/
def ColUnit.reset : ColUnit := { groups := [], colls := [], goOrder := [], table := [], slices := [], dawns := [], values := [], sendq := [] }

/-- The Ledger with nothing measured (R424, Table 14.6). -/
def Ledger.reset : Ledger :=
  { running := false, allowance := 0, whole := 0, measM := 0, lastC := 0, lastT := 0, unattr := 0, debtAtAcct := 0, charged := 0,
    reserved := [], short := 0, hourStart := 0, hourLen := 0, acctMin := 0, measured := false, floor := 0, stateErr := false, steps := [],
    inForce := [], cuts := 0, ballastUj := 0 }

/-- Power after a cold start (Table 14.6, Table 14.8): Noon, no cause, nothing measured. -/
def PwrUnit.reset : PwrUnit :=
  { state := .noon, cause := 0, pendingReq := 0, ride := false, rideClearFrom := 0, sstat := 0, sstatSeq := 0, sstatOk := false,
    sstatAt := 0, sag := [], railMv := [], railLow := [], tempA := [], tempB := [], peak := [],
    tripped := false, tripLow := false, exitAsked := false, idleSince := none, duskSince := 0, exiting := false, wakeWork := [], ballast := [], hbmHot := [],
    ledger := Ledger.reset }

/-- No entry held: the map is loaded in boot stage 0 (R486), and what the flash holds of the part's factory repairs and of earlier
cold starts is the environment's (assumption 20). -/
def RepairUnit.reset : RepairUnit :=
  { entries := [], copyA := [], copyB := [], dirty := [], lost := false, full := false, degraded := false, step := none,
    phase := false, stepAt := 0, rowCe := [], unfence := [] }

/-- Test-Logic-Reset: IDCODE is loaded (PRESUMED from IEEE 1149.1: assumption 32). -/
def TestPort.reset : TestPort := { code := 1, parked := false, boundary := 0 }
/-- The package at the start of a cold start: every register at its value after cold start, memory all zeros with nothing listed,
no command waiting. -/
def State.reset : State :=
  { pending := [], clk := 0, free := 0, sent := [], held := [], regs := [], latchHost := [], latchMgmt := [], mem := [],
    day := DayUnit.reset, banks := [], host := HostIf.reset, rings := [], ctxs := [], flt := FltUnit.reset, boot := Boot.reset,
    mgt := MgtUnit.reset
    , atp := AtpUnit.reset
    , ing := IngestUnit.reset
    , work := WorkUnit.reset
    , maps := UnitMaps.reset
    , cmb := CombineUnit.reset
    , lnk := LinkUnit.reset
    , col := ColUnit.reset
    , pwr := PwrUnit.reset
    , rep := RepairUnit.reset
    , test := TestPort.reset
  }

end Sys2Proof.Machine
end

