-- ==== Sys2Proof/Machine/Flags.lean ====
section
/-! DEFINITION. Machine/Flags.lean: reading and writing the state's tables and registers, the package's position on the Day, what
leaves the package, and how a condition is reported: event flags, event entries, the alert line, fault records and the two views
of a unit. -/

namespace Sys2Proof.Machine

/-! ### Tables and registers -/

/-- What a step answers. -/
abbrev Result := Host.Outcome State Fault Refusal

/-- The register at an offset of BAR 0, as stored. -/
def State.reg (s : State) (off : Nat) : Word := tabGet regDefault s.regs off

/-- The state with a stored register changed. -/
def State.setReg (s : State) (off : Nat) (w : Word) : State := { s with regs := tabSet regDefault s.regs off w }

/-- Field [lo+len-1:lo] of a stored register. -/
def State.fld (s : State) (off lo len : Nat) : Nat := wfld (s.reg off) lo len

/-- One bit of a stored register. -/
def State.rbit (s : State) (off i : Nat) : Bool := bitAt (s.reg off).toNat i

/-- The state with one field of a stored register changed. -/
def State.setFld (s : State) (off lo len v : Nat) : State := s.setReg off (wput (s.reg off) lo len v)

/-- A counter register of `w` bits grows by `n` and holds at its largest value. -/
def State.bump (s : State) (off w n : Nat) : State :=
  s.setReg off (BitVec.ofNat 32 (satAdd (2 ^ w - 1) (s.reg off).toNat n))

/-- A 64-bit quantity in an `_LO` and `_HI` pair (R12). -/
def State.reg64 (s : State) (off : Nat) : Nat := (s.reg off).toNat + 2 ^ 32 * (s.reg (off + 4)).toNat

/-- The state with a 64-bit pair changed. -/
def State.setReg64 (s : State) (off v : Nat) : State :=
  (s.setReg off (BitVec.ofNat 32 v)).setReg (off + 4) (BitVec.ofNat 32 (v / 2 ^ 32))

/-- Every stored register of row `k` of Table 17.4 returns to its value after cold start. -/
def State.resetRow (s : State) (k : Nat) : State := { s with regs := s.regs.filter (fun e => !inLostRow k e.1) }

/-- Context `c`. -/
def State.ctx (s : State) (c : Nat) : Ctx := tabGet (fun _ => Ctx.reset) s.ctxs c

/-- The state with context `c` changed. -/
def State.setCtx (s : State) (c : Nat) (x : Ctx) : State := { s with ctxs := tabSet (fun _ => Ctx.reset) s.ctxs c x }

/-- The rings of context `c`. -/
def State.ring (s : State) (c : Nat) : Ring := tabGet (fun _ => Ring.reset) s.rings c

/-- The state with the rings of context `c` changed. -/
def State.setRing (s : State) (c : Nat) (r : Ring) : State := { s with rings := tabSet (fun _ => Ring.reset) s.rings c r }

/-- Bank die `n`. -/
def State.bank (s : State) (n : Nat) : Bank := tabGet (fun _ => Bank.reset) s.banks n

/-- The state with bank die `n` changed. -/
def State.setBank (s : State) (n : Nat) (b : Bank) : State := { s with banks := tabSet (fun _ => Bank.reset) s.banks n b }

/-- The lease of resource `res` (0x0001 or 0x0100 + s). -/
def State.lease (s : State) (res : Nat) : Lease := tabGet (fun _ => Lease.reset) s.flt.leases res

/-- The state with the lease of resource `res` changed. -/
def State.setLease (s : State) (res : Nat) (l : Lease) : State :=
  { s with flt := { s.flt with leases := tabSet (fun _ => Lease.reset) s.flt.leases res l } }

/-- The epoch of a resource (R449); 0 before its first grant. -/
def State.epoch (s : State) (res : Nat) : Nat := tabGet (fun _ => 0) s.flt.epochs res

/-- The state with a resource's epoch set. -/
def State.setEpoch (s : State) (res e : Nat) : State :=
  { s with flt := { s.flt with epochs := tabSet (fun _ => 0) s.flt.epochs res e } }

/-- The epoch after `e`: never 0 (R449). -/
def nextEpoch (e : Nat) : Nat := if e + 1 ≥ 2 ^ 32 then 1 else e + 1

/-- A free value (assumption 2) and the state with the counter advanced. -/
def State.takeFree (s : State) : Nat × State := (Config.freeNat s.free, { s with free := s.free + 1 })

/-- Every context number. -/
def ctxRange : List Nat := List.range 64

/-! ### The position on the Day -/

/-- The tick at which Minute `m` of the Day under way starts (R33). -/
def DayUnit.minuteStart (d : DayUnit) (m : Nat) : Int :=
  d.dayStart + ((d.acc * 1440 + m * d.pd) / 184320 : Nat)

/-- The tick at which the next Day starts (R33). -/
def DayUnit.nextDayStart (d : DayUnit) : Int := d.dayStart + ((d.acc + d.pd) / 128 : Nat)

/-- Length of the Day under way in ns (R33). -/
def DayUnit.dayNs (d : DayUnit) : Int := d.nextDayStart - d.dayStart

/-- The tick of this package's clock at which a position stands by this package's count. -/
def DayUnit.tickOf (d : DayUnit) (p : DayPos) : Int := d.minuteStart p.minute + ((p.day : Int) - d.day) * d.dayNs + p.tick

/-- The position that stands on tick `t` by this package's count: the last Minute of the Day under way that has begun on it (R33); a tick outside
that Day counts whole Days of its length on or back. -/
def DayUnit.posAt (d : DayUnit) (t : Int) : DayPos :=
  let k := (t - d.dayStart) / d.dayNs
  let x := t - k * d.dayNs
  let m := min 1439 (((x - d.dayStart + 1) * 184320 - d.acc * 1440 - 1) / d.pd).toNat
  { day := (((d.day : Int) + k) % (2 ^ 48 : Nat)).toNat, minute := m, tick := (x - d.minuteStart m).toNat }

/-- A position as a time message holds it: a Day stamp and ns (R366). -/
def posArgs (p : DayPos) : List Nat := [p.day + p.minute * 2 ^ 48, p.tick]

/-- The number of whole Minutes from Minute 0 of Day 0 to the Minute under way: the position as one number. -/
def DayUnit.absMin (d : DayUnit) : Nat := d.day * 1440 + d.minute

/-- The absolute Minute of the installation position. -/
def State.absMin (s : State) : Nat := s.day.absMin

/-- The sub-Minute tick (R6), as a field of 14 bits shows it. -/
def State.tick (s : State) : Nat := ((s.clk : Int) - s.day.minuteStart s.day.minute).toNat % 2 ^ 14

/-- The Day stamp of the Minute under way, installation time (Table 2.1). -/
def State.stamp (s : State) : Nat := s.day.day % 2 ^ 48 + s.day.minute * 2 ^ 48

/-- The absolute Minute in local time (R8): installation time advanced by the ACTIVE Hour offset. -/
def State.localMin (s : State) : Nat := s.absMin + s.day.hourOfs * 60

/-- The Minute of the local Day. -/
def State.localMinute (s : State) : Nat := s.localMin % 1440

/-- A stamp's position as an absolute installation Minute (R43): local time less the ACTIVE offset; a position before Day 0 is
taken as one that has begun. -/
def stampMin (hourOfs stamp : Nat) : Nat :=
  let m := bitsOf stamp 0 48 * 1440 + bitsOf stamp 48 11
  if bitAt stamp 63 then m - hourOfs * 60 else m

/-- Whether a stamp breaks R42: MINUTE above 1439 or a reserved bit set. -/
def stampBad (stamp : Nat) : Bool := decide (1439 < bitsOf stamp 48 11) || decide (bitsOf stamp 59 4 ≠ 0)

/-! ### What leaves the package -/

/-- Whether the Host Interface may write to the host: it has power, it has not failed itself (R127), and no host
reset, warm reset or D3hot holds it (R94, R129). -/
def State.hostAlive (s : State) : Bool :=
  decide (s.pwr.state ≠ .midnight) && !s.boot.hostReset && !s.boot.warm && !s.host.d3hot && !s.host.perst && s.boot.rstN && !s.host.dead

/-- Something leaves the package. -/
def State.send (s : State) (o : Out) : State := { s with sent := o :: s.sent }

/-- A write or message to the host: sent, or held while the link is down for a short time (R128). -/
def State.toHost (s : State) (o : Out) : State :=
  if s.host.linkUp then s.send o else { s with held := o :: s.held }

/-- The PASID that host accesses of context `c` carry (Table 4.15). -/
def State.pasid (s : State) (c : Nat) : Option Nat :=
  if s.rbit (0x101C + 0x20 * c) 31 then some (s.fld (0x101C + 0x20 * c) 0 20) else none

/-- A message of vector `v` that waits for the link. -/
def Out.isVector (v : Nat) : Out → Bool
  | .interrupt w _ _ => w == v
  | _ => false

/-- Vector `v` is signalled (R112): its message is sent, or its pending bit set while its Mask Bit or Function Mask is 1 or MSI-X is not enabled. At most
one message per vector waits for the link, behind every entry it covers (R113, R120). -/
def State.signalVector (s : State) (v : Nat) : State :=
  if s.rbit (0xF000C + 0x10 * v) 0 || s.host.msixMask || !s.host.msixOn then
    s.setReg (0xF1000 + 4 * (v / 32)) (s.reg (0xF1000 + 4 * (v / 32)) ||| BitVec.ofNat 32 (2 ^ (v % 32)))
  else
    ({ s with held := s.held.filter (fun o => !o.isVector v) }).toHost
      (.interrupt v (s.reg64 (0xF0000 + 0x10 * v)) (s.reg (0xF0008 + 0x10 * v)).toNat)

/-! ### Event entries and the alert line -/

/-- Entries of the event ring. -/
def State.evqSize (s : State) : Nat := 2 ^ s.fld 0x230 0 4

/-- Whether the event ring is full (R115's rule on the event ring). -/
def State.evqFull (s : State) : Bool := decide (s.evqSize ≤ (s.host.evqTail + 65536 - s.host.evqHead) % 65536)

/-- The four words of an event entry with its PHASE (Table 4.8). -/
def Event.words (e : Event) (phase : Nat) : List Nat :=
  [e.source * 2 ^ 56 + e.code * 2 ^ 40 + e.ctx * 2 ^ 16 + phase, e.detail, e.when_, e.seq % 2 ^ 32]

/-- The PHASE of entry `i` of a ring of `n` entries: 1 on the first pass after ENABLE (R106). -/
def phaseOf (i n : Nat) : Nat := if i / n % 2 = 0 then 1 else 0

/-- The bytes of a list of 64-bit words. -/
def wordBytes (ws : List Nat) : List Byte := ws.flatMap (leBytes 8)

/-- One waiting event is written to the event ring when it is enabled and has room, and vector 64 is signalled (R110, R112). Events raised while ENABLE is
0 wait in the queue and are written once it is set (DESIGN CHOICE: the spec does not say, assumption 114). -/
def State.writeEvent (s : State) : State :=
  match s.host.evq with
  | [] => s
  | e :: rest =>
    if s.rbit 0x230 31 && s.hostAlive && !s.evqFull then
      let i := s.host.evqTail
      let a := s.reg64 0x228 + i % s.evqSize * 32
      let s := { s with host := { s.host with evq := rest, evqTail := (i + 1) % 65536 } }
      (s.toHost (.hostWrite none false a (wordBytes (e.words (phaseOf i s.evqSize))))).signalVector 64
    else s

/-- Every waiting event that the ring has room for is written, in order. -/
def State.writeEvents (s : State) : Nat → State
  | 0 => s
  | n + 1 => s.writeEvent.writeEvents n

/-- A device event (R110): it takes the next sequence number and enters the event queue, or is counted lost when the queue of 64
is full (R116). -/
def State.event (s : State) (source code ctx detail : Nat) : State :=
  let e : Event := { source := source, code := code, ctx := ctx, detail := detail, when_ := s.stamp, seq := s.host.evSeq }
  let h := { s.host with evSeq := (s.host.evSeq + 1) % 2 ^ 32 }
  if s.host.evq.length < 64 then
    ({ s with host := { h with evq := h.evq ++ [e] } }).writeEvents 64
  else { s with host := { h with lost := satAdd 0xFF h.lost 1 } }

/-- The management alert is raised for SOURCE `b` (or bit 0 or 16): MGT_ALERT_PEND takes the bit, and a bit that changes from 0
to 1 lets MGT_ALERT_N be driven again (R529). -/
def State.alert (s : State) (b : Nat) : State :=
  if s.rbit 0xC0008 b then s
  else
    let s := s.setFld 0xC0008 b 1 1
    { s with mgt := { s.mgt with released := false } }

/-- The level of MGT_ALERT_N: driven low while an enabled PEND bit stands and no alert response has released it (R529). -/
def State.alertLow (s : State) : Bool :=
  decide ((s.reg 0xC0008 &&& s.reg 0xC0000) ≠ 0) && !s.mgt.released

/-- No context (Table 4.8, Table 15.8). -/
def noCtx : Nat := 0xFFFF

/-- An event flag of a block is set; when it changes from 0 to 1 an event entry is written with CODE equal to the bit number, and
the alert is raised (R56, R88, R224, R375, R442, R477). -/
def State.flag (s : State) (off bit source ctx detail : Nat) : State :=
  if s.rbit off bit then s
  else ((s.setFld off bit 1 1).event source bit ctx detail).alert source

/-- An event flag whose chapter states no DETAIL for its event entry: the DETAIL is a free value (assumption 2). -/
def State.flagOpen (s : State) (off bit source ctx : Nat) : State :=
  if s.rbit off bit then s
  else
    let (k, s) := s.takeFree
    s.flag off bit source ctx (k % 2 ^ 64)

/-- An event flag whose chapter names no management alert and no DETAIL: its entry carries a free DETAIL (R224; assumption 2). -/
def State.flagQuiet (s : State) (off bit source ctx : Nat) : State :=
  if s.rbit off bit then s
  else
    let (k, s) := s.takeFree
    (s.setFld off bit 1 1).event source bit ctx (k % 2 ^ 64)

/-! ### Fault records -/

/-- The slot after `i`. -/
def nextSlot (i : Nat) : Nat := (i + 1) % 128

/-- Record `i` of the store. -/
def State.rec_ (s : State) (i : Nat) : Rec := tabGet (fun _ => Rec.reset) s.flt.records i

/-- The slot a new record takes (R472): the slot after the newest; when every slot is in use, the oldest record not pinned. -/
def FltUnit.slotFor (f : FltUnit) : Option Nat :=
  let recs := fun i => tabGet (fun _ => Rec.reset) f.records i
  let order := (List.range 128).map (fun k => (f.head + 1 + k) % 128)
  if f.records.length = 0 then some 0
  else order.find? (fun i => !(recs i).pinned || !(recs i).valid)

/-- A fault record is written as a whole (R472, Table 15.8); a record of class package is pinned and kept in non-volatile storage
(R479); overwriting and dropping are counted in FLT_CNT_9. -/
def State.putRecord (s : State) (class_ source code ctx unit detail : Nat) : State :=
  let r : Rec := { seq := s.flt.nextSeq, valid := true, pinned := decide (class_ = 2), prevBoot := false, class_ := class_,
                   source := source, code := code, ctx := ctx, unit := unit, day := s.day.day, minute := s.day.minute,
                   tick := s.tick, detail := detail }
  let keep := if class_ = 2 then (s.flt.retained ++ [r]).drop (s.flt.retained.length - 7) else s.flt.retained
  match s.flt.slotFor with
  | none =>
    (({ s with flt := { s.flt with nextSeq := s.flt.nextSeq + 1, retained := keep } }).flagOpen 0xE0008 5 15 noCtx).bump 0xE0064 32 1
  | some i =>
    let wasValid := (s.rec_ i).valid
    let s := { s with flt := { s.flt with records := tabSet (fun _ => Rec.reset) s.flt.records i r, head := i,
                                          nextSeq := s.flt.nextSeq + 1, retained := keep } }
    if wasValid then s.bump 0xE0064 32 1 else s

/-- A fault record; one of the link class counts in FLT_CNT_2 (R481). -/
def State.record (s : State) (class_ source code ctx unit detail : Nat) : State :=
  let s := s.putRecord class_ source code ctx unit detail
  if class_ = 3 then s.bump 0xE0048 32 1 else s

/-! ### The two views of a unit -/

/-- The data-path view of unit `v` (Table 15.5): true is failed. -/
def State.dpFailed (s : State) (v : Nat) : Bool := tabGet (fun _ => false) s.flt.dp v

/-- The management view of unit `v`: true is failed. -/
def State.mgmtFailed (s : State) (v : Nat) : Bool := tabGet (fun _ => false) s.flt.mgmt v

/-- A unit admits new work only while both views are healthy (R463). -/
def State.admits (s : State) (v : Nat) : Bool := !s.dpFailed v && !s.mgmtFailed v

/-- What follows when the views of unit `v` begin to differ (R464). -/
def State.disagree (s : State) (v : Nat) : State :=
  let n := tabGet (fun _ => 0) s.flt.disCnt v
  let s := { s with flt := { s.flt with disCnt := tabSet (fun _ => 0) s.flt.disCnt v (satAdd 0xFFFF n 1) } }
  (s.bump 0xE0060 32 1).flag 0xE0008 1 15 noCtx v

/-- Both views of unit `v` take these values; each change writes a record (R470, R580), and a disagreement that begins is
reported (R464). -/
def State.setViews (s : State) (v : Nat) (dp mgmt : Bool) : State :=
  let d0 := s.dpFailed v
  let m0 := s.mgmtFailed v
  let s := { s with flt := { s.flt with dp := tabSet (fun _ => false) s.flt.dp v dp,
                                        mgmt := tabSet (fun _ => false) s.flt.mgmt v mgmt } }
  let s := if dp = d0 then s else s.record 0 15 0x101 noCtx v (v + b2n dp * 512)
  let s := if mgmt = m0 then s else s.record 0 15 0x101 noCtx v (v + 256 + b2n mgmt * 512)
  if d0 = m0 ∧ dp ≠ mgmt then s.disagree v else s

/-- The data-path view of unit `v` changes. -/
def State.setDp (s : State) (v : Nat) (failed : Bool) : State := s.setViews v failed (s.mgmtFailed v)

/-- The management view of unit `v` changes. -/
def State.setMgmt (s : State) (v : Nat) (failed : Bool) : State := s.setViews v (s.dpFailed v) failed

/-! ### HUB_ERR and the reset-lost mask -/

/-- HUB_ERR takes an ignored write when it holds none (R573). -/
def State.hubErr (s : State) (off cause : Nat) (who : Reader) : State :=
  if s.rbit 0x4 31 then s
  else s.setReg 0x4 (BitVec.ofNat 32 (2 ^ 31 + (if who = .mgmt then 2 ^ 30 else 0) + cause * 2 ^ 28 + off % 2 ^ 24))

/-- A write is ignored under an RWL or state rule (R569, R573: CAUSE 1). -/
def State.locked (s : State) (off : Nat) (who : Reader) : State := s.hubErr off 1 who

/-- Whether a boot that halted in stage 1 answers reads: unless the board reference is absent or the hub PLLs failed to lock, codes 11 and 12 (R71, R516;
DEDUCED: assumption 125). -/
def Boot.stopsServed (b : Boot) : Bool := b.halted && decide (b.stage = 1) && decide (b.code ≠ 11) && decide (b.code ≠ 12)

/-- Whether the host reaches BAR 0: from the end of boot stage 1, with the link up and no reset or Midnight in the way (R95, R503). In D3hot it is not
served, as PCI Express has it for a function in D3hot; R95 does not name that state (PRESUMED: assumption 114). -/
def State.barServed (s : State) : Bool :=
  s.host.linkUp && (decide (2 ≤ s.boot.stage) || s.boot.stopsServed) && decide (s.pwr.state ≠ .midnight) && !s.boot.hostReset && !s.host.perst &&
    !s.host.d3hot && s.boot.powered && s.boot.rstN

/-- A write to either register of a pair releases its latches (R12, R501). -/
def State.dropLatches (s : State) (off : Nat) : State :=
  let gone := fun (e : Nat × Option Word) => decide (e.1 = off) || (partners off).contains e.1
  { s with latchHost := s.latchHost.filter (fun e => !gone e), latchMgmt := s.latchMgmt.filter (fun e => !gone e) }

/-- A register write by `who` at `off` acts through `f` when it reaches its register: not while a warm reset holds every write but those
to the reset-lost mask (R507). It releases the latches of its pair (R12). -/
def State.onWrite (s : State) (off : Nat) (who : Reader) (f : State → State) : State :=
  if who = .host ∧ !s.barServed then s
  else if s.boot.warm ∧ off ≠ 0x510 ∧ off ≠ 0x514 then s.locked off who
  else f (s.dropLatches off)

/-- Bit `k` of the reset-lost mask is set (R508). -/
def State.lostBit (s : State) (k : Nat) : State :=
  if k < 32 then s.setFld 0x510 k 1 1 else s.setFld 0x514 (k - 32) 1 1

/-- Rows of Table 17.4 return to default and are flagged (R508). -/
def State.loseRows (s : State) (ks : List Nat) : State := ks.foldl (fun s k => (s.resetRow k).lostBit k) s

end Sys2Proof.Machine
end

