-- ==== Sys2Proof/Machine/Operands.lean ====
section
/-! DEFINITION. Machine/Operands.lean: the fields of a submission descriptor (Table 4.3) and the conditions that make one malformed
(R100, R101). -/

namespace Sys2Proof.Machine

/-! ### Descriptor words -/

/-- Word `i` of a descriptor. -/
def dword (ws : List DWord) (i : Nat) : Nat := (ws.getD i 0).toNat

/-- Field [lo+len-1:lo] of word `i`. -/
def dfld (ws : List DWord) (i lo len : Nat) : Nat := bitsOf (dword ws i) lo len

/-- One bit of word `i`. -/
def dbit (ws : List DWord) (i b : Nat) : Bool := bitAt (dword ws i) b

/-- KIND (Table 4.4). -/
def Desc.kind (d : Desc) : Nat := dfld d.words 0 0 8

/-- FENCE. -/
def Desc.fence (d : Desc) : Bool := dbit d.words 0 8

/-- IRQ. -/
def Desc.irq (d : Desc) : Bool := dbit d.words 0 9

/-- TIMED. -/
def Desc.timed (d : Desc) : Bool := dbit d.words 0 10

/-- NO_CPL. -/
def Desc.noCpl (d : Desc) : Bool := dbit d.words 0 11

/-- BR_OPEN. -/
def Desc.brOpen (d : Desc) : Bool := dbit d.words 0 12

/-- BR_CLOSE. -/
def Desc.brClose (d : Desc) : Bool := dbit d.words 0 13

/-- NO_REISSUE. -/
def Desc.noReissue (d : Desc) : Bool := dbit d.words 0 14

/-- TAG. -/
def Desc.tag (d : Desc) : Nat := dfld d.words 0 16 16

/-- EPOCH. -/
def Desc.epoch (d : Desc) : Nat := dfld d.words 0 32 32

/-- START, a Day stamp. -/
def Desc.startStamp (d : Desc) : Nat := dword d.words 1

/-- Descriptor kinds by number (Table 4.4). -/
def kindNop : Nat := 0x00
def kindCopy : Nat := 0x01
def kindFill : Nat := 0x02
def kindSignal : Nat := 0x03
def kindWait : Nat := 0x04
def kindLayer : Nat := 0x10
def kindGrouped : Nat := 0x11
def kindSfu : Nat := 0x12
def kindBias : Nat := 0x18
def kindVersion : Nat := 0x19
def kindCollective : Nat := 0x20
def kindForm : Nat := 0x21
def kindDawn : Nat := 0x22
def kindSend : Nat := 0x28
def kindRecv : Nat := 0x29
def kindBind : Nat := 0x30
def kindKeep : Nat := 0x31
def kindLease : Nat := 0x38
def kindAtp : Nat := 0x40

/-- Every KIND of Table 4.4. -/
def allKinds : List Nat :=
  [kindNop, kindCopy, kindFill, kindSignal, kindWait, kindLayer, kindGrouped, kindSfu, kindBias, kindVersion, kindCollective,
   kindForm, kindDawn, kindSend, kindRecv, kindBind, kindKeep, kindLease, kindAtp]

/-- The kinds that may stand inside a bracket (Table 4.4). -/
def bracketKinds : List Nat := [kindBias, kindVersion, kindForm, kindLease, kindAtp]

/-- The kinds that act under the epoch of a leased resource. -/
def epochKinds : List Nat := [kindBias, kindVersion, kindCollective, kindForm, kindDawn, kindLease]

/-- The kinds whose work engines run in groups (R141); every other kind is run by the hub's own units. -/
def groupKinds : List Nat := [kindLayer, kindGrouped, kindSfu]

/-! ### Malformed descriptors -/

/-- The byte offsets of the conditions that hold; the lowest is the DETAIL (R100). -/
def malformedAt (checks : List (Bool × Nat)) : Option Nat :=
  match (checks.filter (fun c => c.1)).map (fun c => c.2) with
  | [] => none
  | d :: ds => some (ds.foldl min d)

/-- The lowest byte of a 64-bit word in which a bit outside `used` is set, as an offset from the word. -/
def rsvByte (v used : Nat) : Option Nat :=
  (List.range 8).find? (fun b => decide (bitsOf v (8 * b) 8 &&& (255 - bitsOf used (8 * b) 8) ≠ 0))

/-- The reserved-field check of words given with the bits their fields take: the offset of the lowest-addressed byte of the
descriptor that holds a non-zero reserved bit. -/
def rsvChecks (ws : List DWord) (used : List (Nat × Nat)) : List (Bool × Nat) :=
  used.map (fun p => match rsvByte (dword ws p.1) p.2 with
    | some b => (true, 8 * p.1 + b)
    | none => (false, 0))

/-- All 64 bits of a word. -/
def allBits64 : Nat := 2 ^ 64 - 1

/-- The header checks of R100 for a kind of Table 4.4 (assumption 12): EPOCH, START, the reserved bit. -/
def headerChecks (ws : List DWord) : List (Bool × Nat) :=
  [ (!allKinds.contains (dfld ws 0 0 8), 0),
    (decide (dfld ws 0 32 32 ≠ 0) && !epochKinds.contains (dfld ws 0 0 8), 4),
    (!dbit ws 0 10 && decide (dword ws 1 ≠ 0), 8),
    (dbit ws 0 10 && stampBad (dword ws 1), 8),
    (dbit ws 0 15, 1) ]

/-- The bracket rules of R101 (assumption 12): `inside` says that a bracket of this context is open. The offending field of a kind that may not stand
there is KIND. -/
def bracketChecks (inside : Bool) (ws : List DWord) : List (Bool × Nat) :=
  let op := dbit ws 0 12
  let cl := dbit ws 0 13
  let inBr := inside || op
  [ (inside && op, 1),
    (cl && !inBr, 1),
    (inBr && !bracketKinds.contains (dfld ws 0 0 8), 0),
    (inBr && (dbit ws 0 8 || dbit ws 0 10 || dbit ws 0 11), 1) ]

/-! ### Structures in memory -/

/-- The 64-bit words that bytes spell. -/
def bytesWords : Nat → List Byte → List Nat
  | 0, _ => []
  | n + 1, bs => leNat (bs.take 8) :: bytesWords n (bs.drop 8)

/-- The 16-bit words that bytes spell. -/
def bytesHalves : Nat → List Byte → List Nat
  | 0, _ => []
  | n + 1, bs => leNat (bs.take 2) :: bytesHalves n (bs.drop 2)

end Sys2Proof.Machine
end

