-- ==== Sys2Proof/Machine/Ops.lean ====
section
/-! DEFINITION. Machine/Ops.lean: the named operations that several commands share: device memory, completions, leases and fences,
context teardown and context-class faults, package-class faults. -/

namespace Sys2Proof.Machine

/-! ### Device memory (R73, R75, R90) -/

/-- What a byte that nothing has written reads as: memory is filled with zeros at bring-up (R73 step 6). -/
def memDefault : Nat → Byte := fun _ => 0

/-- One byte of device memory at a physical address. -/
def State.byte (s : State) (a : Nat) : Byte := tabGet memDefault s.mem a

/-- The state with one byte of device memory written. -/
def State.setByte (s : State) (a : Nat) (b : Byte) : State := { s with mem := tabSet memDefault s.mem a b }

/-- `n` bytes of device memory from a physical address. -/
def State.bytes (s : State) (a n : Nat) : List Byte := (List.range n).map (fun i => s.byte (a + i))

/-- The state with consecutive bytes of device memory written. -/
def State.setBytes (s : State) (a : Nat) : List Byte → State
  | [] => s
  | b :: bs => (s.setByte a b).setBytes (a + 1) bs

/-- Every byte in [lo, hi) returns to zero. -/
def State.zeroRange (s : State) (lo hi : Nat) : State :=
  { s with mem := s.mem.filter (fun e => decide (e.1 < lo) || decide (hi ≤ e.1)) }

/-- Where a physical address lies (Table 3.7). -/
inductive Place where
  | stack (bank unit addr : Nat)
  | bankPad (bank : Nat)
  | hubPad
  | hole
  deriving DecidableEq, Repr

/-- The range of Table 3.7 that holds a physical address, with its stack and the address in that stack under R76. -/
def placeOf (pa : Nat) : Place :=
  if pa < 0x3000000000 then
    let bank := pa / 0xC00000000
    let off := pa % 0xC00000000
    .stack bank (2 * bank + bitsOf off 12 1) (off / 2 ^ 13 * 2 ^ 12 + off % 2 ^ 12)
  else if 0x4000000000 ≤ pa ∧ pa < 0x4010000000 then
    let n := (pa - 0x4000000000) / 0x4000000
    if (pa - 0x4000000000) % 0x4000000 < 0x3000000 ∧ n < 4 then .bankPad n else .hole
  else if 0x4010000000 ≤ pa ∧ pa < 0x4012000000 then .hubPad
  else .hole

/-- The bank die a place lies on; none on the hub. -/
def Place.bank : Place → Option Nat
  | .stack b _ _ => some b
  | .bankPad b => some b
  | _ => none

/-- The base of the hub scratchpad. -/
def hubPadBase : Nat := 0x4010000000

/-! ### Completions (R105 to R117) -/

/-- Entries of the completion ring of context `c`. -/
def State.cqSize (s : State) (c : Nat) : Nat := 2 ^ s.fld (0x1010 + 0x20 * c) 20 4

/-- Entries of the submission ring of context `c`. -/
def State.sqSize (s : State) (c : Nat) : Nat := 2 ^ s.fld (0x1010 + 0x20 * c) 24 4

/-- Whether the completion ring has room: not full, and its CQ_HEAD not ahead of CQ_TAIL (R115). -/
def State.cqRoom (s : State) (c : Nat) : Bool :=
  decide ((((s.ring c).cqTail + 65536 - (s.ring c).cqHead) % 65536) < s.cqSize c)

/-- The four words of a completion entry (Table 4.6). -/
def Cpl.words (e : Cpl) (sqHead phase : Nat) : List Nat :=
  [e.tag * 2 ^ 48 + e.code * 2 ^ 40 + e.kind * 2 ^ 32 + sqHead % 2 ^ 16 * 2 ^ 16 + phase, e.detail, e.when_,
   e.epoch % 2 ^ 32 * 2 ^ 32 + min e.energy 0xFFFFFFFF]

/-- The ring's vector is signalled, and the count of unsignalled completions starts again (R112). -/
def State.signalRing (s : State) (c : Nat) : State :=
  let r := s.ring c
  (s.setRing c { r with unsignalled := 0, firstUnsig := none }).signalVector (s.fld (0x1010 + 0x20 * c) 0 6)

/-- A DRAINING ring whose fetch window is empty, with no fetch under way, enters CLOSED (R119). -/
def State.drained (s : State) (c : Nat) : State :=
  let r := s.ring c
  if r.state = .draining ∧ r.window = [] ∧ r.fetching = 0 then s.setRing c { r with state := .closed } else s

/-- The oldest waiting completion of context `c` is written to its ring in one write, when there is room (R106), and the vector is
signalled as R112 says. Its fetch-window credit returns. -/
def State.writeCpl (s : State) (c : Nat) : State :=
  match (s.ring c).reserve with
  | [] => s
  | e :: rest =>
    if s.hostAlive && s.cqRoom c then
      let r := s.ring c
      let i := r.cqTail
      let a := s.reg64 (0x1008 + 0x20 * c) + i % s.cqSize c * 32
      let n := r.unsignalled + 1
      let cnt := s.fld (0x1010 + 0x20 * c) 8 8
      let sig := e.irq || decide (0x40 ≤ e.code) || (decide (cnt ≠ 0) && decide (cnt ≤ n))
      let first := match r.firstUnsig with
        | some t => some t
        | none => some s.clk
      let s1 := (s.setRing c { r with reserve := rest, cqTail := (i + 1) % 65536, unsignalled := n, firstUnsig := first,
                                      window := r.window.filter (fun d => decide (d.idx ≠ e.idx)) }).toHost
                  (.hostWrite (s.pasid c) false a (wordBytes (e.words r.sqHead (phaseOf i (s.cqSize c)))))
      (if sig then s1.signalRing c else s1).drained c
    else s

/-- Every waiting completion of context `c` that has room is written, in order. -/
def State.writeCpls (s : State) (c : Nat) : Nat → State
  | 0 => s
  | n + 1 => (s.writeCpl c).writeCpls c n

/-- Descriptor `idx` of context `c`, if it is in the fetch window. -/
def State.desc (s : State) (c idx : Nat) : Option Desc := (s.ring c).window.find? (fun d => d.idx == idx)

/-- The state with one descriptor of the window changed. -/
def State.setDesc (s : State) (c : Nat) (d : Desc) : State :=
  let r := s.ring c
  s.setRing c { r with window := r.window.map (fun x => if x.idx = d.idx then d else x) }

/-! ### Reservations of the Power Ledger (R423) -/

/-- What the reservations that `p` names hold of the Hour. -/
def Ledger.sum (l : Ledger) (p : Reservation → Bool) : Nat := ((l.reserved.filter p).map (fun r => r.est)).foldl (· + ·) 0

/-- The reservation of descriptor `idx` of context `c`. -/
def Reservation.ofDesc (c idx : Nat) (r : Reservation) : Bool := decide (r.kind = 1) && decide (r.a = c) && decide (r.b = idx)

/-- Reservations are released: what they hold returns to the remaining allowance (R423), less what the Hour never had for them (R147). -/
def State.unreserve (s : State) (p : Reservation → Bool) : State :=
  let l := s.pwr.ledger
  if l.reserved.any p then
    let n := l.sum p
    ({ s with pwr := { s.pwr with ledger := { l with reserved := l.reserved.filter (fun r => !p r), short := l.short - n } } }).setReg 0x20018
      (BitVec.ofNat 32 ((s.reg 0x20018).toNat + (n - l.short)))
  else s

/-- The work of a descriptor has ended with an outcome; what is left of its reservation is released (R423), and its completion follows once its
writes are acknowledged (R105). -/
def State.endDesc (s : State) (c idx code detail epoch : Nat) : State :=
  let s := s.unreserve (Reservation.ofDesc c idx)
  match s.desc c idx with
  | some d => s.setDesc c { d with phase := .ended code detail epoch }
  | none => s

/-- An INGEST_BIND that completes takes effect: its stream is live from the next frame on (R210). -/
def State.bindLive (s : State) (c idx : Nat) : State :=
  { s with ing := { s.ing with binds := s.ing.binds.map (fun e =>
      (e.1, e.2.map (fun b => if b.ctx = c ∧ b.due = some idx then { b with due := none, since := s.clk } else b))) } }

/-- The completion of descriptor `d` enters the reserve and is written when there is room; under NO_CPL a code below 0x10 writes
no entry and only the credit returns (R105, R113, R117). Its EPOCH is the descriptor's, or for STALE_EPOCH the resource's (Table 4.6). -/
def State.complete (s : State) (c : Nat) (d : Desc) (code detail epoch : Nat) : State :=
  let s := s.bindLive c d.idx
  let r := s.ring c
  let r := match d.outBase with
    | some b => if d.kind = kindLayer ∧ 0x10 ≤ code then { r with failed := some (d.idx, b, code, detail) } else r
    | none => r
  if d.noCpl && decide (code < 0x10) then
    (s.setRing c { r with window := r.window.filter (fun x => decide (x.idx ≠ d.idx)) }).drained c
  else
    let e : Cpl := { idx := d.idx, tag := d.tag, code := code, kind := d.kind, detail := detail, when_ := s.stamp,
                     epoch := if code = 0x20 then epoch else d.epoch, energy := d.energy, irq := d.irq }
    let r := { r with window := r.window.map (fun x => if x.idx = d.idx then { x with phase := .placed } else x),
                      reserve := r.reserve ++ [e] }
    (s.setRing c r).writeCpls c 32

/-- An entry that no descriptor caused: TAG 0 and KIND 0xFF (Table 4.6, R122, R125). -/
def State.completeNone (s : State) (c code detail : Nat) : State :=
  let r := s.ring c
  let e : Cpl := { idx := 2 ^ 16, tag := 0, code := code, kind := 0xFF, detail := detail, when_ := s.stamp, epoch := 0,
                   energy := 0, irq := false }
  (s.setRing c { r with reserve := r.reserve ++ [e] }).writeCpls c 32

/-! ### Leases, epochs and fences (R448 to R455, R474) -/

/-- The sequence lock's identifier (Table 15.2). -/
def resLock : Nat := 1

/-- The identifier of the write lease of bias set `k`. -/
def resSet (k : Nat) : Nat := 0x100 + k

/-- Write access to a resource is granted to a context with a new epoch, for `n` Minutes (R449, R454). -/
def State.grantLease (s : State) (res c gen n : Nat) : State :=
  (s.setEpoch res (nextEpoch (s.epoch res))).setLease res
    { s.lease res with holder := some (c, gen), expire := s.absMin + n + 1 }

/-- The first waiting TAKE of a free resource is granted, and its descriptor ends OK, or OK_LATE (R52, R454, R474). -/
def State.grantNext (s : State) (res : Nat) : State :=
  match (s.lease res).waiting with
  | [] => s
  | (c, gen, idx, n) :: rest =>
    let s := (s.setLease res { s.lease res with waiting := rest }).grantLease res c gen n
    s.endDesc c idx (b2n (((s.desc c idx).map (fun d => d.late)).getD false)) (n * 2 ^ 32 + s.epoch res) 0

/-- A fence (R450): the epoch is bumped, the resource freed at once, and a record of class none written; the next waiting TAKE is
granted in the same step (R474). -/
def State.fence (s : State) (res ctx : Nat) : State :=
  let s := (s.setEpoch res (nextEpoch (s.epoch res))).setLease res { s.lease res with holder := none, expire := 0 }
  (s.record 0 15 0x100 ctx 0x204 res).grantNext res

/-- A use that carries an old epoch is refused and counted (R450). -/
def State.staleUse (s : State) (c : Nat) (d : Desc) (res : Nat) : State :=
  (s.bump 0xE0054 32 1).endDesc c d.idx 0x20 res (s.epoch res)

/-- The DETAIL of a rollback (R461). -/
def rollbackDetail (reason code detail : Nat) : Nat := reason + code * 2 ^ 8 + detail % 2 ^ 32 * 2 ^ 32

/-- The shadow is discarded and the sequence lock fenced, with the record, the count and the flag of a rollback (R460). -/
def State.rollback (s : State) (det : Nat) : State :=
  match s.flt.bracket with
  | none => s
  | some b =>
    let s := { s with flt := { s.flt with bracket := none } }
    let s := s.fence resLock b.ctx
    let s := (s.record 0 15 0x103 b.ctx 0x205 det).bump 0xE005C 32 1
    s.flagOpen 0xE0008 3 15 b.ctx

/-- A rollback that no descriptor's failure caused is reported by the first descriptor of the bracket not yet completed (R460): the
BR_CLOSE whose commit is under way, or else the next descriptor of the context to start. -/
def State.rollbackReport (s : State) (b : Bracket) (det : Nat) : State :=
  match b.closeIdx with
  | some i => s.endDesc b.ctx i 0x32 det 0
  | none => s.setRing b.ctx { s.ring b.ctx with br := .report det }

end Sys2Proof.Machine
end

