-- ==== Sys2Proof/Machine/Bridge.lean ====
section
/-! DEFINITION. Machine/Bridge.lean: Bank Bridges: frames, slots, credits and what a sender does with them (R64 to R67, R69, R81 to R84), and the
accesses that wait while a bridge cannot carry them (R82). -/

namespace Sys2Proof.Machine

/-! ### Frames (R66, R204) -/

/-- The sideband of a frame (Table 3.2) as one number. -/
def sideband (frame : List Byte) : Nat := leNat (frame.drop 512)

/-- Whether a frame of 528 bytes carries its CRC (R66). -/
def frameOk (frame : List Byte) : Bool :=
  decide (frame.length = 528) && decide (crc32c (frame.take 524) = bitsOf (sideband frame) 96 32)

/-- The receive depth of a virtual channel (Table 3.3). -/
def creditDepth : Nat → Nat
  | 0 => 256 | 1 => 512 | 2 => 64 | 3 => 256 | 4 => 256 | 5 => 32 | _ => 0

/-- The slots of a data frame with their virtual channels; 7 marks an empty slot. -/
def frameSlots (frame : List Byte) : List (Nat × List Byte) :=
  ((List.range 8).map (fun i => (bitsOf (sideband frame) (22 + 3 * i) 3, (frame.drop (64 * i)).take 64))).filter
    (fun p => decide (p.1 ≠ 7))

/-- A frame of 528 bytes as R66 lays it out, from its fields: FTYPE, SEQ, the acknowledgement (ACK_TYPE, ACK_SEQ), its slots and the two returns of
credit (channel, count). -/
def makeFrame (ftype seq : Nat) (ack : Nat × Nat) (slots : List (Nat × List Byte)) (cr0 cr1 : Nat × Nat) : List Byte :=
  let data : List Byte := (List.range 8).flatMap (fun i => match slots[i]? with
    | some x => (x.2 ++ List.replicate 64 0).take 64
    | none => List.replicate 64 0)
  let vcs := (List.range 8).foldl (fun v i => v + ((slots[i]?.map (fun x => x.1)).getD 7) * 2 ^ (3 * i)) 0
  let sb := seq % 1024 + ack.2 % 1024 * 2 ^ 10 + ack.1 % 4 * 2 ^ 20 + vcs * 2 ^ 22 + cr0.1 % 8 * 2 ^ 46 + cr0.2 % 128 * 2 ^ 49 + cr1.1 % 8 * 2 ^ 56 +
    cr1.2 % 128 * 2 ^ 59 + ftype % 8 * 2 ^ 66
  let body := data ++ leBytes 12 sb
  body ++ leBytes 4 (crc32c body)

/-! ### A bridge's directions -/

/-- The direction of a bridge that arrives at the bank die, or at the hub. -/
def Bank.dir (b : Bank) (toBank : Bool) : BridgeDir := if toBank then b.h2b else b.b2h

/-- A bank die with one direction of its bridge changed. -/
def Bank.setDir (b : Bank) (toBank : Bool) (d : BridgeDir) : Bank := if toBank then { b with h2b := d } else { b with b2h := d }

/-- Whether a direction's queue is empty and every frame acknowledged (R74, R82). -/
def BridgeDir.quiet (d : BridgeDir) : Bool := d.queue.isEmpty && d.unacked.isEmpty

/-- Whether frames travel: the bridge is UP, or it has trained and its bank die is being identified (R70). -/
def Bank.carries (b : Bank) : Bool :=
  decide (b.bridge = .up) || (decide (b.bridge = .training) && (decide (b.phase = .bringup 3) || decide (b.phase = .bringup 4)))

/-- Credits a sender holds for a virtual channel. -/
def BridgeDir.credit (d : BridgeDir) (vc : Nat) : Nat := tabGet creditDepth d.credits vc

/-- Credits change by what `k` says. -/
def BridgeDir.setCredit (d : BridgeDir) (vc k : Nat) : BridgeDir := { d with credits := tabSet creditDepth d.credits vc k }

/-- Whether a virtual channel has a slot waiting and a credit for it. -/
def BridgeDir.ready (d : BridgeDir) (vc : Nat) : Bool := d.queue.any (fun x => decide (x.1 = vc)) && decide (0 < d.credit vc)

/-- The channels in the order of service: CTL, RSP, then REQ, CMD, ACT and COL in round robin after the one served last (R67). -/
def BridgeDir.order (d : BridgeDir) : List Nat :=
  let l := [0, 2, 3, 4]
  let k := match l.findIdx? (fun v => v == d.rr) with
    | some i => i + 1
    | none => 0
  5 :: 1 :: (l.drop k ++ l.take k)

/-- The first waiting slot of a channel leaves the queue. -/
def takeSlot (vc : Nat) : List (Nat × List Byte) → Option ((Nat × List Byte) × List (Nat × List Byte))
  | [] => none
  | x :: rest => if x.1 = vc then some (x, rest) else (takeSlot vc rest).map (fun r => (r.1, x :: r.2))

/-- Up to `k` slots that the sender may send now, in the order of service, with their credits taken (R67). -/
def BridgeDir.pick (d : BridgeDir) : Nat → List (Nat × List Byte) × BridgeDir
  | 0 => ([], d)
  | k + 1 =>
    match d.order.find? d.ready with
    | none => ([], d)
    | some vc =>
      match takeSlot vc d.queue with
      | none => ([], d)
      | some (x, rest) =>
        let d := { d with queue := rest, rr := if vc = 5 ∨ vc = 1 then d.rr else vc }.setCredit vc (d.credit vc - 1)
        let r := d.pick k
        (x :: r.1, r.2)

/-- The next return of credit that a receiver owes, at most 127 slots (R67), and the direction with that much less owed. -/
def BridgeDir.owes (d : BridgeDir) : (Nat × Nat) × BridgeDir :=
  match d.owed.head? with
  | some (vc, k) => ((vc, min 127 k), { d with owed := tabSet (fun _ => 0) d.owed vc (k - min 127 k) })
  | none => ((0, 0), d)

/-! ### Sending (R66, R67, R81) -/

/-- One frame leaves in a direction of bridge `n` with this acknowledgement and up to two returns of credit: a data frame with the slots that may go
now, or an idle frame when there is none or 256 data frames are unacknowledged (R81). -/
def State.sendFrame (s : State) (n : Nat) (toBank : Bool) (ack : Nat × Nat) : State :=
  let b := s.bank n
  if !b.carries then s
  else
    let (c0, back) := (b.dir !toBank).owes
    let (c1, back) := back.owes
    let d := b.dir toBank
    let (slots, d') := if d.unacked.length < 256 then d.pick 8 else ([], d)
    if slots.isEmpty then
      (s.setBank n (b.setDir (!toBank) back)).send (.bridgeFrame n toBank (makeFrame 0 0 ack [] c0 c1))
    else
      let d' := { d' with nextSeq := (d.nextSeq + 1) % 1024, unacked := d.unacked ++ [(d.nextSeq, slots)] }
      (s.setBank n ((b.setDir (!toBank) back).setDir toBank d')).send (.bridgeFrame n toBank (makeFrame 1 d.nextSeq ack slots c0 c1))

/-- Frames leave as long as a slot may go. -/
def State.bridgeRun (s : State) (n : Nat) (toBank : Bool) : Nat → State
  | 0 => s
  | k + 1 =>
    let d := (s.bank n).dir toBank
    if (s.bank n).carries && decide (d.unacked.length < 256) && d.order.any d.ready then (s.sendFrame n toBank (0, 0)).bridgeRun n toBank k else s

/-- What a direction has waiting goes as far as credits and R81 let it. -/
def State.pumpBridge (s : State) (n : Nat) (toBank : Bool) : State := s.bridgeRun n toBank ((s.bank n).dir toBank).queue.length

/-- A packet of slots on one virtual channel enters a direction's queue (R66, R69). -/
def State.bridgePut (s : State) (n : Nat) (toBank : Bool) (vc : Nat) (slots : List (List Byte)) : State :=
  let b := s.bank n
  let d := b.dir toBank
  (s.setBank n (b.setDir toBank { d with queue := d.queue ++ slots.map (fun x => (vc, x)) })).pumpBridge n toBank

/-- Data frames not acknowledged go again, in order (R83, R84), with their own numbers. -/
def State.replayBridge (s : State) (n : Nat) (toBank : Bool) : State :=
  ((s.bank n).dir toBank).unacked.foldl (fun s f => s.send (.bridgeFrame n toBank (makeFrame 1 f.1 (0, 0) f.2 (0, 0) (0, 0)))) s

/-- A CTL message of the hub to BANK_n: a discovery request (kind 0, R70), or a Minute strobe with its position (kind 1, R85). Its format is the
on-chip network's, which the spec does not give: the bytes are free (assumption 76). -/
def State.sendCtl (s : State) (n kind day minute : Nat) : State :=
  s.bridgePut n true 5 [leBytes 64 (Config.ctlMessage kind day minute)]

/-! ### Receiving (R67, R83) -/

/-- What a good frame's acknowledgement leaves unacknowledged: an ACK takes every frame up to its number, a NACK every frame before it. -/
def BridgeDir.acked (d : BridgeDir) (ackType ackSeq : Nat) : List (Nat × List (Nat × List Byte)) :=
  if ackType = 1 then d.unacked.filter (fun f => decide (f.1 ≠ ackSeq) && decide (512 ≤ (ackSeq + 1024 - f.1) % 1024))
  else if ackType = 2 then d.unacked.filter (fun f => decide ((f.1 + 1024 - ackSeq) % 1024 < 512))
  else d.unacked

/-- Credits come back, up to the channel's depth. -/
def BridgeDir.give (d : BridgeDir) (vc k : Nat) : BridgeDir := d.setCredit vc (min (creditDepth vc) (d.credit vc + k))

/-- A good frame's acknowledgement, NACK and credits act on the direction it does not travel (R66, R67, R83): a NACK starts a replay, and what waits
for credits or for R81 goes on. -/
def State.frameReturns (s : State) (n : Nat) (toBank : Bool) (sb : Nat) : State :=
  let b := s.bank n
  let d := b.dir (!toBank)
  let d' := ({ d with unacked := d.acked (bitsOf sb 20 2) (bitsOf sb 10 10) }.give (bitsOf sb 46 3) (bitsOf sb 49 7)).give (bitsOf sb 56 3) (bitsOf sb 59 7)
  let s := s.setBank n (b.setDir (!toBank) d')
  (if bitsOf sb 20 2 = 2 then s.replayBridge n !toBank else s).pumpBridge n !toBank

/-- A data frame with the number expected is delivered once, in order (R69, R83): its slots leave the receive buffer, and the next frame back carries
the acknowledgement and the credits. -/
def State.takeFrame (s : State) (n : Nat) (toBank : Bool) (frame : List Byte) : State :=
  let b := s.bank n
  let d := b.dir toBank
  let slots := frameSlots frame
  let owed := slots.foldl (fun t x => tabSet (fun _ => 0) t x.1 (tabGet (fun _ => 0) t x.1 + 1)) d.owed
  let s := s.setBank n (b.setDir toBank { d with expect := (d.expect + 1) % 1024, nackRun := 0, owed := owed })
  (s.send (.bridgeDeliver n toBank d.expect slots)).sendFrame n (!toBank) (1, d.expect)

/-- CRC failures of the Minute under way on a bridge, both directions together (R84). -/
def Bank.crcMinute (b : Bank) : Nat := b.h2b.crcMinute + b.b2h.crcMinute

/-! ### Accesses that wait (R82, R86) -/

/-- Whether traffic over bridge `n` waits: the bridge retrains, or its bank die is in a bank reset. -/
def State.bridgeHeld (s : State) (n : Nat) : Bool := decide ((s.bank n).bridge = .retrain) || decide ((s.bank n).phase = .resetting)

/-- The bridges that an access crosses, from the hub (`die` 0) or from BANK_n (n + 1) to a physical address: none to the die's own memory. -/
def crossings (die pa : Nat) : List Nat :=
  match (placeOf pa).bank with
  | some n => if die = n + 1 then [] else if die = 0 then [n] else [die - 1, n]
  | none => if die = 0 then [] else [die - 1]

/-- The first bridge on the way of an access at which it waits. -/
def State.heldAt (s : State) (die pa : Nat) : Option Nat := (crossings die pa).find? (fun n => s.bridgeHeld n)

/-- Whether writes of context `c` wait for a bridge. -/
def State.writesHeld (s : State) (c : Nat) : Bool := (List.range 4).any (fun n => (s.bank n).waiting.any (fun w => decide (w.ctx = c)))

/-- A write waits in the queues of bridge `n` with its order kept. -/
def State.holdWrite (s : State) (n : Nat) (w : HeldWrite) : State := s.setBank n { s.bank n with waiting := (s.bank n).waiting ++ [w] }

end Sys2Proof.Machine
end

