-- ==== Sys2Proof/Machine/Switch.lean ====
section
/-! DEFINITION. Machine/Switch.lean: Eriovan ports, flits and routes: how a message of this package leaves, how a flit is passed on, and the
remote requests that remote windows make (R344 to R361, R364, R365). -/

namespace Sys2Proof

open Sys2Proof.Machine

/-! ### Messages and classes (Table 12.7) -/

/-- The class a message travels in. -/
def MsgKind.cls : MsgKind → Nat
  | .readRequest => 0
  | .writeRequest => 0
  | .response => 1
  | .refusal => 1
  | .offer => 2
  | .offerRefused => 2
  | .grant => 2
  | .busy => 2
  | .mask => 2
  | .chunk => 2
  | .ack => 2
  | .nack => 2
  | .stale => 2
  | .interrupt => 4
  | .interruptAck => 4
  | .debugAnswer => 5
  | .timeRequest => 6
  | .timeResponse => 6
  | .discoveryProbe => 6
  | .discoveryRecord => 6
  | .routeStale => 7
  | _ => 3

/-- Messages with which work begins for the Switch: requests, interrupts, offers, announcements and JOINs (R376, R463). -/
def MsgKind.begins : MsgKind → Bool
  | .readRequest => true
  | .writeRequest => true
  | .interrupt => true
  | .offer => true
  | .announce => true
  | .join => true
  | _ => false

/-- KIND of a COLLECTIVE-class message (Table 13.5). -/
def MsgKind.colCode : MsgKind → Nat
  | .colChunk => 1 | .colAck => 2 | .colNack => 3 | .announce => 4 | .go => 5 | .refuse => 6 | .formRefused => 6 | .join => 7 | .formed => 8
  | .suspect => 9 | .probe => 10 | .probeAnswer => 10 | .reform => 11 | .reformAck => 12 | .resume => 13 | _ => 0

/-- The 32-byte header of a COLLECTIVE-class message (Table 13.5): of a chunk, its ACK or NACK every field, of another message those it has; a JOIN
carries its last epoch in GEPOCH (assumption 93). -/
def Msg.colHeader (m : Msg) : List Byte :=
  let a := fun i => m.args.getD i 0
  let chunk := decide (m.kind.colCode ≤ 3)
  let seq := chunk || decide (m.kind = .announce) || decide (m.kind = .go) || decide (m.kind = .refuse)
  let f := fun (on : Bool) i => if on then a i else 0
  leBytes 1 m.kind.colCode ++ leBytes 1 (a 0) ++ leBytes 1 (f chunk 3) ++ leBytes 1 (f chunk 4) ++ leBytes 4 (if m.kind = .join then a 7 else a 1) ++
    leBytes 4 (f seq 2) ++ leBytes 4 (f chunk 5) ++ leBytes 4 m.data.length ++ leBytes 4 (f chunk 6) ++ leBytes 8 0

/-- The bytes of a message that the spec lays out: its data, after the header in class COLLECTIVE (R391). -/
def Msg.body (m : Msg) : List Byte := if m.kind.cls = 3 then m.colHeader ++ m.data else m.data

/-- Flits a message takes: 224 payload bytes each (R346). -/
def Msg.flits (m : Msg) : Nat := max 1 (ceilDiv m.body.length 224)

/-- The flits of a message of this package. -/
def Msg.toFlits (m : Msg) (dl : Bool) : List TxFlit :=
  (List.range m.flits).map (fun i =>
    { control := false, cls := m.kind.cls, dl := dl, from_ := 8, seg := b2n (i = 0) + 2 * b2n (i + 1 = m.flits), msg := some m, index := i, segs := m.flits, raw := [] })

/-- A time message: it is neither replayed nor retried (R54, R366). -/
def Msg.isTime (m : Msg) : Bool := decide (m.kind = .timeRequest) || decide (m.kind = .timeResponse)

/-- A destination as one number. -/
def Peer.number (d : Peer) : Nat := if d.route = 0 then d.pos else d.route * 2 ^ 16 + d.id

/-- The DETAIL that names a destination: its position, or port and peer (R357, R364). -/
def Peer.detail (d : Peer) : Nat := if d.route = 0 then d.pos else (5 + d.route) * 2 ^ 16 + d.id

end Sys2Proof

namespace Sys2Proof.Machine

/-! ### Ports and positions -/

/-- The state with the Link and Switch changed. -/
def State.setLnk (s : State) (l : LinkUnit) : State := { s with lnk := l }

/-- Eriovan port `p`. -/
def State.port (s : State) (p : Nat) : Port := tabGet (fun _ => Port.reset) s.lnk.ports p

/-- The state with port `p` changed. -/
def State.setPort (s : State) (p : Nat) (q : Port) : State := s.setLnk { s.lnk with ports := tabSet (fun _ => Port.reset) s.lnk.ports p q }

/-- Whether LNK_POS.VALID is 1. -/
def State.posValid (s : State) : Bool := s.lnk.pos.isSome

/-- x + 4y + 16z. -/
def positionOf (p : Nat × Nat × Nat) : Nat := p.1 + 4 * p.2.1 + 16 * p.2.2

/-- The position number x + 4y + 16z, or 128 while LNK_POS.VALID is 0 (R36). -/
def State.position (s : State) : Nat :=
  match s.lnk.pos with
  | some p => positionOf p
  | none => 128

/-- Whether capability `k` of Table 12.4 is in use on port `p`. -/
def State.capable (s : State) (p k : Nat) : Bool := bitAt (s.port p).inUse k

/-- Whether torus port `p` is UP with TIME in use (R366). -/
def State.timePort (s : State) (p : Nat) : Bool := decide ((s.port p).state = .up) && s.capable p 11

/-- The current route epoch. -/
def State.routeEpoch (s : State) : Nat := (s.reg 0x50004).toNat

/-- A flag of LNK_EVT, with the port as DETAIL (R375). -/
def State.lnkFlag (s : State) (bit p : Nat) : State := s.flag 0x60004 bit 7 noCtx p

/-- LNK_CNT_p_k grows. -/
def State.lnkCount (s : State) (p k n : Nat) : State := s.bump (0x60120 + 0x40 * p + 4 * k) 32 n

/-- Port `p` changes its STATE (Table 12.10). -/
def State.portTo (s : State) (p : Nat) (st : PortState) : State :=
  if (s.port p).state = st then s else (s.setPort p { s.port p with state := st }).lnkFlag 0 p

/-- A retrain of port `p` begins (R349): steps 4 and 5 of Table 12.2 again; traffic waits. -/
def State.retrainPort (s : State) (p : Nat) : State :=
  let s := s.setPort p { s.port p with retraining := true, nackGot := (0, 0), nackSent := (0, 0), crcMinute := 0 }
  ((s.portTo p .train).lnkCount p 5 1).lnkFlag 1 p

/-- LNK_CFG_p.RETRY_LIMIT; 0 acts as 1 (R370). -/
def State.retryLimit (s : State) (p : Nat) : Nat := max 1 (s.fld (0x60100 + 0x40 * p) 0 4)

/-- LNK_CFG_p.CRC_LIMIT; 0 turns the trigger off (R370). -/
def State.crcLimit (s : State) (p : Nat) : Nat := s.fld (0x60100 + 0x40 * p) 12 12

/-- What a NACK of number `n` makes of a run of NACKs of one number. -/
def nackRun (run : Nat × Nat) (n : Nat) : Nat × Nat := if run.2 ≠ 0 ∧ run.1 = n then (n, run.2 + 1) else (n, 1)

/-! ### Classes -/

/-- The number of a class's dateline channel. -/
def channel (cls : Nat) (dl : Bool) : Nat := 2 * cls + b2n dl

/-- Receive depth of a class per dateline channel (Table 12.7). -/
def classDepth (c : Nat) : Nat := [64, 128, 128, 192, 8, 8, 4, 16].getD c 0

/-- The depth of a channel's receive buffer. -/
def channelDepth (k : Nat) : Nat := classDepth (k / 2)

/-! ### The 256 bytes of a flit (Tables 12.5, 12.6) -/

/-- A flit from the header's bits [111:63] as one number, the credit returned (class, dateline channel, count), the acknowledgement (type, number),
SEQ, the Dawn slot and the payload. -/
def putFlit (top : Nat) (cr : Nat × Bool × Nat) (ack : Nat × Nat) (seq slot : Nat) (payload : List Byte) : List Byte :=
  let h := top * 2 ^ 63 + cr.1 % 8 * 2 ^ 60 + cr.2.2 % 128 * 2 ^ 53 + ack.1 % 4 * 2 ^ 51 + ack.2 % 4096 * 2 ^ 39 + seq % 4096 * 2 ^ 27 +
    b2n cr.2.1 * 2 ^ 26
  let body := leBytes 14 h ++ leBytes 16 slot ++ (payload ++ List.replicate 224 0).take 224
  body ++ leBytes 2 (crcT10 body)

/-- The bytes of the segment that an own flit carries. -/
def TxFlit.payload (f : TxFlit) : List Byte :=
  match f.msg with
  | some m => (m.body.drop (224 * f.index)).take 224
  | none => []

/-- A flit as it is replayed: the sequence number of a time message goes out without the message (R366; assumption 124). -/
def TxFlit.again (f : TxFlit) : TxFlit := if (f.msg.map Msg.isTime).getD false then { f with msg := none } else f

/-- A field of a flit's header (Table 12.6). -/
def hdrFld (flit : List Byte) (lo len : Nat) : Nat := bitsOf (leNat (flit.take 14)) lo len

/-- Bits [111:63] of the header with which flit `f` leaves port `p`: of a flit passed on those received, with its DATELINE. -/
def State.flitTop (s : State) (p : Nat) (f : TxFlit) : Nat :=
  if f.from_ < 8 then hdrFld f.raw 80 32 * 2 ^ 17 + b2n f.dl * 2 ^ 16 + hdrFld f.raw 63 16
  else
    let to_ := (f.msg.map (fun m => m.dst)).getD ⟨0, 0, 0⟩
    let torus := decide (p < 6)
    let tag := if torus || s.capable p 6 then (f.msg.map (fun m => m.epoch)).getD 0 % 4 else 0
    (if f.control then 2 else 1) + f.cls * 2 ^ 3 + f.payload.length * 2 ^ 6 + f.seg * 2 ^ 14 + b2n f.dl * 2 ^ 16 + tag * 2 ^ 17 +
      (if torus then s.position % 128 * 2 ^ 19 + to_.pos % 128 * 2 ^ 26 else to_.id % 2 ^ 16 * 2 ^ 33)

/-- The bytes with which flit `f` leaves port `p` under a sequence number. -/
def State.flitBytes (s : State) (p : Nat) (f : TxFlit) (seq : Nat) : List Byte :=
  putFlit (s.flitTop p f) (0, false, 0) (0, 0) seq 0 (if f.from_ < 8 then (f.raw.drop 30).take 224 else f.payload)

/-- An IDLE flit out of port `p` while it is UP, with a credit, an acknowledgement or a Dawn slot (R344, R346, R348). -/
def State.sendIdle (s : State) (p : Nat) (cr : Nat × Bool × Nat) (ack : Nat × Nat) (slot : Nat) : State :=
  if (s.port p).state = .up then (s.send (.flit p none 0 (putFlit 0 cr ack 0 slot []))).lnkCount p 0 1 else s

/-- An acknowledgement of number `n`, or a NACK that names it, leaves port `p` (R348). -/
def State.sendAck (s : State) (p : Nat) (nack : Bool) (n : Nat) : State := s.sendIdle p (0, false, 0) (if nack then 2 else 1, n) 0

/-- A Dawn slot leaves port `p` (R344, R399). -/
def State.sendSlot (s : State) (p v : Nat) : State := s.sendIdle p (0, false, 0) (0, 0) v

/-- The credit of a flit that has left the receive buffer of port `p` goes back at once, or once the port is UP again (R346). -/
def State.giveCredit (s : State) (p cls : Nat) (dl : Bool) : State :=
  if (s.port p).state = .up then s.sendIdle p (cls, dl, 1) (0, 0) 0
  else
    let q := s.port p
    let k := channel cls dl
    s.setPort p { q with owed := tabSet (fun _ => 0) q.owed k (tabGet (fun _ => 0) q.owed k + 1) }

/-- The credits that port `p` owes go back, at most 127 with a flit. -/
def State.payCredits (s : State) (p : Nat) : State :=
  let owed := (s.port p).owed
  owed.foldl (fun s x =>
    let s := s.sendIdle p (x.1 / 2, decide (x.1 % 2 = 1), min 127 x.2) (0, 0) 0
    if 127 < x.2 then s.sendIdle p (x.1 / 2, decide (x.1 % 2 = 1), x.2 - 127) (0, 0) 0 else s)
    (s.setPort p { s.port p with owed := [] })

/-! ### Training records and CONFIRM (R341) -/

/-- Our own training record (R341): part kind, revision, capabilities, port, identity, largest width and rate in Mb/s, coordinates and route epoch if
known. -/
def State.trainRecord (s : State) (p : Nat) : List Nat :=
  [3, 4, 0xFFF, p, Config.selfId.toNat, 8, 112000] ++ (match s.lnk.pos with
    | some (x, y, z) => [1, x, y, z]
    | none => [0, 0, 0, 0]) ++ (if s.lnk.table = RouteTable.empty then [0, 0] else [1, s.routeEpoch])

/-- Port `p` enters DETECT, and its training records go out until the peer's are received (Table 12.2 step 1). -/
def State.enterDetect (s : State) (p : Nat) : State := let s := s.portTo p .detect; s.send (.train p (s.trainRecord p))

/-- The credits a port gives at CONFIRM: the depth of each class's receive buffers, and none for a bridge port's dateline channel 1 (Table 12.7). -/
def ownCredits (p : Nat) : List Nat := (List.range 16).map (fun k => if 6 ≤ p ∧ k % 2 = 1 then 0 else channelDepth k)

/-- Port `p` enters CONFIRM and tells the capabilities in use, its initial credits and its replay window (Table 12.2 step 5). -/
def State.enterConfirm (s : State) (p : Nat) : State :=
  (s.portTo p .confirm).send (.confirm p (s.port p).inUse (ownCredits p) 512)

/-! ### Sending (R346, R348) -/

/-- The first waiting flit of a channel that may go: the channel's open message goes on before another begins, and a credit is held. -/
def Port.ready (q : Port) (cls : Nat) (dl : Bool) : Option TxFlit :=
  let k := channel cls dl
  let o := tabGet (fun _ => 0) q.open_ k
  if tabGet (fun _ => 0) q.used k < tabGet channelDepth q.limits k then
    q.queue.find? (fun f => decide (f.cls = cls) && f.dl == dl && (o == 0 || o == f.from_ + 1))
  else none

/-- The order in which classes are tried: TIME, RETURN, MEM_RSP, then the others round robin (R346). -/
def Port.order (q : Port) : List Nat :=
  [6, 7, 1] ++ ([0, 2, 3, 4, 5].dropWhile (fun c => decide (c < q.rr))) ++ ([0, 2, 3, 4, 5].takeWhile (fun c => decide (c < q.rr)))

/-- Whether the replay buffer and the peer's window have room for one more flit (R348, Table 12.2). -/
def Port.room (q : Port) : Bool := decide (q.state = .up) && decide (q.unacked.length < min 512 q.window)

/-- The next flit port `p` sends; until the coordinates are learnt (`all` false) only time and discovery messages go (R367). -/
def Port.next (q : Port) (all : Bool) : Option TxFlit :=
  if q.room then
    ((if all then q.order else [6]).flatMap (fun c => [(c, false), (c, true)])).findSome? (fun x => q.ready x.1 x.2)
  else none

/-- The waiting flits without the first that equals `f`. -/
def dropFlit (f : TxFlit) : List TxFlit → List TxFlit
  | [] => []
  | x :: xs => if x = f then xs else x :: dropFlit f xs

/-- A message as it leaves: a time REQUEST takes t1, the position on the tick at which it goes (R366). -/
def State.stampMsg (s : State) (m : Msg) : Msg :=
  if m.kind = .timeRequest then { m with args := m.args ++ posArgs (s.day.posAt s.clk) } else m

/-- A CONTROL flit that asks the peer for a retrain leaves port `p` before every class, when the replay buffer has room for it (R346, R348, R349). It
belongs to no class's buffer and takes no credit (assumption 124). -/
def State.sendControl (s : State) (p : Nat) : State :=
  let q := s.port p
  let f : TxFlit := { control := true, cls := 0, dl := false, from_ := 8, seg := 0, msg := none, index := 0, segs := 1, raw := [] }
  if q.room then
    ((s.setPort p { q with nextSeq := (q.nextSeq + 1) % 4096, unacked := q.unacked ++ [(q.nextSeq, f)] }).send
      (.flit p none 0 (s.flitBytes p f q.nextSeq))).lnkCount p 0 1
  else s

/-- Flit `f` leaves port `p` under the next sequence number and stays in the replay buffer; one that was passed on returns its credit. -/
def State.sendFlit (s : State) (p : Nat) (f0 : TxFlit) : State :=
  let q := s.port p
  let f := { f0 with msg := f0.msg.map s.stampMsg }
  let k := channel f.cls f.dl
  let un := q.unacked ++ [(q.nextSeq, f)]
  let q' := { q with queue := dropFlit f0 q.queue, nextSeq := (q.nextSeq + 1) % 4096, unacked := un,
                     fullSince := if un.length = 512 then some s.clk else none,
                     used := tabSet (fun _ => 0) q.used k (tabGet (fun _ => 0) q.used k + 1),
                     open_ := tabSet (fun _ => 0) q.open_ k (if f.seg = 2 ∨ f.seg = 3 then 0 else f.from_ + 1),
                     rr := if f.cls = 1 ∨ 6 ≤ f.cls then q.rr else f.cls + 1 }
  let s := ((s.setPort p q').send (.flit p f.msg f.index (s.flitBytes p f q.nextSeq))).lnkCount p 0 1
  if f.from_ < 8 then s.giveCredit f.from_ f.cls (decide (hdrFld f.raw 79 1 = 1)) else s

/-- Port `p` sends what it can; with a view failed it sends IDLE flits only (R376). -/
def State.pump (s : State) (p : Nat) : Nat → State
  | 0 => s
  | n + 1 =>
    match if s.admits (36 + p) then (s.port p).next s.posValid else none with
    | some f => (s.sendFlit p f).pump p n
    | none => s

/-- Flits wait at port `p`, and it sends what it can. -/
def State.enqueue (s : State) (p : Nat) (fs : List TxFlit) : State :=
  let q := s.port p
  (s.setPort p { q with queue := q.queue ++ fs }).pump p (q.queue.length + fs.length)

/-- The coordinate of this package on the axis of torus port `p`, and the axis's length. -/
def State.portAxis (s : State) (p : Nat) : Nat × Nat :=
  match s.lnk.pos with
  | some (x, y, z) => if p < 2 then (x, 4) else if p < 4 then (y, 4) else (z, s.lnk.zLen)
  | none => (0, 1)

/-- The position of the neighbour that torus port `p` leads to; 0 until the coordinates are learnt. -/
def State.peerPosition (s : State) (p : Nat) : Nat :=
  let (c, len) := s.portAxis p
  let k := if p < 2 then 1 else if p < 4 then 4 else 16
  if s.posValid then s.position - c * k + (c + (if p % 2 = 0 then 1 else len - 1)) % len * k else 0

/-- A TIME-class message to the neighbour on torus port `p` waits in that port's queue (R366, R367); a time message for a port that is not UP with
TIME in use is skipped (R54). -/
def State.sendNear (s : State) (p : Nat) (kind : MsgKind) (args : List Nat) : State :=
  let m : Msg := { kind := kind, src := s.position, dst := ⟨0, s.peerPosition p, 0⟩, epoch := s.routeEpoch, args := args, data := [] }
  if m.isTime && !s.timePort p then s else s.enqueue p (m.toFlits false)

/-- The replay buffer of port `p` is sent again in order (R348, R349). -/
def State.replay (s : State) (p : Nat) : State :=
  (s.port p).unacked.foldl (fun s x =>
    let f := x.2.again
    ((s.send (.flit p f.msg f.index (s.flitBytes p f x.1))).lnkCount p 0 1).lnkCount p 4 1) s

/-- An acknowledgement of every number up to `n` (R348). -/
def Port.acked (q : Port) (n : Nat) : Port :=
  match q.unacked.dropWhile (fun x => decide (x.1 ≠ n)) with
  | [] => q
  | _ :: rest => { q with unacked := rest, fullSince := none, nackGot := (0, 0) }

/-! ### Routes (R351 to R357) -/

/-- The way to `target` from `own` on an axis of length `len`: P (true), N (false) or none when there; `even` decides a tie (R352). -/
def axisStep (own target len : Nat) (even : Bool) : Option Bool :=
  let d := (target + len - own) % len
  if d = 0 then none else if d < len - d then some true else if len - d < d then some false else some even

/-- The entry of R352's table at a package, for a source and a destination. -/
def dimPort (own : Nat × Nat × Nat) (zLen src dst : Nat) : Nat :=
  let even := decide ((src % 4 + src / 4 % 4 + src / 16) % 2 = 0)
  if zLen ≤ dst / 16 then 0xF
  else match axisStep own.1 (dst % 4) 4 even with
    | some p => if p then 0 else 1
    | none =>
      match axisStep own.2.1 (dst / 4 % 4) 4 even with
      | some p => if p then 2 else 3
      | none =>
        match axisStep own.2.2 (dst / 16) zLen even with
        | some p => if p then 4 else 5
        | none => 0xE

/-- A table's entry. -/
def State.tableEntry (s : State) (t : RouteTable) (src dst : Nat) : Nat :=
  if t.dimOrder then
    match s.lnk.pos with
    | some own => dimPort own s.lnk.zLen src dst
    | none => 0xF
  else tabGet (fun _ => 0xF) t.entries dst

/-- The table that a tag names: current, previous or staged (R351, R355, R373). -/
def State.tableFor (s : State) (tag : Nat) : Option RouteTable :=
  if s.routeEpoch % 4 = tag then some s.lnk.table
  else match s.lnk.prev with
    | some (e, t, _) => if e % 4 = tag then some t else (s.lnk.staged.filter (fun x => decide (x.1 % 4 = tag))).map (fun x => x.2.1)
    | none => (s.lnk.staged.filter (fun x => decide (x.1 % 4 = tag))).map (fun x => x.2.1)

/-- Whether routes through port `p` are returned route-stale: it is FAILED, HELD or DOWN, or a view of it is failed (R357, R376). -/
def State.portDead (s : State) (p : Nat) : Bool :=
  decide ((s.port p).state = .failed) || decide ((s.port p).state = .held) || decide ((s.port p).state = .down) || !s.admits (36 + p)

/-- The port an entry leads to: with Z at 2 whichever of PORT_ZP and PORT_ZN works (R374). -/
def State.entryPort (s : State) (e : Nat) : Nat :=
  if s.lnk.zLen = 2 ∧ (e = 4 ∨ e = 5) ∧ s.portDead e ∧ !s.portDead (9 - e) then 9 - e else e

/-- Where a message with this tag goes at this Switch: a port, or 8 for this package; none when it is returned route-stale (R357). -/
def State.way (s : State) (tag src dst : Nat) : Option Nat :=
  match s.tableFor tag with
  | none => none
  | some t =>
    let e := s.entryPort (s.tableEntry t src dst)
    if e = 0xE then some 8 else if e < 6 ∧ !s.portDead e then some e else none

/-- DATELINE after a flit leaves by torus port `p`, having had `dl` on the axis it came along by port `from_` (R353). -/
def State.dateline (s : State) (p from_ : Nat) (dl : Bool) : Bool :=
  let (own, len) := s.portAxis p
  let crosses := if p % 2 = 0 then decide (own + 1 = len) else decide (own = 0)
  crosses || (dl && decide (from_ < 6) && decide (from_ / 2 = p / 2))

/-! ### Messages of this package (R356, R357, R365) -/

/-- Whether the bridge peer is there: the port is UP or retrains, and the part is the attached one or stands in its list (R364). -/
def State.peerThere (s : State) (d : Peer) : Bool :=
  let p := 5 + d.route
  (decide (d.route = 1) || decide (d.route = 2)) && !s.portDead p && (decide ((s.port p).state = .up) || (s.port p).retraining)
    && (decide (d.id = 1) || (tabGet (fun _ => []) s.lnk.peers (d.route - 1)).any (fun x => decide (x.2 = d.id)))

/-- Why a descriptor cannot begin to reach its destination: NONE in the current table, UNREACHABLE; a bridge peer that is not there,
PEER_LOST (R335, R357, R364). -/
def State.noWay (s : State) (d : Peer) : Option (Nat × Nat) :=
  if d.route = 0 then
    if s.posValid && decide (s.tableEntry s.lnk.table s.position d.pos ≠ 0xF) then none else some (0x23, d.detail)
  else if s.peerThere d then none else some (0x22, d.detail)

/-- Whether a message must wait before it is sent: the coordinates are not learnt (R367), the Switch takes no new work (R376, R463; assumption 111),
earlier ones of its destination and class went under another epoch and have no response (R356), or its bridge port drains (R365). -/
def State.mustPark (s : State) (m : Msg) : Bool :=
  if !s.posValid then true
  else if m.kind.begins && !s.admits 34 then true
  else if m.dst.route = 0 then
    decide (m.kind.cls ≠ 3) &&
      (s.lnk.open_.any (fun o => decide (o.2.1 = m.dst.number) && decide (o.2.2.1 = m.kind.cls) && decide (o.2.2.2 ≠ s.routeEpoch))
        || s.lnk.parked.any (fun x => decide (x.dst = m.dst) && decide (x.kind.cls = m.kind.cls)))
  else tabGet (fun _ => false) s.lnk.drain (m.dst.route - 1)

/-- The message's end-to-end response is awaited. -/
def State.openMsg (s : State) (m : Msg) : State :=
  match m.key with
  | some k => s.setLnk { s.lnk with open_ := (s.lnk.open_.filter (fun o => decide (o.1 ≠ k))) ++ [(k, m.dst.number, m.kind.cls, m.epoch)] }
  | none => s

/-- A message enters the route-stale hold (R357), or waits for room in it, which is for 256 messages (Table 12.9; assumption 124); a returned return
is discarded (R374). -/
def State.holdMsg (s : State) (m : Msg) : State :=
  if m.kind = .routeStale then s
  else if s.lnk.hold.length < 256 then s.setLnk { s.lnk with hold := s.lnk.hold ++ [(m, s.absMin)] }
  else s.setLnk { s.lnk with parked := s.lnk.parked ++ [m] }

/-- A message of this package is sent under the current epoch: out of the port its route names, to this package itself through the Switch's own
port (R330), or, without a way, into the route-stale hold. -/
def State.sendMsg (s : State) (m : Msg) : State :=
  if s.mustPark m then s.setLnk { s.lnk with parked := s.lnk.parked ++ [m] }
  else if m.dst.route = 0 then
    let m := { m with src := s.position, epoch := s.routeEpoch }
    match s.way (s.routeEpoch % 4) s.position m.dst.pos with
    | none =>
      let e := s.tableEntry s.lnk.table s.position m.dst.pos
      let s := if e < 6 then (s.lnkCount e 6 1).lnkFlag 8 e else s
      s.holdMsg m
    | some p =>
      if p = 8 then (s.openMsg m).send (.link 8 m)
      else (s.openMsg m).enqueue p (m.toFlits (s.dateline p 8 false))
  else
    let m := { m with src := s.position, epoch := tabGet (fun _ => 0) s.lnk.peerEpoch (m.dst.route - 1) }
    if s.peerThere m.dst then (s.openMsg m).enqueue (5 + m.dst.route) (m.toFlits false) else s

/-- Parked messages that may now go are sent, in order. -/
def State.unpark (s : State) : State :=
  s.lnk.parked.foldl (fun s m => s.sendMsg m) (s.setLnk { s.lnk with parked := [] })

/-- The end-to-end response of a message has come, or the message has come back (R356, R365). -/
def State.closeKey (s : State) (k : Nat) : State :=
  let l := { s.lnk with open_ := s.lnk.open_.filter (fun o => decide (o.1 ≠ k)) }
  let busy := fun b => l.open_.any (fun o => decide (o.2.1 / 2 ^ 16 = b + 1))
  (s.setLnk { l with drain := [0, 1].foldl (fun t b => if busy b then t else tabSet (fun _ => false) t b false) l.drain }).unpark

/-! ### Flits that pass through (R354, R357) -/

/-- A message that cannot go on goes back whole to its source as a RETURN-class message, once its last flit is here; a return itself is
discarded (R357, R374). `p` is the port by which it came. -/
def State.bounce (s : State) (p cls : Nat) (dl : Bool) (src seg : Nat) (raw : List Byte) : State :=
  if cls = 7 then s
  else
    let k := 16 * p + channel cls dl
    let got := (if seg = 1 ∨ seg = 3 then [] else tabGet (fun _ => []) s.lnk.collect k) ++ raw
    if seg = 2 ∨ seg = 3 then
      let s := s.setLnk { s.lnk with collect := tabSet (fun _ => []) s.lnk.collect k [] }
      ((s.lnkCount p 6 1).lnkFlag 8 p).sendMsg { kind := .routeStale, src := 0, dst := ⟨0, src, 0⟩, epoch := 0, args := [], data := got }
    else s.setLnk { s.lnk with collect := tabSet (fun _ => []) s.lnk.collect k got }

/-- A DATA flit in order, received by port `p`: delivered here, passed on, or returned (R351, R354, R357, R364). One that leaves the receive buffer
gives its credit back. -/
def State.takeData (s : State) (p : Nat) (flit : List Byte) : State :=
  let cls := hdrFld flit 66 3
  let dl := decide (hdrFld flit 79 1 = 1)
  let seg := hdrFld flit 77 2
  let src := hdrFld flit 82 7
  let here := fun (s : State) => (s.giveCredit p cls dl).send (.flitDeliver p cls seg (flit.take (30 + hdrFld flit 69 8)))
  if 6 ≤ p ∨ cls = 6 then here s
  else if !s.posValid then s.giveCredit p cls dl
  else match s.way (hdrFld flit 80 2) src (hdrFld flit 89 7) with
    | none => (s.giveCredit p cls dl).bounce p cls dl src seg flit
    | some o =>
      if o = 8 then here s
      else s.enqueue o [{ control := false, cls := cls, dl := s.dateline o p dl, from_ := p, seg := seg, msg := none, index := 0, segs := 1, raw := flit }]

/-! ### Remote requests (R359 to R361) -/

/-- The register of window `w` of context `c` at word `i`: LNK_RWIN_VA, _RA, _SIZE, _DEST. -/
def winReg (c w i : Nat) : Nat := 0x61000 + 0x40 * c + 0x10 * w + 4 * i

/-- The span of window `w` in bytes (R379). -/
def State.winSpan (s : State) (c w : Nat) : Nat := (s.fld (winReg c w 2) 0 20 + 1) * 0x200000

/-- First virtual address of window `w`. -/
def State.winBase (s : State) (c w : Nat) : Nat := s.fld (winReg c w 0) 0 27 * 0x200000

/-- The enabled window of context `c` that holds a virtual address (R359). -/
def State.windowOf (s : State) (c va : Nat) : Option Nat :=
  (List.range 4).find? (fun w => s.rbit (winReg c w 0) 31 && decide (s.winBase c w ≤ va) && decide (va < s.winBase c w + s.winSpan c w))

/-- Where window `w` leads. -/
def State.winPeer (s : State) (c w : Nat) : Peer :=
  let d := s.reg (winReg c w 3)
  { route := wfld d 24 2, pos := wfld d 8 7, id := if wfld d 24 2 = 0 then 0 else s.fld (0x62000 + 0x10 * c + 4 * w) 0 16 }

/-- How a place in a remote window stands among physical addresses of this model: beyond every physical address, with its context. -/
def remotePa (c va : Nat) : Nat := 2 ^ 64 * (1 + c) + va

/-- Remote request tag `t`. -/
def State.tag (s : State) (t : Nat) : Option RemoteReq := tabGet (fun _ => none) s.lnk.tags t

/-- The state with tag `t` changed. -/
def State.setTag (s : State) (t : Nat) (r : Option RemoteReq) : State := s.setLnk { s.lnk with tags := tabSet (fun _ => none) s.lnk.tags t r }

/-- The message of a remote request. -/
def RemoteReq.msg (r : RemoteReq) (t : Nat) : Msg :=
  { kind := if r.notify then .interrupt else if r.write then .writeRequest else .readRequest, src := 0, dst := r.dst, epoch := 0,
    args := [t, r.apt, r.ra, r.len], data := r.data, owner := some (r.ctx, r.gen, r.idx), key := some t }

/-- A request takes a tag and leaves, or waits for one (Table 12.9). -/
def State.issueReq (s : State) (r : RemoteReq) : State :=
  match if s.lnk.tags.length < 1024 then (List.range 1024).find? (fun t => (s.tag t).isNone) else none with
  | some t =>
    let r := { r with at_ := s.clk }
    (s.setTag t (some r)).sendMsg (r.msg t)
  | none => s.setLnk { s.lnk with reqs := s.lnk.reqs ++ [r] }

/-- A tag returns, and the next waiting request takes one. -/
def State.freeTag (s : State) (t : Nat) : State :=
  let s := (s.setTag t none).closeKey t
  match s.lnk.reqs with
  | [] => s
  | r :: rest => (s.setLnk { s.lnk with reqs := rest }).issueReq r

/-- A request of the access under way for `len` bytes at `va` of a window of context `c`. -/
def State.reqFor (s : State) (c va len : Nat) (write : Bool) (data : List Byte) : Option RemoteReq :=
  match s.windowOf c va with
  | none => none
  | some w =>
    let (_, idx, pos) := s.lnk.who.getD (c, 2 ^ 16, 99)
    some { ctx := c, gen := (s.ctx c).gen, idx := idx, pos := pos, write := write, notify := false, va := va, len := len, data := data,
           dst := s.winPeer c w, apt := s.fld (winReg c w 3) 16 6,
           ra := s.fld (winReg c w 1) 0 27 * 0x200000 + (va - s.winBase c w), at_ := 0 }

/-- The pieces of at most 2 KiB of a remote access (R361). -/
def reqPieces : Nat → Nat → Nat → List (Nat × Nat)
  | 0, _, _ => []
  | k + 1, va, n => if n = 0 then [] else (va, min n 2048) :: reqPieces k (va + 2048) (n - 2048)

/-- A write of a remote window leaves as write requests. -/
def State.remoteWrite (s : State) (c va : Nat) (bs : List Byte) : State :=
  (reqPieces (bs.length / 2048 + 1) va bs.length).foldl (fun s x =>
    match s.reqFor c x.1 x.2 true ((bs.drop (x.1 - va)).take x.2) with
    | some r => s.issueReq r
    | none => s) s

/-- Whether data that came covers a byte for the access under way. -/
def State.gotByte (s : State) (c va : Nat) : Option Byte :=
  let (_, idx, pos) := s.lnk.who.getD (c, 2 ^ 16, 99)
  s.lnk.got.findSome? (fun g =>
    if g.ctx = c ∧ g.idx = idx ∧ g.pos = pos ∧ g.va ≤ va then g.bytes[va - g.va]? else none)

/-- Bytes of a remote window that have come; none while some are lacking. -/
def State.gotBytes (s : State) (c va n : Nat) : Option (List Byte) := (List.range n).mapM (fun i => s.gotByte c (va + i))

/-- Read requests go out for what the access under way lacks and has not asked for. -/
def State.askRemote (s : State) (c va n : Nat) : State :=
  let mine := fun (r : RemoteReq) (a : Nat) => decide (r.ctx = c) && !r.write && decide (r.va = a) &&
    decide (some (c, r.idx, r.pos) = s.lnk.who)
  (reqPieces (n / 2048 + 1) va n).foldl (fun s x =>
    if s.lnk.tags.any (fun t => (t.2.map (fun r => mine r x.1)).getD false) || s.lnk.reqs.any (fun r => mine r x.1)
        || (s.gotBytes c x.1 x.2).isSome then s
    else match s.reqFor c x.1 x.2 false [] with
      | some r => s.issueReq r
      | none => s) s

/-- Whether a remote request of context `c`'s descriptor `idx` is outstanding. -/
def State.remoteBusy (s : State) (c idx : Nat) : Bool :=
  let mine := fun (r : RemoteReq) => decide (r.ctx = c) && decide (r.idx = idx)
  s.lnk.tags.any (fun t => (t.2.map mine).getD false) || s.lnk.reqs.any mine

/-- An access of context `c`, for descriptor `idx` and position `pos`, that may read remote windows: when data is lacking nothing of it happens
but its read requests, and the command takes effect when it comes again with the data here (R361). -/
def State.remotely (s : State) (c idx pos : Nat) (f : State → Result) : Result :=
  let s := s.setLnk { s.lnk with who := some (c, idx, pos) }
  let done := fun (s : State) => s.setLnk { s.lnk with who := none, need := none }
  match f s with
  | .next s' =>
    match s'.lnk.need with
    | some (va, n) => .next (done (s.askRemote c va n))
    | none =>
      let mine := fun (g : RemoteData) => decide (g.ctx = c) && decide (g.idx = idx) && decide (g.pos = pos)
      .next (done (s'.setLnk { s'.lnk with got := s'.lnk.got.filter (fun g => !mine g) }))
  | r => r

end Sys2Proof.Machine
end

