-- ==== Sys2Proof/Machine/Atp.lean ====
section
/-! DEFINITION. Machine/Atp.lean: the physical map and its errors, page-table walks, translation caches and access to device memory on
behalf of a context (R168 to R177, R190 to R197, R578). -/

namespace Sys2Proof.Machine

/-! ### Physical memory -/

/-- Number of the range of Table 3.7 that holds a physical address: 0 to 3 the stacks of BANK_n, 4 to 7 its scratchpad, 8 the hub
scratchpad; none in a hole. -/
def rangeOf (pa : Nat) : Option Nat :=
  match placeOf pa with
  | .stack b _ _ => some b
  | .bankPad b => some (4 + b)
  | .hubPad => some 8
  | .hole => none

/-- The memory unit of a physical address (R168). -/
def memUnit (pa : Nat) : Nat :=
  match placeOf pa with
  | .stack _ u _ => u
  | .bankPad b => 8 + b
  | .hubPad => 12
  | .hole => 13

/-- ATP_CFG.STAGE_MIB, acting within 0 to 24 (R192). -/
def State.stageMib (s : State) : Nat := min 24 (s.fld 0x90000 0 5)

/-- The first address of the staging reserve (R169). -/
def State.stageBase (s : State) : Nat := 0x4012000000 - s.stageMib * 0x100000

/-- Whether a target of `n` bytes lies within one range of Table 3.7 and outside the staging reserve (R173). -/
def State.targetOk (s : State) (pa n : Nat) : Bool :=
  match rangeOf pa, rangeOf (pa + n - 1) with
  | some a, some b => decide (a = b) && (decide (a ≠ 8) || decide (pa + n ≤ s.stageBase))
  | _, _ => false

/-- Whether a 32-byte sector is poisoned. -/
def State.poisoned (s : State) (sector : Nat) : Bool := tabGet (fun _ => false) s.atp.poison sector

/-- A sector's poison mark changes. -/
def State.setPoison (s : State) (sector : Nat) (p : Bool) : State :=
  { s with atp := { s.atp with poison := tabSet (fun _ => false) s.atp.poison sector p } }

/-- The first poisoned sector that an access to `n` bytes at `pa` meets (R578). -/
def State.poisonIn (s : State) (pa n : Nat) : Option Nat :=
  (s.atp.poison.find? (fun e => decide (pa / 32 ≤ e.1) && decide (e.1 < ceilDiv (pa + n) 32))).map (fun e => e.1)

/-- Sectors wholly inside [lo, hi) lose their poison marks: all 32 of their bytes were written (R197). -/
def State.unpoison (s : State) (lo hi : Nat) : State :=
  { s with atp := { s.atp with poison := s.atp.poison.filter (fun e => !(decide (lo ≤ 32 * e.1) && decide (32 * e.1 + 32 ≤ hi))) } }

/-- A write of device memory at a physical address (R578): the bytes are written, and sectors written whole are no longer
poisoned. -/
def State.pwrite (s : State) (pa : Nat) (bs : List Byte) : State := (s.setBytes pa bs).unpoison pa (pa + bs.length)

/-- `n` bytes from a physical address are filled with zeros and valid check bits (R175, R178). -/
def State.zeroFill (s : State) (pa n : Nat) : State := (s.zeroRange pa (pa + n)).unpoison pa (pa + n)

/-! ### Page tables (R171 to R174) -/

/-- The kinds of access, numbered as ATP_FAULT_INFO.ACCESS. -/
inductive Acc where
  | read | write | remoteRead | remoteWrite
  deriving DecidableEq, Repr

/-- ACCESS as a number. -/
def Acc.code : Acc → Nat
  | .read => 0 | .write => 1 | .remoteRead => 2 | .remoteWrite => 3

/-- Why an access failed: the completion code, its DETAIL, the reason of Table 6.8 (0 for poisoned data, R197, and for a lost peer, R365), the level, and what
ATP_FAULT_INFO records. -/
structure XFault where
  code : Nat
  detail : Nat
  reason : Nat
  level : Nat
  va : Nat
  acc : Acc
  cache : Nat
  deriving DecidableEq, Repr

/-- The completion code of a fault reason (Table 6.8). -/
def reasonCode (r : Nat) : Nat :=
  if r ≤ 5 then 0x40 else if r ≤ 8 then 0x41 else if r = 9 then 0x43 else 0x45

/-- The physical address an entry names: ADDR, bits [39:8]. -/
def pteAddr (e : Nat) : Nat := bitsOf e 8 32 * 256

/-- Bytes of the target of an entry at a level: the page of a leaf, or the table below. -/
def targetSize (level : Nat) (leaf : Bool) : Nat :=
  if leaf then (if level = 1 then 0x200000 else 0x10000) else if level = 1 then 256 else 0x1000

/-- Whether an entry with VALID 1 obeys R173, its target range apart. -/
def pteShape (e level : Nat) : Bool :=
  let leaf := bitAt e 1
  decide (bitsOf e 40 24 = 0) && decide (bitsOf e 5 3 = 0)
    && (if leaf then decide (level ≤ 1) else decide (0 < level))
    && (if leaf then bitAt e 2 || !(bitAt e 3 || bitAt e 4) else decide (bitsOf e 2 3 = 0))
    && decide (pteAddr e % targetSize level leaf = 0)

/-- Whether an entry is well formed at a level (R173). -/
def State.pteOk (s : State) (e level : Nat) : Bool :=
  pteShape e level && s.targetOk (pteAddr e) (targetSize level (bitAt e 1))

/-- The span one entry at a level covers. -/
def levelSpan (level : Nat) : Nat := [0x10000, 0x200000, 0x40000000, 0x8000000000].getD level 0

/-- The index a virtual address selects at a level (Table 6.1). -/
def levelIndex (va level : Nat) : Nat := if level = 0 then bitsOf va 16 5 else bitsOf va (12 + 9 * level) 9

/-- Whether the bank die a physical address lies on reads FAILED (Table 6.8 reason 9). -/
def State.onFailedBank (s : State) (pa : Nat) : Bool :=
  match (placeOf pa).bank with
  | some n => decide ((s.bank n).phase = .failed)
  | none => false

/-- The eight bytes of a page-table entry, or the memory unit whose uncorrectable error they show. -/
def State.readPte (s : State) (pa : Nat) : Except Nat Nat :=
  match s.poisonIn pa 8 with
  | some _ => .error (memUnit pa)
  | none => .ok (leNat (s.bytes pa 8))

/-- Whether a read of a page table or a page checks out: the entry's bits against the rules, then its target. `none` if well formed,
else the reason of Table 6.8. -/
def State.pteFault (s : State) (e level : Nat) : Option Nat :=
  if !bitAt e 0 then some (if e = 0 then 3 else 4)
  else if !pteShape e level then some 4
  else if !s.targetOk (pteAddr e) (targetSize level (bitAt e 1)) then some 5
  else if s.onFailedBank (pteAddr e) then some 9
  else none

/-- The permissions of a leaf against an access (R174); the reason when they forbid it. -/
def permFault (e : Nat) (acc : Acc) : Option Nat :=
  match acc with
  | .read => if bitAt e 2 then none else some 6
  | .write => if bitAt e 3 then none else some 7
  | .remoteRead => if !bitAt e 4 then some 8 else if bitAt e 2 then none else some 6
  | .remoteWrite => if !bitAt e 4 then some 8 else if bitAt e 3 then none else some 7

/-- What a walk answers in place of a memory unit when its table read waits for a bridge (R194). -/
def walkWaits : Nat := 99

/-- An entry as a walk of a die reads it: a read waits while a bridge on its way does not carry it (R82, R194). -/
def State.walkRead (s : State) (cache : Nat) (acc : Acc) (pa : Nat) : Except Nat Nat :=
  if acc = .read ∧ (s.heldAt cache pa).isSome then .error walkWaits else s.readPte pa

/-- The walk from a table at `t` down from `level`, reading entries through `rd` (memory, or memory under a shadow): the leaf and its
level, or the reason, the level and the failing memory unit. -/
def State.walkFrom (s : State) (rd : Nat → Except Nat Nat) (va : Nat) : Nat → Nat → Except (Nat × Nat × Nat) (Nat × Nat)
  | level, t =>
    match rd (t + 8 * levelIndex va level) with
    | .error u => .error (if u = walkWaits then walkWaits else 10, level, u)
    | .ok e =>
      match s.pteFault e level with
      | some r => .error (r, level, 0)
      | none =>
        if bitAt e 1 then .ok (e, level)
        else match level with
          | 0 => .error (4, 0, 0)
          | l + 1 => s.walkFrom rd va l (pteAddr e)

/-- The root of context `c`: its address when VALID is 1 (R175). -/
def State.root (s : State) (c : Nat) : Option Nat :=
  if s.rbit (0x90104 + 8 * c) 31 then
    some (s.fld (0x90100 + 8 * c) 12 20 * 0x1000 + s.fld (0x90104 + 8 * c) 0 8 * 0x100000000)
  else none

/-- The checks before the first read of a walk: the address, the root and where the root lies. -/
def State.rootOf (s : State) (c va : Nat) : Except (Nat × Nat × Nat) Nat :=
  if 2 ^ 48 ≤ va then .error (2, 3, 0)
  else match s.root c with
    | none => .error (1, 3, 0)
    | some t =>
      if !s.targetOk t 0x1000 then .error (5, 3, 0)
      else if s.onFailedBank t then .error (9, 3, 0)
      else .ok t

/-- A walk of context `c`'s tables in memory, for an access through a cache. -/
def State.walk (s : State) (cache c va : Nat) (acc : Acc) : Except (Nat × Nat × Nat) (Nat × Nat) :=
  match s.rootOf c va with
  | .error e => .error e
  | .ok t => s.walkFrom (s.walkRead cache acc) va 3 t

/-- Whether a cached leaf of 64 KiB or 2 MiB covers an address (R177). -/
def CacheLine.covers (l : CacheLine) (va : Nat) : Bool :=
  decide (l.page * 0x10000 / targetSize l.level true = va / targetSize l.level true)

/-- Whether a cache that may hold the leaf of an address uses it rather than a walk: the spec leaves it open (R177). -/
def State.cached (s : State) (cache c va : Nat) : Option (Nat × Nat) :=
  match s.atp.cache.find? (fun l => decide (l.cache = cache) && decide (l.ctx = c) && decide (l.gen = (s.ctx c).gen) && l.covers va) with
  | some l => if Config.cacheHit s.free (va / 0x10000) then some (l.entry, l.level) else none
  | none => none

/-- The physical address a leaf gives. -/
def leafAddr (e level va : Nat) : Nat := pteAddr e + va % targetSize level true

/-- translate (R171) for context `c` through a cache (0 hub, 1 + n BANK_n), the remote windows apart. -/
def State.xlateHere (s : State) (cache c va : Nat) (acc : Acc) : Except XFault Nat :=
  let bad := fun (r level u : Nat) =>
    ({ code := reasonCode r, detail := if r = 10 then 0x10000 + u else if r = walkWaits then 0 else va, reason := r, level := level,
       va := if r = walkWaits then 0 else va, acc := acc, cache := cache } : XFault)
  let leaf : Except (Nat × Nat × Nat) (Nat × Nat) := match s.cached cache c va with
    | some x => if s.onFailedBank (pteAddr x.1) then .error (9, x.2, 0) else .ok x
    | none => s.walk cache c va acc
  match leaf with
  | .error (r, level, u) => .error (bad r level u)
  | .ok (e, level) =>
    match permFault e acc with
    | some r => .error (bad r level 0)
    | none => .ok (leafAddr e level va)

/-- The remote window that an access of this package's own work meets before any walk (R359). -/
def State.windowFor (s : State) (c va : Nat) (acc : Acc) : Option Nat :=
  match acc with
  | .read => s.windowOf c va
  | .write => s.windowOf c va
  | _ => none

/-- The translation of an access (R171, R359): inside a remote window, a place there when the window permits it and a peer behind a bridge port is there
to reach (else PEER_LOST, R27, R365); outside, as the tables say. -/
def State.xlate (s : State) (cache c va : Nat) (acc : Acc) : Except XFault Nat :=
  match s.windowFor c va acc with
  | none => s.xlateHere cache c va acc
  | some w =>
    let r := if acc = .write then 7 else 6
    if s.rbit (winReg c w 0) (if acc = .write then 29 else 28) then
      let to_ := s.winPeer c w
      if to_.route = 0 ∨ s.peerThere to_ then .ok (remotePa c va)
      else .error { code := 0x22, detail := to_.detail, reason := 0, level := 0, va := va, acc := acc, cache := cache }
    else .error { code := reasonCode r, detail := va, reason := r, level := 0, va := va, acc := acc, cache := cache }

/-- The pieces, each within one 64 KiB page, of an access of `n` bytes at `va`. -/
def pagePieces : Nat → Nat → Nat → List (Nat × Nat)
  | 0, _, _ => []
  | k + 1, va, n =>
    if n = 0 then []
    else
      let m := min n (0x10000 - va % 0x10000)
      (va, m) :: pagePieces k (va + m) (n - m)

/-- R190: an access whose first or last byte lies above 2^48 - 1. -/
def nonCanonical (va n : Nat) : Bool := decide (2 ^ 48 < va + n) || decide (2 ^ 48 ≤ va)

/-- The physical pieces of an access, in order, up to the first that faults. -/
def State.xlatePieces (s : State) (cache c : Nat) (acc : Acc) : List (Nat × Nat) → List (Nat × Nat) × Option XFault
  | [] => ([], none)
  | (va, n) :: rest =>
    match s.xlate cache c va acc with
    | .error f => ([], some f)
    | .ok pa =>
      let r := s.xlatePieces cache c acc rest
      ((pa, n) :: r.1, r.2)

/-- The physical pieces of an access of `n` bytes at `va`, or its fault (R190, R191). -/
def State.pieces (s : State) (cache c : Nat) (acc : Acc) (va n : Nat) : List (Nat × Nat) × Option XFault :=
  if nonCanonical va n then
    ([], some { code := 0x40, detail := va, reason := 2, level := 3, va := va % 2 ^ 48, acc := acc, cache := cache })
  else s.xlatePieces cache c acc (pagePieces (n / 0x10000 + 2) va n)

/-- The bytes of physical pieces, or ENGINE_FAULT for poisoned data (R197). A piece in a remote window whose data has not come is reported
under reason 99, which no step reports to the outside: the access asks for the data instead. A piece that a bridge does not carry now is reported
likewise, and the access waits (R82). -/
def State.readPieces (s : State) (acc : Acc) (cache : Nat) : List (Nat × Nat) → Except XFault (List Byte)
  | [] => .ok []
  | (pa, n) :: rest =>
    if 2 ^ 64 ≤ pa then
      match s.gotBytes (pa / 2 ^ 64 - 1) (pa % 2 ^ 64) n, s.readPieces acc cache rest with
      | none, _ => .error { code := 0, detail := n, reason := 99, level := 0, va := pa % 2 ^ 64, acc := acc, cache := cache }
      | some _, .error f => .error f
      | some bs, .ok more => .ok (bs ++ more)
    else if (s.heldAt cache pa).isSome then
      .error { code := 0, detail := 0, reason := 99, level := 0, va := 0, acc := acc, cache := cache }
    else match s.poisonIn pa n with
    | some x => .error { code := 0x45, detail := 0x10000 + memUnit (32 * x), reason := 0, level := 0, va := 0, acc := acc, cache := cache }
    | none =>
      match s.readPieces acc cache rest with
      | .error f => .error f
      | .ok bs => .ok (s.bytes pa n ++ bs)

/-- A read of device memory on behalf of context `c`. -/
def State.vread (s : State) (cache c va n : Nat) (acc : Acc := .read) : Except XFault (List Byte) :=
  match s.pieces cache c acc va n with
  | (ps, none) => s.readPieces acc cache ps
  | (_, some f) => .error f

/-- A read of `n` bytes as a number, least significant byte first. -/
def State.vreadNat (s : State) (cache c va n : Nat) : Except XFault Nat := (s.vread cache c va n).map leNat

/-- A write of context `c` from a die: it is made, or waits at the first bridge on its way that does not carry it now (R82). -/
def State.dieWrite (s : State) (w : HeldWrite) : State :=
  match s.heldAt w.die w.pa with
  | some n => s.holdWrite n w
  | none => s.pwrite w.pa w.bytes

/-- Writes that waited at bridge `n` go on, in order. -/
def State.releaseWrites (s : State) (n : Nat) : State :=
  let ws := (s.bank n).waiting
  ws.foldl State.dieWrite (s.setBank n { s.bank n with waiting := [] })

/-- Consecutive bytes go to physical pieces, and those of a remote window out as write requests; `ing` says that they come from the Ingest Unit. -/
def State.writePieces (s : State) (die c : Nat) (ing : Bool) : List (Nat × Nat) → List Byte → State
  | [], _ => s
  | (pa, n) :: rest, bs =>
    (if 2 ^ 64 ≤ pa then s.remoteWrite (pa / 2 ^ 64 - 1) (pa % 2 ^ 64) (bs.take n)
      else s.dieWrite { ctx := c, die := die, pa := pa, bytes := bs.take n, ingest := ing }).writePieces die c ing rest (bs.drop n)

/-- A write of device memory on behalf of context `c`. When a later page faults, how many of the earlier pages were written is left
open (R191): a free value says. -/
def State.vwrite (s : State) (cache c va : Nat) (bs : List Byte) (acc : Acc := .write) (ing : Bool := false) :
    State × Option XFault :=
  match s.pieces cache c acc va bs.length with
  | (ps, none) => (s.writePieces cache c ing ps bs, none)
  | (ps, some f) =>
    let (k, s) := s.takeFree
    (s.writePieces cache c ing (ps.take (k % (ps.length + 1))) bs, some f)

/-- The first translation fault since the record was cleared stays in ATP_FAULT_INFO and ATP_FAULT_VA (R196). -/
def State.noteXFault (s : State) (c : Nat) (f : XFault) : State :=
  if f.reason = 0 ∨ f.reason = 99 ∨ s.rbit 0x90018 31 then s
  else
    let unit := match f.acc with
      | .remoteRead => 5
      | .remoteWrite => 5
      | _ => f.cache
    let info := 2 ^ 31 + c * 2 ^ 24 + f.reason * 2 ^ 16 + f.level * 2 ^ 8 + unit * 2 ^ 4 + f.acc.code
    (s.setReg64 0x90010 f.va).setReg 0x90018 (BitVec.ofNat 32 info)

/-- An access lacks remote data: what it lacks is noted (R359). -/
def State.lacks (s : State) (f : XFault) : State := s.setLnk { s.lnk with need := some (f.va, f.detail) }

/-- Cached translations of context `c` that meet [va, va + span) leave every cache (R180); of the whole context with span 0 (R138). -/
def State.discardCached (s : State) (c va span : Nat) : State :=
  { s with atp := { s.atp with cache := s.atp.cache.filter (fun l =>
      !(decide (l.ctx = c) && (decide (span = 0) ||
        (let size := targetSize l.level true
         let base := l.page * 0x10000 / size * size
         decide (base < va + span) && decide (va < base + size))))) } }

/-- A cache loses everything (0 hub, 1 + n BANK_n). -/
def State.emptyCache (s : State) (cache : Nat) : State :=
  { s with atp := { s.atp with cache := s.atp.cache.filter (fun l => decide (l.cache ≠ cache)) } }

/-- Every translation cache is emptied. -/
def State.emptyCaches (s : State) : State := { s with atp := { s.atp with cache := [] } }

/-- The root of context `c` returns to default and is flagged in ATP_ROOT_LOST (R198). -/
def State.loseRoot (s : State) (c : Nat) : State :=
  if s.rbit (0x90104 + 8 * c) 31 then
    ((s.setReg (0x90104 + 8 * c) 0).setReg (0x90100 + 8 * c) 0).setFld (0x90008 + 4 * (c / 32)) (c % 32) 1 1
  else (s.setReg (0x90104 + 8 * c) 0).setReg (0x90100 + 8 * c) 0

/-- The roots that lie in BANK_n, its stacks or its scratchpad, are cleared, which row 9 of the reset-lost mask shows, and every cache is emptied (R194, R198). -/
def State.rootsLostOn (s : State) (n : Nat) : State :=
  (ctxRange.foldl (fun s c => match s.root c with
    | some t => if rangeOf t = some n ∨ rangeOf t = some (4 + n) then (s.loseRoot c).lostBit 9 else s
    | none => s) s).emptyCaches

/-- ATP_ROOT_LOST shows the roots that were valid in `old`, whose registers an event has cleared (R198). -/
def State.flagRoots (s old : State) : State :=
  ctxRange.foldl (fun s c => if (old.root c).isSome then s.setFld (0x90008 + 4 * (c / 32)) (c % 32) 1 1 else s) s

end Sys2Proof.Machine
end

