-- ==== Sys2Proof/Machine/HandBase.lean ====
section
/-! DEFINITION. Machine/HandBase.lean: the Reorder Buffer's slots, transfers sent and received, and what the end of a context does to them
(R313 to R316, R332, R334). -/

namespace Sys2Proof.Machine

/-- The state with the Combine Unit changed. -/
def State.setCmb (s : State) (u : CombineUnit) : State := { s with cmb := u }

/-! ### Slots (R313, R329) -/

/-- CMB_CFG.RECV_SLOTS within 1 to 96. -/
def State.recvSlots (s : State) : Nat := min 96 (max 1 (s.fld 0x40000 16 8))

/-- The first slot of the receive partition. -/
def State.recvBase (s : State) : Nat := 512 - 4 * s.recvSlots

/-- Whether slot `i` is held by the stage in the Combine Unit. -/
def CombineUnit.combHeld (u : CombineUnit) (i : Nat) : Bool := (u.run.map (fun r => r.slots.any (fun x => decide (x.slot = i)))).getD false

/-- Whether slot `i` is leased to a receive. -/
def CombineUnit.recvHeld (u : CombineUnit) (i : Nat) : Bool := u.recvs.any (fun r => r.slots.any (fun x => decide (x.1 = i)))

/-- Whether slot `i` is fenced (R336). -/
def CombineUnit.isFenced (u : CombineUnit) (i : Nat) : Bool := tabGet (fun _ => false) u.fenced i

/-- Whether slot `i` may be taken. -/
def CombineUnit.slotFree (u : CombineUnit) (i : Nat) : Bool := !u.combHeld i && !u.recvHeld i && !u.isFenced i

/-- Combine slots held (CMB_STATUS.COMB_USED). -/
def CombineUnit.combUsed (u : CombineUnit) : Nat := (u.run.map (fun r => r.slots.length)).getD 0

/-- Receive slots held (CMB_STATUS.RECV_USED). -/
def CombineUnit.recvUsed (u : CombineUnit) : Nat := (u.recvs.map (fun r => r.slots.length)).foldl (· + ·) 0

/-- The key of a Reorder Buffer slot's epoch (R316). -/
def resSlot (i : Nat) : Nat := 0x10000 + i

/-- The identifier of the leases of transfer handle `h` (R332). -/
def resHandle (h : Nat) : Nat := 0x300 + h

/-- A slot's lease ends: its epoch moves on. -/
def State.moveSlot (s : State) (i : Nat) : State := s.setEpoch (resSlot i) (nextEpoch (s.epoch (resSlot i)))

/-! ### Transfers -/

/-- The SEND of descriptor `idx` of context `c`. -/
def State.sendWin (s : State) (c idx : Nat) : Option SendWin := s.cmb.sends.find? (fun w => decide (w.ctx = c) && decide (w.idx = idx))

/-- The state with a SEND changed. -/
def State.setSend (s : State) (w : SendWin) : State :=
  s.setCmb { s.cmb with sends := s.cmb.sends.map (fun x => if x.ctx = w.ctx ∧ x.idx = w.idx then w else x) }

/-- The key of the response to the OFFER of a SEND. -/
def offerKey (c idx : Nat) : Nat := 2 ^ 23 + c * 2 ^ 16 + idx

/-- The key of the response to a chunk of a SEND. -/
def chunkKey (c idx chunk : Nat) : Nat := 2 ^ 40 * (1 + chunk) + offerKey c idx

/-- Whether an OFFER is that of a SEND to this package itself (R330). -/
def SendWin.offers (w : SendWin) (self_ : Nat) (o : Offer) : Bool :=
  decide (w.peer.route = 0) && decide (w.peer.pos = self_) && decide (o.peer = w.peer) && decide (o.channel = w.channel) && decide (o.seq = w.seq)

/-- A SEND's window closes; responses to it are awaited no more. Its OFFER leaves the offer queue when that is this package's own (Table 11.3, R330;
assumption 123). -/
def State.dropSend (s : State) (c idx : Nat) : State :=
  let s : State := match s.sendWin c idx with
    | some w => s.setCmb { s.cmb with offers := s.cmb.offers.filter (fun o => !w.offers s.position o) }
    | none => s
  let s := s.setCmb { s.cmb with sends := s.cmb.sends.filter (fun w => !(decide (w.ctx = c) && decide (w.idx = idx))) }
  (s.setLnk { s.lnk with open_ := s.lnk.open_.filter (fun o => decide (o.1 % 2 ^ 40 ≠ offerKey c idx)) }).unpark

/-- The posted receive of transfer handle `h`. -/
def State.recvWin (s : State) (h : Nat) : Option RecvWin := s.cmb.recvs.find? (fun r => decide (r.handle = h))

/-- The state with a receive changed. -/
def State.setRecv (s : State) (r : RecvWin) : State :=
  s.setCmb { s.cmb with recvs := s.cmb.recvs.map (fun x => if x.handle = r.handle then r else x) }

/-- A receive leaves; with leases held or granted they are fenced under the grant epoch (R332, R334). -/
def State.dropRecv (s : State) (r : RecvWin) : State :=
  let s := s.setCmb { s.cmb with recvs := s.cmb.recvs.filter (fun x => decide (x.handle ≠ r.handle)) }
  let s := r.slots.foldl (fun s x => s.moveSlot x.1) s
  if r.offer.isSome then s.fence (resHandle r.handle) r.ctx else s

/-- Everything the Combine Unit holds for context `c` is reclaimed or withdrawn (R138, R332); the fence of its stage's combine slots writes one
record, of a resource without an identifier (R450, R580; assumption 41). -/
def State.dropCombine (s : State) (c : Nat) : State :=
  let s : State := match s.cmb.run with
    | some r =>
      if r.ctx = c then
        let n := r.slots.length
        let s := r.slots.foldl (fun s x => s.moveSlot x.slot) s
        let s := s.setCmb { s.cmb with run := none }
        if n = 0 then s else s.record 0 15 0x100 c 0x204 0
      else s
    | none => s
  let s := (s.cmb.sends.filter (fun w => decide (w.ctx = c))).foldl (fun s w => s.dropSend w.ctx w.idx) s
  (s.cmb.recvs.filter (fun r => decide (r.ctx = c))).foldl (fun s r => s.dropRecv r) s

/-- BASE of the tensor descriptor at a virtual address, when it can be read. -/
def State.baseAt (s : State) (c va : Nat) : Option Nat :=
  match s.vread 0 c va 8 with
  | .ok bs => some (leNat bs)
  | .error _ => none

/-- Whether descriptor `d`'s input tensor with this BASE is complete: no earlier LAYER or HANDOFF_RECV of its context that writes it is uncompleted
(R325). -/
def State.baseDone (s : State) (c : Nat) (d : Desc) (base : Option Nat) : Bool :=
  match base with
  | some b => ((s.ring c).window.takeWhile (fun x => x.idx != d.idx)).all (fun x => x.outBase != some b || decide (x.phase = .placed))
  | none => true

/-! ### What the Link holds for a context -/

/-- Requests, data and messages of context `c` that have not left are withdrawn; outstanding requests wait for their responses (R374). -/
def State.dropLink (s : State) (c : Nat) : State :=
  let mine := fun (m : Msg) => (m.owner.map (fun o => decide (o.1 = c))).getD false
  (s.setLnk { s.lnk with reqs := s.lnk.reqs.filter (fun r => decide (r.ctx ≠ c)), got := s.lnk.got.filter (fun g => decide (g.ctx ≠ c)),
                         hold := s.lnk.hold.filter (fun x => !mine x.1), parked := s.lnk.parked.filter (fun m => !mine m) })

end Sys2Proof.Machine
end

