-- ==== Sys2Proof/Machine/ColBase.lean ====
section
/-! DEFINITION. Machine/ColBase.lean: collective groups, their members and messages, and what leaving a group does to them (R380, R381, R384,
R403, R412, R417). -/

namespace Sys2Proof.Machine

/-! ### Slots -/

/-- The state with the Collectives unit changed. -/
def State.setCol (s : State) (u : ColUnit) : State := { s with col := u }

/-- Group slot `g`. -/
def State.group (s : State) (g : Nat) : GroupSlot := tabGet (fun _ => GroupSlot.reset) s.col.groups g

/-- The state with slot `g` changed. -/
def State.setGroup (s : State) (g : Nat) (x : GroupSlot) : State :=
  s.setCol { s.col with groups := tabSet (fun _ => GroupSlot.reset) s.col.groups g x }

/-- The identifier of group slot `g` (R381). -/
def resGroup (g : Nat) : Nat := 0x200 + g

/-- The group epoch of slot `g`. -/
def State.gepoch (s : State) (g : Nat) : Nat := s.epoch (resGroup g)

/-- A bit of COL_EVT, with the slot or slice as DETAIL (R416). -/
def State.colFlag (s : State) (bit detail : Nat) : State := s.flag 0x70008 bit 8 noCtx detail

/-- COL_CNT_k grows. -/
def State.colCount (s : State) (k n : Nat) : State := s.bump (0x70040 + 4 * k) 32 n

/-- COL_CFG.LEASE_MIN; 0 acts as 1. -/
def State.colLease (s : State) : Nat := max 1 (s.fld 0x70000 24 8)

/-- Whether a slot is formed or being re-formed. -/
def GroupSlot.alive (x : GroupSlot) : Bool := decide (x.state = .formed) || decide (x.state = .reforming)

/-! ### Shapes (R380, R410) -/

/-- The coordinates of a position number. -/
def coordsOf (p : Nat) : Nat × Nat × Nat := (p % 4, p / 4 % 4, p / 16)

/-- The coordinate of a position on axis 0 (X), 1 (Y) or 2 (Z). -/
def coordOn (a p : Nat) : Nat := if a = 0 then p % 4 else if a = 1 then p / 4 % 4 else p / 16

/-- Whether a shape covers a position of an installation of `zLen` packages along Z (Table 13.1). -/
def shapeCovers (shape : Nat) (anchor : Nat × Nat × Nat) (zLen p : Nat) : Bool :=
  let (x, y, z) := coordsOf p
  let onX := decide (x = anchor.1 % 4)
  let onY := decide (y = anchor.2.1 % 4)
  let onZ := decide (z = anchor.2.2 % zLen)
  let near := fun (c c0 len : Nat) => decide (c = c0 % len) || decide (c = (c0 + 1) % len)
  match shape with
  | 0 => onY && onZ
  | 1 => onX && onZ
  | 2 => onX && onY
  | 3 => onZ
  | 4 => onY
  | 5 => onX
  | 6 => near x anchor.1 4 && near y anchor.2.1 4 && near z anchor.2.2 zLen
  | _ => true

/-- The members of a shape in rank order. -/
def shapeMembers (shape : Nat) (anchor : Nat × Nat × Nat) (zLen : Nat) : List Nat :=
  (List.range (16 * zLen)).filter (shapeCovers shape anchor zLen)

/-- Whether a shape spans the Z axis in a way that Z = 1 refuses. -/
def spansZ (shape : Nat) : Bool := shape == 2 || shape == 4 || shape == 5 || shape == 6

/-- Whether an anchor field the shape does not use is not zero. -/
def anchorUnused (shape : Nat) (a : Nat × Nat × Nat) : Bool :=
  let (ux, uy, uz) := match shape with
    | 0 => (false, true, true)
    | 1 => (true, false, true)
    | 2 => (true, true, false)
    | 3 => (false, false, true)
    | 4 => (false, true, false)
    | 5 => (true, false, false)
    | 6 => (true, true, true)
    | _ => (false, false, false)
  (!ux && decide (a.1 ≠ 0)) || (!uy && decide (a.2.1 ≠ 0)) || (!uz && decide (a.2.2 ≠ 0))

/-- The members of a list on the line of position `p` along axis `a`, in ascending coordinate. -/
def lineOf (l : List Nat) (a p : Nat) : List Nat :=
  l.filter (fun q => (List.range 3).all (fun b => b == a || coordOn b q == coordOn b p))

/-- The place of a position in a list. -/
def rankIn (l : List Nat) (p : Nat) : Nat := l.findIdx (fun q => q == p)

/-- Whether every member at formation is live. -/
def GroupSlot.full (x : GroupSlot) : Bool := x.live == x.members

/-- The positions that were members and are no longer live, one bit modulo 64 each (R405). -/
def GroupSlot.missing (x : GroupSlot) : Nat := maskOf 64 (fun i => x.members.any (fun p => decide (p % 64 = i) && !x.live.contains p))

/-- The effective MIN_LIVE for `m` members (R406, R411). -/
def minLiveOf (m field : Nat) : Nat := max field (m / 2 + 1)

/-- The leader of a slot, `lost` taken as lost: the live member with the lowest position that is not (R388, R403). -/
def GroupSlot.leader (x : GroupSlot) (lost : Nat) : Option Nat := x.live.find? (fun p => decide (p ≠ lost))

/-! ### Messages -/

/-- A message of slot `g` to the member at position `p`. -/
def State.colMsg (s : State) (p : Nat) (kind : MsgKind) (args : List Nat) (data : List Byte) (owner : Option (Nat × Nat × Nat)) : State :=
  s.sendMsg { kind := kind, src := 0, dst := ⟨0, p, 0⟩, epoch := 0, args := args, data := data, owner := owner, key := none }

/-- A message without data to each of several members. -/
def State.tell (s : State) (ps : List Nat) (kind : MsgKind) (args : List Nat) : State :=
  ps.foldl (fun s p => s.colMsg p kind args [] none) s

/-- A SUSPECT that names a position goes to the leader of slot `g`, or to its successor when the leader is the one lost (R403). -/
def State.suspect (s : State) (g lost : Nat) : State :=
  match (s.group g).leader lost with
  | some p => s.colMsg p .suspect [g, s.gepoch g, lost] [] none
  | none => s

/-! ### Work of a slot -/

/-- The COLLECTIVE of a slot with a sequence number. -/
def State.coll (s : State) (g cseq : Nat) : Option Coll := s.col.colls.find? (fun x => decide (x.slot = g) && decide (x.cseq = cseq))

/-- The state with a COLLECTIVE changed. -/
def State.setColl (s : State) (x : Coll) : State :=
  s.setCol { s.col with colls := s.col.colls.map (fun y => if y.slot = x.slot ∧ y.cseq = x.cseq then x else y) }

/-- A COLLECTIVE gives up its staging, its slice slots and its place in the order of GO (R404). -/
def State.freeColl (s : State) (g cseq : Nat) : State :=
  s.setCol { s.col with goOrder := s.col.goOrder.filter (fun e => decide (e ≠ (g, cseq))),
                        slices := s.col.slices.filter (fun l => !(decide (l.slot = g) && decide (l.cseq = cseq))) }

/-- A COLLECTIVE leaves the unit. -/
def State.dropColl (s : State) (g cseq : Nat) : State :=
  let s := s.freeColl g cseq
  s.setCol { s.col with colls := s.col.colls.filter (fun y => !(decide (y.slot = g) && decide (y.cseq = cseq))) }

/-- A DAWN leaves the unit. -/
def State.dropDawn (s : State) (g dseq : Nat) : State :=
  s.setCol { s.col with dawns := s.col.dawns.filter (fun d => !(decide (d.slot = g) && decide (d.dseq = dseq))) }

/-- The Dawn values, waiting Dawn slots and announcements of slot `g` are discarded. -/
def State.dropTraffic (s : State) (g : Nat) : State :=
  s.setCol { s.col with values := s.col.values.filter (fun v => decide (v.slot ≠ g)),
                        sendq := s.col.sendq.filter (fun e => decide (bitsOf e.2.1 104 6 ≠ g)),
                        table := s.col.table.filter (fun e => decide (e.1 ≠ g)) }

/-- The work of slot `g` ends, each descriptor as `f` says. -/
def State.endGroupWork (s : State) (g : Nat) (f : State → Nat → Nat → State) : State :=
  let s := (s.col.colls.filter (fun x => decide (x.slot = g))).foldl (fun s x => f (s.dropColl g x.cseq) x.ctx x.idx) s
  let s := (s.col.dawns.filter (fun d => decide (d.slot = g))).foldl (fun s d => f (s.dropDawn g d.dseq) d.ctx d.idx) s
  s.dropTraffic g

/-- A descriptor of the unit completes GROUP_REFUSED with a reason of Table 13.9, which the slot keeps (R415). -/
def State.groupRefused (s : State) (g c idx reason : Nat) : State :=
  let s := (s.setGroup g { s.group g with reason := reason }).colCount 9 1
  s.endDesc c idx 0x30 reason (((s.desc c idx).map Desc.epoch).getD 0)

/-- This package leaves slot `g` (R384, R412): its work there ends as `f` says, and the slot is FREE, with its epoch, its LAST_REASON and the
JOINs it holds for the next formation. A dissolve tells the other members (R403); a reset, a teardown or Midnight sends nothing (R417). -/
def State.leaveGroup (s : State) (g : Nat) (told : Bool) (f : State → Nat → Nat → State) : State :=
  let x := s.group g
  let s := if told && x.alive then s.suspect g s.position else s
  let s := s.endGroupWork g f
  s.setGroup g { GroupSlot.reset with reason := (s.group g).reason, joins := x.joins }

/-- A bracket that rolls back during its handshakes leaves the groups it was forming or had formed (R384, R460). -/
def State.undoForms (s : State) (b : Bracket) : State :=
  b.forms.foldl (fun s f =>
    if f.begun ∧ (s.group f.slot).state ≠ .free ∧ (s.group f.slot).ctx = b.ctx then s.leaveGroup f.slot true (fun s _ _ => s) else s) s

/-- The open bracket rolls back for a reason of Table 15.4 that no descriptor's failure caused, and reports itself. -/
def State.rollbackFor (s : State) (det : Nat) : State :=
  match s.flt.bracket with
  | some b => ((s.undoForms b).rollback det).rollbackReport b det
  | none => s

/-- The slots context `c` holds are left without completions, and a slot that was granted is fenced: its epoch is bumped and a record written
(R138 step 4, R412, R449 to R451, Table 15.9; assumption 93). -/
def State.dropCollect (s : State) (c : Nat) : State :=
  (List.range 64).foldl (fun s g =>
    if (s.group g).state ≠ .free ∧ (s.group g).ctx = c then
      let granted := decide ((s.group g).state ≠ .forming)
      let s := s.leaveGroup g false (fun s _ _ => s)
      if granted then (s.setEpoch (resGroup g) (nextEpoch (s.epoch (resGroup g)))).record 0 15 0x100 c 0x204 (resGroup g) else s
    else s) s

/-- Each slot this package is a live member of tells that this package is lost (R58, R403). -/
def State.suspectSelf (s : State) : State :=
  (List.range 64).foldl (fun s g => if (s.group g).alive then s.suspect g s.position else s) s

/-- Each slot with a neighbour as a live member tells that it is lost (R403). -/
def State.suspectPeer (s : State) (p : Nat) : State :=
  (List.range 64).foldl (fun s g => if (s.group g).alive && (s.group g).live.contains p then s.suspect g p else s) s

end Sys2Proof.Machine
end

