-- ==== Sys2Proof/Machine/Num.lean ====
section
/-! DEFINITION. Machine/Num.lean: the element formats of Table 6.4 and their arithmetic, exact and then rounded to nearest even (R181,
R183, R233, R261, R290). -/

namespace Sys2Proof.Machine

/-- A decoded element: NaN, an infinity, or plus or minus `m · 2^e` exactly. -/
inductive Num where
  | nan
  | inf (neg : Bool)
  | fin (neg : Bool) (m : Nat) (e : Int)
  deriving DecidableEq, Repr

/-- +0. -/
def Num.zero : Num := .fin false 0 0

/-- An integer. -/
def Num.ofInt (i : Int) : Num := .fin (decide (i < 0)) i.natAbs 0

/-! ### Formats (Table 6.4) -/

/-- The element formats by number. -/
def fmtInt4 : Nat := 1
def fmtE2m1 : Nat := 2
def fmtInt8 : Nat := 3
def fmtE4m3 : Nat := 4
def fmtE5m2 : Nat := 5
def fmtBf16 : Nat := 6
def fmtFp32 : Nat := 7
def fmtInt32 : Nat := 8

/-- Bits of an element; 0 for a number that is no format. -/
def fmtBits (f : Nat) : Nat := [0, 4, 4, 8, 8, 8, 16, 32, 32].getD f 0

/-- Whether a format carries block scales. -/
def fmtScaled (f : Nat) : Bool := f == 1 || f == 2

/-- Whether a format is integer. -/
def fmtInteger (f : Nat) : Bool := f == 1 || f == 3 || f == 8

/-- The exponent bits, mantissa bits and bias of a floating-point format. -/
def fmtShape (f : Nat) : Nat × Nat × Nat :=
  if f = 2 then (2, 1, 1) else if f = 4 then (4, 3, 7) else if f = 5 then (5, 2, 15) else if f = 6 then (8, 7, 127) else (8, 23, 127)

/-- The value of element bits `b` in format `f`. -/
def decodeNum (f b : Nat) : Num :=
  if fmtInteger f then Num.ofInt (toSigned (fmtBits f) b)
  else
    let (eb, mb, bias) := fmtShape f
    let neg := bitAt b (eb + mb)
    let ex := bitsOf b mb eb
    let man := bitsOf b 0 mb
    if f = 4 ∧ ex = 15 ∧ man = 7 then .nan
    else if (f ≠ 2 ∧ f ≠ 4) ∧ ex = 2 ^ eb - 1 then (if man = 0 then .inf neg else .nan)
    else if ex = 0 then .fin neg man (1 - (bias : Int) - mb)
    else .fin neg (man + 2 ^ mb) ((ex : Int) - bias - mb)

/-! ### Exact arithmetic -/

/-- `m · 2^e` scaled to exponent `k`, for `k ≤ e`. -/
def scaleTo (m : Nat) (e k : Int) : Nat := m * 2 ^ (e - k).toNat

/-- Exact sum, with the signs of zero and the infinities of IEEE 754. -/
def Num.add : Num → Num → Num
  | .nan, _ => .nan
  | _, .nan => .nan
  | .inf a, .inf b => if a = b then .inf a else .nan
  | .inf a, _ => .inf a
  | _, .inf b => .inf b
  | .fin a m e, .fin b n f =>
    let k := min e f
    let x : Int := if a then -(scaleTo m e k : Int) else scaleTo m e k
    let y : Int := if b then -(scaleTo n f k : Int) else scaleTo n f k
    let z := x + y
    if z = 0 then .fin (a && b) 0 k else .fin (decide (z < 0)) z.natAbs k

/-- Exact product. -/
def Num.mul : Num → Num → Num
  | .nan, _ => .nan
  | _, .nan => .nan
  | .inf a, .inf b => .inf (a != b)
  | .inf a, .fin b n _ => if n = 0 then .nan else .inf (a != b)
  | .fin a m _, .inf b => if m = 0 then .nan else .inf (a != b)
  | .fin a m e, .fin b n f => .fin (a != b) (m * n) (e + f)

/-- The negative. -/
def Num.neg : Num → Num
  | .nan => .nan
  | .inf a => .inf (!a)
  | .fin a m e => .fin (!a) m e

/-- Whether `x < y`, as IEEE compares: false when either is NaN. -/
def Num.lt : Num → Num → Bool
  | .nan, _ => false
  | _, .nan => false
  | .inf a, .inf b => a && !b
  | .inf a, _ => a
  | _, .inf b => !b
  | .fin a m e, .fin b n f =>
    let k := min e f
    let x : Int := if a then -(scaleTo m e k : Int) else scaleTo m e k
    let y : Int := if b then -(scaleTo n f k : Int) else scaleTo n f k
    decide (x < y)

/-- Whether a value is zero. -/
def Num.isZero : Num → Bool
  | .fin _ m _ => m == 0
  | _ => false

/-- Whether a value is NaN. -/
def Num.isNan : Num → Bool
  | .nan => true
  | _ => false

/-- Whether a value is finite. -/
def Num.isFin : Num → Bool
  | .fin _ _ _ => true
  | _ => false

/-! ### Rounding -/

/-- floor(log2(n/d)) for positive `n` and `d`. -/
def log2Rat (n d : Nat) : Int :=
  let e : Int := (Nat.log2 n : Int) - Nat.log2 d
  let ge := if 0 ≤ e then d * 2 ^ e.toNat ≤ n else d ≤ n * 2 ^ (-e).toNat
  if ge then e else e - 1

/-- n/d in units of 2^lsb: quotient, remainder and divisor. -/
def unitsRat (n d : Nat) (lsb : Int) : Nat × Nat × Nat :=
  if 0 ≤ lsb then (n / (d * 2 ^ lsb.toNat), n % (d * 2 ^ lsb.toNat), d * 2 ^ lsb.toNat)
  else (n * 2 ^ (-lsb).toNat / d, n * 2 ^ (-lsb).toNat % d, d)

/-- n/d rounded to nearest even with `prec` bits and no unit below 2^emin: the integer and its unit. -/
def roundRat (n d prec : Nat) (emin : Int) : Nat × Int :=
  if n = 0 then (0, emin)
  else
    let lsb := max (log2Rat n d - (prec - 1 : Nat)) emin
    let (q, r, dd) := unitsRat n d lsb
    (if 2 * r < dd then q else if dd < 2 * r then q + 1 else q + q % 2, lsb)

/-- How a value that rounds out of a format's range is written. -/
structure Narrow where
  bits : Nat
  saturated : Bool
  madeNan : Bool
  deriving DecidableEq, Repr

/-- The canonical quiet NaN of a format (R288). -/
def fmtNan (f : Nat) : Nat := if f = 4 then 0x7F else if f = 5 then 0x7E else if f = 6 then 0x7FC0 else 0x7FC00000

/-- The largest finite value of a format. -/
def fmtMax (f : Nat) : Nat := if f = 4 then 0x7E else if f = 5 then 0x7B else if f = 6 then 0x7F7F else 0x7F7FFFFF

/-- What stands for overflow or an infinity (Table 10.2). -/
def overflowed (f : Nat) (sat neg : Bool) : Narrow :=
  let s := b2n neg * 2 ^ (fmtBits f - 1)
  if sat then { bits := fmtMax f + s, saturated := true, madeNan := false }
  else if f = 4 then { bits := fmtNan 4, saturated := false, madeNan := true }
  else { bits := fmtMax f + 1 + s, saturated := false, madeNan := false }

/-- The magnitude n/d in a floating-point format, rounded to nearest even with unbounded exponent; none when it exceeds the largest
finite value. -/
def encodeMag (f n d : Nat) : Option Nat :=
  let (_, mb, bias) := fmtShape f
  let emin : Int := 1 - (bias : Int) - mb
  let (q, lsb) := roundRat n d (mb + 1) emin
  let (q, lsb) := if 2 ^ (mb + 1) ≤ q then (q / 2, lsb + 1) else (q, lsb)
  let bits := if q < 2 ^ mb then q else (lsb - emin + 1).toNat * 2 ^ mb + (q - 2 ^ mb)
  if fmtMax f < bits then none else some bits

/-- Conversion of a value to a floating-point format (R290). -/
def narrow (f : Nat) (sat : Bool) : Num → Narrow
  | .nan => { bits := fmtNan f, saturated := false, madeNan := false }
  | .inf neg => overflowed f sat neg
  | .fin neg m e =>
    let r := if 0 ≤ e then encodeMag f (m * 2 ^ e.toNat) 1 else encodeMag f m (2 ^ (-e).toNat)
    match r with
    | some b => { bits := b + b2n neg * 2 ^ (fmtBits f - 1), saturated := false, madeNan := false }
    | none => overflowed f sat neg

/-! ### FP32 operations on register patterns (R233) -/

/-- The value of an FP32 pattern. -/
def f32 (b : Nat) : Num := decodeNum 7 b

/-- The FP32 pattern nearest to a value. -/
def toF32 (x : Num) : Nat := (narrow 7 false x).bits

/-- Correctly rounded sum. -/
def fadd (a b : Nat) : Nat := toF32 ((f32 a).add (f32 b))

/-- Correctly rounded difference. -/
def fsub (a b : Nat) : Nat := toF32 ((f32 a).add (f32 b).neg)

/-- Correctly rounded product. -/
def fmul (a b : Nat) : Nat := toF32 ((f32 a).mul (f32 b))

/-- Correctly rounded quotient. -/
def fdiv (a b : Nat) : Nat :=
  match f32 a, f32 b with
  | .nan, _ => fmtNan 7
  | _, .nan => fmtNan 7
  | .inf _, .inf _ => fmtNan 7
  | .inf x, .fin y _ _ => toF32 (.inf (x != y))
  | .fin x _ _, .inf y => b2n (x != y) * 2 ^ 31
  | .fin x m e, .fin y n g =>
    if n = 0 then (if m = 0 then fmtNan 7 else toF32 (.inf (x != y)))
    else
      let k := e - g
      let r := if 0 ≤ k then encodeMag 7 (m * 2 ^ k.toNat) n else encodeMag 7 m (n * 2 ^ (-k).toNat)
      match r with
      | some b => b + b2n (x != y) * 2 ^ 31
      | none => toF32 (.inf (x != y))

/-- 1.0. -/
def f32One : Nat := 0x3F800000

/-- +infinity and -infinity. -/
def f32Inf : Nat := 0x7F800000
def f32NegInf : Nat := 0xFF800000

/-- Whether an FP32 pattern is NaN. -/
def f32Nan (b : Nat) : Bool := (f32 b).isNan

/-- Whether an FP32 pattern is finite. -/
def f32Fin (b : Nat) : Bool := (f32 b).isFin

/-- `a < b` on FP32 patterns. -/
def flt (a b : Nat) : Bool := (f32 a).lt (f32 b)

/-- A number as an FP32 pattern. -/
def f32OfNat (n : Nat) : Nat := toF32 (Num.ofInt n)

/-- The larger of two patterns that are not NaN, the first one on a tie. -/
def fmax (a b : Nat) : Nat := if flt a b then b else a

end Sys2Proof.Machine
end

