-- ==== Sys2Proof/Machine/Framer.lean ====
section
/-! DEFINITION. Machine/Framer.lean: the Ingest Unit's bindings, its alignment state and what ends a frame being received (R205 to R210,
R223, R224). -/

namespace Sys2Proof.Machine

/-! ### Shapes of a binding (R210, R211) -/

/-- Bytes of an element. -/
def Binding.elem (b : Binding) : Nat := fmtBits b.format / 8

/-- L, the bound payload length. -/
def Binding.payload (b : Binding) : Nat := b.height * b.width * b.channels * b.elem

/-- Patches in a row of patches. -/
def Binding.across (b : Binding) : Nat := b.width / b.patchW

/-- P. -/
def Binding.patches (b : Binding) : Nat := (b.height / b.patchH) * b.across

/-- ROW_BYTES. -/
def Binding.rowBytes (b : Binding) : Nat := 64 * ceilDiv (b.patchH * b.patchW * b.channels * b.elem) 64

/-- Where the token rows of a slot start. -/
def Binding.rowsAt (b : Binding) : Nat := 64 + 64 * ceilDiv (8 * b.patches) 64

/-- S, the slot stride. -/
def Binding.stride (b : Binding) : Nat := b.rowsAt + b.patches * b.rowBytes

/-! ### The framer -/

/-- The state with the Ingest Unit changed. -/
def State.setIng (s : State) (u : IngestUnit) : State := { s with ing := u }

/-- The binding of a stream. -/
def State.bound (s : State) (k : Nat) : Option Binding := tabGet (fun _ => none) s.ing.binds k

/-- The state with the binding of a stream changed. -/
def State.setBound (s : State) (k : Nat) (b : Option Binding) : State :=
  s.setIng { s.ing with binds := tabSet (fun _ => none) s.ing.binds k b }

/-- A condition of Table 7.7 is counted in ING_CNT_k. -/
def State.ingCount (s : State) (k n : Nat) : State := s.bump (0x80040 + 4 * k) 32 n

/-- An ING_EVT bit is set; a change from 0 to 1 writes an event entry (R224). -/
def State.ingFlag (s : State) (bit ctx : Nat) : State := s.flagQuiet 0x80014 bit 9 ctx

/-- How many lanes ING_PORT_CFG configures; 3 acts as 2 (Table 7.10). -/
def State.lanes (s : State) : Nat :=
  let k := s.fld 0x80000 0 2
  if k = 0 then 1 else if k = 1 then 2 else 4

/-- ING_PORT_CFG.ENABLE. -/
def State.ingOn (s : State) : Bool := s.rbit 0x80000 31

/-- Every configured lane is up and has shown an alignment marker (R202). -/
def State.lanesAligned (s : State) : Bool :=
  (List.range s.lanes).all (fun k => tabGet (fun _ => false) s.ing.up k && tabGet (fun _ => false) s.ing.marked k)

/-- ALIGN changes, with ING_EVT.STATE_CHG (R224). -/
def State.setAlign (s : State) (a : AlignState) : State :=
  if s.ing.align = a then s else (s.setIng { s.ing with align := a }).ingFlag 0 noCtx

/-- The frame being received is abandoned: never published, and counted (R209, R221). -/
def State.abandonFrame (s : State) : State :=
  match s.ing.rx with
  | none => s
  | some _ => ((s.setIng { s.ing with rx := none }).ingCount 11 1).ingFlag 5 noCtx

/-- An unbind of stream `k` that waited ends once no frame of the stream is being received or waits for its publication (R210): the
binding is removed and its descriptor ends. The completion's DETAIL is stated nowhere and is free (assumption 2). -/
def State.endUnbind (s : State) (k : Nat) : State :=
  match s.bound k with
  | none => s
  | some b =>
    match b.unbind with
    | none => s
    | some idx =>
      if (s.ing.rx.map (fun f => f.stream)) = some k ∨ k ∈ s.ing.waiting then s
      else
        let (x, s) := s.takeFree
        let late := ((s.desc b.ctx idx).map (fun d => d.late)).getD false
        (s.setBound k none).endDesc b.ctx idx (if late then 1 else 0) (x % 2 ^ 64) 0

/-- Every unbind that waited and now may end. -/
def State.endUnbinds (s : State) : State := (List.range 16).foldl State.endUnbind s

/-- After a resync or a new binding the next admitted frame of the stream is full (R209, R217). -/
def State.firstAgain (s : State) : State :=
  s.setIng { s.ing with binds := s.ing.binds.map (fun e => (e.1, e.2.map (fun b => { b with first := true }))) }

/-- An ingest resync (R209): HUNT, the frame being received abandoned, verifiers dropped, the next frame of every stream full. -/
def State.resync (s : State) : State :=
  (((s.abandonFrame.setIng { s.abandonFrame.ing with verifiers := [], misses := 0 }).firstAgain).setAlign .hunt).endUnbinds

/-- The port goes DOWN (Table 7.2): nothing is received, and a frame being received is abandoned. -/
def State.portDown (s : State) : State :=
  (((s.abandonFrame.setIng { s.abandonFrame.ing with verifiers := [], misses := 0, up := [], marked := [] }).firstAgain).setAlign
    .down).endUnbinds

/-- Whether the framer runs: the port enabled and the package neither in Night nor in Midnight (Table 7.2). -/
def State.framerRuns (s : State) : Bool :=
  s.ingOn && decide (s.pwr.state ≠ .night) && decide (s.pwr.state ≠ .midnight)

/-- The framer starts in HUNT once the lanes are aligned (R202). -/
def State.tryHunt (s : State) : State :=
  if s.ing.align = .down ∧ s.framerRuns ∧ s.lanesAligned then s.setAlign .hunt else s

/-- The teardown of context `c` (R223): a frame being received for it, and frames not yet published, are abandoned, and its bindings
removed. -/
def State.dropIngest (s : State) (c : Nat) : State :=
  let mine := fun k => decide ((s.bound k).map (fun b => b.ctx) = some c)
  let s := match s.ing.rx with
    | some f => if mine f.stream then s.abandonFrame else s
    | none => s
  let n := (s.ing.waiting.filter mine).length
  let s := if n = 0 then s else (s.ingCount 11 n).ingFlag 5 noCtx
  let s := s.setIng { s.ing with waiting := s.ing.waiting.filter (fun k => !mine k) }
  (List.range 16).foldl (fun s k => if mine k then s.setBound k none else s) s

/-- Every binding and pending map is removed (Table 7.8). -/
def State.dropBindings (s : State) : State := ctxRange.foldl State.dropIngest s

end Sys2Proof.Machine
end

