-- ==== Sys2Proof/Machine/Func.lean ====
section
/-! DEFINITION. Machine/Func.lean: the fixed function set of the Special Function Units (R287, R288, R297) and the fexp of the Routing
Engine (chapter 8). A function the spec only bounds is computed to many more bits than FP32 holds; which of the FP32 values within the
bound a part returns is Config.sfuChoice, a function of the code and the argument (R299). -/

namespace Sys2Proof.Machine

/-! ### Fixed point: an integer `X` stands for X / 2^320 -/

/-- Fraction bits. -/
def fxP : Nat := 320

/-- One. -/
def fxOne : Int := 2 ^ 320

/-- Product. -/
def fxMul (a b : Int) : Int := a * b / 2 ^ 320

/-- Quotient. -/
def fxDiv (a b : Int) : Int := a * 2 ^ 320 / b

/-- A dyadic value. -/
def fxDyadic (neg : Bool) (m : Nat) (e : Int) : Int :=
  let v : Int := if 0 ≤ e + 320 then m * 2 ^ (e + 320).toNat else m / 2 ^ (-(e + 320)).toNat
  if neg then -v else v

/-- Sum of t + t·x/(k) + ... : the Taylor series of e^x from term `k` on, with `n` terms left. -/
def expTail (x : Int) : Nat → Nat → Int → Int
  | 0, _, _ => 0
  | n + 1, k, t => t + expTail x n (k + 1) (fxMul t x / k)

/-- Repeated squaring. -/
def fxSquare : Nat → Int → Int
  | 0, x => x
  | n + 1, x => fxSquare n (fxMul x x)

/-- atanh(z) by its series: z^(2k+1)/(2k+1), `n` terms from `k`. -/
def atanhTail (z2 : Int) : Nat → Nat → Int → Int
  | 0, _, _ => 0
  | n + 1, k, p => p / (2 * k + 1) + atanhTail z2 n (k + 1) (fxMul p z2)

/-- atanh(z) for |z| at most 1/3. -/
def fxAtanh (z : Int) : Int := atanhTail (fxMul z z) 110 0 z

/-- ln 2 = 2 atanh(1/3). -/
def fxLn2 : Int := 2 * fxAtanh (fxOne / 3)

/-- e^x for |x| up to a few hundred. -/
def fxExp (x : Int) : Int :=
  let k := x / fxLn2
  let r := x - k * fxLn2
  let y := fxSquare 8 (expTail (r / 256) 45 1 fxOne)
  if 0 ≤ k then y * 2 ^ k.toNat else y / 2 ^ (-k).toNat

/-- ln x for x in [1, 2]. -/
def fxLn12 (x : Int) : Int := 2 * fxAtanh (fxDiv (x - fxOne) (x + fxOne))

/-- One bit of an integer square root at a time, from bit `n` down. -/
def isqrtBits (v : Nat) : Nat → Nat → Nat
  | 0, r => r
  | n + 1, r => isqrtBits v n (if (r + 2 ^ n) * (r + 2 ^ n) ≤ v then r + 2 ^ n else r)

/-- floor of the square root. -/
def isqrt (v : Nat) : Nat := isqrtBits v (Nat.log2 v / 2 + 1) 0

/-- arctan(1/k) by its series. -/
def atanInv (k : Int) : Nat → Nat → Int → Int
  | 0, _, _ => 0
  | n + 1, i, p => (if i % 2 = 0 then p / (2 * i + 1) else -(p / (2 * i + 1))) + atanInv k n (i + 1) (p / (k * k))

/-- pi by Machin's formula. -/
def fxPi : Int := 16 * atanInv 5 75 0 (fxOne / 5) - 4 * atanInv 239 25 0 (fxOne / 239)

/-- The square root of 2/pi. -/
def fxSqrt2Pi : Int := isqrt (fxDiv (2 * fxOne) fxPi * fxOne).toNat

/-- Terms of the all-positive series of erf: t·x²/(2k+1). -/
def erfTail (x2 : Int) : Nat → Nat → Int → Int
  | 0, _, _ => 0
  | n + 1, k, t => t + erfTail x2 n (k + 1) (fxMul t x2 / (2 * k + 1))

/-- erf(x/√2) for |x| at most 16. -/
def fxErf (x : Int) : Int :=
  let x2 := fxMul x x
  fxMul (fxMul x fxSqrt2Pi) (fxMul (fxExp (-(x2 / 2))) (erfTail x2 700 1 fxOne))

/-- 1/(1 + e^-x). -/
def fxSigmoid (x : Int) : Int :=
  if 0 ≤ x then
    let u := if 300 * fxOne < x then 0 else fxExp (-x)
    fxDiv fxOne (fxOne + u)
  else
    let u := if x < -300 * fxOne then 0 else fxExp x
    fxDiv u (fxOne + u)

/-! ### FP32 values in order -/

/-- An FP32 pattern's place in the order of values; both zeros stand at 0. -/
def f32Ord (b : Nat) : Int := if b < 2 ^ 31 then b else -((b : Int) - 2 ^ 31)

/-- The pattern at a place. -/
def f32OfOrd (o : Int) : Nat := if 0 ≤ o then o.toNat else 2 ^ 31 + (-o).toNat

/-- The largest FP32 at most X / 2^320, as a place, for X not negative. -/
def ordFloor (x : Nat) : Nat :=
  if x = 0 then 0
  else
    let lsb := max ((Nat.log2 x : Int) - 23) (320 - 149)
    let q := x / 2 ^ lsb.toNat
    let bits := if q < 2 ^ 23 then q else (lsb - (320 - 149) + 1).toNat * 2 ^ 23 + (q - 2 ^ 23)
    min bits 0x7F7FFFFF

/-- The smallest FP32 at least X / 2^320, as a place, for X not negative. -/
def ordCeil (x : Nat) : Nat :=
  let o := ordFloor x
  let lsb := max ((Nat.log2 x : Int) - 23) (320 - 149)
  if x % 2 ^ lsb.toNat = 0 then o else min (o + 1) 0x7F7FFFFF

/-- The places of the smallest FP32 not below and the largest not above a fixed-point value. -/
def ordUp (x : Int) : Int := if 0 ≤ x then ordCeil x.toNat else -(ordFloor (-x).toNat : Int)

/-- See `ordUp`. -/
def ordDown (x : Int) : Int := if 0 ≤ x then ordFloor x.toNat else -(ordCeil (-x).toNat : Int)

/-- One ulp of FP32 at a fixed-point value, in fixed point (Error bounds). -/
def fxUlp (y : Int) : Int := 2 ^ (max ((Nat.log2 y.natAbs : Int) - 23) (320 - 149)).toNat

/-- Which FP32 value a part returns for function `f` at `x`: within `ulps` of the true value `y`, or within `alt` where that is wider,
and not below `low` (R297). -/
def pickWithin (f x : Nat) (y : Int) (ulps : Int) (alt : Int) (low : Int) : Nat :=
  let b := max (ulps * fxUlp y) alt
  let lo := max low (ordUp (y - b))
  let hi := max lo (ordDown (y + b))
  f32OfOrd (lo + ((Config.sfuChoice f x % (hi - lo + 1).toNat : Nat) : Int))

/-- No lower limit. -/
def noLow : Int := -(2 ^ 32)

/-! ### The function set (Table 10.1, Table 10.4) -/

/-- The fixed-point value of a finite FP32 pattern, clipped to ±2^130. -/
def fxOf (b : Nat) : Int :=
  match f32 b with
  | .fin neg m e => fxDyadic neg m e
  | _ => 0

/-- Whether the fixed-point value is at most 2^-150. -/
def tiny150 (y : Int) : Bool := decide (y ≤ 2 ^ 170)

/-- e^x in fixed point, with the far tails cut. -/
def expOf (x : Int) : Int := if x < -150 * fxOne then 0 else fxExp (min x (130 * fxOne))

/-- EXP. -/
def sfExp (b : Nat) : Nat :=
  match f32 b with
  | .nan => fmtNan 7
  | .inf neg => if neg then 0 else f32Inf
  | .fin neg m e =>
    let x := fxDyadic neg m e
    if m = 0 then f32One
    else if fxDyadic false 0xB17218 (-17) ≤ x then f32Inf
    else if tiny150 (expOf x) then 0
    else pickWithin 1 b (expOf x) 1 0 0

/-- LOG. -/
def sfLog (b : Nat) : Nat :=
  match f32 b with
  | .nan => fmtNan 7
  | .inf neg => if neg then fmtNan 7 else f32Inf
  | .fin neg m e =>
    if m = 0 then f32NegInf
    else if neg then fmtNan 7
    else if b = f32One then 0
    else
      let k := Nat.log2 m
      let y := fxLn12 (fxDyadic false m (-(k : Int))) + (e + k) * fxLn2
      pickWithin 2 b y 1 0 noLow

/-- RECIP, correctly rounded. -/
def sfRecip (b : Nat) : Nat :=
  match f32 b with
  | .nan => fmtNan 7
  | .inf neg => b2n neg * 2 ^ 31
  | .fin _ _ _ => fdiv f32One b

/-- RSQRT. -/
def sfRsqrt (b : Nat) : Nat :=
  match f32 b with
  | .nan => fmtNan 7
  | .inf neg => if neg then fmtNan 7 else 0
  | .fin neg m e =>
    if m = 0 then (if neg then f32NegInf else f32Inf)
    else if neg then fmtNan 7
    else
      let v := if 0 ≤ e then 2 ^ 640 / (m * 2 ^ e.toNat) else 2 ^ (640 + (-e).toNat) / m
      pickWithin 4 b (isqrt v) 1 0 0

/-- TANH. -/
def sfTanh (b : Nat) : Nat :=
  match f32 b with
  | .nan => fmtNan 7
  | .inf neg => f32One + b2n neg * 2 ^ 31
  | .fin neg m e =>
    let x := fxDyadic neg m e
    if m = 0 then b
    else if 5767 * fxOne ≤ 640 * x.natAbs then f32One + b2n neg * 2 ^ 31
    else
      let u := fxExp (2 * x)
      let y := fxDiv (u - fxOne) (u + fxOne)
      pickWithin 5 b (if neg then max y (x + 1) else min y (x - 1)) 2 0 noLow

/-- SIGMOID. -/
def sfSigmoid (b : Nat) : Nat :=
  match f32 b with
  | .nan => fmtNan 7
  | .inf neg => if neg then 0 else f32One
  | .fin neg m e =>
    let x := fxDyadic neg m e
    if 17328125 * fxOne ≤ 1000000 * x then f32One
    else
      let y := fxSigmoid x
      if tiny150 y then 0 else pickWithin 6 b y 2 0 0

/-- 2^-40 in fixed point where `x` is below -4, else nothing (Table 10.4). -/
def wideTail (x : Int) : Int := if x < -4 * fxOne then 2 ^ 280 else 0

/-- A computed value of a function whose values lie strictly below `x` for positive `x` and strictly below zero for negative: where the two differ by less
than the fixed point shows, the value just below stands for it, so that ulps are those of the FP32 values around the true one. -/
def below (x y : Int) : Int := min y ((if 0 < x then x else 0) - 1)

/-- GELU_ERF. -/
def sfGeluErf (b : Nat) : Nat :=
  match f32 b with
  | .nan => fmtNan 7
  | .inf neg => if neg then 2 ^ 31 else f32Inf
  | .fin neg m e =>
    let x := fxDyadic neg m e
    if m = 0 then b
    else
      let y := if 16 * fxOne < x then x else if x < -16 * fxOne then 0 else fxMul x (fxOne + fxErf x) / 2
      pickWithin 7 b (below x y) 4 (wideTail x) noLow

/-- GELU_TANH: x times the sigmoid of 2·√(2/π)·(x + 0.044715x³). -/
def sfGeluTanh (b : Nat) : Nat :=
  match f32 b with
  | .nan => fmtNan 7
  | .inf neg => if neg then 2 ^ 31 else f32Inf
  | .fin neg m e =>
    let x := fxDyadic neg m e
    if m = 0 then b
    else
      let w := fxMul fxSqrt2Pi (x + fxMul x (fxMul x x) * 44715 / 1000000)
      let y := fxMul x (fxSigmoid (2 * w))
      pickWithin 8 b (below x y) 4 (wideTail x) noLow

/-- SILU. -/
def sfSilu (b : Nat) : Nat :=
  match f32 b with
  | .nan => fmtNan 7
  | .inf neg => if neg then 2 ^ 31 else f32Inf
  | .fin neg m e =>
    let x := fxDyadic neg m e
    if m = 0 then b else pickWithin 9 b (below x (fxMul x (fxSigmoid x))) 3 (wideTail x) noLow

/-- SOFTPLUS. -/
def sfSoftplus (b : Nat) : Nat :=
  match f32 b with
  | .nan => fmtNan 7
  | .inf neg => if neg then 0 else f32Inf
  | .fin neg m e =>
    let x := fxDyadic neg m e
    let u := if 300 * fxOne < x.natAbs then 0 else fxExp (-(x.natAbs : Int))
    let x0 := if 0 < x then x else 0
    let y := x0 + fxLn12 (fxOne + u)
    pickWithin 10 b (max y (x0 + 1)) 2 0 0

/-- The function of a code of Table 10.1 on an FP32 pattern. -/
def actFn (code b : Nat) : Nat :=
  match code with
  | 0 => if f32Nan b then fmtNan 7 else b
  | 1 => sfExp b
  | 2 => sfLog b
  | 3 => sfRecip b
  | 4 => sfRsqrt b
  | 5 => sfTanh b
  | 6 => sfSigmoid b
  | 7 => sfGeluErf b
  | 8 => sfGeluTanh b
  | 9 => sfSilu b
  | _ => sfSoftplus b

/-- fexp of chapter 8: the FP32 value nearest to e^x, with no choice left open. -/
def fexp (b : Nat) : Nat :=
  match f32 b with
  | .nan => fmtNan 7
  | .inf neg => if neg then 0 else f32Inf
  | .fin neg m e =>
    let x := fxDyadic neg m e
    if m = 0 then f32One
    else
      let y := expOf x
      if fxDyadic false 0xFFFFFF 104 < y then f32Inf
      else toF32 (.fin false y.toNat (-320))

end Sys2Proof.Machine
end

