-- ==== Sys2Proof/Machine/Ledger.lean ====
section
/-! DEFINITION. Machine/Ledger.lean: the Power Ledger's arithmetic (R421 to R431, R437 to R439, R147) and the readiness of the
package (R505), which starts it. -/

namespace Sys2Proof.Machine

/-- A setting of the Ledger as it stood at the last accounting: a write takes effect at the next one (R441). -/
def State.inForce (s : State) (off lo len : Nat) : Nat := wfld (tabGet regDefault s.pwr.ledger.inForce off) lo len

/-! ### Heat (R421, R437, R443) -/

/-- THROTTLE_C, clipped to 60 to 105 (R437). -/
def State.throttleC (s : State) : Nat := min 105 (max 60 (s.inForce 0x2000C 0 8))

/-- STOP_C, clipped to THROTTLE_C + 2 to 110 (R437). -/
def State.stopC (s : State) : Nat := min 110 (max (s.throttleC + 2) (s.inForce 0x2000C 8 8))

/-- Whether a sensor reading is valid (R443). -/
def sensorValid (r : Nat) : Bool := decide (r ≠ 0) && decide (r ≠ 255)

/-- What die `d` counts as reading: the higher of its valid sensors, or THROTTLE_C when both are invalid (R443). -/
def State.dieTemp (s : State) (d : Nat) : Nat :=
  let a := tabGet (fun _ => 0) s.pwr.tempA d
  let b := tabGet (fun _ => 0) s.pwr.tempB d
  match sensorValid a, sensorValid b with
  | true, true => max a b
  | true, false => a
  | false, true => b
  | false, false => s.throttleC

/-- The highest reading of the package (R421). -/
def State.hot (s : State) : Nat := (List.range 5).foldl (fun m d => max m (s.dieTemp d)) 0

/-- The heat percentage (R421). -/
def State.heatPct (s : State) : Nat :=
  if s.hot < s.throttleC then 100
  else if s.stopC ≤ s.hot then 0
  else 100 * (s.stopC - s.hot) / (s.stopC - s.throttleC)

/-- The heat allowance admits new work while hot is below STOP_C (R421). -/
def State.heatAdmits (s : State) : Bool := decide (s.hot < s.stopC)

/-! ### Energy of an item (R422) -/

/-- LDG_COEF_k. -/
def State.coef (s : State) (k : Nat) : Nat := s.inForce (0x20100 + 4 * k) 0 16

/-- What an item did or will do: counts for k from 0 to 8 and its occupancy in ns. -/
structure Work where
  counts : List Nat
  ns : Nat
  deriving DecidableEq, Repr

/-- The sum of counts times coefficients from `k` on. -/
def State.weigh (s : State) : Nat → List Nat → Nat
  | _, [] => 0
  | k, c :: cs => c * s.coef k + s.weigh (k + 1) cs

/-- The energy of an item in uJ (R422). -/
def State.energy (s : State) (w : Work) : Nat :=
  s.weigh 0 (w.counts.take 9) / 100000000 + w.ns * s.coef 9 / 1000000

/-! ### Hour accounting (R424, R428, R437) -/

/-- LDG_CFG.STEP_W, 0 acting as 1. -/
def State.stepW (s : State) : Nat := max 1 (s.inForce 0x20000 0 10)

/-- LDG_CFG.RIDE_PCT within 10 to 100. -/
def State.ridePct (s : State) : Nat := min 100 (max 10 (s.fld 0x20000 16 8))

/-- ONLINE and INSTALLED of the last SSTAT frame. -/
def State.shelves (s : State) : Nat × Nat := (bitsOf s.pwr.sstat 12 4, bitsOf s.pwr.sstat 8 4)

/-- Whether the shelf scaling of R424 applies. -/
def State.shelfScaled (s : State) : Bool :=
  s.rbit 0x20000 27 && decide (0 < s.shelves.2) && s.pwr.sstatOk

/-- PCT of local Hour `hh` (R437). -/
def State.profile (s : State) (hh : Nat) : Nat := min 100 (s.inForce (0x20040 + 4 * hh) 0 7)

/-- The allowance A of an Hour of `t` ns with the previous Hour's energy `m` over `tp` ns (R424), local Hour `hh`. -/
def State.allowanceA (s : State) (allow hh t m tp : Nat) : Nat :=
  let a := min (allow * s.profile hh / 100) (1050 * t / 1000)
  let a := if s.shelfScaled then a * s.shelves.1 / s.shelves.2 else a
  let a := if s.inForce 0x20000 30 1 = 1 then min a (m * t / tp + s.stepW * t / 1000) else a
  let a := a * s.heatPct / 100
  if s.pwr.ride then a * s.ridePct / 100 else a

/-- What reduces A as it is computed now (Table 14.4): HEAT, SHELF and PROFILE in bits 1 to 3. -/
def State.cutsNow (s : State) : Nat :=
  2 * b2n (decide (s.heatPct < 100)) + 4 * b2n (s.shelfScaled && decide (s.shelves.1 < s.shelves.2))
    + 8 * b2n (decide (s.profile (s.localMinute / 60) < 100))

/-- The causes of Afternoon (Table 14.4): ride-through, what reduced A when it was last computed, and heat below 100 percent now (Table 14.5). -/
def State.causes (s : State) : Nat :=
  b2n s.pwr.ride + (s.pwr.ledger.cuts ||| 2 * b2n (decide (s.heatPct < 100)))

/-- The power state changes, with PWR_EVT.STATE_CHG (R442). -/
def State.setPower (s : State) (p : PowerState) : State :=
  if s.pwr.state = p then s
  else ({ s with pwr := { s.pwr with state := p } }).flagOpen 0xD0014 0 14 noCtx

/-- Noon and Afternoon follow the causes (R432). -/
def State.afternoon (s : State) : State :=
  let s := { s with pwr := { s.pwr with cause := s.causes } }
  if s.pwr.state = .noon ∨ s.pwr.state = .afternoon then
    s.setPower (if s.causes = 0 then .noon else .afternoon)
  else s

/-- The first tick of the local Hour's last Minute's end: where the installation Hour under way ends (R33). -/
def State.hourEnd (s : State) : Nat := (s.day.minuteStart (s.day.minute / 60 * 60 + 60)).toNat

/-- The length of the local Hour under way. -/
def State.hourTicks (s : State) : Nat :=
  s.hourEnd - (s.day.minuteStart (s.day.minute / 60 * 60)).toNat

/-- What the accounting of one Hour sets: A, W, rem and debt from the debt carried (R424). -/
def State.setHour (s : State) (a u carried : Nat) : State :=
  let w := a - u
  let s := { s with pwr := { s.pwr with ledger := { s.pwr.ledger with whole := w, unattr := u, debtAtAcct := carried } } }
  let s := s.setReg 0x20014 (BitVec.ofNat 32 a)
  let s := s.setReg 0x20018 (BitVec.ofNat 32 (w - carried))
  s.setReg 0x2001C (BitVec.ofNat 32 (carried - w))

/-- A reservation of an item that runs on into the next Hour: it is released from the Hour it was made in (R441). -/
def Reservation.moved (r : Reservation) : Reservation := { r with est := 0 }

/-- The accounting of the Hour now beginning, of `t` ns; `mOp` is what the monitors measured over the Hour just ended (R424,
R428, R441). -/
def State.account (s : State) (mOp t : Nat) : State :=
  let cool := decide (s.heatPct = 100)
  let s := { s with pwr := { s.pwr with ledger := { s.pwr.ledger with
    inForce := s.regs.filter (fun e => decide (0x20000 ≤ e.1) && decide (e.1 < 0x20128)) } } }
  let s := if cool && decide (s.heatPct < 100) then s.flagOpen 0xD0014 2 14 noCtx else s
  let l := s.pwr.ledger
  let base := min 1050 (s.fld 0x20010 0 11) * t / 1000
  let fresh := !l.measured || l.stateErr
  let m := if fresh then base else mOp
  let c := if fresh then 0 else l.charged
  let tp := if fresh then t else l.hourLen
  let u := max (m - c) base
  let hh := s.localMinute / 60
  let allow := s.fld 0x20004 0 24
  let a := s.allowanceA allow hh t m tp
  let f1 := if s.rbit 0x20000 28 then min 1050 (s.fld 0x20008 0 11) * t / 1000 else 0
  let f := if s.rbit 0x20000 29 then max f1 (m * t / tp - s.stepW * t / 1000) else f1
  let carried := (s.reg 0x2001C).toNat
  let l' : Ledger :=
    { l with running := true, allowance := allow, measM := m, lastC := c, lastT := tp, charged := 0,
             reserved := l.reserved.map Reservation.moved, short := 0, hourStart := s.clk, hourLen := t, acctMin := s.absMin,
             measured := true, floor := f, stateErr := false, cuts := s.cutsNow }
  let s := { s with pwr := { s.pwr with ledger := l' } }
  let s := ((s.setReg 0x20020 (BitVec.ofNat 32 m)).setReg 0x20024 (BitVec.ofNat 32 c)).setReg 0x20028 (BitVec.ofNat 32 tp)
  let s := (s.setHour a u carried).bump 0x20180 32 1
  let s := if a - u < carried then (s.bump 0x20184 32 1).flagOpen 0x2002C 0 3 noCtx else s
  s.afternoon

/-- A and W of the current Hour are computed again under R424, keeping T, Tp, M, C, U and the debt of the accounting, and rem becomes
max(0, W - debt - charged) (R429, R430, R431). -/
def State.recompute (s : State) (allow : Nat) : State :=
  let l := s.pwr.ledger
  let a := s.allowanceA allow (s.localMinute / 60) l.hourLen l.measM (max 1 l.lastT)
  let w := a - l.unattr
  let left := w - l.debtAtAcct - l.charged
  let held := l.sum (fun _ => true)
  let s := { s with pwr := { s.pwr with ledger := { l with allowance := allow, whole := w, short := held - left, cuts := s.cutsNow } } }
  let s := s.setReg 0x20014 (BitVec.ofNat 32 a)
  (s.setReg 0x20018 (BitVec.ofNat 32 (left - held))).afternoon

/-! ### The filter, reservations and charges (R147, R423) -/

/-- fits_ledger (R147, R439): the estimate fits the remaining allowance, or the Hour is untouched and the estimate exceeds it. -/
def State.fitsLedger (s : State) (est : Nat) : Bool :=
  let l := s.pwr.ledger
  s.heatAdmits &&
    (!s.rbit 0x20000 31 || (l.running && !l.stateErr && (decide (est ≤ (s.reg 0x20018).toNat) ||
      (decide (l.charged = 0) && l.reserved.isEmpty && decide (l.debtAtAcct = 0) && decide (l.whole < est)))))

/-- An item's estimate is reserved when it is issued (R423); of an oversized one (R147) the part that the remaining allowance does not hold is noted. -/
def State.reserve (s : State) (r : Reservation) : State :=
  let l := s.pwr.ledger
  let rem := (s.reg 0x20018).toNat
  ({ s with pwr := { s.pwr with ledger := { l with reserved := l.reserved ++ [r], short := l.short + (r.est - rem) } } }).setReg 0x20018
    (BitVec.ofNat 32 (rem - r.est))

/-- An amount is charged in this Hour: what the remaining allowance cannot cover becomes debt at once (R423). -/
def State.charge (s : State) (amount : Nat) : State :=
  let rem := (s.reg 0x20018).toNat
  let s := { s with pwr := { s.pwr with ledger := { s.pwr.ledger with charged := s.pwr.ledger.charged + amount } } }
  if amount ≤ rem then s.setReg 0x20018 (BitVec.ofNat 32 (rem - amount))
  else (s.setReg 0x20018 0).setReg 0x2001C (BitVec.ofNat 32 ((s.reg 0x2001C).toNat + (amount - rem)))

/-- An item ends: its reservation is released and its charge made (R423, R441). -/
def State.settle (s : State) (kind a b amount : Nat) : State :=
  (s.unreserve (fun r => decide (r.kind = kind) && decide (r.a = a) && decide (r.b = b))).charge amount

/-- A part of a descriptor's work ends: its charge replaces as much of the descriptor's reservation, and the rest stays reserved (R423). -/
def State.settleDesc (s : State) (c idx amount : Nat) : State :=
  let mine := Reservation.ofDesc c idx
  let left := s.pwr.ledger.sum mine - amount
  if s.pwr.ledger.reserved.any mine then
    ((s.unreserve mine).charge amount).reserve { kind := 1, a := c, b := idx, est := left }
  else s.charge amount

/-! ### Dusk (R433) -/

/-- Whether DOWN_EN holds the package back from a state that draws at most `w` watts (R433, R435). -/
def State.floorAbove (s : State) (w : Nat) : Bool :=
  s.rbit 0x20000 29 && decide (w * s.pwr.ledger.hourLen < s.pwr.ledger.floor * 1000)

/-- The conditions of R433. -/
def State.duskIdle (s : State) : Bool :=
  ctxRange.all (fun c => decide ((s.ring c).window = []) && decide ((s.ring c).fetching = 0)) &&
    s.work.jobs.isEmpty && s.work.positions.isEmpty && s.pwr.ballast.isEmpty &&
    s.col.colls.isEmpty && s.col.dawns.isEmpty && s.cmb.sends.isEmpty && s.cmb.recvs.isEmpty && s.lnk.tags.isEmpty && s.lnk.reqs.isEmpty &&
    s.lnk.late.isEmpty && decide (s.pwr.pendingReq ≠ 3) && !s.rbit 0x20000 28 && !s.floorAbove 180

/-- The Minute in which the conditions of R433 last began to hold is kept. -/
def State.noteIdle (s : State) : State :=
  match s.duskIdle, s.pwr.idleSince with
  | true, none => { s with pwr := { s.pwr with idleSince := some s.absMin } }
  | false, some _ => { s with pwr := { s.pwr with idleSince := none } }
  | _, _ => s

/-- In Dusk a bridge enters IDLE once its queues are empty and every frame is acknowledged (R82). -/
def State.idleBridge (s : State) (n : Nat) : State :=
  let b := s.bank n
  if s.pwr.state = .dusk ∧ !s.pwr.exiting ∧ b.bridge = .up ∧ b.h2b.quiet ∧ b.b2h.quiet then s.setBank n { b with bridge := .idle }
  else s

/-- Dusk is entered (R433, Table 3.9): bank die clocks are gated and the bridges IDLE. -/
def State.enterDusk (s : State) : State :=
  let since := if s.tick = 0 then s.absMin else s.absMin + 1
  let s := ({ s with pwr := { s.pwr with pendingReq := 0, duskSince := since } }).setPower .dusk
  (List.range 4).foldl State.idleBridge s

/-! ### Readiness (R505) and issue -/

/-- Whether the package issues work: it is READY, in Noon or Afternoon, and no reset, fault or pending Night stops it (R432, R435,
R468, R507). -/
def State.canIssue (s : State) : Bool :=
  (decide (s.pwr.state = .noon) || decide (s.pwr.state = .afternoon)) && !s.pwr.exiting && s.boot.ready && !s.flt.pkgFault &&
    !s.boot.warm && !s.boot.hostReset && decide (s.pwr.pendingReq ≠ 3)

/-- READY becomes 1 once DONE and ADOPTED both are (R505): the alert is raised (R529). After a cold start the Ledger accounts the Hour under way
at once (R424). -/
def State.checkReady (s : State) : State :=
  if s.boot.done && s.day.adopted && !s.boot.ready && !s.boot.warm && !s.boot.halted then
    let s := ({ s with boot := { s.boot with ready := true } }).alert 0
    let s := if s.pwr.ledger.running || s.boot.midnightExit then s else s.account 0 (s.hourEnd - s.clk)
    s.noteIdle
  else s

/-- READY as a boot reaches it: a package that finishes boot with no host enters Dusk at once (R433, R505, R513). -/
def State.bootReady (s : State) : State :=
  let was := s.boot.ready
  let s := s.checkReady
  if !was && s.boot.ready && !s.host.linkUp then s.enterDusk else s

end Sys2Proof.Machine
end

