-- ==== Sys2Proof/Machine/Tensor.lean ====
section
/-! DEFINITION. Machine/Tensor.lean: tensor descriptors, sharding and the reading and writing of elements (R181 to R188, R193). -/

namespace Sys2Proof.Machine

/-- The coordinate of this package on an axis and the axis's length (R185, R193). Without a position, which R185 leaves open, coordinate 0 of the
lengths 4, 4 and 1 (DESIGN CHOICE, assumption 22). -/
def State.axis (s : State) (a : Nat) : Nat × Nat :=
  match s.lnk.pos with
  | some (x, y, z) => if a = 0 then (x, 4) else if a = 1 then (y, 4) else (z, s.lnk.zLen)
  | none => if a = 2 then (0, 1) else (0, 4)

/-- The local extent of a dimension (Table 6.6). -/
def State.extent (s : State) (d : Nat × Nat × Nat × Nat) : Nat :=
  let (g, mode, ax, b) := d
  let len := (s.axis ax).2
  if mode = 0 then g else if mode = 1 then ceilDiv g len else ceilDiv (ceilDiv g b) len * b

/-- How many local indices of a dimension this package owns: they come first, and the rest of the extent is padding (R186). -/
def State.owned (s : State) (d : Nat × Nat × Nat × Nat) : Nat :=
  let (g, mode, ax, b) := d
  let (a, len) := s.axis ax
  if mode = 0 then g
  else if mode = 1 then min (ceilDiv g len) (g - a * ceilDiv g len)
  else g / (b * len) * b + min b (g % (b * len) - a * b)

/-- The dimension fields of the words of a tensor descriptor. -/
def tensorDims (ws : List Nat) : List (Nat × Nat × Nat × Nat) :=
  (List.range 6).map (fun d =>
    let size := bitsOf (ws.getD (2 + d / 2) 0) (32 * (d % 2)) 32
    let sh := bitsOf (ws.getD (5 + d / 2) 0) (32 * (d % 2)) 32
    (size, bitsOf sh 30 2, bitsOf sh 28 2, bitsOf sh 0 28))

/-- Bytes of a tensor's local shard without scales. -/
def State.dataBytes (s : State) (t : Tensor) : Nat :=
  ceilDiv ((t.dims.map s.extent).foldl (· * ·) 1 * fmtBits t.format) 8

/-- Bytes from a tensor's base to the end of its local shard, scales included. -/
def State.tensorBytes (s : State) (t : Tensor) : Nat :=
  if fmtScaled t.format then 256 * t.scaleOfs + ceilDiv ((t.dims.map s.extent).foldl (· * ·) 1) 32 else s.dataBytes t

/-- A tensor descriptor from its eight words; none when it is malformed (R187). -/
def State.parseTensor (s : State) (ws : List Nat) : Option Tensor :=
  let w1 := ws.getD 1 0
  let rank := bitsOf w1 8 3
  let f := bitsOf w1 0 8
  let all := tensorDims ws
  let t : Tensor := { base := ws.getD 0 0, scaleOfs := bitsOf w1 32 32, format := f, dims := all.take rank }
  let dimBad := fun (d : Nat × Nat × Nat × Nat) =>
    let (g, mode, ax, b) := d
    g == 0 || mode == 3 || (mode != 0 && ax == 3) || (mode == 0 && (ax != 0 || b != 0)) || (mode == 1 && b != 0) || (mode == 2 && b == 0)
  let axes := (t.dims.filter (fun d => d.2.1 != 0)).map (fun d => d.2.2.1)
  let dataB := s.dataBytes t
  let scales := if fmtScaled f then ceilDiv ((t.dims.map s.extent).foldl (· * ·) 1) 32 else 0
  if bitsOf w1 11 21 ≠ 0 ∨ 2 ^ 48 ≤ t.base ∨ t.base % 64 ≠ 0 ∨ f = 0 ∨ 8 < f ∨ rank = 0 ∨ 6 < rank then none
  else if (all.drop rank).any (fun d => decide (d ≠ (0, 0, 0, 0))) then none
  else if t.dims.any dimBad ∨ axes.eraseDups.length ≠ axes.length then none
  else if fmtScaled f ∧ (s.extent (t.dims.getLastD (0, 0, 0, 0)) % 32 ≠ 0 ∨ t.scaleOfs * 256 < dataB) then none
  else if ¬ fmtScaled f ∧ t.scaleOfs ≠ 0 then none
  else if 2 ^ 38 < dataB + scales then none
  else some t

/-- Why a structure could not be used: malformed, or a fault of the access that read it. -/
inductive Bad where
  | malformed
  | fault (f : XFault)
  deriving DecidableEq, Repr

/-- The tensor descriptor at a virtual address of context `c` (R184, R187). -/
def State.readTensor (s : State) (c va : Nat) : Except Bad Tensor :=
  if va % 64 ≠ 0 then .error .malformed
  else match s.vread 0 c va 64 with
    | .error f => .error (.fault f)
    | .ok bs => match s.parseTensor (bytesWords 8 bs) with
      | some t => .ok t
      | none => .error .malformed

/-- The global size of dimension `d`. -/
def Tensor.size (t : Tensor) (d : Nat) : Nat := (t.dims.getD d (0, 0, 0, 0)).1

/-- RANK. -/
def Tensor.rank (t : Tensor) : Nat := t.dims.length

/-- Whether every dimension is replicated (MODE 0). -/
def Tensor.plain (t : Tensor) : Bool := t.dims.all (fun d => d.2.1 == 0)

/-- The linear offset of local indices (R186). -/
def State.linear (s : State) (t : Tensor) (idx : List Nat) : Nat :=
  (t.dims.zip idx).foldl (fun k p => k * s.extent p.1 + p.2) 0

/-- The bits of `n` elements of `w` bits from element `k` of a byte list that starts at the byte of element `k`. -/
def elemBits (w : Nat) (k n : Nat) (bs : List Byte) : List Nat :=
  if w = 4 then
    (List.range n).map (fun i => bitsOf (bs.getD ((k + i) / 2 - k / 2) 0).toNat (4 * ((k + i) % 2)) 4)
  else (List.range n).map (fun i => leNat ((bs.drop (i * (w / 8))).take (w / 8)))

/-- `n` consecutive elements of a tensor from linear offset `k`, decoded (R181 to R183). -/
def State.readElems (s : State) (cache c : Nat) (t : Tensor) (k n : Nat) : Except XFault (List Num) :=
  if n = 0 then .ok []
  else
    let w := fmtBits t.format
    let lo := k * w / 8
    match s.vread cache c (t.base + lo) (ceilDiv ((k + n) * w) 8 - lo) with
    | .error f => .error f
    | .ok bs =>
      let vals := (elemBits w k n bs).map (decodeNum t.format)
      if fmtScaled t.format then
        match s.vread cache c (t.base + 256 * t.scaleOfs + k / 32) ((k + n - 1) / 32 - k / 32 + 1) with
        | .error f => .error f
        | .ok sc => .ok (vals.zipIdx.map (fun p =>
            let b := (sc.getD ((k + p.2) / 32 - k / 32) 0).toNat
            if b = 255 then .nan else p.1.mul (.fin false 1 ((b : Int) - 127))))
      else .ok vals

/-- One row along the innermost dimension at local outer indices: owned elements from memory, padding as zero (R186, R188). -/
def State.readRow (s : State) (cache c : Nat) (t : Tensor) (outer : List Nat) : Except XFault (List Num) :=
  let inner := t.dims.getLastD (0, 0, 0, 0)
  let n := s.extent inner
  let own := if (t.dims.zip outer).all (fun p => decide (p.2 < s.owned p.1)) then s.owned inner else 0
  match s.readElems cache c t (s.linear t (outer ++ [0])) own with
  | .error f => .error f
  | .ok vs => .ok (vs ++ List.replicate (n - own) Num.zero)

/-- Bytes of element patterns of `w` bits (8 or more). -/
def patternBytes (w : Nat) (ps : List Nat) : List Byte := ps.flatMap (leBytes (w / 8))

end Sys2Proof.Machine
end

