-- ==== Sys2Proof/Machine/Shape.lean ====
section
/-! DEFINITION. Machine/Shape.lean: jobs, groups and positions, the sizes, estimates and energy of groups, and the per-context accounting
(R141, R144, R157, R264, R270, R296, R422). -/

namespace Sys2Proof.Machine

/-! ### Jobs and positions -/

/-- The job of descriptor `idx` of context `c`. -/
def State.job (s : State) (c idx : Nat) : Option Job := s.work.jobs.find? (fun j => j.ctx == c && j.idx == idx)

/-- The state with the work unit changed. -/
def State.setWork (s : State) (w : WorkUnit) : State := { s with work := w }

/-- The state with one job changed. -/
def State.setJob (s : State) (j : Job) : State :=
  s.setWork { s.work with jobs := s.work.jobs.map (fun x => if x.ctx = j.ctx ∧ x.idx = j.idx then j else x) }

/-- The job's key. -/
def Job.key (j : Job) : Nat × Nat := (j.ctx, j.idx)

/-- The work without the jobs, and the bytes written beside them, that `gone` names: bytes of a descriptor stay known while it runs or another that ran
with it does. -/
def WorkUnit.without (w : WorkUnit) (gone : Nat × Nat → Bool) : WorkUnit :=
  let jobs := w.jobs.filter (fun j => !gone j.key)
  { w with jobs := jobs, routeQueue := w.routeQueue.filter (fun x => !gone x), combineQueue := w.combineQueue.filter (fun x => !gone x),
           wrote := w.wrote.filter (fun x => jobs.any (fun j => j.rivals.contains (x.ctx, x.idx))) }

/-- A job leaves the scheduler. -/
def State.dropJob (s : State) (c idx : Nat) : State := s.setWork (s.work.without (fun x => x == (c, idx)))

/-- What occupies position `p`. -/
def State.occupant (s : State) (p : Nat) : Option Occupant := tabGet (fun _ => none) s.work.positions p

/-- A position is given to a group or freed. -/
def State.setOccupant (s : State) (p : Nat) (o : Option Occupant) : State :=
  s.setWork { s.work with positions := tabSet (fun _ => none) s.work.positions p o, fell := if o.isNone then p :: s.work.fell else s.work.fell }

/-- A decision of the scheduler is due for position `p` (R144). -/
def State.due (s : State) (p : Nat) : State := s.setWork { s.work with fell := p :: s.work.fell }

/-- Decisions are due for the positions of BANK_n: its engines or its Special Function Unit serve again. -/
def State.dueBank (s : State) (n : Nat) : State := [4 * n, 4 * n + 1, 4 * n + 2, 4 * n + 3, 16 + n].foldl State.due s

/-- Group `g` of a job. -/
def Job.group (j : Job) (g : Nat) : Option Group := j.groups[g]?

/-- A job with one group changed. -/
def Job.setGroup (j : Job) (g : Nat) (f : Group → Group) : Job := { j with groups := j.groups.modify g f }

/-- Positions in the order of bank die and then position (R160); a bank's Special Function Unit comes last. -/
def positionOrder : List Nat :=
  (List.range 4).flatMap (fun b => [4 * b, 4 * b + 1, 4 * b + 2, 4 * b + 3, 16 + b])

/-- The bank die of a position. -/
def posBank (p : Nat) : Nat := if p < 16 then p / 4 else p - 16

/-- The view index of a position (Table 15.5). -/
def posView (p : Nat) : Nat := if p < 16 then 8 + p else 8 + p

/-! ### Sizes of an entry (R264, R270, R422) -/

/-- Bytes of an element times 32, scale bytes included. -/
def elem32 (f : Nat) : Nat := if fmtScaled f then 17 else 4 * fmtBits f

/-- The rate class of a pair (Table 9.1): 0 the 4-bit class, 1 the 8-bit class, 2 the 16-bit class. -/
def rateClass (fa fb : Nat) : Nat :=
  let w := max (fmtBits fa) (fmtBits fb)
  if w ≤ 4 then 0 else if w ≤ 8 then 1 else 2

/-- The local extent of dimension `i` counted from the innermost. -/
def State.extentInner (s : State) (t : Tensor) (i : Nat) : Nat := s.extent (t.dims.reverse.getD i (1, 0, 0, 0))

/-- R_IN. -/
def State.rIn (s : State) (e : Expert) : Nat := s.extentInner e.wIn 1

/-- F. -/
def State.fWidth (s : State) (e : Expert) : Nat := if e.gated then s.rIn e / 2 else s.rIn e

/-- K_IN. -/
def State.kIn (s : State) (e : Expert) : Nat := s.extentInner e.wIn 0

/-- DO. -/
def State.dOut (s : State) (e : Expert) : Nat :=
  match e.wOut with
  | some t => s.extentInner t 1
  | none => 0

/-- OW: the output width. -/
def State.ow (s : State) (e : Expert) : Nat :=
  match e.wOut with
  | some _ => s.dOut e
  | none => s.fWidth e

/-- The virtual address of the first byte of an entry's first weight operand (R149, R238). -/
def State.operandVa (s : State) (e : Expert) : Nat :=
  e.wIn.base + s.linear e.wIn (if e.wIn.rank = 3 then [e.sliceIn, 0, 0] else [0, 0]) * fmtBits e.wIn.format / 8

/-- What a phase of a row works on (R270): activation format, weight format, written format, K, columns, the gate factor g. -/
structure PhaseShape where
  fa : Nat
  fw : Nat
  fo : Nat
  k : Nat
  cols : Nat
  g : Nat
  deriving DecidableEq, Repr

/-- The shape of the UP (0) or DOWN phase of a row of a job. -/
def State.phaseShape (s : State) (j : Job) (e : Expert) (phase : Nat) : PhaseShape :=
  match phase, e.wOut with
  | 0, some _ => { fa := j.input.format, fw := e.wIn.format, fo := e.inter, k := s.kIn e, cols := s.fWidth e, g := if e.gated then 2 else 1 }
  | 0, none => { fa := j.input.format, fw := e.wIn.format, fo := j.outFmt, k := s.kIn e, cols := s.fWidth e, g := if e.gated then 2 else 1 }
  | _, some t => { fa := e.inter, fw := t.format, fo := j.outFmt, k := s.fWidth e, cols := s.dOut e, g := 1 }
  | _, none => { fa := j.input.format, fw := e.wIn.format, fo := j.outFmt, k := s.kIn e, cols := s.fWidth e, g := 1 }

/-- est(m, n) of R270 for `m` rows and `n` tiles, in units of 1/2,048,000 ns. -/
def PhaseShape.est (p : PhaseShape) (m n : Nat) : Nat :=
  let ops := 2 * m * (64 * n) * p.g * p.k
  let bytes32 := 64 * n * p.g * p.k * elem32 p.fw + m * p.k * elem32 p.fa + m * (64 * n) * elem32 p.fo
  819200000 + max (ops * 2 ^ rateClass p.fa p.fw * 128) (bytes32 * 125)

/-- One microsecond in those units. -/
def estUs : Nat := 2048000000

/-- SLICE_US within 10 to 1,000 (R155). -/
def State.sliceUs (s : State) : Nat := min 1000 (max 10 (s.fld 0x300 16 10))

/-- The largest n in 1 .. tiles with est(m, n) at most SLICE_US, else 1. -/
def tilesPerGroup (p : PhaseShape) (m lim : Nat) : Nat → Nat
  | 0 => 1
  | n + 1 => if p.est m (n + 1) ≤ lim then n + 1 else tilesPerGroup p m lim n

/-- The path coefficients (Table 14.3 k = 4 to 8) that `n` bytes of a range of Table 3.7 take when read or written by bank die `b`: a
stack or scratchpad byte, and one bridge crossing from the hub or two from another bank die (R422; assumption 23). -/
def pathCounts (range : Option Nat) (b : Option Nat) (n : Nat) : List Nat :=
  let stack := match range with
    | some r => if r < 4 then n else 0
    | none => 0
  let pad := match range with
    | some r => if r < 4 then 0 else n
    | none => 0
  let cross := match range, b with
    | some r, some b => if r = 8 then n else if r % 4 = b then 0 else 2 * n
    | some r, none => if r = 8 then 0 else n
    | none, _ => 0
  [stack, pad, cross, 0, 0]

/-- Sum of lists, position by position. -/
def addLists : List Nat → List Nat → List Nat
  | [], b => b
  | a, [] => a
  | x :: a, y :: b => (x + y) :: addLists a b

/-- The range of Table 3.7 that a virtual address of context `c` translates into. -/
def State.vaRange (s : State) (c va : Nat) : Option Nat :=
  match s.xlate 0 c va .read with
  | .ok pa => rangeOf pa
  | .error _ => none

/-- The home bank of a weight operand (R149). -/
def State.homeOf (s : State) (c va : Nat) : Option Nat :=
  match s.vaRange c va with
  | some r => if r = 8 then none else some (r % 4)
  | none => none

/-- The work of an engine group run on bank die `b` for `ns` (R422): operations of its class and the byte terms of R270, each at the
memory it touches. -/
def State.groupWork (s : State) (c : Nat) (p : PhaseShape) (m cols ns : Nat) (b : Option Nat) (wVa inVa outVa : Nat) : Work :=
  let ops := 2 * m * cols * p.g * p.k
  let cls := rateClass p.fa p.fw
  let wB := cols * p.g * p.k * elem32 p.fw / 32
  let iB := m * p.k * elem32 p.fa / 32
  let oB := m * cols * elem32 p.fo / 32
  let paths := addLists (pathCounts (s.vaRange c wVa) b wB)
    (addLists (pathCounts (s.vaRange c inVa) b iB) (pathCounts (s.vaRange c outVa) b oB))
  { counts := [if cls = 0 then ops else 0, if cls = 1 then ops else 0, if cls = 2 then ops else 0, 0] ++ paths, ns := ns }

/-- The work of an SFU_PASS group (R296, R422). -/
def State.passWork (s : State) (c r n steps inVa outVa inF outF ns : Nat) (b : Option Nat) : Work :=
  { counts := [0, 0, 0, r * n * steps] ++ addLists (pathCounts (s.vaRange c inVa) b (r * n * fmtBits inF / 8))
      (pathCounts (s.vaRange c outVa) b (r * n * fmtBits outF / 8)), ns := ns }

/-- The element steps per element of an SFU_PASS OP: c of R296. -/
def passSteps (op : Nat) : Nat := if op ≤ 0x0A then 1 else if op = 0x21 then 4 else 2

/-- est(r) of R296 in units of 1/2,048,000 ns. -/
def passEst (r n c ib ob : Nat) : Nat :=
  -- 115,200 elements per us and 512,000 bytes per us
  819200000 + max (r * n * c * 160000 / 9) (r * n * (ib + ob) * 4000)

/-! ### Descriptors that write the same bytes (R277, R303) -/

/-- A job joins the scheduler: it and those there run at the same time. -/
def State.addJob (s : State) (j : Job) : State :=
  let met := s.work.jobs.map (fun x => { x with rivals := x.rivals ++ [j.key] })
  s.setWork { s.work with jobs := met ++ [{ j with rivals := s.work.jobs.map Job.key }] }

/-- The descriptors whose writes mix with those of descriptor `idx` of context `c`: the ones that have run at the same time. -/
def State.rivals (s : State) (c idx : Nat) : List (Nat × Nat) :=
  match s.job c idx with
  | some j => j.rivals
  | none => s.work.jobs.map Job.key

/-- Whether one of `l` wrote the byte at a physical address. -/
def wroteAt (l : List Wrote) (pa : Nat) : Bool := l.any (fun w => decide (w.pa ≤ pa) && decide (pa < w.pa + w.len))

/-- Bytes for physical pieces, each that a rival wrote being its byte or the new one, as a free value says. -/
def State.mixBytes (s : State) (l : List Wrote) : List (Nat × Nat) → List Byte → List Byte × State
  | [], bs => (bs, s)
  | (pa, n) :: rest, bs =>
    let new := bs.take n
    let (k, s') := if (List.range n).any (fun i => wroteAt l (pa + i)) then s.takeFree else (0, s)
    let new := if (List.range n).any (fun i => wroteAt l (pa + i)) then
        ((new.zip (s.bytes pa n)).zipIdx.map (fun x => if wroteAt l (pa + x.2) && bitAt k x.2 then x.1.2 else x.1.1))
      else new
    let (more, s') := s'.mixBytes l rest (bs.drop n)
    (new ++ more, s')

/-- A write of descriptor `idx` of context `c` to an output: bytes that a descriptor running at the same time wrote come to hold any mix of the two
writes (R277, R303). -/
def State.outWrite (s : State) (cache c idx va : Nat) (bs : List Byte) : State × Option XFault :=
  let ps := ((s.pieces cache c .write va bs.length).1).filter (fun p => decide (p.1 < 2 ^ 64))
  let mine := s.rivals c idx
  let l := s.work.wrote.filter (fun w => mine.contains (w.ctx, w.idx))
  let (bs, s) := if l.isEmpty then (bs, s) else s.mixBytes l ps bs
  let news := if s.work.jobs.any (fun j => decide (j.key ≠ (c, idx))) then
      ps.map (fun p => { ctx := c, idx := idx, pa := p.1, len := p.2 : Wrote }) else []
  let jobs := if (s.job c idx).isSome then s.work.jobs
    else s.work.jobs.map (fun j => if j.rivals.contains (c, idx) then j else { j with rivals := j.rivals ++ [(c, idx)] })
  let s := if news.isEmpty then s else s.setWork { s.work with jobs := jobs, wrote := s.work.wrote ++ news }
  s.vwrite cache c va bs

/-! ### Context accounting (R144, R145, R153, R157) -/

/-- VT of context `c`. -/
def State.vt (s : State) (c : Nat) : Nat := s.reg64 (0x200C + 0x40 * c)

/-- The state with VT of context `c` set. -/
def State.setVt (s : State) (c v : Nat) : State := s.setReg64 (0x200C + 0x40 * c) v

/-- A 64-bit counter of Table 5.2 grows and holds at its largest value. -/
def State.bump64 (s : State) (off n : Nat) : State := s.setReg64 off (satAdd (2 ^ 64 - 1) (s.reg64 off) n)

/-- SHARE. -/
def State.share (s : State) (c : Nat) : Nat := s.fld (0x2000 + 0x40 * c) 0 8

/-- MAX_ENG (R154). -/
def State.maxEng (s : State) (c : Nat) : Nat :=
  let v := s.fld (0x2000 + 0x40 * c) 16 5
  if v = 0 ∨ 16 < v then 16 else v

/-- PLACE, 3 acting as 0 (R156). -/
def State.place (s : State) (c : Nat) : Nat := s.fld (0x2000 + 0x40 * c) 8 2 % 3

/-- Whether context `c` has a ready or running group. -/
def State.hasGroups (s : State) (c : Nat) : Bool :=
  s.work.jobs.any (fun j => j.ctx == c && j.groups.any (fun g => match g.at_ with
    | .waiting => g.ready.isSome
    | .issued _ => true
    | .running _ => true
    | _ => false))

/-- When every OPEN context's VT exceeds 2^62, the smallest is subtracted from all of them (R157). -/
def State.rebase (s : State) : State :=
  let open_ := ctxRange.filter (fun c => decide ((s.ctx c).state = .open_))
  if open_.isEmpty || !open_.all (fun c => decide (2 ^ 62 < s.vt c)) then s
  else
    let m := minOr 0 (open_.map s.vt)
    (open_.foldl (fun s c => s.setVt c (s.vt c - m)) s).setFld 0x304 31 1 1

/-- The expert of a row under the job's stage: in the Gate stage, the one-row table of R267. -/
def Job.expertOf (j : Job) (r : TabRow) : Option Expert :=
  match j.stage, j.layer with
  | .gate, some l => l.gateW.map (fun t =>
      { addr := 0, wIn := t, wOut := none, bIn := 0, bOut := 0, sliceIn := 0, sliceOut := 0, inter := 0, act := 0, gated := false,
        scale := f32One })
  | _, _ => j.entries[r.expert]?

/-- The occupancy of a group that ends or is abandoned is counted (R144, R160): ENG_NS and VT. -/
def State.countOccupancy (s : State) (c ns : Nat) : State :=
  let s := s.bump64 (0x2014 + 0x40 * c) ns
  if 0 < s.share c then (s.setVt c (s.vt c + ns * 256 / s.share c)).rebase else s

end Sys2Proof.Machine
end

