-- ==== Sys2Proof/Machine/Compute.lean ====
section
/-! DEFINITION. Machine/Compute.lean: what a group of a table or of an SFU_PASS computes and writes, to the bit (R261, R265, R266, R289 to
R296). -/

namespace Sys2Proof.Machine

/-- The sum of products of K elements of a pair, as an FP32 pattern (R261): INT32 across K when neither format is block-scaled and both are
integer, else blocks of 32 formed exactly and added in ascending order with one rounding each. -/
def dotSum : Nat → List Num → List Num → Nat → Nat
  | 0, _, _, acc => acc
  | n + 1, xs, ws, acc =>
    if xs.isEmpty then acc
    else
      let b := ((xs.take 32).zip (ws.take 32)).foldl (fun a p => a.add (p.1.mul p.2)) Num.zero
      dotSum n (xs.drop 32) (ws.drop 32) (toF32 ((f32 acc).add b))

/-- See `dotSum`. -/
def dotRow (fa fw : Nat) (xs ws : List Num) : Nat :=
  if fa = fmtInt8 ∧ fw = fmtInt8 then toF32 ((xs.zip ws).foldl (fun a p => a.add (p.1.mul p.2)) Num.zero)
  else dotSum (xs.length / 32 + 1) xs ws 0

/-- Row `r` of a weight of rank 2 or 3, with whether it is padding of the shard (R266). -/
def State.weightRow (s : State) (cache c : Nat) (t : Tensor) (slice r : Nat) : Except XFault (Bool × List Num) :=
  let outer := if t.rank = 3 then [slice, r] else [r]
  let pad := !(t.dims.zip outer).all (fun p => decide (p.2 < s.owned p.1))
  (s.readRow cache c t outer).map (fun row => (pad, row))

/-- The FP32 bias of row `r`; none without biases. -/
def State.biasOf (s : State) (cache c base r : Nat) : Except XFault (Option Nat) :=
  if base = 0 then .ok none else (s.vreadNat cache c (base + 4 * r) 4).map some

/-- One column of weights with its bias (two of each in a gated UP phase). -/
structure Column where
  pad : Bool
  w : List Num
  b : Option Nat
  wg : Option (List Num × Option Nat)
  deriving DecidableEq, Repr

/-- The weights of column `j` of a phase. -/
def State.column (s : State) (cache c : Nat) (e : Expert) (phase j f : Nat) : Except XFault Column := do
  if phase = 0 then
    let (p, w) ← s.weightRow cache c e.wIn e.sliceIn j
    let b ← s.biasOf cache c e.bIn j
    if e.gated then
      let (p2, w2) ← s.weightRow cache c e.wIn e.sliceIn (f + j)
      let b2 ← s.biasOf cache c e.bIn (f + j)
      return { pad := p || p2, w := w, b := b, wg := some (w2, b2) }
    else return { pad := p, w := w, b := b, wg := none }
  else
    match e.wOut with
    | some t =>
      let (p, w) ← s.weightRow cache c t e.sliceOut j
      let b ← s.biasOf cache c e.bOut j
      return { pad := p, w := w, b := b, wg := none }
    | none => return { pad := true, w := [], b := none, wg := none }

/-- The accumulator plus the bias, when there is one (R289 step 1). -/
def withBias (a : Nat) : Option Nat → Nat
  | some b => fadd a b
  | none => a

/-- The fused pass of one output element before its conversion (R265, R289). -/
def fusedOut (fa fw act scale : Nat) (xs : List Num) (k : Column) : Nat :=
  if k.pad then 0
  else
    let v := withBias (dotRow fa fw xs k.w) k.b
    let f := actFn act v
    let h := match k.wg with
      | some (w2, b2) => fmul f (withBias (dotRow fa fw xs w2) b2)
      | none => f
    fmul h scale

/-- Whether no NaN enters an element of the fused pass: its accumulators and biases (R290, assumption 59). -/
def fusedClean (fa fw : Nat) (xs : List Num) (k : Column) : Bool :=
  let ok := fun (w : List Num) (b : Option Nat) => !f32Nan (dotRow fa fw xs w) && !(b.map f32Nan).getD false
  ok k.w k.b && (match k.wg with
    | some (w2, b2) => ok w2 b2
    | none => true)

/-- A converted element as Table 10.8 counts it: a NaN counts when no value that entered was one (R290). -/
def Narrow.judged (o : Narrow) (f : Nat) (clean : Bool) : Narrow := { o with madeNan := clean && decide (o.bits = fmtNan f) }

/-- The output rows of a group as they are written: each with its address and its converted elements. The Gate stage writes the accumulator
values bit for bit (R289). -/
def State.groupOut (s : State) (j : Job) (e : Expert) (g : Group) (bank : Nat) : Except XFault (List (Nat × List Narrow)) := do
  let cache := 1 + bank
  let p := s.phaseShape j e g.phase
  let f := s.fWidth e
  let cols ← (List.range g.cols).mapM (fun i => s.column cache j.ctx e g.phase (g.c0 + i) f)
  let two := e.wOut.isSome
  let toInter := g.phase = 0 && two
  let scale := if toInter then f32One else e.scale
  let act := if g.phase = 0 then e.act else 0
  let fo := p.fo
  let ob := fmtBits fo / 8
  (List.range g.m).mapM (fun i => do
    let n := g.m0 + i
    let xs ← if g.phase = 0 then s.readRow cache j.ctx j.input [j.tokens.getD n 0]
      else (s.vread cache j.ctx (j.inter + n * j.irow) (f * (fmtBits e.inter / 8))).map (fun bs =>
        (elemBits (fmtBits e.inter) 0 f bs).map (decodeNum e.inter))
    let outs := cols.map (fun k =>
      if j.stage = .gate then
        { bits := if k.pad then 0 else dotRow p.fa p.fw xs k.w, saturated := false, madeNan := false }
      else (narrow fo g.sat (f32 (fusedOut p.fa p.fw act scale xs k))).judged fo (fusedClean p.fa p.fw xs k))
    let base := if toInter then j.inter + n * j.irow else j.expOut + n * s.ow e * ob
    return (base + g.c0 * ob, outs))

/-! ### SFU_PASS rows (R292 to R295) -/

/-- Adds the upper half of the partial sums to the lower half, down to one (R293). -/
def treeSum : Nat → List Nat → Nat
  | 0, p => p.getD 0 0
  | n + 1, p =>
    let w := 2 ^ n
    treeSum n ((List.range w).map (fun l => fadd (p.getD l 0) (p.getD (l + w) 0)))

/-- rowsum (R293). -/
def rowsum (v : List Nat) : Nat :=
  let lane := fun l => (v.zipIdx.filter (fun x => x.2 % 64 == l)).foldl (fun a x => fadd a x.1) 0
  treeSum 6 ((List.range 64).map lane)

/-- Largest of a list of patterns that holds no NaN. -/
def largest (l : List Nat) : Nat :=
  match l with
  | [] => f32NegInf
  | x :: xs => xs.foldl fmax x

/-- SOFTMAX of a row of FP32 patterns, and whether every entry was -infinity (R294). -/
def softmaxRow (scale : Nat) (row : List Nat) : List Nat × Bool :=
  let x := row.map (fun v => fmul v scale)
  if x.any f32Nan then (x.map (fun _ => fmtNan 7), false)
  else
    let m := largest x
    if m = f32NegInf then (x.map (fun _ => 0), true)
    else if m = f32Inf then
      let k := f32OfNat (x.filter (fun v => v == f32Inf)).length
      (x.map (fun v => if v = f32Inf then fdiv f32One k else 0), false)
    else
      let e := x.map (fun v => sfExp (fsub v m))
      let t := rowsum e
      (e.map (fun v => fdiv v t), false)

/-- LAYER_NORM (`center`) or RMS_NORM of a row, and whether t was 0 (R295). -/
def normRow (center : Bool) (eps scale : Nat) (row gamma beta : List Nat) : List Nat × Bool :=
  let n := f32OfNat row.length
  let mu := fdiv (rowsum row) n
  let d := if center then row.map (fun v => fsub v mu) else row
  let t := fadd (fdiv (rowsum (d.map (fun v => fmul v v))) n) eps
  let zero := (f32 t).isZero
  let r := sfRsqrt t
  let xh := d.map (fun v => if zero then 0 else fmul v r)
  (xh.zipIdx.map (fun p => fmul (fadd (fmul p.1 (gamma.getD p.2 f32One)) (beta.getD p.2 0)) scale), zero)

/-- Whether OUT of an SFU_PASS is IN itself (R303). -/
def Job.inPlace (j : Job) : Bool :=
  match j.sfuOut with
  | some out => decide (out.base = j.input.base) && decide (fmtBits out.format = fmtBits j.input.format)
  | none => false

/-- Whether OUT meets IN in another way, so that what a row's bytes hold is left open (R303). -/
def State.passMeets (s : State) (j : Job) : Bool :=
  match j.sfuOut with
  | some out => !j.inPlace && decide (out.base < j.input.base + s.tensorBytes j.input) && decide (j.input.base < out.base + s.tensorBytes out)
  | none => false

/-- How many free values an SFU_PASS group takes: one for each element where OUT meets IN otherwise than in place. -/
def State.passFree (s : State) (j : Job) (g : Group) : Nat := if s.passMeets j then g.m * j.input.size 1 else 0

/-- The rows of an SFU_PASS group as FP32 patterns: as its first attempt read them, where that wrote in place (R299, R303), else from memory. -/
def State.passRows (s : State) (j : Job) (g : Group) (bank : Nat) : Except XFault (List (List Nat)) :=
  if g.kept.isEmpty then
    let n := j.input.size 1
    (List.range g.m).mapM (fun i => (s.readElems (1 + bank) j.ctx j.input ((g.m0 + i) * n) n).map (fun xs => xs.map toF32))
  else .ok g.kept

/-- The results of one row before conversion, whether it counts as an empty or zero-variance row, and for each column whether no NaN entered. -/
def Job.passRow (j : Job) (row : List Nat) : List Nat × Bool × (Nat → Bool) :=
  let a := j.parA.getD []
  let b := j.parB.getD []
  let nan := fun (l : List Nat) (k : Nat) => f32Nan (l.getD k 0)
  if j.sfuOp = 0x20 then
    let (ys, mark) := softmaxRow j.sfuScale row
    (ys, mark, fun _ => !row.any f32Nan)
  else if j.sfuOp = 0x21 ∨ j.sfuOp = 0x22 then
    let (ys, mark) := normRow (j.sfuOp == 0x21) j.sfuEps j.sfuScale row a b
    (ys, mark, fun k => !row.any f32Nan && !nan a k && !nan b k)
  else (row.zipIdx.map (fun p => fmul (actFn j.sfuOp (fadd p.1 (a.getD p.2 0))) j.sfuScale), false, fun k => !nan row k && !nan a k)

/-- What an SFU_PASS group writes: each row's address, its converted elements and whether it counts as an empty or zero-variance row. -/
def State.passOut (s : State) (j : Job) (out : Tensor) (g : Group) (bank : Nat) : Except XFault (List (Nat × List Narrow × Bool)) := do
  let n := j.input.size 1
  let ob := fmtBits out.format / 8
  let rows ← s.passRows j g bank
  return rows.zipIdx.map (fun p =>
    let (ys, mark, clean) := j.passRow p.1
    let ys := if s.passMeets j then (List.range n).map (fun k => Config.freeNat (s.free + p.2 * n + k) % 2 ^ 32) else ys
    (out.base + (g.m0 + p.2) * n * ob, ys.zipIdx.map (fun y => (narrow out.format j.sfuSat (f32 y.1)).judged out.format (clean y.2)), mark))

/-- Converted rows go to memory through the bank die's cache, in order, up to the first that faults. -/
def State.writeRows (s : State) (cache c idx fo : Nat) : List (Nat × List Narrow) → State × Option XFault
  | [] => (s, none)
  | (va, outs) :: rest =>
    match s.outWrite cache c idx va (patternBytes (fmtBits fo) (outs.map (fun o => o.bits))) with
    | (s, none) => s.writeRows cache c idx fo rest
    | (s, some f) => (s, some f)

/-- The home of a group's table row for its energy, and the addresses it reads and writes, as at its estimate. -/
def State.groupCharge (s : State) (j : Job) (g : Group) (p ns : Nat) : Nat :=
  match g.phase, j.sfuOut with
  | 2, some out =>
    let n := j.input.size 1
    s.energy (s.passWork j.ctx g.m n (passSteps j.sfuOp) (j.input.base + g.m0 * n * (fmtBits j.input.format / 8))
      (out.base + g.m0 * n * (fmtBits out.format / 8)) j.input.format out.format ns (some (posBank p)))
  | _, _ =>
    match (j.all[g.row]?).bind j.expertOf with
    | some e => s.energy (s.groupWork j.ctx (s.phaseShape j e g.phase) g.m g.cols ns (some (posBank p)) (s.operandVa e) j.input.base j.expOut)
    | none => 0

/-- A group's command or report on the CMD channel of its bank die (R272, R273): kind 0 to the bank die, 1 to the hub. -/
def State.sendCmd (s : State) (kind p : Nat) (fields : List Nat) : State :=
  s.bridgePut (posBank p) (decide (kind = 0)) 2 [leBytes 64 (Config.cmdMessage kind fields)]

/-- What a group's command carries (R272): its context and GEN, the map epoch, its phase, rows and columns, the operand and output addresses, and its
estimate. -/
def State.commandFields (s : State) (j : Job) (g : Group) : List Nat :=
  let operands := match g.phase, (j.all[g.row]?).bind j.expertOf with
    | 2, _ => [(j.sfuOut.map (fun o => o.base)).getD 0, j.sfuA, j.sfuB]
    | _, some e => [s.operandVa e, e.bIn, e.bOut, j.inter, j.expOut]
    | _, none => []
  [j.ctx, j.gen, g.epoch, g.phase, g.m0, g.m, g.c0, g.cols, j.input.base, g.est] ++ operands

/-- What a group reports when it ends (R272): its occupancy in ns, the bytes it read and the operations it performed. -/
def State.reportFields (s : State) (j : Job) (g : Group) (ns : Nat) : List Nat :=
  match g.phase, (j.all[g.row]?).bind j.expertOf with
  | 2, _ =>
    let n := j.input.size 1
    [ns, g.m * n * (fmtBits j.input.format / 8), g.m * n * passSteps j.sfuOp]
  | _, some e =>
    let p := s.phaseShape j e g.phase
    [ns, g.cols * p.g * p.k * elem32 p.fw / 32 + g.m * p.k * elem32 p.fa / 32, 2 * g.m * g.cols * p.g * p.k]
  | _, none => [ns, 0, 0]

/-- Counts of converted elements: saturated, and NaN from a number. -/
def countNarrow (rows : List (List Narrow)) : Nat × Nat :=
  ((rows.map (fun r => (r.filter (fun o => o.saturated)).length)).foldl (· + ·) 0,
   (rows.map (fun r => (r.filter (fun o => o.madeNan)).length)).foldl (· + ·) 0)

/-- The output of a group is written through its bank die, and the unit's counters grow (R286, R290, Table 10.8). -/
def State.writeGroup (s : State) (j : Job) (g : Group) (p : Nat) : State × Option XFault × Nat :=
  let b := posBank p
  let cnt := 0xB0100 + 0x20 * b
  match g.phase, j.sfuOut with
  | 2, some out =>
    match s.passOut j out g b with
    | .error f => (s, some f, 0)
    | .ok rows =>
      let (sat, nans) := countNarrow (rows.map (fun r => r.2.1))
      let marks := (rows.filter (fun r => r.2.2)).length
      let s := { s with free := s.free + s.passFree j g }
      let s := (((s.bump (cnt + 4) 32 g.m).bump (cnt + 8) 32 sat).bump (cnt + 12) 32 nans).bump
        (if j.sfuOp = 0x20 then cnt + 16 else cnt + 20) 32 marks
      let (s, f) := s.writeRows (1 + b) j.ctx j.idx out.format (rows.map (fun r => (r.1, r.2.1)))
      (s, f, sat)
  | _, _ =>
    match (j.all[g.row]?).bind j.expertOf with
    | none => (s, none, 0)
    | some e =>
      match s.groupOut j e g b with
      | .error f => (s, some f, 0)
      | .ok rows =>
        let (sat, nans) := countNarrow (rows.map (fun r => r.2))
        let s := ((s.bump cnt 32 (ceilDiv g.m 64 * ceilDiv g.cols 64)).bump (cnt + 8) 32 sat).bump (cnt + 12) 32 nans
        let (s, f) := s.writeRows (1 + b) j.ctx j.idx (s.phaseShape j e g.phase).fo rows
        (s, f, sat)

end Sys2Proof.Machine
end

