-- ==== Sys2Proof/Machine/Score.lean ====
section
/-! DEFINITION. Machine/Score.lean: how the Routing Engine scores and selects experts for tokens, the Bias Table it reads and the LOAD counters it
adds to (R233 to R235, R239, R251). -/

namespace Sys2Proof.Machine

/-! ### Scoring and selection (R233, R234) -/

/-- One token's selections, their weights, its selection scores, and whether a logit was NaN. -/
structure Choice where
  sel : List Nat
  w : List Nat
  score : List Nat
  nan : Bool
  deriving DecidableEq, Repr

/-- FLT_MAX. -/
def f32Max : Nat := 0x7F7FFFFF

/-- A logit as it takes part: NaN as -infinity, +infinity as FLT_MAX. -/
def clampLogit (z : Nat) : Nat := if f32Nan z then f32NegInf else if z = f32Inf then f32Max else z

/-- The best expert not yet selected; ties to the lower index, -infinity never. -/
def bestOf (scores : List Nat) (taken : List Nat) : Option Nat :=
  scores.zipIdx.foldl (fun best p =>
    if taken.contains p.2 || p.1 == f32NegInf then best
    else match best with
      | none => some p.2
      | some b => if flt (scores.getD b 0) p.1 then some p.2 else best) none

/-- The selections of a token. -/
def selections (scores : List Nat) : Nat → List Nat → List Nat
  | 0, sel => sel
  | k + 1, sel => match bestOf scores sel with
    | some b => selections scores k (sel ++ [b])
    | none => sel

/-- The gating weights of the selections (R234). -/
def gatingWeights (gating : Nat) (renorm : Bool) (zc sel : List Nat) : List Nat :=
  let z := sel.map (fun e => zc.getD e 0)
  let w :=
    if gating = 2 then z.map (fun x => fdiv f32One (fadd f32One (fexp (fsub 0 x))))
    else
      let pool := if gating = 0 then zc else z
      let m := largest pool
      let den := pool.foldl (fun a x => fadd a (fexp (fsub x m))) 0
      z.map (fun x => fdiv (fexp (fsub x m)) den)
  if renorm ∧ sel.length = 2 then
    let sum := fadd (w.getD 0 0) (w.getD 1 0)
    w.map (fun x => fdiv x sum)
  else w

/-- One token that is not skipped. -/
def choose (l : Layer) (bias : Option (List Nat)) (row : List Nat) : Choice :=
  let zc := row.map clampLogit
  let score := match bias with
    | some b => zc.zipIdx.map (fun p => fadd p.1 (b.getD p.2 0))
    | none => zc
  let sel := selections score l.topK []
  { sel := sel, w := gatingWeights l.gating l.renorm zc sel, score := score, nan := row.any f32Nan }

/-! ### A batch (R233 to R235, R239) -/

/-- Bias `e` of set `k`. -/
def State.bias (s : State) (k e : Nat) : Nat := (s.reg (0x34000 + 0x400 * k + 4 * e)).toNat

/-- Whether set `k` is poisoned. -/
def State.setPoisoned (s : State) (k : Nat) : Bool := s.rbit (0x30100 + 0x10 * k) 30

/-- The selections of these tokens are counted in LOAD (R235). -/
def State.countLoad (s : State) (k : Nat) (toks : List (Option Choice)) : State :=
  toks.foldl (fun s t => match t with
    | some ch => ch.sel.foldl (fun s e => s.bump (0x38000 + 0x400 * k + 4 * e) 32 1) s
    | none => s) s

/-- The choices of a batch (R233, R234, R239): logits, skip mask and identifiers are read from memory. -/
def State.routeTokens (s : State) (j : Job) (l : Layer) : Except XFault (List (Option Choice) × List Nat) := do
  let n := j.input.size 0
  let lb ← s.vread 0 j.ctx (l.work + 0x100000) (4 * n * l.experts)
  let logits := elemBits 32 0 (n * l.experts) lb
  let mask ← if l.skip = 0 then pure [] else s.vread 0 j.ctx l.skip (ceilDiv n 8)
  let ids ← if l.scoreMode = 2 then (s.vread 0 j.ctx l.ids (8 * n)).map (bytesWords n) else pure []
  let bias := if l.biasEn then some ((List.range l.experts).map (s.bias l.set)) else none
  let toks := (List.range n).map (fun t =>
    if bitAt (mask.getD (t / 8) 0).toNat (t % 8) then none
    else some (choose l bias ((logits.drop (t * l.experts)).take l.experts)))
  return (toks, ids)

/-- The selections that a batch in Route had made when it ends stay counted, a free number of its tokens' (R251). -/
def State.partLoad (s : State) (j : Job) (l : Layer) : State :=
  let (k, s) := s.takeFree
  match l.biasEn && !s.setPoisoned l.set, s.routeTokens j l with
  | true, .ok (toks, _) => s.countLoad l.set (toks.take (k % (toks.length + 1)))
  | _, _ => s

/-- The LAYER at the front of the Routing Engine's queue. -/
def State.inRoute (s : State) : Option (Job × Layer) :=
  match s.work.routeQueue with
  | [] => none
  | (c, idx) :: _ => (s.job c idx).bind (fun j => j.layer.map (fun l => (j, l)))

/-- The batch in Route leaves it before its end (R251). -/
def State.leaveRoute (s : State) : State :=
  match s.inRoute with
  | some (j, l) => s.partLoad j l
  | none => s

end Sys2Proof.Machine
end

