-- ==== Sys2Proof/Machine/Sweep.lean ====
section
/-! DEFINITION. Machine/Sweep.lean: what the end of a context, or of all work, does to each unit's own state (R138, R468, R506). -/

namespace Sys2Proof.Machine

/-- A free number of the leading elements of each row reach memory: what an abandoned group had written (R138 step 2, R140). -/
def State.writeSome (s : State) (cache c idx fo : Nat) : List (Nat × List Narrow) → State
  | [] => s
  | (va, outs) :: rest =>
    let (k, s) := s.takeFree
    ((s.outWrite cache c idx va (patternBytes (fmtBits fo) ((outs.take (k % (outs.length + 1))).map (fun o => o.bits)))).1).writeSome
      cache c idx fo rest

/-- What an abandoned group had written: any part of its output (R138 step 2, R140). -/
def State.partialOutput (s : State) (j : Job) (g : Group) (p : Nat) : State :=
  let b := posBank p
  match g.phase, j.sfuOut with
  | 2, some out =>
    match s.passOut j out g b with
    | .error _ => s
    | .ok rows =>
      State.writeSome { s with free := s.free + s.passFree j g } (1 + b) j.ctx j.idx out.format (rows.map (fun r => (r.1, r.2.1)))
  | _, _ =>
    match (j.all[g.row]?).bind j.expertOf with
    | none => s
    | some e =>
      match s.groupOut j e g b with
      | .error _ => s
      | .ok rows => s.writeSome (1 + b) j.ctx j.idx (s.phaseShape j e g.phase).fo rows

/-- A descriptor's ENERGY grows by a charge (R422). -/
def State.addEnergy (s : State) (c idx uj : Nat) : State :=
  match s.desc c idx with
  | some d => s.setDesc c { d with energy := d.energy + uj }
  | none => s

/-- The group on position `p` is abandoned (R138 step 2, R163, R441): a part of its output stays, the position is free, and it is
charged for its occupancy and for the counts spent up to then, a free part of its estimate. -/
def State.abandonGroup (s : State) (p : Nat) (j : Job) (g : Group) : State :=
  let s := if g.at_ = .running p then s.partialOutput j g p else s
  let ns := s.clk - g.issuedAt
  let (k, s) := s.takeFree
  let uj := s.energy { counts := [], ns := ns } + k % (g.uj + 1)
  (((s.setOccupant p none).settle 0 p 0 uj).countOccupancy j.ctx ns).addEnergy j.ctx j.idx uj

/-- The running groups of the jobs that `gone` names are abandoned, a batch of theirs in Route stays counted as far as it was, and the jobs leave the
scheduler. -/
def State.endJobs (s : State) (gone : Nat × Nat → Bool) : State :=
  let s := (List.range 20).foldl (fun s p => match s.occupant p with
    | some o =>
      if gone (o.ctx, o.idx) then
        match (s.job o.ctx o.idx).bind (fun j => (j.group o.group).map (fun g => (j, g))) with
        | some (j, g) => s.abandonGroup p j g
        | none => s.setOccupant p none
      else s
    | none => s) s
  let s := if (s.work.routeQueue.head?.map gone).getD false then s.leaveRoute else s
  s.setWork (s.work.without gone)

/-- Every running group of context `c` is abandoned and its jobs leave the scheduler. -/
def State.dropJobs (s : State) (c : Nat) : State := s.endJobs (fun k => decide (k.1 = c))

/-- Everything units hold for context `c` is withdrawn, abandoned or fenced (R138 steps 1, 2, 4 and 5). -/
def State.dropWork (s : State) (c : Nat) : State :=
  let s := s.dropJobs c
  let s := (((s.dropIngest c).dropCombine c).dropCollect c).dropLink c
  (s.unreserve (fun r => decide (r.kind = 1) && decide (r.a = c))).discardCached c 0 0

/-- A trigger of R434: the exit from Dusk or Night to Noon begins, and a repair phase ends with the step under way (R489). -/
def State.beginExit (s : State) : State :=
  if s.pwr.state = .dusk ∨ s.pwr.state = .night then
    { s with pwr := { s.pwr with exiting := true }, rep := { s.rep with phase := false } }
  else s

/-- Whether the package is in Dusk or Night, the exit from it included. -/
def State.asleep (s : State) : Bool := decide (s.pwr.state = .dusk) || decide (s.pwr.state = .night)

/-- A message of class MEM_REQ, DISPATCH, COLLECTIVE or INTERRUPT for this package arrives: in Dusk or Night it begins the exit and is held
until that is complete; in Midnight nothing arrives (R434). -/
def State.arrive (s : State) (i : Instr) (f : State → Result) : Result :=
  if s.pwr.state = .midnight then .next s
  else if s.asleep then .next ({ s with pwr := { s.pwr with wakeWork := s.pwr.wakeWork ++ [i] } }).beginExit
  else f { s with pwr := { s.pwr with idleSince := s.pwr.idleSince.map (fun _ => s.absMin) } }

/-- This package's INST_VALID fell to 0: each group that contains it raises a group-class fault (R58). -/
def State.validFell (s : State) : State := s.suspectSelf

/-- The physical engine in position 4b + p. -/
def State.engineAt (s : State) (k : Nat) : Nat := tabGet (fun i => i % 4) s.maps.engines k

/-- The physical control core in position `k`. -/
def State.coreAt (s : State) (k : Nat) : Nat := tabGet (fun i => i) s.maps.cores k

/-- The physical slice in position `n`; 15 for none. -/
def State.sliceAt (s : State) (n : Nat) : Nat := tabGet (fun i => i) s.maps.slices n

/-- A healthy engine of BANK_b that fills no position. -/
def State.spareEngine (s : State) (b : Nat) : Option Nat :=
  (List.range 5).find? (fun e => !tabGet (fun _ => false) s.maps.engBad (5 * b + e)
    && (List.range 4).all (fun p => decide (s.engineAt (4 * b + p) ≠ e)))

/-- A healthy control core that fills no position. -/
def State.spareCore (s : State) : Option Nat :=
  (List.range 5).find? (fun e => !tabGet (fun _ => false) s.maps.coreBad e && (List.range 4).all (fun p => decide (s.coreAt p ≠ e)))

/-- A healthy slice that fills no position. -/
def State.spareSlice (s : State) : Option Nat :=
  (List.range 10).find? (fun e => !tabGet (fun _ => false) s.maps.sliceBad e
    && (List.range 8).all (fun p => decide (s.sliceAt p ≠ e)))

/-- Port `p` enters DETECT when it is enabled and DOWN (R341). -/
def State.detectPort (s : State) (p : Nat) : State :=
  if s.rbit (0x60100 + 0x40 * p) 31 ∧ (s.port p).state = .down then s.enterDetect p else s

/-- The Eriovan ports enter DETECT (Table 12.2). -/
def State.portsDetect (s : State) : State := (List.range 8).foldl State.detectPort s

/-- Whether a virtual address of context `c` lies on bank die `n`. -/
def State.onBank (s : State) (c n va : Nat) : Bool := match s.vaRange c va with
  | some r => decide (r < 8) && decide (r % 4 = n)
  | none => false

/-- Whether the `len` bytes at `va` of context `c` meet the memory of bank die `n`. -/
def State.meetsBank (s : State) (c n va len : Nat) : Bool :=
  let page := va / 0x10000 * 0x10000
  decide (0 < len) && (List.range (len / 0x10000 + 2)).any (fun i =>
    decide (page + 0x10000 * i < va + len) && s.onBank c n (page + 0x10000 * i))

/-- Whether a tensor of context `c` meets the memory of bank die `n`. -/
def State.tensorOn (s : State) (c n : Nat) (t : Tensor) : Bool := s.meetsBank c n t.base (s.tensorBytes t)

/-- Whether a group of a job works on BANK_n's engines, or reads or writes its memory: its rows and intermediate rows, its output, its expert's weights
and biases, or an SFU_PASS's parameters. -/
def State.groupOn (s : State) (j : Job) (g : Group) (p n : Nat) : Bool :=
  decide (posBank p = n) || s.tensorOn j.ctx n j.input || ((j.sfuOut.map (s.tensorOn j.ctx n)).getD false) ||
  (j.sfuOut.isSome && (s.meetsBank j.ctx n j.sfuA (4 * j.input.size 1) || s.meetsBank j.ctx n j.sfuB (4 * j.input.size 1))) ||
  (match (j.all[g.row]?).bind j.expertOf with
    | some e =>
      s.tensorOn j.ctx n e.wIn || ((e.wOut.map (s.tensorOn j.ctx n)).getD false) ||
      (decide (e.bIn ≠ 0) && s.meetsBank j.ctx n e.bIn (4 * s.rIn e)) || (decide (e.bOut ≠ 0) && s.meetsBank j.ctx n e.bOut (4 * s.ow e)) ||
      s.meetsBank j.ctx n (j.inter + g.m0 * j.irow) (g.m * j.irow) ||
      s.meetsBank j.ctx n (j.expOut + g.m0 * s.ow e * 4) (g.m * s.ow e * 4)
    | none => false)

/-- The work on the engines of BANK_n and the accesses in flight to or from it (R86 step 2, R89), as context and descriptor: groups, the LAYER in the
Combine Unit, granted transfers, collectives that move data, and writes that wait for its bridge. -/
def State.bankWork (s : State) (n : Nat) : List (Nat × Option Nat) :=
  (List.range 20).filterMap (fun p => (s.occupant p).bind (fun o =>
    match (s.job o.ctx o.idx).bind (fun j => (j.group o.group).map (fun g => (j, g))) with
    | some (j, g) => if s.groupOn j g p n then some (o.ctx, some o.idx) else none
    | none => if posBank p = n then some (o.ctx, some o.idx) else none)) ++
  (match s.cmb.run with
    | some r => match s.job r.ctx r.idx with
      | some j => if s.meetsBank r.ctx n j.expOut (j.assign * j.input.size 1 * 4) || (j.layer.map (fun l => s.tensorOn r.ctx n l.out)).getD false ||
          s.tensorOn r.ctx n j.input then [(r.ctx, some r.idx)] else []
      | none => []
    | none => []) ++
  (s.cmb.sends.filter (fun w => decide (w.phase = .granted) && s.tensorOn w.ctx n w.tensor)).map (fun w => (w.ctx, some w.idx)) ++
  (s.cmb.recvs.filter (fun r => r.offer.isSome && (s.tensorOn r.ctx n r.tensor))).map (fun r => (r.ctx, some r.idx)) ++
  (s.col.colls.filter (fun x => decide (x.phase = .running) &&
      (s.meetsBank x.ctx n x.src (x.spec.count * 4) || s.meetsBank x.ctx n x.dst (x.spec.count * 4)))).map (fun x => (x.ctx, some x.idx)) ++
  (s.bank n).waiting.map (fun w => (w.ctx, none))

/-- Whether the frame being received goes to slots on BANK_n (R89). -/
def State.ingestOnBank (s : State) (n : Nat) : Bool :=
  match s.ing.rx.bind (fun r => tabGet (fun _ => none) s.ing.binds r.stream) with
  | some b => s.meetsBank b.ctx n (b.outBase + b.stride * (b.produced % b.slots)) b.stride || s.onBank b.ctx n b.ctrl
  | none => false

end Sys2Proof.Machine
end

