-- ==== Sys2Proof/Machine/DayBase.lean ====
section
/-! DEFINITION. Machine/DayBase.lean: the operations of the Day Unit that other units' events use: its state, INST_VALID, the loss of PHREF and of
a parent (R49 to R53, R58). -/

namespace Sys2Proof.Machine

/-- The state with the Day Unit changed. -/
def State.setDay (s : State) (d : DayUnit) : State := { s with day := d }

/-- The package's clock reaches tick `t` (assumption 3). -/
def State.reachClk (s : State) (t : Nat) : State := { s with clk := max s.clk t }

/-- STATE as a number (Table 2.2). -/
def DayState.code : DayState → Nat
  | .acquire => 0 | .locked => 1 | .follow => 2 | .holdover => 3 | .expired => 4 | .free => 5

/-- The state a number stands for; 6 and 7 are not used and read as FREE. -/
def DayState.ofCode : Nat → DayState
  | 0 => .acquire | 1 => .locked | 2 => .follow | 3 => .holdover | 4 => .expired | _ => .free

/-- The nominal Day length of DAY_CTRL.NOMINAL in 1/128 ns (R50). -/
def State.nominalPeriod (s : State) : Nat := if s.rbit 0x10000 2 then 2133333333 else 2560000000

/-- DAY_CTRL.TRACK within 2 to 7 (Table 2.6). -/
def State.track (s : State) : Nat := min 7 (max 2 (s.fld 0x10000 8 4))

/-- INST_VALID as the state, adoption, alignment, skew and COUNT_MISMATCH give it (Table 2.2, R48, R50, Table 2.3); a fall is a
group-class fault in each group that contains the package (R58). -/
def State.refreshValid (s : State) : State :=
  let d := s.day
  let counts := decide (d.state = .locked) || decide (d.state = .follow) || decide (d.state = .holdover)
  let v := counts && d.adopted && !d.realign && !d.voteFail && !s.rbit 0x10034 6 && decide (d.skew.natAbs ≤ 1000000)
  let s' := s.setDay { d with instValid := v }
  if d.instValid && !v then s'.validFell else s'

/-- DAY_STATUS.STATE changes (R50, R53, Table 2.2), with DAY_EVT.STATE_CHG; HOLDOVER with a limit of 0 is EXPIRED at once (R49). A unit that leaves
EXPIRED or FREE has its phase to align before INST_VALID returns (R50). -/
def State.setDayState (s : State) (x : DayState) : State :=
  let d := s.day
  if d.state = x then s
  else if x = .holdover ∧ s.fld 0x10024 0 16 = 0 then
    let s := ((s.setDay { d with state := .expired, rate := 0 }).flagOpen 0x10034 0 2 noCtx).flagOpen 0x10034 5 2 noCtx
    s.refreshValid
  else
    let leaves := decide (d.state = .expired) || decide (d.state = .free)
    let d := { d with state := x, rate := 0, holdDays := 0, holdMin := d.minute, third := 0,
                      realign := d.realign || leaves,
                      period := if x = .free ∨ x = .acquire then s.nominalPeriod else d.period }
    let s := (s.setDay d).flagOpen 0x10034 0 2 noCtx
    let s := if x = .expired then s.flagOpen 0x10034 5 2 noCtx else s
    s.refreshValid

/-! ### Phases -/

/-- A difference of phases taken to the nearest Day boundary: between half a Day back and half a Day on. -/
def DayUnit.nearest (d : DayUnit) (x : Int) : Int :=
  let r := x % d.dayNs
  if d.dayNs < 2 * r then r - d.dayNs else r

/-! ### Leader and parent (R36, R38, R53) -/

/-- The torus ports in the order of R38, as DAY_STATUS.PARENT names them: XN, XP, YN, YP, ZN, ZP. -/
def parentOrder : List Nat := [2, 1, 4, 3, 6, 5]

/-- The neighbour heard on the port that PARENT code `p` names. -/
def DayUnit.neighbour (d : DayUnit) (p : Nat) : Option Neighbour := tabGet (fun _ => none) d.neighbours p

/-- A neighbour whose Day Unit is in LOCKED or FOLLOW. -/
def Neighbour.good (n : Neighbour) : Bool := decide (n.state = .locked) || decide (n.state = .follow)

/-- The neighbours in LOCKED or FOLLOW. -/
def DayUnit.goodOnes (d : DayUnit) : List Neighbour := parentOrder.filterMap (fun p => (d.neighbour p).filter Neighbour.good)

/-- Whether a neighbour reports a leader other than this package's echo: hops known, and not this package's own number passed back to it
(assumption 112). -/
def State.reports (s : State) (n : Neighbour) : Bool := decide (n.hops < 0xFF) && (decide (n.leader ≠ s.position) || decide (n.hops = 0))

/-- A neighbour that may be a parent under leader `lead`: in LOCKED or FOLLOW, its port not rejected (Table 2.3), with a hop count to that leader
(R38). -/
def State.eligible (s : State) (lead p : Nat) : Option Neighbour :=
  (s.day.neighbour p).filter (fun n =>
    n.good && decide (tabGet (fun _ => 0) s.day.rejected p ≤ s.absMin) && s.reports n && decide (n.leader = lead))

/-- The parent of R38: the eligible neighbour with the fewest hops, ties to the first port in the order; 0 for none. -/
def State.bestParent (s : State) (lead : Nat) : Nat :=
  (parentOrder.foldl (fun (best : Nat × Nat) p =>
    match s.eligible lead p with
    | some n => if best.1 = 0 ∨ n.hops < best.2 then (p, n.hops) else best
    | none => best) (0, 0)).1

/-- A package in FOLLOW that has no parent any more enters HOLDOVER (R53). -/
def State.settleDay (s : State) : State := if s.day.state = .follow ∧ s.day.parent = 0 then s.setDayState .holdover else s

/-- Leader and parent are chosen again (R36, R38). This package is among those that may lead in LOCKED with LEADER_OK; the lowest position among it
and the leaders its neighbours report leads. Without a neighbour in LOCKED or FOLLOW the package acts as its own leader. Every other package takes its
parent. A package that takes over the phase from another leader freezes its DAY_SKEW. After a loss of the board reference no parent is sought
(R50, R87). -/
def State.elect (s : State) : State :=
  let d := s.day
  if d.refLost then s
  else
    let own := decide (d.state = .locked) && s.rbit 0x10000 1
    let heard := d.goodOnes
    let alone := heard.isEmpty
    let leads := (heard.filter s.reports).map (fun n => n.leader)
    let isLead := own && leads.all (fun l => decide (s.position ≤ l))
    let lead := leads.foldl min 256
    let p := if isLead then 0 else s.bestParent lead
    let hops := if isLead then 0 else match d.neighbour p with
      | some n => if p = 0 then 0xFF else min 0xFF (n.hops + 1)
      | none => 0xFF
    let who := if isLead then some s.position else if leads.isEmpty then none else some lead
    let takesOver := (isLead || alone) && !(d.leader || d.ownLeader) && d.leaderPos.isSome
    let s1 := s.setDay { d with leader := isLead, ownLeader := alone, parent := p, hops := hops, leaderPos := who, leaderHeard := s.absMin,
                                leaderSkew := if takesOver then d.skew else d.leaderSkew }
    let s1 := if p ≠ d.parent then s1.flagOpen 0x10034 7 2 noCtx else s1
    let s1 := if who ≠ d.leaderPos then s1.flagOpen 0x10034 8 2 noCtx else s1
    s1.settleDay

/-- PHREF is lost (R46, R53): FOLLOW with a parent, HOLDOVER without; a leader that leaves LOCKED leads no longer. -/
def State.losePhref (s : State) : State :=
  if s.day.state = .locked then (s.setDayState (if s.day.parent ≠ 0 then .follow else .holdover)).elect else s

/-- The Day Unit loses the neighbour on a port: a parent there is lost, in FOLLOW for HOLDOVER; a package in LOCKED keeps its phase and chooses a
new parent at the next exchange (R53), or acts as its own leader once no neighbour is left (R36). -/
def State.parentLost (s : State) (p : Nat) : State :=
  let was := s.day.parent
  let s := s.setDay { s.day with neighbours := tabSet (fun _ => none) s.day.neighbours (p + 1) none }
  let s := if was ≠ p + 1 then s
    else ((s.setDay { s.day with parent := 0, hops := 0xFF }).flagOpen 0x10034 7 2 noCtx).settleDay
  if s.day.goodOnes.isEmpty then s.elect else s

end Sys2Proof.Machine
end

