-- ==== Sys2Proof/Machine/Recovery.lean ====
section
/-! DEFINITION. Machine/Recovery.lean: context teardown and context-class faults (R126, R138, R164), package-class faults (R127, R468)
and the closing of every context (R506). -/

namespace Sys2Proof.Machine

/-- The resources of Table 15.2 that a LEASE or a BR_OPEN holds. -/
def leaseResources : List Nat := resLock :: (List.range 16).map resSet

/-- Context `c`'s waiting TAKEs leave every queue (R474). -/
def State.withdrawTakes (s : State) (c : Nat) : State :=
  leaseResources.foldl (fun s r =>
    s.setLease r { s.lease r with waiting := (s.lease r).waiting.filter (fun w => decide (w.1 ≠ c)) }) s

/-- Every lease context `c` holds is fenced (R450, R451). -/
def State.fenceLeases (s : State) (c : Nat) : State :=
  leaseResources.foldl (fun s r => if (s.lease r).holder.map (fun h => h.1) = some c then s.fence r c else s) s

/-- Teardown step 4: waiting TAKEs withdrawn, an open bracket rolled back without a ROLLED_BACK entry, leases fenced. -/
def State.fenceContext (s : State) (c : Nat) : State :=
  let s := s.withdrawTakes c
  let s := if (s.flt.bracket.map (fun b => b.ctx)) = some c then s.rollback (rollbackDetail 0 0 0) else s
  s.fenceLeases c

/-- A reset, Midnight or a package-class fault discards an open shadow without a rollback and fences the lock as a lease (R460). -/
def State.discardShadow (s : State) : State :=
  match s.flt.bracket with
  | none => s
  | some b => ({ s with flt := { s.flt with bracket := none } }).fence resLock b.ctx

/-- Whether writes of descriptor `idx` of context `c` are not yet acknowledged (R105): to another package, or to a bank die behind a bridge. -/
def State.unacked (s : State) (c idx : Nat) : Bool := s.remoteBusy c idx || s.writesHeld c

/-- Each unfinished descriptor of context `c`'s window completes with `code`, in ring order; one whose work had ended, its writes acknowledged, completes
with its own outcome (R105, R126 step 2). -/
def State.completeRest (s : State) (c code detail : Nat) : State :=
  (s.ring c).window.foldl (fun s d =>
    match d.phase with
    | .waiting => s.complete c d code detail 0
    | .running => s.complete c d code detail 0
    | .ended k x e => if s.unacked c d.idx then s.complete c d code detail 0 else s.complete c d k x e
    | .placed => s) s

/-- Steps 1, 2, 4 and 5 of R138: the context enters TEARDOWN and everything it holds is given up. -/
def State.teardown (s : State) (c cause : Nat) : State :=
  let s := s.setCtx c { s.ctx c with state := .teardown, cause := cause }
  (s.dropWork c).fenceContext c

/-- The SEND just after descriptor `idx` of context `c`, still to start, whose TENSOR has this BASE (R326). -/
def State.nextSend (s : State) (c idx : Nat) (base : Option Nat) : Option Desc :=
  (s.desc c ((idx + 1) % 65536)).filter (fun d => d.kind == kindSend && decide (d.phase = .waiting) && base.isSome &&
    decide (s.baseAt c (dword d.words 2) = base))

/-- SENDs pipelined to the LAYER that failed complete with its code (R326). -/
def State.failPiped (s : State) (c idx code detail : Nat) : State :=
  (s.cmb.sends.filter (fun w => decide (w.ctx = c) && decide (w.piped = some idx))).foldl (fun s w =>
    match s.desc c w.idx with
    | some d => (s.dropSend c w.idx).complete c d code detail 0
    | none => s) s

/-- A context-class fault (R126, R138): the causing descriptor completes with the code, every other one TORN_DOWN; the ring stops; an
event and a record are written; the teardown runs. A context that is not OPEN only gets the record (R164). `idx` names the causing
descriptor; with `entry` an entry that no descriptor caused is written first (R122, R125). -/
def State.contextFault (s : State) (c code detail : Nat) (idx : Option Nat) (entry : Bool) (unit : Nat) : State :=
  if (s.ctx c).state = .open_ then
    let s := s.dropJobs c
    let s := match idx.bind (s.desc c) with
      | some d =>
        let send := if d.kind = kindLayer then s.nextSend c d.idx d.outBase else none
        let s := (s.complete c d code detail 0).failPiped c d.idx code detail
        match send with
        | some x => s.complete c x code detail 0
        | none => s
      | none => if entry then s.completeNone c code detail else s
    let s := s.completeRest c 0x4E 0
    let s := s.setRing c { s.ring c with lastCode := code, state := .stopped }
    let s := (s.record 1 1 code c unit detail).bump 0xE0040 32 1
    let s := s.event 1 code c detail
    s.teardown c (if code = 0x4E then 2 else 1)
  else (s.record 1 1 code c unit detail).bump 0xE0040 32 1

/-- Every unfinished descriptor of every ring completes PACKAGE_LOST and every ring enters STOPPED; with the Host Interface itself failed no
entry is written (R127). LAST_CODE takes 0x4F on a ring that was at work. -/
def State.loseRings (s : State) (slot : Nat) (hostDead : Bool) : State :=
  ctxRange.foldl (fun s c =>
    let active := decide ((s.ring c).state = .active) || decide ((s.ring c).state = .draining)
    let s := if hostDead then s.setRing c { s.ring c with window := [], reserve := [] } else s.completeRest c 0x4F slot
    let r := s.ring c
    s.setRing c { r with state := .stopped, lastCode := if active then 0x4F else r.lastCode }) s

/-- Eriovan port `p` goes DOWN with everything in it (R468 step 5): a bridge port's peers and a torus port's neighbour in time are lost. -/
def State.portLost (s : State) (p : Nat) : State :=
  let q := s.port p
  if q.state = .down then s
  else
    let s := (s.portTo p .down).setPort p Port.reset
    if p < 6 then s.parentLost p
    else
      let had := decide (q.peerId ≠ 0) || !(tabGet (fun _ => []) s.lnk.peers (p - 6)).isEmpty
      let s := s.setLnk { s.lnk with peers := tabSet (fun _ => []) s.lnk.peers (p - 6) [], drain := tabSet (fun _ => false) s.lnk.drain (p - 6) false }
      if had then s.record 3 7 6 noCtx (36 + p) p else s

/-- Every Eriovan port goes DOWN, and no message is in flight. -/
def State.portsLost (s : State) : State :=
  let s := (List.range 8).foldl State.portLost s
  s.setLnk { s.lnk with hold := [], parked := [], open_ := [], collect := [] }

/-- A package-class fault (R468): issue stops, work is abandoned, every resource fenced and every OPEN context FAULTED, the rings are
lost, every Eriovan port goes DOWN, the stacks enter self-refresh, a record of class package is written and pinned, and the alert raised. -/
def State.packageFault (s : State) (source code unit detail : Nat) (hostDead : Bool) : State :=
  let s := (s.record 2 source code noCtx unit detail).bump 0xE0044 32 1
  let slot := s.flt.head
  let cold := s.flt.pkgCold || (decide (source = 1) && (decide (code = 0x16) || decide (code = 0x17)))
  let dead := s.host.dead || hostDead
  let s := { s with flt := { s.flt with pkgFault := true, pkgCold := cold }, host := { s.host with dead := dead } }
  let s := ctxRange.foldl (fun s c => s.dropJobs c) s
  let s := s.loseRings slot hostDead
  let s := s.discardShadow
  let s := ctxRange.foldl (fun s c =>
    if (s.ctx c).state = .open_ ∨ (s.ctx c).state = .teardown then
      let s := ((s.dropWork c).withdrawTakes c).fenceLeases c
      s.setCtx c { s.ctx c with state := .faulted }
    else s) s
  let s := (s.setCmb { s.cmb with offers := [] }).portsLost
  let s := (List.range 4).foldl (fun s n =>
    if (s.bank n).phase = .active then s.setBank n { s.bank n with selfRefresh := true } else s) s
  s.flag 0xE0008 0 15 noCtx slot

/-- Every context that is OPEN or in TEARDOWN is torn down without completions and ends FREE (R129, R506). -/
def State.closeContexts (s : State) : State :=
  let s := s.discardShadow
  ctxRange.foldl (fun s c =>
    let s := if (s.ctx c).state = .open_ ∨ (s.ctx c).state = .teardown then
        let s := ((s.dropWork c).withdrawTakes c).fenceLeases c
        s.setCtx c { s.ctx c with cause := 3 }
      else s
    s.setCtx c { s.ctx c with state := .free }) s

/-- Every ring ends CLOSED with nothing in it (Table 4.11): its registers at default, or, with `keep`, as they were but for ENABLE. -/
def State.closeRings (s : State) (keep : Bool) : State :=
  if keep then
    let shut := fun (r : Ring) => { Ring.reset with sqHead := r.sqHead, cqTail := r.cqTail, cqHead := r.cqHead, headErr := r.headErr, lastCode := r.lastCode }
    { s with rings := (s.rings.map (fun e => (e.1, shut e.2))).filter (fun e => decide (e.2 ≠ Ring.reset)) }
  else { s with rings := [] }

end Sys2Proof.Machine
end

