-- ==== Sys2Proof/Machine/Day.lean ====
section
/-! DEFINITION. Machine/Day.lean: the Day Unit's commands (chapter 2, R366, R504). -/

namespace Sys2Proof.Machine

/-- With a parent in LOCKED or FOLLOW, a unit in EXPIRED, FREE or HOLDOVER enters FOLLOW (R50; assumption 14). -/
def State.takeParent (s : State) (ofs : Int) : State :=
  let d := s.day
  if d.parent ≠ 0 ∧ !d.voteFail ∧ !d.refLost ∧ (d.state = .expired ∨ d.state = .free ∨ d.state = .holdover) then
    (s.setDay { d with corrLeft := d.corrLeft + 128 * ofs }).setDayState .follow
  else s

/-- What adoption makes of positions that Day-scheduled registers hold (R40): a load step or changeover that the step has passed acts at the next
Minute strobe with its late indication, and so does the Evening loop; `old` is the absolute Minute before the step. -/
def State.markPassed (s : State) (old : Nat) : State :=
  let passed := fun m => decide (old < m) && decide (m ≤ s.absMin)
  let l := s.pwr.ledger
  let steps := l.steps.map (fun e => (e.1, e.2.map (fun (x : Nat × Bool) => (x.1, x.2 || passed x.1))))
  let late := s.lnk.stagedLate || (match s.lnk.staged with
    | some (_, _, m) => passed m
    | none => false)
  let min := min 1439 (s.fld 0x30004 16 11)
  let days := max 1 (s.fld 0x30004 0 8)
  let last := (s.absMin - min) / 1440 / days * days * 1440 + min
  let s := { s with pwr := { s.pwr with ledger := { l with steps := steps } } }
  let s := s.setLnk { s.lnk with stagedLate := late }
  s.setDay { s.day with evePassed := s.day.evePassed || (s.rbit 0x30004 31 && passed last) }

/-- The position a bank die takes at its training and when the Day Unit is stepped: that of the last strobe (R85; DEDUCED, assumption 80). -/
def State.lastStrobe (s : State) : Nat × Nat :=
  if s.day.strobed then (s.day.day, s.day.minute)
  else if s.day.minute = 0 then ((s.day.day + (2 ^ 48 - 1)) % 2 ^ 48, 1439)
  else (s.day.day, s.day.minute - 1)

/-- The bank dies take the position to which the Day Unit was stepped. -/
def State.syncBanks (s : State) : State :=
  let p := s.lastStrobe
  (List.range 4).foldl (fun s n => s.setBank n { s.bank n with expDay := p.1, expMinute := p.2 }) s

/-- Day count, Minute and tick are stepped to those of the parent, which stood at `pos` on tick `at_` (R40, R59). The fraction acc starts again from
0 at the step, which R40 does not say (DESIGN CHOICE, assumption 112). The skews, the average and what is left of corrections are carried over to the
new phase. -/
def State.stepTo (s : State) (pos : DayPos) (at_ : Int) : State :=
  let d0 := s.day
  let d := { d0 with acc := 0, day := pos.day % 2 ^ 48, dayStart := at_ - ((pos.minute * d0.pd / 184320 : Nat) + pos.tick) }
  let now := d.posAt s.clk
  let start := d.dayStart + (((s.clk : Int) - d.dayStart) / d.dayNs) * d.dayNs
  let moved := d.nearest (start - d0.dayStart)
  (s.setDay { d with day := now.day, minute := now.minute, strobed := true, dayStart := start, adopted := true, corrLeft := 0, freshOfs := none,
                     ownSkew := d.ownSkew - moved, leaderSkew := d.leaderSkew - moved, skew := d.skew - moved,
                     skewSum := d.skewSum.map (fun x => x - moved) }).syncBanks

/-- Adoption from a parent (R40): its position `pos` stood on tick `at_`. -/
def State.adoptFromParent (s : State) (pos : DayPos) (at_ : Int) : State :=
  ((s.stepTo pos at_).markPassed s.absMin).refreshValid.bootReady

/-- Adoption from DAY_START (R40): only the Day count is replaced. -/
def State.adoptFromStart (s : State) (alone : Bool) : State :=
  ((s.setDay { s.day with day := s.reg64 0x10028 % 2 ^ 48, adopted := true, ownLeader := alone || s.day.ownLeader }
    ).syncBanks.markPassed s.absMin).refreshValid.bootReady

/-- The package at position 0 adopts from DAY_START once DONE and LNK_POS.VALID are both 1 and its moment has come (R40, R504). -/
def State.tryAdoptStart (s : State) : State :=
  if !s.day.adopted && s.day.startWritten && s.boot.done && s.posValid && decide (s.position = 0) then s.adoptFromStart false else s

/-- What a time message of this package carries (R366). -/
def State.timeInfo (s : State) : List Nat :=
  [s.day.state.code, s.day.hops, s.day.leaderPos.getD 128, b2n s.day.adopted, s.day.day, s.day.minute, s.tick]

/-- A time REQUEST out of torus port `p` (R366); it takes t1 when it leaves. -/
def State.sendTimeRequest (s : State) (p : Nat) : State := s.sendNear p .timeRequest s.timeInfo

/-- A time REQUEST out of each torus port that is UP with TIME in use. -/
def State.sendTimeRequests (s : State) : State :=
  (List.range 6).foldl (fun s p => if s.timePort p then s.sendTimeRequest p else s) s

/-! ### PHREF (R31 to R35, R46, R53) -/

/-- Differences of successive edge times, newest first. -/
def periodsOf : List Int → List Int
  | a :: b :: t => (a - b) :: periodsOf (b :: t)
  | _ => []

/-- The lock criterion of R35 on the last 17 accepted edges: each of the 16 periods within 0.1% of their mean, the mean between
45.000 and 65.000 Hz. -/
def lockMet (edges : List Int) : Option Nat :=
  let ps := periodsOf edges
  let sum := ps.foldl (· + ·) 0
  if edges.length = 17 ∧ 0 < sum ∧ ps.all (fun p => decide ((16 * p - sum).natAbs * 1000 ≤ sum.toNat)) ∧
      sum.toNat * 45 ≤ 16000000000 ∧ 16000000000 ≤ sum.toNat * 65 then some (sum.toNat * 8) else none

/-- Whether the mean of the last 16 accepted periods lies outside 45 to 65 Hz (R46). A period is accepted when an accepted edge ends it and its
reference was an accepted edge. -/
def outOfRange (periods : List Int) : Bool :=
  let sum := periods.foldl (· + ·) 0
  decide (periods.length = 16) && (decide (16000000000 < sum.toNat * 45) || decide (sum.toNat * 65 < 16000000000))

/-- LOCKED is entered with the mean of R35 as the Day length; a leader that leaves EXPIRED or FREE sets INST_VALID (R50). -/
def State.enterLocked (s : State) (mean : Nat) : State :=
  let s := ((s.setDay { s.day with period := mean, ownSkew := 0 }).setDayState .locked).elect
  (s.setDay { s.day with realign := s.day.realign && !(s.day.leader || s.day.ownLeader) }).refreshValid

/-- An accepted edge on tick `t` (R32, R35, R46). -/
def State.acceptEdge (s : State) (t : Nat) : State :=
  let d := s.day
  let edges := ((t : Int) :: d.edges).take 17
  let periods := match d.edges with
    | e :: _ => (((t : Int) - e) :: d.periods).take 16
    | [] => d.periods
  let s := s.setDay { d with reference := some t, edges := edges, periods := periods, misses := 0 }
  match d.state with
  | .locked => if outOfRange periods then (s.flagOpen 0x10034 2 2 noCtx).losePhref else s
  | _ =>
    match lockMet edges with
    | some p => if d.voteFail then s else s.enterLocked p
    | none => s

/-- PHREF_EDGE (R32): a glitch earlier than half a Day length after the reference is ignored and counted; any other edge is
accepted. -/
def execPhrefEdge (t : Nat) (s : State) : Result :=
  let s := s.reachClk t
  .next (if s.day.refLost then s
    else match s.day.reference with
      | none => s.acceptEdge t
      | some r =>
        if ((t : Int) - r) * 256 < s.day.period then (s.bump 0x10038 16 1).flagOpen 0x10034 1 2 noCtx
        else s.acceptEdge t)

/-- PHREF_MISSED_CYCLE (R32, R53): the cycle is counted missed, its predicted edge becomes the reference, and after four misses in a
row a LOCKED unit leaves LOCKED. The predicted edge, the reference plus P, is taken on the whole ns below: R32 gives no rounding (DESIGN CHOICE,
assumption 112). -/
def execPhrefMissedCycle (t : Nat) (s : State) : Result :=
  let s := s.reachClk t
  .next (if s.day.refLost then s else match s.day.reference with
    | none => s
    | some r =>
      if ((t : Int) - r) * 512 < 5 * s.day.period then s
      else
        let d := s.day
        let s := (s.setDay { d with reference := some (r + (d.period / 128 : Nat)), edges := [], misses := d.misses + 1 }
          ).bump 0x1003C 16 1
        if 4 ≤ d.misses + 1 then s.losePhref else s)

/-! ### Day boundaries and Minutes (R33, R34, R41, R44, R48, R579) -/

/-- The Day's accepted edge: the one within half a Day length of the Day's start (assumption 15). -/
def DayUnit.edgeOfDay (d : DayUnit) : Option Int :=
  d.edges.find? (fun e => decide ((e - d.dayStart).natAbs * 256 ≤ d.period))

/-- The phase error e of R579 at the boundary that ends a Day. -/
def DayUnit.phaseError (d : DayUnit) : Int :=
  match d.state with
  | .locked =>
    match d.edgeOfDay with
    | some e => e - d.dayStart - (if d.leader || d.ownLeader then d.leaderSkew else d.ownSkew)
    | none => 0
  | .follow => match d.freshOfs with
    | some o => -o
    | none => 0
  | _ => 0

/-- The tracking loop of R579 with the limit of R34: rate, period and the correction of the next Day, and what is left of it. -/
def DayUnit.trackLoop (d : DayUnit) (n : Nat) : DayUnit × Int :=
  if d.state = .locked ∨ d.state = .follow then
    let e := d.phaseError
    let rate := d.rate + tdiv (128 * e) (2 ^ (3 * n) : Nat)
    let period := ((d.period : Int) + rate + tdiv (3 * 128 * e) (2 ^ (2 * n) : Nat)).toNat
    let want := (if e = 0 then 0 else tdiv (3 * 128 * e) (2 ^ n : Nat)) + d.corrLeft
    let lim : Int := (period / 100 : Nat)
    let now := max (-lim) (min lim want)
    ({ d with rate := rate, period := period, corrLeft := want - now, freshOfs := none }, now)
  else ({ d with freshOfs := none }, 0)

/-- DAY_SKEW averaged over the last 16 Days (R48). -/
def DayUnit.takeSkew (d : DayUnit) : DayUnit :=
  match d.edgeOfDay with
  | some e =>
    let xs := (e - d.dayStart) :: d.skewSum.take 15
    { d with skewSum := xs, skew := tdiv (xs.foldl (· + ·) 0) xs.length }
  | none => d

/-- The Day ends (R33, R579, R41, R48): the next Day's applied length is placed and acc carried. At a nominal 60 Hz every third
Day of ACQUIRE or FREE is one unit longer, so that three Days are exactly three nominal periods (R50). -/
def State.endDay (s : State) : State :=
  let d := s.day.takeSkew
  let start := s.day.nextDayStart
  let (d1, corr) := d.trackLoop s.track
  let counts := decide (d.state = .acquire) || decide (d.state = .free)
  let period := if counts then s.nominalPeriod else d1.period
  let third := if counts && s.rbit 0x10000 2 then (d.third + 1) % 3 else 0
  let corr := if counts && s.rbit 0x10000 2 && third == 0 then 1 else corr
  let takesOfs := match d.hourPend with
    | some (_, w) => decide ((w : Int) + 1000 ≤ start)
    | none => false
  let d2 := { d1 with
    period := period, acc := (d.acc + d.pd) % 128, dayStart := start, pd := ((period : Int) + corr).toNat, day := (d.day + 1) % 2 ^ 48,
    minute := 0, strobed := false, third := third, holdDays := if d.state = .holdover then d.holdDays + 1 else d.holdDays,
    hourOfs := if takesOfs then (d.hourPend.map (fun p => p.1)).getD d.hourOfs else d.hourOfs,
    hourPend := if takesOfs then none else d.hourPend }
  let s1 := (s.reachClk start.toNat).setDay d2
  let s1 := if d1.corrLeft ≠ 0 then s1.flagOpen 0x10034 3 2 noCtx else s1
  let s1 := if 1000000 < d2.skew.natAbs then s1.flagOpen 0x10034 4 2 noCtx else s1
  s1.refreshValid

/-- DAY_BOUNDARY (R33, R34): the Day under way ends once its last Minute, 1439, has begun; no position of it is skipped. -/
def execDayBoundary (s : State) : Result := .next (if s.day.strobed ∧ s.day.minute = 1439 then s.endDay else s)

/-- Whether a due event's turn has come: none before it in the order of R51 is still due. -/
def State.turn (s : State) (d : Due) : Bool := decide (s.day.due.head? = some d)

/-- A due event has fired. -/
def State.fired (s : State) (d : Due) : State := s.setDay { s.day with due := s.day.due.filter (fun e => decide (e ≠ d)) }

/-- Minutes spent in the HOLDOVER under way (R49). -/
def DayUnit.heldFor (d : DayUnit) : Nat := d.holdDays * 1440 + d.minute - d.holdMin

/-- HOLDOVER_EXPIRY (R49): DAY_HOLD_LIMIT Days after HOLDOVER began the unit enters EXPIRED; with that time past already, as after a write
of the limit, at a Day boundary. -/
def execHoldoverExpiry (s : State) : Result :=
  let limit := s.fld 0x10024 0 16 * 1440
  .next (if s.day.state = .holdover ∧ (limit = s.day.heldFor ∨ limit < s.day.heldFor ∧ s.day.minute = 0) then s.setDayState .expired else s)

/-- ACQUIRE_TIMEOUT (R50): at the end of 64 nominal periods with no lock, FREE without a parent (FOLLOW with one, assumption 14). -/
def execAcquireTimeout (s : State) : Result :=
  .next (if s.day.state = .acquire then
      let s := s.reachClk (s.day.acquireStart + 64 * s.nominalPeriod / 128)
      s.setDayState (if s.day.parent ≠ 0 then .follow else .free)
    else s)

/-! ### The time leader and messages (R36 to R39, R53, R366) -/

/-- TIME_EXCHANGE (R366): at Minute 30 of an installation Hour a REQUEST goes out of each torus port in use. -/
def execTimeExchange (s : State) : Result :=
  .next (if s.day.minute % 60 = 30 then s.sendTimeRequests else s)

/-- What is kept of a time message's sender; `pos` stood by its count on tick `at_`. -/
def State.hear (s : State) (p : Nat) (i : TimeInfo) (pos : DayPos) (at_ : Int) : State :=
  let n : Neighbour := { state := DayState.ofCode i.state, hops := i.hops, leader := i.leader, adopted := i.adopted,
                         heard := s.absMin, pos := pos, at_ := at_ }
  s.setDay { s.day with neighbours := tabSet (fun _ => none) s.day.neighbours (p + 1) (some n) }

/-- TIME_REQUEST_RX (R366): the REQUEST is answered with a RESPONSE carrying t2 and t3. A REQUEST yields no delay, so what the last exchange with
that neighbour gave of its count is kept; before one, t1 at its arrival stands for it (assumption 16). -/
def execTimeRequestRx (p : TorusPort) (from_ : TimeInfo) (t1 : DayPos) (t2 t3 : Nat) (s : State) : Result :=
  let old := s.day.neighbour (p.val + 1)
  let s := (s.hear p.val from_ ((old.map Neighbour.pos).getD t1) ((old.map Neighbour.at_).getD t2)).reachClk t3
  .next (s.sendNear p.val .timeResponse (s.timeInfo ++ posArgs t1 ++ posArgs (s.day.posAt t2) ++ posArgs (s.day.posAt t3)))

/-- The parent is rejected for 24 Hours and another chosen (Table 2.3). -/
def State.rejectParent (s : State) : State :=
  let d := s.day
  ((s.setDay { d with rejected := tabSet (fun _ => 0) d.rejected d.parent (s.absMin + 1440) }).flagOpen 0x10034 7 2 noCtx).elect

/-- What an exchange with the parent does (R37, R50, R579, Table 2.3): `o` is the offset, positive when this package is ahead, and `off` says that
the counts differ by half a Day or more. 'After alignment' of Table 2.3 is taken as INST_VALID at 1: the spec does not define when alignment is
reached (DESIGN CHOICE, assumption 112). -/
def State.heardParent (s : State) (o : Int) (off : Bool) : State :=
  let s := s.setDay { s.day with parentOfs := o, ownSkew := s.day.ownSkew - o, freshOfs := some o }
  let s := if off then (s.flagOpen 0x10034 6 2 noCtx).refreshValid else s
  if s.day.instValid && decide (1000 < o.natAbs) && !off then s.rejectParent
  else
    let s := s.takeParent o
    if decide (o.natAbs ≤ 1000) && !off then (s.setDay { s.day with realign := false }).refreshValid else s

/-- TIME_RESPONSE_RX (R366, R37, R38, R40, R50, Table 2.3): offset and delay drive parent choice, adoption, alignment and
COUNT_MISMATCH. The offset kept is positive when this package is ahead (Table 2.10) and is taken to the nearest Day boundary, since the count is kept
(assumption 16). -/
def execTimeResponseRx (p : TorusPort) (from_ : TimeInfo) (t1 t2 t3 : DayPos) (t4 : Nat) (s : State) : Result :=
  let s := s.reachClk t4
  let ns := s.day.tickOf
  let o := s.day.nearest (-(tdiv ((ns t2 - ns t1) - ((t4 : Int) - ns t3)) 2))
  let delay := tdiv ((ns t2 - ns t1) + ((t4 : Int) - ns t3)) 2
  let s := s.hear p.val from_ t3 ((t4 : Int) - delay)
  let st := DayState.ofCode from_.state
  let good := decide (st = .locked) || decide (st = .follow)
  .next (if s.day.refLost then s
    else if !s.day.adopted && s.boot.done && good && from_.adopted then
      (s.elect.adoptFromParent t3 ((t4 : Int) - delay)).takeParent 0
    else
      let s := s.elect
      if s.day.parent ≠ p.val + 1 then s
      else s.heardParent o (decide (720 ≤ ((s.absMin : Int) - (from_.pos.day * 1440 + from_.pos.minute : Nat)).natAbs)))

/-- LEADER_TIMEOUT (R53): neighbours that report the silent leader are forgotten and the next package in order leads; no phase is
stepped. -/
def execLeaderTimeout (s : State) : Result :=
  let d := s.day
  let keep := d.neighbours.filter (fun e => match e.2 with
    | some n => decide (some n.leader ≠ d.leaderPos) || decide (s.absMin < n.heard + 120)
    | none => false)
  .next (s.setDay { d with neighbours := keep }).elect

/-! ### Adoption (R40, R504) -/

/-- A write of DAY_START_HI (R40, Table 2.13): writable only while ADOPTED is 0; the write lets position 0 adopt. -/
def State.writeDayStartHi (v : Word) (who : Reader) (s : State) : State :=
  if s.day.adopted then (if wfld v 0 16 = s.fld 0x1002C 0 16 then s else s.locked 0x1002C who)
  else ((s.setReg 0x1002C (v &&& 0xFFFF)).setDay { s.day with startWritten := true }).tryAdoptStart

/-- DAY_START_HI_WRITE. -/
def execDayStartHiWrite (v : Word) (s : State) : Result := .next (s.onWrite 0x1002C .host (State.writeDayStartHi v .host))

/-- ADOPT_REQUEST_TIMER (R504): until it has adopted the package sends a time REQUEST on each eligible torus port. -/
def execAdoptRequestTimer (s : State) : Result :=
  .next (if s.day.adopted then s else s.sendTimeRequests)

/-- ADOPTION_LIMIT (R504): 1,000 ms after DONE, position 0 adopts from DAY_START if it has not adopted. -/
def execAdoptionLimit (s : State) : Result :=
  .next (if s.boot.done && !s.day.adopted then
      let s := s.reachClk (s.boot.doneAt + 1000000000)
      (s.setDay { s.day with startWritten := true }).tryAdoptStart
    else s)

/-- ADOPTION_FALLBACK (R504): 50 ms after the limit a package without a parent adopts from DAY_START and leads itself. -/
def execAdoptionFallback (s : State) : Result :=
  .next (if s.boot.done && !s.day.adopted && decide (s.day.parent = 0) then
      (s.reachClk (s.boot.doneAt + 1050000000)).adoptFromStart true
    else s)

/-! ### Settings and commands (R41, R49, R50, R59) -/

/-- A write of DAY_HOUR_OFS (R41, R55, Table 2.11): the new offset waits for a Day boundary; 24 or more is ignored with BAD_OFS. -/
def State.writeHourOfs (v : Word) (s : State) : State :=
  if 24 ≤ wfld v 0 5 then s.flagOpen 0x10034 10 2 noCtx
  else (s.setReg 0x10020 (v &&& 0x1F)).setDay { s.day with hourPend := some (wfld v 0 5, s.clk) }

/-- DAY_HOUR_OFS_WRITE. -/
def execDayHourOfsWrite (v : Word) (s : State) : Result := .next (s.onWrite 0x10020 .host (State.writeHourOfs v))

/-- A write of DAY_HOLD_LIMIT (R49): the new limit holds at once and counts from the start of the holdover under way. -/
def State.writeHoldLimit (v : Word) (s : State) : State := s.setReg 0x10024 (v &&& 0xFFFF)

/-- DAY_HOLD_LIMIT_WRITE. -/
def execDayHoldLimitWrite (v : Word) (s : State) : Result := .next (s.onWrite 0x10024 .host (State.writeHoldLimit v))

/-- A write of DAY_CTRL (R50, Table 2.6): NOMINAL in ACQUIRE or FREE changes DAY_PERIOD at once; LEADER_OK bears on the leader choice. -/
def State.writeDayCtrl (v : Word) (s : State) : State :=
  let s := s.setReg 0x10000 (v &&& 0xF06)
  let s := if s.day.state = .acquire ∨ s.day.state = .free then s.setDay { s.day with period := s.nominalPeriod } else s
  s.elect

/-- DAY_CTRL_WRITE. -/
def execDayCtrlWrite (v : Word) (s : State) : Result := .next (s.onWrite 0x10000 .host (State.writeDayCtrl v))

/-- Whether any Day-scheduled event is pending (R59): due in this Minute, an armed load step, or a staged route table
(assumption 17). -/
def State.dayEventPending (s : State) : Bool :=
  !s.day.due.isEmpty || s.lnk.staged.isSome || (List.range 4).any (fun i => (tabGet (fun _ => none) s.pwr.ledger.steps i).isSome)

/-- The position of the time parent as the last exchange gave it: a position of its count, and the tick it stood there. -/
def State.parentPos (s : State) : Option (DayPos × Int) := (s.day.neighbour s.day.parent).map (fun n => (n.pos, n.at_))

/-- DAY_CMD.RESYNC (R59): with no lease, no event, no open context and a parent, the package steps to its parent's position. -/
def State.resyncDay (who : Reader) (s : State) : State :=
  let ok := leaseResources.all (fun r => (s.lease r).holder.isNone) && !s.dayEventPending
    && ctxRange.all (fun c => decide ((s.ctx c).state ≠ .open_)) && decide (s.day.parent ≠ 0)
  match s.parentPos with
  | some (pos, at_) =>
    if ok then
      let s := s.setFld 0x10034 6 1 0
      let s := s.setDay { s.day with voteFail := false }
      ((s.stepTo pos at_).refreshValid.bootReady.takeParent 0).refreshValid
    else s.locked 0x10030 who
  | none => s.locked 0x10030 who

/-- A write of DAY_CMD (Table 2.14). -/
def State.writeDayCmd (v : Word) (who : Reader) (s : State) : State := if bitAt v.toNat 0 then s.resyncDay who else s

/-- DAY_RESYNC. -/
def execDayResync (s : State) : Result := .next (s.onWrite 0x10030 .host (State.writeDayCmd 1 .host))

/-- DAY_VOTE_MISMATCH (R57, Table 2.3): the copy that differs is corrected from the other two; when all three differ the counter
reloads from the first copy, the unit enters EXPIRED until RESYNC, and the fault is package-class. After a loss of the board reference it stays in
FREE (R50). -/
def execDayVoteMismatch (c1 c2 c3 : DayPos) (s : State) : Result :=
  let load := fun (s : State) (p : DayPos) =>
    let into : Int := (s.day.acc * 1440 + p.minute * s.day.pd : Nat) / 184320 + p.tick
    s.setDay { s.day with day := p.day % 2 ^ 48, minute := p.minute, dayStart := (s.clk : Int) - into }
  .next (if c1 = c2 ∧ c2 = c3 then s
    else if c1 = c2 ∨ c1 = c3 then (load s c1).flagOpen 0x10034 9 2 noCtx
    else if c2 = c3 then (load s c2).flagOpen 0x10034 9 2 noCtx
    else
      let s := load s c1
      let s := s.setDay { s.day with voteFail := true, corrLeft := 0 }
      let s := if s.day.refLost then s else s.setDayState .expired
      (s.setDay { s.day with voteFail := true }).refreshValid.packageFault 2 9 0x200 0 false)

end Sys2Proof.Machine
end

