-- ==== Sys2Proof/Machine/Remap.lean ====
section
/-! DEFINITION. Machine/Remap.lean: the defect map and the operations that put a spare in a failed element's place (R482 to R499). -/

namespace Sys2Proof.Machine

/-! ### Defect-map entries -/

/-- The state with chapter 16's state changed. -/
def State.setRep (s : State) (r : RepairUnit) : State := { s with rep := r }

/-- The two words of an entry (Table 16.2). -/
def DEntry.words (e : DEntry) : List Nat :=
  [e.kind * 2 ^ 60 + e.cause * 2 ^ 56 + e.state * 2 ^ 54 + e.loc * 2 ^ 32 + e.target * 2 ^ 16 + e.spare, e.minute * 2 ^ 48 + e.day]

/-- Whether two entries name the same element. -/
def DEntry.same (a b : DEntry) : Bool := a.kind = b.kind && a.loc = b.loc && a.target = b.target

/-- STATE values (Table 16.2). -/
def deQueued : Nat := 0
def deApplied : Nat := 1
def deFailed : Nat := 2
def deSuperseded : Nat := 3

/-- Entry `i`. -/
def State.dent (s : State) (i : Nat) : Option DEntry := s.rep.entries[i]?

/-- What a compaction keeps (R484): no SUPERSEDED entry, and the newest entry for each element. -/
def compactEntries : List DEntry → List DEntry
  | [] => []
  | e :: rest => if e.state = deSuperseded ∨ rest.any (fun x => x.same e && decide (x.state ≠ deSuperseded)) then compactEntries rest
      else e :: compactEntries rest

/-- A flag of HUB_REPAIR_EVT, whose event entry carries CODE 0x20 plus the bit (R497). -/
def State.repairFlag (s : State) (bit idx pa : Nat) : State :=
  if s.rbit 0x420 bit then s
  else ((s.setFld 0x420 bit 1 1).event 1 (0x20 + bit) noCtx (idx % 2 ^ 16 * 2 ^ 48 + pa)).alert 1

/-- The DETAIL of R497 for entry `e` at `idx`. -/
def DEntry.detail (e : DEntry) (idx : Nat) : Nat := idx % 2 ^ 16 * 2 ^ 48 + (if e.kind = 6 ∨ e.kind = 7 then e.pa % 2 ^ 40 else 0)

/-- Records of a copy that hold a whole map, in index order. -/
def indexed (l : List DEntry) : List (Nat × DEntry) := l.zipIdx.map (fun p => (p.2, p.1))

/-- The map is compacted into a fresh copy (R484); the entry of a repair step under way keeps its place in it. -/
def State.compactMap (s : State) : State :=
  let kept := compactEntries s.rep.entries
  let step := (s.rep.step.bind s.dent).bind (fun e => kept.findIdx? (fun x => decide (x = e)))
  s.setRep { s.rep with entries := kept, dirty := [], copyA := indexed kept, copyB := indexed kept, step := step }

/-- A new entry is written to the map (R484, R485, R494): its index, or none when the map is full and compaction frees no place. The event of a
full map names no entry, and its index is a free value. -/
def State.noteEntry (s : State) (e : DEntry) : Option Nat × State :=
  let e := { e with minute := s.day.minute, day := s.day.day }
  let put := fun (s : State) =>
    let i := s.rep.entries.length
    (some i, s.setRep { s.rep with entries := s.rep.entries ++ [e], dirty := s.rep.dirty ++ [i], full := false })
  if s.rep.entries.length < 4096 then put s
  else
    if (compactEntries s.rep.entries).length < 4096 then put s.compactMap
    else
      let (k, s) := s.takeFree
      (none, (s.setRep { s.rep with full := true }).repairFlag 4 (k % 2 ^ 16) 0)

/-- An entry changes state. -/
def State.moveEntry (s : State) (i st : Nat) : State :=
  s.setRep { s.rep with entries := s.rep.entries.modify i (fun e => { e with state := st, minute := s.day.minute, day := s.day.day }),
                        dirty := s.rep.dirty.filter (fun j => decide (j ≠ i)) ++ [i] }

/-- What every remap that took effect reports (R492): a record and HUB_REPAIR_EVT.APPLIED. -/
def State.remapDone (s : State) (idx : Nat) (e : DEntry) (unit : Nat) : State :=
  (s.record 0 1 0x21 noCtx unit (e.detail idx)).repairFlag 1 idx (if e.kind = 6 ∨ e.kind = 7 then e.pa else 0)

/-- QUEUED entries of an element are SUPERSEDED (R496). -/
def State.supersede (s : State) (e : DEntry) : State :=
  (List.range s.rep.entries.length).foldl (fun s i => match s.dent i with
    | some x => if x.same e && decide (x.state = deQueued) && decide (s.rep.step ≠ some i) then s.moveEntry i deSuperseded else s
    | none => s) s

/-- A remap that took effect at once gets an APPLIED entry (R488); an entry that finds no place leaves its index a free value
(R494). -/
def State.noteApplied (s : State) (e : DEntry) (unit : Nat) : State :=
  let e := { e with state := deApplied }
  match (s.supersede e).noteEntry e with
  | (some i, s) => s.remapDone i e unit
  | (none, s) =>
    let (k, s) := s.takeFree
    s.remapDone (k % 2 ^ 16) e unit

/-- An element is retired for want of a spare (R493): SPARES_OUT, and entry `e` unless the map holds it already. -/
def State.retire (s : State) (e : DEntry) : State :=
  let pa := if e.kind = 6 ∨ e.kind = 7 then e.pa % 2 ^ 40 else 0
  match s.rep.entries.findIdx? (fun x => x.same e && decide (x.state = e.state)) with
  | some i => s.repairFlag 3 i pa
  | none => match s.noteEntry e with
    | (some i, s) => s.repairFlag 3 i pa
    | (none, s) =>
      let (k, s) := s.takeFree
      s.repairFlag 3 (k % 2 ^ 16) pa

/-- A unit with a view is retired: an entry of KIND 8. -/
def State.retireUnit (s : State) (cause v : Nat) : State :=
  s.retire { kind := 8, cause := cause, state := deApplied, loc := v, target := 0, spare := 0, minute := 0, day := 0, pa := 0 }

/-- Number of QUEUED entries. -/
def State.queuedCount (s : State) : Nat := (s.rep.entries.filter (fun e => decide (e.state = deQueued))).length

/-- An aging monitor queues an entry (R487) when AUTO_QUEUE is 1: at most one per element, and at most 64 QUEUED in all
(Table 16.9; assumption 21). -/
def State.queueEntry (s : State) (e : DEntry) : State :=
  let e := { e with state := deQueued }
  let unitKind := decide (e.kind ≤ 3)
  let known := s.rep.entries.any (fun x => x.same e && decide (x.state ≠ deSuperseded) && !(unitKind && decide (x.state = deApplied)))
  if !s.rbit 0x418 31 || known || decide (64 ≤ s.queuedCount) then s
  else match s.noteEntry e with
    | (some i, s) => s.repairFlag 0 i (if e.kind = 6 ∨ e.kind = 7 then e.pa else 0)
    | (none, s) => s

/-! ### Memory rows (R487, R488) -/

/-- ROW_CE_LIMIT, 0 acting as 1. -/
def State.rowLimit (s : State) : Nat := max 1 (s.fld 0x418 0 8)

/-- Spare rows of the SRAM array `loc` that entries hold. -/
def State.rowSpares (s : State) (loc : Nat) : Nat :=
  (s.rep.entries.filter (fun x => decide (x.kind = 7) && decide (x.loc = loc) && decide (x.state < deFailed))).length

/-- A row of memory is worn out (R487, Table 16.6): an entry of CAUSE 5 is queued, PPR (KIND 6) for a stack, SRAM_ROW (KIND 7) with the array's next
spare row for an SRAM; with all 8 spare rows of the array used it is written FAILED with SPARES_OUT (R493). -/
def State.rowWorn (s : State) (kind pa loc row : Nat) : State :=
  let e : DEntry := { kind := kind, cause := 5, state := deQueued, loc := loc, target := row, spare := 0, minute := 0, day := 0, pa := pa }
  if kind = 6 then s.queueEntry e
  else
    let used := s.rowSpares loc
    if used < 8 then s.queueEntry { e with spare := used }
    else if s.rep.entries.any (fun x => x.same e) then s
    else s.retire { e with state := deFailed }

/-- A corrected error of a row is counted in its memory's table, of 64 rows for a stack and 16 for an SRAM (Table 16.4); a row that finds the table
full is not counted. Memory 0 to 12 are the units of R168, 13 is the Reorder Buffer. -/
def State.countRow (s : State) (u pa loc row : Nat) : State :=
  let key := u * 2 ^ 32 + row % 2 ^ 16 + loc % 2 ^ 16 * 2 ^ 16
  let n := tabGet (fun _ => 0) s.rep.rowCe key + 1
  let rows := (s.rep.rowCe.filter (fun e => decide (e.1 / 2 ^ 32 = u))).length
  if n = 1 ∧ (if u < 8 then 64 else 16) ≤ rows then s
  else
    let s := s.setRep { s.rep with rowCe := tabSet (fun _ => 0) s.rep.rowCe key n }
    if s.rowLimit ≤ n then s.rowWorn (if u < 8 then 6 else 7) pa loc row else s

/-- The array of the Reorder Buffer that holds row `row` of a slot, as LOC, and the row in it: 1,024 rows of 256 bytes in each of 32 arrays, slot
after slot (PRESUMED: assumption 31). -/
def slotRow (slot row : Nat) : Nat × Nat := (0x5000 + (64 * slot + row) / 1024, (64 * slot + row) % 1024)

/-- A slot whose row was replaced returns to service (Table 16.5). -/
def State.unfenceRow (s : State) (loc row : Nat) : State :=
  let slot := ((loc - 0x5000) * 1024 + row) / 64
  s.setCmb { s.cmb with fenced := tabSet (fun _ => false) s.cmb.fenced slot false }

/-- UNIT of a memory entry's record: the stack, scratchpad or, for the Reorder Buffer, the Combine Unit (R471). -/
def rowUnit (e : DEntry) : Nat :=
  if e.kind = 6 then 0x100 + 2 * (e.loc / 2 ^ 14) + e.loc % 2
  else if e.loc / 4096 = 0 then 0x10C else if e.loc / 4096 = 5 then 33 else 0x108 + (e.loc / 4096 - 1)

/-- A row entry that was carried out: APPLIED, and what it reports (R488, R492). -/
def State.rowApplied (s : State) (i : Nat) (e : DEntry) : State :=
  let s := (s.moveEntry i deApplied).remapDone i e (rowUnit e)
  if e.kind = 7 ∧ e.loc / 4096 = 5 then s.unfenceRow e.loc e.target else s

/-- A row that its bring-up test finds failed and that has no entry is remapped at once with CAUSE 1 (R486, R498), or retired when its array has no
spare row left (R493). -/
def State.rowFailed (s : State) (loc row pa : Nat) : State :=
  let e : DEntry := { kind := 7, cause := 1, state := deApplied, loc := loc, target := row, spare := s.rowSpares loc, minute := 0, day := 0, pa := pa }
  if s.rep.entries.any (fun x => x.same e && decide (x.state = deApplied)) then s
  else if e.spare < 8 then s.noteApplied e (rowUnit e)
  else s.retire { e with state := deFailed }

/-- QUEUED row entries that `mine` picks are carried out at a bring-up (R486, R488). -/
def State.queuedRows (s : State) (mine : DEntry → Bool) : State :=
  (List.range s.rep.entries.length).foldl (fun s i => match s.dent i with
    | some e => if decide (e.state = deQueued) && (decide (e.kind = 6) || decide (e.kind = 7)) && mine e then s.rowApplied i e else s
    | none => s) s

/-- An entry of KIND 1 to 3. -/
def unitEntry (kind cause loc target spare : Nat) : DEntry :=
  { kind := kind, cause := cause, state := deApplied, loc := loc, target := target, spare := spare, minute := 0, day := 0, pa := 0 }

/-! ### Engines (R274, R483, R488, R491) -/

/-- The state with the unit maps changed. -/
def State.setMaps (s : State) (m : UnitMaps) : State := { s with maps := m }

/-- Engine position default: physical engine p in position p. -/
def engDefault : Nat → Nat := fun i => i % 4

/-- The engine map becomes `m`: when it differs, ENG_MAP_EPOCH is incremented, the map before is held for one Hour, and
ENG_EVT.MAP_CHG is set (R274, R491); during the boot of a cold start the epoch stays 0 (Table 9.5). -/
def State.setEngineMap (s : State) (m : Tab Nat) : State :=
  if m = s.maps.engines then s
  else if s.boot.done then
    let old := s.maps.engines
    let e := (s.reg 0xA0004).toNat
    let s := s.setMaps { s.maps with engines := m, prevEpoch := e, prevUntil := some (s.absMin + 60), prevEngines := old }
    (s.setReg 0xA0004 (BitVec.ofNat 32 (e + 1))).flagOpen 0xA0008 2 11 noCtx
  else s.setMaps { s.maps with engines := m }

/-- A physical engine, control core or slice is marked unhealthy or used up. -/
def State.markEngine (s : State) (i : Nat) : State := s.setMaps { s.maps with engBad := tabSet (fun _ => false) s.maps.engBad i true }

/-- See `markEngine`. -/
def State.markCore (s : State) (i : Nat) : State := s.setMaps { s.maps with coreBad := tabSet (fun _ => false) s.maps.coreBad i true }

/-- See `markEngine`. -/
def State.markSlice (s : State) (i : Nat) : State := s.setMaps { s.maps with sliceBad := tabSet (fun _ => false) s.maps.sliceBad i true }

/-- The data path of engine position `k` failed, or a reconcile to failed asks for its spare (R282, R465, R488, R493): the spare takes
the position and the view returns to healthy, or the position is retired. -/
def State.substEngine (s : State) (k cause : Nat) : State :=
  let s := s.markEngine (5 * (k / 4) + s.engineAt k)
  match s.spareEngine (k / 4) with
  | some e =>
    let s := s.setEngineMap (tabSet engDefault s.maps.engines k e)
    ((s.setDp (8 + k) false).noteApplied (unitEntry 1 cause (k / 4) (k % 4) e) (8 + k)).due k
  | none => s.retireUnit cause (8 + k)

/-- A QUEUED entry whose spare cannot serve is FAILED (R493); a spare that has just failed its self-test is reported (R499). -/
def State.spareLost (s : State) (i : Nat) (tested : Bool) : State :=
  let s := s.moveEntry i deFailed
  if tested then s.repairFlag 2 i 0 else s

/-- The map of BANK_n is built again (R486, Table 9.5): APPLIED entries in order, then (with `queued`) QUEUED ones whose spare is healthy
and free, then positions whose physical engine failed the self-test take the spare, or start failed (R282). An engine that was replaced is not used
again until the next cold start (R483). -/
def State.deriveEngines (s : State) (n : Nat) (bad : List Nat) (queued : Bool) : State :=
  let s := bad.foldl (fun s e => if e < 5 then s.markEngine (5 * n + e) else s) s
  let fresh := !s.boot.done && !s.boot.midnightExit
  let healthy := fun (s : State) (e : Nat) => !tabGet (fun _ => false) s.maps.engBad (5 * n + e)
  let base := (List.range 4).foldl (fun t p => tabSet engDefault t (4 * n + p) p) s.maps.engines
  let m := s.rep.entries.foldl (fun t e =>
    if e.kind = 1 ∧ e.loc = n ∧ e.state = deApplied then tabSet engDefault t (4 * n + e.target % 4) e.spare else t) base
  let used := fun (t : Tab Nat) (e : Nat) => (List.range 4).any (fun p => decide (tabGet engDefault t (4 * n + p) = e))
  let step := fun (a : State × Tab Nat) (i : Nat) => match a.1.dent i with
    | some x =>
      if queued && decide (x.kind = 1) && decide (x.loc = n) && decide (x.state = deQueued) then
        if healthy a.1 x.spare && !used a.2 x.spare && decide (x.spare < 5) then
          let old := tabGet engDefault a.2 (4 * n + x.target % 4)
          let s := if fresh then a.1 else a.1.markEngine (5 * n + old)
          ((s.moveEntry i deApplied).remapDone i x (8 + 4 * n + x.target % 4), tabSet engDefault a.2 (4 * n + x.target % 4) x.spare)
        else (a.1.spareLost i (bad.contains x.spare), a.2)
      else a
    | none => a
  let (s, m) := (List.range s.rep.entries.length).foldl step (s, m)
  let fix := fun (a : State × Tab Nat × List Nat) (p : Nat) =>
    if healthy a.1 (tabGet engDefault a.2.1 (4 * n + p)) then a
    else match (List.range 5).find? (fun e => healthy a.1 e && !used a.2.1 e) with
      | some e => (a.1.noteApplied (unitEntry 1 1 n p e) (8 + 4 * n + p), tabSet engDefault a.2.1 (4 * n + p) e, a.2.2)
      | none => (a.1.retireUnit 1 (8 + 4 * n + p), a.2.1, p :: a.2.2)
  let (s, m, failed) := (List.range 4).foldl fix (s, m, [])
  let s := s.setEngineMap m
  let news := (List.range 4).any (fun p => failed.contains p && !s.dpFailed (8 + 4 * n + p))
  let s := (List.range 4).foldl (fun s p => s.setDp (8 + 4 * n + p) (failed.contains p)) s
  if news then s.flagOpen 0xA0008 1 11 noCtx else s

/-- Step 7 of Table 3.6 and a bank reset: the engine map and the views of BANK_n's engines and Special Function Unit. -/
def State.selfTest (s : State) (n : Nat) (badEngines : List Nat) (badSfu queued : Bool) : State :=
  let s := s.deriveEngines n badEngines queued
  if badSfu && !s.dpFailed (24 + n) then (s.setDp (24 + n) true).flagOpen 0xB0008 1 12 noCtx else s.setDp (24 + n) badSfu

/-! ### Control cores and reduction slices (R162, R413, R488) -/

/-- A control core position fails (R162, R447): the spare takes it, or the failure is package-class. -/
def State.substCore (s : State) (k cause : Nat) : State :=
  let s := s.markCore (s.coreAt k)
  match s.spareCore with
  | some e =>
    let s := s.setMaps { s.maps with cores := tabSet (fun i => i) s.maps.cores k e }
    (s.setDp (28 + k) false).noteApplied (unitEntry 2 cause 0 k e) (28 + k)
  | none => (s.retireUnit cause (28 + k)).packageFault 1 0x23 (28 + k) k false

/-- A reduction slice position fails (R413): a spare takes it, or the position holds no slice. -/
def State.substSlice (s : State) (k cause : Nat) : State :=
  let s := s.markSlice (s.sliceAt k)
  match s.spareSlice with
  | some e =>
    let s := s.setMaps { s.maps with slices := tabSet (fun i => i) s.maps.slices k e }
    (s.setDp (44 + k) false).noteApplied (unitEntry 3 cause 0 k e) (44 + k)
  | none => (s.setMaps { s.maps with slices := tabSet (fun i => i) s.maps.slices k 15 }).retireUnit cause (44 + k)

/-- CORE, SLICE and hub SRAM_ROW entries are applied before stage 2 (R486), and elements that their test finds failed take a spare with
an entry of CAUSE 1; QUEUED entries are carried out (R488), and what they replace is not used again until the next cold start (R483). -/
def State.deriveHub (s : State) (badCores badSlices : List Nat) : State :=
  let s := badCores.foldl (fun s e => if e < 5 then s.markCore e else s) s
  let s := badSlices.foldl (fun s e => if e < 10 then s.markSlice e else s) s
  let cores := s.rep.entries.foldl (fun t e =>
    if e.kind = 2 ∧ e.state = deApplied then tabSet (fun i => i) t (e.target % 4) e.spare else t) []
  let slices := s.rep.entries.foldl (fun t e =>
    if e.kind = 3 ∧ e.state = deApplied then tabSet (fun i => i) t (e.target % 8) e.spare else t) []
  let s := s.setMaps { s.maps with cores := cores, slices := slices }
  let fresh := !s.boot.done && !s.boot.midnightExit
  let step := fun (s : State) (i : Nat) => match s.dent i with
    | some x =>
      if x.state ≠ deQueued then s
      else if x.kind = 2 then
        if s.spareCore = some x.spare then
          let s := if fresh then s else s.markCore (s.coreAt (x.target % 4))
          let s := s.setMaps { s.maps with cores := tabSet (fun i => i) s.maps.cores (x.target % 4) x.spare }
          ((s.setDp (28 + x.target % 4) false).moveEntry i deApplied).remapDone i x (28 + x.target)
        else s.spareLost i (badCores.contains x.spare)
      else if x.kind = 3 then
        if !tabGet (fun _ => false) s.maps.sliceBad x.spare && (List.range 8).all (fun p => decide (s.sliceAt p ≠ x.spare)) then
          let s := if fresh then s else s.markSlice (s.sliceAt (x.target % 8))
          let s := s.setMaps { s.maps with slices := tabSet (fun i => i) s.maps.slices (x.target % 8) x.spare }
          ((s.setDp (44 + x.target % 8) false).moveEntry i deApplied).remapDone i x (44 + x.target)
        else s.spareLost i (badSlices.contains x.spare)
      else if x.kind = 7 ∧ (x.loc / 4096 = 0 ∨ x.loc / 4096 = 5) then s.rowApplied i x
      else s
    | none => s
  let s := (List.range s.rep.entries.length).foldl step s
  let s := (List.range 4).foldl (fun s k =>
    if tabGet (fun _ => false) s.maps.coreBad (s.coreAt k) then
      match s.spareCore with
      | some e => (s.setMaps { s.maps with cores := tabSet (fun i => i) s.maps.cores k e }).noteApplied (unitEntry 2 1 0 k e) (28 + k)
      | none => (s.setDp (28 + k) true).retireUnit 1 (28 + k)
    else s) s
  (List.range 8).foldl (fun s k =>
    if s.sliceAt k = 15 then s
    else if tabGet (fun _ => false) s.maps.sliceBad (s.sliceAt k) then (s.setDp (44 + k) true).substSlice k 1 else s) s

/-! ### Bridge wires (R64, R84, R486) -/

/-- LOC of a bridge wire entry. -/
def wireLoc (n dir : Nat) : Nat := 16 * dir + n

/-- The wires of one direction of bridge n that the map says to replace, as (group, wire), with the wanted state. -/
def State.mapWires (s : State) (n dir st : Nat) : List (Nat × Nat) :=
  (s.rep.entries.filter (fun e => decide (e.kind = 4) && decide (e.loc = wireLoc n dir) && decide (e.state = st))).map
    (fun e => (e.target / 33, e.target % 33))

/-- A wire that took its group's spare gets an APPLIED entry unless the map holds it already. -/
def State.noteWire (s : State) (n dir g w cause : Nat) : State :=
  let e : DEntry := { unitEntry 4 cause (wireLoc n dir) (33 * g + w) g with state := deApplied }
  if s.rep.entries.any (fun x => x.same e && decide (x.state = deApplied)) then s else s.noteApplied e (4 + n)

/-- Wires of one direction whose eye is narrower than WIRE_MARGIN percent queue an entry (Table 16.4). -/
def State.wireMargins (s : State) (n dir : Nat) (eyes : List (Nat × Nat × Nat)) : State :=
  eyes.foldl (fun s x => if x.2.2 < s.fld 0x418 16 8 then
      s.queueEntry (unitEntry 4 3 (wireLoc n dir) (33 * x.1 + x.2.1) x.1)
    else s) s

/-- Lane `k` of port `p` queues an entry (Table 16.4). -/
def State.queueLane (s : State) (p k : Nat) : State := s.queueEntry (unitEntry 5 3 p k 8)

/-- Lanes of port `p` whose margin is below LANE_MARGIN percent of nominal queue an entry (Table 16.4). -/
def State.laneMargins (s : State) (p : Nat) (margins : List Nat) : State :=
  (margins.zipIdx.filter (fun x => decide (x.2 < 8))).foldl (fun s x => if x.1 < s.fld 0x418 8 8 then s.queueLane p x.2 else s) s

/-- QUEUED wire entries of one direction are carried out at a training (R488): the group's spare is taken when it is free, and the
entry is FAILED otherwise. -/
def State.queuedWires (s : State) (n dir : Nat) (spares : Tab Nat) : State × Tab Nat :=
  (List.range s.rep.entries.length).foldl (fun a i => match a.1.dent i with
    | some x =>
      if x.kind = 4 ∧ x.loc = wireLoc n dir ∧ x.state = deQueued then
        let g := x.target / 33
        if tabGet (fun _ => 0) a.2 g = 0 then
          ((a.1.moveEntry i deApplied).remapDone i x (4 + n), tabSet (fun _ => 0) a.2 g (x.target % 33 + 1))
        else (a.1.moveEntry i deFailed, a.2)
      else a
    | none => a) (s, spares)

/-! ### What boot and bank events do here -/

/-- The records of one copy of the flash whose trailers hold, applied in the order they were appended (R484). -/
def loadCopy (bad : List Nat) (recs : List (Nat × DEntry)) : List DEntry :=
  ((recs.zipIdx.filter (fun p => !bad.contains p.2)).map (fun p => p.1)).foldl
    (fun l p => if p.1 < l.length then l.set p.1 p.2 else l ++ [p.2]) []

/-- The defect map is loaded at cold start (R484, R486, R498). The event of a lost map names no entry, and its index is a free value. -/
def State.loadDefects (s : State) (f : FlashLoad) : State :=
  let r := s.rep
  if !f.aOk && !f.bOk then
    let (k, s) := s.takeFree
    (s.setRep { r with entries := [], copyA := [], copyB := [], dirty := [], lost := true }).repairFlag 5 (k % 2 ^ 16) 0
  else
    let src := if f.bOk then r.copyB else r.copyA
    let entries := loadCopy f.bad src
    s.setRep { r with entries := entries, dirty := [], lost := false, degraded := !(f.aOk && f.bOk) }

/-- At cold start the retained package-class records stand in records 0 to 7, and the next new record goes to slot 8 (R479). -/
def State.placeRetained (s : State) : State :=
  match s.flt.retained with
  | [] => s
  | l => { s with flt := { s.flt with
      records := l.zipIdx.map (fun p => (p.2, { p.1 with valid := true, pinned := true, prevBoot := true })), head := 7 } }

/-- A bank die that holds shadowed state of the open bracket was lost or reset (R459 reason 5). -/
def State.bracketBank (s : State) (n : Nat) : State :=
  match s.flt.bracket with
  | some b =>
    if b.ptes.any (fun p => decide (p.bank = n)) then { s with flt := { s.flt with bracket := some { b with bankLost := n :: b.bankLost } } } else s
  | none => s

/-- The aging tables of BANK_n's memories are emptied (Table 16.7). Row keys are unit x 2^32 + row. -/
def State.clearAging (s : State) (n : Nat) : State :=
  s.setRep { s.rep with rowCe := s.rep.rowCe.filter (fun e =>
    decide (e.1 / 2 ^ 32 ≠ 2 * n) && decide (e.1 / 2 ^ 32 ≠ 2 * n + 1) && decide (e.1 / 2 ^ 32 ≠ 8 + n)) }

end Sys2Proof.Machine
end

