-- ==== Sys2Proof/Machine/Sched.lean ====
section
/-! DEFINITION. Machine/Sched.lean: when a descriptor may start, and the scheduler: the readiness of groups, the choice of the next group for a position and ballast on idle
positions (R142 to R156, R428). -/

namespace Sys2Proof.Machine

/-! ### When a descriptor may start (R51, R104, R118, R180, R454, R459) -/

/-- The next descriptor of context `c` to start: the first of its window that has not started (R104). -/
def State.nextDesc (s : State) (c : Nat) : Option Desc := (s.ring c).window.find? (fun d => decide (d.phase = .waiting))

/-- The descriptors of the window before `idx`. -/
def Ring.before (r : Ring) (idx : Nat) : List Desc := r.window.takeWhile (fun d => d.idx != idx)

/-- Whether every earlier descriptor has completed. -/
def Ring.allDone (r : Ring) (idx : Nat) : Bool := (r.before idx).all (fun d => decide (d.phase = .placed))

/-- Whether the fetched part of the bracket that opens at `idx` shows that it holds no ATP_UPDATE: its BR_CLOSE is fetched and none of
its descriptors is one (R180; assumption 24). -/
def Ring.bracketPlain (r : Ring) (idx : Nat) : Bool :=
  let l := r.window.dropWhile (fun d => d.idx != idx)
  let inner := l.takeWhile (fun d => !d.brClose)
  inner.all (fun d => d.kind != kindAtp) && (match l.drop inner.length with
    | d :: _ => d.kind != kindAtp
    | [] => false)

/-- Whether a bracket of context `c` is open. -/
def State.inBracket (s : State) (c : Nat) : Bool := (s.flt.bracket.map (fun b => b.ctx)) == some c

/-- A running descriptor that holds back every later one: a WAIT (R118), a LEASE TAKE that waits (R454), an ATP_UPDATE outside a
bracket (R180), a BR_CLOSE whose commit runs (R459). -/
def State.holdsBack (s : State) (c : Nat) (d : Desc) : Bool :=
  match d.phase with
  | .running => d.kind == kindWait || d.kind == kindLease || d.kind == kindAtp || (d.brClose && s.inBracket c)
  | .ended _ _ _ => d.kind == kindAtp && !d.brOpen && !d.brClose
  | _ => false

/-- Whether an expiry of a lease of Table 15.2 is still to take effect in this Minute: it comes before every use (R451, R476). -/
def State.expiryDue (s : State) : Bool := s.day.due.any (fun d => match d with
  | .leaseExpiry _ => true
  | _ => false)

/-- The start conditions of R104 other than the scheduler's choice; an expiry of the Minute comes first (R476). -/
def State.startReady (s : State) (c : Nat) (d : Desc) : Bool :=
  let r := s.ring c
  !s.expiryDue && decide ((s.ctx c).state = .open_) && (decide (r.state = .active) || decide (r.state = .draining))
    && (r.before d.idx).all (fun x => !s.holdsBack c x)
    && (!(d.fence || d.kind == kindSignal || (d.kind == kindAtp && !s.inBracket c && !d.brOpen) || (d.brOpen && !r.bracketPlain d.idx))
        || r.allDone d.idx)
    && (match d.start with
        | some m => decide (m ≤ s.absMin)
        | none => true)

/-- Whether a TIMED descriptor of the Minute under way may start now: the earlier events of the Minute have taken place, and no descriptor accepted before
it, of another context and ready to start, is due in the same Minute (R51). One that the Ledger excludes holds no other back. -/
def State.timedTurn (s : State) (c : Nat) (d : Desc) : Bool :=
  s.day.due.isEmpty && ctxRange.all (fun k => decide (k = c) || match s.nextDesc k with
    | some x => !(decide (x.start = d.start) && !x.late && decide (x.seq < d.seq) && !x.deferred && s.startReady k x)
    | none => true)

/-- Whether descriptor `d` may start but for the scheduler's choice (R51, R104). A late one fires at once (R52). -/
def State.startable (s : State) (c : Nat) (d : Desc) : Bool :=
  s.startReady c d && (match d.start with
    | some m => d.late || decide (m < s.absMin) || s.timedTurn c d
    | none => true)

/-- The tick at which every start condition of context `c`'s next descriptor but the scheduler's came to hold is kept for WAIT_NS (Table 5.2). -/
def State.noteReady (s : State) (c : Nat) : State :=
  match s.nextDesc c with
  | some d => if d.readyAt.isNone && s.startReady c d then s.setDesc c { d with readyAt := some s.clk } else s
  | none => s

/-! ### Readiness of groups (R142, R271, R325) -/

/-- Whether the input tensor of a job is complete: no earlier descriptor of its context whose output has the same BASE is still
uncompleted (R325). -/
def State.inputComplete (s : State) (j : Job) : Bool :=
  ((s.ring j.ctx).window.takeWhile (fun d => d.idx != j.idx)).all (fun d =>
    d.outBase != some j.input.base || decide (d.phase = .placed))

/-- Whether a group waits on nothing but the scheduler. -/
def State.depsMet (s : State) (j : Job) (g : Group) : Bool :=
  s.inputComplete j && (g.phase != 1 || j.groups.all (fun x =>
    !(x.phase == 0 && x.row == g.row && x.m0 == g.m0) || decide (x.at_ = .ended)))

/-! ### Usable positions (R149, R150, R282, R306) -/

/-- Whether the scheduler may issue to position `p` at all. -/
def State.posOpen (s : State) (p : Nat) : Bool :=
  let b := posBank p
  decide ((s.bank b).phase = .active) && s.admits b && s.admits (4 + b) && s.admits (24 + b) && (decide (16 ≤ p) || s.admits (8 + p))
    && !tabGet (fun _ => false) s.work.sfuTest b

/-- Whether position `p` is free. -/
def State.posFree (s : State) (p : Nat) : Bool := (s.occupant p).isNone && !tabGet (fun _ => false) s.pwr.ballast p

/-- Whether a ready group of context `c` is usable on position `p` (R150). -/
def State.usable (s : State) (c : Nat) (g : Group) (p : Nat) : Bool :=
  (g.phase == 2) == decide (16 ≤ p) &&
    match g.home, g.ready with
    | _, none => false
    | none, _ => true
    | some b, some t =>
      b == posBank p || s.place c == 2 || (s.place c == 1 && decide (t + s.fld 0x300 0 16 * 1000 ≤ s.clk))

/-- Groups that became ready take their ready time, a decision is due for the free positions they are usable on (R160), and a context that had none catches up
with the smallest VT (R145). -/
def State.markReady (s : State) : State :=
  let busy := ctxRange.filter s.hasGroups
  let isNew := fun (j : Job) (g : Group) => decide (g.at_ = .waiting) && g.ready.isNone && s.depsMet j g
  let fresh := ctxRange.filter (fun c => !busy.contains c && s.work.jobs.any (fun j => j.ctx == c && j.groups.any (isNew j)))
  let low := minOr 0 (busy.map s.vt)
  let jobs := s.work.jobs.map (fun j => { j with groups := j.groups.map (fun g => if isNew j g then { g with ready := some s.clk } else g) })
  let news := s.work.jobs.flatMap (fun j => (j.groups.filter (isNew j)).map (fun g => (j.ctx, { g with ready := some s.clk })))
  let s' := s.setWork { s.work with jobs := jobs }
  let open_ := positionOrder.filter (fun p => s'.posFree p && news.any (fun x => s'.usable x.1 x.2 p))
  let s' := open_.foldl State.due s'
  if busy.isEmpty then s' else fresh.foldl (fun s c => s.setVt c (max (s.vt c) low)) s'

/-- The groups in the split store of control core position `k`, unissued (Table 9.4). -/
def State.storeUsed (s : State) (k : Nat) : Nat :=
  ((s.work.jobs.filter (fun j => j.ctx % 4 == k)).map (fun j => (j.groups.filter (fun g => decide (g.at_ = .waiting))).length)).foldl (· + ·) 0

/-- Groups that were split enter the split store while it has room (R273). -/
def State.fillStore (s : State) (k : Nat) : State :=
  s.work.jobs.foldl (fun s j =>
    if j.ctx % 4 ≠ k then s
    else
      let room := 4096 - s.storeUsed k
      let step := fun (a : List Group × Nat) (g : Group) =>
        if g.at_ = .held ∧ 0 < a.2 then (a.1 ++ [{ g with at_ := .waiting }], a.2 - 1) else (a.1 ++ [g], a.2)
      s.setJob { j with groups := (j.groups.foldl step ([], room)).1 }) s

/-! ### Candidates -/

/-- The oldest ready group of context `c` usable on position `p`: its job's descriptor index and its number. -/
def State.oldestReady (s : State) (c p : Nat) : Option (Nat × Nat × Group) :=
  let cands := (s.work.jobs.filter (fun j => j.ctx == c)).flatMap (fun j =>
    (j.groups.zipIdx.filter (fun x => decide (x.1.at_ = .waiting) && s.usable c x.1 p)).map (fun x => (j.idx, x.2, x.1)))
  cands.foldl (fun best x => match best with
    | none => some x
    | some y => if x.2.2.ready.getD 0 < y.2.2.ready.getD 0 then some x else some y) none

/-- Engine positions context `c` holds. -/
def State.engHeld (s : State) (c : Nat) : Nat :=
  ((List.range 16).filter (fun p => (s.occupant p).map (fun o => o.ctx) == some c)).length

/-- The epoch a group is issued under (R274): its row's own while that map is held and its position has the same engine under both. -/
def State.issueEpoch (s : State) (rowEpoch p : Nat) : Nat :=
  let cur := (s.reg 0xA0004).toNat
  if rowEpoch ≠ cur ∧ s.maps.prevUntil.isSome ∧ s.maps.prevEpoch = rowEpoch ∧ p < 16 ∧ tabGet engDefault s.maps.prevEngines p = s.engineAt p
  then rowEpoch else cur

/-- A deferral is counted once per group (Table 5.2, LDG_CNT_2). -/
def State.noteDeferral (s : State) (c idx gi : Nat) (g : Group) : State :=
  if g.deferred then s
  else match s.job c idx with
    | some j => ((s.setJob (j.setGroup gi (fun g => { g with deferred := true }))).bump (0x2028 + 0x40 * c) 32 1).bump 0x20188 32 1
    | none => s

/-- Group `gi` is issued to position `p`, and its command leaves on the CMD channel (R144, R153, R272, R273, R423). -/
def State.issue (s : State) (c idx gi : Nat) (g : Group) (p : Nat) : State :=
  match s.job c idx with
  | none => s
  | some j =>
    let sat := s.rbit 0xB0000 0
    let e := s.issueEpoch g.epoch p
    let g := { g with at_ := .issued p, sat := sat, epoch := e, issuedAt := s.clk }
    let waited := s.clk - g.ready.getD s.clk
    let s := s.setJob (j.setGroup gi (fun _ => g))
    let s := s.sendCmd 0 p (s.commandFields j g)
    let s := (s.setOccupant p (some { ctx := c, idx := idx, group := gi })).reserve { kind := 0, a := p, b := 0, est := g.uj }
    let s := s.bump64 (0x201C + 0x40 * c) waited
    let s := match g.home with
      | some b => if b = posBank p then s else s.bump (0x202C + 0x40 * c) 32 1
      | none => s
    s.fillStore (c % 4)

/-! ### Ballast (R428) -/

/-- Whether the charges of the Hour, U and running ballast fall short of the floor so far. -/
def State.belowFloor (s : State) : Bool :=
  let l := s.pwr.ledger
  let running := ((l.reserved.filter (fun r => r.kind == 2)).map (fun r => r.est)).foldl (· + ·) 0
  decide (0 < l.floor) && decide ((l.charged + l.unattr + running) * l.hourLen < l.floor * (s.clk - l.hourStart))

/-- A ballast burst starts on idle engine position `p` when the floor calls for it. -/
def State.tryBallast (s : State) (p : Nat) : State :=
  if decide (p < 16) && s.belowFloor && !s.pwr.ride && decide (s.heatPct = 100) && s.canIssue && s.posOpen p && s.posFree p
      && (s.rbit 0x20000 28 || s.rbit 0x20000 29) then
    ({ s with pwr := { s.pwr with ballast := tabSet (fun _ => false) s.pwr.ballast p true } }).reserve
      { kind := 2, a := p, b := 0, est := s.energy { counts := [160000000], ns := 10000 } }
  else s

/-- Ballast of `uj` uJ counts in LDG_CNT_3, which shows whole mJ (R428). -/
def State.noteBallast (s : State) (uj : Nat) : State :=
  let sum := s.pwr.ledger.ballastUj + uj
  ({ s with pwr := { s.pwr with ledger := { s.pwr.ledger with ballastUj := sum % 1000 } } }).bump 0x2018C 32 (sum / 1000)

/-- Ballast on position `p` stops before its boundary: it is charged for a free part of its estimate (R428, R430). -/
def State.cutBallast (s : State) (p : Nat) : State :=
  let (k, s) := s.takeFree
  let uj := k % (s.energy { counts := [160000000], ns := 10000 } + 1)
  let s := ({ s with pwr := { s.pwr with ballast := tabSet (fun _ => false) s.pwr.ballast p false } }).due p
  (s.settle 2 p 0 uj).noteBallast uj

/-- Ballast runs only in Noon and Afternoon, without ride-through or heat, on positions whose views are healthy (R428). -/
def State.trimBallast (s : State) : State :=
  s.pwr.ballast.foldl (fun s e =>
    if s.pwr.ride || decide (s.heatPct < 100) || !(decide (s.pwr.state = .noon) || decide (s.pwr.state = .afternoon)) || !s.posOpen e.1
    then s.cutBallast e.1 else s) s

/-! ### The decision (R144 to R148, R151) -/

/-- Smallest VT among candidates, ties to the lowest context. -/
def State.leastVt (s : State) (l : List (Nat × Nat × Nat × Group)) : Option (Nat × Nat × Nat × Group) :=
  l.foldl (fun best x => match best with
    | none => some x
    | some y => if s.vt x.1 < s.vt y.1 then some x else some y) none

/-- The scheduler decides for position `p`; `left` is the context whose group just ended there. -/
def State.decideFor (s : State) (left : Option Nat) (p : Nat) : State :=
  if !(s.posFree p && s.posOpen p && s.canIssue) then s
  else
    let ready := ctxRange.filterMap (fun c =>
      if (s.ctx c).state = .open_ ∧ s.engHeld c < s.maxEng c ∧ s.admits (28 + c % 4) then
        (s.oldestReady c p).map (fun x => (c, x.1, x.2.1, x.2.2))
      else none)
    let fits := ready.filter (fun x => s.fitsLedger x.2.2.2.uj)
    let s := (ready.filter (fun x => !s.fitsLedger x.2.2.2.uj)).foldl (fun s x => s.noteDeferral x.1 x.2.1 x.2.2.1 x.2.2.2) s
    let shared := fits.filter (fun x => decide (0 < s.share x.1))
    match s.leastVt (if shared.isEmpty then fits else shared) with
    | none =>
      let s := if ready.isEmpty then s else
        s.setFld 0x304 0 16 (satAdd 0xFFFF (s.fld 0x304 0 16) 1)
      s.tryBallast p
    | some (c, idx, gi, g) =>
      let s := match left with
        | some c' => if c' ≠ c ∧ decide ((s.ctx c').state = CtxState.open_) ∧ (s.oldestReady c' p).isSome then
            s.bump (0x2024 + 0x40 * c') 32 1 else s
        | none => s
      s.issue c idx gi g p

/-- The decisions that are due are made, in order of bank die and position: for positions that fell free, and for free ones on which a group became usable
(R144, R148, R160). `left` names a position and the context whose group ended there. -/
def State.schedule (s : State) (left : Option (Nat × Nat)) : State :=
  let s := s.rebase.trimBallast.markReady
  let due := positionOrder.filter (fun p => s.work.fell.contains p)
  let s := s.setWork { s.work with fell := [] }
  (due.foldl (fun s p => s.decideFor (left.bind (fun l => if l.1 = p then some l.2 else none)) p) s).noteIdle

/-- A decision for every free position: at a Minute strobe, and when issue begins again (R144, R435). -/
def State.scheduleAll (s : State) : State := (positionOrder.foldl State.due s).schedule none

end Sys2Proof.Machine
end

