-- ==== Sys2Proof/Machine/Strobe.lean ====
section
/-! DEFINITION. Machine/Strobe.lean: the Minute strobe and the events due at a Minute (R44, R51, R144). -/

namespace Sys2Proof.Machine

/-- Leases whose expiry the Minute has reached (R454). -/
def State.dueLeases (s : State) : List Due :=
  (leaseResources.filter (fun r => (s.lease r).holder.isSome && decide ((s.lease r).expire ≤ s.absMin))).map Due.leaseExpiry

/-- Receive leases without a message for LEASE_MIN Minutes (R334). -/
def State.dueRecvs (s : State) : List Due :=
  (s.cmb.recvs.filter (fun r => r.offer.isSome && decide (r.last + max 1 (s.fld 0x40000 24 8) ≤ s.absMin))).map (fun r => Due.recvLease r.handle)

/-- Staging leases without progress for LEASE_MIN Minutes (R403). -/
def State.dueColls (s : State) : List Due :=
  (s.col.colls.filter (fun x => decide (0 < x.staged) && decide (x.last + s.colLease ≤ s.absMin))).map (fun x => Due.collLease x.slot x.cseq)

/-- Armed load steps whose Minute has begun (R429). -/
def State.dueSteps (s : State) : List Due :=
  ((List.range 4).filter (fun i => match tabGet (fun _ => none) s.pwr.ledger.steps i with
    | some (m, _) => decide (m ≤ s.absMin)
    | none => false)).map Due.loadStep

/-- The sets the Evening loop adjusts in this Minute (R244), or at the first strobe after adoption stepped past its Minute (R40). -/
def State.dueEvening (s : State) : List Due :=
  let days := max 1 (s.fld 0x30004 0 8)
  if s.rbit 0x30004 31 ∧ (s.day.evePassed ∨ s.day.minute = min 1439 (s.fld 0x30004 16 11) ∧ s.day.day % days = 0) then
    ((List.range 16).filter (fun k => s.rbit (0x30100 + 0x10 * k) 31)).map Due.evening
  else []

/-- TIMED COLLECTIVEs with staging whose START Minute has begun (R389). -/
def State.dueLaunches (s : State) : List Due :=
  (s.col.colls.filter (fun x => decide (x.phase = .reserved) && (match (s.desc x.ctx x.idx).bind (fun d => d.start) with
    | some m => decide (m ≤ s.absMin)
    | none => false))).map (fun x => Due.launch x.slot x.cseq)

/-- Whether the Minute starts a local Hour to account, or is the first after a Midnight exit (R424). -/
def State.dueHour (s : State) : Bool :=
  if s.pwr.ledger.running then decide (s.localMinute % 60 = 0) && decide (s.pwr.ledger.acctMin ≠ s.absMin) else s.boot.ready

/-- The events of a Minute in the order of R51. -/
def State.dueNow (s : State) : List Due :=
  s.dueLeases ++ s.dueRecvs ++ s.dueColls ++ (if s.dueHour then [.hourAccounting] else [])
    ++ s.dueSteps ++ s.dueEvening ++ s.dueLaunches

/-- The CRC failures of a Minute are counted afresh (R84). -/
def Bank.newMinute (b : Bank) : Bank :=
  { b with h2b := { b.h2b with crcMinute := 0 }, b2h := { b.b2h with crcMinute := 0 } }

/-- The CRC failures of an Eriovan port, likewise (R349). -/
def Port.newMinute (q : Port) : Port := { q with crcMinute := 0 }

/-- Whether accounting or load steps of the Minute are still to take place. -/
def State.ledgerDue (s : State) : Bool := s.day.due.any (fun d => match d with
  | .hourAccounting => true
  | .loadStep _ => true
  | _ => false)

/-- The scheduler decides at a strobe after the Ledger's events of the Minute (R51, R144, R160); a TIMED descriptor's Minute may have begun. -/
def State.strobeDecision (s : State) : State :=
  let s := ctxRange.foldl State.noteReady s
  if s.ledgerDue then s.noteIdle else s.scheduleAll

/-- MINUTE_STROBE (R44, R51): the next Minute starts, every block receives the installation and local positions, and the events due
at it stand in the order of R51; to a bank die whose time wires are degraded the strobe goes as a CTL message (R85). After Minute 1439 the Day's boundary comes first. -/
def execMinuteStrobe (s : State) : Result :=
  if s.day.strobed ∧ s.day.minute = 1439 then .next s
  else
    let m := if s.day.strobed then s.day.minute + 1 else s.day.minute
    let s := s.setDay { s.day with minute := m, strobed := true }
    let s := s.reachClk (s.day.minuteStart m).toNat
    let s := (List.range 4).foldl (fun s n => s.setBank n (s.bank n).newMinute) s
    let s := (List.range 8).foldl (fun s p => s.setPort p (s.port p).newMinute) s
    let s := s.send (.strobe s.day.day s.day.minute (s.localMin / 1440) s.localMinute)
    let s := (List.range 4).foldl (fun s n =>
      if (s.bank n).degraded ∧ (s.bank n).phase = .active then s.sendCtl n 1 s.day.day s.day.minute else s) s
    let s := s.setDay { s.day with due := s.day.due ++ s.dueNow.filter (fun e => !s.day.due.contains e), evePassed := false }
    .next s.strobeDecision

end Sys2Proof.Machine
end

