-- ==== Sys2Proof/Machine/Start.lean ====
section
/-! DEFINITION. Machine/Start.lean: how a descriptor starts (R100 to R104, R109, R143, R180, R246, R456, R458) and how its work ends; when it may start
stands in Machine/Sched.lean. -/

namespace Sys2Proof.Machine

/-- The epoch a completion shows: the descriptor's own. -/
def State.finish (s : State) (c : Nat) (d : Desc) (code detail : Nat) : State := s.endDesc c d.idx code detail d.epoch

/-- A descriptor's work ended OK: OK_LATE when its START Minute had begun before it was accepted (R52). -/
def State.finishOk (s : State) (c : Nat) (d : Desc) (detail : Nat) : State := s.finish c d (if d.late then 1 else 0) detail

/-- A descriptor of a bracket fails with a code below 0x40: the bracket rolls back, the descriptor completes ROLLED_BACK and later ones up
to BR_CLOSE are CANCELLED (R109, R460, R461). -/
def State.bracketFail (s : State) (c : Nat) (d : Desc) (reason code detail : Nat) : State :=
  let det := rollbackDetail reason code detail
  let s := (s.rollback det).finish c d 0x32 det
  s.setRing c { s.ring c with br := if d.brClose then .none else .cancel }

/-- A descriptor completes with a code of 0x10 to 0x3F: inside a bracket the bracket rolls back (R460). -/
def State.finishFail (s : State) (c : Nat) (d : Desc) (code detail : Nat) : State :=
  if s.inBracket c then s.bracketFail c d 1 code detail else s.finish c d code detail

/-- A descriptor is abandoned by every unit that works on it, and ends with a code below 0x40 (R335, R357, R361). -/
def State.abortDesc (s : State) (c idx code detail : Nat) : State :=
  let s := s.endJobs (fun k => k == (c, idx))
  let s : State := match s.cmb.run with
    | some r => if r.ctx = c ∧ r.idx = idx then (r.slots.foldl (fun s x => s.moveSlot x.slot) s).setCmb { s.cmb with run := none } else s
    | none => s
  let s := s.dropSend c idx
  let s := (s.cmb.recvs.filter (fun r => decide (r.ctx = c) && decide (r.idx = idx))).foldl (fun s r => s.dropRecv r) s
  let s := (s.col.colls.filter (fun x => decide (x.ctx = c) && decide (x.idx = idx))).foldl (fun s x => s.dropColl x.slot x.cseq) s
  let s := (s.col.dawns.filter (fun d => decide (d.ctx = c) && decide (d.idx = idx))).foldl (fun s d => s.dropDawn d.slot d.dseq) s
  let s := s.setLnk { s.lnk with reqs := s.lnk.reqs.filter (fun r => !(decide (r.ctx = c) && decide (r.idx = idx))),
                                 got := s.lnk.got.filter (fun g => !(decide (g.ctx = c) && decide (g.idx = idx))) }
  let s := s.failPiped c idx code detail
  (s.endDesc c idx code detail (((s.desc c idx).map Desc.epoch).getD 0)).schedule none

/-- A descriptor's access fails: a context-class fault (R126, R195, R196), or the end of the descriptor alone when a peer it names is lost (R27,
R365). -/
def State.faultDesc (s : State) (c idx : Nat) (f : XFault) : State :=
  if f.reason = 99 then s.lacks f
  else if f.code < 0x40 then s.abortDesc c idx f.code f.detail
  else (s.noteXFault c f).contextFault c f.code f.detail (some idx) false (if f.reason = 0 then f.detail % 0x10000 + 0x100 else 0x202)

/-- The work of a descriptor that no engine runs is charged as each part of it ends (R423), and its ENERGY grows (R422). -/
def State.chargeDesc (s : State) (c idx uj : Nat) : State :=
  let s := s.settleDesc c idx uj
  match s.desc c idx with
  | some d => s.setDesc c { d with energy := d.energy + uj }
  | none => s

/-- What a descriptor meets when it starts: nothing of its kind in front, a wait for its start conditions or the Ledger, an outcome that
keeps it from acting, or the descriptor with the state in which it acts. -/
inductive Started where
  | no (s : State)
  | go (d : Desc) (s : State)

/-- The sequence lock is taken and the bracket opens (R456). -/
def State.openBracket (s : State) (c : Nat) : State :=
  let s := s.grantLease resLock c (s.ctx c).gen (max 1 (s.fld 0xE0000 16 16))
  let b : Bracket := { ctx := c, gen := (s.ctx c).gen, count := 0, sets := [], ptes := [], forms := [], renews := [], bankLost := [],
                       closeIdx := none, committing := false }
  { s with flt := { s.flt with bracket := some b } }

/-- One more descriptor stands in the open bracket. -/
def State.countBracket (s : State) : State :=
  match s.flt.bracket with
  | some b => { s with flt := { s.flt with bracket := some { b with count := b.count + 1 } } }
  | none => s

/-- A wait for the Ledger is counted once (Table 5.2 DEFER). -/
def State.deferDesc (s : State) (c : Nat) (d : Desc) : State :=
  if d.deferred then s
  else ((s.setDesc c { d with deferred := true, readyAt := some (d.readyAt.getD s.clk) }).bump (0x2028 + 0x40 * c) 32 1).bump 0x20188 32 1

/-- The next descriptor of context `c` starts when `mine` says it is of the row's kind and R104, R143 and the kind's own queue (`room`)
let it: a malformed one completes 0x10 (R100), one in a refused bracket CANCELLED or ROLLED_BACK (R109, R460), a BR_OPEN that finds the
lock held LOCK_BUSY (R456). `checks` are the kind's own conditions for a malformed body and `est` the estimate the Ledger admits and reserves (R423). -/
def State.begin (s : State) (c : Nat) (mine : Desc → Bool) (room : Desc → Bool) (est : Desc → Nat)
    (checks : Desc → List (Bool × Nat)) : Started :=
  let s := s.noteReady c
  match s.nextDesc c with
  | none => .no s
  | some d =>
    if !mine d || !s.startable c d then .no s
    else
      let r := s.ring c
      match r.br with
      | .cancel =>
        let s := s.setRing c { r with br := if d.brClose then .none else .cancel }
        .no (s.finish c d 0x33 0)
      | .report det =>
        let s := s.setRing c { r with br := if d.brClose then .none else .cancel }
        .no (s.finish c d 0x32 det)
      | .none =>
        match malformedAt (headerChecks d.words ++ bracketChecks (s.inBracket c) d.words ++ checks d) with
        | some off => .no (s.finishFail c d 0x10 off)
        | none =>
          if !s.canIssue || !room d then .no s
          else if !s.fitsLedger (est d) then .no (s.deferDesc c d)
          else
            let s := s.bump64 (0x201C + 0x40 * c) (s.clk - d.readyAt.getD s.clk)
            let d := { d with phase := .running, startMin := s.absMin }
            let s := (s.setDesc c d).noteReady c
            let s := if est d = 0 then s else s.reserve { kind := 1, a := c, b := d.idx, est := est d }
            if d.brOpen then
              match (s.lease resLock).holder with
              | some (h, _) =>
                let s := s.setRing c { s.ring c with br := if d.brClose then .none else .cancel }
                .no (s.finish c d 0x31 h)
              | none => .go d (s.openBracket c).countBracket
            else if s.inBracket c then
              if 64 ≤ (s.flt.bracket.map (fun b => b.count)).getD 0 then .no (s.bracketFail c d 7 0 0)
              else .go d s.countBracket
            else .go d s

/-- A start of context `c`'s next descriptor, which may read remote windows. -/
def State.starting (s : State) (c : Nat) (f : State → Result) : Result :=
  match s.nextDesc c with
  | some d => s.remotely c d.idx 99 f
  | none => f s

/-- After a descriptor of a bracket was applied to the shadow: it completes OK, or, as BR_CLOSE, the commit begins (R101, R459). -/
def State.applied (s : State) (c : Nat) (d : Desc) (detail : Nat) : State :=
  if d.brClose then
    match s.flt.bracket with
    | some b =>
      let s := s.setDesc c { d with cursor := detail }
      { s with flt := { s.flt with bracket := some { b with closeIdx := some d.idx, committing := true } } }
    | none => s.finishOk c d detail
  else s.finishOk c d detail

end Sys2Proof.Machine
end

