-- ==== Sys2Proof/Machine/Engines.lean ====
section
/-! DEFINITION. Machine/Engines.lean: expert tables, the GROUPED_OP and SFU_PASS descriptors, the life of a group on an engine or Special
Function Unit position, and what their failures do (chapters 9 and 10, R162, R163). -/

namespace Sys2Proof.Machine

/-! ### Reading structures when a descriptor starts -/

/-- Why a descriptor does not start its work: malformed at an offset, a fault of an access, or another completion. -/
inductive Stop where
  | bad (detail : Nat)
  | fault (f : XFault)
  | code (code detail : Nat)
  deriving DecidableEq, Repr

/-- A check that makes the descriptor malformed. -/
def need (ok : Bool) (detail : Nat) : Except Stop Unit := if ok then .ok () else .error (.bad detail)

/-- A read of memory as part of a start. -/
def State.get (s : State) (c va n : Nat) : Except Stop (List Byte) :=
  match s.vread 0 c va n with
  | .ok bs => .ok bs
  | .error f => .error (.fault f)

/-- The 64-bit words of a structure. -/
def State.getWords (s : State) (c va n : Nat) : Except Stop (List Nat) := (s.get c va (8 * n)).map (bytesWords n)

/-- A tensor descriptor whose malformedness is reported at `detail`. -/
def State.getTensor (s : State) (c va detail : Nat) : Except Stop Tensor :=
  match s.readTensor c va with
  | .ok t => .ok t
  | .error .malformed => .error (.bad detail)
  | .error (.fault f) => .error (.fault f)

/-- Whether a pair of formats is accepted (R260). -/
def pairOk (a b : Nat) : Bool :=
  let plain := fun (f : Nat) => decide (1 ≤ f) && decide (f ≤ 6)
  plain a && plain b && (fmtInteger a == fmtInteger b || (fmtInteger a && b == fmtBf16) || (fmtInteger b && a == fmtBf16))

/-- Word `i` of a structure. -/
def wordAt (ws : List Nat) (i : Nat) : Nat := ws.getD i 0

/-- Whether a word has no bit outside `used`. -/
def onlyBits (w used : Nat) : Bool := (rsvByte w used).isNone

/-- The entry at `va`, valid for an input of format `fa` and width `d`, or malformed at 16 (R263, R264, R275). -/
def State.getExpert (s : State) (c va fa d : Nat) : Except Stop Expert := do
  need (va % 64 == 0) 16
  let ws ← s.getWords c va 8
  let w4 := wordAt ws 4
  need (onlyBits w4 0xFFFFFFFFFF00FF01 && onlyBits (wordAt ws 5) 0xFFFFFFFF && wordAt ws 6 == 0 && wordAt ws 7 == 0) 16
  let wIn ← s.getTensor c (wordAt ws 0) 16
  let wOut ← if wordAt ws 1 = 0 then pure none else (s.getTensor c (wordAt ws 1) 16).map some
  let e : Expert :=
    { addr := va, wIn := wIn, wOut := wOut, bIn := wordAt ws 2, bOut := wordAt ws 3, sliceIn := bitsOf w4 48 16,
      sliceOut := bitsOf w4 32 16, inter := bitsOf w4 24 8, act := bitsOf w4 8 8, gated := bitAt w4 0, scale := wordAt ws 5 }
  let ranked := fun (t : Tensor) (sl : Nat) => (t.rank == 2 && sl == 0) || (t.rank == 3 && decide (sl < s.extentInner t 2))
  need (ranked wIn e.sliceIn) 16
  need (s.kIn e == d && (!e.gated || s.rIn e % 2 == 0)) 16
  need (decide (s.kIn e ≤ 65536) && decide (s.fWidth e ≤ 65536) && decide (s.ow e ≤ 65536)) 16
  match wOut with
  | some t =>
    need (ranked t e.sliceOut && s.extentInner t 0 == s.fWidth e) 16
    need (decide (4 ≤ e.inter) && decide (e.inter ≤ 6) && pairOk e.inter t.format) 16
  | none => need (e.inter == 0 && e.sliceOut == 0) 16
  need (pairOk fa wIn.format && f32Fin e.scale && decide (e.act ≤ 0x0A)) 16
  need (e.bIn % 4 == 0 && e.bOut % 4 == 0) 16
  return e

/-- The first byte of a weight lies on a bank die that reads FAILED: the access faults when the descriptor starts (R75, R159). -/
def State.checkHome (s : State) (c va : Nat) : Except Stop Unit :=
  match s.xlate 0 c va .read with
  | .ok _ => .ok ()
  | .error f => if f.reason = 9 then .error (.fault f) else .ok ()

/-- The row pitch of the intermediate region (R266): the largest F of the entries of the table's rows, at the widest intermediate format
(assumption 25). -/
def State.irowOf (s : State) (es : List Expert) : Nat :=
  let two := es.filter (fun e => e.wOut.isSome)
  let f := (es.map s.fWidth).foldl max 0
  let ib := (two.map (fun e => fmtBits e.inter / 8)).foldl max 0
  64 * ceilDiv (f * ib) 64

/-- A static malformed condition and a check that read memory: the lower DETAIL stands (R100). -/
def withStatic {α : Type} (st : Option Nat) (dyn : Except Stop α) : Except Stop α :=
  match st, dyn with
  | none, r => r
  | some d, .error (.bad e) => .error (.bad (min d e))
  | some d, _ => .error (.bad d)

/-- A descriptor that stops at its start. -/
def State.stopDesc (s : State) (c : Nat) (d : Desc) : Stop → State
  | .bad off => s.finishFail c d 0x10 off
  | .fault f => s.faultDesc c d.idx f
  | .code k det => if k < 0x40 then s.finishFail c d k det else s.contextFault c k det (some d.idx) false 0xFFFF

/-- No checks of the body beyond the header's. -/
def noRoom : Desc → Bool := fun _ => true

/-- Nothing estimated: the item's groups are admitted one by one. -/
def noEst : Desc → Nat := fun _ => 0

/-! ### GROUPED_OP (R268, R269) -/

/-- A grouped-operation table as a GROUPED_OP reads it, with its IN: the rows' experts and tokens. -/
structure GroupedTable where
  assign : Nat
  expOut : Nat
  rows : List TabRow
  experts : List Expert
  tokens : List Nat
  input : Tensor

/-- The header of a table, its rows' fields and its sorted list. -/
structure TableHead where
  n : Nat
  d : Nat
  assign : Nat
  expOut : Nat
  fields : List (Nat × Nat × Nat × Nat)
  sorted : List Nat

/-- One row of the host's table (R268, R269): its expert, M, START, after the checks that need no entry. -/
def rowFields (ws : List Nat) : Option (Nat × Nat × Nat × Nat) :=
  let w0 := wordAt ws 0
  if onlyBits w0 0x0000FFFFFFFF00FF ∧ wordAt ws 2 = 0 ∧ wordAt ws 3 = 0 then
    some (bitsOf w0 0 8, bitsOf w0 16 16, bitsOf w0 32 16, wordAt ws 1)
  else none

/-- The rows obey R269: ascending experts below EXPERTS, contiguous STARTs, M at least 1, the sum of M equal to ASSIGN. -/
def rowsOk (experts assign : Nat) (rows : List (Nat × Nat × Nat × Nat)) : Bool :=
  let ok := rows.foldl (fun (a : Bool × Option Nat × Nat) r =>
    let (good, last, start) := a
    (good && decide (r.1 < experts) && (match last with
      | some e => decide (e < r.1)
      | none => true) && decide (0 < r.2.1) && decide (r.2.2.1 = start), some r.1, start + r.2.1)) (true, none, 0)
  ok.1 && decide (ok.2.2 = assign)

/-- Why a start stops when several parts were checked: the lowest malformed offset, else the first fault (R100). -/
def firstStop (l : List (Except Stop Unit)) : Option Stop :=
  let bads := l.filterMap (fun r => match r with
    | .error (.bad d) => some d
    | _ => none)
  match bads with
  | d :: ds => some (.bad (ds.foldl min d))
  | [] => (l.filterMap (fun r => match r with
    | .error e => some e
    | .ok _ => none)).head?

/-- The header, the rows and the sorted list of a GROUPED_OP's table (R268, R269). -/
def State.getTable (s : State) (c tva : Nat) : Except Stop TableHead := do
  need (tva % 64 == 0) 16
  let h ← s.getWords c tva 8
  need (onlyBits (wordAt h 0) 0x0000FFFFFFFF01FF && wordAt h 3 == 0 && wordAt h 5 == 0 && wordAt h 6 == 0 && wordAt h 7 == 0) 16
  let nRows := bitsOf (wordAt h 0) 32 16
  let n := bitsOf (wordAt h 0) 16 16
  let experts := bitsOf (wordAt h 0) 0 9
  let assign := bitsOf (wordAt h 1) 0 32
  need (decide (experts ≤ 256)) 16
  let fields ← (List.range nRows).mapM (fun i => do
    let r ← s.getWords c (tva + 64 + 32 * i) 4
    match rowFields r with
    | some x => pure x
    | none => throw (.bad 16))
  need (rowsOk experts assign fields) 16
  let sorted ← s.getWords c (wordAt h 2) assign
  need (sorted.all (fun w => decide (bitsOf w 0 16 < n) && bitsOf w 16 15 == 0)) 16
  return { n := n, d := bitsOf (wordAt h 1) 32 32, assign := assign, expOut := wordAt h 4, fields := fields, sorted := sorted }

/-- The entries of a table's rows for an IN, and their output width (R264, R269). -/
def State.getEntries (s : State) (c width : Nat) (t : TableHead) (input : Tensor) : Except Stop (List Expert) := do
  let es ← t.fields.mapM (fun r => s.getExpert c r.2.2.2 input.format t.d)
  need (es.all (fun e => s.ow e == width)) 16
  return es

/-- Everything a GROUPED_OP reads when it starts (R187, R269): IN, the table, its entries, then the shape of IN and INTER. -/
def State.getGrouped (s : State) (c : Nat) (ws : List DWord) : Except Stop GroupedTable :=
  let io := s.getTensor c (dword ws 3) 0
  let tb := s.getTable c (dword ws 2)
  let es := io.bind (fun input => tb.bind (fun t => s.getEntries c (dfld ws 5 0 32) t input))
  let shape := io.bind (fun input => tb.bind (fun t =>
    need (input.rank == 2 && input.plain && input.size 0 == t.n && input.size 1 == t.d) 24))
  let inter := es.bind (fun es => need (!(dword ws 4 == 0 && es.any (fun e => e.wOut.isSome))) 32)
  match firstStop [io.map (fun _ => ()), tb.map (fun _ => ()), es.map (fun _ => ()), shape, inter], io, tb, es with
  | none, .ok input, .ok t, .ok es => do
    es.forM (fun e => s.checkHome c (s.operandVa e))
    let rows := t.fields.zipIdx.map (fun p =>
      { expert := p.2, m := p.1.2.1, start := p.1.2.2.1,
        home := s.homeOf c (((es[p.2]?).map s.operandVa).getD 0), epoch := (s.reg 0xA0004).toNat : TabRow })
    return { assign := t.assign, expOut := t.expOut, rows := rows, experts := es, tokens := t.sorted.map (fun w => bitsOf w 0 16), input := input }
  | some e, _, _, _ => .error e
  | none, _, _, _ => .error (.bad 0)

/-- The static checks of a GROUPED_OP body (Table 9.3). -/
def groupedChecks (ws : List DWord) : List (Bool × Nat) :=
  [ (decide (dword ws 2 % 64 ≠ 0), 16), (decide (dword ws 4 % 64 ≠ 0), 32),
    (decide (dfld ws 5 32 8 ≠ 6) && decide (dfld ws 5 32 8 ≠ 7), 40) ] ++
  rsvChecks ws [(5, 0xFFFFFFFFFF), (6, 0), (7, 0)]

/-- A job with nothing in it. -/
def Job.blank (c gen idx : Nat) (t : Tensor) : Job :=
  { ctx := c, gen := gen, idx := idx, stage := .pass, input := t, inputOk := true, layer := none, sfuOut := none, sfuA := 0, sfuB := 0,
    sfuScale := 0, sfuSat := false, sfuOp := 0, sfuEps := 0, parA := none, parB := none, entries := [], rows := [], handed := false, all := [], tokens := [],
    inter := 0, irow := 0, expOut := 0, outFmt := 0, groups := [], assign := 0, saturated := 0, stageAt := 0,
    rivals := [] }

/-- A job whose groups have all ended completes its descriptor OK and leaves. -/
def State.endJob (s : State) (j : Job) (detail : Nat) : State :=
  let s := s.dropJob j.ctx j.idx
  match s.desc j.ctx j.idx with
  | some d => s.finishOk j.ctx d detail
  | none => s

/-- The start or step of GroupedOp. -/
def groupedOp (c : CtxId) (s : State) : Result :=
  match s.begin c.val (fun d => d.kind == kindGrouped) noRoom noEst (fun _ => []) with
  | .no s => .next s
  | .go d s =>
    match withStatic (malformedAt (groupedChecks d.words)) (s.getGrouped c.val d.words) with
    | .error e => .next (s.stopDesc c.val d e)
    | .ok t =>
      let j := { Job.blank c.val (s.ctx c.val).gen d.idx t.input with
        entries := t.experts, rows := t.rows, all := t.rows, handed := true, tokens := t.tokens, inter := dword d.words 4,
        irow := s.irowOf t.experts, expOut := t.expOut, outFmt := dfld d.words 5 32 8, assign := t.assign, stage := .experts }
      if t.rows.isEmpty then .next ((s.addJob j).endJob j 0) else .next (s.addJob j)

/-- GROUPED_OP (R268, R269): the table is read and handed to the control cores. A table without rows ends at once. -/
def execGroupedOp (c : CtxId) (s : State) : Result :=
  s.starting c.val (groupedOp c)

/-! ### SFU_PASS (R291, R296, R301) -/

/-- The OP of an SFU_PASS. -/
def sfuOpOf (d : Desc) : Nat := dfld d.words 6 0 8

/-- The checks of an SFU_PASS body that read no memory (R301). -/
def passChecks (ws : List DWord) : List (Bool × Nat) :=
  let op := dfld ws 6 0 8
  let norm := op == 0x21 || op == 0x22
  let scale := dfld ws 6 32 32
  let eps := dfld ws 7 0 32
  [ (decide (dword ws 2 % 64 ≠ 0) || decide (dword ws 3 % 64 ≠ 0), 0),
    (decide (dword ws 4 % 4 ≠ 0) || (decide (dword ws 4 ≠ 0) && op == 0x20), 32),
    (decide (dword ws 5 % 4 ≠ 0) || (decide (dword ws 5 ≠ 0) && op != 0x21), 40),
    (!(decide (op ≤ 0x0A) || op == 0x20 || norm) || !f32Fin scale, 48),
    (!f32Fin eps || bitAt eps 31 && !(f32 eps).isZero || (decide (eps ≠ 0) && !norm), 56) ] ++
  rsvChecks ws [(6, 0xFFFFFFFF000001FF), (7, 0xFFFFFFFF)]

/-- FP32 parameters of a row; none at address 0. -/
def State.getParams (s : State) (c base n : Nat) : Except Stop (Option (List Nat)) :=
  if base = 0 then .ok none else (s.get c base (4 * n)).map (fun bs => some (elemBits 32 0 n bs))

/-- What an SFU_PASS reads when it starts (R184, R187, R291, R301): IN, OUT, PARAM_A and PARAM_B. -/
def State.getPass (s : State) (c : Nat) (ws : List DWord) : Except Stop (Tensor × Tensor × Option (List Nat) × Option (List Nat)) :=
  let ok := fun (t : Tensor) => t.rank == 2 && t.plain && decide (4 ≤ t.format) && decide (t.format ≤ 7)
  let i := s.getTensor c (dword ws 2) 0
  let o := s.getTensor c (dword ws 3) 0
  let inOk := i.bind (fun input => need (ok input && decide (input.size 1 ≤ 65536)) 16)
  let outOk := i.bind (fun input => o.bind (fun out => need (ok out && out.size 0 == input.size 0 && out.size 1 == input.size 1) 24))
  match firstStop [i.map (fun _ => ()), o.map (fun _ => ()), inOk, outOk], i, o with
  | none, .ok input, .ok out => do
    s.checkHome c input.base
    let a ← s.getParams c (dword ws 4) (input.size 1)
    let b ← s.getParams c (dword ws 5) (input.size 1)
    return (input, out, a, b)
  | some e, _, _ => .error e
  | none, _, _ => .error (.bad 0)

/-- The largest number of rows, at least one and at most `r`, whose estimate is at most `lim`. -/
def rowsFit (n c ib ob lim r : Nat) : Nat :=
  -- est(r) grows with r: the two bounds are solved for r
  let a := (lim - 819200000) * 9 / max 1 (n * c * 160000)
  let b := (lim - 819200000) / max 1 (n * (ib + ob) * 4000)
  max 1 (min r (min a b))

/-- Groups of `per` rows of an SFU_PASS from row `m0` on. -/
def State.passGroups (s : State) (j : Job) (out : Tensor) (per : Nat) : Nat → Nat → List Group
  | 0, _ => []
  | k + 1, m0 =>
    let rows := j.input.size 0
    if rows ≤ m0 then []
    else
      let n := j.input.size 1
      let m := min per (rows - m0)
      let ib := fmtBits j.input.format / 8
      let ob := fmtBits out.format / 8
      let est := passEst m n (passSteps j.sfuOp) ib ob
      let inVa := j.input.base + m0 * n * ib
      let home := s.homeOf j.ctx inVa
      let uj := s.energy (s.passWork j.ctx m n (passSteps j.sfuOp) inVa (out.base + m0 * n * ob) j.input.format out.format
        (est / 2048000) home)
      { row := 0, phase := 2, m0 := m0, m := m, c0 := 0, cols := n, home := home, est := est, uj := uj, at_ := .held, ready := none,
        deferred := false, attempts := 0, epoch := (s.reg 0xA0004).toNat, sat := j.sfuSat, issuedAt := 0, kept := [] }
      :: s.passGroups j out per k (m0 + m)

/-- An SFU_PASS of the OPs `mine` starts: its rows are split into groups (R296). -/
def State.startPass (s : State) (c : Nat) (mine : Nat → Bool) : State :=
  match s.begin c (fun d => d.kind == kindSfu && mine (sfuOpOf d)) noRoom noEst (fun _ => []) with
  | .no s => s
  | .go d s =>
    match withStatic (malformedAt (passChecks d.words)) (s.getPass c d.words) with
    | .error e => s.stopDesc c d e
    | .ok (input, out, a, b) =>
      let j := { Job.blank c (s.ctx c).gen d.idx input with
        parA := a, parB := b, sfuOut := some out, sfuA := dword d.words 4, sfuB := dword d.words 5, sfuScale := dfld d.words 6 32 32, sfuSat := dbit d.words 6 8,
        sfuOp := sfuOpOf d, sfuEps := dfld d.words 7 0 32 }
      let per := rowsFit (input.size 1) (passSteps j.sfuOp) (fmtBits input.format / 8) (fmtBits out.format / 8)
        (s.sliceUs * estUs) (input.size 0)
      let j := { j with groups := s.passGroups j out per (ceilDiv (input.size 0) per) 0 }
      ((s.addJob j).fillStore (c % 4)).schedule none

/-- The start or step of SfuPassElementwise. -/
def passElementwise (c : CtxId) (s : State) : Result :=
  .next (s.startPass c.val (fun op => op != 0x20 && op != 0x21 && op != 0x22))

/-- SFU_PASS_ELEMENTWISE (R291, R292): OP 0x00 to 0x0A; an OP that Table 10.3 does not list is found malformed here. -/
def execSfuPassElementwise (c : CtxId) (s : State) : Result :=
  s.starting c.val (passElementwise c)

/-- The start or step of SfuPassSoftmax. -/
def passSoftmax (c : CtxId) (s : State) : Result := .next (s.startPass c.val (fun op => op == 0x20))

/-- SFU_PASS_SOFTMAX (R294). -/
def execSfuPassSoftmax (c : CtxId) (s : State) : Result :=
  s.starting c.val (passSoftmax c)

/-- The start or step of SfuPassLayerNorm. -/
def passLayerNorm (c : CtxId) (s : State) : Result := .next (s.startPass c.val (fun op => op == 0x21))

/-- SFU_PASS_LAYER_NORM (R295). -/
def execSfuPassLayerNorm (c : CtxId) (s : State) : Result :=
  s.starting c.val (passLayerNorm c)

/-- The start or step of SfuPassRmsNorm. -/
def passRmsNorm (c : CtxId) (s : State) : Result := .next (s.startPass c.val (fun op => op == 0x22))

/-- SFU_PASS_RMS_NORM (R295). -/
def execSfuPassRmsNorm (c : CtxId) (s : State) : Result :=
  s.starting c.val (passRmsNorm c)

/-! ### Splitting rows into groups (R270) -/

/-- The groups of one range of a row and one phase. -/
def State.rangeGroups (s : State) (j : Job) (e : Expert) (r : TabRow) (i phase m0 m : Nat) : List Group :=
  let p := s.phaseShape j e phase
  let tiles := ceilDiv p.cols 64
  let n := tilesPerGroup p m (s.sliceUs * estUs) tiles
  (List.range (ceilDiv tiles (max 1 n))).map (fun k =>
    let c0 := 64 * n * k
    let cols := min (64 * (n * k + n)) p.cols - c0
    let t := min n (tiles - n * k)
    let est := p.est m t
    let uj := s.energy (s.groupWork j.ctx p m cols (est / 2048000) r.home (s.operandVa e) j.input.base j.expOut)
    { row := i, phase := phase, m0 := m0, m := m, c0 := c0, cols := cols, home := r.home, est := est, uj := uj, at_ := .held,
      ready := none, deferred := false, attempts := 0, epoch := r.epoch, sat := false, issuedAt := 0, kept := [] })

/-- The groups of one row, range by range, UP and then DOWN. -/
def State.rowGroups (s : State) (j : Job) (e : Expert) (r : TabRow) (i : Nat) : List Group :=
  let rowIn := alignUp (ceilDiv (s.kIn e * elem32 j.input.format) 32) 64
  let lim := min 256 (0x400000 / max 1 rowIn)
  let lim := if e.wOut.isSome then min lim (0x400000 / max 1 j.irow) else lim
  let rows := max 1 lim
  (List.range (ceilDiv r.m rows)).flatMap (fun k =>
    let m0 := r.start + rows * k
    let m := min rows (r.m - rows * k)
    s.rangeGroups j e r i 0 m0 m ++ (if e.wOut.isSome then s.rangeGroups j e r i 1 m0 m else []))

/-- The rows of a job are split while the split store has room (R270, R273); with none left the table is no longer held. -/
def State.splitRows (s : State) (c idx : Nat) : Nat → State
  | 0 => s
  | n + 1 =>
    match s.job c idx with
    | none => s
    | some j =>
      match j.rows with
      | [] => s.setJob { j with handed := false }
      | r :: rest =>
        if 4096 ≤ s.storeUsed (c % 4) then s
        else
          let gs := match j.expertOf r with
            | some e => s.rowGroups j e r (j.all.length - j.rows.length)
            | none => []
          ((s.setJob { j with rows := rest, groups := j.groups ++ gs }).fillStore (c % 4)).splitRows c idx n

/-- TABLE_SPLIT (R270, R271): the control core takes the oldest table handed to it and splits its rows; ready groups meet the
scheduler. -/
def execTableSplit (k : Fin 4) (s : State) : Result :=
  match s.work.jobs.find? (fun j => j.handed && j.ctx % 4 == k.val) with
  | none => .next s
  | some j => .next ((s.splitRows j.ctx j.idx (j.rows.length + 1)).schedule none)

/-! ### Command, end and abandonment of a group -/

/-- The physical engine a position has under an epoch's map; none when that map is no longer held (R274). -/
def State.engineUnder (s : State) (epoch p : Nat) : Option Nat :=
  if epoch = (s.reg 0xA0004).toNat then some (s.engineAt p)
  else if s.maps.prevUntil.isSome ∧ epoch = s.maps.prevEpoch then some (tabGet engDefault s.maps.prevEngines p)
  else none

/-- ENGINE_COMMAND_RX (R272, R274): the engine starts the group, or returns the command map-stale and the control core reissues it under
the current epoch. While the bridge retrains the command waits (R82). -/
def execEngineCommandRx (p : PosId) (s : State) : Result :=
  match s.occupant p.val with
  | none => .next s
  | some o =>
    match s.job o.ctx o.idx with
    | none => .next s
    | some j =>
      match j.group o.group with
      | none => .next s
      | some g =>
        if g.at_ ≠ .issued p.val ∨ s.bridgeHeld (posBank p.val) then .next s
        else if 16 ≤ p.val ∨ s.engineUnder g.epoch p.val = some (s.engineAt p.val) then
          .next (s.setJob (j.setGroup o.group (fun g => { g with at_ := .running p.val })))
        else
          let g := { g with epoch := (s.reg 0xA0004).toNat }
          let s := (s.setJob (j.setGroup o.group (fun _ => g))).sendCmd 0 p.val (s.commandFields j g)
          .next (s.flagOpen 0xA0008 4 11 noCtx)

/-- ENGINE_MAP_HOLD_EXPIRY (R274): the previous map is discarded. -/
def execEngineMapHoldExpiry (s : State) : Result :=
  match s.maps.prevUntil with
  | some m => .next (if m ≤ s.absMin then s.setMaps { s.maps with prevUntil := none, prevEngines := [] } else s)
  | none => .next s

/-- Whether a job's stage has ended: nothing left to split or to run. -/
def Job.stageDone (j : Job) : Bool := !j.handed && j.rows.isEmpty && j.groups.all (fun g => decide (g.at_ = .ended))

/-- A LAYER joins the queue of its next stage, in the order in which stages end and, of those that end together, of context (R245, R314). -/
def State.joinQueue (s : State) (k : Nat × Nat) : List (Nat × Nat) → List (Nat × Nat)
  | [] => [k]
  | x :: rest =>
    if k.1 < x.1 ∧ (s.job x.1 x.2).map (fun j => j.stageAt) = some s.clk then k :: x :: rest else x :: s.joinQueue k rest

/-- What follows the last group of a stage: Route after Gate, Combine after Experts, or the descriptor's completion (R231, R269, R296). -/
def State.stageEnd (s : State) (j : Job) : State :=
  if !j.stageDone then s
  else
    match j.stage, j.layer with
    | .gate, _ =>
      let s := s.setJob { j with stage := .route, groups := [], stageAt := s.clk }
      s.setWork { s.work with routeQueue := s.joinQueue (j.ctx, j.idx) s.work.routeQueue }
    | .experts, some _ =>
      let s := s.setJob { j with stage := .combine, stageAt := s.clk }
      s.setWork { s.work with combineQueue := s.joinQueue (j.ctx, j.idx) s.work.combineQueue }
    | .experts, none => s.endJob j (j.groups.length * 2 ^ 32 + j.assign)
    | .pass, _ => s.endJob j (j.input.size 0 * 2 ^ 32 + min j.saturated 0xFFFFFFFF)
    | _, _ => s

/-- How many writes wait at the bridges. -/
def State.heldWrites (s : State) : Nat := ((List.range 4).map (fun n => (s.bank n).waiting.length)).foldl (· + ·) 0

/-- The start or step of GroupEnd. -/
def groupEnd (p : PosId) (ns : Nat) (s : State) : Result :=
  match s.occupant p.val with
  | none => .next s
  | some o =>
    match s.job o.ctx o.idx with
    | none => .next (s.setOccupant p.val none)
    | some j =>
      match j.group o.group with
      | none => .next (s.setOccupant p.val none)
      | some g =>
        if g.at_ ≠ .running p.val then .next s
        else
          let (s', fault, sat) := s.writeGroup j g p.val
          if s.bridgeHeld (posBank p.val) ∨ s.heldWrites < s'.heldWrites then .next s
          else
          let s := (s'.setOccupant p.val none).sendCmd 1 p.val (s.reportFields j g ns)
          let uj := s.groupCharge j g p.val ns
          let s := (s.settle 0 p.val 0 uj).countOccupancy o.ctx ns
          let s := if p.val < 16 then
              (s.bump64 (0xA0100 + 0x40 * p.val) ns).bump (0xA0108 + 0x40 * p.val) 32 1
            else s
          let s := match s.desc o.ctx o.idx with
            | some d => s.setDesc o.ctx { d with energy := d.energy + uj }
            | none => s
          match fault with
          | some f => .next ((s.faultDesc o.ctx o.idx f).schedule none)
          | none =>
            let j := { j.setGroup o.group (fun g => { g with at_ := .ended }) with saturated := j.saturated + sat }
            .next (((s.setJob j).stageEnd j).schedule (some (p.val, o.ctx)))

/-- GROUP_END (R82, R144, R151, R272, R423): while a bridge holds back a write of the group, or its report, it has not ended; else the output is written, the position freed, the occupancy, the counters and the charge made; the
job goes on to its next stage, and the scheduler decides. -/
def execGroupEnd (p : PosId) (ns : Nat) (s : State) : Result :=
  match s.occupant p.val with
  | some o => s.remotely o.ctx o.idx p.val (groupEnd p ns)
  | none => .next s

/-- The context's work cannot go on: ENGINE_FAULT (Table 5.3). -/
def State.engineFault (s : State) (c idx detail unit : Nat) : State := s.contextFault c 0x45 detail (some idx) false unit

/-- REISSUE_LIMIT, 0 acting as 1. -/
def State.reissueLimit (s : State) : Nat := max 1 (s.fld 0xA0000 0 4)

/-- The rows an SFU_PASS group in place had read when it is abandoned: its reissue works on them, since some may be written already (R299, R303;
assumption 118). -/
def State.keptRows (s : State) (p : Nat) (j : Job) (g : Group) : List (List Nat) :=
  if j.inPlace && decide (g.at_ = .running p) then (match s.passRows j g (posBank p) with
    | .ok rows => rows
    | .error _ => g.kept)
  else g.kept

/-- The group on position `p` is abandoned and becomes ready again, or, abandoned REISSUE_LIMIT times, ends its descriptor with
ENGINE_FAULT (R163, R279, R305); the state after, and whether it is reissued. -/
def State.abandon (s : State) (p detail unit : Nat) : State × Bool :=
  match s.occupant p with
  | none => (s, false)
  | some o =>
    match (s.job o.ctx o.idx).bind (fun j => (j.group o.group).map (fun g => (j, g))) with
    | none => (s.setOccupant p none, false)
    | some (j, g) =>
      let kept := s.keptRows p j g
      let s := s.abandonGroup p j g
      if s.reissueLimit ≤ g.attempts + 1 then (s.engineFault o.ctx o.idx detail unit, false)
      else
        let s := match s.job o.ctx o.idx with
          | some j => s.setJob (j.setGroup o.group (fun g =>
              { g with at_ := .waiting, ready := some s.clk, attempts := g.attempts + 1, epoch := (s.reg 0xA0004).toNat, kept := kept }))
          | none => s
        (if p < 16 then (s.bump (0xA010C + 0x40 * p) 32 1).flagOpen 0xA0008 0 11 noCtx else s, true)

/-- The DETAIL of R279 for a position. -/
def engDetail (p : Nat) : Nat := 0x30000 + 0x10 * (p / 4) + p % 4

/-- Whether position `p` holds a group whose command is still in flight: with a spare in the position it comes back map-stale (R274, R278). -/
def State.inFlight (s : State) (p : Nat) : Bool :=
  ((s.occupant p).bind (fun o => (s.job o.ctx o.idx).bind (fun j => j.group o.group))).any (fun g => decide (g.at_ = .issued p))

/-- The group an engine that is to be replaced runs: abandoned, unless its command is in flight and a spare takes the position (R163, R274, R278). -/
def State.leaveEngine (s : State) (p v : Nat) : State :=
  if s.inFlight p && (((s.markEngine (5 * (p / 4) + s.engineAt p)).spareEngine (p / 4)).isSome) then s else (s.abandon p (engDetail p) v).1

/-- An engine fails on the data path: its group is abandoned, the view becomes failed, and the spare takes the position when there is one
(R163, R279, R488). -/
def State.engineFails (s : State) (p : Nat) : State :=
  let s := (s.setDp (8 + p) true).flagOpen 0xA0008 1 11 noCtx
  let s := s.leaveEngine p (8 + p)
  (s.substEngine p 2).schedule none

/-- ENGINE_ERROR (R279): a corrected error is counted; any other fails the position. -/
def execEngineError (p : Fin 16) (corrected : Bool) (s : State) : Result :=
  if corrected then .next (s.bump (0xA0110 + 0x40 * p.val) 32 1)
  else .next (s.engineFails p.val)

/-- ENGINE_RESULT_BAD (R280, R305): an error of the engine, or with `sfu` of the Special Function Unit, is found in written output; the context of the
group takes ENGINE_FAULT. -/
def execEngineResultBad (p : PosId) (sfu : Bool) (s : State) : Result :=
  match s.occupant p.val with
  | none => .next s
  | some o =>
    if p.val < 16 ∧ !sfu then
      .next (((s.flagOpen 0xA0008 3 11 o.ctx).engineFault o.ctx o.idx (engDetail p.val) (8 + p.val)).schedule none)
    else
      let b := posBank p.val
      .next (((s.flagOpen 0xB0008 2 12 o.ctx).engineFault o.ctx o.idx (0x40000 + b) (24 + b)).schedule none)

/-- ENGINE_WATCHDOG (R281): a group that occupies its engine for more than WDOG_MULT times its estimate plus 10 us is abandoned as an
engine failure. -/
def execEngineWatchdog (p : Fin 16) (t : Nat) (s : State) : Result :=
  let s := s.reachClk t
  match (s.occupant p.val).bind (fun o => (s.job o.ctx o.idx).bind (fun j => j.group o.group)) with
  | none => .next s
  | some g =>
    let lim := max 1 (s.fld 0xA0000 8 8) * g.est / 2048000 + 10000
    .next (if lim < s.clk - g.issuedAt then s.engineFails p.val else s)

/-! ### Special Function Units (R305, R306) -/

/-- SFU_ERROR (R304, R305): the group being served is abandoned and reissued, and the unit tests itself. -/
def execSfuError (b : BankId) (corrected : Bool) (tile : Option (Fin 4)) (s : State) : Result :=
  let cnt := 0xB0100 + 0x20 * b.val
  if corrected then .next (s.bump (cnt + 24) 32 1)
  else
    let p := match tile with
      | some e => 4 * b.val + e.val
      | none => 16 + b.val
    let s := s.setWork { s.work with sfuTest := tabSet (fun _ => false) s.work.sfuTest b.val true }
    let (s, again) := s.abandon p (0x40000 + b.val) (24 + b.val)
    .next ((if again then (s.bump (cnt + 28) 32 1).flagOpen 0xB0008 0 12 noCtx else s).schedule none)

/-- SFU_SELF_TEST (R306): the unit serves again, or its data-path view becomes failed. -/
def execSfuSelfTest (b : BankId) (ok : Bool) (s : State) : Result :=
  if !tabGet (fun _ => false) s.work.sfuTest b.val then .next s
  else
    let s := s.setWork { s.work with sfuTest := tabSet (fun _ => false) s.work.sfuTest b.val false }
    let s := if ok then s else (s.setDp (24 + b.val) true).flagOpen 0xB0008 1 12 noCtx
    .next ((s.dueBank b.val).schedule none)

/-! ### Other scheduler commands -/

/-- BALLAST_END (R428): the burst is charged, and the position decides afresh. -/
def execBallastEnd (p : PosId) (s : State) : Result :=
  if tabGet (fun _ => false) s.pwr.ballast p.val then
    let uj := s.energy { counts := [160000000], ns := 10000 }
    let s := { s with pwr := { s.pwr with ballast := tabSet (fun _ => false) s.pwr.ballast p.val false } }
    .next ((((s.settle 2 p.val 0 uj).noteBallast uj).due p.val).schedule none)
  else .next s

/-- Decisions are due for the free positions on which a waiting group has become usable since `old`: its spill delay has run out (R150). -/
def State.dueSpill (s old : State) : State :=
  let opens := fun (p : Nat) => s.posFree p && s.work.jobs.any (fun j => j.groups.any (fun g =>
    decide (g.at_ = .waiting) && s.usable j.ctx g p && !old.usable j.ctx g p))
  (positionOrder.filter opens).foldl State.due s

/-- SPILL_DELAY_EXPIRY (R150): a ready group may now spill, and the scheduler decides. -/
def execSpillDelayExpiry (t : Nat) (s : State) : Result := .next (((s.reachClk t).dueSpill s).schedule none)

/-- The control core in position `k` fails on the data path (R162, R447): a spare takes the position, and the groups of its contexts stay
as their descriptors and cursors give them. -/
def State.coreFails (s : State) (k : Nat) : State := ((s.setDp (28 + k) true).substCore k 2).scheduleAll

/-- CONTROL_CORE_HEARTBEAT_MISS (R447). -/
def execControlCoreHeartbeatMiss (k : Fin 4) (s : State) : Result := .next (s.coreFails k.val)

/-- CONTROL_CORE_ERROR (R447). -/
def execControlCoreError (k : Fin 4) (s : State) : Result := .next (s.coreFails k.val)

end Sys2Proof.Machine
end

