-- ==== Sys2Proof/Machine/Collect.lean ====
section
/-! DEFINITION. Machine/Collect.lean: the arithmetic of collectives, the ring and double-tree algorithms, chunks, staging and slices (R386,
R390 to R395, R413, R414). -/

namespace Sys2Proof

open Sys2Proof.Machine

/-- Bytes of an element of DTYPE. -/
def Announce.elem (a : Announce) : Nat := if a.dtype = 6 then 2 else 4

/-- The format partial sums travel in (WIDE). -/
def Announce.wireFmt (a : Announce) : Nat := if a.wide then 7 else a.dtype

/-- Bytes of an element of a partial sum. -/
def Announce.wireElem (a : Announce) : Nat := if a.wide then 4 else a.elem

/-- Whether data is reduced: ALL_REDUCE, REDUCE_SCATTER, REDUCE. -/
def Announce.reduces (a : Announce) : Bool := a.op == 0 || a.op == 1 || a.op == 4

/-- A partial sum rounded to DTYPE, once (R386). -/
def Announce.final (a : Announce) (x : Nat) : Nat := if a.wide then (narrow 6 false (f32 x)).bits else x

/-- Elements in a chunk of the agreed size. -/
def Announce.chunkElems (a : Announce) (elem : Nat) : Nat := 2 ^ a.chunkLog / elem

end Sys2Proof

namespace Sys2Proof.Machine

/-! ### Elements (R386) -/

/-- The patterns that bytes spell, `b` bytes each. -/
def bytesPats (b : Nat) : Nat → List Byte → List Nat
  | 0, _ => []
  | n + 1, bs => leNat (bs.take b) :: bytesPats b n (bs.drop b)

/-- IEEE maximum (or minimum) of two patterns of a floating-point format, +0 above −0, a NaN the canonical quiet NaN. -/
def floatPick (f : Nat) (max_ : Bool) (a b : Nat) : Nat :=
  let x := decodeNum f a
  let y := decodeNum f b
  if x.isNan || y.isNan then fmtNan f
  else
    let less := x.lt y || (x.isZero && y.isZero && decide (b < a))
    if less == max_ then b else a

/-- RED on two patterns of a wire format: 6 BF16, 7 FP32, 8 INT32. -/
def redPat (f red a b : Nat) : Nat :=
  if red = 0 then
    if f = 8 then (a + b) % 2 ^ 32
    else if f = 7 then fadd a b
    else (narrow 6 false (f32 (fadd (a * 2 ^ 16) (b * 2 ^ 16)))).bits
  else if f = 8 then (if (decide (toSigned 32 a < toSigned 32 b)) == (red == 1) then b else a)
  else floatPick f (red == 1) a b

/-- The identity of RED in a wire format. -/
def redIdentity (f red : Nat) : Nat :=
  match red, f with
  | 0, 8 => 0
  | 0, 6 => 0x8000
  | 0, _ => 0x80000000
  | 1, 8 => 0x80000000
  | 1, 6 => 0xFF80
  | 1, _ => 0xFF800000
  | _, 8 => 0x7FFFFFFF
  | _, 6 => 0x7F80
  | _, _ => 0x7F800000

/-- The list with consecutive elements replaced. -/
def putAt (l : List Nat) (o : Nat) (v : List Nat) : List Nat := l.take o ++ v ++ l.drop (o + v.length)

/-! ### The ring (R393) -/

/-- The axes a ring runs over, Z first, with this package's line on each. -/
def ringAxes (x : GroupSlot) (own : Nat) : List (Nat × List Nat) :=
  ([2, 1, 0].map (fun a => (a, lineOf x.live a own))).filter (fun e => decide (1 < e.2.length))

/-- The block a member holds after `k` axes: first element and elements. -/
def ringBlock (axes : List (Nat × List Nat)) (own n : Nat) : Nat → Nat × Nat
  | 0 => (0, n)
  | k + 1 =>
    let (o, l) := ringBlock axes own n k
    let line := (axes.getD k (0, [])).2
    (o + rankIn line own * (l / line.length), l / line.length)

/-- What stage `st` of a ring does: whether it gathers, and the place of its axis; none past the last. -/
def ringStage (op k st : Nat) : Option (Bool × Nat) :=
  if op = 2 then (if st < k then some (true, k - 1 - st) else none)
  else if st < k then some (false, st)
  else if op = 0 ∧ st < 2 * k then some (true, 2 * k - 1 - st)
  else none

/-- The number of the first step of stage `st`. -/
def stepBase (axes : List (Nat × List Nat)) (op : Nat) : Nat → Nat
  | 0 => 0
  | st + 1 => stepBase axes op st + (match ringStage op axes.length st with
      | some (_, a) => (axes.getD a (0, [])).2.length - 1
      | none => 0)

/-- The half of a part that travels in the P direction (`n` false) or the N direction: first element and elements. -/
def halfOf (o len : Nat) (n : Bool) : Nat × Nat := if n then (o + ceilDiv len 2, len - ceilDiv len 2) else (o, ceilDiv len 2)

/-- A ring stage as this member sees it: gather, line, own index, the block it divides, the bytes of an element on the wire, its first step. -/
structure RingView where
  gather : Bool
  line : List Nat
  own : Nat
  base : Nat
  part : Nat
  elem : Nat
  step0 : Nat

/-- Elements of all the data a COLLECTIVE works on here. -/
def Coll.total (x : Coll) (m : Nat) : Nat :=
  if x.spec.op = 2 then m * x.spec.count
  else if x.ring then m * ceilDiv x.spec.count m else x.spec.count

/-- The ring stage a COLLECTIVE is in. -/
def Coll.view (x : Coll) (g : GroupSlot) (own : Nat) : Option RingView :=
  let axes := ringAxes g own
  match ringStage x.spec.op axes.length x.stage with
  | none => none
  | some (gather, a) =>
    let line := (axes.getD a (0, [])).2
    let b := ringBlock axes own (x.total g.live.length) a
    some { gather := gather, line := line, own := rankIn line own, base := b.1, part := b.2 / line.length,
           elem := if gather then x.spec.elem else x.spec.wireElem, step0 := stepBase axes x.spec.op x.stage }

/-- The part a member sends at step `s` of a stage, by direction. -/
def RingView.sendPart (v : RingView) (s : Nat) (n : Bool) : Nat :=
  let l := v.line.length
  match v.gather, n with
  | false, false => (v.own + 2 * l - s - 1) % l
  | false, true => (v.own + s + 1) % l
  | true, false => (v.own + l - s) % l
  | true, true => (v.own + s) % l

/-- The part it receives. -/
def RingView.recvPart (v : RingView) (s : Nat) (n : Bool) : Nat :=
  let l := v.line.length
  match v.gather, n with
  | false, false => (v.own + 2 * l - s - 2) % l
  | false, true => (v.own + s + 2) % l
  | true, false => (v.own + 2 * l - s - 1) % l
  | true, true => (v.own + s + 1) % l

/-- The member it sends to, by direction. -/
def RingView.to_ (v : RingView) (n : Bool) : Nat :=
  let l := v.line.length
  v.line.getD (if n then (v.own + l - 1) % l else (v.own + 1) % l) 0

/-- The half of a part as elements of the data. -/
def RingView.half (v : RingView) (part : Nat) (n : Bool) : Nat × Nat := halfOf (v.base + part * v.part) v.part n

/-- Chunks of a half. -/
def Coll.halfChunks (x : Coll) (v : RingView) (n : Bool) : Nat := ceilDiv (halfOf 0 v.part n).2 (x.spec.chunkElems v.elem)

/-- Transfers a stage receives. -/
def Coll.stageCount (x : Coll) (v : RingView) : Nat := (v.line.length - 1) * (x.halfChunks v false + x.halfChunks v true)

/-- Chunk `k` of a half: first element and elements. -/
def Coll.chunkOf (x : Coll) (v : RingView) (h : Nat × Nat) (k : Nat) : Nat × Nat :=
  let c := x.spec.chunkElems v.elem
  (h.1 + k * c, min c (h.2 - k * c))

/-- A chunk this member sends at step `s` of its stage. -/
def Coll.ringSend (x : Coll) (v : RingView) (s k : Nat) (n : Bool) : ColSend :=
  let c := x.chunkOf v (v.half (v.sendPart s n) n) k
  { dst := v.to_ n, flags := 2 * b2n n, step := v.step0 + s, chunk := k,
    data := patternBytes (8 * v.elem) ((x.buf.drop c.1).take c.2), nacks := 0 }

/-- What a stage sends before it has received anything. -/
def Coll.firstSends (x : Coll) (v : RingView) : List ColSend :=
  (List.range (x.halfChunks v false)).map (fun k => x.ringSend v 0 k false) ++
    (List.range (x.halfChunks v true)).map (fun k => x.ringSend v 0 k true)

/-! ### The double tree (R394) -/

/-- The index of rank `r` in tree A (0) or B (1), rooted at rank `q` of `m`. -/
def treeIndex (m q t r : Nat) : Nat := if t = 0 then (r + m - q) % m else (q + m - r) % m

/-- The rank of an index. -/
def treeRank (m q t i : Nat) : Nat := if t = 0 then (i + q) % m else (q + m - i) % m

/-- The children of an index. -/
def treeKids (m i : Nat) : List Nat := [2 * i + 1, 2 * i + 2].filter (fun j => decide (j < m))

/-- Whether index `i` stands in the subtree of `top`. -/
def treeUnder (top : Nat) : Nat → Nat → Bool
  | 0, i => i == top
  | f + 1, i => i == top || (decide (0 < i) && treeUnder top f ((i - 1) / 2))

/-- The level of an index. -/
def treeLevel (i : Nat) : Nat := Nat.log2 (i + 1)

/-- Chunks of one member's data in a tree. -/
def Coll.perRank (x : Coll) : Nat := ceilDiv x.spec.count (x.spec.chunkElems x.spec.wireElem)

/-- All chunk numbers of a tree. -/
def Coll.treeChunks (x : Coll) (m : Nat) : Nat := if x.spec.op = 2 then m * x.perRank else x.perRank

/-- What chunk `k` of a tree covers: first element and elements. -/
def Coll.treeSpan (x : Coll) (k : Nat) : Nat × Nat :=
  let c := x.spec.chunkElems x.spec.wireElem
  let j := k % max 1 x.perRank
  (k / max 1 x.perRank * x.spec.count + j * c, min c (x.spec.count - j * c))

/-- The rank both trees are rooted at. -/
def Coll.treeRoot (x : Coll) (g : GroupSlot) : Nat := if x.spec.op = 3 ∨ x.spec.op = 4 then rankIn g.live x.spec.root else 0

/-- The elements of the result that rank `r` takes in a REDUCE_SCATTER: first and last + 1. -/
def scatterBlock (count m r : Nat) : Nat × Nat := (min count (r * ceilDiv count m), min count ((r + 1) * ceilDiv count m))

/-- Whether the result of chunk `k` goes down to index `top` (R394). -/
def Coll.goesDown (x : Coll) (g : GroupSlot) (k top : Nat) : Bool :=
  let m := g.live.length
  match x.spec.op with
  | 4 => false
  | 1 =>
    let sp := x.treeSpan k
    (List.range m).any (fun i => treeUnder top 8 i &&
      (let b := scatterBlock x.spec.count m (treeRank m (x.treeRoot g) (k % 2) i)
       decide (b.1 < sp.1 + sp.2) && decide (sp.1 < b.2)))
  | _ => true

/-- A chunk of a tree from this member to an index. -/
def Coll.treeSend (x : Coll) (g : GroupSlot) (own k i : Nat) (elem : Nat) : ColSend :=
  let m := g.live.length
  let q := x.treeRoot g
  let sp := x.treeSpan k
  { dst := g.live.getD (treeRank m q (k % 2) i) 0, flags := k % 2, step := treeLevel (treeIndex m q (k % 2) (rankIn g.live own)), chunk := k,
    data := patternBytes (8 * elem) ((x.buf.drop sp.1).take sp.2), nacks := 0 }

/-! ### Staging and slices (R390, R392, R408) -/

/-- COL_CFG.DEPTH (R408). -/
def State.colDepth (s : State) : Nat := let d := s.fld 0x70000 8 5; if 2 ≤ d ∧ d ≤ 16 then d else 8

/-- COL_CFG.CHUNK_LOG2 (R408). -/
def State.colChunkLog (s : State) : Nat := let d := s.fld 0x70000 0 5; if 14 ≤ d ∧ d ≤ 20 then d else 16

/-- The staging a COLLECTIVE reserves. -/
def State.stagingFor (s : State) (a : Announce) : Nat := 2 * s.colDepth * 2 ^ a.chunkLog

/-- Staging reserved. -/
def State.staged (s : State) : Nat := (s.col.colls.map (fun x => x.staged)).foldl (· + ·) 0

/-- Whether slice position `n` is active. -/
def State.sliceActive (s : State) (n : Nat) : Bool := decide (s.sliceAt n ≠ 15) && s.admits (44 + n)

/-- The first active slice position with a free slot. -/
def State.freeSlice (s : State) : Option Nat :=
  (List.range 8).find? (fun n => s.sliceActive n && decide ((s.col.slices.filter (fun l => decide (l.pos = n))).length < 8))

/-- A chunk reduction of a COLLECTIVE holds a slice slot: it has one, or takes one. -/
def State.takeSlice (s : State) (x : Coll) (step flags chunk : Nat) : Option State :=
  if s.col.slices.any (fun l => decide (l.slot = x.slot) && decide (l.cseq = x.cseq) && decide (l.step = step) && decide (l.flags = flags)
      && decide (l.chunk = chunk)) then some s
  else match s.freeSlice with
    | some n => some (s.setCol { s.col with
        slices := s.col.slices ++ [{ pos := n, slot := x.slot, cseq := x.cseq, step := step, flags := flags, chunk := chunk }] })
    | none => none

/-- A chunk reduction's slice slot returns. -/
def State.dropSlice (s : State) (x : Coll) (step flags chunk : Nat) : State :=
  s.setCol { s.col with slices := s.col.slices.filter (fun l => !(decide (l.slot = x.slot) && decide (l.cseq = x.cseq)
    && decide (l.step = step) && decide (l.flags = flags) && decide (l.chunk = chunk))) }

/-! ### Data in and out -/

/-- An access of descriptor `idx` of context `c` that the unit makes on its own fails, or lacks the data of a remote window. -/
def State.askOrFault (s : State) (c idx : Nat) (f : XFault) : State :=
  if f.reason = 99 then
    let s := (s.setLnk { s.lnk with who := some (c, idx, 99) }).askRemote c f.va f.detail
    s.setLnk { s.lnk with who := none }
  else s.faultDesc c idx f

/-- Result elements from place `o` of the data are written to DST, as far as the operation writes them here (Table 13.4). -/
def State.writeResult (s : State) (x : Coll) (g : GroupSlot) (o : Nat) (els : List Nat) : State :=
  let m := g.live.length
  let lim := if x.spec.op = 1 then scatterBlock x.spec.count m (rankIn g.live s.position)
    else if x.spec.op = 2 then (0, m * x.spec.count) else (0, x.spec.count)
  let lo := max o lim.1
  let hi := min (o + els.length) lim.2
  let at_ := if x.spec.op = 1 then lo - lim.1 else lo
  if hi ≤ lo then s
  else
    let s := s.setLnk { s.lnk with who := some (x.ctx, x.idx, 99) }
    let (s, f) := s.outWrite 0 x.ctx x.idx (x.dst + at_ * x.spec.elem) (patternBytes (8 * x.spec.elem) ((els.drop (lo - o)).take (hi - lo)))
    let s := s.setLnk { s.lnk with who := none }
    match f with
    | some f => s.faultDesc x.ctx x.idx f
    | none => s

/-- A header's fields as message arguments, with the epoch of the slot (Table 13.5). -/
def State.chunkArgs (s : State) (x : Coll) (c : ColSend) : List Nat := [x.slot, s.gepoch x.slot, x.cseq, c.flags, c.step, c.chunk]

/-- A chunk goes out, or out again. -/
def State.sendChunk (s : State) (x : Coll) (c : ColSend) : State :=
  s.colMsg c.dst .colChunk (s.chunkArgs x c ++ [crc32c c.data]) c.data (some (x.ctx, x.gen, x.idx))

/-- Chunks go out while the reservation holds their copies. -/
def State.pumpColl (s : State) (g cseq : Nat) : Nat → State
  | 0 => s
  | n + 1 =>
    match s.coll g cseq with
    | none => s
    | some x =>
      match x.outq with
      | [] => s
      | c :: rest =>
        if x.sent.length < 2 * s.colDepth then
          ((s.setColl { x with outq := rest, sent := x.sent ++ [c] }).sendChunk x c).pumpColl g cseq n
        else s

/-- The energy of bytes sent and bytes staged (R422). -/
def State.colEnergy (s : State) (sent staged : Nat) : Nat := s.energy { counts := [0, 0, 0, 0, 0, staged, 0, sent, 0], ns := 0 }

/-! ### Receiving -/

/-- A chunk of the ring stage under way is taken: reduced into, or put into, the data, and passed on (R393). -/
def State.takeRing (s : State) (x : Coll) (g : GroupSlot) (v : RingView) (e : ColEarly) : Option State :=
  let st := e.step - v.step0
  let n := bitAt e.flags 1
  let c := x.chunkOf v (v.half (v.recvPart st n) n) e.chunk
  let els := bytesPats v.elem c.2 e.data
  let more := decide (st + 2 < v.line.length)
  let x' := { x with early := x.early.filter (fun y => decide (y ≠ e)), got := x.got ++ [(e.step, e.flags, e.chunk)], last := s.absMin }
  if v.gather then
    let x' := { x' with buf := putAt x.buf c.1 els }
    let x' := if more then { x' with outq := x'.outq ++ [x'.ringSend v (st + 1) e.chunk n] } else x'
    some ((s.setColl x').writeResult x' g c.1 els)
  else
    match s.takeSlice x (e.step + 1) e.flags e.chunk with
    | none => none
    | some s =>
      let sum := List.zipWith (fun a b => redPat x.spec.wireFmt x.spec.red a b) els ((x.buf.drop c.1).take c.2)
      let x' := { x' with buf := putAt x.buf c.1 sum }
      let s := (s.colCount 1 1).chargeDesc x.ctx x.idx (s.colEnergy 0 e.data.length)
      if more then some (s.setColl { x' with outq := x'.outq ++ [x'.ringSend v (st + 1) e.chunk n] })
      else some ((s.setColl x').dropSlice x (e.step + 1) e.flags e.chunk)

/-- A ring stage that has received everything gives way to the next: the block is rounded when the reduction ends, and written where the
operation says. -/
def State.nextStage (s : State) (x : Coll) (g : GroupSlot) (v : RingView) : State :=
  let k := (ringAxes g s.position).length
  let x := { x with stage := x.stage + 1, got := [] }
  let ended := !v.gather && x.stage == k
  let b := ringBlock (ringAxes g s.position) s.position (x.total g.live.length) k
  let x := if ended then { x with buf := putAt x.buf b.1 (((x.buf.drop b.1).take b.2).map x.spec.final) } else x
  let x := match x.view g s.position with
    | some v => { x with outq := x.outq ++ x.firstSends v }
    | none => x
  let s := s.setColl x
  if ended then s.writeResult x g b.1 ((x.buf.drop b.1).take b.2) else s

/-- The result of a tree's chunk is here: it is written and goes down (R394). -/
def State.deliver (s : State) (x : Coll) (g : GroupSlot) (own k : Nat) : State :=
  let m := g.live.length
  let i := treeIndex m (x.treeRoot g) (k % 2) (rankIn g.live own)
  let sp := x.treeSpan k
  let x := { x with delivered := x.delivered ++ [k],
                    outq := x.outq ++ ((treeKids m i).filter (x.goesDown g k)).map (fun j => x.treeSend g own k j x.spec.elem) }
  (s.setColl x).writeResult x g sp.1 ((x.buf.drop sp.1).take sp.2)

/-- A tree's chunk has every contribution of this member's subtree: it goes up, or at the root it is the result. -/
def State.risen (s : State) (x : Coll) (g : GroupSlot) (own k : Nat) : State :=
  let m := g.live.length
  let i := treeIndex m (x.treeRoot g) (k % 2) (rankIn g.live own)
  let sp := x.treeSpan k
  let x := { x with got := x.got ++ [(k, 1, 0)] }
  if i = 0 then
    let x := { x with buf := putAt x.buf sp.1 (((x.buf.drop sp.1).take sp.2).map x.spec.final) }
    (s.setColl x).deliver x g own k
  else s.setColl { x with outq := x.outq ++ [x.treeSend g own k ((i - 1) / 2) x.spec.wireElem] }

/-- A chunk of a tree is taken: from a child it is added to or stands beside this member's data, from the parent it is the result. -/
def State.takeTree (s : State) (x : Coll) (g : GroupSlot) (own : Nat) (e : ColEarly) : Option State :=
  let m := g.live.length
  let q := x.treeRoot g
  let t := e.chunk % 2
  let i := treeIndex m q t (rankIn g.live own)
  let j := treeIndex m q t (rankIn g.live e.from_)
  let sp := x.treeSpan e.chunk
  let x' := { x with early := x.early.filter (fun y => decide (y ≠ e)), last := s.absMin }
  if (treeKids m i).contains j then
    if x.spec.op = 2 then
      let x' := { x' with buf := putAt x.buf sp.1 (bytesPats x.spec.elem sp.2 e.data), partials := x.partials ++ [(e.chunk, j)] }
      some ((s.setColl x').risen x' g own e.chunk)
    else match s.takeSlice x 0 e.flags e.chunk with
      | none => none
      | some s =>
        let els := bytesPats x.spec.wireElem sp.2 e.data
        let sum := List.zipWith (fun a b => redPat x.spec.wireFmt x.spec.red a b) els ((x.buf.drop sp.1).take sp.2)
        let x' := { x' with buf := putAt x.buf sp.1 sum, partials := x.partials ++ [(e.chunk, j)] }
        let s := (s.colCount 1 1).chargeDesc x.ctx x.idx (s.colEnergy 0 e.data.length)
        if (treeKids m i).all (fun c => x'.partials.contains (e.chunk, c)) then
          let s := (s.setColl x').risen x' g own e.chunk
          some (if i = 0 then s.dropSlice x 0 e.flags e.chunk else s)
        else some (s.setColl x')
  else
    let x' := { x' with buf := putAt x.buf sp.1 (bytesPats x.spec.elem sp.2 e.data) }
    some ((s.setColl x').deliver x' g own e.chunk)

/-- Whether a chunk that arrived has been taken before. -/
def Coll.taken (x : Coll) (g : GroupSlot) (own : Nat) (e : ColEarly) : Bool :=
  if x.ring then
    match x.view g own with
    | none => true
    | some v => decide (e.step < v.step0) || x.got.contains (e.step, e.flags, e.chunk)
  else
    let m := g.live.length
    let q := x.treeRoot g
    let t := e.chunk % 2
    let j := treeIndex m q t (rankIn g.live e.from_)
    if (treeKids m (treeIndex m q t (rankIn g.live own))).contains j then x.partials.contains (e.chunk, j) else x.delivered.contains e.chunk

/-- Whether a chunk belongs to what a COLLECTIVE receives: its sender, step and number, and its length. -/
def Coll.expects (x : Coll) (g : GroupSlot) (own : Nat) (e : ColEarly) : Bool :=
  let m := g.live.length
  if x.ring then
    match x.view g own with
    | none => false
    | some v =>
      let n := bitAt e.flags 1
      let st := e.step - v.step0
      decide (v.step0 ≤ e.step) && decide (st + 1 < v.line.length) && decide (e.chunk < x.halfChunks v n) && decide (e.from_ = v.to_ !n)
        && decide (e.data.length = v.elem * (x.chunkOf v (v.half (v.recvPart st n) n) e.chunk).2)
  else
    let q := x.treeRoot g
    let t := e.chunk % 2
    let i := treeIndex m q t (rankIn g.live own)
    let j := treeIndex m q t (rankIn g.live e.from_)
    let up := (treeKids m i).contains j
    decide (e.chunk < x.treeChunks m) && (up || (decide (0 < i) && decide (j = (i - 1) / 2))) && (!up || decide (x.spec.op ≠ 3))
      && decide (e.data.length = (if up then x.spec.wireElem else x.spec.elem) * (x.treeSpan e.chunk).2)

/-- A receiver's ACK of a chunk. -/
def State.ackChunk (s : State) (g cseq : Nat) (e : ColEarly) : State :=
  s.colMsg e.from_ .colAck [g, s.gepoch g, cseq, e.flags, e.step, e.chunk] [] none

/-- The first waiting chunk that can be taken is taken and acknowledged. -/
def State.takeOne (s : State) (x : Coll) (g : GroupSlot) : Option State :=
  x.early.findSome? (fun e =>
    if x.expects g s.position e && !x.taken g s.position e then
      let r := if x.ring then (x.view g s.position).bind (fun v => s.takeRing x g v e) else s.takeTree x g s.position e
      r.map (fun s => s.ackChunk x.slot x.cseq e)
    else none)

/-- Whether nothing is left to receive, write or pass on. -/
def Coll.workDone (x : Coll) (g : GroupSlot) (own : Nat) : Bool :=
  let m := g.live.length
  if x.ring then (x.view g own).isNone
  else
    let up := !x.spec.reduces || (List.range (x.treeChunks m)).all (fun k => x.got.contains (k, 1, 0))
    let due := fun k => x.goesDown g k (treeIndex m (x.treeRoot g) (k % 2) (rankIn g.live own))
    up && (List.range (x.treeChunks m)).all (fun k => !due k || x.delivered.contains k)

/-- A COLLECTIVE completes: OK with its DETAIL, or OK_REDUCED_GROUP with the members left out (R395, R404, R405). -/
def State.collDone (s : State) (x : Coll) (g : GroupSlot) : State :=
  let s := (s.dropColl x.slot x.cseq).colCount 0 1
  match s.desc x.ctx x.idx with
  | none => s
  | some d =>
    if g.full then s.finishOk x.ctx d (x.resent % 2 ^ 32 * 2 ^ 32 + (if x.ring then 1 else 2) * 2 ^ 24 + g.live.length)
    else s.finish x.ctx d 2 g.missing

/-- A COLLECTIVE takes what it can, sends what it can, and completes when nothing is left. -/
def State.runColl (s : State) (g cseq : Nat) : Nat → State
  | 0 => s
  | n + 1 =>
    match s.coll g cseq with
    | none => s
    | some x =>
      if x.phase ≠ .running then s
      else
        let gs := s.group g
        match s.takeOne x gs with
        | some s => s.runColl g cseq n
        | none =>
          match (if x.ring then x.view gs s.position else none) with
          | some v =>
            if x.got.length = x.stageCount v then (s.nextStage x gs v).runColl g cseq n
            else s.pumpColl g cseq (2 * s.colDepth)
          | none =>
            let s := s.pumpColl g cseq (2 * s.colDepth)
            if x.outq.isEmpty && x.sent.isEmpty && x.workDone gs s.position then s.collDone x gs else s

/-- Enough turns for everything a COLLECTIVE can do at once. -/
def Coll.turns (x : Coll) : Nat := 2 * x.early.length + 16

/-- Every COLLECTIVE that moves data goes on as far as it can. -/
def State.runColls (s : State) : State := s.col.colls.foldl (fun s x => s.runColl x.slot x.cseq x.turns) s

/-! ### Launch (R389, R390, R394) -/

/-- Whether this member reads SRC (Table 13.4). -/
def Coll.reads (x : Coll) (own : Nat) : Bool := decide (x.spec.op ≠ 3) || decide (x.spec.root = own)

/-- The data at launch: own elements in their place, padding the identity of RED. -/
def Coll.fill (x : Coll) (g : GroupSlot) (own : Nat) (bs : List Byte) : List Nat :=
  let m := g.live.length
  let els := bytesPats x.spec.elem (bs.length / x.spec.elem) bs
  if x.spec.op = 2 then putAt (List.replicate (m * x.spec.count) 0) (rankIn g.live own * x.spec.count) els
  else if x.spec.op = 3 then (if bs.isEmpty then List.replicate x.spec.count 0 else els)
  else
    let wide := if x.spec.wide then els.map (fun e => e * 2 ^ 16) else els
    wide ++ List.replicate (x.total m - els.length) (redIdentity x.spec.wireFmt x.spec.red)

/-- Data begins to move. -/
def State.beginColl (s : State) (x : Coll) (bs : List Byte) : State :=
  let gs := s.group x.slot
  let own := s.position
  let m := gs.live.length
  let x := { x with phase := .running, buf := x.fill gs own bs, last := s.absMin, stage := 0, got := [], partials := [], delivered := [],
                    outq := [], sent := [] }
  if x.ring then
    let x := match x.view gs own with
      | some v => { x with outq := x.firstSends v }
      | none => x
    let s := s.setColl x
    let s := if x.spec.op = 2 then s.writeResult x gs (rankIn gs.live own * x.spec.count) ((x.buf.drop (rankIn gs.live own * x.spec.count)).take x.spec.count)
      else s
    s.runColl x.slot x.cseq (x.turns + 2 * m)
  else
    let q := x.treeRoot gs
    let s := s.setColl x
    let s := (List.range (x.treeChunks m)).foldl (fun s k =>
      match s.coll x.slot x.cseq with
      | none => s
      | some y =>
        let i := treeIndex m q (k % 2) (rankIn gs.live own)
        if x.spec.op = 3 then (if x.spec.root = own then s.deliver y gs own k else s)
        else if x.spec.op = 2 then (if k / max 1 x.perRank = rankIn gs.live own then s.risen y gs own k else s)
        else if (treeKids m i).isEmpty then s.risen y gs own k
        else s) s
    s.runColl x.slot x.cseq x.turns

/-- A COLLECTIVE with staging launches, from its START Minute on when it is TIMED, once its data can be read. -/
def State.tryLaunch (s : State) (g cseq : Nat) : State :=
  match s.coll g cseq with
  | none => s
  | some x =>
    let early : Bool := match (s.desc x.ctx x.idx).bind (fun d => d.start) with
      | some m => decide (s.absMin < m)
      | none => false
    if x.phase ≠ .reserved ∨ early = true then s
    else if x.reads s.position then
      match (s.setLnk { s.lnk with who := some (x.ctx, x.idx, 99) }).vread 0 x.ctx x.src (x.spec.count * x.spec.elem) with
      | .error f => s.askOrFault x.ctx x.idx f
      | .ok bs => s.beginColl x bs
    else s.beginColl x []

/-- The COLLECTIVE longest since its GO reserves its staging when it is free, and launches; then the next (R390). -/
def State.reserveNext (s : State) : Nat → State
  | 0 => s
  | n + 1 =>
    match s.col.goOrder with
    | [] => s
    | (g, cseq) :: rest =>
      match s.coll g cseq with
      | none => (s.setCol { s.col with goOrder := rest }).reserveNext n
      | some x =>
        if s.staged + s.stagingFor x.spec ≤ s.stageMib * 0x100000 then
          let s := s.setCol { s.col with goOrder := rest }
          ((s.setColl { x with phase := .reserved, staged := s.stagingFor x.spec }).tryLaunch g cseq).reserveNext n
        else s

end Sys2Proof.Machine
end

