-- ==== Sys2Proof/Machine/Collective.lean ====
section
/-! DEFINITION. Machine/Collective.lean: COLLECTIVE descriptors, their agreement, chunks, leases and slices (R381, R385 to R395, R412 to R415). -/

namespace Sys2Proof.Machine

/-! ### Descriptors that act on a slot (R381) -/

/-- A descriptor that starts on slot `g` completes GROUP_REFUSED (R415). -/
def State.refuseStart (s : State) (c : Nat) (d : Desc) (g reason : Nat) : State :=
  ((s.setGroup g { s.group g with reason := reason }).colCount 9 1).finishFail c d 0x30 reason

/-- A descriptor with an old GEN or EPOCH completes STALE_EPOCH, and shows the slot's current epoch (R381, R450). -/
def State.staleStart (s : State) (c : Nat) (d : Desc) (g : Nat) : State :=
  if s.inBracket c then (s.bump 0xE0054 32 1).bracketFail c d 1 0x20 (resGroup g) else s.staleUse c d (resGroup g)

/-- The judgement of R381 and R406: the state with the descriptor refused, or none when it acts. A slot still forming is taken as not formed
but for a dissolve. -/
def State.judgeSlot (s : State) (c : Nat) (d : Desc) (g : Nat) (dissolve : Bool) : Option State :=
  let x := s.group g
  if x.state = .free ∨ x.ctx ≠ c then some (s.refuseStart c d g 13)
  else if x.gen ≠ (s.ctx c).gen ∨ d.epoch ≠ s.gepoch g then some (s.staleStart c d g)
  else if dissolve then none
  else match x.state with
    | .dissolved => some (s.refuseStart c d g 10)
    | .excluded => some (s.refuseStart c d g 11)
    | .forming => some (s.refuseStart c d g 13)
    | _ => none

/-! ### COLLECTIVE (R385, R387, R388) -/

/-- GROUP of a COLLECTIVE. -/
def collSlot (d : Desc) : Nat := dfld d.words 5 0 6

/-- What a COLLECTIVE announces (R388). -/
def State.announceOf (s : State) (d : Desc) : Announce :=
  { op := dfld d.words 5 8 3, red := dfld d.words 5 12 2, dtype := dfld d.words 5 16 8, wide := dbit d.words 5 26, algo := dfld d.words 5 24 2 % 3,
    count := dfld d.words 4 0 32, root := dfld d.words 5 40 7,
    chunkLog := if dfld d.words 5 32 5 = 0 then s.colChunkLog else dfld d.words 5 32 5, timed := d.timed, start := d.startStamp }

/-- Bytes DST may receive here at most (R387). -/
def State.dstBytes (s : State) (d : Desc) : Nat :=
  let a := s.announceOf d
  let x := s.group (collSlot d)
  match a.op with
  | 1 => ceilDiv a.count (max 1 x.minLive) * a.elem
  | 2 => x.members.length * a.count * a.elem
  | 4 => if a.root = s.position then a.count * a.elem else 0
  | _ => a.count * a.elem

/-- The conditions of R387 (R100). -/
def State.collChecks (s : State) (d : Desc) : List (Bool × Nat) :=
  let a := s.announceOf d
  let src := dword d.words 2
  let dst := dword d.words 3
  let log := dfld d.words 5 32 5
  rsvChecks d.words [(4, 0xFFFFFFFF), (5, 0x7F1F07FF373F), (6, 0), (7, 0)] ++
  [ (decide (src % 64 ≠ 0) || decide (dst % 64 ≠ 0), 16),
    (decide (0 < s.dstBytes d) && decide (src < dst + s.dstBytes d) && decide (dst < src + a.count * a.elem), 16),
    (decide (a.count = 0) || decide (2 ^ 30 < a.count), 32),
    (decide (a.op = 2) && decide (2 ^ 38 < (s.group (collSlot d)).members.length * a.count * a.elem), 32),
    (decide (a.dtype < 6) || decide (8 < a.dtype) || decide (a.red = 3) || decide (4 < a.op), 40),
    ((decide (a.op = 2) || decide (a.op = 3)) && decide (a.red ≠ 0), 40),
    ((decide (1 ≤ log) && decide (log ≤ 13)) || decide (20 < log), 40),
    (a.wide && (decide (a.dtype ≠ 6) || decide (a.red ≠ 0)), 40),
    (decide (a.root ≠ 0) && decide (a.op ≠ 3) && decide (a.op ≠ 4), 40) ]

/-- Whether RING is chosen (R395). -/
def State.ringChosen (s : State) (a : Announce) (g : GroupSlot) : Bool :=
  decide (a.op ≤ 2) && g.full &&
    (decide (a.algo = 1) || (decide (a.algo = 0) && decide (s.fld 0x70000 13 11 * 1024 ≤ a.count * a.elem)))

/-- A COLLECTIVE as it starts. -/
def State.newColl (s : State) (c : Nat) (d : Desc) : Coll :=
  let g := collSlot d
  { slot := g, cseq := (s.group g).cseq, ctx := c, gen := (s.ctx c).gen, idx := d.idx, spec := s.announceOf d, src := dword d.words 2,
    dst := dword d.words 3, phase := .announced, ring := false, staged := 0, buf := [], stage := 0, got := [], partials := [],
    delivered := [], early := [], outq := [], sent := [], resent := 0, last := s.absMin, untold := false }

/-- Bytes a COLLECTIVE sends from here, and bytes it reduces, as its sizes imply (R422). -/
def Coll.share (x : Coll) (g : GroupSlot) (own : Nat) : Nat × Nat :=
  let m := g.live.length
  if x.ring then
    (List.range 6).foldl (fun a st =>
      match { x with stage := st }.view g own with
      | some v => (a.1 + (v.line.length - 1) * v.part * v.elem, a.2 + (if v.gather then 0 else (v.line.length - 1) * v.part * v.elem))
      | none => a) (0, 0)
  else
    (List.range 2).foldl (fun a t =>
      let i := treeIndex m (x.treeRoot g) t (rankIn g.live own)
      let mine := (List.range (x.treeChunks m)).filter (fun k => decide (k % 2 = t))
      let size := fun (ks : List Nat) => (ks.map (fun k => (x.treeSpan k).2)).foldl (· + ·) 0
      let kids := (treeKids m i).length
      let up := if i = 0 ∨ x.spec.op = 3 then 0
        else if x.spec.op = 2 then
          size (mine.filter (fun k => treeUnder i 8 (treeIndex m (x.treeRoot g) t (k / max 1 x.perRank)))) * x.spec.elem
        else size mine * x.spec.wireElem
      let down := ((treeKids m i).map (fun j => size (mine.filter (fun k => x.goesDown g k j)))).foldl (· + ·) 0 * x.spec.elem
      (a.1 + up + down, a.2 + (if x.spec.reduces then kids * size mine * x.spec.wireElem else 0))) (0, 0)

/-- The estimate the Ledger admits (R412, R422). -/
def State.collEst (s : State) (c : Nat) (d : Desc) : Nat :=
  let g := s.group (collSlot d)
  if g.alive && decide (0 < g.live.length) then
    let x := { s.newColl c d with ring := s.ringChosen (s.announceOf d) g }
    let b := x.share g s.position
    s.colEnergy b.1 (b.1 + b.2)
  else 0

/-- The fields of an ANNOUNCE as message arguments. -/
def announceArgs (a : Announce) : List Nat :=
  [a.op, a.red, a.dtype, b2n a.wide, a.algo, a.count, a.root, a.chunkLog, b2n a.timed, a.start]

/-- The ANNOUNCE of a COLLECTIVE goes to the leader (R388); while Night is pending nothing is announced, and it waits (R435). -/
def State.announce (s : State) (x : Coll) : State :=
  if s.pwr.pendingReq = 3 then
    s.setCol { s.col with colls := s.col.colls.map (fun y =>
      if y.slot = x.slot ∧ y.cseq = x.cseq then { y with untold := true } else y) }
  else match (s.group x.slot).leader 128 with
  | some p =>
    s.colMsg p .announce ([x.slot, s.gepoch x.slot, x.cseq] ++ announceArgs x.spec ++ [b2n s.day.instValid]) [] (some (x.ctx, x.gen, x.idx))
  | none => s

/-- The start of a COLLECTIVE whose OP `mine` accepts. -/
def State.startColl (s : State) (c : Nat) (mine : Nat → Bool) : State :=
  match s.begin c (fun d => d.kind == kindCollective && mine (dfld d.words 5 8 3)) (fun _ => decide (s.col.colls.length < 16)) (s.collEst c)
      s.collChecks with
  | .no s => s
  | .go d s =>
    match s.judgeSlot c d (collSlot d) false with
    | some s => s
    | none =>
      let x := s.newColl c d
      let gs := s.group x.slot
      let s := s.setGroup x.slot { gs with cseq := (gs.cseq + 1) % 2 ^ 32 }
      (s.setCol { s.col with colls := s.col.colls ++ [x] }).announce x

/-- COLLECTIVE_ALL_REDUCE (R385 to R389); the row also takes the unused values of OP, which are malformed. -/
def execCollectiveAllReduce (c : CtxId) (s : State) : Result := .next (s.startColl c.val (fun op => op == 0 || decide (4 < op)))

/-- COLLECTIVE_REDUCE_SCATTER. -/
def execCollectiveReduceScatter (c : CtxId) (s : State) : Result := .next (s.startColl c.val (fun op => op == 1))

/-- COLLECTIVE_ALL_GATHER. -/
def execCollectiveAllGather (c : CtxId) (s : State) : Result := .next (s.startColl c.val (fun op => op == 2))

/-- COLLECTIVE_BROADCAST. -/
def execCollectiveBroadcast (c : CtxId) (s : State) : Result := .next (s.startColl c.val (fun op => op == 3))

/-- COLLECTIVE_REDUCE. -/
def execCollectiveReduce (c : CtxId) (s : State) : Result := .next (s.startColl c.val (fun op => op == 4))

/-! ### Agreement (R388 to R390) -/

/-- The first failing reason of Table 13.9 that the leader finds, or none. -/
def State.leaderReason (s : State) (g : GroupSlot) (l : List (Nat × Announce × Bool)) : Option Nat :=
  if l.any (fun e => !e.2.2) then some 3
  else match l with
    | [] => none
    | (_, a, _) :: rest =>
      if rest.any (fun e => decide (e.2.1 ≠ a)) then some 7
      else if s.stageMib * 0x100000 < s.stagingFor a then some 8
      else if (a.op = 3 ∨ a.op = 4) ∧ !g.live.contains a.root then some 9
      else none

/-- The highest CSEQ that received GO. -/
def maxGo (a : Option Nat) (cseq : Nat) : Option Nat := some (max (a.getD 0) cseq)

/-- The leader answers each CSEQ of its announce table (64 entries) for which every live member has announced. -/
def State.answerAnnounces (s : State) : Nat → State
  | 0 => s
  | n + 1 =>
    match (s.col.table.take 64).find? (fun e => (s.group e.1).live.all (fun p => e.2.2.any (fun a => decide (a.1 = p)))) with
    | none => s
    | some (g, cseq, l) =>
      let gs := s.group g
      let s := s.setCol { s.col with table := s.col.table.filter (fun e => !(decide (e.1 = g) && decide (e.2.1 = cseq))) }
      match s.leaderReason gs l, l with
      | some r, _ => (s.tell gs.live .refuse [g, s.gepoch g, cseq, r]).answerAnnounces n
      | none, (_, a, _) :: _ =>
        let s := s.setGroup g { gs with goMax := maxGo gs.goMax cseq }
        (s.tell gs.live .go [g, s.gepoch g, cseq, b2n (s.ringChosen a gs)]).answerAnnounces n
      | none, [] => s

/-- ANNOUNCE_RX (R388, R391, R395): the leader takes a live member's ANNOUNCE under its current group epoch. -/
def execAnnounceRx (from_ : Nat) (g : Fin 64) (gepoch cseq : Nat) (a : Announce) (valid : Bool) (s : State) : Result :=
  s.arrive (.announceRx from_ g gepoch cseq a valid) (fun s =>
    let x := s.group g.val
    if !x.alive || decide (gepoch ≠ s.gepoch g.val) || !x.live.contains from_ || decide (x.leader 128 ≠ some s.position) then .next s
    else
      let old := ((s.col.table.find? (fun e => decide (e.1 = g.val) && decide (e.2.1 = cseq))).map (fun e => e.2.2)).getD []
      let l := old.filter (fun e => decide (e.1 ≠ from_)) ++ [(from_, a, valid)]
      let t := if s.col.table.any (fun e => decide (e.1 = g.val) && decide (e.2.1 = cseq)) then
          s.col.table.map (fun e => if e.1 = g.val ∧ e.2.1 = cseq then (g.val, cseq, l) else e)
        else s.col.table ++ [(g.val, cseq, l)]
      .next ((s.setCol { s.col with table := t }).answerAnnounces (t.length + 1)))

/-- A COLLECTIVE leaves without effect and completes GROUP_REFUSED. -/
def State.refuseColl (s : State) (x : Coll) (reason : Nat) : State := (s.dropColl x.slot x.cseq).groupRefused x.slot x.ctx x.idx reason

/-- GO_RX (R388 to R390, R394): the COLLECTIVE reserves its staging, in the order of GO, and launches. -/
def execGoRx (g : Fin 64) (gepoch cseq : Nat) (ring : Bool) (s : State) : Result :=
  s.arrive (.goRx g gepoch cseq ring) (fun s =>
    match (s.coll g.val cseq).filter (fun x => decide (x.phase = .announced) && decide (gepoch = s.gepoch g.val)) with
    | none => .next s
    | some x =>
      let s := s.setGroup g.val { s.group g.val with goMax := maxGo (s.group g.val).goMax cseq }
      if s.stageMib * 0x100000 < s.stagingFor x.spec then .next (s.refuseColl x 8)
      else
        let s := s.setColl { x with phase := .staging, ring := ring }
        .next ((s.setCol { s.col with goOrder := s.col.goOrder ++ [(g.val, cseq)] }).reserveNext (s.col.goOrder.length + 2)))

/-- REFUSE_RX (R388): no data moves. -/
def execRefuseRx (g : Fin 64) (gepoch cseq reason : Nat) (s : State) : Result :=
  s.arrive (.refuseRx g gepoch cseq reason) (fun s =>
    match (s.coll g.val cseq).filter (fun x => decide (x.phase = .announced) && decide (gepoch = s.gepoch g.val)) with
    | none => .next s
    | some x => .next (s.refuseColl x reason))

/-- STAGING_RESERVED (R390). -/
def execStagingReserved (s : State) : Result := .next (s.reserveNext (s.col.goOrder.length + 1))

/-- COLLECTIVE_LAUNCH (R51, R389): the launch window of a TIMED COLLECTIVE's START Minute. -/
def execCollectiveLaunch (g : Fin 64) (cseq : Nat) (s : State) : Result :=
  if s.turn (.launch g.val cseq) then .next ((s.fired (.launch g.val cseq)).tryLaunch g.val cseq) else .next s

/-! ### Chunks (R391, R414) -/

/-- COLLECTIVE_CHUNK_RX (R391 to R394, R409): a chunk of the current group epoch is checked, taken when it can be, and acknowledged; a bad CRC
is answered NACK. -/
def execCollectiveChunkRx (from_ : Nat) (h : ChunkHead) (data : List Byte) (crc : BitVec 32) (s : State) : Result :=
  s.arrive (.collectiveChunkRx from_ h data crc) (fun s =>
    let g := h.slot.val
    let gs := s.group g
    let e : ColEarly := { from_ := from_, flags := h.flags, step := h.step, chunk := h.chunk, data := data }
    if !gs.alive || decide (h.gepoch ≠ s.gepoch g) then .next s
    else if crc32c data ≠ crc.toNat then
      .next ((s.colCount 2 1).colMsg from_ .colNack [g, s.gepoch g, h.cseq, h.flags, h.step, h.chunk] [] none)
    else match s.coll g h.cseq with
      | none => .next (if h.cseq < gs.cseq then s.ackChunk g h.cseq e else s)
      | some x =>
        if x.phase = .running ∧ x.taken gs s.position e then .next (s.ackChunk g h.cseq e)
        else if x.early.any (fun y => decide (y.from_ = from_) && decide (y.flags = h.flags) && decide (y.step = h.step) && decide (y.chunk = h.chunk))
        then .next s
        else .next ((s.setColl { x with early := x.early ++ [e] }).runColl g h.cseq (x.turns + 2)))

/-- A COLLECTIVE's leases stall or expire: COL_CNT_8, LEASE_EXPIRED, and SUSPECTs for the members named (R403, R414). -/
def State.leaseStalls (s : State) (x : Coll) (ps : List Nat) : State :=
  let s := ((s.setColl { x with last := s.absMin }).colCount 8 1).colFlag 1 x.slot
  ps.foldl (fun s p => s.suspect x.slot p) s

/-- COLLECTIVE_ACK_RX (R390, R391, R414, R423): the staging copy and the slice slot return and the chunk is charged; or the chunk is sent again,
and one NACKed four times in a row stalls. -/
def execCollectiveAckRx (from_ : Nat) (h : ChunkHead) (nack : Bool) (s : State) : Result :=
  s.arrive (.collectiveAckRx from_ h nack) (fun s =>
    let g := h.slot.val
    let mine := fun (c : ColSend) => decide (c.dst = from_) && decide (c.flags = h.flags) && decide (c.step = h.step) && decide (c.chunk = h.chunk)
    match (s.coll g h.cseq).filter (fun _ => decide (h.gepoch = s.gepoch g)) with
    | none => .next s
    | some x =>
      match x.sent.find? mine with
      | none => .next s
      | some c =>
        if nack then
          if 4 ≤ c.nacks + 1 then .next (s.leaseStalls { x with sent := x.sent.map (fun y => if mine y then { y with nacks := 0 } else y) } [from_])
          else
            let x := { x with resent := x.resent + 1, sent := x.sent.map (fun y => if mine y then { y with nacks := y.nacks + 1 } else y) }
            .next (((s.setColl x).colCount 4 1).sendChunk x c)
        else
          let s := s.setColl { x with sent := x.sent.filter (fun y => !mine y), last := s.absMin }
          let s := s.dropSlice x (if x.ring then h.step else 0) h.flags h.chunk
          let s := s.chargeDesc x.ctx x.idx (s.colEnergy c.data.length c.data.length)
          .next (s.runColl g h.cseq x.turns).runColls)

/-- COLLECTIVE_LEASE_EXPIRY (R51, R403): LEASE_MIN Minutes without progress, in its turn among the events of the Minute; the members that have not
acknowledged, or all others, are suspected. -/
def execCollectiveLeaseExpiry (g : Fin 64) (cseq : Nat) (s : State) : Result :=
  if !s.turn (.collLease g.val cseq) then .next s
  else
    let s := s.fired (.collLease g.val cseq)
    match (s.coll g.val cseq).filter (fun x => decide (0 < x.staged) && decide (x.last + s.colLease ≤ s.absMin)) with
    | none => .next s
    | some x =>
      let waiting := (x.sent.map (fun c => c.dst)).eraseDups
      let others := (s.group g.val).live.filter (fun p => decide (p ≠ s.position))
      .next (s.leaseStalls x (if waiting.isEmpty then others else waiting))

/-- Slice position `n` fails: a spare takes it, and the chunks it was reducing are sent again from staging to another active slice, counted as
re-sent in COL_CNT_4 and for their COLLECTIVE (R395). With no healthy slice left the package leaves every group (R412, R413). -/
def State.sliceFails (s : State) (n cause : Nat) : State :=
  let phys := s.sliceAt n
  let moved := s.col.slices.filter (fun l => decide (l.pos = n))
  let s := (s.colCount 4 moved.length).substSlice n cause
  let s := s.colFlag 3 phys
  let s := s.setCol { s.col with slices := s.col.slices.filter (fun l => decide (l.pos ≠ n)) }
  let s := s.setCol { s.col with colls := s.col.colls.map (fun x =>
    { x with resent := x.resent + (moved.filter (fun l => decide (l.slot = x.slot) && decide (l.cseq = x.cseq))).length }) }
  let s := moved.foldl (fun s l => match s.freeSlice with
    | some p => s.setCol { s.col with slices := s.col.slices ++ [{ l with pos := p }] }
    | none => s) s
  if (List.range 8).any s.sliceActive then s else (s.colFlag 4 phys).suspectSelf

/-- RESIDUE_MISMATCH (R412, R413): the slice is fenced. -/
def execResidueMismatch (n : Fin 8) (s : State) : Result :=
  if s.sliceAt n.val = 15 then .next s
  else .next (((s.colCount 3 1).setDp (44 + n.val) true).sliceFails n.val 2)

end Sys2Proof.Machine
end

