-- ==== Sys2Proof/Machine/Group.lean ====
section
/-! DEFINITION. Machine/Group.lean: forming and dissolving a collective group, and re-forming one without a lost member (R380 to R384, R403 to
R406, R412). -/

namespace Sys2Proof.Machine

/-! ### GROUP_FORM (R380 to R383) -/

/-- GROUP of a GROUP_FORM. -/
def formSlot (d : Desc) : Nat := dfld d.words 2 0 6

/-- Whether a GROUP_FORM dissolves. -/
def dissolves (d : Desc) : Bool := dbit d.words 2 63

/-- SHAPE. -/
def formShape (w : Nat) : Nat := bitsOf w 8 3

/-- The anchor. -/
def formAnchor (w : Nat) : Nat × Nat × Nat := (bitsOf w 16 2, bitsOf w 20 2, bitsOf w 24 3)

/-- The conditions under which a GROUP_FORM is malformed (R100, R382). -/
def formChecks (d : Desc) : List (Bool × Nat) :=
  if dissolves d then rsvChecks d.words [(2, 2 ^ 63 + 0x3F), (3, 0), (4, 0), (5, 0), (6, 0), (7, 0)]
  else
    (decide (d.epoch ≠ 0), 4) :: rsvChecks d.words [(2, 0x800000000000003F + 0x7F00000000 + 0x7330700), (3, 2 ^ 48 - 1), (4, 0), (5, 0), (6, 0), (7, 0)]

/-- Why this package refuses a formation before it sends JOIN (Table 13.9 reasons 4, 1 and 2). -/
def State.formReason (s : State) (g w : Nat) : Option Nat :=
  let shape := formShape w
  let anchor := formAnchor w
  if (s.group g).state ≠ .free then some 4
  else if (spansZ shape ∧ s.lnk.zLen = 1) ∨ anchorUnused shape anchor then some 1
  else if !s.posValid || !shapeCovers shape anchor s.lnk.zLen s.position then some 2
  else none

/-- The handshake of a formation begins: the slot is FORMING and JOIN goes to the member with the lowest position (R383). -/
def State.startForm (s : State) (c g w2 w3 : Nat) (idx : Option Nat) : State :=
  let shape := formShape w2
  let anchor := formAnchor w2
  let ms := shapeMembers shape anchor s.lnk.zLen
  let lim := bitsOf w3 32 16
  let x := s.group g
  let s := s.setGroup g { GroupSlot.reset with state := .forming, ctx := c, gen := (s.ctx c).gen, shape := shape, anchor := anchor, tag := bitsOf w3 0 32,
                                               members := ms, minLive := minLiveOf ms.length (bitsOf w2 32 7), reason := x.reason, idx := idx,
                                               limit := if lim = 0 then none else some (s.absMin + lim + 1), joins := x.joins }
  s.colMsg (ms.headD 0) .join [g, shape, anchor.1, anchor.2.1, anchor.2.2, bitsOf w3 0 32, bitsOf w2 32 7, s.gepoch g, b2n s.day.instValid] []
    (some (c, (s.ctx c).gen, idx.getD (2 ^ 16)))

/-- A GROUP_FORM is recorded in the shadow; its handshake, or its dissolve, runs at the commit (R382). -/
def State.shadowForm (s : State) (d : Desc) : State :=
  match s.flt.bracket with
  | none => s
  | some b =>
    let f : BracketForm := { idx := d.idx, slot := formSlot d, word2 := dword d.words 2, word3 := dword d.words 3, begun := false, epoch := none }
    { s with flt := { s.flt with bracket := some { b with forms := b.forms ++ [f] } } }

/-- Whether the open bracket already forms slot `g`: its later descriptors see that (R457). -/
def State.shadowTakes (s : State) (g : Nat) : Bool :=
  (s.flt.bracket.map (fun b => b.forms.any (fun f => decide (f.slot = g) && !bitAt f.word2 63))).getD false

/-- Whether the shadow holds 4 GROUP_FORMs (R458). -/
def State.formsFull (s : State) : Bool := (s.flt.bracket.map (fun b => decide (4 ≤ b.forms.length))).getD false

/-- GROUP_FORM (R380 to R383): outside a bracket the handshake begins. Applied to a shadow it completes with a DETAIL the spec does not give. -/
def execGroupForm (c : CtxId) (s : State) : Result :=
  match s.begin c.val (fun d => d.kind == kindForm && !dissolves d) noRoom noEst formChecks with
  | .no s => .next s
  | .go d s =>
    let g := formSlot d
    match (if s.shadowTakes g then some 4 else s.formReason g (dword d.words 2)) with
    | some r => .next (s.refuseStart c.val d g r)
    | none =>
      if s.inBracket c.val && s.formsFull then .next (s.bracketFail c.val d 7 0 0)
      else if s.inBracket c.val then
        let (k, s) := (s.shadowForm d).takeFree
        .next (s.applied c.val d (k % 2 ^ 64))
      else .next (s.startForm c.val g (dword d.words 2) (dword d.words 3) (some d.idx))

/-- The group work of a slot that is dissolved here completes GROUP_REFUSED, reason 10 (R412). -/
def State.endRefused (g reason : Nat) : State → Nat → Nat → State := fun s c idx => s.groupRefused g c idx reason

/-- This package dissolves its membership of a slot (R384, R412). -/
def State.dissolveSlot (s : State) (g : Nat) : State :=
  let s := match (s.group g).idx with
    | some i => s.groupRefused g (s.group g).ctx i 10
    | none => s
  s.leaveGroup g true (State.endRefused g 10)

/-- GROUP_DISSOLVE (R381, R384): the package leaves at once; in a bracket, at the commit. -/
def execGroupDissolve (c : CtxId) (s : State) : Result :=
  match s.begin c.val (fun d => d.kind == kindForm && dissolves d) noRoom noEst formChecks with
  | .no s => .next s
  | .go d s =>
    let g := formSlot d
    match s.judgeSlot c.val d g true with
    | some s => .next s
    | none =>
      if s.inBracket c.val && s.formsFull then .next (s.bracketFail c.val d 7 0 0)
      else if s.inBracket c.val then .next ((s.shadowForm d).applied c.val d 0)
      else .next ((s.dissolveSlot g).finishOk c.val d 0)

/-! ### The handshake (R383) -/

/-- The formation of slot `g` is answered: every member of it hears that, and the JOINs are used up. -/
def State.answerJoins (s : State) (g : Nat) (ps : List Nat) (kind : MsgKind) (v : Nat) : State :=
  (s.setGroup g { s.group g with joins := [] }).tell ps kind [g, v]

/-- JOIN_RX (R383): at the lowest member, JOINs that disagree or come without INST_VALID refuse the formation; when every member's is here,
FORMED names the epoch after the largest last epoch. -/
def execJoinRx (from_ : Nat) (g : Fin 64) (j : Join) (s : State) : Result :=
  s.arrive (.joinRx from_ g j) (fun s =>
    let ms := shapeMembers j.shape j.anchor s.lnk.zLen
    if !ms.contains from_ || decide (ms.head? ≠ some s.position) then .next s
    else
      let x := s.group g.val
      let l := x.joins.filter (fun e => decide (e.1 ≠ from_)) ++ [(from_, j)]
      let same := fun (a b : Join) => decide (a.shape = b.shape) && decide (a.anchor = b.anchor) && decide (a.tag = b.tag) && decide (a.minLive = b.minLive)
      let froms := l.map (fun e => e.1)
      let all := (l.flatMap (fun e => shapeMembers e.2.shape e.2.anchor s.lnk.zLen)).eraseDups
      if l.any (fun e => !same e.2 j) then .next (s.answerJoins g.val all .formRefused 5)
      else if !j.valid then .next (s.answerJoins g.val all .formRefused 3)
      else if ms.all (fun p => froms.contains p) then
        .next (s.answerJoins g.val ms .formed (nextEpoch ((l.map (fun e => e.2.last)).foldl max 0)))
      else .next (s.setGroup g.val { x with joins := l }))

/-- The GROUP_FORM that waits on slot `g` ends refused, and the slot is FREE again. -/
def State.formFails (s : State) (g reason : Nat) : State :=
  let x := s.group g
  let s := s.setGroup g { GroupSlot.reset with reason := reason, joins := x.joins }
  match x.idx with
  | some i => s.groupRefused g x.ctx i reason
  | none =>
    let s := s.colCount 9 1
    if (s.flt.bracket.map (fun b => b.committing)).getD false then s.rollbackFor (rollbackDetail 3 0x30 reason) else s

/-- FORMED_RX (R383): the slot is FORMED under its new epoch and the GROUP_FORM completes with epoch, member count and rank; or the formation is
refused. -/
def execFormedRx (g : Fin 64) (epoch reason : Nat) (s : State) : Result :=
  s.arrive (.formedRx g epoch reason) (fun s =>
    let x := s.group g.val
    if x.state ≠ .forming then .next s
    else if reason ≠ 0 then .next (s.formFails g.val reason)
    else
      let e := epoch % 2 ^ 32
      let s := (s.setEpoch (resGroup g.val) e).setGroup g.val { x with state := .formed, live := x.members, idx := none, limit := none }
      match x.idx with
      | some i =>
        .next (s.endDesc x.ctx i 0 (e + x.members.length * 2 ^ 32 + rankIn x.members s.position * 2 ^ 40) 0)
      | none =>
        match s.flt.bracket with
        | some b => .next { s with flt := { s.flt with bracket := some { b with forms := b.forms.map (fun f =>
            if f.slot = g.val ∧ f.begun then { f with epoch := some e } else f) } } }
        | none => .next s)

/-- FORM_LIMIT_EXPIRY (R382, Table 13.9 reason 6). -/
def execFormLimitExpiry (g : Fin 64) (s : State) : Result :=
  let x := s.group g.val
  match x.limit with
  | some m => if x.state = .forming ∧ m ≤ s.absMin then .next (s.formFails g.val 6) else .next s
  | none => .next s

/-! ### Re-forming (R403 to R406, R412) -/

/-- Slot `g` was fenced: an open bracket that dissolves it relied on the fenced epoch and rolls back (R404, R451, Table 15.4 reason 4). -/
def State.dissolveFenced (s : State) (g : Nat) : State :=
  match s.flt.bracket with
  | none => s
  | some b =>
    if b.forms.any (fun f => decide (f.slot = g) && bitAt f.word2 63) then
      let b := { b with forms := b.forms.filter (fun f => decide (f.slot ≠ g)) }
      ({ s with flt := { s.flt with bracket := some b } }).rollbackFor (rollbackDetail 4 0x20 (resGroup g))
    else s

/-- One step of a live member on a REFORM (R404): the new epoch, every staging and slice lease reclaimed with one record of their fence (R450), COLLECTIVEs up to `last` to be
restarted, later ones and DAWNs STALE_EPOCH. -/
def State.reform (s : State) (g epoch : Nat) (live : List Nat) (last : Option Nat) : State :=
  let x := s.group g
  let s := (s.setEpoch (resGroup g) epoch).record 0 15 0x100 x.ctx 0x204 (resGroup g)
  let s := ((s.record 4 8 0 x.ctx 34 g).bump 0xE004C 32 1).colCount 7 1
  let stale := fun (s : State) (c idx : Nat) => (s.bump 0xE0054 32 1).endDesc c idx 0x20 (resGroup g) epoch
  let keeps := fun (y : Coll) => match last with
    | some n => decide (y.cseq ≤ n)
    | none => false
  let mine := s.col.colls.filter (fun y => decide (y.slot = g))
  let s := if mine.any (fun y => decide (0 < y.staged)) then s.record 0 15 0x100 x.ctx 0x204 0 else s
  let s := mine.foldl (fun s y =>
    if keeps y then
      (s.freeColl g y.cseq).setColl { y with phase := .announced, staged := 0, buf := [], stage := 0, got := [], partials := [], delivered := [],
                                             early := [], outq := [], sent := [], last := s.absMin }
    else stale (s.dropColl g y.cseq) y.ctx y.idx) s
  let s := (s.col.dawns.filter (fun d => decide (d.slot = g))).foldl (fun s d => stale (s.dropDawn g d.dseq) d.ctx d.idx) s
  let s := (s.dropTraffic g).setGroup g { s.group g with state := .reforming, live := live, dseq := 0, goMax := last,
                                                         cseq := match last with
                                                           | some n => (n + 1) % 2 ^ 32
                                                           | none => 0 }
  (s.colFlag 0 g).dissolveFenced g

/-- The slot ends DISSOLVED or EXCLUDED (R406): its work completes with the reason. -/
def State.endSlot (s : State) (g : Nat) (st : GroupState) (reason : Nat) : State :=
  let s := s.endGroupWork g (State.endRefused g reason)
  (s.setGroup g { s.group g with state := st, reason := reason, suspects := [], leavers := [], gatherAt := none, probing := [], probeAt := none,
                                 acks := [] }).colFlag 2 g

/-- What a REFORM means here: an empty set dissolves the group, one without this package excludes it. -/
def State.applyReform (s : State) (g epoch : Nat) (live : List Nat) (last : Option Nat) : State :=
  if live.isEmpty then s.endSlot g .dissolved 10
  else if !live.contains s.position then s.endSlot g .excluded 11
  else s.reform g epoch live last

/-- RESUME: the slot is FORMED again, and restarted COLLECTIVEs announce themselves again for a new GO (R404). -/
def State.resume (s : State) (g : Nat) : State :=
  let s := s.setGroup g { s.group g with state := .formed, acks := [] }
  (s.col.colls.filter (fun y => decide (y.slot = g) && decide (y.phase = .announced))).foldl (fun s y => s.announce y) s

/-- The leader sends RESUME once every REFORM_ACK is here. -/
def State.tryResume (s : State) (g : Nat) : State :=
  let x := s.group g
  if x.state = .reforming ∧ x.acks.isEmpty ∧ x.gatherAt.isNone ∧ x.probeAt.isNone then
    (s.tell (x.live.filter (fun p => decide (p ≠ s.position))) .resume [g, s.gepoch g]).resume g
  else s

/-- The leader decides the new live set and sends REFORM to every member that was live; it acts on it itself (R403, R404, R406). A
suspect named while the PROBEs were out was not PROBEd: it is gathered anew, for a further REFORM (R412; assumption 93). -/
def State.decideReform (s : State) (g : Nat) : State :=
  let x := s.group g
  let live := x.live.filter (fun p => !x.probing.contains p && !x.leavers.contains p)
  let live := if live.length < x.minLive then [] else live
  let e := nextEpoch (s.gepoch g)
  let late := x.suspects.filter (fun p => live.contains p)
  let s := s.setGroup g { x with suspects := late, leavers := [], gatherAt := if late.isEmpty then none else some (s.clk + 5000),
                                 probing := [], probeAt := none }
  let args := [g, e] ++ (match x.goMax with
    | some n => [1, n]
    | none => [0, 0]) ++ live
  let s := (s.tell (x.live.filter (fun p => decide (p ≠ s.position))) .reform args).applyReform g e live x.goMax
  if live.contains s.position then
    (s.setGroup g { s.group g with acks := live.filter (fun p => decide (p ≠ s.position)) }).tryResume g
  else s

/-- SUSPECT_RX (R403, R412): the leader, or the member that takes a lost leader's place, gathers SUSPECTs for 5 us. -/
def execSuspectRx (from_ : Nat) (g : Fin 64) (gepoch lost t : Nat) (s : State) : Result :=
  s.arrive (.suspectRx from_ g gepoch lost t) (fun s =>
    let s := s.reachClk t
    let x := s.group g.val
    if !x.alive || decide (gepoch ≠ s.gepoch g.val) || !x.live.contains from_ || !x.live.contains lost || decide (x.leader lost ≠ some s.position)
    then .next s
    else
      let x := if lost = from_ then { x with leavers := (x.leavers ++ [lost]).eraseDups } else { x with suspects := (x.suspects ++ [lost]).eraseDups }
      .next (s.setGroup g.val { x with gatherAt := if x.gatherAt.isSome ∨ x.probeAt.isSome then x.gatherAt else some (s.clk + 5000) }))

/-- SUSPECT_GATHER_EXPIRY (R403): each suspect is PROBEd. -/
def execSuspectGatherExpiry (g : Fin 64) (t : Nat) (s : State) : Result :=
  let s := s.reachClk t
  let x := s.group g.val
  match x.gatherAt with
  | none => .next s
  | some at_ =>
    if s.clk < at_ then .next s
    else
      let ps := x.suspects.filter (fun p => !x.leavers.contains p && decide (p ≠ s.position))
      let s := s.setGroup g.val { x with suspects := [], gatherAt := none, probing := ps, probeAt := if ps.isEmpty then none else some (s.clk + 10000) }
      let s := s.tell ps .probe [g.val, s.gepoch g.val]
      .next (if ps.isEmpty then s.decideReform g.val else s)

/-- PROBE_RX (R403): a live member answers; an answer clears its suspect, and the last one ends the wait. -/
def execProbeRx (from_ : Nat) (g : Fin 64) (gepoch : Nat) (answer : Bool) (s : State) : Result :=
  s.arrive (.probeRx from_ g gepoch answer) (fun s =>
    let x := s.group g.val
    if !x.alive || decide (gepoch ≠ s.gepoch g.val) then .next s
    else if !answer then .next (s.colMsg from_ .probeAnswer [g.val, gepoch] [] none)
    else
      let ps := x.probing.filter (fun p => decide (p ≠ from_))
      let s := s.setGroup g.val { x with probing := ps }
      .next (if x.probeAt.isSome ∧ ps.isEmpty then s.decideReform g.val else s))

/-- PROBE_TIMEOUT (R403): suspects silent for 10 us are lost. -/
def execProbeTimeout (g : Fin 64) (t : Nat) (s : State) : Result :=
  let s := s.reachClk t
  match (s.group g.val).probeAt with
  | none => .next s
  | some at_ => if s.clk < at_ then .next s else .next (s.decideReform g.val)

/-- Whether epoch `a` is newer than `b` (R412). -/
def newerEpoch (a b : Nat) : Bool := let d := (a + 2 ^ 32 - b) % 2 ^ 32; decide (0 < d) && decide (d < 2 ^ 31)

/-- REFORM_RX (R404, R406, R412): acts on the newest epoch, and acknowledges while this package stays live. -/
def execReformRx (from_ : Nat) (g : Fin 64) (epoch : Nat) (live : List Nat) (last : Option Nat) (s : State) : Result :=
  s.arrive (.reformRx from_ g epoch live last) (fun s =>
    if !(s.group g.val).alive || !newerEpoch epoch (s.gepoch g.val) then .next s
    else
      let s := s.applyReform g.val epoch live last
      .next (if live.contains s.position then s.colMsg from_ .reformAck [g.val, epoch] [] none else s))

/-- REFORM_ACK_RX (R404). -/
def execReformAckRx (from_ : Nat) (g : Fin 64) (epoch : Nat) (s : State) : Result :=
  s.arrive (.reformAckRx from_ g epoch) (fun s =>
    let x := s.group g.val
    if x.state = .reforming ∧ epoch = s.gepoch g.val ∧ x.acks.contains from_ then
      .next ((s.setGroup g.val { x with acks := x.acks.filter (fun p => decide (p ≠ from_)) }).tryResume g.val)
    else .next s)

/-- RESUME_RX (R404). -/
def execResumeRx (g : Fin 64) (epoch : Nat) (s : State) : Result :=
  s.arrive (.resumeRx g epoch) (fun s =>
    if (s.group g.val).state = .reforming ∧ epoch = s.gepoch g.val then .next (s.resume g.val) else .next s)

end Sys2Proof.Machine
end

