-- ==== Sys2Proof/Machine/Dawn.lean ====
section
/-! DEFINITION. Machine/Dawn.lean: the Dawn path: DAWN descriptors, slots, hops and resends (R397 to R401, R405). -/

namespace Sys2Proof.Machine

/-! ### Slots (R399) -/

/-- A slot with its CRC over bits [119:0], taken from bit 119 down. -/
def dawnSlot (body : Nat) : Nat := body % 2 ^ 120 + crc8 (leBytes 15 body).reverse * 2 ^ 120

/-- Whether a slot's CRC holds. -/
def dawnOk (v : Nat) : Bool := v == dawnSlot v

/-- The VALUE slot of part `part` of a value (Table 13.7). -/
def valueSlot (g etag dseq origin part : Nat) (last : Bool) (op red dtype nbytes data : Nat) : Nat :=
  dawnSlot (2 ^ 110 + g * 2 ^ 104 + etag % 16 * 2 ^ 100 + dseq * 2 ^ 92 + origin * 2 ^ 85 + part * 2 ^ 82 + b2n last * 2 ^ 81 + op * 2 ^ 79
    + red * 2 ^ 77 + dtype * 2 ^ 75 + nbytes * 2 ^ 68 + data % 2 ^ 64)

/-- The ACK slot of a VALUE slot: GROUP, ETAG, DSEQ, ORIGIN and PART. -/
def ackSlot (v : Nat) : Nat := dawnSlot (2 * 2 ^ 110 + bitsOf v 82 28 * 2 ^ 82)

/-- What an ACK and its VALUE share. -/
def slotKey (v : Nat) : Nat := bitsOf v 82 28

/-- Whether port `p` carries Dawn slots: a torus port that is UP with DAWN in use. -/
def State.dawnPort (s : State) (p : Nat) : Bool := decide (p < 6) && decide ((s.port p).state = .up) && s.capable p 8

/-- The place of a slot among those that wait on a port: by DSEQ, then ORIGIN, then PART (R401). -/
def sendRank (v : Nat) : Nat := bitsOf v 92 8 * 2 ^ 10 + bitsOf v 82 10

/-- A slot put in its place among sorted ones. -/
def insertSlot (e : Nat × Nat × Option Nat) : List (Nat × Nat × Option Nat) → List (Nat × Nat × Option Nat)
  | [] => [e]
  | x :: xs => if sendRank e.2.1 ≤ sendRank x.2.1 then e :: x :: xs else x :: insertSlot e xs

/-- A VALUE slot waits on port `p` until it is acknowledged, and goes out at once when the port carries it and is within its 64 slots. -/
def State.queueValue (s : State) (p v : Nat) : State :=
  let mine := s.col.sendq.filter (fun e => decide (e.1 = p))
  if mine.any (fun e => decide (e.2.1 = v)) then s
  else
    let go := s.dawnPort p && decide (mine.length < 64)
    let s := s.setCol { s.col with sendq := s.col.sendq ++ [(p, v, if go then some s.clk else none)] }
    if go then s.sendSlot p v else s

/-! ### Lines (R400) -/

/-- The axes a group's Dawn phases run over, X first. -/
def dawnAxes (x : GroupSlot) (own : Nat) : List Nat := [0, 1, 2].filter (fun a => decide (1 < (lineOf x.live a own).length))

/-- Packages on axis `a` of the installation. -/
def State.axisLen (s : State) (a : Nat) : Nat := if a = 2 then s.lnk.zLen else 4

/-- The next position on axis `a` in the P direction or (`n`) the N direction. -/
def State.neighbour (s : State) (a own : Nat) (n : Bool) : Nat :=
  let len := s.axisLen a
  let c := (coordOn a own + (if n then len - 1 else 1)) % len
  let k := if a = 0 then 1 else if a = 1 then 4 else 16
  own - coordOn a own * k + c * k

/-- Whether a value of `origin` goes on from `own` in a direction along axis `a`: on a full ring for floor(L/2) hops in P and
ceil(L/2) - 1 in N; on a line with a gap, or of two, up to the gap or the last member. -/
def State.goesOn (s : State) (x : GroupSlot) (a origin own : Nat) (n : Bool) : Bool :=
  let line := lineOf x.live a own
  let l := line.length
  let next := s.neighbour a own n
  if l = s.axisLen a then
    let c := coordOn a own
    let o := coordOn a origin
    let h := if n then (o + l - c) % l else (c + l - o) % l
    decide (h < (if n then ceilDiv l 2 - 1 else l / 2))
  else line.contains next && decide (next ≠ origin) && (decide (own = origin) || decide (2 < l))

/-- A slot goes on along axis `a` in each direction given, where it has hops left. -/
def State.passOn (s : State) (x : GroupSlot) (a origin v : Nat) (dirs : List Bool) : State :=
  dirs.foldl (fun s n => if s.goesOn x a origin s.position n then s.queueValue (2 * a + b2n n) v else s) s

/-! ### An operation's progress (R400) -/

/-- The format of a Dawn DTYPE, and the bytes of an element. -/
def dawnFmt (dtype : Nat) : Nat := if dtype = 0 then 7 else if dtype = 1 then 6 else 8

/-- Bytes of an element. -/
def dawnElem (dtype : Nat) : Nat := if dtype = 1 then 2 else 4

/-- The state with a DAWN changed. -/
def State.setDawn (s : State) (d : DawnOp) : State :=
  s.setCol { s.col with dawns := s.col.dawns.map (fun y => if y.slot = d.slot ∧ y.dseq = d.dseq then d else y) }

/-- A member's value is sent along axis `a` in both directions. -/
def State.sendValue (s : State) (x : GroupSlot) (d : DawnOp) (bs : List Byte) (a : Nat) : State :=
  let n := max 1 (ceilDiv d.nbytes 8)
  (List.range n).foldl (fun s i =>
    s.passOn x a s.position (valueSlot d.slot (s.gepoch d.slot) d.dseq s.position i (decide (i + 1 = n)) d.op d.red d.dtype d.nbytes
      (leNat ((bs.drop (8 * i)).take 8))) [false, true]) s

/-- The value of `origin` on axis `a`, once all its parts are here. -/
def State.dawnValue (s : State) (d : DawnOp) (a origin : Nat) : Option DawnValue :=
  (s.col.values.find? (fun v => decide (v.slot = d.slot) && decide (v.dseq = d.dseq) && decide (v.axis = a) && decide (v.origin = origin))).filter
    (fun v => match v.count with
      | some n => (List.range n).all (fun i => v.parts.any (fun p => decide (p.1 = i)))
      | none => false)

/-- The bytes of a value. -/
def DawnValue.bytes (v : DawnValue) : List Byte :=
  ((List.range (v.count.getD 0)).flatMap (fun i => leBytes 8 (((v.parts.find? (fun p => decide (p.1 = i))).map (fun p => p.2)).getD 0))).take v.nbytes

/-- Whether a received value belongs to the same operation as ours (R397). -/
def DawnValue.agrees (v : DawnValue) (d : DawnOp) : Bool :=
  decide (v.op = d.op) && decide (v.red = d.red) && decide (v.dtype = d.dtype) && decide (v.nbytes = d.nbytes)

/-- RED over two values. -/
def redBytes (d : DawnOp) (a b : List Byte) : List Byte :=
  let e := dawnElem d.dtype
  let k := d.nbytes / e
  patternBytes (8 * e) (List.zipWith (redPat (dawnFmt d.dtype) d.red) (bytesPats e k a) (bytesPats e k b))

/-- The received values of a DAWN are forgotten. -/
def State.dropValues (s : State) (d : DawnOp) : State :=
  s.setCol { s.col with values := s.col.values.filter (fun v => !(decide (v.slot = d.slot) && decide (v.dseq = d.dseq))) }

/-- The DAWN's result is written to DST and it completes (R397, R405); the DETAIL of OK is not stated, so free. -/
def State.finishDawn (s : State) (d : DawnOp) (bs : List Byte) : State :=
  let x := s.group d.slot
  let s := (s.dropDawn d.slot d.dseq).dropValues d
  let (s, f) := if d.op = 2 then (s, none)
    else if d.dstHost then (s.toHost (.hostWrite (s.pasid d.ctx) false d.dst bs), none)
    else
      let r := (s.setLnk { s.lnk with who := some (d.ctx, d.idx, 99) }).vwrite 0 d.ctx d.dst bs
      (r.1.setLnk { r.1.lnk with who := none }, r.2)
  match f with
  | some f => s.faultDesc d.ctx d.idx f
  | none =>
    let s := s.colCount 5 1
    match s.desc d.ctx d.idx with
    | none => s
    | some y =>
      if x.full then
        let (k, s) := s.takeFree
        s.finishOk d.ctx y (k % 2 ^ 64)
      else s.finish d.ctx y 2 x.missing

/-- A disagreement found on axis `a`: nothing is written, and the members of the lines on the axes after it learn of it by a value whose OP, 3, agrees
with no operation (R397; assumption 94). -/
def State.refuseDawn (s : State) (x : GroupSlot) (d : DawnOp) (axes : List Nat) (a : Nat) : State :=
  let s := (axes.filter (fun b => decide (a < b))).foldl (fun s b => s.sendValue x { d with op := 3, nbytes := 0 } [] b) s
  ((s.dropDawn d.slot d.dseq).dropValues d).groupRefused d.slot d.ctx d.idx 7

/-- The last axis on which this package and the root of a BROADCAST differ: there its value comes from the member of its line with the
root's coordinate. -/
def broadcastFrom (axes : List Nat) (line : Nat → List Nat) (root own : Nat) : Option (Nat × Nat) :=
  (axes.filter (fun a => decide (coordOn a root ≠ coordOn a own))).getLast?.bind (fun a =>
    ((line a).find? (fun q => decide (coordOn a q = coordOn a root))).map (fun q => (a, q)))

/-- A DAWN goes on as far as the values here allow (R400). -/
def State.runDawn (s : State) (g dseq : Nat) : Nat → State
  | 0 => s
  | n + 1 =>
    match s.col.dawns.find? (fun d => decide (d.slot = g) && decide (d.dseq = dseq)) with
    | none => s
    | some d =>
      let x := s.group g
      let own := s.position
      let axes := dawnAxes x own
      if d.op = 1 then
        match d.value, broadcastFrom axes (fun a => lineOf x.live a own) d.root own with
        | some bs, _ => s.finishDawn d bs
        | none, none => s
        | none, some (a, q) =>
          match s.dawnValue d a q with
          | none => s
          | some v =>
            if !v.agrees d then s.refuseDawn x d axes a
            else
              let s := s.setDawn { d with value := some v.bytes }
              let s := (axes.filter (fun b => decide (a < b))).foldl (fun s b => s.sendValue x d v.bytes b) s
              s.finishDawn d v.bytes
      else
        match axes[d.phase]? with
        | none => s.finishDawn d (d.value.getD [])
        | some a =>
          let line := lineOf x.live a own
          let vs := line.map (fun q => (q, s.dawnValue d a q))
          if vs.any (fun v => decide (v.1 ≠ own) && v.2.isNone) then s
          else if vs.any (fun v => (v.2.map (fun y => !y.agrees d)).getD false) then s.refuseDawn x d axes a
          else
            let parts := vs.map (fun v => if v.1 = own then d.value.getD [] else (v.2.map DawnValue.bytes).getD [])
            let bs := match parts with
              | [] => []
              | b :: rest => if d.op = 2 then [] else rest.foldl (redBytes d) b
            let d := { d with phase := d.phase + 1, value := some bs }
            let s := s.setDawn d
            let s := match axes[d.phase]? with
              | some b => s.sendValue x d bs b
              | none => s
            s.runDawn g dseq n

/-! ### DAWN (R397, R398, R405) -/

/-- GROUP of a DAWN. -/
def dawnGroup (d : Desc) : Nat := dfld d.words 4 0 6

/-- The conditions of R398 (R100). -/
def dawnChecks (d : Desc) : List (Bool × Nat) :=
  let op := dfld d.words 4 8 2
  let red := dfld d.words 4 12 2
  let dtype := dfld d.words 4 16 2
  let nb := dfld d.words 4 24 7
  let root := dfld d.words 4 32 7
  let src := dword d.words 2
  let dst := dword d.words 3
  let e := dawnElem dtype
  rsvChecks d.words [(4, 0x37F7F03333F), (5, 0), (6, 0), (7, 0)] ++
  [ (decide (src % 8 ≠ 0) || (decide (op = 2) && decide (src ≠ 0)), 16),
    (decide (dst % 8 ≠ 0) || (decide (op = 2) && decide (dst ≠ 0)), 24),
    (decide (op = 3) || decide (dtype = 3) || decide (red = 3), 32),
    (decide (64 < nb) || decide (nb % e ≠ 0) || (decide (op ≠ 2) && decide (nb = 0)), 32),
    (decide (op = 2) && (decide (nb ≠ 0) || decide (dtype ≠ 0) || decide (red ≠ 0) || decide (root ≠ 0) || dbit d.words 4 40 || dbit d.words 4 41), 32),
    (decide (op = 1) && decide (red ≠ 0), 32),
    (decide (op ≠ 1) && decide (root ≠ 0), 32) ]

/-- SRC of a DAWN that this member reads: from the host as given, or from device memory (R397). -/
def State.dawnSource (s : State) (c : Nat) (d : Desc) (data : HostData) : Option (Except (Sum Nat XFault) (List Byte)) :=
  let nb := dfld d.words 4 24 7
  if dbit d.words 4 41 then
    match data with
    | .failed a => some (.error (.inl a))
    | .ok bs => if bs.length = nb then some (.ok bs) else none
  else match s.vread 0 c (dword d.words 2) nb with
    | .ok bs => some (.ok bs)
    | .error f => some (.error (.inr f))

/-- The start of a DAWN whose OP `mine` accepts. Host data of another length than NBYTES leaves the state as it is. -/
def dawnStart (c : CtxId) (mine : Nat → Bool) (data : HostData) (s0 : State) : Result :=
  match s0.begin c.val (fun d => d.kind == kindDawn && mine (dfld d.words 4 8 2))
      (fun d => decide ((s0.col.dawns.filter (fun x => decide (x.slot = dawnGroup d))).length < 4) && decide (s0.col.dawns.length < 16)) noEst
      dawnChecks with
  | .no s => .next s
  | .go d s =>
    let g := dawnGroup d
    match s.judgeSlot c.val d g false with
    | some s => .next s
    | none =>
      let x := s.group g
      let op := dfld d.words 4 8 2
      let root := dfld d.words 4 32 7
      if !x.full ∧ 3 ≤ x.shape then .next (s.refuseStart c.val d g 12)
      else if op = 1 ∧ !x.live.contains root then
        .next ((s.setGroup g { x with dseq := (x.dseq + 1) % 256 }).refuseStart c.val d g 9)
      else
        let reads := decide (op = 0) || (decide (op = 1) && decide (root = s.position))
        let s := if reads ∧ dbit d.words 4 41 then s.send (.hostRead (s.pasid c.val) (dword d.words 2) (dfld d.words 4 24 7)) else s
        match (if reads then s.dawnSource c.val d data else some (.ok [])) with
        | none => .next s0
        | some (.error (.inl a)) => .next (s.contextFault c.val 0x42 a (some d.idx) false 0x201)
        | some (.error (.inr f)) => .next (s.faultDesc c.val d.idx f)
        | some (.ok bs) =>
          let o : DawnOp :=
          { slot := g, dseq := x.dseq, ctx := c.val, gen := (s.ctx c.val).gen, idx := d.idx, op := op, red := dfld d.words 4 12 2,
            dtype := dfld d.words 4 16 2, nbytes := dfld d.words 4 24 7, root := root, dst := dword d.words 3, dstHost := dbit d.words 4 40,
            phase := 0, value := if op = 1 ∧ root ≠ s.position then none else some bs }
          let s := s.setGroup g { x with dseq := (x.dseq + 1) % 256 }
          let s := s.setCol { s.col with dawns := s.col.dawns ++ [o] }
          let axes := dawnAxes x s.position
          let s := if op = 1 then (if reads then axes.foldl (fun s a => s.sendValue x o bs a) s else s)
            else match axes with
              | a :: _ => s.sendValue x o bs a
              | [] => s
          .next (s.runDawn g o.dseq 5)

/-- DAWN_ALL_REDUCE; the row also takes OP 3, which is malformed. -/
def execDawnAllReduce (c : CtxId) (data : HostData) (s : State) : Result :=
  s.starting c.val (dawnStart c (fun op => op == 0 || op == 3) data)

/-- DAWN_BROADCAST. -/
def execDawnBroadcast (c : CtxId) (data : HostData) (s : State) : Result := s.starting c.val (dawnStart c (fun op => op == 1) data)

/-- DAWN_BARRIER. -/
def execDawnBarrier (c : CtxId) (s : State) : Result := s.starting c.val (dawnStart c (fun op => op == 2) (.ok []))

/-! ### Slots received (R399 to R401) -/

/-- A VALUE slot's part enters the value it belongs to. -/
def State.storePart (s : State) (a v : Nat) : State :=
  let g := bitsOf v 104 6
  let dseq := bitsOf v 92 8
  let origin := bitsOf v 85 7
  let mine := fun (y : DawnValue) => decide (y.slot = g) && decide (y.dseq = dseq) && decide (y.axis = a) && decide (y.origin = origin)
  let add := fun (y : DawnValue) => { y with parts := y.parts ++ [(bitsOf v 82 3, bitsOf v 0 64)],
                                             count := if bitAt v 81 then some (bitsOf v 82 3 + 1) else y.count }
  if s.col.values.any mine then s.setCol { s.col with values := s.col.values.map (fun y => if mine y then add y else y) }
  else
    s.setCol { s.col with values := s.col.values ++ [add
      { slot := g, dseq := dseq, axis := a, origin := origin, op := bitsOf v 79 2, red := bitsOf v 77 2, dtype := bitsOf v 75 2,
        nbytes := bitsOf v 68 7, parts := [], count := none }] }

/-- Whether a VALUE slot is a copy of one held, or of an operation that has ended here. -/
def State.dawnCopy (s : State) (x : GroupSlot) (a v : Nat) : Bool :=
  let g := bitsOf v 104 6
  let dseq := bitsOf v 92 8
  let running := s.col.dawns.any (fun d => decide (d.slot = g) && decide (d.dseq = dseq))
  (!running && decide (128 ≤ (dseq + 256 - x.dseq) % 256)) ||
    s.col.values.any (fun y => decide (y.slot = g) && decide (y.dseq = dseq) && decide (y.axis = a) && decide (y.origin = bitsOf v 85 7)
      && y.parts.any (fun p => decide (p.1 = bitsOf v 82 3)))

/-- DAWN_SLOT_RX (R399 to R401): a good VALUE slot of the current group epoch is acknowledged, and one not held yet is stored, passed on along
its line, and used. -/
def execDawnSlotRx (p : TorusPort) (slot : List Byte) (t : Nat) (s : State) : Result :=
  let s := s.reachClk t
  let v := leNat slot
  let g := bitsOf v 104 6
  let x := s.group g
  if s.pwr.state = .midnight ∨ slot.length ≠ 16 ∨ !dawnOk v ∨ bitsOf v 110 2 ≠ 1 ∨ !x.alive ∨ bitsOf v 100 4 ≠ s.gepoch g % 16 then .next s
  else
    let a := p.val / 2
    let s := if s.dawnPort p.val then s.sendSlot p.val (ackSlot v) else s
    if s.dawnCopy x a v then .next s
    else
      let s := (s.storePart a v).passOn x a (bitsOf v 85 7) v [decide (p.val % 2 = 0)]
      .next (s.runDawn g (bitsOf v 92 8) 5)

/-- The waiting slots of port `p` that are within its 64 and not sent go out, in the order of R401; those sent 300 ns ago go again when
`again`. -/
def State.resendDawn (s : State) (p : Nat) (again : Bool) : State :=
  let mine := (s.col.sendq.filter (fun e => decide (e.1 = p))).take 64
  let due := mine.filter (fun e => match e.2.2 with
    | none => true
    | some t => again && decide (t + 300 ≤ s.clk))
  let order := due.foldr insertSlot []
  if s.dawnPort p then
    order.foldl (fun s e =>
      let s := s.setCol { s.col with sendq := s.col.sendq.map (fun y => if y = e then (e.1, e.2.1, some s.clk) else y) }
      let s := s.sendSlot p e.2.1
      if e.2.2.isSome then s.colCount 6 1 else s) s
  else s

/-- DAWN_ACK_RX (R401): the slot's copy is given up, and a waiting slot takes its place. -/
def execDawnAckRx (p : TorusPort) (slot : List Byte) (s : State) : Result :=
  let v := leNat slot
  if s.pwr.state = .midnight ∨ slot.length ≠ 16 ∨ !dawnOk v ∨ bitsOf v 110 2 ≠ 2 then .next s
  else
    let s := s.setCol { s.col with sendq := s.col.sendq.filter (fun e => !(decide (e.1 = p.val) && decide (slotKey e.2.1 = slotKey v))) }
    .next (s.resendDawn p.val false)

/-- DAWN_RESEND_TIMER (R401). -/
def execDawnResendTimer (p : TorusPort) (t : Nat) (s : State) : Result := .next ((s.reachClk t).resendDawn p.val true)

end Sys2Proof.Machine
end

