-- ==== Sys2Proof/Machine/Combine.lean ====
section
/-! DEFINITION. Machine/Combine.lean: the Combine stage of a LAYER and the Reorder Buffer in token order (R310 to R317, R331, R336, R337). -/

namespace Sys2Proof.Machine

/-- CMB_CNT_k grows. -/
def State.cmbCount (s : State) (k n : Nat) : State := s.bump (0x40040 + 4 * k) 32 n

/-- A flag of CMB_EVT (R337). -/
def State.cmbFlag (s : State) (bit ctx : Nat) : State := s.flagOpen 0x4000C bit 5 ctx

/-- The LAYER in the Combine Unit. -/
def State.combining (s : State) : Option (CombineRun × Job × Layer) :=
  match s.cmb.run with
  | none => none
  | some r => (s.job r.ctx r.idx).bind (fun j => j.layer.map (fun l => (r, j, l)))

/-- The state with the stage in the Combine Unit changed. -/
def State.setRun (s : State) (r : Option CombineRun) : State := s.setCmb { s.cmb with run := r }

/-- Slots are taken in token order while the combine partition has one free: the lowest (R314). -/
def State.takeSlots (s : State) (n : Nat) : Nat → State
  | 0 => s
  | k + 1 =>
    match s.cmb.run with
    | none => s
    | some r =>
      match if r.next < n then (List.range s.recvBase).find? (fun i => s.cmb.slotFree i) else none with
      | none => s
      | some i =>
        (s.setRun (some { r with next := r.next + 1,
                                 slots := r.slots ++ [{ token := r.next, slot := i, takenAt := s.clk, reads := none, vals := none,
                                                        written := false }] })).takeSlots n k

/-- Column strips of a row (R311, R328). -/
def strips (d : Nat) : Nat := ceilDiv d 4096

/-- What one token becomes: a copy of its input row, zeros, or the weighted rows of its kept assignments. -/
inductive TokenForm where
  | pass
  | bare
  | sum (rows : List (Nat × Nat))
  deriving DecidableEq, Repr

/-- The form of token `t` from its route record (R311, R312): slots with their weights. -/
def State.tokenForm (s : State) (j : Job) (l : Layer) (t : Nat) : Except XFault TokenForm :=
  if l.skipLayer then .ok .pass
  else match s.vread 0 j.ctx (l.work + 0x8000 + 16 * t) 16 with
    | .error f => .error f
    | .ok bs =>
      let w0 := leNat (bs.take 8)
      let w1 := leNat (bs.drop 8)
      let kept := (if bitsOf w0 32 16 = 0xFFFF then [] else [(bitsOf w0 32 16, bitsOf w1 0 32)]) ++
        (if bitsOf w0 48 16 = 0xFFFF then [] else [(bitsOf w0 48 16, bitsOf w1 32 32)])
      .ok (if bitAt w0 19 then .pass else if kept.isEmpty then .bare else .sum kept)

/-- The row segments a token's gather reads take from the queue (R327). -/
def State.segments (s : State) (j : Job) (l : Layer) (t : Nat) : Nat :=
  match s.tokenForm j l t with
  | .ok .pass => 1
  | .ok .bare => b2n (s.rbit 0x40000 2)
  | .ok (.sum rows) => rows.length
  | .error _ => 1

/-- Gather reads of the slots held are issued in token order while the queue of 128 row segments has room (R314, R327). -/
def State.issueReads (s : State) : State :=
  match s.combining with
  | none => s
  | some (r, j, l) =>
    let step := fun (a : List CmbSlot × Nat × Bool) (x : CmbSlot) =>
      let n := s.segments j l x.token
      if x.reads.isSome || a.2.2 then (a.1 ++ [x], a.2)
      else if a.2.1 + n ≤ 128 then (a.1 ++ [{ x with reads := some n }], a.2.1 + n, false)
      else (a.1 ++ [x], a.2.1, true)
    let out := (r.slots.map (fun x => x.reads.getD 0)).foldl (· + ·) 0
    s.setRun (some { r with slots := (r.slots.foldl step ([], out, false)).1 })

/-- Tokens of `n` take slots, and their reads are issued. -/
def State.refill (s : State) (n : Nat) : State := (s.takeSlots n 512).issueReads

/-- COMBINE_STAGE (R314, R325, R337): the first LAYER whose turn it is, its input complete, enters the Combine Unit; while a view of the unit is
failed it completes ENGINE_FAULT. -/
def execCombineStage (s : State) : Result :=
  if s.cmb.run.isSome ∨ s.flt.pkgFault ∨ s.pwr.state = .midnight then .next s
  else match s.work.combineQueue.find? (fun x => ((s.job x.1 x.2).map (fun j => s.inputComplete j)).getD true) with
    | none => .next s
    | some (c, idx) =>
      let s := s.setWork { s.work with combineQueue := s.work.combineQueue.filter (fun x => decide (x ≠ (c, idx))) }
      match s.job c idx with
      | none => .next s
      | some j =>
        if !s.admits 33 then .next ((s.engineFault c idx 0x50200 33).schedule none)
        else .next ((s.setRun (some { ctx := c, gen := (s.ctx c).gen, idx := idx, strip := 0, next := 0, slots := [], released := 0 })).refill
            (j.input.size 0))

/-- The FP32 values of columns [c0, c0 + n) of an input row. -/
def State.inputSeg (s : State) (j : Job) (t c0 n : Nat) : Except XFault (List Nat) :=
  (s.readElems 0 j.ctx j.input (t * j.input.size 1 + c0) n).map (fun vs => vs.map toF32)

/-- The FP32 values of those columns of row `i` of the expert output region. -/
def State.expertSeg (s : State) (j : Job) (l : Layer) (i c0 n : Nat) : Except XFault (List Nat) :=
  let w := fmtBits l.expFmt / 8
  (s.vread 0 j.ctx (j.expOut + (i * j.input.size 1 + c0) * w) (n * w)).map (fun bs =>
    (elemBits (8 * w) 0 n bs).map (fun b => toF32 (decodeNum l.expFmt b)))

/-- The weighted sum, from +0.0, in the order of the selections (R311). -/
def State.weighted (s : State) (j : Job) (l : Layer) (c0 n : Nat) (acc : List Nat) : List (Nat × Nat) → Except XFault (List Nat)
  | [] => .ok acc
  | (i, w) :: rest =>
    match s.expertSeg j l i c0 n with
    | .error f => .error f
    | .ok xs => s.weighted j l c0 n (List.zipWith (fun y x => fadd y (fmul w x)) acc xs) rest

/-- The FP32 values of a token's segment before conversion (R311). -/
def State.tokenSeg (s : State) (j : Job) (l : Layer) (f : TokenForm) (t c0 n : Nat) : Except XFault (List Nat) :=
  match f with
  | .pass => s.inputSeg j t c0 n
  | .bare => if s.rbit 0x40000 2 then s.inputSeg j t c0 n else .ok (List.replicate n 0)
  | .sum rows => s.weighted j l c0 n (List.replicate n 0) rows

/-- The counters a token adds to: combined, without a kept assignment, passed through; each token once. -/
def State.countToken (s : State) (strip : Nat) (f : TokenForm) : State :=
  if strip ≠ 0 then s
  else match f with
    | .pass => (s.cmbCount 1 1).cmbCount 3 1
    | .bare => (s.cmbCount 1 1).cmbCount 2 1
    | .sum _ => s.cmbCount 1 1

/-- Writes of 64 bytes of the stage that are not acknowledged: a bridge holds them (R82, R327). -/
def State.writesOut (s : State) (c : Nat) : Nat :=
  ((List.range 4).flatMap (fun n => ((s.bank n).waiting.filter (fun w => decide (w.ctx = c) && decide (w.die = 0) && !w.ingest)).map
    (fun w => ceilDiv w.bytes.length 64))).foldl (· + ·) 0

/-- A slot of the stage changes. -/
def CombineRun.put (r : CombineRun) (x : CmbSlot) : CombineRun := { r with slots := r.slots.map (fun y => if y.slot = x.slot then x else y) }

/-- The row segment in a slot is converted and written (R290, R311, R319) when its values are there and the queue of 128 output writes has room (R327;
assumption 123). -/
def State.writeSlot (s : State) (r : CombineRun) (j : Job) (l : Layer) (x : CmbSlot) : State :=
  match x.vals with
  | none => s
  | some ys =>
    if x.written || decide (128 ≤ s.writesOut j.ctx) then s
    else
      let outs := ys.map (fun y => narrow l.out.format (s.rbit 0x40000 1) (f32 y))
      let w := fmtBits l.out.format
      match s.outWrite 0 j.ctx j.idx (l.out.base + (x.token * j.input.size 1 + r.strip * 4096) * (w / 8)) (patternBytes w (outs.map (fun o => o.bits))) with
      | (s, some f) => (s.faultDesc j.ctx j.idx f).schedule none
      | (s, none) =>
        (s.cmbCount 4 (outs.filter (fun o => o.saturated)).length).setRun (some (r.put { x with written := true }))

/-- The gather reads of a slot return under the epoch they were issued with: its values are formed (R311) and written. Those of an older epoch are
discarded (R316). -/
def readReturn (slot epoch : Nat) (s : State) : Result :=
  match s.combining with
  | none => .next s
  | some (r, j, l) =>
    match r.slots.find? (fun x => decide (x.slot = slot) && x.reads.isSome && x.vals.isNone) with
    | none => .next s
    | some x =>
      if s.epoch (resSlot slot) ≠ epoch ∨ (s.ctx r.ctx).gen ≠ r.gen then .next s
      else
        let c0 := r.strip * 4096
        let n := min 4096 (j.input.size 1 - c0)
        match (s.tokenForm j l x.token).bind (fun f => (s.tokenSeg j l f x.token c0 n).map (fun ys => (f, ys))) with
        | .error f => .next ((s.faultDesc j.ctx j.idx f).schedule none)
        | .ok (f, ys) =>
          let x := { x with reads := some 0, vals := some ys }
          let r := r.put x
          .next ((((s.countToken r.strip f).setRun (some r)).writeSlot r j l x).issueReads)

/-- COMBINE_READ_RETURN (R311, R312, R316, R327, R331). -/
def execCombineReadReturn (slot : Fin 512) (epoch : Nat) (s : State) : Result :=
  match s.cmb.run with
  | some r => s.remotely r.ctx r.idx 98 (readReturn slot.val epoch)
  | none => .next s

/-- The Combine stage ends: the LAYER completes OK (R231). -/
def State.combineEnd (s : State) (j : Job) (l : Layer) : State :=
  let detail := if l.skipLayer then 0 else l.version * 2 ^ 32 + l.dropped * 2 ^ 16 + l.bare
  (((s.setRun none).cmbCount 0 1).endJob j detail).schedule none

/-- The oldest slot is released once its segment is written and every write of it acknowledged; further tokens take slots, then the next strip begins,
or the stage ends (R311, R314, R315). -/
def State.releaseSlot (s : State) : State :=
  match s.combining with
  | none => s
  | some (r, j, l) =>
    match r.slots with
    | [] => s
    | x :: rest =>
      if x.vals.isSome && !x.written then s.writeSlot r j l x
      else if !x.written || s.unacked r.ctx r.idx then s
      else
        let n := j.input.size 0
        let s := ((s.moveSlot x.slot).setRun (some { r with slots := rest, released := r.released + 1 })).refill n
        if r.released + 1 < n then s
        else if r.strip + 1 < strips (j.input.size 1) then
          (s.setRun (some { r with strip := r.strip + 1, next := 0, slots := [], released := 0 })).refill n
        else s.combineEnd j l

end Sys2Proof.Machine
end

