-- ==== Sys2Proof/Machine/Fabric.lean ====
section
/-! DEFINITION. Machine/Fabric.lean: boot, bank dies and Bank Bridges (chapter 3, R503, R516). -/

namespace Sys2Proof.Machine

/-! ### Shared operations -/

/-- A condition of R88: a record, an event of SOURCE 1 and the alert (R581). -/
def State.hubEvent (s : State) (code unit detail : Nat) : State :=
  ((s.record 0 1 code noCtx unit detail).event 1 code noCtx detail).alert 1

/-- A retrain of both directions begins (R84): the bridge leaves UP and CAUSE names the trigger. HUB_BRG_RETRAIN_CNT_n counts it here, once: its second
and third attempt after a failed one do not count again (DESIGN CHOICE: the spec does not say whether they do, assumption 76). -/
def State.startRetrain (s : State) (n cause : Nat) : State :=
  let b := s.bank n
  if b.bridge = .up ∨ b.bridge = .idle then
    (s.setBank n { b with bridge := .retrain, cause := cause }).bump (0x11C + 0x10 * n) 16 1
  else s

/-- Failed wires take their group's spare; none when a group has two failed wires (R64, R78). -/
def assignSpares (spares : Tab Nat) : List (Nat × Nat) → Option (Tab Nat)
  | [] => some spares
  | (g, w) :: rest =>
    let held := tabGet (fun _ => 0) spares g
    if held = 0 ∨ held = w + 1 then assignSpares (tabSet (fun _ => 0) spares g (w + 1)) rest else none

/-- Those of the failed wires whose group's spare another wire holds. -/
def unspared (spares : Tab Nat) : List (Nat × Nat) → List (Nat × Nat)
  | [] => []
  | (g, w) :: rest =>
    let held := tabGet (fun _ => 0) spares g
    if held = 0 ∨ held = w + 1 then unspared (tabSet (fun _ => 0) spares g (w + 1)) rest else (g, w) :: unspared spares rest

/-- A bridge that did not train for want of a spare: the wires left over are retired (R493, Table 16.6). -/
def State.wiresOut (s : State) (n : Nat) (w : WireTest) : State :=
  let b := s.bank n
  let cause := match b.phase with
    | .bringup _ => 1
    | _ => 2
  let out := fun (s : State) (dir : Nat) (l : List (Nat × Nat)) =>
    l.foldl (fun s p => s.retire { unitEntry 4 cause (wireLoc n dir) (33 * p.1 + p.2) p.1 with state := deFailed }) s
  out (out s 0 (unspared b.h2b.spares (s.mapWires n 0 deApplied ++ w.badH2b))) 1 (unspared b.b2h.spares (s.mapWires n 1 deApplied ++ w.badB2h))

/-- The duplicated pairs that use their backup after a training: those whose primary wire failed it (R64). -/
def backupsOf (w : WireTest) : Tab Bool :=
  (List.range 7).foldl (fun t p => tabSet (fun _ => false) t p (w.badPairs.contains (p, 0))) []

/-- Training of a bridge (Table 3.6 step 2, R64, R78, R85, R486): spares are assigned to the wires the defect map names and to those the
wire test found failed, or the bridge does not train; a duplicated pair uses its backup when its primary failed; the bank die takes the position of
the last strobe; with `queued`, QUEUED wire entries are carried out (R488). -/
def State.trainBridge (s : State) (n : Nat) (w : WireTest) (queued : Bool) : Option State :=
  let b := s.bank n
  match assignSpares b.h2b.spares (s.mapWires n 0 deApplied ++ w.badH2b), assignSpares b.b2h.spares (s.mapWires n 1 deApplied ++ w.badB2h) with
  | some x, some y =>
    if w.pairDead then none
    else
      let deg := !(w.strobeOk && w.posOk)
      let cause := match b.phase with
        | .bringup _ => 1
        | _ => 2
      let s := w.badH2b.foldl (fun s p => s.noteWire n 0 p.1 p.2 cause) s
      let s := w.badB2h.foldl (fun s p => s.noteWire n 1 p.1 p.2 cause) s
      let (s, x) := if queued then s.queuedWires n 0 x else (s, x)
      let (s, y) := if queued then s.queuedWires n 1 y else (s, y)
      let s := (s.wireMargins n 0 w.eyesH2b).wireMargins n 1 w.eyesB2h
      let at_ := s.lastStrobe
      let s := s.setBank n { b with degraded := deg, onBackup := backupsOf w, expDay := at_.1, expMinute := at_.2,
                                    h2b := { b.h2b with spares := x, nackRun := 0, crcMinute := 0 },
                                    b2h := { b.b2h with spares := y, nackRun := 0, crcMinute := 0 } }
      some (if deg && !b.degraded then s.hubEvent 0x12 (4 + n) n else s)
  | _, _ => none

/-- A bank die whose bridge has both its directions as after a training. -/
def Bank.cleared (b : Bank) : Bank := { b with h2b := BridgeDir.reset, b2h := BridgeDir.reset }

/-- Boot halts (R71, R516): every bank die is held in reset, HUB_BOOT_STATUS names the failure, the alert is raised. -/
def State.haltBoot (s : State) (code bank stage : Nat) : State :=
  let s := { s with boot := { s.boot with halted := true, code := code, bank := bank, haltStage := stage, ready := false } }
  let s := (List.range 4).foldl (fun s n => s.setBank n { s.bank n with
    phase := if (s.bank n).phase = .failed then .failed else .down, bridge := .down, inReset := true }) s
  s.alert 0

/-- STAGE of a step of Table 3.6. -/
def stageOf (step : Nat) : Nat := [0, 2, 3, 4, 4, 5, 6, 7].getD step 8

/-- Bring-up of a bank die starts from step 1, at tick `at_` (R73). -/
def State.startBringup (s : State) (n at_ : Nat) : State :=
  s.setBank n { (s.bank n).cleared with phase := .bringup 1, bridge := .training, pllLock := false, startAt := at_, inReset := true, waiting := [] }

/-- Both scratchpad and stacks of BANK_n, or its scratchpad alone, are filled with zeros (R73, R90). -/
def State.zeroPad (s : State) (n : Nat) : State :=
  (s.zeroRange (0x4000000000 + 0x4000000 * n) (0x4000000000 + 0x4000000 * n + 0x3000000)).unpoison
    (0x4000000000 + 0x4000000 * n) (0x4000000000 + 0x4000000 * n + 0x3000000)

/-- The stacks of BANK_n are filled with zeros. -/
def State.zeroStacks (s : State) (n : Nat) : State :=
  (s.zeroRange (0xC00000000 * n) (0xC00000000 * (n + 1))).unpoison (0xC00000000 * n) (0xC00000000 * (n + 1))

/-- The hub scratchpad is filled with zeros. -/
def State.zeroHub (s : State) : State := (s.zeroRange hubPadBase 0x4012000000).unpoison hubPadBase 0x4012000000

/-- Whether every bank die has finished its bring-up: at a Midnight exit a FAILED one has, too (R517). -/
def State.allUp (s : State) : Bool :=
  (List.range 4).all (fun n => decide ((s.bank n).phase = .active) || (s.boot.midnightExit && decide ((s.bank n).phase = .failed))) &&
    (List.range 4).any (fun n => decide ((s.bank n).phase = .active))

/-- What a Midnight exit reports as it ends: the change of state, and the trip that led into Midnight (R440, Table 14.5). -/
def State.midnightOver (s : State) : State :=
  if s.boot.midnightExit then
    let s := s.flagOpen 0xD0014 0 14 noCtx
    let s := if s.pwr.tripped then s.flagOpen 0xD0014 6 14 noCtx else s
    { s with boot := { s.boot with midnightExit := false }, pwr := { s.pwr with tripped := false } }
  else s

/-- Boot DONE (R503): stage 8; adoption from DAY_START may now take place (R40), and READY follows (R505). -/
def State.bootDone (s : State) : State :=
  (({ s with boot := { s.boot with done := true, doneAt := s.clk, stage := 8 } }).tryAdoptStart.bootReady).midnightOver

/-- A bank die stays FAILED (R86 step 5, R517): its reset line is asserted, its bridge is DOWN, and what waited for it is lost. -/
def State.bankFails (s : State) (n : Nat) : State :=
  let s := s.setBank n { (s.bank n).cleared with phase := .failed, bridge := .down, inReset := true, waiting := [] }
  (s.setDp n true).hubEvent 0x15 n n

/-- A bridge enters FAILED (R84, R88): its data-path view fails, with the record and the event. -/
def State.bridgeFails (s : State) (n : Nat) : State :=
  ((s.setBank n { s.bank n with bridge := .failed }).setDp (4 + n) true).hubEvent 0x11 (4 + n) n

/-- A bank die becomes active after its self-test: its views and the engine map are built from the results (R73 step 7, R86). -/
def State.bankActive (s : State) (n : Nat) (badEngines : List Nat) (badSfu queued : Bool) : State :=
  let s := s.setBank n { s.bank n with phase := .active, bridge := .up, repeats := 0, badRetrains := 0, pllLock := true, inReset := false,
                                       selfRefresh := false }
  ((((s.setDp n false).setDp (4 + n) false).selfTest n badEngines badSfu queued).releaseWrites n).dueBank n

/-- The stage that HUB_BOOT_STATUS shows: that of the lowest-numbered step under way on any bank die (R73). -/
def State.stageNow (s : State) : Nat :=
  minOr 8 ((List.range 4).map (fun n => match (s.bank n).phase with
    | .bringup k => stageOf k
    | _ => 8))

/-- HUB_BOOT_STATUS.STAGE follows the steps under way (R73). -/
def State.showStage (s : State) : State := { s with boot := { s.boot with stage := s.stageNow } }

/-- A step of a bring-up failed (R71, R517): at a cold start the bank die is brought up again from step 1, up to twice; then boot halts. At a
Midnight exit it stays FAILED, and boot halts only when no bank die comes up. -/
def State.bringupFailed (s : State) (n step code : Nat) : State :=
  let b := s.bank n
  if s.boot.midnightExit then
    let s := s.bankFails n
    if (List.range 4).all (fun k => decide ((s.bank k).phase = .failed)) then s.haltBoot code n (stageOf step)
    else if s.allUp && !s.boot.done then s.bootDone
    else s.showStage
  else if b.repeats < 2 then ((s.setBank n { b with repeats := b.repeats + 1 }).startBringup n s.clk).showStage
  else s.haltBoot code n (stageOf step)

/-- After a step: the next one starts. -/
def State.bringupNext (s : State) (n step : Nat) : State := (s.setBank n { s.bank n with phase := .bringup (step + 1) }).showStage

/-! ### Identity (R70, R87) -/

/-- The code of Table 3.11 with which the hub turns a fuse record down, 0 when it accepts the die (R70). A record that breaks several checks takes the
code of the first in the order ECC, POS_VALID, POS, PKG_BIND (DESIGN CHOICE: the spec gives no order, assumption 76). -/
def fuseCode (n : Nat) (r : FuseRecord) : Nat :=
  if !r.eccOk then 4 else if !r.posValid then 5 else if r.pos ≠ n then 2 else if r.pkgBind ≠ Config.pkgBind then 3 else 0

/-- The discovery request goes out on CTL (R70). -/
def State.askIdentity (s : State) (n : Nat) : State := s.sendCtl n 0 0 0

/-- The answer to discovery came: it acknowledges the request (assumption 76). A DIE_SERIAL is kept at a cold start, and one that differs later is a
package-class fault (R87). -/
def State.identified (s : State) (n : Nat) (r : FuseRecord) : State :=
  let b := s.bank n
  let b := { b with h2b := { b.h2b with queue := [], unacked := [] }.setCredit 5 (creditDepth 5) }
  match b.serial with
  | none => s.setBank n { b with serial := some r.serial }
  | some x =>
    let s := s.setBank n b
    if x = r.serial then s else ((s.event 1 0x16 noCtx n).alert 1).packageFault 1 0x16 n n false

/-- Steps 2 to 4 of Table 3.6 of a bank die that comes up again after a bank reset, a warm reset or Night: training, identity, UP; none when one of
them fails (R70, R86, R87). With `queued`, QUEUED wire entries are carried out. -/
def State.bankTrains (s : State) (n : Nat) (w : WireTest) (fuse : Option FuseRecord) (queued : Bool) : Option State :=
  match s.trainBridge n w queued, fuse with
  | some s, some r =>
    if fuseCode n r = 0 then some (((s.setBank n { s.bank n with bridge := .up, inReset := false }).askIdentity n).identified n r) else none
  | _, _ => none

/-! ### Boot and bring-up commands -/

/-- Boot stage 2 begins (R73, R90): step 1 of BANK_n starts 20 us after that of the bank die before it. At a Midnight exit a FAILED bank die stays so
(R86); with every one FAILED boot halts, under a code that the spec does not give (free: R517). -/
def State.startBanks (s : State) : State :=
  let s := (List.range 4).foldl (fun s n => if (s.bank n).phase = .failed then s else s.startBringup n (s.clk + 20000 * n)) s
  if (List.range 4).all (fun k => decide ((s.bank k).phase = .failed)) then
    let (k, s) := s.takeFree
    s.haltBoot (k % 256) 0 8
  else s

/-- BOOT_STAGE_DONE (R503, R514, R516, Table 19.10): stage 0 or 1 ends, or boot halts with its code; with TEST_MODE high stage 0 does not end. Only
a cold start loads the defect map and places the retained records. Without the board reference stage 1 halts boot (code 11). -/
def execBootStageDone (code : Nat) (flash : FlashLoad) (badCores badSlices : List Nat) (s : State) : Result :=
  if s.boot.halted ∨ s.boot.done ∨ s.boot.testMode ∨ !s.boot.rstN ∨ !s.boot.powered ∨ s.pwr.state = .midnight then .next s
  else if code ≠ 0 then .next (s.haltBoot code 0xF s.boot.stage)
  else if s.boot.stage = 0 then
    let s := if s.boot.midnightExit then s else (s.loadDefects flash).placeRetained
    .next { s with boot := { s.boot with stage := 1 } }
  else if s.boot.stage = 1 then
    if !s.boot.refOk then .next (s.haltBoot 11 0xF 1)
    else
      let s := { s with boot := { s.boot with hubLock := true, backup := false, stage := 2 } }
      let s := (s.deriveHub badCores badSlices).zeroHub.portsDetect
      if (List.range 4).any (fun k => s.dpFailed (28 + k)) then .next (s.haltBoot 10 0xF 1)
      else .next s.startBanks
  else .next s

/-- Whether step `k` of Table 3.6 may end on BANK_n as the order of R73 has it: step 1 runs from its own start; steps 5 and 6 run on all four bank dies
together, step 7 in ascending order. -/
def State.stepMayEnd (s : State) (n k : Nat) : Bool :=
  let past := fun m => match (s.bank m).phase with
    | .bringup j => decide (k ≤ j)
    | _ => true
  let ended := fun m => match (s.bank m).phase with
    | .bringup _ => false
    | _ => true
  if k = 5 ∨ k = 6 then (List.range 4).all past else if k = 7 then (List.range n).all ended else true

/-- A step of a bring-up of BANK_n completed: the next one starts. Step 3 ends with the fuse record (BANK_DISCOVERY_RESPONSE). -/
def State.bringupStep (s : State) (n step : Nat) (wires : WireTest) (badRows : List (Nat × Nat × Nat)) (badEngines : List Nat) (badSfu : Bool) :
    State :=
  match step with
  | 1 => (s.setBank n { s.bank n with pllLock := true, inReset := false }).bringupNext n 1
  | 2 => match s.trainBridge n wires true with
    | some s => (s.bringupNext n 2).askIdentity n
    | none => (s.wiresOut n wires).bringupFailed n 2 6
  | 3 => s
  | 4 => (s.setBank n { s.bank n with bridge := .up }).bringupNext n 4
  | 5 => (s.queuedRows (fun e => decide (e.kind = 6) && decide (e.loc / 2 ^ 14 = n))).bringupNext n 5
  | 6 =>
    let s := (s.zeroStacks n).zeroPad n
    let s := if s.rep.lost then badRows.foldl (fun s r => s.rowFailed (4096 * (1 + n) + r.1 % 192) (r.2.1 % 1024) (r.2.2 % 2 ^ 40)) s else s
    s.bringupNext n 6
  | _ =>
    let s := s.queuedRows (fun e => decide (e.kind = 7) && decide (e.loc / 4096 = 1 + n))
    let s := s.bankActive n badEngines badSfu true
    if s.allUp && !s.boot.done then s.bootDone else s.showStage

/-- BANK_BRINGUP_STEP_DONE (R73, R71): the step under way completes and the next one starts, or the failure is handled. -/
def execBankBringupStepDone (n : BankId) (code : Nat) (wires : WireTest) (badRows : List (Nat × Nat × Nat)) (badEngines : List Nat)
    (badSfu : Bool) (s : State) : Result :=
  match (s.bank n.val).phase with
  | .bringup step =>
    let s := if step = 1 then s.reachClk (s.bank n.val).startAt else s
    if !s.stepMayEnd n.val step then .next s
    else if code ≠ 0 then .next (s.bringupFailed n.val step code)
    else .next (s.bringupStep n.val step wires badRows badEngines badSfu)
  | _ => .next s

/-- BANK_DISCOVERY_RESPONSE (R70, R71, R87): the record is checked, and step 4 begins. -/
def execBankDiscoveryResponse (n : BankId) (r : FuseRecord) (s : State) : Result :=
  match (s.bank n.val).phase with
  | .bringup 3 =>
    if fuseCode n.val r ≠ 0 then .next (s.bringupFailed n.val 3 (fuseCode n.val r))
    else .next ((s.identified n.val r).bringupNext n.val 3)
  | _ => .next s

/-! ### Taking bank dies down (R74) -/

/-- A bank die is taken down (R74): no work is admitted, its stacks are in self-refresh, its reset line is asserted. A FAILED one stays as it is
(R86). -/
def State.takeDown (s : State) (n : Nat) : State :=
  let b := s.bank n
  if b.phase = .failed ∨ b.phase = .retained then s
  else s.setBank n { b.cleared with phase := .retained, bridge := .down, resetWait := false, inReset := true, selfRefresh := true, waiting := [] }

/-- Whether R74 may take BANK_n down: every queue of its bridge is empty and every frame acknowledged; a bridge that carries no frames has nothing to
wait for. -/
def Bank.quiet (b : Bank) : Bool := decide (b.bridge ≠ .up) || (b.h2b.quiet && b.b2h.quiet)

/-- Bank dies are taken down from BANK_3 to BANK_0 (R74). -/
def State.takeBanksDown (s : State) : State := [3, 2, 1, 0].foldl State.takeDown s

/-- The bank dies of a warm reset go down once every bridge is quiet (R74, R507 step 3); a retrain under way is abandoned (R82). -/
def State.goDown (s : State) : State :=
  if s.boot.warm && !s.boot.warmWait && (List.range 4).all (fun n => (s.bank n).quiet) then s.takeBanksDown else s

/-! ### Bank Bridges -/

/-- A frame whose CRC fails is counted; more than CRC_LIMIT of one Minute on the bridge retrain it (R84). -/
def State.badFrame (s : State) (n : Nat) (toBank : Bool) : State :=
  let s := s.bump (0x118 + 0x10 * n) 32 1
  let b := s.bank n
  let d := b.dir toBank
  let s := s.setBank n (b.setDir toBank { d with crcMinute := d.crcMinute + 1 })
  let lim := s.fld (0x114 + 0x10 * n) 8 8
  if lim ≠ 0 ∧ lim < (s.bank n).crcMinute then s.startRetrain n 2 else s

/-- A data frame that does not arrive whole is answered with a NACK that names the frame expected (R83); one number NACKed RETRY_LIMIT times in a row
retrains the bridge (R84). -/
def State.nackFrame (s : State) (n : Nat) (toBank : Bool) : State :=
  let b := s.bank n
  let d := b.dir toBank
  let run := if d.nackSeq = d.expect ∧ d.nackRun ≠ 0 then d.nackRun + 1 else 1
  let s := s.setBank n (b.setDir toBank { d with nackSeq := d.expect, nackRun := run })
  let s := s.sendFrame n (!toBank) (2, d.expect)
  if max 1 (s.fld (0x114 + 0x10 * n) 0 4) ≤ run then s.startRetrain n 1 else s

/-- BRIDGE_FRAME_RX (R66, R67, R69, R81, R83, R84): a good frame's acknowledgement and credits act, and its slots are delivered when it carries the number
expected; a bad data frame is NACKed, and of an idle frame with a bad CRC only the count grows. -/
def execBridgeFrameRx (n : BankId) (toBank : Bool) (frame : List Byte) (s : State) : Result :=
  let sb := sideband frame
  if !(s.bank n.val).carries then .next s
  else if frameOk frame then
    let s := s.frameReturns n.val toBank sb
    let s := if bitsOf sb 66 3 = 1 ∧ bitsOf sb 0 10 = ((s.bank n.val).dir toBank).expect then s.takeFrame n.val toBank frame else s
    .next (if bitAt sb 69 then s.startRetrain n.val 4 else (s.idleBridge n.val).goDown)
  else if bitsOf sb 66 3 = 0 ∧ frame.length = 528 then .next (s.badFrame n.val toBank)
  else .next ((s.nackFrame n.val toBank).badFrame n.val toBank)

/-- BRIDGE_CLOCK_LOSS (R84). -/
def execBridgeClockLoss (n : BankId) (s : State) : Result := .next (s.startRetrain n.val 3)

/-- Step 3 of R86 begins: the bank die resets, its stacks by themselves in self-refresh (R74). -/
def State.beginBankReset (s : State) (n : Nat) (memFault : Bool) : State :=
  s.setBank n { (s.bank n).cleared with phase := .resetting, bridge := .training, memFault := memFault, inReset := true, selfRefresh := true }

/-- A bank die is lost (R86 steps 1 to 3): each context with work there takes a context-class fault, caused by the first descriptor with such work
(R126 step 1, R161). -/
def State.loseBank (s : State) (n : Nat) (memory : Bool) : State :=
  let s := s.setDp n true
  let hit := s.bankWork n
  let s := ctxRange.foldl (fun s c =>
    match hit.find? (fun x => decide (x.1 = c)) with
    | some x => s.contextFault c 0x43 n x.2 false n
    | none => s) s
  let s := s.setBank n { s.bank n with waiting := [] }
  (((s.beginBankReset n memory).bracketBank n).hubEvent 0x13 n n).schedule none

/-- HUB_BANK_CMD_n.RESET is judged (R89): an active bank die on which no context works, and to or from which no access is in flight, is reset. -/
def State.judgeReset (s : State) (n : Nat) (who : Reader) : State :=
  if (s.bank n).phase = .active ∧ (s.bankWork n).isEmpty ∧ !s.ingestOnBank n then s.beginBankReset n false
  else s.locked (0x150 + 4 * n) who

/-- A RESET written during the retrain that has now finished is judged. -/
def State.judgeWaiting (s : State) (n : Nat) : State :=
  if (s.bank n).resetWait then (s.setBank n { s.bank n with resetWait := false }).judgeReset n .host else s

/-- A retrain succeeded: both directions replay from their oldest unacknowledged frame, and what waited goes on (R82, R84). -/
def State.bridgeBack (s : State) (n : Nat) : State :=
  let s := s.setBank n { s.bank n with bridge := .up, badRetrains := 0 }
  let s := (((s.replayBridge n true).pumpBridge n true).replayBridge n false).pumpBridge n false
  s.releaseWrites n

/-- BANK_TIME_MSG_RX (R85): with a bad CRC-8 or another position than the expected one, the bank die keeps its expected position and
counts the correction; a time pair without a working wire sets TIME_DEGRADED. -/
def execBankTimeMsgRx (n : BankId) (crcOk : Bool) (day minute : Nat) (strobeOk posOk : Bool) (s : State) : Result :=
  let b := s.bank n.val
  let nextD := if b.expMinute = 1439 then (b.expDay + 1) % 2 ^ 48 else b.expDay
  let nextM := (b.expMinute + 1) % 1440
  let good := crcOk && decide (day = nextD) && decide (minute = nextM)
  let deg := b.degraded || !(strobeOk && posOk)
  let s := s.setBank n.val { b with expDay := nextD, expMinute := nextM, degraded := deg,
                                    timeErr := if good then b.timeErr else satAdd 0xFF b.timeErr 1 }
  .next (if deg && !b.degraded then s.hubEvent 0x12 (4 + n.val) n.val else s)

/-- BANK_DIE_LOST (R86). -/
def execBankDieLost (n : BankId) (memory pll : Bool) (s : State) : Result :=
  if (s.bank n.val).phase = .active then
    let s := if pll then s.setBank n.val { s.bank n.val with pllLock := false } else s
    .next ((s.loseBank n.val memory).judgeWaiting n.val)
  else .next s

/-- A write of HUB_BANK_CMD_n (R86, R89, R572, Table 3.15): RESET is judged at once, or once a retrain under way has finished; RETRY attempts
the bank reset on a FAILED bank die, and is ignored otherwise; both at once are not allowed by the chapter. -/
def State.writeBankCmd (n : Nat) (v : Word) (who : Reader) (s : State) : State :=
  let b := s.bank n
  match v.toNat % 4 with
  | 1 => if b.phase = .active ∧ b.bridge = .retrain then s.setBank n { b with resetWait := true } else s.judgeReset n who
  | 2 =>
    if b.phase = .failed then (s.setBank n { b with badRetrains := 0 }).beginBankReset n b.memFault else s
  | _ => s

/-- BANK_RESET_CMD (R89). -/
def execBankResetCmd (n : BankId) (s : State) : Result := .next (s.onWrite (0x150 + 4 * n.val) .host (State.writeBankCmd n.val 1 .host))

/-- BANK_RETRY_CMD (R86, Table 3.15). -/
def execBankRetryCmd (n : BankId) (s : State) : Result := .next (s.onWrite (0x150 + 4 * n.val) .host (State.writeBankCmd n.val 2 .host))

/-- The board reference is lost (R87, R546): every PLL is held, the always-on island runs on its backup oscillator, the Day Unit enters FREE, and
the fault is package-class. -/
def State.loseReference (s : State) (detail : Nat) : State :=
  let s := { s with boot := { s.boot with refOk := false, backup := true, hubLock := false } }
  let s := (List.range 4).foldl (fun s n => s.setBank n { s.bank n with pllLock := false }) s
  let s := (s.setDay { s.day with refLost := true, parent := 0, leader := false, hops := 0xFF, leaderPos := none }).setDayState .free
  let s := (s.setDay { s.day with realign := true }).refreshValid
  ((s.event 1 0x17 noCtx detail).alert 1).packageFault 1 0x17 0x206 detail true

/-- REFCLK_LOSS (R87). -/
def execRefclkLoss (s : State) : Result := .next (s.loseReference 0)

end Sys2Proof.Machine
end

