-- ==== Sys2Proof/Machine/Ingest.lean ====
section
/-! DEFINITION. Machine/Ingest.lean: the Ingest Port's framer, the bindings of streams, admission, token rows and keep-maps (chapter 7). -/

namespace Sys2Proof.Machine

/-! ### Headers (R203, R204) -/

/-- The number that bytes spell, most significant first (R203). -/
def beNat (bs : List Byte) : Nat := bs.foldl (fun a b => 256 * a + b.toNat) 0

/-- A field of a frame header: `n` bytes from offset `o`. -/
def hfield (h : List Byte) (o n : Nat) : Nat := beNat ((h.drop o).take n)

/-- One bit of the CRC-16 with polynomial 0x1021. -/
def crc16Bit (c : Nat) : Nat := if c / 0x8000 % 2 = 1 then (2 * c % 0x10000) ^^^ 0x1021 else 2 * c % 0x10000

/-- One byte of that CRC-16, most significant bit first. -/
def crc16Byte (c : Nat) (b : Byte) : Nat :=
  crc16Bit (crc16Bit (crc16Bit (crc16Bit (crc16Bit (crc16Bit (crc16Bit (crc16Bit (c ^^^ (b.toNat * 256)))))))))

/-- HDR_CRC's CRC-16: initial value 0xFFFF, nothing reflected, no final exclusive-or (R204). -/
def crc16 (bs : List Byte) : Nat := bs.foldl crc16Byte 0xFFFF

/-- The sync word stands at the boundary. -/
def syncOk (h : List Byte) : Bool := hfield h 0 4 == 0xB7C24E19

/-- A header is valid: its HDR_CRC matches and VERSION is 0x10 or 0x11 (R204). -/
def headerValid (h : List Byte) : Bool :=
  decide (h.length = 36) && decide (crc16 ((h.drop 4).take 30) = hfield h 34 2) && (hfield h 4 1 == 0x10 || hfield h 4 1 == 0x11)

/-- PAYLOAD_LEN. -/
def payLen (h : List Byte) : Nat := hfield h 20 4

/-- Bytes of the stream a frame takes (R203). -/
def frameBytes (pl : Nat) : Nat := 8 * ceilDiv (40 + pl) 8

/-- The payload limit in bytes (R204, R220). -/
def State.payLimit (s : State) : Nat := 4096 * min 16384 (s.fld 0x8000C 0 15)

/-- HEIGHT and WIDTH limits (R220). -/
def State.maxHeight (s : State) : Nat := min 8192 (s.fld 0x80008 16 16)
def State.maxWidth (s : State) : Nat := min 8192 (s.fld 0x80008 0 16)

/-- The CHANNELS limit (R220). -/
def State.maxChannels (s : State) : Nat := min 64 (s.fld 0x8000C 24 7)

/-- A header's limits are within range (R204). -/
def State.limitsOk (s : State) (h : List Byte) : Bool :=
  let dims := [hfield h 12 2, hfield h 14 2, hfield h 16 2, hfield h 18 1, hfield h 19 1, payLen h]
  decide (hfield h 12 2 ≤ s.maxHeight) && decide (hfield h 14 2 ≤ s.maxWidth) && decide (hfield h 16 2 ≤ s.maxChannels)
    && decide (payLen h ≤ s.payLimit) && dims.all (fun n => decide (0 < n))

/-- A boundary at which a frame may start: the sync word and a valid header within limits (R205, R206). -/
def State.frameStart (s : State) (h : List Byte) : Bool := syncOk h && headerValid h && s.limitsOk h

/-- a is older than b, modulo 2^32 (R222). -/
def seqOlder (a b : Nat) : Bool :=
  let d := (b + 2 ^ 32 - a % 2 ^ 32) % 2 ^ 32
  decide (1 ≤ d) && decide (d < 2 ^ 31)

/-! ### Token order (R218) -/

/-- mix of R218, in 64 bits. -/
def mix64 (x : BitVec 64) : BitVec 64 :=
  let x := x + 0x9E3779B97F4A7C15#64
  let x := (x ^^^ (x >>> 30)) * 0xBF58476D1CE4E5B9#64
  let x := (x ^^^ (x >>> 27)) * 0x94D049BB133111EB#64
  x ^^^ (x >>> 31)

/-- The list with its elements i and j exchanged. -/
def swapAt (l : List Nat) (i j : Nat) : List Nat := (l.set i (l.getD j 0)).set j (l.getD i 0)

/-- The exchanges of R218 for i down to 1. -/
def shuffleFrom (key : BitVec 64) : Nat → List Nat → List Nat
  | 0, l => l
  | i + 1, l => shuffleFrom key i (swapAt l (i + 1) ((mix64 (key + BitVec.ofNat 64 (i + 1))).toNat % (i + 2)))

/-- The patches in output order: ascending in LIVE order, permuted in REPLAY order. -/
def Binding.order (b : Binding) (seq : Nat) (ids : List Nat) : List Nat :=
  if b.replay then
    let key := mix64 (BitVec.ofNat 64 b.seed ^^^ mix64 (BitVec.ofNat 64 (b.shufEpoch * 2 ^ 32 + seq)))
    shuffleFrom key (ids.length - 1) ids
  else ids

/-! ### Faults of a binding (R225) -/

/-- The UNIT of a record of a faulted access (R471). -/
def XFault.unit (f : XFault) : Nat := if f.reason = 0 then f.detail % 0x10000 + 0x100 else 0x202

/-- A write or CONSUMED read of stream `k` faults: a context-class fault with no causing descriptor; the binding goes (R225). An access to a lost peer's
memory does nothing (R27; assumption 124). -/
def State.bindFault (s : State) (k c : Nat) (f : XFault) : State :=
  if f.reason = 99 then s.lacks f
  else if f.code < 0x40 then s
  else ((((s.noteXFault c f).ingFlag 6 c).contextFault c f.code f.detail none false f.unit).setBound k none).schedule none

/-! ### Admission (R212, R217) -/

/-- The Minute and tick at which something arrived `age` ticks ago, at most one Minute back (Table 7.4 ARRIVAL). -/
def State.arrived (s : State) (age : Nat) : Nat × Nat :=
  let at_ : Int := (s.clk : Int) - age
  let start := s.day.minuteStart s.day.minute
  if start ≤ at_ then (s.stamp, (at_ - start).toNat % 2 ^ 14)
  else
    let d := s.day
    let prev : Int := d.dayStart + (d.acc * 1440 + (d.minute : Int) * d.pd - d.pd) / 184320
    let m := d.absMin - 1
    (m / 1440 % 2 ^ 48 + m % 1440 * 2 ^ 48, (at_ - prev).toNat % 2 ^ 14)

/-- What R217 decides for a frame: the patches kept in ascending order, flags [9:5] of its record, and the pending map that stays. -/
def Binding.keep (b : Binding) (seq : Nat) (refresh : Bool) : List Nat × Nat × Option (Nat × List Nat) :=
  let everyPatch := List.range b.patches
  let forced := b.first || refresh || decide (seq % b.refreshK = 0)
  let mine := (b.map.filter (fun m => decide (m.1 = seq)))
  let stays := b.map.filter (fun m => decide (m.1 ≠ seq) && !seqOlder m.1 seq)
  let base := b2n b.first * 128 + b2n refresh * 64 + b2n (decide (seq % b.refreshK = 0)) * 32
  if forced || !b.keepEn then (everyPatch, base + b2n (mine.isSome && forced) * 512, stays)
  else match mine with
    | some m => (m.2, base, stays)
    | none => (everyPatch, base + 256, stays)

/-- The frame is admitted into its slot (R212, R217). SEQ_GAP of a stream's first admitted frame is free (assumption 2). -/
def State.admitFrame (s : State) (k : Nat) (b : Binding) (h : List Byte) (age : Nat) : State :=
  let seq := hfield h 8 4
  let (ids, flags, stays) := b.keep seq (bitAt (hfield h 6 1) 0)
  let (x, s) := s.takeFree
  let gap := match b.last with
    | some l => decide (seq ≠ (l + 1) % 2 ^ 32)
    | none => decide (x % 2 = 1)
  let (when_, tick) := s.arrived age
  let f : FrameIn := { stream := k, seq := seq, payLen := payLen h, srcTime := hfield h 24 8, arrival := when_, arrivalTick := tick,
                       ids := b.order seq ids, flags := flags + b2n gap * 1024 + b2n b.replay }
  (s.setBound k (some { b with first := false, last := some seq, map := stays })).setIng
    { (s.setBound k (some { b with first := false, last := some seq, map := stays })).ing with rx := some f }

/-- A header's geometry is the binding's (R212). -/
def Binding.matches_ (b : Binding) (h : List Byte) : Bool :=
  hfield h 12 2 == b.height && hfield h 14 2 == b.width && hfield h 16 2 == b.channels && hfield h 18 1 == b.patchH
    && hfield h 19 1 == b.patchW && hfield h 7 1 == b.format

/-- Whether a binding takes a frame whose sync arrived `age` ticks ago: its INGEST_BIND had completed by then (R210), and no unbind waits. -/
def Binding.takes (b : Binding) (now age : Nat) : Bool := b.due.isNone && b.unbind.isNone && decide (b.since + age ≤ now)

/-- The admission of a frame whose valid header stands at the expected position in LOCK (R212, R226). -/
def State.judge (s : State) (h : List Byte) (age : Nat) : State :=
  let k := hfield h 5 1 % 16
  if !s.limitsOk h then (s.ingCount 3 1).ingFlag 3 noCtx
  else match (s.bound k).filter (fun b => b.takes s.clk age) with
    | none => s.ingCount 5 1
    | some b =>
      if !b.matches_ h then (s.ingCount 4 1).ingFlag 3 noCtx
      else match s.vreadNat 0 b.ctx (b.ctrl + 8) 8 with
        | .error f => s.bindFault k b.ctx f
        | .ok consumed =>
          if b.slots ≤ (b.produced + 2 ^ 64 - consumed) % 2 ^ 64 then
            let keepsMap := b.map.filter (fun m => decide (m.1 ≠ hfield h 8 4))
            (((s.setBound k (some { b with map := keepsMap })).ingCount 6 1).ingFlag 4 noCtx)
          else if !s.admits 35 then (s.ingCount 11 1).ingFlag 5 noCtx
          else s.admitFrame k b h age

/-- A header is looked at for its stream, whose mailbox may lie in a remote window. -/
def State.headerOf (s : State) (h : List Byte) (f : State → Result) : Result :=
  match s.bound (hfield h 5 1 % 16) with
  | some b => s.remotely b.ctx (2 ^ 17 + hfield h 5 1 % 16) 99 f
  | none => f s

/-! ### Lanes and alignment (R202, R205 to R209) -/

/-- INGEST_LANE_UP (R202). -/
def execIngestLaneUp (lane : Fin 4) (s : State) : Result :=
  if s.ingOn ∧ s.pwr.state ≠ .midnight ∧ lane.val < s.lanes then
    .next ((s.setIng { s.ing with up := tabSet (fun _ => false) s.ing.up lane.val true }).tryHunt)
  else .next s

/-- ALIGNMENT_MARKER_RX (R202). -/
def execAlignmentMarkerRx (lane : Fin 4) (s : State) : Result :=
  if s.ingOn ∧ s.pwr.state ≠ .midnight ∧ lane.val < s.lanes ∧ tabGet (fun _ => false) s.ing.up lane.val then
    .next ((s.setIng { s.ing with marked := tabSet (fun _ => false) s.ing.marked lane.val true }).tryHunt)
  else .next s

/-- INGEST_CANDIDATE (R205): in HUNT or VERIFY a boundary not yet scanned becomes a candidate, or is passed over; a fifth is counted as
rejected. -/
def execIngestCandidate (pos : Nat) (hdr : List Byte) (s : State) : Result :=
  if (s.ing.align = .hunt ∨ s.ing.align = .verify) ∧ s.ing.scan ≤ pos ∧ pos % 8 = 0 then
    let s := s.setIng { s.ing with scan := pos + 8 }
    if !s.frameStart hdr then .next s
    else if 4 ≤ s.ing.verifiers.length then .next (s.ingCount 7 1)
    else .next ((s.setIng { s.ing with verifiers := s.ing.verifiers ++ [(pos + frameBytes (payLen hdr), 1)] }).setAlign .verify)
  else .next s

/-- The framer enters LOCK at the third header (R206): every other verifier is dropped, two frames were passed over, and the frame that
begins here is judged. -/
def State.enterLock (s : State) (pos : Nat) (hdr : List Byte) (age : Nat) : State :=
  let s := s.setIng { s.ing with verifiers := [], expect := pos + frameBytes (payLen hdr), lastLen := payLen hdr, misses := 0,
                                 scan := pos + 8 }
  (((s.setAlign .lock).ingCount 12 2).judge hdr age).endUnbinds

/-- The start or step of IngestVerifyHeader. -/
def verifyHeader (pos : Nat) (hdr : List Byte) (age : Nat) (s : State) : Result :=
  if s.ing.align ≠ .verify then .next s
  else match s.ing.verifiers.find? (fun v => decide (v.1 = pos)) with
    | none => .next s
    | some (_, seen) =>
      let others := s.ing.verifiers.filter (fun v => decide (v.1 ≠ pos))
      let here := s.ing.verifiers.filter (fun v => decide (v.1 = pos))
      if s.frameStart hdr then
        if here.any (fun v => decide (2 ≤ v.2)) ∨ 2 ≤ seen then .next (s.enterLock pos hdr age)
        else
          let moved := here.map (fun v => (pos + frameBytes (payLen hdr), v.2 + 1))
          .next (s.setIng { s.ing with verifiers := others ++ moved })
      else
        let s := (s.setIng { s.ing with verifiers := others }).ingCount 7 here.length
        if others = [] then .next s.resync else .next s

/-- INGEST_VERIFY_HEADER (R206): the verifier that expects `pos` advances, confirms its candidate, or drops it. -/
def execIngestVerifyHeader (pos : Nat) (hdr : List Byte) (age : Nat) (s : State) : Result :=
  s.headerOf hdr (verifyHeader pos hdr age)

/-- A miss at the expected position (R207): counted; the third in a row returns the framer to HUNT, which scans on from there. -/
def State.missHeader (s : State) : State :=
  let s := s.ingCount 2 1
  if 3 ≤ s.ing.misses + 1 then
    ((s.setIng { s.ing with scan := s.ing.expect }).ingFlag 2 noCtx).resync
  else s.setIng { s.ing with misses := s.ing.misses + 1, expect := s.ing.expect + frameBytes s.ing.lastLen }

/-- The start or step of IngestLockHeader. -/
def lockHeader (hdr : List Byte) (age : Nat) (s : State) : Result :=
  if s.ing.align ≠ .lock ∨ s.ing.rx.isSome then .next s
  else if !syncOk hdr ∨ !headerValid hdr then
    .next ((if headerValid hdr then s else s.ingCount 1 1).missHeader)
  else if s.payLimit < payLen hdr then .next ((s.judge hdr age).missHeader)
  else
    let pos := s.ing.expect
    .next ((s.setIng { s.ing with expect := pos + frameBytes (payLen hdr), lastLen := payLen hdr, misses := 0 }).judge hdr age)

/-- INGEST_LOCK_HEADER (R207, R212): the header at the expected position is a miss, or its frame is judged for admission and sets the next
expected position. -/
def execIngestLockHeader (hdr : List Byte) (age : Nat) (s : State) : Result :=
  s.headerOf hdr (lockHeader hdr age)

/-! ### The end of a frame (R213 to R215) -/

/-- The bytes of patch `p` of a payload filled up to L (R214), padded with zeros to ROW_BYTES. -/
def Binding.row (b : Binding) (data : List Byte) (p : Nat) : List Byte :=
  let py := p / b.across
  let px := p % b.across
  let n := b.patchW * b.channels * b.elem
  let pix := (List.range b.patchH).flatMap (fun r =>
    (data.drop (((py * b.patchH + r) * b.width + px * b.patchW) * b.channels * b.elem)).take n)
  pix ++ List.replicate (b.rowBytes - b.patchH * n) 0

/-- The payload as tokens see it: whole elements received, then FILL (R213). -/
def Binding.filled (b : Binding) (payload : List Byte) : List Byte :=
  let whole := min payload.length b.payload / b.elem
  payload.take (whole * b.elem) ++ (List.replicate (b.payload / b.elem - whole) (leBytes b.elem b.fill)).flatten

/-- An identifier (R211). -/
def identOf (seq stream p : Nat) : Nat := seq * 2 ^ 32 + stream * 2 ^ 28 + p % 2 ^ 16

/-- The eight words of a frame record (Table 7.4). -/
def recordWords (f : FrameIn) (b : Binding) (flags received crcRx crcCalc : Nat) : List Nat :=
  [ f.seq * 2 ^ 32 + f.stream * 2 ^ 28 + flags, received * 2 ^ 32 + f.ids.length, f.srcTime, f.arrival, crcRx * 2 ^ 32 + crcCalc,
    f.arrivalTick, b.patches, 0 ]

/-- Writes on behalf of context `c`, in order, up to the first that faults; `ing` says that they come from the Ingest Unit. -/
def State.vwrites (s : State) (c : Nat) (l : List (Nat × List Byte)) (ing : Bool := false) : State × Option XFault :=
  match l with
  | [] => (s, none)
  | (va, bs) :: rest =>
    match s.vwrite 0 c va bs .write ing with
    | (s, none) => s.vwrites c rest ing
    | (s, some f) => (s, some f)

/-- Bytes that the receive buffer holds for writes that wait for a bank die or its bridge (R223, Table 7.6). -/
def State.rcvHeld (s : State) : Nat :=
  (((List.range 4).flatMap (fun n => ((s.bank n).waiting.filter (fun w => w.ingest)).map (fun w => w.bytes.length)))).foldl (· + ·) 0

/-- Whether writes of context `c` wait in the receive buffer. -/
def State.rcvWaits (s : State) (c : Nat) : Bool :=
  (List.range 4).any (fun n => (s.bank n).waiting.any (fun w => w.ingest && decide (w.ctx = c)))

/-- The depth of the receive buffer in bytes (Table 7.6). -/
def rcvDepth : Nat := 524288

/-- The frame being received has ended with these bytes (R213 to R215): rows, identifiers and record go to its slot, and it waits for its
publication. Writes to a bank die in reset, or behind a bridge that retrains, wait in the receive buffer; a frame they do not fit with is abandoned
(R221, R223). -/
def State.endFrame (s : State) (f : FrameIn) (payload : List Byte) (crcRx : Nat) (broken : Bool) : State :=
  match s.bound f.stream with
  | none => s.setIng { s.ing with rx := none }
  | some b =>
    let crc := crc32c payload
    let short := broken || decide (f.payLen < b.payload) || decide (payload.length < b.payload)
    let long := decide (b.payload < f.payLen)
    let bad := decide (crcRx ≠ crc)
    let flags := f.flags + b2n short * 2 + b2n long * 4 + b2n bad * 8 + b2n broken * 16
    let slot := b.outBase + b.stride * (b.produced % b.slots)
    let data := b.filled payload
    let rows := f.ids.zipIdx.map (fun x => (slot + b.rowsAt + x.2 * b.rowBytes, b.row data x.1))
    let ids := f.ids.flatMap (fun p => leBytes 8 (identOf f.seq f.stream p))
    let rec_ := wordBytes (recordWords f b flags payload.length crcRx crc)
    let s0 := s
    let s := if bad then s.ingCount 8 1 else s
    let s := if short then s.ingCount 9 1 else s
    let s := if long then s.ingCount 10 1 else s
    match s.vwrites b.ctx (rows ++ [(slot + 64, ids), (slot, rec_)]) true with
    | (s, some x) => s.bindFault f.stream b.ctx x
    | (s, none) =>
      if rcvDepth < s.rcvHeld then s0.abandonFrame else
      let s := s.setBound f.stream (some { b with produced := b.produced + 1 })
      s.setIng { s.ing with rx := none, waiting := s.ing.waiting ++ [f.stream] }

/-- INGEST_FRAME_END (R213, R214). -/
def execIngestFrameEnd (payload : List Byte) (crc : BitVec 32) (s : State) : Result :=
  match s.ing.rx with
  | none => .next s
  | some f => .next (s.endFrame f (payload.take f.payLen) crc.toNat false)

/-- INGEST_LANE_LOST (R202, R209, R223): a frame being received is published with the bytes received, BROKEN and SHORT; its PAY_CRC was
not received and is free (assumption 2). The lanes realign before the framer hunts again. -/
def execIngestLaneLost (lane : Fin 4) (got : List Byte) (s : State) : Result :=
  if tabGet (fun _ => false) s.ing.up lane.val then
    let s := s.ingFlag 1 noCtx
    let s := match s.ing.rx with
      | some f =>
        let (x, s) := s.takeFree
        s.endFrame f (got.take f.payLen) (x % 2 ^ 32) true
      | none => s
    let up := tabSet (fun _ => false) s.ing.up lane.val false
    .next (((s.setIng { s.ing with up := up, marked := [], verifiers := [], misses := 0 }).firstAgain).setAlign .down).endUnbinds
  else .next s

/-- INGEST_PUBLISH (R215): once the frame's writes are made, DONE takes the next count; in Dusk the publication requests the exit to Noon (Table 7.8, R434). -/
def execIngestPublish (stream : Fin 16) (s : State) : Result :=
  let k := stream.val
  let s0 := s
  if k ∈ s.ing.waiting then
    let s := s.setIng { s.ing with waiting := s.ing.waiting.erase k }
    match s.bound k with
    | none => .next s
    | some b =>
      if s0.rcvWaits b.ctx then .next s0 else
      match s.vwrite 0 b.ctx b.ctrl (leBytes 8 (b.done + 1)) with
      | (s, some f) => .next (s.bindFault k b.ctx f)
      | (s, none) =>
        .next ((((s.setBound k (some { b with done := b.done + 1 })).ingCount 0 1).endUnbind k).beginExit)
  else .next s

/-- INGEST_BUFFER_FULL (R221): the receive buffer is full when `got` payload bytes of the frame being received have come, which is possible once these
and the writes that wait fill it. -/
def execIngestBufferFull (got : Nat) (s : State) : Result :=
  match s.ing.rx with
  | some f => .next (if rcvDepth ≤ min got f.payLen + s.rcvHeld then s.abandonFrame.endUnbinds else s)
  | none => .next s

/-- ING_CMD: RESYNC acts while ALIGN is VERIFY or LOCK (Table 7.10). -/
def State.ingCmd (v : Word) (s : State) : State :=
  if wfld v 0 1 = 1 ∧ (s.ing.align = .verify ∨ s.ing.align = .lock) then s.resync else s

/-- INGEST_RESYNC_CMD (R209, Table 7.10). -/
def execIngestResyncCmd (s : State) : Result := .next (s.onWrite 0x80010 .host (State.ingCmd 1))

/-- A write of ING_PORT_CFG (Table 7.10, R228, R569): RATE and LANES are writable only while ENABLE is 0; with ENABLE at 0 the port is DOWN. -/
def State.writePortCfg (v : Word) (who : Reader) (s : State) : State :=
  let old := s.reg 0x80000
  let v := v &&& 0x80000103
  if wfld old 31 1 = 1 ∧ (old ^^^ v) &&& 0x103 ≠ 0 then s.locked 0x80000 who
  else
    let s := s.setReg 0x80000 v
    if wfld v 31 1 = 0 then s.portDown else s.tryHunt

/-! ### INGEST_BIND (R210) -/

/-- The stream a body names. -/
def streamOf (d : Desc) : Nat := dfld d.words 3 52 4

/-- Whether a body asks to unbind. -/
def unbinds (d : Desc) : Bool := dbit d.words 3 36

/-- The binding a body asks for. -/
def bindingOf (c : Nat) (d : Desc) : Binding :=
  let ws := d.words
  { ctx := c, due := some d.idx, since := 0, height := dfld ws 2 48 16, width := dfld ws 2 32 16, channels := dfld ws 2 16 16,
    patchH := dfld ws 2 8 8, patchW := dfld ws 2 0 8, format := dfld ws 3 56 8, refreshK := dfld ws 3 40 8, replay := dbit ws 3 38,
    keepEn := dbit ws 3 37, fill := dfld ws 3 0 32, outBase := dword ws 4, ctrl := dword ws 5, shufEpoch := dfld ws 6 32 32,
    slots := dfld ws 6 0 8, seed := dword ws 7, produced := 0, done := 0, first := true, last := none, map := none, unbind := none }

/-- The reserved bits of the body of Table 7.3. -/
def bindRsv (ws : List DWord) : List (Bool × Nat) := rsvChecks ws [(3, 0xFFF0FF70FFFFFFFF), (6, 0xFFFFFFFF000000FF)]

/-- What makes an INGEST_BIND that binds malformed (R210). -/
def State.bindChecks (s : State) (d : Desc) : List (Bool × Nat) :=
  let b := bindingOf 0 d
  let dims := decide (b.height = 0) || decide (b.width = 0) || decide (b.channels = 0) || decide (64 < b.channels)
    || decide (b.patchH = 0) || decide (64 < b.patchH) || decide (b.patchW = 0) || decide (64 < b.patchW)
    || decide (b.height % b.patchH ≠ 0) || decide (b.width % b.patchW ≠ 0)
    || decide (s.maxHeight < b.height) || decide (s.maxWidth < b.width) || decide (s.maxChannels < b.channels)
  let fmtOk := decide (3 ≤ b.format) && decide (b.format ≤ 7)
  [ (dims || decide (16384 < b.patches) || (fmtOk && (decide (s.payLimit < b.payload) || decide (16384 < b.rowBytes))), 16),
    (!fmtOk || decide (b.refreshK = 0) || (s.bound (streamOf d)).isSome, 24),
    (decide (b.outBase % 64 ≠ 0), 32), (decide (b.ctrl % 64 ≠ 0), 40), (decide (b.slots = 0), 48) ] ++ bindRsv d.words

/-- What makes an INGEST_BIND that unbinds malformed (R210, Table 7.3). -/
def State.unbindChecks (s : State) (c : Nat) (d : Desc) : List (Bool × Nat) :=
  let ws := d.words
  let mine := match s.bound (streamOf d) with
    | some b => decide (b.ctx = c) && b.unbind.isNone
    | none => false
  [ (decide (dword ws 2 ≠ 0), 16),
    (!mine || decide (dfld ws 3 56 8 ≠ 0) || decide (dfld ws 3 40 8 ≠ 0) || dbit ws 3 38 || dbit ws 3 37 || decide (dfld ws 3 0 32 ≠ 0), 24),
    (decide (dword ws 4 ≠ 0), 32), (decide (dword ws 5 ≠ 0), 40), (decide (dword ws 6 ≠ 0), 48), (decide (dword ws 7 ≠ 0), 56) ] ++
  bindRsv ws

/-- INGEST_BIND with UNBIND 0 (R210). -/
def execIngestBind (c : CtxId) (s : State) : Result :=
  match s.begin c.val (fun d => d.kind == kindBind && !unbinds d) noRoom noEst s.bindChecks with
  | .no s => .next s
  | .go d s =>
    let b := bindingOf c.val d
    .next ((s.setBound (streamOf d) (some b)).finishOk c.val d b.stride)

/-- INGEST_BIND with UNBIND 1 (R210): it ends at once, or once the frame being received has been published or dropped. -/
def execIngestUnbind (c : CtxId) (s : State) : Result :=
  match s.begin c.val (fun d => d.kind == kindBind && unbinds d) noRoom noEst (s.unbindChecks c.val) with
  | .no s => .next s
  | .go d s =>
    match s.bound (streamOf d) with
    | some b => .next ((s.setBound (streamOf d) (some { b with unbind := some d.idx })).endUnbind (streamOf d))
    | none => .next s

/-! ### KEEP_MAP (R216) -/

/-- The binding a KEEP_MAP may name: bound to its context with KEEP_EN at 1. -/
def State.keepTarget (s : State) (c k : Nat) : Option Binding := (s.bound k).filter (fun b => decide (b.ctx = c) && b.keepEn)

/-- The checks of a KEEP_MAP body that read no memory. -/
def State.keepChecks (s : State) (c : Nat) (ws : List DWord) : List (Bool × Nat) :=
  [ ((s.keepTarget c (dfld ws 3 28 4)).isNone, 24), (decide (1 < dfld ws 3 24 2), 27) ] ++
  rsvChecks ws [(3, 0xFFFFFFFFF3000000), (4, 0xFFFFFFFF), (5, 0), (6, 0), (7, 0)]

/-- The patches a KEEP_MAP keeps (R216). -/
def State.keptPatches (s : State) (c p : Nat) (ws : List DWord) : Except Stop (List Nat) :=
  let src := dword ws 2
  if dfld ws 3 24 2 = 0 then do
    let t ← s.getTensor c src 0
    need (t.rank == 1 && t.size 0 == p && t.plain && (t.format == fmtBf16 || t.format == fmtFp32)) 16
    match s.readElems 0 c t 0 p with
    | .error f => .error (.fault f)
    | .ok vs => .ok ((vs.zipIdx.filter (fun x => x.1.isNan || (!(f32 (dfld ws 4 0 32)).isNan && !x.1.lt (f32 (dfld ws 4 0 32))))).map
        (fun x => x.2))
  else do
    let bs ← s.get c src (ceilDiv p 8)
    return (List.range p).filter (fun i => bitAt (bs.getD (i / 8) 0).toNat (i % 8))

/-- The start or step of KeepMap. -/
def keepMapStart (c : CtxId) (s : State) : Result :=
  match s.begin c.val (fun d => d.kind == kindKeep)
      (fun d => decide (dfld d.words 3 24 2 ≠ 0) || s.baseDone c.val d (s.baseAt c.val (dword d.words 2))) noEst (fun _ => []) with
  | .no s => .next s
  | .go d s =>
    let ws := d.words
    let k := dfld ws 3 28 4
    let p := ((s.keepTarget c.val k).map Binding.patches).getD 0
    match withStatic (malformedAt (s.keepChecks c.val ws)) (s.keptPatches c.val p ws) with
    | .error e => .next (s.stopDesc c.val d e)
    | .ok ids =>
      match s.bound k with
      | none => .next s
      | some b =>
        let seq := dfld ws 3 32 32
        let late := match b.last with
          | some l => decide (l = seq) || seqOlder seq l
          | none => false
        if late then .next (s.finish c.val d 1 ids.length)
        else .next ((s.setBound k (some { b with map := some (seq, ids) })).finishOk c.val d ids.length)

/-- KEEP_MAP (R216, R222, R325): once the scores are complete the map becomes pending, or is discarded when its frame or a later one has been admitted. -/
def execKeepMap (c : CtxId) (s : State) : Result :=
  s.starting c.val (keepMapStart c)

end Sys2Proof.Machine
end

