-- ==== Sys2Proof/Machine/Route.lean ====
section
/-! DEFINITION. Machine/Route.lean: the LAYER descriptor, the Routing Engine from gate logits to the grouped-operation table, the Bias
Table and the Evening loop (chapter 8). -/

namespace Sys2Proof.Machine

/-! ### The LAYER descriptor (R229, R230, R252) -/

/-- RTE_SET_CFG_s.EXPERTS, acting within 1 to 256 (R250). -/
def State.setExperts (s : State) (k : Nat) : Nat :=
  let v := s.fld (0x30100 + 0x10 * k) 0 9
  if v = 0 ∨ 256 < v then 256 else v

/-- The checks of a LAYER body that read no memory (R229, R252). -/
def layerStatic (ws : List DWord) : Except Stop Unit :=
  match malformedAt
    [ (decide (dword ws 2 % 64 ≠ 0) || decide (dword ws 2 = 0), 16),
      (decide (dword ws 5 % 0x200000 ≠ 0) || decide (dword ws 5 = 0), 40),
      (decide (dword ws 6 % 64 ≠ 0), 48), (decide (1 < dword ws 7), 56) ] with
  | some d => .error (.bad d)
  | none => .ok ()

/-- IN and OUT (R247, R252, R310). -/
def State.layerTensors (s : State) (c : Nat) (ws : List DWord) : Except Stop (Tensor × Tensor) := do
  let a ← s.getTensor c (dword ws 3) 0
  let o ← s.getTensor c (dword ws 4) 0
  need (a.rank == 2 && a.plain && o.rank == 2 && o.plain && a.size 0 == o.size 0 && a.size 1 == o.size 1) 0
  need (decide (4 ≤ o.format) && decide (o.format ≤ 7)) 0
  return (a, o)

/-- The number of tokens of IN is at most 16,384 (R267). -/
def tokensFit (a : Tensor) : Except Stop Unit := need (decide (a.size 0 ≤ 16384)) 24

/-- The words of the layer record, with its fields within Table 8.2 and R247 (R250, R252). -/
def State.layerRecord (s : State) (c : Nat) (ws : List DWord) : Except Stop (List Nat) := do
  need (dword ws 2 % 64 == 0 && dword ws 2 != 0) 16
  let r ← s.getWords c (dword ws 2) 8
  let w2 := wordAt r 2
  let w3 := wordAt r 3
  let e := bitsOf w2 0 9
  let k := bitsOf w2 40 2
  let f := bitsOf (wordAt r 4) 0 8
  need (onlyBits w2 0x00F13F00000001FF && onlyBits w3 0xFFFFFFFF0000FFFF && onlyBits (wordAt r 4) 0xFF && wordAt r 5 == 0
    && wordAt r 6 == 0 && wordAt r 7 == 0) 16
  need (decide (1 ≤ e) && decide (e ≤ 256) && (k == 1 || (k == 2 && decide (2 ≤ e))) && decide (bitsOf w2 44 2 ≤ 2)
    && (f == fmtBf16 || f == fmtFp32)) 16
  need (bitsOf w3 48 16 == 0 || decide (bitsOf w3 32 16 ≤ bitsOf w3 48 16)) 16
  need (!bitAt w2 48 || s.setExperts (bitsOf w2 52 4) == e) 16
  return r

/-- The gate weights, of shape E × D (R252, R267). -/
def State.layerGate (s : State) (c : Nat) (ws : List DWord) : Except Stop Tensor := do
  let (a, _) ← s.layerTensors c ws
  let r ← s.layerRecord c ws
  let e := bitsOf (wordAt r 2) 0 9
  let t ← s.getTensor c (wordAt r 0) 0
  need (t.rank == 2 && t.size 0 == e && t.size 1 == a.size 1 && s.extentInner t 1 == e && s.extentInner t 0 == a.size 1
    && pairOk a.format t.format) 0
  s.checkHome c t.base
  return t

/-- Every entry of the expert table (R267). -/
def State.layerEntries (s : State) (c : Nat) (ws : List DWord) : Except Stop (List Expert) := do
  let (a, _) ← s.layerTensors c ws
  let r ← s.layerRecord c ws
  let tab := wordAt r 1
  need (tab % 64 == 0) 16
  let es ← (List.range (bitsOf (wordAt r 2) 0 9)).mapM (fun e => s.getExpert c (tab + 64 * e) a.format (a.size 1))
  need (es.all (fun e => e.wOut.isSome && s.dOut e == a.size 1)) 16
  es.forM (fun e => s.checkHome c (s.operandVa e))
  return es

/-- The words of the batch record; zeros without one (R252). -/
def State.layerBatch (s : State) (c : Nat) (ws : List DWord) : Except Stop (List Nat) := do
  if dword ws 6 = 0 then return []
  else
    need (dword ws 6 % 64 == 0) 48
    let b ← s.getWords c (dword ws 6) 8
    let w2 := wordAt b 2
    let p := bitsOf w2 16 16
    need (onlyBits w2 0xFFFF0007 && (b.drop 3).all (fun w => w == 0) && bitsOf w2 0 2 != 3) 48
    need (bitsOf w2 0 2 != 2 || (wordAt b 1 != 0 && decide (1 ≤ p) && decide (p ≤ 16384))) 48
    return b

/-- The LAYERs that hold a credit of the layer queue (Table 8.10). -/
def State.layersQueued (s : State) : Nat :=
  (s.work.jobs.filter (fun j => (j.layer.map (fun l => l.skipLayer)) == some false
    && (decide (j.stage = .gate) || decide (j.stage = .route)))).length

/-- What a LAYER keeps of its records. -/
def layerOf (ws : List DWord) (out : Tensor) (gate : Option Tensor) (r b : List Nat) : Layer :=
  let w2 := wordAt r 2
  let w3 := wordAt r 3
  let b2 := wordAt b 2
  { lrec := dword ws 2, work := dword ws 5, skipLayer := dbit ws 7 0, gateW := gate, set := bitsOf w2 52 4, biasEn := bitAt w2 48,
    gating := bitsOf w2 44 2, renorm := bitAt w2 43, dropOrder := bitAt w2 42, topK := bitsOf w2 40 2, experts := bitsOf w2 0 9,
    capMax := bitsOf w3 48 16, capMin := bitsOf w3 32 16, capFactor := bitsOf w3 0 16, expFmt := bitsOf (wordAt r 4) 0 8,
    skip := wordAt b 0, ids := wordAt b 1, patches := bitsOf b2 16 16, scoreKind := bitAt b2 2, scoreMode := bitsOf b2 0 2, out := out,
    version := 0, dropped := 0, bare := 0 }

/-- A descriptor's output tensor is known: later inputs with its BASE wait for it (R325). -/
def State.setOut (s : State) (c idx base : Nat) : State :=
  match s.desc c idx with
  | some d => s.setDesc c { d with outBase := some base }
  | none => s

/-- OUT's BASE is known of a LAYER that stops at its start, as far as it can be read: a SEND pipelined to it completes with its code (R326). -/
def State.noteOut (s : State) (c : Nat) (d : Desc) : State :=
  match s.baseAt c (dword d.words 4) with
  | some b => s.setOut c d.idx b
  | none => s

/-- The Gate stage: a one-row table of every token (R267). -/
def State.gateJob (s : State) (c : Nat) (d : Desc) (a out gate : Tensor) (r b : List Nat) (es : List Expert) : Job :=
  let row : TabRow := { expert := 0, m := a.size 0, start := 0, home := s.homeOf c gate.base, epoch := (s.reg 0xA0004).toNat }
  { Job.blank c (s.ctx c).gen d.idx a with
    stage := .gate, layer := some (layerOf d.words out (some gate) r b), entries := es, rows := [row], all := [row], handed := true,
    tokens := List.range (a.size 0), expOut := dword d.words 5 + 0x100000, outFmt := fmtFp32 }

/-- The start or step of Layer. -/
def layerStart (c : CtxId) (s : State) : Result :=
  match s.begin c.val (fun d => d.kind == kindLayer && !dbit d.words 7 0) (fun _ => decide (s.layersQueued < 16)) noEst (fun _ => []) with
  | .no s => .next s
  | .go d s =>
    let ws := d.words
    let io := s.layerTensors c.val ws
    let r := s.layerRecord c.val ws
    let g := s.layerGate c.val ws
    let es := s.layerEntries c.val ws
    let b := s.layerBatch c.val ws
    match firstStop [layerStatic ws, io.bind (fun x => tokensFit x.1), r.map (fun _ => ()), g.map (fun _ => ()), es.map (fun _ => ()),
                     b.map (fun _ => ())], io, r, g, es, b with
    | none, .ok (a, out), .ok r, .ok g, .ok es, .ok b =>
      .next ((s.addJob (s.gateJob c.val d a out g r b es)).setOut c.val d.idx out.base)
    | some e, _, _, _, _, _ => .next ((s.noteOut c.val d).stopDesc c.val d e)
    | _, _, _, _, _, _ => .next s

/-- LAYER (R229 to R231, R246): its records and entries are read, and its Gate stage begins. -/
def execLayer (c : CtxId) (s : State) : Result :=
  s.starting c.val (layerStart c)

/-- The start or step of LayerSkip. -/
def layerSkipStart (c : CtxId) (s : State) : Result :=
  match s.begin c.val (fun d => d.kind == kindLayer && dbit d.words 7 0) (fun _ => decide (s.layersQueued < 16)) noEst (fun _ => []) with
  | .no s => .next s
  | .go d s =>
    let io := s.layerTensors c.val d.words
    match firstStop [layerStatic d.words, io.bind (fun x => tokensFit x.1)], io with
    | none, .ok (a, out) =>
      let j := { Job.blank c.val (s.ctx c.val).gen d.idx a with stage := .combine, stageAt := s.clk,
                                                                   layer := some (layerOf d.words out none [] []) }
      let s := (s.addJob j).setOut c.val d.idx out.base
      .next (s.setWork { s.work with combineQueue := s.joinQueue (c.val, d.idx) s.work.combineQueue })
    | some e, _ => .next ((s.noteOut c.val d).stopDesc c.val d e)
    | _, _ => .next s

/-- LAYER with SKIP_LAYER at 1 (R239): only its Combine stage runs, and none of its records is read. -/
def execLayerSkip (c : CtxId) (s : State) : Result :=
  s.starting c.val (layerSkipStart c)

/-! ### Order -/

/-- `x` goes in front of the first element it comes before. -/
def insertBy {α : Type} (before : α → α → Bool) (x : α) : List α → List α
  | [] => [x]
  | y :: ys => if before x y then x :: y :: ys else y :: insertBy before x ys

/-- The list in order; elements that neither comes before the other keep their order. -/
def sortBy {α : Type} (before : α → α → Bool) (l : List α) : List α := l.foldl (fun acc x => insertBy before x acc) []

/-! ### Capacity, sorting and dispatch (R236 to R238) -/

/-- The assignments to expert `e` as (token, rank), by rank and then token (R236). -/
def assignments (toks : List (Option Choice)) (k e : Nat) : List (Nat × Nat) :=
  (List.range k).flatMap (fun r => toks.zipIdx.filterMap (fun p =>
    match p.1 with
    | some ch => if ch.sel[r]? = some e then some (p.2, r) else none
    | none => none))

/-- The selection score of token `t` for expert `e`. -/
def scoreOf (toks : List (Option Choice)) (t e : Nat) : Nat :=
  match toks[t]? with
  | some (some ch) => ch.score.getD e 0
  | _ => 0

/-- The order in which assignments to `e` are kept. -/
def keepOrder (l : Layer) (toks : List (Option Choice)) (e : Nat) : List (Nat × Nat) :=
  let as := assignments toks l.topK e
  if l.dropOrder then
    sortBy (fun x y => decide (x.2 < y.2) || (decide (x.2 = y.2) && flt (scoreOf toks y.1 e) (scoreOf toks x.1 e))) as
  else as

/-- The capacity C (R236). -/
def capacity (l : Layer) (a : Nat) : Nat :=
  if l.capFactor = 0 then 2 * a
  else
    let c := max ((l.capFactor * a * l.topK + 256 * l.experts - 1) / (256 * l.experts)) l.capMin
    if l.capMax = 0 then c else min c l.capMax

/-- What Route decided for a batch: the tokens' choices and, per expert, the kept assignments in ascending token order and how many were
dropped. -/
structure Routed where
  toks : List (Option Choice)
  kept : List (List (Nat × Nat))
  drops : List Nat
  deriving DecidableEq, Repr

/-- Capacity and drops (R236). -/
def applyCapacity (l : Layer) (toks : List (Option Choice)) : Routed :=
  let c := capacity l (toks.filter (fun t => t.isSome)).length
  let orders := (List.range l.experts).map (keepOrder l toks)
  { toks := toks, kept := orders.map (fun o => sortBy (fun x y => decide (x.1 < y.1)) (o.take c)), drops := orders.map (fun o => o.length - c) }

/-- The sorted list: token and rank of every kept assignment (R237). -/
def Routed.sorted (r : Routed) : List (Nat × Nat) := r.kept.flatten

/-- Kept assignments per expert. -/
def Routed.counts (r : Routed) : List Nat := r.kept.map (fun k => k.length)

/-- OFFSET per expert. -/
def offsetsOf : Nat → List Nat → List Nat
  | _, [] => []
  | a, n :: ns => a :: offsetsOf (a + n) ns

/-- The sorted-list index of assignment (t, r); 0xFFFF when it was not kept. -/
def Routed.slot (r : Routed) (t rank : Nat) : Nat :=
  if r.sorted.contains (t, rank) then r.sorted.idxOf (t, rank) else 0xFFFF

/-- The two words of a route record (Table 8.5). -/
def Routed.record (r : Routed) (topK t : Nat) : List Nat :=
  match r.toks[t]? with
  | some (some ch) =>
    let s0 := r.slot t 0
    let s1 := r.slot t 1
    let drop := fun (rank slot : Nat) => b2n (decide (rank < ch.sel.length) && decide (slot = 0xFFFF))
    [ s1 * 2 ^ 48 + s0 * 2 ^ 32 + b2n ch.sel.isEmpty * 2 ^ 21 + b2n (decide (topK = 2) && decide (ch.sel.length = 1)) * 2 ^ 20
        + b2n ch.nan * 2 ^ 18 + drop 1 s1 * 2 ^ 17 + drop 0 s0 * 2 ^ 16 + ch.sel.getD 1 0 * 2 ^ 8 + ch.sel.getD 0 0,
      ch.w.getD 1 0 * 2 ^ 32 + ch.w.getD 0 0 ]
  | _ => [0xFFFF * 2 ^ 48 + 0xFFFF * 2 ^ 32 + 2 ^ 19, 0]

/-- A sorted-list entry (Table 8.6). -/
def Routed.entry (r : Routed) (x : Nat × Nat) : Nat :=
  let w := match r.toks[x.1]? with
    | some (some ch) => ch.w.getD x.2 0
    | _ => 0
  w * 2 ^ 32 + x.2 * 2 ^ 31 + x.1

/-- A token's score for the keep-map (R240). -/
def scoreFor (kind : Bool) : Option Choice → Nat
  | some ch => match ch.sel with
    | [] => fmtNan 7
    | e :: _ => if kind then ch.score.getD e 0 else ch.w.getD 0 0
  | none => fmtNan 7

/-- The score vector (R240): by token, or by patch index of the tokens' identifiers. -/
def scoreVector (l : Layer) (toks : List (Option Choice)) (ids : List Nat) : List Nat :=
  if l.scoreMode = 1 then toks.map (scoreFor l.scoreKind)
  else (toks.zip ids).foldl (fun v p =>
    if p.2 % 2 ^ 16 < l.patches then v.set (p.2 % 2 ^ 16) (scoreFor l.scoreKind p.1) else v) (List.replicate l.patches (fmtNan 7))

/-- VERSION of set `k`. -/
def State.setVersion (s : State) (k : Nat) : Nat := (s.reg (0x30104 + 0x10 * k)).toNat

/-- RTE_CNT_k counts. -/
def State.rteCount (s : State) (k n : Nat) : State := s.bump (0x30040 + 4 * k) 32 n

/-- An RTE_EVT bit (R258). -/
def State.rteFlag (s : State) (bit : Nat) : State := s.flagOpen 0x30008 bit 4 noCtx

/-- The rows of a batch's table (R238): one for each expert with a kept assignment. -/
def State.tableRows (s : State) (j : Job) (r : Routed) : List TabRow :=
  let counts := r.counts
  let offs := offsetsOf 0 counts
  ((List.range counts.length).filter (fun e => decide (0 < counts.getD e 0))).map (fun e =>
    { expert := e, m := counts.getD e 0, start := offs.getD e 0,
      home := ((j.entries[e]?).map s.operandVa).bind (s.homeOf j.ctx), epoch := (s.reg 0xA0004).toNat })

/-- The job in its Experts stage (R231, R266). -/
def State.expertsJob (s : State) (j : Job) (l : Layer) (r : Routed) : Job :=
  let rows := s.tableRows j r
  let used := rows.filterMap (fun x => j.entries[x.expert]?)
  let expOut := l.work + 0x1100000
  let ob := fmtBits l.expFmt / 8
  let bare := (r.toks.zipIdx.filter (fun p => p.1.isSome && r.slot p.2 0 == 0xFFFF && r.slot p.2 1 == 0xFFFF)).length
  let l := { l with version := if l.biasEn then s.setVersion l.set else 0, dropped := r.drops.foldl (· + ·) 0, bare := bare }
  { j with stage := .experts, layer := some l, rows := rows, all := rows, handed := !rows.isEmpty, groups := [],
           tokens := r.sorted.map (fun x => x.1), expOut := expOut,
           inter := alignUp (expOut + l.topK * j.input.size 0 * j.input.size 1 * ob) 0x200000, irow := s.irowOf used,
           outFmt := l.expFmt, assign := r.sorted.length }

/-- The energy estimate of a row: those of its groups. -/
def State.rowEstimate (s : State) (j : Job) (r : TabRow) (i : Nat) : Nat :=
  match j.expertOf r with
  | some e => min 0xFFFFFFFF (((s.rowGroups j e r i).map (fun g => g.uj)).foldl (· + ·) 0)
  | none => 0

/-- The words of the grouped-operation table (Tables 8.7 and 8.8). -/
def State.tableWords (s : State) (j : Job) (l : Layer) : List Nat :=
  let w := l.work
  let epoch := (s.reg 0xA0004).toNat
  [ j.all.length * 2 ^ 32 + j.input.size 0 * 2 ^ 16 + l.experts, j.input.size 1 * 2 ^ 32 + j.assign, w + 0x48000, w + 0x8000, j.expOut,
    l.lrec, l.version * 2 ^ 32 + l.dropped, epoch * 2 ^ 32 ] ++
  j.all.zipIdx.flatMap (fun p =>
    [ (p.1.home.getD 0xF) * 2 ^ 52 + p.1.start * 2 ^ 32 + p.1.m * 2 ^ 16 + p.1.expert,
      ((j.entries[p.1.expert]?).map (fun e => e.addr)).getD 0, p.1.epoch * 2 ^ 32 + s.rowEstimate j p.1 p.2, 0 ])

/-- 32-bit words as bytes. -/
def u32Bytes (ws : List Nat) : List Byte := ws.flatMap (leBytes 4)

/-- What Route writes to the work area, in order (Table 8.4). -/
def State.routeWrites (s : State) (j : Job) (l : Layer) (r : Routed) (ids : List Nat) : List (Nat × List Byte) :=
  let w := l.work
  let vec := scoreVector l r.toks ids
  let desc := [w + 0x90000, fmtFp32 + 2 ^ 8, vec.length, 0, 0, 0, 0, 0]
  [ (w + 0x4000, u32Bytes r.counts), (w + 0x4400, u32Bytes (offsetsOf 0 r.counts)), (w + 0x4800, u32Bytes r.drops),
    (w + 0x8000, wordBytes ((List.range r.toks.length).flatMap (r.record l.topK))), (w + 0x48000, wordBytes (r.sorted.map r.entry)) ] ++
  (if l.scoreMode = 0 then [] else [(w + 0x88000, wordBytes desc), (w + 0x90000, u32Bytes vec)]) ++
  [(w, wordBytes (s.tableWords j l))]

/-- The batch leaves the Routing Engine's queue. -/
def State.unqueueRoute (s : State) (j : Job) : State :=
  s.setWork { s.work with routeQueue := s.work.routeQueue.filter (fun x => decide (x ≠ (j.ctx, j.idx))) }

/-- A batch in Route ends with ENGINE_FAULT (R254, R255). -/
def State.routeFault (s : State) (j : Job) (detail : Nat) : State :=
  ((s.unqueueRoute j).contextFault j.ctx 0x45 detail (some j.idx) false 32).schedule none

/-- Whether the control core of context `c` still holds a table of the Dispatcher's (Table 8.10). -/
def State.tableHeld (s : State) (c : Nat) : Bool :=
  s.work.jobs.any (fun j => j.ctx % 4 == c % 4 && j.handed && j.layer.isSome && decide (j.stage = .experts))

/-- The batch at the front of the Routing Engine's queue is routed (R233 to R240, R243, R254). -/
def State.routeBatch (s : State) (j : Job) (l : Layer) : State :=
  if l.biasEn ∧ s.setPoisoned l.set then s.routeFault j (0x20000 + l.set)
  else match s.routeTokens j l with
    | .error f => ((s.unqueueRoute j).faultDesc j.ctx j.idx f).schedule none
    | .ok (toks, ids) =>
      let r := applyCapacity l toks
      let s := if l.biasEn then s.countLoad l.set toks else s
      let j := s.expertsJob j l r
      let live := toks.filterMap id
      match s.vwrites j.ctx (s.routeWrites j (j.layer.getD l) r ids) with
      | (s, some f) => ((s.unqueueRoute j).faultDesc j.ctx j.idx f).schedule none
      | (s, none) =>
        let s := ((((((s.rteCount 0 1).rteCount 1 live.length).rteCount 2 j.assign).rteCount 3 (r.drops.foldl (· + ·) 0)).rteCount 4
          (toks.length - live.length)).rteCount 5 (live.filter (fun ch => ch.nan)).length)
        (((s.unqueueRoute j).setJob j).stageEnd j).schedule none

/-- The start or step of RouteStage. -/
def routeStage (s : State) : Result :=
  if s.work.routeTest ∨ s.pwr.state = .night ∨ s.pwr.state = .midnight ∨ s.flt.pkgFault then .next s
  else match s.inRoute with
    | none => .next s
    | some (j, l) =>
      if !s.admits 32 then .next (s.routeFault j 0x20100)
      else if s.tableHeld j.ctx then .next s
      else .next (s.routeBatch j l)

/-- ROUTE_STAGE (R231, R245, R251, R255): not in Night nor while the engine tests itself, and only while the control core can take the
table. -/
def execRouteStage (s : State) : Result :=
  match s.inRoute with
  | some (j, _) => s.remotely j.ctx j.idx 99 routeStage
  | none => .next s

/-- ROUTE_PARITY_ERROR (R255, R251): the batch in Route ends; the selections it had made so far, a free number of its tokens', stay counted
in LOAD (assumption 2). The engine tests itself. -/
def execRouteParityError (s : State) : Result :=
  let s := (s.rteFlag 2).setWork { (s.rteFlag 2).work with routeTest := true }
  match s.inRoute with
  | none => .next s
  | some (j, l) => .next ((s.partLoad j l).routeFault j 0x20100)

/-- ROUTE_SELF_TEST (R255): the engine routes again, or its data-path view becomes failed. -/
def execRouteSelfTest (ok : Bool) (s : State) : Result :=
  if !s.work.routeTest then .next s
  else
    let s := s.setWork { s.work with routeTest := false }
    .next (if ok then s else s.setDp 32 true)

/-! ### The Bias Table (R241 to R244, R250, R254) -/

/-- BIAS_TABLE_UE (R254, Table 15.4 reason 5): a corrected error is counted; an uncorrectable one poisons the set, and an open bracket that changes the
set rolls back. -/
def execBiasTableUe (k : Fin 16) (corrected : Bool) (s : State) : Result :=
  if corrected then .next (s.rteCount 8 1)
  else
  let was := s.setPoisoned k.val
  let s := (s.setFld (0x30100 + 0x10 * k.val) 30 1 1).rteFlag 0
  match s.flt.bracket with
  | some b =>
    if !was ∧ b.sets.any (fun x => decide (x.set = k.val)) then .next (s.rollbackFor (rollbackDetail 5 0 k.val)) else .next s
  | none => .next s

/-- Biases go to entries from `first` on. -/
def State.putBiases (s : State) (k first : Nat) : List Nat → State
  | [] => s
  | v :: vs => (s.setReg (0x34000 + 0x400 * k + 4 * first) (BitVec.ofNat 32 v)).putBiases k (first + 1) vs

/-- LOAD counters return to 0. -/
def State.clearLoads (s : State) (k : Nat) (es : List Nat) : State :=
  es.foldl (fun s e => s.setReg (0x38000 + 0x400 * k + 4 * e) 0) s

/-- The shadow's copy of set `k`, made at its first touch under the lease epoch relied on (R457). -/
def State.shadowOf (s : State) (b : Bracket) (k epoch : Nat) : ShadowSet :=
  match b.sets.find? (fun x => decide (x.set = k)) with
  | some x => x
  | none =>
    let lo := 0x34000 + 0x400 * k
    { set := k, epoch := epoch, version := s.setVersion k, clearLoad := [], whole := false,
      biases := (s.regs.filter (fun e => decide (lo ≤ e.1) && decide (e.1 < lo + 0x400))).map (fun e => ((e.1 - lo) / 4, e.2)) }

/-- The open bracket with its copy of a set changed. -/
def Bracket.putSet (b : Bracket) (x : ShadowSet) : Bracket :=
  { b with sets := b.sets.filter (fun y => decide (y.set ≠ x.set)) ++ [x] }

/-- A descriptor that acts under the write lease of set `k` (R241): stale ones complete STALE_EPOCH without effect; others go on with
`direct` outside a bracket and `inShadow` inside one. -/
def State.useSet (s : State) (c : Nat) (d : Desc) (k : Nat) (direct : State → State) (inShadow : ShadowSet → ShadowSet)
    (detail : ShadowSet → Nat) : State :=
  let res := resSet k
  let gone := s.inBracket c && (s.flt.bracket.map (fun b => b.renews.any (fun r => decide (r.1 = res) && decide (r.2.1 = 2)))).getD false
  if (s.lease res).holder ≠ some (c, (s.ctx c).gen) ∨ s.epoch res ≠ d.epoch ∨ gone then
    if s.inBracket c then (s.bump 0xE0054 32 1).bracketFail c d 1 0x20 res else s.staleUse c d res
  else if s.inBracket c then
    match s.flt.bracket with
    | none => s
    | some b =>
      let x := s.shadowOf b k d.epoch
      if 4 ≤ (b.sets.filter (fun y => decide (y.set ≠ k))).length then s.bracketFail c d 7 0 0
      else (({ s with flt := { s.flt with bracket := some (b.putSet (inShadow x)) } }).applied c d (detail x))
  else
    let b : Bracket := { ctx := c, gen := 0, count := 0, sets := [], ptes := [], forms := [], renews := [], bankLost := [], closeIdx := none,
                         committing := false }
    (direct s).finishOk c d (detail (s.shadowOf b k d.epoch))

/-- The checks of a BIAS_WRITE body that read no memory (Table 8.9). -/
def biasChecks (d : Desc) : List (Bool × Nat) :=
  let ws := d.words
  let n := dfld ws 3 16 9
  [ (decide (dword ws 2 % 4 ≠ 0), 16), (decide (n = 0) || decide (256 < dfld ws 3 40 8 + n), 26) ] ++
  rsvChecks ws [(3, 0x000FFF0001FF0001), (4, 0), (5, 0), (6, 0), (7, 0)]

/-- Values of a Bias Table shadow from `first` on. -/
def putTab (t : Tab Word) (first : Nat) : List Nat → Tab Word
  | [] => t
  | v :: vs => putTab (tabSet (fun _ => 0) t first (BitVec.ofNat 32 v)) (first + 1) vs

/-- The start or step of BiasWrite. -/
def biasWrite (c : CtxId) (s : State) : Result :=
  match s.begin c.val (fun d => d.kind == kindBias) noRoom noEst biasChecks with
  | .no s => .next s
  | .go d s =>
    let ws := d.words
    let k := dfld ws 3 48 4
    let first := dfld ws 3 40 8
    let n := dfld ws 3 16 9
    let es := if dbit ws 3 0 then (List.range n).map (fun i => first + i) else []
    let whole := first = 0 ∧ n = 256
    let holds := (s.lease (resSet k)).holder = some (c.val, (s.ctx c.val).gen) ∧ s.epoch (resSet k) = d.epoch
    match (if holds then s.get c.val (dword ws 2) (4 * n) else .ok []) with
    | .error e => .next (s.stopDesc c.val d e)
    | .ok bs =>
      let vals := elemBits 32 0 n bs
      if holds ∧ !vals.all f32Fin then .next (s.finishFail c.val d 0x10 16)
      else .next (s.useSet c.val d k
        (fun s =>
          let s := (s.putBiases k first vals).clearLoads k es
          if whole then s.setFld (0x30100 + 0x10 * k) 30 1 0 else s)
        (fun x => { x with biases := putTab x.biases first vals, clearLoad := x.clearLoad ++ es, whole := x.whole || decide whole })
        (fun _ => n))

/-- BIAS_WRITE (R241, R242, R254). -/
def execBiasWrite (c : CtxId) (s : State) : Result :=
  s.starting c.val (biasWrite c)

/-- ROUTE_VERSION (R241): VERSION takes the descriptor's value; DETAIL is the previous one. -/
def execRouteVersion (c : CtxId) (s : State) : Result :=
  match s.begin c.val (fun d => d.kind == kindVersion) noRoom noEst
      (fun d => rsvChecks d.words [(2, 0x000F0000FFFFFFFF), (3, 0), (4, 0), (5, 0), (6, 0), (7, 0)]) with
  | .no s => .next s
  | .go d s =>
    let k := dfld d.words 2 48 4
    let v := dfld d.words 2 0 32
    .next (s.useSet c.val d k (fun s => s.setReg (0x30104 + 0x10 * k) (BitVec.ofNat 32 v)) (fun x => { x with version := v })
      (fun x => x.version))

/-- A shadowed set takes effect (R241, R254, R459). -/
def State.commitSet (s : State) (x : ShadowSet) : State :=
  let s := (s.putBiases x.set 0 ((List.range 256).map (fun e => (tabGet (fun _ => 0) x.biases e).toNat))).clearLoads x.set x.clearLoad
  let s := s.setReg (0x30104 + 0x10 * x.set) (BitVec.ofNat 32 x.version)
  if x.whole then s.setFld (0x30100 + 0x10 * x.set) 30 1 0 else s

/-- A bias moved by RATE toward balance and held within LIMIT (R244). -/
def eveningBias (b load x total rate limit : Nat) : Nat :=
  let v := if load * x < total then fadd b rate else if total < load * x then fsub b rate else b
  let v := if flt limit v then limit else v
  if flt v (fsub 0 limit) then fsub 0 limit else v

/-- The Evening loop's run on set `k` (R244). In Night the selections of the Day are taken as 0, so that nothing changes (R251, assumption 119). -/
def State.eveningSet (s : State) (k : Nat) : State :=
  let held := (s.lease (resSet k)).holder.isSome || ((s.flt.bracket.map (fun b => b.sets.any (fun x => decide (x.set = k)))).getD false)
  if held || s.setPoisoned k then (s.rteCount 7 1).rteFlag 1
  else
    let x := s.setExperts k
    let es := List.range x
    let load := fun e => (s.reg (0x38000 + 0x400 * k + 4 * e)).toNat
    let total := (es.map load).foldl (· + ·) 0
    if total = 0 ∨ s.pwr.state = .night then s
    else
      let rate := (s.reg (0x30108 + 0x10 * k)).toNat
      let limit := (s.reg (0x3010C + 0x10 * k)).toNat
      let vals := es.map (fun e => eveningBias (s.bias k e) (load e) x total rate limit)
      let v := (s.setVersion k + 1) % 2 ^ 32
      ((((s.putBiases k 0 vals).clearLoads k es).setReg (0x30104 + 0x10 * k) (BitVec.ofNat 32 v)).rteCount 6 1)

/-- EVENING_LOOP (R244, R51): in its turn among the events of the Minute. -/
def execEveningLoop (k : Fin 16) (s : State) : Result :=
  if s.turn (.evening k.val) then .next ((s.eveningSet k.val).fired (.evening k.val)) else .next s

/-- A write of RTE_EVE_RATE_s or RTE_EVE_LIMIT_s: a NaN, infinite or negative value stores 0 (R250). -/
def State.writeEveParam (off : Nat) (v : Word) (s : State) : State :=
  if !f32Fin v.toNat || (f32 v.toNat).lt (f32 0) then (s.setReg off 0).rteFlag 3 else s.setReg off v

/-- RTE_EVE_PARAM_WRITE (R250). -/
def execRteEveParamWrite (k : Fin 16) (limit : Bool) (v : Word) (s : State) : Result :=
  let off := (if limit then 0x3010C else 0x30108) + 0x10 * k.val
  .next (s.onWrite off .host (State.writeEveParam off v))

end Sys2Proof.Machine
end

