-- ==== Sys2Proof/Machine/Handoff.lean ====
section
/-! DEFINITION. Machine/Handoff.lean: HANDOFF_SEND and HANDOFF_RECV: offers, grants, chunks and their acknowledgements, pipelined sends and
receive leases (R318 to R326, R328 to R336). -/

namespace Sys2Proof.Machine

/-! ### Descriptors (Table 11.1) -/

/-- The peer a hand-off names. -/
def peerOf (ws : List DWord) : Peer := { route := dfld ws 4 40 2, pos := dfld ws 4 0 7, id := dfld ws 4 48 16 }

/-- CHANNEL. -/
def channelOf (ws : List DWord) : Nat := dfld ws 5 16 8

/-- SEQ. -/
def seqOf (ws : List DWord) : Nat := dfld ws 5 32 32

/-- The body conditions of both kinds; `wire` says that WIRE_FORMAT is a field (R100, R318, R319). -/
def handChecks (wire : Bool) (ws : List DWord) : List (Bool × Nat) :=
  let p := peerOf ws
  rsvChecks ws [(4, 0xFFFF03000000007F), (5, if wire then 0xFFFFFFFF00FF01FF else 0xFFFFFFFF00FF0100), (6, 0), (7, 0)] ++
  [ (decide (p.route = 3), 37), (decide (p.route = 0) && decide (p.id ≠ 0), 38), (decide (p.route ≠ 0) && decide (p.pos ≠ 0), 32),
    (wire && (decide (dfld ws 5 0 8 < 4) || decide (7 < dfld ws 5 0 8)), 40) ]

/-- TENSOR of a hand-off (R187, Table 11.1, R328). -/
def State.handTensor (s : State) (c : Nat) (ws : List DWord) : Except Stop Tensor := do
  let t ← s.getTensor c (dword ws 2) 0
  need (t.rank == 2 && t.plain && decide (4 ≤ t.format) && decide (t.format ≤ 7)) 16
  need (decide (t.size 0 ≤ 2 ^ 20) && decide (t.size 1 ≤ 65536)) 16
  return t

/-! ### Chunks (R320) -/

/-- Wire bytes of one row. -/
def wireRow (d wire : Nat) : Nat := d * (fmtBits wire / 8)

/-- Chunks of `n` rows of `d` elements on the wire. -/
def chunkCount (n d wire : Nat) : Nat :=
  if wireRow d wire ≤ 16384 then ceilDiv n (16384 / wireRow d wire) else n * ceilDiv (wireRow d wire) 16384

/-- What chunk `k` covers: first row, rows, first column, columns. -/
def chunkSpan (n d wire k : Nat) : Nat × Nat × Nat × Nat :=
  if wireRow d wire ≤ 16384 then
    let r := 16384 / wireRow d wire
    (k * r, min r (n - k * r), 0, d)
  else
    let segs := ceilDiv (wireRow d wire) 16384
    let per := 16384 / (fmtBits wire / 8)
    (k / segs, 1, k % segs * per, min per (d - k % segs * per))

/-- Chunks of a SEND. -/
def SendWin.chunks (w : SendWin) : Nat := chunkCount (w.tensor.size 0) (w.tensor.size 1) w.wire

/-- Whether the rows of chunk `k` may be read: all of them released, for a pipelined SEND (R326). -/
def State.chunkReady (s : State) (w : SendWin) (k : Nat) : Bool :=
  match w.piped, s.cmb.run with
  | some i, some r =>
    let sp := chunkSpan (w.tensor.size 0) (w.tensor.size 1) w.wire k
    !(decide (r.ctx = w.ctx) && decide (r.idx = i)) ||
      (decide (r.strip + 1 = strips (w.tensor.size 1)) && decide (sp.1 + sp.2.1 ≤ r.released))
  | _, _ => true

/-- One element converted from a format to another (R290, R319): to the same format exactly, which leaves every number and infinity as it is whatever
SAT says; a NaN becomes the canonical one (R290; assumption 122). -/
def convertBits (from_ to_ : Nat) (sat : Bool) (b : Nat) : Nat :=
  if from_ = to_ ∧ (decodeNum from_ b).isNan = false then b else (narrow to_ sat (decodeNum from_ b)).bits

/-- The patterns of `n` elements of a tensor without scales from element `k`. -/
def State.readBits (s : State) (c : Nat) (t : Tensor) (k n : Nat) : Except XFault (List Nat) :=
  let w := fmtBits t.format
  (s.vread 0 c (t.base + k * w / 8) (n * w / 8)).map (elemBits w 0 n)

/-- The wire bytes of rows `row` on, `k` of them, columns [c0, c0 + n) (R319). -/
def State.wireRows (s : State) (w : SendWin) (row c0 n : Nat) : Nat → Except XFault (List Byte)
  | 0 => .ok []
  | k + 1 =>
    match s.readBits w.ctx w.tensor (row * w.tensor.size 1 + c0) n with
    | .error f => .error f
    | .ok xs =>
      match s.wireRows w (row + 1) c0 n k with
      | .error f => .error f
      | .ok rest => .ok (patternBytes (fmtBits w.wire) (xs.map (convertBits w.tensor.format w.wire w.sat)) ++ rest)

/-- The wire data of a chunk. -/
def State.chunkData (s : State) (w : SendWin) (k : Nat) : Except XFault (List Byte) :=
  let sp := chunkSpan (w.tensor.size 0) (w.tensor.size 1) w.wire k
  s.wireRows w sp.1 sp.2.2.1 sp.2.2.2 sp.2.1

/-! ### The sender (R319 to R324, R326, R332, R333) -/

/-- A message of a SEND. -/
def SendWin.msg (w : SendWin) (kind : MsgKind) (args : List Nat) (data : List Byte) (key : Option Nat) : Msg :=
  { kind := kind, src := 0, dst := w.peer, epoch := 0, args := args, data := data, owner := some (w.ctx, w.gen, w.idx), key := key }

/-- A SEND ends with a completion code below 0x40. -/
def State.endSend (s : State) (w : SendWin) (code detail epoch : Nat) : State := (s.dropSend w.ctx w.idx).endDesc w.ctx w.idx code detail epoch

/-- Whether a SEND's peer is one behind a bridge port that is lost (R27, R365). -/
def State.sendLost (s : State) (w : SendWin) : Bool := decide (w.peer.route ≠ 0) && !s.peerThere w.peer

/-- The OFFER goes out, or the SEND completes PEER_LOST. -/
def State.sendOffer (s : State) (w : SendWin) : State :=
  if s.sendLost w then s.endSend w 0x22 w.peer.detail 0
  else s.sendMsg (w.msg .offer [w.channel, w.seq, w.tensor.size 0, w.tensor.size 1, w.wire, b2n w.maskOn] [] (some (offerKey w.ctx w.idx)))

/-- The SEND completes once nothing is left to send or acknowledge (R324). -/
def State.sendDone (s : State) (w : SendWin) : State :=
  if decide (w.phase = .granted) && decide (w.next = w.chunks) && w.unacked.isEmpty && w.again.isEmpty && !w.maskDue then
    match s.desc w.ctx w.idx with
    | some d =>
      let bytes := w.tensor.size 0 * wireRow (w.tensor.size 1) w.wire
      (s.dropSend w.ctx w.idx).finishOk w.ctx d (bytes % 2 ^ 32 * 2 ^ 32 + min w.resent 0xFFFF * 2 ^ 16 + b2n w.maskOn)
    | none => s.dropSend w.ctx w.idx
  else s

/-- A read of a SEND's source fails, or lacks the data of a remote window. -/
def State.sendStuck (s : State) (w : SendWin) (f : XFault) : State :=
  if f.reason = 99 then
    let s := s.setLnk { s.lnk with who := some (w.ctx, w.idx, 99) }
    let s := s.askRemote w.ctx f.va f.detail
    s.setLnk { s.lnk with who := none }
  else s.faultDesc w.ctx w.idx f

/-- A SEND sends what its grant allows: first its mask, then chunks to be sent again, then the next ones (Table 11.2, R323). -/
def State.pumpSend (s : State) (c idx : Nat) : Nat → State
  | 0 => s
  | fuel + 1 =>
    match s.sendWin c idx with
    | none => s
    | some w =>
      let look := s.setLnk { s.lnk with who := some (c, idx, 99) }
      if w.phase ≠ .granted then s
      else if s.sendLost w && (w.maskDue || decide (w.next < w.chunks) || !w.again.isEmpty) then s.endSend w 0x22 w.peer.detail 0
      else if w.maskDue then
        match look.vread 0 c w.mask (ceilDiv (w.tensor.size 0) 8) with
        | .error f => s.sendStuck w f
        | .ok bs =>
          ((s.setSend { w with maskDue := false }).sendMsg (w.msg .mask [w.handle, w.epoch, crc32c bs] bs none)).pumpSend c idx fuel
      else if w.credits = 0 then s
      else
        let pick := match w.again with
          | k :: _ => some k
          | [] => if w.next < w.chunks then some w.next else none
        match pick.filter (fun k => s.chunkReady w k) with
        | none => s
        | some k =>
          match look.chunkData w k with
          | .error f => s.sendStuck w f
          | .ok bs =>
            let sp := chunkSpan (w.tensor.size 0) (w.tensor.size 1) w.wire k
            let w' := { w with credits := w.credits - 1, unacked := w.unacked ++ [k], again := w.again.filter (fun x => decide (x ≠ k)),
                               next := if w.again.isEmpty then w.next + 1 else w.next }
            let s := (s.setSend w').cmbCount 5 1
            (s.sendMsg (w.msg .chunk [w.handle, w.epoch, k, sp.1, sp.2.1, crc32c bs] bs (some (chunkKey c idx k)))).pumpSend c idx fuel

/-- Every SEND of context `c` sends what it can. -/
def State.pumpSends (s : State) (c : Nat) : State :=
  (s.cmb.sends.filter (fun w => decide (w.ctx = c))).foldl (fun s w => s.pumpSend c w.idx 130) s

/-- COMBINE_SLOT_RELEASE (R311, R314, R315, R326). -/
def execCombineSlotRelease (s : State) : Result :=
  match s.cmb.run with
  | some r => .next (s.releaseSlot.pumpSends r.ctx)
  | none => .next s

/-- The LAYER just before a SEND in ring order whose OUT it sends and that has not completed (R326). -/
def State.pipedTo (s : State) (c : Nat) (d : Desc) : Option Desc :=
  match s.baseAt c (dword d.words 2) with
  | none => none
  | some b => ((s.ring c).before d.idx).getLast?.filter (fun x =>
      x.kind == kindLayer && x.outBase == some b && decide ((x.idx + 1) % 65536 = d.idx) && decide (x.phase ≠ .placed))

/-- The code and DETAIL of the LAYER just before a SEND whose OUT it sends, when that LAYER did not complete OK (R326). -/
def State.failedLayer (s : State) (c : Nat) (d : Desc) : Option (Nat × Nat) :=
  match s.pipedTo c d with
  | some x => (match x.phase with
    | .ended k det _ => if 0x10 ≤ k then some (k, det) else none
    | _ => none)
  | none => match (s.ring c).failed, s.baseAt c (dword d.words 2) with
    | some (i, b, k, det), some base => if (i + 1) % 65536 = d.idx ∧ b = base then some (k, det) else none
    | _, _ => none

/-- Whether a SEND's source lets it start: its LAYER's Combine stage has begun or the LAYER has ended, or every earlier output of that BASE is complete
(R325, R326). -/
def State.sendReady (s : State) (c : Nat) (d : Desc) : Bool :=
  match s.pipedTo c d with
  | some x => (match x.phase with
      | .ended _ _ _ => true
      | _ => false) || (s.cmb.run.map (fun r => decide (r.ctx = c) && decide (r.idx = x.idx))).getD false
  | none => s.baseDone c d (s.baseAt c (dword d.words 2))

/-- The start of a SEND: its window opens and its OFFER leaves, unless the LAYER it is pipelined to did not complete OK, or the peer cannot be reached or
lacks the format (R319, R322, R326, R335, R357). -/
def sendStart (c : CtxId) (s : State) : Result :=
  match s.begin c.val (fun d => d.kind == kindSend) (fun d => decide (s.cmb.sends.length < 64) && s.sendReady c.val d) noEst
      (fun _ => []) with
  | .no s => .next s
  | .go d s =>
    match withStatic (malformedAt (handChecks true d.words)) (s.handTensor c.val d.words) with
    | .error e => .next (s.stopDesc c.val d e)
    | .ok t =>
      let p := peerOf d.words
      let wire := dfld d.words 5 0 8
      let eight := decide (p.route = 0) || s.capable (5 + p.route) 4
      match s.failedLayer c.val d <|> s.noWay p with
      | some (code, det) => .next (s.finishFail c.val d code det)
      | none =>
        if !eight && decide (wire < 6) then .next (s.finishFail c.val d 0x24 4)
        else
          let on := eight && decide (dword d.words 3 ≠ 0)
          let w : SendWin :=
          { ctx := c.val, gen := (s.ctx c.val).gen, idx := d.idx, peer := p, channel := channelOf d.words, seq := seqOf d.words,
            tensor := t, mask := dword d.words 3, maskOn := on, sat := dbit d.words 5 8, wire := wire,
            piped := (s.pipedTo c.val d).map (fun x => x.idx), phase := .offered, handle := 0, epoch := 0, credits := 0, next := 0,
            unacked := [], again := [], resent := 0, maskDue := on, nacks := [] }
          .next ((s.setCmb { s.cmb with sends := s.cmb.sends ++ [w] }).sendOffer w)

/-- HANDOFF_SEND (R318 to R322, R326). -/
def execHandoffSend (c : CtxId) (s : State) : Result := s.starting c.val (sendStart c)

/-- The SEND that an answer to an OFFER concerns. -/
def State.offeredTo (s : State) (p : Peer) (channel seq : Nat) : Option SendWin :=
  s.cmb.sends.find? (fun w => decide (w.peer = p) && decide (w.channel = channel) && decide (w.seq = seq))

/-- The SEND that holds transfer handle `h` of a peer. -/
def State.grantedBy (s : State) (p : Peer) (h : Nat) : Option SendWin :=
  s.cmb.sends.find? (fun w => decide (w.phase = .granted) && decide (w.peer = p) && decide (w.handle = h))

/-- HANDOFF_GRANT_RX (R321, R323): credits, and the SEND sends; or the OFFER did not fit the receive, and it completes MALFORMED. -/
def execHandoffGrantRx (from_ : Peer) (channel : Fin 256) (seq handle epoch credits : Nat) (refused : Bool) (s : State) : Result :=
  s.arrive (.handoffGrantRx from_ channel seq handle epoch credits refused) (fun s =>
    match s.offeredTo from_ channel.val seq with
    | none => .next s
    | some w =>
      let s := s.closeKey (offerKey w.ctx w.idx)
      if refused then .next (s.endSend w 0x10 16 0)
      else
        let w := { w with phase := .granted, handle := handle, epoch := epoch, credits := w.credits + credits }
        .next ((s.setSend w).pumpSend w.ctx w.idx (credits + 2)))

/-- CMB_TIMING.RETRY_US in ticks; 0 acts as 1. -/
def State.retryTicks (s : State) : Nat := max 1 (s.fld 0x40004 16 16) * 1000

/-- HANDOFF_BUSY_RX (R322): the SEND offers again after RETRY_US. -/
def execHandoffBusyRx (from_ : Peer) (channel : Fin 256) (seq : Nat) (s : State) : Result :=
  s.arrive (.handoffBusyRx from_ channel seq) (fun s =>
    match (s.offeredTo from_ channel.val seq).filter (fun w => decide (w.phase = .offered)) with
    | none => .next s
    | some w => .next ((s.closeKey (offerKey w.ctx w.idx)).setSend { w with phase := .retry (s.clk + s.retryTicks) }))

/-- HANDOFF_OFFER_RETRY (R322). -/
def execHandoffOfferRetry (c : CtxId) (idx t : Nat) (s : State) : Result :=
  let s := s.reachClk t
  match s.sendWin c.val idx with
  | none => .next s
  | some w =>
    match w.phase with
    | .retry at_ => if at_ ≤ s.clk then .next ((s.setSend { w with phase := .offered }).sendOffer w) else .next s
    | _ => .next s

/-- HANDOFF_ACK_RX (R323, R324, R423): the chunk is done and charged, its credit back. -/
def execHandoffAckRx (from_ : Peer) (handle : Fin 64) (chunk credits : Nat) (s : State) : Result :=
  s.arrive (.handoffAckRx from_ handle chunk credits) (fun s =>
    match s.grantedBy from_ handle.val with
    | none => .next s
    | some w =>
      let sp := chunkSpan (w.tensor.size 0) (w.tensor.size 1) w.wire chunk
      let n := sp.2.1 * sp.2.2.2
      let paths := addLists (pathCounts (s.vaRange w.ctx w.tensor.base) none (n * (fmtBits w.tensor.format / 8)))
        [0, 0, 0, n * (fmtBits w.wire / 8), 0]
      let s := if w.unacked.contains chunk then s.chargeDesc w.ctx w.idx (s.energy { counts := [0, 0, 0, 0] ++ paths, ns := 0 }) else s
      let w := { w with unacked := w.unacked.filter (fun k => decide (k ≠ chunk)), again := w.again.filter (fun k => decide (k ≠ chunk)),
                        nacks := tabSet (fun _ => 0) w.nacks chunk 0, credits := w.credits + credits }
      let s := ((s.closeKey (chunkKey w.ctx w.idx chunk)).setSend w).pumpSend w.ctx w.idx (credits + 1)
      match s.sendWin w.ctx w.idx with
      | some w => .next (s.sendDone w)
      | none => .next s)

/-- HANDOFF_NACK_RX (R333): the chunk or the mask is read and sent again; a chunk NACKed four times in a row ends the SEND. Only chunks count as
re-sent, and only they are limited (Table 11.6, assumption 122). -/
def execHandoffNackRx (from_ : Peer) (handle : Fin 64) (chunk : Option Nat) (s : State) : Result :=
  s.arrive (.handoffNackRx from_ handle chunk) (fun s =>
    match s.grantedBy from_ handle.val with
    | none => .next s
    | some w =>
      match chunk with
      | none => .next ((s.setSend { w with maskDue := true }).pumpSend w.ctx w.idx 2)
      | some k =>
        let n := tabGet (fun _ => 0) w.nacks k + 1
        if 4 ≤ n then .next ((s.engineFault w.ctx w.idx 0x50100 33).schedule none)
        else
          let w := { w with nacks := tabSet (fun _ => 0) w.nacks k n, unacked := w.unacked.filter (fun x => decide (x ≠ k)),
                            again := w.again ++ [k], credits := w.credits + 1, resent := w.resent + 1 }
          .next (((s.cmbFlag 0 w.ctx).setSend w).pumpSend w.ctx w.idx 2))

/-- HANDOFF_STALE_RX (R332): the SEND completes STALE_EPOCH with the handle's resource and its current grant epoch. -/
def execHandoffStaleRx (from_ : Peer) (handle : Fin 64) (epoch : Nat) (s : State) : Result :=
  s.arrive (.handoffStaleRx from_ handle epoch) (fun s =>
    match s.grantedBy from_ handle.val with
    | none => .next s
    | some w => .next (s.endSend w 0x20 (resHandle handle.val) epoch))

/-! ### The receiver (R321 to R324, R332 to R334) -/

/-- A message of the receiver. -/
def State.answer (s : State) (p : Peer) (kind : MsgKind) (args : List Nat) : State :=
  s.sendMsg { kind := kind, src := 0, dst := p, epoch := 0, args := args, data := [] }

/-- Chunks of a matched receive. -/
def RecvWin.chunks (r : RecvWin) : Nat := (r.offer.map (fun o => chunkCount o.n o.d o.wire)).getD 0

/-- CMB_CFG.GRANT within 1 to 64. -/
def State.grantCredits (s : State) : Nat := min 64 (max 1 (s.fld 0x40000 8 8))

/-- Whether GRANTs are given at all (R332). -/
def State.grantsGo (s : State) : Bool := decide (s.pwr.pendingReq ≠ 3) && !s.asleep && !s.flt.pkgFault

/-- Whether new OFFERs are granted (R332, R337). -/
def State.mayGrant (s : State) : Bool := s.admits 33 && s.grantsGo

/-- Whether a receive has been granted credits: it runs to its end (R337). -/
def RecvWin.granted (r : RecvWin) : Bool := !r.slots.isEmpty || !r.done.isEmpty

/-- The receive of handle `h` is given the credits it lacks, as far as the receive partition has free slots (R323). -/
def State.grant (s : State) (h : Nat) : State :=
  match s.recvWin h with
  | none => s
  | some r =>
    let want := min s.grantCredits (r.chunks - r.done.length) - r.slots.length
    let free := ((List.range (4 * s.recvSlots)).map (fun i => s.recvBase + i)).filter (fun i => s.cmb.slotFree i)
    let take := free.take want
    if take.isEmpty ∨ r.offer.isNone ∨ !(s.mayGrant || (r.granted && s.grantsGo)) then s
    else
      (s.setRecv { r with slots := r.slots ++ take.map (fun i => (i, none)) }).answer r.peer .grant
        [r.channel, r.seq, h, s.epoch (resHandle h), take.length]

/-- Every matched receive that lacks credits is granted what it can be. -/
def State.grantAll (s : State) : State := (s.cmb.recvs.map (fun r => r.handle)).foldl (fun s h => s.grant h) s

/-- Whether an OFFER fits a receive's TENSOR and MASK (R321). -/
def RecvWin.fits (r : RecvWin) (o : Offer) : Bool :=
  decide (o.n = r.tensor.size 0) && decide (o.d = r.tensor.size 1) && (!o.mask || decide (r.mask ≠ 0))

/-- Offers in the queue meet posted receives: granted, or refused when they do not fit (R321, R322, R332). -/
def State.matchOffers (s : State) : State :=
  if !s.mayGrant then s
  else
    let s := s.cmb.offers.foldl (fun s o =>
      match s.cmb.recvs.find? (fun r => r.offer.isNone && decide (r.peer = o.peer) && decide (r.channel = o.channel) && decide (r.seq = o.seq)) with
      | none => s
      | some r =>
        let s := s.setCmb { s.cmb with offers := s.cmb.offers.erase o }
        if r.fits o then
          (s.setEpoch (resHandle r.handle) (nextEpoch (s.epoch (resHandle r.handle)))).setRecv
            { r with offer := some o, last := s.absMin, maskDone := false }
        else s.answer o.peer .offerRefused [o.channel, o.seq]) s
    s.grantAll

/-- HANDOFF_OFFER_RX (R321, R322): matched, queued, or answered BUSY when the queue is full. -/
def execHandoffOfferRx (from_ : Peer) (channel : Fin 256) (seq n d wire : Nat) (mask : Bool) (s : State) : Result :=
  s.arrive (.handoffOfferRx from_ channel seq n d wire mask) (fun s =>
    let o : Offer := { peer := from_, channel := channel.val, seq := seq, n := n, d := d, wire := wire, mask := mask }
    let s' := (s.setCmb { s.cmb with offers := s.cmb.offers ++ [o] }).matchOffers
    if s'.cmb.offers.length ≤ 32 then .next s'
    else .next (((s.cmbCount 8 1).cmbFlag 4 noCtx).answer from_ .busy [channel.val, seq]))

/-- The start of a RECV: it is posted (R318, R321, R328). -/
def recvStart (c : CtxId) (s : State) : Result :=
  match s.begin c.val (fun d => d.kind == kindRecv) (fun _ => decide (s.cmb.recvs.length < 64)) noEst (fun _ => []) with
  | .no s => .next s
  | .go d s =>
    let ws := d.words
    let twin := s.cmb.recvs.any (fun r => decide (r.channel = channelOf ws) && decide (r.seq = seqOf ws))
    match withStatic (malformedAt (handChecks false ws ++ [(twin, 40)])) (s.handTensor c.val ws) with
    | .error e => .next (s.stopDesc c.val d e)
    | .ok t =>
      let h := ((List.range 64).find? (fun h => (s.recvWin h).isNone)).getD 0
      let r : RecvWin :=
      { handle := h, ctx := c.val, gen := (s.ctx c.val).gen, idx := d.idx, peer := peerOf ws, channel := channelOf ws, seq := seqOf ws,
        tensor := t, mask := dword ws 3, sat := dbit ws 5 8, offer := none, slots := [], done := [], maskDone := false, nacks := [], nacked := 0,
        last := s.absMin }
      .next ((s.setCmb { s.cmb with recvs := s.cmb.recvs ++ [r] }).setOut c.val d.idx t.base).matchOffers

/-- HANDOFF_RECV (R318, R321). -/
def execHandoffRecv (c : CtxId) (s : State) : Result := s.starting c.val (recvStart c)

/-- A receive ends without its data: UNREACHABLE with POS, or PEER_LOST for an older peer (R333, R334). -/
def State.recvLost (s : State) (r : RecvWin) : State :=
  ((s.dropRecv r).endDesc r.ctx r.idx (if r.peer.route = 0 then 0x23 else 0x22) r.peer.detail 0).grantAll

/-- The receive a message of a transfer is for; one under an old grant epoch is answered STALE (R332, R334). -/
def State.forTransfer (s : State) (p : Peer) (h epoch : Nat) (f : RecvWin → State → State) : State :=
  match (s.recvWin h).filter (fun r => decide (r.peer = p) && r.offer.isSome && decide (epoch = s.epoch (resHandle h))) with
  | some r => f { r with last := s.absMin } (s.setRecv { r with last := s.absMin })
  | none => s.answer p .stale [h, s.epoch (resHandle h)]

/-- A chunk's CRC failed: NACK; the fourth in a row ends the transfer (R333). -/
def State.nackHand (s : State) (r : RecvWin) (k : Nat) : State :=
  let n := tabGet (fun _ => 0) r.nacks k + 1
  let s := (s.cmbCount 7 1).answer r.peer .nack [r.handle, k]
  if 4 ≤ n then s.recvLost r else s.setRecv { r with nacks := tabSet (fun _ => 0) r.nacks k n, nacked := r.nacked + 1 }

/-- The RECV completes once mask and rows are written; a mask area that no mask came for is filled with zeros (R324). -/
def State.recvDone (s : State) (h : Nat) : State :=
  match s.recvWin h with
  | none => s
  | some r =>
    match r.offer with
    | none => s
    | some o =>
      if r.done.length < r.chunks ∨ (o.mask ∧ !r.maskDone) then s
      else
        let s := s.setLnk { s.lnk with who := some (r.ctx, r.idx, 99) }
        let (s, bad) : State × Option XFault :=
          if !o.mask ∧ r.mask ≠ 0 then s.vwrite 0 r.ctx r.mask (List.replicate (ceilDiv o.n 8) 0) else (s, none)
        let s := s.setLnk { s.lnk with who := none }
        match bad, s.desc r.ctx r.idx with
        | some f, _ => s.faultDesc r.ctx r.idx f
        | none, some d =>
          let s := r.slots.foldl (fun s x => s.moveSlot x.1) (s.setCmb { s.cmb with recvs := s.cmb.recvs.filter (fun x => decide (x.handle ≠ h)) })
          (s.finishOk r.ctx d (o.n * 2 ^ 32 + min r.nacked 0xFFFF * 2 ^ 16 + b2n o.mask)).grantAll
        | none, none => s

/-- Writes to device memory for a receive, under its own name for remote windows. -/
def State.recvWrite (s : State) (r : RecvWin) (ws : List (Nat × List Byte)) : State × Option XFault :=
  let s := s.setLnk { s.lnk with who := some (r.ctx, r.idx, 99) }
  let (s, bad) := ws.foldl (fun (a : State × Option XFault) x => match a.2 with
    | some f => (a.1, some f)
    | none => a.1.outWrite 0 r.ctx r.idx x.1 x.2) (s, none)
  (s.setLnk { s.lnk with who := none }, bad)

/-- HANDOFF_MASK_RX (R324, R333). -/
def execHandoffMaskRx (from_ : Peer) (handle : Fin 64) (epoch : Nat) (data : List Byte) (crc : BitVec 32) (s : State) : Result :=
  s.arrive (.handoffMaskRx from_ handle epoch data crc) (fun s =>
    .next (s.forTransfer from_ handle.val epoch (fun r s =>
      if crc32c data ≠ crc.toNat then s.answer r.peer .nack [r.handle, 2 ^ 32]
      else
        match s.recvWrite r [(r.mask, data.take (ceilDiv (r.tensor.size 0) 8))] with
        | (s, some f) => s.faultDesc r.ctx r.idx f
        | (s, none) => (s.setRecv { r with maskDone := true }).recvDone handle.val)))

/-- The writes of a chunk's rows, converted to the tensor's format (R319, R323). -/
def RecvWin.rowWrites (r : RecvWin) (o : Offer) (k : Nat) (data : List Byte) : List (Nat × List Byte) :=
  let (row, rows, c0, n) := chunkSpan o.n o.d o.wire k
  let wb := fmtBits o.wire / 8
  let tb := fmtBits r.tensor.format / 8
  (List.range rows).map (fun i =>
    let xs := elemBits (8 * wb) 0 n (data.drop (i * n * wb))
    (r.tensor.base + ((row + i) * o.d + c0) * tb, patternBytes (8 * tb) (xs.map (convertBits o.wire r.tensor.format r.sat))))

/-- HANDOFF_CHUNK_RX (R323, R332, R333): checked, taken into a granted slot and written at its rows; a second copy is acknowledged and
discarded. -/
def execHandoffChunkRx (from_ : Peer) (handle : Fin 64) (epoch chunk : Nat) (data : List Byte) (crc : BitVec 32) (s : State) : Result :=
  s.arrive (.handoffChunkRx from_ handle epoch chunk data crc) (fun s =>
    .next (s.forTransfer from_ handle.val epoch (fun r s =>
      match r.offer with
      | none => s
      | some o =>
        if crc32c data ≠ crc.toNat then s.nackHand r chunk
        else if r.done.contains chunk then s.answer from_ .ack [handle.val, chunk, 1]
        else if r.slots.any (fun x => (x.2.map (fun y => y.1)) == some chunk) ∨ r.chunks ≤ chunk then s
        else match r.slots.find? (fun x => x.2.isNone) with
          | none => s
          | some (i, _) =>
            let s := (s.cmbCount 6 1).setRecv { r with nacks := tabSet (fun _ => 0) r.nacks chunk 0,
                                                       slots := r.slots.map (fun x => if x.1 = i then (i, some (chunk, s.clk, data)) else x) }
            match s.recvWrite r (r.rowWrites o chunk data) with
            | (s, some f) => s.faultDesc r.ctx r.idx f
            | (s, none) => s)))

/-- HANDOFF_CHUNK_WRITE_DONE (R323, R324): once its writes are acknowledged the ACK returns the credit, with the slot leased anew while chunks remain that no credit covers. -/
def execHandoffChunkWriteDone (handle : Fin 64) (chunk : Nat) (s : State) : Result :=
  match s.recvWin handle.val with
  | none => .next s
  | some r =>
    match r.slots.find? (fun x => (x.2.map (fun y => y.1)) == some chunk) with
    | none => .next s
    | some (i, _) =>
      if s.unacked r.ctx r.idx then .next s
      else
      let rest := r.slots.filter (fun x => decide (x.1 ≠ i))
      let again := decide (rest.length < r.chunks - (r.done.length + 1))
      let s := (s.moveSlot i).setRecv { r with done := r.done ++ [chunk], slots := if again then rest ++ [(i, none)] else rest }
      .next (((s.answer r.peer .ack [handle.val, chunk, b2n again]).recvDone handle.val).grantAll)

/-- Whether no message of a matched receive has arrived for LEASE_MIN Minutes (R334). -/
def State.recvExpired (s : State) (r : RecvWin) : Bool := r.offer.isSome && decide (r.last + max 1 (s.fld 0x40000 24 8) ≤ s.absMin)

/-- RECV_LEASE_EXPIRY (R51, R334): in its turn among the events of the Minute. -/
def execRecvLeaseExpiry (handle : Fin 64) (s : State) : Result :=
  .next (if s.turn (.recvLease handle.val) then
      (match (s.recvWin handle.val).filter s.recvExpired with
        | some r => ((s.cmbCount 9 1).cmbFlag 1 r.ctx).recvLost r
        | none => s).fired (.recvLease handle.val)
    else s)

/-! ### Slot errors (R336) -/

/-- The work that uses slot `i` ends with ENGINE_FAULT. -/
def State.slotFails (s : State) (i detail : Nat) : State :=
  match s.cmb.run, s.cmb.recvs.find? (fun r => r.slots.any (fun x => decide (x.1 = i))) with
  | some r, none => if s.cmb.combHeld i then (s.engineFault r.ctx r.idx detail 33).schedule none else s
  | _, some r => (s.engineFault r.ctx r.idx detail 33).schedule none
  | none, none => s

/-- REORDER_SLOT_UE (R336, R487): a corrected error is counted; an uncorrectable one fences the slot for the power-on period and ends the work that
uses it. The DETAIL of its fence record is free. -/
def execReorderSlotUe (slot : Fin 512) (row : Fin 64) (corrected : Bool) (s : State) : Result :=
  let at_ := slotRow slot.val row.val
  if corrected then .next ((s.cmbCount 10 1).countRow 13 0 at_.1 at_.2)
  else
    let (x, s) := (s.rowWorn 7 0 at_.1 at_.2).takeFree
    let s := (s.moveSlot slot.val).record 0 15 0x100 noCtx 0x204 (x % 2 ^ 64)
    let s := s.cmbFlag 2 noCtx
    let s := s.slotFails slot.val (0x50000 + slot.val)
    .next (s.setCmb { s.cmb with fenced := tabSet (fun _ => false) s.cmb.fenced slot.val true })

/-- The tick slot `i` was taken. -/
def CombineUnit.takenAt (u : CombineUnit) (i : Nat) : Option Nat :=
  match u.run.bind (fun r => r.slots.find? (fun x => decide (x.slot = i))) with
  | some x => some x.takenAt
  | none => (u.recvs.findSome? (fun r => r.slots.find? (fun x => decide (x.1 = i)))).bind (fun x => x.2.map (fun y => y.2.1))

/-- SLOT_WATCHDOG (R336): a slot held longer than SLOT_WDOG_US ends its work. -/
def execSlotWatchdog (slot : Fin 512) (t : Nat) (s : State) : Result :=
  let s := s.reachClk t
  match s.cmb.takenAt slot.val with
  | none => .next s
  | some t0 =>
    if t0 + max 1 (s.fld 0x40004 0 16) * 1000 ≤ s.clk then .next ((s.cmbFlag 2 noCtx).slotFails slot.val 0x50200)
    else .next s

end Sys2Proof.Machine
end

