-- ==== Sys2Proof/Machine/Link.lean ====
section
/-! DEFINITION. Machine/Link.lean: bring-up and retrain of Eriovan ports, flits and retry, lane sparing, failed ports and lost peers (R27, R341
to R350, R364, R370, R375, R376). -/

namespace Sys2Proof.Machine

/-! ### Work that cannot reach its destination -/

/-- Whether a descriptor is still at work under the GEN a message or request was sent with. -/
def State.stillAt (s : State) (c gen idx : Nat) : Bool := decide ((s.ctx c).gen = gen) && decide ((s.ctx c).state = .open_) && (s.desc c idx).isSome

/-- What waits for a message ends with a code: the SEND, the request's tag or the COLLECTIVE it was sent for (R357, R364). A message that no
descriptor waits for is dropped. -/
def State.failMsg (s : State) (m : Msg) (code : Nat) : State :=
  let s : State := match m.kind, m.key with
    | .readRequest, some k => s.freeTag k
    | .writeRequest, some k => s.freeTag k
    | .interrupt, some k => s.freeTag k
    | _, some k => s.closeKey k
    | _, none => s
  match m.owner with
  | some (c, gen, idx) => if s.stillAt c gen idx then s.abortDesc c idx code m.dst.detail else s
  | none => s

/-- Requests without a tag, and messages that wait, for peers that are gone complete PEER_LOST; their OFFERs leave the offer queue (R27, R365). -/
def State.loseWaiting (s : State) (gone : Peer → Bool) : State :=
  let s := s.setCmb { s.cmb with offers := s.cmb.offers.filter (fun o => !gone o.peer) }
  let s := (s.lnk.reqs.filter (fun r => gone r.dst)).foldl (fun s r =>
    let s := s.setLnk { s.lnk with reqs := s.lnk.reqs.filter (fun x => decide (x ≠ r)) }
    if s.stillAt r.ctx r.gen r.idx then s.abortDesc r.ctx r.idx 0x22 r.dst.detail else s) s
  (s.lnk.parked.filter (fun m => gone m.dst)).foldl (fun s m =>
    (s.setLnk { s.lnk with parked := s.lnk.parked.filter (fun x => decide (x ≠ m)) }).failMsg m 0x22) s

/-- A peer behind a bridge port is lost: work that names it completes PEER_LOST (R27, R364). -/
def State.losePeer (s : State) (gone : Peer → Bool) : State :=
  let s := (s.cmb.sends.filter (fun w => gone w.peer)).foldl (fun s w => s.abortDesc w.ctx w.idx 0x22 w.peer.detail) s
  let s := (s.lnk.tags.filterMap (fun t => t.2.map (fun r => (t.1, r)))).foldl (fun s x =>
    if gone x.2.dst then
      let s := s.freeTag x.1
      if s.stillAt x.2.ctx x.2.gen x.2.idx then s.abortDesc x.2.ctx x.2.idx 0x22 x.2.dst.detail else s
    else s) s
  s.loseWaiting gone

/-! ### Returned messages (R357) -/

/-- Messages of the hold that may not be sent again complete ROUTE_STALE: those of a NO_REISSUE descriptor, and those returned before (R357).
Collective traffic has no such end: it rejoins through the group epoch (R356, R412). -/
def State.settleHold (s : State) : State :=
  let stuck := fun (s : State) (m : Msg) => decide (m.kind.cls ≠ 3) && (m.reissued || (match m.owner with
    | some (c, _, idx) => ((s.desc c idx).map Desc.noReissue).getD false
    | none => false))
  (s.lnk.hold.filter (fun x => stuck s x.1)).foldl (fun s x =>
    (s.setLnk { s.lnk with hold := s.lnk.hold.filter (fun y => decide (y ≠ x)) }).failMsg x.1 0x21) s

/-- Whether a collective message carries a group epoch that has been fenced (R391, R412). -/
def State.fencedMsg (s : State) (m : Msg) : Bool :=
  let kinds : List MsgKind := [.colChunk, .colAck, .colNack, .announce, .go, .refuse, .suspect, .probe, .probeAnswer]
  kinds.contains m.kind && decide (m.args.getD 1 0 ≠ s.gepoch (m.args.getD 0 0))

/-- Whether a message still has something to serve. -/
def State.serves (s : State) (m : Msg) : Bool :=
  !s.fencedMsg m && (match m.owner with
    | some (c, gen, idx) => s.stillAt c gen idx || decide (m.kind.cls = 3)
    | none => true)

/-- A message is sent again under the current epoch (R357); one for a bridge peer that is gone completes PEER_LOST (R374). -/
def State.reissue (s : State) (m : Msg) : State :=
  if !s.serves m then s
  else if m.dst.route = 0 then s.sendMsg { m with reissued := true }
  else if s.peerThere m.dst then s.sendMsg { m with reissued := true }
  else s.failMsg m 0x22

/-- A message of this package has come back: it is reissued under a newer epoch, held for one, or ended by NO_REISSUE or a second return (R357). -/
def State.returned (s : State) (m : Msg) : State :=
  if !s.serves m then s
  else
    let s := (s.holdMsg m).settleHold
    if m.dst.route = 0 ∧ m.epoch = s.routeEpoch then s
    else if s.lnk.hold.any (fun x => decide (x.1 = m)) then
      (s.setLnk { s.lnk with hold := s.lnk.hold.filter (fun x => decide (x.1 ≠ m)) }).reissue m
    else s

/-! ### Ports that leave service -/

/-- The keys of messages that have come back are awaited no more (R356). -/
def State.closeOwn (s : State) (ms : List Msg) : State :=
  s.setLnk { s.lnk with open_ := s.lnk.open_.filter (fun o => !ms.any (fun m => decide (m.key = some o.1))) }

/-- What waits at port `p` comes back, and, when its link is gone, what was sent and not acknowledged (R357): messages of this package are returned
here, and on a bridge port end with their peers; flits passed on go to their sources; time messages are skipped (R54); probes wait for the port
(R367). -/
def State.emptyPort (s : State) (p : Nat) : State :=
  let q := s.port p
  let live := decide (q.state = .up) || q.retraining
  let sent := if live then [] else q.unacked.map (fun x => x.2)
  let probe := fun (f : TxFlit) => decide (f.msg.map (fun m => m.kind) = some .discoveryProbe)
  let q' := { q with queue := q.queue.filter probe, open_ := [] }
  let s := s.setPort p (if live then q' else { q' with unacked := [], fullSince := none, used := [], nextSeq := 0, expect := 0, owed := [] })
  let own := (((sent ++ q.queue).filterMap (fun f => f.msg)).filter (fun m => decide (m.kind.cls ≠ 6))).eraseDups
  let s := if p < 6 then own.foldl (fun s m => ((s.lnkCount p 6 1).lnkFlag 8 p).returned m) (s.closeOwn own) else s
  let s := sent.foldl (fun s f => if f.from_ < 8 then
    s.bounce f.from_ f.cls (decide (hdrFld f.raw 79 1 = 1)) (hdrFld f.raw 82 7) f.seg f.raw else s) s
  (q.queue.foldl (fun s f => if f.from_ < 8 then
    (s.giveCredit f.from_ f.cls (decide (hdrFld f.raw 79 1 = 1))).bounce f.from_ f.cls (decide (hdrFld f.raw 79 1 = 1)) (hdrFld f.raw 82 7) f.seg f.raw
    else s) s).unpark

/-- Traffic through port `p` ends: what it held comes back, and peers behind a bridge port are lost (R27, R357, R376). -/
def State.portStops (s : State) (p : Nat) : State :=
  let s := s.emptyPort p
  if 6 ≤ p then s.losePeer (fun d => decide (d.route = p - 5)) else s

/-- A port carries no more traffic: what it held comes back, peers behind a bridge port are lost with their list, time from a torus neighbour ends. -/
def State.portGone (s : State) (p : Nat) : State :=
  if 6 ≤ p then
    let had := decide ((s.port p).peerId ≠ 0) || !(tabGet (fun _ => []) s.lnk.peers (p - 6)).isEmpty
    let s := s.setLnk { s.lnk with peers := tabSet (fun _ => []) s.lnk.peers (p - 6) [], drain := tabSet (fun _ => false) s.lnk.drain (p - 6) false }
    let s := s.portStops p
    if had then s.record 3 7 6 noCtx (36 + p) p else s
  else (s.portStops p).parentLost p

/-- Port `p` is HELD with a REASON of Table 12.3 (R342, R375, R470). -/
def State.holdPort (s : State) (p reason : Nat) : State :=
  let was := (s.port p).state
  let s := s.setPort p { s.port p with reason := reason, retraining := false }
  let s := ((s.portTo p .held).lnkFlag 4 p).record 3 7 4 noCtx (36 + p) p
  if was = .up ∨ was = .train ∨ was = .confirm then s.portGone p else s

/-- Port `p` is FAILED (R349, R375, R403, R470). -/
def State.failPort (s : State) (p : Nat) : State :=
  let s := s.setPort p { s.port p with retraining := false }
  let s := ((s.portTo p .failed).lnkFlag 5 p).record 3 7 5 noCtx (36 + p) p
  let s := (s.setDp (36 + p) true).portGone p
  if 6 ≤ p ∨ !s.posValid then s
  else
    let q := s.peerPosition p
    if (List.range 6).all (fun k => decide (s.peerPosition k ≠ q) || decide ((s.port k).state = .failed)) then s.suspectPeer q else s

/-- Port `p` goes DOWN. -/
def State.downPort (s : State) (p : Nat) : State :=
  let st := (s.port p).state
  let s := s.setPort p { s.port p with reason := 0, retraining := false, badRetrains := 0 }
  let s := s.portTo p .down
  if st = .up ∨ st = .train ∨ st = .confirm then s.portGone p else s

/-- A retrain begins, with its record (R349, R470). -/
def State.beginRetrain (s : State) (p : Nat) : State := (s.retrainPort p).record 3 7 1 noCtx (36 + p) p

/-- This end's own decision to retrain: a CONTROL flit asks the peer for it (R349). -/
def State.askRetrain (s : State) (p : Nat) : State := (s.sendControl p).beginRetrain p

/-! ### Bring-up (R341 to R343, R350) -/

/-- Capabilities a revision defines (Table 12.4). -/
def revCaps (rev : Nat) : Nat := [0, 0xF, 0x2F, 0x7F].getD rev 0xFFF

/-- Capabilities mandatory on torus ports. -/
def torusCaps : Nat := 0xFFB

/-- The coordinates a neighbour met on torus port `p` should have, modulo the axis lengths known. -/
def State.agreesAt (s : State) (p : Nat) (n : Nat × Nat × Nat) : Bool := decide (positionOf n = s.peerPosition p)

/-- The first rule of Table 12.3 that a peer's record breaks. -/
def State.refusePeer (s : State) (p : Nat) (r : TrainRecord) : Option Nat :=
  if 6 ≤ p then
    if r.kind = 3 then some 1 else if !bitAt r.caps 0 || !bitAt r.caps 3 then some 4 else none
  else if r.kind ≠ 3 then some 2
  else if r.port ≠ (if p % 2 = 0 then p + 1 else p - 1) then some 3
  else if r.caps &&& torusCaps ≠ torusCaps then some 4
  else match r.pos with
    | some n => if s.posValid && !s.agreesAt p n then some 5 else none
    | none => none

/-- LINK_RECORDS_RX (R341 to R343, R368): the port exchanges records, and is HELD, or chooses revision and capabilities and trains. -/
def execLinkRecordsRx (p : PortId) (r : TrainRecord) (s : State) : Result :=
  let q := s.port p.val
  if q.state ≠ .detect ∧ q.state ≠ .held then .next s
  else
    let s := ((s.portTo p.val .detect).portTo p.val .exchange).send (.train p.val (s.trainRecord p.val))
    match s.refusePeer p.val r with
    | some k => .next (s.holdPort p.val k)
    | none =>
      let rev := min 4 r.rev
      let s := s.setPort p.val { s.port p.val with reason := 0, rev := rev, kind := r.kind, peerCaps := r.caps % 4096,
                                                   inUse := r.caps &&& 0xFFF &&& revCaps rev, peerId := r.identity, retraining := false }
      let s := if s.lnk.table = RouteTable.empty then
          match r.epoch with
          | some e => s.setReg 0x50004 (BitVec.ofNat 32 e)
          | none => s
        else s
      .next (s.portTo p.val .train)

/-- Whether the defect map says that a lane of a port has been replaced. -/
def State.laneMapped (s : State) (p k : Nat) : Bool :=
  s.rep.entries.any (fun e => decide (e.kind = 5) && decide (e.state = deApplied) && decide (e.loc = p) && decide (e.target = k))

/-- The index of a QUEUED entry for lane `k` of port `p`. -/
def State.laneQueued (s : State) (p k : Nat) : Option Nat :=
  s.rep.entries.findIdx? (fun e => decide (e.kind = 5) && decide (e.state = deQueued) && decide (e.loc = p) && decide (e.target = k))

/-- Lane `k`, replaced by lane 8, has an APPLIED entry: one that was QUEUED, or a new one (R350, R488, R492). -/
def State.laneApplied (s : State) (p k cause : Nat) : State :=
  if s.laneMapped p k then s
  else match s.laneQueued p k with
    | some i => match s.dent i with
      | some e => (s.moveEntry i deApplied).remapDone i e (36 + p)
      | none => s
    | none => s.noteApplied { unitEntry 5 cause p k 8 with state := deApplied } (36 + p)

/-- QUEUED LANE entries of port `p` that found the spare taken are FAILED, and their lanes stay in service (R493). -/
def State.lanesUnspared (s : State) (p : Nat) : State :=
  (List.range 8).foldl (fun s k => match s.laneQueued p k with
    | some i => s.moveEntry i deFailed
    | none => s) s

/-- Failed lanes of port `p` for which no spare is left are retired (R493). -/
def State.lanesOut (s : State) (p : Nat) (bad : List Nat) (cause : Nat) : State :=
  (bad.filter (fun k => !s.laneMapped p k)).foldl (fun s k => s.retire { unitEntry 5 cause p k 8 with state := deFailed }) s

/-- A test that leaves port `p` too few good lanes: those it found failed are retired, and the port is HELD (R350, R493). -/
def State.lanesHeld (s : State) (p good cause : Nat) : State :=
  let full := if 3 ≤ (s.port p).rev then 8 else 4
  s.lanesOut p ((List.range full).filter (fun k => !bitAt good k)) cause

/-- The lanes of port `p` after its test: width and the lane that lane 8 replaces, or none when too few are good (R350). A QUEUED LANE entry of
the port is carried out when lane 8 is free (Table 16.7). `cause` is the defect map's for a newly failed lane. -/
def State.trainLanes (s : State) (p good cause : Nat) : Option State :=
  let q := s.port p
  let full := if 3 ≤ q.rev then 8 else 4
  let least := if 3 ≤ q.rev then 4 else 2
  let ok := fun k => bitAt good k && !q.treatBad.contains k
  let bad := (List.range full).filter (fun k => !ok k || s.laneMapped p k)
  let spare := bitAt q.inUse 5 && ok 8
  let bad := if bad = [] && spare then ((List.range full).filter (fun k => (s.laneQueued p k).isSome)).take 1 else bad
  match bad with
  | [] => some (s.setPort p { q with width := full, spared := 0xF, degraded := false, treatBad := [] })
  | _ =>
    if bad.length = 1 ∧ spare then
      let k := bad.headD 0
      let s := s.setPort p { q with width := full, spared := k, degraded := false, treatBad := [] }
      some (((s.laneApplied p k cause).lanesUnspared p).lnkFlag 2 p)
    else
      let usable := (List.range full).filter ok ++ (if spare then [8] else [])
      if least ≤ usable.length then
        let s := s.setPort p { q with width := least, spared := 0xF, degraded := true, treatBad := [] }
        some (((s.lanesUnspared p).lanesOut p bad cause).lnkFlag 3 p)
      else none

/-- LINK_TRAIN_DONE (R341, R350). -/
def execLinkTrainDone (p : PortId) (good : Nat) (margins : List Nat) (s : State) : Result :=
  if (s.port p.val).state ≠ .train ∨ (s.port p.val).retraining then .next s
  else match s.trainLanes p.val good 1 with
    | some s => .next ((s.laneMargins p.val margins).enterConfirm p.val)
    | none => .next ((s.lanesHeld p.val good 1).holdPort p.val 6)

/-- Our coordinates, or the election record held, out of port `p` as a discovery record (R367). -/
def State.tellPlace (s : State) (p : Nat) : State :=
  match s.lnk.pos, s.lnk.elect with
  | some (x, y, z), _ => s.sendNear p .discoveryRecord [0, x, y, z]
  | none, some (i, x, y, z) => s.sendNear p .discoveryRecord [1, i, ofSigned 32 x, ofSigned 32 y, ofSigned 32 z]
  | none, none => s

/-- Our place out of every torus port that is UP. -/
def State.tellAll (s : State) : State := (List.range 6).foldl (fun s p => if (s.port p).state = .up then s.tellPlace p else s) s

/-- A ring-length probe out of a port, after some hops; while the port is not UP it waits there. -/
def State.sendProbe (s : State) (p origin hops : Nat) : State := s.sendNear p .discoveryProbe [origin, hops]

/-- What the peer's CONFIRM gives: the credits of each channel and its replay window (Table 12.2 step 5). -/
def Port.confirmed (q : Port) (credits : List Nat) (window : Nat) : Port :=
  { q with limits := credits.zipIdx.foldl (fun t x => tabSet channelDepth t x.2 x.1) [], window := window, retraining := false, badRetrains := 0 }

/-- LINK_CONFIRM_DONE (R341, R349, R367): the peer's CONFIRM has come, and the port is UP: after a bring-up with fresh sequence numbers and
every credit free, and discovery goes on over it; after a retrain with a replay from the oldest unacknowledged flit. -/
def execLinkConfirmDone (p : PortId) (credits : List Nat) (window : Nat) (s : State) : Result :=
  let q := s.port p.val
  if q.state ≠ .confirm then .next s
  else
    let q' := if q.retraining then q
      else { q with nextSeq := 0, unacked := [], fullSince := none, used := [], expect := 0, owed := [], nackGot := (0, 0), nackSent := (0, 0), crcMinute := 0 }
    let s := ((s.setPort p.val (q'.confirmed credits window)).portTo p.val .up).setDp (36 + p.val) false
    let s := if q.retraining then (s.payCredits p.val).replay p.val
      else if 6 ≤ p.val then s
      else
        let s := s.setLnk { s.lnk with firstUp := some (s.lnk.firstUp.getD s.clk) }
        let s := if !s.posValid ∧ p.val % 2 = 0 then s.sendProbe p.val Config.selfId.toNat 1 else s
        s.tellPlace p.val
    .next (s.pump p.val (s.port p.val).queue.length)

/-! ### Retrains (R349) -/

/-- REPLAY_STALL. -/
def execReplayStall (p : PortId) (t : Nat) (s : State) : Result :=
  let s := s.reachClk t
  match (s.port p.val).fullSince with
  | some t0 => if (s.port p.val).state = .up ∧ t0 + 100000 ≤ s.clk then .next (s.askRetrain p.val) else .next s
  | none => .next s

/-- LINK_RETRAIN_DONE (R349, R350, R376): a good retrain goes on to CONFIRM; the third bad one in a row fails the port; too few lanes hold it. -/
def execLinkRetrainDone (p : PortId) (ok : Bool) (good : Nat) (margins : List Nat) (s : State) : Result :=
  let q := s.port p.val
  if !q.retraining ∨ q.state ≠ .train then .next s
  else if !ok then
    let s := s.setPort p.val { q with badRetrains := q.badRetrains + 1 }
    .next (if 3 ≤ q.badRetrains + 1 then s.failPort p.val else s.beginRetrain p.val)
  else match s.trainLanes p.val good 2 with
    | none => .next ((s.lanesHeld p.val good 2).holdPort p.val 6)
    | some s => .next ((s.laneMargins p.val margins).enterConfirm p.val)

/-- A write of LNK_CFG_p (Table 12.13): EN takes the port DOWN or lets it detect; RETRAIN requests a retrain or leaves HELD. -/
def State.writeLnkCfg (p : Nat) (v : Word) (_who : Reader) (s : State) : State :=
  let was := s.rbit (0x60100 + 0x40 * p) 31
  let s := s.setReg (0x60100 + 0x40 * p) (v &&& 0xA0FFF00F)
  let on := bitAt v.toNat 31
  if was && !on then s.downPort p
  else
    let s := if !was && on && decide (2 ≤ s.boot.stage) then s.detectPort p else s
    if !bitAt v.toNat 30 then s
    else match (s.port p).state with
      | .held => s.enterDetect p
      | .up => s.askRetrain p
      | .failed => s.beginRetrain p
      | _ => s

/-- LNK_RETRAIN_CMD (R342, R349): RETRAIN is written with the port's other settings as they stand. -/
def execLnkRetrainCmd (p : PortId) (s : State) : Result :=
  .next (s.onWrite (0x60100 + 0x40 * p.val) .host (fun s => s.writeLnkCfg p.val (s.reg (0x60100 + 0x40 * p.val) ||| 0x40000000) .host))

/-- LNK_ENABLE_WRITE (Table 12.13). -/
def execLnkEnableWrite (p : PortId) (v : Word) (s : State) : Result :=
  .next (s.onWrite (0x60100 + 0x40 * p.val) .host (State.writeLnkCfg p.val v .host))

/-! ### Flits (R344 to R348) -/

/-- A flit with a bad CRC, or out of order: one NACK names the flit expected; too many of one number retrain (R348, R349). -/
def State.nackFlit (s : State) (p : Nat) : State :=
  let q := s.port p
  let run := nackRun q.nackSent q.expect
  let s := ((s.setPort p { q with nackSent := run }).sendAck p true q.expect).lnkCount p 3 1
  if s.retryLimit p ≤ run.2 then s.askRetrain p else s

/-- A CRC failure is counted; an IDLE flit with one is otherwise ignored. -/
def State.badFlit (s : State) (p : Nat) (flit : List Byte) : State :=
  let s := s.lnkCount p 2 1
  let q := s.port p
  let s := s.setPort p { q with crcMinute := q.crcMinute + 1 }
  let s := if s.crcLimit p ≠ 0 ∧ s.crcLimit p < q.crcMinute + 1 then s.askRetrain p else s
  if hdrFld flit 63 3 = 0 ∨ (s.port p).state ≠ .up then s else s.nackFlit p

/-- The credit and the acknowledgement a flit brings (Table 12.6). -/
def State.flitReturns (s : State) (p : Nat) (flit : List Byte) : State :=
  let k := channel (hdrFld flit 60 3) (decide (hdrFld flit 26 1 = 1))
  let q := s.port p
  let s := s.setPort p { q with used := tabSet (fun _ => 0) q.used k (tabGet (fun _ => 0) q.used k - hdrFld flit 53 7) }
  let n := hdrFld flit 39 12
  match hdrFld flit 51 2 with
  | 1 => s.setPort p ((s.port p).acked n)
  | 2 =>
    let q := (s.port p).acked ((n + 4095) % 4096)
    let run := nackRun (s.port p).nackGot n
    let s := s.setPort p { q with nackGot := run }
    if s.retryLimit p ≤ run.2 then s.askRetrain p else s.replay p
  | _ => s

/-- A sequenced flit: taken in order and acknowledged; a copy is acknowledged again, a later one waits for the replay (R348). -/
def State.sequenced (s : State) (p : Nat) (flit : List Byte) (f : State → State) : State :=
  let q := s.port p
  let n := hdrFld flit 27 12
  if n = q.expect then
    f ((s.setPort p { q with expect := (q.expect + 1) % 4096, nackSent := (0, 0) }).sendAck p false n)
  else if 2048 ≤ (n + 4096 - q.expect) % 4096 then s.sendAck p false ((q.expect + 4095) % 4096)
  else if q.nackSent.2 = 0 then s.nackFlit p else s

/-- FLIT_RX (R344 to R349, R376): CRC, credits and acknowledgements, the Dawn slot, and DATA or CONTROL in sequence. -/
def execFlitRx (p : PortId) (flit : List Byte) (retrain : Bool) (s : State) : Result :=
  if (s.port p.val).state ≠ .up ∨ flit.length ≠ 256 then .next s
  else
    let s := s.lnkCount p.val 1 1
    if crcT10 (flit.take 254) ≠ leNat (flit.drop 254) then .next (s.badFlit p.val flit)
    else
      let s := s.flitReturns p.val flit
      let slot := (flit.drop 14).take 16
      let s := if s.capable p.val 8 ∧ p.val < 6 ∧ leNat slot ≠ 0 then s.send (.dawnDeliver p.val slot) else s
      let s := match hdrFld flit 63 3 with
        | 1 => s.sequenced p.val flit (fun s => s.takeData p.val flit)
        | 2 => s.sequenced p.val flit (fun s => if retrain then s.beginRetrain p.val else s)
        | _ => s
      .next (s.pump p.val (s.port p.val).queue.length)

end Sys2Proof.Machine
end

