-- ==== Sys2Proof/Machine/Remote.lean ====
section
/-! DEFINITION. Machine/Remote.lean: route-stale messages and changeovers, remote requests and their responses, bridge peers, and the discovery
of the package's place (R351 to R368, R371, R374). -/

namespace Sys2Proof.Machine

/-! ### Route-stale messages (R356, R357, R374) -/

/-- ROUTE_STALE_RX (R357): the message is no longer on its way, and is reissued, held or ended. -/
def execRouteStaleRx (m : Msg) (s : State) : Result :=
  let s := match m.key with
    | some k => s.closeKey k
    | none => s
  .next (s.returned m)

/-- SWI_CFG.STALE_HOLD; 0 acts as 1 (R370). -/
def State.staleHold (s : State) : Nat := max 1 (s.fld 0x50000 0 8)

/-- STALE_HOLD_EXPIRY (R357): the oldest message has waited STALE_HOLD Minutes and completes UNREACHABLE. -/
def execStaleHoldExpiry (s : State) : Result :=
  let s := s.settleHold
  match s.lnk.hold with
  | [] => .next s
  | (m, t) :: rest =>
    if t + s.staleHold ≤ s.absMin then .next ((s.setLnk { s.lnk with hold := rest }).failMsg m 0x23).unpark else .next s

/-! ### Route epochs (R355, R356, R368) -/

/-- Every message in the hold is reissued. -/
def State.releaseHold (s : State) : State :=
  let s := s.settleHold
  s.lnk.hold.foldl (fun s x => s.reissue x.1) (s.setLnk { s.lnk with hold := [] })

/-- A changeover, in one step: staged becomes current, current previous, the previous one is discarded; `late` when its Minute had begun. -/
def State.changeover (s : State) (epoch : Nat) (t : RouteTable) (late : Bool) : State :=
  let s := s.setLnk { s.lnk with prev := some (s.routeEpoch, s.lnk.table, s.absMin + 60), table := t, staged := none, stagedLate := false }
  let s := (s.setReg 0x50004 (BitVec.ofNat 32 epoch)).flagOpen 0x5001C 0 6 noCtx
  (if late then s.flagOpen 0x5001C 1 6 noCtx else s).releaseHold.unpark

/-- The table that SWI_RT_STAGE_d holds. -/
def State.stageTable (s : State) : RouteTable :=
  { entries := (List.range 128).foldl (fun t d => tabSet (fun _ => 0xF) t d (s.fld (0x50400 + 4 * d) 0 4)) [], dimOrder := false }

/-- A write of SWI_ROUTE_CMD: DEFAULT installs the table of R352 under the current epoch; ARM stages a table, replaces one staged under the same
epoch, and changes over at once when its Minute has begun (R355, R368, R374). -/
def State.writeRouteCmd (v : Word) (who : Reader) (s : State) : State :=
  let s := if bitAt v.toNat 1 then (s.setLnk { s.lnk with table := { entries := [], dimOrder := true } }).unpark else s
  if !bitAt v.toNat 0 then s
  else
    let e := (s.reg 0x50008).toNat
    let stamp := s.reg64 0x50010
    let other := match s.lnk.staged with
      | some (e', _, _) => decide (e' ≠ e)
      | none => false
    if other || stampBad stamp then s.locked 0x50018 who
    else
      let m := stampMin s.day.hourOfs stamp
      if m ≤ s.absMin then s.changeover e s.stageTable true
      else s.setLnk { s.lnk with staged := some (e, s.stageTable, m), stagedLate := false }

/-- ROUTE_ARM. -/
def execRouteArm (s : State) : Result := .next (s.onWrite 0x50018 .host (State.writeRouteCmd 1 .host))

/-- ROUTE_DEFAULT. -/
def execRouteDefault (s : State) : Result := .next (s.onWrite 0x50018 .host (State.writeRouteCmd 2 .host))

/-- ROUTE_CHANGEOVER (R51, R355): at the changeover Minute, after the events of R51 that come before it. -/
def execRouteChangeover (s : State) : Result :=
  match s.lnk.staged with
  | some (e, t, m) => if m ≤ s.absMin ∧ s.day.due = [] then .next (s.changeover e t s.lnk.stagedLate) else .next s
  | none => .next s

/-- PREVIOUS_ROUTE_DISCARD (R351): one Hour after a changeover. -/
def execPreviousRouteDiscard (s : State) : Result :=
  match s.lnk.prev with
  | some (_, _, m) => if m ≤ s.absMin then .next (s.setLnk { s.lnk with prev := none }) else .next s
  | none => .next s

/-! ### Remote requests served (R360 to R362) -/

/-- The context that aperture `a` lets a request from port `p` reach; none when it is refused. Port 8, this package's own, is in no PORTS. -/
def State.aperture (s : State) (p a : Nat) : Option Nat :=
  let off := 0x60400 + 4 * a
  let c := s.fld off 0 6
  if s.rbit off 31 && decide (p < 8) && s.rbit off (14 + p) && decide (tabGet (fun _ => 0) s.lnk.aptGen a = (s.ctx c).gen)
      && decide ((s.ctx c).state = .open_) then some c else none

/-- An answer to a remote request. -/
def State.reply (s : State) (to_ : Peer) (kind : MsgKind) (args : List Nat) (data : List Byte) : State :=
  s.sendMsg { kind := kind, src := 0, dst := to_, epoch := 0, args := args, data := data }

/-- A refused request is counted and flagged (R375). -/
def State.refuseRemote (s : State) (p : Nat) (to_ : Peer) (tag : Nat) : State :=
  let s := if p < 8 then (s.lnkCount p 7 1).lnkFlag 9 p else s
  s.reply to_ .refusal [tag, 1] []

/-- The outcome of a fault at the target (Table 12.8). -/
def outcomeOf (f : XFault) : Nat := if 1 ≤ f.reason ∧ f.reason ≤ 5 then 2 else if 6 ≤ f.reason ∧ f.reason ≤ 8 then 3 else 4

/-- REMOTE_REQUEST_RX (R360, R361): under the bound context's tables, with RMT. A read that must cross a bridge which retrains waits (R82). -/
def execRemoteRequestRx (p : Fin 9) (from_ : Peer) (tag : Nat) (apt : Fin 64) (write : Bool) (ra len : Nat) (data : List Byte) (s : State) :
    Result :=
  s.arrive (.remoteRequestRx p from_ tag apt write ra len data) (fun s =>
    match s.aperture p.val apt.val with
    | none => .next (s.refuseRemote p.val from_ tag)
    | some c =>
      let fail := fun (s : State) (f : XFault) =>
        if f.reason = 99 then .next (s.setLnk { s.lnk with late := s.lnk.late ++ [.remoteRequestRx p from_ tag apt write ra len data] })
        else .next ((s.noteXFault c f).reply from_ .refusal [tag, outcomeOf f] [])
      if write then
        match s.vwrite 0 c ra data .remoteWrite with
        | (s, some f) => fail s f
        | (s, none) => .next (s.reply from_ .response [tag] [])
      else match s.vread 0 c ra len .remoteRead with
        | .error f => fail s f
        | .ok bs => .next (s.reply from_ .response [tag] bs))

/-- INTERRUPT_RX (R362). -/
def execInterruptRx (p : Fin 9) (from_ : Peer) (tag : Nat) (apt : Fin 64) (value : DWord) (s : State) : Result :=
  s.arrive (.interruptRx p from_ tag apt value) (fun s =>
    match s.aperture p.val apt.val with
    | none => .next (s.refuseRemote p.val from_ tag)
    | some c => .next ((s.event 7 0x100 c value.toNat).reply from_ .interruptAck [tag] []))

/-! ### Responses to this package's requests (R361, R374) -/

/-- Work that waited for remote data is looked at again: hand-off sources and collectives. -/
def State.retryRemote (s : State) (c : Nat) : State :=
  let s := s.pumpSends c
  (s.col.colls.filter (fun x => decide (x.ctx = c))).foldl (fun s x => s.tryLaunch x.slot x.cseq) s

/-- A request's work ends as Table 12.8 says. -/
def State.requestFails (s : State) (r : RemoteReq) (code detail : Nat) : State :=
  if !(decide ((s.ctx r.ctx).gen = r.gen) && decide ((s.ctx r.ctx).state = .open_)) then s
  else if 0x40 ≤ code then (s.contextFault r.ctx code detail (some r.idx) (s.desc r.ctx r.idx).isNone 0xFFFF).schedule none
  else s.abortDesc r.ctx r.idx code detail

/-- REMOTE_RESPONSE_RX (R361, R374): a response under an old GEN is discarded; data that came lets the command that lacked it take effect. -/
def execRemoteResponseRx (tag : Nat) (outcome : Fin 5) (data : List Byte) (s : State) : Result :=
  match s.tag tag with
  | none => .next s
  | some r =>
    let s := s.freeTag tag
    if (s.ctx r.ctx).gen ≠ r.gen then .next s
    else match outcome.val with
      | 0 =>
        if r.write ∨ r.notify then .next s
        else
          let g : RemoteData := { ctx := r.ctx, idx := r.idx, pos := r.pos, va := r.va, bytes := data.take r.len }
          .next ((s.setLnk { s.lnk with got := s.lnk.got ++ [g] }).retryRemote r.ctx)
      | 1 => .next (s.requestFails r 0x23 r.dst.detail)
      | 2 => .next (s.requestFails r 0x40 r.va)
      | 3 => .next (s.requestFails r 0x41 r.va)
      | _ => .next (s.requestFails r 0x45 (0x60000 + r.dst.pos))

/-- 2^HUB_HI_CTRL.RD_TIMEOUT ms in ticks; 7 acts as 6. -/
def State.rdTimeout (s : State) : Nat := 2 ^ min 6 (s.fld 0x200 4 3) * 1000000

/-- REMOTE_REQUEST_TIMEOUT (Table 12.8). -/
def execRemoteRequestTimeout (tag t : Nat) (s : State) : Result :=
  let s := s.reachClk t
  match s.tag tag with
  | none => .next s
  | some r =>
    if r.at_ + s.rdTimeout ≤ s.clk then .next ((s.freeTag tag).requestFails r 0x23 r.dst.detail) else .next s

/-! ### Bridge peers (R364, R365) -/

/-- PEER_LIST_RX: the list is replaced; its epoch moves on, or the port drains first; identifiers dropped from it are lost. -/
def execPeerListRx (b : Fin 2) (peers : List (Nat × Nat)) (s : State) : Result :=
  let p := 6 + b.val
  let new := (peers.filter (fun x => decide (2 ≤ x.2) && decide (x.2 < 65536))).take 256
  let old := tabGet (fun _ => []) s.lnk.peers b.val
  if new = old ∨ ((s.port p).state ≠ .up ∧ (s.port p).state ≠ .confirm) then .next s
  else
    let s := (s.setLnk { s.lnk with peers := tabSet (fun _ => []) s.lnk.peers b.val new }).lnkFlag 6 p
    let gone := old.filter (fun x => !new.any (fun y => decide (y.2 = x.2)))
    let s := gone.foldl (fun s _ => s.record 3 7 6 noCtx (36 + p) p) s
    let lost := fun (d : Peer) => decide (d.route = b.val + 1) && gone.any (fun x => decide (x.2 = d.id))
    if s.capable p 6 then
      let s := s.setLnk { s.lnk with peerEpoch := tabSet (fun _ => 0) s.lnk.peerEpoch b.val (tabGet (fun _ => 0) s.lnk.peerEpoch b.val + 1) }
      let idle := fun (w : SendWin) => lost w.peer && s.lnk.open_.all (fun o => decide (o.1 % 2 ^ 40 ≠ offerKey w.ctx w.idx))
      .next (((s.cmb.sends.filter idle).foldl (fun s w => s.abortDesc w.ctx w.idx 0x22 w.peer.detail) s).loseWaiting lost)
    else
      let s := s.losePeer lost
      let busy := s.lnk.open_.any (fun o => decide (o.2.1 / 2 ^ 16 = b.val + 1))
      .next (s.setLnk { s.lnk with drain := tabSet (fun _ => false) s.lnk.drain b.val busy })

/-! ### Discovery (R367) -/

/-- Coordinates conflict, on a port, or discovery failed, on none (R375; its DETAIL is then free): torus ports that carry traffic are HELD with
POS_CONFLICT, and the position is not valid. -/
def State.posFault (s : State) (port : Option Nat) : State :=
  let s := s.setLnk { s.lnk with pos := none, origin := false, heard := none, elect := none }
  let s := match port with
    | some p => s.lnkFlag 7 p
    | none => s.flagOpen 0x60004 7 7 noCtx
  (List.range 6).foldl (fun s p => if (s.port p).state = .up then s.holdPort p 5 else s) s

/-- The lengths of the three axes, once they are known: X and Y measured, Z measured or 1 when both Z ports are unconnected. -/
def State.axisLens (s : State) : Option (Nat × Nat × Nat) :=
  let len := fun a => tabGet (fun _ => 0) s.lnk.lens a
  let z := if len 2 ≠ 0 then len 2 else if (s.port 4).state ≠ .up ∧ (s.port 5).state ≠ .up then 1 else 0
  if len 0 ≠ 0 ∧ len 1 ≠ 0 ∧ z ≠ 0 then some (len 0, len 1, z) else none

/-- The position is learnt: coordinates modulo the axis lengths, told on to every neighbour (R40, R367). -/
def State.learnPos (s : State) (at_ : Int × Int × Int) (origin : Bool) : State :=
  match s.axisLens with
  | none => s
  | some (lx, ly, lz) =>
    if lx ≠ 4 ∨ ly ≠ 4 ∨ 8 < lz then s.posFault none
    else
      let m := fun (i : Int) (n : Nat) => (i % (n : Int)).toNat
      let s := s.setLnk { s.lnk with pos := some (m at_.1 4, m at_.2.1 4, m at_.2.2 lz), zLen := lz, origin := origin }
      s.tellAll.unpark.tryAdoptStart

/-- Coordinates a neighbour reported, with one step across the port it was met on, are taken when the lengths are known. -/
def State.tryAdoptPos (s : State) : State :=
  match s.lnk.pos, s.lnk.heard with
  | none, some at_ => s.learnPos at_ false
  | _, _ => s

/-- DISCOVERY_PROBE_RX: our own probe came back and its hops are the axis's length; another's goes on out of the same port name, once
that port is UP. -/
def execDiscoveryProbeRx (p : TorusPort) (origin hops : Nat) (s : State) : Result :=
  if (s.port p.val).state ≠ .up then .next s
  else
    let out := if p.val % 2 = 0 then p.val + 1 else p.val - 1
    if origin = Config.selfId.toNat then
      .next (s.setLnk { s.lnk with lens := tabSet (fun _ => 0) s.lnk.lens (p.val / 2) hops }).tryAdoptPos
    else .next (s.sendProbe out origin (hops + 1))

/-- One step from a neighbour met on torus port `p` to this package. -/
def stepFrom (p : Nat) (n : Int × Int × Int) : Int × Int × Int :=
  let d : Int := if p % 2 = 0 then -1 else 1
  if p < 2 then (n.1 + d, n.2.1, n.2.2) else if p < 4 then (n.1, n.2.1 + d, n.2.2) else (n.1, n.2.1, n.2.2 + d)

/-- DISCOVERY_RECORD_RX: a neighbour's coordinates are adopted or must agree; an election record with a smaller identity is taken and flooded. -/
def execDiscoveryRecordRx (p : TorusPort) (r : DiscRecord) (t : Nat) (s : State) : Result :=
  let s := s.reachClk t
  if (s.port p.val).state ≠ .up then .next s
  else match r with
    | .coords x y z =>
      let at_ := stepFrom p.val ((x : Int), (y : Int), (z : Int))
      match s.lnk.pos, s.lnk.heard with
      | some _, _ => if s.agreesAt p.val (x, y, z) then .next s else .next (s.posFault (some p.val))
      | none, none => .next (s.setLnk { s.lnk with heard := some at_, recAt := s.clk }).tryAdoptPos
      | none, some h => if h = at_ then .next s.tryAdoptPos
          else match s.axisLens with
            | some (lx, ly, lz) =>
              if (h.1 - at_.1) % (lx : Int) = 0 ∧ (h.2.1 - at_.2.1) % (ly : Int) = 0 ∧ (h.2.2 - at_.2.2) % (lz : Int) = 0 then .next s.tryAdoptPos
              else .next (s.posFault (some p.val))
            | none => .next (s.posFault (some p.val))
    | .election i x y z =>
      if s.posValid then .next (s.tellPlace p.val)
      else
        let held := (s.lnk.elect.map (fun e => e.1)).getD Config.selfId.toNat
        if i < held then
          let at_ := stepFrom p.val (x, y, z)
          .next (s.setLnk { s.lnk with elect := some (i, at_.1, at_.2.1, at_.2.2), recAt := s.clk }).tellAll
        else .next s

/-- DISCOVERY_ELECTION_TIMER: 5 ms after the first torus link without coordinates from a neighbour, the package floods its record. -/
def execDiscoveryElectionTimer (t : Nat) (s : State) : Result :=
  let s := s.reachClk t
  match s.lnk.firstUp with
  | none => .next s
  | some t0 =>
    if s.posValid || s.lnk.heard.isSome || decide (s.clk < t0 + 5000000) then .next s
    else match s.lnk.elect with
      | some _ => .next s.tellAll
      | none => .next (s.setLnk { s.lnk with elect := some (Config.selfId.toNat, 0, 0, 0), recAt := s.clk }).tellAll

/-- DISCOVERY_SETTLE: the record has not changed for 100 us; the package whose identity survives is the origin. -/
def execDiscoverySettle (t : Nat) (s : State) : Result :=
  let s := s.reachClk t
  if s.posValid || decide (s.clk < s.lnk.recAt + 100000) then .next s
  else match s.lnk.heard, s.lnk.elect with
    | some at_, _ => .next (s.learnPos at_ false)
    | none, some (i, x, y, z) => .next (s.learnPos (x, y, z) (decide (i = Config.selfId.toNat)))
    | none, none => .next s

/-! ### Apertures and windows (R360, R371, R379) -/

/-- A write of LNK_APT_a: EN written 1 latches the bound context's GEN. -/
def State.writeAperture (a : Nat) (v : Word) (_who : Reader) (s : State) : State :=
  let s := s.setReg (0x60400 + 4 * a) (v &&& 0x803FC03F)
  if bitAt v.toNat 31 then s.setLnk { s.lnk with aptGen := tabSet (fun _ => 0) s.lnk.aptGen a (s.ctx (wfld v 0 6)).gen } else s

/-- APERTURE_BIND. -/
def execApertureBind (a : Fin 64) (v : Word) (s : State) : Result :=
  .next (s.onWrite (0x60400 + 4 * a.val) .host (State.writeAperture a.val v .host))

/-- Whether a window with this VA register keeps the limits of R371 and overlaps no other enabled window of its context. -/
def State.windowFits (s : State) (c w : Nat) (v : Word) : Bool :=
  let span := s.winSpan c w
  let va := wfld v 0 27 * 0x200000
  let ra := s.fld (winReg c w 1) 0 27 * 0x200000
  decide (va + span ≤ 2 ^ 48) && decide (ra + span ≤ 2 ^ 48) &&
    (List.range 4).all (fun k => k == w || !s.rbit (winReg c k 0) 31 ||
      decide (va + span ≤ s.winBase c k) || decide (s.winBase c k + s.winSpan c k ≤ va))

/-- A write of LNK_RWIN_VA_c_w: only while context c is FREE, and EN only for a window that fits (R371). -/
def State.writeWindow (c w : Nat) (v : Word) (who : Reader) (s : State) : State :=
  if (s.ctx c).state ≠ .free then s.locked (winReg c w 0) who
  else if bitAt v.toNat 31 && !s.windowFits c w v then
    s.locked (winReg c w 0) who
  else s.setReg (winReg c w 0) (v &&& 0xF7FFFFFF)

/-- RWIN_ENABLE. -/
def execRwinEnable (c : CtxId) (w : Fin 4) (v : Word) (s : State) : Result :=
  .next (s.onWrite (winReg c.val w.val 0) .host (State.writeWindow c.val w.val v .host))

end Sys2Proof.Machine
end

