-- ==== Sys2Proof/Machine/Bank.lean ====
section
/-! DEFINITION. Machine/Bank.lean: what goes on once a bridge or a bank die is back (R82, R84, R86, R90). -/

namespace Sys2Proof.Machine

/-- Accesses that waited for a bridge or a bank die are looked at again: hand-off sources, collectives and other packages' requests (R82). -/
def State.retryWaiting (s : State) : State :=
  let s := ctxRange.foldl State.retryRemote s
  let late := s.lnk.late
  { s.setLnk { s.lnk with late := [] } with pwr := { s.pwr with wakeWork := s.pwr.wakeWork ++ late } }

/-- BRIDGE_RETRAIN_DONE (R84, R85): spares are assigned and unacknowledged frames replayed; after three failures in a row the bridge
enters FAILED and its bank die is lost. -/
def execBridgeRetrainDone (n : BankId) (ok : Bool) (wires : WireTest) (s : State) : Result :=
  let b := s.bank n.val
  if b.bridge ≠ .retrain then .next s
  else match (if ok then s.trainBridge n.val wires false else none) with
    | some s => .next (((s.bridgeBack n.val).hubEvent 0x10 (4 + n.val) (n.val + b.cause * 256)).judgeWaiting n.val).retryWaiting
    | none =>
      let k := b.badRetrains + 1
      let s := if ok then s.wiresOut n.val wires else s
      let s := s.setBank n.val { b with badRetrains := k }
      if k < 3 then .next s else .next (((s.bridgeFails n.val).loseBank n.val false).judgeWaiting n.val)

/-- BANK_RESET_DONE (R86 steps 4 and 5, R70, R90, R198): active again, its scratchpad zeros, its translation cache empty and its stacks kept, or zeros with
MEM_LOST when the fault lay in a memory controller; or FAILED. -/
def execBankResetDone (n : BankId) (ok : Bool) (wires : WireTest) (fuse : Option FuseRecord) (badEngines : List Nat) (badSfu : Bool) (s : State) : Result :=
  if (s.bank n.val).phase ≠ .resetting then .next s
  else match (if ok then s.bankTrains n.val wires fuse true else none) with
    | some s =>
      let lost := (s.bank n.val).memFault
      let s := (((s.zeroPad n.val).lostBit 1).lostBit 38).emptyCache (1 + n.val)
      let s := if lost then
          (((s.zeroStacks n.val).lostBit 0).rootsLostOn n.val).setBank n.val { s.bank n.val with memLost := true, memFault := false }
        else s
      let s := s.clearAging n.val
      .next ((s.bankActive n.val badEngines badSfu false).hubEvent 0x14 n.val (n.val + 256 * b2n lost)).retryWaiting
    | none => .next ((if ok then s.wiresOut n.val wires else s).bankFails n.val)

end Sys2Proof.Machine
end

