-- ==== Sys2Proof/Machine/Host.lean ====
section
/-! DEFINITION. Machine/Host.lean: doorbells, descriptor fetch, completions, the event ring, interrupts and the rings' registers (chapter 4). -/

namespace Sys2Proof.Machine

/-! ### Polls and fetches (R97, R98, R104, R107, R111, R113, R114, R130) -/

/-- Both doorbell block bases, the head block base and the event ring registers have been written (R130); a base counts as written at the
write of its _LO half (assumption 30). -/
def State.basesWritten (s : State) : Bool :=
  [0x210, 0x218, 0x220, 0x228, 0x230].all (fun o => s.host.written.contains o)

/-- Whether doorbells are polled at all (R94, R111, R130, R468, R505). -/
def State.polls (s : State) : Bool :=
  s.rbit 0x200 0 && s.basesWritten && s.boot.ready && s.hostAlive && s.host.linkUp && !s.flt.pkgFault

/-- The poll interval in Noon (R114). -/
def State.pollInterval (s : State) : Nat := min 1000000 (max 2000 (s.fld 0x204 0 20))

/-- Whether the package is in Noon or Afternoon and not leaving another state. -/
def State.awake (s : State) : Bool :=
  (decide (s.pwr.state = .noon) || decide (s.pwr.state = .afternoon)) && !s.pwr.exiting

/-- The read of doorbell block `b` is issued unless one is outstanding (R113). -/
def State.pollBlock (s : State) (b : Nat) : State :=
  if s.host.dbOut.any (fun x => decide (x.1 = b)) then s
  else ({ s with host := { s.host with dbOut := s.host.dbOut ++ [(b, s.clk)] } }).send (.hostRead none (s.reg64 (0x210 + 8 * b)) 64)

/-- The doorbell blocks that a poll reads: block 0, and block 1 when any of contexts 32 to 63 has ENABLE at 1 (R111). -/
def State.dbBlocks (s : State) : List Nat := if (List.range 32).any (fun i => s.rbit (0x1010 + 0x20 * (32 + i)) 31) then [0, 1] else [0]

/-- Both blocks are read together (R111, R114). -/
def State.pollBoth (s : State) : State := s.dbBlocks.foldl State.pollBlock s

/-- One fetch read for context `c` is issued: as many descriptors as the doorbell, the fetch window and the ring's end allow (R104, R113). -/
def State.fetch (s : State) (c : Nat) : State :=
  let r := s.ring c
  let size := s.sqSize c
  let k := min (min ((r.sqTail + 65536 - r.sqHead) % 65536) (32 - r.window.length)) (size - r.sqHead % size)
  if r.state = .active ∧ (s.ctx c).state = .open_ ∧ r.fetching = 0 ∧ 0 < k ∧ s.awake ∧ s.polls then
    (s.setRing c { r with fetching := k, fetchAt := s.clk }).send
      (.hostRead (s.pasid c) (s.reg64 (0x1000 + 0x20 * c) + 64 * (r.sqHead % size)) (64 * k))
  else s

/-- Every context fetches what it may. -/
def State.fetchAll (s : State) : State := (ctxRange.foldl (fun s c => s.fetch c) s).noteIdle

/-- DOORBELL_POLL (R111, R114, Table 4.9): the poll of the power state is made when its time has come. -/
def execDoorbellPoll (t : Nat) (s : State) : Result :=
  let s := s.reachClk t
  .next (if !s.polls || decide (s.clk < s.host.nextPoll) || s.pwr.exiting then s
    else match s.pwr.state with
      | .noon => ({ s with host := { s.host with nextPoll := s.clk + s.pollInterval } }).pollBoth
      | .afternoon => ({ s with host := { s.host with nextPoll := s.clk + 2 * s.pollInterval } }).pollBoth
      | .midnight => s
      | _ =>
        if s.localMinute % 60 = 0 then ({ s with host := { s.host with nextPoll := s.hourEnd } }).pollBoth else s)

/-- A doorbell read failed (R121): it is counted, and after 16 in a row the event and the alert are raised. The event's DETAIL is a free
value. -/
def State.doorbellFailed (s : State) : State :=
  let n := s.host.dbFails + 1
  let s := ({ s with host := { s.host with dbFails := n } }).bump 0x238 16 1
  if n = 16 then
    let (k, s) := s.takeFree
    (s.event 1 1 noCtx (k % 2 ^ 64)).alert 1
  else s

/-- One doorbell word (R97, R111, R125): out of range it is a context-class fault, else SQ_TAIL. -/
def State.doorbellWord (s : State) (c tail : Nat) : State :=
  let r := s.ring c
  if r.state ≠ .active ∨ (s.ctx c).state ≠ .open_ then s
  else if s.sqSize c < (tail + 65536 - r.sqHead) % 65536 then
    (s.contextFault c 0x44 (tail * 65536 + r.sqHead) none true 0x201).schedule none
  else s.setRing c { r with sqTail := tail }

/-- Whether context `c` has descriptors to fetch. -/
def State.wantsFetch (s : State) (c : Nat) : Bool := decide ((s.ring c).state = .active) && decide ((s.ring c).sqTail ≠ (s.ring c).sqHead)

/-- The outstanding read of doorbell block `b` has returned or timed out; a HUB_WAKE poll that found it outstanding reads the block once more (R111, R113;
DESIGN CHOICE: assumption 114). -/
def State.dbReturned (s : State) (b : Nat) : State :=
  let again := s.host.wakePoll.contains b
  let s := { s with host := { s.host with dbOut := s.host.dbOut.filter (fun x => decide (x.1 ≠ b)), wakePoll := s.host.wakePoll.filter (fun x => decide (x ≠ b)) } }
  if again && s.polls then s.pollBlock b else s

/-- DOORBELL_READ_DONE (R97, R111, R121, R125, R434): changed doorbells start fetches; in Dusk or Night work found begins the exit. -/
def execDoorbellReadDone (b : Fin 2) (data : Option (List Byte)) (s : State) : Result :=
  if !s.host.dbOut.any (fun x => decide (x.1 = b.val)) then .next s
  else
    let s := s.dbReturned b.val
    if s.flt.pkgFault then .next s
    else match data with
      | none => .next s.doorbellFailed
      | some bs =>
        let s := { s with host := { s.host with dbFails := 0 } }
        let cs := (List.range 32).map (fun i => 32 * b.val + i)
        let s := cs.foldl (fun s c => s.doorbellWord c (leNat ((bs.drop (2 * (c % 32))).take 2))) s
        let s := if cs.any s.wantsFetch then s.beginExit else s
        .next (cs.foldl (fun s c => s.fetch c) s).noteIdle

/-- A write of 1 to HUB_WAKE.POLL (R111, R119, R434): one extra poll of each block; in Dusk or Night the exit begins. A block whose one read is
outstanding (R113) is read once more when that returns (DESIGN CHOICE: assumption 114). -/
def State.wake (s : State) : State :=
  let s := s.beginExit
  if s.polls then
    let busy := s.dbBlocks.filter (fun b => s.host.dbOut.any (fun x => decide (x.1 = b)) && !s.host.wakePoll.contains b)
    ({ s with host := { s.host with wakePoll := s.host.wakePoll ++ busy } }).pollBoth
  else s

/-- HUB_WAKE_POLL (R111). -/
def execHubWakePoll (s : State) : Result := .next (s.onWrite 0x20C .host State.wake)

/-- The fetched descriptor number `k` of a fetch: a TIMED one's START is converted as it is accepted, and is late when its Minute has begun (R43, R52). -/
def State.newDesc (s : State) (idx k : Nat) (ws : List DWord) : Desc :=
  let timed := dbit ws 0 10 && !stampBad (dword ws 1)
  let m := stampMin s.day.hourOfs (dword ws 1)
  { idx := idx, words := ws, phase := .waiting, late := timed && decide (m ≤ s.absMin), start := if timed then some m else none,
    readyAt := none, deferred := false, energy := 0, outBase := none, cursor := 0, startMin := 0, seq := s.host.accepted + k }

/-- A fetch of context `c` failed (R122). -/
def State.fetchFailed (s : State) (c : Nat) : State :=
  let r := s.ring c
  (s.contextFault c 0x42 (s.reg64 (0x1000 + 0x20 * c) + 64 * (r.sqHead % s.sqSize c)) none true 0x201).schedule none

/-- The descriptors of a fetch enter the window. -/
def State.takeDescs (s : State) (c : Nat) (ds : List (List DWord)) : State :=
  let r := s.ring c
  let new := ds.zipIdx.map (fun p => s.newDesc ((r.sqHead + p.2) % 65536) p.2 p.1)
  let s := { s with host := { s.host with accepted := s.host.accepted + ds.length } }
  (s.setRing c { r with fetching := 0, sqHead := (r.sqHead + ds.length) % 65536, window := r.window ++ new }).noteReady c

/-- DESCRIPTOR_FETCH_DONE (R104, R107, R122): the descriptors enter the fetch window. A ring that was stopped meanwhile takes nothing (R126 step 5). -/
def execDescriptorFetchDone (c : CtxId) (data : Option (List (List DWord))) (s : State) : Result :=
  let r := s.ring c.val
  if r.fetching = 0 then .next s
  else if r.state = .closed ∨ r.state = .stopped then .next (s.setRing c.val { r with fetching := 0 })
  else match data with
    | none => .next ((s.setRing c.val { r with fetching := 0 }).fetchFailed c.val)
    | some ds => .next (if ds.length = r.fetching then (s.takeDescs c.val ds).fetch c.val else s)

/-! ### Completions, heads, interrupts -/

/-- DESCRIPTOR_COMPLETE (R105, R106, R112, R113, R117, R119): the work of a descriptor has ended and its writes are acknowledged: its
completion enters the reserve or the ring. -/
def execDescriptorComplete (c : CtxId) (idx : Nat) (s : State) : Result :=
  match s.desc c.val idx with
  | some d =>
    match d.phase with
    | .ended code detail epoch =>
      .next (if s.unacked c.val idx then s else (((s.complete c.val d code detail epoch).noteReady c.val).fetch c.val).schedule none)
    | _ => .next s
  | none => .next s

/-- Whether the completion ring of context `c` appears full (R115): a CQ_HEAD ahead of CQ_TAIL counts as full, too. -/
def State.cqFull (s : State) (c : Nat) : Bool := decide ((s.ring c).state ≠ .closed) && !s.cqRoom c

/-- Whether any ring appears full (R98). -/
def State.anyFull (s : State) : Bool := ctxRange.any s.cqFull || (s.rbit 0x230 31 && s.evqFull)

/-- CQ_HEAD of context `c` as read; ahead of CQ_TAIL it counts as no room and sets HEAD_ERR (R115). -/
def State.takeHead (s : State) (c h : Nat) : State :=
  let r := s.ring c
  if r.state = .closed then s
  else s.setRing c { r with cqHead := h, headErr := r.headErr || decide (s.cqSize c < (r.cqTail + 65536 - h) % 65536) }

/-- Entry `i` of the head block (R98): CQ_HEAD of context `i`, or EVQ_HEAD at 64. -/
def headWord (bs : List Byte) (i : Nat) : Nat := leNat ((bs.drop (2 * i)).take 2)

/-- Every CQ_HEAD of a head block read is taken, and completions that it makes room for are written. -/
def State.takeHeads (s : State) (bs : List Byte) : State := ctxRange.foldl (fun s c => (s.takeHead c (headWord bs c)).writeCpls c 32) s

/-- EVQ_HEAD as read is taken, and events that it makes room for are written. -/
def State.takeEvqHead (s : State) (h : Nat) : State := ({ s with host := { s.host with evqHead := h } }).writeEvents 64

/-- COMPLETION_HEAD_READ (R98, R115, R116): while a ring appears full, the head block is read at most once per poll interval; waiting
entries are written as room shows. A failed read is tried again after an interval. The interval is HUB_POLL.INTERVAL in every power state (DESIGN CHOICE:
R98 does not say which of Table 4.9's it means outside Noon, assumption 114). -/
def execCompletionHeadRead (data : Option (List Byte)) (s : State) : Result :=
  if !s.anyFull || !s.hostAlive || !s.host.linkUp || decide (s.clk < s.host.headPoll) then .next s
  else
    let s := ({ s with host := { s.host with headPoll := s.clk + s.pollInterval } }).send (.hostRead none (s.reg64 0x220) 256)
    match data with
    | none => .next s
    | some bs =>
      .next ((s.takeHeads bs).takeEvqHead (headWord bs 64)).fetchAll

/-- IRQ_DELAY_EXPIRY (R112): 2^(IRQ_DELAY - 1) us have passed since the first completion not yet signalled. -/
def execIrqDelayExpiry (c : CtxId) (t : Nat) (s : State) : Result :=
  let s := s.reachClk t
  let n := s.fld (0x1010 + 0x20 * c.val) 16 4
  .next (match (s.ring c.val).firstUnsig with
    | some t0 => if n ≠ 0 ∧ t0 + 2 ^ (n - 1) * 1000 ≤ s.clk ∧ s.hostAlive then s.signalRing c.val else s
    | none => s)

/-- What waited for the host is written once it can be again: completions, events, fetches (R94, R128). -/
def State.hostBack (s : State) : State :=
  let s := ctxRange.foldl (fun s c => s.writeCpls c 32) s
  (s.writeEvents 64).fetchAll

/-- What waited for the link goes out (R128). -/
def State.sendHeld (s : State) : State := { s with sent := s.held ++ s.sent, held := [] }

/-- PCIE_LINK_RETURN (R128): the link is back, and writes held during the loss are sent. -/
def execPcieLinkReturn (width speed : Nat) (s : State) : Result :=
  if s.host.perst then .next s
  else
    let s := { s with host := { s.host with linkUp := true, width := width, speed := speed } }
    .next s.sendHeld.hostBack

/-- D3HOT_ENTRY (R94): nothing is fetched or written for the host until the return to D0; work already fetched runs on. -/
def execD3hotEntry (s : State) : Result :=
  .next (if s.pwr.state = .midnight then s else { s with host := { s.host with d3hot := true } })

/-- D0_RETURN (R94): completions that waited in the reserve are written. -/
def execD0Return (s : State) : Result := .next (({ s with host := { s.host with d3hot := false } }).hostBack)

/-! ### Ring registers (R119, R130, R131, Tables 4.14, 4.15) -/

/-- Whether the RWL registers of ring `c` may be written (R131). -/
def State.ringIdle (s : State) (c : Nat) : Bool := decide ((s.ring c).state = .closed) || decide ((s.ring c).state = .stopped)

/-- Whether a ring size lies in 4 to 12. -/
def sizeOk (n : Nat) : Bool := decide (4 ≤ n) && decide (n ≤ 12)

/-- A write of HUB_RING_CFG_c (R119, R130, R131, R569). -/
def State.writeRingCfg (c : Nat) (v : Word) (who : Reader) (s : State) : State :=
  let off := 0x1010 + 0x20 * c
  let old := s.reg off
  let v := v &&& 0x8FFFFF3F
  let r := s.ring c
  let was := bitAt old.toNat 31
  let now := bitAt v.toNat 31
  if !s.ringIdle c && decide ((old ^^^ v) &&& 0x0FFFFF3F ≠ 0) then s.locked off who
  else if now && !was then
    if (s.ctx c).state = .open_ ∧ r.state = .closed ∧ sizeOk (wfld v 24 4) ∧ sizeOk (wfld v 20 4) then
      (s.setReg off v).setRing c { Ring.reset with state := .active, lastCode := r.lastCode, headErr := r.headErr }
    else s.locked off who
  else if now then s.setReg off v
  else
    let s := s.setReg off v
    match r.state with
    | .active => (s.setRing c { r with state := .draining }).drained c
    | .stopped => s.setRing c { r with state := .closed }
    | _ => s

/-- RING_ENABLE (R130): a write of HUB_RING_CFG_c with ENABLE at 1. -/
def execRingEnable (c : CtxId) (v : Word) (s : State) : Result :=
  .next (s.onWrite (0x1010 + 0x20 * c.val) .host (State.writeRingCfg c.val (v ||| 0x80000000) .host))

/-- RING_DISABLE (R119, R130): a write of HUB_RING_CFG_c with ENABLE at 0. -/
def execRingDisable (c : CtxId) (v : Word) (s : State) : Result :=
  .next (s.onWrite (0x1010 + 0x20 * c.val) .host (State.writeRingCfg c.val (v &&& 0x7FFFFFFF) .host))

/-- A base or the event ring's configuration has been written (R130). -/
def State.noteWritten (s : State) (off : Nat) : State :=
  if s.host.written.contains off then s else { s with host := { s.host with written := s.host.written ++ [off] } }

/-- A write of HUB_EVQ_CFG (R110, R131, Table 4.14): setting ENABLE starts the first pass, with TAIL and the last EVQ_HEAD at 0 (DESIGN CHOICE: the spec
says only that the pass has PHASE 1, assumption 114). -/
def State.writeEvqCfg (v : Word) (who : Reader) (s : State) : State :=
  let old := s.reg 0x230
  let v := v &&& 0x8000000F
  let was := bitAt old.toNat 31
  if was && decide ((old ^^^ v) &&& 0xF ≠ 0) then s.locked 0x230 who
  else if bitAt v.toNat 31 && !was then
    if sizeOk (wfld v 0 4) then
      let s := (s.setReg 0x230 v).noteWritten 0x230
      ({ s with host := { s.host with evqTail := 0, evqHead := 0 } }).writeEvents 64
    else s.locked 0x230 who
  else (s.setReg 0x230 v).noteWritten 0x230

/-- EVQ_ENABLE (R110): a write of HUB_EVQ_CFG. -/
def execEvqEnable (v : Word) (s : State) : Result := .next (s.onWrite 0x230 .host (State.writeEvqCfg v .host))

end Sys2Proof.Machine
end

