-- ==== Sys2Proof/Machine/Context.lean ====
section
/-! DEFINITION. Machine/Context.lean: opening, closing and tearing down contexts (R133 to R140, R164). -/

namespace Sys2Proof.Machine

/-- The registers of Table 5.2 and VT of context `c` return to 0 (R135). -/
def State.clearCounters (s : State) (c : Nat) : State :=
  (List.range 9).foldl (fun s k => s.setReg (0x200C + 0x40 * c + 4 * k) 0) s

/-- Whether the ATP root of context `c` is valid in the sense of R135 (R175). -/
def State.rootValid (s : State) (c : Nat) : Bool := s.rbit (0x90104 + 8 * c) 31

/-- HUB_CTX_CMD_c.OPEN (R134, R135). -/
def State.openContext (c : Nat) (who : Reader) (s : State) : State :=
  if (s.ctx c).state = .free ∧ (s.ring c).state = .closed ∧ s.rootValid c then
    let others := ctxRange.filter (fun k => decide ((s.ctx k).state = .open_))
    let vt := minOr 0 (others.map s.vt)
    ((s.clearCounters c).setVt c vt).setCtx c { s.ctx c with state := .open_, gen := ((s.ctx c).gen + 1) % 65536 }
  else s.locked (0x2004 + 0x40 * c) who

/-- HUB_CTX_CMD_c.CLOSE (R136): from OPEN every lease still held is fenced, and no completion is written. -/
def State.closeContext (c : Nat) (who : Reader) (s : State) : State :=
  if (s.ring c).state ≠ .closed then s.locked (0x2004 + 0x40 * c) who
  else match (s.ctx c).state with
    | .open_ =>
      let s := (s.dropWork c).fenceContext c
      (s.setCtx c { s.ctx c with state := .free }).schedule none
    | .faulted => s.setCtx c { s.ctx c with state := .free }
    | _ => s.locked (0x2004 + 0x40 * c) who

/-- HUB_CTX_CMD_c.TEARDOWN (R137). -/
def State.tearDown (c : Nat) (who : Reader) (s : State) : State :=
  if (s.ctx c).state = .open_ then (s.contextFault c 0x4E 0 none false 0xFFFF).schedule none
  else s.locked (0x2004 + 0x40 * c) who

/-- CTX_OPEN (R135). -/
def execCtxOpen (c : CtxId) (s : State) : Result := .next (s.onWrite (0x2004 + 0x40 * c.val) .host (State.openContext c.val .host))

/-- CTX_CLOSE (R136). -/
def execCtxClose (c : CtxId) (s : State) : Result := .next (s.onWrite (0x2004 + 0x40 * c.val) .host (State.closeContext c.val .host))

/-- CTX_TEARDOWN (R137). -/
def execCtxTeardown (c : CtxId) (s : State) : Result := .next (s.onWrite (0x2004 + 0x40 * c.val) .host (State.tearDown c.val .host))

/-- TEARDOWN_DONE (R138 step 6): every write and host read of the context is acknowledged, and it enters FAULTED. Its part of rows 13, 25, 30 and 34 of
Table 17.4 has returned to default (R508; assumption 125). -/
def execTeardownDone (c : CtxId) (s : State) : Result :=
  let out := s.lnk.tags.any (fun t => (t.2.map (fun r => decide (r.ctx = c.val))).getD false)
  let waits := out || decide (0 < (s.ring c.val).fetching) || s.writesHeld c.val
  .next (if (s.ctx c.val).state = .teardown ∧ !waits then
      [13, 25, 30, 34].foldl State.lostBit (s.setCtx c.val { s.ctx c.val with state := .faulted })
    else s)

end Sys2Proof.Machine
end

