-- ==== Sys2Proof/Machine/Copy.lean ====
section
/-! DEFINITION. Machine/Copy.lean: NOP, COPY, FILL, SIGNAL and WAIT, and host reads that time out (R102, R103, R118, R123, R362). -/

namespace Sys2Proof.Machine

/-! ### Shared parts -/

/-- Why an address of context `c` in a remote window cannot be reached at a descriptor's start (R357, R364). -/
def State.noWayTo (s : State) (c va : Nat) : Option (Nat × Nat) := (s.windowOf c va).bind (fun w => s.noWay (s.winPeer c w))

/-- The path counts of moving `n` bytes to or from an address: PCI Express for a host address (R422). -/
def State.endCounts (s : State) (c va n : Nat) (host : Bool) : List Nat :=
  if host then [0, 0, 0, 0, n] else if (s.windowOf c va).isSome then [0, 0, 0, n, 0] else pathCounts (s.vaRange c va) none n

/-- The energy of moving bytes (R422). -/
def State.moveEnergy (s : State) (counts : List Nat) : Nat := s.energy { counts := [0, 0, 0, 0] ++ counts, ns := 0 }

/-- `n` free bytes (assumption 2). -/
def State.freeBytes (s : State) (n : Nat) : List Byte × State :=
  ((List.range n).map (fun i => BitVec.ofNat 8 (Config.freeNat (s.free + i))), { s with free := s.free + n })

/-- The longest readable part of a source, in pages, before its fault. -/
def State.readable (s : State) (c va n : Nat) : List Byte :=
  (pagePieces (n / 0x10000 + 2) va n).foldl (fun (a : List Byte × Bool) p =>
    if a.2 then a else match s.vread 0 c p.1 p.2 with
      | .ok bs => (a.1 ++ bs, false)
      | .error _ => (a.1, true)) ([], false) |>.1

/-- Bytes reach a destination of descriptor `d`: the host in one write, with Relaxed Ordering for the data of COPY and FILL (Table 4.1), or device
memory. -/
def State.putEnd (s : State) (c idx va : Nat) (host relaxed : Bool) (bs : List Byte) : State × Option XFault :=
  if host then (if bs.isEmpty then s else s.toHost (.hostWrite (s.pasid c) relaxed va bs), none) else s.outWrite 0 c idx va bs

/-- A transfer of `bs` to DST ends: OK with the bytes moved, charged; or the destination's fault. -/
def State.endMove (s : State) (c : Nat) (d : Desc) (va : Nat) (host : Bool) (bs : List Byte) (counts : List Nat) : State :=
  match s.putEnd c d.idx va host true bs with
  | (s, some f) => s.faultDesc c d.idx f
  | (s, none) =>
    let s := s.chargeDesc c d.idx (s.moveEnergy counts)
    match s.desc c d.idx with
    | some d => s.finishOk c d bs.length
    | none => s

/-! ### NOP -/

/-- NOP (R102): it completes at once, with a DETAIL the spec does not give. The row also takes a KIND that Table 4.4 does not list, which is
malformed. -/
def execNop (c : CtxId) (s : State) : Result :=
  match s.begin c.val (fun d => d.kind == kindNop || !allKinds.contains d.kind) noRoom noEst
      (fun d => rsvChecks d.words [(2, 0), (3, 0), (4, 0), (5, 0), (6, 0), (7, 0)]) with
  | .no s => .next s
  | .go d s =>
    let (k, s) := s.takeFree
    .next (s.finishOk c.val d (k % 2 ^ 64))

/-! ### COPY -/

/-- The conditions under which a COPY is malformed. -/
def copyChecks (d : Desc) : List (Bool × Nat) :=
  rsvChecks d.words [(5, 3), (6, 0), (7, 0)] ++
    [(decide (dword d.words 4 = 0) || decide (2 ^ 38 < dword d.words 4), 32), (dbit d.words 5 0 && dbit d.words 5 1, 40)]

/-- What a COPY moves over each path. -/
def State.copyCounts (s : State) (c : Nat) (d : Desc) : List Nat :=
  let n := dword d.words 4
  addLists (s.endCounts c (dword d.words 2) n (dbit d.words 5 0)) (s.endCounts c (dword d.words 3) n (dbit d.words 5 1))

/-- Whether source and destination of a COPY between device addresses overlap without being the same. -/
def copyOverlaps (d : Desc) : Bool :=
  let src := dword d.words 2
  let dst := dword d.words 3
  let n := dword d.words 4
  !dbit d.words 5 0 && !dbit d.words 5 1 && decide (src ≠ dst) && decide (src < dst + n) && decide (dst < src + n)

/-- The start and work of a COPY. Bytes of an overlapping COPY are free; a faulting source leaves a free part of what precedes it copied;
host data of another length than LENGTH leaves the state as it is; a source beyond 2^48 moves nothing (R190). -/
def copyStart (c : CtxId) (data : HostData) (s0 : State) : Result :=
  match s0.begin c.val (fun d => d.kind == kindCopy) noRoom (fun d => s0.moveEnergy (s0.copyCounts c.val d)) copyChecks with
  | .no s => .next s
  | .go d s =>
    let src := dword d.words 2
    let dst := dword d.words 3
    let n := dword d.words 4
    let toHost := dbit d.words 5 1
    let counts := s.copyCounts c.val d
    let fromHost := dbit d.words 5 0
    match (if fromHost then none else s.noWayTo c.val src) <|> (if toHost then none else s.noWayTo c.val dst) with
    | some (code, det) => .next (s.finishFail c.val d code det)
    | none =>
      if fromHost then
        let s := s.send (.hostRead (s.pasid c.val) src n)
        match data with
        | .failed a => .next ((s.contextFault c.val 0x42 a (some d.idx) false 0x201).schedule none)
        | .ok bs => if bs.length = n then .next (s.endMove c.val d dst toHost bs counts) else .next s0
      else match s.vread 0 c.val src n with
        | .ok bs =>
          if copyOverlaps d then
            let (bs, s) := s.freeBytes n
            .next (s.endMove c.val d dst toHost bs counts)
          else .next (s.endMove c.val d dst toHost bs counts)
        | .error f =>
          if f.reason = 99 then .next (s.faultDesc c.val d.idx f)
          else
            let part := if nonCanonical src n then [] else s.readable c.val src n
            let (k, s) := s.takeFree
            let (s, _) := s.putEnd c.val d.idx dst toHost true (part.take (k % (part.length + 1)))
            .next (s.faultDesc c.val d.idx f)

/-- COPY (R102, R103). -/
def execCopy (c : CtxId) (data : HostData) (s : State) : Result := s.starting c.val (copyStart c data)

/-! ### FILL -/

/-- The conditions under which a FILL is malformed. -/
def fillChecks (d : Desc) : List (Bool × Nat) :=
  rsvChecks d.words [(5, 2), (6, 0), (7, 0)] ++ [(decide (dword d.words 3 = 0) || decide (2 ^ 38 < dword d.words 3), 24)]

/-- `n` bytes of a repeated 8-byte pattern. -/
def repeated (pattern n : Nat) : List Byte := (List.range n).map (fun i => BitVec.ofNat 8 (pattern / 2 ^ (8 * (i % 8))))

/-- FILL (R102). -/
def execFill (c : CtxId) (s : State) : Result :=
  let counts := fun (s : State) (d : Desc) => s.endCounts c.val (dword d.words 2) (dword d.words 3) (dbit d.words 5 1)
  s.starting c.val (fun s =>
    match s.begin c.val (fun d => d.kind == kindFill) noRoom (fun d => s.moveEnergy (counts s d)) fillChecks with
    | .no s => .next s
    | .go d s =>
      match (if dbit d.words 5 1 then none else s.noWayTo c.val (dword d.words 2)) with
      | some (code, det) => .next (s.finishFail c.val d code det)
      | none => .next (s.endMove c.val d (dword d.words 2) (dbit d.words 5 1) (repeated (dword d.words 4) (dword d.words 3)) (counts s d)))

/-! ### SIGNAL -/

/-- The conditions under which a SIGNAL is malformed. -/
def signalChecks (d : Desc) : List (Bool × Nat) :=
  rsvChecks d.words [(4, 0), (5, 2), (6, 0), (7, 0)] ++ [(decide (dword d.words 2 % 8 ≠ 0), 16)]

/-- The INTERRUPT message that follows a SIGNAL's write into a window with NOTIFY (R362). -/
def State.notify (s : State) (c idx va value : Nat) : State :=
  let s := s.setLnk { s.lnk with who := some (c, idx, 99) }
  match s.reqFor c va 8 true (leBytes 8 value) with
  | some r =>
    let s := s.issueReq { r with notify := true }
    s.setLnk { s.lnk with who := none }
  | none => s

/-- SIGNAL (R102, R103, R362). -/
def execSignal (c : CtxId) (s : State) : Result :=
  let counts := fun (s : State) (d : Desc) => s.endCounts c.val (dword d.words 2) 8 (dbit d.words 5 1)
  s.starting c.val (fun s =>
    match s.begin c.val (fun d => d.kind == kindSignal) noRoom (fun d => s.moveEnergy (counts s d)) signalChecks with
    | .no s => .next s
    | .go d s =>
      let va := dword d.words 2
      let host := dbit d.words 5 1
      let w := if host then none else s.windowOf c.val va
      let rings := match w with
        | some w => s.rbit (winReg c.val w 0) 30
        | none => false
      match w.bind (fun w => s.noWay (s.winPeer c.val w)) with
      | some (code, det) => .next (s.finishFail c.val d code det)
      | none =>
        let route := (w.map (fun w => (s.winPeer c.val w).route)).getD 0
        if rings && decide (route ≠ 0) && !s.capable (5 + route) 1 then .next (s.finishFail c.val d 0x24 1)
        else match s.putEnd c.val d.idx va host false (leBytes 8 (dword d.words 3)) with
          | (s, some f) => .next (s.faultDesc c.val d.idx f)
          | (s, none) =>
            let s := s.chargeDesc c.val d.idx (s.moveEnergy (counts s d))
            let s := if rings then s.notify c.val d.idx va (dword d.words 3) else s
            match s.desc c.val d.idx with
            | some d => .next (s.finishOk c.val d 0)
            | none => .next s)

/-! ### WAIT -/

/-- The conditions under which a WAIT is malformed. -/
def waitChecks (d : Desc) : List (Bool × Nat) :=
  rsvChecks d.words [(4, 0xFFFF), (5, 0), (6, 0), (7, 0)] ++ [(decide (dword d.words 2 % 8 ≠ 0), 16)]

/-- A WAIT reads ADDR: it completes once the value there is large enough, and else keeps it as the last value read (R102, R118). -/
def State.waitRead (s : State) (c : Nat) (d : Desc) : State :=
  match s.vreadNat 0 c (dword d.words 2) 8 with
  | .error f => s.faultDesc c d.idx f
  | .ok v =>
    let s := s.chargeDesc c d.idx (s.moveEnergy (s.endCounts c (dword d.words 2) 8 false))
    match s.desc c d.idx with
    | none => s
    | some d => if dword d.words 3 ≤ v then s.finishOk c d v else s.setDesc c { d with cursor := v }

/-- WAIT. -/
def execWait (c : CtxId) (s : State) : Result :=
  s.starting c.val (fun s =>
    match s.begin c.val (fun d => d.kind == kindWait) noRoom (fun d => s.moveEnergy (s.endCounts c.val (dword d.words 2) 8 false)) waitChecks with
    | .no s => .next s
    | .go d s =>
      match s.noWayTo c.val (dword d.words 2) with
      | some (code, det) => .next (s.finishFail c.val d code det)
      | none => .next (s.waitRead c.val d))

/-- The WAIT of context `c` that waits. -/
def State.waiting (s : State) (c : Nat) : Option Desc := (s.ring c).window.find? (fun d => d.kind == kindWait && decide (d.phase = .running))

/-- WAIT_POLL (R103). -/
def execWaitPoll (c : CtxId) (s : State) : Result :=
  match s.waiting c.val with
  | none => .next s
  | some d => s.remotely c.val d.idx 99 (fun s => .next (s.waitRead c.val d))

/-- WAIT_TIMEOUT (Table 4.5): LIMIT Minutes have passed. -/
def execWaitTimeout (c : CtxId) (s : State) : Result :=
  match s.waiting c.val with
  | none => .next s
  | some d =>
    let lim := dfld d.words 4 0 16
    if lim ≠ 0 ∧ d.startMin + lim ≤ s.absMin then .next (s.finish c.val d 0x27 d.cursor) else .next s

/-! ### Host reads that time out (R121 to R123) -/

/-- How long a read of host memory may take, in ns: 2^RD_TIMEOUT ms, 7 acting as 6 (R123, Table 4.13). -/
def State.readTimeout (s : State) : Nat := 2 ^ min 6 (s.fld 0x200 4 3) * 1000000

/-- HOST_READ_TIMEOUT (R123): the time allowed since the read was issued is over (assumption 8), and it counts as an error of the read it is: a doorbell poll, a fetch, a head block (read again at the next poll of
it), or the data of a COPY or DAWN. -/
def execHostReadTimeout (r : HostRead) (s : State) : Result :=
  match r with
  | .doorbell b =>
    match s.host.dbOut.find? (fun x => decide (x.1 = b.val)) with
    | some x => .next ((s.reachClk (x.2 + s.readTimeout)).dbReturned b.val).doorbellFailed
    | none => .next s
  | .fetch c =>
    if (s.ring c.val).fetching = 0 then .next s
    else execDescriptorFetchDone c none (s.reachClk ((s.ring c.val).fetchAt + s.readTimeout))
  | .head => .next (s.reachClk (s.clk + s.readTimeout))
  | .data c idx addr =>
    let s := s.reachClk (s.clk + s.readTimeout)
    match s.nextDesc c.val with
    | none => .next s
    | some d =>
      if d.idx ≠ idx then .next s
      else if d.kind = kindCopy ∧ dbit d.words 5 0 then copyStart c (.failed addr) s
      else if d.kind = kindDawn ∧ dbit d.words 4 41 then dawnStart c (fun _ => true) (.failed addr) s
      else .next s

end Sys2Proof.Machine
end

