-- ==== Sys2Proof/Machine/Memory.lean ====
section
/-! DEFINITION. Machine/Memory.lean: page-table walks, roots, ATP_UPDATE, and memory errors (chapter 6). -/

namespace Sys2Proof.Machine

/-! ### Walks and roots (R171, R175, R177, R196) -/

/-- PAGE_WALK_DONE (R171, R177, R194): the walk is counted; a leaf is cached unless the context is being torn down, a fault is left to
the access that asked. -/
def execPageWalkDone (unit : Fin 5) (c : CtxId) (va : Nat) (s : State) : Result :=
  let s := s.bump 0x9001C 32 1
  if (s.ctx c.val).state = .teardown then .next s
  else match s.walk unit.val c.val va .write with
    | .error _ => .next s
    | .ok (e, level) =>
      let l : CacheLine := { cache := unit.val, ctx := c.val, gen := (s.ctx c.val).gen, page := va / 0x10000, entry := e, level := level }
      let size := if unit.val = 0 then 2048 else 1024
      let same := fun (x : CacheLine) => x.cache = l.cache && x.ctx = l.ctx && (x.covers va || l.covers (x.page * 0x10000))
      let mine := s.atp.cache.filter (fun x => decide (x.cache = unit.val) && !same x)
      let rest := s.atp.cache.filter (fun x => decide (x.cache ≠ unit.val))
      .next { s with atp := { s.atp with cache := l :: mine.take (size - 1) ++ rest } }

/-- A write of ATP_ROOT_LO_c or ATP_ROOT_HI_c (R175): writable while the context is FREE; a write of VALID checks the root and fills its
table with zeros; a change of address clears VALID. -/
def State.writeRoot (c : Nat) (hi : Bool) (v : Word) (who : Reader) (s : State) : State :=
  let lo := 0x90100 + 8 * c
  let oh := 0x90104 + 8 * c
  let off := if hi then oh else lo
  let old := s.reg off
  let v := if hi then v &&& 0x800000FF else v &&& 0xFFFFF000
  if (s.ctx c).state ≠ .free then (if old = v then s else s.locked off who)
  else if hi then
    let same := decide (wfld old 0 8 = wfld v 0 8)
    if !bitAt v.toNat 31 then s.setReg oh v
    else if bitAt old.toNat 31 && same then s
    else
      let t := s.fld lo 12 20 * 0x1000 + wfld v 0 8 * 0x100000000
      if s.targetOk t 0x1000 then (s.zeroFill t 0x1000).setReg oh v else s.locked oh who
  else if old = v then s
  else (s.setReg lo v).setFld oh 31 1 0

/-- ATP_ROOT_WRITE (R175). -/
def execAtpRootWrite (c : CtxId) (hi : Bool) (v : Word) (who : Reader) (s : State) : Result :=
  .next (s.onWrite (if hi then 0x90104 + 8 * c.val else 0x90100 + 8 * c.val) who (State.writeRoot c.val hi v who))

/-! ### ATP_UPDATE (R178, R179, R180) -/

/-- The shadow's value of the entry at a physical address. -/
def Bracket.pte (b : Bracket) (pa : Nat) : Option Nat := (b.ptes.find? (fun p => decide (p.addr = pa))).map (fun p => p.new_)

/-- How an ATP_UPDATE of context `c` reads an entry: from memory, or inside a bracket as the shadow has it. -/
def State.pteReader (s : State) (c : Nat) (pa : Nat) : Except Nat Nat :=
  match (if s.inBracket c then s.flt.bracket.bind (fun b => b.pte pa) else none) with
  | some e => .ok e
  | none => s.walkRead 0 .read pa

/-- The physical address of the entry at LEVEL for a virtual address, walking from the table at `t`; a fault of Table 6.8 (the reason, the
level, the unit), or none when the walk meets an entry of zeros or a well-formed leaf above LEVEL (R172, R179). -/
def State.entryAddr (s : State) (c va target : Nat) : Nat → Nat → Except (Nat × Nat × Nat) (Option Nat)
  | level, t =>
    let pa := t + 8 * levelIndex va level
    if level ≤ target then .ok (some pa)
    else match s.pteReader c pa with
      | .error u => .error (10, level, u)
      | .ok e =>
        if e = 0 then .ok none
        else match s.pteFault e level with
          | some r => if r = 9 && bitAt e 1 then .ok none else .error (r, level, 0)
          | none =>
            if bitAt e 1 then .ok none
            else match level with
              | 0 => .ok none
              | l + 1 => s.entryAddr c va target l (pteAddr e)

/-- Whether the walk of an ATP_UPDATE meets an entry of zeros or a leaf above LEVEL, which makes it malformed (R179). -/
def State.walkStops (s : State) (c : Nat) (ws : List DWord) : Bool :=
  match s.rootOf c (dword ws 2) with
  | .ok t => decide (s.entryAddr c (dword ws 2) (dfld ws 4 0 2) 3 t = .ok none)
  | .error _ => false

/-- Whether the walk of an ATP_UPDATE, or its write, waits for a bridge (R82, R194). -/
def State.updateWaits (s : State) (c : Nat) (ws : List DWord) : Bool :=
  match s.rootOf c (dword ws 2) with
  | .error _ => false
  | .ok t => match s.entryAddr c (dword ws 2) (dfld ws 4 0 2) 3 t with
    | .error x => x.2.2 == walkWaits
    | .ok none => false
    | .ok (some pa) => (s.heldAt 0 pa).isSome

/-- The conditions under which an ATP_UPDATE is malformed (Table 6.3, R179). -/
def updateChecks (s : State) (c : Nat) (ws : List DWord) : List (Bool × Nat) :=
  let va := dword ws 2
  let e := dword ws 3
  let level := dfld ws 4 0 2
  [ (s.walkStops c ws, 16),
    (decide (2 ^ 48 ≤ va) || decide (va % levelSpan level ≠ 0), 16),
    (decide (e ≠ 0) && !(bitAt e 0 && s.pteOk e level), 24),
    (dbit ws 4 2 && (!bitAt e 0 || bitAt e 1 || decide (level = 0)), 32) ] ++
  rsvChecks ws [(4, 7), (5, 0), (6, 0), (7, 0)]

/-- A fault of a walk as an access fault of context `c` at `va`. -/
def walkFault (va : Nat) (x : Nat × Nat × Nat) : XFault :=
  { code := reasonCode x.1, detail := if x.1 = 10 then 0x10000 + x.2.2 else va, reason := x.1, level := x.2.1, va := va, acc := .write, cache := 0 }

/-- The bank die of an address, 4 for the hub. -/
def bankOf (pa : Nat) : Nat := ((placeOf pa).bank).getD 4

/-- ATP_UPDATE (R178, R179, R180): the entry is written, and cached translations of the span it covers are discarded; in a bracket the
shadow takes it. DETAIL is the previous value. Its walk counts in ATP_WALK_CNT (R199). -/
def execAtpUpdate (c : CtxId) (s : State) : Result :=
  match s.begin c.val (fun d => d.kind == kindAtp) (fun d => !s.updateWaits c.val d.words) noEst (fun d => updateChecks s c.val d.words) with
  | .no s => .next s
  | .go d s =>
    let ws := d.words
    let va := dword ws 2
    let e := dword ws 3
    let level := dfld ws 4 0 2
    match s.rootOf c.val va with
    | .error x => .next (s.faultDesc c.val d.idx (walkFault va x))
    | .ok t =>
      let s := s.bump 0x9001C 32 1
      match s.entryAddr c.val va level 3 t with
      | .error x => .next (s.faultDesc c.val d.idx (walkFault va x))
      | .ok none => .next (s.finishFail c.val d 0x10 16)
      | .ok (some pa) =>
        match s.pteReader c.val pa with
        | .error u => .next (s.faultDesc c.val d.idx (walkFault va (10, level, u)))
        | .ok old =>
          let full := s.inBracket c.val && (s.flt.bracket.map (fun b => decide (256 ≤ (b.ptes.filter (fun x => decide (x.addr ≠ pa))).length))).getD false
          let s := if dbit ws 4 2 && !full then s.zeroFill (pteAddr e) (targetSize level false) else s
          if full then .next (s.bracketFail c.val d 7 0 0)
          else if s.inBracket c.val then
            match s.flt.bracket with
            | some b =>
              let p : ShadowPte := { addr := pa, new_ := e, old := old, bank := bankOf pa, va := va, span := levelSpan level }
              let b := { b with ptes := b.ptes.filter (fun x => decide (x.addr ≠ pa)) ++ [p] }
              .next (({ s with flt := { s.flt with bracket := some b } }).applied c.val d old)
            | none => .next s
          else
            let s := (s.pwrite pa (leBytes 8 e)).discardCached c.val va (levelSpan level)
            .next (s.finishOk c.val d old)

/-! ### Memory errors (R168, R197, R487, R578) -/

/-- MEMORY_CE (R168, R487): the error is corrected, written back and counted, per memory and per row. -/
def execMemoryCe (pa loc row : Nat) (s : State) : Result :=
  let u := memUnit pa
  if 12 < u then .next s
  else
    let s := { s with mgt := { s.mgt with ceTotal := tabSet (fun _ => 0) s.mgt.ceTotal u (satAdd 0xFFFF (tabGet (fun _ => 0) s.mgt.ceTotal u) 1) } }
    .next ((s.bump (0x90020 + 4 * u) 32 1).countRow u pa loc row)

/-- MEMORY_UE (R197, R487, R578): the error is counted; in the hub scratchpad it is package-class (CODE and DETAIL of its record
are free values), elsewhere the sector is poisoned and the
context that read it takes ENGINE_FAULT. -/
def execMemoryUe (pa loc row : Nat) (reader : Option (CtxId × Nat)) (s : State) : Result :=
  let u := memUnit pa
  if 12 < u then .next s
  else
    let s := (s.bump (0x90060 + 4 * u) 32 1).rowWorn (if u < 8 then 6 else 7) pa loc row
    if u = 12 then
      let (code, s) := s.takeFree
      let (detail, s) := s.takeFree
      .next (s.packageFault 10 (code % 2 ^ 16) (0x100 + u) (detail % 2 ^ 64) false)
    else
      let s := s.setPoison (pa / 32) true
      .next (match reader with
        | some (c, idx) => (s.contextFault c.val 0x45 (0x10000 + u) (some idx) false (0x100 + u)).schedule none
        | none => s)

end Sys2Proof.Machine
end

