-- ==== Sys2Proof/Machine/Reset.lean ====
section
/-! DEFINITION. Machine/Reset.lean: cold starts, host resets, package warm resets and Midnight (R128, R129, R436, R440, R502 to R519, R543 to R546,
R561), with the rows of Table 17.4 that each returns to default. -/

namespace Sys2Proof.Machine

/-! ### What resets share -/

/-- An event of Table 17.1 is recorded (R519). -/
def State.noteReset (s : State) (kind : Nat) : State :=
  { s with boot := { s.boot with prev := s.boot.last, last := kind, count := satAdd 0xFFFF s.boot.count 1 } }

/-- Rows of Table 17.4 that a host reset returns to default (column HR). -/
def hostResetRows : List Nat := [3, 4, 5, 7, 8, 9, 10, 12, 13, 15, 16, 17, 18, 21, 23, 25, 26, 27, 30, 31, 34, 36, 37]

/-- Rows that a warm reset returns to default (column WR, code D). -/
def warmResetRows : List Nat := [1, 2, 5, 8, 13, 25, 30, 34]

/-- Rows that Midnight returns to default (column MN). -/
def midnightRows : List Nat := List.range 35 ++ [36, 37, 38]

/-- Every ballast burst stops (R428). -/
def State.cutAllBallast (s : State) : State := s.pwr.ballast.foldl (fun s e => s.cutBallast e.1) s

/-- Completions, events and reads of the host that wait or are outstanding are discarded (Table 4.11). -/
def State.dropHost (s : State) : State :=
  { s with held := [], host := { s.host with evq := [], dbOut := [], dbFails := 0, wakePoll := [], nextPoll := 0, headPoll := 0 } }

/-- A pending Dusk or Night entry is cancelled, an exit under way and the work held for it are given up. -/
def State.calmPower (s : State) : State :=
  { s with pwr := { s.pwr with pendingReq := 0, exiting := false, wakeWork := [], idleSince := none } }

/-- Offers of other packages that wait are withdrawn (Table 11.4). -/
def State.dropOffers (s : State) : State := s.setCmb { s.cmb with offers := [] }

/-- The physical address in a root register. -/
def State.rootBase (s : State) (c : Nat) : Nat := s.fld (0x90100 + 8 * c) 12 20 * 4096 + s.fld (0x90104 + 8 * c) 0 8 * 2 ^ 32

/-! ### Cold start (R502, R503, R514, R561) -/

/-- A cold start begins: boot stage 0 with everything at its value after cold start; what the flash and the fuses hold stays. -/
def State.coldStart (s : State) (kind : Nat) : State :=
  let r := State.reset
  let rep := { RepairUnit.reset with copyA := s.rep.copyA, copyB := s.rep.copyB }
  let boot := { Boot.reset with last := kind, rstN := s.boot.rstN, powered := s.boot.powered, sstatTerm := s.boot.sstatTerm, testMode := s.boot.testMode }
  let day := { DayUnit.reset with dayStart := s.clk, acquireStart := s.clk }
  { r with pending := s.pending, clk := s.clk, free := s.free, sent := s.sent, rep := rep, flt := { FltUnit.reset with retained := s.flt.retained },
           boot := boot, day := day, mgt := { MgtUnit.reset with addr := s.mgt.addr }, host := { HostIf.reset with perst := s.host.perst },
           test := s.test }

/-- The straps are sampled (R520, R561): MGT_ADDR_0 in bit 0, MGT_ADDR_1 in bit 1, SSTAT_TERM in bit 2, TEST_MODE in bit 3. -/
def State.sampleStraps (s : State) (straps : Nat) : State :=
  { s with mgt := { s.mgt with addr := 0x58 + straps % 4 }, boot := { s.boot with sstatTerm := bitAt straps 2, testMode := bitAt straps 3 } }

/-- POWER_ON (R544): with PKG_RST_N low the cold start waits for it. -/
def execPowerOn (straps : Nat) (s : State) : Result :=
  let s := { s with boot := { s.boot with powered := true } }
  .next (if s.boot.rstN then (s.sampleStraps straps).coldStart 1 else { s with boot := { s.boot with fresh := true } })

/-- The whole package is held in reset (R544). -/
def State.holdReset (s : State) : State :=
  let s := { s with boot := { s.boot with rstN := false } }
  let s' := s.coldStart 2
  { s' with boot := { s'.boot with fresh := s.boot.fresh } }

/-- PKG_RST_N_ASSERT (R502): a pulse shorter than 1 us is ignored, one of 10 us or more holds the package in reset, and one between may or may not
(a free choice: assumption 2). -/
def execPkgRstNAssert (ns : Nat) (s : State) : Result :=
  if ns < 1000 then .next s
  else if 10000 ≤ ns then .next s.holdReset
  else
    let (k, s) := s.takeFree
    .next (if k % 2 = 0 then s else s.holdReset)

/-- PKG_RST_N_RELEASE (R544, R559, R561): the straps are sampled and boot starts; a test instruction that drives pins acts as BYPASS from now on. -/
def execPkgRstNRelease (straps : Nat) (s : State) : Result :=
  if s.boot.rstN then .next s
  else
    let s := { s with boot := { s.boot with rstN := true }, test := { s.test with parked := true } }
    .next (if s.boot.powered then (s.sampleStraps straps).coldStart (if s.boot.fresh then 1 else 2) else s)

/-- The management cold start begins (R528). -/
def execColdStartDelay (t : Nat) (s : State) : Result :=
  let s := s.reachClk t
  .next (match s.boot.coldAt with
    | some t0 => if t0 ≤ s.clk then s.coldStart 3 else s
    | none => s)

/-- SUPPLY_BROWNOUT (R546): VDD_AON resets the island, a bank die's supply loses the bank die, the hub's supplies act as a loss of the
reference. -/
def execSupplyBrownout (rail : Fin 20) (s : State) : Result :=
  let r := rail.val
  if r = 0 then
    let s := { s with boot := { s.boot with powered := false } }
    .next (s.coldStart 1)
  else if r < 4 then .next (s.loseReference 0x100)
  else
    let n := r % 4
    let mem := decide (8 ≤ r)
    let s := s.setBank n { s.bank n with pllLock := false }
    .next (match (s.bank n).phase with
      | .active => s.loseBank n mem
      | .retained => if mem then s.setBank n { s.bank n with memFault := true } else s
      | _ => s)

/-! ### Host reset (R128, R506, R509) -/

/-- A host reset begins (R506 steps 1 and 2): host traffic stops, and every context ends FREE without completions. -/
def State.startHostReset (s : State) (kind : Nat) : State :=
  let s := ((s.noteReset kind).closeContexts).closeRings false
  let s := ((s.dropHost.dropOffers).calmPower).cutAllBallast
  { s with host := { s.host with d3hot := false }, boot := { s.boot with hostReset := true, resetStart := s.clk } }

/-- PERST_ASSERT (R506). In Midnight nothing is left to reset. -/
def execPerstAssert (s : State) : Result :=
  let s := { s with host := { s.host with perst := true, linkUp := false } }
  .next (if s.pwr.state = .midnight then s else s.startHostReset 4)

/-- FUNCTION_LEVEL_RESET (R506): a Function Level Reset, or (`hot`) a hot reset or link disable, after which the link trains again. -/
def execFunctionLevelReset (hot : Bool) (s : State) : Result :=
  if s.pwr.state = .midnight ∨ !s.host.linkUp ∨ s.boot.stage < 2 then .next s
  else
    let s := s.startHostReset (if hot then 6 else 5)
    .next { s with host := { s.host with linkUp := s.host.linkUp && !hot } }

/-- PCIE_LINK_LOSS (R128): a loss of more than 10 ms acts as a host reset. -/
def execPcieLinkLoss (ns : Nat) (s : State) : Result :=
  let s := { s with host := { s.host with linkUp := false } }
  .next (if 10000000 < ns ∧ s.pwr.state ≠ .midnight ∧ !s.host.perst ∧ !s.boot.hostReset then s.startHostReset 7 else s)

/-- Settings after a host reset (column HR), the translations and the bindings. -/
def State.hostSettings (s : State) : State :=
  ((ctxRange.foldl State.loseRoot s).dropBindings.portDown.loseRows hostResetRows).emptyCaches

/-- The host reset is over: the event ring is empty, the ports that LNK_CFG enables enter DETECT, and READY returns when a warm reset that met this one
has ended, too (R515). -/
def State.hostResetOver (s : State) : State :=
  let host := { s.host with evqTail := 0, evqHead := 0, lost := 0, written := [] }
  let s := State.checkReady { s with boot := { s.boot with hostReset := false }, host := host }
  if 2 ≤ s.boot.stage then s.portsDetect else s

/-- HOST_RESET_DONE (R506 step 3, R509): the rows of column HR return to default, and their bits are set. Every root is cleared and flagged (R198), the
ingest port is DOWN (Table 7.8). Ports that LNK_CFG's default enables enter DETECT. -/
def execHostResetDone (s : State) : Result :=
  if !s.boot.hostReset || s.host.perst then .next s
  else .next s.hostSettings.hostResetOver

/-! ### Midnight (R436, R440) -/

/-- Midnight is entered (R436): nothing is awaited, every context is lost without completions, and every block outside the always-on island loses
power. The bank dies go off from BANK_3 to BANK_0 (R74), a FAILED one stays FAILED (R86), and a boot that has halted stays so (R71). -/
def State.enterMidnight (s : State) : State :=
  if s.pwr.state = .midnight then s
  else
    let s := (s.closeContexts.closeRings false).dropHost.portsLost
    let s := (s.loseRows midnightRows).flagRoots s
    let pwr := { PwrUnit.reset with state := .midnight, tripped := s.pwr.tripped, tripLow := s.pwr.tripLow, tempA := s.pwr.tempA, tempB := s.pwr.tempB }
    let host := { HostIf.reset with perst := s.host.perst, evSeq := s.host.evSeq, accepted := s.host.accepted }
    let boot := { s.boot with done := false, ready := false, stage := 0, hubLock := false,
                              backup := true, warm := false, warmWait := false, hostReset := false, midnightExit := false }
    let banks := [3, 2, 1, 0].foldl (fun t n =>
      tabSet (fun _ => Bank.reset) t n { Bank.reset with serial := (s.bank n).serial, memLost := (s.bank n).memLost,
                                                         phase := if (s.bank n).phase = .failed then .failed else .down }) []
    let ctxs := (s.ctxs.map (fun e => (e.1, { e.2 with gen := 0 }))).filter (fun e => decide (e.2 ≠ Ctx.reset))
    let maps := { UnitMaps.reset with engBad := s.maps.engBad, coreBad := s.maps.coreBad, sliceBad := s.maps.sliceBad }
    { s with pwr := pwr, host := host, boot := boot, banks := banks, maps := maps, mem := [], atp := AtpUnit.reset, ing := IngestUnit.reset,
             work := WorkUnit.reset, cmb := CombineUnit.reset, lnk := LinkUnit.reset, col := ColUnit.reset, ctxs := ctxs, rings := [],
             rep := { s.rep with step := none, phase := false, rowCe := [], unfence := [] }, day := { s.day with due := [] }, latchHost := [] }

/-- Whether Midnight may be left: after a thermal trip only below STOP_C (R440). -/
def State.mayLeaveMidnight (s : State) : Bool :=
  decide (s.pwr.state = .midnight) && (!s.pwr.tripped || decide (s.hot < s.stopC)) && s.boot.powered && s.boot.rstN

/-- Midnight is left (R432, R436): a bring-up from boot stage 0 without adoption, recorded as a Midnight exit. A package-class fault that only a cold
start recovers stays (R514), and THERM_TRIP_N is released (R557). -/
def State.exitMidnight (s : State) : State :=
  let s := s.noteReset 10
  let s := { s with pwr := { s.pwr with state := .noon, tripLow := false, exitAsked := false }, boot := { s.boot with midnightExit := true }, flt := { s.flt with pkgFault := s.flt.pkgCold } }
  (List.range 52).foldl (fun s v => s.setDp v (decide (v < 4) && decide ((s.bank v).phase = .failed))) s

/-- A trigger that leaves Midnight (Table 14.4); one that comes while it is too hot acts once it is not (R440; assumption 56). -/
def State.askExit (s : State) : State :=
  if s.pwr.state ≠ .midnight then s
  else if s.mayLeaveMidnight then s.exitMidnight
  else { s with pwr := { s.pwr with exitAsked := true } }

/-- PERST_DEASSERT (R432, R506 step 4): the link trains again; Midnight is left. -/
def execPerstDeassert (width speed : Nat) (s : State) : Result :=
  let s := { s with host := { s.host with perst := false, linkUp := true, width := width, speed := speed }, boot := { s.boot with resetStart := s.clk } }
  .next s.askExit

/-- A thermal trip (R440): THERM_TRIP_N is driven low (R557), a package-class fault with UNIT 0x0207, then Midnight. CODE and DETAIL of its record are free values. -/
def State.trip (s : State) : State :=
  if s.pwr.state = .midnight then s
  else
    let (code, s) := s.takeFree
    let (detail, s) := s.takeFree
    let s := { s with pwr := { s.pwr with tripped := true, tripLow := true } }
    (s.packageFault 14 (code % 2 ^ 16) 0x207 (detail % 2 ^ 64) false).enterMidnight

/-! ### Package warm reset (R507, R512, R515, R517) -/

/-- The Switch's buffers are emptied (R507 step 3). -/
def State.clearSwitch (s : State) : State :=
  let s := (List.range 8).foldl (fun s p =>
    let q := s.port p
    (q.queue.filter (fun f => decide (f.from_ < 8))).foldl (fun s f => s.giveCredit f.from_ f.cls (decide (hdrFld f.raw 79 1 = 1)))
      (s.setPort p { q with queue := [], open_ := [] })) s
  s.setLnk { s.lnk with hold := [], parked := [], collect := [] }

/-- Every Eriovan port retrains; one that a package-class fault took DOWN enters DETECT (R507 step 2). -/
def State.retrainAll (s : State) : State :=
  (List.range 8).foldl (fun s p => match (s.port p).state with
    | .up => s.askRetrain p
    | .failed => s.beginRetrain p
    | .down => s.detectPort p
    | _ => s) s

/-- Steps 1 to 3 of R507. -/
def State.warmSteps (s : State) : State :=
  let s := (s.closeContexts.closeRings true).dropHost.dropOffers.calmPower.cutAllBallast
  let s := s.retrainAll.clearSwitch
  ({ s with boot := { s.boot with warmWait := false }, rep := { s.rep with phase := false } }).goDown

/-- A warm reset is requested (R507): it runs once a bank reset under way has ended (R512). -/
def State.startWarm (s : State) (kind : Nat) : State :=
  let s := s.noteReset kind
  let busy := (List.range 4).any (fun n => decide ((s.bank n).phase = .resetting))
  let s := { s with boot := { s.boot with warm := true, ready := false, warmStart := s.clk, warmWait := true } }
  if busy then s else s.warmSteps

/-- A write of HUB_RESET_CMD (R507, R512). -/
def State.writeResetCmd (v : Word) (who : Reader) (s : State) : State :=
  if v.toNat % 2 ^ 16 ≠ 0x57A3 then s
  else if s.boot.ready && !s.boot.warm then s.startWarm 8
  else s.locked 0x508 who

/-- WARM_RESET (R507). -/
def execWarmReset (v : Word) (s : State) : Result := .next (s.onWrite 0x508 .host (State.writeResetCmd v .host))

/-- A bank die comes up again after a warm reset or Night (Table 3.9): its bridge trains, and step 7 runs. `warm` fills its scratchpad and carries out
QUEUED entries. A memory that lost its supply meanwhile is filled with zeros (R86, R546). -/
def State.bankReturns (s : State) (n : Nat) (u : BankUp) (warm : Bool) : State :=
  if (s.bank n).phase ≠ .retained then s
  else match (if u.code = 0 then s.bankTrains n u.wires u.fuse warm else none) with
    | some s =>
      let lost := (s.bank n).memFault
      let s := s.emptyCache (1 + n)
      let s := if warm then (s.zeroPad n).queuedRows (fun e => decide (e.kind = 7) && decide (e.loc / 4096 = 1 + n)) else s
      let s := if lost then
          (((s.zeroStacks n).lostBit 0).rootsLostOn n).setBank n { s.bank n with memLost := true, memFault := false }
        else s
      s.bankActive n u.badEngines u.badSfu warm
    | none => (if u.code = 0 then s.wiresOut n u.wires else s).bankFails n

/-- What each bank die gave comes into force, in order. -/
def State.banksReturn (s : State) (banks : List BankUp) (warm : Bool) : State :=
  banks.zipIdx.foldl (fun s x => if x.2 < 4 then s.bankReturns x.2 x.1 warm else s) s

/-- Settings after a warm reset (R507 step 5, column WR): rows marked D; POLL_EN, the event ring's ENABLE and every ring's ENABLE; roots that lie outside
the stacks. -/
def State.warmSettings (s : State) : State :=
  let s := s.loseRows warmResetRows
  let s := (((s.setFld 0x200 0 1 0).setFld 0x230 31 1 0).lostBit 3).lostBit 4
  let s := ctxRange.foldl (fun s c => s.setFld (0x1010 + 0x20 * c) 31 1 0) s
  ctxRange.foldl (fun s c => match rangeOf (s.rootBase c) with
    | some r => if r < 4 then s else (s.loseRoot c).lostBit 9
    | none => (s.loseRoot c).lostBit 9) s

/-- With no bank die up after a warm reset, boot halts (R517). -/
def State.warmHalt (s : State) (banks : List BankUp) : State :=
  match banks.zipIdx.filter (fun x => decide (x.1.code ≠ 0)) with
  | x :: _ =>
    let c := x.1.code
    s.haltBoot c x.2 (stageOf (if c = 6 then 2 else if c = 7 then 1 else if c = 8 then 5 else if c = 9 then 7 else 3))
  | [] => s.haltBoot 6 0 (stageOf 2)

/-- A port that was not DOWN looks for alignment again; one that Night took DOWN does once the package is back in Noon. -/
def State.warmIngest (s : State) : State := if s.ing.align = .down then s else s.resync

/-- A package-class fault that does not ask for a cold start is over. -/
def State.warmFault (s : State) : State := { s with flt := { s.flt with pkgFault := s.flt.pkgCold }, host := { s.host with dead := false } }

/-- A warm reset ends with a bank die up (R507 step 5, R515): settings are restored, WARM clears and READY returns, once a host reset under way has
ended, too. -/
def State.warmEnds (s : State) : State :=
  let s := ((s.warmSettings.emptyCaches.dropBindings.warmIngest.warmFault).setPower .noon).tryHunt.afternoon.elect
  (if s.boot.hostReset then s else s.checkReady).scheduleAll

/-- Hub blocks and bank dies are back at the end of a warm reset (R507 step 4). -/
def State.warmReturn (s : State) (banks : List BankUp) (badCores badSlices : List Nat) : State :=
  let s := ((s.takeBanksDown.deriveHub badCores badSlices).zeroHub).banksReturn banks true
  { s with boot := { s.boot with warm := false } }

/-- The warm reset is over, or halts with no bank die up (R517). -/
def State.warmOver (s : State) (banks : List BankUp) : State :=
  if (List.range 4).all (fun n => decide ((s.bank n).phase = .failed)) then s.warmHalt banks else s.warmEnds

/-- WARM_RESET_DONE (R507 steps 4 and 5, R517): bank dies and hub blocks are up again. -/
def execWarmResetDone (banks : List BankUp) (badCores badSlices : List Nat) (s : State) : Result :=
  if !s.boot.warm || (List.range 4).any (fun n => decide ((s.bank n).phase = .resetting)) || s.rep.step.isSome || decide (banks.length ≠ 4) then .next s
  else
    .next (((if s.boot.warmWait then s.warmSteps else s).warmReturn banks badCores badSlices).warmOver banks)

/-- RESET_TIMEOUT (R518): a reset that does not end within its limit is a package-class fault; it is given up. CODE and DETAIL are free values. -/
def execResetTimeout (t : Nat) (s : State) : Result :=
  let s := s.reachClk t
  if (s.boot.hostReset && !s.host.perst && decide (s.boot.resetStart + 1000000 ≤ s.clk)) ||
      (s.boot.warm && decide (s.boot.warmStart + 60000000 ≤ s.clk)) then
    let (code, s) := s.takeFree
    let (detail, s) := s.takeFree
    let s := { s with boot := { s.boot with hostReset := false, warm := false, warmWait := false } }
    .next (s.packageFault 1 (256 + code % 2 ^ 15) 0x201 (detail % 2 ^ 64) true)
  else .next s

end Sys2Proof.Machine
end

