-- ==== Sys2Proof/Machine/Repair.lean ====
section
/-! DEFINITION. Machine/Repair.lean: aging monitors, the repair phase of Night and the flash that holds the defect map (R484, R487 to R499). -/

namespace Sys2Proof.Machine

/-! ### Aging monitors (R487) -/

/-- AGE_PCT, 0 acting as 1. -/
def State.agePct (s : State) : Nat := max 1 (s.fld 0x418 24 5)

/-- The physical engine of BANK_b that fills no position. -/
def State.otherEngine (s : State) (b : Nat) : Nat :=
  ((List.range 5).find? (fun e => (List.range 4).all (fun p => decide (s.engineAt (4 * b + p) ≠ e)))).getD 4

/-- The physical control core that fills no position. -/
def State.otherCore (s : State) : Nat := ((List.range 5).find? (fun e => (List.range 4).all (fun k => decide (s.coreAt k ≠ e)))).getD 4

/-- A physical slice that fills no position. -/
def State.otherSlice (s : State) : Nat :=
  (s.spareSlice.orElse (fun _ => (List.range 10).find? (fun e => (List.range 8).all (fun n => decide (s.sliceAt n ≠ e))))).getD 8

/-- The delay monitor of physical engine `e` of BANK_b passed its threshold: an entry is queued for the position it fills, or a spare is marked
unhealthy. -/
def State.engineAged (s : State) (b e : Nat) : State :=
  match (List.range 4).find? (fun p => decide (s.engineAt (4 * b + p) = e)) with
  | some p => s.queueEntry (unitEntry 1 3 b p ((s.spareEngine b).getD (s.otherEngine b)))
  | none => s.markEngine (5 * b + e)

/-- The same of physical control core `e`. -/
def State.coreAged (s : State) (e : Nat) : State :=
  match (List.range 4).find? (fun k => decide (s.coreAt k = e)) with
  | some k => s.queueEntry (unitEntry 2 3 0 k (s.spareCore.getD s.otherCore))
  | none => s.markCore e

/-- The same of physical slice `e`. -/
def State.sliceAged (s : State) (e : Nat) : State :=
  match (List.range 8).find? (fun n => decide (s.sliceAt n = e)) with
  | some n => s.queueEntry (unitEntry 3 3 0 n s.otherSlice)
  | none => s.markSlice e

/-- AGING_MONITOR_SAMPLE (R487, Table 16.4). -/
def execAgingMonitorSample (kind : Fin 4) (unit value : Nat) (s : State) : Result :=
  .next (if !s.boot.done || decide (s.pwr.state = .midnight) then s
    else if kind.val = 3 then
      if unit < 64 ∧ 2 ^ 20 < value ∧ 3 ≤ (s.port (unit / 8)).rev then s.queueLane (unit / 8) (unit % 8) else s
    else if value < s.agePct then s
    else if kind.val = 0 then (if unit < 20 then s.engineAged (unit / 5) (unit % 5) else s)
    else if kind.val = 1 then (if unit < 5 then s.coreAged unit else s)
    else if unit < 10 then s.sliceAged unit else s)

/-! ### The repair phase (R489, R493, R495, R499) -/

/-- Whether the spare that an entry names is free and healthy. -/
def State.spareFree (s : State) (e : DEntry) : Bool :=
  let taken := fun (p : DEntry → Bool) => s.rep.entries.any (fun x => decide (x.kind = e.kind) && decide (x.state = deApplied) && p x)
  match e.kind with
  | 1 => !tabGet (fun _ => false) s.maps.engBad (5 * e.loc + e.spare) && (List.range 4).all (fun p => decide (s.engineAt (4 * e.loc + p) ≠ e.spare))
      && !taken (fun x => decide (x.loc = e.loc) && decide (x.spare = e.spare))
  | 2 => !tabGet (fun _ => false) s.maps.coreBad e.spare && (List.range 4).all (fun k => decide (s.coreAt k ≠ e.spare))
  | 3 => !tabGet (fun _ => false) s.maps.sliceBad e.spare && (List.range 8).all (fun n => decide (s.sliceAt n ≠ e.spare))
  | 4 => !taken (fun x => decide (x.loc = e.loc) && decide (x.target / 33 = e.target / 33))
  | 5 => !taken (fun x => decide (x.loc = e.loc)) && decide ((s.port e.loc).spared = 0xF)
  | _ => true

/-- The bank die on which an entry's repair step runs (R489 step 2). -/
def DEntry.bankDie (e : DEntry) : Option Nat :=
  match e.kind with
  | 1 => some e.loc
  | 4 => some (e.loc % 4)
  | 6 => some (e.loc / 2 ^ 14)
  | 7 => if 1 ≤ e.loc / 4096 ∧ e.loc / 4096 ≤ 4 then some (e.loc / 4096 - 1) else none
  | _ => none

/-- BANK_n is in the repair state (R489): up through steps 1 to 4 of Table 3.6, its stacks out of self-refresh for a PPR step only. -/
def State.bankRepairs (s : State) (n : Nat) (ppr : Bool) : State :=
  let b := s.bank n
  if b.phase = .retained then s.setBank n { b with inReset := false, pllLock := true, bridge := .up, selfRefresh := !ppr } else s

/-- A bank die in the repair state with no further entries is taken down again (R74, R489). -/
def State.restBank (s : State) (n : Nat) : State :=
  let b := s.bank n
  let more := s.rep.phase && s.rep.entries.any (fun e => decide (e.state = deQueued) && decide (e.bankDie = some n))
  if b.phase = .retained ∧ b.bridge = .up ∧ !more then
    s.setBank n { b.cleared with bridge := .down, inReset := true, selfRefresh := true, waiting := [] }
  else s

/-- The repair step of entry `i` begins; of a LANE entry its port is retrained with the lane treated as failed. -/
def State.beginStep (s : State) (i : Nat) (e : DEntry) : State :=
  let s := s.setRep { s.rep with step := some i, stepAt := s.clk }
  let s := match e.bankDie with
    | some n => s.bankRepairs n (decide (e.kind = 6))
    | none => s
  if e.kind = 5 ∧ (s.port e.loc).state = .up then
    (s.setPort e.loc { s.port e.loc with treatBad := e.target :: (s.port e.loc).treatBad }).askRetrain e.loc
  else s

/-- The repair phase goes on with the next QUEUED entry in the order of queuing; one whose spare is no longer free is FAILED (R493). With none left
the phase ends. -/
def State.repairNext (s : State) : State :=
  if !s.rep.phase ∨ s.rep.step.isSome then s
  else
    let s := (List.range s.rep.entries.length).foldl (fun s i => match s.dent i with
      | some e =>
        if s.rep.step.isSome ∨ e.state ≠ deQueued then s
        else if s.spareFree e then s.beginStep i e
        else s.moveEntry i deFailed
      | none => s) s
    if s.rep.step.isSome then s else s.setRep { s.rep with phase := false }

/-- A step that passed: what the entry's kind does at once, and what waits for the Night exit (R488, R489, R492). -/
def State.stepPassed (s : State) (i : Nat) (e : DEntry) : State :=
  let apply := fun (s : State) (u : Nat) => (s.moveEntry i deApplied).remapDone i e u
  match e.kind with
  | 1 => apply (s.markEngine (5 * e.loc + s.engineAt (4 * e.loc + e.target))) (8 + 4 * e.loc + e.target)
  | 2 =>
    let s := s.markCore (s.coreAt e.target)
    let s := s.setMaps { s.maps with cores := tabSet (fun i => i) s.maps.cores e.target e.spare }
    apply (s.setDp (28 + e.target) false) (28 + e.target)
  | 3 =>
    let s := if s.sliceAt e.target = 15 then s else s.markSlice (s.sliceAt e.target)
    let s := s.setMaps { s.maps with slices := tabSet (fun i => i) s.maps.slices e.target e.spare }
    apply (s.setDp (44 + e.target) false) (44 + e.target)
  | 4 => apply s (4 + e.loc % 4)
  | 7 =>
    let s := if e.loc / 4096 = 5 then s.setRep { s.rep with unfence := s.rep.unfence ++ [(e.loc, e.target)] } else s
    apply s (rowUnit e)
  | _ => apply s (rowUnit e)

/-- A step that did not pass: its entry is FAILED; the spare is unhealthy, or the stack has no repair row left (R493, R495, R499). -/
def State.stepFailed (s : State) (i : Nat) (e : DEntry) : State :=
  let s := s.moveEntry i deFailed
  match e.kind with
  | 1 => (s.markEngine (5 * e.loc + e.spare)).repairFlag 2 i 0
  | 2 => (s.markCore e.spare).repairFlag 2 i 0
  | 3 => (s.markSlice e.spare).repairFlag 2 i 0
  | 6 => s.repairFlag 3 i (e.pa % 2 ^ 40)
  | 7 => s.repairFlag 2 i (e.pa % 2 ^ 40)
  | _ => s.repairFlag 2 i 0

/-- The step under way is over: the next one begins, and bank dies without further entries are taken down. -/
def State.stepOver (s : State) : State :=
  (List.range 4).foldl State.restBank ((s.setRep { s.rep with step := none }).repairNext)

/-- REPAIR_STEP_DONE (R488, R489, R492, R499). A LANE step ends with its port's retrain, which carried the entry out or failed it. -/
def execRepairStepDone (ok : Bool) (s : State) : Result :=
  .next (match s.rep.step with
    | none => s
    | some i => match s.dent i with
      | none => s.stepOver
      | some e =>
        if e.kind = 5 then
          if (s.port e.loc).retraining then s
          else if e.state = deQueued then (s.stepFailed i e).stepOver else s.stepOver
        else if ok then (s.stepPassed i e).stepOver else (s.stepFailed i e).stepOver)

/-- The time limit of a step in ns (R489); none is given for WIRE. -/
def stepLimit (kind : Nat) : Option Nat :=
  match kind with
  | 1 => some 2000000
  | 5 => some 5000000
  | 6 => some 2000000000
  | 4 => none
  | _ => some 50000

/-- REPAIR_STEP_TIMEOUT (R495): the step is abandoned and its entry FAILED. -/
def execRepairStepTimeout (t : Nat) (s : State) : Result :=
  let s := s.reachClk t
  .next (match s.rep.step with
    | none => s
    | some i => match s.dent i, (s.dent i).bind (fun e => stepLimit e.kind) with
      | some e, some lim =>
        if s.rep.stepAt + lim < s.clk then
          let s := if e.state = deQueued then s.moveEntry i deFailed else s
          (s.repairFlag 2 i (if e.kind = 6 ∨ e.kind = 7 then e.pa % 2 ^ 40 else 0)).stepOver
        else s
      | _, _ => s)

/-- A write of HUB_REPAIR_CMD (R496): every QUEUED entry not yet begun is SUPERSEDED. -/
def State.writeRepairCmd (v : Word) (_who : Reader) (s : State) : State :=
  if bitAt v.toNat 0 then
    (List.range s.rep.entries.length).foldl (fun s i => match s.dent i with
      | some e => if e.state = deQueued ∧ s.rep.step ≠ some i then s.moveEntry i deSuperseded else s
      | none => s) s
  else s

/-- REPAIR_CANCEL (R496). -/
def execRepairCancel (s : State) : Result := .next (s.onWrite 0x41C .host (State.writeRepairCmd 1 .host))

/-- DMAP_FLASH_WRITE (R484, R498): the oldest change is appended to both copies, which are compacted first when they are full; once nothing waits,
both copies are whole. -/
def execDmapFlashWrite (s : State) : Result :=
  .next (match s.rep.dirty with
    | [] =>
      if s.rep.degraded then
        s.setRep { s.rep with degraded := false, copyA := indexed s.rep.entries, copyB := indexed s.rep.entries }
      else s
    | i :: rest =>
      if Config.flashFull s.rep.copyA.length then s.compactMap
      else
        let add := match s.dent i with
          | some e => [(i, e)]
          | none => []
        let r := s.rep
        s.setRep { r with dirty := rest, copyA := r.copyA ++ add, copyB := r.copyB ++ add })

end Sys2Proof.Machine
end

