-- ==== Sys2Proof/Machine/Power.lean ====
section
/-! DEFINITION. Machine/Power.lean: supply and temperature monitors, ride-through, Hour accounting, load steps and the power states (R419 to R443). -/

namespace Sys2Proof.Machine

/-- The state with chapter 14's state changed. -/
def State.setPwr (s : State) (p : PwrUnit) : State := { s with pwr := p }

/-! ### Sags and ride-through (R419, R420, R430, R431) -/

/-- Whether a sag indication is present: the flags of the last SSTAT frame while SSTAT is present and acted on, or a rail's sag (R430, R441). -/
def State.sagNow (s : State) : Bool :=
  (s.rbit 0xD0000 0 && s.pwr.sstatOk && decide (bitsOf s.pwr.sstat 0 3 ≠ 0)) || !s.pwr.sag.isEmpty

/-- Whether a severe sag is present (R430). -/
def State.severeNow (s : State) : Bool :=
  (s.rbit 0xD0000 0 && s.pwr.sstatOk && bitAt s.pwr.sstat 1) || s.pwr.sag.any (fun e => decide (2 ≤ e.2))

/-- The current Hour is computed again, once an Hour runs (R430, R431). -/
def State.reHour (s : State) : State :=
  if s.pwr.ledger.running then s.recompute s.pwr.ledger.allowance else s.afternoon

/-- Ride-through begins (R430, Table 14.5). -/
def State.startRide (s : State) : State :=
  let s := (s.setPwr { s.pwr with ride := true }).reHour
  ((s.bump 0x20190 32 1).flagOpen 0xD0014 1 14 noCtx).schedule none

/-- What follows a change of the sag indications; `was` says whether one was present before. The whole Minutes without one count from the next
Minute's start (R431). -/
def State.sagChange (s : State) (was : Bool) : State :=
  if s.sagNow then (if s.pwr.ride then s else s.startRide)
  else if was then s.setPwr { s.pwr with rideClearFrom := if s.tick = 0 then s.absMin else s.absMin + 1 }
  else s

/-- Whether a frame is valid: 8 bytes, SYNC and CRC right (R419). -/
def sstatValid (frame : List Byte) : Bool :=
  decide (frame.length = 8) && decide ((frame.headD 0).toNat = 0xA5) && decide (crc8 (frame.take 7) = (frame.getD 7 0).toNat)

/-- PWR_SSTAT as a valid frame gives it (Tables 14.1, 14.8). -/
def sstatWord (frame : List Byte) : Nat :=
  let b := fun i => (frame.getD i 0).toNat
  (b 2 * 256 + b 3) * 65536 + b 4 * 256 + b 1 % 8

/-- A valid SSTAT frame is taken (R419, R430, R442). -/
def State.takeSstat (s : State) (frame : List Byte) : State :=
  let was := s.sagNow
  let w := sstatWord frame
  let s := s.setPwr { s.pwr with sstat := w, sstatSeq := (frame.getD 5 0).toNat, sstatOk := true, sstatAt := s.clk }
  let s := if bitsOf w 12 4 < bitsOf w 8 4 then s.flagOpen 0xD0014 7 14 noCtx else s
  s.sagChange was

/-- SSTAT_FRAME_RX (R419, R430). -/
def execSstatFrameRx (frame : List Byte) (t : Nat) (s : State) : Result :=
  let s := s.reachClk t
  .next (if s.pwr.state = .midnight then s
    else if sstatValid frame then s.takeSstat frame
    else (s.bump 0x20194 32 1).flagOpen 0xD0014 4 14 noCtx)

/-- SSTAT_LOSS (R419, R441): no valid frame for 1 ms. -/
def execSstatLoss (t : Nat) (s : State) : Result :=
  let s := s.reachClk t
  .next (if s.pwr.state ≠ .midnight ∧ s.pwr.sstatOk ∧ s.pwr.sstatAt + 1000000 ≤ s.clk then
      let was := s.sagNow
      let s := s.setPwr { s.pwr with sstatOk := false }
      ((s.bump 0x20198 32 1).flagOpen 0xD0014 3 14 noCtx).sagChange was
    else s)

/-- The sag of a rail that stands at `mv` (R420): 0 none, 1 a sag, 2 severe; PERMIL below 10 acts as 10 (R437). -/
def State.sagOf (s : State) (nominal mv : Nat) : Nat :=
  let margin := max 10 (s.fld 0xD000C 0 8) * nominal
  let short := 1000 * (nominal - mv)
  if short ≤ margin then 0 else if 2 * margin ≤ short then 2 else 1

/-- Rail `m` reads `mv`, with what that means for sags (R420, R430, Table 14.8); an implausible reading means no sag (R443). -/
def State.railReads (s : State) (m nominal mv : Nat) (plausible : Bool) : State :=
  let was := s.sagNow
  let low := tabGet (fun _ => 0) s.pwr.railLow m
  let s := s.setPwr { s.pwr with
    railMv := tabSet (fun _ => 0) s.pwr.railMv m (mv % 65536)
    railLow := tabSet (fun _ => 0) s.pwr.railLow m (if low = 0 then mv % 65536 else min low (mv % 65536))
    sag := tabSet (fun _ => 0) s.pwr.sag m (if plausible then s.sagOf nominal mv else 0) }
  s.sagChange was

/-- RAIL_SAG (R420, R430). -/
def execRailSag (m : Fin 10) (nominal mv : Nat) (plausible : Bool) (s : State) : Result :=
  .next (if s.pwr.state = .midnight then s else s.railReads m.val nominal mv plausible)

/-- RAIL_SAG_END (R430). -/
def execRailSagEnd (m : Fin 10) (nominal mv : Nat) (plausible : Bool) (s : State) : Result :=
  .next (if s.pwr.state = .midnight then s else s.railReads m.val nominal mv plausible)

/-- RIDE_HOLD, 0 acting as 1. -/
def State.rideHold (s : State) : Nat := max 1 (s.fld 0xD0000 8 8)

/-- RIDE_THROUGH_END (R431, R441): no indication for RIDE_HOLD whole Minutes, and an accounting of the same Minute has run. -/
def execRideThroughEnd (s : State) : Result :=
  .next (if s.pwr.ride && !s.sagNow && decide (s.pwr.rideClearFrom + s.rideHold ≤ s.absMin) && !s.day.due.contains .hourAccounting then
      (s.setPwr { s.pwr with ride := false }).reHour.scheduleAll
    else s)

/-- A write of PWR_CFG: SSTAT_EN says whether the flags are acted on from now on. -/
def State.writePwrCfg (v : Word) (_who : Reader) (s : State) : State :=
  let was := s.sagNow
  (s.setReg 0xD0000 (v &&& 0xFFFFFF03)).sagChange was

/-! ### Hours and load steps (R424, R429) -/

/-- HOUR_ACCOUNTING (R424, R51): the Hour now beginning is accounted; the Hour under way after a Midnight exit only for what is left of it. -/
def execHourAccounting (m : Nat) (s : State) : Result :=
  .next (if s.turn .hourAccounting then
      let t := if s.pwr.ledger.running then s.hourTicks else s.hourEnd - s.clk
      ((s.account m t).fired .hourAccounting).strobeDecision
    else s)

/-- The stamp in LDG_STEP_AT_i. -/
def State.stepStamp (s : State) (i : Nat) : Nat := s.reg64 (0x200C0 + 0x10 * i)

/-- The armed entries change. -/
def State.setStep (s : State) (i : Nat) (x : Option (Nat × Bool)) : State :=
  s.setPwr { s.pwr with ledger := { s.pwr.ledger with steps := tabSet (fun _ => none) s.pwr.ledger.steps i x } }

/-- A write of LDG_STEP_VAL_i (R429, R569): arming converts the stamp under R43, and notes a Minute that has begun; a MINUTE above 1439 is not armed; an
armed entry's UJ is locked. -/
def State.writeStepVal (i : Nat) (v : Word) (who : Reader) (s : State) : State :=
  let off := 0x200C8 + 0x10 * i
  let v := v &&& 0x80FFFFFF
  let was := s.rbit off 31
  if was && decide (wfld v 0 24 ≠ s.fld off 0 24) then s.locked off who
  else if bitAt v.toNat 31 then
    if was then s
    else if 1439 < bitsOf (s.stepStamp i) 48 11 then s.locked off who
    else
      let m := stampMin s.day.hourOfs (s.stepStamp i)
      (s.setReg off v).setStep i (some (m, decide (m ≤ s.absMin)))
  else (s.setReg off v).setStep i none

/-- LOAD_STEP_ARM (R429). -/
def execLoadStepArm (i : Fin 4) (v : Word) (who : Reader) (s : State) : Result :=
  .next (s.onWrite (0x200C8 + 0x10 * i.val) who (State.writeStepVal i.val v who))

/-- An armed entry acts (R429). -/
def State.actStep (s : State) (i : Nat) (late : Bool) : State :=
  let off := 0x200C8 + 0x10 * i
  let uj := s.fld off 0 24
  let s := ((s.setFld 0x20004 0 24 uj).setFld off 31 1 0).setStep i none
  let s := if s.pwr.ledger.running then s.recompute uj else s
  let s := s.flagOpen 0x2002C 2 3 noCtx
  if late then s.flagOpen 0x2002C 3 3 noCtx else s

/-- LOAD_STEP (R429, R51). -/
def execLoadStep (i : Fin 4) (s : State) : Result :=
  .next (if s.turn (.loadStep i.val) then
      match tabGet (fun _ => none) s.pwr.ledger.steps i.val with
      | some (_, late) => ((s.actStep i.val late).fired (.loadStep i.val)).strobeDecision
      | none => s.fired (.loadStep i.val)
    else s)

/-! ### Temperatures (R421, R440, R443) -/

/-- The sensors of die `d` read these. -/
def State.setTemps (s : State) (d a b : Nat) : State :=
  s.setPwr { s.pwr with tempA := tabSet (fun _ => 0) s.pwr.tempA d a, tempB := tabSet (fun _ => 0) s.pwr.tempB d b }

/-- PEAK_C of die `d` takes a valid reading (Table 14.8). -/
def State.notePeak (s : State) (d r : Nat) : State :=
  if sensorValid r then
    s.setPwr { s.pwr with peak := tabSet (fun _ => 0) s.pwr.peak d (max r (tabGet (fun _ => 0) s.pwr.peak d)) }
  else s

/-- Whether a valid sensor trips (R440). -/
def sensorTrips (r : Nat) : Bool := sensorValid r && decide (115 ≤ r)

/-- Whether a die's two readings are a sensor fault (R443, Table 14.5). -/
def sensorsBad (a b : Nat) : Bool := !sensorValid a || !sensorValid b || decide (a + 8 < b) || decide (b + 8 < a)

/-- What a sample means outside Midnight (R421, R442, R443): sensor faults, the heat percentage and the admission of work. -/
def State.sampled (s : State) (d a b before : Nat) : State :=
  let s := (s.notePeak d a).notePeak d b
  let s := if sensorsBad a b then s.flagOpen 0xD0014 5 14 noCtx else s
  let s := if before = 100 ∧ s.heatPct < 100 then s.flagOpen 0xD0014 2 14 noCtx else s
  s.afternoon.schedule none

/-- TEMPERATURE_SAMPLE (R421, R440, R443). In Midnight it can let an exit asked for begin. -/
def execTemperatureSample (d : Fin 5) (a b : Nat) (s : State) : Result :=
  let a := a % 256
  let b := b % 256
  let before := s.heatPct
  let s := s.setTemps d.val a b
  .next (if s.pwr.state = .midnight then (if s.pwr.exitAsked then s.askExit else s)
    else if sensorTrips a || sensorTrips b then ((s.notePeak d.val a).notePeak d.val b).trip
    else s.sampled d.val a b before)

/-- THERMAL_TRIP (R440): a sensor reads 115 degrees or more. -/
def execThermalTrip (d : Fin 5) (b : Bool) (c : Nat) (s : State) : Result :=
  if sensorTrips (c % 256) then
    let old := fun t => tabGet (fun _ => 0) t d.val
    .next (s.setTemps d.val (if b then old s.pwr.tempA else c % 256) (if b then c % 256 else old s.pwr.tempB)).trip
  else .next s

/-! ### Requests (R432 to R436, R441) -/

/-- The collectives that started while Night was pending are announced now, in the order they started (R435). -/
def State.announceLate (s : State) : State :=
  let l := s.col.colls.filter (fun x => x.untold)
  let s := s.setCol { s.col with colls := s.col.colls.map (fun x => { x with untold := false }) }
  l.foldl State.announce s

/-- Issue, announcements, fetches and grants go on after a pending Night was cancelled or a state was left. -/
def State.goOn (s : State) : State := (s.announceLate.matchOffers.fetchAll).scheduleAll

/-- REQ = NOON (R433, R434, R441): a pending entry is cancelled; Dusk or Night is left. -/
def State.requestNoon (s : State) : State :=
  ((s.setPwr { s.pwr with pendingReq := 0 }).beginExit).goOn

/-- REQ = DUSK (R433): entered at once, or pending until the conditions hold; a pending Night or the states below Noon ignore it. -/
def State.requestDusk (s : State) : State :=
  if (s.asleep && !s.pwr.exiting) || decide (s.pwr.state = .midnight) || decide (s.pwr.pendingReq = 3) then s
  else if s.awake && s.boot.done && s.duskIdle then s.enterDusk
  else s.setPwr { s.pwr with pendingReq := 2 }

/-- REQ = NIGHT (R435, R441): Night is pending, and nothing new is issued. -/
def State.requestNight (s : State) : State :=
  if s.pwr.state = .midnight ∨ (s.pwr.state = .night ∧ !s.pwr.exiting) ∨ s.pwr.pendingReq = 3 then s
  else s.setPwr { s.pwr with pendingReq := 3, idleSince := none }

/-- A write of PWR_CMD (Table 14.8): other values of REQ are ignored. -/
def State.writePwrCmd (v : Word) (_who : Reader) (s : State) : State :=
  match v.toNat % 8 with
  | 1 => s.requestNoon
  | 2 => s.requestDusk
  | 3 => s.requestNight
  | 4 => s.enterMidnight
  | _ => s

/-- POWER_REQ_NOON (R434). -/
def execPowerReqNoon (s : State) : Result := .next (s.onWrite 0xD0004 .host (State.writePwrCmd 1 .host))

/-- POWER_REQ_DUSK (R433). -/
def execPowerReqDusk (s : State) : Result := .next (s.onWrite 0xD0004 .host (State.writePwrCmd 2 .host))

/-- POWER_REQ_NIGHT (R435). -/
def execPowerReqNight (s : State) : Result := .next (s.onWrite 0xD0004 .host (State.writePwrCmd 3 .host))

/-- POWER_REQ_MIDNIGHT (R436). -/
def execPowerReqMidnight (s : State) : Result := .next (s.onWrite 0xD0004 .host (State.writePwrCmd 4 .host))

/-! ### Dusk and Night (R433 to R435, R489) -/

/-- Whether the idle conditions have held for DUSK_MIN whole Minutes (R433). -/
def State.duskDue (s : State) : Bool :=
  let n := s.fld 0xD0000 24 8
  decide (n ≠ 0) && (match s.pwr.idleSince with
    | some m => decide (m + n + 1 ≤ s.absMin)
    | none => false)

/-- DUSK_ENTRY (R433). -/
def execDuskEntry (s : State) : Result :=
  .next (if s.awake && s.boot.done && !s.boot.warm && s.duskIdle && (s.duskDue || decide (s.pwr.pendingReq = 2)) then s.enterDusk else s)

/-- Noon is reached again (R432, R434): doorbells are polled and what was held back is served. -/
def State.backToNoon (s : State) : State :=
  let s := { s with pwr := { s.pwr with exiting := false, idleSince := none }, host := { s.host with nextPoll := s.clk } }
  ((s.setPower .noon).afternoon).goOn

/-- DUSK_EXIT_DONE (R432, R434): the bridges are UP again. -/
def execDuskExitDone (s : State) : Result :=
  .next (if s.pwr.exiting ∧ s.pwr.state = .dusk then
      ((List.range 4).foldl (fun s n => if (s.bank n).bridge = .idle then s.setBank n { s.bank n with bridge := .up } else s) s).backToNoon
    else s)

/-- NIGHT_AUTO (R435): NIGHT_HOURS whole Hours in Dusk, or one with a remap queued. -/
def execNightAuto (s : State) : Result :=
  let n := s.fld 0xD0000 16 8
  let after := fun h => decide (s.pwr.duskSince + 60 * h ≤ s.absMin)
  .next (if decide (s.pwr.state = .dusk) && !s.pwr.exiting &&
      ((decide (n ≠ 0) && after n) || (s.rbit 0xD0000 1 && decide (0 < s.queuedCount) && after 1)) then s.requestNight else s)

/-- Whether what Night waits for has ended (R435): running groups and ballast, collectives after GO, granted chunks, remote requests, and with
DOWN_EN the floor; every queue of a bridge and its unacknowledged frames (R74), and a bank reset under way. -/
def State.drainedForNight (s : State) : Bool :=
  s.work.positions.isEmpty && s.pwr.ballast.isEmpty && s.col.colls.all (fun x => decide (x.phase = .announced)) &&
    s.cmb.sends.all (fun w => decide (w.phase ≠ .granted) || (decide (w.credits = 0) && w.unacked.isEmpty && w.again.isEmpty)) &&
    s.cmb.recvs.all (fun r => r.slots.isEmpty) && s.lnk.tags.isEmpty && s.lnk.reqs.isEmpty && s.lnk.late.isEmpty && !s.floorAbove 60 &&
    (List.range 4).all (fun n => (s.bank n).quiet && decide ((s.bank n).phase ≠ .resetting))

/-- The ingest port is DOWN in Night; its lanes stay as they are (Table 7.8). -/
def State.ingestNight (s : State) : State :=
  let s := s.abandonFrame
  (((s.setIng { s.ing with verifiers := [], misses := 0 }).firstAgain).setAlign .down).endUnbinds

/-- Night is entered (R74, R435, R489, Table 3.9): the bank dies are down, their scratchpads and stacks kept, and the repair phase begins when an
entry is QUEUED. -/
def State.enterNight (s : State) : State :=
  let s := (List.range 4).foldl (fun s n => s.emptyCache (1 + n)) s.takeBanksDown
  let s := { s with pwr := { s.pwr with pendingReq := 0, idleSince := none, exiting := false } }
  let s := (s.setPower .night).ingestNight
  (s.setRep { s.rep with phase := true }).repairNext

/-- NIGHT_ENTRY (R435, R51): earlier events of the Minute come first. -/
def execNightEntry (s : State) : Result :=
  let first := s.day.due.all (fun d => match d with
    | .launch _ _ => true
    | _ => false)
  let from_ := s.awake || (decide (s.pwr.state = .dusk) && !s.pwr.exiting)
  .next (if decide (s.pwr.pendingReq = 3) && from_ && s.boot.done && !s.boot.warm && first && s.drainedForNight then s.enterNight else s)

/-- Slots whose rows were replaced in Night return to service (Table 16.5). -/
def State.unfenceRows (s : State) : State :=
  let s' := s.rep.unfence.foldl (fun s r => s.unfenceRow r.1 r.2) s
  s'.setRep { s'.rep with unfence := [] }

/-- NIGHT_EXIT_DONE (R434, R435, Table 3.9): the bank dies are up again, and the package is in Noon. -/
def execNightExitDone (banks : List BankUp) (s : State) : Result :=
  .next (if decide (s.pwr.state = .night) && s.pwr.exiting && s.rep.step.isNone && decide (banks.length = 4) then
      ((s.banksReturn banks false).unfenceRows.backToNoon).tryHunt
    else s)

end Sys2Proof.Machine
end

