-- ==== Sys2Proof/Machine/Leases.lean ====
section
/-! DEFINITION. Machine/Leases.lean: LEASE descriptors, the commit of a bracket, reconcile, and the errors of the hub's own stores (R452 to R465,
R468, R474 to R478). -/

namespace Sys2Proof.Machine

/-! ### LEASE (R452 to R454) -/

/-- RESOURCE of a LEASE. -/
def leaseRes (d : Desc) : Nat := dfld d.words 2 0 16

/-- ACTION of a LEASE. -/
def leaseAction (d : Desc) : Nat := dfld d.words 2 16 2

/-- MINUTES of a LEASE, at most LEASE_MAX (R452, R473). -/
def State.leaseMinutes (s : State) (d : Desc) : Nat := min (dfld d.words 2 32 16) (max 1 (s.fld 0xE0000 0 16))

/-- The conditions under which a LEASE is malformed (R453). -/
def leaseChecks (s : State) (c : Nat) (d : Desc) : List (Bool × Nat) :=
  let res := leaseRes d
  let take := decide (leaseAction d = 0)
  [ (take && decide (d.epoch ≠ 0), 4),
    (decide (res < 0x100) || decide (0x10F < res) || decide (leaseAction d = 3) || (decide (leaseAction d < 2) && decide (dfld d.words 2 32 16 = 0)), 16),
    (take && (s.inBracket c || d.brOpen), 16),
    (take && decide ((s.lease res).holder = some (c, (s.ctx c).gen)), 16) ] ++
  rsvChecks d.words [(2, 0x0000FFFF0003FFFF), (3, 0), (4, 0), (5, 0), (6, 0), (7, 0)]

/-- LEASE_TAKE (R454): granted at once, or queued. -/
def execLeaseTake (c : CtxId) (s : State) : Result :=
  match s.begin c.val (fun d => d.kind == kindLease && (leaseAction d == 0 || leaseAction d == 3)) noRoom noEst (leaseChecks s c.val) with
  | .no s => .next s
  | .go d s =>
    let res := leaseRes d
    let n := s.leaseMinutes d
    let gen := (s.ctx c.val).gen
    if (s.lease res).holder.isNone then
      let s := s.grantLease res c.val gen n
      .next (s.finishOk c.val d (n * 2 ^ 32 + s.epoch res))
    else .next (s.setLease res { s.lease res with waiting := (s.lease res).waiting ++ [(c.val, gen, d.idx, n)] })

/-- Whether context `c` holds the lease that descriptor `d` names, under its epoch; a RELEASE earlier in its bracket counts (R454, R457). -/
def State.holdsLease (s : State) (c : Nat) (d : Desc) : Bool :=
  let res := leaseRes d
  let gone := s.inBracket c && (s.flt.bracket.map (fun b => b.renews.any (fun r => decide (r.1 = res) && decide (r.2.1 = 2)))).getD false
  decide ((s.lease res).holder = some (c, (s.ctx c).gen)) && decide (s.epoch res = d.epoch) && !gone

/-- Whole Minutes before a lease expires. -/
def State.minutesLeft (s : State) (res : Nat) : Nat := (s.lease res).expire - s.absMin - 1

/-- A RENEW acts: the expiry moves unless a TAKE waits (R454). -/
def State.renew (s : State) (res n : Nat) : State :=
  if (s.lease res).waiting.isEmpty then s.setLease res { s.lease res with expire := s.absMin + n + 1 } else s

/-- A RELEASE acts: the resource is free, and the first waiting TAKE is granted (R454). -/
def State.release (s : State) (res : Nat) : State :=
  (s.setLease res { s.lease res with holder := none, expire := 0 }).grantNext res

/-- A RENEW or RELEASE that does not hold its lease (R450, R454). -/
def State.notHeld (s : State) (c : Nat) (d : Desc) : State :=
  if s.inBracket c then (s.bump 0xE0054 32 1).bracketFail c d 1 0x20 (leaseRes d) else s.staleUse c d (leaseRes d)

/-- A RENEW or RELEASE enters the shadow (R457). -/
def State.shadowLease (s : State) (d : Desc) : State :=
  match s.flt.bracket with
  | some b => { s with flt := { s.flt with bracket := some { b with renews := b.renews ++ [(leaseRes d, leaseAction d, s.leaseMinutes d, d.epoch)] } } }
  | none => s

/-- LEASE_RENEW (R454). The spec gives NOT_EXTENDED, the Minutes left and the epoch when the expiry is not moved; the rest of DETAIL is a free
value otherwise. -/
def execLeaseRenew (c : CtxId) (s : State) : Result :=
  match s.begin c.val (fun d => d.kind == kindLease && leaseAction d == 1) noRoom noEst (leaseChecks s c.val) with
  | .no s => .next s
  | .go d s =>
    let res := leaseRes d
    if !s.holdsLease c.val d then .next (s.notHeld c.val d)
    else if s.inBracket c.val then .next ((s.shadowLease d).applied c.val d 0)
    else if (s.lease res).waiting.isEmpty then
      let (k, s) := s.takeFree
      .next ((s.renew res (s.leaseMinutes d)).finishOk c.val d (putBits (k % 2 ^ 64) 48 1 0))
    else .next (s.finishOk c.val d (2 ^ 48 + s.minutesLeft res * 2 ^ 32 + s.epoch res))

/-- LEASE_RELEASE (R454). -/
def execLeaseRelease (c : CtxId) (s : State) : Result :=
  match s.begin c.val (fun d => d.kind == kindLease && leaseAction d == 2) noRoom noEst (leaseChecks s c.val) with
  | .no s => .next s
  | .go d s =>
    if !s.holdsLease c.val d then .next (s.notHeld c.val d)
    else if s.inBracket c.val then .next ((s.shadowLease d).applied c.val d 0)
    else .next ((s.release (leaseRes d)).finishOk c.val d 0)

/-- Whether the open bracket relies on a lease (Table 15.4 reason 4). -/
def Bracket.relies (b : Bracket) (res : Nat) : Bool :=
  b.sets.any (fun x => decide (resSet x.set = res)) || b.renews.any (fun r => decide (r.1 = res))

/-- An expiry takes effect (R450, R451, R454, R459, R477). The sequence lock does not expire once the commit has begun (R476). -/
def State.expireLease (s : State) (res : Nat) : State :=
  let counted := fun (s : State) (c : Nat) => (s.bump 0xE0050 32 1).flagOpen 0xE0008 2 15 c
  if res = resLock then
    match s.flt.bracket with
    | some b => if b.committing then s else (counted s b.ctx).rollbackFor (rollbackDetail 2 0 0)
    | none => s
  else
    let c := ((s.lease res).holder.map (fun h => h.1)).getD noCtx
    let hit := (s.flt.bracket.map (fun b => decide (b.ctx = c) && b.relies res)).getD false
    let s := (counted s c).fence res c
    if hit then s.rollbackFor (rollbackDetail 4 0x20 res) else s

/-- LEASE_EXPIRY (R451, R454, R51): in its turn among the events of the Minute. -/
def execLeaseExpiry (res : Nat) (s : State) : Result :=
  .next (if s.turn (.leaseExpiry res) then
      let due := (s.lease res).holder.isSome && decide ((s.lease res).expire ≤ s.absMin)
      (if due then s.expireLease res else s).fired (.leaseExpiry res)
    else s)

/-! ### The commit (R459) -/

/-- The handshake of the GROUP_FORM at `idx` has begun. -/
def Bracket.begin (b : Bracket) (idx : Nat) : Bracket :=
  { b with forms := b.forms.map (fun x => if x.idx = idx then { x with begun := true } else x) }

/-- The open bracket with the handshake at `idx` begun. -/
def State.noteBegun (s : State) (idx : Nat) : State :=
  match s.flt.bracket with
  | some b => { s with flt := { s.flt with bracket := some (b.begin idx) } }
  | none => s

/-- The handshakes of a bracket's GROUP_FORMs begin; one that is refused now rolls the bracket back with reason 3. -/
def State.beginForms (s : State) (b : Bracket) : State :=
  let step := fun (a : State × Option Nat) (f : BracketForm) =>
    match a.2 with
    | some _ => a
    | none =>
      if bitAt f.word2 63 then a
      else match a.1.formReason f.slot f.word2 with
        | some r => ((a.1.setGroup f.slot { a.1.group f.slot with reason := r }).colCount 9 1, some r)
        | none => ((a.1.noteBegun f.idx).startForm b.ctx f.slot f.word2 f.word3 none, none)
  match b.forms.foldl step (s, none) with
  | (s, some r) => s.rollbackFor (rollbackDetail 3 0x30 r)
  | (s, none) => s

/-- The bank die of a shadowed table page that was lost, reset with MEM_LOST or FAILED since (reason 5). -/
def State.lostPage (s : State) (b : Bracket) : Option Nat :=
  (b.ptes.find? (fun p => decide (p.bank < 4) && (b.bankLost.contains p.bank || decide ((s.bank p.bank).phase = .failed)))).map (fun p => p.bank)

/-- Every change of the shadow takes effect, and the sequence lock is released (R180, R243, R384, R454, R459). -/
def State.switchBracket (s : State) (b : Bracket) : State :=
  let s := { s with flt := { s.flt with bracket := none } }
  let s := b.ptes.foldl (fun s p => (s.pwrite p.addr (leBytes 8 p.new_)).discardCached b.ctx p.va p.span) s
  let s := b.sets.foldl State.commitSet s
  let s := b.forms.foldl (fun s f => if bitAt f.word2 63 then s.dissolveSlot f.slot else s) s
  let s := b.renews.foldl (fun s r => if r.2.1 = 1 then s.renew r.1 r.2.2.1 else s.release r.1) s
  let s := (s.release resLock).bump 0xE0058 32 1
  match b.closeIdx.bind (s.desc b.ctx) with
  | some d => s.finishOk b.ctx d d.cursor
  | none => s

/-- BRACKET_COMMIT (R459): after the expiries of the Minute (R451) the handshakes begin; once every group is formed the switch is made, or the bracket rolls back. -/
def execBracketCommit (s : State) : Result :=
  .next (match s.flt.bracket with
    | none => s
    | some b =>
      let forms := b.forms.filter (fun f => !bitAt f.word2 63)
      if !b.committing || s.expiryDue then s
      else if forms.any (fun f => !f.begun) then s.beginForms b
      else if forms.any (fun f => f.epoch.isNone) then s
      else match s.lostPage b with
        | some n => s.rollbackFor (rollbackDetail 5 0 n)
        | none => s.switchBracket b)

/-! ### FLT_CMD (R460, R472, R476) -/

/-- A write of FLT_CMD (R572): SEQ_ABORT rolls back the open bracket with reason 6, UNPIN unpins every record; both at once are not allowed by the
chapter. -/
def State.writeFltCmd (v : Word) (_who : Reader) (s : State) : State :=
  match v.toNat % 4 with
  | 1 => s.rollbackFor (rollbackDetail 6 0 0)
  | 2 => { s with flt := { s.flt with records := s.flt.records.map (fun e => (e.1, { e.2 with pinned := false })) } }
  | _ => s

/-- SEQ_ABORT (R460, R476). -/
def execSeqAbort (s : State) : Result := .next (s.onWrite 0xE000C .host (State.writeFltCmd 1 .host))

/-- UNPIN (R472). -/
def execUnpin (s : State) : Result := .next (s.onWrite 0xE000C .host (State.writeFltCmd 2 .host))

/-! ### Views and reconcile (R463, R465, R580) -/

/-- What a view that becomes failed means for a unit whose admission ends: the Combine Unit reports it (R337), a port's traffic comes back (R376). -/
def State.unitStops (s : State) (v : Nat) : State :=
  if v = 33 then s.cmbFlag 3 noCtx
  else if 36 ≤ v ∧ v < 44 then s.portStops (v - 36)
  else s

/-- A unit admits work again. -/
def State.unitGoesOn (s : State) (v : Nat) : State :=
  let s := if 36 ≤ v ∧ v < 44 then s.pump (v - 36) (s.port (v - 36)).queue.length
    else if v = 34 then s.unpark
    else s
  s.goOn

/-- The management view of unit `v` changes, with what follows (R463). -/
def State.manageView (s : State) (v : Nat) (failed : Bool) : State :=
  let was := s.admits v
  let s := s.setMgmt v failed
  if was && failed then s.unitStops v
  else if s.admits v && !was then s.unitGoesOn v
  else s

/-- The management view of a position whose spare serves is healthy again (R465). -/
def State.onSpare (s : State) (v : Nat) : State := if s.dpFailed v then s else s.setMgmt v false

/-- What a reconcile to failed does to unit `v` once both views are failed (R163, R465): work in flight is abandoned, and a spare takes an engine,
core or slice position. `had` says that the data path had failed already. -/
def State.reconcileUnit (s : State) (v : Nat) (had : Bool) : State :=
  if 8 ≤ v ∧ v < 24 then
    let k := v - 8
    if had && (s.spareEngine (k / 4)).isNone then s
    else
      let s := (s.flagOpen 0xA0008 1 11 noCtx).leaveEngine k v
      (s.substEngine k 4).onSpare v
  else if 24 ≤ v ∧ v < 28 then
    if had then s else ((s.flagOpen 0xB0008 1 12 noCtx).abandon (v - 8) (0x40000 + (v - 24)) v).1
  else if 28 ≤ v ∧ v < 32 then
    if had && s.spareCore.isNone then s else (s.substCore (v - 28) 4).onSpare v
  else if 44 ≤ v then
    if s.sliceAt (v - 44) = 15 then s else (s.sliceFails (v - 44) 4).onSpare v
  else s.unitStops v

/-- A reconcile of unit `v` (R465): target 1 HEALTHY or 2 FAILED; whether it was refused, and the state after. -/
def State.reconcile (s : State) (v target : Nat) : Bool × State :=
  if target = 2 then
    let had := s.dpFailed v
    let s := s.record 0 15 0x102 noCtx v (v + 512)
    (false, let s := (s.setViews v true true).reconcileUnit v had; if 28 ≤ v ∧ v < 32 then s.scheduleAll else s.schedule none)
  else if s.dpFailed v then
    (true, (s.record 0 15 0x102 noCtx v (v + 256 + 1024)).flagOpen 0xE0008 4 15 noCtx)
  else (false, (s.record 0 15 0x102 noCtx v (v + 256)).manageView v false)

/-- A write of FLT_RECONCILE: a unit not used is ignored with LOCKED_WRITE; other targets are ignored. -/
def State.writeReconcile (v : Word) (who : Reader) (s : State) : State :=
  let u := wfld v 0 6
  let goal := wfld v 30 2
  if goal = 0 ∨ goal = 3 then s
  else if 52 ≤ u then s.locked 0xE0010 who
  else (s.reconcile u goal).2

/-- RECONCILE (R465). -/
def execReconcile (v : Word) (s : State) : Result := .next (s.onWrite 0xE0010 .host (State.writeReconcile v .host))

/-! ### Errors of the hub's own stores (R447, R478, Table 14.5) -/

/-- SHADOW_STORE_UE (R478): the open bracket rolls back with reason 8. -/
def execShadowStoreUe (s : State) : Result :=
  .next (if s.flt.bracket.isSome then (s.flagOpen 0xE0008 6 15 noCtx).rollbackFor (rollbackDetail 8 0 0) else s)

/-- RECORD_STORE_UE (R478): a valid record is dropped. -/
def execRecordStoreUe (i : Fin 128) (s : State) : Result :=
  let r := s.rec_ i.val
  .next (if r.valid then
      let s := { s with flt := { s.flt with records := tabSet (fun _ => Rec.reset) s.flt.records i.val { r with valid := false, pinned := false } } }
      (s.flagOpen 0xE0008 5 15 noCtx).bump 0xE0064 32 1
    else s)

/-- HUB_STATE_UE (R447, Table 14.5): package-class, CODE and DETAIL being free values; or, of the Ledger's state, nothing is left of the Hour until the
next accounting; in the ingest receive buffer the frame being received is abandoned (Table 7.7). -/
def execHubStateUe (where_ : Fin 6) (s : State) : Result :=
  if s.pwr.state = .midnight then .next s
  else if where_.val = 5 then .next s.abandonFrame.endUnbinds
  else if where_.val = 4 then
    let s := s.flagOpen 0x2002C 1 3 noCtx
    .next ((s.setReg 0x20018 0).setPwr { s.pwr with ledger := { s.pwr.ledger with stateErr := true } })
  else
    let (code, s) := s.takeFree
    let (detail, s) := s.takeFree
    let source := if where_.val = 0 then 6 else 15
    .next (s.packageFault source (256 + code % 2 ^ 15) (if where_.val = 0 then 34 else 0x204) (detail % 2 ^ 64) false)

/-- PACKAGE_FAULT (R127, R447, R468): a package-class fault of a source; its DETAIL is a free value. The Host Interface's own leaves no completions. -/
def execPackageFault (source code unit : Nat) (s : State) : Result :=
  if s.pwr.state = .midnight then .next s
  else
    let (detail, s) := s.takeFree
    .next (s.packageFault (source % 256) (code % 2 ^ 16) (unit % 2 ^ 16) (detail % 2 ^ 64) (decide (unit = 0x201)))

end Sys2Proof.Machine
end

