-- ==== Sys2Proof/Machine/RegRead.lean ====
section
/-! DEFINITION. Machine/RegRead.lean: what each register of Table 20.3 reads as, and what a read does (R12, R13, R45, R501, R524, R567, R570). -/

namespace Sys2Proof.Machine

/-- A register from its fields, as pairs of lowest bit and value. -/
def packed (fs : List (Nat × Nat)) : Nat := fs.foldl (fun a f => a + f.2 * 2 ^ f.1) 0

/-- The number of the register at `off` in a set of `n` registers, `step` bytes apart from `base`. -/
def instOf (off base step n : Nat) : Option Nat :=
  if base ≤ off ∧ (off - base) % step = 0 ∧ (off - base) / step < n then some ((off - base) / step) else none

/-- The first answer of a list of candidates. -/
def firstOf (xs : List (Option Nat)) : Option Nat := xs.findSome? (fun x => x)

/-- A word at one offset. -/
def wordAtOff (off at_ v : Nat) : Option Nat := if off = at_ then some v else none

/-! ### The hub (Tables 20.2, 3.11 to 3.14, 4.13 to 4.15, 5.6, 5.7, 16.9, 17.6) -/

/-- STATE of a bridge (Table 3.14). -/
def BridgeState.code : BridgeState → Nat
  | .down => 0 | .training => 1 | .up => 2 | .retrain => 3 | .idle => 4 | .failed => 5

/-- STATE of a ring (Table 4.15). -/
def RingState.code : RingState → Nat
  | .closed => 0 | .active => 1 | .draining => 2 | .stopped => 3

/-- STATE of a context (Table 5.1). -/
def CtxState.code : CtxState → Nat
  | .free => 0 | .open_ => 1 | .teardown => 2 | .faulted => 3

/-- HUB_BOOT_STATUS (Table 3.11). -/
def State.bootStatus (s : State) : Nat :=
  packed [(16, s.boot.code % 256), (12, s.boot.bank % 16), (4, (if s.boot.halted then s.boot.haltStage else s.boot.stage) % 16), (0, b2n s.boot.done)]

/-- HUB_BANK_PRESENT (Table 3.12). -/
def State.bankPresent (s : State) : Nat :=
  let away := fun n => decide ((s.bank n).phase = .resetting) || decide ((s.bank n).bridge = .retrain)
  packed [(24, maskOf 4 (fun n => (s.bank n).memLost)), (16, maskOf 4 (fun n => decide ((s.bank n).phase = .failed))),
    (8, maskOf 4 away), (0, maskOf 4 (fun n => decide ((s.bank n).phase = .active) && !away n))]

/-- HUB_CLK_STATUS (Table 3.13). -/
def State.clkStatus (s : State) : Nat :=
  packed [(4, maskOf 4 (fun n => (s.bank n).pllLock)), (2, b2n s.boot.backup), (1, b2n s.boot.hubLock), (0, b2n s.boot.refOk)]

/-- HUB_BRG_STATUS_n (Table 3.14). -/
def State.bridgeStatus (s : State) (n : Nat) : Nat :=
  let b := s.bank n
  packed [(24, b.h2b.spares.length % 64), (16, b.b2h.spares.length % 64), (8, b.timeErr % 256), (7, b2n b.degraded), (4, b.cause % 8),
    (0, b.bridge.code)]

/-- HUB_DMAP_STATUS (Table 16.9). -/
def State.dmapStatus (s : State) : Nat :=
  packed [(31, b2n s.rep.lost), (30, b2n s.rep.full), (29, b2n s.rep.degraded), (16, s.rep.entries.length % 8192), (8, s.queuedCount % 128),
    (7, b2n s.rep.step.isSome)]

/-- Word `k` of 32 bits of defect-map entry `i` (Table 16.2); zero at or above COUNT (R501). -/
def State.dmapWord (s : State) (i k : Nat) : Nat :=
  match s.dent i with
  | some e => e.words.getD (k / 2) 0 / 2 ^ (32 * (k % 2)) % 2 ^ 32
  | none => 0

/-- HUB_RESET_STATUS (Table 17.6). -/
def State.resetStatus (s : State) : Nat :=
  packed [(2, b2n s.boot.warm), (1, b2n (s.boot.done && !s.day.adopted)), (0, b2n s.boot.ready)]

/-- HUB_RING_STATUS_c (Table 4.15). CQ_FULL also reads 1 while CQ_HEAD lies ahead of CQ_TAIL, which R115 counts as no room (DESIGN CHOICE: assumption
114). -/
def State.ringStatus (s : State) (c : Nat) : Nat :=
  let r := s.ring c
  packed [(24, r.lastCode % 256), (4, b2n r.headErr), (3, b2n (!s.cqRoom c)), (0, r.state.code)]

/-- HUB_SCHED_STATUS (Table 5.6). -/
def State.schedStatus (s : State) : Nat :=
  (s.reg 0x304).toNat + (ctxRange.filter (fun c => decide ((s.ctx c).state = .open_))).length * 2 ^ 16

/-- The registers of the hub that show state. -/
def State.showHub (s : State) (off : Nat) : Option Nat :=
  if off < 0x1000 then firstOf
    [ wordAtOff off 0 (0x4B330000 + Config.stepping.toNat), wordAtOff off 0x100 s.bootStatus, wordAtOff off 0x104 s.bankPresent,
      wordAtOff off 0x108 s.clkStatus, (instOf off 0x110 0x10 4).map s.bridgeStatus,
      wordAtOff off 0x208 (packed [(16, s.host.width % 32), (8, s.host.speed % 16), (0, b2n s.host.linkUp)]),
      wordAtOff off 0x234 (packed [(16, s.host.evqTail), (8, s.host.lost % 256), (0, b2n s.evqFull)]),
      wordAtOff off 0x304 s.schedStatus, wordAtOff off 0x400 s.dmapStatus, (instOf off 0x408 4 4).map (s.dmapWord (s.fld 0x404 0 12)),
      wordAtOff off 0x500 (packed [(16, s.boot.count), (4, s.boot.prev % 16), (0, s.boot.last % 16)]), wordAtOff off 0x504 s.resetStatus ]
  else firstOf
    [ (instOf off 0x1014 0x20 64).map s.ringStatus,
      (instOf off 0x1018 0x20 64).map (fun c => (s.ring c).sqHead % 2 ^ 16 * 2 ^ 16 + (s.ring c).cqTail % 2 ^ 16),
      (instOf off 0x2008 0x40 64).map (fun c => packed [(16, (s.ctx c).gen), (4, (s.ctx c).cause % 4), (0, (s.ctx c).state.code)]) ]

/-! ### The Day Unit (Tables 2.7 to 2.11) -/

/-- DAY_STATUS. -/
def State.dayStatus (s : State) : Nat :=
  let d := s.day
  packed [(24, d.hops % 256), (16, d.parent % 16), (7, b2n d.adopted), (6, b2n d.leader), (5, b2n d.instValid), (0, d.state.code)]

/-- DAY_NOW_HI. -/
def State.nowHi (s : State) : Nat := packed [(16, s.day.minute % 2048), (0, s.day.day / 2 ^ 32 % 2 ^ 16)]

/-- The registers of the Day Unit that show state. -/
def State.showDay (s : State) (off : Nat) : Option Nat :=
  let d := s.day
  firstOf
    [ wordAtOff off 0x10004 s.dayStatus, wordAtOff off 0x10008 (d.day % 2 ^ 32), wordAtOff off 0x1000C s.nowHi, wordAtOff off 0x10010 s.tick,
      wordAtOff off 0x10014 (d.period % 2 ^ 32), wordAtOff off 0x10018 (ofSigned 32 d.skew), wordAtOff off 0x1001C (ofSigned 32 d.parentOfs),
      wordAtOff off 0x10020 (packed [(8, d.hourOfs % 32), (0, s.fld 0x10020 0 5)]) ]

/-! ### Power (Table 14.8) -/

/-- STATE of PWR_STATUS; 4 for Midnight (Table 18.1). -/
def PowerState.code : PowerState → Nat
  | .noon => 0 | .afternoon => 1 | .dusk => 2 | .night => 3 | .midnight => 4

/-- PWR_STATUS. -/
def State.pwrStatus (s : State) : Nat :=
  packed [(19, b2n s.pwr.sstatOk), (18, b2n s.severeNow), (17, b2n s.sagNow), (16, b2n s.pwr.ride), (8, s.pwr.cause % 16), (4, s.pwr.pendingReq % 8),
    (0, s.pwr.state.code)]

/-- MV of PWR_RAIL_m. -/
def State.railMv (s : State) (m : Nat) : Nat := tabGet (fun _ => 0) s.pwr.railMv m

/-- A_C and B_C of PWR_TEMP_d. -/
def State.tempOf (s : State) (d : Nat) : Nat × Nat := (tabGet (fun _ => 0) s.pwr.tempA d % 256, tabGet (fun _ => 0) s.pwr.tempB d % 256)

/-- The registers of power and supply that show state. -/
def State.showPwr (s : State) (off : Nat) : Option Nat :=
  firstOf
    [ wordAtOff off 0xD0008 s.pwrStatus, wordAtOff off 0xD0010 s.pwr.sstat, wordAtOff off 0xD0018 (s.pwr.sstatSeq % 256),
      (instOf off 0xD0040 4 10).map (fun m => packed [(16, tabGet (fun _ => 0) s.pwr.railLow m), (0, s.railMv m)]),
      (instOf off 0xD0080 4 5).map (fun d => packed [(16, tabGet (fun _ => 0) s.pwr.peak d % 256), (8, (s.tempOf d).2), (0, (s.tempOf d).1)]) ]

/-! ### Routing, engines, Special Function Units, Combine (Tables 8.13, 9.7, 10.7, 11.6) -/

/-- ENG_MAP_b. -/
def State.engMap (s : State) (b : Nat) : Nat :=
  packed [(28, b2n (s.spareEngine b).isSome), (16, maskOf 4 (fun p => s.dpFailed (8 + 4 * b + p))), (12, s.engineAt (4 * b + 3) % 8),
    (8, s.engineAt (4 * b + 2) % 8), (4, s.engineAt (4 * b + 1) % 8), (0, s.engineAt (4 * b) % 8)]

/-- CMB_STATUS. -/
def State.cmbStatus (s : State) : Nat :=
  packed [(22, s.cmb.combUsed % 1024), (12, s.cmb.recvUsed % 1024), (7, min 31 (s.cmb.fenced.filter (fun e => e.2)).length),
    (0, (s.cmb.recvs.filter (fun r => r.offer.isSome)).length % 128)]

/-- The registers of the compute units that show state. -/
def State.showUnits (s : State) (off : Nat) : Option Nat :=
  firstOf
    [ wordAtOff off 0x30000 (packed [(16, s.layersQueued % 32), (0, (s.inRoute.map (fun p => p.1.ctx)).getD 0 % 64)]),
      wordAtOff off 0x40008 s.cmbStatus, (instOf off 0xA0010 4 4).map s.engMap,
      wordAtOff off 0xB0004 (maskOf 4 (fun b => !s.admits (24 + b))) ]

/-! ### Link, Switch and collectives (Tables 12.12, 12.13, 13.11, 13.12) -/

/-- STATE of a port (Table 12.13). -/
def PortState.code : PortState → Nat
  | .down => 0 | .detect => 1 | .exchange => 2 | .train => 3 | .confirm => 4 | .up => 5 | .held => 6 | .failed => 7

/-- LNK_POS. -/
def State.lnkPos (s : State) : Nat :=
  match s.lnk.pos with
  | some (x, y, z) => packed [(31, 1), (30, b2n s.lnk.origin), (16, s.lnk.zLen % 16), (8, z % 16), (4, y % 16), (0, x % 16)]
  | none => packed [(16, s.lnk.zLen % 16)]

/-- LNK_STATUS_p. -/
def State.lnkStatus (s : State) (p : Nat) : Nat :=
  let q := s.port p
  packed [(28, q.rev % 16), (24, q.reason % 16), (20, q.width % 16), (16, q.spared % 16), (15, b2n q.degraded), (0, q.state.code)]

/-- LNK_PEER_b_i (Table 12.12). -/
def State.peerWord (s : State) (b i : Nat) : Nat :=
  match (tabGet (fun _ => []) s.lnk.peers b)[i]? with
  | some (kind, id) => packed [(31, 1), (16, kind % 4), (0, id % 65536)]
  | none => 0

/-- The registers of link and Switch that show state. -/
def State.showLink (s : State) (off : Nat) : Option Nat :=
  firstOf
    [ wordAtOff off 0x50020 (packed [(8, min 255 s.lnk.hold.length), (0, b2n s.lnk.staged.isSome)]),
      (instOf off 0x50800 4 128).map (fun d => s.tableEntry s.lnk.table s.position d % 16),
      wordAtOff off 0x60000 s.lnkPos, wordAtOff off 0x60008 (Config.selfId.toNat % 2 ^ 32), wordAtOff off 0x6000C (Config.selfId.toNat / 2 ^ 32),
      (instOf off 0x60104 0x40 8).map s.lnkStatus,
      (instOf off 0x60108 0x40 8).map (fun p => packed [(16, (s.port p).peerCaps % 4096), (0, (s.port p).inUse % 4096)]),
      (instOf off 0x63000 4 256).map (s.peerWord 0), (instOf off 0x63400 4 256).map (s.peerWord 1) ]

/-- STATE of a group slot (Table 13.12). -/
def GroupState.code : GroupState → Nat
  | .free => 0 | .forming => 1 | .formed => 2 | .reforming => 3 | .dissolved => 4 | .excluded => 5

/-- Register `w` of group slot `g`: COL_GRP_STATUS_g, _SHAPE_g, _EPOCH_g and, from 4 on, _LIVE_g_i. -/
def State.groupWord (s : State) (g w : Nat) : Nat :=
  let x := s.group g
  let own := s.position
  match w with
  | 0 => packed [(24, x.live.length % 256), (23, b2n (x.alive && decide (x.live.head? = some own))),
      (16, (if x.live.contains own then rankIn x.live own else 0) % 128), (8, x.ctx % 64), (4, x.reason % 16), (0, x.state.code)]
  | 1 => packed [(24, x.members.length % 256), (16, x.minLive % 128), (8, x.shape % 8), (4, x.anchor.2.2 % 8), (2, x.anchor.2.1 % 4),
      (0, x.anchor.1 % 4)]
  | 2 => s.gepoch g
  | 3 => 0
  | k => maskOf 32 (fun j => x.live.contains (32 * (k - 4) + j))

/-- COL_STATUS. -/
def State.colStatus (s : State) : Nat :=
  let spare := (List.range 10).filter (fun e => !tabGet (fun _ => false) s.maps.sliceBad e && (List.range 8).all (fun p => decide (s.sliceAt p ≠ e)))
  packed [(27, s.col.colls.length % 32), (12, s.staged / 1024 % 2 ^ 15), (8, spare.length % 4),
    (0, ((List.range 8).filter (fun n => decide (s.sliceAt n ≠ 15))).length)]

/-- The registers of the Collectives unit that show state. -/
def State.showCol (s : State) (off : Nat) : Option Nat :=
  firstOf
    [ wordAtOff off 0x70004 s.colStatus, wordAtOff off 0x7000C (packed ((List.range 8).map (fun n => (4 * n, s.sliceAt n % 16)))),
      wordAtOff off 0x70010 (maskOf 10 (fun e => tabGet (fun _ => false) s.maps.sliceBad e)),
      (instOf off 0x70100 4 512).map (fun k => s.groupWord (k / 8) (k % 8)) ]

/-! ### Ingest, management, faults (Tables 7.10, 18.6, 15.8, 15.11) -/

/-- ALIGN (Table 7.2). -/
def AlignState.code : AlignState → Nat
  | .down => 0 | .hunt => 1 | .verify => 2 | .lock => 3

/-- The registers of the Ingest Unit that show state. -/
def State.showIng (s : State) (off : Nat) : Option Nat :=
  firstOf
    [ wordAtOff off 0x80004 (packed [(16, maskOf 4 (fun k => tabGet (fun _ => false) s.ing.up k)), (8, s.ing.verifiers.length % 8),
        (2, b2n s.lanesAligned), (0, s.ing.align.code)]),
      (instOf off 0x80080 4 16).map (fun k => match tabGet (fun _ => none) s.ing.binds k with
        | some b => packed [(31, 1), (16, b.ctx % 64)]
        | none => 0) ]

/-- FLT_VIEW_v (R463, R464); 52 to 63 are not used. -/
def State.viewWord (s : State) (v : Nat) : Nat :=
  if 52 ≤ v then 0
  else packed [(16, tabGet (fun _ => 0) s.flt.disCnt v), (7, b2n (s.dpFailed v != s.mgmtFailed v)), (6, b2n (s.admits v)), (4, b2n (s.mgmtFailed v)),
    (0, b2n (s.dpFailed v))]

/-- Word `w` of a fault record (Table 15.8). -/
def Rec.word (r : Rec) (w : Nat) : Nat :=
  match w with
  | 0 => r.seq % 2 ^ 32
  | 1 => packed [(31, b2n r.valid), (30, b2n r.pinned), (29, b2n r.prevBoot), (24, r.class_ % 8), (16, r.source % 256), (0, r.code % 65536)]
  | 2 => packed [(16, r.ctx % 65536), (0, r.unit % 65536)]
  | 3 => r.day % 2 ^ 32
  | 4 => packed [(16, r.minute % 2048), (0, r.day / 2 ^ 32 % 65536)]
  | 5 => r.tick % 2 ^ 14
  | 6 => r.detail % 2 ^ 32
  | _ => r.detail / 2 ^ 32 % 2 ^ 32

/-- FLT_LEASE_s and the like: who holds a resource and for how long. -/
def State.leaseWord (s : State) (res bit30 : Nat) : Nat :=
  match (s.lease res).holder with
  | some (c, _) => packed [(31, 1), (30, bit30), (16, c % 64), (0, s.minutesLeft res % 65536)]
  | none => packed [(30, bit30)]

/-- FLT_STATUS (Table 15.11). -/
def State.fltStatus (s : State) : Nat :=
  let held := s.flt.records.filter (fun e => e.2.valid)
  packed [(16, (held.filter (fun e => e.2.pinned)).length % 256), (8, held.length % 256), (0, s.flt.head % 128)]

/-- The registers of chapter 15 that show state. -/
def State.showFlt (s : State) (off : Nat) : Option Nat :=
  firstOf
    [ wordAtOff off 0xE0004 s.fltStatus,
      wordAtOff off 0xE0014 (s.leaseWord resLock (b2n ((s.flt.bracket.map (fun b => b.committing)).getD false))),
      wordAtOff off 0xE0018 (s.epoch resLock),
      (instOf off 0xE0100 8 16).map (fun k => s.leaseWord (resSet k) (b2n (!(s.lease (resSet k)).waiting.isEmpty))),
      (instOf off 0xE0104 8 16).map (fun k => s.epoch (resSet k)), (instOf off 0xE0400 4 64).map s.viewWord,
      (instOf off 0xE1000 4 1024).map (fun k => (s.rec_ (k / 8)).word (k % 8)) ]

/-- MGT_STATUS (Table 18.6). -/
def State.mgtStatus (s : State) : Nat :=
  packed [(16, s.mgt.lastCode % 256), (8, s.mgt.lastStatus % 256), (7, b2n (s.mgt.response.isSome && s.mgt.unread)), (0, s.mgt.addr % 128)]

/-! ### Reads -/

/-- What a register shows that is not simply stored. -/
def State.shown (s : State) (off : Nat) : Option Nat :=
  match off / 0x10000 with
  | 0x0 => s.showHub off
  | 0x1 => s.showDay off
  | 0x3 => s.showUnits off
  | 0x4 => s.showUnits off
  | 0x5 => s.showLink off
  | 0x6 => s.showLink off
  | 0x7 => s.showCol off
  | 0x8 => s.showIng off
  | 0xA => s.showUnits off
  | 0xB => s.showUnits off
  | 0xC => wordAtOff off 0xC0004 s.mgtStatus
  | 0xD => s.showPwr off
  | 0xE => s.showFlt off
  | _ => none

/-- The value of the register at `off`; a reserved offset reads as zero (R95, R566, R570). -/
def State.liveReg (s : State) (off : Nat) : Word :=
  match regRow off with
  | none => 0
  | some _ => match s.shown off with
    | some v => BitVec.ofNat 32 v
    | none => s.reg off

/-- The latches of a reader (R12, R524). -/
def State.latches (s : State) (who : Reader) : Tab (Option Word) := if who = .host then s.latchHost else s.latchMgmt

/-- A latch of a reader is set or released. -/
def State.setLatch (s : State) (who : Reader) (off : Nat) (v : Option Word) : State :=
  match who with
  | .host => { s with latchHost := tabSet (fun _ => none) s.latchHost off v }
  | .mgmt => { s with latchMgmt := tabSet (fun _ => none) s.latchMgmt off v }

/-- The RC fields of a register are cleared (R13). -/
def State.clearRc (s : State) (off : Nat) : State :=
  match regRow off with
  | none => s
  | some r =>
    let s := if r.rc = 0 then s else s.setReg off (s.reg off &&& ~~~BitVec.ofNat 32 r.rc)
    match instOf off 0x110 0x10 4, instOf off 0xD0040 4 10, instOf off 0xD0080 4 5 with
    | some n, _, _ => s.setBank n { s.bank n with timeErr := 0 }
    | _, some m, _ => s.setPwr { s.pwr with railLow := tabSet (fun _ => 0) s.pwr.railLow m 0 }
    | _, _, some d => s.setPwr { s.pwr with peak := tabSet (fun _ => 0) s.pwr.peak d 0 }
    | _, _, _ => if off = 0x234 then { s with host := { s.host with lost := 0 } } else s

/-- Walks that accesses started join ATP_WALK_CNT when it is read (R177, R199): which accesses miss their cache the spec leaves open, so their number
is a free value (assumption 116). -/
def State.walksSeen (s : State) : State :=
  let (k, s) := s.takeFree
  s.bump 0x9001C 32 (k % 2 ^ 32)

/-- A read of one register as a whole: a latched value is returned once; partners are latched; a host read clears the RC fields (R12, R13, R524). -/
def State.readAt (s : State) (who : Reader) (off : Nat) : Word × State :=
  let s := if off = 0x9001C then s.walksSeen else s
  let live := s.liveReg off
  let held := tabGet (fun _ => none) (s.latches who) off
  let s := if held.isSome then s.setLatch who off none else s
  let s := (partners off).foldl (fun s o => s.setLatch who o (some (s.liveReg o))) s
  (held.getD live, if who = .host then s.clearRc off else s)

/-- The registers that the management controller reaches in Midnight (Table 18.1). -/
def alwaysOn (off : Nat) : Bool :=
  let b := off / 0x10000
  b == 1 || b == 0xC || b == 0xE || (decide (0x500 ≤ off) && decide (off < 0x518))

/-- Whether the Management Port answers: from the end of boot stage 0 on (R532, R556), in Midnight and its exit included. -/
def State.mgtAnswers (s : State) : Bool :=
  s.boot.powered && s.boot.rstN && (decide (1 ≤ s.boot.stage) || decide (s.pwr.state = .midnight) || s.boot.midnightExit)

/-- Whether a read reaches the registers: the host as R95 and R503 state; the management controller while the port answers, in Midnight only those of
the always-on island. -/
def State.reaches (s : State) (who : Reader) (off : Nat) : Bool :=
  match who with
  | .host => s.barServed
  | .mgmt => s.mgtAnswers && (decide (s.pwr.state ≠ .midnight) || alwaysOn off)

/-- A 4-byte read and its answer. -/
def State.readOut (s : State) (who : Reader) (off : Nat) : State :=
  if s.reaches who off then
    let r := s.readAt who off
    r.2.send (.readData who off r.1)
  else s

/-- DAY_NOW_LO_READ (R45): DAY_NOW_HI and DAY_NOW_NS are latched. -/
def execDayNowLoRead (who : Reader) (s : State) : Result := .next (s.readOut who 0x10008)

/-- PAIR_LO_READ (R12): a read of any register with a partner; a read of a register without one is a plain read. -/
def execPairLoRead (off : Nat) (who : Reader) (s : State) : Result := .next (s.readOut who (off / 4 * 4))

/-- RC_READ (R13): a host read of any register; its RC fields return their value and are cleared. -/
def execRcRead (off : Nat) (s : State) : Result := .next (s.readOut .host (off / 4 * 4))

/-- DMAP_ENTRY_READ (R501). -/
def execDmapEntryRead (who : Reader) (s : State) : Result := .next (s.readOut who 0x408)

/-- DEBUG_REQUEST_RX (R363): a read is answered while DEBUG_EN of the port is 1, as a read of BAR 0 with what such a read does (Table 0.3, R12);
any other request is refused, and on a link where DEBUG is not in use none is answered (Table 12.4). The answer's last argument says whether it is a
refusal. -/
def execDebugRequestRx (p : PortId) (from_ : Peer) (write : Bool) (off : Nat) (s : State) : Result :=
  let ok := !write && s.rbit (0x60100 + 0x40 * p.val) 29
  let r := if ok then s.readAt .host (off / 4 * 4) else (0, s)
  let m : Msg := { kind := .debugAnswer, src := 0, dst := from_, epoch := 0, args := [off, r.1.toNat, b2n (!ok)], data := [] }
  .next (if s.pwr.state = .midnight || !s.capable p.val 2 then s else r.2.sendMsg m)

end Sys2Proof.Machine
end

