-- ==== Sys2Proof/Machine/RegWrite.lean ====
section
/-! DEFINITION. Machine/RegWrite.lean: register writes and the widths of BAR 0 accesses (R12, R15, R131, R228, R329, R371, R429, R530, R565 to R573). -/

namespace Sys2Proof.Machine

/-! ### RWL rules -/

/-- Whether every ring is CLOSED or STOPPED and POLL_EN is 0 (R131). -/
def State.packageIdle (s : State) : Bool := ctxRange.all s.ringIdle && !s.rbit 0x200 0

/-- Whether the RWL fields of the register at `off` may be written now, for the registers whose rule depends on nothing but the state: of the
Host Interface (R131), the Day start (Table 2.13), load steps (R429), RECV_SLOTS (R329), staged routes (Table 12.12), remote windows (R371,
R379) and STAGE_MIB (Table 6.11). -/
def State.rwlOpen (s : State) (off : Nat) : Bool :=
  if off = 0x228 ∨ off = 0x22C then !s.rbit 0x230 31
  else if 0x200 ≤ off ∧ off < 0x228 then s.packageIdle
  else if 0x1000 ≤ off ∧ off < 0x1800 then s.ringIdle ((off - 0x1000) / 0x20)
  else if off = 0x10028 then !s.day.adopted
  else if 0x200C0 ≤ off ∧ off < 0x20100 then !s.rbit (0x200C8 + 0x10 * ((off - 0x200C0) / 0x10)) 31
  else if off = 0x40000 then decide (s.cmb.combUsed = 0) && decide (s.cmb.recvUsed = 0)
  else if 0x50008 ≤ off ∧ off < 0x50018 then s.lnk.staged.isNone
  else if 0x61000 ≤ off ∧ off < 0x62000 then decide ((s.ctx ((off - 0x61000) / 0x40)).state = .free)
  else if 0x62000 ≤ off ∧ off < 0x62400 then decide ((s.ctx ((off - 0x62000) / 0x10)).state = .free)
  else if off = 0x90000 then ctxRange.all (fun c => decide ((s.ctx c).state ≠ .open_))
  else true

/-- A register takes a write by its access codes (Table 0.3): RW and RWL fields take the value, WOC bits written 1 clear; a write that would
change a locked RWL field is ignored in full (R569). -/
def State.plainWrite (s : State) (r : RegRow) (off : Nat) (v : Word) (who : Reader) : State :=
  let old := s.reg off
  let m := BitVec.ofNat 32 (r.rw ||| r.rwl)
  if (old ^^^ v) &&& BitVec.ofNat 32 r.rwl ≠ 0 ∧ !s.rwlOpen off then s.locked off who
  else
    let new := (old &&& ~~~m ||| v &&& m) &&& ~~~(v &&& BitVec.ofNat 32 r.woc)
    if new = old then s else s.setReg off new

/-! ### What some writes do besides -/

/-- A base of the Host Interface has been written, once its `_LO` half takes the write (R130; assumption 30). -/
def State.noteBase (s : State) (off : Nat) : State :=
  if (off = 0x210 ∨ off = 0x218 ∨ off = 0x220 ∨ off = 0x228) ∧ s.rwlOpen off then s.noteWritten off else s

/-- Clearing MEM_LOST bits of HUB_BANK_PRESENT (Table 3.12). -/
def State.writeBankPresent (s : State) (v : Word) : State :=
  (List.range 4).foldl (fun s n => if bitAt v.toNat (24 + n) then s.setBank n { s.bank n with memLost := false } else s) s

/-- HUB_ERR takes 1 in LOCKED_WRITE (R573). -/
def State.clearHubErr (v : Word) (s : State) : State := if bitAt v.toNat 31 then s.setReg 0x4 0 else s

/-- A write of HUB_CTX_CMD_c (Table 5.7, R572): exactly one command acts. -/
def State.writeCtxCmd (c : Nat) (v : Word) (who : Reader) (s : State) : State :=
  match v.toNat % 8 with
  | 0 => s
  | 1 => s.openContext c who
  | 2 => s.closeContext c who
  | 4 => s.tearDown c who
  | _ => s.locked (0x2004 + 0x40 * c) who

/-- A write of an MSI-X table word: unmasking a vector whose message is pending sends it (R577; PCI Express). -/
def State.writeMsix (r : RegRow) (off : Nat) (v : Word) (who : Reader) (s : State) : State :=
  let k := (off - 0xF0000) / 0x10
  let s := s.plainWrite r off v who
  let pba := 0xF1000 + 4 * (k / 32)
  if off % 0x10 = 0xC ∧ !bitAt v.toNat 0 ∧ s.rbit pba (k % 32) then (s.setFld pba (k % 32) 1 0).signalVector k else s

/-! ### Registers with a rule of their own, by block -/

/-- Writes of hub registers. -/
def State.writeHub (r : RegRow) (off : Nat) (v : Word) (who : Reader) (s : State) : State :=
  let c1 := (off - 0x1000) / 0x20
  let c2 := (off - 0x2000) / 0x40
  if off = 0x4 then s.clearHubErr v
  else if off = 0x104 then s.writeBankPresent v
  else if 0x150 ≤ off ∧ off < 0x160 then s.writeBankCmd ((off - 0x150) / 4) v who
  else if off = 0x20C then (if bitAt v.toNat 0 then s.wake else s)
  else if off = 0x230 then s.writeEvqCfg v who
  else if off = 0x41C then s.writeRepairCmd v who
  else if off = 0x508 then s.writeResetCmd v who
  else if off < 0x1000 then (s.plainWrite r off v who).noteBase off
  else if off < 0x2000 ∧ off % 0x20 = 0x10 then s.writeRingCfg c1 v who
  else if off < 0x2000 ∧ off % 0x20 = 0x14 then (if bitAt v.toNat 4 then s.setRing c1 { s.ring c1 with headErr := false } else s)
  else if 0x2000 ≤ off ∧ off % 0x40 = 4 then s.writeCtxCmd c2 v who
  else s.plainWrite r off v who

/-- Writes of DAY_ registers. -/
def State.writeDay (r : RegRow) (off : Nat) (v : Word) (who : Reader) (s : State) : State :=
  match off with
  | 0x10000 => s.writeDayCtrl v
  | 0x10020 => s.writeHourOfs v
  | 0x10024 => s.writeHoldLimit v
  | 0x1002C => s.writeDayStartHi v who
  | 0x10030 => s.writeDayCmd v who
  | 0x10034 => (s.plainWrite r off v who).refreshValid
  | _ => s.plainWrite r off v who

/-- Writes of LDG_ and PWR_ registers. -/
def State.writePower (r : RegRow) (off : Nat) (v : Word) (who : Reader) (s : State) : State :=
  if 0x200C0 ≤ off ∧ off < 0x20100 ∧ off % 0x10 = 8 then s.writeStepVal ((off - 0x200C0) / 0x10) v who
  else if off = 0xD0000 then s.writePwrCfg v who
  else if off = 0xD0004 then s.writePwrCmd v who
  else s.plainWrite r off v who

/-- Writes of RTE_ and CMB_ registers. -/
def State.writeRoute (r : RegRow) (off : Nat) (v : Word) (who : Reader) (s : State) : State :=
  if 0x30100 ≤ off ∧ off < 0x30200 ∧ (off % 0x10 = 8 ∨ off % 0x10 = 0xC) then s.writeEveParam off v
  else s.plainWrite r off v who

/-- Writes of SWI_ and LNK_ registers. -/
def State.writeLink (r : RegRow) (off : Nat) (v : Word) (who : Reader) (s : State) : State :=
  if off = 0x50018 then s.writeRouteCmd v who
  else if 0x60100 ≤ off ∧ off < 0x60300 ∧ off % 0x40 = 0 then s.writeLnkCfg ((off - 0x60100) / 0x40) v who
  else if 0x60400 ≤ off ∧ off < 0x60500 then s.writeAperture ((off - 0x60400) / 4) v who
  else if 0x61000 ≤ off ∧ off < 0x62000 ∧ off % 0x10 = 0 then s.writeWindow ((off - 0x61000) / 0x40) (off % 0x40 / 0x10) v who
  else s.plainWrite r off v who

/-- Writes of ING_ and ATP_ registers. -/
def State.writeIng (r : RegRow) (off : Nat) (v : Word) (who : Reader) (s : State) : State :=
  if off = 0x80000 then s.writePortCfg v who
  else if off = 0x80010 then s.ingCmd v
  else if 0x90100 ≤ off then s.writeRoot ((off - 0x90100) / 8) (off % 8 == 4) v who
  else s.plainWrite r off v who

/-- Writes of FLT_ registers. -/
def State.writeFlt (r : RegRow) (off : Nat) (v : Word) (who : Reader) (s : State) : State :=
  match off with
  | 0xE000C => s.writeFltCmd v who
  | 0xE0010 => s.writeReconcile v who
  | _ => s.plainWrite r off v who

/-- A 4-byte write at the register itself (R568 to R572): a reserved offset is ignored (R566). -/
def State.applyWrite (off : Nat) (v : Word) (who : Reader) (s : State) : State :=
  match regRow off with
  | none => s
  | some r => match off / 0x10000 with
    | 0x0 => s.writeHub r off v who
    | 0x1 => s.writeDay r off v who
    | 0x2 => s.writePower r off v who
    | 0xD => s.writePower r off v who
    | 0x3 => s.writeRoute r off v who
    | 0x5 => s.writeLink r off v who
    | 0x6 => s.writeLink r off v who
    | 0x8 => s.writeIng r off v who
    | 0x9 => s.writeIng r off v who
    | 0xE => s.writeFlt r off v who
    | 0xF => s.writeMsix r off v who
    | _ => s.plainWrite r off v who

/-- A 4-byte write by the host or the management controller (R507, R566, R571). -/
def State.writeReg (off : Nat) (v : Word) (who : Reader) (s : State) : State :=
  if (regRow off).isNone then s else s.onWrite off who (State.applyWrite off v who)

/-! ### Widths of BAR 0 accesses (R567) -/

/-- The registers, lowest first, that bytes [off, off + len) of one aligned block of 8 touch. -/
def regsTouched (off len : Nat) : List Nat := [off / 8 * 8, off / 8 * 8 + 4].filter (fun r => decide (off < r + 4) && decide (r < off + len))

/-- Whether an access lies within one aligned block of 8 bytes. -/
def inBlock (off len : Nat) : Bool := decide (0 < len) && decide (len ≤ 8) && decide (off / 8 = (off + len - 1) / 8)

/-- Registers are read as a whole, lowest first: their bytes. -/
def State.readWhole (s : State) : List Nat → List Byte × State
  | [] => ([], s)
  | r :: rs =>
    let x := s.readAt .host r
    let y := x.2.readWhole rs
    (leBytes 4 x.1.toNat ++ y.1, y.2)

/-- A host read of BAR 0. -/
def State.barRead (off len : Nat) (s : State) : State :=
  if inBlock off len then
    let rs := regsTouched off len
    let x := s.readWhole rs
    x.2.send (.readBytes off ((x.1.drop (off - rs.headD 0)).take len))
  else (s.hubErr off 2 .host).send (.unsupported off)

/-- One register of a host write: written when all four of its bytes are, else recorded. -/
def State.barWord (off : Nat) (data : List Byte) (s : State) (r : Nat) : State :=
  if off ≤ r ∧ r + 4 ≤ off + data.length then s.writeReg r (BitVec.ofNat 32 (leNat ((data.drop (r - off)).take 4))) .host
  else if (regRow r).isNone then s
  else s.hubErr r 2 .host

/-- A host write of BAR 0. Bytes that fall only on reserved offsets are ignored without HUB_ERR, whatever the width (R566). -/
def State.barWrite (off : Nat) (data : List Byte) (s : State) : State :=
  if inBlock off data.length then (regsTouched off data.length).foldl (State.barWord off data) s
  else if (List.range (data.length / 4 + 2)).all (fun k => (regRow (off / 4 * 4 + 4 * k)).isNone || decide (off + data.length ≤ off / 4 * 4 + 4 * k)) then s
  else s.hubErr off 2 .host

/-! ### The commands -/

/-- BAR0_ILLEGAL_ACCESS (R567): a host access of any width and place. -/
def execBar0IllegalAccess (write : Bool) (off len : Nat) (data : List Byte) (s : State) : Result :=
  .next (if !s.barServed then s
    else if write then (if data.isEmpty then s else s.barWrite off data)
    else if len = 0 then s else s.barRead off len)

/-- HUB_ERR_CLEAR (R573). -/
def execHubErrClear (who : Reader) (s : State) : Result := .next (s.onWrite 0x4 who (State.clearHubErr 0x80000000))

/-- The registers that the management controller may write (Table 18.4, R530). -/
def State.mgtMay (s : State) (off : Nat) (v : Word) : Bool :=
  let awake := decide (s.pwr.state ≠ .midnight)
  if off = 0xC0000 ∨ off = 0xC0008 then true
  else if (0x20000 ≤ off ∧ off ≤ 0x20010) ∨ (0x20040 ≤ off ∧ off < 0x200A0) ∨ (0x200C0 ≤ off ∧ off < 0x20100) ∨ (0x20100 ≤ off ∧ off < 0x20128) then
    awake && (regRow off).isSome
  else if off = 0xD0000 ∨ off = 0xD000C ∨ off = 0x418 ∨ off = 0x41C then awake
  else if 0x60100 ≤ off ∧ off < 0x60300 ∧ off % 0x40 = 0 then awake && decide ((v ^^^ s.reg off) &&& 0xBFFFFFFF = 0)
  else false

/-- REGISTER_WRITE (R568, R569, R571, R572): of the management controller only where Table 18.4 permits it (R530). -/
def execRegisterWrite (off : Nat) (v : Word) (who : Reader) (s : State) : Result :=
  .next (match who with
    | .host => if off % 4 = 0 then s.writeReg off v .host else if s.barServed then s.barWrite off (leBytes 4 v.toNat) else s
    | .mgmt => if s.reaches .mgmt off && s.mgtMay off v then s.writeReg off v .mgmt else s)

end Sys2Proof.Machine
end

