-- ==== Sys2Proof/Machine/Mgt.lean ====
section
/-! DEFINITION. Machine/Mgt.lean: the Management Port (chapter 18): commands, responses, the alert line and the port's errors. -/

namespace Sys2Proof.Machine

/-! ### STATUS values (Table 18.2) -/

def stOk : Nat := 0
def stBadCode : Nat := 1
def stBadLength : Nat := 2
def stBadArg : Nat := 3
def stNotPermitted : Nat := 4
def stBusy : Nat := 5
def stState : Nat := 6
def stRefused : Nat := 7
def stNotReady : Nat := 0xF

/-! ### The transaction (R521, R522, R531, R532, R534, R535) -/

/-- The state with the Management Port changed. -/
def State.setMgt (s : State) (m : MgtUnit) : State := { s with mgt := m }

/-- An error of the port: MGT_CNT_k and bit 16 of the alert (R534). -/
def State.portError (s : State) (k : Nat) : State := (s.bump (0xC0040 + 4 * k) 32 1).alert 16

/-- When a command acts (Table 18.1, R532): during cold-start boot; during a warm reset; in Midnight. -/
structure Gate where
  boot : Bool
  warm : Bool
  midnight : Bool
  deriving DecidableEq, Repr

/-- A read that acts at all times. -/
def gateAll : Gate := ⟨true, true, true⟩

/-- A read that acts outside boot and Midnight. -/
def gateRead : Gate := ⟨false, true, false⟩

/-- A command that writes or requests a transition. -/
def gateWrite : Gate := ⟨false, false, false⟩

/-- Whether cold-start boot is under way: until READY (R532). -/
def State.booting (s : State) : Bool :=
  !s.boot.ready && !s.boot.warm && !s.boot.midnightExit && decide (s.pwr.state ≠ .midnight)

/-- The STATUS that keeps a command from acting, if any: BUSY in boot and warm resets, STATE in Midnight. -/
def State.gated (s : State) (g : Gate) : Option Nat :=
  if s.booting && !g.boot then some stBusy
  else if s.boot.warm && !g.warm then some stBusy
  else if s.pwr.state = .midnight ∧ !g.midnight then some stState
  else none

/-- What a command does: STATUS, the response bytes and the state after. -/
abbrev MgtAct := List Byte → State → Nat × List Byte × State

/-- A command that completes with a STATUS and no effect (R523). -/
def refuse (st : Nat) (s : State) : Nat × List Byte × State := (st, [], s)

/-- A command has run: its response is held, MGT_STATUS names it, and it is counted (R522, R535, Table 18.6). -/
def mgtAnswer (code : Nat) (tag : Byte) (r : Nat × List Byte × State) : State :=
  let s' := r.2.2
  let s' := s'.setMgt { s'.mgt with lastCode := code, lastStatus := r.1, unread := true, tag := some tag.toNat,
                                    response := some (tag :: BitVec.ofNat 8 r.1 :: r.2.1) }
  let s' := s'.bump 0xC0040 32 1
  if 1 ≤ r.1 ∧ r.1 ≤ 7 then s'.bump 0xC0050 32 1 else s'

/-- The response still unread is replaced (R522). -/
def State.replaceResponse (s : State) : State := if s.mgt.unread then s.portError 3 else s

/-- One Block Write: discarded when the port does not answer or the block is longer than 64 bytes, refused when the PEC fails, else carried out
with its checks in the order length, gate, arguments. -/
def State.mgtRun (s : State) (r : MgtReq) (code len : Nat) (g : Gate) (act : MgtAct) : State :=
  if !s.mgtAnswers || decide (63 < r.args.length) then s
  else if !r.pecOk then s.portError 1
  else
    let s := s.replaceResponse
    if r.args.length ≠ len then mgtAnswer code r.tag (refuse stBadLength s)
    else match s.gated g with
      | some st => mgtAnswer code r.tag (refuse st s)
      | none => mgtAnswer code r.tag (act r.args s)

/-- A command that writes or requests a transition: during a Night exit it waits for the exit's end (R533), as `i` at the head of the held work. -/
def State.mgtWrite (s : State) (i : Instr) (r : MgtReq) (code len : Nat) (g : Gate) (act : MgtAct) : State :=
  if s.mgtAnswers && r.pecOk && decide (r.args.length ≤ 63) && decide (s.pwr.state = .night) && s.pwr.exiting then
    let s := s.replaceResponse
    let s := s.setMgt { s.mgt with response := none, unread := false, tag := some r.tag.toNat }
    s.setPwr { s.pwr with wakeWork := s.pwr.wakeWork ++ [i] }
  else s.mgtRun r code len g act

/-- A command that answers with bytes and changes nothing else. -/
def reads (f : State → List Byte) : MgtAct := fun _ s => (stOk, f s, s)

/-- Little-endian number of some of the request bytes. -/
def argNat (args : List Byte) (from_ n : Nat) : Nat := leNat ((args.drop from_).take n)

/-- A register as four bytes, without what a read would clear or latch (R526). -/
def State.regBytes (s : State) (off : Nat) : List Byte := leBytes 4 (s.liveReg off).toNat

/-! ### Identity, state and registers (R524, R525, R530) -/

/-- GET_ID. -/
def State.idBytes (s : State) : List Byte :=
  leBytes 2 0x4B33 ++ leBytes 1 Config.stepping.toNat ++ leBytes 8 Config.selfId.toNat ++ leBytes 4 s.lnkPos

/-- The codes of Table 18.1. -/
def mgtCodes : List Nat := [0x01, 0x02, 0x03, 0x04, 0x10, 0x11, 0x12, 0x13, 0x14, 0x20, 0x21, 0x22, 0x30, 0x31, 0x32, 0x40, 0x41]

/-- MGT_GET_ID; a code that Table 18.1 does not list completes BAD_CODE whatever its block holds (R523). -/
def execMgtGetId (code : Byte) (r : MgtReq) (s : State) : Result :=
  .next (if code = 1 then s.mgtRun r 1 0 gateAll (reads State.idBytes)
    else if code.toNat ∈ mgtCodes then s
    else s.mgtRun r code.toNat r.args.length gateAll (fun _ s => refuse stBadCode s))

/-- GET_STATE (Table 18.1). -/
def State.stateBytes (s : State) : List Byte :=
  leBytes 1 s.resetStatus ++ leBytes 1 s.pwr.state.code ++ leBytes 4 s.bootStatus ++ s.regBytes 0x10008 ++ s.regBytes 0x1000C ++ s.regBytes 0x10010

/-- MGT_GET_STATE. -/
def execMgtGetState (r : MgtReq) (s : State) : Result := .next (s.mgtRun r 2 0 gateAll (reads State.stateBytes))

/-- READ_REG (R524): in Midnight only what the always-on island holds. -/
def mgtRead : MgtAct := fun args s =>
  let off := argNat args 0 4
  if s.pwr.state = .midnight ∧ !alwaysOn off then refuse stState s
  else
    let x := s.readAt .mgmt off
    (stOk, leBytes 4 x.1.toNat, x.2)

/-- MGT_READ_REG. -/
def execMgtReadReg (r : MgtReq) (s : State) : Result := .next (s.mgtRun r 3 4 gateAll mgtRead)

/-- Whether a management write would be ignored under the rules of its register (R525): it would record in an empty HUB_ERR. -/
def State.wouldIgnore (s : State) (off : Nat) (v : Word) : Bool := ((s.setReg 0x4 0).writeReg off v .mgmt).rbit 0x4 31

/-- WRITE_REG (R525, R530). -/
def mgtWriteAct : MgtAct := fun args s =>
  let off := argNat args 0 4
  let v : Word := BitVec.ofNat 32 (argNat args 4 4)
  if !s.mgtMay off v then refuse stNotPermitted s
  else if s.wouldIgnore off v then (stRefused, [], s.writeReg off v .mgmt)
  else (stOk, [], (s.writeReg off v .mgmt).bump 0xC0054 32 1)

/-- MGT_WRITE_REG: the gate of Table 18.4 stands in `mgtMay`. -/
def execMgtWriteReg (r : MgtReq) (s : State) : Result :=
  .next (s.mgtWrite (.mgtWriteReg r) r 4 8 ⟨false, false, true⟩ mgtWriteAct)

/-! ### Telemetry (R526, Table 18.3) -/

/-- Registers one after another. -/
def State.regList (s : State) (offs : List Nat) : List Byte := offs.flatMap s.regBytes

/-- The draw of the last Hour in W; with LDG_LAST_T at 0, or a draw beyond two bytes, a free value. -/
def State.lastDraw (s : State) : Nat × State :=
  let m := (s.reg 0x20020).toNat
  let t := (s.reg 0x20028).toNat
  if t = 0 ∨ 65536 ≤ m * 1000 / t then
    let (k, s) := s.takeFree
    (k % 65536, s)
  else (m * 1000 / t, s)

/-- A mask of 64 bits as 8 bytes. -/
def mask64 (f : Nat → Bool) : List Byte := leBytes 8 (maskOf 64 f)

/-- A page of Table 18.3 other than page 0. -/
def State.page (s : State) (n : Nat) : List Byte :=
  match n with
  | 1 => s.regList [0x20014, 0x20018, 0x2001C, 0x20020, 0x20024, 0x20028, 0x20000]
  | 2 => s.regList [0x10004, 0x10008, 0x1000C, 0x10010, 0x10014, 0x10018, 0x10034]
  | 3 => mask64 (fun v => decide (v < 52) && s.dpFailed v) ++ mask64 (fun v => decide (v < 52) && s.mgmtFailed v) ++
      mask64 (fun v => decide (v < 52) && (s.dpFailed v != s.mgmtFailed v)) ++ mask64 (fun v => decide (v < 52) && s.admits v)
  | 4 => s.regList ((List.range 8).map (fun p => 0x60104 + 0x40 * p))
  | 5 => s.regBytes 0x104 ++ (List.range 13).flatMap (fun u => leBytes 2 (min 0xFFFF (tabGet (fun _ => 0) s.mgt.ceTotal u)))
  | 6 => s.regList [0xE0004, 0x400, 0xE0040, 0xE0044, 0xE004C]
  | _ => s.regBytes 0x304 ++ mask64 (fun c => decide ((s.ctx c).state = .open_)) ++ mask64 (fun c => decide ((s.ctx c).state = .faulted))

/-- TELEMETRY. -/
def mgtPage : MgtAct := fun args s =>
  let n := argNat args 0 1
  if s.booting && decide (n ≠ 2) && decide (n ≠ 6) then refuse stBusy s
  else if 7 < n then refuse stBadArg s
  else if s.pwr.state = .midnight ∧ n ≠ 2 ∧ n ≠ 6 then refuse stState s
  else if n = 0 then
    let d := s.lastDraw
    let temps := (List.range 5).flatMap (fun d => leBytes 1 (s.tempOf d).1 ++ leBytes 1 (s.tempOf d).2)
    (stOk, s.regBytes 0xD0008 ++ (List.range 10).flatMap (fun m => leBytes 2 (s.railMv m)) ++ temps ++ s.regBytes 0xD0010 ++ leBytes 2 d.1, d.2)
  else (stOk, s.page n, s)

/-- MGT_TELEMETRY. -/
def execMgtTelemetry (r : MgtReq) (s : State) : Result := .next (s.mgtRun r 0x10 1 gateAll mgtPage)

/-! ### Views and reconcile (R527) -/

/-- FLT_VIEW_v as four bytes. -/
def State.viewBytes (s : State) (v : Nat) : List Byte := leBytes 4 (s.viewWord v)

/-- GET_VIEW: a unit not used reads as zero (Table 15.5). -/
def mgtView : MgtAct := fun args s =>
  let v := argNat args 0 1
  if 63 < v then refuse stBadArg s else (stOk, s.viewBytes v, s)

/-- MGT_GET_VIEW. -/
def execMgtGetView (r : MgtReq) (s : State) : Result := .next (s.mgtRun r 0x11 1 gateRead mgtView)

/-- SET_MGMT_VIEW: a unit not used also sets LOCKED_WRITE, whose OFFSET is stated nowhere and free. -/
def mgtSetView : MgtAct := fun args s =>
  let v := argNat args 0 1
  let x := argNat args 1 1
  if 52 ≤ v ∧ v ≤ 63 then
    let (k, s) := s.takeFree
    refuse stBadArg (s.locked (k % 2 ^ 24) .mgmt)
  else if 63 < v ∨ 1 < x then refuse stBadArg s
  else
    let s := (s.manageView v (x == 1)).schedule none
    (stOk, s.viewBytes v, s)

/-- MGT_SET_MGMT_VIEW. -/
def execMgtSetMgmtView (r : MgtReq) (s : State) : Result := .next (s.mgtWrite (.mgtSetMgmtView r) r 0x12 2 gateWrite mgtSetView)

/-- RECONCILE (R465). -/
def mgtReconcileAct : MgtAct := fun args s =>
  let v := argNat args 0 1
  let target := argNat args 1 1
  if 52 ≤ v ∧ v ≤ 63 then refuse stBadArg (s.locked 0xE0010 .mgmt)
  else if 63 < v ∨ target = 0 ∨ 2 < target then refuse stBadArg s
  else
    let x := s.reconcile v target
    if x.1 then (stRefused, [], x.2) else (stOk, x.2.viewBytes v, x.2)

/-- MGT_RECONCILE. -/
def execMgtReconcile (r : MgtReq) (s : State) : Result := .next (s.mgtWrite (.mgtReconcile r) r 0x13 2 gateWrite mgtReconcileAct)

/-- MGT_SEQ_ABORT: acts as FLT_CMD.SEQ_ABORT. -/
def execMgtSeqAbort (r : MgtReq) (s : State) : Result :=
  .next (s.mgtWrite (.mgtSeqAbort r) r 0x14 0 gateWrite (fun _ s => (stOk, [], s.writeFltCmd 1 .mgmt)))

/-! ### Power and resets (R528) -/

/-- POWER_REQ. -/
def mgtPower : MgtAct := fun args s =>
  let q := argNat args 0 1
  if q = 0 ∨ 5 < q then refuse stBadArg s
  else if q = 5 then
    if s.pwr.state ≠ .midnight then refuse stState s
    else (stOk, [], s.askExit)
  else if s.pwr.state = .midnight then refuse stState s
  else (stOk, [], s.writePwrCmd (BitVec.ofNat 32 q) .mgmt)

/-- MGT_POWER_REQ. -/
def execMgtPowerReq (r : MgtReq) (s : State) : Result := .next (s.mgtWrite (.mgtPowerReq r) r 0x20 1 ⟨false, false, true⟩ mgtPower)

/-- MGT_MIDNIGHT_EXIT: POWER_REQ 5. -/
def execMgtMidnightExit (r : MgtReq) (s : State) : Result :=
  .next (s.mgtWrite (.mgtMidnightExit r) r 0x20 1 ⟨false, false, true⟩ mgtPower)

/-- WARM_RESET: only while READY is 1 (Table 18.1). -/
def mgtWarm : MgtAct := fun args s =>
  if !s.boot.ready then refuse stBusy s
  else if argNat args 0 2 ≠ 0x57A3 then refuse stBadArg s
  else (stOk, [], s.startWarm 9)

/-- MGT_WARM_RESET. -/
def execMgtWarmReset (r : MgtReq) (s : State) : Result := .next (s.mgtWrite (.mgtWarmReset r) r 0x21 2 gateWrite mgtWarm)

/-- COLD_START: due 5 ms after the Block Write, or 1 ms after its response is read. -/
def mgtCold (t : Nat) : MgtAct := fun args s =>
  if argNat args 0 2 ≠ 0xC01D then refuse stBadArg s
  else (stOk, [], { s with boot := { s.boot with coldAt := some (t + 5000000) } })

/-- MGT_COLD_START: it acts in every state, a Night exit included (R515, R533). -/
def execMgtColdStart (r : MgtReq) (t : Nat) (s : State) : Result :=
  let s := s.reachClk t
  .next (s.mgtRun r 0x22 2 gateAll (mgtCold s.clk))

/-! ### Records, the defect map and the alert -/

/-- READ_RECORD. -/
def mgtRecord : MgtAct := fun args s =>
  let i := argNat args 0 1
  if 127 < i then refuse stBadArg s else (stOk, (List.range 8).flatMap (fun w => leBytes 4 ((s.rec_ i).word w)), s)

/-- MGT_READ_RECORD. -/
def execMgtReadRecord (r : MgtReq) (s : State) : Result := .next (s.mgtRun r 0x30 1 gateAll mgtRecord)

/-- READ_DMAP: an index at or above COUNT reads as zeros (R531). -/
def mgtDmap : MgtAct := fun args s =>
  (stOk, (List.range 4).flatMap (fun k => leBytes 4 (s.dmapWord (argNat args 0 2) k)), s)

/-- MGT_READ_DMAP. -/
def execMgtReadDmap (r : MgtReq) (s : State) : Result := .next (s.mgtRun r 0x31 2 gateRead mgtDmap)

/-- MGT_UNPIN: acts as FLT_CMD.UNPIN, in boot too (R532). -/
def execMgtUnpin (r : MgtReq) (s : State) : Result :=
  .next (s.mgtWrite (.mgtUnpin r) r 0x32 0 ⟨true, false, true⟩ (fun _ s => (stOk, [], s.writeFltCmd 2 .mgmt)))

/-- MGT_ALERT_STATUS. -/
def execMgtAlertStatus (r : MgtReq) (s : State) : Result := .next (s.mgtRun r 0x40 0 gateAll (reads (fun s => s.regBytes 0xC0008)))

/-- ALERT_ACK (R529): PEND bits are cleared by mask. -/
def mgtAck : MgtAct := fun args s =>
  let s := s.setReg 0xC0008 (s.reg 0xC0008 &&& ~~~BitVec.ofNat 32 (argNat args 0 4))
  (stOk, s.regBytes 0xC0008, s)

/-- MGT_ALERT_ACK. -/
def execMgtAlertAck (r : MgtReq) (s : State) : Result := .next (s.mgtWrite (.mgtAlertAck r) r 0x41 4 ⟨true, false, true⟩ mgtAck)

/-! ### Block Reads and the bus (R522, R528, R529, R534) -/

/-- The held response is read: it stays readable; the first read of COLD_START's OK moves the cold start to 1 ms after it (R528). -/
def State.readResponse (s : State) (bs : List Byte) : State :=
  let first := s.mgt.unread && decide (s.mgt.lastCode = 0x22) && decide (s.mgt.lastStatus = stOk) && s.boot.coldAt.isSome
  let s := (s.setMgt { s.mgt with unread := false }).send (.mgtBlock bs)
  if first then { s with boot := { s.boot with coldAt := some (s.clk + 1000000) } } else s

/-- MGT_READ_RESPONSE (R522): the held response, or NOT_READY under the newest command's TAG; before any command that TAG is a free value. -/
def execMgtReadResponse (t : Nat) (s : State) : Result :=
  let s := s.reachClk t
  .next (if !s.mgtAnswers then s
    else match s.mgt.response, s.mgt.tag with
      | some bs, _ => s.readResponse bs
      | none, some tag => s.send (.mgtBlock [BitVec.ofNat 8 tag, BitVec.ofNat 8 stNotReady])
      | none, none =>
        let (k, s) := s.takeFree
        s.send (.mgtBlock [BitVec.ofNat 8 k, BitVec.ofNat 8 stNotReady]))

/-- MGT_ALERT_RESPONSE (R529): while MGT_ALERT_N is driven low the port answers with its address and releases the line. -/
def execMgtAlertResponse (s : State) : Result :=
  .next (if s.mgtAnswers && s.alertLow then (s.setMgt { s.mgt with released := true }).send (.mgtAlert s.mgt.addr) else s)

/-- MGT_BUS_TIMEOUT (Table 18.5): the transaction is abandoned; after a buffer error the response is lost too. -/
def execMgtBusTimeout (ue : Bool) (s : State) : Result :=
  .next (if !s.mgtAnswers then s
    else
      let s := if ue then s.setMgt { s.mgt with response := none, unread := false } else s
      s.portError 2)

end Sys2Proof.Machine
end

