-- ==== Sys2Proof/Machine/Test.lean ====
section
/-! DEFINITION. Machine/Test.lean: the test access port (R558, R559) and the stacks' temperature outputs (R564). -/

namespace Sys2Proof.Machine

/-- IDCODE (R558): version 2, part 0x4B33, manufacturer 0x25A, bit 0 set. -/
def idCode : Nat := 0x24B334B5

/-- The codes of Table 19.8 other than BYPASS. -/
def testCodes : List Nat := [0x00, 0x01, 0x02, 0x04, 0x05]

/-- Whether a code drives pins (Table 19.8). -/
def drivesPins (code : Nat) : Bool := code == 0x00 || code == 0x04 || code == 0x05

/-- Whether a loaded instruction that drives pins acts: only while PKG_RST_N is low, and not when it has risen since the instruction was loaded
(R559). -/
def State.testDrives (s : State) : Bool := drivesPins s.test.code && !s.boot.rstN && !s.test.parked

/-- What the boundary register drives the pins with, if anything: EXTEST and CLAMP. -/
def State.pinsDriven (s : State) : Option Nat := if s.testDrives && decide (s.test.code ≠ 0x05) then some s.test.boundary else none

/-- Whether HIGHZ holds the pins at high impedance. -/
def State.pinsHighZ (s : State) : Bool := s.testDrives && decide (s.test.code = 0x05)

/-- Update-IR with a code; nothing without power. -/
def State.loadTest (s : State) (code : Nat) : State :=
  if s.boot.powered then { s with test := { s.test with code := code, parked := false } } else s

/-- JTAG_EXTEST (R559): while it drives pins, the bits shifted in are what it drives them with; otherwise it acts as BYPASS. -/
def execJtagExtest (bits : Nat) (s : State) : Result :=
  let s := s.loadTest 0x00
  .next (if s.boot.powered && s.testDrives then { s with test := { s.test with boundary := bits } } else s)

/-- JTAG_IDCODE (R558). -/
def execJtagIdcode (s : State) : Result :=
  .next (if s.boot.powered then (s.loadTest 0x01).send (.testData idCode) else s)

/-- JTAG_SAMPLE_PRELOAD (R558): the pins are captured and shifted out as the boundary register is loaded; no pin is driven. -/
def execJtagSamplePreload (pins bits : Nat) (s : State) : Result :=
  let s := s.loadTest 0x02
  .next (if s.boot.powered then ({ s with test := { s.test with boundary := bits } }).send (.testData pins) else s)

/-- JTAG_CLAMP (R559). -/
def execJtagClamp (s : State) : Result := .next (s.loadTest 0x04)

/-- JTAG_HIGHZ (R559). -/
def execJtagHighz (s : State) : Result := .next (s.loadTest 0x05)

/-- JTAG_BYPASS (R558): 0xFF, and every code that Table 19.8 does not list. -/
def execJtagBypass (code : Nat) (s : State) : Result := .next (if code % 256 ∈ testCodes then s else s.loadTest (code % 256))

/-- JTAG_TEST_LOGIC_RESET (R558): the loaded instruction is replaced (assumption 32); the boundary register keeps its bits. -/
def execJtagTestLogicReset (s : State) : Result :=
  .next { s with test := { TestPort.reset with boundary := s.test.boundary } }

/-- HBM_TEMPERATURE_REPORT (R564): from 85 degrees on the stack is refreshed at twice the normal rate. -/
def execHbmTemperatureReport (u : Fin 8) (c : Nat) (s : State) : Result :=
  .next (if s.pwr.state = .midnight then s
    else s.setPwr { s.pwr with hbmHot := tabSet (fun _ => false) s.pwr.hbmHot u.val (decide (85 ≤ c)) })

end Sys2Proof.Machine
end

