-- ==== Sys2Proof/Machine/Dispatch.lean ====
section
/-! DEFINITION. Machine/Dispatch.lean: one arm per command, each a direct call of its meaning. -/

namespace Sys2Proof.Machine

def exec (i : Instr) (s : State) : Host.Outcome State Fault Refusal :=
  match i with
  | .phrefEdge t => Sys2Proof.Machine.execPhrefEdge t s
  | .phrefMissedCycle t => Sys2Proof.Machine.execPhrefMissedCycle t s
  | .timeRequestRx p from_ t1 t2 t3 => Sys2Proof.Machine.execTimeRequestRx p from_ t1 t2 t3 s
  | .timeResponseRx p from_ t1 t2 t3 t4 => Sys2Proof.Machine.execTimeResponseRx p from_ t1 t2 t3 t4 s
  | .dayStartHiWrite v => Sys2Proof.Machine.execDayStartHiWrite v s
  | .dayHourOfsWrite v => Sys2Proof.Machine.execDayHourOfsWrite v s
  | .dayHoldLimitWrite v => Sys2Proof.Machine.execDayHoldLimitWrite v s
  | .dayCtrlWrite v => Sys2Proof.Machine.execDayCtrlWrite v s
  | .dayResync => Sys2Proof.Machine.execDayResync s
  | .dayVoteMismatch c1 c2 c3 => Sys2Proof.Machine.execDayVoteMismatch c1 c2 c3 s
  | .dayNowLoRead who => Sys2Proof.Machine.execDayNowLoRead who s
  | .pairLoRead off who => Sys2Proof.Machine.execPairLoRead off who s
  | .rcRead off => Sys2Proof.Machine.execRcRead off s
  | .bootStageDone code flash badCores badSlices => Sys2Proof.Machine.execBootStageDone code flash badCores badSlices s
  | .bankBringupStepDone n code wires badRows badEngines badSfu => Sys2Proof.Machine.execBankBringupStepDone n code wires badRows badEngines badSfu s
  | .bankDiscoveryResponse n r => Sys2Proof.Machine.execBankDiscoveryResponse n r s
  | .bridgeFrameRx n toBank frame => Sys2Proof.Machine.execBridgeFrameRx n toBank frame s
  | .bridgeClockLoss n => Sys2Proof.Machine.execBridgeClockLoss n s
  | .bridgeRetrainDone n ok wires => Sys2Proof.Machine.execBridgeRetrainDone n ok wires s
  | .bankTimeMsgRx n crcOk day minute strobeOk posOk => Sys2Proof.Machine.execBankTimeMsgRx n crcOk day minute strobeOk posOk s
  | .bankDieLost n memory pll => Sys2Proof.Machine.execBankDieLost n memory pll s
  | .bankResetDone n ok wires fuse badEngines badSfu => Sys2Proof.Machine.execBankResetDone n ok wires fuse badEngines badSfu s
  | .bankResetCmd n => Sys2Proof.Machine.execBankResetCmd n s
  | .bankRetryCmd n => Sys2Proof.Machine.execBankRetryCmd n s
  | .doorbellPoll t => Sys2Proof.Machine.execDoorbellPoll t s
  | .doorbellReadDone b data => Sys2Proof.Machine.execDoorbellReadDone b data s
  | .descriptorFetchDone c data => Sys2Proof.Machine.execDescriptorFetchDone c data s
  | .nop c => Sys2Proof.Machine.execNop c s
  | .copy c data => Sys2Proof.Machine.execCopy c data s
  | .fill c => Sys2Proof.Machine.execFill c s
  | .signal c => Sys2Proof.Machine.execSignal c s
  | .wait c => Sys2Proof.Machine.execWait c s
  | .waitPoll c => Sys2Proof.Machine.execWaitPoll c s
  | .waitTimeout c => Sys2Proof.Machine.execWaitTimeout c s
  | .layer c => Sys2Proof.Machine.execLayer c s
  | .layerSkip c => Sys2Proof.Machine.execLayerSkip c s
  | .groupedOp c => Sys2Proof.Machine.execGroupedOp c s
  | .sfuPassElementwise c => Sys2Proof.Machine.execSfuPassElementwise c s
  | .sfuPassSoftmax c => Sys2Proof.Machine.execSfuPassSoftmax c s
  | .sfuPassLayerNorm c => Sys2Proof.Machine.execSfuPassLayerNorm c s
  | .sfuPassRmsNorm c => Sys2Proof.Machine.execSfuPassRmsNorm c s
  | .biasWrite c => Sys2Proof.Machine.execBiasWrite c s
  | .routeVersion c => Sys2Proof.Machine.execRouteVersion c s
  | .collectiveAllReduce c => Sys2Proof.Machine.execCollectiveAllReduce c s
  | .collectiveReduceScatter c => Sys2Proof.Machine.execCollectiveReduceScatter c s
  | .collectiveAllGather c => Sys2Proof.Machine.execCollectiveAllGather c s
  | .collectiveBroadcast c => Sys2Proof.Machine.execCollectiveBroadcast c s
  | .collectiveReduce c => Sys2Proof.Machine.execCollectiveReduce c s
  | .groupForm c => Sys2Proof.Machine.execGroupForm c s
  | .groupDissolve c => Sys2Proof.Machine.execGroupDissolve c s
  | .dawnAllReduce c data => Sys2Proof.Machine.execDawnAllReduce c data s
  | .dawnBroadcast c data => Sys2Proof.Machine.execDawnBroadcast c data s
  | .dawnBarrier c => Sys2Proof.Machine.execDawnBarrier c s
  | .handoffSend c => Sys2Proof.Machine.execHandoffSend c s
  | .handoffRecv c => Sys2Proof.Machine.execHandoffRecv c s
  | .ingestBind c => Sys2Proof.Machine.execIngestBind c s
  | .ingestUnbind c => Sys2Proof.Machine.execIngestUnbind c s
  | .keepMap c => Sys2Proof.Machine.execKeepMap c s
  | .leaseTake c => Sys2Proof.Machine.execLeaseTake c s
  | .leaseRenew c => Sys2Proof.Machine.execLeaseRenew c s
  | .leaseRelease c => Sys2Proof.Machine.execLeaseRelease c s
  | .atpUpdate c => Sys2Proof.Machine.execAtpUpdate c s
  | .descriptorComplete c idx => Sys2Proof.Machine.execDescriptorComplete c idx s
  | .completionHeadRead data => Sys2Proof.Machine.execCompletionHeadRead data s
  | .irqDelayExpiry c t => Sys2Proof.Machine.execIrqDelayExpiry c t s
  | .hostReadTimeout r => Sys2Proof.Machine.execHostReadTimeout r s
  | .pcieLinkLoss ns => Sys2Proof.Machine.execPcieLinkLoss ns s
  | .perstDeassert width speed => Sys2Proof.Machine.execPerstDeassert width speed s
  | .functionLevelReset hot => Sys2Proof.Machine.execFunctionLevelReset hot s
  | .ringEnable c v => Sys2Proof.Machine.execRingEnable c v s
  | .ringDisable c v => Sys2Proof.Machine.execRingDisable c v s
  | .evqEnable v => Sys2Proof.Machine.execEvqEnable v s
  | .ctxOpen c => Sys2Proof.Machine.execCtxOpen c s
  | .ctxClose c => Sys2Proof.Machine.execCtxClose c s
  | .ctxTeardown c => Sys2Proof.Machine.execCtxTeardown c s
  | .teardownDone c => Sys2Proof.Machine.execTeardownDone c s
  | .groupEnd p ns => Sys2Proof.Machine.execGroupEnd p ns s
  | .ballastEnd p => Sys2Proof.Machine.execBallastEnd p s
  | .spillDelayExpiry t => Sys2Proof.Machine.execSpillDelayExpiry t s
  | .controlCoreHeartbeatMiss k => Sys2Proof.Machine.execControlCoreHeartbeatMiss k s
  | .controlCoreError k => Sys2Proof.Machine.execControlCoreError k s
  | .pageWalkDone unit c va => Sys2Proof.Machine.execPageWalkDone unit c va s
  | .atpRootWrite c hi v who => Sys2Proof.Machine.execAtpRootWrite c hi v who s
  | .memoryCe pa loc row => Sys2Proof.Machine.execMemoryCe pa loc row s
  | .memoryUe pa loc row reader => Sys2Proof.Machine.execMemoryUe pa loc row reader s
  | .ingestLaneUp lane => Sys2Proof.Machine.execIngestLaneUp lane s
  | .alignmentMarkerRx lane => Sys2Proof.Machine.execAlignmentMarkerRx lane s
  | .ingestLaneLost lane got => Sys2Proof.Machine.execIngestLaneLost lane got s
  | .ingestCandidate pos hdr => Sys2Proof.Machine.execIngestCandidate pos hdr s
  | .ingestVerifyHeader pos hdr age => Sys2Proof.Machine.execIngestVerifyHeader pos hdr age s
  | .ingestLockHeader hdr age => Sys2Proof.Machine.execIngestLockHeader hdr age s
  | .ingestFrameEnd payload crc => Sys2Proof.Machine.execIngestFrameEnd payload crc s
  | .ingestPublish stream => Sys2Proof.Machine.execIngestPublish stream s
  | .tableSplit k => Sys2Proof.Machine.execTableSplit k s
  | .combineReadReturn slot epoch => Sys2Proof.Machine.execCombineReadReturn slot epoch s
  | .eveningLoop k => Sys2Proof.Machine.execEveningLoop k s
  | .rteEveParamWrite k limit v => Sys2Proof.Machine.execRteEveParamWrite k limit v s
  | .routeSelfTest ok => Sys2Proof.Machine.execRouteSelfTest ok s
  | .biasTableUe k corrected => Sys2Proof.Machine.execBiasTableUe k corrected s
  | .engineCommandRx p => Sys2Proof.Machine.execEngineCommandRx p s
  | .engineError p corrected => Sys2Proof.Machine.execEngineError p corrected s
  | .engineResultBad p sfu => Sys2Proof.Machine.execEngineResultBad p sfu s
  | .engineWatchdog p t => Sys2Proof.Machine.execEngineWatchdog p t s
  | .sfuError b corrected tile => Sys2Proof.Machine.execSfuError b corrected tile s
  | .sfuSelfTest b ok => Sys2Proof.Machine.execSfuSelfTest b ok s
  | .handoffOfferRx from_ channel seq n d wire mask => Sys2Proof.Machine.execHandoffOfferRx from_ channel seq n d wire mask s
  | .handoffGrantRx from_ channel seq handle epoch credits refused => Sys2Proof.Machine.execHandoffGrantRx from_ channel seq handle epoch credits refused s
  | .handoffBusyRx from_ channel seq => Sys2Proof.Machine.execHandoffBusyRx from_ channel seq s
  | .handoffOfferRetry c idx t => Sys2Proof.Machine.execHandoffOfferRetry c idx t s
  | .handoffMaskRx from_ handle epoch data crc => Sys2Proof.Machine.execHandoffMaskRx from_ handle epoch data crc s
  | .handoffChunkRx from_ handle epoch chunk data crc => Sys2Proof.Machine.execHandoffChunkRx from_ handle epoch chunk data crc s
  | .handoffChunkWriteDone handle chunk => Sys2Proof.Machine.execHandoffChunkWriteDone handle chunk s
  | .handoffAckRx from_ handle chunk credits => Sys2Proof.Machine.execHandoffAckRx from_ handle chunk credits s
  | .handoffNackRx from_ handle chunk => Sys2Proof.Machine.execHandoffNackRx from_ handle chunk s
  | .handoffStaleRx from_ handle epoch => Sys2Proof.Machine.execHandoffStaleRx from_ handle epoch s
  | .recvLeaseExpiry handle => Sys2Proof.Machine.execRecvLeaseExpiry handle s
  | .reorderSlotUe slot row corrected => Sys2Proof.Machine.execReorderSlotUe slot row corrected s
  | .slotWatchdog slot t => Sys2Proof.Machine.execSlotWatchdog slot t s
  | .linkRecordsRx p r => Sys2Proof.Machine.execLinkRecordsRx p r s
  | .linkTrainDone p good margins => Sys2Proof.Machine.execLinkTrainDone p good margins s
  | .linkConfirmDone p credits window => Sys2Proof.Machine.execLinkConfirmDone p credits window s
  | .flitRx p flit retrain => Sys2Proof.Machine.execFlitRx p flit retrain s
  | .replayStall p t => Sys2Proof.Machine.execReplayStall p t s
  | .linkRetrainDone p ok good margins => Sys2Proof.Machine.execLinkRetrainDone p ok good margins s
  | .lnkRetrainCmd p => Sys2Proof.Machine.execLnkRetrainCmd p s
  | .lnkEnableWrite p v => Sys2Proof.Machine.execLnkEnableWrite p v s
  | .routeStaleRx m => Sys2Proof.Machine.execRouteStaleRx m s
  | .remoteRequestRx p from_ tag apt write ra len data => Sys2Proof.Machine.execRemoteRequestRx p from_ tag apt write ra len data s
  | .remoteResponseRx tag outcome data => Sys2Proof.Machine.execRemoteResponseRx tag outcome data s
  | .remoteRequestTimeout tag t => Sys2Proof.Machine.execRemoteRequestTimeout tag t s
  | .interruptRx p from_ tag apt value => Sys2Proof.Machine.execInterruptRx p from_ tag apt value s
  | .debugRequestRx p from_ write off => Sys2Proof.Machine.execDebugRequestRx p from_ write off s
  | .peerListRx b peers => Sys2Proof.Machine.execPeerListRx b peers s
  | .discoveryProbeRx p origin hops => Sys2Proof.Machine.execDiscoveryProbeRx p origin hops s
  | .discoveryRecordRx p r t => Sys2Proof.Machine.execDiscoveryRecordRx p r t s
  | .discoveryElectionTimer t => Sys2Proof.Machine.execDiscoveryElectionTimer t s
  | .discoverySettle t => Sys2Proof.Machine.execDiscoverySettle t s
  | .apertureBind a v => Sys2Proof.Machine.execApertureBind a v s
  | .rwinEnable c w v => Sys2Proof.Machine.execRwinEnable c w v s
  | .joinRx from_ g j => Sys2Proof.Machine.execJoinRx from_ g j s
  | .formedRx g epoch reason => Sys2Proof.Machine.execFormedRx g epoch reason s
  | .formLimitExpiry g => Sys2Proof.Machine.execFormLimitExpiry g s
  | .announceRx from_ g gepoch cseq a valid => Sys2Proof.Machine.execAnnounceRx from_ g gepoch cseq a valid s
  | .goRx g gepoch cseq ring => Sys2Proof.Machine.execGoRx g gepoch cseq ring s
  | .refuseRx g gepoch cseq reason => Sys2Proof.Machine.execRefuseRx g gepoch cseq reason s
  | .collectiveLaunch g cseq => Sys2Proof.Machine.execCollectiveLaunch g cseq s
  | .collectiveChunkRx from_ h data crc => Sys2Proof.Machine.execCollectiveChunkRx from_ h data crc s
  | .collectiveAckRx from_ h nack => Sys2Proof.Machine.execCollectiveAckRx from_ h nack s
  | .residueMismatch n => Sys2Proof.Machine.execResidueMismatch n s
  | .collectiveLeaseExpiry g cseq => Sys2Proof.Machine.execCollectiveLeaseExpiry g cseq s
  | .suspectRx from_ g gepoch lost t => Sys2Proof.Machine.execSuspectRx from_ g gepoch lost t s
  | .suspectGatherExpiry g t => Sys2Proof.Machine.execSuspectGatherExpiry g t s
  | .probeRx from_ g gepoch answer => Sys2Proof.Machine.execProbeRx from_ g gepoch answer s
  | .probeTimeout g t => Sys2Proof.Machine.execProbeTimeout g t s
  | .reformRx from_ g epoch live last => Sys2Proof.Machine.execReformRx from_ g epoch live last s
  | .reformAckRx from_ g epoch => Sys2Proof.Machine.execReformAckRx from_ g epoch s
  | .resumeRx g epoch => Sys2Proof.Machine.execResumeRx g epoch s
  | .dawnSlotRx p slot t => Sys2Proof.Machine.execDawnSlotRx p slot t s
  | .dawnAckRx p slot => Sys2Proof.Machine.execDawnAckRx p slot s
  | .dawnResendTimer p t => Sys2Proof.Machine.execDawnResendTimer p t s
  | .sstatFrameRx frame t => Sys2Proof.Machine.execSstatFrameRx frame t s
  | .sstatLoss t => Sys2Proof.Machine.execSstatLoss t s
  | .railSag m nominal mv plausible => Sys2Proof.Machine.execRailSag m nominal mv plausible s
  | .hourAccounting m => Sys2Proof.Machine.execHourAccounting m s
  | .loadStepArm idx v who => Sys2Proof.Machine.execLoadStepArm idx v who s
  | .loadStep idx => Sys2Proof.Machine.execLoadStep idx s
  | .thermalTrip d b c => Sys2Proof.Machine.execThermalTrip d b c s
  | .nightExitDone banks => Sys2Proof.Machine.execNightExitDone banks s
  | .leaseExpiry res => Sys2Proof.Machine.execLeaseExpiry res s
  | .reconcile v => Sys2Proof.Machine.execReconcile v s
  | .recordStoreUe idx => Sys2Proof.Machine.execRecordStoreUe idx s
  | .hubStateUe where_ => Sys2Proof.Machine.execHubStateUe where_ s
  | .packageFault source code unit => Sys2Proof.Machine.execPackageFault source code unit s
  | .agingMonitorSample kind unit value => Sys2Proof.Machine.execAgingMonitorSample kind unit value s
  | .repairStepDone ok => Sys2Proof.Machine.execRepairStepDone ok s
  | .repairStepTimeout t => Sys2Proof.Machine.execRepairStepTimeout t s
  | .dmapEntryRead who => Sys2Proof.Machine.execDmapEntryRead who s
  | .powerOn straps => Sys2Proof.Machine.execPowerOn straps s
  | .pkgRstNAssert ns => Sys2Proof.Machine.execPkgRstNAssert ns s
  | .pkgRstNRelease straps => Sys2Proof.Machine.execPkgRstNRelease straps s
  | .supplyBrownout rail => Sys2Proof.Machine.execSupplyBrownout rail s
  | .warmReset v => Sys2Proof.Machine.execWarmReset v s
  | .warmResetDone banks badCores badSlices => Sys2Proof.Machine.execWarmResetDone banks badCores badSlices s
  | .resetTimeout t => Sys2Proof.Machine.execResetTimeout t s
  | .mgtGetId code r => Sys2Proof.Machine.execMgtGetId code r s
  | .mgtGetState r => Sys2Proof.Machine.execMgtGetState r s
  | .mgtReadReg r => Sys2Proof.Machine.execMgtReadReg r s
  | .mgtWriteReg r => Sys2Proof.Machine.execMgtWriteReg r s
  | .mgtTelemetry r => Sys2Proof.Machine.execMgtTelemetry r s
  | .mgtGetView r => Sys2Proof.Machine.execMgtGetView r s
  | .mgtSetMgmtView r => Sys2Proof.Machine.execMgtSetMgmtView r s
  | .mgtReconcile r => Sys2Proof.Machine.execMgtReconcile r s
  | .mgtSeqAbort r => Sys2Proof.Machine.execMgtSeqAbort r s
  | .mgtPowerReq r => Sys2Proof.Machine.execMgtPowerReq r s
  | .mgtMidnightExit r => Sys2Proof.Machine.execMgtMidnightExit r s
  | .mgtWarmReset r => Sys2Proof.Machine.execMgtWarmReset r s
  | .mgtColdStart r t => Sys2Proof.Machine.execMgtColdStart r t s
  | .coldStartDelay t => Sys2Proof.Machine.execColdStartDelay t s
  | .mgtReadRecord r => Sys2Proof.Machine.execMgtReadRecord r s
  | .mgtReadDmap r => Sys2Proof.Machine.execMgtReadDmap r s
  | .mgtUnpin r => Sys2Proof.Machine.execMgtUnpin r s
  | .mgtAlertStatus r => Sys2Proof.Machine.execMgtAlertStatus r s
  | .mgtAlertAck r => Sys2Proof.Machine.execMgtAlertAck r s
  | .mgtReadResponse t => Sys2Proof.Machine.execMgtReadResponse t s
  | .mgtBusTimeout ue => Sys2Proof.Machine.execMgtBusTimeout ue s
  | .jtagExtest bits => Sys2Proof.Machine.execJtagExtest bits s
  | .jtagSamplePreload pins bits => Sys2Proof.Machine.execJtagSamplePreload pins bits s
  | .jtagBypass code => Sys2Proof.Machine.execJtagBypass code s
  | .hubErrClear who => Sys2Proof.Machine.execHubErrClear who s
  | .bar0IllegalAccess write off len data => Sys2Proof.Machine.execBar0IllegalAccess write off len data s
  | .registerWrite off v who => Sys2Proof.Machine.execRegisterWrite off v who s
  | .temperatureSample d a b => Sys2Proof.Machine.execTemperatureSample d a b s
  | .railSagEnd m nominal mv plausible => Sys2Proof.Machine.execRailSagEnd m nominal mv plausible s
  | .pcieLinkReturn width speed => Sys2Proof.Machine.execPcieLinkReturn width speed s
  | .hbmTemperatureReport u c => Sys2Proof.Machine.execHbmTemperatureReport u c s
  | .dayBoundary => Sys2Proof.Machine.execDayBoundary s
  | .minuteStrobe => Sys2Proof.Machine.execMinuteStrobe s
  | .holdoverExpiry => Sys2Proof.Machine.execHoldoverExpiry s
  | .acquireTimeout => Sys2Proof.Machine.execAcquireTimeout s
  | .timeExchange => Sys2Proof.Machine.execTimeExchange s
  | .leaderTimeout => Sys2Proof.Machine.execLeaderTimeout s
  | .adoptRequestTimer => Sys2Proof.Machine.execAdoptRequestTimer s
  | .adoptionLimit => Sys2Proof.Machine.execAdoptionLimit s
  | .adoptionFallback => Sys2Proof.Machine.execAdoptionFallback s
  | .refclkLoss => Sys2Proof.Machine.execRefclkLoss s
  | .hubWakePoll => Sys2Proof.Machine.execHubWakePoll s
  | .perstAssert => Sys2Proof.Machine.execPerstAssert s
  | .hostResetDone => Sys2Proof.Machine.execHostResetDone s
  | .d3hotEntry => Sys2Proof.Machine.execD3hotEntry s
  | .d0Return => Sys2Proof.Machine.execD0Return s
  | .ingestBufferFull got => Sys2Proof.Machine.execIngestBufferFull got s
  | .ingestResyncCmd => Sys2Proof.Machine.execIngestResyncCmd s
  | .routeStage => Sys2Proof.Machine.execRouteStage s
  | .combineStage => Sys2Proof.Machine.execCombineStage s
  | .combineSlotRelease => Sys2Proof.Machine.execCombineSlotRelease s
  | .routeParityError => Sys2Proof.Machine.execRouteParityError s
  | .engineMapHoldExpiry => Sys2Proof.Machine.execEngineMapHoldExpiry s
  | .staleHoldExpiry => Sys2Proof.Machine.execStaleHoldExpiry s
  | .routeArm => Sys2Proof.Machine.execRouteArm s
  | .routeDefault => Sys2Proof.Machine.execRouteDefault s
  | .routeChangeover => Sys2Proof.Machine.execRouteChangeover s
  | .previousRouteDiscard => Sys2Proof.Machine.execPreviousRouteDiscard s
  | .stagingReserved => Sys2Proof.Machine.execStagingReserved s
  | .rideThroughEnd => Sys2Proof.Machine.execRideThroughEnd s
  | .powerReqNoon => Sys2Proof.Machine.execPowerReqNoon s
  | .powerReqDusk => Sys2Proof.Machine.execPowerReqDusk s
  | .powerReqNight => Sys2Proof.Machine.execPowerReqNight s
  | .powerReqMidnight => Sys2Proof.Machine.execPowerReqMidnight s
  | .duskEntry => Sys2Proof.Machine.execDuskEntry s
  | .nightAuto => Sys2Proof.Machine.execNightAuto s
  | .nightEntry => Sys2Proof.Machine.execNightEntry s
  | .bracketCommit => Sys2Proof.Machine.execBracketCommit s
  | .seqAbort => Sys2Proof.Machine.execSeqAbort s
  | .unpin => Sys2Proof.Machine.execUnpin s
  | .shadowStoreUe => Sys2Proof.Machine.execShadowStoreUe s
  | .repairCancel => Sys2Proof.Machine.execRepairCancel s
  | .dmapFlashWrite => Sys2Proof.Machine.execDmapFlashWrite s
  | .mgtAlertResponse => Sys2Proof.Machine.execMgtAlertResponse s
  | .jtagIdcode => Sys2Proof.Machine.execJtagIdcode s
  | .jtagClamp => Sys2Proof.Machine.execJtagClamp s
  | .jtagHighz => Sys2Proof.Machine.execJtagHighz s
  | .duskExitDone => Sys2Proof.Machine.execDuskExitDone s
  | .jtagTestLogicReset => Sys2Proof.Machine.execJtagTestLogicReset s

end Sys2Proof.Machine
end

