-- ==== Sys2Proof/Machine/Step.lean ====
section
/-! DEFINITION. Machine/Step.lean: one step takes the command at the front of the queue; on an empty queue the package's own clock goes on. -/

namespace Sys2Proof.Machine

/-- A step on an empty queue (assumption 3): the oldest command that a sleeping package has held runs once it is awake (R434); else one
nanosecond passes. -/
def idle (s : State) : Host.Outcome State Fault Refusal :=
  match s.pwr.wakeWork with
  | c :: rest => if s.awake then exec c { s with pwr := { s.pwr with wakeWork := rest } } else .next { s with clk := s.clk + 1 }
  | [] => .next { s with clk := s.clk + 1 }

/-- One step: the command at the front, with the rest of the queue. -/
def step (s : State) : Host.Outcome State Fault Refusal :=
  match s.pending with
  | c :: rest => exec c { s with pending := rest }
  | [] => idle s

/-- The state with the command that a word spells put at the front of the queue; the table's rows give no bits, so no word spells one. -/
def State.withFetchWord (s : State) (nbits w : Nat) : State :=
  match decodeTableWord nbits w with
  | some c => { s with pending := c :: s.pending }
  | none => s

end Sys2Proof.Machine
end

