-- ==== Sys2Proof/WellFormed.lean ====
section
/-! DEFINITION. WellFormed.lean: the bounds on a command's operands that its type does not give: lengths of blocks, frames, flits and slots, register
offsets, and numbers of units. No meaning relies on them; they say which commands an environment can form. -/

namespace Sys2Proof

/-- What a read of `n` bytes of host memory gave (R96, R98). -/
def bytesOk (n : Nat) : Option (List Byte) → Bool
  | none => true
  | some bs => bs.length == n

/-- What a fetch gave: 1 to 32 descriptors of eight words (R104, Table 4.3). -/
def fetchOk : Option (List (List DWord)) → Bool
  | none => true
  | some ds => decide (0 < ds.length) && decide (ds.length ≤ 32) && ds.all (fun d => d.length == 8)

/-- An offset of a register of BAR 0 (R12, R92). -/
def regOffset (off : Nat) : Bool := decide (off < 2 ^ 24) && off % 4 == 0

/-- Physical engines of a bank die (R18). -/
def enginesOk (l : List Nat) : Bool := l.all (fun e => decide (e < 5))

/-- Wires of a bridge: groups 0 to 31 with 33 functional wires each, and two wires of the seven duplicated pairs (Table 3.1, R64). -/
def wiresOk (w : WireTest) : Bool :=
  let wire := fun (p : Nat × Nat) => decide (p.1 < 32) && decide (p.2 < 33)
  w.badH2b.all wire && w.badB2h.all wire && (w.eyesH2b ++ w.eyesB2h).all (fun x => wire (x.1, x.2.1)) &&
    w.badPairs.all (fun p => decide (p.1 < 7) && decide (p.2 < 2))

/-- A fuse record (Table 3.4). -/
def fuseOk (r : FuseRecord) : Bool := decide (r.pos < 4) && decide (r.serial < 2 ^ 48)

/-- The results of the four bank dies. -/
def banksOk (l : List BankUp) : Bool :=
  l.length == 4 && l.all (fun b => enginesOk b.badEngines && wiresOk b.wires && decide (b.code < 10) && b.fuse.toList.all fuseOk)

/-- A position on the installation Day (Table 2.8). -/
def posOk (p : DayPos) : Bool := decide (p.day < 2 ^ 48) && decide (p.minute < 1440) && decide (p.tick < 2 ^ 14)

/-- The unit of an aging monitor (R487). -/
def agingOk (kind : Fin 4) (unit : Nat) : Bool := decide (unit < [20, 5, 10, 64].getD kind.val 0)

/-- A width and speed of the PCI Express link (Table 4.13). -/
def linkOk (width speed : Nat) : Bool := [1, 2, 4, 8, 16].contains width && decide (1 ≤ speed) && decide (speed ≤ 5)

/-- Whether a command's operands keep their bounds. -/
def Instr.wf (i : Instr) : Bool :=
  match i with
  | .phrefEdge _ => true
  | .phrefMissedCycle _ => true
  | .timeRequestRx _ i t1 _ _ => posOk i.pos && posOk t1
  | .timeResponseRx _ i t1 t2 t3 _ => posOk i.pos && posOk t1 && posOk t2 && posOk t3
  | .dayStartHiWrite _ => true
  | .dayHourOfsWrite _ => true
  | .dayHoldLimitWrite _ => true
  | .dayCtrlWrite _ => true
  | .dayVoteMismatch c1 c2 c3 => posOk c1 && posOk c2 && posOk c3
  | .dayNowLoRead _ => true
  | .pairLoRead off _ => regOffset off
  | .rcRead off => regOffset off
  | .bootStageDone _ _ badCores badSlices => decide (∀ k ∈ badCores, k < 5) && decide (∀ k ∈ badSlices, k < 10)
  | .bankBringupStepDone _ code w badRows badEngines _ =>
    decide (code < 10) && wiresOk w && decide (∀ r ∈ badRows, r.1 < 192 ∧ r.2.1 < 1024 ∧ r.2.2 < 2 ^ 40) && enginesOk badEngines
  | .bankDiscoveryResponse _ r => fuseOk r
  | .bridgeFrameRx _ _ frame => frame.length == 528
  | .bridgeClockLoss _ => true
  | .bridgeRetrainDone _ _ w => wiresOk w
  | .bankTimeMsgRx _ _ day minute _ _ => decide (day < 2 ^ 48) && decide (minute < 1440)
  | .bankDieLost _ _ _ => true
  | .bankResetDone _ _ w fuse badEngines _ => wiresOk w && fuse.toList.all fuseOk && enginesOk badEngines
  | .bankResetCmd _ => true
  | .bankRetryCmd _ => true
  | .doorbellPoll _ => true
  | .doorbellReadDone _ data => bytesOk 64 data
  | .descriptorFetchDone _ data => fetchOk data
  | .nop _ => true
  | .copy _ _ => true
  | .fill _ => true
  | .signal _ => true
  | .wait _ => true
  | .waitPoll _ => true
  | .waitTimeout _ => true
  | .layer _ => true
  | .layerSkip _ => true
  | .groupedOp _ => true
  | .sfuPassElementwise _ => true
  | .sfuPassSoftmax _ => true
  | .sfuPassLayerNorm _ => true
  | .sfuPassRmsNorm _ => true
  | .biasWrite _ => true
  | .routeVersion _ => true
  | .collectiveAllReduce _ => true
  | .collectiveReduceScatter _ => true
  | .collectiveAllGather _ => true
  | .collectiveBroadcast _ => true
  | .collectiveReduce _ => true
  | .groupForm _ => true
  | .groupDissolve _ => true
  | .dawnAllReduce _ _ => true
  | .dawnBroadcast _ _ => true
  | .dawnBarrier _ => true
  | .handoffSend _ => true
  | .handoffRecv _ => true
  | .ingestBind _ => true
  | .ingestUnbind _ => true
  | .keepMap _ => true
  | .leaseTake _ => true
  | .leaseRenew _ => true
  | .leaseRelease _ => true
  | .atpUpdate _ => true
  | .descriptorComplete _ _ => true
  | .completionHeadRead data => bytesOk 256 data
  | .irqDelayExpiry _ _ => true
  | .hostReadTimeout _ => true
  | .pcieLinkLoss _ => true
  | .perstDeassert width speed => linkOk width speed
  | .functionLevelReset _ => true
  | .ringEnable _ _ => true
  | .ringDisable _ _ => true
  | .evqEnable _ => true
  | .ctxOpen _ => true
  | .ctxClose _ => true
  | .ctxTeardown _ => true
  | .teardownDone _ => true
  | .groupEnd _ _ => true
  | .ballastEnd _ => true
  | .spillDelayExpiry _ => true
  | .controlCoreHeartbeatMiss _ => true
  | .controlCoreError _ => true
  | .pageWalkDone _ _ _ => true
  | .atpRootWrite _ _ _ _ => true
  | .memoryCe _ _ _ => true
  | .memoryUe _ _ _ _ => true
  | .ingestLaneUp _ => true
  | .alignmentMarkerRx _ => true
  | .ingestLaneLost _ _ => true
  | .ingestCandidate _ hdr => hdr.length == 36
  | .ingestVerifyHeader _ hdr _ => hdr.length == 36
  | .ingestLockHeader hdr _ => hdr.length == 36
  | .ingestFrameEnd _ _ => true
  | .ingestPublish _ => true
  | .tableSplit _ => true
  | .combineReadReturn _ epoch => decide (epoch < 2 ^ 32)
  | .eveningLoop _ => true
  | .rteEveParamWrite _ _ _ => true
  | .routeSelfTest _ => true
  | .biasTableUe _ _ => true
  | .engineCommandRx _ => true
  | .engineError _ _ => true
  | .engineResultBad _ _ => true
  | .engineWatchdog _ _ => true
  | .sfuError _ _ _ => true
  | .sfuSelfTest _ _ => true
  | .handoffOfferRx _ _ _ _ _ _ _ => true
  | .handoffGrantRx _ _ _ _ _ _ _ => true
  | .handoffBusyRx _ _ _ => true
  | .handoffOfferRetry _ _ _ => true
  | .handoffMaskRx _ _ _ _ _ => true
  | .handoffChunkRx _ _ _ _ _ _ => true
  | .handoffChunkWriteDone _ _ => true
  | .handoffAckRx _ _ _ _ => true
  | .handoffNackRx _ _ _ => true
  | .handoffStaleRx _ _ _ => true
  | .recvLeaseExpiry _ => true
  | .reorderSlotUe _ _ _ => true
  | .slotWatchdog _ _ => true
  | .linkRecordsRx _ _ => true
  | .linkTrainDone _ good margins => decide (good < 512) && margins.length == 8
  | .linkConfirmDone _ credits window => credits.length == 16 && credits.all (fun k => decide (k ≤ 192)) && decide (window ≤ 512)
  | .flitRx _ flit _ => flit.length == 256
  | .replayStall _ _ => true
  | .linkRetrainDone _ _ good margins => decide (good < 512) && margins.length == 8
  | .lnkRetrainCmd _ => true
  | .lnkEnableWrite _ _ => true
  | .routeStaleRx _ => true
  | .remoteRequestRx _ _ _ _ write _ len data => !write || data.length == len
  | .remoteResponseRx _ _ _ => true
  | .remoteRequestTimeout _ _ => true
  | .interruptRx _ _ _ _ _ => true
  | .debugRequestRx _ _ _ off => regOffset off
  | .peerListRx _ peers => decide (peers.length ≤ 256)
  | .discoveryProbeRx _ _ _ => true
  | .discoveryRecordRx _ _ _ => true
  | .discoveryElectionTimer _ => true
  | .discoverySettle _ => true
  | .apertureBind _ _ => true
  | .rwinEnable _ _ _ => true
  | .joinRx from_ _ _ => decide (from_ < 128)
  | .formedRx _ _ _ => true
  | .formLimitExpiry _ => true
  | .announceRx from_ _ _ _ _ _ => decide (from_ < 128)
  | .goRx _ _ _ _ => true
  | .refuseRx _ _ _ _ => true
  | .collectiveLaunch _ _ => true
  | .collectiveChunkRx from_ _ _ _ => decide (from_ < 128)
  | .collectiveAckRx from_ _ _ => decide (from_ < 128)
  | .residueMismatch _ => true
  | .collectiveLeaseExpiry _ _ => true
  | .suspectRx from_ _ _ lost _ => decide (from_ < 128) && decide (lost < 128)
  | .suspectGatherExpiry _ _ => true
  | .probeRx from_ _ _ _ => decide (from_ < 128)
  | .probeTimeout _ _ => true
  | .reformRx from_ _ _ live _ => decide (from_ < 128) && decide (∀ k ∈ live, k < 128)
  | .reformAckRx from_ _ _ => decide (from_ < 128)
  | .resumeRx _ _ => true
  | .dawnSlotRx _ slot _ => slot.length == 16
  | .dawnAckRx _ slot => slot.length == 16
  | .dawnResendTimer _ _ => true
  | .sstatFrameRx frame _ => frame.length == 8
  | .sstatLoss _ => true
  | .railSag _ nominal mv _ => decide (mv < 65536) && decide (0 < nominal)
  | .hourAccounting _ => true
  | .loadStepArm _ _ _ => true
  | .loadStep _ => true
  | .thermalTrip _ _ c => decide (c < 256)
  | .nightExitDone banks => banksOk banks
  | .leaseExpiry res => res == 1 || (decide (0x100 ≤ res) && decide (res < 0x110))
  | .reconcile _ => true
  | .recordStoreUe _ => true
  | .hubStateUe _ => true
  | .packageFault source code unit => decide (source < 16) && decide (code < 65536) && decide (unit < 65536)
  | .agingMonitorSample kind unit _ => agingOk kind unit
  | .repairStepDone _ => true
  | .repairStepTimeout _ => true
  | .dmapEntryRead _ => true
  | .powerOn straps => decide (straps < 16)
  | .pkgRstNAssert _ => true
  | .pkgRstNRelease straps => decide (straps < 16)
  | .supplyBrownout _ => true
  | .warmReset _ => true
  | .warmResetDone banks badCores badSlices => banksOk banks && decide (∀ k ∈ badCores, k < 5) && decide (∀ k ∈ badSlices, k < 10)
  | .resetTimeout _ => true
  | .mgtGetId _ _ => true
  | .mgtGetState _ => true
  | .mgtReadReg _ => true
  | .mgtWriteReg _ => true
  | .mgtTelemetry _ => true
  | .mgtGetView _ => true
  | .mgtSetMgmtView _ => true
  | .mgtReconcile _ => true
  | .mgtSeqAbort _ => true
  | .mgtPowerReq _ => true
  | .mgtMidnightExit _ => true
  | .mgtWarmReset _ => true
  | .mgtColdStart _ _ => true
  | .coldStartDelay _ => true
  | .mgtReadRecord _ => true
  | .mgtReadDmap _ => true
  | .mgtUnpin _ => true
  | .mgtAlertStatus _ => true
  | .mgtAlertAck _ => true
  | .mgtReadResponse _ => true
  | .mgtBusTimeout _ => true
  | .jtagExtest _ => true
  | .jtagSamplePreload _ _ => true
  | .jtagBypass code => decide (code < 256)
  | .hubErrClear _ => true
  | .bar0IllegalAccess write off len data => decide (off < 2 ^ 24) && (!write || data.length == len)
  | .registerWrite off _ _ => regOffset off
  | .temperatureSample _ a b => decide (a < 256) && decide (b < 256)
  | .railSagEnd _ nominal mv _ => decide (mv < 65536) && decide (0 < nominal)
  | .pcieLinkReturn width speed => linkOk width speed
  | .hbmTemperatureReport _ _ => true
  | .dayBoundary => true
  | .minuteStrobe => true
  | .holdoverExpiry => true
  | .acquireTimeout => true
  | .timeExchange => true
  | .leaderTimeout => true
  | .adoptRequestTimer => true
  | .adoptionLimit => true
  | .adoptionFallback => true
  | .dayResync => true
  | .refclkLoss => true
  | .hubWakePoll => true
  | .perstAssert => true
  | .hostResetDone => true
  | .d3hotEntry => true
  | .d0Return => true
  | .ingestBufferFull _ => true
  | .ingestResyncCmd => true
  | .routeStage => true
  | .combineStage => true
  | .combineSlotRelease => true
  | .routeParityError => true
  | .engineMapHoldExpiry => true
  | .staleHoldExpiry => true
  | .routeArm => true
  | .routeDefault => true
  | .routeChangeover => true
  | .previousRouteDiscard => true
  | .stagingReserved => true
  | .rideThroughEnd => true
  | .powerReqNoon => true
  | .powerReqDusk => true
  | .powerReqNight => true
  | .powerReqMidnight => true
  | .duskEntry => true
  | .nightAuto => true
  | .nightEntry => true
  | .bracketCommit => true
  | .seqAbort => true
  | .unpin => true
  | .shadowStoreUe => true
  | .repairCancel => true
  | .dmapFlashWrite => true
  | .mgtAlertResponse => true
  | .jtagIdcode => true
  | .jtagClamp => true
  | .jtagHighz => true
  | .duskExitDone => true
  | .jtagTestLogicReset => true

end Sys2Proof
end

