-- ==== Sys2Proof/Safety.lean ====
section
/-! DEFINITION. Safety.lean: the terms in which claims about runs are stated: the canonical forms of memory and of the register store, and when boot runs or the host is served. -/

namespace Sys2Proof.Machine

/-- Device memory in its one canonical form: addresses strictly rise, and no entry is zero, which an unlisted address reads as. -/
def Memory.wf (m : List Host.Cell) : Bool := tabWf memDefault m

/-- The register store in its canonical form: offsets strictly rise, and no entry holds its value after a cold start. -/
def Regs.wf (r : Tab Word) : Bool := tabWf regDefault r

/-- The numbered sets of bank dies, rings, contexts and read latches are in canonical form. -/
def State.tablesWf (s : State) : Prop :=
  tabWf (fun _ => Bank.reset) s.banks = true ∧ tabWf (fun _ => Ring.reset) s.rings = true ∧ tabWf (fun _ => Ctx.reset) s.ctxs = true ∧
  tabWf (fun _ => none) s.latchHost = true ∧ tabWf (fun _ => none) s.latchMgmt = true

/-- What every reachable state has: memory, the register store and the numbered sets in canonical form, at most 64 events waiting (R116), a lost count that held at
0xFF (R116), at most eight package records kept over a cold start (R479), and one of the four management addresses (R520). -/
structure Inv (s : State) : Prop where
  mem : Memory.wf s.mem = true
  regs : Regs.wf s.regs = true
  evq : s.host.evq.length ≤ 64
  lost : s.host.lost ≤ 0xFF
  retained : s.flt.retained.length ≤ 8
  addr : 0x58 ≤ s.mgt.addr ∧ s.mgt.addr ≤ 0x5B
  tables : s.tablesWf

/-- The host's writes reach the registers: BAR 0 is served and no warm reset holds them (R95, R507). -/
abbrev State.served (s : State) : Prop := s.barServed = true ∧ s.boot.warm = false

/-- Boot is under way: power, PKG_RST_N high, TEST_MODE low, no halt, not done, not in Midnight (R503). -/
abbrev State.bootRuns (s : State) : Prop :=
  s.boot.halted = false ∧ s.boot.done = false ∧ s.boot.testMode = false ∧ s.boot.rstN = true ∧ s.boot.powered = true ∧ s.pwr.state ≠ .midnight

/-! ### Registers -/

/-- The register write that a row of its own for one register spells, as offset and value: the acting bit of its command is set. -/
def ownWrite : Instr → Option (Nat × Word)
  | .dayCtrlWrite v => some (0x10000, v)
  | .dayHourOfsWrite v => some (0x10020, v)
  | .dayHoldLimitWrite v => some (0x10024, v)
  | .dayStartHiWrite v => some (0x1002C, v)
  | .dayResync => some (0x10030, 1)
  | .bankResetCmd n => some (0x150 + 4 * n.val, 1)
  | .bankRetryCmd n => some (0x150 + 4 * n.val, 2)
  | .hubWakePoll => some (0x20C, 1)
  | .evqEnable v => some (0x230, v)
  | .repairCancel => some (0x41C, 1)
  | .warmReset v => some (0x508, v)
  | .ringEnable c v => some (0x1010 + 0x20 * c.val, v ||| 0x80000000)
  | .ringDisable c v => some (0x1010 + 0x20 * c.val, v &&& 0x7FFFFFFF)
  | .ctxOpen c => some (0x2004 + 0x40 * c.val, 1)
  | .ctxClose c => some (0x2004 + 0x40 * c.val, 2)
  | .ctxTeardown c => some (0x2004 + 0x40 * c.val, 4)
  | .loadStepArm i v .host => some (0x200C8 + 0x10 * i.val, v)
  | .rteEveParamWrite k limit v => some ((if limit then 0x3010C else 0x30108) + 0x10 * k.val, v)
  | .routeArm => some (0x50018, 1)
  | .routeDefault => some (0x50018, 2)
  | .lnkEnableWrite p v => some (0x60100 + 0x40 * p.val, v)
  | .apertureBind a v => some (0x60400 + 4 * a.val, v)
  | .rwinEnable c w v => some (winReg c.val w.val 0, v)
  | .ingestResyncCmd => some (0x80010, 1)
  | .atpRootWrite c hi v .host => some ((if hi then 0x90104 else 0x90100) + 8 * c.val, v)
  | .powerReqNoon => some (0xD0004, 1)
  | .powerReqDusk => some (0xD0004, 2)
  | .powerReqNight => some (0xD0004, 3)
  | .powerReqMidnight => some (0xD0004, 4)
  | .seqAbort => some (0xE000C, 1)
  | .unpin => some (0xE000C, 2)
  | .reconcile v => some (0xE0010, v)
  | _ => none

/-! ### The Day -/

/-- What a time RESPONSE leaves of its sender (R366): what it said of itself, and t3 as its position on the tick half the round trip before the
RESPONSE came. -/
def DayUnit.told (d : DayUnit) (i : TimeInfo) (now : Nat) (t1 t2 t3 : DayPos) (t4 : Nat) : Neighbour :=
  { state := DayState.ofCode i.state, hops := i.hops, leader := i.leader, adopted := i.adopted, heard := now, pos := t3,
    at_ := (t4 : Int) - tdiv ((d.tickOf t2 - d.tickOf t1) + ((t4 : Int) - d.tickOf t3)) 2 }

/-- The Day Unit's count once it follows from position `pos` on tick `at_` (R40, R59). -/
def DayUnit.steppedTo (d : DayUnit) (pos : DayPos) (at_ : Int) : DayUnit :=
  { d with acc := 0, day := pos.day % 2 ^ 48, dayStart := at_ - ((pos.minute * d.pd / 184320 : Nat) + pos.tick) }

/-- A TIME-class message of this package to the neighbour on torus port `p` (R366, R367). -/
def State.nearMsg (s : State) (p : Nat) (kind : MsgKind) (args : List Nat) : Msg :=
  { kind := kind, src := s.position, dst := ⟨0, s.peerPosition p, 0⟩, epoch := s.routeEpoch, args := args, data := [] }

/-- Message `m`, put off at `s`, waits in the queue of port `p` or has left it, a time REQUEST with t1 (R346, R366). -/
def State.onWay (u s : State) (p : Nat) (m : Msg) : Prop :=
  (∃ f ∈ (u.port p).queue, f.msg = some m) ∨ ∃ i bs, .flit p (some (s.stampMsg m)) i bs ∈ u.sent

/-! ### Starts of descriptors: what each row's start meets (Start.lean), as its meaning asks for it -/

/-- The state in which descriptor `idx` of context `c` reads what it needs: at its start, or (`pos`) for its group on a position. -/
def State.asked (s : State) (c idx : Nat) (pos : Nat := 99) : State := s.setLnk { s.lnk with who := some (c, idx, pos) }

/-- The outcome with which a descriptor's work has ended: completion code, DETAIL and epoch. -/
def State.outcome (s : State) (c idx : Nat) : Option (Nat × Nat × Nat) :=
  match (s.desc c idx).map Desc.phase with
  | some (.ended code detail epoch) => some (code, detail, epoch)
  | _ => none

/-- The code of a descriptor that ends OK: OK_LATE when its START had passed (R52). -/
def Desc.okCode (d : Desc) : Nat := if d.late then 1 else 0

/-- The start of a NOP, or of a KIND that Table 4.4 does not list. -/
abbrev State.startsNop (s : State) (c : Nat) : Started :=
  s.begin c (fun d => d.kind == kindNop || !allKinds.contains d.kind) noRoom noEst
    (fun d => rsvChecks d.words [(2, 0), (3, 0), (4, 0), (5, 0), (6, 0), (7, 0)])

/-- The start of a COPY. -/
abbrev State.startsCopy (s : State) (c : Nat) : Started :=
  s.begin c (fun d => d.kind == kindCopy) noRoom (fun d => s.moveEnergy (s.copyCounts c d)) copyChecks

/-- The start of a FILL. -/
abbrev State.startsFill (s : State) (c : Nat) : Started :=
  s.begin c (fun d => d.kind == kindFill) noRoom
    (fun d => s.moveEnergy (s.endCounts c (dword d.words 2) (dword d.words 3) (dbit d.words 5 1))) fillChecks

/-- The start of a SIGNAL. -/
abbrev State.startsSignal (s : State) (c : Nat) : Started :=
  s.begin c (fun d => d.kind == kindSignal) noRoom (fun d => s.moveEnergy (s.endCounts c (dword d.words 2) 8 (dbit d.words 5 1))) signalChecks

/-- The start of a WAIT. -/
abbrev State.startsWait (s : State) (c : Nat) : Started :=
  s.begin c (fun d => d.kind == kindWait) noRoom (fun d => s.moveEnergy (s.endCounts c (dword d.words 2) 8 false)) waitChecks

/-- The start of a LEASE with one of these ACTIONs. -/
abbrev State.startsLease (s : State) (c : Nat) (mine : Nat → Bool) : Started :=
  s.begin c (fun d => d.kind == kindLease && mine (leaseAction d)) noRoom noEst (leaseChecks s c)

/-- The start of an ATP_UPDATE. -/
abbrev State.startsAtp (s : State) (c : Nat) : Started :=
  s.begin c (fun d => d.kind == kindAtp) (fun d => !s.updateWaits c d.words) noEst (fun d => updateChecks s c d.words)

/-- The start of a BIAS_WRITE. -/
abbrev State.startsBias (s : State) (c : Nat) : Started := s.begin c (fun d => d.kind == kindBias) noRoom noEst biasChecks

/-- The start of a ROUTE_VERSION. -/
abbrev State.startsVersion (s : State) (c : Nat) : Started :=
  s.begin c (fun d => d.kind == kindVersion) noRoom noEst
    (fun d => rsvChecks d.words [(2, 0x000F0000FFFFFFFF), (3, 0), (4, 0), (5, 0), (6, 0), (7, 0)])

/-- The start of a LAYER with this SKIP_LAYER. -/
abbrev State.startsLayer (s : State) (c : Nat) (skip : Bool) : Started :=
  s.begin c (fun d => d.kind == kindLayer && dbit d.words 7 0 == skip) (fun _ => decide (s.layersQueued < 16)) noEst (fun _ => [])

/-- The start of a GROUPED_OP. -/
abbrev State.startsGrouped (s : State) (c : Nat) : Started := s.begin c (fun d => d.kind == kindGrouped) noRoom noEst (fun _ => [])

/-- The start of an SFU_PASS of these OPs. -/
abbrev State.startsPass (s : State) (c : Nat) (mine : Nat → Bool) : Started :=
  s.begin c (fun d => d.kind == kindSfu && mine (sfuOpOf d)) noRoom noEst (fun _ => [])

/-- The start of an INGEST_BIND that binds a stream. -/
abbrev State.startsBind (s : State) (c : Nat) : Started :=
  s.begin c (fun d => d.kind == kindBind && !unbinds d) noRoom noEst s.bindChecks

/-- The start of an INGEST_BIND that unbinds a stream. -/
abbrev State.startsUnbind (s : State) (c : Nat) : Started :=
  s.begin c (fun d => d.kind == kindBind && unbinds d) noRoom noEst (s.unbindChecks c)

/-- The start of a KEEP_MAP. -/
abbrev State.startsKeep (s : State) (c : Nat) : Started :=
  s.begin c (fun d => d.kind == kindKeep)
    (fun d => decide (dfld d.words 3 24 2 ≠ 0) || s.baseDone c d (s.baseAt c (dword d.words 2))) noEst (fun _ => [])

/-- The writes of an admitted frame that ends with this payload and its own length and CRC (R213 to R215): its token rows, its identifiers and
its record. -/
def FrameIn.writes (f : FrameIn) (b : Binding) (payload : List Byte) (crc : Nat) : List (Nat × List Byte) :=
  let slot := b.outBase + b.stride * (b.produced % b.slots)
  f.ids.zipIdx.map (fun x => (slot + b.rowsAt + x.2 * b.rowBytes, b.row (b.filled payload) x.1)) ++
    [(slot + 64, f.ids.flatMap (fun p => leBytes 8 (identOf f.seq f.stream p))),
     (slot, wordBytes (recordWords f b f.flags payload.length crc crc))]

/-- The state in which a batch's selections are counted in LOAD (R235). -/
abbrev State.counted (s : State) (l : Layer) (toks : List (Option Choice)) : State := if l.biasEn then s.countLoad l.set toks else s

/-- The bytes of a row segment that the Combine stage writes: converted to the format of OUT (R290, R311). -/
abbrev State.combineBytes (s : State) (l : Layer) (ys : List Nat) : List Byte :=
  patternBytes (fmtBits l.out.format) ((ys.map (fun y => narrow l.out.format (s.rbit 0x40000 1) (f32 y))).map (fun o => o.bits))

/-- The start of a HANDOFF_SEND. -/
abbrev State.startsSend (s : State) (c : Nat) : Started :=
  s.begin c (fun d => d.kind == kindSend) (fun d => decide (s.cmb.sends.length < 64) && s.sendReady c d) noEst (fun _ => [])

/-- The start of a HANDOFF_RECV. -/
abbrev State.startsRecv (s : State) (c : Nat) : Started :=
  s.begin c (fun d => d.kind == kindRecv) (fun _ => decide (s.cmb.recvs.length < 64)) noEst (fun _ => [])

/-- Messages for this package act: neither Dusk or Night, whose exit they wait for, nor Midnight (R434). -/
abbrev State.hears (s : State) : Prop := s.pwr.state ≠ .midnight ∧ s.asleep = false

/-- The state in which a message that arrives acts. -/
abbrev State.seen (s : State) : State := { s with pwr := { s.pwr with idleSince := s.pwr.idleSince.map (fun _ => s.absMin) } }

/-- A SEND whose window changed reads its source. -/
abbrev State.sendReads (s : State) (w : SendWin) : State := (s.setSend w).asked w.ctx w.idx

/-- Receive `r` is the one that a message from `p` under this grant epoch is for (R332). -/
abbrev State.transferOf (s : State) (p : Peer) (h epoch : Nat) (r : RecvWin) (o : Offer) : Prop :=
  s.recvWin h = some r ∧ r.peer = p ∧ r.offer = some o ∧ epoch = s.epoch (resHandle h)

/-- The start of a GROUP_FORM that forms a group. -/
abbrev State.startsForm (s : State) (c : Nat) : Started := s.begin c (fun d => d.kind == kindForm && !dissolves d) noRoom noEst formChecks

/-- The start of a GROUP_FORM that dissolves one. -/
abbrev State.startsDissolve (s : State) (c : Nat) : Started := s.begin c (fun d => d.kind == kindForm && dissolves d) noRoom noEst formChecks

/-- The start of a COLLECTIVE of these OPs. -/
abbrev State.startsColl (s : State) (c : Nat) (mine : Nat → Bool) : Started :=
  s.begin c (fun d => d.kind == kindCollective && mine (dfld d.words 5 8 3)) (fun _ => decide (s.col.colls.length < 16)) (s.collEst c) s.collChecks

/-- The start of a DAWN of these OPs. -/
abbrev State.startsDawn (s : State) (c : Nat) (mine : Nat → Bool) : Started :=
  s.begin c (fun d => d.kind == kindDawn && mine (dfld d.words 4 8 2))
    (fun d => decide ((s.col.dawns.filter (fun x => decide (x.slot = dawnGroup d))).length < 4) && decide (s.col.dawns.length < 16)) noEst dawnChecks

/-- A DAWN of descriptor `d` as it enters the unit, with its value here. -/
def State.newDawn (s : State) (c : Nat) (d : Desc) (value : Option (List Byte)) : DawnOp :=
  { slot := dawnGroup d, dseq := (s.group (dawnGroup d)).dseq, ctx := c, gen := (s.ctx c).gen, idx := d.idx, op := dfld d.words 4 8 2,
    red := dfld d.words 4 12 2, dtype := dfld d.words 4 16 2, nbytes := dfld d.words 4 24 7, root := dfld d.words 4 32 7,
    dst := dword d.words 3, dstHost := dbit d.words 4 40, phase := 0, value := value }

/-- A DAWN meets the judgement of its slot, which has every member, and nothing of it is here yet. -/
abbrev State.dawnClear (s : State) (c : Nat) (d : Desc) : Prop :=
  s.judgeSlot c d (dawnGroup d) false = none ∧ (s.group (dawnGroup d)).full = true ∧ (s.group (dawnGroup d)).live.Nodup ∧ s.lnk.need = none ∧
    s.col.values = [] ∧ ∀ x ∈ s.col.dawns, x.slot ≠ dawnGroup d ∨ x.dseq ≠ (s.group (dawnGroup d)).dseq

/-- The state in which a DAWN alone on its axes writes its result: DSEQ has stepped, and SRC was asked of the host when it is there. -/
abbrev State.dawnTaken (s : State) (c : Nat) (d : Desc) : State :=
  let s := if dbit d.words 4 41 then s.send (.hostRead (s.pasid c) (dword d.words 2) (dfld d.words 4 24 7)) else s
  (s.setGroup (dawnGroup d) { s.group (dawnGroup d) with dseq := ((s.group (dawnGroup d)).dseq + 1) % 256 }).asked c d.idx

/-- The state with the Ledger's settings, as they stand now, in force (R424, R441). -/
def State.settledNow (s : State) : State :=
  { s with pwr := { s.pwr with ledger := { s.pwr.ledger with
    inForce := s.regs.filter (fun e => decide (0x20000 ≤ e.1) && decide (e.1 < 0x20128)) } } }

/-- Noon or Afternoon, as the causes of Table 14.4 say (R432). -/
def State.day12 (s : State) : PowerState := if s.causes = 0 then .noon else .afternoon

/-- Of the Minute's events only collective launches are still due (R51). -/
abbrev State.onlyLaunches (s : State) : Prop :=
  s.day.due.all (fun d => match d with
    | .launch _ _ => true
    | _ => false) = true

/-- Dusk has lasted NIGHT_HOURS whole Hours, or one with a remap queued and REPAIR_NIGHT (R435). -/
abbrev State.nightDue (s : State) : Prop :=
  (s.fld 0xD0000 16 8 ≠ 0 ∧ s.pwr.duskSince + 60 * s.fld 0xD0000 16 8 ≤ s.absMin) ∨
    (s.rbit 0xD0000 1 = true ∧ 0 < s.queuedCount ∧ s.pwr.duskSince + 60 ≤ s.absMin)

/-- What a cold start of kind `kind` leaves of state `s` (R544, R502): registers at their defaults, nothing in memory or at work, boot at stage 0; the
package records and the defect map that the flash holds, and what was sent, stay. -/
abbrev State.coldFrom (u s : State) (kind : Nat) : Prop :=
  u.regs = [] ∧ u.mem = [] ∧ u.ctxs = [] ∧ u.rings = [] ∧ u.work = WorkUnit.reset ∧ u.pwr = PwrUnit.reset ∧
    u.boot.last = kind ∧ u.boot.stage = 0 ∧ u.boot.done = false ∧ u.boot.ready = false ∧
    u.flt = { FltUnit.reset with retained := s.flt.retained } ∧ u.rep.copyA = s.rep.copyA ∧ u.rep.copyB = s.rep.copyB ∧ u.rep.entries = [] ∧
    u.sent = s.sent ∧ u.pending = s.pending

/-- The Management Port answers a block whose PEC holds and which carries `n` bytes after TAG, with no response unread (R521, R522). -/
abbrev State.mgtHears (s : State) (r : MgtReq) (n : Nat) : Prop :=
  s.mgtAnswers = true ∧ r.pecOk = true ∧ r.args.length = n ∧ s.mgt.unread = false

/-- The response held: TAG, STATUS and these bytes, as MGT_STATUS shows (R522). -/
abbrev State.mgtTold (u : State) (code : Nat) (r : MgtReq) (status : Nat) (bs : List Byte) : Prop :=
  u.mgt.response = some (r.tag :: BitVec.ofNat 8 status :: bs) ∧ u.mgt.lastCode = code ∧ u.mgt.lastStatus = status ∧ u.mgt.unread = true ∧
    u.mgt.tag = some r.tag.toNat

/-- Row `i` carries block `r` of a command of Table 18.1 that only reads, with its code and the bytes it takes after TAG. -/
abbrev mgtReadRow (i : Instr) (r : MgtReq) (code len : Nat) : Prop :=
  (i = .mgtGetId 1 r ∧ code = 1 ∧ len = 0) ∨ (i = .mgtGetState r ∧ code = 2 ∧ len = 0) ∨ (i = .mgtReadReg r ∧ code = 3 ∧ len = 4) ∨
    (i = .mgtTelemetry r ∧ code = 0x10 ∧ len = 1) ∨ (i = .mgtGetView r ∧ code = 0x11 ∧ len = 1) ∨ (i = .mgtReadRecord r ∧ code = 0x30 ∧ len = 1) ∨
    (i = .mgtReadDmap r ∧ code = 0x31 ∧ len = 2) ∨ (i = .mgtAlertStatus r ∧ code = 0x40 ∧ len = 0)

/-- Row `i` carries block `r` of a command of Table 18.1 that writes or requests a transition and waits for a Night exit. -/
abbrev mgtWriteRow (i : Instr) (r : MgtReq) (code len : Nat) : Prop :=
  (i = .mgtWriteReg r ∧ code = 4 ∧ len = 8) ∨ (i = .mgtSetMgmtView r ∧ code = 0x12 ∧ len = 2) ∨ (i = .mgtReconcile r ∧ code = 0x13 ∧ len = 2) ∨
    (i = .mgtSeqAbort r ∧ code = 0x14 ∧ len = 0) ∨ (i = .mgtPowerReq r ∧ code = 0x20 ∧ len = 1) ∨ (i = .mgtMidnightExit r ∧ code = 0x20 ∧ len = 1) ∨
    (i = .mgtWarmReset r ∧ code = 0x21 ∧ len = 2) ∨ (i = .mgtUnpin r ∧ code = 0x32 ∧ len = 0) ∨ (i = .mgtAlertAck r ∧ code = 0x41 ∧ len = 4)

/-- No boot, warm reset, Night exit or Midnight keeps a command from acting (R532, R533). -/
abbrev State.mgtOpen (s : State) : Prop :=
  s.booting = false ∧ s.boot.warm = false ∧ s.pwr.state ≠ .midnight ∧ ¬(s.pwr.state = .night ∧ s.pwr.exiting = true)

/-! ### Which parts of the state a command can change -/

/-- The parts of the state, in the order of its fields. -/
inductive Part where
  /-- The commands waiting. -/
  | queue
  /-- The 1 ns clock. -/
  | clock
  /-- The count of free values used. -/
  | freeCount
  /-- What left the package. -/
  | sent
  /-- Writes held while the PCIe link is down (R128). -/
  | held
  /-- The stored registers of Table 20.3. -/
  | registers
  /-- Latched partners of host reads (R12). -/
  | hostLatches
  /-- Latched partners of management reads. -/
  | mgmtLatches
  /-- Every byte of device memory. -/
  | memory
  /-- The Day Unit (chapter 2). -/
  | day
  /-- The bank dies and their bridges (chapter 3). -/
  | banks
  /-- The Host Interface (chapter 4). -/
  | host
  /-- Submission and completion rings with their fetch windows (chapters 4 and 5). -/
  | rings
  /-- Context states and generations (chapter 5). -/
  | contexts
  /-- Records, leases, epochs, the bracket and the views (chapter 15). -/
  | faults
  /-- Boot and reset state (chapter 17). -/
  | boot
  /-- The Management Port (chapter 18). -/
  | mgt
  /-- Translation caches and poisoned sectors (chapter 6). -/
  | atp
  /-- Stream Ingest (chapter 7). -/
  | ingest
  /-- Layers, grouped operations and passes at work (chapters 5, 8, 9 and 10). -/
  | work
  /-- Which physical unit fills which position (chapter 16). -/
  | maps
  /-- Combine and hand-off (chapter 11). -/
  | combine
  /-- Eriovan Link (chapter 12). -/
  | links
  /-- Groups and collectives (chapter 13). -/
  | collectives
  /-- Power, heat and the Ledger (chapter 14). -/
  | power
  /-- Defect map and self-repair (chapter 16). -/
  | repair
  /-- The test port (chapter 19). -/
  | test
  deriving DecidableEq, Repr

/-- A part is the same in two states; of memory, every byte reads the same. -/
def Part.same : Part → State → State → Prop
  | .queue, s, t => t.pending = s.pending
  | .clock, s, t => t.clk = s.clk
  | .freeCount, s, t => t.free = s.free
  | .sent, s, t => t.sent = s.sent
  | .held, s, t => t.held = s.held
  | .registers, s, t => t.regs = s.regs
  | .hostLatches, s, t => t.latchHost = s.latchHost
  | .mgmtLatches, s, t => t.latchMgmt = s.latchMgmt
  | .memory, s, t => ∀ a, t.byte a = s.byte a
  | .day, s, t => t.day = s.day
  | .banks, s, t => t.banks = s.banks
  | .host, s, t => t.host = s.host
  | .rings, s, t => t.rings = s.rings
  | .contexts, s, t => t.ctxs = s.ctxs
  | .faults, s, t => t.flt = s.flt
  | .boot, s, t => t.boot = s.boot
  | .mgt, s, t => t.mgt = s.mgt
  | .atp, s, t => t.atp = s.atp
  | .ingest, s, t => t.ing = s.ing
  | .work, s, t => t.work = s.work
  | .maps, s, t => t.maps = s.maps
  | .combine, s, t => t.cmb = s.cmb
  | .links, s, t => t.lnk = s.lnk
  | .collectives, s, t => t.col = s.col
  | .power, s, t => t.pwr = s.pwr
  | .repair, s, t => t.rep = s.rep
  | .test, s, t => t.test = s.test

end Sys2Proof.Machine

namespace Sys2Proof

open Machine

/-- The parts a command may change; every other part it leaves. -/
def Instr.touches : Instr → List Part
  | .d3hotEntry =>
    [.host]
  | .previousRouteDiscard =>
    [.links]
  | .engineMapHoldExpiry =>
    [.maps]
  | .hbmTemperatureReport .. | .nightAuto =>
    [.power]
  | .dmapFlashWrite =>
    [.repair]
  | .jtagExtest .. | .jtagBypass .. | .jtagClamp | .jtagHighz | .jtagTestLogicReset =>
    [.test]
  | .pageWalkDone .. =>
    [.registers, .atp]
  | .bridgeClockLoss .. =>
    [.registers, .banks]
  | .teardownDone .. =>
    [.registers, .contexts]
  | .mgtGetId .. | .mgtGetState .. | .mgtGetView .. | .mgtReadRecord .. | .mgtReadDmap .. | .mgtAlertStatus .. | .mgtBusTimeout .. =>
    [.registers, .mgt]
  | .mgtAlertResponse =>
    [.sent, .mgt]
  | .jtagSamplePreload .. | .jtagIdcode =>
    [.sent, .test]
  | .doorbellPoll .. =>
    [.clock, .sent, .host]
  | .mgtTelemetry .. =>
    [.freeCount, .registers, .mgt]
  | .dayHoldLimitWrite .. | .rwinEnable .. | .hubErrClear .. =>
    [.registers, .hostLatches, .mgmtLatches]
  | .mgtAlertAck .. =>
    [.registers, .mgt, .power]
  | .waitTimeout .. =>
    [.registers, .rings, .power]
  | .bridgeFrameRx .. =>
    [.sent, .registers, .banks]
  | .dawnAckRx .. =>
    [.sent, .registers, .collectives]
  | .timeExchange | .adoptRequestTimer =>
    [.sent, .registers, .links]
  | .suspectRx .. =>
    [.clock, .collectives, .power, .repair]
  | .mgtColdStart .. =>
    [.clock, .registers, .boot, .mgt]
  | .dawnResendTimer .. =>
    [.clock, .sent, .registers, .collectives]
  | .discoveryElectionTimer .. =>
    [.clock, .sent, .registers, .links]
  | .bankResetCmd .. | .bankRetryCmd .. =>
    [.registers, .hostLatches, .mgmtLatches, .banks]
  | .ctxOpen .. =>
    [.registers, .hostLatches, .mgmtLatches, .contexts]
  | .apertureBind .. =>
    [.registers, .hostLatches, .mgmtLatches, .links]
  | .loadStepArm .. =>
    [.registers, .hostLatches, .mgmtLatches, .power]
  | .repairCancel =>
    [.registers, .hostLatches, .mgmtLatches, .repair]
  | .ringEnable .. | .ringDisable .. =>
    [.registers, .hostLatches, .mgmtLatches, .rings]
  | .mgtReadResponse .. =>
    [.clock, .freeCount, .sent, .boot, .mgt]
  | .irqDelayExpiry .. =>
    [.clock, .sent, .held, .registers, .rings]
  | .timeRequestRx .. =>
    [.clock, .sent, .registers, .day, .links]
  | .atpRootWrite .. =>
    [.registers, .hostLatches, .mgmtLatches, .memory, .atp]
  | .refuseRx .. =>
    [.registers, .rings, .collectives, .power, .repair]
  | .ingestLaneUp .. | .alignmentMarkerRx .. | .ingestCandidate .. =>
    [.freeCount, .sent, .held, .registers, .host, .ingest]
  | .ballastEnd .. | .tableSplit .. =>
    [.freeCount, .sent, .registers, .banks, .work, .power]
  | .completionHeadRead .. | .pcieLinkReturn .. | .d0Return =>
    [.sent, .held, .registers, .host, .rings, .power]
  | .evqEnable .. =>
    [.sent, .held, .registers, .hostLatches, .mgmtLatches, .host]
  | .spillDelayExpiry .. =>
    [.clock, .freeCount, .sent, .registers, .banks, .work, .power]
  | .eveningLoop .. =>
    [.freeCount, .sent, .held, .registers, .day, .host, .mgt]
  | .recordStoreUe .. =>
    [.freeCount, .sent, .held, .registers, .host, .faults, .mgt]
  | .memoryCe .. =>
    [.freeCount, .sent, .held, .registers, .host, .mgt, .repair]
  | .hubWakePoll =>
    [.sent, .registers, .hostLatches, .mgmtLatches, .host, .power, .repair]
  | .mgtReadReg .. =>
    [.freeCount, .registers, .hostLatches, .mgmtLatches, .banks, .host, .mgt, .power]
  | .bankTimeMsgRx .. =>
    [.freeCount, .sent, .held, .registers, .banks, .host, .faults, .mgt]
  | .duskEntry =>
    [.freeCount, .sent, .held, .registers, .banks, .host, .mgt, .power]
  | .engineCommandRx .. =>
    [.freeCount, .sent, .held, .registers, .banks, .host, .mgt, .work]
  | .holdoverExpiry | .leaderTimeout =>
    [.freeCount, .sent, .held, .registers, .day, .host, .mgt, .links]
  | .linkConfirmDone .. | .flitRx .. =>
    [.freeCount, .sent, .held, .registers, .host, .faults, .mgt, .links]
  | .routeSelfTest .. =>
    [.freeCount, .sent, .held, .registers, .host, .faults, .mgt, .work]
  | .agingMonitorSample .. =>
    [.freeCount, .sent, .held, .registers, .host, .mgt, .maps, .repair]
  | .ingestBufferFull .. =>
    [.freeCount, .sent, .held, .registers, .host, .rings, .ingest, .power]
  | .rteEveParamWrite .. =>
    [.freeCount, .sent, .held, .registers, .hostLatches, .mgmtLatches, .host, .mgt]
  | .dayNowLoRead .. | .pairLoRead .. | .rcRead .. | .dmapEntryRead .. =>
    [.freeCount, .sent, .registers, .hostLatches, .mgmtLatches, .banks, .host, .power]
  | .collectiveLeaseExpiry .. =>
    [.sent, .held, .registers, .day, .host, .mgt, .links, .collectives]
  | .interruptRx .. =>
    [.sent, .held, .registers, .host, .mgt, .links, .power, .repair]
  | .phrefEdge .. | .phrefMissedCycle .. | .dayBoundary | .acquireTimeout =>
    [.clock, .freeCount, .sent, .held, .registers, .day, .host, .mgt, .links]
  | .replayStall .. =>
    [.clock, .freeCount, .sent, .held, .registers, .host, .faults, .mgt, .links]
  | .railSag .. | .railSagEnd .. | .rideThroughEnd =>
    [.freeCount, .sent, .held, .registers, .banks, .host, .mgt, .work, .power]
  | .descriptorComplete .. =>
    [.freeCount, .sent, .held, .registers, .banks, .rings, .ingest, .work, .power]
  | .perstDeassert .. =>
    [.freeCount, .sent, .held, .registers, .host, .faults, .boot, .mgt, .power]
  | .nop .. | .routeVersion .. | .leaseTake .. | .leaseRenew .. | .leaseRelease .. =>
    [.freeCount, .sent, .held, .registers, .host, .rings, .faults, .mgt, .power]
  | .dayHourOfsWrite .. =>
    [.freeCount, .sent, .held, .registers, .hostLatches, .mgmtLatches, .day, .host, .mgt]
  | .handoffBusyRx .. =>
    [.sent, .held, .registers, .host, .mgt, .combine, .links, .power, .repair]
  | .joinRx .. | .announceRx .. | .reformAckRx .. | .resumeRx .. =>
    [.sent, .held, .registers, .host, .mgt, .links, .collectives, .power, .repair]
  | .sstatFrameRx .. | .sstatLoss .. =>
    [.clock, .freeCount, .sent, .held, .registers, .banks, .host, .mgt, .work, .power]
  | .minuteStrobe =>
    [.clock, .freeCount, .sent, .registers, .day, .banks, .rings, .work, .links, .power]
  | .handoffOfferRetry .. =>
    [.clock, .sent, .held, .registers, .host, .rings, .mgt, .combine, .links, .power]
  | .sfuSelfTest .. =>
    [.freeCount, .sent, .held, .registers, .banks, .host, .faults, .mgt, .work, .power]
  | .ingestBind .. | .ingestUnbind .. =>
    [.freeCount, .sent, .held, .registers, .host, .rings, .faults, .mgt, .ingest, .power]
  | .dayCtrlWrite .. =>
    [.freeCount, .sent, .held, .registers, .hostLatches, .mgmtLatches, .day, .host, .mgt, .links]
  | .ingestResyncCmd =>
    [.freeCount, .sent, .held, .registers, .hostLatches, .mgmtLatches, .host, .rings, .ingest, .power]
  | .handoffStaleRx .. =>
    [.sent, .held, .registers, .host, .rings, .mgt, .combine, .links, .power, .repair]
  | .repairStepTimeout .. =>
    [.clock, .freeCount, .sent, .held, .registers, .banks, .host, .faults, .mgt, .links, .repair]
  | .repairStepDone .. =>
    [.freeCount, .sent, .held, .registers, .banks, .host, .faults, .mgt, .maps, .links, .repair]
  | .hourAccounting .. | .loadStep .. =>
    [.freeCount, .sent, .held, .registers, .day, .banks, .host, .rings, .mgt, .work, .power]
  | .handoffOfferRx .. =>
    [.freeCount, .sent, .held, .registers, .host, .faults, .mgt, .combine, .links, .power, .repair]
  | .residueMismatch .. =>
    [.freeCount, .sent, .held, .registers, .host, .faults, .mgt, .maps, .links, .collectives, .repair]
  | .collectiveAllReduce .. | .collectiveReduceScatter .. | .collectiveAllGather .. | .collectiveBroadcast .. | .collectiveReduce ..
  | .groupForm .. | .groupDissolve .. | .biasTableUe .. | .formLimitExpiry .. | .mgtSeqAbort .. | .mgtUnpin .. | .shadowStoreUe =>
    [.freeCount, .sent, .held, .registers, .host, .rings, .faults, .mgt, .links, .collectives, .power]
  | .debugRequestRx .. =>
    [.freeCount, .sent, .held, .registers, .hostLatches, .mgmtLatches, .banks, .host, .mgt, .links, .power]
  | .timeResponseRx .. | .adoptionLimit | .adoptionFallback =>
    [.clock, .freeCount, .sent, .held, .registers, .day, .banks, .host, .boot, .mgt, .links, .power]
  | .suspectGatherExpiry .. | .probeTimeout .. =>
    [.clock, .freeCount, .sent, .held, .registers, .host, .rings, .faults, .mgt, .links, .collectives, .power]
  | .recvLeaseExpiry .. =>
    [.freeCount, .sent, .held, .registers, .day, .host, .rings, .faults, .mgt, .combine, .links, .power]
  | .leaseExpiry .. =>
    [.freeCount, .sent, .held, .registers, .day, .host, .rings, .faults, .mgt, .links, .collectives, .power]
  | .hostResetDone =>
    [.freeCount, .sent, .held, .registers, .host, .rings, .boot, .mgt, .atp, .ingest, .links, .power]
  | .formedRx .. | .probeRx .. | .reformRx .. =>
    [.freeCount, .sent, .held, .registers, .host, .rings, .faults, .mgt, .links, .collectives, .power, .repair]
  | .remoteRequestRx .. =>
    [.freeCount, .sent, .held, .registers, .memory, .banks, .host, .mgt, .atp, .links, .power, .repair]
  | .dayStartHiWrite .. | .dayResync =>
    [.freeCount, .sent, .held, .registers, .hostLatches, .mgmtLatches, .day, .banks, .host, .boot, .mgt, .links, .power]
  | .seqAbort | .unpin =>
    [.freeCount, .sent, .held, .registers, .hostLatches, .mgmtLatches, .host, .rings, .faults, .mgt, .links, .collectives, .power]
  | .bracketCommit =>
    [.freeCount, .sent, .held, .registers, .memory, .host, .rings, .faults, .mgt, .atp, .links, .collectives, .power]
  | .nightEntry =>
    [.freeCount, .sent, .held, .registers, .banks, .host, .rings, .faults, .mgt, .atp, .ingest, .links, .power, .repair]
  | .duskExitDone =>
    [.freeCount, .sent, .held, .registers, .banks, .host, .rings, .faults, .mgt, .work, .combine, .links, .collectives, .power]
  | .bootStageDone .. =>
    [.freeCount, .sent, .held, .registers, .memory, .banks, .host, .faults, .boot, .mgt, .atp, .maps, .combine, .links, .repair]
  | .routeStaleRx .. | .peerListRx .. | .mgtSetMgmtView .. | .staleHoldExpiry | .routeChangeover =>
    [.freeCount, .sent, .held, .registers, .memory, .banks, .host, .rings, .faults, .mgt, .atp, .ingest, .work, .combine, .links, .collectives,
     .power]
  | .bankDieLost .. | .descriptorFetchDone .. | .copy .. | .fill .. | .signal .. | .wait .. | .waitPoll .. | .layer .. | .layerSkip ..
  | .groupedOp .. | .sfuPassElementwise .. | .sfuPassSoftmax .. | .sfuPassLayerNorm .. | .sfuPassRmsNorm .. | .biasWrite ..
  | .dawnAllReduce .. | .dawnBroadcast .. | .dawnBarrier .. | .handoffSend .. | .handoffRecv .. | .keepMap .. | .atpUpdate ..
  | .groupEnd .. | .ingestLaneLost .. | .ingestVerifyHeader .. | .ingestLockHeader .. | .ingestFrameEnd .. | .combineReadReturn ..
  | .engineResultBad .. | .sfuError .. | .handoffChunkWriteDone .. | .remoteResponseRx .. | .routeStage | .combineStage
  | .combineSlotRelease | .routeParityError | .stagingReserved =>
    [.freeCount, .sent, .held, .registers, .memory, .banks, .host, .rings, .contexts, .faults, .mgt, .atp, .ingest, .work, .combine, .links,
     .collectives, .power]
  | .linkRecordsRx .. =>
    [.freeCount, .sent, .held, .registers, .memory, .day, .banks, .host, .rings, .faults, .mgt, .atp, .ingest, .work, .combine, .links, .collectives,
     .power]
  | .hostReadTimeout .. | .slotWatchdog .. | .remoteRequestTimeout .. | .dawnSlotRx .. =>
    [.clock, .freeCount, .sent, .held, .registers, .memory, .banks, .host, .rings, .contexts, .faults, .mgt, .atp, .ingest, .work, .combine, .links,
     .collectives, .power]
  | .bankBringupStepDone .. =>
    [.clock, .freeCount, .sent, .held, .registers, .memory, .day, .banks, .host, .faults, .boot, .mgt, .atp, .work, .maps, .combine, .links, .power,
     .repair]
  | .routeArm | .routeDefault =>
    [.freeCount, .sent, .held, .registers, .hostLatches, .mgmtLatches, .memory, .banks, .host, .rings, .faults, .mgt, .atp, .ingest, .work, .combine,
     .links, .collectives, .power]
  | .pcieLinkLoss .. | .functionLevelReset .. | .perstAssert =>
    [.freeCount, .sent, .held, .registers, .memory, .banks, .host, .rings, .contexts, .faults, .boot, .mgt, .atp, .ingest, .work, .combine, .links,
     .collectives, .power]
  | .bridgeRetrainDone .. | .doorbellReadDone .. | .ingestPublish .. | .handoffGrantRx .. | .handoffMaskRx .. | .handoffChunkRx ..
  | .handoffAckRx .. | .handoffNackRx .. | .reorderSlotUe .. | .goRx .. | .collectiveChunkRx .. | .collectiveAckRx .. =>
    [.freeCount, .sent, .held, .registers, .memory, .banks, .host, .rings, .contexts, .faults, .mgt, .atp, .ingest, .work, .combine, .links,
     .collectives, .power, .repair]
  | .dayVoteMismatch .. | .collectiveLaunch .. | .hubStateUe .. | .packageFault .. =>
    [.freeCount, .sent, .held, .registers, .memory, .day, .banks, .host, .rings, .contexts, .faults, .mgt, .atp, .ingest, .work, .combine, .links,
     .collectives, .power]
  | .discoveryProbeRx .. =>
    [.freeCount, .sent, .held, .registers, .memory, .day, .banks, .host, .rings, .faults, .boot, .mgt, .atp, .ingest, .work, .combine, .links,
     .collectives, .power]
  | .linkTrainDone .. | .linkRetrainDone .. =>
    [.freeCount, .sent, .held, .registers, .memory, .day, .banks, .host, .rings, .faults, .mgt, .atp, .ingest, .work, .combine, .links, .collectives,
     .power, .repair]
  | .discoveryRecordRx .. | .discoverySettle .. =>
    [.clock, .freeCount, .sent, .held, .registers, .memory, .day, .banks, .host, .rings, .faults, .boot, .mgt, .atp, .ingest, .work, .combine,
     .links, .collectives, .power]
  | .ctxClose .. | .ctxTeardown .. =>
    [.freeCount, .sent, .held, .registers, .hostLatches, .mgmtLatches, .memory, .banks, .host, .rings, .contexts, .faults, .mgt, .atp, .ingest,
     .work, .combine, .links, .collectives, .power]
  | .lnkRetrainCmd .. | .lnkEnableWrite .. =>
    [.freeCount, .sent, .held, .registers, .hostLatches, .mgmtLatches, .memory, .day, .banks, .host, .rings, .faults, .mgt, .atp, .ingest, .work,
     .combine, .links, .collectives, .power]
  | .mgtWarmReset .. =>
    [.freeCount, .sent, .held, .registers, .memory, .banks, .host, .rings, .contexts, .faults, .boot, .mgt, .atp, .ingest, .work, .combine, .links,
     .collectives, .power, .repair]
  | .engineError .. =>
    [.freeCount, .sent, .held, .registers, .memory, .banks, .host, .rings, .contexts, .faults, .mgt, .atp, .ingest, .work, .maps, .combine, .links,
     .collectives, .power, .repair]
  | .bankDiscoveryResponse .. | .refclkLoss =>
    [.freeCount, .sent, .held, .registers, .memory, .day, .banks, .host, .rings, .contexts, .faults, .boot, .mgt, .atp, .ingest, .work, .combine,
     .links, .collectives, .power]
  | .memoryUe .. =>
    [.freeCount, .sent, .held, .registers, .memory, .day, .banks, .host, .rings, .contexts, .faults, .mgt, .atp, .ingest, .work, .combine, .links,
     .collectives, .power, .repair]
  | .engineWatchdog .. =>
    [.clock, .freeCount, .sent, .held, .registers, .memory, .banks, .host, .rings, .contexts, .faults, .mgt, .atp, .ingest, .work, .maps, .combine,
     .links, .collectives, .power, .repair]
  | .resetTimeout .. =>
    [.clock, .freeCount, .sent, .held, .registers, .memory, .day, .banks, .host, .rings, .contexts, .faults, .boot, .mgt, .atp, .ingest, .work,
     .combine, .links, .collectives, .power]
  | .bankResetDone .. | .controlCoreHeartbeatMiss .. | .controlCoreError .. | .nightExitDone .. | .mgtReconcile .. =>
    [.freeCount, .sent, .held, .registers, .memory, .day, .banks, .host, .rings, .contexts, .faults, .mgt, .atp, .ingest, .work, .maps, .combine,
     .links, .collectives, .power, .repair]
  | .warmReset .. =>
    [.freeCount, .sent, .held, .registers, .hostLatches, .mgmtLatches, .memory, .banks, .host, .rings, .contexts, .faults, .boot, .mgt, .atp,
     .ingest, .work, .combine, .links, .collectives, .power, .repair]
  | .warmResetDone .. =>
    [.freeCount, .sent, .held, .registers, .memory, .day, .banks, .host, .rings, .contexts, .faults, .boot, .mgt, .atp, .ingest, .work, .maps,
     .combine, .links, .collectives, .power, .repair]
  | .powerOn .. =>
    [.held, .registers, .hostLatches, .mgmtLatches, .memory, .day, .banks, .host, .rings, .contexts, .faults, .boot, .mgt, .atp, .ingest, .work,
     .maps, .combine, .links, .collectives, .power, .repair]
  | .coldStartDelay .. =>
    [.clock, .held, .registers, .hostLatches, .mgmtLatches, .memory, .day, .banks, .host, .rings, .contexts, .faults, .boot, .mgt, .atp, .ingest,
     .work, .maps, .combine, .links, .collectives, .power, .repair]
  | .pkgRstNAssert .. =>
    [.freeCount, .held, .registers, .hostLatches, .mgmtLatches, .memory, .day, .banks, .host, .rings, .contexts, .faults, .boot, .mgt, .atp, .ingest,
     .work, .maps, .combine, .links, .collectives, .power, .repair]
  | .thermalTrip .. | .mgtPowerReq .. | .mgtMidnightExit .. | .temperatureSample .. =>
    [.freeCount, .sent, .held, .registers, .hostLatches, .memory, .day, .banks, .host, .rings, .contexts, .faults, .boot, .mgt, .atp, .ingest, .work,
     .maps, .combine, .links, .collectives, .power, .repair]
  | .reconcile .. =>
    [.freeCount, .sent, .held, .registers, .hostLatches, .mgmtLatches, .memory, .day, .banks, .host, .rings, .contexts, .faults, .mgt, .atp, .ingest,
     .work, .maps, .combine, .links, .collectives, .power, .repair]
  | .pkgRstNRelease .. =>
    [.held, .registers, .hostLatches, .mgmtLatches, .memory, .day, .banks, .host, .rings, .contexts, .faults, .boot, .mgt, .atp, .ingest, .work,
     .maps, .combine, .links, .collectives, .power, .repair, .test]
  | .supplyBrownout .. | .mgtWriteReg .. | .bar0IllegalAccess .. | .registerWrite .. | .powerReqNoon | .powerReqDusk | .powerReqNight
  | .powerReqMidnight =>
    [.freeCount, .sent, .held, .registers, .hostLatches, .mgmtLatches, .memory, .day, .banks, .host, .rings, .contexts, .faults, .boot, .mgt, .atp,
     .ingest, .work, .maps, .combine, .links, .collectives, .power, .repair]

end Sys2Proof
end

