-- ==== Sys2Proof/Certificates/Slice0/Obligations.lean ====
section
/-! DEFINITION. Certificates/Slice0/Obligations.lean: the statements for the provers, in the order of the spec's chapters. -/

open Sys2Proof Sys2Proof.Machine

/-- O1. A step runs the command at the front of the queue with the queue's rest. For every command c, queue rest and state s: a step of s with c in
front of rest is exec of c on s with the queue rest. (spec/opcode_table.json) -/
def Obligations.StepTakesFrontCommand : Prop :=
  ∀ (c : Instr) (rest : List Instr) (s : State), step { s with pending := c :: rest } = exec c { s with pending := rest }

/-- O2. An empty queue lets the clock go on, or runs work held for a wake once the package is awake. The model's own tick (assumption 3). On an
empty queue one nanosecond passes and nothing else changes, except that a package that is awake runs the oldest command held while it slept (R434),
with that command taken out of the held work. (R434) -/
def Obligations.IdleStep : Prop :=
  ∀ s : State, s.pending = [] →
    ((s.pwr.wakeWork = [] ∨ s.awake = false) → step s = .next { s with clk := s.clk + 1 }) ∧
    (∀ c rest, s.pwr.wakeWork = c :: rest → s.awake = true → step s = exec c { s with pwr := { s.pwr with wakeWork := rest } })

/-- O3. The state after reset has the invariant, no command and empty stores. State.reset satisfies Inv: memory and register store canonical, at
most 64 events waiting, a lost count of at most 0xFF, at most eight package records kept, and a management address of 0x58 to 0x5B; every register
reads its value after cold start and every byte of memory reads zero. The model's choices here: what memory reads before bring-up fills it (log
entry 5), the straps, and with them the management address, all low (log entry 4). (R116, R479, R520) -/
def Obligations.ResetInvariant : Prop :=
  Inv State.reset ∧ State.reset.pending = [] ∧ (∀ off, State.reset.reg off = regDefault off) ∧ (∀ a, State.reset.byte a = 0)

/-- O4. Every step keeps the invariant. For every state s with Inv s: if a step of s answers next t, then Inv t. Inv says that device memory and the
register store are in canonical form, that at most 64 events wait for the event ring (R116), that the count of lost events holds at 0xFF (R116),
that at most eight package-class records are kept over a cold start (R479), and that the management address is one of 0x58 to 0x5B (R520). (R116,
R479, R520) -/
def Obligations.StepKeepsInvariant : Prop :=
  ∀ s t : State, Inv s → step s = .next t → Inv t

/-- O5. No command touches the queue, turns the clock back or unsends anything. For every command c and states s and t: if exec c s answers next t,
then t has the queue of s, its clock and its count of free values are not below those of s, and what s had sent is still sent, with what the command
sent in front of it. (spec/opcode_table.json) -/
def Obligations.CommandsKeepQueueAndHistory : Prop :=
  ∀ (c : Instr) (s t : State), exec c s = .next t →
    t.pending = s.pending ∧ s.clk ≤ t.clk ∧ s.free ≤ t.free ∧ s.sent <:+ t.sent

/-- O6. Every command completes: none ends in a fault or a refusal. For every command c and state s, exec c s answers a next state. The spec gives
every row an effect, so no meaning stops. (spec/opcode_table.json) -/
def Obligations.CommandsAlwaysComplete : Prop :=
  ∀ (c : Instr) (s : State), ∃ t, exec c s = .next t

/-- O7. The frame of every command: what it may change, and that it changes nothing else. For every command c, states s and t and part p of the
state that Instr.touches does not list for c: if exec c s answers next t, then p is the same in t as in s. Of device memory this says that every
byte reads as before; of the other parts, that the field is equal. (spec/opcode_table.json) -/
def Obligations.CommandsLeaveOtherParts : Prop :=
  ∀ (c : Instr) (s t : State) (p : Part), exec c s = .next t → p ∉ c.touches → p.same s t

/-- O8. PHREF_EDGE and PHREF_MISSED_CYCLE move the reference. With the board reference not lost, an edge that is not earlier than half a Day length
after the reference, or comes when there is none, becomes the reference, ends a run of misses and joins the last 17 edges. An earlier edge changes
nothing of the Day Unit and is counted in DAY_GLITCH_CNT, which holds at 65,535. A cycle is counted missed only once 1.25 Day lengths have passed
since the reference: then its predicted edge, P later in whole ns (the rounding is the model's choice, log entry 112), becomes the reference, the
edges start afresh and the run of misses grows; a unit in LOCKED leaves LOCKED with the fourth miss in a row and keeps its state before that; before
that time nothing of the Day Unit changes. After a loss of the board reference neither command changes the Day Unit. (R32, R35, R53) -/
def Obligations.PhrefCommands : Prop :=
  (∀ (t : Nat) (s : State), s.day.refLost = false → (∀ r, s.day.reference = some r → (s.day.period : Int) ≤ ((t : Int) - r) * 256) →
      ∃ u, exec (.phrefEdge t) s = .next u ∧ u.day.reference = some (t : Int) ∧ u.day.misses = 0 ∧
        u.day.edges = ((t : Int) :: s.day.edges).take 17) ∧
    (∀ (t : Nat) (s : State) (r : Int), Inv s → s.day.refLost = false → s.day.reference = some r → ((t : Int) - r) * 256 < s.day.period →
      ∃ u, exec (.phrefEdge t) s = .next u ∧ u.day = s.day ∧ (u.reg 0x10038).toNat = min 65535 ((s.reg 0x10038).toNat + 1)) ∧
    (∀ (t : Nat) (s : State) (r : Int), s.day.refLost = false → s.day.reference = some r → 5 * (s.day.period : Int) ≤ ((t : Int) - r) * 512 →
      ∃ u, exec (.phrefMissedCycle t) s = .next u ∧ u.day.reference = some (r + (s.day.period / 128 : Nat)) ∧
        u.day.misses = s.day.misses + 1 ∧ u.day.edges = [] ∧
        (s.day.misses < 3 → u.day.state = s.day.state) ∧ (s.day.state = .locked → 3 ≤ s.day.misses → u.day.state ≠ .locked)) ∧
    (∀ (t : Nat) (s : State) (r : Int), s.day.refLost = false → s.day.reference = some r → ((t : Int) - r) * 512 < 5 * (s.day.period : Int) →
      ∃ u, exec (.phrefMissedCycle t) s = .next u ∧ u.day = s.day) ∧
    (∀ (t : Nat) (s : State), s.day.refLost = true →
      (∃ u, exec (.phrefEdge t) s = .next u ∧ u.day = s.day) ∧ ∃ u, exec (.phrefMissedCycle t) s = .next u ∧ u.day = s.day)

/-- O9. Days and Minutes start where R33 and R44 place them; HOLDOVER and ACQUIRE end; a silent leader is forgotten. DAY_BOUNDARY, once Minute 1439
has begun, starts the next Day (modulo 2^48) at its placed tick with Minute 0 and the carried fraction; before that it changes nothing.
MINUTE_STROBE moves to the Day's first or next Minute, keeps what was due, sends the installation and local positions on the time bus, and counts
the bridges' CRC failures afresh; after Minute 1439 it changes nothing. HOLDOVER_EXPIRY at the Minute that ends the limit's Days, or at a Day's
first Minute after it (log entry 18), enters EXPIRED with the count and the Minute as they were, and changes nothing otherwise. ACQUIRE_TIMEOUT
enters FREE without a parent and FOLLOW with one (the latter the model's reading, log entry 14), and changes nothing outside ACQUIRE. LEADER_TIMEOUT
keeps, of the neighbours heard, only those that do not report the silent leader or were heard within two Hours. (R33, R34, R44, R49, R50, R53, R84)
-/
def Obligations.DayAndMinuteStarts : Prop :=
  (∀ s : State, s.day.strobed = true → s.day.minute = 1439 →
      ∃ u, exec .dayBoundary s = .next u ∧ u.day.day = (s.day.day + 1) % 2 ^ 48 ∧ u.day.minute = 0 ∧ u.day.strobed = false ∧
        u.day.dayStart = s.day.nextDayStart ∧ u.day.acc = (s.day.acc + s.day.pd) % 128) ∧
    (∀ s : State, ¬(s.day.strobed = true ∧ s.day.minute = 1439) → ∃ u, exec .dayBoundary s = .next u ∧ u = s) ∧
    (∀ s : State, Inv s → ¬(s.day.strobed = true ∧ s.day.minute = 1439) →
      ∃ u, exec .minuteStrobe s = .next u ∧ u.day.minute = (if s.day.strobed then s.day.minute + 1 else s.day.minute) ∧ u.day.strobed = true ∧
        u.day.day = s.day.day ∧ (∀ d ∈ s.day.due, d ∈ u.day.due) ∧
        .strobe u.day.day u.day.minute (u.localMin / 1440) u.localMinute ∈ u.sent ∧
        ∀ n < 4, (u.bank n).h2b.crcMinute = 0 ∧ (u.bank n).b2h.crcMinute = 0) ∧
    (∀ s : State, s.day.strobed = true → s.day.minute = 1439 → ∃ u, exec .minuteStrobe s = .next u ∧ u = s) ∧
    (∀ s : State, s.day.state = .holdover →
      (s.fld 0x10024 0 16 * 1440 = s.day.heldFor ∨ s.fld 0x10024 0 16 * 1440 < s.day.heldFor ∧ s.day.minute = 0) →
      ∃ u, exec .holdoverExpiry s = .next u ∧ u.day.state = .expired ∧ u.day.day = s.day.day ∧ u.day.minute = s.day.minute) ∧
    (∀ s : State, s.day.state ≠ .holdover ∨ s.day.heldFor < s.fld 0x10024 0 16 * 1440 → ∃ u, exec .holdoverExpiry s = .next u ∧ u = s) ∧
    (∀ s : State, s.day.state = .acquire →
      ∃ u, exec .acquireTimeout s = .next u ∧ (s.day.parent = 0 → u.day.state = .free) ∧ (s.day.parent ≠ 0 → u.day.state = .follow)) ∧
    (∀ s : State, s.day.state ≠ .acquire → ∃ u, exec .acquireTimeout s = .next u ∧ u = s) ∧
    (∀ s : State, ∃ u, exec .leaderTimeout s = .next u ∧ ∀ e ∈ u.day.neighbours, e ∈ s.day.neighbours ∧
        ∀ n, e.2 = some n → some n.leader ≠ s.day.leaderPos ∨ s.absMin < n.heard + 120)

/-- O10. Time REQUESTs go out of every torus port in use and are answered; a RESPONSE is heard, adopted, or gives the offset to the parent.
TIME_EXCHANGE at Minute 30 of an Hour, and ADOPT_REQUEST_TIMER before adoption, put a REQUEST with this package's time into the queue of every torus
port that is UP with TIME in use, from where it leaves with t1 once the port sends it; at another Minute, or after adoption, they change nothing.
TIME_REQUEST_RX keeps what its sender said of itself and puts a RESPONSE with this package's time, t1 as received, and t2 and t3 by this package's
count into that port's queue; a port that is not UP with TIME in use gets none. TIME_RESPONSE_RX always keeps what the sender said, with t3 as its
position on the tick half the round trip before it came. Before adoption and after DONE, with the board reference present, a RESPONSE of an adopted
neighbour in LOCKED or FOLLOW makes the package adopt: its Day and Minute are then those to which that position has come by now. After adoption a
RESPONSE on the port of the parent that R38 gives stores the offset, to the nearest Day boundary (log entry 16), positive when this package is
ahead. (R366, R504, R37, R38, R40, R54, Table 2.3) -/
def Obligations.TimeMessages : Prop :=
  (∀ (s : State), s.day.minute % 60 = 30 → ∃ u, exec .timeExchange s = .next u ∧ ∀ p < 6, s.timePort p = true → u.onWay s p (s.nearMsg p .timeRequest s.timeInfo)) ∧
    (∀ (s : State), s.day.minute % 60 ≠ 30 → ∃ u, exec .timeExchange s = .next u ∧ u = s) ∧
    (∀ (s : State), s.day.adopted = false →
      ∃ u, exec .adoptRequestTimer s = .next u ∧ ∀ p < 6, s.timePort p = true → u.onWay s p (s.nearMsg p .timeRequest s.timeInfo)) ∧
    (∀ (s : State), s.day.adopted = true → ∃ u, exec .adoptRequestTimer s = .next u ∧ u = s) ∧
    (∀ (p : TorusPort) (i : TimeInfo) (t1 : DayPos) (t2 t3 : Nat) (s : State), ∃ u, exec (.timeRequestRx p i t1 t2 t3) s = .next u ∧
      (s.timePort p.val = true → u.onWay s p.val (s.nearMsg p.val .timeResponse
        ((s.reachClk t3).timeInfo ++ posArgs t1 ++ posArgs (s.day.posAt t2) ++ posArgs (s.day.posAt t3)))) ∧
      (s.timePort p.val = false → u.lnk = s.lnk) ∧
      ∃ n, u.day.neighbour (p.val + 1) = some n ∧ n.state = DayState.ofCode i.state ∧ n.hops = i.hops ∧ n.leader = i.leader ∧ n.adopted = i.adopted ∧
        n.heard = s.absMin) ∧
    (∀ (p : TorusPort) (i : TimeInfo) (t1 t2 t3 : DayPos) (t4 : Nat) (s : State), ∃ u, exec (.timeResponseRx p i t1 t2 t3 t4) s = .next u ∧
      u.day.neighbour (p.val + 1) = some (s.day.told i s.absMin t1 t2 t3 t4)) ∧
    (∀ (p : TorusPort) (i : TimeInfo) (t1 t2 t3 : DayPos) (t4 : Nat) (s : State), s.day.refLost = false → s.day.adopted = false → s.boot.done = true →
      (DayState.ofCode i.state = .locked ∨ DayState.ofCode i.state = .follow) → i.adopted = true →
      ∃ u, exec (.timeResponseRx p i t1 t2 t3 t4) s = .next u ∧ u.day.adopted = true ∧
        u.day.day = ((s.day.steppedTo t3 (s.day.told i s.absMin t1 t2 t3 t4).at_).posAt (max s.clk t4 : Nat)).day ∧
        u.day.minute = ((s.day.steppedTo t3 (s.day.told i s.absMin t1 t2 t3 t4).at_).posAt (max s.clk t4 : Nat)).minute) ∧
    (∀ (p : TorusPort) (i : TimeInfo) (t1 t2 t3 : DayPos) (t4 : Nat) (s : State), s.day.refLost = false → s.day.adopted = true →
      ((s.reachClk t4).hear p.val i t3 (s.day.told i s.absMin t1 t2 t3 t4).at_).elect.day.parent = p.val + 1 →
      ∃ u, exec (.timeResponseRx p i t1 t2 t3 t4) s = .next u ∧
        u.day.parentOfs = s.day.nearest (-(tdiv ((s.day.tickOf t2 - s.day.tickOf t1) - ((t4 : Int) - s.day.tickOf t3)) 2)))

/-- O11. Adoption from DAY_START. A served DAY_START_HI_WRITE before adoption stores bits [15:0]; at position 0, with LNK_POS.VALID and DONE, the
Day becomes the 48-bit DAY_START at once and the package has adopted; elsewhere it has not, and the write is remembered. After adoption a write that
would change the field is a locked write that HUB_ERR takes, and the Day Unit stays. ADOPTION_LIMIT does at position 0 what the write does, not
before 1,000 ms after DONE; at another position it does not adopt. ADOPTION_FALLBACK makes a package without a parent adopt DAY_START, not before
1,050 ms after DONE, and lead itself; with a parent, before DONE or after adoption it changes nothing. (R40, R504, R569, Table 2.13) -/
def Obligations.DayAdoption : Prop :=
  (∀ (v : Word) (s : State), Inv s → s.served → s.day.adopted = false → ¬(s.boot.done = true ∧ s.posValid = true ∧ s.position = 0) →
      ∃ u, exec (.dayStartHiWrite v) s = .next u ∧ u.reg 0x1002C = v &&& 0xFFFF ∧ u.day = { s.day with startWritten := true }) ∧
    (∀ (v : Word) (s : State), Inv s → s.served → s.day.adopted = false → s.boot.done = true → s.posValid = true → s.position = 0 →
      ∃ u, exec (.dayStartHiWrite v) s = .next u ∧ u.reg 0x1002C = v &&& 0xFFFF ∧ u.day.adopted = true ∧
        u.day.day = ((s.reg 0x10028).toNat + 2 ^ 32 * (v &&& 0xFFFF).toNat) % 2 ^ 48) ∧
    (∀ (v : Word) (s : State), s.served → s.day.adopted = true → wfld v 0 16 ≠ s.fld 0x1002C 0 16 →
      ∃ u, exec (.dayStartHiWrite v) s = .next u ∧ u = (s.dropLatches 0x1002C).locked 0x1002C .host ∧ u.day = s.day) ∧
    (∀ s : State, s.boot.done = true → s.day.adopted = false → s.posValid = true → s.position = 0 →
      ∃ u, exec .adoptionLimit s = .next u ∧ u.day.adopted = true ∧ u.day.day = s.reg64 0x10028 % 2 ^ 48 ∧ s.boot.doneAt + 1000000000 ≤ u.clk) ∧
    (∀ s : State, s.boot.done = true → s.day.adopted = false → ¬(s.posValid = true ∧ s.position = 0) →
      ∃ u, exec .adoptionLimit s = .next u ∧ u.day.adopted = false ∧ u.day.day = s.day.day) ∧
    (∀ s : State, s.boot.done = true → s.day.adopted = false → s.day.parent = 0 →
      ∃ u, exec .adoptionFallback s = .next u ∧ u.day.adopted = true ∧ u.day.ownLeader = true ∧ u.day.day = s.reg64 0x10028 % 2 ^ 48 ∧
        s.boot.doneAt + 1050000000 ≤ u.clk) ∧
    (∀ s : State, s.boot.done = false ∨ s.day.adopted = true ∨ s.day.parent ≠ 0 → ∃ u, exec .adoptionFallback s = .next u ∧ u = s)

/-- O12. Writes of the Day Unit's settings, RESYNC and the vote. Of served writes: DAY_HOUR_OFS_WRITE of an offset below 24 stores it and lets it
wait for a Day boundary, the offset in force staying; 24 or more sets DAY_EVT.BAD_OFS and changes nothing of the unit. DAY_HOLD_LIMIT_WRITE stores
the limit and changes no other register. DAY_CTRL_WRITE stores NOMINAL, LEADER_OK and TRACK, and in ACQUIRE or FREE sets the Day length to the
nominal one. DAY_RESYNC, with no lease held, no event pending (as log entry 17 takes it), no open context, a parent and its position from an
exchange, takes the Day and Minute to which that position has come by now, clears the vote's failure and counts as adopted; without a parent, or
with any of those present, it is a locked write that HUB_ERR takes. DAY_VOTE_MISMATCH takes the position of the two copies that agree and sets
DAY_EVT bit 9; when all three differ the unit takes the first copy and, with the board reference present, is EXPIRED; three equal copies change
nothing. (R41, R49, R50, R55, R57, R59, R573) -/
def Obligations.DaySettings : Prop :=
  (∀ (v : Word) (s : State), Inv s → s.served → v.toNat % 32 < 24 →
      ∃ u, exec (.dayHourOfsWrite v) s = .next u ∧ u.reg 0x10020 = v &&& 0x1F ∧ u.day = { s.day with hourPend := some (v.toNat % 32, s.clk) }) ∧
    (∀ (v : Word) (s : State), Inv s → s.served → 24 ≤ v.toNat % 32 →
      ∃ u, exec (.dayHourOfsWrite v) s = .next u ∧ u.rbit 0x10034 10 = true ∧ u.reg 0x10020 = s.reg 0x10020 ∧ u.day = s.day) ∧
    (∀ (v : Word) (s : State), Inv s → s.served →
      ∃ u, exec (.dayHoldLimitWrite v) s = .next u ∧ u.reg 0x10024 = v &&& 0xFFFF ∧ (∀ off, off ≠ 0x10024 → u.reg off = s.reg off) ∧ u.day = s.day) ∧
    (∀ (v : Word) (s : State), Inv s → s.served →
      ∃ u, exec (.dayCtrlWrite v) s = .next u ∧ u.reg 0x10000 = v &&& 0xF06 ∧
        ((s.day.state = .acquire ∨ s.day.state = .free) → u.day.period = if v.toNat / 4 % 2 = 1 then 2133333333 else 2560000000)) ∧
    (∀ (pos : DayPos) (at_ : Int) (s : State), s.served → (∀ r ∈ leaseResources, (s.lease r).holder = none) →
      s.dayEventPending = false → (∀ c ∈ ctxRange, (s.ctx c).state ≠ .open_) → s.day.parent ≠ 0 → s.parentPos = some (pos, at_) →
      ∃ u, exec .dayResync s = .next u ∧ u.day.day = ((s.day.steppedTo pos at_).posAt s.clk).day ∧
        u.day.minute = ((s.day.steppedTo pos at_).posAt s.clk).minute ∧ u.day.voteFail = false ∧ u.day.adopted = true) ∧
    (∀ (s : State), s.served → (s.day.parent = 0 ∨ s.dayEventPending = true ∨ (∃ r ∈ leaseResources, (s.lease r).holder ≠ none) ∨
        ∃ c ∈ ctxRange, (s.ctx c).state = .open_) →
      ∃ u, exec .dayResync s = .next u ∧ u = (s.dropLatches 0x10030).locked 0x10030 .host ∧ u.day = s.day) ∧
    (∀ (a b : DayPos) (i : Instr) (s : State), Inv s → a ≠ b → i = .dayVoteMismatch a a b ∨ i = .dayVoteMismatch a b a ∨ i = .dayVoteMismatch b a a →
      ∃ u, exec i s = .next u ∧ u.day.day = a.day % 2 ^ 48 ∧ u.day.minute = a.minute ∧ u.rbit 0x10034 9 = true) ∧
    (∀ (a b c : DayPos) (s : State), a ≠ b → b ≠ c → a ≠ c →
      ∃ u, exec (.dayVoteMismatch a b c) s = .next u ∧ u.day.voteFail = true ∧ u.day.day = a.day % 2 ^ 48 ∧ u.day.minute = a.minute ∧
        (s.day.refLost = false → u.day.state = .expired)) ∧
    (∀ (a : DayPos) (s : State), ∃ u, exec (.dayVoteMismatch a a a) s = .next u ∧ u = s)

/-- O13. A read of DAY_NOW_LO latches the Minute and the tick that belong with the Day count. DAY_NOW_LO_READ by the host or the management
controller, where it reaches the registers and holds no latched value, answers the Day count of installation time; a read of DAY_NOW_HI or
DAY_NOW_NS in any later state with the reader's latches as that read left them answers the Minute and the tick of the moment of the first read.
(R45) -/
def Obligations.DayNowReads : Prop :=
  ∀ (who : Reader) (s : State), s.reaches who 0x10008 = true → tabGet (fun _ => none) (s.latches who) 0x10008 = none →
    ∃ u, exec (.dayNowLoRead who) s = .next u ∧ u.sent = .readData who 0x10008 (BitVec.ofNat 32 s.day.day) :: s.sent ∧
      ∀ (off : Nat) (w : State), off = 0x1000C ∨ off = 0x10010 → w.reaches who off = true → w.latches who = u.latches who →
        ∃ x, exec (.pairLoRead off who) w = .next x ∧ x.sent = .readData who off (s.liveReg off) :: w.sent

/-- O14. Reads of register pairs, of read-to-clear fields and of the defect map. PAIR_LO_READ that reaches the registers, of any register but
ATP_WALK_CNT, answers the value latched for the reader, else the register's value, and then holds for the reader the value that each partner of the
register had at that moment; the management controller's read changes no register. RC_READ, while BAR 0 is served, clears the RC fields of the
register (those that the Bank Bridges, the rails, the temperature peaks and the event ring show, too) and, but for ATP_WALK_CNT, answers the same. A
read of ATP_WALK_CNT answers at least the walks counted so far (how many walks accesses made besides is a free value, log entry 116).
DMAP_ENTRY_READ answers the first word of the selected defect-map entry and holds its other three words for the reader. RC_READ of an offset at
which no register lies answers zero, or what is latched there, and changes no register. A read, DAY_NOW_LO_READ among them, that does not reach the
registers changes nothing. (R12, R13, R177, R501, R524) -/
def Obligations.RegisterReads : Prop :=
  (∀ (off : Nat) (who : Reader) (s : State), s.reaches who (off / 4 * 4) = true → off / 4 * 4 ≠ 0x9001C → tabWf (fun _ => none) (s.latches who) = true →
      ∃ u, exec (.pairLoRead off who) s = .next u ∧
        u.sent = .readData who (off / 4 * 4) ((tabGet (fun _ => none) (s.latches who) (off / 4 * 4)).getD (s.liveReg (off / 4 * 4))) :: s.sent ∧
        (∀ o ∈ partners (off / 4 * 4), tabGet (fun _ => none) (u.latches who) o = some (s.liveReg o)) ∧ (who = .mgmt → u.regs = s.regs)) ∧
    (∀ (off : Nat) (r : RegRow) (s : State), Inv s → s.barServed = true → regRow (off / 4 * 4) = some r →
      ∃ u, exec (.rcRead off) s = .next u ∧ u.reg (off / 4 * 4) = s.reg (off / 4 * 4) &&& ~~~BitVec.ofNat 32 r.rc ∧
        (off / 4 * 4 ≠ 0x9001C →
          u.sent = .readData .host (off / 4 * 4) ((tabGet (fun _ => none) s.latchHost (off / 4 * 4)).getD (s.liveReg (off / 4 * 4))) :: s.sent) ∧
        (∀ n < 4, off / 4 * 4 = 0x110 + 0x10 * n → (u.bank n).timeErr = 0) ∧
        (off / 4 * 4 = 0x234 → u.host.lost = 0)) ∧
    (∀ (m : Fin 10) (s : State), s.barServed = true → tabWf (fun _ => 0) s.pwr.railLow = true →
      ∃ u, exec (.rcRead (0xD0040 + 4 * m.val)) s = .next u ∧ tabGet (fun _ => 0) u.pwr.railLow m.val = 0) ∧
    (∀ (d : Fin 5) (s : State), s.barServed = true → tabWf (fun _ => 0) s.pwr.peak = true →
      ∃ u, exec (.rcRead (0xD0080 + 4 * d.val)) s = .next u ∧ tabGet (fun _ => 0) u.pwr.peak d.val = 0) ∧
    (∀ (i : Instr) (who : Reader) (s : State), Inv s → ((i = .rcRead 0x9001C ∧ who = .host) ∨ i = .pairLoRead 0x9001C who) → s.reaches who 0x9001C = true →
      tabGet (fun _ => none) (s.latches who) 0x9001C = none →
      ∃ u, exec i s = .next u ∧ ∃ v, u.sent = .readData who 0x9001C v :: s.sent ∧ (s.reg 0x9001C).toNat ≤ v.toNat) ∧
    (∀ (who : Reader) (s : State), tabWf (fun _ => none) (s.latches who) = true → s.reaches who 0x408 = true →
      ∃ u, exec (.dmapEntryRead who) s = .next u ∧
        u.sent = .readData who 0x408 ((tabGet (fun _ => none) (s.latches who) 0x408).getD (BitVec.ofNat 32 (s.dmapWord (s.fld 0x404 0 12) 0))) :: s.sent ∧
        ∀ k < 4, k ≠ 0 → tabGet (fun _ => none) (u.latches who) (0x408 + 4 * k) = some (BitVec.ofNat 32 (s.dmapWord (s.fld 0x404 0 12) k))) ∧
    (∀ (off : Nat) (s : State), s.barServed = true → regRow (off / 4 * 4) = none →
      ∃ u, exec (.rcRead off) s = .next u ∧
        u.sent = .readData .host (off / 4 * 4) ((tabGet (fun _ => none) s.latchHost (off / 4 * 4)).getD 0) :: s.sent ∧ u.regs = s.regs ∧ u.mem = s.mem) ∧
    (∀ (off : Nat) (who : Reader) (i : Instr) (s : State), ((i = .pairLoRead off who ∧ s.reaches who (off / 4 * 4) = false) ∨ (i = .rcRead off ∧ s.barServed = false) ∨
        (i = .dmapEntryRead who ∧ s.reaches who 0x408 = false) ∨ (i = .dayNowLoRead who ∧ s.reaches who 0x10008 = false)) →
      ∃ u, exec i s = .next u ∧ u = s)

/-- O15. The stages of boot and the steps of a bank die's bring-up. While boot runs (power, PKG_RST_N high, TEST_MODE low, not halted, not done, not
in Midnight): BOOT_STAGE_DONE with no error ends stage 0; with the board reference and no FAILED bank die it ends stage 1 with the hub's PLL locked
and either halts boot with code 10 or starts step 1 of every bank die, 20 us apart; without the reference it halts boot with code 11. An error halts
boot with its code and raises the alert. BANK_BRINGUP_STEP_DONE without error takes a bank die from step 1 to step 2, its PLL locked, not before its
start. A failure of step 1, 2, 3 or 4 at a cold start begins the bring-up again from step 1, at most twice; the next one halts boot.
BANK_DISCOVERY_RESPONSE in step 3: a good record of a die without a serial begins step 4 and is kept; a bad one is a failure of step 3. Outside a
bring-up (outside step 3) either command changes nothing. (R70, R71, R73, R87, R503, R516) -/
def Obligations.BootAndBringup : Prop :=
  (∀ (flash : FlashLoad) (bc bs : List Nat) (s : State), s.bootRuns → s.boot.stage = 0 →
      ∃ u, exec (.bootStageDone 0 flash bc bs) s = .next u ∧ u.boot.stage = 1) ∧
    (∀ (flash : FlashLoad) (bc bs : List Nat) (s : State), s.bootRuns → s.boot.stage = 1 → s.boot.refOk = true →
        (∀ n < 4, (s.bank n).phase ≠ .failed) →
      ∃ u, exec (.bootStageDone 0 flash bc bs) s = .next u ∧ u.boot.hubLock = true ∧ u.boot.backup = false ∧
        ((u.boot.halted = true ∧ u.boot.code = 10) ∨ (∀ n < 4, (u.bank n).phase = .bringup 1 ∧ (u.bank n).startAt = s.clk + 20000 * n))) ∧
    (∀ (flash : FlashLoad) (bc bs : List Nat) (s : State), s.bootRuns → s.boot.stage = 1 → s.boot.refOk = false →
      ∃ u, exec (.bootStageDone 0 flash bc bs) s = .next u ∧ u.boot.halted = true ∧ u.boot.code = 11) ∧
    (∀ (code : Nat) (flash : FlashLoad) (bc bs : List Nat) (s : State), Inv s → s.bootRuns → code ≠ 0 →
      ∃ u, exec (.bootStageDone code flash bc bs) s = .next u ∧ u.boot.halted = true ∧ u.boot.code = code ∧ u.boot.bank = 0xF ∧
        u.rbit 0xC0008 0 = true) ∧
    (∀ (n : BankId) (w : WireTest) (br : List (Nat × Nat × Nat)) (be : List Nat) (sfu : Bool) (s : State), (s.bank n.val).phase = .bringup 1 →
      ∃ u, exec (.bankBringupStepDone n 0 w br be sfu) s = .next u ∧ (u.bank n.val).phase = .bringup 2 ∧ (u.bank n.val).pllLock = true ∧
        u.clk = max s.clk (s.bank n.val).startAt) ∧
    (∀ (n : BankId) (k code : Nat) (w : WireTest) (br : List (Nat × Nat × Nat)) (be : List Nat) (sfu : Bool) (s : State),
        (s.bank n.val).phase = .bringup k → 1 ≤ k → k ≤ 4 → code ≠ 0 → s.boot.midnightExit = false → (s.bank n.val).repeats < 2 →
      ∃ u, exec (.bankBringupStepDone n code w br be sfu) s = .next u ∧ (u.bank n.val).phase = .bringup 1 ∧
        (u.bank n.val).repeats = (s.bank n.val).repeats + 1) ∧
    (∀ (n : BankId) (k code : Nat) (w : WireTest) (br : List (Nat × Nat × Nat)) (be : List Nat) (sfu : Bool) (s : State),
        (s.bank n.val).phase = .bringup k → 1 ≤ k → k ≤ 4 → code ≠ 0 → s.boot.midnightExit = false → 2 ≤ (s.bank n.val).repeats →
      ∃ u, exec (.bankBringupStepDone n code w br be sfu) s = .next u ∧ u.boot.halted = true ∧ u.boot.code = code ∧ u.boot.bank = n.val) ∧
    (∀ (n : BankId) (r : FuseRecord) (s : State), (s.bank n.val).phase = .bringup 3 → (s.bank n.val).serial = none → r.eccOk = true →
        r.posValid = true → r.pos = n.val → r.pkgBind = Config.pkgBind →
      ∃ u, exec (.bankDiscoveryResponse n r) s = .next u ∧ (u.bank n.val).phase = .bringup 4 ∧ (u.bank n.val).serial = some r.serial) ∧
    (∀ (n : BankId) (r : FuseRecord) (s : State), (s.bank n.val).phase = .bringup 3 → s.boot.midnightExit = false → (s.bank n.val).repeats < 2 →
        (r.eccOk = false ∨ r.posValid = false ∨ r.pos ≠ n.val ∨ r.pkgBind ≠ Config.pkgBind) →
      ∃ u, exec (.bankDiscoveryResponse n r) s = .next u ∧ (u.bank n.val).phase = .bringup 1 ∧
        (u.bank n.val).repeats = (s.bank n.val).repeats + 1) ∧
    (∀ (n : BankId) (code : Nat) (w : WireTest) (br : List (Nat × Nat × Nat)) (be : List Nat) (sfu : Bool) (s : State),
        ((s.bank n.val).phase = .down ∨ (s.bank n.val).phase = .active ∨ (s.bank n.val).phase = .resetting ∨ (s.bank n.val).phase = .failed ∨
          (s.bank n.val).phase = .retained) →
      ∃ u, exec (.bankBringupStepDone n code w br be sfu) s = .next u ∧ u = s) ∧
    (∀ (n : BankId) (r : FuseRecord) (s : State), (s.bank n.val).phase ≠ .bringup 3 →
      ∃ u, exec (.bankDiscoveryResponse n r) s = .next u ∧ u = s)

/-- O16. A bank die lost, reset by the host, retried, and its reset done. BANK_DIE_LOST on an active bank die begins a bank reset, keeps whether the
fault lay in a memory controller, holds the PLL unlocked when it was the PLL, and fails the die's data-path view; on another it changes nothing.
BANK_RESET_CMD (a served write) begins a bank reset on an active bank die on which no context and no ingest frame works, waits when that die's
bridge retrains, and is otherwise a locked write. BANK_RETRY_CMD begins one on a FAILED bank die and does nothing on another. BANK_RESET_DONE of a
bank die in reset whose wires find spares, whose duplicated pairs work and whose fuse record is good and names the serial known (no write, SEND or
collective waiting) makes it active with its bridge UP; its scratchpad reads zeros, and so do its stacks, with MEM_LOST, when the fault lay in a
memory controller; every other byte reads as before. A reset that failed, or brought no good fuse record, leaves it FAILED in reset. REFCLK_LOSS
unlocks the PLLs, moves to the backup oscillator, puts the Day Unit in FREE and is a package-class fault. (R70, R86, R87, R89, R90, R516) -/
def Obligations.BankDieLossAndReset : Prop :=
  (∀ (n : BankId) (memory pll : Bool) (s : State), (s.bank n.val).phase = .active →
      ∃ u, exec (.bankDieLost n memory pll) s = .next u ∧ (u.bank n.val).phase = .resetting ∧ (u.bank n.val).memFault = memory ∧
        (pll = true → (u.bank n.val).pllLock = false) ∧ u.dpFailed n.val = true) ∧
    (∀ (n : BankId) (memory pll : Bool) (s : State), (s.bank n.val).phase ≠ .active → ∃ u, exec (.bankDieLost n memory pll) s = .next u ∧ u = s) ∧
    (∀ (n : BankId) (s : State), s.served → (s.bank n.val).phase = .active → (s.bank n.val).bridge ≠ .retrain → s.bankWork n.val = [] →
        s.ingestOnBank n.val = false →
      ∃ u, exec (.bankResetCmd n) s = .next u ∧ (u.bank n.val).phase = .resetting ∧ (u.bank n.val).memFault = false) ∧
    (∀ (n : BankId) (s : State), s.served → (s.bank n.val).phase = .active → (s.bank n.val).bridge = .retrain →
      ∃ u, exec (.bankResetCmd n) s = .next u ∧ u.bank n.val = { s.bank n.val with resetWait := true }) ∧
    (∀ (n : BankId) (s : State), s.served → ((s.bank n.val).phase ≠ .active ∨
        ((s.bank n.val).bridge ≠ .retrain ∧ (s.bankWork n.val ≠ [] ∨ s.ingestOnBank n.val = true))) →
      ∃ u, exec (.bankResetCmd n) s = .next u ∧ u = (s.dropLatches (0x150 + 4 * n.val)).locked (0x150 + 4 * n.val) .host) ∧
    (∀ (n : BankId) (s : State), s.served → (s.bank n.val).phase = .failed →
      ∃ u, exec (.bankRetryCmd n) s = .next u ∧ (u.bank n.val).phase = .resetting ∧ (u.bank n.val).memFault = (s.bank n.val).memFault) ∧
    (∀ (n : BankId) (s : State), s.served → (s.bank n.val).phase ≠ .failed →
      ∃ u, exec (.bankRetryCmd n) s = .next u ∧ u = s.dropLatches (0x150 + 4 * n.val)) ∧
    (∀ (n : BankId) (w : WireTest) (r : FuseRecord) (be : List Nat) (sfu : Bool) (s : State), Inv s → (s.bank n.val).phase = .resetting →
        (assignSpares (s.bank n.val).h2b.spares (s.mapWires n.val 0 deApplied ++ w.badH2b)).isSome = true →
        (assignSpares (s.bank n.val).b2h.spares (s.mapWires n.val 1 deApplied ++ w.badB2h)).isSome = true → w.pairDead = false →
        fuseCode n.val r = 0 → ((s.bank n.val).serial = none ∨ (s.bank n.val).serial = some r.serial) → (s.bank n.val).waiting = [] →
        s.cmb.sends = [] → s.col.colls = [] →
      ∃ u, exec (.bankResetDone n true w (some r) be sfu) s = .next u ∧ (u.bank n.val).phase = .active ∧ (u.bank n.val).bridge = .up ∧
        ((s.bank n.val).memFault = true → (u.bank n.val).memLost = true) ∧
        ∀ a, u.byte a = if 0x4000000000 + 0x4000000 * n.val ≤ a ∧ a < 0x4003000000 + 0x4000000 * n.val then 0
        else if (s.bank n.val).memFault = true ∧ 0xC00000000 * n.val ≤ a ∧ a < 0xC00000000 * (n.val + 1) then 0 else s.byte a) ∧
    (∀ (n : BankId) (ok : Bool) (w : WireTest) (r : Option FuseRecord) (be : List Nat) (sfu : Bool) (s : State),
        (s.bank n.val).phase = .resetting → (ok = false ∨ r = none ∨ (r.map (fuseCode n.val)).getD 0 ≠ 0) →
      ∃ u, exec (.bankResetDone n ok w r be sfu) s = .next u ∧ (u.bank n.val).phase = .failed ∧ (u.bank n.val).inReset = true) ∧
    (∀ (s : State), Inv s →
      ∃ u, exec (.refclkLoss) s = .next u ∧ u.day.refLost = true ∧ u.day.state = .free ∧ u.boot.refOk = false ∧ u.boot.backup = true ∧
        u.boot.hubLock = false ∧ u.flt.pkgFault = true ∧ ∀ n < 4, (u.bank n).pllLock = false)

/-- O17. Frames on a Bank Bridge, its retrains and the time message. Of frames that arrive on a bridge that carries them, outside a warm reset: a
good data frame with the expected number is delivered once and an acknowledging frame goes back; a good data frame with another number is not
delivered and leaves the expected number; a bad frame that is no idle frame is counted and answered with a frame that NACKs the number expected; a
bad idle frame is only counted, and nothing is sent for it. None of them changes memory. With nothing queued the other way, a good frame's
acknowledgement leaves unacknowledged what it does not cover, and a NACK sends those frames again. A frame on a bridge that carries none changes
nothing. A lost clock on a bridge UP or IDLE starts a retrain with CAUSE 3, and on another changes nothing. A retrain whose wires find spares and
whose duplicated pairs work (no RESET waiting) returns to UP and sends both directions' unacknowledged frames again; one that fails is tried again
at most twice, and the third failure fails the bridge's view and begins a bank reset; without a retrain BRIDGE_RETRAIN_DONE changes nothing.
BANK_TIME_MSG_RX moves the expected position one Minute on, whatever came, keeps the error count for a correct message and otherwise counts it up to
0xFF. (R64, R66, R69, R83, R84, R85, R86) -/
def Obligations.BridgeCommands : Prop :=
  (∀ (n : BankId) (toBank : Bool) (frame : List Byte) (s : State), (s.bank n.val).carries = true → s.boot.warm = false → frameOk frame = true →
        bitsOf (sideband frame) 66 3 = 1 → bitsOf (sideband frame) 0 10 = ((s.bank n.val).dir toBank).expect →
      ∃ u, exec (.bridgeFrameRx n toBank frame) s = .next u ∧
        .bridgeDeliver n.val toBank ((s.bank n.val).dir toBank).expect (frameSlots frame) ∈ u.sent ∧
        (∃ ft sq slots c0 c1, .bridgeFrame n.val (!toBank) (makeFrame ft sq (1, ((s.bank n.val).dir toBank).expect) slots c0 c1) ∈ u.sent) ∧
        ((u.bank n.val).dir toBank).expect = (((s.bank n.val).dir toBank).expect + 1) % 1024 ∧ u.mem = s.mem) ∧
    (∀ (n : BankId) (toBank : Bool) (frame : List Byte) (s : State), (s.bank n.val).carries = true → s.boot.warm = false → frameOk frame = true →
        bitsOf (sideband frame) 66 3 = 1 → bitsOf (sideband frame) 0 10 ≠ ((s.bank n.val).dir toBank).expect →
      ∃ u, exec (.bridgeFrameRx n toBank frame) s = .next u ∧ (∀ q sl, .bridgeDeliver n.val toBank q sl ∈ u.sent → .bridgeDeliver n.val toBank q sl ∈ s.sent) ∧
        ((u.bank n.val).dir toBank).expect = ((s.bank n.val).dir toBank).expect ∧ u.mem = s.mem) ∧
    (∀ (n : BankId) (toBank : Bool) (frame : List Byte) (s : State), Inv s → (s.bank n.val).carries = true → frameOk frame = false →
        ¬(bitsOf (sideband frame) 66 3 = 0 ∧ frame.length = 528) →
      ∃ u, exec (.bridgeFrameRx n toBank frame) s = .next u ∧
        (∃ ft sq slots c0 c1, .bridgeFrame n.val (!toBank) (makeFrame ft sq (2, ((s.bank n.val).dir toBank).expect) slots c0 c1) ∈ u.sent) ∧
        (u.reg (0x118 + 0x10 * n.val)).toNat = min 0xFFFFFFFF ((s.reg (0x118 + 0x10 * n.val)).toNat + 1) ∧
        ((u.bank n.val).dir toBank).expect = ((s.bank n.val).dir toBank).expect ∧ u.mem = s.mem) ∧
    (∀ (n : BankId) (toBank : Bool) (frame : List Byte) (s : State), Inv s → (s.bank n.val).carries = true → frameOk frame = false →
        bitsOf (sideband frame) 66 3 = 0 → frame.length = 528 →
      ∃ u, exec (.bridgeFrameRx n toBank frame) s = .next u ∧ u.sent = s.sent ∧
        (u.reg (0x118 + 0x10 * n.val)).toNat = min 0xFFFFFFFF ((s.reg (0x118 + 0x10 * n.val)).toNat + 1) ∧ u.mem = s.mem) ∧
    (∀ (n : BankId) (toBank : Bool) (frame : List Byte) (s : State), (s.bank n.val).carries = true → s.boot.warm = false → frameOk frame = true →
        ((s.bank n.val).dir (!toBank)).queue = [] →
      ∃ u, exec (.bridgeFrameRx n toBank frame) s = .next u ∧
        ((u.bank n.val).dir (!toBank)).unacked =
          ((s.bank n.val).dir (!toBank)).acked (bitsOf (sideband frame) 20 2) (bitsOf (sideband frame) 10 10) ∧
        (bitsOf (sideband frame) 20 2 = 2 → ∀ f ∈ ((u.bank n.val).dir (!toBank)).unacked,
          .bridgeFrame n.val (!toBank) (makeFrame 1 f.1 (0, 0) f.2 (0, 0) (0, 0)) ∈ u.sent)) ∧
    (∀ (n : BankId) (toBank : Bool) (frame : List Byte) (s : State), (s.bank n.val).carries = false →
      ∃ u, exec (.bridgeFrameRx n toBank frame) s = .next u ∧ u = s) ∧
    (∀ (n : BankId) (s : State), (s.bank n.val).bridge = .up ∨ (s.bank n.val).bridge = .idle →
      ∃ u, exec (.bridgeClockLoss n) s = .next u ∧ (u.bank n.val).bridge = .retrain ∧ (u.bank n.val).cause = 3) ∧
    (∀ (n : BankId) (s : State), (s.bank n.val).bridge ≠ .up → (s.bank n.val).bridge ≠ .idle → ∃ u, exec (.bridgeClockLoss n) s = .next u ∧ u = s) ∧
    (∀ (n : BankId) (w : WireTest) (s : State), (s.bank n.val).bridge = .retrain → (s.bank n.val).resetWait = false →
        (assignSpares (s.bank n.val).h2b.spares (s.mapWires n.val 0 deApplied ++ w.badH2b)).isSome = true →
        (assignSpares (s.bank n.val).b2h.spares (s.mapWires n.val 1 deApplied ++ w.badB2h)).isSome = true → w.pairDead = false →
      ∃ u, exec (.bridgeRetrainDone n true w) s = .next u ∧ (u.bank n.val).bridge = .up ∧ (u.bank n.val).badRetrains = 0 ∧
        ∀ toBank, ∀ f ∈ ((s.bank n.val).dir toBank).unacked,
          .bridgeFrame n.val toBank (makeFrame 1 f.1 (0, 0) f.2 (0, 0) (0, 0)) ∈ u.sent) ∧
    (∀ (n : BankId) (w : WireTest) (s : State), (s.bank n.val).bridge = .retrain → (s.bank n.val).badRetrains + 1 < 3 →
      ∃ u, exec (.bridgeRetrainDone n false w) s = .next u ∧ (u.bank n.val).bridge = .retrain ∧
        (u.bank n.val).badRetrains = (s.bank n.val).badRetrains + 1) ∧
    (∀ (n : BankId) (w : WireTest) (s : State), (s.bank n.val).bridge = .retrain → 3 ≤ (s.bank n.val).badRetrains + 1 →
      ∃ u, exec (.bridgeRetrainDone n false w) s = .next u ∧ u.dpFailed (4 + n.val) = true ∧ (u.bank n.val).phase = .resetting) ∧
    (∀ (n : BankId) (ok : Bool) (w : WireTest) (s : State), (s.bank n.val).bridge ≠ .retrain → ∃ u, exec (.bridgeRetrainDone n ok w) s = .next u ∧ u = s) ∧
    (∀ (n : BankId) (ok : Bool) (day minute : Nat) (a b : Bool) (s : State), Inv s →
      ∃ u, exec (.bankTimeMsgRx n ok day minute a b) s = .next u ∧
        (u.bank n.val).expMinute = ((s.bank n.val).expMinute + 1) % 1440 ∧
        (u.bank n.val).expDay = (if (s.bank n.val).expMinute = 1439 then ((s.bank n.val).expDay + 1) % 2 ^ 48 else (s.bank n.val).expDay) ∧
        (u.bank n.val).timeErr = (if ok = true ∧ day = (u.bank n.val).expDay ∧ minute = (u.bank n.val).expMinute then (s.bank n.val).timeErr
          else min 0xFF ((s.bank n.val).timeErr + 1)))

/-- O18. Doorbell polls, descriptor fetches, head reads and their timeouts. DOORBELL_POLL in Noon, or in Afternoon at twice the interval, when polls
are made and their time has come, issues the read of each doorbell block that has none outstanding, with block 1 only when a context above 31 has
ENABLE at 1, and sets the next poll; otherwise it only moves the clock. HUB_WAKE_POLL, a served write in Noon or Afternoon, issues the same reads,
and does nothing but drop a latch where no polls are made. DOORBELL_READ_DONE of an outstanding read whose words are in range stores SQ_TAIL of
every ACTIVE ring of an OPEN context and clears the count of failures; of a read not outstanding it changes nothing. DESCRIPTOR_FETCH_DONE on an
ACTIVE or DRAINING ring with the descriptors asked for appends them to the fetch window in order and moves SQ_HEAD; without a fetch outstanding it
changes nothing. COMPLETION_HEAD_READ when a ring appears full, the host is reached and the interval has passed issues the read of the head block
and takes every CQ_HEAD of a ring that is not CLOSED, and EVQ_HEAD; otherwise it changes nothing. A doorbell read that times out counts one failure;
a fetch of an OPEN context that times out stops the ring with LAST_CODE 0x42 and tears the context down; a head read that times out only moves the
clock. (R97, R98, R104, R111, R113, R114, R121, R122) -/
def Obligations.PollsAndFetches : Prop :=
  (∀ (t : Nat) (s : State), s.polls = true → s.host.nextPoll ≤ max s.clk t → s.awake = true →
      ∃ u, exec (.doorbellPoll t) s = .next u ∧
        (∀ b ∈ s.dbBlocks, (∀ x ∈ s.host.dbOut, x.1 ≠ b) → .hostRead none (s.reg64 (0x210 + 8 * b)) 64 ∈ u.sent) ∧
        (∀ b ∈ s.dbBlocks, ∃ x ∈ u.host.dbOut, x.1 = b) ∧
        u.host.nextPoll = max s.clk t + (if s.pwr.state = .noon then s.pollInterval else 2 * s.pollInterval) ∧ u.rings = s.rings) ∧
    (∀ (t : Nat) (s : State), (s.polls = false ∨ max s.clk t < s.host.nextPoll ∨ s.pwr.exiting = true) →
      ∃ u, exec (.doorbellPoll t) s = .next u ∧ u = { s with clk := max s.clk t }) ∧
    (∀ (s : State), s.served → s.polls = true → s.awake = true →
      ∃ u, exec (.hubWakePoll) s = .next u ∧
        (∀ b ∈ s.dbBlocks, (∀ x ∈ s.host.dbOut, x.1 ≠ b) → .hostRead none (s.reg64 (0x210 + 8 * b)) 64 ∈ u.sent) ∧
        ∀ b ∈ s.dbBlocks, ∃ x ∈ u.host.dbOut, x.1 = b) ∧
    (∀ (s : State), s.served → s.polls = false → s.awake = true →
      ∃ u, exec (.hubWakePoll) s = .next u ∧ u = s.dropLatches 0x20C) ∧
    (∀ (b : Fin 2) (bs : List Byte) (s : State), (∃ x ∈ s.host.dbOut, x.1 = b.val) → s.flt.pkgFault = false →
        (∀ c ∈ ctxRange, c / 32 = b.val → (s.ring c).state = .active → (s.ctx c).state = .open_ →
          (leNat ((bs.drop (2 * (c % 32))).take 2) + 65536 - (s.ring c).sqHead) % 65536 ≤ s.sqSize c) →
      ∃ u, exec (.doorbellReadDone b (some bs)) s = .next u ∧ u.host.dbFails = 0 ∧
        ∀ c ∈ ctxRange, c / 32 = b.val → (s.ring c).state = .active → (s.ctx c).state = .open_ →
          (u.ring c).sqTail = leNat ((bs.drop (2 * (c % 32))).take 2)) ∧
    (∀ (b : Fin 2) (bs : Option (List Byte)) (s : State), (∀ x ∈ s.host.dbOut, x.1 ≠ b.val) →
      ∃ u, exec (.doorbellReadDone b bs) s = .next u ∧ u = s) ∧
    (∀ (c : CtxId) (ds : List (List DWord)) (s : State), (s.ring c.val).fetching = ds.length → ds ≠ [] →
        ((s.ring c.val).state = .active ∨ (s.ring c.val).state = .draining) →
      ∃ u, exec (.descriptorFetchDone c (some ds)) s = .next u ∧
        (u.ring c.val).sqHead = ((s.ring c.val).sqHead + ds.length) % 65536 ∧
        (u.ring c.val).window.map (fun d => (d.idx, d.words)) = (s.ring c.val).window.map (fun d => (d.idx, d.words)) ++
          ds.zipIdx.map (fun p => (((s.ring c.val).sqHead + p.2) % 65536, p.1))) ∧
    (∀ (c : CtxId) (ds : Option (List (List DWord))) (s : State), (s.ring c.val).fetching = 0 →
      ∃ u, exec (.descriptorFetchDone c ds) s = .next u ∧ u = s) ∧
    (∀ (bs : List Byte) (s : State), Inv s → s.anyFull = true → s.hostAlive = true → s.host.linkUp = true → s.host.headPoll ≤ s.clk →
      ∃ u, exec (.completionHeadRead (some bs)) s = .next u ∧
        .hostRead none (s.reg64 0x220) 256 ∈ u.sent ∧ u.host.evqHead = headWord bs 64 ∧
        ∀ c ∈ ctxRange, (s.ring c).state ≠ .closed → (u.ring c).cqHead = headWord bs c) ∧
    (∀ (bs : Option (List Byte)) (s : State), (s.anyFull = false ∨ s.hostAlive = false ∨ s.host.linkUp = false ∨ s.clk < s.host.headPoll) →
      ∃ u, exec (.completionHeadRead bs) s = .next u ∧ u = s) ∧
    (∀ (b : Fin 2) (s : State), Inv s → (∃ x ∈ s.host.dbOut, x.1 = b.val) →
      ∃ u, exec (.hostReadTimeout (.doorbell b)) s = .next u ∧
        u.host.dbFails = s.host.dbFails + 1 ∧ (u.reg 0x238).toNat = min 0xFFFF ((s.reg 0x238).toNat + 1)) ∧
    (∀ (c : CtxId) (s : State), Inv s → (s.ring c.val).fetching ≠ 0 → ((s.ring c.val).state = .active ∨ (s.ring c.val).state = .draining) →
        (s.ctx c.val).state = .open_ →
      ∃ u, exec (.hostReadTimeout (.fetch c)) s = .next u ∧
        (u.ctx c.val).state = .teardown ∧ (u.ring c.val).state = .stopped ∧ (u.ring c.val).lastCode = 0x42) ∧
    (∀ (s : State), ∃ u, exec (.hostReadTimeout .head) s = .next u ∧ u = { s with clk := s.clk + s.readTimeout })

/-- O19. A completion is written to its ring; rings and the event ring are enabled and disabled. DESCRIPTOR_COMPLETE of a descriptor whose work has
ended and whose writes are acknowledged, with the host reached, the link up, room in the ring and nothing in the reserve, writes the entry of Table
4.6 at CQ_TAIL in one write and returns its fetch-window credit (EPOCH is the descriptor's, or for code 0x20 the resource's); without room the
descriptor waits in the reserve; under NO_CPL a code below 0x10 only returns the credit; while its writes are not acknowledged nothing changes.
IRQ_DELAY_EXPIRY at its limit starts the count of unsignalled completions again, and with the link up and MSI-X on and unmasked sends the vector's
message; before, it only moves the clock. RING_ENABLE of a CLOSED ring of an OPEN context with sizes from 16 to 4096 entries starts it afresh; of a
CLOSED ring with a size out of range or a context not OPEN it is a locked write. RING_DISABLE of an ACTIVE ring, no other field changed, leaves it
CLOSED when its window is empty and no fetch is out and DRAINING otherwise, and takes a STOPPED ring to CLOSED. EVQ_ENABLE of a disabled event ring
with ENABLE at 1 and a size from 16 to 4096 entries stores HUB_EVQ_CFG with TAIL and the last EVQ_HEAD at 0 (log entry 114 for these two), nothing
being queued; with another size it is a locked write. (R105, R106, R110, R112, R113, R117, R119, R130, R131, R569) -/
def Obligations.CompletionsAndRings : Prop :=
  (∀ (c : CtxId) (d : Desc) (code detail epoch : Nat) (s : State), Inv s → s.desc c.val d.idx = some d → d.phase = .ended code detail epoch →
        s.unacked c.val d.idx = false → ¬(d.noCpl = true ∧ code < 0x10) → (s.ring c.val).reserve = [] → s.hostAlive = true → s.host.linkUp =
        true → s.cqRoom c.val = true →
      ∃ u, exec (.descriptorComplete c d.idx) s = .next u ∧
        u.desc c.val d.idx = none ∧
        .hostWrite (s.pasid c.val) false (s.reg64 (0x1008 + 0x20 * c.val) + (s.ring c.val).cqTail % s.cqSize c.val * 32)
        (wordBytes [d.tag * 2 ^ 48 + code * 2 ^ 40 + d.kind * 2 ^ 32 + (s.ring c.val).sqHead % 2 ^ 16 * 2 ^ 16 + phaseOf (s.ring c.val).cqTail (s.cqSize c.val),
        detail, s.stamp, (if code = 0x20 then epoch else d.epoch) % 2 ^ 32 * 2 ^ 32 + min d.energy 0xFFFFFFFF]) ∈ u.sent) ∧
    (∀ (c : CtxId) (d : Desc) (code detail epoch : Nat) (s : State), Inv s → s.desc c.val d.idx = some d → d.phase = .ended code detail epoch →
        s.unacked c.val d.idx = false → ¬(d.noCpl = true ∧ code < 0x10) → s.cqRoom c.val = false →
      ∃ u, exec (.descriptorComplete c d.idx) s = .next u ∧
        (∃ x, u.desc c.val d.idx = some x ∧ x.phase = .placed) ∧ (∃ e ∈ (u.ring c.val).reserve, e.idx = d.idx ∧ e.code = code ∧ e.detail = detail) ∧
        (u.ring c.val).cqTail = (s.ring c.val).cqTail) ∧
    (∀ (c : CtxId) (d : Desc) (code detail epoch : Nat) (s : State), Inv s → s.desc c.val d.idx = some d → d.phase = .ended code detail epoch →
        s.unacked c.val d.idx = false → d.noCpl = true → code < 0x10 →
      ∃ u, exec (.descriptorComplete c d.idx) s = .next u ∧
        u.desc c.val d.idx = none ∧ (u.ring c.val).cqTail = (s.ring c.val).cqTail ∧ (u.ring c.val).reserve = (s.ring c.val).reserve) ∧
    (∀ (c : CtxId) (idx : Nat) (s : State), s.unacked c.val idx = true →
      ∃ u, exec (.descriptorComplete c idx) s = .next u ∧ u = s) ∧
    (∀ (c : CtxId) (t t0 : Nat) (s : State), Inv s → (s.ring c.val).firstUnsig = some t0 → s.fld (0x1010 + 0x20 * c.val) 16 4 ≠ 0 → t0 + 2 ^
        (s.fld (0x1010 + 0x20 * c.val) 16 4 - 1) * 1000 ≤ max s.clk t → s.hostAlive = true →
      ∃ u, exec (.irqDelayExpiry c t) s = .next u ∧
        (u.ring c.val).unsignalled = 0 ∧ (u.ring c.val).firstUnsig = none ∧ u.clk = max s.clk t ∧
        (s.host.linkUp = true → s.host.msixOn = true → s.host.msixMask = false →
          s.rbit (0xF000C + 0x10 * s.fld (0x1010 + 0x20 * c.val) 0 6) 0 = false →
          .interrupt (s.fld (0x1010 + 0x20 * c.val) 0 6) (s.reg64 (0xF0000 + 0x10 * s.fld (0x1010 + 0x20 * c.val) 0 6))
            (s.reg (0xF0008 + 0x10 * s.fld (0x1010 + 0x20 * c.val) 0 6)).toNat ∈ u.sent)) ∧
    (∀ (c : CtxId) (t t0 : Nat) (s : State), (s.ring c.val).firstUnsig = some t0 →
        max s.clk t < t0 + 2 ^ (s.fld (0x1010 + 0x20 * c.val) 16 4 - 1) * 1000 →
      ∃ u, exec (.irqDelayExpiry c t) s = .next u ∧ u = { s with clk := max s.clk t }) ∧
    (∀ (c : CtxId) (v : Word) (s : State), Inv s → s.served → (s.ctx c.val).state = .open_ → (s.ring c.val).state = .closed → s.rbit (0x1010 +
        0x20 * c.val) 31 = false → 4 ≤ wfld v 24 4 → wfld v 24 4 ≤ 12 → 4 ≤ wfld v 20 4 → wfld v 20 4 ≤ 12 →
      ∃ u, exec (.ringEnable c v) s = .next u ∧
        (u.ring c.val).state = .active ∧ (u.ring c.val).sqHead = 0 ∧ (u.ring c.val).cqTail = 0 ∧ (u.ring c.val).window = [] ∧
        u.reg (0x1010 + 0x20 * c.val) = (v ||| 0x80000000) &&& 0x8FFFFF3F) ∧
    (∀ (c : CtxId) (v : Word) (s : State), s.served → (s.ring c.val).state = .closed → s.rbit (0x1010 + 0x20 * c.val) 31 = false →
        ((s.ctx c.val).state ≠ .open_ ∨ wfld v 24 4 < 4 ∨ 12 < wfld v 24 4 ∨ wfld v 20 4 < 4 ∨ 12 < wfld v 20 4) →
      ∃ u, exec (.ringEnable c v) s = .next u ∧
        u = (s.dropLatches (0x1010 + 0x20 * c.val)).locked (0x1010 + 0x20 * c.val) .host) ∧
    (∀ (c : CtxId) (v : Word) (s : State), Inv s → s.served → (s.ring c.val).state = .active → (s.reg
        (0x1010 + 0x20 * c.val) ^^^ v) &&& 0x0FFFFF3F = 0 →
      ∃ u, exec (.ringDisable c v) s = .next u ∧
        (u.ring c.val).state = (if (s.ring c.val).window = [] ∧ (s.ring c.val).fetching = 0 then .closed else .draining) ∧
        u.rbit (0x1010 + 0x20 * c.val) 31 = false) ∧
    (∀ (c : CtxId) (v : Word) (s : State), Inv s → s.served → (s.ring c.val).state = .stopped →
      ∃ u, exec (.ringDisable c v) s = .next u ∧ (u.ring c.val).state = .closed ∧ u.rbit (0x1010 + 0x20 * c.val) 31 = false) ∧
    (∀ (v : Word) (s : State), Inv s → s.served → s.rbit 0x230 31 = false → bitAt v.toNat 31 = true → 4 ≤ wfld v 0 4 → wfld v 0 4 ≤ 12 →
        s.host.evq = [] →
      ∃ u, exec (.evqEnable v) s = .next u ∧
        u.reg 0x230 = v &&& 0x8000000F ∧ u.host.evqTail = 0 ∧ u.host.evqHead = 0 ∧ 0x230 ∈ u.host.written) ∧
    (∀ (v : Word) (s : State), s.served → s.rbit 0x230 31 = false → bitAt v.toNat 31 = true → (wfld v 0 4 < 4 ∨ 12 < wfld v 0 4) →
      ∃ u, exec (.evqEnable v) s = .next u ∧ u = (s.dropLatches 0x230).locked 0x230 .host)

/-- O20. The PCI Express link, D3hot and the host resets. PCIE_LINK_LOSS takes the link down; a loss of more than 10 ms, outside Midnight, PERST#
and a host reset, also begins a host reset of kind 7 that closes every ring; a shorter one does nothing more. PCIE_LINK_RETURN with PERST# high
brings the link up with its width and speed and sends what was held, after what was sent before; with PERST# low it changes nothing. D3HOT_ENTRY
outside Midnight sets D3hot and nothing else; D0_RETURN clears it, and what was sent stays sent. PERST_ASSERT outside Midnight takes the link down
and begins a host reset of kind 4; in Midnight it only takes PERST# and the link down. FUNCTION_LEVEL_RESET outside Midnight, with the link up and
boot past stage 1, begins one of kind 5, or of kind 6 with the link down for a hot reset; otherwise it changes nothing. In these two every context
ends FREE, every ring is closed and nothing is held. HOST_RESET_DONE with PERST# high ends a host reset: the event ring starts at 0, no base counts
as written, and bits 4 and 9 of the reset-lost mask are set; with none under way, or PERST# low, it changes nothing. PERST_DEASSERT outside Midnight
lets the link train and changes nothing else but the time of the reset. (R94, R128, R129, R506, R509) -/
def Obligations.HostLinkAndResets : Prop :=
  (∀ (ns : Nat) (s : State), 10000000 < ns → s.pwr.state ≠ .midnight → s.host.perst = false → s.boot.hostReset = false →
      ∃ u, exec (.pcieLinkLoss ns) s = .next u ∧
        u.host.linkUp = false ∧ u.boot.hostReset = true ∧ u.boot.last = 7 ∧ u.rings = []) ∧
    (∀ (ns : Nat) (s : State), ns ≤ 10000000 →
      ∃ u, exec (.pcieLinkLoss ns) s = .next u ∧ u = { s with host := { s.host with linkUp := false } }) ∧
    (∀ (w sp : Nat) (s : State), s.host.perst = false →
      ∃ u, exec (.pcieLinkReturn w sp) s = .next u ∧
        u.host.linkUp = true ∧ u.host.width = w ∧ u.host.speed = sp ∧ (s.held ++ s.sent) <:+ u.sent) ∧
    (∀ (w sp : Nat) (s : State), s.host.perst = true → ∃ u, exec (.pcieLinkReturn w sp) s = .next u ∧ u = s) ∧
    (∀ (s : State), s.pwr.state ≠ .midnight →
      ∃ u, exec (.d3hotEntry) s = .next u ∧
        u = { s with host := { s.host with d3hot := true } }) ∧
    (∀ (s : State),
      ∃ u, exec (.d0Return) s = .next u ∧
        u.host.d3hot = false ∧ s.sent <:+ u.sent) ∧
    (∀ (s : State), Inv s → s.pwr.state ≠ .midnight →
      ∃ u, exec (.perstAssert) s = .next u ∧
        u.host.perst = true ∧ u.host.linkUp = false ∧ u.boot.hostReset = true ∧ u.boot.last = 4 ∧ u.rings = [] ∧ u.held = [] ∧
        ∀ c ∈ ctxRange, (u.ctx c).state = .free) ∧
    (∀ (s : State), s.pwr.state = .midnight →
      ∃ u, exec (.perstAssert) s = .next u ∧ u = { s with host := { s.host with perst := true, linkUp := false } }) ∧
    (∀ (hot : Bool) (s : State), Inv s → s.pwr.state ≠ .midnight → s.host.linkUp = true → 2 ≤ s.boot.stage →
      ∃ u, exec (.functionLevelReset hot) s = .next u ∧
        u.boot.hostReset = true ∧ u.boot.last = (if hot then 6 else 5) ∧ u.rings = [] ∧ u.host.linkUp = !hot ∧ u.held = [] ∧
        ∀ c ∈ ctxRange, (u.ctx c).state = .free) ∧
    (∀ (hot : Bool) (s : State), (s.pwr.state = .midnight ∨ s.host.linkUp = false ∨ s.boot.stage < 2) →
      ∃ u, exec (.functionLevelReset hot) s = .next u ∧ u = s) ∧
    (∀ (s : State), Inv s → s.boot.hostReset = true → s.host.perst = false →
      ∃ u, exec (.hostResetDone) s = .next u ∧
        u.boot.hostReset = false ∧ u.host.evqTail = 0 ∧ u.host.evqHead = 0 ∧ u.host.written = [] ∧ u.rbit 0x510 4 = true ∧ u.rbit 0x510 9 = true) ∧
    (∀ (s : State), (s.boot.hostReset = false ∨ s.host.perst = true) → ∃ u, exec (.hostResetDone) s = .next u ∧ u = s) ∧
    (∀ (w sp : Nat) (s : State), s.pwr.state ≠ .midnight →
      ∃ u, exec (.perstDeassert w sp) s = .next u ∧
        u = { s with host := { s.host with perst := false, linkUp := true, width := w, speed := sp }, boot := { s.boot with resetStart := s.clk } })

/-- O21. NOP, COPY, FILL and SIGNAL do their work and end OK. A descriptor starts (the start answers go, with the descriptor running) when it is the
next of its context and of the row's kind, R104 lets it start, no refused bracket covers it, nothing in it is malformed, the context may issue, its
queue has room, the Ledger admits its estimate, and it neither opens nor stands in a bracket. Of descriptors that start: NOP ends OK or OK_LATE (the
ok code) at once with a free DETAIL and leaves memory as it was. COPY from a reachable device address whose bytes can be read, or from the host with
its LENGTH bytes of data, to a destination that takes them without a fault or a missing remote byte, writes those bytes at DST in one write and ends
with LENGTH as DETAIL; between overlapping device addresses the bytes written are free; from the host its read goes out first. FILL writes LENGTH
bytes of its pattern, SIGNAL its eight bytes (to an address in no remote window) with DETAIL 0. After each, memory is what that one write (the
operation putEnd) leaves. To the host, with the link up, the bytes go out in one write with the context's PASID, with Relaxed Ordering for COPY and
FILL and without for SIGNAL. (R52, R102, R103, R104, R143, R191) -/
def Obligations.MoveDescriptors : Prop :=
  (∀ (c : Nat) (mine room : Desc → Bool) (est : Desc → Nat) (checks : Desc → List (Bool × Nat)) (d : Desc) (s : State),
        (s.noteReady c).nextDesc c = some d → mine d = true → (s.noteReady c).startable c d = true → ((s.noteReady c).ring c).br = .none →
        malformedAt (headerChecks d.words ++ bracketChecks ((s.noteReady c).inBracket c) d.words ++ checks d) = none →
        (s.noteReady c).canIssue = true → room d = true → (s.noteReady c).fitsLedger (est d) = true → d.brOpen = false →
        s.inBracket c = false →
      ∃ s1, s.begin c mine room est checks = .go { d with phase := .running, startMin := s.absMin } s1 ∧ s1.mem = s.mem) ∧
    (∀ (c : CtxId) (d : Desc) (s s1 : State), s.startsNop c.val = .go d s1 →
      ∃ u, exec (.nop c) s = .next u ∧
        u.outcome c.val d.idx = some (d.okCode, Config.freeNat s1.free % 2 ^ 64, d.epoch) ∧ u.mem = s.mem) ∧
    (∀ (c : CtxId) (data : HostData) (d0 d : Desc) (bs : List Byte) (s s1 s2 : State), s.nextDesc c.val = some d0 → (s.asked c.val
        d0.idx).startsCopy c.val = .go d s1 → dbit d.words 5 0 = false → s1.noWayTo c.val (dword d.words 2) = none →
        (dbit d.words 5 1 = true ∨ s1.noWayTo c.val (dword d.words 3) = none) →
        s1.vread 0 c.val (dword d.words 2) (dword d.words 4) = Except.ok bs → copyOverlaps d = false →
        s1.putEnd c.val d.idx (dword d.words 3) (dbit d.words 5 1) true bs = (s2, none) → s2.lnk.need = none →
      ∃ u, exec (.copy c data) s = .next u ∧
        u.outcome c.val d.idx = some (d.okCode, bs.length, d.epoch) ∧ u.mem = s2.mem ∧
        (dbit d.words 5 1 = true → s.host.linkUp = true → bs ≠ [] → .hostWrite (s.pasid c.val) true (dword d.words 3) bs ∈ u.sent)) ∧
    (∀ (c : CtxId) (data : HostData) (d0 d : Desc) (bs : List Byte) (s s1 s2 : State), s.nextDesc c.val = some d0 → (s.asked c.val
        d0.idx).startsCopy c.val = .go d s1 → s1.noWayTo c.val (dword d.words 2) = none → s1.noWayTo c.val (dword d.words 3) = none →
        s1.vread 0 c.val (dword d.words 2) (dword d.words 4) = Except.ok bs → copyOverlaps d = true →
        (s1.freeBytes (dword d.words 4)).2.putEnd c.val d.idx (dword d.words 3) false true (s1.freeBytes (dword d.words 4)).1 = (s2, none) →
        s2.lnk.need = none →
      ∃ u, exec (.copy c data) s = .next u ∧
        u.outcome c.val d.idx = some (d.okCode, dword d.words 4, d.epoch) ∧ u.mem = s2.mem) ∧
    (∀ (c : CtxId) (d0 d : Desc) (bs : List Byte) (s s1 s2 : State), s.nextDesc c.val = some d0 → (s.asked c.val
        d0.idx).startsCopy c.val = .go d s1 → dbit d.words 5 0 = true → dbit d.words 5 1 = false →
        s1.noWayTo c.val (dword d.words 3) = none → bs.length = dword d.words 4 →
        (s1.send (.hostRead (s1.pasid c.val) (dword d.words 2) (dword d.words 4))).putEnd c.val d.idx (dword d.words 3) false true bs = (s2, none) →
        s2.lnk.need = none →
      ∃ u, exec (.copy c (.ok bs)) s = .next u ∧
        u.outcome c.val d.idx = some (d.okCode, dword d.words 4, d.epoch) ∧ u.mem = s2.mem ∧
        .hostRead (s.pasid c.val) (dword d.words 2) (dword d.words 4) ∈ u.sent) ∧
    (∀ (c : CtxId) (d0 d : Desc) (s s1 s2 : State), s.nextDesc c.val = some d0 → (s.asked c.val d0.idx).startsFill c.val = .go d s1 →
        (dbit d.words 5 1 = true ∨ s1.noWayTo c.val (dword d.words 2) = none) →
        s1.putEnd c.val d.idx (dword d.words 2) (dbit d.words 5 1) true (repeated (dword d.words 4) (dword d.words 3)) = (s2, none) →
        s2.lnk.need = none →
      ∃ u, exec (.fill c) s = .next u ∧
        u.outcome c.val d.idx = some (d.okCode, dword d.words 3, d.epoch) ∧ u.mem = s2.mem ∧
        (dbit d.words 5 1 = true → s.host.linkUp = true → dword d.words 3 ≠ 0 →
          .hostWrite (s.pasid c.val) true (dword d.words 2) (repeated (dword d.words 4) (dword d.words 3)) ∈ u.sent)) ∧
    (∀ (c : CtxId) (d0 d : Desc) (s s1 s2 : State), s.nextDesc c.val = some d0 → (s.asked c.val d0.idx).startsSignal c.val = .go d s1 →
        (dbit d.words 5 1 = true ∨ s1.windowOf c.val (dword d.words 2) = none) →
        s1.putEnd c.val d.idx (dword d.words 2) (dbit d.words 5 1) false (leBytes 8 (dword d.words 3)) = (s2, none) → s2.lnk.need = none →
      ∃ u, exec (.signal c) s = .next u ∧
        u.outcome c.val d.idx = some (d.okCode, 0, d.epoch) ∧ u.mem = s2.mem ∧
        (dbit d.words 5 1 = true → s.host.linkUp = true →
          .hostWrite (s.pasid c.val) false (dword d.words 2) (leBytes 8 (dword d.words 3)) ∈ u.sent))

/-- O22. WAIT, WAIT_POLL and WAIT_TIMEOUT. WAIT, at a start that goes on, of an address that is reachable and can be read without a missing remote
byte, reads its eight bytes, and WAIT_POLL of a WAIT that runs reads them again: once the value is at least VALUE the WAIT ends OK (the ok code)
with the value read as DETAIL; a smaller value is kept as the last one read and the WAIT goes on. WAIT_TIMEOUT, from LIMIT Minutes after the Minute
of the start on (log entry 37), ends it with code 0x27 and the last value read; before, or with LIMIT 0, it changes nothing. Without a WAIT that
runs WAIT_POLL and WAIT_TIMEOUT change nothing. None of them changes memory. (R102, R103, R118) -/
def Obligations.WaitDescriptors : Prop :=
  (∀ (c : CtxId) (d0 d : Desc) (v : Nat) (s s1 : State), s.nextDesc c.val = some d0 → (s.asked c.val d0.idx).startsWait c.val = .go d s1 →
        s1.noWayTo c.val (dword d.words 2) = none → s1.vreadNat 0 c.val (dword d.words 2) 8 = Except.ok v → s1.lnk.need = none →
      ∃ u, exec (.wait c) s = .next u ∧
        u.mem = s.mem ∧ (dword d.words 3 ≤ v → u.outcome c.val d.idx = some (d.okCode, v, d.epoch)) ∧
        (v < dword d.words 3 → ∃ x, u.desc c.val d.idx = some x ∧ x.phase = .running ∧ x.cursor = v)) ∧
    (∀ (c : CtxId) (d : Desc) (v : Nat) (s : State), s.waiting c.val = some d → (s.asked c.val d.idx).vreadNat 0 c.val (dword d.words 2) 8 =
        Except.ok v → s.lnk.need = none → s.desc c.val d.idx = some d →
      ∃ u, exec (.waitPoll c) s = .next u ∧
        u.mem = s.mem ∧ (dword d.words 3 ≤ v → u.outcome c.val d.idx = some (d.okCode, v, d.epoch)) ∧
        (v < dword d.words 3 → ∃ x, u.desc c.val d.idx = some x ∧ x.phase = .running ∧ x.cursor = v)) ∧
    (∀ (c : CtxId) (d : Desc) (s : State), s.waiting c.val = some d → s.desc c.val d.idx = some d → dfld d.words 4 0 16 ≠ 0 →
        d.startMin + dfld d.words 4 0 16 ≤ s.absMin →
      ∃ u, exec (.waitTimeout c) s = .next u ∧
        u.outcome c.val d.idx = some (0x27, d.cursor, d.epoch) ∧ u.mem = s.mem) ∧
    (∀ (c : CtxId) (d : Desc) (s : State), s.waiting c.val = some d →
        (dfld d.words 4 0 16 = 0 ∨ s.absMin < d.startMin + dfld d.words 4 0 16) →
      ∃ u, exec (.waitTimeout c) s = .next u ∧ u = s) ∧
    (∀ (c : CtxId) (i : Instr) (s : State), s.waiting c.val = none → i = .waitPoll c ∨ i = .waitTimeout c →
      ∃ u, exec i s = .next u ∧ u = s)

/-- O23. LEASE_TAKE, LEASE_RENEW and LEASE_RELEASE. At a start that goes on: LEASE_TAKE of a free resource grants it to the context with the next
epoch, until the Minute after MINUTES whole ones, and ends OK with MINUTES and the epoch as DETAIL; of a held one it waits last in the queue.
Outside a bracket LEASE_RENEW of a lease held under its epoch moves the expiry and ends OK without NOT_EXTENDED, or with a TAKE waiting leaves the
lease and ends OK with NOT_EXTENDED, the Minutes left and the epoch; LEASE_RELEASE frees the resource under its epoch, or grants it to the first
TAKE that waits with the next epoch, and ends OK. Of a lease not held both end with STALE_EPOCH and leave every lease. Inside a bracket that does
not close with the descriptor, both are kept for the commit, leave every lease and end OK. (R449, R450, R452, R454, R457) -/
def Obligations.LeaseDescriptors : Prop :=
  (∀ (c : CtxId) (d : Desc) (s s1 : State), s.startsLease c.val (fun a => a == 0 || a == 3) = .go d s1 → (s1.lease (leaseRes d)).holder = none →
      ∃ u, exec (.leaseTake c) s = .next u ∧
        (u.lease (leaseRes d)).holder = some (c.val, (s1.ctx c.val).gen) ∧ (u.lease (leaseRes d)).expire = s1.absMin + s1.leaseMinutes d + 1 ∧
        u.epoch (leaseRes d) = nextEpoch (s1.epoch (leaseRes d)) ∧
        u.outcome c.val d.idx = some (d.okCode, s1.leaseMinutes d * 2 ^ 32 + nextEpoch (s1.epoch (leaseRes d)), d.epoch)) ∧
    (∀ (c : CtxId) (d : Desc) (h : Nat × Nat) (s s1 : State), s.startsLease c.val (fun a => a == 0 || a == 3) = .go d s1 → (s1.lease (leaseRes
        d)).holder = some h →
      ∃ u, exec (.leaseTake c) s = .next u ∧
        (u.lease (leaseRes d)).holder = some h ∧
        (u.lease (leaseRes d)).waiting = (s1.lease (leaseRes d)).waiting ++ [(c.val, (s1.ctx c.val).gen, d.idx, s1.leaseMinutes d)]) ∧
    (∀ (c : CtxId) (d : Desc) (s s1 : State), s.startsLease c.val (fun a => a == 1) = .go d s1 → s1.holdsLease c.val d = true → s1.inBracket c.val
        = false → (s1.lease (leaseRes d)).waiting = [] →
      ∃ u, exec (.leaseRenew c) s = .next u ∧
        (u.lease (leaseRes d)).expire = s1.absMin + s1.leaseMinutes d + 1 ∧
        ∃ o, u.outcome c.val d.idx = some o ∧ o.1 = d.okCode ∧ bitAt o.2.1 48 = false) ∧
    (∀ (c : CtxId) (d : Desc) (s s1 : State), s.startsLease c.val (fun a => a == 1) = .go d s1 → s1.holdsLease c.val d = true → s1.inBracket c.val
        = false → (s1.lease (leaseRes d)).waiting ≠ [] →
      ∃ u, exec (.leaseRenew c) s = .next u ∧
        u.lease (leaseRes d) = s1.lease (leaseRes d) ∧
        u.outcome c.val d.idx = some (d.okCode, 2 ^ 48 + s1.minutesLeft (leaseRes d) * 2 ^ 32 + s1.epoch (leaseRes d), d.epoch)) ∧
    (∀ (c : CtxId) (d : Desc) (s s1 : State), s.startsLease c.val (fun a => a == 2) = .go d s1 → s1.holdsLease c.val d = true → s1.inBracket c.val
        = false → (s1.lease (leaseRes d)).waiting = [] → tabWf (fun _ => Lease.reset) s.flt.leases = true →
      ∃ u, exec (.leaseRelease c) s = .next u ∧
        (u.lease (leaseRes d)).holder = none ∧ u.epoch (leaseRes d) = s1.epoch (leaseRes d) ∧ u.outcome c.val d.idx = some (d.okCode, 0, d.epoch)) ∧
    (∀ (c : CtxId) (d : Desc) (w : Nat × Nat × Nat × Nat) (rest : List (Nat × Nat × Nat × Nat)) (s s1 : State), s.startsLease c.val (fun a => a ==
        2) = .go d s1 → s1.holdsLease c.val d = true → s1.inBracket c.val = false → (s1.lease (leaseRes d)).waiting = w :: rest →
        (w.1 ≠ c.val ∨ w.2.2.1 ≠ d.idx) →
      ∃ u, exec (.leaseRelease c) s = .next u ∧
        (u.lease (leaseRes d)).holder = some (w.1, w.2.1) ∧ (u.lease (leaseRes d)).waiting = rest ∧
        u.epoch (leaseRes d) = nextEpoch (s1.epoch (leaseRes d)) ∧ u.outcome c.val d.idx = some (d.okCode, 0, d.epoch)) ∧
    (∀ (c : CtxId) (d : Desc) (k : Nat) (i : Instr) (s s1 : State), (k = 1 ∧ i = .leaseRenew c ∨ k = 2 ∧ i = .leaseRelease c) →
        s.startsLease c.val (fun a => a == k) = .go d s1 → s1.holdsLease c.val d = false → s1.inBracket c.val = false →
      ∃ u, exec i s = .next u ∧ u.flt.leases = s1.flt.leases ∧
        u.outcome c.val d.idx = some (0x20, leaseRes d, s1.epoch (leaseRes d))) ∧
    (∀ (c : CtxId) (d : Desc) (b : Bracket) (k : Nat) (i : Instr) (s s1 : State), (k = 1 ∧ i = .leaseRenew c ∨ k = 2 ∧ i = .leaseRelease c) →
        s.startsLease c.val (fun a => a == k) = .go d s1 → s1.holdsLease c.val d = true → s1.inBracket c.val = true → s1.flt.bracket = some b →
        d.brClose = false →
      ∃ u, exec i s = .next u ∧ u.flt.leases = s1.flt.leases ∧ u.outcome c.val d.idx = some (d.okCode, 0, d.epoch) ∧
        u.flt.bracket = some { b with renews := b.renews ++ [(leaseRes d, k, s1.leaseMinutes d, d.epoch)] })

/-- O24. ATP_UPDATE, BIAS_WRITE and ROUTE_VERSION outside a bracket. At a start that goes on, outside a bracket: ATP_UPDATE whose walk reaches the
entry writes its eight bytes (with ZERO also zeros in the table it names), every other byte of memory reads as before, it ends OK with the previous
value as DETAIL, and the walk is counted in ATP_WALK_CNT. BIAS_WRITE under the set's write lease and epoch, whose words can be read without a
missing remote byte and are finite, puts them into the biases from FIRST on and ends OK with their number; ROUTE_VERSION under them stores VERSION
and ends OK with the previous one. Without the lease under its epoch either ends with STALE_EPOCH and leaves every bias and version as it was.
(R178, R179, R180, R199, R241, R254, R450) -/
def Obligations.TableDescriptors : Prop :=
  (∀ (c : CtxId) (d : Desc) (t pa old : Nat) (s s1 : State), Inv s → s.startsAtp c.val = .go d s1 →
        s1.rootOf c.val (dword d.words 2) = Except.ok t →
        (s1.bump 0x9001C 32 1).entryAddr c.val (dword d.words 2) (dfld d.words 4 0 2) 3 t = Except.ok (some pa) →
        (s1.bump 0x9001C 32 1).pteReader c.val pa = Except.ok old → s1.inBracket c.val = false →
      ∃ u, exec (.atpUpdate c) s = .next u ∧
        u.outcome c.val d.idx = some (d.okCode, old, d.epoch) ∧ (u.reg 0x9001C).toNat = min 0xFFFFFFFF ((s.reg 0x9001C).toNat + 1) ∧
        ∀ a, u.byte a = if pa ≤ a ∧ a < pa + 8 then (leBytes 8 (dword d.words 3)).getD (a - pa) 0
        else if dbit d.words 4 2 = true ∧ pteAddr (dword d.words 3) ≤ a ∧ a < pteAddr (dword d.words 3) + targetSize (dfld d.words 4 0 2) false then 0 else s.byte a) ∧
    (∀ (c : CtxId) (d0 d : Desc) (bs : List Byte) (s s1 : State), Inv s → s.nextDesc c.val = some d0 → (s.asked c.val d0.idx).startsBias c.val =
        .go d s1 → (s1.lease (resSet (dfld d.words 3 48 4))).holder = some (c.val, (s1.ctx c.val).gen) → s1.epoch (resSet (dfld d.words 3 48 4))
        = d.epoch → s1.inBracket c.val = false → s1.get c.val (dword d.words 2) (4 * dfld d.words 3 16 9) = Except.ok bs → (elemBits 32 0 (dfld
        d.words 3 16 9) bs).all f32Fin = true → s1.lnk.need = none →
      ∃ u, exec (.biasWrite c) s = .next u ∧
        u.outcome c.val d.idx = some (d.okCode, dfld d.words 3 16 9, d.epoch) ∧
        ∀ i < dfld d.words 3 16 9, u.reg (0x34000 + 0x400 * dfld d.words 3 48 4 + 4 * (dfld d.words 3 40 8 + i)) = BitVec.ofNat 32 ((elemBits 32 0 (dfld d.words 3 16 9) bs).getD i 0)) ∧
    (∀ (c : CtxId) (d : Desc) (s s1 : State), Inv s → s.startsVersion c.val = .go d s1 → (s1.lease (resSet (dfld d.words 2 48 4))).holder = some
        (c.val, (s1.ctx c.val).gen) → s1.epoch (resSet (dfld d.words 2 48 4)) = d.epoch → s1.inBracket c.val = false →
      ∃ u, exec (.routeVersion c) s = .next u ∧
        u.outcome c.val d.idx = some (d.okCode, s.setVersion (dfld d.words 2 48 4), d.epoch) ∧
        u.reg (0x30104 + 0x10 * dfld d.words 2 48 4) = BitVec.ofNat 32 (dfld d.words 2 0 32)) ∧
    (∀ (c : CtxId) (d0 d : Desc) (s s1 : State), s.nextDesc c.val = some d0 → (s.asked c.val d0.idx).startsBias c.val = .go d s1 →
        ((s1.lease (resSet (dfld d.words 3 48 4))).holder ≠ some (c.val, (s1.ctx c.val).gen) ∨ s1.epoch (resSet (dfld d.words 3 48 4)) ≠ d.epoch) →
        s1.inBracket c.val = false → s1.lnk.need = none →
      ∃ u, exec (.biasWrite c) s = .next u ∧
        u.outcome c.val d.idx = some (0x20, resSet (dfld d.words 3 48 4), s1.epoch (resSet (dfld d.words 3 48 4))) ∧
        ∀ a, 0x34000 ≤ a → a < 0x38000 → u.reg a = s.reg a) ∧
    (∀ (c : CtxId) (d : Desc) (s s1 : State), s.startsVersion c.val = .go d s1 →
        ((s1.lease (resSet (dfld d.words 2 48 4))).holder ≠ some (c.val, (s1.ctx c.val).gen) ∨ s1.epoch (resSet (dfld d.words 2 48 4)) ≠ d.epoch) →
        s1.inBracket c.val = false →
      ∃ u, exec (.routeVersion c) s = .next u ∧
        u.outcome c.val d.idx = some (0x20, resSet (dfld d.words 2 48 4), s1.epoch (resSet (dfld d.words 2 48 4))) ∧
        ∀ k < 16, u.setVersion k = s.setVersion k)

/-- O25. LAYER begins its Gate stage, and with SKIP_LAYER its Combine stage. At a start that goes on, with the fields it holds itself well formed
and every tensor, record and entry it names well formed and readable without a missing remote byte, and at most 16,384 tokens: LAYER joins the
scheduler as the job of its Gate stage (a table of one row that holds every token, handed to the control core); with SKIP_LAYER, which reads only
its tensors, it joins it as a job of the Combine stage and joins the Combine Unit's queue, which keeps what it held. Neither changes memory. A LAYER
of the row's kind whose fields are malformed ends MALFORMED, outside a bracket, with a DETAIL no higher than the lowest of those fields, and no job
joins. (R229, R230, R231, R239, R246, R252, R267) -/
def Obligations.LayerDescriptors : Prop :=
  (∀ (c : CtxId) (d0 d : Desc) (a out g : Tensor) (r b : List Nat) (es : List Expert) (s s1 : State), s.nextDesc c.val = some d0 → (s.asked
        c.val d0.idx).startsLayer c.val false = .go d s1 → layerStatic d.words = Except.ok () → s1.layerTensors c.val d.words = Except.ok (a,
        out) → a.size 0 ≤ 16384 → s1.layerRecord c.val d.words = Except.ok r → s1.layerGate c.val d.words = Except.ok g → s1.layerEntries c.val d.words = Except.ok
        es → s1.layerBatch c.val d.words = Except.ok b → s1.lnk.need = none →
      ∃ u, exec (.layer c) s = .next u ∧
        u.mem = s.mem ∧ { s1.gateJob c.val d a out g r b es with rivals := s1.work.jobs.map Job.key } ∈ u.work.jobs ∧
        (s1.gateJob c.val d a out g r b es).stage = .gate ∧ (s1.gateJob c.val d a out g r b es).handed = true ∧
        (s1.gateJob c.val d a out g r b es).rows.map (fun x => x.m) = [a.size 0]) ∧
    (∀ (c : CtxId) (d0 d : Desc) (a out : Tensor) (s s1 : State), s.nextDesc c.val = some d0 → (s.asked c.val d0.idx).startsLayer c.val true = .go
        d s1 → layerStatic d.words = Except.ok () → s1.layerTensors c.val d.words = Except.ok (a, out) → a.size 0 ≤ 16384 → s1.lnk.need = none →
      ∃ u, exec (.layerSkip c) s = .next u ∧
        u.mem = s.mem ∧ (c.val, d.idx) ∈ u.work.combineQueue ∧ (∀ k ∈ s.work.combineQueue, k ∈ u.work.combineQueue) ∧
        ∃ j ∈ u.work.jobs, j.ctx = c.val ∧ j.idx = d.idx ∧ j.stage = .combine ∧ j.layer = some (layerOf d.words out none [] [])) ∧
    (∀ (c : CtxId) (skip : Bool) (d0 d : Desc) (off : Nat) (i : Instr) (s s1 : State), (skip = false ∧ i = .layer c ∨ skip = true ∧ i = .layerSkip c) →
        s.nextDesc c.val = some d0 → (s.asked c.val d0.idx).startsLayer c.val skip = .go d s1 → layerStatic d.words = Except.error (.bad off) →
        s1.inBracket c.val = false → s1.lnk.need = none →
      ∃ u, exec i s = .next u ∧ u.work.jobs = s.work.jobs ∧ ∃ o, u.outcome c.val d.idx = some o ∧ o.1 = 0x10 ∧ o.2.1 ≤ off)

/-- O26. GROUPED_OP hands its table over, and the four kinds of SFU_PASS split their rows. At a start that goes on: a GROUPED_OP whose own fields
are well formed and whose table, tokens, entries and input are well formed and readable without a missing remote byte joins the scheduler as a job
with the table's rows handed to its control core, or, of a table without rows, ends OK with DETAIL 0. An SFU_PASS (elementwise, SOFTMAX, LAYER_NORM,
RMS_NORM, each by its own row) whose own fields, tensors and parameters are so, of at least one row, joins it as a job of its OP with the parameters
read, split into groups of rows. Memory is unchanged. One whose own fields are malformed ends MALFORMED, outside a bracket, and no job joins. (R184,
R268, R269, R291, R292, R294, R295, R296) -/
def Obligations.GroupedDescriptors : Prop :=
  (∀ (c : CtxId) (d0 d : Desc) (t : GroupedTable) (s s1 : State), s.nextDesc c.val = some d0 → (s.asked c.val d0.idx).startsGrouped c.val = .go
        d s1 → malformedAt (groupedChecks d.words) = none → s1.getGrouped c.val d.words = Except.ok t → s1.lnk.need = none → s1.job c.val d.idx = none →
      ∃ u, exec (.groupedOp c) s = .next u ∧
        u.mem = s.mem ∧ (t.rows = [] → u.outcome c.val d.idx = some (d.okCode, 0, d.epoch)) ∧
        (t.rows ≠ [] → ∃ j ∈ u.work.jobs, j.ctx = c.val ∧ j.idx = d.idx ∧ j.rows = t.rows ∧ j.entries = t.experts ∧ j.tokens = t.tokens ∧ j.handed = true)) ∧
    (∀ (c : CtxId) (d0 d : Desc) (a out : Tensor) (pa pb : Option (List Nat)) (k : Nat) (i : Instr) (s s1 : State),
      ((i = .sfuPassElementwise c ∧ k = 0) ∨ (i = .sfuPassSoftmax c ∧ k = 0x20) ∨ (i = .sfuPassLayerNorm c ∧ k = 0x21) ∨
        (i = .sfuPassRmsNorm c ∧ k = 0x22)) →
      s.nextDesc c.val = some d0 →
      (s.asked c.val d0.idx).startsPass c.val (fun op => if k = 0 then op != 0x20 && op != 0x21 && op != 0x22 else op == k) = .go d s1 →
      malformedAt (passChecks d.words) = none →
      s1.getPass c.val d.words = Except.ok (a, out, pa, pb) → 0 < a.size 0 → s1.job c.val d.idx = none → s1.lnk.need = none →
      ∃ u, exec i s = .next u ∧ u.mem = s.mem ∧
        ∃ j, u.job c.val d.idx = some j ∧ j.input = a ∧ j.sfuOut = some out ∧ j.parA = pa ∧ j.parB = pb ∧ j.sfuOp = sfuOpOf d ∧ j.stage = .pass ∧
          j.groups ≠ []) ∧
    (∀ (c : CtxId) (d0 d : Desc) (off : Nat) (s s1 : State), s.nextDesc c.val = some d0 → (s.asked c.val d0.idx).startsGrouped c.val = .go d s1 →
        malformedAt (groupedChecks d.words) = some off → s1.inBracket c.val = false → s1.lnk.need = none →
      ∃ u, exec (.groupedOp c) s = .next u ∧ u.work.jobs = s.work.jobs ∧ ∃ o, u.outcome c.val d.idx = some o ∧ o.1 = 0x10 ∧ o.2.1 ≤ off) ∧
    (∀ (c : CtxId) (d0 d : Desc) (off k : Nat) (i : Instr) (s s1 : State),
      ((i = .sfuPassElementwise c ∧ k = 0) ∨ (i = .sfuPassSoftmax c ∧ k = 0x20) ∨ (i = .sfuPassLayerNorm c ∧ k = 0x21) ∨
        (i = .sfuPassRmsNorm c ∧ k = 0x22)) →
      s.nextDesc c.val = some d0 →
      (s.asked c.val d0.idx).startsPass c.val (fun op => if k = 0 then op != 0x20 && op != 0x21 && op != 0x22 else op == k) = .go d s1 →
      malformedAt (passChecks d.words) = some off → s1.inBracket c.val = false → s1.lnk.need = none →
      ∃ u, exec i s = .next u ∧ u.work.jobs = s.work.jobs ∧ ∃ o, u.outcome c.val d.idx = some o ∧ o.1 = 0x10 ∧ o.2.1 ≤ off)

/-- O27. A table is split, a group starts and ends, ballast ends, and the scheduler preempts nothing. TABLE_SPLIT of the oldest table handed to the
control core ends the hold on it when its rows are all split, and otherwise takes at least one row of it while the split store has room; with no
table it changes nothing. ENGINE_COMMAND_RX of a group in flight, with no bridge holding the command back, starts the group where its engine is the
one of its map epoch (or on a Special Function Unit position), and otherwise returns it under the current epoch with ENG_EVT bit 4; while the bridge
holds it back, nothing changes. GROUP_END of a running group, whose output is written without a fault, a missing remote byte or a write that a
bridge holds back, leaves memory as that write of the group does and counts the group on an engine; while the bridge holds back its report the group
has not ended and nothing at work changes. BALLAST_END of a burst under way charges it and leaves memory. SPILL_DELAY_EXPIRY moves the clock, and
every occupied position keeps its group. ENGINE_MAP_HOLD_EXPIRY discards the previous map once its Minute has come, and before changes nothing.
(R82, R142, R144, R150, R151, R270, R272, R274, R423, R428) -/
def Obligations.GroupLife : Prop :=
  (∀ (k : Fin 4) (j : Job) (s : State), (s.work.jobs.find? fun j => j.handed && j.ctx % 4 == k.val) = some j → s.job j.ctx j.idx = some j →
      ∃ u, exec (.tableSplit k) s = .next u ∧
        u.mem = s.mem ∧ (j.rows = [] → ∃ x, u.job j.ctx j.idx = some x ∧ x.handed = false) ∧
        (j.rows ≠ [] → s.storeUsed (j.ctx % 4) < 4096 → ∃ x, u.job j.ctx j.idx = some x ∧ x.rows.length < j.rows.length ∧ j.groups.length ≤ x.groups.length)) ∧
    (∀ (k : Fin 4) (s : State), (s.work.jobs.find? fun j => j.handed && j.ctx % 4 == k.val) = none →
      ∃ u, exec (.tableSplit k) s = .next u ∧ u = s) ∧
    (∀ (p : PosId) (o : Occupant) (j : Job) (g : Group) (s : State), s.occupant p.val = some o → s.job o.ctx o.idx = some j → j.group o.group =
        some g → g.at_ = .issued p.val → s.bridgeHeld (posBank p.val) = false →
        (16 ≤ p.val ∨ s.engineUnder g.epoch p.val = some (s.engineAt p.val)) →
      ∃ u, exec (.engineCommandRx p) s = .next u ∧
        u.job o.ctx o.idx = some (j.setGroup o.group (fun g => { g with at_ := .running p.val })) ∧ u.mem = s.mem) ∧
    (∀ (p : PosId) (o : Occupant) (j : Job) (g : Group) (s : State), Inv s → s.occupant p.val = some o → s.job o.ctx o.idx = some j → j.group o.group =
        some g → g.at_ = .issued p.val → s.bridgeHeld (posBank p.val) = false → p.val < 16 → s.engineUnder g.epoch p.val ≠ some (s.engineAt p.val) →
      ∃ u, exec (.engineCommandRx p) s = .next u ∧
        u.job o.ctx o.idx = some (j.setGroup o.group (fun _ => { g with epoch := (s.reg 0xA0004).toNat })) ∧ u.rbit 0xA0008 4 = true ∧ u.mem = s.mem) ∧
    (∀ (p : PosId) (s : State), s.bridgeHeld (posBank p.val) = true →
      ∃ u, exec (.engineCommandRx p) s = .next u ∧ u = s) ∧
    (∀ (p : PosId) (ns sat : Nat) (o : Occupant) (j : Job) (g : Group) (s s2 : State), Inv s → s.occupant p.val = some o → (s.asked o.ctx o.idx
        p.val).job o.ctx o.idx = some j → j.group o.group = some g → g.at_ = .running p.val → (s.asked o.ctx o.idx p.val).writeGroup j g p.val =
        (s2, none, sat) → s.bridgeHeld (posBank p.val) = false → s2.heldWrites ≤ s.heldWrites → s2.lnk.need = none →
      ∃ u, exec (.groupEnd p ns) s = .next u ∧
        u.mem = s2.mem ∧ (p.val < 16 → (u.reg (0xA0108 + 0x40 * p.val)).toNat = min 0xFFFFFFFF ((s.reg (0xA0108 + 0x40 * p.val)).toNat + 1))) ∧
    (∀ (p : PosId) (ns : Nat) (o : Occupant) (j : Job) (g : Group) (s : State), s.occupant p.val = some o → s.job o.ctx o.idx = some j →
        j.group o.group = some g → s.bridgeHeld (posBank p.val) = true → s.lnk.need = none →
      ∃ u, exec (.groupEnd p ns) s = .next u ∧ u.mem = s.mem ∧ u.work = s.work) ∧
    (∀ (p : PosId) (s : State), Inv s → tabGet (fun _ => false) s.pwr.ballast p.val = true →
      ∃ u, exec (.ballastEnd p) s = .next u ∧
        min 0xFFFFFFFF ((s.reg 0x2018C).toNat + s.energy { counts := [160000000], ns := 10000 } / 1000) ≤ (u.reg 0x2018C).toNat ∧ u.mem = s.mem) ∧
    (∀ (t : Nat) (s : State),
      ∃ u, exec (.spillDelayExpiry t) s = .next u ∧
        u.clk = max s.clk t ∧ u.mem = s.mem ∧ ∀ p o, s.occupant p = some o → u.occupant p = some o) ∧
    (∀ (m : Nat) (s : State), s.maps.prevUntil = some m → m ≤ s.absMin →
      ∃ u, exec (.engineMapHoldExpiry) s = .next u ∧
        u = s.setMaps { s.maps with prevUntil := none, prevEngines := [] }) ∧
    (∀ (m : Nat) (s : State), s.maps.prevUntil = some m → s.absMin < m →
      ∃ u, exec (.engineMapHoldExpiry) s = .next u ∧ u = s)

/-- O28. Errors of engines, Special Function Units and control cores. A corrected ENGINE_ERROR is counted and changes no other register; an
uncorrected one, and ENGINE_WATCHDOG past its limit, set ENG_EVT bit 1, and the healthy spare of the bank die takes the position, or without one the
position's data-path view is failed; ENGINE_WATCHDOG within its limit only moves the clock. ENGINE_RESULT_BAD of an OPEN context's group tears the
context down with code 0x45, its ring stopped, and sets ENG_EVT bit 3, or for the Special Function Unit SFU_EVT bit 2; on a free position it changes
nothing. A corrected SFU_ERROR is counted and changes no other register; an uncorrected one puts the unit into its self-test, and a group under way
on the position named that may be tried again is counted with SFU_EVT bit 0. SFU_SELF_TEST ends the self-test, and a failed one fails the view;
without one it changes nothing. A control core's failure puts the healthy spare in its position, or without one is a package-class fault. (R162,
R163, R279, R280, R281, R305, R306, R447) -/
def Obligations.UnitErrors : Prop :=
  (∀ (p : Fin 16) (s : State), Inv s →
      ∃ u, exec (.engineError p true) s = .next u ∧
        (u.reg (0xA0110 + 0x40 * p.val)).toNat = min 0xFFFFFFFF ((s.reg (0xA0110 + 0x40 * p.val)).toNat + 1) ∧
        ∀ off, off ≠ 0xA0110 + 0x40 * p.val → u.reg off = s.reg off) ∧
    (∀ (p : Fin 16) (s : State), Inv s →
      ∃ u, exec (.engineError p false) s = .next u ∧
        u.rbit 0xA0008 1 = true ∧ (s.spareEngine (p.val / 4) = none → u.dpFailed (8 + p.val) = true) ∧
        (∀ e, s.spareEngine (p.val / 4) = some e → tabWf engDefault s.maps.engines = true → u.engineAt p.val = e)) ∧
    (∀ (p : Fin 16) (t : Nat) (o : Occupant) (j : Job) (g : Group) (s : State), Inv s → s.occupant p.val = some o → s.job o.ctx o.idx = some j →
        j.group o.group = some g → max 1 (s.fld 0xA0000 8 8) * g.est / 2048000 + 10000 < max s.clk t - g.issuedAt →
      ∃ u, exec (.engineWatchdog p t) s = .next u ∧
        u.rbit 0xA0008 1 = true ∧ u.clk = max s.clk t ∧ (s.spareEngine (p.val / 4) = none → u.dpFailed (8 + p.val) = true) ∧
        (∀ e, s.spareEngine (p.val / 4) = some e → tabWf engDefault s.maps.engines = true → u.engineAt p.val = e)) ∧
    (∀ (p : Fin 16) (t : Nat) (o : Occupant) (j : Job) (g : Group) (s : State), s.occupant p.val = some o → s.job o.ctx o.idx = some j →
        j.group o.group = some g → max s.clk t - g.issuedAt ≤ max 1 (s.fld 0xA0000 8 8) * g.est / 2048000 + 10000 →
      ∃ u, exec (.engineWatchdog p t) s = .next u ∧ u = { s with clk := max s.clk t }) ∧
    (∀ (p : PosId) (sfu : Bool) (o : Occupant) (s : State), Inv s → s.occupant p.val = some o → (s.ctx o.ctx).state = .open_ →
      ∃ u, exec (.engineResultBad p sfu) s = .next u ∧
        (u.ctx o.ctx).state = .teardown ∧ (u.ring o.ctx).lastCode = 0x45 ∧ (u.ring o.ctx).state = .stopped ∧
        (p.val < 16 → sfu = false → u.rbit 0xA0008 3 = true) ∧ (sfu = true → u.rbit 0xB0008 2 = true)) ∧
    (∀ (p : PosId) (sfu : Bool) (s : State), s.occupant p.val = none →
      ∃ u, exec (.engineResultBad p sfu) s = .next u ∧ u = s) ∧
    (∀ (b : BankId) (tile : Option (Fin 4)) (s : State), Inv s →
      ∃ u, exec (.sfuError b true tile) s = .next u ∧
        (u.reg (0xB0118 + 0x20 * b.val)).toNat = min 0xFFFFFFFF ((s.reg (0xB0118 + 0x20 * b.val)).toNat + 1) ∧
        ∀ off, off ≠ 0xB0118 + 0x20 * b.val → u.reg off = s.reg off) ∧
    (∀ (b : BankId) (tile : Option (Fin 4)) (s : State), Inv s →
      ∃ u, exec (.sfuError b false tile) s = .next u ∧ tabGet (fun _ => false) u.work.sfuTest b.val = true) ∧
    (∀ (b : BankId) (tile : Option (Fin 4)) (p : Nat) (o : Occupant) (j : Job) (g : Group) (s : State), Inv s →
        (p = (match tile with | some e => 4 * b.val + e.val | none => 16 + b.val)) → s.occupant p = some o → s.job o.ctx o.idx = some j →
        j.group o.group = some g → g.attempts + 1 < s.reissueLimit →
      ∃ u, exec (.sfuError b false tile) s = .next u ∧ u.rbit 0xB0008 0 = true ∧
        (u.reg (0xB011C + 0x20 * b.val)).toNat = min 0xFFFFFFFF ((s.reg (0xB011C + 0x20 * b.val)).toNat + 1)) ∧
    (∀ (b : BankId) (ok : Bool) (s : State), tabGet (fun _ => false) s.work.sfuTest b.val = true → tabWf (fun _ => false) s.work.sfuTest = true →
      ∃ u, exec (.sfuSelfTest b ok) s = .next u ∧
        tabGet (fun _ => false) u.work.sfuTest b.val = false ∧ (ok = false → u.dpFailed (24 + b.val) = true)) ∧
    (∀ (b : BankId) (ok : Bool) (s : State), tabGet (fun _ => false) s.work.sfuTest b.val = false →
      ∃ u, exec (.sfuSelfTest b ok) s = .next u ∧ u = s) ∧
    (∀ (k : Fin 4) (i : Instr) (s : State), i = .controlCoreHeartbeatMiss k ∨ i = .controlCoreError k →
      ∃ u, exec i s = .next u ∧ (s.spareCore = none → u.flt.pkgFault = true) ∧
        ∀ e, s.spareCore = some e → tabWf (fun i => i) s.maps.cores = true → u.coreAt k.val = e)

/-- O29. CTX_OPEN, CTX_CLOSE, CTX_TEARDOWN and TEARDOWN_DONE move a context through its states. As served writes: OPEN of a FREE context with its
ring CLOSED and its root valid makes it OPEN with a new GEN and the counters of Table 5.2 at 0, and leaves memory; otherwise it is a locked write.
CLOSE of a FAULTED or an OPEN context with its ring CLOSED makes it FREE with its GEN, from FAULTED with no other effect but the drop of a latch;
with its ring not CLOSED, or of a context FREE or in TEARDOWN, it is a locked write. TEARDOWN of an OPEN context begins a teardown with code 0x4E
and stops its ring; of another it is a locked write. TEARDOWN_DONE makes a context in TEARDOWN FAULTED, and sets bits 13, 25, 30 and 34 of the
reset-lost mask, once no request, fetch or write of it is out; before, or in another state, it changes nothing. (R134, R135, R136, R137, R138, R508)
-/
def Obligations.ContextCommands : Prop :=
  (∀ (c : CtxId) (s : State), Inv s → s.served → (s.ctx c.val).state = .free → (s.ring c.val).state = .closed → s.rootValid c.val = true →
      ∃ u, exec (.ctxOpen c) s = .next u ∧
        (u.ctx c.val).state = .open_ ∧ (u.ctx c.val).gen = ((s.ctx c.val).gen + 1) % 65536 ∧ u.mem = s.mem ∧
        ∀ k < 7, u.reg (0x2014 + 0x40 * c.val + 4 * k) = 0) ∧
    (∀ (c : CtxId) (s : State), s.served → ((s.ctx c.val).state ≠ .free ∨ (s.ring c.val).state ≠ .closed ∨ s.rootValid c.val = false) →
      ∃ u, exec (.ctxOpen c) s = .next u ∧ u = (s.dropLatches (0x2004 + 0x40 * c.val)).locked (0x2004 + 0x40 * c.val) .host) ∧
    (∀ (c : CtxId) (s : State), Inv s → s.served → (s.ring c.val).state = .closed → ((s.ctx c.val).state = .faulted ∨ (s.ctx c.val).state = .open_) →
      ∃ u, exec (.ctxClose c) s = .next u ∧
        (u.ctx c.val).state = .free ∧ (u.ctx c.val).gen = (s.ctx c.val).gen ∧
        ((s.ctx c.val).state = .faulted → u = (s.dropLatches (0x2004 + 0x40 * c.val)).setCtx c.val { s.ctx c.val with state := .free })) ∧
    (∀ (c : CtxId) (s : State), s.served → ((s.ring c.val).state ≠ .closed ∨ (s.ctx c.val).state = .free ∨ (s.ctx c.val).state = .teardown) →
      ∃ u, exec (.ctxClose c) s = .next u ∧ u = (s.dropLatches (0x2004 + 0x40 * c.val)).locked (0x2004 + 0x40 * c.val) .host) ∧
    (∀ (c : CtxId) (s : State), Inv s → s.served → (s.ctx c.val).state = .open_ →
      ∃ u, exec (.ctxTeardown c) s = .next u ∧
        (u.ctx c.val).state = .teardown ∧ (u.ring c.val).state = .stopped ∧ (u.ring c.val).lastCode = 0x4E) ∧
    (∀ (c : CtxId) (s : State), s.served → (s.ctx c.val).state ≠ .open_ →
      ∃ u, exec (.ctxTeardown c) s = .next u ∧ u = (s.dropLatches (0x2004 + 0x40 * c.val)).locked (0x2004 + 0x40 * c.val) .host) ∧
    (∀ (c : CtxId) (s : State), Inv s → (s.ctx c.val).state = .teardown → (∀ t ∈ s.lnk.tags, ∀ r, t.2 = some r → r.ctx ≠ c.val) →
        (s.ring c.val).fetching = 0 → s.writesHeld c.val = false →
      ∃ u, exec (.teardownDone c) s = .next u ∧ (u.ctx c.val).state = .faulted ∧ u.rings = s.rings ∧ u.mem = s.mem ∧
        u.rbit 0x510 13 = true ∧ u.rbit 0x510 25 = true ∧ u.rbit 0x510 30 = true ∧ u.rbit 0x514 2 = true) ∧
    (∀ (c : CtxId) (s : State), ((s.ctx c.val).state ≠ .teardown ∨ (s.ring c.val).fetching ≠ 0 ∨ s.writesHeld c.val = true) →
      ∃ u, exec (.teardownDone c) s = .next u ∧ u = s)

/-- O30. Page walks, roots, and corrected and uncorrected memory errors. PAGE_WALK_DONE is counted in ATP_WALK_CNT, leaves memory, and its leaf
stands first in the cache of its unit, but not for a context in TEARDOWN, whose cache lines stay. ATP_ROOT_HI of a FREE context without a valid
root, written with VALID, takes a root that lies in memory and fills its table with zeros, every other byte reading as before; a root that does not
is a locked write. A change of ATP_ROOT_LO of a FREE context clears VALID and leaves memory. A root register of a context not FREE takes no change:
the write is locked. MEMORY_CE is counted in the counter of its memory and leaves memory unchanged. MEMORY_UE is counted and, outside the hub
scratchpad, poisons the 32-byte sector read and leaves memory, and the OPEN context that read it is torn down with code 0x45; in the hub scratchpad
it is a package-class fault. An address in no memory counts nothing. (R168, R171, R175, R177, R194, R197, R199, R487, R578) -/
def Obligations.TranslationAndMemoryErrors : Prop :=
  (∀ (k : Fin 5) (c : CtxId) (va e l : Nat) (s : State), Inv s → (s.ctx c.val).state ≠ .teardown → (s.bump 0x9001C 32 1).walk k.val c.val va .write =
        Except.ok (e, l) →
      ∃ u, exec (.pageWalkDone k c va) s = .next u ∧
        u.atp.cache.head? = some ⟨k.val, c.val, (s.ctx c.val).gen, va / 0x10000, e, l⟩ ∧ u.mem = s.mem ∧
        (u.reg 0x9001C).toNat = min 0xFFFFFFFF ((s.reg 0x9001C).toNat + 1)) ∧
    (∀ (k : Fin 5) (c : CtxId) (va : Nat) (s : State), Inv s → (s.ctx c.val).state = .teardown →
      ∃ u, exec (.pageWalkDone k c va) s = .next u ∧ u.atp = s.atp ∧ u.mem = s.mem ∧
        (u.reg 0x9001C).toNat = min 0xFFFFFFFF ((s.reg 0x9001C).toNat + 1)) ∧
    (∀ (c : CtxId) (v : Word) (s : State), Inv s → s.served → (s.ctx c.val).state = .free → bitAt v.toNat 31 = true → s.rbit (0x90104 + 8 * c.val)
        31 = false → s.targetOk (s.fld (0x90100 + 8 * c.val) 12 20 * 0x1000 + wfld v 0 8 * 0x100000000) 0x1000 = true →
      ∃ u, exec (.atpRootWrite c true v .host) s = .next u ∧
        u.reg (0x90104 + 8 * c.val) = v &&& 0x800000FF ∧
        ∀ a, u.byte a = (if s.fld (0x90100 + 8 * c.val) 12 20 * 0x1000 + wfld v 0 8 * 0x100000000 ≤ a ∧ a < s.fld (0x90100 + 8 * c.val) 12 20 * 0x1000 + wfld v 0 8 * 0x100000000 + 0x1000 then 0 else s.byte a)) ∧
    (∀ (c : CtxId) (v : Word) (s : State), s.served → (s.ctx c.val).state = .free → bitAt v.toNat 31 = true → s.rbit (0x90104 + 8 * c.val)
        31 = false → s.targetOk (s.fld (0x90100 + 8 * c.val) 12 20 * 0x1000 + wfld v 0 8 * 0x100000000) 0x1000 = false →
      ∃ u, exec (.atpRootWrite c true v .host) s = .next u ∧
        u = (s.dropLatches (0x90104 + 8 * c.val)).locked (0x90104 + 8 * c.val) .host) ∧
    (∀ (c : CtxId) (v : Word) (s : State), Inv s → s.served → (s.ctx c.val).state = .free → v &&& 0xFFFFF000 ≠ s.reg (0x90100 + 8 * c.val) →
      ∃ u, exec (.atpRootWrite c false v .host) s = .next u ∧
        u.reg (0x90100 + 8 * c.val) = v &&& 0xFFFFF000 ∧ u.rbit (0x90104 + 8 * c.val) 31 = false ∧ u.mem = s.mem) ∧
    (∀ (c : CtxId) (v : Word) (s : State), s.served → (s.ctx c.val).state ≠ .free → v &&& 0xFFFFF000 ≠ s.reg (0x90100 + 8 * c.val) →
      ∃ u, exec (.atpRootWrite c false v .host) s = .next u ∧
        u = (s.dropLatches (0x90100 + 8 * c.val)).locked (0x90100 + 8 * c.val) .host) ∧
    (∀ (c : CtxId) (v : Word) (s : State), s.served → (s.ctx c.val).state ≠ .free → v &&& 0x800000FF ≠ s.reg (0x90104 + 8 * c.val) →
      ∃ u, exec (.atpRootWrite c true v .host) s = .next u ∧
        u = (s.dropLatches (0x90104 + 8 * c.val)).locked (0x90104 + 8 * c.val) .host) ∧
    (∀ (pa loc row : Nat) (s : State), Inv s → memUnit pa ≤ 12 →
      ∃ u, exec (.memoryCe pa loc row) s = .next u ∧
        (u.reg (0x90020 + 4 * memUnit pa)).toNat = min 0xFFFFFFFF ((s.reg (0x90020 + 4 * memUnit pa)).toNat + 1) ∧ u.mem = s.mem) ∧
    (∀ (pa loc row : Nat) (c : CtxId) (idx : Nat) (s : State), Inv s → memUnit pa < 12 → (s.ctx c.val).state = .open_ →
      ∃ u, exec (.memoryUe pa loc row (some (c, idx))) s = .next u ∧
        (u.ctx c.val).state = .teardown ∧ (u.ring c.val).lastCode = 0x45) ∧
    (∀ (pa loc row : Nat) (s : State), Inv s → memUnit pa < 12 → tabWf (fun _ => false) s.atp.poison = true →
      ∃ u, exec (.memoryUe pa loc row none) s = .next u ∧
        (u.reg (0x90060 + 4 * memUnit pa)).toNat = min 0xFFFFFFFF ((s.reg (0x90060 + 4 * memUnit pa)).toNat + 1) ∧ u.poisoned (pa / 32) = true ∧ u.mem = s.mem) ∧
    (∀ (pa loc row : Nat) (r : Option (CtxId × Nat)) (s : State), memUnit pa = 12 →
      ∃ u, exec (.memoryUe pa loc row r) s = .next u ∧ u.flt.pkgFault = true) ∧
    (∀ (pa loc row : Nat) (r : Option (CtxId × Nat)) (i : Instr) (s : State), 12 < memUnit pa →
        (i = .memoryCe pa loc row ∨ i = .memoryUe pa loc row r) → ∃ u, exec i s = .next u ∧ u = s)

/-- O31. Lanes, candidates, verifiers, headers in LOCK, and the returns to HUNT. While the framer runs, a configured lane that comes up, and the
marker of one that is up, are noted; DOWN then becomes HUNT once every lane is aligned, and another state stays; with the port disabled neither
changes anything. A lost lane that was up takes the framer DOWN without markers and verifiers, and with no frame coming in is noted with ING_EVT bit
1 and leaves memory; of a lane not up it changes nothing. In HUNT or VERIFY a boundary not yet scanned with a valid header gets a verifier and
VERIFY while fewer than four stand, and a fifth is counted; without a valid header it is only passed over. In VERIFY the third header of a verifier
takes the framer to LOCK (shown for a stream without a binding), the second moves it on, and a boundary without a valid header drops it, the only
one returning to HUNT. In LOCK with no frame coming in, the valid header of a live binding, bound before the sync came, of the bound shape with a
free slot, is admitted with its patches (all of them, in the binding's order, for the first) and moves the expected position; a boundary without the
sync word moves it too and is a miss, the third in a row returning to HUNT there. A full receive buffer abandons the frame being received, counted
with ING_EVT bit 5; one that is not full changes nothing. ING_CMD.RESYNC, a served write in VERIFY or LOCK, returns to HUNT with no frame and no
verifier, and the next frame of every stream is full; in HUNT or DOWN it does nothing. (R202, R205, R206, R207, R209, R210, R212, R217, R221) -/
def Obligations.IngestPort : Prop :=
  (∀ (l : Fin 4) (s : State), s.framerRuns = true → l.val < s.lanes →
      ∃ u, exec (.ingestLaneUp l) s = .next u ∧
        tabGet (fun _ => false) u.ing.up l.val = true ∧ (s.ing.align = .down → u.lanesAligned = true → u.ing.align = .hunt) ∧ (s.ing.align ≠ .down → u.ing.align = s.ing.align)) ∧
    (∀ (l : Fin 4) (s : State), s.framerRuns = true → l.val < s.lanes → tabGet (fun _ => false) s.ing.up l.val = true →
      ∃ u, exec (.alignmentMarkerRx l) s = .next u ∧
        tabGet (fun _ => false) u.ing.marked l.val = true ∧ (s.ing.align = .down → u.lanesAligned = true → u.ing.align = .hunt) ∧ (s.ing.align ≠ .down → u.ing.align = s.ing.align)) ∧
    (∀ (l : Fin 4) (i : Instr) (s : State), s.ingOn = false → i = .ingestLaneUp l ∨ i = .alignmentMarkerRx l →
      ∃ u, exec i s = .next u ∧ u = s) ∧
    (∀ (l : Fin 4) (got : List Byte) (s : State), Inv s → tabGet (fun _ => false) s.ing.up l.val = true → tabWf (fun _ => false) s.ing.up = true →
      ∃ u, exec (.ingestLaneLost l got) s = .next u ∧
        u.ing.align = .down ∧ u.ing.marked = [] ∧ u.ing.verifiers = [] ∧
        (s.ing.rx = none → tabGet (fun _ => false) u.ing.up l.val = false ∧ u.rbit 0x80014 1 = true ∧ u.mem = s.mem)) ∧
    (∀ (l : Fin 4) (got : List Byte) (s : State), tabGet (fun _ => false) s.ing.up l.val = false →
      ∃ u, exec (.ingestLaneLost l got) s = .next u ∧ u = s) ∧
    (∀ (pos : Nat) (h : List Byte) (s : State), Inv s → (s.ing.align = .hunt ∨ s.ing.align = .verify) → s.ing.scan ≤ pos → pos % 8 = 0 →
        s.frameStart h = true →
      ∃ u, exec (.ingestCandidate pos h) s = .next u ∧
        u.ing.scan = pos + 8 ∧
        (s.ing.verifiers.length < 4 → u.ing.align = .verify ∧ u.ing.verifiers = s.ing.verifiers ++ [(pos + frameBytes (payLen h), 1)]) ∧
        (4 ≤ s.ing.verifiers.length → u.ing.verifiers = s.ing.verifiers ∧ (u.reg 0x8005C).toNat = min 0xFFFFFFFF ((s.reg 0x8005C).toNat + 1))) ∧
    (∀ (pos : Nat) (h : List Byte) (s : State), (s.ing.align = .hunt ∨ s.ing.align = .verify) → s.ing.scan ≤ pos → pos % 8 = 0 →
        s.frameStart h = false →
      ∃ u, exec (.ingestCandidate pos h) s = .next u ∧ u = s.setIng { s.ing with scan := pos + 8 }) ∧
    (∀ (pos age : Nat) (h : List Byte) (s : State), Inv s → s.ing.align = .verify → (pos, 2) ∈ s.ing.verifiers → s.frameStart h = true → s.bound
        (hfield h 5 1 % 16) = none →
      ∃ u, exec (.ingestVerifyHeader pos h age) s = .next u ∧
        u.ing.align = .lock ∧ u.ing.verifiers = [] ∧ u.ing.expect = pos + frameBytes (payLen h) ∧ u.ing.misses = 0 ∧
        (u.reg 0x80070).toNat = min 0xFFFFFFFF ((s.reg 0x80070).toNat + 2) ∧ (u.reg 0x80054).toNat = min 0xFFFFFFFF ((s.reg 0x80054).toNat + 1)) ∧
    (∀ (pos age : Nat) (h : List Byte) (s : State), s.ing.align = .verify → s.ing.verifiers.find? (fun v => decide (v.1 = pos)) = some (pos, 1) →
        ¬ (pos, 2) ∈ s.ing.verifiers → s.ing.verifiers.all (fun v => decide (v.2 ≤ 2)) = true → s.frameStart h = true → s.lnk.need = none →
      ∃ u, exec (.ingestVerifyHeader pos h age) s = .next u ∧
        u.ing.align = .verify ∧ (pos + frameBytes (payLen h), 2) ∈ u.ing.verifiers) ∧
    (∀ (pos age k : Nat) (h : List Byte) (s : State), s.ing.align = .verify → s.ing.verifiers = [(pos, k)] → s.frameStart h = false → s.lnk.need = none →
      ∃ u, exec (.ingestVerifyHeader pos h age) s = .next u ∧ u.ing.align = .hunt ∧ u.ing.verifiers = []) ∧
    (∀ (h : List Byte) (age n : Nat) (b : Binding) (s : State), Inv s → s.ing.align = .lock → s.ing.rx = none → syncOk h = true → headerValid h =
        true → s.limitsOk h = true → s.bound (hfield h 5 1 % 16) = some b → b.due = none → b.unbind = none → b.since + age ≤ s.clk →
        b.matches_ h = true → (s.asked b.ctx
        (2 ^ 17 + hfield h 5 1 % 16)).vreadNat 0 b.ctx (b.ctrl + 8) 8 = Except.ok n → (b.produced + 2 ^ 64 - n) % 2 ^ 64 < b.slots → s.admits 35
        = true → s.lnk.need = none →
      ∃ u, exec (.ingestLockHeader h age) s = .next u ∧
        u.mem = s.mem ∧ u.ing.align = .lock ∧ u.ing.expect = s.ing.expect + frameBytes (payLen h) ∧ u.ing.misses = 0 ∧
        ∃ f, u.ing.rx = some f ∧ f.stream = hfield h 5 1 % 16 ∧ f.seq = hfield h 8 4 ∧ f.payLen = payLen h ∧
        (b.first = true → f.ids = b.order (hfield h 8 4) (List.range b.patches))) ∧
    (∀ (h : List Byte) (age : Nat) (s : State), s.ing.align = .lock → s.ing.rx = none → syncOk h = false → s.lnk.need = none →
      ∃ u, exec (.ingestLockHeader h age) s = .next u ∧
        (s.ing.misses < 2 → u.ing.align = .lock ∧ u.ing.misses = s.ing.misses + 1 ∧ u.ing.expect = s.ing.expect + frameBytes s.ing.lastLen) ∧
        (2 ≤ s.ing.misses → u.ing.align = .hunt ∧ u.ing.scan = s.ing.expect ∧ u.ing.misses = 0)) ∧
    (∀ (got : Nat) (f : FrameIn) (s : State), Inv s → s.ing.rx = some f → rcvDepth ≤ min got f.payLen + s.rcvHeld →
      ∃ u, exec (.ingestBufferFull got) s = .next u ∧
        u.ing.rx = none ∧ u.ing.align = s.ing.align ∧ (u.reg 0x8006C).toNat = min 0xFFFFFFFF ((s.reg 0x8006C).toNat + 1) ∧ u.rbit 0x80014 5 = true) ∧
    (∀ (got : Nat) (s : State), got + s.rcvHeld < rcvDepth →
      ∃ u, exec (.ingestBufferFull got) s = .next u ∧ u = s) ∧
    (∀ (s : State), s.served → (s.ing.align = .verify ∨ s.ing.align = .lock) →
      ∃ u, exec (.ingestResyncCmd) s = .next u ∧
        u.ing.align = .hunt ∧ u.ing.rx = none ∧ u.ing.verifiers = [] ∧ ∀ k b, u.bound k = some b → b.first = true) ∧
    (∀ (s : State), s.served → (s.ing.align = .hunt ∨ s.ing.align = .down) →
      ∃ u, exec (.ingestResyncCmd) s = .next u ∧ u = s.dropLatches 0x80010)

/-- O32. INGEST_BIND, KEEP_MAP, the end of a frame and its publication. At a start that goes on: INGEST_BIND binds its stream as the body says, ends
OK with the slot stride and leaves memory; with UNBIND the binding goes at once, or waits while a frame of the stream is being received or not yet
published. KEEP_MAP whose body and source are well formed and readable without a missing remote byte ends OK with the number of patches kept, which
become the stream's pending map, or with OK_LATE and no map when its frame or a later one was admitted; it leaves memory. INGEST_FRAME_END of a
frame of the bound length with its bytes and CRC, whose writes meet no fault and fit, leaves memory as the writes of its rows, identifiers and
record do, counts it as produced and lets it wait for its publication; without a frame it changes nothing. INGEST_PUBLISH of a waiting frame whose
writes are made and whose mailbox can be written leaves memory as the write of DONE plus 1 does, and counts it; while writes of the context wait, or
of a stream without a waiting frame, it changes nothing. (R210, R211, R213, R214, R215, R216, R222, R223) -/
def Obligations.IngestStreams : Prop :=
  (∀ (c : CtxId) (d : Desc) (s s1 : State), s.startsBind c.val = .go d s1 →
      ∃ u, exec (.ingestBind c) s = .next u ∧
        u.bound (streamOf d) = some (bindingOf c.val d) ∧ u.outcome c.val d.idx = some (d.okCode, (bindingOf c.val d).stride, d.epoch) ∧ u.mem = s.mem) ∧
    (∀ (c : CtxId) (d : Desc) (b : Binding) (s s1 : State), s.startsUnbind c.val = .go d s1 → s1.bound (streamOf d) = some b →
        tabWf (fun _ => none) s1.ing.binds = true →
      ∃ u, exec (.ingestUnbind c) s = .next u ∧
        u.mem = s.mem ∧ ((s1.ing.rx.map fun f => f.stream) ≠ some (streamOf d) → ¬ streamOf d ∈ s1.ing.waiting → u.bound (streamOf d) = none) ∧
        (((s1.ing.rx.map fun f => f.stream) = some (streamOf d) ∨ streamOf d ∈ s1.ing.waiting) → u.bound (streamOf d) = some { b with unbind := some d.idx })) ∧
    (∀ (c : CtxId) (d0 d : Desc) (ids : List Nat) (b : Binding) (s s1 : State), s.nextDesc c.val = some d0 → (s.asked c.val d0.idx).startsKeep
        c.val = .go d s1 → malformedAt (s1.keepChecks c.val d.words) = none → s1.keptPatches c.val b.patches d.words = Except.ok ids → s1.bound
        (dfld d.words 3 28 4) = some b → (∀ l, b.last = some l → l ≠ dfld d.words 3 32 32 ∧ seqOlder (dfld d.words 3 32 32) l = false) →
        s1.lnk.need = none →
      ∃ u, exec (.keepMap c) s = .next u ∧
        u.bound (dfld d.words 3 28 4) = some { b with map := some (dfld d.words 3 32 32, ids) } ∧ u.outcome c.val d.idx = some (d.okCode, ids.length, d.epoch) ∧ u.mem = s.mem) ∧
    (∀ (c : CtxId) (d0 d : Desc) (ids : List Nat) (b : Binding) (l : Nat) (s s1 : State), s.nextDesc c.val = some d0 → (s.asked c.val d0.idx).startsKeep
        c.val = .go d s1 → malformedAt (s1.keepChecks c.val d.words) = none → s1.keptPatches c.val b.patches d.words = Except.ok ids → s1.bound
        (dfld d.words 3 28 4) = some b → b.last = some l → (l = dfld d.words 3 32 32 ∨ seqOlder (dfld d.words 3 32 32) l = true) →
        s1.lnk.need = none →
      ∃ u, exec (.keepMap c) s = .next u ∧
        u.bound (dfld d.words 3 28 4) = some b ∧ u.outcome c.val d.idx = some (1, ids.length, d.epoch) ∧ u.mem = s.mem) ∧
    (∀ (payload : List Byte) (crc : BitVec 32) (f : FrameIn) (b : Binding) (s s2 : State), crc.toNat = crc32c payload → s.ing.rx = some f →
        s.bound f.stream = some b → payload.length = b.payload → f.payLen = b.payload → s.vwrites b.ctx (f.writes b payload (crc32c payload)) true =
        (s2, none) → s2.rcvHeld ≤ rcvDepth →
      ∃ u, exec (.ingestFrameEnd payload crc) s = .next u ∧
        u.mem = s2.mem ∧ u.ing.rx = none ∧ u.ing.waiting = s.ing.waiting ++ [f.stream] ∧ u.bound f.stream = some { b with produced := b.produced + 1 }) ∧
    (∀ (payload : List Byte) (crc : BitVec 32) (s : State), s.ing.rx = none →
      ∃ u, exec (.ingestFrameEnd payload crc) s = .next u ∧ u = s) ∧
    (∀ (k : Fin 16) (b : Binding) (s s2 : State), Inv s → k.val ∈ s.ing.waiting → s.bound k.val = some b → b.unbind = none → s.rcvWaits b.ctx = false →
        (s.setIng { s.ing with waiting := s.ing.waiting.erase k.val }).vwrite 0 b.ctx b.ctrl (leBytes 8 (b.done + 1)) = (s2, none) →
      ∃ u, exec (.ingestPublish k) s = .next u ∧
        u.mem = s2.mem ∧ u.ing.waiting = s.ing.waiting.erase k.val ∧ u.bound k.val = some { b with done := b.done + 1 } ∧
        (u.reg 0x80040).toNat = min 0xFFFFFFFF ((s2.reg 0x80040).toNat + 1)) ∧
    (∀ (k : Fin 16) (b : Binding) (s : State), (¬ k.val ∈ s.ing.waiting ∨ s.rcvWaits b.ctx = true) → s.bound k.val = some b →
      ∃ u, exec (.ingestPublish k) s = .next u ∧ u = s)

/-- O33. Route stages, errors of the Routing Engine and the Bias Table, and the Evening loop. ROUTE_STAGE, with a batch in Route, no self-test, not
in Night or Midnight, no package fault, a data-path view that admits work, no table of the context's control core and, with a bias, a set that is
not poisoned, takes choices that can be read without a missing remote byte: memory is left as the writes of the work area leave it, the LAYER leaves
the queue, and its job holds the sorted list and its length. While the engine tests itself ROUTE_STAGE, with no remote byte asked for, leaves memory
and the work of the engines. ROUTE_PARITY_ERROR puts the engine into its self-test and sets RTE_EVT bit 2, and the OPEN context of the batch in
Route is torn down with code 0x45. ROUTE_SELF_TEST of an engine that tests itself ends the test and changes nothing else when it passes, and fails
the data-path view when it does not; of an engine that does not test itself it changes nothing. A corrected BIAS_TABLE_UE is counted in RTE_CNT_8
and changes nothing else; an uncorrectable one poisons the set, and a bracket that changes a set not poisoned before rolls back. EVENING_LOOP of a
set whose turn it is, free, not poisoned, in no bracket, with selections, outside Night, moves every bias, clears LOAD, counts VERSION by 1 modulo
2^32 and leaves memory; one that is not in its turn changes nothing, and of a set with a holder or poisoned it only counts in RTE_CNT_7, sets
RTE_EVT bit 1 and has had its turn. A served RTE_EVE_PARAM_WRITE stores a finite value that is not negative, else 0, and leaves memory. (R231, R235,
R236, R237, R241, R244, R250, R254, R255) -/
def Obligations.RoutingEngine : Prop :=
  (∀ (j : Job) (l : Layer) (toks : List (Option Choice)) (ids : List Nat) (s s2 : State), s.inRoute = some (j, l) → s.work.routeTest = false →
        s.pwr.state ≠ .night → s.pwr.state ≠ .midnight → s.flt.pkgFault = false → s.admits 32 = true → s.tableHeld j.ctx = false →
        (l.biasEn && s.setPoisoned l.set) = false → (s.asked j.ctx j.idx).routeTokens j l = Except.ok (toks, ids) →
        (((s.asked j.ctx j.idx).counted l toks).vwrites j.ctx (((s.asked j.ctx j.idx).counted l toks).routeWrites (((s.asked j.ctx j.idx).counted l
        toks).expertsJob j l (applyCapacity l toks)) ((((s.asked j.ctx j.idx).counted l toks).expertsJob j l (applyCapacity l toks)).layer.getD l)
        (applyCapacity l toks) ids)) = (s2, none) → s2.lnk.need = none →
      ∃ u, exec (.routeStage) s = .next u ∧
        u.mem = s2.mem ∧ ¬ (j.ctx, j.idx) ∈ u.work.routeQueue ∧
        ∃ x, u.job j.ctx j.idx = some x ∧ x.tokens = (applyCapacity l toks).sorted.map Prod.fst ∧ x.assign = (applyCapacity l toks).sorted.length) ∧
    (∀ (s : State), s.work.routeTest = true → s.lnk.need = none →
      ∃ u, exec (.routeStage) s = .next u ∧ u.mem = s.mem ∧ u.work = s.work) ∧
    (∀ (s : State), Inv s →
      ∃ u, exec (.routeParityError) s = .next u ∧
        u.work.routeTest = true ∧ u.rbit 0x30008 2 = true ∧
        ∀ j l, s.inRoute = some (j, l) → (s.ctx j.ctx).state = .open_ → (u.ctx j.ctx).state = .teardown ∧ (u.ring j.ctx).lastCode = 0x45) ∧
    (∀ (ok : Bool) (s : State), s.work.routeTest = true →
      ∃ u, exec (.routeSelfTest ok) s = .next u ∧
        u.work.routeTest = false ∧ (ok = false → u.dpFailed 32 = true) ∧ (ok = true → u = s.setWork { s.work with routeTest := false })) ∧
    (∀ (ok : Bool) (s : State), s.work.routeTest = false →
      ∃ u, exec (.routeSelfTest ok) s = .next u ∧ u = s) ∧
    (∀ (k : Fin 16) (s : State), Inv s →
      ∃ u, exec (.biasTableUe k false) s = .next u ∧
        u.setPoisoned k.val = true ∧
        (∀ b, s.flt.bracket = some b → s.setPoisoned k.val = false → b.sets.any (fun x => decide (x.set = k.val)) = true → u.flt.bracket = none)) ∧
    (∀ (k : Fin 16) (s : State),
      ∃ u, exec (.biasTableUe k true) s = .next u ∧ u = s.bump 0x30060 32 1) ∧
    (∀ (k : Fin 16) (s : State), Inv s → s.turn (.evening k.val) = true → (s.lease (resSet k)).holder = none → s.flt.bracket = none →
        s.setPoisoned k.val = false → s.pwr.state ≠ .night →
        ((List.range (s.setExperts k.val)).map fun e => (s.reg (0x38000 + 0x400 * k.val + 4 * e)).toNat).foldl (· + ·) 0 ≠ 0 →
      ∃ u, exec (.eveningLoop k) s = .next u ∧
        u.setVersion k.val = (s.setVersion k.val + 1) % 2 ^ 32 ∧ u.mem = s.mem ∧ ¬ Due.evening k.val ∈ u.day.due ∧
        ∀ e < s.setExperts k.val, u.reg (0x38000 + 0x400 * k.val + 4 * e) = 0 ∧
        u.reg (0x34000 + 0x400 * k.val + 4 * e) = BitVec.ofNat 32 (eveningBias (s.bias k.val e) (s.reg (0x38000 + 0x400 * k.val + 4 * e)).toNat (s.setExperts k.val) (((List.range (s.setExperts k.val)).map fun e => (s.reg (0x38000 + 0x400 * k.val + 4 * e)).toNat).foldl (· + ·) 0) (s.reg (0x30108 + 0x10 * k.val)).toNat (s.reg (0x3010C + 0x10 * k.val)).toNat)) ∧
    (∀ (k : Fin 16) (s : State), s.turn (.evening k.val) = true → ((s.lease (resSet k)).holder.isSome || s.setPoisoned k.val) = true →
      ∃ u, exec (.eveningLoop k) s = .next u ∧ u = ((s.rteCount 7 1).rteFlag 1).fired (.evening k.val)) ∧
    (∀ (k : Fin 16) (s : State), s.turn (.evening k.val) = false →
      ∃ u, exec (.eveningLoop k) s = .next u ∧ u = s) ∧
    (∀ (k : Fin 16) (lim : Bool) (v : Word) (s : State), Inv s → s.served →
      ∃ u, exec (.rteEveParamWrite k lim v) s = .next u ∧
        u.reg ((if lim then 0x3010C else 0x30108) + 0x10 * k.val) = (if f32Fin v.toNat = true ∧ (f32 v.toNat).lt (f32 0) = false then v else 0) ∧ u.mem = s.mem)

/-- O34. The Combine stage: its start, a token's segment, and the release of slots in token order. COMBINE_STAGE, with the unit empty, no package
fault, not in Midnight and a data-path view that admits work, brings the first LAYER of its queue whose input is complete into the unit under the
GEN of its context, takes it out of the queue, gives slots to its first tokens and leaves memory; with the unit in use it changes nothing.
COMBINE_READ_RETURN for a slot whose reads are out, under its current epoch and its stage's GEN, whose record and rows can be read, with fewer than
128 writes out and a write without fault, leaves memory as the write of the token's segment in the format of OUT does, holds its FP32 values in the
slot and marks it written, every other slot keeping its token, values and mark; in strip 0 the token is counted. Under another epoch it leaves
memory and the unit. COMBINE_SLOT_RELEASE of an oldest slot that is written with every write acknowledged, for a context without a SEND at work,
moves the slot's epoch and leaves memory; before the last token the other slots stay at the front, after it the next strip begins, and after the
last strip the unit is empty. Without a LAYER in the unit it changes nothing. (R311, R312, R314, R315, R316, R331, R337) -/
def Obligations.CombineUnit : Prop :=
  (∀ (c idx : Nat) (j : Job) (s : State), s.cmb.run = none → s.flt.pkgFault = false → s.pwr.state ≠ .midnight →
        (s.work.combineQueue.find? fun x => ((s.job x.1 x.2).map (fun j => s.inputComplete j)).getD true) = some (c, idx) → s.job c idx = some j →
        s.admits 33 = true →
      ∃ u, exec (.combineStage) s = .next u ∧
        u.mem = s.mem ∧ ¬ (c, idx) ∈ u.work.combineQueue ∧
        ∃ r, u.cmb.run = some r ∧ r.ctx = c ∧ r.idx = idx ∧ r.gen = (s.ctx c).gen ∧ r.strip = 0 ∧ r.released = 0 ∧ r.next = r.slots.length) ∧
    (∀ (s : State), s.cmb.run.isSome = true →
      ∃ u, exec (.combineStage) s = .next u ∧ u = s) ∧
    (∀ (k : Fin 512) (r : CombineRun) (x : CmbSlot) (j : Job) (l : Layer) (f : TokenForm) (ys : List Nat) (s s1 s2 : State), Inv s →
        s.combining = some (r, j, l) → r.slots.find? (fun x => decide (x.slot = k.val) && x.reads.isSome && x.vals.isNone) = some x →
        x.written = false → (s.ctx r.ctx).gen = r.gen → (s.asked r.ctx r.idx 98).tokenForm j l x.token = Except.ok f →
        (s.asked r.ctx r.idx 98).tokenSeg j l f x.token (r.strip * 4096) (min 4096 (j.input.size 1 - r.strip * 4096)) = Except.ok ys →
        s1 = (((s.asked r.ctx r.idx 98).countToken r.strip f).setRun (some (r.put { x with reads := some 0, vals := some ys }))) →
        s1.writesOut j.ctx < 128 →
        s1.outWrite 0 j.ctx j.idx (l.out.base + (x.token * j.input.size 1 + r.strip * 4096) * (fmtBits l.out.format / 8)) (s1.combineBytes l ys) =
        (s2, none) → s2.lnk.need = none →
      ∃ u, exec (.combineReadReturn k (s.epoch (resSlot k.val))) s = .next u ∧
        u.mem = s2.mem ∧ (r.strip = 0 → (u.reg 0x40044).toNat = min 0xFFFFFFFF ((s.reg 0x40044).toNat + 1)) ∧
        ∃ y, u.cmb.run = some y ∧ y.strip = r.strip ∧ y.released = r.released ∧ y.next = r.next ∧
        y.slots.map (fun z => (z.token, z.slot, z.vals, z.written)) = (r.put { x with vals := some ys, written := true }).slots.map (fun z => (z.token, z.slot, z.vals, z.written))) ∧
    (∀ (k : Fin 512) (e : Nat) (s : State), s.epoch (resSlot k.val) ≠ e → s.lnk.need = none →
      ∃ u, exec (.combineReadReturn k e) s = .next u ∧ u.mem = s.mem ∧ u.cmb = s.cmb) ∧
    (∀ (r : CombineRun) (x : CmbSlot) (rest : List CmbSlot) (j : Job) (l : Layer) (s : State), s.combining = some (r, j, l) →
        r.slots = x :: rest → x.written = true → s.unacked r.ctx r.idx = false → s.cmb.sends.any (fun w => decide (w.ctx = r.ctx)) = false →
      ∃ u, exec (.combineSlotRelease) s = .next u ∧
        u.mem = s.mem ∧ u.epoch (resSlot x.slot) = nextEpoch (s.epoch (resSlot x.slot)) ∧
        (r.released + 1 < j.input.size 0 → ∃ y, u.cmb.run = some y ∧ y.released = r.released + 1 ∧ y.strip = r.strip ∧
        rest.map (fun z => (z.token, z.slot, z.vals, z.written)) <+: y.slots.map (fun z => (z.token, z.slot, z.vals, z.written))) ∧
        (j.input.size 0 ≤ r.released + 1 → r.strip + 1 < strips (j.input.size 1) → ∃ y, u.cmb.run = some y ∧ y.released = 0 ∧ y.strip = r.strip + 1) ∧
        (j.input.size 0 ≤ r.released + 1 → strips (j.input.size 1) ≤ r.strip + 1 → u.cmb.run = none)) ∧
    (∀ (s : State), s.cmb.run = none →
      ∃ u, exec (.combineSlotRelease) s = .next u ∧ u = s)

/-- O35. HANDOFF_SEND and the messages that grant, put off, acknowledge and end it. At a start that goes on, with a well-formed body, a readable
tensor, no failed LAYER before it, a peer that is reached and takes the format, and no remote byte missing, HANDOFF_SEND opens its window, offers
and leaves memory. The messages are shown outside Midnight, Dusk and Night, for a SEND whose peer is there. A GRANT that refuses ends it MALFORMED;
one that gives credits, shown for the last chunk of a SEND not pipelined with nothing to send again, whose rows can be read, takes handle, epoch and
credits and sends the chunk. BUSY, while the OFFER is out, puts it off by RETRY_US; HANDOFF_OFFER_RETRY at or after that tick offers again, and
before it or for no such SEND only moves the clock. The ACK of the last chunk of a SEND with nothing else to send ends it OK with its wire bytes,
chunks sent again and mask. A NACK of a chunk, fewer than three before it and no credit left, gives a credit back and sends the chunk again; the
fourth in a row tears an OPEN context down with code 0x45; that of a mask sends the mask again. STALE ends it STALE_EPOCH with the handle and its
epoch. All but the fourth NACK leave memory. A message that answers no SEND leaves memory and the Combine Unit. In Dusk and Night a message waits
for the exit that it begins; in Midnight it changes nothing. (R318, R319, R320, R321, R322, R323, R324, R332, R333) -/
def Obligations.HandoffSender : Prop :=
  (∀ (c : CtxId) (d0 d : Desc) (t : Tensor) (s s1 : State), s.nextDesc c.val = some d0 → (s.asked c.val d0.idx).startsSend c.val = .go d s1 →
        malformedAt (handChecks true d.words) = none → s1.handTensor c.val d.words = Except.ok t → s1.failedLayer c.val d = none →
        s1.noWay (peerOf d.words) = none → (decide ((peerOf d.words).route = 0) || s1.capable (5 + (peerOf d.words).route) 4 ||
        decide (6 ≤ dfld d.words 5 0 8)) = true → s1.sendWin c.val d.idx = none → s1.lnk.need = none →
      ∃ u, exec (.handoffSend c) s = .next u ∧
        u.mem = s.mem ∧ ∃ w, u.sendWin c.val d.idx = some w ∧ w.phase = .offered ∧ w.tensor = t ∧ w.peer = peerOf d.words ∧ w.channel = channelOf d.words ∧
        w.seq = seqOf d.words ∧ w.wire = dfld d.words 5 0 8 ∧ w.credits = 0) ∧
    (∀ (p : Peer) (ch : Fin 256) (seq h e n : Nat) (w : SendWin) (d : Desc) (s : State), s.hears → s.offeredTo p ch.val seq = some w → s.desc
        w.ctx w.idx = some d →
      ∃ u, exec (.handoffGrantRx p ch seq h e n true) s = .next u ∧
        u.outcome w.ctx w.idx = some (0x10, 16, 0) ∧ u.sendWin w.ctx w.idx = none ∧ u.mem = s.mem) ∧
    (∀ (p : Peer) (ch : Fin 256) (seq h e n : Nat) (w : SendWin) (bs : List Byte) (s : State), s.hears → s.offeredTo p ch.val seq = some w →
        s.sendWin w.ctx w.idx = some w → s.sendLost w = false → w.maskDue = false → w.again = [] → w.piped = none → w.next + 1 = w.chunks → 0 < n → ((s.seen.closeKey
        (offerKey w.ctx w.idx)).sendReads { w with phase := .granted, handle := h, epoch := e, credits := w.credits + n }).chunkData
        { w with phase := .granted, handle := h, epoch := e, credits := w.credits + n } w.next = Except.ok bs →
      ∃ u, exec (.handoffGrantRx p ch seq h e n false) s = .next u ∧
        u.mem = s.mem ∧
        u.sendWin w.ctx w.idx = some { w with phase := .granted, handle := h, epoch := e, credits := w.credits + n - 1, next := w.next + 1, unacked := w.unacked ++ [w.next] }) ∧
    (∀ (p : Peer) (ch : Fin 256) (seq : Nat) (w : SendWin) (s : State), s.hears → s.offeredTo p ch.val seq = some w → s.sendWin w.ctx w.idx = some
        w → w.phase = .offered →
      ∃ u, exec (.handoffBusyRx p ch seq) s = .next u ∧
        u.sendWin w.ctx w.idx = some { w with phase := .retry (s.clk + s.retryTicks) } ∧ u.mem = s.mem) ∧
    (∀ (c : CtxId) (idx t t0 : Nat) (w : SendWin) (s : State), s.sendWin c.val idx = some w → w.phase = .retry t0 → s.sendLost w = false → t0 ≤ max s.clk t →
      ∃ u, exec (.handoffOfferRetry c idx t) s = .next u ∧
        u.sendWin c.val idx = some { w with phase := .offered } ∧ u.clk = max s.clk t ∧ u.mem = s.mem) ∧
    (∀ (p : Peer) (h : Fin 64) (k n : Nat) (w : SendWin) (d : Desc) (s : State), s.hears → s.grantedBy p h.val = some w → s.sendWin w.ctx w.idx =
        some w → s.desc w.ctx w.idx = some d → w.unacked = [k] → w.again = [] → w.next = w.chunks → w.maskDue = false →
      ∃ u, exec (.handoffAckRx p h k n) s = .next u ∧
        u.sendWin w.ctx w.idx = none ∧ u.mem = s.mem ∧
        u.outcome w.ctx w.idx = some (d.okCode, w.tensor.size 0 * wireRow (w.tensor.size 1) w.wire % 2 ^ 32 * 2 ^ 32 + min w.resent 0xFFFF * 2 ^ 16 + b2n w.maskOn, d.epoch)) ∧
    (∀ (p : Peer) (h : Fin 64) (k : Nat) (w : SendWin) (bs : List Byte) (s : State), s.hears → s.grantedBy p h.val = some w → s.sendWin w.ctx
        w.idx = some w → s.sendLost w = false → w.credits = 0 → w.maskDue = false → w.again = [] → w.piped = none → tabGet (fun _ => 0) w.nacks k < 3 → ((s.seen.cmbFlag
        0 w.ctx).sendReads
        { w with nacks := tabSet (fun _ => 0) w.nacks k (tabGet (fun _ => 0) w.nacks k + 1), unacked := w.unacked.filter (fun x => decide (x ≠ k)), again := [k], credits := 1, resent := w.resent + 1 }).chunkData
        { w with nacks := tabSet (fun _ => 0) w.nacks k (tabGet (fun _ => 0) w.nacks k + 1), unacked := w.unacked.filter (fun x => decide (x ≠ k)), again := [k], credits := 1, resent := w.resent + 1 }
        k = Except.ok bs →
      ∃ u, exec (.handoffNackRx p h (some k)) s = .next u ∧
        u.mem = s.mem ∧
        u.sendWin w.ctx w.idx = some { w with nacks := tabSet (fun _ => 0) w.nacks k (tabGet (fun _ => 0) w.nacks k + 1), unacked := w.unacked.filter (fun x => decide (x ≠ k)) ++ [k], resent := w.resent + 1 }) ∧
    (∀ (p : Peer) (h : Fin 64) (k : Nat) (w : SendWin) (s : State), Inv s → s.hears → s.grantedBy p h.val = some w →
        3 ≤ tabGet (fun _ => 0) w.nacks k → (s.ctx w.ctx).state = .open_ →
      ∃ u, exec (.handoffNackRx p h (some k)) s = .next u ∧
        (u.ctx w.ctx).state = .teardown ∧ (u.ring w.ctx).lastCode = 0x45) ∧
    (∀ (p : Peer) (h : Fin 64) (e : Nat) (w : SendWin) (d : Desc) (s : State), s.hears → s.grantedBy p h.val = some w → s.desc w.ctx w.idx = some
        d →
      ∃ u, exec (.handoffStaleRx p h e) s = .next u ∧
        u.outcome w.ctx w.idx = some (0x20, resHandle h.val, e) ∧ u.sendWin w.ctx w.idx = none ∧ u.mem = s.mem) ∧
    (∀ (p : Peer) (h : Fin 64) (w : SendWin) (bs : List Byte) (s : State), s.hears → s.grantedBy p h.val = some w →
        s.sendWin w.ctx w.idx = some w → s.sendLost w = false → w.credits = 0 →
        (s.seen.sendReads { w with maskDue := true }).vread 0 w.ctx w.mask (ceilDiv (w.tensor.size 0) 8) = Except.ok bs →
      ∃ u, exec (.handoffNackRx p h none) s = .next u ∧
        u.mem = s.mem ∧ u.sendWin w.ctx w.idx = some { w with maskDue := false }) ∧
    (∀ (c : CtxId) (idx t : Nat) (s : State), ((s.sendWin c.val idx).map (fun w => match w.phase with | .retry t0 => decide (t0 ≤ max s.clk t) | _ => false)) ≠ some true →
      ∃ u, exec (.handoffOfferRetry c idx t) s = .next u ∧ u = s.reachClk t) ∧
    (∀ (p : Peer) (ch : Fin 256) (seq k n e : Nat) (h : Fin 64) (rf : Bool) (o : Option Nat) (i : Instr) (s : State), s.hears →
        s.offeredTo p ch.val seq = none → s.grantedBy p h.val = none → (i = .handoffGrantRx p ch seq k e n rf ∨ i = .handoffBusyRx p ch seq ∨
        i = .handoffAckRx p h k n ∨ i = .handoffNackRx p h o ∨ i = .handoffStaleRx p h e) →
      ∃ u, exec i s = .next u ∧ u.mem = s.mem ∧ u.cmb = s.cmb) ∧
    (∀ (p : Peer) (ch : Fin 256) (seq k n e : Nat) (h : Fin 64) (rf : Bool) (o : Option Nat) (i : Instr) (s : State),
        (i = .handoffGrantRx p ch seq k e n rf ∨ i = .handoffBusyRx p ch seq ∨ i = .handoffAckRx p h k n ∨ i = .handoffNackRx p h o ∨
        i = .handoffStaleRx p h e) →
      ∃ u, exec i s = .next u ∧
        (s.pwr.state = .midnight → u = s) ∧
        (s.pwr.state ≠ .midnight → s.asleep = true → u = ({ s with pwr := { s.pwr with wakeWork := s.pwr.wakeWork ++ [i] } }).beginExit))

/-- O36. HANDOFF_RECV, offers, masks, chunks and their slots, the receive lease and errors of slots. At a start that goes on, with a well-formed
body, a readable tensor, a free handle and no remote byte missing, HANDOFF_RECV is posted and leaves memory. Outside Midnight, Dusk and Night: with
every receive matched an OFFER joins the queue, or is counted, answered BUSY and changes nothing else in the Combine Unit when 32 wait; one that
meets and fits a posted receive, with the queue empty and grants allowed, is matched under the next grant epoch. The rest is shown for a matched
receive under its grant epoch. A mask with a good CRC leaves memory as its write does and is done (rows still missing); a chunk with a bad CRC,
fewer than three before it, is counted, noted and leaves memory; one with a good CRC, not seen before, takes a free slot with its data and leaves
memory as the writes of its rows do; one already done leaves memory and the slots. Once its writes are acknowledged, a chunk moves its slot's epoch
on and is done; the last one ends a receive without a mask OK with its rows and NACKs; otherwise HANDOFF_CHUNK_WRITE_DONE changes nothing. LEASE_MIN
Minutes without a message end the receive UNREACHABLE or PEER_LOST when its turn comes, counted; out of turn RECV_LEASE_EXPIRY changes nothing. A
corrected slot error is counted and leaves memory and the unit; an uncorrectable one fences the slot. A combine slot held for SLOT_WDOG_US tears its
OPEN context down with code 0x45; before that time, or of a free slot, SLOT_WATCHDOG only moves the clock. A message for no receive leaves memory
and the unit. In Dusk and Night each message waits for the exit that it begins; in Midnight it changes nothing. (R318, R321, R322, R323, R324, R332,
R333, R334, R336) -/
def Obligations.HandoffReceiver : Prop :=
  (∀ (c : CtxId) (d0 d : Desc) (t : Tensor) (s s1 : State), s.nextDesc c.val = some d0 → (s.asked c.val d0.idx).startsRecv c.val = .go d s1 →
        malformedAt (handChecks false d.words ++ [(s1.cmb.recvs.any (fun r => decide (r.channel = channelOf d.words) && decide (r.seq = seqOf
        d.words)), 40)]) = none → s1.handTensor c.val d.words = Except.ok t → s1.lnk.need = none → (List.range 64).any (fun h => (s1.recvWin
        h).isNone) = true →
      ∃ u, exec (.handoffRecv c) s = .next u ∧
        u.mem = s.mem ∧ ∃ r ∈ u.cmb.recvs, r.ctx = c.val ∧ r.idx = d.idx ∧ r.tensor = t ∧ r.mask = dword d.words 3 ∧ r.peer = peerOf d.words ∧
        r.channel = channelOf d.words ∧ r.seq = seqOf d.words) ∧
    (∀ (p : Peer) (ch : Fin 256) (seq n d wire : Nat) (m : Bool) (s : State), Inv s → s.hears → (∀ r ∈ s.cmb.recvs, r.offer.isSome = true) →
      ∃ u, exec (.handoffOfferRx p ch seq n d wire m) s = .next u ∧
        u.mem = s.mem ∧ (s.cmb.offers.length < 32 → u.cmb.offers = s.cmb.offers ++ [⟨p, ch.val, seq, n, d, wire, m⟩]) ∧
        (32 ≤ s.cmb.offers.length → u.cmb = s.cmb ∧ (u.reg 0x40060).toNat = min 0xFFFFFFFF ((s.reg 0x40060).toNat + 1))) ∧
    (∀ (p : Peer) (ch : Fin 256) (seq n d wire : Nat) (m : Bool) (r : RecvWin) (s : State), s.hears → s.mayGrant = true → s.cmb.offers = [] →
        (s.cmb.recvs.find? fun r => r.offer.isNone && decide (r.peer = p) && decide (r.channel = ch.val) && decide (r.seq = seq)) = some r →
        r.fits ⟨p, ch.val, seq, n, d, wire, m⟩ = true →
      ∃ u, exec (.handoffOfferRx p ch seq n d wire m) s = .next u ∧
        u.mem = s.mem ∧ u.cmb.offers = [] ∧ u.epoch (resHandle r.handle) = nextEpoch (s.epoch (resHandle r.handle)) ∧
        ∃ x ∈ u.cmb.recvs, x.handle = r.handle ∧ x.offer = some ⟨p, ch.val, seq, n, d, wire, m⟩ ∧ x.last = s.absMin) ∧
    (∀ (p : Peer) (h : Fin 64) (e : Nat) (data : List Byte) (crc : BitVec 32) (r : RecvWin) (o : Offer) (s s2 : State), s.hears → s.transferOf p
        h.val e r o → crc.toNat = crc32c data → (s.seen.setRecv { r with last := s.absMin }).recvWrite { r with last := s.absMin } [(r.mask,
        data.take (ceilDiv (r.tensor.size 0) 8))] = (s2, none) → r.done.length < r.chunks →
      ∃ u, exec (.handoffMaskRx p h e data crc) s = .next u ∧
        u.mem = s2.mem ∧ u.recvWin h.val = some { r with last := s.absMin, maskDone := true }) ∧
    (∀ (p : Peer) (h : Fin 64) (e k : Nat) (data : List Byte) (crc : BitVec 32) (r : RecvWin) (o : Offer) (s : State), Inv s → s.hears →
        s.transferOf p h.val e r o → crc.toNat ≠ crc32c data → tabGet (fun _ => 0) r.nacks k < 3 →
      ∃ u, exec (.handoffChunkRx p h e k data crc) s = .next u ∧
        u.mem = s.mem ∧ (u.reg 0x4005C).toNat = min 0xFFFFFFFF ((s.reg 0x4005C).toNat + 1) ∧
        u.recvWin h.val = some { r with last := s.absMin, nacks := tabSet (fun _ => 0) r.nacks k (tabGet (fun _ => 0) r.nacks k + 1), nacked := r.nacked + 1 }) ∧
    (∀ (p : Peer) (h : Fin 64) (e k i : Nat) (data : List Byte) (crc : BitVec 32) (r : RecvWin) (o : Offer) (s s2 : State), s.hears → s.transferOf
        p h.val e r o → crc.toNat = crc32c data → ¬ k ∈ r.done → r.slots.any (fun x => (x.2.map (fun y => y.1)) == some k) = false → k < r.chunks
        → (r.slots.find? fun x => x.2.isNone) = some (i, none) → (((s.seen.setRecv { r with last := s.absMin }).cmbCount 6 1).setRecv
        { r with last := s.absMin, nacks := tabSet (fun _ => 0) r.nacks k 0, slots := r.slots.map (fun x => if x.1 = i then (i, some (k, s.clk, data)) else x) }).recvWrite
        { r with last := s.absMin } (r.rowWrites o k data) = (s2, none) →
      ∃ u, exec (.handoffChunkRx p h e k data crc) s = .next u ∧
        u = s2 ∧ u.recvWin h.val = some { r with last := s.absMin, nacks := tabSet (fun _ => 0) r.nacks k 0, slots := r.slots.map (fun x => if x.1 = i then (i, some (k, s.clk, data)) else x) }) ∧
    (∀ (p : Peer) (h : Fin 64) (e k : Nat) (data : List Byte) (crc : BitVec 32) (r : RecvWin) (o : Offer) (s : State), s.hears → s.transferOf p
        h.val e r o → crc.toNat = crc32c data → k ∈ r.done →
      ∃ u, exec (.handoffChunkRx p h e k data crc) s = .next u ∧
        u.mem = s.mem ∧ u.recvWin h.val = some { r with last := s.absMin }) ∧
    (∀ (h : Fin 64) (k i t : Nat) (data : List Byte) (r : RecvWin) (o : Offer) (d : Desc) (s : State), s.recvWin h.val = some r →
        (r.slots.find? fun x => (x.2.map (fun y => y.1)) == some k) = some (i, some (k, t, data)) → s.unacked r.ctx r.idx = false →
        r.offer = some o → r.done.length + 1 = r.chunks → o.mask = false → r.mask = 0 → r.slots.length = 1 → s.desc r.ctx r.idx = some d →
      ∃ u, exec (.handoffChunkWriteDone h k) s = .next u ∧
        u.mem = s.mem ∧ u.recvWin h.val = none ∧ u.epoch (resSlot i) = nextEpoch (s.epoch (resSlot i)) ∧
        u.outcome r.ctx r.idx = some (d.okCode, o.n * 2 ^ 32 + min r.nacked 0xFFFF * 2 ^ 16, d.epoch)) ∧
    (∀ (h : Fin 64) (k i : Nat) (v : Nat × Nat × List Byte) (r : RecvWin) (s : State), s.recvWin h.val = some r →
        (r.slots.find? fun x => (x.2.map (fun y => y.1)) == some k) = some (i, some v) → s.unacked r.ctx r.idx = false → r.done.length + 1 < r.chunks →
      ∃ u, exec (.handoffChunkWriteDone h k) s = .next u ∧
        u.mem = s.mem ∧ u.epoch (resSlot i) = nextEpoch (s.epoch (resSlot i)) ∧ ∃ x, u.recvWin h.val = some x ∧ x.done = r.done ++ [k]) ∧
    (∀ (h : Fin 64) (k : Nat) (s : State), ((s.recvWin h.val).map (fun r => s.unacked r.ctx r.idx || !r.slots.any (fun x => (x.2.map (fun y => y.1)) == some k))) ≠ some false →
      ∃ u, exec (.handoffChunkWriteDone h k) s = .next u ∧ u = s) ∧
    (∀ (h : Fin 64) (r : RecvWin) (d : Desc) (s : State), Inv s → s.turn (.recvLease h.val) = true → s.recvWin h.val = some r →
        s.recvExpired r = true → s.desc r.ctx r.idx = some d →
      ∃ u, exec (.recvLeaseExpiry h) s = .next u ∧
        u.mem = s.mem ∧ u.recvWin h.val = none ∧ (u.reg 0x40064).toNat = min 0xFFFFFFFF ((s.reg 0x40064).toNat + 1) ∧
        u.outcome r.ctx r.idx = some (if r.peer.route = 0 then 0x23 else 0x22, r.peer.detail, 0)) ∧
    (∀ (h : Fin 64) (s : State), s.turn (.recvLease h.val) = false →
      ∃ u, exec (.recvLeaseExpiry h) s = .next u ∧ u = s) ∧
    (∀ (i : Fin 512) (row : Fin 64) (s : State), Inv s →
      ∃ u, exec (.reorderSlotUe i row true) s = .next u ∧
        (u.reg 0x40068).toNat = min 0xFFFFFFFF ((s.reg 0x40068).toNat + 1) ∧ u.mem = s.mem ∧ u.cmb = s.cmb) ∧
    (∀ (i : Fin 512) (row : Fin 64) (s : State),
      ∃ u, exec (.reorderSlotUe i row false) s = .next u ∧
        u.cmb.isFenced i.val = true ∧ u.cmb.slotFree i.val = false) ∧
    (∀ (i : Fin 512) (t t0 : Nat) (r : CombineRun) (s : State), Inv s → s.cmb.takenAt i.val = some t0 → t0 + max 1 (s.fld 0x40004 0 16) * 1000 ≤
        max s.clk t → s.cmb.run = some r → s.cmb.combHeld i.val = true → s.cmb.recvHeld i.val = false → (s.ctx r.ctx).state = .open_ →
      ∃ u, exec (.slotWatchdog i t) s = .next u ∧
        (u.ctx r.ctx).state = .teardown ∧ (u.ring r.ctx).lastCode = 0x45 ∧ u.clk = max s.clk t) ∧
    (∀ (i : Fin 512) (t : Nat) (s : State), (s.cmb.takenAt i.val).all (fun t0 => decide (max s.clk t < t0 + max 1 (s.fld 0x40004 0 16) * 1000)) = true →
      ∃ u, exec (.slotWatchdog i t) s = .next u ∧ u = s.reachClk t) ∧
    (∀ (p : Peer) (h : Fin 64) (e k : Nat) (data : List Byte) (crc : BitVec 32) (i : Instr) (s : State), s.hears → s.recvWin h.val = none →
        (i = .handoffMaskRx p h e data crc ∨ i = .handoffChunkRx p h e k data crc) →
      ∃ u, exec i s = .next u ∧ u.mem = s.mem ∧ u.cmb = s.cmb) ∧
    (∀ (p : Peer) (ch : Fin 256) (seq n d wire : Nat) (m : Bool) (h : Fin 64) (e k : Nat) (data : List Byte) (crc : BitVec 32) (i : Instr) (s : State),
        (i = .handoffOfferRx p ch seq n d wire m ∨ i = .handoffMaskRx p h e data crc ∨ i = .handoffChunkRx p h e k data crc) →
      ∃ u, exec i s = .next u ∧
        (s.pwr.state = .midnight → u = s) ∧
        (s.pwr.state ≠ .midnight → s.asleep = true → u = ({ s with pwr := { s.pwr with wakeWork := s.pwr.wakeWork ++ [i] } }).beginExit))

/-- O37. Bring-up and retrain of Eriovan ports, and flits received. LINK_RECORDS_RX of a port in DETECT or HELD whose peer breaks no rule trains it
with the revision and capabilities both ends have; otherwise the port is HELD with the REASON its peer breaks; it leaves memory, and in another
state changes nothing. LINK_TRAIN_DONE with every lane good, none treated as bad and no LANE entry ends training in CONFIRM at full width and leaves
memory; with too few good lanes the port is HELD with REASON 6. LINK_CONFIRM_DONE in CONFIRM brings the port UP with the peer's window, no bad
retrain and its data-path view not failed, fresh sequence numbers after a bring-up, and leaves memory. REPLAY_STALL of a port UP with a full replay
buffer for 100 us begins a retrain, counted; otherwise it only moves the clock. A first or second bad LINK_RETRAIN_DONE in TRAIN begins a retrain
again and leaves memory, the third fails the port, a good one with every lane good goes on to CONFIRM and leaves memory; outside a retrain it
changes nothing. A served RETRAIN makes a port UP or FAILED retrain and one HELD detect, and leaves memory. A served LNK_ENABLE_WRITE with EN 0
takes a port enabled but carrying nothing DOWN, one with EN 1, after stage 2, lets a disabled port that is DOWN detect; both store the writable
fields and leave memory. FLIT_RX of a port UP: an intact DATA flit, or a CONTROL flit that asks for nothing, in sequence and without an
acknowledgement is counted, answered by an IDLE flit that acknowledges its number, and moves the expected number on; one with a bad CRC is counted
as such and, not IDLE and without CRC_LIMIT, answered by a NACK of the number expected; both leave memory. Of a port not UP, or not of 256 bytes, it
changes nothing. (R341, R342, R344, R345, R348, R349, R350) -/
def Obligations.LinkPorts : Prop :=
  (∀ (p : PortId) (r : TrainRecord) (s : State), ((s.port p.val).state = .detect ∨ (s.port p.val).state = .held) →
      ∃ u, exec (.linkRecordsRx p r) s = .next u ∧
        u.mem = s.mem ∧ (s.refusePeer p.val r = none → (u.port p.val).state = .train ∧ (u.port p.val).rev = min 4 r.rev ∧ (u.port p.val).kind = r.kind ∧
        (u.port p.val).inUse = r.caps &&& 0xFFF &&& revCaps (min 4 r.rev) ∧ (u.port p.val).peerId = r.identity) ∧
        (∀ k, s.refusePeer p.val r = some k → (u.port p.val).state = .held ∧ (u.port p.val).reason = k)) ∧
    (∀ (p : PortId) (r : TrainRecord) (s : State), (s.port p.val).state ≠ .detect → (s.port p.val).state ≠ .held →
      ∃ u, exec (.linkRecordsRx p r) s = .next u ∧ u = s) ∧
    (∀ (p : PortId) (good : Nat) (ms : List Nat) (s : State), (s.port p.val).state = .train → (s.port p.val).retraining = false →
        (s.port p.val).treatBad = [] → good % 256 = 255 → s.rep.entries.all (fun e => decide (e.kind ≠ 5)) = true →
      ∃ u, exec (.linkTrainDone p good ms) s = .next u ∧
        (u.port p.val).state = .confirm ∧ (u.port p.val).width = (if 3 ≤ (s.port p.val).rev then 8 else 4) ∧ (u.port p.val).spared = 0xF ∧ (u.port p.val).degraded = false ∧ u.mem = s.mem) ∧
    (∀ (p : PortId) (good : Nat) (ms : List Nat) (s : State), (s.port p.val).state = .train → (s.port p.val).retraining = false →
        s.trainLanes p.val good 1 = none →
      ∃ u, exec (.linkTrainDone p good ms) s = .next u ∧ (u.port p.val).state = .held ∧ (u.port p.val).reason = 6) ∧
    (∀ (p : PortId) (credits : List Nat) (w : Nat) (s : State), (s.port p.val).state = .confirm → tabWf (fun _ => false) s.flt.dp = true →
      ∃ u, exec (.linkConfirmDone p credits w) s = .next u ∧
        (u.port p.val).state = .up ∧ (u.port p.val).window = w ∧ (u.port p.val).retraining = false ∧ (u.port p.val).badRetrains = 0 ∧
        u.dpFailed (36 + p.val) = false ∧ u.mem = s.mem ∧ ((s.port p.val).retraining = false → (u.port p.val).expect = 0)) ∧
    (∀ (p : PortId) (credits : List Nat) (w : Nat) (s : State), (s.port p.val).state ≠ .confirm →
      ∃ u, exec (.linkConfirmDone p credits w) s = .next u ∧ u = s) ∧
    (∀ (p : PortId) (t t0 : Nat) (s : State), Inv s → (s.port p.val).fullSince = some t0 → (s.port p.val).state = .up → t0 + 100000 ≤ max s.clk t →
      ∃ u, exec (.replayStall p t) s = .next u ∧
        (u.port p.val).state = .train ∧ (u.port p.val).retraining = true ∧ u.clk = max s.clk t ∧
        (u.reg (0x60134 + 0x40 * p.val)).toNat = min 0xFFFFFFFF ((s.reg (0x60134 + 0x40 * p.val)).toNat + 1)) ∧
    (∀ (p : PortId) (t : Nat) (s : State), (decide ((s.port p.val).state = .up) && ((s.port p.val).fullSince.map (fun t0 => decide (t0 + 100000 ≤ max s.clk t))).getD false) = false →
      ∃ u, exec (.replayStall p t) s = .next u ∧ u = s.reachClk t) ∧
    (∀ (p : PortId) (good : Nat) (ms : List Nat) (s : State), (s.port p.val).retraining = true → (s.port p.val).state = .train →
        (s.port p.val).badRetrains < 2 →
      ∃ u, exec (.linkRetrainDone p false good ms) s = .next u ∧
        (u.port p.val).state = .train ∧ (u.port p.val).retraining = true ∧ (u.port p.val).badRetrains = (s.port p.val).badRetrains + 1 ∧ u.mem = s.mem) ∧
    (∀ (p : PortId) (good : Nat) (ms : List Nat) (s : State), (s.port p.val).retraining = true → (s.port p.val).state = .train →
        2 ≤ (s.port p.val).badRetrains →
      ∃ u, exec (.linkRetrainDone p false good ms) s = .next u ∧ (u.port p.val).state = .failed) ∧
    (∀ (p : PortId) (good : Nat) (ms : List Nat) (s : State), (s.port p.val).retraining = true → (s.port p.val).state = .train →
        (s.port p.val).treatBad = [] → good % 256 = 255 → s.rep.entries.all (fun e => decide (e.kind ≠ 5)) = true →
      ∃ u, exec (.linkRetrainDone p true good ms) s = .next u ∧
        (u.port p.val).state = .confirm ∧ (u.port p.val).retraining = true ∧ (u.port p.val).width = (if 3 ≤ (s.port p.val).rev then 8 else 4) ∧ u.mem = s.mem) ∧
    (∀ (p : PortId) (ok : Bool) (good : Nat) (ms : List Nat) (s : State), (s.port p.val).retraining = false →
      ∃ u, exec (.linkRetrainDone p ok good ms) s = .next u ∧ u = s) ∧
    (∀ (p : PortId) (s : State), s.served →
      ∃ u, exec (.lnkRetrainCmd p) s = .next u ∧
        ((s.port p.val).state = .up → (u.port p.val).state = .train ∧ (u.port p.val).retraining = true) ∧
        ((s.port p.val).state = .failed → (u.port p.val).state = .train ∧ (u.port p.val).retraining = true) ∧
        ((s.port p.val).state = .held → (u.port p.val).state = .detect) ∧ u.mem = s.mem) ∧
    (∀ (p : PortId) (v : Word) (s : State), Inv s → s.served → s.rbit (0x60100 + 0x40 * p.val) 31 = true → bitAt v.toNat 31 = false →
        (s.port p.val).state ≠ .up → (s.port p.val).state ≠ .train → (s.port p.val).state ≠ .confirm → tabWf (fun _ => Port.reset) s.lnk.ports = true →
      ∃ u, exec (.lnkEnableWrite p v) s = .next u ∧
        (u.port p.val).state = .down ∧ u.reg (0x60100 + 0x40 * p.val) = v &&& 0xA0FFF00F ∧ u.mem = s.mem) ∧
    (∀ (p : PortId) (v : Word) (s : State), Inv s → s.served → s.rbit (0x60100 + 0x40 * p.val) 31 = false → bitAt v.toNat 31 = true →
        bitAt v.toNat 30 = false → 2 ≤ s.boot.stage → (s.port p.val).state = .down →
      ∃ u, exec (.lnkEnableWrite p v) s = .next u ∧
        (u.port p.val).state = .detect ∧ u.reg (0x60100 + 0x40 * p.val) = v &&& 0xA0FFF00F ∧ u.mem = s.mem) ∧
    (∀ (p : PortId) (f : List Byte) (rt : Bool) (s : State), Inv s → (s.port p.val).state = .up → f.length = 256 →
        crcT10 (f.take 254) = leNat (f.drop 254) → (hdrFld f 63 3 = 1 ∨ (hdrFld f 63 3 = 2 ∧ rt = false)) → hdrFld f 51 2 = 0 →
        hdrFld f 27 12 = (s.port p.val).expect →
      ∃ u, exec (.flitRx p f rt) s = .next u ∧
        (u.port p.val).expect = ((s.port p.val).expect + 1) % 4096 ∧
        Out.flit p.val none 0 (putFlit 0 (0, false, 0) (1, hdrFld f 27 12) 0 0 []) ∈ u.sent ∧ u.mem = s.mem ∧
        (u.reg (0x60124 + 0x40 * p.val)).toNat = min 0xFFFFFFFF ((s.reg (0x60124 + 0x40 * p.val)).toNat + 1)) ∧
    (∀ (p : PortId) (f : List Byte) (rt : Bool) (s : State), Inv s → (s.port p.val).state = .up → f.length = 256 →
        crcT10 (f.take 254) ≠ leNat (f.drop 254) →
      ∃ u, exec (.flitRx p f rt) s = .next u ∧
        u.mem = s.mem ∧ (u.reg (0x60128 + 0x40 * p.val)).toNat = min 0xFFFFFFFF ((s.reg (0x60128 + 0x40 * p.val)).toNat + 1) ∧
        (hdrFld f 63 3 ≠ 0 → s.crcLimit p.val = 0 → Out.flit p.val none 0 (putFlit 0 (0, false, 0) (2, (s.port p.val).expect) 0 0 []) ∈ u.sent)) ∧
    (∀ (p : PortId) (f : List Byte) (rt : Bool) (s : State), ((s.port p.val).state ≠ .up ∨ f.length ≠ 256) →
      ∃ u, exec (.flitRx p f rt) s = .next u ∧ u = s)

/-- O38. Returned messages, route tables and their changeovers, apertures and remote windows. ROUTE_STALE_RX, with the hold empty and no message
parked: a message that still serves, for a torus position, returned under the current epoch, not returned before and of no NO_REISSUE descriptor,
waits in the hold and memory stays; one returned before, not of class COLLECTIVE, with no request waiting, completes its descriptor ROUTE_STALE.
STALE_HOLD_EXPIRY completes the descriptor of the only message in the hold, neither returned before nor NO_REISSUE, UNREACHABLE once it waited
STALE_HOLD Minutes; with an empty hold it changes nothing. A served ROUTE_ARM with a well-formed stamp and no table staged under another epoch
stages its table for a Minute to come and changes nothing else; for one that has begun it changes over, keeping the old table for an Hour and
flagging the late arm; with another epoch staged or a bad stamp it is a locked write. A served ROUTE_DEFAULT installs the table of R352, sends what
was parked and leaves memory. ROUTE_CHANGEOVER at its Minute, with no event of the Minute due, makes the staged table and epoch current, keeps the
old ones for an Hour, flags it, and leaves memory when the hold is empty; with nothing staged or an event due it changes nothing.
PREVIOUS_ROUTE_DISCARD drops the previous table an Hour after; before that, or without one, it changes nothing. A served APERTURE_BIND stores the
writable fields and with EN latches the context's GEN; it leaves memory. A served RWIN_ENABLE writes the window of a FREE context when it fits or EN
is 0, and is a locked write otherwise. (R351, R352, R355, R357, R360, R368, R371, R374) -/
def Obligations.RoutesAndWindows : Prop :=
  (∀ (m : Msg) (s : State), s.serves m = true → m.dst.route = 0 → m.epoch = s.routeEpoch → s.lnk.hold = [] → s.lnk.parked = [] →
        m.reissued = false → m.kind ≠ .routeStale → (m.owner.all fun o => (s.desc o.1 o.2.2).all fun d => !d.noReissue) = true →
      ∃ u, exec (.routeStaleRx m) s = .next u ∧
        u.lnk.hold = [(m, s.absMin)] ∧ u.mem = s.mem) ∧
    (∀ (m : Msg) (c g i : Nat) (d : Desc) (s : State), s.serves m = true → s.lnk.hold = [] → s.lnk.parked = [] → s.lnk.reqs = [] →
        m.kind.cls ≠ 3 → m.kind ≠ .routeStale → m.reissued = true → m.owner = some (c, g, i) → s.stillAt c g i = true → s.desc c i = some d →
      ∃ u, exec (.routeStaleRx m) s = .next u ∧
        u.outcome c i = some (0x21, m.dst.detail, d.epoch)) ∧
    (∀ (m : Msg) (c g i t : Nat) (d : Desc) (s : State), s.lnk.hold = [(m, t)] → m.reissued = false → m.owner = some (c, g, i) →
        s.stillAt c g i = true → s.desc c i = some d → d.noReissue = false → t + s.staleHold ≤ s.absMin →
      ∃ u, exec (.staleHoldExpiry) s = .next u ∧
        u.outcome c i = some (0x23, m.dst.detail, d.epoch)) ∧
    (∀ (s : State), s.lnk.hold = [] →
      ∃ u, exec (.staleHoldExpiry) s = .next u ∧ u = s) ∧
    (∀ (s : State), Inv s → s.served → (s.lnk.staged.all fun x => decide (x.1 = (s.reg 0x50008).toNat)) = true → stampBad (s.reg64 0x50010) = false →
      ∃ u, exec (.routeArm) s = .next u ∧
        (s.absMin < stampMin s.day.hourOfs (s.reg64 0x50010) → u = (s.dropLatches 0x50018).setLnk { s.lnk with staged := some ((s.reg 0x50008).toNat, s.stageTable, stampMin s.day.hourOfs (s.reg64 0x50010)), stagedLate := false }) ∧
        (stampMin s.day.hourOfs (s.reg64 0x50010) ≤ s.absMin → u.lnk.table = s.stageTable ∧ u.lnk.prev = some (s.routeEpoch, s.lnk.table, s.absMin + 60) ∧ u.reg 0x50004 = s.reg 0x50008 ∧ u.rbit 0x5001C 1 = true)) ∧
    (∀ (s : State), s.served → ((s.lnk.staged.all fun x => decide (x.1 = (s.reg 0x50008).toNat)) = false ∨ stampBad (s.reg64 0x50010) = true) →
      ∃ u, exec (.routeArm) s = .next u ∧ u = (s.dropLatches 0x50018).locked 0x50018 .host) ∧
    (∀ (s : State), s.served →
      ∃ u, exec (.routeDefault) s = .next u ∧
        u = ((s.dropLatches 0x50018).setLnk { s.lnk with table := { entries := [], dimOrder := true } }).unpark ∧
        u.lnk.table = { entries := [], dimOrder := true } ∧ u.mem = s.mem) ∧
    (∀ (e m : Nat) (t : RouteTable) (s : State), Inv s → s.lnk.staged = some (e, t, m) → m ≤ s.absMin → s.day.due = [] →
      ∃ u, exec (.routeChangeover) s = .next u ∧
        u.lnk.table = t ∧ u.lnk.prev = some (s.routeEpoch, s.lnk.table, s.absMin + 60) ∧ u.lnk.staged = none ∧ u.reg 0x50004 = BitVec.ofNat 32 e ∧
        u.rbit 0x5001C 0 = true ∧ (s.lnk.hold = [] → u.mem = s.mem)) ∧
    (∀ (s : State), (s.lnk.staged = none ∨ s.day.due ≠ []) →
      ∃ u, exec (.routeChangeover) s = .next u ∧ u = s) ∧
    (∀ (e m : Nat) (t : RouteTable) (s : State), s.lnk.prev = some (e, t, m) → m ≤ s.absMin →
      ∃ u, exec (.previousRouteDiscard) s = .next u ∧
        u = s.setLnk { s.lnk with prev := none }) ∧
    (∀ (s : State), (s.lnk.prev.all fun x => decide (s.absMin < x.2.2)) = true →
      ∃ u, exec (.previousRouteDiscard) s = .next u ∧ u = s) ∧
    (∀ (a : Fin 64) (v : Word) (s : State), Inv s → s.served → tabWf (fun _ => 0) s.lnk.aptGen = true →
      ∃ u, exec (.apertureBind a v) s = .next u ∧
        u.reg (0x60400 + 4 * a.val) = v &&& 0x803FC03F ∧ (bitAt v.toNat 31 = true → tabGet (fun _ => 0) u.lnk.aptGen a.val = (s.ctx (wfld v 0 6)).gen) ∧ u.mem = s.mem) ∧
    (∀ (c : CtxId) (w : Fin 4) (v : Word) (s : State), Inv s → s.served → (s.ctx c.val).state = .free →
      ∃ u, exec (.rwinEnable c w v) s = .next u ∧
        ((bitAt v.toNat 31 && !s.windowFits c.val w.val v) = true → u = (s.dropLatches (winReg c.val w.val 0)).locked (winReg c.val w.val 0) .host) ∧
        ((bitAt v.toNat 31 && !s.windowFits c.val w.val v) = false → u = (s.dropLatches (winReg c.val w.val 0)).setReg (winReg c.val w.val 0) (v &&& 0xF7FFFFFF))) ∧
    (∀ (c : CtxId) (w : Fin 4) (v : Word) (s : State), s.served → (s.ctx c.val).state ≠ .free →
      ∃ u, exec (.rwinEnable c w v) s = .next u ∧ u = (s.dropLatches (winReg c.val w.val 0)).locked (winReg c.val w.val 0) .host)

/-- O39. Remote requests served and answered, interrupts, debug reads and peer lists. Outside Midnight, Dusk and Night, a remote request through an
aperture that lets it in, read or write, acts under the bound context's tables and is answered; one that faults, but for a remote byte missing, is
refused with the outcome of Table 12.8; an interrupt becomes an event of CODE 0x100 with its value and is acknowledged. One that no aperture lets in
is refused, counted and flagged on a link's port, and leaves memory. In Dusk and Night each waits for the exit it begins; in Midnight it changes
nothing. A response to an outstanding tag frees it: OK data of a read under the context's GEN, with no request, SEND or COLLECTIVE waiting, is kept
for the access that lacked it; of a write, an interrupt or an older GEN nothing is kept; both leave memory. Outcome 1 ends the descriptor of an OPEN
context under its GEN UNREACHABLE, 2 to 4 tear the context down with 0x40, 0x41 or 0x45. A response to no tag changes nothing. The timeout of a tag,
RD_TIMEOUT after its issue, ends the descriptor UNREACHABLE; before it, or of no tag, it only moves the clock. A debug read is answered with the
register while DEBUG_EN is 1 and refused otherwise, as is a write; with DEBUG not in use, or in Midnight, none is answered. A new list of valid
peers on a bridge port that is UP or in CONFIRM is taken and flagged, moves the peer epoch on when ROUTE_EPOCH is in use, and leaves memory when no
peer was listed before; the same list, or one on another port, changes nothing. (R359, R360, R361, R362, R363, R364) -/
def Obligations.RemoteRequests : Prop :=
  (∀ (p : Fin 9) (f : Peer) (tag : Nat) (a : Fin 64) (ra len c : Nat) (data bs : List Byte) (s : State), s.hears → s.aperture p.val a.val = some c →
        s.seen.vread 0 c ra len .remoteRead = Except.ok bs →
      ∃ u, exec (.remoteRequestRx p f tag a false ra len data) s = .next u ∧
        u = s.seen.reply f .response [tag] bs ∧ u.mem = s.mem) ∧
    (∀ (p : Fin 9) (f : Peer) (tag : Nat) (a : Fin 64) (ra len c : Nat) (data : List Byte) (s s2 : State), s.hears → s.aperture p.val a.val = some c →
        s.seen.vwrite 0 c ra data .remoteWrite = (s2, none) →
      ∃ u, exec (.remoteRequestRx p f tag a true ra len data) s = .next u ∧
        u = s2.reply f .response [tag] [] ∧ u.mem = s2.mem) ∧
    (∀ (p : Fin 9) (f : Peer) (tag : Nat) (a : Fin 64) (ra len c : Nat) (data : List Byte) (x : XFault) (s : State), s.hears →
        s.aperture p.val a.val = some c → s.seen.vread 0 c ra len .remoteRead = Except.error x → x.reason ≠ 99 →
      ∃ u, exec (.remoteRequestRx p f tag a false ra len data) s = .next u ∧
        u = (s.seen.noteXFault c x).reply f .refusal [tag, outcomeOf x] [] ∧ u.mem = s.mem) ∧
    (∀ (p : Fin 9) (f : Peer) (tag : Nat) (a : Fin 64) (ra len c : Nat) (data : List Byte) (x : XFault) (s s2 : State), s.hears →
        s.aperture p.val a.val = some c → s.seen.vwrite 0 c ra data .remoteWrite = (s2, some x) → x.reason ≠ 99 →
      ∃ u, exec (.remoteRequestRx p f tag a true ra len data) s = .next u ∧
        u = (s2.noteXFault c x).reply f .refusal [tag, outcomeOf x] []) ∧
    (∀ (p : Fin 9) (f : Peer) (tag c : Nat) (a : Fin 64) (v : DWord) (s : State), s.hears → s.aperture p.val a.val = some c →
      ∃ u, exec (.interruptRx p f tag a v) s = .next u ∧
        u = (s.seen.event 7 0x100 c v.toNat).reply f .interruptAck [tag] [] ∧ u.mem = s.mem) ∧
    (∀ (p : Fin 9) (f : Peer) (tag : Nat) (a : Fin 64) (wr : Bool) (ra len : Nat) (data : List Byte) (v : DWord) (i : Instr) (s : State), Inv s →
        s.hears → s.aperture p.val a.val = none → (i = .remoteRequestRx p f tag a wr ra len data ∨ i = .interruptRx p f tag a v) →
      ∃ u, exec i s = .next u ∧
        u = s.seen.refuseRemote p.val f tag ∧ u.mem = s.mem ∧ (p.val < 8 → u.rbit 0x60004 9 = true ∧
        (u.reg (0x6013C + 0x40 * p.val)).toNat = min 0xFFFFFFFF ((s.reg (0x6013C + 0x40 * p.val)).toNat + 1))) ∧
    (∀ (p : Fin 9) (f : Peer) (tag : Nat) (a : Fin 64) (wr : Bool) (ra len : Nat) (data : List Byte) (v : DWord) (i : Instr) (s : State),
        (i = .remoteRequestRx p f tag a wr ra len data ∨ i = .interruptRx p f tag a v) →
      ∃ u, exec i s = .next u ∧
        (s.pwr.state = .midnight → u = s) ∧
        (s.pwr.state ≠ .midnight → s.asleep = true → u = ({ s with pwr := { s.pwr with wakeWork := s.pwr.wakeWork ++ [i] } }).beginExit)) ∧
    (∀ (tag : Nat) (data : List Byte) (r : RemoteReq) (s : State), s.tag tag = some r → (s.ctx r.ctx).gen = r.gen → r.write = false → r.notify = false →
        s.lnk.reqs = [] → s.cmb.sends.any (fun w => decide (w.ctx = r.ctx)) = false → s.col.colls.any (fun x => decide (x.ctx = r.ctx)) = false →
        tabWf (fun _ => none) s.lnk.tags = true →
      ∃ u, exec (.remoteResponseRx tag 0 data) s = .next u ∧
        u.mem = s.mem ∧ u.tag tag = none ∧ u.lnk.got = s.lnk.got ++ [⟨r.ctx, r.idx, r.pos, r.va, data.take r.len⟩]) ∧
    (∀ (tag : Nat) (data : List Byte) (r : RemoteReq) (s : State), s.tag tag = some r → (r.write = true ∨ r.notify = true ∨ (s.ctx r.ctx).gen ≠ r.gen) →
        s.lnk.reqs = [] → tabWf (fun _ => none) s.lnk.tags = true →
      ∃ u, exec (.remoteResponseRx tag 0 data) s = .next u ∧ u.mem = s.mem ∧ u.tag tag = none ∧ u.lnk.got = s.lnk.got) ∧
    (∀ (tag : Nat) (data : List Byte) (r : RemoteReq) (d : Desc) (s : State), s.tag tag = some r → (s.ctx r.ctx).gen = r.gen →
        (s.ctx r.ctx).state = .open_ → s.desc r.ctx r.idx = some d →
      ∃ u, exec (.remoteResponseRx tag 1 data) s = .next u ∧
        u.outcome r.ctx r.idx = some (0x23, r.dst.detail, d.epoch)) ∧
    (∀ (tag : Nat) (o : Fin 5) (data : List Byte) (r : RemoteReq) (s : State), Inv s → s.tag tag = some r → 2 ≤ o.val → (s.ctx r.ctx).gen = r.gen →
        (s.ctx r.ctx).state = .open_ →
      ∃ u, exec (.remoteResponseRx tag o data) s = .next u ∧
        (u.ctx r.ctx).state = .teardown ∧ (u.ring r.ctx).lastCode = (if o.val = 2 then 0x40 else if o.val = 3 then 0x41 else 0x45)) ∧
    (∀ (tag : Nat) (o : Fin 5) (data : List Byte) (s : State), s.tag tag = none →
      ∃ u, exec (.remoteResponseRx tag o data) s = .next u ∧ u = s) ∧
    (∀ (tag t : Nat) (r : RemoteReq) (d : Desc) (s : State), s.tag tag = some r → (s.ctx r.ctx).gen = r.gen → (s.ctx r.ctx).state = .open_ →
        s.desc r.ctx r.idx = some d → r.at_ + s.rdTimeout ≤ max s.clk t →
      ∃ u, exec (.remoteRequestTimeout tag t) s = .next u ∧
        u.outcome r.ctx r.idx = some (0x23, r.dst.detail, d.epoch) ∧ u.clk = max s.clk t) ∧
    (∀ (tag t : Nat) (s : State), ((s.tag tag).all fun r => decide (max s.clk t < r.at_ + s.rdTimeout)) = true →
      ∃ u, exec (.remoteRequestTimeout tag t) s = .next u ∧ u = s.reachClk t) ∧
    (∀ (p : PortId) (f : Peer) (off : Nat) (s : State), s.pwr.state ≠ .midnight → s.capable p.val 2 = true → s.rbit (0x60100 + 0x40 * p.val) 29 = true →
      ∃ u, exec (.debugRequestRx p f false off) s = .next u ∧
        u = (s.readAt .host (off / 4 * 4)).2.sendMsg ⟨.debugAnswer, 0, f, 0, [off, (s.readAt .host (off / 4 * 4)).1.toNat, 0], [], none, none, false⟩ ∧ u.mem = s.mem) ∧
    (∀ (p : PortId) (f : Peer) (wr : Bool) (off : Nat) (s : State), s.pwr.state ≠ .midnight → s.capable p.val 2 = true →
        (wr || !s.rbit (0x60100 + 0x40 * p.val) 29) = true →
      ∃ u, exec (.debugRequestRx p f wr off) s = .next u ∧
        u = s.sendMsg ⟨.debugAnswer, 0, f, 0, [off, 0, 1], [], none, none, false⟩ ∧ u.mem = s.mem) ∧
    (∀ (p : PortId) (f : Peer) (wr : Bool) (off : Nat) (s : State), (s.pwr.state = .midnight ∨ s.capable p.val 2 = false) →
      ∃ u, exec (.debugRequestRx p f wr off) s = .next u ∧ u = s) ∧
    (∀ (b : Fin 2) (ps : List (Nat × Nat)) (s : State), Inv s → ((s.port (6 + b.val)).state = .up ∨ (s.port (6 + b.val)).state = .confirm) →
        ps.all (fun x => decide (2 ≤ x.2) && decide (x.2 < 65536)) = true → ps.length ≤ 256 → ps ≠ tabGet (fun _ => []) s.lnk.peers b.val →
        tabWf (fun _ => []) s.lnk.peers = true → tabWf (fun _ => 0) s.lnk.peerEpoch = true →
      ∃ u, exec (.peerListRx b ps) s = .next u ∧
        tabGet (fun _ => []) u.lnk.peers b.val = ps ∧ u.rbit 0x60004 6 = true ∧ (tabGet (fun _ => []) s.lnk.peers b.val = [] → u.mem = s.mem) ∧
        (s.capable (6 + b.val) 6 = true → tabGet (fun _ => 0) u.lnk.peerEpoch b.val = tabGet (fun _ => 0) s.lnk.peerEpoch b.val + 1)) ∧
    (∀ (b : Fin 2) (ps : List (Nat × Nat)) (s : State), ps.all (fun x => decide (2 ≤ x.2) && decide (x.2 < 65536)) = true → ps.length ≤ 256 →
        (ps = tabGet (fun _ => []) s.lnk.peers b.val ∨ ((s.port (6 + b.val)).state ≠ .up ∧ (s.port (6 + b.val)).state ≠ .confirm)) →
      ∃ u, exec (.peerListRx b ps) s = .next u ∧ u = s)

/-- O40. Discovery: probes, records, the election and its end. DISCOVERY_PROBE_RX on a torus port that is UP: our own probe, back while the position
is known or no coordinates were heard, gives the length of its axis and changes nothing else; another's goes on, one hop more, out of the opposite
port or waits there. DISCOVERY_RECORD_RX on such a port moves the clock, and: coordinates that agree with ours change nothing else; ones that do not
take the position away, set LNK_EVT bit 7 and leave the port HELD with REASON 5; the first ones heard, one step on, are held with the tick while the
axis lengths are not known, and are our own when these are 4, 4 and at most 8; an election record with a smaller identity than the one held, the
position not known, is held, one step on, with the tick, and memory stays; with no smaller one it changes nothing else; with the position known it
is answered with our coordinates. On a port not UP a probe changes nothing and a record only moves the clock. DISCOVERY_ELECTION_TIMER, 5 ms after
the first torus link, without position, coordinates or record, holds our own record with the tick and leaves memory; before that, or with the
position known, it only moves the clock. DISCOVERY_SETTLE, when nothing changed for 100 us and the axis lengths are 4, 4 and at most 8, takes the
record held (with no coordinates heard) as our coordinates, origin when the identity is our own, or the coordinates heard, not as origin; before
that, or with the position known, it only moves the clock. (R367) -/
def Obligations.Discovery : Prop :=
  (∀ (p : TorusPort) (o hops : Nat) (s : State), (s.port p.val).state = .up → o = Config.selfId.toNat → (s.posValid = true ∨ s.lnk.heard = none) →
      ∃ u, exec (.discoveryProbeRx p o hops) s = .next u ∧
        u = s.setLnk { s.lnk with lens := tabSet (fun _ => 0) s.lnk.lens (p.val / 2) hops }) ∧
    (∀ (p : TorusPort) (o hops : Nat) (s : State), (s.port p.val).state = .up → o ≠ Config.selfId.toNat →
      ∃ u, exec (.discoveryProbeRx p o hops) s = .next u ∧
        u.onWay s (if p.val % 2 = 0 then p.val + 1 else p.val - 1) (s.nearMsg (if p.val % 2 = 0 then p.val + 1 else p.val - 1) .discoveryProbe [o, hops + 1]) ∧ u.mem = s.mem) ∧
    (∀ (p : TorusPort) (o hops : Nat) (s : State), (s.port p.val).state ≠ .up →
      ∃ u, exec (.discoveryProbeRx p o hops) s = .next u ∧ u = s) ∧
    (∀ (p : TorusPort) (r : DiscRecord) (t : Nat) (s : State), (s.port p.val).state ≠ .up →
      ∃ u, exec (.discoveryRecordRx p r t) s = .next u ∧ u = s.reachClk t) ∧
    (∀ (p : TorusPort) (x y z t : Nat) (s : State), s.posValid = true → (s.port p.val).state = .up → s.agreesAt p.val (x, y, z) = true →
      ∃ u, exec (.discoveryRecordRx p (.coords x y z) t) s = .next u ∧ u = s.reachClk t) ∧
    (∀ (p : TorusPort) (x y z t : Nat) (s : State), Inv s → s.posValid = true → (s.port p.val).state = .up → s.agreesAt p.val (x, y, z) = false →
      ∃ u, exec (.discoveryRecordRx p (.coords x y z) t) s = .next u ∧
        u.lnk.pos = none ∧ u.rbit 0x60004 7 = true ∧ (u.port p.val).state = .held ∧ (u.port p.val).reason = 5) ∧
    (∀ (p : TorusPort) (x y z t : Nat) (s : State), s.posValid = false → s.lnk.heard = none → (s.port p.val).state = .up → s.axisLens = none →
      ∃ u, exec (.discoveryRecordRx p (.coords x y z) t) s = .next u ∧
        u = (s.reachClk t).setLnk { s.lnk with heard := some (stepFrom p.val ((x : Int), (y : Int), (z : Int))), recAt := max s.clk t }) ∧
    (∀ (p : TorusPort) (x y z t lz : Nat) (s : State), s.posValid = false → s.lnk.heard = none → (s.port p.val).state = .up →
        s.axisLens = some (4, 4, lz) → lz ≤ 8 →
      ∃ u, exec (.discoveryRecordRx p (.coords x y z) t) s = .next u ∧
        u.lnk.pos = some (((stepFrom p.val ((x : Int), (y : Int), (z : Int))).1 % 4).toNat, ((stepFrom p.val ((x : Int), (y : Int), (z : Int))).2.1 % 4).toNat,
        ((stepFrom p.val ((x : Int), (y : Int), (z : Int))).2.2 % (lz : Int)).toNat)) ∧
    (∀ (p : TorusPort) (i : Nat) (x y z : Int) (t : Nat) (s : State), s.posValid = false → (s.port p.val).state = .up →
        i < (s.lnk.elect.map fun e => e.1).getD Config.selfId.toNat →
      ∃ u, exec (.discoveryRecordRx p (.election i x y z) t) s = .next u ∧
        u.lnk.elect = some (i, stepFrom p.val (x, y, z)) ∧ u.lnk.recAt = max s.clk t ∧ u.mem = s.mem) ∧
    (∀ (p : TorusPort) (i : Nat) (x y z : Int) (t : Nat) (s : State), s.posValid = false → (s.port p.val).state = .up →
        (s.lnk.elect.map fun e => e.1).getD Config.selfId.toNat ≤ i →
      ∃ u, exec (.discoveryRecordRx p (.election i x y z) t) s = .next u ∧ u = s.reachClk t) ∧
    (∀ (p : TorusPort) (i : Nat) (x y z : Int) (a b c t : Nat) (s : State), s.lnk.pos = some (a, b, c) → (s.port p.val).state = .up →
      ∃ u, exec (.discoveryRecordRx p (.election i x y z) t) s = .next u ∧
        u.onWay (s.reachClk t) p.val (s.nearMsg p.val .discoveryRecord [0, a, b, c]) ∧ u.mem = s.mem) ∧
    (∀ (t t0 : Nat) (s : State), s.lnk.firstUp = some t0 → s.posValid = false → s.lnk.heard = none → s.lnk.elect = none → t0 + 5000000 ≤ max s.clk t →
      ∃ u, exec (.discoveryElectionTimer t) s = .next u ∧
        u.lnk.elect = some (Config.selfId.toNat, 0, 0, 0) ∧ u.lnk.recAt = max s.clk t ∧ u.mem = s.mem) ∧
    (∀ (t : Nat) (s : State), (s.posValid || s.lnk.firstUp.all (fun t0 => decide (max s.clk t < t0 + 5000000))) = true →
      ∃ u, exec (.discoveryElectionTimer t) s = .next u ∧ u = s.reachClk t) ∧
    (∀ (t i lz : Nat) (x y z : Int) (s : State), s.posValid = false → s.lnk.heard = none → s.lnk.elect = some (i, x, y, z) →
        s.lnk.recAt + 100000 ≤ max s.clk t → s.axisLens = some (4, 4, lz) → lz ≤ 8 →
      ∃ u, exec (.discoverySettle t) s = .next u ∧
        u.lnk.pos = some ((x % 4).toNat, (y % 4).toNat, (z % (lz : Int)).toNat) ∧ u.lnk.zLen = lz ∧ u.lnk.origin = decide (i = Config.selfId.toNat)) ∧
    (∀ (t lz : Nat) (x y z : Int) (s : State), s.posValid = false → s.lnk.heard = some (x, y, z) →
        s.lnk.recAt + 100000 ≤ max s.clk t → s.axisLens = some (4, 4, lz) → lz ≤ 8 →
      ∃ u, exec (.discoverySettle t) s = .next u ∧
        u.lnk.pos = some ((x % 4).toNat, (y % 4).toNat, (z % (lz : Int)).toNat) ∧ u.lnk.zLen = lz ∧ u.lnk.origin = false) ∧
    (∀ (t : Nat) (s : State), (s.posValid || decide (max s.clk t < s.lnk.recAt + 100000)) = true →
      ∃ u, exec (.discoverySettle t) s = .next u ∧ u = s.reachClk t)

/-- O41. GROUP_FORM, the JOINs and FORMED of its handshake, its limit, and GROUP_DISSOLVE. At a start that goes on outside a bracket, GROUP_FORM
without a reason of Table 13.9 makes the slot FORMING for its context with the shape's members; with one it ends GROUP_REFUSED with the reason and
the slot keeps its state. In its bracket, with room and the slot not taken there, one that is not BR_CLOSE is added to the shadow and the slot keeps
its state. GROUP_DISSOLVE of a slot of its context under the current epoch frees it and ends OK with DETAIL 0; of one it may not act on it does what
R381 says. All leave memory. Outside Midnight, Dusk and Night: JOIN_RX at the lowest member, from a member, with no JOIN held, refuses the formation
without INST_VALID, answers it when the sender is the only member (the JOINs are used up), and is held otherwise; with one of another member and
another TAG held the formation is refused; elsewhere, or from another package, it is ignored. FORMED_RX of a FORMING slot with its GROUP_FORM
waiting gives the slot its epoch and members and ends the GROUP_FORM OK with epoch, members and rank; with a reason it ends it GROUP_REFUSED and
frees the slot; of a slot not FORMING it is ignored. FORM_LIMIT_EXPIRY at the LIMIT of a FORMING slot ends its GROUP_FORM GROUP_REFUSED with reason
6 and frees the slot; before it, or without a LIMIT or formation, it changes nothing. In Dusk and Night a message waits for the exit that it begins;
in Midnight it changes nothing. (R380, R381, R382, R383, R384, R412, R415) -/
def Obligations.GroupFormation : Prop :=
  (∀ (c : CtxId) (d : Desc) (s s1 : State), s.startsForm c.val = .go d s1 → s1.flt.bracket = none → s1.formReason (formSlot d) (dword d.words 2)
        = none →
      ∃ u, exec (.groupForm c) s = .next u ∧
        u.mem = s.mem ∧ (u.group (formSlot d)).state = .forming ∧ (u.group (formSlot d)).ctx = c.val ∧ (u.group (formSlot d)).idx = some d.idx ∧
        (u.group (formSlot d)).members = shapeMembers (formShape (dword d.words 2)) (formAnchor (dword d.words 2)) s1.lnk.zLen) ∧
    (∀ (c : CtxId) (d : Desc) (r : Nat) (s s1 : State), s.startsForm c.val = .go d s1 → s1.flt.bracket = none → s1.formReason (formSlot d) (dword
        d.words 2) = some r → s1.desc c.val d.idx = some d →
      ∃ u, exec (.groupForm c) s = .next u ∧
        u.mem = s.mem ∧ u.outcome c.val d.idx = some (0x30, r, d.epoch) ∧ (u.group (formSlot d)).state = (s1.group (formSlot d)).state) ∧
    (∀ (c : CtxId) (d : Desc) (b : Bracket) (s s1 : State), s.startsForm c.val = .go d s1 → s1.flt.bracket = some b → s1.inBracket c.val = true →
        s1.formReason (formSlot d) (dword d.words 2) = none → s1.shadowTakes (formSlot d) = false → s1.formsFull = false → d.brClose = false →
      ∃ u, exec (.groupForm c) s = .next u ∧
        u.mem = s.mem ∧ (u.group (formSlot d)).state = (s1.group (formSlot d)).state ∧
        u.flt.bracket = some { b with forms := b.forms ++ [⟨d.idx, formSlot d, dword d.words 2, dword d.words 3, false, none⟩] }) ∧
    (∀ (c : CtxId) (d : Desc) (s s1 : State), s.startsDissolve c.val = .go d s1 → s1.flt.bracket = none → s1.judgeSlot c.val d (formSlot d) true =
        none → s1.desc c.val d.idx = some d → tabWf (fun _ => GroupSlot.reset) s1.col.groups = true →
      ∃ u, exec (.groupDissolve c) s = .next u ∧
        u.mem = s.mem ∧ (u.group (formSlot d)).state = .free ∧ u.outcome c.val d.idx = some (d.okCode, 0, d.epoch)) ∧
    (∀ (c : CtxId) (d : Desc) (s s1 x : State), s.startsDissolve c.val = .go d s1 → s1.judgeSlot c.val d (formSlot d) true = some x →
      ∃ u, exec (.groupDissolve c) s = .next u ∧ u = x ∧ u.mem = s.mem) ∧
    (∀ (p : Nat) (g : Fin 64) (j : Join) (s : State), s.hears → p ∈ shapeMembers j.shape j.anchor s.lnk.zLen → (shapeMembers j.shape j.anchor
        s.lnk.zLen).head? = some s.position → (s.group g.val).joins = [] → tabWf (fun _ => GroupSlot.reset) s.col.groups = true →
      ∃ u, exec (.joinRx p g j) s = .next u ∧
        u.mem = s.mem ∧ (j.valid = false → (u.group g.val).joins = []) ∧
        (j.valid = true → (∀ q ∈ shapeMembers j.shape j.anchor s.lnk.zLen, q = p) → (u.group g.val).joins = []) ∧
        (j.valid = true → (∃ q ∈ shapeMembers j.shape j.anchor s.lnk.zLen, q ≠ p) → (u.group g.val).joins = [(p, j)])) ∧
    (∀ (p q : Nat) (g : Fin 64) (j k : Join) (s : State), s.hears → p ∈ shapeMembers j.shape j.anchor s.lnk.zLen →
        (shapeMembers j.shape j.anchor s.lnk.zLen).head? = some s.position → (s.group g.val).joins = [(q, k)] → q ≠ p → k.tag ≠ j.tag →
        tabWf (fun _ => GroupSlot.reset) s.col.groups = true →
      ∃ u, exec (.joinRx p g j) s = .next u ∧ u.mem = s.mem ∧ (u.group g.val).joins = []) ∧
    (∀ (p : Nat) (g : Fin 64) (j : Join) (s : State), s.hears → (¬ p ∈ shapeMembers j.shape j.anchor s.lnk.zLen ∨
        (shapeMembers j.shape j.anchor s.lnk.zLen).head? ≠ some s.position) →
      ∃ u, exec (.joinRx p g j) s = .next u ∧ u = s.seen) ∧
    (∀ (g : Fin 64) (e i : Nat) (d : Desc) (s : State), s.hears → (s.group g.val).state = .forming → (s.group g.val).idx = some i → s.desc
        (s.group g.val).ctx i = some d → tabWf (fun _ => 0) s.flt.epochs = true →
      ∃ u, exec (.formedRx g e 0) s = .next u ∧
        u.mem = s.mem ∧ u.gepoch g.val = e % 2 ^ 32 ∧ (u.group g.val).state = .formed ∧ (u.group g.val).live = (s.group g.val).members ∧
        u.outcome (s.group g.val).ctx i = some (0, e % 2 ^ 32 + (s.group g.val).members.length * 2 ^ 32 + rankIn (s.group g.val).members s.position * 2 ^ 40, 0)) ∧
    (∀ (g : Fin 64) (e r i : Nat) (d : Desc) (s : State), s.hears → (s.group g.val).state = .forming → (s.group g.val).idx = some i → s.desc
        (s.group g.val).ctx i = some d → r ≠ 0 →
      ∃ u, exec (.formedRx g e r) s = .next u ∧
        u.mem = s.mem ∧ (u.group g.val).state = .free ∧ u.outcome (s.group g.val).ctx i = some (0x30, r, d.epoch)) ∧
    (∀ (g : Fin 64) (m i : Nat) (d : Desc) (s : State), (s.group g.val).state = .forming → (s.group g.val).limit = some m → m ≤ s.absMin →
        (s.group g.val).idx = some i → s.desc (s.group g.val).ctx i = some d →
      ∃ u, exec (.formLimitExpiry g) s = .next u ∧
        u.mem = s.mem ∧ (u.group g.val).state = .free ∧ (u.group g.val).reason = 6 ∧ u.outcome (s.group g.val).ctx i = some (0x30, 6, d.epoch)) ∧
    (∀ (g : Fin 64) (e r : Nat) (s : State), s.hears → (s.group g.val).state ≠ .forming →
      ∃ u, exec (.formedRx g e r) s = .next u ∧ u = s.seen) ∧
    (∀ (g : Fin 64) (s : State), ((s.group g.val).state ≠ .forming ∨ (s.group g.val).limit.all (fun m => decide (s.absMin < m)) = true) →
      ∃ u, exec (.formLimitExpiry g) s = .next u ∧ u = s) ∧
    (∀ (p : Nat) (g : Fin 64) (j : Join) (e r : Nat) (i : Instr) (s : State), (i = .joinRx p g j ∨ i = .formedRx g e r) →
      ∃ u, exec i s = .next u ∧
        (s.pwr.state = .midnight → u = s) ∧
        (s.pwr.state ≠ .midnight → s.asleep = true → u = ({ s with pwr := { s.pwr with wakeWork := s.pwr.wakeWork ++ [i] } }).beginExit))

/-- O42. SUSPECTs, PROBEs, REFORM and RESUME. Messages are shown outside Midnight, Dusk and Night and under the slot's epoch. SUSPECT_RX of a live
member from a live member, at the leader that its loss leaves and with no gathering or PROBE open, opens a gathering of 5 us with the suspect, or
the leaver, and leaves memory; of a slot not alive, or another epoch, it only moves the clock. SUSPECT_GATHER_EXPIRY at its time with suspects,
other than leavers and this package, probes them for 10 us and leaves memory; without a gathering, or before its time, it only moves the clock.
PROBE_RX is answered by a live slot, and its answer clears the suspect; both leave memory. The answer of the last suspect, and PROBE_TIMEOUT at its
time, decide: with this package among the members left, these are the live set under the next epoch, or, fewer than MIN_LIVE, the slot is DISSOLVED
with reason 10; without a PROBE open, or before its time, PROBE_TIMEOUT only moves the clock. REFORM_RX with a newer epoch dissolves an alive slot
(reason 10) when the set is empty, excludes it (reason 11) without this package, and else makes it REFORMING with that set and epoch; an older
epoch, or a slot not alive, is ignored. REFORM_ACK_RX from an awaited member, with no gathering or PROBE open, is taken, and the last makes the slot
FORMED; one not awaited is ignored. RESUME_RX of a REFORMING slot makes it FORMED with its live set; of another it is ignored. Both leave memory. In
Dusk and Night each message waits for the exit that it begins; in Midnight it changes nothing. (R403, R404, R406, R412) -/
def Obligations.GroupRecovery : Prop :=
  (∀ (p : Nat) (g : Fin 64) (e lost t : Nat) (s : State), s.hears → (s.group g.val).alive = true → e = s.gepoch g.val → p ∈ (s.group g.val).live →
        lost ∈ (s.group g.val).live → (s.group g.val).leader lost = some s.position → (s.group g.val).gatherAt = none → (s.group g.val).probeAt = none →
      ∃ u, exec (.suspectRx p g e lost t) s = .next u ∧
        (u.group g.val).gatherAt = some (max s.clk t + 5000) ∧ (lost ≠ p → lost ∈ (u.group g.val).suspects) ∧ (lost = p → lost ∈ (u.group g.val).leavers) ∧ u.mem = s.mem) ∧
    (∀ (p : Nat) (g : Fin 64) (e lost t : Nat) (s : State), s.hears → ((s.group g.val).alive = false ∨ e ≠ s.gepoch g.val) →
      ∃ u, exec (.suspectRx p g e lost t) s = .next u ∧ u = s.seen.reachClk t) ∧
    (∀ (g : Fin 64) (t t0 : Nat) (s : State), (s.group g.val).gatherAt = some t0 → t0 ≤ max s.clk t →
        (s.group g.val).suspects.filter (fun p => !(s.group g.val).leavers.contains p && decide (p ≠ s.position)) ≠ [] →
      ∃ u, exec (.suspectGatherExpiry g t) s = .next u ∧
        (u.group g.val).gatherAt = none ∧ (u.group g.val).probeAt = some (max s.clk t + 10000) ∧
        (u.group g.val).probing = (s.group g.val).suspects.filter (fun p => !(s.group g.val).leavers.contains p && decide (p ≠ s.position)) ∧ u.mem = s.mem) ∧
    (∀ (g : Fin 64) (t : Nat) (s : State), (s.group g.val).gatherAt.all (fun t0 => decide (max s.clk t < t0)) = true →
      ∃ u, exec (.suspectGatherExpiry g t) s = .next u ∧ u = s.reachClk t) ∧
    (∀ (p : Nat) (g : Fin 64) (e : Nat) (s : State), s.hears → (s.group g.val).alive = true → e = s.gepoch g.val →
      ∃ u, exec (.probeRx p g e false) s = .next u ∧
        u = s.seen.colMsg p .probeAnswer [g.val, e] [] none ∧ u.col = s.col ∧ u.mem = s.mem) ∧
    (∀ (p : Nat) (g : Fin 64) (e : Nat) (s : State), s.hears → (s.group g.val).alive = true → e = s.gepoch g.val →
        (s.group g.val).probing.any (fun q => decide (q ≠ p)) = true →
      ∃ u, exec (.probeRx p g e true) s = .next u ∧
        (u.group g.val).probing = (s.group g.val).probing.filter (fun q => decide (q ≠ p)) ∧ u.mem = s.mem) ∧
    (∀ (p : Nat) (g : Fin 64) (e t0 : Nat) (s : State), s.hears → (s.group g.val).alive = true → e = s.gepoch g.val → (s.group g.val).probing = [p] →
        (s.group g.val).probeAt = some t0 → s.position ∈ ((s.group g.val).live.filter fun q => !(s.group g.val).leavers.contains q) →
      ∃ u, exec (.probeRx p g e true) s = .next u ∧
        ((s.group g.val).minLive ≤ ((s.group g.val).live.filter fun q => !(s.group g.val).leavers.contains q).length →
        (u.group g.val).live = ((s.group g.val).live.filter fun q => !(s.group g.val).leavers.contains q) ∧ u.gepoch g.val = nextEpoch (s.gepoch g.val)) ∧
        (((s.group g.val).live.filter fun q => !(s.group g.val).leavers.contains q).length < (s.group g.val).minLive →
        (u.group g.val).state = .dissolved ∧ (u.group g.val).reason = 10)) ∧
    (∀ (g : Fin 64) (t t0 : Nat) (s : State), (s.group g.val).probeAt = some t0 → t0 ≤ max s.clk t → s.position ∈ ((s.group g.val).live.filter fun p => !(s.group g.val).probing.contains p && !(s.group g.val).leavers.contains p) →
      ∃ u, exec (.probeTimeout g t) s = .next u ∧
        ((s.group g.val).minLive ≤ ((s.group g.val).live.filter fun p => !(s.group g.val).probing.contains p && !(s.group g.val).leavers.contains p).length →
        (u.group g.val).live = ((s.group g.val).live.filter fun p => !(s.group g.val).probing.contains p && !(s.group g.val).leavers.contains p) ∧ u.gepoch g.val = nextEpoch (s.gepoch g.val)) ∧
        (((s.group g.val).live.filter fun p => !(s.group g.val).probing.contains p && !(s.group g.val).leavers.contains p).length < (s.group g.val).minLive →
        (u.group g.val).state = .dissolved ∧ (u.group g.val).reason = 10)) ∧
    (∀ (g : Fin 64) (t : Nat) (s : State), (s.group g.val).probeAt.all (fun t0 => decide (max s.clk t < t0)) = true →
      ∃ u, exec (.probeTimeout g t) s = .next u ∧ u = s.reachClk t) ∧
    (∀ (p : Nat) (g : Fin 64) (e : Nat) (live : List Nat) (last : Option Nat) (s : State), s.hears → (s.group g.val).alive = true →
        newerEpoch e (s.gepoch g.val) = true → tabWf (fun _ => 0) s.flt.epochs = true →
      ∃ u, exec (.reformRx p g e live last) s = .next u ∧
        (live = [] → (u.group g.val).state = .dissolved ∧ (u.group g.val).reason = 10) ∧
        (live ≠ [] → ¬ s.position ∈ live → (u.group g.val).state = .excluded ∧ (u.group g.val).reason = 11) ∧
        (s.position ∈ live → (u.group g.val).state = .reforming ∧ (u.group g.val).live = live ∧ u.gepoch g.val = e)) ∧
    (∀ (p : Nat) (g : Fin 64) (e : Nat) (live : List Nat) (last : Option Nat) (s : State), s.hears →
        ((s.group g.val).alive = false ∨ newerEpoch e (s.gepoch g.val) = false) →
      ∃ u, exec (.reformRx p g e live last) s = .next u ∧ u = s.seen) ∧
    (∀ (p : Nat) (g : Fin 64) (e : Nat) (s : State), s.hears → (s.group g.val).state = .reforming → e = s.gepoch g.val → p ∈ (s.group g.val).acks →
        (s.group g.val).gatherAt = none → (s.group g.val).probeAt = none →
      ∃ u, exec (.reformAckRx p g e) s = .next u ∧
        u.mem = s.mem ∧ (u.group g.val).acks = (s.group g.val).acks.filter (fun q => decide (q ≠ p)) ∧
        (u.group g.val).state = (if (s.group g.val).acks.filter (fun q => decide (q ≠ p)) = [] then .formed else .reforming)) ∧
    (∀ (p : Nat) (g : Fin 64) (e : Nat) (s : State), s.hears → ¬ p ∈ (s.group g.val).acks →
      ∃ u, exec (.reformAckRx p g e) s = .next u ∧ u = s.seen) ∧
    (∀ (g : Fin 64) (e : Nat) (s : State), s.hears → (s.group g.val).state = .reforming → e = s.gepoch g.val →
      ∃ u, exec (.resumeRx g e) s = .next u ∧
        (u.group g.val).state = .formed ∧ (u.group g.val).live = (s.group g.val).live ∧ u.mem = s.mem) ∧
    (∀ (g : Fin 64) (e : Nat) (s : State), s.hears → ((s.group g.val).state ≠ .reforming ∨ e ≠ s.gepoch g.val) →
      ∃ u, exec (.resumeRx g e) s = .next u ∧ u = s.seen) ∧
    (∀ (p : Nat) (g : Fin 64) (e lost t : Nat) (a : Bool) (live : List Nat) (last : Option Nat) (i : Instr) (s : State),
        (i = .suspectRx p g e lost t ∨ i = .probeRx p g e a ∨ i = .reformRx p g e live last ∨ i = .reformAckRx p g e ∨ i = .resumeRx g e) →
      ∃ u, exec i s = .next u ∧
        (s.pwr.state = .midnight → u = s) ∧
        (s.pwr.state ≠ .midnight → s.asleep = true → u = (({ s with pwr := { s.pwr with wakeWork := s.pwr.wakeWork ++ [i] } } : State)).beginExit))

/-- O43. COLLECTIVE rows: the start of each, and a start on a dissolved slot. At a start that goes on and is judged to act, each COLLECTIVE row
(COLLECTIVE_ALL_REDUCE with OP 0 or an unused OP, REDUCE_SCATTER with 1, ALL_GATHER with 2, BROADCAST with 3, REDUCE with 4) enters the unit, last,
with the fields of its descriptor, phase announced and the slot's CSEQ, which steps by 1 modulo 2^32; while Night is pending it is marked as not
announced. On a DISSOLVED slot of its context, under its GEN and epoch, the descriptor ends GROUP_REFUSED with reason 10 and nothing enters the
unit. Every row leaves memory. (R381, R385, R387, R388, R415) -/
def Obligations.Collectives : Prop :=
  (∀ (c : CtxId) (d : Desc) (s s1 : State), s.startsColl c.val (fun op => op == 0 || decide (4 < op)) = .go d s1 → s1.judgeSlot c.val d (collSlot d) false = none →
      ∃ u, exec (.collectiveAllReduce c) s = .next u ∧
        u.mem = s.mem ∧ (u.group (collSlot d)).cseq = ((s1.group (collSlot d)).cseq + 1) % 2 ^ 32 ∧
        (s1.pwr.pendingReq ≠ 3 → u.col.colls = s1.col.colls ++ [s1.newColl c.val d]) ∧
        (s1.pwr.pendingReq = 3 → { s1.newColl c.val d with untold := true } ∈ u.col.colls)) ∧
    (∀ (c : CtxId) (d : Desc) (s s1 : State), s.startsColl c.val (fun op => op == 1) = .go d s1 → s1.judgeSlot c.val d (collSlot d) false = none →
      ∃ u, exec (.collectiveReduceScatter c) s = .next u ∧
        u.mem = s.mem ∧ (u.group (collSlot d)).cseq = ((s1.group (collSlot d)).cseq + 1) % 2 ^ 32 ∧
        (s1.pwr.pendingReq ≠ 3 → u.col.colls = s1.col.colls ++ [s1.newColl c.val d]) ∧
        (s1.pwr.pendingReq = 3 → { s1.newColl c.val d with untold := true } ∈ u.col.colls)) ∧
    (∀ (c : CtxId) (d : Desc) (s s1 : State), s.startsColl c.val (fun op => op == 2) = .go d s1 → s1.judgeSlot c.val d (collSlot d) false = none →
      ∃ u, exec (.collectiveAllGather c) s = .next u ∧
        u.mem = s.mem ∧ (u.group (collSlot d)).cseq = ((s1.group (collSlot d)).cseq + 1) % 2 ^ 32 ∧
        (s1.pwr.pendingReq ≠ 3 → u.col.colls = s1.col.colls ++ [s1.newColl c.val d]) ∧
        (s1.pwr.pendingReq = 3 → { s1.newColl c.val d with untold := true } ∈ u.col.colls)) ∧
    (∀ (c : CtxId) (d : Desc) (s s1 : State), s.startsColl c.val (fun op => op == 3) = .go d s1 → s1.judgeSlot c.val d (collSlot d) false = none →
      ∃ u, exec (.collectiveBroadcast c) s = .next u ∧
        u.mem = s.mem ∧ (u.group (collSlot d)).cseq = ((s1.group (collSlot d)).cseq + 1) % 2 ^ 32 ∧
        (s1.pwr.pendingReq ≠ 3 → u.col.colls = s1.col.colls ++ [s1.newColl c.val d]) ∧
        (s1.pwr.pendingReq = 3 → { s1.newColl c.val d with untold := true } ∈ u.col.colls)) ∧
    (∀ (c : CtxId) (d : Desc) (s s1 : State), s.startsColl c.val (fun op => op == 4) = .go d s1 → s1.judgeSlot c.val d (collSlot d) false = none →
      ∃ u, exec (.collectiveReduce c) s = .next u ∧
        u.mem = s.mem ∧ (u.group (collSlot d)).cseq = ((s1.group (collSlot d)).cseq + 1) % 2 ^ 32 ∧
        (s1.pwr.pendingReq ≠ 3 → u.col.colls = s1.col.colls ++ [s1.newColl c.val d]) ∧
        (s1.pwr.pendingReq = 3 → { s1.newColl c.val d with untold := true } ∈ u.col.colls)) ∧
    (∀ (c : CtxId) (d : Desc) (s s1 : State), s.startsColl c.val (fun op => op == 0 || decide (4 < op)) = .go d s1 → (s1.group (collSlot d)).state = .dissolved →
        (s1.group (collSlot d)).ctx = c.val → (s1.group (collSlot d)).gen = (s1.ctx c.val).gen → d.epoch = s1.gepoch (collSlot d) →
        s1.desc c.val d.idx = some d →
      ∃ u, exec (.collectiveAllReduce c) s = .next u ∧
        u.mem = s.mem ∧ u.outcome c.val d.idx = some (0x30, 10, d.epoch) ∧ u.col.colls = s1.col.colls) ∧
    (∀ (c : CtxId) (d : Desc) (s s1 : State), s.startsColl c.val (fun op => op == 1) = .go d s1 → (s1.group (collSlot d)).state = .dissolved →
        (s1.group (collSlot d)).ctx = c.val → (s1.group (collSlot d)).gen = (s1.ctx c.val).gen → d.epoch = s1.gepoch (collSlot d) →
        s1.desc c.val d.idx = some d →
      ∃ u, exec (.collectiveReduceScatter c) s = .next u ∧
        u.mem = s.mem ∧ u.outcome c.val d.idx = some (0x30, 10, d.epoch) ∧ u.col.colls = s1.col.colls) ∧
    (∀ (c : CtxId) (d : Desc) (s s1 : State), s.startsColl c.val (fun op => op == 2) = .go d s1 → (s1.group (collSlot d)).state = .dissolved →
        (s1.group (collSlot d)).ctx = c.val → (s1.group (collSlot d)).gen = (s1.ctx c.val).gen → d.epoch = s1.gepoch (collSlot d) →
        s1.desc c.val d.idx = some d →
      ∃ u, exec (.collectiveAllGather c) s = .next u ∧
        u.mem = s.mem ∧ u.outcome c.val d.idx = some (0x30, 10, d.epoch) ∧ u.col.colls = s1.col.colls) ∧
    (∀ (c : CtxId) (d : Desc) (s s1 : State), s.startsColl c.val (fun op => op == 3) = .go d s1 → (s1.group (collSlot d)).state = .dissolved →
        (s1.group (collSlot d)).ctx = c.val → (s1.group (collSlot d)).gen = (s1.ctx c.val).gen → d.epoch = s1.gepoch (collSlot d) →
        s1.desc c.val d.idx = some d →
      ∃ u, exec (.collectiveBroadcast c) s = .next u ∧
        u.mem = s.mem ∧ u.outcome c.val d.idx = some (0x30, 10, d.epoch) ∧ u.col.colls = s1.col.colls) ∧
    (∀ (c : CtxId) (d : Desc) (s s1 : State), s.startsColl c.val (fun op => op == 4) = .go d s1 → (s1.group (collSlot d)).state = .dissolved →
        (s1.group (collSlot d)).ctx = c.val → (s1.group (collSlot d)).gen = (s1.ctx c.val).gen → d.epoch = s1.gepoch (collSlot d) →
        s1.desc c.val d.idx = some d →
      ∃ u, exec (.collectiveReduce c) s = .next u ∧
        u.mem = s.mem ∧ u.outcome c.val d.idx = some (0x30, 10, d.epoch) ∧ u.col.colls = s1.col.colls)

/-- O44. ANNOUNCE at the leader, GO, REFUSE, staging and launch of a COLLECTIVE. Messages are shown outside Midnight, Dusk and Night. ANNOUNCE_RX at
the leader, from a live member of an alive slot under its epoch: the only entry of the table waits for the other live members; once all have
announced the entry leaves the table, and with no failing reason the CSEQ received GO, with one it did not; all leave memory; elsewhere, under
another epoch, or of a slot not alive, it is ignored. GO_RX of an announced COLLECTIVE under the slot's epoch ends it GROUP_REFUSED with reason 8
when its staging exceeds the reserve; with no other GO waiting, room, and a START Minute to come it reserves its staging. REFUSE_RX of one ends it
GROUP_REFUSED with its reason, which the slot keeps. Both leave memory, and of no such COLLECTIVE, or under another epoch, are ignored.
STAGING_RESERVED lets the only one waiting, with room and a START Minute to come, reserve, and leaves memory; with none waiting it changes nothing.
COLLECTIVE_LAUNCH in its turn starts a reserved BROADCAST in trees whose root is another member and whose START Minute has begun: it runs with its
data filled, nothing sent or received, and memory stays; out of turn it changes nothing. In Dusk and Night each message waits for the exit that it
begins; in Midnight it changes nothing. (R51, R388, R389, R390, R391) -/
def Obligations.CollectiveAgreement : Prop :=
  (∀ (p : Nat) (g : Fin 64) (e cseq : Nat) (a : Announce) (valid : Bool) (s : State), s.hears → (s.group g.val).alive = true → e = s.gepoch
        g.val → p ∈ (s.group g.val).live → (s.group g.val).leader 128 = some s.position → s.col.table = [] → (s.group g.val).live.any (fun q => decide (q ≠ p)) = true →
      ∃ u, exec (.announceRx p g e cseq a valid) s = .next u ∧
        u.col.table = [(g.val, cseq, [(p, a, valid)])] ∧ u.mem = s.mem) ∧
    (∀ (p : Nat) (g : Fin 64) (e cseq : Nat) (a : Announce) (valid : Bool) (old : List (Nat × Announce × Bool)) (s : State), s.hears → (s.group
        g.val).alive = true → e = s.gepoch g.val → p ∈ (s.group g.val).live → (s.group g.val).leader 128 = some s.position → s.col.table =
        [(g.val, cseq, old)] → (s.group g.val).live.all (fun q => decide (q = p) || old.any (fun x => decide (x.1 = q))) = true → s.leaderReason (s.group g.val) (old.filter (fun x =>
        decide (x.1 ≠ p)) ++ [(p, a, valid)]) = none →
      ∃ u, exec (.announceRx p g e cseq a valid) s = .next u ∧
        u.col.table = [] ∧ (u.group g.val).goMax = maxGo (s.group g.val).goMax cseq ∧ u.mem = s.mem) ∧
    (∀ (p : Nat) (g : Fin 64) (e cseq r : Nat) (a : Announce) (valid : Bool) (old : List (Nat × Announce × Bool)) (s : State), s.hears → (s.group
        g.val).alive = true → e = s.gepoch g.val → p ∈ (s.group g.val).live → (s.group g.val).leader 128 = some s.position → s.col.table =
        [(g.val, cseq, old)] → (s.group g.val).live.all (fun q => decide (q = p) || old.any (fun x => decide (x.1 = q))) = true → s.leaderReason (s.group g.val) (old.filter (fun x =>
        decide (x.1 ≠ p)) ++ [(p, a, valid)]) = some r →
      ∃ u, exec (.announceRx p g e cseq a valid) s = .next u ∧
        u.col.table = [] ∧ (u.group g.val).goMax = (s.group g.val).goMax ∧ u.mem = s.mem) ∧
    (∀ (g : Fin 64) (e cseq : Nat) (ring : Bool) (x : Coll) (d : Desc) (s : State), s.hears → s.coll g.val cseq = some x → x.phase = .announced →
        e = s.gepoch g.val → s.stageMib * 0x100000 < s.stagingFor x.spec → s.desc x.ctx x.idx = some d →
      ∃ u, exec (.goRx g e cseq ring) s = .next u ∧
        u.coll g.val cseq = none ∧ u.outcome x.ctx x.idx = some (0x30, 8, d.epoch) ∧ u.mem = s.mem) ∧
    (∀ (g : Fin 64) (e cseq m : Nat) (ring : Bool) (x : Coll) (d : Desc) (s : State), s.hears → s.coll g.val cseq = some x → x.phase = .announced
        → e = s.gepoch g.val → s.col.goOrder = [] → s.staged + s.stagingFor x.spec ≤ s.stageMib * 0x100000 → x.staged = 0 → s.desc x.ctx x.idx =
        some d → d.start = some m → s.absMin < m →
      ∃ u, exec (.goRx g e cseq ring) s = .next u ∧
        u.coll g.val cseq = some { x with phase := .reserved, ring := ring, staged := s.stagingFor x.spec } ∧ u.col.goOrder = [] ∧ u.mem = s.mem) ∧
    (∀ (g : Fin 64) (e cseq r : Nat) (x : Coll) (d : Desc) (s : State), s.hears → s.coll g.val cseq = some x → x.phase = .announced → e = s.gepoch
        g.val → s.desc x.ctx x.idx = some d → tabWf (fun _ => GroupSlot.reset) s.col.groups = true →
      ∃ u, exec (.refuseRx g e cseq r) s = .next u ∧
        u.coll g.val cseq = none ∧ u.outcome x.ctx x.idx = some (0x30, r, d.epoch) ∧ (u.group g.val).reason = r ∧ u.mem = s.mem) ∧
    (∀ (g cseq m : Nat) (x : Coll) (d : Desc) (s : State), s.col.goOrder = [(g, cseq)] → s.coll g cseq = some x → s.staged + s.stagingFor x.spec ≤
        s.stageMib * 0x100000 → s.desc x.ctx x.idx = some d → d.start = some m → s.absMin < m →
      ∃ u, exec (.stagingReserved) s = .next u ∧
        u.coll g cseq = some { x with phase := .reserved, staged := s.stagingFor x.spec } ∧ u.col.goOrder = [] ∧ u.mem = s.mem) ∧
    (∀ (g : Fin 64) (cseq : Nat) (x : Coll) (d : Desc) (s : State), s.turn (.launch g.val cseq) = true → s.coll g.val cseq = some x → x.phase =
        .reserved → s.desc x.ctx x.idx = some d → (d.start.all fun m => decide (m ≤ s.absMin)) = true → x.spec.op = 3 → x.spec.root ≠ s.position
        → x.ring = false → x.early = [] → 0 < x.treeChunks (s.group g.val).live.length →
      ∃ u, exec (.collectiveLaunch g cseq) s = .next u ∧
        u.mem = s.mem ∧ u.coll g.val cseq = some { x with phase := .running, buf := x.fill (s.group g.val) s.position [], last := s.absMin, stage := 0, got := [], partials := [], delivered := [], outq := [], sent := [] }) ∧
    (∀ (p : Nat) (g : Fin 64) (e cseq : Nat) (a : Announce) (valid : Bool) (s : State), s.hears → ((s.group g.val).alive = false ∨
        e ≠ s.gepoch g.val ∨ (s.group g.val).leader 128 ≠ some s.position) →
      ∃ u, exec (.announceRx p g e cseq a valid) s = .next u ∧ u = s.seen) ∧
    (∀ (g : Fin 64) (e cseq r : Nat) (ring : Bool) (i : Instr) (s : State), s.hears → (s.coll g.val cseq = none ∨ e ≠ s.gepoch g.val) →
        (i = .goRx g e cseq ring ∨ i = .refuseRx g e cseq r) →
      ∃ u, exec i s = .next u ∧ u = s.seen) ∧
    (∀ (s : State), s.col.goOrder = [] →
      ∃ u, exec (.stagingReserved) s = .next u ∧ u = s) ∧
    (∀ (g : Fin 64) (cseq : Nat) (s : State), s.turn (.launch g.val cseq) = false →
      ∃ u, exec (.collectiveLaunch g cseq) s = .next u ∧ u = s) ∧
    (∀ (p : Nat) (g : Fin 64) (e cseq r : Nat) (a : Announce) (valid ring : Bool) (i : Instr) (s : State),
        (i = .announceRx p g e cseq a valid ∨ i = .goRx g e cseq ring ∨ i = .refuseRx g e cseq r) →
      ∃ u, exec i s = .next u ∧
        (s.pwr.state = .midnight → u = s) ∧
        (s.pwr.state ≠ .midnight → s.asleep = true → u = ({ s with pwr := { s.pwr with wakeWork := s.pwr.wakeWork ++ [i] } }).beginExit))

/-- O45. Chunks of a COLLECTIVE, their acknowledgement, its lease and the fence of a reduction slice. Messages are shown outside Midnight, Dusk and
Night. COLLECTIVE_CHUNK_RX of an alive slot under its epoch: a chunk with a bad CRC is counted in COL_CNT_2 and changes nothing else in the unit;
the first good one before the launch waits; one taken before changes nothing in the unit; all leave memory; under another epoch, or of a slot not
alive, it is ignored. COLLECTIVE_ACK_RX for the only chunk out: a NACK, fewer than three before it, counts a resend, in COL_CNT_4 too; the fourth in
a row sets COL_EVT.LEASE_EXPIRED, counts COL_CNT_8 and begins the lease and the NACKs anew; the ACK of the last chunk of a tree of a full group, the
only COLLECTIVE, running, with its work done and nothing waiting, ends the descriptor OK with its resends, its algorithm and the member count; all
leave memory; for no COLLECTIVE, or under another epoch, it is ignored. COLLECTIVE_LEASE_EXPIRY in its turn, LEASE_MIN Minutes without progress of a
COLLECTIVE that holds staging, sets COL_EVT.LEASE_EXPIRED, counts COL_CNT_8, begins the lease anew and leaves memory; out of turn it changes
nothing. RESIDUE_MISMATCH of a position that holds a slice sets COL_EVT.SLICE_FENCED, counts COL_CNT_3 and leaves memory; of another it changes
nothing. In Dusk and Night each message waits for the exit that it begins; in Midnight it changes nothing. (R391, R392, R403, R413, R414, R416) -/
def Obligations.CollectiveChunks : Prop :=
  (∀ (p : Nat) (h : ChunkHead) (bs : List Byte) (crc : BitVec 32) (s : State), Inv s → s.hears → (s.group h.slot.val).alive = true → h.gepoch =
        s.gepoch h.slot.val → crc32c bs ≠ crc.toNat →
      ∃ u, exec (.collectiveChunkRx p h bs crc) s = .next u ∧
        u.col = s.col ∧ u.reg 0x70048 = BitVec.ofNat 32 (satAdd (2 ^ 32 - 1) (s.reg 0x70048).toNat 1) ∧ u.mem = s.mem) ∧
    (∀ (p : Nat) (h : ChunkHead) (bs : List Byte) (crc : BitVec 32) (x : Coll) (s : State), s.hears → (s.group h.slot.val).alive = true → h.gepoch
        = s.gepoch h.slot.val → crc32c bs = crc.toNat → s.coll h.slot.val h.cseq = some x → x.phase ≠ .running → x.early = [] →
      ∃ u, exec (.collectiveChunkRx p h bs crc) s = .next u ∧
        u.coll h.slot.val h.cseq = some { x with early := [⟨p, h.flags, h.step, h.chunk, bs⟩] } ∧ u.mem = s.mem) ∧
    (∀ (p : Nat) (h : ChunkHead) (bs : List Byte) (crc : BitVec 32) (x : Coll) (s : State), s.hears → (s.group h.slot.val).alive = true → h.gepoch
        = s.gepoch h.slot.val → crc32c bs = crc.toNat → s.coll h.slot.val h.cseq = some x → x.phase = .running → x.taken (s.group h.slot.val)
        s.position ⟨p, h.flags, h.step, h.chunk, bs⟩ = true →
      ∃ u, exec (.collectiveChunkRx p h bs crc) s = .next u ∧
        u.col = s.col ∧ u.mem = s.mem) ∧
    (∀ (p : Nat) (h : ChunkHead) (x : Coll) (a : ColSend) (s : State), Inv s → s.hears → h.gepoch = s.gepoch h.slot.val → s.coll h.slot.val h.cseq
        = some x → x.sent = [a] → a.dst = p → a.flags = h.flags → a.step = h.step → a.chunk = h.chunk → a.nacks < 3 →
      ∃ u, exec (.collectiveAckRx p h true) s = .next u ∧
        u.coll h.slot.val h.cseq = some { x with resent := x.resent + 1, sent := [{ a with nacks := a.nacks + 1 }] } ∧
        u.reg 0x70050 = BitVec.ofNat 32 (satAdd (2 ^ 32 - 1) (s.reg 0x70050).toNat 1) ∧ u.mem = s.mem) ∧
    (∀ (p : Nat) (h : ChunkHead) (x : Coll) (a : ColSend) (d : Desc) (s : State), s.hears → h.gepoch = s.gepoch h.slot.val → s.col.colls = [x] →
        x.slot = h.slot.val → x.cseq = h.cseq → x.sent = [a] → a.dst = p → a.flags = h.flags → a.step = h.step → a.chunk = h.chunk → x.phase =
        .running → x.ring = false → x.early = [] → x.outq = [] → x.workDone (s.group x.slot) s.position = true → (s.group x.slot).full = true →
        s.desc x.ctx x.idx = some d →
      ∃ u, exec (.collectiveAckRx p h false) s = .next u ∧
        u.col.colls = [] ∧ u.outcome x.ctx x.idx = some (d.okCode, x.resent % 2 ^ 32 * 2 ^ 32 + 2 * 2 ^ 24 + (s.group x.slot).live.length, d.epoch) ∧ u.mem = s.mem) ∧
    (∀ (g : Fin 64) (cseq : Nat) (x : Coll) (s : State), Inv s → s.turn (.collLease g.val cseq) = true → s.coll g.val cseq = some x → 0 < x.staged → x.last + s.colLease ≤ s.absMin →
      ∃ u, exec (.collectiveLeaseExpiry g cseq) s = .next u ∧
        u.coll g.val cseq = some { x with last := s.absMin } ∧ u.rbit 0x70008 1 = true ∧ u.reg 0x70060 = BitVec.ofNat 32 (satAdd (2 ^ 32 - 1) (s.reg 0x70060).toNat 1) ∧ u.mem = s.mem) ∧
    (∀ (n : Fin 8) (s : State), Inv s → s.sliceAt n.val ≠ 15 →
      ∃ u, exec (.residueMismatch n) s = .next u ∧
        u.rbit 0x70008 3 = true ∧ u.reg 0x7004C = BitVec.ofNat 32 (satAdd (2 ^ 32 - 1) (s.reg 0x7004C).toNat 1) ∧ u.mem = s.mem) ∧
    (∀ (p : Nat) (h : ChunkHead) (x : Coll) (a : ColSend) (s : State), Inv s → s.hears → h.gepoch = s.gepoch h.slot.val →
        s.coll h.slot.val h.cseq = some x → x.sent = [a] → a.dst = p → a.flags = h.flags → a.step = h.step → a.chunk = h.chunk → 3 ≤ a.nacks →
      ∃ u, exec (.collectiveAckRx p h true) s = .next u ∧
        u.coll h.slot.val h.cseq = some { x with last := s.absMin, sent := [{ a with nacks := 0 }] } ∧ u.rbit 0x70008 1 = true ∧
        u.reg 0x70060 = BitVec.ofNat 32 (satAdd (2 ^ 32 - 1) (s.reg 0x70060).toNat 1) ∧ u.mem = s.mem) ∧
    (∀ (p : Nat) (h : ChunkHead) (bs : List Byte) (crc : BitVec 32) (s : State), s.hears → ((s.group h.slot.val).alive = false ∨
        h.gepoch ≠ s.gepoch h.slot.val) →
      ∃ u, exec (.collectiveChunkRx p h bs crc) s = .next u ∧ u = s.seen) ∧
    (∀ (p : Nat) (h : ChunkHead) (nack : Bool) (s : State), s.hears → (s.coll h.slot.val h.cseq = none ∨ h.gepoch ≠ s.gepoch h.slot.val) →
      ∃ u, exec (.collectiveAckRx p h nack) s = .next u ∧ u = s.seen) ∧
    (∀ (g : Fin 64) (cseq : Nat) (s : State), s.turn (.collLease g.val cseq) = false →
      ∃ u, exec (.collectiveLeaseExpiry g cseq) s = .next u ∧ u = s) ∧
    (∀ (n : Fin 8) (s : State), s.sliceAt n.val = 15 →
      ∃ u, exec (.residueMismatch n) s = .next u ∧ u = s) ∧
    (∀ (p : Nat) (h : ChunkHead) (bs : List Byte) (crc : BitVec 32) (nack : Bool) (i : Instr) (s : State),
        (i = .collectiveChunkRx p h bs crc ∨ i = .collectiveAckRx p h nack) →
      ∃ u, exec i s = .next u ∧
        (s.pwr.state = .midnight → u = s) ∧
        (s.pwr.state ≠ .midnight → s.asleep = true → u = ({ s with pwr := { s.pwr with wakeWork := s.pwr.wakeWork ++ [i] } }).beginExit))

/-- O46. DAWN rows, and the slots, acknowledgements and resends of the Dawn path. A DAWN whose start goes on, on a slot that judges it to act and
has every member, with nothing of it here yet, steps DSEQ. DAWN_ALL_REDUCE (OP 0 or the unused 3) whose source reads, with other members on an axis,
waits with its value; alone, it writes its value, to the host under the context's PASID when DST is there and the link is up, else to device memory,
and ends OK. DAWN_BROADCAST waits for the value of another member that is the root; at the root, with its source read and DST at the host, it sends
its bytes there and ends OK; alone, with DST in the package, it writes them and ends OK. DAWN_BARRIER waits for the others, and alone ends OK. But
for a device DST memory stays. DAWN_SLOT_RX, outside Midnight, of a good VALUE slot of 16 bytes for an alive slot under its epoch: a port that
carries Dawn slots acknowledges it; a copy changes nothing else; one that is no copy, of no DAWN here, is stored; the value of the only other member
of the only axis ends a BARRIER here OK. Any other slot is dropped. DAWN_ACK_RX, outside Midnight, of a good ACK slot of 16 bytes gives up the
port's copies of its value and leaves other ports' queues; any other is dropped. Acknowledgements and storing leave memory. DAWN_RESEND_TIMER for
the one slot out on a port that carries Dawn: within 300 ns of its sending nothing is sent; from then on it goes again, counted in COL_CNT_6; memory
stays. With no slot on the port, or no Dawn there, only time passes. (R397, R398, R399, R400, R401) -/
def Obligations.DawnPath : Prop :=
  (∀ (c : CtxId) (data : HostData) (d0 d : Desc) (bs : List Byte) (s s1 : State), s.nextDesc c.val = some d0 → (s.asked c.val d0.idx).startsDawn
        c.val (fun op => op == 0 || op == 3) = .go d s1 → s1.dawnClear c.val d → s1.dawnSource c.val d data = some (.ok bs) → dawnAxes (s1.group
        (dawnGroup d)) s1.position ≠ [] →
      ∃ u, exec (.dawnAllReduce c data) s = .next u ∧
        u.mem = s.mem ∧ u.col.dawns = s1.col.dawns ++ [s1.newDawn c.val d (some bs)] ∧ (u.group (dawnGroup d)).dseq = ((s1.group (dawnGroup d)).dseq + 1) % 256) ∧
    (∀ (c : CtxId) (data : HostData) (d0 d : Desc) (bs : List Byte) (s s1 : State), s.nextDesc c.val = some d0 → (s.asked c.val d0.idx).startsDawn
        c.val (fun op => op == 0 || op == 3) = .go d s1 → s1.dawnClear c.val d → s1.dawnSource c.val d data = some (.ok bs) → dawnAxes (s1.group
        (dawnGroup d)) s1.position = [] → dbit d.words 4 40 = true → s1.host.linkUp = true → s1.desc c.val d.idx = some d →
      ∃ u, exec (.dawnAllReduce c data) s = .next u ∧
        u.mem = s.mem ∧ u.col.dawns = s1.col.dawns ∧ .hostWrite (s1.pasid c.val) false (dword d.words 3) bs ∈ u.sent ∧
        (u.group (dawnGroup d)).dseq = ((s1.group (dawnGroup d)).dseq + 1) % 256 ∧
        ((u.outcome c.val d.idx).map fun o => (o.1, o.2.2)) = some (d.okCode, d.epoch)) ∧
    (∀ (c : CtxId) (data : HostData) (d0 d : Desc) (bs : List Byte) (i : Instr) (s s1 s2 : State), s.nextDesc c.val = some d0 →
        ((i = .dawnAllReduce c data ∧ (s.asked c.val d0.idx).startsDawn c.val (fun op => op == 0 || op == 3) = .go d s1) ∨
          (i = .dawnBroadcast c data ∧ (s.asked c.val d0.idx).startsDawn c.val (fun op => op == 1) = .go d s1 ∧
            dfld d.words 4 32 7 ∈ (s1.group (dawnGroup d)).live ∧ dfld d.words 4 32 7 = s1.position)) →
        s1.dawnClear c.val d → s1.dawnSource c.val d data = some (.ok bs) → dawnAxes (s1.group
        (dawnGroup d)) s1.position = [] → dbit d.words 4 40 = false → (s1.dawnTaken c.val d).vwrite 0 c.val (dword d.words 3) bs = (s2, none) → s2.lnk.need = none →
        s2.desc c.val d.idx = some d →
      ∃ u, exec i s = .next u ∧
        u.mem = s2.mem ∧ u.col.dawns = s1.col.dawns ∧ (u.group (dawnGroup d)).dseq = ((s1.group (dawnGroup d)).dseq + 1) % 256 ∧
        ((u.outcome c.val d.idx).map fun o => (o.1, o.2.2)) = some (d.okCode, d.epoch)) ∧
    (∀ (c : CtxId) (data : HostData) (d0 d : Desc) (s s1 : State), s.nextDesc c.val = some d0 → (s.asked c.val d0.idx).startsDawn c.val (fun op =>
        op == 1) = .go d s1 → s1.dawnClear c.val d → dfld d.words 4 32 7 ∈ (s1.group (dawnGroup d)).live → dfld d.words 4 32 7 ≠ s1.position →
      ∃ u, exec (.dawnBroadcast c data) s = .next u ∧
        u.mem = s.mem ∧ u.col.dawns = s1.col.dawns ++ [s1.newDawn c.val d none] ∧ (u.group (dawnGroup d)).dseq = ((s1.group (dawnGroup d)).dseq + 1) % 256) ∧
    (∀ (c : CtxId) (data : HostData) (d0 d : Desc) (bs : List Byte) (s s1 : State), s.nextDesc c.val = some d0 → (s.asked c.val d0.idx).startsDawn
        c.val (fun op => op == 1) = .go d s1 → s1.dawnClear c.val d → dfld d.words 4 32 7 ∈ (s1.group (dawnGroup d)).live → dfld d.words 4 32 7 =
        s1.position → s1.dawnSource c.val d data = some (.ok bs) → dbit d.words 4 40 = true → s1.host.linkUp = true → s1.desc c.val d.idx = some
        d →
      ∃ u, exec (.dawnBroadcast c data) s = .next u ∧
        u.mem = s.mem ∧ u.col.dawns = s1.col.dawns ∧ .hostWrite (s1.pasid c.val) false (dword d.words 3) bs ∈ u.sent ∧
        (u.group (dawnGroup d)).dseq = ((s1.group (dawnGroup d)).dseq + 1) % 256 ∧
        ((u.outcome c.val d.idx).map fun o => (o.1, o.2.2)) = some (d.okCode, d.epoch)) ∧
    (∀ (c : CtxId) (d0 d : Desc) (s s1 : State), s.nextDesc c.val = some d0 → (s.asked c.val d0.idx).startsDawn c.val (fun op => op == 2) = .go d
        s1 → s1.dawnClear c.val d → s1.desc c.val d.idx = some d →
      ∃ u, exec (.dawnBarrier c) s = .next u ∧
        u.mem = s.mem ∧ (u.group (dawnGroup d)).dseq = ((s1.group (dawnGroup d)).dseq + 1) % 256 ∧
        (dawnAxes (s1.group (dawnGroup d)) s1.position ≠ [] → u.col.dawns = s1.col.dawns ++ [s1.newDawn c.val d (some [])]) ∧
        (dawnAxes (s1.group (dawnGroup d)) s1.position = [] → u.col.dawns = s1.col.dawns ∧ ((u.outcome c.val d.idx).map fun o => (o.1, o.2.2)) = some (d.okCode, d.epoch))) ∧
    (∀ (p : TorusPort) (slot : List Byte) (t : Nat) (s : State), s.pwr.state ≠ .midnight → slot.length = 16 → dawnOk (leNat slot) = true → bitsOf
        (leNat slot) 110 2 = 1 → (s.group (bitsOf (leNat slot) 104 6)).alive = true → bitsOf (leNat slot) 100 4 = s.gepoch (bitsOf (leNat slot)
        104 6) % 16 → s.dawnCopy (s.group (bitsOf (leNat slot) 104 6)) (p.val / 2) (leNat slot) = true →
      ∃ u, exec (.dawnSlotRx p slot t) s = .next u ∧
        u = if s.dawnPort p.val = true then (s.reachClk t).sendSlot p.val (ackSlot (leNat slot)) else s.reachClk t) ∧
    (∀ (p : TorusPort) (slot : List Byte) (t : Nat) (s : State), s.pwr.state ≠ .midnight → slot.length = 16 → dawnOk (leNat slot) = true → bitsOf
        (leNat slot) 110 2 = 1 → (s.group (bitsOf (leNat slot) 104 6)).alive = true → bitsOf (leNat slot) 100 4 = s.gepoch (bitsOf (leNat slot)
        104 6) % 16 → s.dawnCopy (s.group (bitsOf (leNat slot) 104 6)) (p.val / 2) (leNat slot) = false →
        s.col.dawns.all (fun x => decide (x.slot ≠ bitsOf (leNat slot) 104 6 ∨ x.dseq ≠ bitsOf (leNat slot) 92 8)) = true →
      ∃ u, exec (.dawnSlotRx p slot t) s = .next u ∧
        (s.dawnPort p.val = true → .flit p.val none 0 (putFlit 0 (0, false, 0) (0, 0) 0 (ackSlot (leNat slot)) []) ∈ u.sent) ∧ u.mem = s.mem ∧ u.col.dawns = s.col.dawns ∧
        ∃ y ∈ u.col.values, y.slot = bitsOf (leNat slot) 104 6 ∧ y.dseq = bitsOf (leNat slot) 92 8 ∧ y.axis = p.val / 2 ∧ y.origin = bitsOf (leNat slot) 85 7 ∧
        (bitsOf (leNat slot) 82 3, bitsOf (leNat slot) 0 64) ∈ y.parts) ∧
    (∀ (p : TorusPort) (slot : List Byte) (t : Nat) (d : DawnOp) (y : Desc) (s : State), s.pwr.state ≠ .midnight → slot.length = 16 → dawnOk (leNat slot) = true → bitsOf
        (leNat slot) 110 2 = 1 → (s.group d.slot).alive = true → (s.group d.slot).full = true → bitsOf (leNat slot) 100 4 = s.gepoch d.slot % 16 →
        s.col.dawns = [d] → s.col.values = [] → d.op = 2 → d.phase = 0 → bitsOf (leNat slot) 104 6 = d.slot → bitsOf (leNat slot) 92 8 = d.dseq →
        bitsOf (leNat slot) 82 3 = 0 → bitAt (leNat slot) 81 = true → bitsOf (leNat slot) 79 2 = 2 → bitsOf (leNat slot) 77 2 = d.red →
        bitsOf (leNat slot) 75 2 = d.dtype → bitsOf (leNat slot) 68 7 = d.nbytes → dawnAxes (s.group d.slot) s.position = [p.val / 2] →
        (lineOf (s.group d.slot).live (p.val / 2) s.position).all (fun q => decide (q = s.position ∨ q = bitsOf (leNat slot) 85 7)) = true →
        s.desc d.ctx d.idx = some y →
      ∃ u, exec (.dawnSlotRx p slot t) s = .next u ∧
        (s.dawnPort p.val = true → .flit p.val none 0 (putFlit 0 (0, false, 0) (0, 0) 0 (ackSlot (leNat slot)) []) ∈ u.sent) ∧ u.mem = s.mem ∧ u.col.dawns = [] ∧
        ((u.outcome d.ctx d.idx).map fun o => (o.1, o.2.2)) = some (y.okCode, y.epoch)) ∧
    (∀ (p : TorusPort) (slot : List Byte) (t : Nat) (s : State), (s.pwr.state = .midnight ∨ slot.length ≠ 16 ∨ dawnOk (leNat slot) = false ∨ bitsOf
        (leNat slot) 110 2 ≠ 1 ∨ (s.group (bitsOf (leNat slot) 104 6)).alive = false ∨ bitsOf (leNat slot) 100 4 ≠ s.gepoch (bitsOf (leNat slot) 104 6) % 16) →
      ∃ u, exec (.dawnSlotRx p slot t) s = .next u ∧
        u = s.reachClk t) ∧
    (∀ (p : TorusPort) (slot : List Byte) (s : State), s.pwr.state ≠ .midnight → slot.length = 16 → dawnOk (leNat slot) = true → bitsOf (leNat
        slot) 110 2 = 2 →
      ∃ u, exec (.dawnAckRx p slot) s = .next u ∧
        u.mem = s.mem ∧ (u.col.sendq.filter fun e => decide (e.1 = p.val ∧ slotKey e.2.1 = slotKey (leNat slot))) = [] ∧
        (u.col.sendq.filter fun e => decide (e.1 ≠ p.val)) = (s.col.sendq.filter fun e => decide (e.1 ≠ p.val))) ∧
    (∀ (p : TorusPort) (slot : List Byte) (s : State), (s.pwr.state = .midnight ∨ slot.length ≠ 16 ∨ dawnOk (leNat slot) = false ∨ bitsOf (leNat
        slot) 110 2 ≠ 2) →
      ∃ u, exec (.dawnAckRx p slot) s = .next u ∧ u = s) ∧
    (∀ (p : TorusPort) (v t t0 : Nat) (s : State), Inv s → s.dawnPort p.val = true → s.col.sendq = [(p.val, v, some t0)] →
      ∃ u, exec (.dawnResendTimer p t) s = .next u ∧
        u.mem = s.mem ∧ (max s.clk t < t0 + 300 → u.col.sendq = s.col.sendq ∧ u.sent = s.sent) ∧
        (t0 + 300 ≤ max s.clk t → u.col.sendq = [(p.val, v, some (max s.clk t))] ∧ u.sent = .flit p.val none 0 (putFlit 0 (0, false, 0) (0, 0) 0 v []) :: s.sent ∧
        u.reg 0x70058 = BitVec.ofNat 32 (satAdd (2 ^ 32 - 1) (s.reg 0x70058).toNat 1))) ∧
    (∀ (p : TorusPort) (t : Nat) (s : State), (s.dawnPort p.val = false ∨ s.col.sendq.all (fun e => decide (e.1 ≠ p.val)) = true) →
      ∃ u, exec (.dawnResendTimer p t) s = .next u ∧ u = s.reachClk t)

/-- O47. SSTAT frames and their loss, rail sags, ride-through, temperatures and the thermal trip. SSTAT_FRAME_RX outside Midnight: a valid frame is
taken; fewer shelves on line than present set PWR_EVT bit 7, and with SSTAT_EN a sag flag puts the package in ride-through; an invalid one changes
no power state, is counted and sets bit 4. SSTAT_LOSS outside Midnight while SSTAT is present: from 1 ms after the last valid frame it is lost, bit
3 is set and the loss counted; before, only time passes; as it does in Midnight, and for a loss with no SSTAT present. RAIL_SAG and RAIL_SAG_END
outside Midnight take the reading: a plausible one below the margin is the rail's sag and puts the package in ride-through; any other ends the one
indication there was, and the whole Minutes without one count from now, or from the next; where no indication was it changes nothing but the
readings. RIDE_THROUGH_END ends ride-through once it has no indication for RIDE_HOLD whole Minutes and no Hour accounting is due; else it changes
nothing. TEMPERATURE_SAMPLE outside Midnight with no sensor tripping keeps both readings; sensors that disagree or are faulty set bit 5, and a heat
percentage that falls below 100 sets bit 2. A sensor at 115 degrees or more, here or in THERMAL_TRIP, puts the package in Midnight with THERM_TRIP_N
low and memory lost; THERMAL_TRIP below that changes nothing. In Midnight both keep their readings, and a sample that lets an exit asked for begin
puts the package in Noon. HBM_TEMPERATURE_REPORT outside Midnight says whether the stack stands at 85 degrees or more. Unless said, memory stays. In
Midnight frames, rails and stacks change nothing but the time. (R419, R420, R421, R430, R431, R440, R441, R443, R557, R564) -/
def Obligations.SupplyAndHeatMonitors : Prop :=
  (∀ (f : List Byte) (t : Nat) (s : State), Inv s → s.pwr.state ≠ .midnight → sstatValid f = true →
      ∃ u, exec (.sstatFrameRx f t) s = .next u ∧
        u.pwr.sstat = sstatWord f ∧ u.pwr.sstatOk = true ∧ u.pwr.sstatAt = max s.clk t ∧ u.mem = s.mem ∧
        (bitsOf (sstatWord f) 12 4 < bitsOf (sstatWord f) 8 4 → u.rbit 0xD0014 7 = true) ∧
        (s.rbit 0xD0000 0 = true → bitsOf (sstatWord f) 0 3 ≠ 0 → u.pwr.ride = true)) ∧
    (∀ (f : List Byte) (t : Nat) (s : State), Inv s → s.pwr.state ≠ .midnight → sstatValid f = false →
      ∃ u, exec (.sstatFrameRx f t) s = .next u ∧
        u.pwr = s.pwr ∧ u.reg 0x20194 = BitVec.ofNat 32 (satAdd (2 ^ 32 - 1) (s.reg 0x20194).toNat 1) ∧ u.rbit 0xD0014 4 = true ∧ u.mem = s.mem) ∧
    (∀ (t : Nat) (s : State), Inv s → s.pwr.state ≠ .midnight → s.pwr.sstatOk = true →
      ∃ u, exec (.sstatLoss t) s = .next u ∧
        u.mem = s.mem ∧ (max s.clk t < s.pwr.sstatAt + 1000000 → u = s.reachClk t) ∧
        (s.pwr.sstatAt + 1000000 ≤ max s.clk t → u.pwr.sstatOk = false ∧ u.rbit 0xD0014 3 = true ∧ u.reg 0x20198 = BitVec.ofNat 32 (satAdd (2 ^ 32 - 1) (s.reg 0x20198).toNat 1))) ∧
    (∀ (f : List Byte) (t : Nat) (i : Instr) (s : State), ((s.pwr.state = .midnight ∧ (i = .sstatFrameRx f t ∨ i = .sstatLoss t)) ∨
        (s.pwr.sstatOk = false ∧ i = .sstatLoss t)) →
      ∃ u, exec i s = .next u ∧ u = s.reachClk t) ∧
    (∀ (m : Fin 10) (nominal mv : Nat) (plausible : Bool) (i : Instr) (s : State), s.pwr.state ≠ .midnight → plausible = true → s.sagOf nominal mv ≠ 0 →
        (i = .railSag m nominal mv plausible ∨ i = .railSagEnd m nominal mv plausible) →
      ∃ u, exec i s = .next u ∧
        u.pwr.ride = true ∧ tabGet (fun _ => 0) u.pwr.sag m.val = s.sagOf nominal mv ∧
        u.pwr.railMv = tabSet (fun _ => 0) s.pwr.railMv m.val (mv % 65536) ∧ u.mem = s.mem) ∧
    (∀ (m : Fin 10) (nominal mv k : Nat) (plausible : Bool) (i : Instr) (s : State), s.pwr.state ≠ .midnight → s.pwr.sag = [(m.val, k)] →
        (s.rbit 0xD0000 0 && s.pwr.sstatOk && decide (bitsOf s.pwr.sstat 0 3 ≠ 0)) = false →
        (plausible = false ∨ s.sagOf nominal mv = 0) → (i = .railSag m nominal mv plausible ∨ i = .railSagEnd m nominal mv plausible) →
      ∃ u, exec i s = .next u ∧
        u.pwr.sag = [] ∧ u.pwr.rideClearFrom = (if s.tick = 0 then s.absMin else s.absMin + 1) ∧ u.pwr.ride = s.pwr.ride ∧
        u.pwr.railMv = tabSet (fun _ => 0) s.pwr.railMv m.val (mv % 65536) ∧ u.mem = s.mem) ∧
    (∀ (m : Fin 10) (nominal mv : Nat) (plausible : Bool) (i : Instr) (s : State), s.pwr.state ≠ .midnight → s.sagNow = false →
        (plausible = false ∨ s.sagOf nominal mv = 0) → (i = .railSag m nominal mv plausible ∨ i = .railSagEnd m nominal mv plausible) →
      ∃ u, exec i s = .next u ∧
        u.pwr.railMv = tabSet (fun _ => 0) s.pwr.railMv m.val (mv % 65536) ∧ u.pwr.sag = [] ∧ u.pwr.ride = s.pwr.ride ∧ { u with pwr := s.pwr } = s) ∧
    (∀ (m : Fin 10) (nominal mv : Nat) (plausible : Bool) (n : Fin 8) (c : Nat) (i : Instr) (s : State), s.pwr.state = .midnight →
        (i = .railSag m nominal mv plausible ∨ i = .railSagEnd m nominal mv plausible ∨ i = .hbmTemperatureReport n c) →
      ∃ u, exec i s = .next u ∧ u = s) ∧
    (∀ (s : State), s.pwr.ride = true → s.sagNow = false → s.pwr.rideClearFrom + s.rideHold ≤ s.absMin → s.day.due.contains .hourAccounting = false →
      ∃ u, exec (.rideThroughEnd) s = .next u ∧ u.pwr.ride = false ∧ u.mem = s.mem) ∧
    (∀ (s : State), (s.pwr.ride = false ∨ s.sagNow = true ∨ s.absMin < s.pwr.rideClearFrom + s.rideHold ∨ s.day.due.contains .hourAccounting = true) →
      ∃ u, exec (.rideThroughEnd) s = .next u ∧ u = s) ∧
    (∀ (d : Fin 5) (a b : Nat) (s : State), Inv s → s.pwr.state ≠ .midnight → sensorTrips (a % 256) = false → sensorTrips (b % 256) = false →
      ∃ u, exec (.temperatureSample d a b) s = .next u ∧
        u.pwr.tempA = tabSet (fun _ => 0) s.pwr.tempA d.val (a % 256) ∧ u.pwr.tempB = tabSet (fun _ => 0) s.pwr.tempB d.val (b % 256) ∧
        (sensorsBad (a % 256) (b % 256) = true → u.rbit 0xD0014 5 = true) ∧
        (s.heatPct = 100 → (s.setTemps d.val (a % 256) (b % 256)).heatPct < 100 → u.rbit 0xD0014 2 = true) ∧ u.mem = s.mem) ∧
    (∀ (d : Fin 5) (a b : Nat) (s : State), s.pwr.state ≠ .midnight → (sensorTrips (a % 256) = true ∨ sensorTrips (b % 256) = true) →
      ∃ u, exec (.temperatureSample d a b) s = .next u ∧
        u.pwr.state = .midnight ∧ u.pwr.tripped = true ∧ u.pwr.tripLow = true ∧ u.mem = []) ∧
    (∀ (d : Fin 5) (a b : Nat) (s : State), s.pwr.state = .midnight →
      ∃ u, exec (.temperatureSample d a b) s = .next u ∧
        (s.pwr.exitAsked = true → (s.setTemps d.val (a % 256) (b % 256)).mayLeaveMidnight = true → u.pwr.state = .noon ∧ u.pwr.tripLow = false ∧ u.mem = s.mem) ∧
        ((s.pwr.exitAsked = false ∨ (s.setTemps d.val (a % 256) (b % 256)).mayLeaveMidnight = false) → u = s.setTemps d.val (a % 256) (b % 256))) ∧
    (∀ (d : Fin 5) (b : Bool) (c : Nat) (s : State), s.pwr.state ≠ .midnight → sensorTrips (c % 256) = true →
      ∃ u, exec (.thermalTrip d b c) s = .next u ∧
        u.pwr.state = .midnight ∧ u.pwr.tripped = true ∧ u.pwr.tripLow = true ∧ u.boot.done = false ∧ u.mem = []) ∧
    (∀ (d : Fin 5) (b : Bool) (c : Nat) (s : State), s.pwr.state = .midnight → sensorTrips (c % 256) = true →
      ∃ u, exec (.thermalTrip d b c) s = .next u ∧
        u = s.setTemps d.val (if b = true then tabGet (fun _ => 0) s.pwr.tempA d.val else c % 256)
          (if b = true then c % 256 else tabGet (fun _ => 0) s.pwr.tempB d.val)) ∧
    (∀ (d : Fin 5) (b : Bool) (c : Nat) (s : State), sensorTrips (c % 256) = false →
      ∃ u, exec (.thermalTrip d b c) s = .next u ∧ u = s) ∧
    (∀ (n : Fin 8) (c : Nat) (s : State), s.pwr.state ≠ .midnight → tabWf (fun _ => false) s.pwr.hbmHot = true →
      ∃ u, exec (.hbmTemperatureReport n c) s = .next u ∧
        tabGet (fun _ => false) u.pwr.hbmHot n.val = decide (85 ≤ c) ∧ { u.pwr with hbmHot := s.pwr.hbmHot } = s.pwr ∧ u.mem = s.mem)

/-- O48. Hour accounting, and load steps armed and taken. HOUR_ACCOUNTING, in its turn, with the Ledger running, makes the settings take effect,
puts the energy measured and charged in the Hour that ended and its length in LDG_MEAS, LDG_LAST_C and LDG_LAST_T, sets the allowance A by R424 from
them, the unattributed energy as the larger of measured less charged and BASE, the work allowance as what A leaves of it, and carries the debt; with
no measured Hour before, or a state error, the Hour measures BASE, charges nothing and has this Hour's length. It counts the Hour, starts the next,
is due no more and leaves memory; out of turn it changes nothing. LOAD_STEP_ARM that reaches its register: a disarmed entry written with ARM and a
stamp whose MINUTE is at most 1439 keeps that Minute and whether it has begun; with a MINUTE above 1439 it is refused as locked; without ARM it is
only written; an armed entry written with another UJ is refused as locked; with the same UJ it stays, or without ARM is disarmed. Memory stays. A
host write that is not served changes nothing, and during a warm reset any is refused as locked. LOAD_STEP in its turn: the UJ of an armed entry
becomes LDG_ALLOW, the entry is disarmed, LDG_EVT.STEPPED is set, and LATE for one whose Minute had begun; memory stays; one disarmed since is only
due no more; out of turn nothing changes. (R424, R428, R429, R441, R51, R569) -/
def Obligations.HoursAndLoadSteps : Prop :=
  (∀ (m : Nat) (s : State), Inv s → s.turn .hourAccounting = true → s.pwr.ledger.running = true → s.pwr.ledger.measured = true →
        s.pwr.ledger.stateErr = false →
      ∃ u, exec (.hourAccounting m) s = .next u ∧
        u.reg 0x20020 = BitVec.ofNat 32 m ∧ u.reg 0x20024 = BitVec.ofNat 32 s.pwr.ledger.charged ∧ u.reg 0x20028 = BitVec.ofNat 32 s.pwr.ledger.hourLen ∧
        u.reg 0x20014 = BitVec.ofNat 32 (s.settledNow.allowanceA (s.fld 0x20004 0 24) (s.localMinute / 60) s.hourTicks m s.pwr.ledger.hourLen) ∧
        u.pwr.ledger.unattr = max (m - s.pwr.ledger.charged) (min 1050 (s.fld 0x20010 0 11) * s.hourTicks / 1000) ∧
        u.pwr.ledger.whole = s.settledNow.allowanceA (s.fld 0x20004 0 24) (s.localMinute / 60) s.hourTicks m s.pwr.ledger.hourLen - u.pwr.ledger.unattr ∧
        u.pwr.ledger.debtAtAcct = (s.reg 0x2001C).toNat ∧
        u.reg 0x20180 = BitVec.ofNat 32 (satAdd (2 ^ 32 - 1) (s.reg 0x20180).toNat 1) ∧ u.pwr.ledger.hourLen = s.hourTicks ∧ u.pwr.ledger.hourStart = s.clk ∧
        ¬ Due.hourAccounting ∈ u.day.due ∧ u.mem = s.mem) ∧
    (∀ (m b : Nat) (s : State), Inv s → s.turn .hourAccounting = true → s.pwr.ledger.running = true → (s.pwr.ledger.measured = false ∨
        s.pwr.ledger.stateErr = true) → b = min 1050 (s.fld 0x20010 0 11) * s.hourTicks / 1000 →
      ∃ u, exec (.hourAccounting m) s = .next u ∧
        u.reg 0x20020 = BitVec.ofNat 32 b ∧ u.reg 0x20024 = 0 ∧ u.reg 0x20028 = BitVec.ofNat 32 s.hourTicks ∧
        u.reg 0x20014 = BitVec.ofNat 32 (s.settledNow.allowanceA (s.fld 0x20004 0 24) (s.localMinute / 60) s.hourTicks b s.hourTicks) ∧
        u.pwr.ledger.unattr = b ∧ u.pwr.ledger.whole = s.settledNow.allowanceA (s.fld 0x20004 0 24) (s.localMinute / 60) s.hourTicks b s.hourTicks - b ∧
        u.pwr.ledger.debtAtAcct = (s.reg 0x2001C).toNat ∧
        u.reg 0x20180 = BitVec.ofNat 32 (satAdd (2 ^ 32 - 1) (s.reg 0x20180).toNat 1) ∧ u.pwr.ledger.hourLen = s.hourTicks ∧ u.pwr.ledger.hourStart = s.clk ∧
        ¬ Due.hourAccounting ∈ u.day.due ∧ u.mem = s.mem) ∧
    (∀ (m : Nat) (s : State), s.turn .hourAccounting = false →
      ∃ u, exec (.hourAccounting m) s = .next u ∧ u = s) ∧
    (∀ (i : Fin 4) (v : Word) (who : Reader) (s : State), Inv s → (who = .mgmt ∨ s.barServed = true) → s.boot.warm = false →
        s.rbit (0x200C8 + 0x10 * i.val) 31 = false → bitAt v.toNat 31 = true → bitsOf (s.stepStamp i.val) 48 11 ≤ 1439 →
      ∃ u, exec (.loadStepArm i v who) s = .next u ∧
        u.reg (0x200C8 + 0x10 * i.val) = v &&& 0x80FFFFFF ∧
        tabGet (fun _ => none) u.pwr.ledger.steps i.val =
        some (stampMin s.day.hourOfs (s.stepStamp i.val), decide (stampMin s.day.hourOfs (s.stepStamp i.val) ≤ s.absMin)) ∧ u.mem = s.mem) ∧
    (∀ (i : Fin 4) (v : Word) (who : Reader) (s : State), (who = .mgmt ∨ s.barServed = true) → s.boot.warm = false →
        ((s.rbit (0x200C8 + 0x10 * i.val) 31 = false ∧ bitAt v.toNat 31 = true ∧ 1439 < bitsOf (s.stepStamp i.val) 48 11) ∨
          (s.rbit (0x200C8 + 0x10 * i.val) 31 = true ∧ wfld (v &&& 0x80FFFFFF) 0 24 ≠ s.fld (0x200C8 + 0x10 * i.val) 0 24)) →
      ∃ u, exec (.loadStepArm i v who) s = .next u ∧ u = (s.dropLatches (0x200C8 + 0x10 * i.val)).locked (0x200C8 + 0x10 * i.val) who) ∧
    (∀ (i : Fin 4) (v : Word) (who : Reader) (s : State), (who = .mgmt ∨ s.barServed = true) → s.boot.warm = false →
        s.rbit (0x200C8 + 0x10 * i.val) 31 = true → wfld (v &&& 0x80FFFFFF) 0 24 = s.fld (0x200C8 + 0x10 * i.val) 0 24 → bitAt v.toNat 31 = true →
      ∃ u, exec (.loadStepArm i v who) s = .next u ∧ u = s.dropLatches (0x200C8 + 0x10 * i.val)) ∧
    (∀ (i : Fin 4) (v : Word) (who : Reader) (s : State), Inv s → tabWf (fun _ => none) s.pwr.ledger.steps = true → (who = .mgmt ∨ s.barServed = true) →
        s.boot.warm = false → (s.rbit (0x200C8 + 0x10 * i.val) 31 = false ∨ wfld (v &&& 0x80FFFFFF) 0 24 = s.fld (0x200C8 + 0x10 * i.val) 0 24) →
        bitAt v.toNat 31 = false →
      ∃ u, exec (.loadStepArm i v who) s = .next u ∧
        u.reg (0x200C8 + 0x10 * i.val) = v &&& 0x80FFFFFF ∧ tabGet (fun _ => none) u.pwr.ledger.steps i.val = none ∧ u.mem = s.mem) ∧
    (∀ (i : Fin 4) (v : Word) (s : State), s.barServed = false →
      ∃ u, exec (.loadStepArm i v .host) s = .next u ∧ u = s) ∧
    (∀ (i : Fin 4) (v : Word) (who : Reader) (s : State), (who = .mgmt ∨ s.barServed = true) → s.boot.warm = true →
      ∃ u, exec (.loadStepArm i v who) s = .next u ∧ u = s.locked (0x200C8 + 0x10 * i.val) who) ∧
    (∀ (i : Fin 4) (m : Nat) (late : Bool) (s : State), Inv s → s.turn (.loadStep i.val) = true → tabGet (fun _ => none) s.pwr.ledger.steps i.val
        = some (m, late) → tabWf (fun _ => none) s.pwr.ledger.steps = true →
      ∃ u, exec (.loadStep i) s = .next u ∧
        u.fld 0x20004 0 24 = s.fld (0x200C8 + 0x10 * i.val) 0 24 ∧ u.rbit (0x200C8 + 0x10 * i.val) 31 = false ∧ u.rbit 0x2002C 2 = true ∧
        (late = true → u.rbit 0x2002C 3 = true) ∧ tabGet (fun _ => none) u.pwr.ledger.steps i.val = none ∧ ¬ Due.loadStep i.val ∈ u.day.due ∧ u.mem = s.mem) ∧
    (∀ (i : Fin 4) (s : State), s.turn (.loadStep i.val) = true → tabGet (fun _ => none) s.pwr.ledger.steps i.val = none →
      ∃ u, exec (.loadStep i) s = .next u ∧ u = s.fired (.loadStep i.val)) ∧
    (∀ (i : Fin 4) (s : State), s.turn (.loadStep i.val) = false →
      ∃ u, exec (.loadStep i) s = .next u ∧ u = s)

/-- O49. The power states: requests for Noon, Dusk, Night and Midnight, and their entries and exits. Each request is a write of PWR_CMD, shown
served. NOON drops a pending request, begins the exit from Dusk or Night, and stays in the state. DUSK outside Midnight, with no Night pending,
enters Dusk when awake with boot done and the conditions holding, and else, awake or leaving Dusk or Night, pends; in Dusk or Night not being left,
or with Night pending, it is ignored. NIGHT pends (log entry 54), unless it does already or the package is in Night without an exit. MIDNIGHT
empties memory, frees every context, closes every ring and takes DONE and READY away. Not served, a request changes nothing; in a warm reset it is
refused as locked. DUSK_ENTRY, awake with boot done, no warm reset and the conditions holding, enters Dusk when they have held for DUSK_MIN whole
Minutes or Dusk is pending; else it changes nothing. DUSK_EXIT_DONE of an exit from Dusk leaves Noon or Afternoon as the causes say; else it changes
nothing. NIGHT_AUTO makes Night pend, unless it does, once Dusk not being left has lasted NIGHT_HOURS whole Hours, or one with a remap queued and
REPAIR_NIGHT; else it changes nothing. NIGHT_ENTRY of a pending Night, awake or in Dusk not being left, with boot done, no warm reset, only launches
due and what Night waits for ended, enters Night with active bank dies retained and their bridges down; else it changes nothing. NIGHT_EXIT_DONE of
an exit from Night with no repair under way, given four bank reports, leaves Noon or Afternoon as the causes say, and a retained die that reports a
failure FAILED; else it changes nothing. But for MIDNIGHT and the end of Night memory stays. (R432, R433, R434, R435, R436, R441, R51, R74) -/
def Obligations.PowerStates : Prop :=
  (∀ (s : State), s.served →
      ∃ u, exec (.powerReqNoon) s = .next u ∧
        u.pwr.pendingReq = 0 ∧ u.pwr.state = s.pwr.state ∧ (s.asleep = true → u.pwr.exiting = true) ∧ (s.asleep = false → u.pwr.exiting = s.pwr.exiting) ∧ u.mem = s.mem) ∧
    (∀ (s : State), s.served → s.pwr.pendingReq ≠ 3 → s.awake = true → s.boot.done = true → s.duskIdle = true →
      ∃ u, exec (.powerReqDusk) s = .next u ∧ u.pwr.state = .dusk ∧ u.pwr.pendingReq = 0 ∧ u.mem = s.mem) ∧
    (∀ (s : State), s.served → s.pwr.pendingReq ≠ 3 → (s.awake = false ∨ s.boot.done = false ∨ s.duskIdle = false) → (s.asleep = false ∨ s.pwr.exiting = true) →
      ∃ u, exec (.powerReqDusk) s = .next u ∧ u = (s.dropLatches 0xD0004).setPwr { s.pwr with pendingReq := 2 }) ∧
    (∀ (s : State), s.served → (s.pwr.pendingReq = 3 ∨ (s.asleep = true ∧ s.pwr.exiting = false)) →
      ∃ u, exec (.powerReqDusk) s = .next u ∧ u = s.dropLatches 0xD0004) ∧
    (∀ (s : State), s.served → s.pwr.pendingReq ≠ 3 → (s.pwr.state ≠ .night ∨ s.pwr.exiting = true) →
      ∃ u, exec (.powerReqNight) s = .next u ∧
        u = (s.dropLatches 0xD0004).setPwr { s.pwr with pendingReq := 3, idleSince := none }) ∧
    (∀ (s : State), s.served → (s.pwr.pendingReq = 3 ∨ (s.pwr.state = .night ∧ s.pwr.exiting = false)) →
      ∃ u, exec (.powerReqNight) s = .next u ∧ u = s.dropLatches 0xD0004) ∧
    (∀ (s : State), Inv s → s.served →
      ∃ u, exec (.powerReqMidnight) s = .next u ∧
        u.pwr.state = .midnight ∧ u.mem = [] ∧ (∀ c ∈ ctxRange, (u.ctx c).state = .free) ∧ u.rings = [] ∧ u.boot.done = false ∧ u.boot.ready = false ∧ u.pwr.pendingReq = 0 ∧ u.day.due = []) ∧
    (∀ (i : Instr) (s : State), s.barServed = false → (i = .powerReqNoon ∨ i = .powerReqDusk ∨ i = .powerReqNight ∨ i = .powerReqMidnight) →
      ∃ u, exec i s = .next u ∧ u = s) ∧
    (∀ (i : Instr) (s : State), s.barServed = true → s.boot.warm = true → (i = .powerReqNoon ∨ i = .powerReqDusk ∨ i = .powerReqNight ∨ i = .powerReqMidnight) →
      ∃ u, exec i s = .next u ∧ u = s.locked 0xD0004 .host) ∧
    (∀ (s : State), s.awake = true → s.boot.done = true → s.boot.warm = false → s.duskIdle = true → (s.duskDue = true ∨ s.pwr.pendingReq = 2) →
      ∃ u, exec (.duskEntry) s = .next u ∧ u.pwr.state = .dusk ∧ u.pwr.pendingReq = 0 ∧ u.mem = s.mem) ∧
    (∀ (s : State), (s.awake = false ∨ s.boot.done = false ∨ s.boot.warm = true ∨ s.duskIdle = false ∨ (s.duskDue = false ∧ s.pwr.pendingReq ≠ 2)) →
      ∃ u, exec (.duskEntry) s = .next u ∧ u = s) ∧
    (∀ (s : State), s.pwr.exiting = true → s.pwr.state = .dusk →
      ∃ u, exec (.duskExitDone) s = .next u ∧
        u.pwr.state = s.day12 ∧ u.pwr.exiting = false ∧ u.mem = s.mem) ∧
    (∀ (s : State), (s.pwr.exiting = false ∨ s.pwr.state ≠ .dusk) →
      ∃ u, exec (.duskExitDone) s = .next u ∧ u = s) ∧
    (∀ (s : State), s.pwr.state = .dusk → s.pwr.exiting = false → s.nightDue → s.pwr.pendingReq ≠ 3 →
      ∃ u, exec (.nightAuto) s = .next u ∧
        u = s.setPwr { s.pwr with pendingReq := 3, idleSince := none }) ∧
    (∀ (s : State), (s.pwr.state ≠ .dusk ∨ s.pwr.exiting = true ∨ ¬ s.nightDue ∨ s.pwr.pendingReq = 3) →
      ∃ u, exec (.nightAuto) s = .next u ∧ u = s) ∧
    (∀ (s : State), s.pwr.pendingReq = 3 → (s.awake = true ∨ (s.pwr.state = .dusk ∧ s.pwr.exiting = false)) → s.boot.done = true → s.boot.warm =
        false → s.onlyLaunches → s.drainedForNight = true →
      ∃ u, exec (.nightEntry) s = .next u ∧
        u.pwr.state = .night ∧ u.pwr.pendingReq = 0 ∧ u.mem = s.mem ∧ ∀ n < 4, (s.bank n).phase = .active → (u.bank n).phase = .retained ∧ (u.bank n).bridge = .down) ∧
    (∀ (s : State), (s.pwr.pendingReq ≠ 3 ∨ (s.awake = false ∧ (s.pwr.state ≠ .dusk ∨ s.pwr.exiting = true)) ∨ s.boot.done = false ∨ s.boot.warm = true ∨
        ¬ s.onlyLaunches ∨ s.drainedForNight = false) →
      ∃ u, exec (.nightEntry) s = .next u ∧ u = s) ∧
    (∀ (bs : List BankUp) (s : State), s.pwr.state = .night → s.pwr.exiting = true → s.rep.step = none → bs.length = 4 →
      ∃ u, exec (.nightExitDone bs) s = .next u ∧
        u.pwr.state = s.day12 ∧ u.pwr.exiting = false ∧
        ∀ n < 4, (s.bank n).phase = .retained → (bs.map BankUp.code).getD n 0 ≠ 0 → (u.bank n).phase = .failed) ∧
    (∀ (bs : List BankUp) (s : State), (s.pwr.state ≠ .night ∨ s.pwr.exiting = false ∨ s.rep.step ≠ none ∨ bs.length ≠ 4) →
      ∃ u, exec (.nightExitDone bs) s = .next u ∧ u = s)

/-- O50. Lease expiry, the commit of a bracket, its rollbacks and UNPIN. LEASE_EXPIRY in its turn, of a held resource other than the sequence lock
that is due and on which no open bracket of its holder relies, fences it: its epoch steps, the first waiting TAKE has it, under a further epoch, or
it is free; the expiry is counted and FLT_EVT bit 2 set. Where such a bracket, of no GROUP_FORM and not at its close, relies on it, that bracket
rolls back with reason 4. Expiry of the lock, with a bracket of no GROUP_FORM open and not committing, rolls it back with reason 2 and frees the
lock. What is not held or not due, and the lock with no bracket or one that commits, is only due no more; out of turn nothing changes.
BRACKET_COMMIT of a closed bracket of no GROUP_FORM, with no expiry due, no page lost and no TAKE queued for the lock: a bracket of one ATP_UPDATE
writes its page-table entry; one of one RENEW, for which no TAKE waits, moves its expiry and leaves memory; both free the lock and end BR_CLOSE OK
with its count. A page of a lost bank die rolls it back with reason 5. With no bracket, one that does not commit, an expiry due, or a group not yet
formed, it changes nothing. SEQ_ABORT, served, of such a bracket rolls it back with reason 6, SHADOW_STORE_UE with 8: the lock is free, FLT_EVT is
set, and BR_CLOSE, or the next descriptor, reports it; SEQ_ABORT also steps the lock's epoch and counts. With no bracket open they change nothing.
Served UNPIN unpins every record and changes no other. Both host writes not served change nothing; in a warm reset they are refused as locked.
Unless said memory stays. (R450, R451, R454, R459, R460, R461, R472, R474, R476, R478) -/
def Obligations.LeasesAndBrackets : Prop :=
  (∀ (res : Nat) (h : Nat × Nat) (s : State), Inv s → s.turn (.leaseExpiry res) = true → res ≠ resLock → (s.lease res).holder = some h →
        (s.lease res).expire ≤ s.absMin → (s.flt.bracket.map (fun b => decide (b.ctx = h.1) && b.relies res)).getD false = false → tabWf (fun _ => Lease.reset) s.flt.leases = true →
      ∃ u, exec (.leaseExpiry res) s = .next u ∧
        u.mem = s.mem ∧ ¬ Due.leaseExpiry res ∈ u.day.due ∧ (u.lease res).holder = (s.lease res).waiting.head?.map (fun w => (w.1, w.2.1)) ∧
        u.epoch res = (if (s.lease res).waiting = [] then nextEpoch (s.epoch res) else nextEpoch (nextEpoch (s.epoch res))) ∧ u.rbit 0xE0008 2 = true ∧
        u.reg 0xE0050 = BitVec.ofNat 32 (satAdd (2 ^ 32 - 1) (s.reg 0xE0050).toNat 1)) ∧
    (∀ (res : Nat) (h : Nat × Nat) (b : Bracket) (s : State), s.turn (.leaseExpiry res) = true → res ≠ resLock → (s.lease res).holder = some h →
        (s.lease res).expire ≤ s.absMin → s.flt.bracket = some b → b.ctx = h.1 → b.relies res = true → b.forms = [] → b.closeIdx = none →
        (s.lease resLock).waiting = [] → tabWf (fun _ => Lease.reset) s.flt.leases = true →
      ∃ u, exec (.leaseExpiry res) s = .next u ∧
        u.mem = s.mem ∧ u.flt.bracket = none ∧ (u.lease resLock).holder = none ∧ (u.ring b.ctx).br = .report (rollbackDetail 4 0x20 res)) ∧
    (∀ (b : Bracket) (s : State), s.turn (.leaseExpiry resLock) = true → s.flt.bracket = some b → b.committing = false → b.forms = [] → b.closeIdx
        = none → (s.lease resLock).holder.isSome = true → (s.lease resLock).expire ≤ s.absMin → (s.lease resLock).waiting = [] → tabWf (fun _ =>
        Lease.reset) s.flt.leases = true →
      ∃ u, exec (.leaseExpiry resLock) s = .next u ∧
        u.mem = s.mem ∧ u.flt.bracket = none ∧ (u.lease resLock).holder = none ∧ (u.ring b.ctx).br = .report (rollbackDetail 2 0 0)) ∧
    (∀ (res : Nat) (s : State), s.turn (.leaseExpiry res) = true → ((s.lease res).holder = none ∨ s.absMin < (s.lease res).expire ∨
        (res = resLock ∧ (s.flt.bracket.map (fun b => b.committing)).getD true = true)) →
      ∃ u, exec (.leaseExpiry res) s = .next u ∧ u = s.fired (.leaseExpiry res)) ∧
    (∀ (res : Nat) (s : State), s.turn (.leaseExpiry res) = false →
      ∃ u, exec (.leaseExpiry res) s = .next u ∧ u = s) ∧
    (∀ (b : Bracket) (p : ShadowPte) (i : Nat) (d : Desc) (s : State), s.flt.bracket = some b → b.committing = true → s.expiryDue = false → b.forms = [] → b.sets = [] →
        b.renews = [] → b.ptes = [p] → s.lostPage b = none → b.closeIdx = some i → s.desc b.ctx i = some d → (s.lease resLock).waiting = [] →
        tabWf (fun _ => Lease.reset) s.flt.leases = true →
      ∃ u, exec (.bracketCommit) s = .next u ∧
        u.flt.bracket = none ∧ (u.lease resLock).holder = none ∧ u.outcome b.ctx i = some (d.okCode, d.cursor, d.epoch) ∧ u.mem = (s.pwrite p.addr (leBytes 8 p.new_)).mem) ∧
    (∀ (b : Bracket) (res n e i : Nat) (d : Desc) (s : State), s.flt.bracket = some b → b.committing = true → s.expiryDue = false → b.forms = [] → b.sets = [] →
        b.renews = [(res, 1, n, e)] → b.ptes = [] → res ≠ resLock → (s.lease res).waiting = [] → b.closeIdx = some i → s.desc b.ctx i = some d → (s.lease resLock).waiting = [] →
        tabWf (fun _ => Lease.reset) s.flt.leases = true →
      ∃ u, exec (.bracketCommit) s = .next u ∧
        u.flt.bracket = none ∧ (u.lease resLock).holder = none ∧ u.outcome b.ctx i = some (d.okCode, d.cursor, d.epoch) ∧ (u.lease res).expire = s.absMin + n + 1 ∧ u.mem = s.mem) ∧
    (∀ (b : Bracket) (n i : Nat) (d : Desc) (s : State), s.flt.bracket = some b → b.committing = true → s.expiryDue = false → b.forms = [] → s.lostPage b = some n →
        b.closeIdx = some i → s.desc b.ctx i = some d → (s.lease resLock).waiting = [] → tabWf (fun _ => Lease.reset) s.flt.leases = true →
      ∃ u, exec (.bracketCommit) s = .next u ∧
        u.flt.bracket = none ∧ (u.lease resLock).holder = none ∧ u.outcome b.ctx i = some (0x32, rollbackDetail 5 0 n, 0) ∧ u.mem = s.mem) ∧
    (∀ (s : State), ((s.flt.bracket.map (fun b => b.committing)).getD false = false ∨ s.expiryDue = true ∨
        (s.flt.bracket.map (fun b => (b.forms.filter (fun f => !bitAt f.word2 63)).all (fun f => f.begun) &&
          (b.forms.filter (fun f => !bitAt f.word2 63)).any (fun f => f.epoch.isNone))).getD false = true) →
      ∃ u, exec (.bracketCommit) s = .next u ∧ u = s) ∧
    (∀ (b : Bracket) (s : State), Inv s → s.served → s.flt.bracket = some b → b.forms = [] → (s.lease resLock).waiting = [] →
        tabWf (fun _ => Lease.reset) s.flt.leases = true →
      ∃ u, exec (.seqAbort) s = .next u ∧
        u.mem = s.mem ∧ u.flt.bracket = none ∧ (u.lease resLock).holder = none ∧ u.epoch resLock = nextEpoch (s.epoch resLock) ∧ u.rbit 0xE0008 3 = true ∧
        u.reg 0xE005C = BitVec.ofNat 32 (satAdd (2 ^ 32 - 1) (s.reg 0xE005C).toNat 1) ∧ (b.closeIdx = none → (u.ring b.ctx).br = .report (rollbackDetail 6 0 0)) ∧
        ∀ i d, b.closeIdx = some i → s.desc b.ctx i = some d → u.outcome b.ctx i = some (0x32, rollbackDetail 6 0 0, 0)) ∧
    (∀ (s : State), s.served →
      ∃ u, exec (.unpin) s = .next u ∧
        (∀ i, u.rec_ i = { s.rec_ i with pinned := false }) ∧ { u.flt with records := s.flt.records } = s.flt ∧ u.regs = s.regs ∧ u.mem = s.mem) ∧
    (∀ (b : Bracket) (s : State), Inv s → s.flt.bracket = some b → b.forms = [] → (s.lease resLock).waiting = [] → tabWf (fun
        _ => Lease.reset) s.flt.leases = true →
      ∃ u, exec (.shadowStoreUe) s = .next u ∧
        u.mem = s.mem ∧ u.flt.bracket = none ∧ (u.lease resLock).holder = none ∧ u.rbit 0xE0008 6 = true ∧ (b.closeIdx = none → (u.ring b.ctx).br = .report (rollbackDetail 8 0 0)) ∧
        ∀ i d, b.closeIdx = some i → s.desc b.ctx i = some d → u.outcome b.ctx i = some (0x32, rollbackDetail 8 0 0, 0)) ∧
    (∀ (s : State), s.flt.bracket = none →
      ∃ u, exec (.shadowStoreUe) s = .next u ∧
        u = s) ∧
    (∀ (s : State), s.served → s.flt.bracket = none →
      ∃ u, exec (.seqAbort) s = .next u ∧ u = s.dropLatches 0xE000C) ∧
    (∀ (i : Instr) (s : State), s.barServed = false → (i = .seqAbort ∨ i = .unpin) →
      ∃ u, exec i s = .next u ∧ u = s) ∧
    (∀ (i : Instr) (s : State), s.barServed = true → s.boot.warm = true → (i = .seqAbort ∨ i = .unpin) →
      ∃ u, exec i s = .next u ∧ u = s.locked 0xE000C .host)

/-- O51. Reconciles of views, errors of the hub's own stores, and package-class faults. A served RECONCILE to healthy of a unit whose data path
holds it failed is refused: FLT_EVT bit 4 is set and the views stay; of another unit both views are healthy; both leave memory. One to failed of a
bank die or of a unit from 32 to 35 fails both views and leaves memory; of a special-function unit or a port it fails both views. An engine, core or
slice position with a spare goes to it, both views healthy; a slice position that holds a slice, that is; without a spare, or for one that holds
none, both views are failed, and for a core whose data path held the package fault is set. One of a unit not used is refused as locked; another
target changes nothing but the latches of the pair. A host write that is not served changes nothing; in a warm reset it is refused as locked.
RECORD_STORE_UE of a valid record drops it, sets FLT_EVT bit 5, counts and leaves memory; of another it changes nothing. Outside Midnight
HUB_STATE_UE of the Ledger's state (4) leaves nothing of the Hour's allowance, sets the state error and LDG_EVT bit 1, and leaves memory; of the
receive buffer (5) it abandons the frame; elsewhere it is a package-class fault. It and PACKAGE_FAULT outside Midnight set the package fault and
FLT_EVT bit 0, every context OPEN or in TEARDOWN becomes FAULTED, every ring STOPPED, and no bracket stays open. In Midnight both change nothing.
(R162, R163, R413, R447, R463, R465, R468, R478, R488) -/
def Obligations.FaultUnit : Prop :=
  (∀ (v : Word) (s : State), Inv s → s.served → wfld v 30 2 = 1 → wfld v 0 6 < 52 → s.dpFailed (wfld v 0 6) = true →
      ∃ u, exec (.reconcile v) s = .next u ∧
        u.dpFailed (wfld v 0 6) = true ∧ u.mgmtFailed (wfld v 0 6) = s.mgmtFailed (wfld v 0 6) ∧ u.rbit 0xE0008 4 = true ∧ u.mem = s.mem) ∧
    (∀ (v : Word) (s : State), s.served → wfld v 30 2 = 1 → wfld v 0 6 < 52 → s.dpFailed (wfld v 0 6) = false → tabWf (fun _ => false) s.flt.dp =
        true → tabWf (fun _ => false) s.flt.mgmt = true →
      ∃ u, exec (.reconcile v) s = .next u ∧
        u.dpFailed (wfld v 0 6) = false ∧ u.mgmtFailed (wfld v 0 6) = false ∧ u.mem = s.mem) ∧
    (∀ (v : Word) (s : State), s.served → wfld v 30 2 = 2 → (wfld v 0 6 < 8 ∨ (32 ≤ wfld v 0 6 ∧ wfld v 0 6 < 36)) →
      ∃ u, exec (.reconcile v) s = .next u ∧
        u.dpFailed (wfld v 0 6) = true ∧ u.mgmtFailed (wfld v 0 6) = true ∧ u.mem = s.mem) ∧
    (∀ (v : Word) (s : State), s.served → wfld v 30 2 = 2 → ((24 ≤ wfld v 0 6 ∧ wfld v 0 6 < 28) ∨ (36 ≤ wfld v 0 6 ∧ wfld v 0 6 < 44)) →
      ∃ u, exec (.reconcile v) s = .next u ∧
        u.dpFailed (wfld v 0 6) = true ∧ u.mgmtFailed (wfld v 0 6) = true) ∧
    (∀ (v : Word) (k e : Nat) (s : State), s.served → wfld v 30 2 = 2 → wfld v 0 6 = 8 + k → k < 16 → s.spareEngine (k / 4) = some e →
        tabWf (fun _ => false) s.flt.dp = true → tabWf (fun _ => false) s.flt.mgmt = true → tabWf engDefault s.maps.engines = true →
      ∃ u, exec (.reconcile v) s = .next u ∧
        u.engineAt k = e ∧ u.dpFailed (wfld v 0 6) = false ∧ u.mgmtFailed (wfld v 0 6) = false) ∧
    (∀ (v : Word) (k e : Nat) (s : State), s.served → wfld v 30 2 = 2 → wfld v 0 6 = 28 + k → k < 4 → s.spareCore = some e →
        tabWf (fun _ => false) s.flt.dp = true → tabWf (fun _ => false) s.flt.mgmt = true → tabWf (fun i => i) s.maps.cores = true →
      ∃ u, exec (.reconcile v) s = .next u ∧
        u.coreAt k = e ∧ u.dpFailed (wfld v 0 6) = false ∧ u.mgmtFailed (wfld v 0 6) = false) ∧
    (∀ (v : Word) (k e : Nat) (s : State), s.served → wfld v 30 2 = 2 → wfld v 0 6 = 44 + k → k < 8 → s.sliceAt k ≠ 15 → s.spareSlice = some e →
        tabWf (fun _ => false) s.flt.dp = true → tabWf (fun _ => false) s.flt.mgmt = true → tabWf (fun i => i) s.maps.slices = true →
      ∃ u, exec (.reconcile v) s = .next u ∧
        u.sliceAt k = e ∧ u.dpFailed (wfld v 0 6) = false ∧ u.mgmtFailed (wfld v 0 6) = false) ∧
    (∀ (v : Word) (k : Nat) (s : State), s.served → wfld v 30 2 = 2 → ((wfld v 0 6 = 8 + k ∧ k < 16 ∧ s.spareEngine (k / 4) = none) ∨
        (wfld v 0 6 = 28 + k ∧ k < 4 ∧ s.spareCore = none) ∨ (wfld v 0 6 = 44 + k ∧ k < 8 ∧ (s.sliceAt k = 15 ∨ s.spareSlice = none))) →
      ∃ u, exec (.reconcile v) s = .next u ∧
        u.dpFailed (wfld v 0 6) = true ∧ u.mgmtFailed (wfld v 0 6) = true ∧
        (wfld v 0 6 = 28 + k → k < 4 → s.dpFailed (28 + k) = false → u.flt.pkgFault = true)) ∧
    (∀ (v : Word) (s : State), s.served → 52 ≤ wfld v 0 6 → (wfld v 30 2 = 1 ∨ wfld v 30 2 = 2) →
      ∃ u, exec (.reconcile v) s = .next u ∧
        u = (s.dropLatches 0xE0010).locked 0xE0010 .host) ∧
    (∀ (v : Word) (s : State), s.served → (wfld v 30 2 = 0 ∨ wfld v 30 2 = 3) →
      ∃ u, exec (.reconcile v) s = .next u ∧ u = s.dropLatches 0xE0010) ∧
    (∀ (v : Word) (s : State), s.barServed = false →
      ∃ u, exec (.reconcile v) s = .next u ∧ u = s) ∧
    (∀ (v : Word) (s : State), s.barServed = true → s.boot.warm = true →
      ∃ u, exec (.reconcile v) s = .next u ∧ u = s.locked 0xE0010 .host) ∧
    (∀ (i : Fin 128) (s : State), Inv s → (s.rec_ i.val).valid = true → tabWf (fun _ => Rec.reset) s.flt.records = true →
      ∃ u, exec (.recordStoreUe i) s = .next u ∧
        u.rec_ i.val = { s.rec_ i.val with valid := false, pinned := false } ∧ u.rbit 0xE0008 5 = true ∧
        u.reg 0xE0064 = BitVec.ofNat 32 (satAdd (2 ^ 32 - 1) (s.reg 0xE0064).toNat 1) ∧ u.mem = s.mem) ∧
    (∀ (i : Fin 128) (s : State), (s.rec_ i.val).valid = false →
      ∃ u, exec (.recordStoreUe i) s = .next u ∧
        u = s) ∧
    (∀ (w : Fin 6) (s : State), Inv s → s.pwr.state ≠ .midnight →
      ∃ u, exec (.hubStateUe w) s = .next u ∧
        (w = 4 → u.reg 0x20018 = 0 ∧ u.pwr.ledger.stateErr = true ∧ u.rbit 0x2002C 1 = true ∧ u.mem = s.mem) ∧
        (w = 5 → u.ing.rx = none ∧ u.mem = s.mem) ∧
        (w ≠ 4 → w ≠ 5 → u.flt.pkgFault = true ∧ u.rbit 0xE0008 0 = true ∧ u.flt.bracket = none ∧ (∀ c ∈ ctxRange, (u.ring c).state = .stopped) ∧
          ∀ c ∈ ctxRange, (s.ctx c).state = .open_ ∨ (s.ctx c).state = .teardown → (u.ctx c).state = .faulted)) ∧
    (∀ (a k n : Nat) (s : State), Inv s → s.pwr.state ≠ .midnight →
      ∃ u, exec (.packageFault a k n) s = .next u ∧
        u.flt.pkgFault = true ∧ u.rbit 0xE0008 0 = true ∧ u.flt.bracket = none ∧ (∀ c ∈ ctxRange, (u.ring c).state = .stopped) ∧
        ∀ c ∈ ctxRange, (s.ctx c).state = .open_ ∨ (s.ctx c).state = .teardown → (u.ctx c).state = .faulted) ∧
    (∀ (a k n : Nat) (w : Fin 6) (i : Instr) (s : State), s.pwr.state = .midnight → (i = .packageFault a k n ∨ i = .hubStateUe w) →
      ∃ u, exec i s = .next u ∧ u = s)

/-- O52. Aging monitors, the repair steps of Night, their cancel, and the flash that holds the defect map. AGING_MONITOR_SAMPLE, after boot, outside
Midnight, with AUTO_QUEUE and an empty map: a delay monitor at or past AGE_PCT of an engine (0), core (1) or slice (2) that fills a position queues
an entry of CAUSE 3 for that position, and a lane (3) past its error limit on a port of revision J or later a LANE entry; HUB_REPAIR_EVT.QUEUED is
set. A unit that fills no position is marked unhealthy instead. Both leave memory. Before the end of boot, in Midnight, below the limit, or of no
unit there is, or with AUTO_QUEUE at 0 for a unit in a position or a lane, it changes nothing. REPAIR_STEP_DONE for the step under way of another
kind than LANE: a step that passed makes its entry APPLIED and sets HUB_REPAIR_EVT.APPLIED; one that failed makes it FAILED; a LANE step whose entry
is still QUEUED after its port's retrain is FAILED; the step is over and memory stays; while that port retrains, or with no step under way, it
changes nothing. REPAIR_STEP_TIMEOUT of a QUEUED entry with a limit: past the limit it is FAILED with SPARES_OUT and memory stays; before, and with
no step or no limit, only time passes. REPAIR_CANCEL, served, supersedes the QUEUED entries but that of the step under way and leaves memory; not
served it changes nothing, and in a warm reset it is refused as locked. DMAP_FLASH_WRITE appends the oldest change to both copies, compacting full
ones; with none waiting it makes a degraded map's copies whole; else it changes nothing. (R484, R487, R488, R489, R493, R495, R496, R497, R498,
R499) -/
def Obligations.RepairEngine : Prop :=
  (∀ (i v p : Nat) (s : State), Inv s → s.boot.done = true → s.pwr.state ≠ .midnight → i < 20 → s.agePct ≤ v → (List.range 4).find? (fun p =>
        decide (s.engineAt (4 * (i / 5) + p) = i % 5)) = some p → s.rbit 0x418 31 = true → s.rep.entries = [] →
      ∃ u, exec (.agingMonitorSample 0 i v) s = .next u ∧
        u.rbit 0x420 0 = true ∧ u.mem = s.mem ∧ ∃ e, u.rep.entries = [e] ∧ e.kind = 1 ∧ e.cause = 3 ∧ e.state = deQueued ∧ e.loc = i / 5 ∧ e.target = p) ∧
    (∀ (i v p : Nat) (s : State), Inv s → s.boot.done = true → s.pwr.state ≠ .midnight → i < 5 → s.agePct ≤ v → (List.range 4).find? (fun k =>
        decide (s.coreAt k = i)) = some p → s.rbit 0x418 31 = true → s.rep.entries = [] →
      ∃ u, exec (.agingMonitorSample 1 i v) s = .next u ∧
        u.rbit 0x420 0 = true ∧ u.mem = s.mem ∧ ∃ e, u.rep.entries = [e] ∧ e.kind = 2 ∧ e.cause = 3 ∧ e.state = deQueued ∧ e.target = p) ∧
    (∀ (i v p : Nat) (s : State), Inv s → s.boot.done = true → s.pwr.state ≠ .midnight → i < 10 → s.agePct ≤ v → (List.range 8).find? (fun n =>
        decide (s.sliceAt n = i)) = some p → s.rbit 0x418 31 = true → s.rep.entries = [] →
      ∃ u, exec (.agingMonitorSample 2 i v) s = .next u ∧
        u.rbit 0x420 0 = true ∧ u.mem = s.mem ∧ ∃ e, u.rep.entries = [e] ∧ e.kind = 3 ∧ e.cause = 3 ∧ e.state = deQueued ∧ e.target = p) ∧
    (∀ (i v : Nat) (s : State), Inv s → s.boot.done = true → s.pwr.state ≠ .midnight → i < 64 → 2 ^ 20 < v → 3 ≤ (s.port (i /
        8)).rev → s.rbit 0x418 31 = true → s.rep.entries = [] →
      ∃ u, exec (.agingMonitorSample 3 i v) s = .next u ∧
        u.rbit 0x420 0 = true ∧ u.mem = s.mem ∧ ∃ e, u.rep.entries = [e] ∧ e.kind = 5 ∧ e.cause = 3 ∧ e.state = deQueued ∧ e.loc = i / 8 ∧ e.target = i % 8) ∧
    (∀ (i v : Nat) (s : State), s.boot.done = true → s.pwr.state ≠ .midnight → i < 20 → s.agePct ≤ v → (List.range 4).find? (fun p => decide
        (s.engineAt (4 * (i / 5) + p) = i % 5)) = none →
      ∃ u, exec (.agingMonitorSample 0 i v) s = .next u ∧
        tabGet (fun _ => false) u.maps.engBad (5 * (i / 5) + i % 5) = true ∧ u.rep = s.rep ∧ u.mem = s.mem) ∧
    (∀ (i v : Nat) (s : State), s.boot.done = true → s.pwr.state ≠ .midnight → i < 5 → s.agePct ≤ v → (List.range 4).find? (fun k => decide
        (s.coreAt k = i)) = none →
      ∃ u, exec (.agingMonitorSample 1 i v) s = .next u ∧
        tabGet (fun _ => false) u.maps.coreBad i = true ∧ u.rep = s.rep ∧ u.mem = s.mem) ∧
    (∀ (i v : Nat) (s : State), s.boot.done = true → s.pwr.state ≠ .midnight → i < 10 → s.agePct ≤ v → (List.range 8).find? (fun n => decide
        (s.sliceAt n = i)) = none →
      ∃ u, exec (.agingMonitorSample 2 i v) s = .next u ∧
        tabGet (fun _ => false) u.maps.sliceBad i = true ∧ u.rep = s.rep ∧ u.mem = s.mem) ∧
    (∀ (k : Fin 4) (i v : Nat) (s : State), (s.boot.done = false ∨ s.pwr.state = .midnight ∨ (k ≠ 3 ∧ v < s.agePct) ∨
        (k = 3 ∧ (64 ≤ i ∨ v ≤ 2 ^ 20 ∨ (s.port (i / 8)).rev < 3)) ∨ (k = 0 ∧ 20 ≤ i) ∨ (k = 1 ∧ 5 ≤ i) ∨ (k = 2 ∧ 10 ≤ i) ∨
        (s.rbit 0x418 31 = false ∧ (k = 3 ∨ (k = 0 ∧ ((List.range 4).find? (fun p => decide (s.engineAt (4 * (i / 5) + p) = i % 5))).isSome = true) ∨
          (k = 1 ∧ ((List.range 4).find? (fun p => decide (s.coreAt p = i))).isSome = true) ∨
          (k = 2 ∧ ((List.range 8).find? (fun n => decide (s.sliceAt n = i))).isSome = true)))) →
      ∃ u, exec (.agingMonitorSample k i v) s = .next u ∧ u = s) ∧
    (∀ (ok : Bool) (i : Nat) (e : DEntry) (s : State), Inv s → s.rep.step = some i → s.dent i = some e → e.kind ≠ 5 →
      ∃ u, exec (.repairStepDone ok) s = .next u ∧
        ((u.dent i).map fun x => x.state) = some (if ok = true then deApplied else deFailed) ∧ (ok = true → u.rbit 0x420 1 = true) ∧ u.rep.step ≠ some i ∧ u.mem = s.mem) ∧
    (∀ (ok : Bool) (i : Nat) (e : DEntry) (s : State), s.rep.step = some i → s.dent i = some e → e.kind = 5 → e.state = deQueued → (s.port e.loc).retraining = false →
      ∃ u, exec (.repairStepDone ok) s = .next u ∧
        ((u.dent i).map fun x => x.state) = some deFailed ∧ u.rep.step ≠ some i ∧ u.mem = s.mem) ∧
    (∀ (ok : Bool) (i : Nat) (e : DEntry) (s : State), s.rep.step = some i → s.dent i = some e → e.kind = 5 → (s.port e.loc).retraining = true →
      ∃ u, exec (.repairStepDone ok) s = .next u ∧ u = s) ∧
    (∀ (ok : Bool) (s : State), s.rep.step = none →
      ∃ u, exec (.repairStepDone ok) s = .next u ∧ u = s) ∧
    (∀ (t i lim : Nat) (e : DEntry) (s : State), Inv s → s.rep.step = some i → s.dent i = some e → stepLimit e.kind = some lim → e.state =
        deQueued →
      ∃ u, exec (.repairStepTimeout t) s = .next u ∧
        u.mem = s.mem ∧ (max s.clk t ≤ s.rep.stepAt + lim → u = s.reachClk t) ∧
        (s.rep.stepAt + lim < max s.clk t → ((u.dent i).map fun x => x.state) = some deFailed ∧ u.rbit 0x420 2 = true ∧ u.rep.step ≠ some i)) ∧
    (∀ (t : Nat) (s : State), (s.rep.step.bind fun i => (s.dent i).bind fun e => stepLimit e.kind) = none →
      ∃ u, exec (.repairStepTimeout t) s = .next u ∧ u = s.reachClk t) ∧
    (∀ (s : State), s.served →
      ∃ u, exec (.repairCancel) s = .next u ∧
        u.rep.entries.length = s.rep.entries.length ∧ u.mem = s.mem ∧ u.rep.step = s.rep.step ∧
        ∀ i e, s.dent i = some e → ((u.dent i).map fun x => x.state) = some (if e.state = deQueued ∧ s.rep.step ≠ some i then deSuperseded else e.state)) ∧
    (∀ (s : State), s.barServed = false →
      ∃ u, exec (.repairCancel) s = .next u ∧ u = s) ∧
    (∀ (s : State), s.barServed = true → s.boot.warm = true →
      ∃ u, exec (.repairCancel) s = .next u ∧ u = s.locked 0x41C .host) ∧
    (∀ (i : Nat) (rest : List Nat) (s : State), s.rep.dirty = i :: rest →
      ∃ u, exec (.dmapFlashWrite) s = .next u ∧
        u.rep = (if Config.flashFull s.rep.copyA.length = true then s.compactMap.rep
        else { s.rep with dirty := rest, copyA := s.rep.copyA ++ ((s.dent i).map fun e => (i, e)).toList,
                          copyB := s.rep.copyB ++ ((s.dent i).map fun e => (i, e)).toList }) ∧ u.mem = s.mem) ∧
    (∀ (s : State), s.rep.dirty = [] →
      ∃ u, exec (.dmapFlashWrite) s = .next u ∧
        (s.rep.degraded = true → u.rep = { s.rep with degraded := false, copyA := indexed s.rep.entries, copyB := indexed s.rep.entries } ∧ u.mem = s.mem) ∧
        (s.rep.degraded = false → u = s))

/-- O53. Power on, PKG_RST_N, brownouts, cold starts, the warm reset and its limit. A cold start leaves every register at its default, memory empty
(log entry 5) and boot at stage 0; the flash's records, the defect map's copies and what was sent stay. POWER_ON with PKG_RST_N high samples the
straps and is one; with it low it waits for it. PKG_RST_N low for 10 us or more holds the package in reset, cold; less than 1 us does nothing;
between, a free choice says which (log entry 2). Its release with power samples the straps and starts cold, with test instructions parked; without
power it only rises and parks; high already, nothing. COLD_START_DELAY is a cold start once the delay asked for has run; else only time passes.
SUPPLY_BROWNOUT of the island (0) is a cold start without power; of the hub's supplies (1 to 3) a loss of the reference and a package fault; of an
active bank die's it resets that die, its memory at fault for supplies from 8, its data path failed; of another die the PLL is unlocked, and a
retained die's memory is at fault for those. WARM_RESET not served changes nothing, and in a warm reset is refused as locked; served: another key is
ignored, not READY it is refused as locked; READY, WARM is set and the time noted; with no bank reset under way the rings close, contexts are FREE,
and with every bridge quiet the dies that have not failed are retained. WARM_RESET_DONE with the dies held, no repair and four reports ends WARM;
with every die failing boot halts with the first code; with one up the package is in Noon or Afternoon; out of these conditions nothing changes.
RESET_TIMEOUT past the limit of a reset gives it up as a package fault; else only time passes. (R502, R507, R512, R515, R517, R518, R520, R528,
R544, R546, R559, R561) -/
def Obligations.PackageResets : Prop :=
  (∀ (straps : Nat) (s : State), s.boot.rstN = true →
      ∃ u, exec (.powerOn straps) s = .next u ∧
        u.coldFrom s 1 ∧ u.boot.powered = true ∧ u.mgt.addr = 0x58 + straps % 4 ∧ u.boot.sstatTerm = bitAt straps 2 ∧ u.boot.testMode = bitAt straps 3) ∧
    (∀ (straps : Nat) (s : State), s.boot.rstN = false →
      ∃ u, exec (.powerOn straps) s = .next u ∧
        u = { s with boot := { s.boot with powered := true, fresh := true } }) ∧
    (∀ (ns : Nat) (s : State), ns < 1000 →
      ∃ u, exec (.pkgRstNAssert ns) s = .next u ∧ u = s) ∧
    (∀ (ns : Nat) (s : State), 10000 ≤ ns →
      ∃ u, exec (.pkgRstNAssert ns) s = .next u ∧ u.coldFrom s 2 ∧ u.boot.rstN = false ∧ u.boot.powered = s.boot.powered) ∧
    (∀ (ns : Nat) (s : State), 1000 ≤ ns → ns < 10000 →
      ∃ u, exec (.pkgRstNAssert ns) s = .next u ∧ (u = s.takeFree.2 ∨ (u.coldFrom s 2 ∧ u.boot.rstN = false ∧ u.boot.powered = s.boot.powered))) ∧
    (∀ (straps : Nat) (s : State), s.boot.rstN = false → s.boot.powered = true →
      ∃ u, exec (.pkgRstNRelease straps) s = .next u ∧
        u.coldFrom s (if s.boot.fresh = true then 1 else 2) ∧ u.boot.rstN = true ∧ u.test.parked = true ∧ u.mgt.addr = 0x58 + straps % 4 ∧
        u.boot.sstatTerm = bitAt straps 2 ∧ u.boot.testMode = bitAt straps 3) ∧
    (∀ (straps : Nat) (s : State), s.boot.rstN = false → s.boot.powered = false →
      ∃ u, exec (.pkgRstNRelease straps) s = .next u ∧
        u = { s with boot := { s.boot with rstN := true }, test := { s.test with parked := true } }) ∧
    (∀ (straps : Nat) (s : State), s.boot.rstN = true →
      ∃ u, exec (.pkgRstNRelease straps) s = .next u ∧ u = s) ∧
    (∀ (t t0 : Nat) (s : State), s.boot.coldAt = some t0 → t0 ≤ max s.clk t →
      ∃ u, exec (.coldStartDelay t) s = .next u ∧ u.coldFrom s 3 ∧ u.clk = max s.clk t) ∧
    (∀ (t : Nat) (s : State), (s.boot.coldAt.all fun t0 => decide (max s.clk t < t0)) = true →
      ∃ u, exec (.coldStartDelay t) s = .next u ∧ u = s.reachClk t) ∧
    (∀ (s : State),
      ∃ u, exec (.supplyBrownout 0) s = .next u ∧ u.coldFrom s 1 ∧ u.boot.powered = false) ∧
    (∀ (r : Fin 20) (s : State), 1 ≤ r.val → r.val < 4 →
      ∃ u, exec (.supplyBrownout r) s = .next u ∧ u.boot.refOk = false ∧ u.boot.hubLock = false ∧ u.flt.pkgFault = true) ∧
    (∀ (r : Fin 20) (s : State), 4 ≤ r.val → (s.bank (r.val % 4)).phase = .active →
      ∃ u, exec (.supplyBrownout r) s = .next u ∧
        (u.bank (r.val % 4)).phase = .resetting ∧ (u.bank (r.val % 4)).memFault = decide (8 ≤ r.val) ∧ u.dpFailed (r.val % 4) = true) ∧
    (∀ (r : Fin 20) (s : State), 4 ≤ r.val → (s.bank (r.val % 4)).phase ≠ .active → tabWf (fun _ => Bank.reset) s.banks = true →
      ∃ u, exec (.supplyBrownout r) s = .next u ∧
        u.bank (r.val % 4) = { s.bank (r.val % 4) with
          pllLock := false, memFault := (s.bank (r.val % 4)).memFault || (decide ((s.bank (r.val % 4)).phase = .retained) && decide (8 ≤ r.val)) } ∧
        { u with banks := s.banks } = s) ∧
    (∀ (v : Word) (s : State), s.served → v.toNat % 2 ^ 16 ≠ 0x57A3 →
      ∃ u, exec (.warmReset v) s = .next u ∧ u = s.dropLatches 0x508) ∧
    (∀ (v : Word) (s : State), s.served → v.toNat % 2 ^ 16 = 0x57A3 → s.boot.ready = false →
      ∃ u, exec (.warmReset v) s = .next u ∧ u = (s.dropLatches 0x508).locked 0x508 .host) ∧
    (∀ (v : Word) (s : State), Inv s → s.served → v.toNat % 2 ^ 16 = 0x57A3 → s.boot.ready = true →
      ∃ u, exec (.warmReset v) s = .next u ∧
        u.boot.warm = true ∧ u.boot.ready = false ∧ u.boot.last = 8 ∧ u.boot.warmStart = s.clk ∧
        ((∀ n < 4, (s.bank n).phase ≠ .resetting) → (∀ c ∈ ctxRange, (u.ring c).state = .closed) ∧ (∀ c ∈ ctxRange, (u.ctx c).state = .free) ∧
          ((∀ n < 4, (u.bank n).quiet = true) → ∀ n < 4, (s.bank n).phase ≠ .failed → (u.bank n).phase = .retained))) ∧
    (∀ (bs : List BankUp) (bc bsl : List Nat) (s : State), s.boot.warm = true → s.boot.warmWait = false → s.rep.step = none → bs.length = 4 →
        (List.range 4).all (fun n => decide ((s.bank n).phase = .retained)) = true →
      ∃ u, exec (.warmResetDone bs bc bsl) s = .next u ∧
        u.boot.warm = false ∧ (bs.all (fun b => decide (b.code ≠ 0)) = true → u.boot.halted = true ∧ (bs.head?.map fun b => b.code) = some u.boot.code) ∧
        ((List.range 4).all (fun n => decide (((s.warmReturn bs bc bsl).bank n).phase = .failed)) = false → u.pwr.state = .noon ∨ u.pwr.state = .afternoon)) ∧
    (∀ (bs : List BankUp) (bc bsl : List Nat) (s : State), (s.boot.warm = false ∨ (List.range 4).any (fun n => decide ((s.bank n).phase = .resetting)) = true ∨
        s.rep.step ≠ none ∨ bs.length ≠ 4) →
      ∃ u, exec (.warmResetDone bs bc bsl) s = .next u ∧ u = s) ∧
    (∀ (t : Nat) (s : State), ((s.boot.hostReset = true ∧ s.host.perst = false ∧ s.boot.resetStart + 1000000 ≤ max s.clk t) ∨
        (s.boot.warm = true ∧ s.boot.warmStart + 60000000 ≤ max s.clk t)) →
      ∃ u, exec (.resetTimeout t) s = .next u ∧ u.boot.warm = false ∧ u.boot.hostReset = false ∧ u.flt.pkgFault = true) ∧
    (∀ (t : Nat) (s : State), (s.boot.hostReset = false ∨ s.host.perst = true ∨ max s.clk t < s.boot.resetStart + 1000000) →
        (s.boot.warm = false ∨ max s.clk t < s.boot.warmStart + 60000000) →
      ∃ u, exec (.resetTimeout t) s = .next u ∧ u = s.reachClk t) ∧
    (∀ (v : Word) (s : State), s.barServed = false →
      ∃ u, exec (.warmReset v) s = .next u ∧ u = s) ∧
    (∀ (v : Word) (s : State), s.barServed = true → s.boot.warm = true →
      ∃ u, exec (.warmReset v) s = .next u ∧ u = s.locked 0x508 .host)

/-- O54. The instructions of the test access port. With power each instruction of Table 19.8 becomes the loaded one, not parked, and nothing but the
port changes and what IDCODE and SAMPLE/PRELOAD shift out: the identification code, and the pins, while SAMPLE/PRELOAD loads the boundary register
and drives no pin. EXTEST loads what it drives the pins with, and CLAMP drives them with the boundary register, only while PKG_RST_N is low; with it
high no pin is driven and the boundary register stays. HIGHZ holds the pins at high impedance while PKG_RST_N is low. BYPASS of a code not listed is
loaded and drives nothing; of a listed one it does nothing. Test-Logic-Reset loads the model's reset instruction (log entry 32) and keeps the
boundary register. Without power no instruction changes anything. (R558, R559) -/
def Obligations.TestAccessPort : Prop :=
  (∀ (s : State), s.boot.powered = true →
      ∃ u, exec (.jtagIdcode) s = .next u ∧
        u.test = { s.test with code := 0x01, parked := false } ∧ u.sent = .testData idCode :: s.sent ∧ { u with test := s.test, sent := s.sent } = s) ∧
    (∀ (pins bits : Nat) (s : State), s.boot.powered = true →
      ∃ u, exec (.jtagSamplePreload pins bits) s = .next u ∧
        u.test = ⟨0x02, false, bits⟩ ∧ u.sent = .testData pins :: s.sent ∧ u.pinsDriven = none ∧ { u with test := s.test, sent := s.sent } = s) ∧
    (∀ (bits : Nat) (s : State), s.boot.powered = true →
      ∃ u, exec (.jtagExtest bits) s = .next u ∧
        u.test.code = 0 ∧ u.test.parked = false ∧ { u with test := s.test } = s ∧ (s.boot.rstN = false → u.pinsDriven = some bits) ∧
        (s.boot.rstN = true → u.pinsDriven = none ∧ u.test.boundary = s.test.boundary)) ∧
    (∀ (s : State), s.boot.powered = true →
      ∃ u, exec (.jtagClamp) s = .next u ∧
        u.test = { s.test with code := 0x04, parked := false } ∧ { u with test := s.test } = s ∧ (s.boot.rstN = false → u.pinsDriven = some s.test.boundary) ∧
        (s.boot.rstN = true → u.pinsDriven = none)) ∧
    (∀ (s : State), s.boot.powered = true →
      ∃ u, exec (.jtagHighz) s = .next u ∧
        u.test = { s.test with code := 0x05, parked := false } ∧ { u with test := s.test } = s ∧ u.pinsHighZ = !s.boot.rstN ∧ u.pinsDriven = none) ∧
    (∀ (code : Nat) (s : State), s.boot.powered = true → testCodes.contains (code % 256) = false →
      ∃ u, exec (.jtagBypass code) s = .next u ∧
        u.test = { s.test with code := code % 256, parked := false } ∧ { u with test := s.test } = s ∧ u.pinsDriven = none ∧ u.pinsHighZ = false) ∧
    (∀ (code : Nat) (s : State), testCodes.contains (code % 256) = true →
      ∃ u, exec (.jtagBypass code) s = .next u ∧ u = s) ∧
    (∀ (s : State),
      ∃ u, exec (.jtagTestLogicReset) s = .next u ∧
        u = { s with test := { TestPort.reset with boundary := s.test.boundary } }) ∧
    (∀ (pins bits code : Nat) (i : Instr) (s : State), s.boot.powered = false →
        (i = .jtagIdcode ∨ i = .jtagSamplePreload pins bits ∨ i = .jtagExtest bits ∨ i = .jtagClamp ∨ i = .jtagHighz ∨ i = .jtagBypass code) →
      ∃ u, exec i s = .next u ∧ u = s)

/-- O55. Management commands that read, and what each transaction leaves. With the port answering, the PEC right, the block of its command's length
and no response unread, each command that reads is answered at once: the response holds TAG, STATUS 0 and the bytes of Table 18.1, and memory stays.
GET_ID changes no register but MGT_CNT_0; GET_STATE leaves boot and power; READ_REG, of any register outside Midnight and of the island's in it
(else STATE), reads its value or its management latch (of ATP_WALK_CNT with the free number of walks that log entry 116 names), leaves the host's
latches, and, of another register than MGT_CNT_0 and ATP_WALK_CNT, leaves it; TELEMETRY outside boot and Midnight gives a page of Table 18.3, page 0
of 40 bytes, above 7 BAD_ARG, and pages 2 and 6 always, other pages BUSY in boot and, up to 7, STATE in Midnight; it leaves the latches; GET_VIEW
and READ_DMAP act outside boot and Midnight, BUSY and STATE there; GET_VIEW of a unit above 63 and READ_RECORD above 127 answer BAD_ARG; they leave
the Fault Unit, READ_DMAP the Repair Engine, and ALERT_STATUS its register. A code that Table 18.1 does not list completes BAD_CODE; a listed one
other than GET_ID's is another row's and changes nothing in GET_ID. A block of another length completes BAD_LENGTH; both are counted in MGT_CNT_4. A
bad PEC is counted in MGT_CNT_1, raises the alert and answers nothing. A response still unread is replaced by the new one. A port that does not
answer, or a block longer than 64 bytes, changes nothing. (R521, R522, R523, R524, R526, R527, R529, R531, R532, R534, R535) -/
def Obligations.ManagementReads : Prop :=
  (∀ (r : MgtReq) (s : State), Inv s → s.mgtHears r 0 →
      ∃ u, exec (.mgtGetId 1 r) s = .next u ∧
        u.mgtTold 1 r 0 s.idBytes ∧ u.reg 0xC0040 = BitVec.ofNat 32 (satAdd (2 ^ 32 - 1) (s.reg 0xC0040).toNat 1) ∧ (∀ off, off ≠ 0xC0040 → u.reg off = s.reg off) ∧ u.mem = s.mem) ∧
    (∀ (code : Byte) (r : MgtReq) (s : State), Inv s → s.mgtHears r r.args.length → r.args.length ≤ 63 → mgtCodes.contains code.toNat = false →
      ∃ u, exec (.mgtGetId code r) s = .next u ∧
        u.mgtTold code.toNat r 1 [] ∧ u.reg 0xC0050 = BitVec.ofNat 32 (satAdd (2 ^ 32 - 1) (s.reg 0xC0050).toNat 1) ∧ u.mem = s.mem) ∧
    (∀ (code : Byte) (r : MgtReq) (s : State), mgtCodes.contains code.toNat = true → code ≠ 1 →
      ∃ u, exec (.mgtGetId code r) s = .next u ∧ u = s) ∧
    (∀ (r : MgtReq) (i : Instr) (code len : Nat) (s : State), Inv s → mgtReadRow i r code len → s.mgtHears r r.args.length → r.args.length ≤ 63 → r.args.length ≠ len →
      ∃ u, exec i s = .next u ∧
        u.mgtTold code r 2 [] ∧ u.reg 0xC0050 = BitVec.ofNat 32 (satAdd (2 ^ 32 - 1) (s.reg 0xC0050).toNat 1) ∧ u.mem = s.mem) ∧
    (∀ (r : MgtReq) (i : Instr) (code len : Nat) (s : State), Inv s → mgtReadRow i r code len → s.mgtAnswers = true → r.pecOk = false → r.args.length ≤ 63 →
      ∃ u, exec i s = .next u ∧
        u.mgt.response = s.mgt.response ∧ u.mgt.lastCode = s.mgt.lastCode ∧ u.reg 0xC0044 = BitVec.ofNat 32 (satAdd (2 ^ 32 - 1) (s.reg 0xC0044).toNat 1) ∧
        u.rbit 0xC0008 16 = true ∧ u.mem = s.mem) ∧
    (∀ (r : MgtReq) (i : Instr) (code len : Nat) (s : State), mgtReadRow i r code len → s.mgtAnswers = true → r.pecOk = true → r.args.length ≤ 63 → s.mgt.unread = true →
      ∃ u, exec i s = .next u ∧
        u.mgt.unread = true ∧ u.mgt.tag = some r.tag.toNat ∧ u.mgt.lastCode = code ∧ u.mem = s.mem) ∧
    (∀ (r : MgtReq) (i : Instr) (code len : Nat) (s : State), mgtReadRow i r code len → (s.mgtAnswers = false ∨ 63 < r.args.length) →
      ∃ u, exec i s = .next u ∧ u = s) ∧
    (∀ (r : MgtReq) (s : State), s.mgtHears r 0 →
      ∃ u, exec (.mgtGetState r) s = .next u ∧
        u.mgtTold 2 r 0 s.stateBytes ∧ u.pwr = s.pwr ∧ u.boot = s.boot ∧ u.mem = s.mem) ∧
    (∀ (r : MgtReq) (s : State), s.mgtHears r 4 → (s.pwr.state ≠ .midnight ∨ alwaysOn (argNat r.args 0 4) = true) → argNat r.args 0 4 ≠ 0x9001C →
      ∃ u, exec (.mgtReadReg r) s = .next u ∧
        u.mgtTold 3 r 0 (leBytes 4 ((tabGet (fun _ => none) s.latchMgmt (argNat r.args 0 4)).getD (s.liveReg (argNat r.args 0 4))).toNat) ∧
        (argNat r.args 0 4 ≠ 0xC0040 → u.reg (argNat r.args 0 4) = s.reg (argNat r.args 0 4)) ∧ u.latchHost = s.latchHost ∧ u.mem = s.mem) ∧
    (∀ (r : MgtReq) (s : State), s.mgtHears r 4 → s.pwr.state ≠ .midnight → argNat r.args 0 4 = 0x9001C →
      ∃ u, exec (.mgtReadReg r) s = .next u ∧
        u.mgtTold 3 r 0 (leBytes 4 ((tabGet (fun _ => none) s.latchMgmt 0x9001C).getD (s.walksSeen.liveReg 0x9001C)).toNat) ∧ u.latchHost = s.latchHost ∧ u.mem = s.mem) ∧
    (∀ (r : MgtReq) (s : State), s.mgtHears r 4 → s.pwr.state = .midnight → alwaysOn (argNat r.args 0 4) = false →
      ∃ u, exec (.mgtReadReg r) s = .next u ∧ u.mgtTold 3 r 6 [] ∧ u.latchMgmt = s.latchMgmt ∧ u.latchHost = s.latchHost ∧ u.mem = s.mem) ∧
    (∀ (r : MgtReq) (s : State), s.mgtHears r 1 → s.booting = false → s.pwr.state ≠ .midnight →
      ∃ u, exec (.mgtTelemetry r) s = .next u ∧
        (1 ≤ argNat r.args 0 1 → argNat r.args 0 1 ≤ 7 → u.mgtTold 0x10 r 0 (s.page (argNat r.args 0 1))) ∧
        (argNat r.args 0 1 = 0 → ∃ bs, u.mgtTold 0x10 r 0 bs ∧ bs.length = 40) ∧ (7 < argNat r.args 0 1 → u.mgtTold 0x10 r 3 []) ∧
        u.latchHost = s.latchHost ∧ u.latchMgmt = s.latchMgmt ∧ u.mem = s.mem) ∧
    (∀ (r : MgtReq) (s : State), s.mgtHears r 1 → (argNat r.args 0 1 = 2 ∨ argNat r.args 0 1 = 6) →
      ∃ u, exec (.mgtTelemetry r) s = .next u ∧
        u.mgtTold 0x10 r 0 (s.page (argNat r.args 0 1)) ∧ u.latchHost = s.latchHost ∧ u.latchMgmt = s.latchMgmt ∧ u.mem = s.mem) ∧
    (∀ (r : MgtReq) (s : State), s.mgtHears r 1 → argNat r.args 0 1 ≠ 2 → argNat r.args 0 1 ≠ 6 → (s.booting = true ∨ (s.pwr.state = .midnight ∧ argNat r.args 0 1 ≤ 7)) →
      ∃ u, exec (.mgtTelemetry r) s = .next u ∧
        u.mgtTold 0x10 r (if s.booting = true then 5 else 6) [] ∧ u.latchHost = s.latchHost ∧ u.latchMgmt = s.latchMgmt ∧ u.mem = s.mem) ∧
    (∀ (r : MgtReq) (s : State), s.mgtHears r 1 → s.booting = false → s.pwr.state ≠ .midnight →
      ∃ u, exec (.mgtGetView r) s = .next u ∧
        (argNat r.args 0 1 ≤ 63 → u.mgtTold 0x11 r 0 (s.viewBytes (argNat r.args 0 1))) ∧ (63 < argNat r.args 0 1 → u.mgtTold 0x11 r 3 []) ∧ u.flt = s.flt ∧ u.mem = s.mem) ∧
    (∀ (r : MgtReq) (i : Instr) (code len : Nat) (s : State), s.mgtHears r len → ((i = .mgtGetView r ∧ code = 0x11 ∧ len = 1) ∨ (i = .mgtReadDmap r ∧ code = 0x31 ∧ len = 2)) →
        (s.booting = true ∨ s.pwr.state = .midnight) →
      ∃ u, exec i s = .next u ∧ u.mgtTold code r (if s.booting = true then 5 else 6) [] ∧ u.flt = s.flt ∧ u.rep = s.rep ∧ u.mem = s.mem) ∧
    (∀ (r : MgtReq) (s : State), s.mgtHears r 1 →
      ∃ u, exec (.mgtReadRecord r) s = .next u ∧
        (argNat r.args 0 1 ≤ 127 → u.mgtTold 0x30 r 0 ((List.range 8).flatMap fun w => leBytes 4 ((s.rec_ (argNat r.args 0 1)).word w))) ∧
        (127 < argNat r.args 0 1 → u.mgtTold 0x30 r 3 []) ∧ u.flt = s.flt ∧ u.mem = s.mem) ∧
    (∀ (r : MgtReq) (s : State), s.mgtHears r 2 → s.booting = false → s.pwr.state ≠ .midnight →
      ∃ u, exec (.mgtReadDmap r) s = .next u ∧
        u.mgtTold 0x31 r 0 ((List.range 4).flatMap fun k => leBytes 4 (s.dmapWord (argNat r.args 0 2) k)) ∧ u.rep = s.rep ∧ u.mem = s.mem) ∧
    (∀ (r : MgtReq) (s : State), s.mgtHears r 0 →
      ∃ u, exec (.mgtAlertStatus r) s = .next u ∧
        u.mgtTold 0x40 r 0 (leBytes 4 (s.liveReg 0xC0008).toNat) ∧ u.reg 0xC0008 = s.reg 0xC0008 ∧ u.mem = s.mem)

/-- O56. Management commands that write or request a transition. With the port answering, the PEC right, its length and no response unread, outside
boot, warm resets, Night exits and Midnight: WRITE_REG of a register that Table 18.4 does not list answers NOT_PERMITTED; one its rules ignore
REFUSED, another OK; of MGT_CFG it is taken and counted. SET_MGMT_VIEW sets that view and answers with it; RECONCILE to healthy of a failed data
path answers REFUSED, of another makes the management view healthy; to failed it answers with the view, a bank die's both failed; other units or
values answer BAD_ARG. SEQ_ABORT rolls back a bracket of no GROUP_FORM. POWER_REQ 1 to 4 ask for Noon, Dusk, Night and Midnight, others answer
BAD_ARG, 5 STATE; in Midnight 5 leaves it once it may, 1 to 4 answer STATE. WARM_RESET with its key begins the reset, BAD_ARG without it, BUSY
before READY. In Midnight views, RECONCILE, SEQ_ABORT and WARM_RESET answer STATE; in boot commands other than UNPIN and ALERT_ACK answer BUSY, in a
warm reset all. UNPIN, outside warm resets and Night exits, unpins the records. COLD_START, in every state, is due 5 ms later, BAD_ARG without its
key. In a Night exit writes wait for its end. Another length answers BAD_LENGTH; a bad PEC is counted and nothing answered; an unread response is
replaced; a port that does not answer, or a block longer than 64 bytes, changes nothing but COLD_START's time. (R460, R463, R465, R472, R522, R523,
R525, R527, R528, R530, R532, R533) -/
def Obligations.ManagementWrites : Prop :=
  (∀ (r : MgtReq) (s : State), Inv s → s.mgtHears r 8 → s.booting = false → s.boot.warm = false → ¬(s.pwr.state = .night ∧ s.pwr.exiting = true) →
      ∃ u, exec (.mgtWriteReg r) s = .next u ∧
        (s.mgtMay (argNat r.args 0 4) (BitVec.ofNat 32 (argNat r.args 4 4)) = false → u.mgtTold 4 r 4 [] ∧ u.mem = s.mem ∧ ∀ off, off ≠ 0xC0040 → off ≠ 0xC0050 → u.reg off = s.reg off) ∧
        (s.mgtMay (argNat r.args 0 4) (BitVec.ofNat 32 (argNat r.args 4 4)) = true →
          u.mgtTold 4 r (if s.wouldIgnore (argNat r.args 0 4) (BitVec.ofNat 32 (argNat r.args 4 4)) = true then 7 else 0) []) ∧
        (s.pwr.state ≠ .midnight → argNat r.args 0 4 = 0xC0000 → u.mgtTold 4 r 0 [] ∧ u.reg 0xC0000 = (s.reg 0xC0000 &&& 0xFFFE0000 ||| BitVec.ofNat 32 (argNat r.args 4 4) &&& 0x1FFFF) ∧
        u.reg 0xC0054 = BitVec.ofNat 32 (satAdd (2 ^ 32 - 1) (s.reg 0xC0054).toNat 1) ∧ u.mem = s.mem)) ∧
    (∀ (r : MgtReq) (s : State), s.mgtHears r 2 → s.mgtOpen → argNat r.args 0 1 < 52 → argNat r.args 1 1 ≤ 1 → tabWf (fun _ => false) s.flt.mgmt =
        true → tabWf (fun _ => false) s.flt.dp = true →
      ∃ u, exec (.mgtSetMgmtView r) s = .next u ∧
        u.mgmtFailed (argNat r.args 0 1) = decide (argNat r.args 1 1 = 1) ∧ u.dpFailed (argNat r.args 0 1) = s.dpFailed (argNat r.args 0 1) ∧
        u.mgtTold 0x12 r 0 (u.viewBytes (argNat r.args 0 1)) ∧ ((argNat r.args 0 1 < 36 ∨ 44 ≤ argNat r.args 0 1) → u.mem = s.mem)) ∧
    (∀ (r : MgtReq) (s : State), s.mgtHears r 2 → s.mgtOpen → (52 ≤ argNat r.args 0 1 ∨ 1 < argNat r.args 1 1) →
      ∃ u, exec (.mgtSetMgmtView r) s = .next u ∧ u.mgtTold 0x12 r 3 [] ∧ u.flt = s.flt ∧ u.mem = s.mem) ∧
    (∀ (r : MgtReq) (s : State), s.mgtHears r 2 → s.mgtOpen → argNat r.args 0 1 < 52 → argNat r.args 1 1 = 1 → tabWf (fun _ => false) s.flt.mgmt =
        true → tabWf (fun _ => false) s.flt.dp = true →
      ∃ u, exec (.mgtReconcile r) s = .next u ∧
        (s.dpFailed (argNat r.args 0 1) = true → u.mgtTold 0x13 r 7 [] ∧ u.dpFailed (argNat r.args 0 1) = true ∧ u.mgmtFailed (argNat r.args 0 1) = s.mgmtFailed (argNat r.args 0 1)) ∧
        (s.dpFailed (argNat r.args 0 1) = false → u.mgmtFailed (argNat r.args 0 1) = false ∧ u.mgtTold 0x13 r 0 (u.viewBytes (argNat r.args 0 1))) ∧ u.mem = s.mem) ∧
    (∀ (r : MgtReq) (s : State), s.mgtHears r 2 → s.mgtOpen → argNat r.args 0 1 < 52 → argNat r.args 1 1 = 2 →
      ∃ u, exec (.mgtReconcile r) s = .next u ∧
        u.mgtTold 0x13 r 0 (u.viewBytes (argNat r.args 0 1)) ∧ (argNat r.args 0 1 < 8 → u.dpFailed (argNat r.args 0 1) = true ∧ u.mgmtFailed (argNat r.args 0 1) = true ∧ u.mem = s.mem)) ∧
    (∀ (r : MgtReq) (s : State), s.mgtHears r 2 → s.mgtOpen → (52 ≤ argNat r.args 0 1 ∨ argNat r.args 1 1 = 0 ∨ 2 < argNat r.args 1 1) →
      ∃ u, exec (.mgtReconcile r) s = .next u ∧ u.mgtTold 0x13 r 3 [] ∧ u.flt = s.flt ∧ u.mem = s.mem) ∧
    (∀ (r : MgtReq) (b : Bracket) (s : State), s.mgtHears r 0 → s.mgtOpen → s.flt.bracket = some b → b.forms = [] → (s.lease
        resLock).waiting = [] → tabWf (fun _ => Lease.reset) s.flt.leases = true →
      ∃ u, exec (.mgtSeqAbort r) s = .next u ∧
        u.mgtTold 0x14 r 0 [] ∧ u.flt.bracket = none ∧ (u.lease resLock).holder = none ∧ (b.closeIdx = none → (u.ring b.ctx).br = .report (rollbackDetail 6 0 0)) ∧ u.mem = s.mem) ∧
    (∀ (r : MgtReq) (s : State), s.mgtHears r 0 → s.mgtOpen → s.flt.bracket = none →
      ∃ u, exec (.mgtSeqAbort r) s = .next u ∧ u.mgtTold 0x14 r 0 [] ∧ u.flt = s.flt ∧ u.mem = s.mem) ∧
    (∀ (r : MgtReq) (i : Instr) (s : State), s.mgtHears r 1 → s.mgtOpen → (i = .mgtPowerReq r ∨ i = .mgtMidnightExit r) →
      ∃ u, exec i s = .next u ∧
        (argNat r.args 0 1 = 0 ∨ 5 < argNat r.args 0 1 → u.mgtTold 0x20 r 3 [] ∧ u.pwr = s.pwr) ∧
        (argNat r.args 0 1 = 1 → u.mgtTold 0x20 r 0 [] ∧ u.pwr.pendingReq = 0 ∧ (s.asleep = true → u.pwr.exiting = true)) ∧
        (argNat r.args 0 1 = 2 → u.mgtTold 0x20 r 0 [] ∧ (s.awake = true → s.boot.done = true → s.duskIdle = true → s.pwr.pendingReq ≠ 3 → u.pwr.state = .dusk)) ∧
        (argNat r.args 0 1 = 3 → s.awake = true → u.mgtTold 0x20 r 0 [] ∧ u.pwr.pendingReq = 3 ∧ u.pwr.state = s.pwr.state) ∧
        (argNat r.args 0 1 = 4 → u.mgtTold 0x20 r 0 [] ∧ u.pwr.state = .midnight ∧ u.mem = []) ∧ (argNat r.args 0 1 = 5 → u.mgtTold 0x20 r 6 [] ∧ u.pwr = s.pwr)) ∧
    (∀ (r : MgtReq) (i : Instr) (s : State), s.mgtHears r 1 → s.pwr.state = .midnight → s.boot.warm = false → (i = .mgtPowerReq r ∨ i = .mgtMidnightExit r) →
      ∃ u, exec i s = .next u ∧
        (argNat r.args 0 1 = 5 → u.mgtTold 0x20 r 0 [] ∧ (s.mayLeaveMidnight = true → u.boot.midnightExit = true ∧ u.pwr.state = .noon ∧ u.boot.last = 10) ∧
          (s.mayLeaveMidnight = false → u.pwr = { s.pwr with exitAsked := true } ∧ u.boot = s.boot)) ∧
        (1 ≤ argNat r.args 0 1 → argNat r.args 0 1 ≤ 4 → u.mgtTold 0x20 r 6 [] ∧ u.pwr = s.pwr) ∧
        (argNat r.args 0 1 = 0 ∨ 5 < argNat r.args 0 1 → u.mgtTold 0x20 r 3 [] ∧ u.pwr = s.pwr) ∧ u.mem = s.mem) ∧
    (∀ (r : MgtReq) (s : State), s.mgtHears r 2 → s.mgtOpen →
      ∃ u, exec (.mgtWarmReset r) s = .next u ∧
        (s.boot.ready = true → argNat r.args 0 2 = 0x57A3 → u.mgtTold 0x21 r 0 [] ∧ u.boot.warm = true ∧ u.boot.ready = false ∧ u.boot.last = 9) ∧
        (s.boot.ready = true → argNat r.args 0 2 ≠ 0x57A3 → u.mgtTold 0x21 r 3 [] ∧ u.boot = s.boot ∧ u.mem = s.mem) ∧
        (s.boot.ready = false → u.mgtTold 0x21 r 5 [] ∧ u.boot = s.boot ∧ u.mem = s.mem)) ∧
    (∀ (r : MgtReq) (s : State), s.mgtHears r 0 → s.boot.warm = false → ¬(s.pwr.state = .night ∧ s.pwr.exiting = true) →
      ∃ u, exec (.mgtUnpin r) s = .next u ∧
        u.mgtTold 0x32 r 0 [] ∧ (∀ i, u.rec_ i = { s.rec_ i with pinned := false }) ∧ u.mem = s.mem) ∧
    (∀ (r : MgtReq) (i : Instr) (code len : Nat) (s : State), mgtWriteRow i r code len → s.mgtHears r len → s.boot.warm = false → s.pwr.state = .midnight →
        (code = 0x12 ∨ code = 0x13 ∨ code = 0x14 ∨ code = 0x21) →
      ∃ u, exec i s = .next u ∧ u.mgtTold code r 6 [] ∧ u.pwr = s.pwr ∧ u.boot = s.boot ∧ u.flt = s.flt ∧ u.mem = s.mem) ∧
    (∀ (r : MgtReq) (i : Instr) (code len : Nat) (s : State), mgtWriteRow i r code len → s.mgtHears r len → ¬(s.pwr.state = .night ∧ s.pwr.exiting = true) →
        (s.boot.warm = true ∨ (s.booting = true ∧ code ≠ 0x32 ∧ code ≠ 0x41)) →
      ∃ u, exec i s = .next u ∧ u.mgtTold code r 5 [] ∧ u.pwr = s.pwr ∧ u.boot = s.boot ∧ u.flt = s.flt ∧ u.mem = s.mem) ∧
    (∀ (r : MgtReq) (i : Instr) (code len : Nat) (s : State), mgtWriteRow i r code len → s.mgtAnswers = true → r.pecOk = true → r.args.length ≤ 63 → s.pwr.state = .night → s.pwr.exiting = true →
      ∃ u, exec i s = .next u ∧
        u.pwr.wakeWork = s.pwr.wakeWork ++ [i] ∧ u.mgt.response = none ∧ u.mgt.tag = some r.tag.toNat ∧ u.boot = s.boot ∧ u.flt = s.flt ∧ u.mem = s.mem) ∧
    (∀ (r : MgtReq) (i : Instr) (code len : Nat) (s : State), mgtWriteRow i r code len → s.mgtHears r r.args.length → r.args.length ≤ 63 → r.args.length ≠ len → ¬(s.pwr.state = .night ∧ s.pwr.exiting = true) →
      ∃ u, exec i s = .next u ∧ u.mgtTold code r 2 [] ∧ u.pwr = s.pwr ∧ u.boot = s.boot ∧ u.flt = s.flt ∧ u.mem = s.mem) ∧
    (∀ (r : MgtReq) (i : Instr) (code len : Nat) (s : State), Inv s → mgtWriteRow i r code len → s.mgtAnswers = true → r.pecOk = false → r.args.length ≤ 63 →
      ∃ u, exec i s = .next u ∧
        u.mgt.response = s.mgt.response ∧ u.reg 0xC0044 = BitVec.ofNat 32 (satAdd (2 ^ 32 - 1) (s.reg 0xC0044).toNat 1) ∧ u.pwr = s.pwr ∧ u.boot = s.boot ∧ u.flt = s.flt ∧ u.mem = s.mem) ∧
    (∀ (r : MgtReq) (i : Instr) (code len : Nat) (s : State), mgtWriteRow i r code len → s.mgtAnswers = true → r.pecOk = true → r.args.length ≤ 63 → s.mgt.unread = true →
        ¬(s.pwr.state = .night ∧ s.pwr.exiting = true) →
      ∃ u, exec i s = .next u ∧ u.mgt.unread = true ∧ u.mgt.tag = some r.tag.toNat ∧ u.mgt.lastCode = code) ∧
    (∀ (r : MgtReq) (i : Instr) (code len : Nat) (s : State), mgtWriteRow i r code len → (s.mgtAnswers = false ∨ 63 < r.args.length) →
      ∃ u, exec i s = .next u ∧ u = s) ∧
    (∀ (r : MgtReq) (t : Nat) (s : State), s.mgtHears r 2 →
      ∃ u, exec (.mgtColdStart r t) s = .next u ∧
        (argNat r.args 0 2 = 0xC01D → u.mgtTold 0x22 r 0 [] ∧ u.boot = { s.boot with coldAt := some (max s.clk t + 5000000) }) ∧
        (argNat r.args 0 2 ≠ 0xC01D → u.mgtTold 0x22 r 3 [] ∧ u.boot = s.boot) ∧ u.mem = s.mem) ∧
    (∀ (r : MgtReq) (t : Nat) (s : State), s.mgtAnswers = true → r.args.length ≤ 63 → (r.pecOk = false ∨ r.args.length ≠ 2) →
      ∃ u, exec (.mgtColdStart r t) s = .next u ∧
        u.boot = s.boot ∧ u.mem = s.mem ∧ (r.pecOk = false → u.mgt.response = s.mgt.response) ∧ (r.pecOk = true → u.mgtTold 0x22 r 2 [])) ∧
    (∀ (r : MgtReq) (t : Nat) (s : State), (s.mgtAnswers = false ∨ 63 < r.args.length) →
      ∃ u, exec (.mgtColdStart r t) s = .next u ∧ u = s.reachClk t) ∧
    (∀ (r : MgtReq) (t : Nat) (s : State), s.mgtAnswers = true → r.pecOk = true → r.args.length ≤ 63 → s.mgt.unread = true →
      ∃ u, exec (.mgtColdStart r t) s = .next u ∧ u.mgt.unread = true ∧ u.mgt.tag = some r.tag.toNat ∧ u.mgt.lastCode = 0x22 ∧ u.mem = s.mem)

/-- O57. ALERT_ACK, Block Reads, the alert response and bus timeouts. With the port answering, the PEC right, its length, no response unread, no
warm reset and no Night exit, ALERT_ACK clears the PEND bits of its mask, answers with what is left and leaves memory. A Block Read of a port that
answers sends the held response and keeps it, read, and leaves memory; the first read of an accepted COLD_START moves it to 1 ms after the read;
with no response held it answers NOT_READY under the newest command's TAG, which before any command is a free value. While MGT_ALERT_N is low the
alert response sends the port's address and releases the line; else it changes nothing. A bus timeout counts in MGT_CNT_2, raises the alert and,
with a buffer error, loses the response; memory stays. A port that does not answer sends nothing and changes nothing but the time of a Block Read.
(R522, R528, R529, R534) -/
def Obligations.ManagementBus : Prop :=
  (∀ (r : MgtReq) (s : State), Inv s → s.mgtHears r 4 → s.boot.warm = false → ¬(s.pwr.state = .night ∧ s.pwr.exiting = true) →
      ∃ u, exec (.mgtAlertAck r) s = .next u ∧
        u.reg 0xC0008 = s.reg 0xC0008 &&& ~~~BitVec.ofNat 32 (argNat r.args 0 4) ∧ u.mgtTold 0x41 r 0 (leBytes 4 (u.liveReg 0xC0008).toNat) ∧ u.mem = s.mem) ∧
    (∀ (t : Nat) (bs : List Byte) (s : State), s.mgtAnswers = true → s.mgt.response = some bs →
      ∃ u, exec (.mgtReadResponse t) s = .next u ∧
        u.sent = .mgtBlock bs :: s.sent ∧ u.mgt = { s.mgt with unread := false } ∧ u.mem = s.mem ∧
        u.boot = (if s.mgt.unread = true ∧ s.mgt.lastCode = 0x22 ∧ s.mgt.lastStatus = 0 ∧ s.boot.coldAt.isSome = true then { s.boot with coldAt := some (max s.clk t + 1000000) } else s.boot)) ∧
    (∀ (t g : Nat) (s : State), s.mgtAnswers = true → s.mgt.response = none → s.mgt.tag = some g →
      ∃ u, exec (.mgtReadResponse t) s = .next u ∧
        u = (s.reachClk t).send (.mgtBlock [BitVec.ofNat 8 g, 0x0F])) ∧
    (∀ (t : Nat) (s : State), s.mgtAnswers = true → s.mgt.response = none → s.mgt.tag = none →
      ∃ u, exec (.mgtReadResponse t) s = .next u ∧
        u = ((s.reachClk t).takeFree.2).send (.mgtBlock [BitVec.ofNat 8 (s.reachClk t).takeFree.1, 0x0F])) ∧
    (∀ (s : State), s.mgtAnswers = true → s.alertLow = true →
      ∃ u, exec (.mgtAlertResponse) s = .next u ∧
        u = { s with mgt := { s.mgt with released := true }, sent := .mgtAlert s.mgt.addr :: s.sent }) ∧
    (∀ (s : State), (s.mgtAnswers = false ∨ s.alertLow = false) →
      ∃ u, exec (.mgtAlertResponse) s = .next u ∧ u = s) ∧
    (∀ (ue : Bool) (s : State), Inv s → s.mgtAnswers = true →
      ∃ u, exec (.mgtBusTimeout ue) s = .next u ∧
        (ue = true → u.mgt.response = none ∧ u.mgt.unread = false) ∧ (ue = false → u.mgt.response = s.mgt.response) ∧
        u.reg 0xC0048 = BitVec.ofNat 32 (satAdd (2 ^ 32 - 1) (s.reg 0xC0048).toNat 1) ∧ u.rbit 0xC0008 16 = true ∧ u.mem = s.mem) ∧
    (∀ (ue : Bool) (s : State), s.mgtAnswers = false →
      ∃ u, exec (.mgtBusTimeout ue) s = .next u ∧ u = s) ∧
    (∀ (t : Nat) (s : State), s.mgtAnswers = false →
      ∃ u, exec (.mgtReadResponse t) s = .next u ∧ u = s.reachClk t)

/-- O58. A reserved offset reads as zero and a write to it changes nothing. No register lies at or above 0x10_0000, nor at 0x2030 + 0x40 c to 0x203C
+ 0x40 c. A 4-byte write to an aligned offset at which no register lies leaves the whole state as it was, HUB_ERR with it, whoever writes; a read
that reaches the registers answers zero, where the reader holds no latched value there. (R566) -/
def Obligations.ReservedOffsets : Prop :=
  (∀ off, 0x100000 ≤ off → regRow off = none) ∧
    (∀ c < 64, ∀ k < 4, regRow (0x2030 + 0x40 * c + 4 * k) = none) ∧
    (∀ (off : Nat) (v : Word) (who : Reader) (s : State), off % 4 = 0 → regRow off = none →
      (∃ u, exec (.registerWrite off v who) s = .next u ∧ u = s) ∧
      (s.reaches who off = true → tabGet (fun _ => none) (s.latches who) off = none →
        ∃ u, exec (.pairLoRead off who) s = .next u ∧ u.sent = .readData who off 0 :: s.sent ∧ u.regs = s.regs ∧ u.mem = s.mem))

/-- O59. The roots of the page tables are written only while the context is FREE. For every context c and value: while c is not FREE, neither the
row for its roots nor a register write, by host or management, changes either of its ATP_ROOT registers. While c is FREE and the host is served, a
write of ATP_ROOT_LO_c gives it bits [31:12] of the value, and one of ATP_ROOT_HI_c with VALID at 0 gives it bits [7:0]. (R175) -/
def Obligations.RootsOfFreeContexts : Prop :=
  (∀ (c : CtxId) (hi : Bool) (v : Word) (who : Reader) (i : Instr) (s : State), (s.ctx c.val).state ≠ .free →
      (i = .atpRootWrite c hi v who ∨ i = .registerWrite (if hi then 0x90104 + 8 * c.val else 0x90100 + 8 * c.val) v who) →
      ∃ u, exec i s = .next u ∧ u.reg (0x90100 + 8 * c.val) = s.reg (0x90100 + 8 * c.val) ∧ u.reg (0x90104 + 8 * c.val) = s.reg (0x90104 + 8 * c.val)) ∧
    (∀ (c : CtxId) (v : Word) (s : State), Inv s → s.served → (s.ctx c.val).state = .free →
      (∃ u, exec (.atpRootWrite c false v .host) s = .next u ∧ u.reg (0x90100 + 8 * c.val) = v &&& 0xFFFFF000) ∧
      (bitAt v.toNat 31 = false → ∃ u, exec (.atpRootWrite c true v .host) s = .next u ∧ u.reg (0x90104 + 8 * c.val) = v &&& 0xFF))

/-- O60. Writes of registers, accesses of BAR 0 of any width and place, and HUB_ERR. An aligned REGISTER_WRITE, outside a warm reset, by the host
while BAR 0 is served, or by the management controller where Table 18.4 permits it, to a register of the Combine, collective, engine, Special
Function Unit or management blocks sets its writable fields, clears the WOC bits written 1, releases the latches of its pair and changes nothing
else; where it would change a locked RWL field, HUB_ERR alone takes it. A row of its own for one register acts as the host's REGISTER_WRITE of that
register with its value. A management write that is not permitted or does not reach the registers, and a host write while BAR 0 is not served,
change nothing; in a warm reset HUB_ERR alone takes the write, but for the reset-lost mask. Host accesses of any width: a read across an 8-byte
boundary completes Unsupported Request and is recorded; one within one register answers the bytes asked for of the register read as a whole, one of
both registers reads the lower first. A write of a whole register is a REGISTER_WRITE, one of part of a register is recorded alone (CAUSE 2), at the
register, the lower register first; one that leaves its block of 8 bytes is recorded if it touches a register. Reserved offsets are ignored; an
access of no byte, or while BAR 0 is not served, changes nothing. HUB_ERR_CLEAR, by the host while BAR 0 is served or by the management controller,
clears HUB_ERR, and in a warm reset is ignored as any write. (R12, R95, R507, R530, R566, R567, R568, R569, R571, R572, R573) -/
def Obligations.RegisterAccess : Prop :=
  (∀ (off : Nat) (v : Word) (who : Reader) (r : RegRow) (s : State), Inv s → s.reaches who off = true → (who = .mgmt → s.mgtMay off v = true) →
      s.boot.warm = false → off % 4 = 0 → off / 0x10000 ∈ [0x4, 0x7, 0xA, 0xB, 0xC] → regRow off = some r →
      ((s.reg off ^^^ v) &&& BitVec.ofNat 32 r.rwl = 0 ∨ s.rwlOpen off = true) →
      ∃ u, exec (.registerWrite off v who) s = .next u ∧
        u.reg off = (s.reg off &&& ~~~BitVec.ofNat 32 (r.rw ||| r.rwl) ||| v &&& BitVec.ofNat 32 (r.rw ||| r.rwl)) &&& ~~~(v &&& BitVec.ofNat 32 r.woc) ∧
        (∀ o, o ≠ off → u.reg o = s.reg o) ∧ { u with regs := s.regs } = s.dropLatches off) ∧
    (∀ (off : Nat) (v : Word) (who : Reader) (r : RegRow) (s : State), s.reaches who off = true → (who = .mgmt → s.mgtMay off v = true) →
      s.boot.warm = false → off % 4 = 0 → off / 0x10000 ∈ [0x4, 0x7, 0xA, 0xB, 0xC] → regRow off = some r →
      (s.reg off ^^^ v) &&& BitVec.ofNat 32 r.rwl ≠ 0 → s.rwlOpen off = false →
      ∃ u, exec (.registerWrite off v who) s = .next u ∧ u = (s.dropLatches off).locked off who) ∧
    (∀ (i : Instr) (off : Nat) (v : Word) (s : State), ownWrite i = some (off, v) →
      ∃ u, exec (.registerWrite off v .host) s = .next u ∧ exec i s = .next u) ∧
    (∀ (off : Nat) (v : Word) (s : State), (s.reaches .mgmt off = false ∨ s.mgtMay off v = false) →
      ∃ u, exec (.registerWrite off v .mgmt) s = .next u ∧ u = s) ∧
    (∀ (off : Nat) (v : Word) (s : State), s.barServed = false →
      ∃ u, exec (.registerWrite off v .host) s = .next u ∧ u = s) ∧
    (∀ (off : Nat) (v : Word) (who : Reader) (s : State), s.reaches who off = true → (who = .mgmt → s.mgtMay off v = true) → s.boot.warm = true →
      off % 4 = 0 → off ≠ 0x510 → off ≠ 0x514 → (regRow off).isSome = true →
      ∃ u, exec (.registerWrite off v who) s = .next u ∧ u = s.locked off who) ∧
    (∀ (off : Nat) (v : Word) (s : State), off % 4 ≠ 0 →
      ∃ u, exec (.registerWrite off v .host) s = .next u ∧ exec (.bar0IllegalAccess true off 4 (leBytes 4 v.toNat)) s = .next u) ∧
    (∀ (off len : Nat) (data : List Byte) (s : State), Inv s → s.barServed = true → 0 < len → inBlock off len = false →
      ∃ u, exec (.bar0IllegalAccess false off len data) s = .next u ∧
        u.sent = .unsupported off :: s.sent ∧ (∀ o, o ≠ 4 → u.reg o = s.reg o) ∧ { u with regs := s.regs, sent := s.sent } = s ∧
        u.reg 4 = (if s.rbit 4 31 = true then s.reg 4 else BitVec.ofNat 32 (2 ^ 31 + 2 * 2 ^ 28 + off % 2 ^ 24))) ∧
    (∀ (off len : Nat) (data : List Byte) (s : State), s.barServed = true → 0 < len → off % 4 + len ≤ 4 →
      ∃ u, exec (.bar0IllegalAccess false off len data) s = .next u ∧
        ∃ s1 w, exec (.rcRead off) s = .next s1 ∧ s1.sent = .readData .host (off / 4 * 4) w :: s.sent ∧
          u = { s1 with sent := .readBytes off (((leBytes 4 w.toNat).drop (off % 4)).take len) :: s.sent }) ∧
    (∀ (off len : Nat) (data : List Byte) (s : State), s.barServed = true → inBlock off len = true → off % 8 < 4 → 4 < off % 8 + len →
      ∃ u, exec (.bar0IllegalAccess false off len data) s = .next u ∧
        ∃ s1 s2 w x, exec (.rcRead (off / 8 * 8)) s = .next s1 ∧ s1.sent = .readData .host (off / 8 * 8) w :: s.sent ∧
          exec (.rcRead (off / 8 * 8 + 4)) s1 = .next s2 ∧ s2.sent = .readData .host (off / 8 * 8 + 4) x :: s1.sent ∧
          u = { s2 with sent := .readBytes off (((leBytes 4 w.toNat ++ leBytes 4 x.toNat).drop (off % 8)).take len) :: s.sent }) ∧
    (∀ (off len : Nat) (data : List Byte) (s : State), s.barServed = true → off % 4 = 0 → data.length = 4 →
      ∃ u, exec (.bar0IllegalAccess true off len data) s = .next u ∧ exec (.registerWrite off (BitVec.ofNat 32 (leNat data)) .host) s = .next u) ∧
    (∀ (off len : Nat) (data : List Byte) (s : State), s.barServed = true → 0 < data.length → data.length < 4 → off % 4 + data.length ≤ 4 →
      ∃ u, exec (.bar0IllegalAccess true off len data) s = .next u ∧
        u = (if (regRow (off / 4 * 4)).isSome then s.hubErr (off / 4 * 4) 2 .host else s)) ∧
    (∀ (off len : Nat) (data : List Byte) (s : State), s.barServed = true → off % 8 < 4 → 4 < off % 8 + data.length → off % 8 + data.length ≤ 8 →
      ∃ u, exec (.bar0IllegalAccess true off len data) s = .next u ∧
        ∃ s1, (if off % 8 = 0 then exec (.registerWrite off (BitVec.ofNat 32 (leNat (data.take 4))) .host) s = .next s1
            else s1 = (if (regRow (off / 8 * 8)).isSome then s.hubErr (off / 8 * 8) 2 .host else s)) ∧
          (if off % 8 + data.length = 8 then
              exec (.registerWrite (off / 8 * 8 + 4) (BitVec.ofNat 32 (leNat (data.drop (4 - off % 8)))) .host) s1 = .next u
            else u = (if (regRow (off / 8 * 8 + 4)).isSome then s1.hubErr (off / 8 * 8 + 4) 2 .host else s1))) ∧
    (∀ (off len : Nat) (data : List Byte) (s : State), s.barServed = true → 0 < data.length → inBlock off data.length = false →
      ∃ u, exec (.bar0IllegalAccess true off len data) s = .next u ∧
        u = (if (List.range (data.length / 4 + 2)).any (fun k => (regRow (off / 4 * 4 + 4 * k)).isSome && decide (off / 4 * 4 + 4 * k < off + data.length))
          then s.hubErr off 2 .host else s)) ∧
    (∀ (write : Bool) (off len : Nat) (data : List Byte) (s : State),
      (s.barServed = false ∨ (write = true ∧ data = []) ∨ (write = false ∧ len = 0)) →
      ∃ u, exec (.bar0IllegalAccess write off len data) s = .next u ∧ u = s) ∧
    (∀ (who : Reader) (s : State), Inv s → (who = .host → s.barServed = true) → s.boot.warm = false →
      ∃ u, exec (.hubErrClear who) s = .next u ∧
        u.reg 4 = 0 ∧ (∀ o, o ≠ 4 → u.reg o = s.reg o) ∧ { u with regs := s.regs } = s.dropLatches 4) ∧
    (∀ (s : State), s.barServed = false →
      ∃ u, exec (.hubErrClear .host) s = .next u ∧ u = s) ∧
    (∀ (who : Reader) (s : State), (who = .host → s.barServed = true) → s.boot.warm = true →
      ∃ u, exec (.hubErrClear who) s = .next u ∧ u = s.locked 4 who)
end

