-- ==== Sys2Proof/Laws/Tab.lean ====
section
/-! SUPPORT. Laws/Tab.lean: sparse tables: what a read after a write gives, and that a write keeps the canonical form. -/

namespace Sys2Proof.Machine

variable {α : Type} [DecidableEq α] (d : Nat → α)

/-- Keys of a canonical table lie above a bound. -/
def Tab.above {α : Type} (k : Nat) : Tab α → Prop
  | [] => True
  | (i, _) :: _ => k < i

theorem tabWf_cons (k : Nat) (v : α) (t : Tab α) : tabWf d ((k, v) :: t) = true ↔ v ≠ d k ∧ Tab.above k t ∧ tabWf d t = true := by
  cases t with
  | nil => simp [tabWf, Tab.above]
  | cons e t => obtain ⟨k', v'⟩ := e; simp [tabWf, Tab.above, and_assoc]

theorem tabGet_above : ∀ (t : Tab α) (k : Nat), tabWf d t = true → Tab.above k t → tabGet d t k = d k
  | [], _, _, _ => rfl
  | (i, v) :: t, k, h, ha => by
    have hi : k < i := ha
    rw [tabWf_cons] at h
    have ht : Tab.above k t := by
      cases t with
      | nil => trivial
      | cons e t => exact Nat.lt_trans hi h.2.1
    rw [tabGet, if_neg (by omega)]
    exact tabGet_above t k h.2.2 ht

theorem tabGet_tabSet_same : ∀ (t : Tab α) (k : Nat) (v : α), tabWf d t = true → tabGet d (tabSet d t k v) k = v
  | [], k, v, _ => by
    by_cases h : v = d k <;> simp [tabSet, tabGet, h]
  | (i, w) :: t, k, v, hw => by
    rw [tabWf_cons] at hw
    unfold tabSet
    by_cases h1 : k < i
    · rw [if_pos h1]
      by_cases h : v = d k
      · subst h
        rw [if_pos rfl, tabGet, if_neg (by omega)]
        have : Tab.above k t := by
          cases t with
          | nil => trivial
          | cons e t => exact Nat.lt_trans h1 hw.2.1
        exact tabGet_above d t k hw.2.2 this
      · rw [if_neg h, tabGet, if_pos rfl]
    · rw [if_neg h1]
      by_cases h2 : k = i
      · subst h2
        rw [if_pos rfl]
        by_cases h : v = d k
        · subst h
          rw [if_pos rfl]
          exact tabGet_above d t k hw.2.2 hw.2.1
        · rw [if_neg h, tabGet, if_pos rfl]
      · rw [if_neg h2, tabGet, if_neg h2]
        exact tabGet_tabSet_same t k v hw.2.2

/-- A write leaves every other key alone. -/
theorem tabGet_tabSet_other : ∀ (t : Tab α) (k j : Nat) (v : α), j ≠ k → tabGet d (tabSet d t k v) j = tabGet d t j
  | [], k, j, v, hj => by
    by_cases h : v = d k <;> simp [tabSet, tabGet, h, hj]
  | (i, w) :: t, k, j, v, hj => by
    unfold tabSet
    split
    · split
      · rfl
      · rw [tabGet, if_neg hj]
    · split
      · next h2 =>
        subst h2
        split
        · rw [tabGet, if_neg hj]
        · rw [tabGet, if_neg hj, tabGet, if_neg hj]
      · rw [tabGet, tabGet, tabGet_tabSet_other t k j v hj]

/-- A value other than the unlisted one is read back from any table. -/
theorem tabGet_tabSet_ne : ∀ (t : Tab α) (k : Nat) (v : α), v ≠ d k → tabGet d (tabSet d t k v) k = v
  | [], k, v, hv => by simp [tabSet, tabGet, hv]
  | (i, w) :: t, k, v, hv => by
    unfold tabSet
    split
    · simp [tabGet]
    · split
      · simp [tabGet]
      · next h2 => rw [tabGet, if_neg h2, tabGet_tabSet_ne t k v hv]

theorem tabAbove_tail (i : Nat) (v : α) (t : Tab α) (j : Nat) (hw : tabWf d ((i, v) :: t) = true) (h : Tab.above j ((i, v) :: t)) :
    Tab.above j t := by
  rw [tabWf_cons] at hw
  cases t with
  | nil => trivial
  | cons e t => exact Nat.lt_trans h hw.2.1

theorem tabSet_above : ∀ (t : Tab α) (k j : Nat) (v : α), tabWf d t = true → Tab.above j t → j < k → Tab.above j (tabSet d t k v)
  | [], k, j, v, _, _, hj => by
    by_cases h : v = d k <;> simp [tabSet, Tab.above, h, hj]
  | (i, w) :: t, k, j, v, hw, ha, hj => by
    have hi : j < i := ha
    have ht := tabAbove_tail d i w t j hw ha
    unfold tabSet
    split
    · split
      · exact hi
      · exact hj
    · split
      · split
        · exact ht
        · exact hj
      · exact hi

/-- A write keeps the canonical form. -/
theorem tabWf_tabSet : ∀ (t : Tab α) (k : Nat) (v : α), tabWf d t = true → tabWf d (tabSet d t k v) = true
  | [], k, v, _ => by
    by_cases h : v = d k <;> simp [tabSet, tabWf, h]
  | (i, w) :: t, k, v, hw => by
    have hc := (tabWf_cons d i w t).1 hw
    unfold tabSet
    split
    · split
      · exact hw
      · next h1 h => exact (tabWf_cons d k v _).2 ⟨h, h1, hw⟩
    · split
      · next h1 h2 =>
        subst h2
        split
        · exact hc.2.2
        · next h => exact (tabWf_cons d k v t).2 ⟨h, hc.2.1, hc.2.2⟩
      · next h1 h2 =>
        exact (tabWf_cons d i w _).2 ⟨hc.1, tabSet_above d t k i v hc.2.2 hc.2.1 (by omega), tabWf_tabSet t k v hc.2.2⟩

theorem tabFilter_above (p : Nat × α → Bool) : ∀ (t : Tab α) (j : Nat), tabWf d t = true → Tab.above j t → Tab.above j (t.filter p)
  | [], _, _, _ => trivial
  | (i, w) :: t, j, hw, ha => by
    have ht := tabFilter_above p t j ((tabWf_cons d i w t).1 hw).2.2 (tabAbove_tail d i w t j hw ha)
    rw [List.filter_cons]
    split
    · exact ha
    · exact ht

/-- Dropping entries keeps the canonical form. -/
theorem tabWf_filter (p : Nat × α → Bool) : ∀ (t : Tab α), tabWf d t = true → tabWf d (t.filter p) = true
  | [], _ => rfl
  | (i, w) :: t, hw => by
    have hc := (tabWf_cons d i w t).1 hw
    rw [List.filter_cons]
    split
    · exact (tabWf_cons d i w _).2 ⟨hc.1, tabFilter_above d p t i hc.2.2 hc.2.1, tabWf_filter p t hc.2.2⟩
    · exact tabWf_filter p t hc.2.2

theorem tabMapFilter_above (f : α → α) : ∀ (t : Tab α) (j : Nat), tabWf d t = true → Tab.above j t →
    Tab.above j ((t.map (fun e => (e.1, f e.2))).filter (fun e => decide (e.2 ≠ d e.1)))
  | [], _, _, _ => trivial
  | (i, w) :: t, j, hw, ha => by
    have ht := tabMapFilter_above f t j ((tabWf_cons d i w t).1 hw).2.2 (tabAbove_tail d i w t j hw ha)
    rw [List.map_cons, List.filter_cons]
    split
    · exact ha
    · exact ht

/-- Changing every entry, and dropping those that come to read as unlisted, keeps the canonical form. -/
theorem tabWf_mapFilter (f : α → α) : ∀ (t : Tab α), tabWf d t = true →
    tabWf d ((t.map (fun e => (e.1, f e.2))).filter (fun e => decide (e.2 ≠ d e.1))) = true
  | [], _ => rfl
  | (i, w) :: t, hw => by
    have hc := (tabWf_cons d i w t).1 hw
    rw [List.map_cons, List.filter_cons]
    split
    · next h =>
      exact (tabWf_cons d i (f w) _).2 ⟨of_decide_eq_true h, tabMapFilter_above d f t i hc.2.2 hc.2.1, tabWf_mapFilter f t hc.2.2⟩
    · exact tabWf_mapFilter f t hc.2.2

/-- Two canonical tables that read alike at every key are the same table. -/
theorem tab_ext : ∀ (t u : Tab α), tabWf d t = true → tabWf d u = true → (∀ k, tabGet d t k = tabGet d u k) → t = u
  | [], [], _, _, _ => rfl
  | [], (i, v) :: u, _, hu, h => by
    have hc := (tabWf_cons d i v u).1 hu
    have := h i
    simp [tabGet] at this
    exact absurd this.symm hc.1
  | (i, v) :: t, [], ht, _, h => by
    have hc := (tabWf_cons d i v t).1 ht
    have := h i
    simp [tabGet] at this
    exact absurd this hc.1
  | (i, v) :: t, (j, w) :: u, ht, hu, h => by
    have hct := (tabWf_cons d i v t).1 ht
    have hcu := (tabWf_cons d j w u).1 hu
    have hij : i = j := by
      rcases Nat.lt_trichotomy i j with hlt | heq | hgt
      · have := h i
        rw [tabGet_above d ((j, w) :: u) i hu hlt] at this
        simp [tabGet] at this
        exact absurd this hct.1
      · exact heq
      · have := h j
        rw [tabGet_above d ((i, v) :: t) j ht hgt] at this
        simp [tabGet] at this
        exact absurd this.symm hcu.1
    subst hij
    have hv : v = w := by
      have := h i
      simpa [tabGet] using this
    subst hv
    congr 1
    apply tab_ext t u hct.2.2 hcu.2.2
    intro k
    have hk := h k
    simp only [tabGet] at hk
    by_cases hki : k = i
    · subst hki
      rw [tabGet_above d t k hct.2.2 hct.2.1, tabGet_above d u k hcu.2.2 hcu.2.1]
    · simpa [hki] using hk

/-- A table written key by key. -/
theorem tabWf_foldl (f : Tab α → Nat → α) : ∀ (l : List Nat) (t : Tab α), tabWf d t = true →
    tabWf d (l.foldl (fun t n => tabSet d t n (f t n)) t) = true
  | [], _, h => h
  | _ :: l, _, h => tabWf_foldl f l _ (tabWf_tabSet _ _ _ _ h)

end Sys2Proof.Machine
end

