-- ==== Sys2Proof/Laws/Moves.lean ====
section
/-! SUPPORT. Laws/Moves.lean: what an operation of the package can do to the state, said once as a relation between the state before and after: outside the parts of a
mask nothing changes, the queue is untouched, the clock, the free values and what was sent only grow, and the invariant is kept. Here stand the relation, how
operations follow one another, and the operations that write what the invariant speaks of; the other operations follow in Laws/Moves*.lean, one lemma each. -/

namespace Sys2Proof.Machine

/-- A part of the state is the same before and after; of memory, the list of written bytes. -/
def Part.kept (p : Part) (s t : State) : Prop :=
  match p with
  | .memory => t.mem = s.mem
  | p => p.same s t

/-- From `s` to `t` only the parts whose bits `m` holds changed (bit `i` is the `i`-th part), nothing that only grows fell, and the invariant was kept. -/
structure Moves (m : Nat) (s t : State) : Prop where
  off : ∀ p : Part, m.testBit p.ctorIdx = false → p.kept s t
  queue : t.pending = s.pending
  clk : s.clk ≤ t.clk
  free : s.free ≤ t.free
  sent : s.sent <:+ t.sent
  inv : Inv s → Inv t

/-- The same of a command's outcome: of its next state, where it answers one. -/
def MovesR (m : Nat) (s : State) (r : Result) : Prop := ∀ t, r = .next t → Moves m s t

/-- The same of an answer that may be no state. -/
def MovesO (m : Nat) (s : State) (r : Option State) : Prop := ∀ t, r = some t → Moves m s t

/-- The same of a state that comes with another value. -/
def MovesP {α : Type} (m : Nat) (s : State) (p : α × State) : Prop := Moves m s p.2

/-- The same of a state that comes before another value. -/
def MovesF {α : Type} (m : Nat) (s : State) (p : State × α) : Prop := Moves m s p.1

/-- The same of a state that comes with two other values. -/
def MovesQ {α β : Type} (m : Nat) (s : State) (p : α × β × State) : Prop := Moves m s p.2.2

/-- The same of what a descriptor's start answers. -/
def MovesT (m : Nat) (s : State) : Started → Prop
  | .no t => Moves m s t
  | .go _ t => Moves m s t

variable {m n : Nat} {o s t : State} {α β : Type}

theorem Part.kept.same {p : Part} (h : p.kept s t) : p.same s t := by
  cases p <;> first | exact h | exact fun a => congrArg (tabGet memDefault · a) h

theorem Part.kept_refl (p : Part) (s : State) : p.kept s s := by cases p <;> rfl

theorem Part.kept_trans {p : Part} (h : p.kept o s) (h' : p.kept s t) : p.kept o t := by
  cases p <;> exact Eq.trans h' h

theorem Moves.refl (m : Nat) (s : State) : Moves m s s :=
  ⟨fun p _ => p.kept_refl s, rfl, Nat.le_refl _, Nat.le_refl _, List.suffix_refl _, id⟩

/-- A bit outside a mask lies outside every mask within it. -/
theorem bit_within {i : Nat} (e : m ||| n = m) (h : m.testBit i = false) : n.testBit i = false := by
  rw [← e, Nat.testBit_or] at h
  exact (Bool.or_eq_false_iff.mp h).2

/-- A mask within a mask within a mask. -/
theorem within {a b : Nat} (hab : a ||| b = a) (hm : m ||| a = m) : m ||| b = m := by
  rw [← hm, Nat.or_assoc, hab]

/-- One operation after another, each within the mask. -/
theorem Moves.then (h' : Moves n s t) (e : m ||| n = m) (h : Moves m o s) : Moves m o t :=
  ⟨fun p b => Part.kept_trans (h.off p b) (h'.off p (bit_within e b)), h'.queue.trans h.queue, Nat.le_trans h.clk h'.clk, Nat.le_trans h.free h'.free,
    h.sent.trans h'.sent, fun i => h'.inv (h.inv i)⟩

theorem Moves.mono (h : Moves n s t) (e : m ||| n = m) : Moves m s t := h.then e (.refl m s)

theorem Moves.ite {c : Prop} [Decidable c] {a b : State} (ha : Moves m o a) (hb : Moves m o b) : Moves m o (if c then a else b) := by
  split <;> assumption

theorem Moves.dite {c : Prop} [Decidable c] {a : c → State} {b : ¬c → State} (ha : ∀ h, Moves m o (a h)) (hb : ∀ h, Moves m o (b h)) :
    Moves m o (if h : c then a h else b h) := by
  by_cases h : c
  · rw [dif_pos h]
    exact ha h
  · rw [dif_neg h]
    exact hb h

theorem Moves.foldl {f : State → α → State} (l : List α) (h : Moves m o s) (hf : ∀ x a, Moves m o x → Moves m o (f x a)) : Moves m o (l.foldl f s) := by
  induction l generalizing s with
  | nil => exact h
  | cons a l ih => exact ih (hf s a h)

theorem MovesR.next (h : Moves m o s) : MovesR m o (.next s) := fun t e => by cases e; exact h

theorem MovesR.fault {f : Fault} : MovesR m o (.fault f) := fun _ e => nomatch e

theorem MovesR.refused {f : Refusal} : MovesR m o (.refused f) := fun _ e => nomatch e

theorem MovesR.then {r : Result} (h' : MovesR n s r) (e : m ||| n = m) (h : Moves m o s) : MovesR m o r := fun t x => (h' t x).then e h

theorem MovesR.of {r : Result} (h : MovesR m o r) (e : r = .next t) : Moves m o t := h t e

theorem MovesR.ite {c : Prop} [Decidable c] {a b : Result} (ha : MovesR m o a) (hb : MovesR m o b) : MovesR m o (if c then a else b) := by
  split <;> assumption

theorem MovesO.none : MovesO m o none := fun _ e => nomatch e

theorem MovesO.some (h : Moves m o s) : MovesO m o (some s) := fun t e => by cases e; exact h

theorem MovesO.then {r : Option State} (h' : MovesO n s r) (e : m ||| n = m) (h : Moves m o s) : MovesO m o r := fun t x => (h' t x).then e h

theorem MovesO.of {r : Option State} (h : MovesO m o r) (e : r = Option.some t) : Moves m o t := h t e

theorem MovesO.getD {r : Option State} (h : MovesO m o r) (h' : Moves m o s) : Moves m o (r.getD s) := by
  cases r with
  | none => exact h'
  | some t => exact h t rfl

theorem MovesO.ite {c : Prop} [Decidable c] {a b : Option State} (ha : MovesO m o a) (hb : MovesO m o b) : MovesO m o (if c then a else b) := by
  split <;> assumption

theorem MovesO.findSome {f : α → Option State} (l : List α) (hf : ∀ a, MovesO m o (f a)) : MovesO m o (l.findSome? f) := fun _ e => by
  obtain ⟨a, -, ha⟩ := List.exists_of_findSome?_eq_some e
  exact hf a _ ha

theorem MovesO.bind {f : α → Option State} {x : Option α} (hf : ∀ a, MovesO m o (f a)) : MovesO m o (x.bind f) := by
  cases x with
  | none => exact .none
  | some a => exact hf a

theorem MovesO.map {f : State → State} {x : Option State} (h : MovesO m o x) (hf : ∀ t, Moves m o t → Moves m o (f t)) : MovesO m o (x.map f) := by
  cases x with
  | none => exact .none
  | some t => exact .some (hf t (h t rfl))

theorem MovesP.mk {a : α} (h : Moves m o s) : MovesP m o (a, s) := h

theorem MovesP.then {p : α × State} (h' : MovesP n s p) (e : m ||| n = m) (h : Moves m o s) : MovesP m o p := Moves.then h' e h

theorem MovesP.snd {p : α × State} (h : MovesP m o p) : Moves m o p.2 := h

theorem MovesP.of {a : α} {p : α × State} (h : MovesP m o p) (e : p = (a, t)) : Moves m o t := by subst e; exact h

theorem MovesP.ite {c : Prop} [Decidable c] {a b : α × State} (ha : MovesP m o a) (hb : MovesP m o b) : MovesP m o (if c then a else b) := by
  split <;> assumption

theorem MovesP.foldl {f : β × State → α → β × State} (l : List α) {p : β × State} (h : MovesP m o p)
    (hf : ∀ x a, MovesP m o x → MovesP m o (f x a)) : MovesP m o (l.foldl f p) := by
  induction l generalizing p with
  | nil => exact h
  | cons a l ih => exact ih (hf p a h)

theorem MovesF.mk {a : α} (h : Moves m o s) : MovesF m o (s, a) := h

theorem MovesF.then {p : State × α} (h' : MovesF n s p) (e : m ||| n = m) (h : Moves m o s) : MovesF m o p := Moves.then h' e h

theorem MovesF.fst {p : State × α} (h : MovesF m o p) : Moves m o p.1 := h

theorem MovesF.of {a : α} {p : State × α} (h : MovesF m o p) (e : p = (t, a)) : Moves m o t := by subst e; exact h

theorem MovesF.ite {c : Prop} [Decidable c] {a b : State × α} (ha : MovesF m o a) (hb : MovesF m o b) : MovesF m o (if c then a else b) := by
  split <;> assumption

theorem MovesF.foldl {f : State × β → α → State × β} (l : List α) {p : State × β} (h : MovesF m o p)
    (hf : ∀ x a, MovesF m o x → MovesF m o (f x a)) : MovesF m o (l.foldl f p) := by
  induction l generalizing p with
  | nil => exact h
  | cons a l ih => exact ih (hf p a h)

theorem MovesQ.mk {a : α} {b : β} (h : Moves m o s) : MovesQ m o (a, b, s) := h

theorem MovesQ.then {p : α × β × State} (h' : MovesQ n s p) (e : m ||| n = m) (h : Moves m o s) : MovesQ m o p := Moves.then h' e h

theorem MovesQ.of {a : α} {b : β} {p : α × β × State} (h : MovesQ m o p) (e : p = (a, b, t)) : Moves m o t := by subst e; exact h

theorem MovesQ.ite {c : Prop} [Decidable c] {a b : α × β × State} (ha : MovesQ m o a) (hb : MovesQ m o b) : MovesQ m o (if c then a else b) := by
  split <;> assumption

theorem MovesT.no (h : Moves m o s) : MovesT m o (.no s) := h

theorem MovesT.go {d : Desc} (h : Moves m o s) : MovesT m o (.go d s) := h

theorem MovesT.then {x : Started} (h' : MovesT n s x) (e : m ||| n = m) (h : Moves m o s) : MovesT m o x := by
  cases x <;> exact Moves.then h' e h

theorem MovesT.ofNo {x : Started} (h : MovesT m o x) (e : x = .no t) : Moves m o t := by subst e; exact h

theorem MovesT.ofGo {x : Started} {d : Desc} (h : MovesT m o x) (e : x = .go d t) : Moves m o t := by subst e; exact h

theorem MovesT.ite {c : Prop} [Decidable c] {a b : Started} (ha : MovesT m o a) (hb : MovesT m o b) : MovesT m o (if c then a else b) := by
  split <;> assumption

/-- What the relation speaks of beside the mask: the queue, what only grows, and what the invariant reads. -/
def State.spoken (s : State) : (List Instr × Nat × Nat × List Out) × (List Host.Cell × Tab Word × List Event × Nat × List Rec × Nat) ×
    (Tab Bank × Tab Ring × Tab Ctx × Tab (Option Word) × Tab (Option Word)) :=
  ((s.pending, s.clk, s.free, s.sent), (s.mem, s.regs, s.host.evq, s.host.lost, s.flt.retained, s.mgt.addr),
    (s.banks, s.rings, s.ctxs, s.latchHost, s.latchMgmt))

/-- A step that writes only parts within the mask and nothing that the relation speaks of. -/
theorem Moves.put (h : Moves m o s) (hf : ∀ p : Part, m.testBit p.ctorIdx = false → p.kept s t) (e : t.spoken = s.spoken) : Moves m o t := by
  simp only [State.spoken, Prod.mk.injEq] at e
  obtain ⟨⟨e1, e2, e3, e4⟩, ⟨e5, e6, e7, e8, e9, e10⟩, e11, e12, e13, e14, e15⟩ := e
  refine ⟨fun p b => Part.kept_trans (h.off p b) (hf p b), e1.trans h.queue, e2 ▸ h.clk, e3 ▸ h.free, e4 ▸ h.sent, fun i => ?_⟩
  have i := h.inv i
  have tb := i.tables
  refine ⟨e5 ▸ i.mem, e6 ▸ i.regs, e7 ▸ i.evq, e8 ▸ i.lost, e9 ▸ i.retained, e10 ▸ i.addr, ?_⟩
  unfold State.tablesWf at tb ⊢
  rw [e11, e12, e13, e14, e15]
  exact tb

/-- A bit that the mask holds is no bit outside it. -/
theorem bit_in {i : Nat} {P : Prop} (e : m ||| 2 ^ i = m) : m.testBit i = false → P := fun h => by
  have := bit_within e h
  rw [Nat.testBit_two_pow_self] at this
  exact absurd this (by decide)

/-! ### One field written -/

theorem Moves.held (x : List Out) (e : m ||| 0x10 = m) (h : Moves m o s) : Moves m o { s with held := x } :=
  h.put (fun p => by cases p <;> first | exact fun _ => rfl | exact bit_in e) rfl

theorem Moves.day (x : DayUnit) (e : m ||| 0x200 = m) (h : Moves m o s) : Moves m o { s with day := x } :=
  h.put (fun p => by cases p <;> first | exact fun _ => rfl | exact bit_in e) rfl

/-- The Host Interface, with the events that wait and the lost count as they were. -/
theorem Moves.host (x : HostIf) (e : m ||| 0x800 = m) (hx : x.evq = s.host.evq ∧ x.lost = s.host.lost) (h : Moves m o s) :
    Moves m o { s with host := x } :=
  h.put (fun p => by cases p <;> first | exact fun _ => rfl | exact bit_in e) (by simp [State.spoken, hx])

/-- Chapter 15's state, with the records kept over a cold start as they were. -/
theorem Moves.flt (x : FltUnit) (e : m ||| 0x4000 = m) (hx : x.retained = s.flt.retained) (h : Moves m o s) : Moves m o { s with flt := x } :=
  h.put (fun p => by cases p <;> first | exact fun _ => rfl | exact bit_in e) (by simp [State.spoken, hx])

theorem Moves.boot (x : Boot) (e : m ||| 0x8000 = m) (h : Moves m o s) : Moves m o { s with boot := x } :=
  h.put (fun p => by cases p <;> first | exact fun _ => rfl | exact bit_in e) rfl

/-- The Management Port, with its address as it was. -/
theorem Moves.mgt (x : MgtUnit) (e : m ||| 0x10000 = m) (hx : x.addr = s.mgt.addr) (h : Moves m o s) : Moves m o { s with mgt := x } :=
  h.put (fun p => by cases p <;> first | exact fun _ => rfl | exact bit_in e) (by simp [State.spoken, hx])

theorem Moves.atp (x : AtpUnit) (e : m ||| 0x20000 = m) (h : Moves m o s) : Moves m o { s with atp := x } :=
  h.put (fun p => by cases p <;> first | exact fun _ => rfl | exact bit_in e) rfl

theorem Moves.ing (x : IngestUnit) (e : m ||| 0x40000 = m) (h : Moves m o s) : Moves m o { s with ing := x } :=
  h.put (fun p => by cases p <;> first | exact fun _ => rfl | exact bit_in e) rfl

theorem Moves.work (x : WorkUnit) (e : m ||| 0x80000 = m) (h : Moves m o s) : Moves m o { s with work := x } :=
  h.put (fun p => by cases p <;> first | exact fun _ => rfl | exact bit_in e) rfl

theorem Moves.maps (x : UnitMaps) (e : m ||| 0x100000 = m) (h : Moves m o s) : Moves m o { s with maps := x } :=
  h.put (fun p => by cases p <;> first | exact fun _ => rfl | exact bit_in e) rfl

theorem Moves.cmb (x : CombineUnit) (e : m ||| 0x200000 = m) (h : Moves m o s) : Moves m o { s with cmb := x } :=
  h.put (fun p => by cases p <;> first | exact fun _ => rfl | exact bit_in e) rfl

theorem Moves.lnk (x : LinkUnit) (e : m ||| 0x400000 = m) (h : Moves m o s) : Moves m o { s with lnk := x } :=
  h.put (fun p => by cases p <;> first | exact fun _ => rfl | exact bit_in e) rfl

theorem Moves.col (x : ColUnit) (e : m ||| 0x800000 = m) (h : Moves m o s) : Moves m o { s with col := x } :=
  h.put (fun p => by cases p <;> first | exact fun _ => rfl | exact bit_in e) rfl

theorem Moves.pwr (x : PwrUnit) (e : m ||| 0x1000000 = m) (h : Moves m o s) : Moves m o { s with pwr := x } :=
  h.put (fun p => by cases p <;> first | exact fun _ => rfl | exact bit_in e) rfl

theorem Moves.rep (x : RepairUnit) (e : m ||| 0x2000000 = m) (h : Moves m o s) : Moves m o { s with rep := x } :=
  h.put (fun p => by cases p <;> first | exact fun _ => rfl | exact bit_in e) rfl

theorem Moves.test (x : TestPort) (e : m ||| 0x4000000 = m) (h : Moves m o s) : Moves m o { s with test := x } :=
  h.put (fun p => by cases p <;> first | exact fun _ => rfl | exact bit_in e) rfl

/-- The Host Interface, where the events that wait and the lost count stay within their bounds. -/
theorem Moves.hostIn (x : HostIf) (e : m ||| 0x800 = m) (hx : Inv s → x.evq.length ≤ 64 ∧ x.lost ≤ 0xFF) (h : Moves m o s) :
    Moves m o { s with host := x } :=
  .then (n := 0x800) (s := s) ⟨fun p => by cases p <;> first | exact fun _ => rfl | exact bit_in rfl, rfl, Nat.le_refl _, Nat.le_refl _, List.suffix_refl _,
    fun i => ⟨i.mem, i.regs, (hx i).1, (hx i).2, i.retained, i.addr, i.tables⟩⟩ e h

/-- Chapter 15's state, where at most eight records are kept over a cold start. -/
theorem Moves.fltIn (x : FltUnit) (e : m ||| 0x4000 = m) (hx : Inv s → x.retained.length ≤ 8) (h : Moves m o s) : Moves m o { s with flt := x } :=
  .then (n := 0x4000) (s := s) ⟨fun p => by cases p <;> first | exact fun _ => rfl | exact bit_in rfl, rfl, Nat.le_refl _, Nat.le_refl _, List.suffix_refl _,
    fun i => ⟨i.mem, i.regs, i.evq, i.lost, hx i, i.addr, i.tables⟩⟩ e h

/-- The Management Port, where its address is one of the four. -/
theorem Moves.mgtIn (x : MgtUnit) (e : m ||| 0x10000 = m) (hx : Inv s → 0x58 ≤ x.addr ∧ x.addr ≤ 0x5B) (h : Moves m o s) :
    Moves m o { s with mgt := x } :=
  .then (n := 0x10000) (s := s) ⟨fun p => by cases p <;> first | exact fun _ => rfl | exact bit_in rfl, rfl, Nat.le_refl _, Nat.le_refl _, List.suffix_refl _,
    fun i => ⟨i.mem, i.regs, i.evq, i.lost, i.retained, hx i, i.tables⟩⟩ e h

theorem State.setMgt_moves {x : MgtUnit} (e : m ||| 0x10000 = m) (hx : x.addr = s.mgt.addr) (h : Moves m o s) : Moves m o (s.setMgt x) := .mgt _ e hx h

/-- Free values used. -/
theorem Moves.freeUp (k : Nat) (e : m ||| 0x4 = m) (h : Moves m o s) : Moves m o { s with free := s.free + k } :=
  .then (n := 0x4) (s := s) ⟨fun p => by cases p <;> first | exact fun _ => rfl | exact bit_in rfl, rfl, Nat.le_refl _, Nat.le_add_right _ _,
    List.suffix_refl _, fun i => ⟨i.mem, i.regs, i.evq, i.lost, i.retained, i.addr, i.tables⟩⟩ e h

/-- Several fields written, of those that the invariant does not read whole. -/
theorem Moves.upd {held : List Out} {day : DayUnit} {host : HostIf} {flt : FltUnit} {boot : Boot} {mgt : MgtUnit} {atp : AtpUnit} {ing : IngestUnit}
    {work : WorkUnit} {maps : UnitMaps} {cmb : CombineUnit} {lnk : LinkUnit} {col : ColUnit} {pwr : PwrUnit} {rep : RepairUnit} {test : TestPort}
    (hf : ∀ p : Part, m.testBit p.ctorIdx = false → p.kept s (State.mk s.pending s.clk s.free s.sent held s.regs s.latchHost s.latchMgmt s.mem day
      s.banks host s.rings s.ctxs flt boot mgt atp ing work maps cmb lnk col pwr rep test))
    (e : (host.evq, host.lost, flt.retained, mgt.addr) = (s.host.evq, s.host.lost, s.flt.retained, s.mgt.addr)) (h : Moves m o s) :
    Moves m o (State.mk s.pending s.clk s.free s.sent held s.regs s.latchHost s.latchMgmt s.mem day s.banks host s.rings s.ctxs flt boot mgt atp ing
      work maps cmb lnk col pwr rep test) :=
  h.put hf (by simp only [Prod.mk.injEq] at e; simp [State.spoken, e])

end Sys2Proof.Machine
end

