-- ==== Sys2Proof/Laws/Memory.lean ====
section
/-! SUPPORT. Laws/Memory.lean: device memory: what a byte reads after a write, and that every operation over it keeps the canonical form. -/

namespace Sys2Proof.Machine

variable {s : State}

theorem byte_setByte_same (h : Memory.wf s.mem = true) (a : Nat) (b : Byte) : (s.setByte a b).byte a = b :=
  tabGet_tabSet_same memDefault s.mem a b h

theorem byte_setByte_other (s : State) {a x : Nat} (b : Byte) (hx : x ≠ a) : (s.setByte a b).byte x = s.byte x :=
  tabGet_tabSet_other memDefault s.mem a x b hx

theorem setByte_wf (h : Memory.wf s.mem = true) (a : Nat) (b : Byte) : Memory.wf (s.setByte a b).mem = true :=
  tabWf_tabSet memDefault s.mem a b h

theorem setBytes_wf : ∀ (bs : List Byte) (s : State) (a : Nat), Memory.wf s.mem = true → Memory.wf (s.setBytes a bs).mem = true
  | [], _, _, h => h
  | b :: bs, _, a, h => setBytes_wf bs _ (a + 1) (setByte_wf h a b)

theorem zeroRange_wf (h : Memory.wf s.mem = true) (lo hi : Nat) : Memory.wf (s.zeroRange lo hi).mem = true :=
  tabWf_filter memDefault _ s.mem h

/-- A write leaves every byte outside its range alone. -/
theorem byte_setBytes_other : ∀ (bs : List Byte) (s : State) (a x : Nat), x < a ∨ a + bs.length ≤ x → (s.setBytes a bs).byte x = s.byte x
  | [], _, _, _, _ => rfl
  | b :: bs, s, a, x, h => by
    have hx : x ≠ a := by simp only [List.length_cons] at h; omega
    rw [State.setBytes, byte_setBytes_other bs (s.setByte a b) (a + 1) x (by simp only [List.length_cons] at h; omega), byte_setByte_other s b hx]

/-- A read after a write gives what was written. -/
theorem byte_setBytes_same (bs : List Byte) : ∀ (s : State) (a i : Nat) (hi : i < bs.length), Memory.wf s.mem = true →
    (s.setBytes a bs).byte (a + i) = bs[i] := by
  induction bs with
  | nil => intro s a i hi _; exact absurd hi (Nat.not_lt_zero i)
  | cons b bs ih =>
    intro s a i hi h
    cases i with
    | zero =>
      rw [State.setBytes, byte_setBytes_other bs (s.setByte a b) (a + 1) (a + 0) (Or.inl (by omega))]
      exact byte_setByte_same h a b
    | succ i =>
      have := ih (s.setByte a b) (a + 1) i (by simpa using hi) (setByte_wf h a b)
      rw [State.setBytes, show a + (i + 1) = a + 1 + i by omega, this]
      rfl

theorem filter_get (p : Nat → Bool) (x : Nat) : ∀ (t : Tab Byte), Memory.wf t = true →
    tabGet memDefault (t.filter (fun e => p e.1)) x = if p x then tabGet memDefault t x else 0
  | [], _ => by simp [tabGet, memDefault]
  | (i, v) :: t, h => by
    have hc := (tabWf_cons memDefault i v t).1 h
    have ih := filter_get p x t hc.2.2
    by_cases hi : p i = true
    · by_cases hx : x = i
      · subst hx; simp [hi, tabGet]
      · simp [hi, tabGet, hx, ih]
    · by_cases hx : x = i
      · subst hx; simp [hi, ih]
      · simp [hi, tabGet, hx, ih]

/-- Zeroing a range leaves every byte outside it and makes those inside zero. -/
theorem byte_zeroRange (h : Memory.wf s.mem = true) (lo hi x : Nat) : (s.zeroRange lo hi).byte x = if lo ≤ x ∧ x < hi then 0 else s.byte x := by
  have := filter_get (fun e => decide (e < lo) || decide (hi ≤ e)) x s.mem h
  unfold State.byte State.zeroRange
  simp only at this ⊢
  rw [this]
  by_cases h1 : lo ≤ x ∧ x < hi
  · rw [if_pos h1, if_neg (by simp; omega)]
  · rw [if_neg h1, if_pos (by simp; omega)]

end Sys2Proof.Machine
end

