-- ==== Sys2Proof/Laws/MovesBase.lean ====
section
/-! SUPPORT. Laws/MovesBase.lean: what each operation and meaning of flags, device memory, bridges, the Switch, translation, accounting and the shared tables of the units can do (Laws/Moves.lean says what the relation means):
the least mask of parts it changes, one lemma per definition. -/

namespace Sys2Proof.Machine

/-! ### Machine/Flags.lean -/

theorem State.setReg_moves (s : State) (off : Nat) (w : Word) : Moves 0x20 s (State.setReg s off w) := by
  exact ⟨fun p => by cases p <;> first | exact fun _ => rfl | exact bit_in rfl, rfl, Nat.le_refl _, Nat.le_refl _, List.suffix_refl _,
    fun i => ⟨i.mem, tabWf_tabSet _ _ _ _ i.regs, i.evq, i.lost, i.retained, i.addr, i.tables⟩⟩

theorem State.setFld_moves (s : State) (off : Nat) (lo : Nat) (len : Nat) (v : Nat) : Moves 0x20 s (State.setFld s off lo len v) := by
  unfold State.setFld
  exact .then (State.setReg_moves ..) rfl <| .refl ..

theorem State.bump_moves (s : State) (off : Nat) (w : Nat) (n : Nat) : Moves 0x20 s (State.bump s off w n) := by
  unfold State.bump
  exact .then (State.setReg_moves ..) rfl <| .refl ..

theorem State.setReg64_moves (s : State) (off : Nat) (v : Nat) : Moves 0x20 s (State.setReg64 s off v) := by
  unfold State.setReg64
  exact .then (State.setReg_moves ..) rfl <| .then (State.setReg_moves ..) rfl <| .refl ..

theorem State.resetRow_moves (s : State) (k : Nat) : Moves 0x20 s (State.resetRow s k) := by
  exact ⟨fun p => by cases p <;> first | exact fun _ => rfl | exact bit_in rfl, rfl, Nat.le_refl _, Nat.le_refl _, List.suffix_refl _,
    fun i => ⟨i.mem, tabWf_filter _ _ _ i.regs, i.evq, i.lost, i.retained, i.addr, i.tables⟩⟩

theorem State.setCtx_moves (s : State) (c : Nat) (x : Ctx) : Moves 0x2000 s (State.setCtx s c x) := by
  exact ⟨fun p => by cases p <;> first | exact fun _ => rfl | exact bit_in rfl, rfl, Nat.le_refl _, Nat.le_refl _, List.suffix_refl _,
    fun i => ⟨i.mem, i.regs, i.evq, i.lost, i.retained, i.addr, i.tables.1, i.tables.2.1, tabWf_tabSet _ _ _ _ i.tables.2.2.1, i.tables.2.2.2⟩⟩

theorem State.setRing_moves (s : State) (c : Nat) (r : Ring) : Moves 0x1000 s (State.setRing s c r) := by
  exact ⟨fun p => by cases p <;> first | exact fun _ => rfl | exact bit_in rfl, rfl, Nat.le_refl _, Nat.le_refl _, List.suffix_refl _,
    fun i => ⟨i.mem, i.regs, i.evq, i.lost, i.retained, i.addr, i.tables.1, tabWf_tabSet _ _ _ _ i.tables.2.1, i.tables.2.2⟩⟩

theorem State.setBank_moves (s : State) (n : Nat) (b : Bank) : Moves 0x400 s (State.setBank s n b) := by
  exact ⟨fun p => by cases p <;> first | exact fun _ => rfl | exact bit_in rfl, rfl, Nat.le_refl _, Nat.le_refl _, List.suffix_refl _,
    fun i => ⟨i.mem, i.regs, i.evq, i.lost, i.retained, i.addr, tabWf_tabSet _ _ _ _ i.tables.1, i.tables.2⟩⟩

theorem State.setLease_moves (s : State) (res : Nat) (l : Lease) : Moves 0x4000 s (State.setLease s res l) := by
  unfold State.setLease
  exact .flt _ rfl rfl <| .refl ..

theorem State.setEpoch_moves (s : State) (res : Nat) (e : Nat) : Moves 0x4000 s (State.setEpoch s res e) := by
  unfold State.setEpoch
  exact .flt _ rfl rfl <| .refl ..

theorem State.takeFree_moves (s : State) : MovesP 0x4 s (State.takeFree s) := by
  exact ⟨fun p => by cases p <;> first | exact fun _ => rfl | exact bit_in rfl, rfl, Nat.le_refl _, Nat.le_succ _, List.suffix_refl _,
    fun i => ⟨i.mem, i.regs, i.evq, i.lost, i.retained, i.addr, i.tables⟩⟩

theorem State.send_moves (s : State) (o : Out) : Moves 0x8 s (State.send s o) := by
  exact ⟨fun p => by cases p <;> first | exact fun _ => rfl | exact bit_in rfl, rfl, Nat.le_refl _, Nat.le_refl _, List.suffix_cons _ _,
    fun i => ⟨i.mem, i.regs, i.evq, i.lost, i.retained, i.addr, i.tables⟩⟩

theorem State.toHost_moves (s : State) (o : Out) : Moves 0x18 s (State.toHost s o) := by
  unfold State.toHost
  exact .ite (.then (State.send_moves ..) rfl <| .refl ..) (.held _ rfl <| .refl ..)

theorem State.signalVector_moves (s : State) (v : Nat) : Moves 0x38 s (State.signalVector s v) := by
  unfold State.signalVector
  exact .ite (.then (State.setReg_moves ..) rfl <| .refl ..) (.then (State.toHost_moves ..) rfl <| .held _ rfl <| .refl ..)

theorem State.writeEvent_moves (s : State) : Moves 0x838 s (State.writeEvent s) := by
  unfold State.writeEvent
  split
  · exact .refl ..
  · rename_i e rest he
    refine .ite ?_ (.refl ..)
    extract_lets i a h1 t
    have ht : Moves 0x838 s t := .hostIn _ rfl (fun v => ⟨by
        have := v.evq
        rw [he, List.length_cons] at this
        show rest.length ≤ 64
        omega, v.lost⟩) (.refl ..)
    clear_value t
    exact .then (State.signalVector_moves ..) rfl <| .then (State.toHost_moves ..) rfl ht

theorem State.writeEvents_moves (s : State) (z1 : Nat) : Moves 0x838 s (State.writeEvents s z1) := by
  induction z1 generalizing s with
  | zero =>
    unfold State.writeEvents
    exact .refl ..
  | succ n0 ih =>
    unfold State.writeEvents
    exact .then (ih _) rfl <| .then (State.writeEvent_moves ..) rfl <| .refl ..

theorem State.event_moves (s : State) (source : Nat) (code : Nat) (ctx : Nat) (detail : Nat) : Moves 0x838 s (State.event s source code ctx detail) := by
  unfold State.event
  extract_lets e h1
  split
  · next hl =>
    exact .then (State.writeEvents_moves ..) rfl <|
      .hostIn _ rfl (fun v => ⟨List.length_append ▸ hl, v.lost⟩) (.refl ..)
  · exact .hostIn _ rfl (fun v => ⟨v.evq, Nat.min_le_left _ _⟩) (.refl ..)

theorem State.alert_moves (s : State) (b : Nat) : Moves 0x10020 s (State.alert s b) := by
  unfold State.alert
  refine .ite (.refl ..) ?_
  extract_lets +onlyGivenNames -merge u0
  have hu0 : Moves 0x10020 s u0 := .then (State.setFld_moves ..) rfl <| .refl ..
  clear_value u0
  exact .mgt _ rfl rfl hu0

theorem State.flag_moves (s : State) (off : Nat) (bit : Nat) (source : Nat) (ctx : Nat) (detail : Nat) : Moves 0x10838 s (State.flag s off bit source ctx detail) := by
  unfold State.flag
  exact .ite (.refl ..) (.then (State.alert_moves ..) rfl <| .then (State.event_moves ..) rfl <| .then (State.setFld_moves ..) rfl <| .refl ..)

theorem State.flagOpen_moves (s : State) (off : Nat) (bit : Nat) (source : Nat) (ctx : Nat) : Moves 0x1083C s (State.flagOpen s off bit source ctx) := by
  unfold State.flagOpen
  refine .ite (.refl ..) ?_
  split
  rename_i x0 x1 x2 x3
  exact .then (State.flag_moves ..) rfl <| MovesP.of (.then (State.takeFree_moves ..) rfl <| .refl ..) x3

theorem State.flagQuiet_moves (s : State) (off : Nat) (bit : Nat) (source : Nat) (ctx : Nat) : Moves 0x83C s (State.flagQuiet s off bit source ctx) := by
  unfold State.flagQuiet
  refine .ite (.refl ..) ?_
  split
  rename_i x0 x1 x2 x3
  exact .then (State.event_moves ..) rfl <| .then (State.setFld_moves ..) rfl <| MovesP.of (.then (State.takeFree_moves ..) rfl <| .refl ..) x3

theorem kept_length (l : List Rec) (r : Rec) (h : l.length ≤ 8) : ((l ++ [r]).drop (l.length - 7)).length ≤ 8 := by
  rw [List.length_drop, List.length_append, List.length_singleton]
  omega

theorem State.putRecord_moves (s : State) (class_ source code ctx unit detail : Nat) : Moves 0x1483C s (State.putRecord s class_ source code ctx unit detail) := by
  unfold State.putRecord
  extract_lets r keep
  have hk : Inv s → keep.length ≤ 8 := fun v => by
    unfold keep
    split
    · exact kept_length _ _ v.retained
    · exact v.retained
  clear_value keep
  split
  · exact .then (State.bump_moves ..) rfl <| .then (State.flagOpen_moves ..) rfl <| .fltIn _ rfl hk (.refl ..)
  · exact .ite (.then (State.bump_moves ..) rfl <| .fltIn _ rfl hk (.refl ..)) (.fltIn _ rfl hk (.refl ..))

theorem State.record_moves (s : State) (class_ : Nat) (source : Nat) (code : Nat) (ctx : Nat) (unit : Nat) (detail : Nat) : Moves 0x1483C s (State.record s class_ source
  code ctx unit detail) := by
  unfold State.record
  extract_lets +onlyGivenNames -merge u0
  have hu0 : Moves 0x1483C s u0 := .then (State.putRecord_moves ..) rfl <| .refl ..
  clear_value u0
  exact .ite (.then (State.bump_moves ..) rfl hu0) hu0

theorem State.disagree_moves (s : State) (v : Nat) : Moves 0x14838 s (State.disagree s v) := by
  unfold State.disagree
  extract_lets +onlyGivenNames -merge u0 u1 u2
  have hu2 : Moves 0x14838 s u2 := .flt _ rfl rfl <| .refl ..
  clear_value u2
  exact .then (State.flag_moves ..) rfl <| .then (State.bump_moves ..) rfl hu2

theorem State.setViews_moves (s : State) (v : Nat) (dp : Bool) (mgmt : Bool) : Moves 0x1483C s (State.setViews s v dp mgmt) := by
  unfold State.setViews
  extract_lets +onlyGivenNames -merge u0 u1 u2 u3
  have hu3 : Moves 0x1483C s u3 := .flt _ rfl rfl <| .refl ..
  clear_value u3
  extract_lets +onlyGivenNames -merge u4
  have hu4 : Moves 0x1483C s u4 := .ite hu3 (.then (State.record_moves ..) rfl hu3)
  clear_value u4
  extract_lets +onlyGivenNames -merge u5
  have hu5 : Moves 0x1483C s u5 := .ite hu4 (.then (State.record_moves ..) rfl hu4)
  clear_value u5
  exact .ite (.then (State.disagree_moves ..) rfl hu5) hu5

theorem State.setDp_moves (s : State) (v : Nat) (failed : Bool) : Moves 0x1483C s (State.setDp s v failed) := by
  unfold State.setDp
  exact .then (State.setViews_moves ..) rfl <| .refl ..

theorem State.setMgmt_moves (s : State) (v : Nat) (failed : Bool) : Moves 0x1483C s (State.setMgmt s v failed) := by
  unfold State.setMgmt
  exact .then (State.setViews_moves ..) rfl <| .refl ..

theorem State.hubErr_moves (s : State) (off : Nat) (cause : Nat) (who : Reader) : Moves 0x20 s (State.hubErr s off cause who) := by
  unfold State.hubErr
  exact .ite (.refl ..) (.then (State.setReg_moves ..) rfl <| .refl ..)

theorem State.locked_moves (s : State) (off : Nat) (who : Reader) : Moves 0x20 s (State.locked s off who) := by
  unfold State.locked
  exact .then (State.hubErr_moves ..) rfl <| .refl ..

theorem State.dropLatches_moves (s : State) (off : Nat) : Moves 0xC0 s (State.dropLatches s off) := by
  unfold State.dropLatches
  exact ⟨fun p => by cases p <;> first | exact fun _ => rfl | exact bit_in rfl, rfl, Nat.le_refl _, Nat.le_refl _, List.suffix_refl _,
    fun i => ⟨i.mem, i.regs, i.evq, i.lost, i.retained, i.addr, i.tables.1, i.tables.2.1, i.tables.2.2.1, tabWf_filter _ _ _ i.tables.2.2.2.1,
      tabWf_filter _ _ _ i.tables.2.2.2.2⟩⟩

theorem State.onWrite_moves {m : Nat} {o : State} {s : State} {off : Nat} {who : Reader} {f : State → State} (em : m ||| 0xE0 = m) (h0 : Moves m o s) (hf : ∀ y0,
  Moves m o y0 → Moves m o (f y0)) : Moves m o (State.onWrite s off who f) := by
  unfold State.onWrite
  exact .ite h0 (.ite (.then (State.locked_moves ..) (within rfl em) h0) (hf _ <| .then (State.dropLatches_moves ..) (within rfl em) h0))

theorem State.lostBit_moves (s : State) (k : Nat) : Moves 0x20 s (State.lostBit s k) := by
  unfold State.lostBit
  exact .ite (.then (State.setFld_moves ..) rfl <| .refl ..) (.then (State.setFld_moves ..) rfl <| .refl ..)

theorem State.loseRows_moves (s : State) (ks : List Nat) : Moves 0x20 s (State.loseRows s ks) := by
  unfold State.loseRows
  exact .foldl _ (.refl ..) fun _ _ hx0 => .then (State.lostBit_moves ..) rfl <| .then (State.resetRow_moves ..) rfl hx0

/-! ### Machine/Ops.lean -/

theorem State.setByte_moves (s : State) (a : Nat) (b : Byte) : Moves 0x100 s (State.setByte s a b) := by
  exact ⟨fun p => by cases p <;> first | exact fun _ => rfl | exact bit_in rfl, rfl, Nat.le_refl _, Nat.le_refl _, List.suffix_refl _,
    fun i => ⟨tabWf_tabSet _ _ _ _ i.mem, i.regs, i.evq, i.lost, i.retained, i.addr, i.tables⟩⟩

theorem State.setBytes_moves (s : State) (a : Nat) (z2 : List Byte) : Moves 0x100 s (State.setBytes s a z2) := by
  induction z2 generalizing s a with
  | nil =>
    unfold State.setBytes
    exact .refl ..
  | cons a0 l0 ih =>
    unfold State.setBytes
    exact .then (ih _ _) rfl <| .then (State.setByte_moves ..) rfl <| .refl ..

theorem State.zeroRange_moves (s : State) (lo : Nat) (hi : Nat) : Moves 0x100 s (State.zeroRange s lo hi) := by
  exact ⟨fun p => by cases p <;> first | exact fun _ => rfl | exact bit_in rfl, rfl, Nat.le_refl _, Nat.le_refl _, List.suffix_refl _,
    fun i => ⟨tabWf_filter _ _ _ i.mem, i.regs, i.evq, i.lost, i.retained, i.addr, i.tables⟩⟩

theorem State.signalRing_moves (s : State) (c : Nat) : Moves 0x1038 s (State.signalRing s c) := by
  unfold State.signalRing
  extract_lets +onlyGivenNames -merge u0
  exact .then (State.signalVector_moves ..) rfl <| .then (State.setRing_moves ..) rfl <| .refl ..

theorem State.drained_moves (s : State) (c : Nat) : Moves 0x1000 s (State.drained s c) := by
  unfold State.drained
  extract_lets +onlyGivenNames -merge u0
  exact .ite (.then (State.setRing_moves ..) rfl <| .refl ..) (.refl ..)

theorem State.writeCpl_moves (s : State) (c : Nat) : Moves 0x1038 s (State.writeCpl s c) := by
  unfold State.writeCpl
  split
  · exact .refl ..
  · refine .ite ?_ ?_
    · extract_lets +onlyGivenNames -merge u6 u7 u8 u9 u10 u11 u12 u13
      have hu13 : Moves 0x1038 s u13 := .then (State.toHost_moves ..) rfl <| .then (State.setRing_moves ..) rfl <| .refl ..
      clear_value u13
      exact .then (State.drained_moves ..) rfl <| .ite (.then (State.signalRing_moves ..) rfl hu13) hu13
    · exact .refl ..

theorem State.writeCpls_moves (s : State) (c : Nat) (z2 : Nat) : Moves 0x1038 s (State.writeCpls s c z2) := by
  induction z2 generalizing s c with
  | zero =>
    unfold State.writeCpls
    exact .refl ..
  | succ n0 ih =>
    unfold State.writeCpls
    exact .then (ih _ _) rfl <| .then (State.writeCpl_moves ..) rfl <| .refl ..

theorem State.setDesc_moves (s : State) (c : Nat) (d : Desc) : Moves 0x1000 s (State.setDesc s c d) := by
  unfold State.setDesc
  extract_lets +onlyGivenNames -merge u0
  exact .then (State.setRing_moves ..) rfl <| .refl ..

theorem State.unreserve_moves (s : State) (p : Reservation → Bool) : Moves 0x1000020 s (State.unreserve s p) := by
  unfold State.unreserve
  extract_lets +onlyGivenNames -merge u0
  refine .ite ?_ ?_
  · extract_lets +onlyGivenNames -merge u1
    exact .then (State.setReg_moves ..) rfl <| .pwr _ rfl <| .refl ..
  · exact .refl ..

theorem State.endDesc_moves (s : State) (c : Nat) (idx : Nat) (code : Nat) (detail : Nat) (epoch : Nat) : Moves 0x1001020 s (State.endDesc s c idx code detail epoch)
  := by
  unfold State.endDesc
  extract_lets +onlyGivenNames -merge u0
  have hu0 : Moves 0x1001020 s u0 := .then (State.unreserve_moves ..) rfl <| .refl ..
  clear_value u0
  split
  · exact .then (State.setDesc_moves ..) rfl hu0
  · exact hu0

theorem State.bindLive_moves (s : State) (c : Nat) (idx : Nat) : Moves 0x40000 s (State.bindLive s c idx) := by
  unfold State.bindLive
  exact .ing _ rfl <| .refl ..

theorem State.complete_moves (s : State) (c : Nat) (d : Desc) (code : Nat) (detail : Nat) (epoch : Nat) :
    Moves 0x41038 s (State.complete s c d code detail epoch) := by
  unfold State.complete
  extract_lets +onlyGivenNames -merge u0
  have hu0 : Moves 0x41038 s u0 := .then (State.bindLive_moves ..) rfl <| .refl ..
  clear_value u0
  extract_lets +onlyGivenNames -merge u1 u2
  refine .ite (.then (State.drained_moves ..) rfl <| .then (State.setRing_moves ..) rfl hu0) ?_
  extract_lets +onlyGivenNames -merge u3 u4
  exact .then (State.writeCpls_moves ..) rfl <| .then (State.setRing_moves ..) rfl hu0

theorem State.completeNone_moves (s : State) (c : Nat) (code : Nat) (detail : Nat) : Moves 0x1038 s (State.completeNone s c code detail) := by
  unfold State.completeNone
  extract_lets +onlyGivenNames -merge u0 u1
  exact .then (State.writeCpls_moves ..) rfl <| .then (State.setRing_moves ..) rfl <| .refl ..

theorem State.grantLease_moves (s : State) (res : Nat) (c : Nat) (gen : Nat) (n : Nat) : Moves 0x4000 s (State.grantLease s res c gen n) := by
  unfold State.grantLease
  exact .then (State.setLease_moves ..) rfl <| .then (State.setEpoch_moves ..) rfl <| .refl ..

theorem State.grantNext_moves (s : State) (res : Nat) : Moves 0x1005020 s (State.grantNext s res) := by
  unfold State.grantNext
  split
  · exact .refl ..
  · extract_lets +onlyGivenNames -merge u9 u10
    have hu10 : Moves 0x1005020 s u10 := .then (State.grantLease_moves ..) rfl <| .then (State.setLease_moves ..) rfl <| .refl ..
    clear_value u10
    exact .then (State.endDesc_moves ..) rfl hu10

theorem State.fence_moves (s : State) (res : Nat) (ctx : Nat) : Moves 0x101583C s (State.fence s res ctx) := by
  unfold State.fence
  extract_lets +onlyGivenNames -merge u0 u1
  have hu1 : Moves 0x101583C s u1 := .then (State.setLease_moves ..) rfl <| .then (State.setEpoch_moves ..) rfl <| .refl ..
  clear_value u1
  exact .then (State.grantNext_moves ..) rfl <| .then (State.record_moves ..) rfl hu1

theorem State.staleUse_moves (s : State) (c : Nat) (d : Desc) (res : Nat) : Moves 0x1001020 s (State.staleUse s c d res) := by
  unfold State.staleUse
  exact .then (State.endDesc_moves ..) rfl <| .then (State.bump_moves ..) rfl <| .refl ..

theorem State.rollback_moves (s : State) (det : Nat) : Moves 0x101583C s (State.rollback s det) := by
  unfold State.rollback
  split
  · exact .refl ..
  · extract_lets +onlyGivenNames -merge u5 u6
    have hu6 : Moves 0x101583C s u6 := .flt _ rfl rfl <| .refl ..
    clear_value u6
    extract_lets +onlyGivenNames -merge u7
    have hu7 : Moves 0x101583C s u7 := .then (State.fence_moves ..) rfl hu6
    clear_value u7
    extract_lets +onlyGivenNames -merge u8
    have hu8 : Moves 0x101583C s u8 := .then (State.bump_moves ..) rfl <| .then (State.record_moves ..) rfl hu7
    clear_value u8
    exact .then (State.flagOpen_moves ..) rfl hu8

theorem State.rollbackReport_moves (s : State) (b : Bracket) (det : Nat) : Moves 0x1001020 s (State.rollbackReport s b det) := by
  unfold State.rollbackReport
  split
  · exact .then (State.endDesc_moves ..) rfl <| .refl ..
  · exact .then (State.setRing_moves ..) rfl <| .refl ..

/-! ### Machine/Bridge.lean -/

theorem State.sendFrame_moves (s : State) (n : Nat) (toBank : Bool) (ack : Nat × Nat) : Moves 0x408 s (State.sendFrame s n toBank ack) := by
  unfold State.sendFrame
  extract_lets +onlyGivenNames -merge u0
  refine .ite (.refl ..) ?_
  split
  split
  extract_lets +onlyGivenNames -merge u9
  split
  refine .ite (.then (State.send_moves ..) rfl <| .then (State.setBank_moves ..) rfl <| .refl ..) ?_
  extract_lets +onlyGivenNames -merge u14
  exact .then (State.send_moves ..) rfl <| .then (State.setBank_moves ..) rfl <| .refl ..

theorem State.bridgeRun_moves (s : State) (n : Nat) (toBank : Bool) (z3 : Nat) : Moves 0x408 s (State.bridgeRun s n toBank z3) := by
  induction z3 generalizing s n toBank with
  | zero =>
    unfold State.bridgeRun
    exact .refl ..
  | succ n0 ih =>
    unfold State.bridgeRun
    extract_lets +onlyGivenNames -merge u0
    exact .ite (.then (ih _ _ _) rfl <| .then (State.sendFrame_moves ..) rfl <| .refl ..) (.refl ..)

theorem State.pumpBridge_moves (s : State) (n : Nat) (toBank : Bool) : Moves 0x408 s (State.pumpBridge s n toBank) := by
  unfold State.pumpBridge
  exact .then (State.bridgeRun_moves ..) rfl <| .refl ..

theorem State.bridgePut_moves (s : State) (n : Nat) (toBank : Bool) (vc : Nat) (slots : List (List Byte)) : Moves 0x408 s (State.bridgePut s n toBank vc slots)
  := by
  unfold State.bridgePut
  extract_lets +onlyGivenNames -merge u0 u1
  exact .then (State.pumpBridge_moves ..) rfl <| .then (State.setBank_moves ..) rfl <| .refl ..

theorem State.replayBridge_moves (s : State) (n : Nat) (toBank : Bool) : Moves 0x8 s (State.replayBridge s n toBank) := by
  unfold State.replayBridge
  exact .foldl _ (.refl ..) fun _ _ hx0 => .then (State.send_moves ..) rfl hx0

theorem State.sendCtl_moves (s : State) (n : Nat) (kind : Nat) (day : Nat) (minute : Nat) : Moves 0x408 s (State.sendCtl s n kind day minute) := by
  unfold State.sendCtl
  exact .then (State.bridgePut_moves ..) rfl <| .refl ..

theorem State.frameReturns_moves (s : State) (n : Nat) (toBank : Bool) (sb : Nat) : Moves 0x408 s (State.frameReturns s n toBank sb) := by
  unfold State.frameReturns
  extract_lets +onlyGivenNames -merge u0 u1 u2 u3
  have hu3 : Moves 0x408 s u3 := .then (State.setBank_moves ..) rfl <| .refl ..
  clear_value u3
  exact .then (State.pumpBridge_moves ..) rfl <| .ite (.then (State.replayBridge_moves ..) rfl hu3) hu3

theorem State.takeFrame_moves (s : State) (n : Nat) (toBank : Bool) (frame : List Byte) : Moves 0x408 s (State.takeFrame s n toBank frame) := by
  unfold State.takeFrame
  extract_lets +onlyGivenNames -merge u0 u1 u2 u3 u4
  have hu4 : Moves 0x408 s u4 := .then (State.setBank_moves ..) rfl <| .refl ..
  clear_value u4
  exact .then (State.sendFrame_moves ..) rfl <| .then (State.send_moves ..) rfl hu4

theorem State.holdWrite_moves (s : State) (n : Nat) (w : HeldWrite) : Moves 0x400 s (State.holdWrite s n w) := by
  unfold State.holdWrite
  exact .then (State.setBank_moves ..) rfl <| .refl ..

/-! ### Machine/Switch.lean -/

theorem State.setLnk_moves (s : State) (l : LinkUnit) : Moves 0x400000 s (State.setLnk s l) := by
  unfold State.setLnk
  exact .lnk _ rfl <| .refl ..

theorem State.setPort_moves (s : State) (p : Nat) (q : Port) : Moves 0x400000 s (State.setPort s p q) := by
  unfold State.setPort
  exact .then (State.setLnk_moves ..) rfl <| .refl ..

theorem State.lnkFlag_moves (s : State) (bit : Nat) (p : Nat) : Moves 0x10838 s (State.lnkFlag s bit p) := by
  unfold State.lnkFlag
  exact .then (State.flag_moves ..) rfl <| .refl ..

theorem State.lnkCount_moves (s : State) (p : Nat) (k : Nat) (n : Nat) : Moves 0x20 s (State.lnkCount s p k n) := by
  unfold State.lnkCount
  exact .then (State.bump_moves ..) rfl <| .refl ..

theorem State.portTo_moves (s : State) (p : Nat) (st : PortState) : Moves 0x410838 s (State.portTo s p st) := by
  unfold State.portTo
  exact .ite (.refl ..) (.then (State.lnkFlag_moves ..) rfl <| .then (State.setPort_moves ..) rfl <| .refl ..)

theorem State.retrainPort_moves (s : State) (p : Nat) : Moves 0x410838 s (State.retrainPort s p) := by
  unfold State.retrainPort
  extract_lets +onlyGivenNames -merge u0 u1
  have hu1 : Moves 0x410838 s u1 := .then (State.setPort_moves ..) rfl <| .refl ..
  clear_value u1
  exact .then (State.lnkFlag_moves ..) rfl <| .then (State.lnkCount_moves ..) rfl <| .then (State.portTo_moves ..) rfl hu1

theorem State.sendIdle_moves (s : State) (p : Nat) (cr : Nat × Bool × Nat) (ack : Nat × Nat) (slot : Nat) : Moves 0x28 s (State.sendIdle s p cr ack slot) := by
  unfold State.sendIdle
  exact .ite (.then (State.lnkCount_moves ..) rfl <| .then (State.send_moves ..) rfl <| .refl ..) (.refl ..)

theorem State.sendAck_moves (s : State) (p : Nat) (nack : Bool) (n : Nat) : Moves 0x28 s (State.sendAck s p nack n) := by
  unfold State.sendAck
  exact .then (State.sendIdle_moves ..) rfl <| .refl ..

theorem State.sendSlot_moves (s : State) (p : Nat) (v : Nat) : Moves 0x28 s (State.sendSlot s p v) := by
  unfold State.sendSlot
  exact .then (State.sendIdle_moves ..) rfl <| .refl ..

theorem State.giveCredit_moves (s : State) (p : Nat) (cls : Nat) (dl : Bool) : Moves 0x400028 s (State.giveCredit s p cls dl) := by
  unfold State.giveCredit
  refine .ite (.then (State.sendIdle_moves ..) rfl <| .refl ..) ?_
  extract_lets +onlyGivenNames -merge u0 u1
  exact .then (State.setPort_moves ..) rfl <| .refl ..

theorem State.payCredits_moves (s : State) (p : Nat) : Moves 0x400028 s (State.payCredits s p) := by
  unfold State.payCredits
  extract_lets +onlyGivenNames -merge u0
  refine .foldl _ (.then (State.setPort_moves ..) rfl <| .refl ..) fun x1 _ hx1 => ?_
  extract_lets +onlyGivenNames -merge u3
  have hu3 : Moves 0x400028 s u3 := .then (State.sendIdle_moves ..) rfl hx1
  clear_value u3
  exact .ite (.then (State.sendIdle_moves ..) rfl hu3) hu3

theorem State.enterDetect_moves (s : State) (p : Nat) : Moves 0x410838 s (State.enterDetect s p) := by
  unfold State.enterDetect
  extract_lets +onlyGivenNames -merge u0
  have hu0 : Moves 0x410838 s u0 := .then (State.portTo_moves ..) rfl <| .refl ..
  clear_value u0
  exact .then (State.send_moves ..) rfl hu0

theorem State.enterConfirm_moves (s : State) (p : Nat) : Moves 0x410838 s (State.enterConfirm s p) := by
  unfold State.enterConfirm
  exact .then (State.send_moves ..) rfl <| .then (State.portTo_moves ..) rfl <| .refl ..

theorem State.sendControl_moves (s : State) (p : Nat) : Moves 0x400028 s (State.sendControl s p) := by
  unfold State.sendControl
  extract_lets +onlyGivenNames -merge u0 u1
  exact .ite (.then (State.lnkCount_moves ..) rfl <| .then (State.send_moves ..) rfl <| .then (State.setPort_moves ..) rfl <| .refl ..) (.refl ..)

theorem State.sendFlit_moves (s : State) (p : Nat) (f0 : TxFlit) : Moves 0x400028 s (State.sendFlit s p f0) := by
  unfold State.sendFlit
  extract_lets +onlyGivenNames -merge u0 u1 u2 u3 u4 u5
  have hu5 : Moves 0x400028 s u5 := .then (State.lnkCount_moves ..) rfl <| .then (State.send_moves ..) rfl <| .then (State.setPort_moves ..) rfl <| .refl ..
  clear_value u5
  exact .ite (.then (State.giveCredit_moves ..) rfl hu5) hu5

theorem State.pump_moves (s : State) (p : Nat) (z2 : Nat) : Moves 0x400028 s (State.pump s p z2) := by
  induction z2 generalizing s p with
  | zero =>
    unfold State.pump
    exact .refl ..
  | succ n0 ih =>
    unfold State.pump
    split
    · exact .then (ih _ _) rfl <| .then (State.sendFlit_moves ..) rfl <| .refl ..
    · exact .refl ..

theorem State.enqueue_moves (s : State) (p : Nat) (fs : List TxFlit) : Moves 0x400028 s (State.enqueue s p fs) := by
  unfold State.enqueue
  extract_lets +onlyGivenNames -merge u0
  exact .then (State.pump_moves ..) rfl <| .then (State.setPort_moves ..) rfl <| .refl ..

theorem State.sendNear_moves (s : State) (p : Nat) (kind : MsgKind) (args : List Nat) : Moves 0x400028 s (State.sendNear s p kind args) := by
  unfold State.sendNear
  extract_lets +onlyGivenNames -merge u0
  exact .ite (.refl ..) (.then (State.enqueue_moves ..) rfl <| .refl ..)

theorem State.replay_moves (s : State) (p : Nat) : Moves 0x28 s (State.replay s p) := by
  unfold State.replay
  refine .foldl _ (.refl ..) fun x0 _ hx0 => ?_
  extract_lets +onlyGivenNames -merge u2
  exact .then (State.lnkCount_moves ..) rfl <| .then (State.lnkCount_moves ..) rfl <| .then (State.send_moves ..) rfl hx0

theorem State.openMsg_moves (s : State) (m : Msg) : Moves 0x400000 s (State.openMsg s m) := by
  unfold State.openMsg
  split
  · exact .then (State.setLnk_moves ..) rfl <| .refl ..
  · exact .refl ..

theorem State.holdMsg_moves (s : State) (m : Msg) : Moves 0x400000 s (State.holdMsg s m) := by
  unfold State.holdMsg
  exact .ite (.refl ..) (.ite (.then (State.setLnk_moves ..) rfl <| .refl ..) (.then (State.setLnk_moves ..) rfl <| .refl ..))

theorem State.sendMsg_moves (s : State) (m : Msg) : Moves 0x410838 s (State.sendMsg s m) := by
  unfold State.sendMsg
  refine .ite (.then (State.setLnk_moves ..) rfl <| .refl ..) ?_
  refine .ite ?_ ?_
  · extract_lets +onlyGivenNames -merge u0
    split
    · extract_lets +onlyGivenNames -merge u3 u4
      have hu4 : Moves 0x410838 s u4 := .ite (.then (State.lnkFlag_moves ..) rfl <| .then (State.lnkCount_moves ..) rfl <| .refl ..) (.refl ..)
      clear_value u4
      exact .then (State.holdMsg_moves ..) rfl hu4
    · exact .ite (.then (State.send_moves ..) rfl <| .then (State.openMsg_moves ..) rfl <| .refl ..) (.then (State.enqueue_moves ..) rfl <| .then
        (State.openMsg_moves ..) rfl <| .refl ..)
  · extract_lets +onlyGivenNames -merge u8
    exact .ite (.then (State.enqueue_moves ..) rfl <| .then (State.openMsg_moves ..) rfl <| .refl ..) (.refl ..)

theorem State.unpark_moves (s : State) : Moves 0x410838 s (State.unpark s) := by
  unfold State.unpark
  exact .foldl _ (.then (State.setLnk_moves ..) rfl <| .refl ..) fun _ _ hx0 => .then (State.sendMsg_moves ..) rfl hx0

theorem State.closeKey_moves (s : State) (k : Nat) : Moves 0x410838 s (State.closeKey s k) := by
  unfold State.closeKey
  extract_lets +onlyGivenNames -merge u0 u1 u2
  exact .then (State.unpark_moves ..) rfl <| .then (State.setLnk_moves ..) rfl <| .refl ..

theorem State.bounce_moves (s : State) (p : Nat) (cls : Nat) (dl : Bool) (src : Nat) (seg : Nat) (raw : List Byte) : Moves 0x410838 s (State.bounce s p cls dl src
  seg raw) := by
  unfold State.bounce
  refine .ite (.refl ..) ?_
  extract_lets +onlyGivenNames -merge u0 u1
  refine .ite ?_ ?_
  · extract_lets +onlyGivenNames -merge u2 u3
    have hu3 : Moves 0x410838 s u3 := .then (State.setLnk_moves ..) rfl <| .refl ..
    clear_value u3
    exact .then (State.sendMsg_moves ..) rfl <| .then (State.lnkFlag_moves ..) rfl <| .then (State.lnkCount_moves ..) rfl hu3
  · exact .then (State.setLnk_moves ..) rfl <| .refl ..

theorem State.takeData_moves (s : State) (p : Nat) (flit : List Byte) : Moves 0x410838 s (State.takeData s p flit) := by
  unfold State.takeData
  extract_lets +onlyGivenNames -merge u0 u1 u2 u3 u4
  refine .ite ?_ ?_
  · unfold u4
    exact .then (State.send_moves ..) rfl <| .then (State.giveCredit_moves ..) rfl <| .refl ..
  · refine .ite (.then (State.giveCredit_moves ..) rfl <| .refl ..) ?_
    split
    · exact .then (State.bounce_moves ..) rfl <| .then (State.giveCredit_moves ..) rfl <| .refl ..
    · refine .ite ?_ ?_
      · unfold u4
        exact .then (State.send_moves ..) rfl <| .then (State.giveCredit_moves ..) rfl <| .refl ..
      · exact .then (State.enqueue_moves ..) rfl <| .refl ..

theorem State.setTag_moves (s : State) (t : Nat) (r : Option RemoteReq) : Moves 0x400000 s (State.setTag s t r) := by
  unfold State.setTag
  exact .then (State.setLnk_moves ..) rfl <| .refl ..

theorem State.issueReq_moves (s : State) (r : RemoteReq) : Moves 0x410838 s (State.issueReq s r) := by
  unfold State.issueReq
  split
  · extract_lets +onlyGivenNames -merge u3
    exact .then (State.sendMsg_moves ..) rfl <| .then (State.setTag_moves ..) rfl <| .refl ..
  · exact .then (State.setLnk_moves ..) rfl <| .refl ..

theorem State.freeTag_moves (s : State) (t : Nat) : Moves 0x410838 s (State.freeTag s t) := by
  unfold State.freeTag
  extract_lets +onlyGivenNames -merge u0
  have hu0 : Moves 0x410838 s u0 := .then (State.closeKey_moves ..) rfl <| .then (State.setTag_moves ..) rfl <| .refl ..
  clear_value u0
  split
  · exact hu0
  · exact .then (State.issueReq_moves ..) rfl <| .then (State.setLnk_moves ..) rfl hu0

theorem State.remoteWrite_moves (s : State) (c : Nat) (va : Nat) (bs : List Byte) : Moves 0x410838 s (State.remoteWrite s c va bs) := by
  unfold State.remoteWrite
  refine .foldl _ (.refl ..) fun x0 _ hx0 => ?_
  split
  · exact .then (State.issueReq_moves ..) rfl hx0
  · exact hx0

theorem State.askRemote_moves (s : State) (c : Nat) (va : Nat) (n : Nat) : Moves 0x410838 s (State.askRemote s c va n) := by
  unfold State.askRemote
  extract_lets +onlyGivenNames -merge u0
  refine .foldl _ (.refl ..) fun x1 _ hx1 => ?_
  refine .ite hx1 ?_
  split
  · exact .then (State.issueReq_moves ..) rfl hx1
  · exact hx1

theorem State.remotely_moves {m : Nat} {o : State} {s : State} {c : Nat} {idx : Nat} {pos : Nat} {f : State → Result} (em : m ||| 0x410838 = m) (h0 : Moves m o s)
  (hf : ∀ y0, Moves m o y0 → MovesR m o (f y0)) : MovesR m o (State.remotely s c idx pos f) := by
  unfold State.remotely
  extract_lets +onlyGivenNames -merge u0 u1
  have hu1 : Moves m o u1 := .then (State.setLnk_moves ..) (within rfl em) h0
  clear_value u1
  extract_lets +onlyGivenNames -merge u2
  split
  · rename_i x3 x4 x5
    split
    · refine .next ?_
      unfold u2
      exact .then (State.setLnk_moves ..) (within rfl em) <| .then (State.askRemote_moves ..) (within rfl em) hu1
    · extract_lets +onlyGivenNames -merge u12
      refine .next ?_
      unfold u2
      exact .then (State.setLnk_moves ..) (within rfl em) <| .then (State.setLnk_moves ..) (within rfl em) <| MovesR.of (hf _ hu1) x5
  · exact hf _ hu1

/-! ### Machine/Atp.lean -/

theorem State.setPoison_moves (s : State) (sector : Nat) (p : Bool) : Moves 0x20000 s (State.setPoison s sector p) := by
  unfold State.setPoison
  exact .atp _ rfl <| .refl ..

theorem State.unpoison_moves (s : State) (lo : Nat) (hi : Nat) : Moves 0x20000 s (State.unpoison s lo hi) := by
  unfold State.unpoison
  exact .atp _ rfl <| .refl ..

theorem State.pwrite_moves (s : State) (pa : Nat) (bs : List Byte) : Moves 0x20100 s (State.pwrite s pa bs) := by
  unfold State.pwrite
  exact .then (State.unpoison_moves ..) rfl <| .then (State.setBytes_moves ..) rfl <| .refl ..

theorem State.zeroFill_moves (s : State) (pa : Nat) (n : Nat) : Moves 0x20100 s (State.zeroFill s pa n) := by
  unfold State.zeroFill
  exact .then (State.unpoison_moves ..) rfl <| .then (State.zeroRange_moves ..) rfl <| .refl ..

theorem State.dieWrite_moves (s : State) (w : HeldWrite) : Moves 0x20500 s (State.dieWrite s w) := by
  unfold State.dieWrite
  split
  · exact .then (State.holdWrite_moves ..) rfl <| .refl ..
  · exact .then (State.pwrite_moves ..) rfl <| .refl ..

theorem State.releaseWrites_moves (s : State) (n : Nat) : Moves 0x20500 s (State.releaseWrites s n) := by
  unfold State.releaseWrites
  extract_lets +onlyGivenNames -merge u0
  exact .foldl _ (.then (State.setBank_moves ..) rfl <| .refl ..) fun _ _ hx1 => .then (State.dieWrite_moves ..) rfl hx1

theorem State.writePieces_moves (s : State) (die : Nat) (c : Nat) (ing : Bool) (z4 : List (Nat × Nat)) (z5 : List Byte) : Moves 0x430D38 s (State.writePieces s die c
  ing z4 z5) := by
  induction z4 generalizing s die c ing z5 with
  | nil =>
    unfold State.writePieces
    exact .refl ..
  | cons a0 l0 ih =>
    unfold State.writePieces
    exact .then (ih _ _ _ _ _) rfl <| .ite (.then (State.remoteWrite_moves ..) rfl <| .refl ..) (.then (State.dieWrite_moves ..) rfl <| .refl ..)

theorem State.vwrite_moves (s : State) (cache : Nat) (c : Nat) (va : Nat) (bs : List Byte) (acc : Acc) (ing : Bool) : MovesF 0x430D3C s (State.vwrite s cache c va
  bs acc ing) := by
  unfold State.vwrite
  split
  · exact .mk <| .then (State.writePieces_moves ..) rfl <| .refl ..
  · split
    rename_i x7 x8 x9 x10
    exact .mk <| .then (State.writePieces_moves ..) rfl <| MovesP.of (.then (State.takeFree_moves ..) rfl <| .refl ..) x10

theorem State.noteXFault_moves (s : State) (c : Nat) (f : XFault) : Moves 0x20 s (State.noteXFault s c f) := by
  unfold State.noteXFault
  refine .ite (.refl ..) ?_
  extract_lets +onlyGivenNames -merge u0 u1
  exact .then (State.setReg_moves ..) rfl <| .then (State.setReg64_moves ..) rfl <| .refl ..

theorem State.lacks_moves (s : State) (f : XFault) : Moves 0x400000 s (State.lacks s f) := by
  unfold State.lacks
  exact .then (State.setLnk_moves ..) rfl <| .refl ..

theorem State.discardCached_moves (s : State) (c : Nat) (va : Nat) (span : Nat) : Moves 0x20000 s (State.discardCached s c va span) := by
  unfold State.discardCached
  exact .atp _ rfl <| .refl ..

theorem State.emptyCache_moves (s : State) (cache : Nat) : Moves 0x20000 s (State.emptyCache s cache) := by
  unfold State.emptyCache
  exact .atp _ rfl <| .refl ..

theorem State.emptyCaches_moves (s : State) : Moves 0x20000 s (State.emptyCaches s) := by
  unfold State.emptyCaches
  exact .atp _ rfl <| .refl ..

theorem State.loseRoot_moves (s : State) (c : Nat) : Moves 0x20 s (State.loseRoot s c) := by
  unfold State.loseRoot
  exact .ite (.then (State.setFld_moves ..) rfl <| .then (State.setReg_moves ..) rfl <| .then (State.setReg_moves ..) rfl <| .refl ..) (.then
    (State.setReg_moves ..) rfl <| .then (State.setReg_moves ..) rfl <| .refl ..)

theorem State.rootsLostOn_moves (s : State) (n : Nat) : Moves 0x20020 s (State.rootsLostOn s n) := by
  unfold State.rootsLostOn
  refine .then (State.emptyCaches_moves ..) rfl ?_
  refine .foldl _ (.refl ..) fun x0 _ hx0 => ?_
  split
  · exact .ite (.then (State.lostBit_moves ..) rfl <| .then (State.loseRoot_moves ..) rfl hx0) hx0
  · exact hx0

theorem State.flagRoots_moves (s : State) (old : State) : Moves 0x20 s (State.flagRoots s old) := by
  unfold State.flagRoots
  exact .foldl _ (.refl ..) fun _ _ hx0 => .ite (.then (State.setFld_moves ..) rfl hx0) hx0

/-! ### Machine/Ledger.lean -/

theorem State.setPower_moves (s : State) (p : PowerState) : Moves 0x101083C s (State.setPower s p) := by
  unfold State.setPower
  exact .ite (.refl ..) (.then (State.flagOpen_moves ..) rfl <| .pwr _ rfl <| .refl ..)

theorem State.afternoon_moves (s : State) : Moves 0x101083C s (State.afternoon s) := by
  unfold State.afternoon
  extract_lets +onlyGivenNames -merge u0 u1
  have hu1 : Moves 0x101083C s u1 := .pwr _ rfl <| .refl ..
  exact .ite (.then (State.setPower_moves ..) rfl hu1) hu1

theorem State.setHour_moves (s : State) (a : Nat) (u : Nat) (carried : Nat) : Moves 0x1000020 s (State.setHour s a u carried) := by
  unfold State.setHour
  extract_lets +onlyGivenNames -merge u0 u1 u2 u3
  have hu3 : Moves 0x1000020 s u3 := .pwr _ rfl <| .refl ..
  clear_value u3
  extract_lets +onlyGivenNames -merge u4
  have hu4 : Moves 0x1000020 s u4 := .then (State.setReg_moves ..) rfl hu3
  clear_value u4
  extract_lets +onlyGivenNames -merge u5
  have hu5 : Moves 0x1000020 s u5 := .then (State.setReg_moves ..) rfl hu4
  clear_value u5
  exact .then (State.setReg_moves ..) rfl hu5

theorem State.account_moves (s : State) (mOp : Nat) (t : Nat) : Moves 0x101083C s (State.account s mOp t) := by
  unfold State.account
  extract_lets +onlyGivenNames -merge u0 u1 u2 u3
  have hu3 : Moves 0x101083C s u3 := .pwr _ rfl <| .refl ..
  extract_lets +onlyGivenNames -merge u4
  have hu4 : Moves 0x101083C s u4 := .ite (.then (State.flagOpen_moves ..) rfl hu3) hu3
  clear_value u4
  extract_lets +onlyGivenNames -merge u5 u6 u7 u8 u9 u10 u11 u12 u13 u14 u15 u16 u17 u18 u19 u20
  have hu20 : Moves 0x101083C s u20 := .pwr _ rfl hu4
  clear_value u20
  extract_lets +onlyGivenNames -merge u21
  have hu21 : Moves 0x101083C s u21 := .then (State.setReg_moves ..) rfl <| .then (State.setReg_moves ..) rfl <| .then (State.setReg_moves ..) rfl hu20
  clear_value u21
  extract_lets +onlyGivenNames -merge u22
  have hu22 : Moves 0x101083C s u22 := .then (State.bump_moves ..) rfl <| .then (State.setHour_moves ..) rfl hu21
  clear_value u22
  extract_lets +onlyGivenNames -merge u23
  have hu23 : Moves 0x101083C s u23 := .ite (.then (State.flagOpen_moves ..) rfl <| .then (State.bump_moves ..) rfl hu22) hu22
  clear_value u23
  exact .then (State.afternoon_moves ..) rfl hu23

theorem State.recompute_moves (s : State) (allow : Nat) : Moves 0x101083C s (State.recompute s allow) := by
  unfold State.recompute
  extract_lets +onlyGivenNames -merge u0 u1 u2 u3 u4 u5 u6
  have hu6 : Moves 0x101083C s u6 := .pwr _ rfl <| .refl ..
  clear_value u6
  extract_lets +onlyGivenNames -merge u7
  have hu7 : Moves 0x101083C s u7 := .then (State.setReg_moves ..) rfl hu6
  clear_value u7
  exact .then (State.afternoon_moves ..) rfl <| .then (State.setReg_moves ..) rfl hu7

theorem State.reserve_moves (s : State) (r : Reservation) : Moves 0x1000020 s (State.reserve s r) := by
  unfold State.reserve
  extract_lets +onlyGivenNames -merge u0 u1
  exact .then (State.setReg_moves ..) rfl <| .pwr _ rfl <| .refl ..

theorem State.charge_moves (s : State) (amount : Nat) : Moves 0x1000020 s (State.charge s amount) := by
  unfold State.charge
  extract_lets +onlyGivenNames -merge u0 u1 u2 u3
  have hu3 : Moves 0x1000020 s u3 := .pwr _ rfl <| .refl ..
  clear_value u3
  exact .ite (.then (State.setReg_moves ..) rfl hu3) (.then (State.setReg_moves ..) rfl <| .then (State.setReg_moves ..) rfl hu3)

theorem State.settle_moves (s : State) (kind : Nat) (a : Nat) (b : Nat) (amount : Nat) : Moves 0x1000020 s (State.settle s kind a b amount) := by
  unfold State.settle
  exact .then (State.charge_moves ..) rfl <| .then (State.unreserve_moves ..) rfl <| .refl ..

theorem State.settleDesc_moves (s : State) (c : Nat) (idx : Nat) (amount : Nat) : Moves 0x1000020 s (State.settleDesc s c idx amount) := by
  unfold State.settleDesc
  extract_lets +onlyGivenNames -merge u0 u1
  exact .ite (.then (State.reserve_moves ..) rfl <| .then (State.charge_moves ..) rfl <| .then (State.unreserve_moves ..) rfl <| .refl ..) (.then
    (State.charge_moves ..) rfl <| .refl ..)

theorem State.noteIdle_moves (s : State) : Moves 0x1000000 s (State.noteIdle s) := by
  unfold State.noteIdle
  split
  · exact .pwr _ rfl <| .refl ..
  · exact .pwr _ rfl <| .refl ..
  · exact .refl ..

theorem State.idleBridge_moves (s : State) (n : Nat) : Moves 0x400 s (State.idleBridge s n) := by
  unfold State.idleBridge
  extract_lets +onlyGivenNames -merge u0
  exact .ite (.then (State.setBank_moves ..) rfl <| .refl ..) (.refl ..)

theorem State.enterDusk_moves (s : State) : Moves 0x1010C3C s (State.enterDusk s) := by
  unfold State.enterDusk
  extract_lets +onlyGivenNames -merge u0 u1 u2
  have hu2 : Moves 0x1010C3C s u2 := .then (State.setPower_moves ..) rfl <| .pwr _ rfl <| .refl ..
  clear_value u2
  exact .foldl _ hu2 fun _ _ hx3 => .then (State.idleBridge_moves ..) rfl hx3

theorem State.checkReady_moves (s : State) : Moves 0x101883C s (State.checkReady s) := by
  unfold State.checkReady
  refine .ite ?_ ?_
  · extract_lets +onlyGivenNames -merge u0 u1
    have hu1 : Moves 0x101883C s u1 := .then (State.alert_moves ..) rfl <| .boot _ rfl <| .refl ..
    clear_value u1
    extract_lets +onlyGivenNames -merge u2
    have hu2 : Moves 0x101883C s u2 := .ite hu1 (.then (State.account_moves ..) rfl hu1)
    clear_value u2
    exact .then (State.noteIdle_moves ..) rfl hu2
  · exact .refl ..

theorem State.bootReady_moves (s : State) : Moves 0x1018C3C s (State.bootReady s) := by
  unfold State.bootReady
  extract_lets +onlyGivenNames -merge u0 u1
  have hu1 : Moves 0x1018C3C s u1 := .then (State.checkReady_moves ..) rfl <| .refl ..
  clear_value u1
  exact .ite (.then (State.enterDusk_moves ..) rfl hu1) hu1

/-! ### Machine/Shape.lean -/

theorem State.setWork_moves (s : State) (w : WorkUnit) : Moves 0x80000 s (State.setWork s w) := by
  unfold State.setWork
  exact .work _ rfl <| .refl ..

theorem State.setJob_moves (s : State) (j : Job) : Moves 0x80000 s (State.setJob s j) := by
  unfold State.setJob
  exact .then (State.setWork_moves ..) rfl <| .refl ..

theorem State.dropJob_moves (s : State) (c : Nat) (idx : Nat) : Moves 0x80000 s (State.dropJob s c idx) := by
  unfold State.dropJob
  exact .then (State.setWork_moves ..) rfl <| .refl ..

theorem State.setOccupant_moves (s : State) (p : Nat) (o : Option Occupant) : Moves 0x80000 s (State.setOccupant s p o) := by
  unfold State.setOccupant
  exact .then (State.setWork_moves ..) rfl <| .refl ..

theorem State.due_moves (s : State) (p : Nat) : Moves 0x80000 s (State.due s p) := by
  unfold State.due
  exact .then (State.setWork_moves ..) rfl <| .refl ..

theorem State.dueBank_moves (s : State) (n : Nat) : Moves 0x80000 s (State.dueBank s n) := by
  unfold State.dueBank
  exact .foldl _ (.refl ..) fun _ _ hx0 => .then (State.due_moves ..) rfl hx0

theorem State.addJob_moves (s : State) (j : Job) : Moves 0x80000 s (State.addJob s j) := by
  unfold State.addJob
  extract_lets +onlyGivenNames -merge u0
  exact .then (State.setWork_moves ..) rfl <| .refl ..

theorem State.mixBytes_moves (s : State) (l : List Wrote) (z2 : List (Nat × Nat)) (z3 : List Byte) : MovesP 0x4 s (State.mixBytes s l z2 z3) := by
  induction z2 generalizing s l z3 with
  | nil =>
    unfold State.mixBytes
    exact .mk <| .refl ..
  | cons a0 l0 ih =>
    unfold State.mixBytes
    extract_lets +onlyGivenNames -merge u0
    split
    rename_i x1 x2 x3 x4
    extract_lets +onlyGivenNames -merge u5
    split
    rename_i x6 x7 x8 x9
    exact .mk <| MovesP.of (.then (ih _ _ _) rfl <| MovesP.of (.ite (.then (State.takeFree_moves ..) rfl <| .refl ..) (.mk <| .refl ..)) x4) x9

theorem State.outWrite_moves (s : State) (cache : Nat) (c : Nat) (idx : Nat) (va : Nat) (bs : List Byte) :
    MovesF 0x4B0D3C s (State.outWrite s cache c idx va bs) := by
  unfold State.outWrite
  extract_lets +onlyGivenNames -merge u0 u1 u2
  split
  rename_i x3 x4 x5 x6
  extract_lets +onlyGivenNames -merge u7 u8 u9 u10
  have hu10 : Moves 0x4B0D3C s u10 := .ite (MovesP.of (.ite (.mk <| .refl ..) (.then (State.mixBytes_moves ..) rfl <| .refl ..)) x6) (.then
    (State.setWork_moves ..) rfl <| MovesP.of (.ite (.mk <| .refl ..) (.then (State.mixBytes_moves ..) rfl <| .refl ..)) x6)
  clear_value u10
  exact .then (State.vwrite_moves _ _ _ _ _ _ _) rfl hu10

theorem State.setVt_moves (s : State) (c : Nat) (v : Nat) : Moves 0x20 s (State.setVt s c v) := by
  unfold State.setVt
  exact .then (State.setReg64_moves ..) rfl <| .refl ..

theorem State.bump64_moves (s : State) (off : Nat) (n : Nat) : Moves 0x20 s (State.bump64 s off n) := by
  unfold State.bump64
  exact .then (State.setReg64_moves ..) rfl <| .refl ..

theorem State.rebase_moves (s : State) : Moves 0x20 s (State.rebase s) := by
  unfold State.rebase
  extract_lets +onlyGivenNames -merge u0
  refine .ite (.refl ..) ?_
  extract_lets +onlyGivenNames -merge u1
  exact .then (State.setFld_moves ..) rfl <| .foldl _ (.refl ..) fun _ _ hx2 => .then (State.setVt_moves ..) rfl hx2

theorem State.countOccupancy_moves (s : State) (c : Nat) (ns : Nat) : Moves 0x20 s (State.countOccupancy s c ns) := by
  unfold State.countOccupancy
  extract_lets +onlyGivenNames -merge u0
  have hu0 : Moves 0x20 s u0 := .then (State.bump64_moves ..) rfl <| .refl ..
  clear_value u0
  exact .ite (.then (State.rebase_moves ..) rfl <| .then (State.setVt_moves ..) rfl hu0) hu0

/-! ### Machine/Compute.lean -/

theorem State.writeRows_moves (s : State) (cache : Nat) (c : Nat) (idx : Nat) (fo : Nat) (z5 : List (Nat × List Narrow)) : MovesF 0x4B0D3C s (State.writeRows s cache c
  idx fo z5) := by
  induction z5 generalizing s cache c idx fo with
  | nil =>
    unfold State.writeRows
    exact .mk <| .refl ..
  | cons a0 l0 ih =>
    unfold State.writeRows
    split
    · rename_i x0 x1 x2
      exact .then (ih _ _ _ _ _) rfl <| MovesF.of (.then (State.outWrite_moves ..) rfl <| .refl ..) x2
    · rename_i x3 x4 x5 x6
      exact .mk <| MovesF.of (.then (State.outWrite_moves ..) rfl <| .refl ..) x6

theorem State.sendCmd_moves (s : State) (kind : Nat) (p : Nat) (fields : List Nat) : Moves 0x408 s (State.sendCmd s kind p fields) := by
  unfold State.sendCmd
  exact .then (State.bridgePut_moves ..) rfl <| .refl ..

theorem State.writeGroup_moves (s : State) (j : Job) (g : Group) (p : Nat) : MovesF 0x4B0D3C s (State.writeGroup s j g p) := by
  unfold State.writeGroup
  extract_lets +onlyGivenNames -merge u0 u1
  split
  · rename_i x2 x3 x4 x5 x6
    split
    · exact .mk <| .refl ..
    · split
      extract_lets +onlyGivenNames -merge u17 u18
      have hu18 : Moves 0x4B0D3C s u18 := .freeUp _ rfl <| .refl ..
      clear_value u18
      extract_lets +onlyGivenNames -merge u19
      have hu19 : Moves 0x4B0D3C s u19 := .then (State.bump_moves ..) rfl <| .then (State.bump_moves ..) rfl <| .then (State.bump_moves ..) rfl <| .then
        (State.bump_moves ..) rfl hu18
      clear_value u19
      split
      rename_i x20 x21 x22 x23
      exact .mk <| MovesF.of (.then (State.writeRows_moves ..) rfl hu19) x23
  · split
    · exact .mk <| .refl ..
    · split
      · exact .mk <| .refl ..
      · split
        extract_lets +onlyGivenNames -merge u42
        have hu42 : Moves 0x4B0D3C s u42 := .then (State.bump_moves ..) rfl <| .then (State.bump_moves ..) rfl <| .then (State.bump_moves ..) rfl <| .refl ..
        clear_value u42
        split
        rename_i x43 x44 x45 x46
        exact .mk <| MovesF.of (.then (State.writeRows_moves ..) rfl hu42) x46

/-! ### Machine/Score.lean -/

theorem State.countLoad_moves (s : State) (k : Nat) (toks : List (Option Choice)) : Moves 0x20 s (State.countLoad s k toks) := by
  unfold State.countLoad
  refine .foldl _ (.refl ..) fun x0 _ hx0 => ?_
  split
  · exact .foldl _ hx0 fun _ _ hx4 => .then (State.bump_moves ..) rfl hx4
  · exact hx0

theorem State.partLoad_moves (s : State) (j : Job) (l : Layer) : Moves 0x24 s (State.partLoad s j l) := by
  unfold State.partLoad
  split
  rename_i x0 x1 x2 x3
  split
  · exact .then (State.countLoad_moves ..) rfl <| MovesP.of (.then (State.takeFree_moves ..) rfl <| .refl ..) x3
  · exact MovesP.of (.then (State.takeFree_moves ..) rfl <| .refl ..) x3

theorem State.leaveRoute_moves (s : State) : Moves 0x24 s (State.leaveRoute s) := by
  unfold State.leaveRoute
  split
  · exact .then (State.partLoad_moves ..) rfl <| .refl ..
  · exact .refl ..

/-! ### Machine/Framer.lean -/

theorem State.setIng_moves (s : State) (u : IngestUnit) : Moves 0x40000 s (State.setIng s u) := by
  unfold State.setIng
  exact .ing _ rfl <| .refl ..

theorem State.setBound_moves (s : State) (k : Nat) (b : Option Binding) : Moves 0x40000 s (State.setBound s k b) := by
  unfold State.setBound
  exact .then (State.setIng_moves ..) rfl <| .refl ..

theorem State.ingCount_moves (s : State) (k : Nat) (n : Nat) : Moves 0x20 s (State.ingCount s k n) := by
  unfold State.ingCount
  exact .then (State.bump_moves ..) rfl <| .refl ..

theorem State.ingFlag_moves (s : State) (bit : Nat) (ctx : Nat) : Moves 0x83C s (State.ingFlag s bit ctx) := by
  unfold State.ingFlag
  exact .then (State.flagQuiet_moves ..) rfl <| .refl ..

theorem State.setAlign_moves (s : State) (a : AlignState) : Moves 0x4083C s (State.setAlign s a) := by
  unfold State.setAlign
  exact .ite (.refl ..) (.then (State.ingFlag_moves ..) rfl <| .then (State.setIng_moves ..) rfl <| .refl ..)

theorem State.abandonFrame_moves (s : State) : Moves 0x4083C s (State.abandonFrame s) := by
  unfold State.abandonFrame
  split
  · exact .refl ..
  · exact .then (State.ingFlag_moves ..) rfl <| .then (State.ingCount_moves ..) rfl <| .then (State.setIng_moves ..) rfl <| .refl ..

theorem State.endUnbind_moves (s : State) (k : Nat) : Moves 0x1041024 s (State.endUnbind s k) := by
  unfold State.endUnbind
  split
  · exact .refl ..
  · split
    · exact .refl ..
    · refine .ite (.refl ..) ?_
      split
      rename_i x10 x11 x12 x13
      extract_lets +onlyGivenNames -merge u14
      exact .then (State.endDesc_moves ..) rfl <| .then (State.setBound_moves ..) rfl <| MovesP.of (.then (State.takeFree_moves ..) rfl <| .refl ..) x13

theorem State.endUnbinds_moves (s : State) : Moves 0x1041024 s (State.endUnbinds s) := by
  unfold State.endUnbinds
  exact .foldl _ (.refl ..) fun _ _ hx0 => .then (State.endUnbind_moves ..) rfl hx0

theorem State.firstAgain_moves (s : State) : Moves 0x40000 s (State.firstAgain s) := by
  unfold State.firstAgain
  exact .then (State.setIng_moves ..) rfl <| .refl ..

theorem State.resync_moves (s : State) : Moves 0x104183C s (State.resync s) := by
  unfold State.resync
  exact .then (State.endUnbinds_moves ..) rfl <| .then (State.setAlign_moves ..) rfl <| .then (State.firstAgain_moves ..) rfl <| .then (State.setIng_moves
    ..) rfl <| .then (State.abandonFrame_moves ..) rfl <| .refl ..

theorem State.portDown_moves (s : State) : Moves 0x104183C s (State.portDown s) := by
  unfold State.portDown
  exact .then (State.endUnbinds_moves ..) rfl <| .then (State.setAlign_moves ..) rfl <| .then (State.firstAgain_moves ..) rfl <| .then (State.setIng_moves
    ..) rfl <| .then (State.abandonFrame_moves ..) rfl <| .refl ..

theorem State.tryHunt_moves (s : State) : Moves 0x4083C s (State.tryHunt s) := by
  unfold State.tryHunt
  exact .ite (.then (State.setAlign_moves ..) rfl <| .refl ..) (.refl ..)

theorem State.dropIngest_moves (s : State) (c : Nat) : Moves 0x4083C s (State.dropIngest s c) := by
  unfold State.dropIngest
  extract_lets +onlyGivenNames -merge u0 u1
  have hu1 : Moves 0x4083C s u1 := by
    unfold u1
    split
    · exact .ite (.then (State.abandonFrame_moves ..) rfl <| .refl ..) (.refl ..)
    · exact .refl ..
  extract_lets +onlyGivenNames -merge u7 u8
  have hu8 : Moves 0x4083C s u8 := .ite hu1 (.then (State.ingFlag_moves ..) rfl <| .then (State.ingCount_moves ..) rfl hu1)
  clear_value u8
  extract_lets +onlyGivenNames -merge u9 u10
  have hu10 : Moves 0x4083C s u10 := .then (State.setIng_moves ..) rfl hu8
  clear_value u10
  exact .foldl _ hu10 fun _ _ hx11 => .ite (.then (State.setBound_moves ..) rfl hx11) hx11

theorem State.dropBindings_moves (s : State) : Moves 0x4083C s (State.dropBindings s) := by
  unfold State.dropBindings
  exact .foldl _ (.refl ..) fun _ _ hx0 => .then (State.dropIngest_moves ..) rfl hx0

/-! ### Machine/HandBase.lean -/

theorem State.setCmb_moves (s : State) (u : CombineUnit) : Moves 0x200000 s (State.setCmb s u) := by
  unfold State.setCmb
  exact .cmb _ rfl <| .refl ..

theorem State.moveSlot_moves (s : State) (i : Nat) : Moves 0x4000 s (State.moveSlot s i) := by
  unfold State.moveSlot
  exact .then (State.setEpoch_moves ..) rfl <| .refl ..

theorem State.setSend_moves (s : State) (w : SendWin) : Moves 0x200000 s (State.setSend s w) := by
  unfold State.setSend
  exact .then (State.setCmb_moves ..) rfl <| .refl ..

theorem State.dropSend_moves (s : State) (c : Nat) (idx : Nat) : Moves 0x610838 s (State.dropSend s c idx) := by
  unfold State.dropSend
  extract_lets +onlyGivenNames -merge u0 u1
  have hu1 : Moves 0x610838 s u1 := by
    unfold u1
    split
    · exact .then (State.setCmb_moves ..) rfl <| .refl ..
    · exact .refl ..
  clear_value u1
  extract_lets +onlyGivenNames -merge u7 u8
  have hu8 : Moves 0x610838 s u8 := .then (State.setCmb_moves ..) rfl hu1
  clear_value u8
  exact .then (State.unpark_moves ..) rfl <| .then (State.setLnk_moves ..) rfl hu8

theorem State.setRecv_moves (s : State) (r : RecvWin) : Moves 0x200000 s (State.setRecv s r) := by
  unfold State.setRecv
  exact .then (State.setCmb_moves ..) rfl <| .refl ..

theorem State.dropRecv_moves (s : State) (r : RecvWin) : Moves 0x121583C s (State.dropRecv s r) := by
  unfold State.dropRecv
  extract_lets +onlyGivenNames -merge u0 u1
  have hu1 : Moves 0x121583C s u1 := .then (State.setCmb_moves ..) rfl <| .refl ..
  clear_value u1
  extract_lets +onlyGivenNames -merge u2
  have hu2 : Moves 0x121583C s u2 := .foldl _ hu1 fun _ _ hx3 => .then (State.moveSlot_moves ..) rfl hx3
  clear_value u2
  exact .ite (.then (State.fence_moves ..) rfl hu2) hu2

theorem State.dropCombine_moves (s : State) (c : Nat) : Moves 0x161583C s (State.dropCombine s c) := by
  unfold State.dropCombine
  extract_lets +onlyGivenNames -merge u0
  have hu0 : Moves 0x161583C s u0 := by
    unfold u0
    split
    · refine .ite ?_ ?_
      · extract_lets +onlyGivenNames -merge u4 u5
        have hu5 : Moves 0x161583C s u5 := .foldl _ (.refl ..) fun _ _ hx6 => .then (State.moveSlot_moves ..) rfl hx6
        clear_value u5
        extract_lets +onlyGivenNames -merge u8 u9
        have hu9 : Moves 0x161583C s u9 := .then (State.setCmb_moves ..) rfl hu5
        clear_value u9
        exact .ite hu9 (.then (State.record_moves ..) rfl hu9)
      · exact .refl ..
    · exact .refl ..
  clear_value u0
  extract_lets +onlyGivenNames -merge u12
  have hu12 : Moves 0x161583C s u12 := .foldl _ hu0 fun _ _ hx13 => .then (State.dropSend_moves ..) rfl hx13
  clear_value u12
  exact .foldl _ hu12 fun _ _ hx15 => .then (State.dropRecv_moves ..) rfl hx15

theorem State.dropLink_moves (s : State) (c : Nat) : Moves 0x400000 s (State.dropLink s c) := by
  unfold State.dropLink
  extract_lets +onlyGivenNames -merge u0
  exact .then (State.setLnk_moves ..) rfl <| .refl ..

/-! ### Machine/ColBase.lean -/

theorem State.setCol_moves (s : State) (u : ColUnit) : Moves 0x800000 s (State.setCol s u) := by
  unfold State.setCol
  exact .col _ rfl <| .refl ..

theorem State.setGroup_moves (s : State) (g : Nat) (x : GroupSlot) : Moves 0x800000 s (State.setGroup s g x) := by
  unfold State.setGroup
  exact .then (State.setCol_moves ..) rfl <| .refl ..

theorem State.colFlag_moves (s : State) (bit : Nat) (detail : Nat) : Moves 0x10838 s (State.colFlag s bit detail) := by
  unfold State.colFlag
  exact .then (State.flag_moves ..) rfl <| .refl ..

theorem State.colCount_moves (s : State) (k : Nat) (n : Nat) : Moves 0x20 s (State.colCount s k n) := by
  unfold State.colCount
  exact .then (State.bump_moves ..) rfl <| .refl ..

theorem State.colMsg_moves (s : State) (p : Nat) (kind : MsgKind) (args : List Nat) (data : List Byte) (owner : Option (Nat × Nat × Nat)) : Moves 0x410838 s
  (State.colMsg s p kind args data owner) := by
  unfold State.colMsg
  exact .then (State.sendMsg_moves ..) rfl <| .refl ..

theorem State.tell_moves (s : State) (ps : List Nat) (kind : MsgKind) (args : List Nat) : Moves 0x410838 s (State.tell s ps kind args) := by
  unfold State.tell
  exact .foldl _ (.refl ..) fun _ _ hx0 => .then (State.colMsg_moves ..) rfl hx0

theorem State.suspect_moves (s : State) (g : Nat) (lost : Nat) : Moves 0x410838 s (State.suspect s g lost) := by
  unfold State.suspect
  split
  · exact .then (State.colMsg_moves ..) rfl <| .refl ..
  · exact .refl ..

theorem State.setColl_moves (s : State) (x : Coll) : Moves 0x800000 s (State.setColl s x) := by
  unfold State.setColl
  exact .then (State.setCol_moves ..) rfl <| .refl ..

theorem State.freeColl_moves (s : State) (g : Nat) (cseq : Nat) : Moves 0x800000 s (State.freeColl s g cseq) := by
  unfold State.freeColl
  exact .then (State.setCol_moves ..) rfl <| .refl ..

theorem State.dropColl_moves (s : State) (g : Nat) (cseq : Nat) : Moves 0x800000 s (State.dropColl s g cseq) := by
  unfold State.dropColl
  extract_lets +onlyGivenNames -merge u0
  have hu0 : Moves 0x800000 s u0 := .then (State.freeColl_moves ..) rfl <| .refl ..
  clear_value u0
  exact .then (State.setCol_moves ..) rfl hu0

theorem State.dropDawn_moves (s : State) (g : Nat) (dseq : Nat) : Moves 0x800000 s (State.dropDawn s g dseq) := by
  unfold State.dropDawn
  exact .then (State.setCol_moves ..) rfl <| .refl ..

theorem State.dropTraffic_moves (s : State) (g : Nat) : Moves 0x800000 s (State.dropTraffic s g) := by
  unfold State.dropTraffic
  exact .then (State.setCol_moves ..) rfl <| .refl ..

theorem State.endGroupWork_moves {m : Nat} {o : State} {s : State} {g : Nat} {f : State → Nat → Nat → State} (em : m ||| 0x800000 = m) (h0 : Moves m o s) (hf : ∀ y0
  y1 y2, Moves m o y0 → Moves m o (f y0 y1 y2)) : Moves m o (State.endGroupWork s g f) := by
  unfold State.endGroupWork
  extract_lets +onlyGivenNames -merge u0
  have hu0 : Moves m o u0 := .foldl _ h0 fun _ _ hx1 => hf _ _ _ <| .then (State.dropColl_moves ..) (within rfl em) hx1
  clear_value u0
  extract_lets +onlyGivenNames -merge u3
  have hu3 : Moves m o u3 := .foldl _ hu0 fun _ _ hx4 => hf _ _ _ <| .then (State.dropDawn_moves ..) (within rfl em) hx4
  clear_value u3
  exact .then (State.dropTraffic_moves ..) (within rfl em) hu3

theorem State.groupRefused_moves (s : State) (g : Nat) (c : Nat) (idx : Nat) (reason : Nat) : Moves 0x1801020 s (State.groupRefused s g c idx reason) := by
  unfold State.groupRefused
  extract_lets +onlyGivenNames -merge u0 u1
  have hu1 : Moves 0x1801020 s u1 := .then (State.colCount_moves ..) rfl <| .then (State.setGroup_moves ..) rfl <| .refl ..
  clear_value u1
  exact .then (State.endDesc_moves ..) rfl hu1

theorem State.leaveGroup_moves {m : Nat} {o : State} {s : State} {g : Nat} {told : Bool} {f : State → Nat → Nat → State} (em : m ||| 0xC10838 = m) (h0 : Moves m o s)
  (hf : ∀ y0 y1 y2, Moves m o y0 → Moves m o (f y0 y1 y2)) : Moves m o (State.leaveGroup s g told f) := by
  unfold State.leaveGroup
  extract_lets +onlyGivenNames -merge u0 u1
  have hu1 : Moves m o u1 := .ite (.then (State.suspect_moves ..) (within rfl em) h0) h0
  clear_value u1
  extract_lets +onlyGivenNames -merge u2
  have hu2 : Moves m o u2 := State.endGroupWork_moves (within rfl em) hu1 (fun x3 x4 x5 hx6 => hf _ _ _ hx6)
  clear_value u2
  exact .then (State.setGroup_moves ..) (within rfl em) hu2

theorem State.undoForms_moves (s : State) (b : Bracket) : Moves 0xC10838 s (State.undoForms s b) := by
  unfold State.undoForms
  exact .foldl _ (.refl ..) fun _ _ hx0 => .ite (State.leaveGroup_moves rfl hx0 (fun x2 x3 x4 hx5 => hx5)) hx0

theorem State.rollbackFor_moves (s : State) (det : Nat) : Moves 0x1C1583C s (State.rollbackFor s det) := by
  unfold State.rollbackFor
  split
  · exact .then (State.rollbackReport_moves ..) rfl <| .then (State.rollback_moves ..) rfl <| .then (State.undoForms_moves ..) rfl <| .refl ..
  · exact .refl ..

theorem State.dropCollect_moves (s : State) (c : Nat) : Moves 0xC1483C s (State.dropCollect s c) := by
  unfold State.dropCollect
  refine .foldl _ (.refl ..) fun x0 _ hx0 => ?_
  refine .ite ?_ ?_
  · extract_lets +onlyGivenNames -merge u2 u3
    have hu3 : Moves 0xC1483C s u3 := State.leaveGroup_moves rfl hx0 (fun x4 x5 x6 hx7 => hx7)
    clear_value u3
    exact .ite (.then (State.record_moves ..) rfl <| .then (State.setEpoch_moves ..) rfl hu3) hu3
  · exact hx0

theorem State.suspectSelf_moves (s : State) : Moves 0x410838 s (State.suspectSelf s) := by
  unfold State.suspectSelf
  exact .foldl _ (.refl ..) fun _ _ hx0 => .ite (.then (State.suspect_moves ..) rfl hx0) hx0

theorem State.suspectPeer_moves (s : State) (p : Nat) : Moves 0x410838 s (State.suspectPeer s p) := by
  unfold State.suspectPeer
  exact .foldl _ (.refl ..) fun _ _ hx0 => .ite (.then (State.suspect_moves ..) rfl hx0) hx0

end Sys2Proof.Machine
end

