-- ==== Sys2Proof/Laws/MovesCore.lean ====
section
/-! SUPPORT. Laws/MovesCore.lean: what each operation and meaning of teardown, faults, the Day Unit, remapping, scheduling and the engines can do (Laws/Moves.lean says what the relation means):
the least mask of parts it changes, one lemma per definition. -/

namespace Sys2Proof.Machine

/-! ### Machine/Sweep.lean -/

theorem State.writeSome_moves (s : State) (cache : Nat) (c : Nat) (idx : Nat) (fo : Nat) (z5 : List (Nat × List Narrow)) : Moves 0x4B0D3C s (State.writeSome s cache c
  idx fo z5) := by
  induction z5 generalizing s cache c idx fo with
  | nil =>
    unfold State.writeSome
    exact .refl ..
  | cons a0 l0 ih =>
    unfold State.writeSome
    split
    rename_i x0 x1 x2 x3
    exact .then (ih _ _ _ _ _) rfl <| MovesF.fst <| .then (State.outWrite_moves ..) rfl <| MovesP.of (.then (State.takeFree_moves ..) rfl <| .refl ..) x3

theorem State.partialOutput_moves (s : State) (j : Job) (g : Group) (p : Nat) : Moves 0x4B0D3C s (State.partialOutput s j g p) := by
  unfold State.partialOutput
  extract_lets +onlyGivenNames -merge u0
  split
  · split
    · exact .refl ..
    · exact .then (State.writeSome_moves ..) rfl <| .freeUp _ rfl <| .refl ..
  · split
    · exact .refl ..
    · split
      · exact .refl ..
      · exact .then (State.writeSome_moves ..) rfl <| .refl ..

theorem State.addEnergy_moves (s : State) (c : Nat) (idx : Nat) (uj : Nat) : Moves 0x1000 s (State.addEnergy s c idx uj) := by
  unfold State.addEnergy
  split
  · exact .then (State.setDesc_moves ..) rfl <| .refl ..
  · exact .refl ..

theorem State.abandonGroup_moves (s : State) (p : Nat) (j : Job) (g : Group) : Moves 0x14B1D3C s (State.abandonGroup s p j g) := by
  unfold State.abandonGroup
  extract_lets +onlyGivenNames -merge u0
  have hu0 : Moves 0x14B1D3C s u0 := .ite (.then (State.partialOutput_moves ..) rfl <| .refl ..) (.refl ..)
  clear_value u0
  extract_lets +onlyGivenNames -merge u1
  split
  rename_i x2 x3 x4 x5
  extract_lets +onlyGivenNames -merge u6
  exact .then (State.addEnergy_moves ..) rfl <| .then (State.countOccupancy_moves ..) rfl <| .then (State.settle_moves ..) rfl <| .then
    (State.setOccupant_moves ..) rfl <| MovesP.of (.then (State.takeFree_moves ..) rfl hu0) x5

theorem State.endJobs_moves (s : State) (gone : Nat × Nat → Bool) : Moves 0x14B1D3C s (State.endJobs s gone) := by
  unfold State.endJobs
  extract_lets +onlyGivenNames -merge u0
  have hu0 : Moves 0x14B1D3C s u0 := by
    unfold u0
    refine .foldl _ (.refl ..) fun x1 _ hx1 => ?_
    split
    · refine .ite ?_ ?_
      · split
        · exact .then (State.abandonGroup_moves ..) rfl hx1
        · exact .then (State.setOccupant_moves ..) rfl hx1
      · exact hx1
    · exact hx1
  clear_value u0
  extract_lets +onlyGivenNames -merge u14
  have hu14 : Moves 0x14B1D3C s u14 := .ite (.then (State.leaveRoute_moves ..) rfl hu0) hu0
  clear_value u14
  exact .then (State.setWork_moves ..) rfl hu14

theorem State.dropJobs_moves (s : State) (c : Nat) : Moves 0x14B1D3C s (State.dropJobs s c) := by
  unfold State.dropJobs
  exact .then (State.endJobs_moves ..) rfl <| .refl ..

theorem State.dropWork_moves (s : State) (c : Nat) : Moves 0x1EF5D3C s (State.dropWork s c) := by
  unfold State.dropWork
  extract_lets +onlyGivenNames -merge u0
  have hu0 : Moves 0x1EF5D3C s u0 := .then (State.dropJobs_moves ..) rfl <| .refl ..
  clear_value u0
  extract_lets +onlyGivenNames -merge u1
  have hu1 : Moves 0x1EF5D3C s u1 := .then (State.dropLink_moves ..) rfl <| .then (State.dropCollect_moves ..) rfl <| .then (State.dropCombine_moves ..) rfl
    <| .then (State.dropIngest_moves ..) rfl hu0
  clear_value u1
  exact .then (State.discardCached_moves ..) rfl <| .then (State.unreserve_moves ..) rfl hu1

theorem State.beginExit_moves (s : State) : Moves 0x3000000 s (State.beginExit s) := by
  unfold State.beginExit
  exact .ite (.upd (fun p => by cases p <;> first | exact fun _ => rfl | exact bit_in rfl) rfl <| .refl ..) (.refl ..)

theorem State.arrive_moves {m : Nat} {o : State} {s : State} {i : Instr} {f : State → Result} (em : m ||| 0x3000000 = m) (h0 : Moves m o s) (hf : ∀ y0, Moves m
  o y0 → MovesR m o (f y0)) : MovesR m o (State.arrive s i f) := by
  unfold State.arrive
  exact .ite (.next h0) (.ite (.next <| .then (State.beginExit_moves ..) (within rfl em) <| .pwr _ (within rfl em) h0) (hf _ <| .pwr _ (within rfl em) h0))

theorem State.validFell_moves (s : State) : Moves 0x410838 s (State.validFell s) := by
  unfold State.validFell
  exact .then (State.suspectSelf_moves ..) rfl <| .refl ..

theorem State.detectPort_moves (s : State) (p : Nat) : Moves 0x410838 s (State.detectPort s p) := by
  unfold State.detectPort
  exact .ite (.then (State.enterDetect_moves ..) rfl <| .refl ..) (.refl ..)

theorem State.portsDetect_moves (s : State) : Moves 0x410838 s (State.portsDetect s) := by
  unfold State.portsDetect
  exact .foldl _ (.refl ..) fun _ _ hx0 => .then (State.detectPort_moves ..) rfl hx0

/-! ### Machine/DayBase.lean -/

theorem State.setDay_moves (s : State) (d : DayUnit) : Moves 0x200 s (State.setDay s d) := by
  unfold State.setDay
  exact .day _ rfl <| .refl ..

theorem State.reachClk_moves (s : State) (t : Nat) : Moves 0x2 s (State.reachClk s t) := by
  exact ⟨fun p => by cases p <;> first | exact fun _ => rfl | exact bit_in rfl, rfl, Nat.le_max_left _ _, Nat.le_refl _, List.suffix_refl _,
    fun i => ⟨i.mem, i.regs, i.evq, i.lost, i.retained, i.addr, i.tables⟩⟩

theorem State.refreshValid_moves (s : State) : Moves 0x410A38 s (State.refreshValid s) := by
  unfold State.refreshValid
  extract_lets +onlyGivenNames -merge u0 u1 u2 u3
  have hu3 : Moves 0x410A38 s u3 := .then (State.setDay_moves ..) rfl <| .refl ..
  clear_value u3
  exact .ite (.then (State.validFell_moves ..) rfl hu3) hu3

theorem State.setDayState_moves (s : State) (x : DayState) : Moves 0x410A3C s (State.setDayState s x) := by
  unfold State.setDayState
  extract_lets +onlyGivenNames -merge u0
  refine .ite (.refl ..) ?_
  refine .ite ?_ ?_
  · extract_lets +onlyGivenNames -merge u1
    have hu1 : Moves 0x410A3C s u1 := .then (State.flagOpen_moves ..) rfl <| .then (State.flagOpen_moves ..) rfl <| .then (State.setDay_moves ..) rfl <|
      .refl ..
    clear_value u1
    exact .then (State.refreshValid_moves ..) rfl hu1
  · extract_lets +onlyGivenNames -merge u2 u3 u4
    have hu4 : Moves 0x410A3C s u4 := .then (State.flagOpen_moves ..) rfl <| .then (State.setDay_moves ..) rfl <| .refl ..
    clear_value u4
    extract_lets +onlyGivenNames -merge u5
    have hu5 : Moves 0x410A3C s u5 := .ite (.then (State.flagOpen_moves ..) rfl hu4) hu4
    clear_value u5
    exact .then (State.refreshValid_moves ..) rfl hu5

theorem State.settleDay_moves (s : State) : Moves 0x410A3C s (State.settleDay s) := by
  unfold State.settleDay
  exact .ite (.then (State.setDayState_moves ..) rfl <| .refl ..) (.refl ..)

theorem State.elect_moves (s : State) : Moves 0x410A3C s (State.elect s) := by
  unfold State.elect
  extract_lets +onlyGivenNames -merge u0
  refine .ite (.refl ..) ?_
  extract_lets +onlyGivenNames -merge u1 u2 u3 u4 u5 u6 u7 u8 u9 u10 u11
  have hu11 : Moves 0x410A3C s u11 := .then (State.setDay_moves ..) rfl <| .refl ..
  clear_value u11
  extract_lets +onlyGivenNames -merge u12
  have hu12 : Moves 0x410A3C s u12 := .ite (.then (State.flagOpen_moves ..) rfl hu11) hu11
  clear_value u12
  extract_lets +onlyGivenNames -merge u13
  have hu13 : Moves 0x410A3C s u13 := .ite (.then (State.flagOpen_moves ..) rfl hu12) hu12
  clear_value u13
  exact .then (State.settleDay_moves ..) rfl hu13

theorem State.losePhref_moves (s : State) : Moves 0x410A3C s (State.losePhref s) := by
  unfold State.losePhref
  exact .ite (.then (State.elect_moves ..) rfl <| .then (State.setDayState_moves ..) rfl <| .refl ..) (.refl ..)

theorem State.parentLost_moves (s : State) (p : Nat) : Moves 0x410A3C s (State.parentLost s p) := by
  unfold State.parentLost
  extract_lets +onlyGivenNames -merge u0 u1 u2
  have hu2 : Moves 0x410A3C s u2 := .then (State.setDay_moves ..) rfl <| .refl ..
  clear_value u2
  extract_lets +onlyGivenNames -merge u3 u4
  have hu4 : Moves 0x410A3C s u4 := .ite hu2 (.then (State.settleDay_moves ..) rfl <| .then (State.flagOpen_moves ..) rfl <| .then (State.setDay_moves ..)
    rfl hu2)
  clear_value u4
  exact .ite (.then (State.elect_moves ..) rfl hu4) hu4

/-! ### Machine/Recovery.lean -/

theorem State.withdrawTakes_moves (s : State) (c : Nat) : Moves 0x4000 s (State.withdrawTakes s c) := by
  unfold State.withdrawTakes
  exact .foldl _ (.refl ..) fun _ _ hx0 => .then (State.setLease_moves ..) rfl hx0

theorem State.fenceLeases_moves (s : State) (c : Nat) : Moves 0x101583C s (State.fenceLeases s c) := by
  unfold State.fenceLeases
  exact .foldl _ (.refl ..) fun _ _ hx0 => .ite (.then (State.fence_moves ..) rfl hx0) hx0

theorem State.fenceContext_moves (s : State) (c : Nat) : Moves 0x101583C s (State.fenceContext s c) := by
  unfold State.fenceContext
  extract_lets +onlyGivenNames -merge u0
  have hu0 : Moves 0x101583C s u0 := .then (State.withdrawTakes_moves ..) rfl <| .refl ..
  clear_value u0
  extract_lets +onlyGivenNames -merge u1
  have hu1 : Moves 0x101583C s u1 := .ite (.then (State.rollback_moves ..) rfl hu0) hu0
  clear_value u1
  exact .then (State.fenceLeases_moves ..) rfl hu1

theorem State.discardShadow_moves (s : State) : Moves 0x101583C s (State.discardShadow s) := by
  unfold State.discardShadow
  split
  · exact .refl ..
  · exact .then (State.fence_moves ..) rfl <| .flt _ rfl rfl <| .refl ..

theorem State.completeRest_moves (s : State) (c : Nat) (code : Nat) (detail : Nat) : Moves 0x41038 s (State.completeRest s c code detail) := by
  unfold State.completeRest
  refine .foldl _ (.refl ..) fun x0 _ hx0 => ?_
  split
  · exact .then (State.complete_moves ..) rfl hx0
  · exact .then (State.complete_moves ..) rfl hx0
  · exact .ite (.then (State.complete_moves ..) rfl hx0) (.then (State.complete_moves ..) rfl hx0)
  · exact hx0

theorem State.teardown_moves (s : State) (c : Nat) (cause : Nat) : Moves 0x1EF7D3C s (State.teardown s c cause) := by
  unfold State.teardown
  extract_lets +onlyGivenNames -merge u0 u1
  have hu1 : Moves 0x1EF7D3C s u1 := .then (State.setCtx_moves ..) rfl <| .refl ..
  clear_value u1
  exact .then (State.fenceContext_moves ..) rfl <| .then (State.dropWork_moves ..) rfl hu1

theorem State.failPiped_moves (s : State) (c : Nat) (idx : Nat) (code : Nat) (detail : Nat) : Moves 0x651838 s (State.failPiped s c idx code detail) := by
  unfold State.failPiped
  refine .foldl _ (.refl ..) fun x0 _ hx0 => ?_
  split
  · exact .then (State.complete_moves ..) rfl <| .then (State.dropSend_moves ..) rfl hx0
  · exact hx0

theorem State.contextFault_moves (s : State) (c : Nat) (code : Nat) (detail : Nat) (idx : Option Nat) (entry : Bool) (unit : Nat) : Moves 0x1EF7D3C s
  (State.contextFault s c code detail idx entry unit) := by
  unfold State.contextFault
  refine .ite ?_ ?_
  · extract_lets +onlyGivenNames -merge u0
    have hu0 : Moves 0x1EF7D3C s u0 := .then (State.dropJobs_moves ..) rfl <| .refl ..
    clear_value u0
    extract_lets +onlyGivenNames -merge u1
    have hu1 : Moves 0x1EF7D3C s u1 := by
      unfold u1
      split
      · extract_lets +onlyGivenNames -merge u5 u6
        have hu6 : Moves 0x1EF7D3C s u6 := .then (State.failPiped_moves ..) rfl <| .then (State.complete_moves ..) rfl hu0
        clear_value u6
        clear_value u5
        split
        · exact .then (State.complete_moves ..) rfl hu6
        · exact hu6
      · exact .ite (.then (State.completeNone_moves ..) rfl hu0) hu0
    clear_value u1
    extract_lets +onlyGivenNames -merge u12
    have hu12 : Moves 0x1EF7D3C s u12 := .then (State.completeRest_moves ..) rfl hu1
    clear_value u12
    extract_lets +onlyGivenNames -merge u13 u14
    have hu14 : Moves 0x1EF7D3C s u14 := .then (State.setRing_moves ..) rfl hu12
    clear_value u14
    extract_lets +onlyGivenNames -merge u15
    have hu15 : Moves 0x1EF7D3C s u15 := .then (State.bump_moves ..) rfl <| .then (State.record_moves ..) rfl hu14
    clear_value u15
    extract_lets +onlyGivenNames -merge u16
    have hu16 : Moves 0x1EF7D3C s u16 := .then (State.event_moves ..) rfl hu15
    clear_value u16
    exact .then (State.teardown_moves ..) rfl hu16
  · exact .then (State.bump_moves ..) rfl <| .then (State.record_moves ..) rfl <| .refl ..

theorem State.loseRings_moves (s : State) (slot : Nat) (hostDead : Bool) : Moves 0x41038 s (State.loseRings s slot hostDead) := by
  unfold State.loseRings
  refine .foldl _ (.refl ..) fun x0 _ hx0 => ?_
  extract_lets +onlyGivenNames -merge u2 u3 u4
  have hu4 : Moves 0x41038 s u4 := .ite (.then (State.setRing_moves ..) rfl hx0) (.then (State.completeRest_moves ..) rfl hx0)
  clear_value u4
  extract_lets +onlyGivenNames -merge u5
  exact .then (State.setRing_moves ..) rfl hu4

theorem State.portLost_moves (s : State) (p : Nat) : Moves 0x414A3C s (State.portLost s p) := by
  unfold State.portLost
  extract_lets +onlyGivenNames -merge u0
  refine .ite (.refl ..) ?_
  extract_lets +onlyGivenNames -merge u1
  have hu1 : Moves 0x414A3C s u1 := .then (State.setPort_moves ..) rfl <| .then (State.portTo_moves ..) rfl <| .refl ..
  clear_value u1
  refine .ite (.then (State.parentLost_moves ..) rfl hu1) ?_
  extract_lets +onlyGivenNames -merge u2 u3 u4
  have hu4 : Moves 0x414A3C s u4 := .then (State.setLnk_moves ..) rfl hu1
  clear_value u4
  exact .ite (.then (State.record_moves ..) rfl hu4) hu4

theorem State.portsLost_moves (s : State) : Moves 0x414A3C s (State.portsLost s) := by
  unfold State.portsLost
  extract_lets +onlyGivenNames -merge u0
  have hu0 : Moves 0x414A3C s u0 := .foldl _ (.refl ..) fun _ _ hx1 => .then (State.portLost_moves ..) rfl hx1
  clear_value u0
  exact .then (State.setLnk_moves ..) rfl hu0

theorem State.packageFault_moves (s : State) (source : Nat) (code : Nat) (unit : Nat) (detail : Nat) (hostDead : Bool) : Moves 0x1EF7F3C s (State.packageFault s
  source code unit detail hostDead) := by
  unfold State.packageFault
  extract_lets +onlyGivenNames -merge u0
  have hu0 : Moves 0x1EF7F3C s u0 := .then (State.bump_moves ..) rfl <| .then (State.record_moves ..) rfl <| .refl ..
  clear_value u0
  extract_lets +onlyGivenNames -merge u1 u2 u3 u4 u5 u6
  have hu6 : Moves 0x1EF7F3C s u6 := .upd (fun p => by cases p <;> first | exact fun _ => rfl | exact bit_in rfl) rfl hu0
  clear_value u6
  extract_lets +onlyGivenNames -merge u7
  have hu7 : Moves 0x1EF7F3C s u7 := .foldl _ hu6 fun _ _ hx8 => .then (State.dropJobs_moves ..) rfl hx8
  clear_value u7
  extract_lets +onlyGivenNames -merge u10
  have hu10 : Moves 0x1EF7F3C s u10 := .then (State.loseRings_moves ..) rfl hu7
  clear_value u10
  extract_lets +onlyGivenNames -merge u11
  have hu11 : Moves 0x1EF7F3C s u11 := .then (State.discardShadow_moves ..) rfl hu10
  clear_value u11
  extract_lets +onlyGivenNames -merge u12
  have hu12 : Moves 0x1EF7F3C s u12 := by
    unfold u12
    refine .foldl _ hu11 fun x13 _ hx13 => ?_
    refine .ite ?_ ?_
    · extract_lets +onlyGivenNames -merge u15
      have hu15 : Moves 0x1EF7F3C s u15 := .then (State.fenceLeases_moves ..) rfl <| .then (State.withdrawTakes_moves ..) rfl <| .then (State.dropWork_moves
        ..) rfl hx13
      clear_value u15
      exact .then (State.setCtx_moves ..) rfl hu15
    · exact hx13
  clear_value u12
  extract_lets +onlyGivenNames -merge u16 u17
  have hu17 : Moves 0x1EF7F3C s u17 := .then (State.portsLost_moves ..) rfl <| .then (State.setCmb_moves ..) rfl hu12
  clear_value u17
  extract_lets +onlyGivenNames -merge u18
  have hu18 : Moves 0x1EF7F3C s u18 := .foldl _ hu17 fun _ _ hx19 => .ite (.then (State.setBank_moves ..) rfl hx19) hx19
  clear_value u18
  exact .then (State.flag_moves ..) rfl hu18

theorem State.closeContexts_moves (s : State) : Moves 0x1EF7D3C s (State.closeContexts s) := by
  unfold State.closeContexts
  extract_lets +onlyGivenNames -merge u0
  have hu0 : Moves 0x1EF7D3C s u0 := .then (State.discardShadow_moves ..) rfl <| .refl ..
  clear_value u0
  refine .foldl _ hu0 fun x1 _ hx1 => ?_
  extract_lets +onlyGivenNames -merge u3
  have hu3 : Moves 0x1EF7D3C s u3 := .then (State.fenceLeases_moves ..) rfl <| .then (State.withdrawTakes_moves ..) rfl <| .then (State.dropWork_moves ..)
    rfl hx1
  clear_value u3
  extract_lets +onlyGivenNames -merge u4 u5
  have hu5 : Moves 0x1EF7D3C s u5 := .ite (.then (State.setCtx_moves ..) rfl hu3) hx1
  clear_value u5
  exact .then (State.setCtx_moves ..) rfl hu5

theorem State.closeRings_moves (s : State) (keep : Bool) : Moves 0x1000 s (State.closeRings s keep) := by
  unfold State.closeRings
  refine .ite ?_ ?_
  · extract_lets shut
    exact ⟨fun p => by cases p <;> first | exact fun _ => rfl | exact bit_in rfl, rfl, Nat.le_refl _, Nat.le_refl _, List.suffix_refl _,
      fun i => ⟨i.mem, i.regs, i.evq, i.lost, i.retained, i.addr, i.tables.1, tabWf_mapFilter _ _ _ i.tables.2.1, i.tables.2.2⟩⟩
  · exact ⟨fun p => by cases p <;> first | exact fun _ => rfl | exact bit_in rfl, rfl, Nat.le_refl _, Nat.le_refl _, List.suffix_refl _,
      fun i => ⟨i.mem, i.regs, i.evq, i.lost, i.retained, i.addr, i.tables.1, rfl, i.tables.2.2⟩⟩

/-! ### Machine/Day.lean -/

theorem State.takeParent_moves (s : State) (ofs : ℤ) : Moves 0x410A3C s (State.takeParent s ofs) := by
  unfold State.takeParent
  extract_lets +onlyGivenNames -merge u0
  exact .ite (.then (State.setDayState_moves ..) rfl <| .then (State.setDay_moves ..) rfl <| .refl ..) (.refl ..)

theorem State.markPassed_moves (s : State) (old : Nat) : Moves 0x1400200 s (State.markPassed s old) := by
  unfold State.markPassed
  extract_lets +onlyGivenNames -merge u0 u1 u2 u3 u4 u5 u6 u7 u8
  have hu8 : Moves 0x1400200 s u8 := .pwr _ rfl <| .refl ..
  clear_value u8
  extract_lets +onlyGivenNames -merge u9 u10
  have hu10 : Moves 0x1400200 s u10 := .then (State.setLnk_moves ..) rfl hu8
  clear_value u10
  exact .then (State.setDay_moves ..) rfl hu10

theorem State.syncBanks_moves (s : State) : Moves 0x400 s (State.syncBanks s) := by
  unfold State.syncBanks
  extract_lets +onlyGivenNames -merge u0
  exact .foldl _ (.refl ..) fun _ _ hx1 => .then (State.setBank_moves ..) rfl hx1

theorem State.stepTo_moves (s : State) (pos : DayPos) (at_ : ℤ) : Moves 0x600 s (State.stepTo s pos at_) := by
  unfold State.stepTo
  extract_lets +onlyGivenNames -merge u0 u1 u2 u3 u4
  exact .then (State.syncBanks_moves ..) rfl <| .then (State.setDay_moves ..) rfl <| .refl ..

theorem State.adoptFromParent_moves (s : State) (pos : DayPos) (at_ : ℤ) : Moves 0x1418E3C s (State.adoptFromParent s pos at_) := by
  unfold State.adoptFromParent
  exact .then (State.bootReady_moves ..) rfl <| .then (State.refreshValid_moves ..) rfl <| .then (State.markPassed_moves ..) rfl <| .then (State.stepTo_moves
    ..) rfl <| .refl ..

theorem State.adoptFromStart_moves (s : State) (alone : Bool) : Moves 0x1418E3C s (State.adoptFromStart s alone) := by
  unfold State.adoptFromStart
  exact .then (State.bootReady_moves ..) rfl <| .then (State.refreshValid_moves ..) rfl <| .then (State.markPassed_moves ..) rfl <| .then
    (State.syncBanks_moves ..) rfl <| .then (State.setDay_moves ..) rfl <| .refl ..

theorem State.tryAdoptStart_moves (s : State) : Moves 0x1418E3C s (State.tryAdoptStart s) := by
  unfold State.tryAdoptStart
  exact .ite (.then (State.adoptFromStart_moves ..) rfl <| .refl ..) (.refl ..)

theorem State.sendTimeRequest_moves (s : State) (p : Nat) : Moves 0x400028 s (State.sendTimeRequest s p) := by
  unfold State.sendTimeRequest
  exact .then (State.sendNear_moves ..) rfl <| .refl ..

theorem State.sendTimeRequests_moves (s : State) : Moves 0x400028 s (State.sendTimeRequests s) := by
  unfold State.sendTimeRequests
  exact .foldl _ (.refl ..) fun _ _ hx0 => .ite (.then (State.sendTimeRequest_moves ..) rfl hx0) hx0

theorem State.enterLocked_moves (s : State) (mean : Nat) : Moves 0x410A3C s (State.enterLocked s mean) := by
  unfold State.enterLocked
  extract_lets +onlyGivenNames -merge u0 u1
  have hu1 : Moves 0x410A3C s u1 := .then (State.elect_moves ..) rfl <| .then (State.setDayState_moves ..) rfl <| .then (State.setDay_moves ..) rfl <| .refl
    ..
  clear_value u1
  exact .then (State.refreshValid_moves ..) rfl <| .then (State.setDay_moves ..) rfl hu1

theorem State.acceptEdge_moves (s : State) (t : Nat) : Moves 0x410A3C s (State.acceptEdge s t) := by
  unfold State.acceptEdge
  extract_lets +onlyGivenNames -merge u0 u1 u2 u3
  have hu3 : Moves 0x410A3C s u3 := .then (State.setDay_moves ..) rfl <| .refl ..
  clear_value u3
  split
  · exact .ite (.then (State.losePhref_moves ..) rfl <| .then (State.flagOpen_moves ..) rfl hu3) hu3
  · split
    · exact .ite hu3 (.then (State.enterLocked_moves ..) rfl hu3)
    · exact hu3

theorem execPhrefEdge_moves (t : Nat) (s : State) : MovesR 0x410A3E s (execPhrefEdge t s) := by
  unfold execPhrefEdge
  extract_lets +onlyGivenNames -merge u0
  have hu0 : Moves 0x410A3E s u0 := .then (State.reachClk_moves ..) rfl <| .refl ..
  clear_value u0
  refine .next ?_
  refine .ite hu0 ?_
  split
  · exact .then (State.acceptEdge_moves ..) rfl hu0
  · exact .ite (.then (State.flagOpen_moves ..) rfl <| .then (State.bump_moves ..) rfl hu0) (.then (State.acceptEdge_moves ..) rfl hu0)

theorem execPhrefMissedCycle_moves (t : Nat) (s : State) : MovesR 0x410A3E s (execPhrefMissedCycle t s) := by
  unfold execPhrefMissedCycle
  extract_lets +onlyGivenNames -merge u0
  have hu0 : Moves 0x410A3E s u0 := .then (State.reachClk_moves ..) rfl <| .refl ..
  clear_value u0
  refine .next ?_
  refine .ite hu0 ?_
  split
  · exact hu0
  · refine .ite hu0 ?_
    extract_lets +onlyGivenNames -merge u6 u7
    have hu7 : Moves 0x410A3E s u7 := .then (State.bump_moves ..) rfl <| .then (State.setDay_moves ..) rfl hu0
    clear_value u7
    exact .ite (.then (State.losePhref_moves ..) rfl hu7) hu7

theorem State.endDay_moves (s : State) : Moves 0x410A3E s (State.endDay s) := by
  unfold State.endDay
  extract_lets +onlyGivenNames -merge u0 u1
  split
  extract_lets +onlyGivenNames -merge u6 u7 u8 u9 u10 u11 u12
  have hu12 : Moves 0x410A3E s u12 := .then (State.setDay_moves ..) rfl <| .then (State.reachClk_moves ..) rfl <| .refl ..
  clear_value u12
  extract_lets +onlyGivenNames -merge u13
  have hu13 : Moves 0x410A3E s u13 := .ite (.then (State.flagOpen_moves ..) rfl hu12) hu12
  clear_value u13
  extract_lets +onlyGivenNames -merge u14
  have hu14 : Moves 0x410A3E s u14 := .ite (.then (State.flagOpen_moves ..) rfl hu13) hu13
  clear_value u14
  exact .then (State.refreshValid_moves ..) rfl hu14

theorem execDayBoundary_moves (s : State) : MovesR 0x410A3E s (execDayBoundary s) := by
  unfold execDayBoundary
  exact .next <| .ite (.then (State.endDay_moves ..) rfl <| .refl ..) (.refl ..)

theorem State.fired_moves (s : State) (d : Due) : Moves 0x200 s (State.fired s d) := by
  unfold State.fired
  exact .then (State.setDay_moves ..) rfl <| .refl ..

theorem execHoldoverExpiry_moves (s : State) : MovesR 0x410A3C s (execHoldoverExpiry s) := by
  unfold execHoldoverExpiry
  extract_lets +onlyGivenNames -merge u0
  exact .next <| .ite (.then (State.setDayState_moves ..) rfl <| .refl ..) (.refl ..)

theorem execAcquireTimeout_moves (s : State) : MovesR 0x410A3E s (execAcquireTimeout s) := by
  unfold execAcquireTimeout
  refine .next ?_
  refine .ite ?_ ?_
  · extract_lets +onlyGivenNames -merge u0
    have hu0 : Moves 0x410A3E s u0 := .then (State.reachClk_moves ..) rfl <| .refl ..
    clear_value u0
    exact .then (State.setDayState_moves ..) rfl hu0
  · exact .refl ..

theorem execTimeExchange_moves (s : State) : MovesR 0x400028 s (execTimeExchange s) := by
  unfold execTimeExchange
  exact .next <| .ite (.then (State.sendTimeRequests_moves ..) rfl <| .refl ..) (.refl ..)

theorem State.hear_moves (s : State) (p : Nat) (i : TimeInfo) (pos : DayPos) (at_ : ℤ) : Moves 0x200 s (State.hear s p i pos at_) := by
  unfold State.hear
  extract_lets +onlyGivenNames -merge u0
  exact .then (State.setDay_moves ..) rfl <| .refl ..

theorem execTimeRequestRx_moves (p : TorusPort) (from_ : TimeInfo) (t1 : DayPos) (t2 : Nat) (t3 : Nat) (s : State) : MovesR 0x40022A s (execTimeRequestRx p from_
  t1 t2 t3 s) := by
  unfold execTimeRequestRx
  extract_lets +onlyGivenNames -merge u0 u1
  have hu1 : Moves 0x40022A s u1 := .then (State.reachClk_moves ..) rfl <| .then (State.hear_moves ..) rfl <| .refl ..
  clear_value u1
  exact .next <| .then (State.sendNear_moves ..) rfl hu1

theorem State.rejectParent_moves (s : State) : Moves 0x410A3C s (State.rejectParent s) := by
  unfold State.rejectParent
  extract_lets +onlyGivenNames -merge u0
  exact .then (State.elect_moves ..) rfl <| .then (State.flagOpen_moves ..) rfl <| .then (State.setDay_moves ..) rfl <| .refl ..

theorem State.heardParent_moves (s : State) (o : ℤ) (off : Bool) : Moves 0x410A3C s (State.heardParent s o off) := by
  unfold State.heardParent
  extract_lets +onlyGivenNames -merge u0 u1
  have hu1 : Moves 0x410A3C s u1 := .then (State.setDay_moves ..) rfl <| .refl ..
  clear_value u1
  extract_lets +onlyGivenNames -merge u2
  have hu2 : Moves 0x410A3C s u2 := .ite (.then (State.refreshValid_moves ..) rfl <| .then (State.flagOpen_moves ..) rfl hu1) hu1
  clear_value u2
  refine .ite (.then (State.rejectParent_moves ..) rfl hu2) ?_
  extract_lets +onlyGivenNames -merge u3
  have hu3 : Moves 0x410A3C s u3 := .then (State.takeParent_moves ..) rfl hu2
  clear_value u3
  exact .ite (.then (State.refreshValid_moves ..) rfl <| .then (State.setDay_moves ..) rfl hu3) hu3

theorem execTimeResponseRx_moves (p : TorusPort) (from_ : TimeInfo) (t1 : DayPos) (t2 : DayPos) (t3 : DayPos) (t4 : Nat) (s : State) : MovesR 0x1418E3E s
  (execTimeResponseRx p from_ t1 t2 t3 t4 s) := by
  unfold execTimeResponseRx
  extract_lets +onlyGivenNames -merge u0
  have hu0 : Moves 0x1418E3E s u0 := .then (State.reachClk_moves ..) rfl <| .refl ..
  clear_value u0
  extract_lets +onlyGivenNames -merge u1 u2 u3 u4
  have hu4 : Moves 0x1418E3E s u4 := .then (State.hear_moves ..) rfl hu0
  clear_value u4
  extract_lets +onlyGivenNames -merge u5 u6
  refine .next ?_
  refine .ite hu4 ?_
  refine .ite (.then (State.takeParent_moves ..) rfl <| .then (State.adoptFromParent_moves ..) rfl <| .then (State.elect_moves ..) rfl hu4) ?_
  extract_lets +onlyGivenNames -merge u7
  have hu7 : Moves 0x1418E3E s u7 := .then (State.elect_moves ..) rfl hu4
  clear_value u7
  exact .ite hu7 (.then (State.heardParent_moves ..) rfl hu7)

theorem execLeaderTimeout_moves (s : State) : MovesR 0x410A3C s (execLeaderTimeout s) := by
  unfold execLeaderTimeout
  extract_lets +onlyGivenNames -merge u0 u1
  exact .next <| .then (State.elect_moves ..) rfl <| .then (State.setDay_moves ..) rfl <| .refl ..

theorem State.writeDayStartHi_moves (v : Word) (who : Reader) (s : State) : Moves 0x1418E3C s (State.writeDayStartHi v who s) := by
  unfold State.writeDayStartHi
  exact .ite (.ite (.refl ..) (.then (State.locked_moves ..) rfl <| .refl ..)) (.then (State.tryAdoptStart_moves ..) rfl <| .then (State.setDay_moves ..) rfl
    <| .then (State.setReg_moves ..) rfl <| .refl ..)

theorem execDayStartHiWrite_moves (v : Word) (s : State) : MovesR 0x1418EFC s (execDayStartHiWrite v s) := by
  unfold execDayStartHiWrite
  exact .next <| State.onWrite_moves rfl (.refl ..) (fun x0 hx1 => .then (State.writeDayStartHi_moves ..) rfl hx1)

theorem execAdoptRequestTimer_moves (s : State) : MovesR 0x400028 s (execAdoptRequestTimer s) := by
  unfold execAdoptRequestTimer
  exact .next <| .ite (.refl ..) (.then (State.sendTimeRequests_moves ..) rfl <| .refl ..)

theorem execAdoptionLimit_moves (s : State) : MovesR 0x1418E3E s (execAdoptionLimit s) := by
  unfold execAdoptionLimit
  refine .next ?_
  refine .ite ?_ ?_
  · extract_lets +onlyGivenNames -merge u0
    have hu0 : Moves 0x1418E3E s u0 := .then (State.reachClk_moves ..) rfl <| .refl ..
    clear_value u0
    exact .then (State.tryAdoptStart_moves ..) rfl <| .then (State.setDay_moves ..) rfl hu0
  · exact .refl ..

theorem execAdoptionFallback_moves (s : State) : MovesR 0x1418E3E s (execAdoptionFallback s) := by
  unfold execAdoptionFallback
  exact .next <| .ite (.then (State.adoptFromStart_moves ..) rfl <| .then (State.reachClk_moves ..) rfl <| .refl ..) (.refl ..)

theorem State.writeHourOfs_moves (v : Word) (s : State) : Moves 0x10A3C s (State.writeHourOfs v s) := by
  unfold State.writeHourOfs
  exact .ite (.then (State.flagOpen_moves ..) rfl <| .refl ..) (.then (State.setDay_moves ..) rfl <| .then (State.setReg_moves ..) rfl <| .refl ..)

theorem execDayHourOfsWrite_moves (v : Word) (s : State) : MovesR 0x10AFC s (execDayHourOfsWrite v s) := by
  unfold execDayHourOfsWrite
  exact .next <| State.onWrite_moves rfl (.refl ..) (fun x0 hx1 => .then (State.writeHourOfs_moves ..) rfl hx1)

theorem State.writeHoldLimit_moves (v : Word) (s : State) : Moves 0x20 s (State.writeHoldLimit v s) := by
  unfold State.writeHoldLimit
  exact .then (State.setReg_moves ..) rfl <| .refl ..

theorem execDayHoldLimitWrite_moves (v : Word) (s : State) : MovesR 0xE0 s (execDayHoldLimitWrite v s) := by
  unfold execDayHoldLimitWrite
  exact .next <| State.onWrite_moves rfl (.refl ..) (fun x0 hx1 => .then (State.writeHoldLimit_moves ..) rfl hx1)

theorem State.writeDayCtrl_moves (v : Word) (s : State) : Moves 0x410A3C s (State.writeDayCtrl v s) := by
  unfold State.writeDayCtrl
  extract_lets +onlyGivenNames -merge u0
  have hu0 : Moves 0x410A3C s u0 := .then (State.setReg_moves ..) rfl <| .refl ..
  clear_value u0
  extract_lets +onlyGivenNames -merge u1 u2
  have hu2 : Moves 0x410A3C s u2 := .ite (.then (State.setDay_moves ..) rfl hu0) hu0
  clear_value u2
  exact .then (State.elect_moves ..) rfl hu2

theorem execDayCtrlWrite_moves (v : Word) (s : State) : MovesR 0x410AFC s (execDayCtrlWrite v s) := by
  unfold execDayCtrlWrite
  exact .next <| State.onWrite_moves rfl (.refl ..) (fun x0 hx1 => .then (State.writeDayCtrl_moves ..) rfl hx1)

theorem State.resyncDay_moves (who : Reader) (s : State) : Moves 0x1418E3C s (State.resyncDay who s) := by
  unfold State.resyncDay
  extract_lets +onlyGivenNames -merge u0
  split
  · refine .ite ?_ ?_
    · extract_lets +onlyGivenNames -merge u5
      have hu5 : Moves 0x1418E3C s u5 := .then (State.setFld_moves ..) rfl <| .refl ..
      clear_value u5
      extract_lets +onlyGivenNames -merge u6 u7
      have hu7 : Moves 0x1418E3C s u7 := .then (State.setDay_moves ..) rfl hu5
      clear_value u7
      exact .then (State.refreshValid_moves ..) rfl <| .then (State.takeParent_moves ..) rfl <| .then (State.bootReady_moves ..) rfl <| .then
        (State.refreshValid_moves ..) rfl <| .then (State.stepTo_moves ..) rfl hu7
    · exact .then (State.locked_moves ..) rfl <| .refl ..
  · exact .then (State.locked_moves ..) rfl <| .refl ..

theorem State.writeDayCmd_moves (v : Word) (who : Reader) (s : State) : Moves 0x1418E3C s (State.writeDayCmd v who s) := by
  unfold State.writeDayCmd
  exact .ite (.then (State.resyncDay_moves ..) rfl <| .refl ..) (.refl ..)

theorem execDayResync_moves (s : State) : MovesR 0x1418EFC s (execDayResync s) := by
  unfold execDayResync
  exact .next <| State.onWrite_moves rfl (.refl ..) (fun x0 hx1 => .then (State.writeDayCmd_moves ..) rfl hx1)

theorem execDayVoteMismatch_moves (c1 : DayPos) (c2 : DayPos) (c3 : DayPos) (s : State) : MovesR 0x1EF7F3C s (execDayVoteMismatch c1 c2 c3 s) := by
  unfold execDayVoteMismatch
  extract_lets +onlyGivenNames -merge u0
  refine .next ?_
  refine .ite (.refl ..) ?_
  refine .ite ?_ ?_
  · refine .then (State.flagOpen_moves ..) rfl ?_
    unfold u0
    extract_lets +onlyGivenNames -merge u1
    exact .then (State.setDay_moves ..) rfl <| .refl ..
  · refine .ite ?_ ?_
    · refine .then (State.flagOpen_moves ..) rfl ?_
      unfold u0
      extract_lets +onlyGivenNames -merge u2
      exact .then (State.setDay_moves ..) rfl <| .refl ..
    · extract_lets +onlyGivenNames -merge u3
      have hu3 : Moves 0x1EF7F3C s u3 := by
        unfold u3
        unfold u0
        extract_lets +onlyGivenNames -merge u4
        exact .then (State.setDay_moves ..) rfl <| .refl ..
      clear_value u3
      extract_lets +onlyGivenNames -merge u5 u6
      have hu6 : Moves 0x1EF7F3C s u6 := .then (State.setDay_moves ..) rfl hu3
      clear_value u6
      extract_lets +onlyGivenNames -merge u7
      have hu7 : Moves 0x1EF7F3C s u7 := .ite hu6 (.then (State.setDayState_moves ..) rfl hu6)
      clear_value u7
      exact .then (State.packageFault_moves ..) rfl <| .then (State.refreshValid_moves ..) rfl <| .then (State.setDay_moves ..) rfl hu7

/-! ### Machine/Remap.lean -/

theorem State.setRep_moves (s : State) (r : RepairUnit) : Moves 0x2000000 s (State.setRep s r) := by
  unfold State.setRep
  exact .rep _ rfl <| .refl ..

theorem State.repairFlag_moves (s : State) (bit : Nat) (idx : Nat) (pa : Nat) : Moves 0x10838 s (State.repairFlag s bit idx pa) := by
  unfold State.repairFlag
  exact .ite (.refl ..) (.then (State.alert_moves ..) rfl <| .then (State.event_moves ..) rfl <| .then (State.setFld_moves ..) rfl <| .refl ..)

theorem State.compactMap_moves (s : State) : Moves 0x2000000 s (State.compactMap s) := by
  unfold State.compactMap
  extract_lets +onlyGivenNames -merge u0 u1
  exact .then (State.setRep_moves ..) rfl <| .refl ..

theorem State.noteEntry_moves (s : State) (e : DEntry) : MovesP 0x201083C s (State.noteEntry s e) := by
  unfold State.noteEntry
  extract_lets +onlyGivenNames -merge u0 u1
  refine .ite ?_ ?_
  · unfold u1
    extract_lets +onlyGivenNames -merge u2
    exact .mk <| .then (State.setRep_moves ..) rfl <| .refl ..
  · refine .ite ?_ ?_
    · unfold u1
      extract_lets +onlyGivenNames -merge u3
      exact .mk <| .then (State.setRep_moves ..) rfl <| .then (State.compactMap_moves ..) rfl <| .refl ..
    · split
      rename_i x4 x5 x6 x7
      exact .mk <| .then (State.repairFlag_moves ..) rfl <| .then (State.setRep_moves ..) rfl <| MovesP.of (.then (State.takeFree_moves ..) rfl <| .refl ..)
        x7

theorem State.moveEntry_moves (s : State) (i : Nat) (st : Nat) : Moves 0x2000000 s (State.moveEntry s i st) := by
  unfold State.moveEntry
  exact .then (State.setRep_moves ..) rfl <| .refl ..

theorem State.remapDone_moves (s : State) (idx : Nat) (e : DEntry) (unit : Nat) : Moves 0x1483C s (State.remapDone s idx e unit) := by
  unfold State.remapDone
  exact .then (State.repairFlag_moves ..) rfl <| .then (State.record_moves ..) rfl <| .refl ..

theorem State.supersede_moves (s : State) (e : DEntry) : Moves 0x2000000 s (State.supersede s e) := by
  unfold State.supersede
  refine .foldl _ (.refl ..) fun x0 _ hx0 => ?_
  split
  · exact .ite (.then (State.moveEntry_moves ..) rfl hx0) hx0
  · exact hx0

theorem State.noteApplied_moves (s : State) (e : DEntry) (unit : Nat) : Moves 0x201483C s (State.noteApplied s e unit) := by
  unfold State.noteApplied
  extract_lets +onlyGivenNames -merge u0
  split
  · rename_i x1 x2 x3 x4
    exact .then (State.remapDone_moves ..) rfl <| MovesP.of (.then (State.noteEntry_moves ..) rfl <| .then (State.supersede_moves ..) rfl <| .refl ..) x4
  · rename_i x5 x6 x7
    split
    rename_i x8 x9 x10 x11
    exact .then (State.remapDone_moves ..) rfl <| MovesP.of (.then (State.takeFree_moves ..) rfl <| MovesP.of (.then (State.noteEntry_moves ..) rfl <| .then
      (State.supersede_moves ..) rfl <| .refl ..) x7) x11

theorem State.retire_moves (s : State) (e : DEntry) : Moves 0x201083C s (State.retire s e) := by
  unfold State.retire
  extract_lets +onlyGivenNames -merge u0
  split
  · exact .then (State.repairFlag_moves ..) rfl <| .refl ..
  · split
    · rename_i x6 x7 x8 x9
      exact .then (State.repairFlag_moves ..) rfl <| MovesP.of (.then (State.noteEntry_moves ..) rfl <| .refl ..) x9
    · rename_i x10 x11 x12
      split
      rename_i x13 x14 x15 x16
      exact .then (State.repairFlag_moves ..) rfl <| MovesP.of (.then (State.takeFree_moves ..) rfl <| MovesP.of (.then (State.noteEntry_moves ..) rfl <|
        .refl ..) x12) x16

theorem State.retireUnit_moves (s : State) (cause : Nat) (v : Nat) : Moves 0x201083C s (State.retireUnit s cause v) := by
  unfold State.retireUnit
  exact .then (State.retire_moves ..) rfl <| .refl ..

theorem State.queueEntry_moves (s : State) (e : DEntry) : Moves 0x201083C s (State.queueEntry s e) := by
  unfold State.queueEntry
  extract_lets +onlyGivenNames -merge u0 u1 u2
  refine .ite (.refl ..) ?_
  split
  · rename_i x3 x4 x5 x6
    exact .then (State.repairFlag_moves ..) rfl <| MovesP.of (.then (State.noteEntry_moves ..) rfl <| .refl ..) x6
  · rename_i x7 x8 x9
    exact MovesP.of (.then (State.noteEntry_moves ..) rfl <| .refl ..) x9

theorem State.rowWorn_moves (s : State) (kind : Nat) (pa : Nat) (loc : Nat) (row : Nat) : Moves 0x201083C s (State.rowWorn s kind pa loc row) := by
  unfold State.rowWorn
  extract_lets +onlyGivenNames -merge u0
  refine .ite (.then (State.queueEntry_moves ..) rfl <| .refl ..) ?_
  extract_lets +onlyGivenNames -merge u1
  exact .ite (.then (State.queueEntry_moves ..) rfl <| .refl ..) (.ite (.refl ..) (.then (State.retire_moves ..) rfl <| .refl ..))

theorem State.countRow_moves (s : State) (u : Nat) (pa : Nat) (loc : Nat) (row : Nat) : Moves 0x201083C s (State.countRow s u pa loc row) := by
  unfold State.countRow
  extract_lets +onlyGivenNames -merge u0 u1 u2
  refine .ite (.refl ..) ?_
  extract_lets +onlyGivenNames -merge u3 u4
  have hu4 : Moves 0x201083C s u4 := .then (State.setRep_moves ..) rfl <| .refl ..
  clear_value u4
  exact .ite (.then (State.rowWorn_moves ..) rfl hu4) hu4

theorem State.unfenceRow_moves (s : State) (loc : Nat) (row : Nat) : Moves 0x200000 s (State.unfenceRow s loc row) := by
  unfold State.unfenceRow
  extract_lets +onlyGivenNames -merge u0
  exact .then (State.setCmb_moves ..) rfl <| .refl ..

theorem State.rowApplied_moves (s : State) (i : Nat) (e : DEntry) : Moves 0x221483C s (State.rowApplied s i e) := by
  unfold State.rowApplied
  extract_lets +onlyGivenNames -merge u0
  have hu0 : Moves 0x221483C s u0 := .then (State.remapDone_moves ..) rfl <| .then (State.moveEntry_moves ..) rfl <| .refl ..
  clear_value u0
  exact .ite (.then (State.unfenceRow_moves ..) rfl hu0) hu0

theorem State.rowFailed_moves (s : State) (loc : Nat) (row : Nat) (pa : Nat) : Moves 0x201483C s (State.rowFailed s loc row pa) := by
  unfold State.rowFailed
  extract_lets +onlyGivenNames -merge u0
  exact .ite (.refl ..) (.ite (.then (State.noteApplied_moves ..) rfl <| .refl ..) (.then (State.retire_moves ..) rfl <| .refl ..))

theorem State.queuedRows_moves (s : State) (mine : DEntry → Bool) : Moves 0x221483C s (State.queuedRows s mine) := by
  unfold State.queuedRows
  refine .foldl _ (.refl ..) fun x0 _ hx0 => ?_
  split
  · exact .ite (.then (State.rowApplied_moves ..) rfl hx0) hx0
  · exact hx0

theorem State.setMaps_moves (s : State) (m : UnitMaps) : Moves 0x100000 s (State.setMaps s m) := by
  unfold State.setMaps
  exact .maps _ rfl <| .refl ..

theorem State.setEngineMap_moves (s : State) (m : Tab Nat) : Moves 0x11083C s (State.setEngineMap s m) := by
  unfold State.setEngineMap
  refine .ite (.refl ..) ?_
  refine .ite ?_ ?_
  · extract_lets +onlyGivenNames -merge u0 u1 u2 u3
    have hu3 : Moves 0x11083C s u3 := .then (State.setMaps_moves ..) rfl <| .refl ..
    clear_value u3
    exact .then (State.flagOpen_moves ..) rfl <| .then (State.setReg_moves ..) rfl hu3
  · exact .then (State.setMaps_moves ..) rfl <| .refl ..

theorem State.markEngine_moves (s : State) (i : Nat) : Moves 0x100000 s (State.markEngine s i) := by
  unfold State.markEngine
  exact .then (State.setMaps_moves ..) rfl <| .refl ..

theorem State.markCore_moves (s : State) (i : Nat) : Moves 0x100000 s (State.markCore s i) := by
  unfold State.markCore
  exact .then (State.setMaps_moves ..) rfl <| .refl ..

theorem State.markSlice_moves (s : State) (i : Nat) : Moves 0x100000 s (State.markSlice s i) := by
  unfold State.markSlice
  exact .then (State.setMaps_moves ..) rfl <| .refl ..

theorem State.substEngine_moves (s : State) (k : Nat) (cause : Nat) : Moves 0x219483C s (State.substEngine s k cause) := by
  unfold State.substEngine
  extract_lets +onlyGivenNames -merge u0
  have hu0 : Moves 0x219483C s u0 := .then (State.markEngine_moves ..) rfl <| .refl ..
  clear_value u0
  split
  · extract_lets +onlyGivenNames -merge u4
    have hu4 : Moves 0x219483C s u4 := .then (State.setEngineMap_moves ..) rfl hu0
    clear_value u4
    exact .then (State.due_moves ..) rfl <| .then (State.noteApplied_moves ..) rfl <| .then (State.setDp_moves ..) rfl hu4
  · exact .then (State.retireUnit_moves ..) rfl hu0

theorem State.spareLost_moves (s : State) (i : Nat) (tested : Bool) : Moves 0x2010838 s (State.spareLost s i tested) := by
  unfold State.spareLost
  extract_lets +onlyGivenNames -merge u0
  have hu0 : Moves 0x2010838 s u0 := .then (State.moveEntry_moves ..) rfl <| .refl ..
  clear_value u0
  exact .ite (.then (State.repairFlag_moves ..) rfl hu0) hu0

theorem State.deriveEngines_moves (s : State) (n : Nat) (bad : List Nat) (queued : Bool) : Moves 0x211483C s (State.deriveEngines s n bad queued) := by
  unfold State.deriveEngines
  extract_lets +onlyGivenNames -merge u0
  have hu0 : Moves 0x211483C s u0 := .foldl _ (.refl ..) fun _ _ hx1 => .ite (.then (State.markEngine_moves ..) rfl hx1) hx1
  clear_value u0
  extract_lets +onlyGivenNames -merge u3 u4 u5 u6 u7 u8
  split
  rename_i x9 x10 x11 x12
  extract_lets +onlyGivenNames -merge u13
  split
  rename_i x14 x15 x16 x17 x18
  extract_lets +onlyGivenNames -merge u19
  have hu19 : Moves 0x211483C s u19 := by
    unfold u19
    refine .then (State.setEngineMap_moves ..) rfl ?_
    refine MovesF.of ?_ x18
    refine .foldl _ ?_ fun x20 _ hx20 => ?_
    · refine .mk ?_
      refine MovesF.of ?_ x12
      refine .foldl _ (.mk hu0) fun x22 _ hx22 => ?_
      unfold u8
      split
      · refine .ite ?_ ?_
        · refine .ite ?_ ?_
          · extract_lets +onlyGivenNames -merge u27 u28
            have hu28 : Moves 0x211483C s u28 := .ite (MovesF.fst hx22) (.then (State.markEngine_moves ..) rfl <| MovesF.fst hx22)
            clear_value u28
            exact .mk <| .then (State.remapDone_moves ..) rfl <| .then (State.moveEntry_moves ..) rfl hu28
          · exact .mk <| .then (State.spareLost_moves ..) rfl <| MovesF.fst hx22
        · exact hx22
      · exact hx22
    · unfold u13
      refine .ite hx20 ?_
      split
      · exact .mk <| .then (State.noteApplied_moves ..) rfl <| MovesF.fst hx20
      · exact .mk <| .then (State.retireUnit_moves ..) rfl <| MovesF.fst hx20
  clear_value u19
  extract_lets +onlyGivenNames -merge u36 u37
  have hu37 : Moves 0x211483C s u37 := .foldl _ hu19 fun _ _ hx38 => .then (State.setDp_moves ..) rfl hx38
  clear_value u37
  exact .ite (.then (State.flagOpen_moves ..) rfl hu37) hu37

theorem State.selfTest_moves (s : State) (n : Nat) (badEngines : List Nat) (badSfu : Bool) (queued : Bool) : Moves 0x211483C s (State.selfTest s n badEngines
  badSfu queued) := by
  unfold State.selfTest
  extract_lets +onlyGivenNames -merge u0
  have hu0 : Moves 0x211483C s u0 := .then (State.deriveEngines_moves ..) rfl <| .refl ..
  clear_value u0
  exact .ite (.then (State.flagOpen_moves ..) rfl <| .then (State.setDp_moves ..) rfl hu0) (.then (State.setDp_moves ..) rfl hu0)

theorem State.substCore_moves (s : State) (k : Nat) (cause : Nat) : Moves 0x3FF7F3C s (State.substCore s k cause) := by
  unfold State.substCore
  extract_lets +onlyGivenNames -merge u0
  have hu0 : Moves 0x3FF7F3C s u0 := .then (State.markCore_moves ..) rfl <| .refl ..
  clear_value u0
  split
  · extract_lets +onlyGivenNames -merge u4 u5
    have hu5 : Moves 0x3FF7F3C s u5 := .then (State.setMaps_moves ..) rfl hu0
    clear_value u5
    exact .then (State.noteApplied_moves ..) rfl <| .then (State.setDp_moves ..) rfl hu5
  · exact .then (State.packageFault_moves ..) rfl <| .then (State.retireUnit_moves ..) rfl hu0

theorem State.substSlice_moves (s : State) (k : Nat) (cause : Nat) : Moves 0x211483C s (State.substSlice s k cause) := by
  unfold State.substSlice
  extract_lets +onlyGivenNames -merge u0
  have hu0 : Moves 0x211483C s u0 := .then (State.markSlice_moves ..) rfl <| .refl ..
  clear_value u0
  split
  · extract_lets +onlyGivenNames -merge u4 u5
    have hu5 : Moves 0x211483C s u5 := .then (State.setMaps_moves ..) rfl hu0
    clear_value u5
    exact .then (State.noteApplied_moves ..) rfl <| .then (State.setDp_moves ..) rfl hu5
  · exact .then (State.retireUnit_moves ..) rfl <| .then (State.setMaps_moves ..) rfl hu0

theorem State.deriveHub_moves (s : State) (badCores : List Nat) (badSlices : List Nat) : Moves 0x231483C s (State.deriveHub s badCores badSlices) := by
  unfold State.deriveHub
  extract_lets +onlyGivenNames -merge u0
  have hu0 : Moves 0x231483C s u0 := .foldl _ (.refl ..) fun _ _ hx1 => .ite (.then (State.markCore_moves ..) rfl hx1) hx1
  clear_value u0
  extract_lets +onlyGivenNames -merge u3
  have hu3 : Moves 0x231483C s u3 := .foldl _ hu0 fun _ _ hx4 => .ite (.then (State.markSlice_moves ..) rfl hx4) hx4
  clear_value u3
  extract_lets +onlyGivenNames -merge u6 u7 u8 u9
  have hu9 : Moves 0x231483C s u9 := .then (State.setMaps_moves ..) rfl hu3
  clear_value u9
  extract_lets +onlyGivenNames -merge u10 u11 u12
  have hu12 : Moves 0x231483C s u12 := by
    unfold u12
    refine .foldl _ hu9 fun x13 _ hx13 => ?_
    unfold u11
    split
    · refine .ite hx13 ?_
      refine .ite ?_ ?_
      · refine .ite ?_ ?_
        · extract_lets +onlyGivenNames -merge u18
          have hu18 : Moves 0x231483C s u18 := .ite hx13 (.then (State.markCore_moves ..) rfl hx13)
          clear_value u18
          extract_lets +onlyGivenNames -merge u19 u20
          have hu20 : Moves 0x231483C s u20 := .then (State.setMaps_moves ..) rfl hu18
          clear_value u20
          exact .then (State.remapDone_moves ..) rfl <| .then (State.moveEntry_moves ..) rfl <| .then (State.setDp_moves ..) rfl hu20
        · exact .then (State.spareLost_moves ..) rfl hx13
      · refine .ite ?_ ?_
        · refine .ite ?_ ?_
          · extract_lets +onlyGivenNames -merge u21
            have hu21 : Moves 0x231483C s u21 := .ite hx13 (.then (State.markSlice_moves ..) rfl hx13)
            clear_value u21
            extract_lets +onlyGivenNames -merge u22 u23
            have hu23 : Moves 0x231483C s u23 := .then (State.setMaps_moves ..) rfl hu21
            clear_value u23
            exact .then (State.remapDone_moves ..) rfl <| .then (State.moveEntry_moves ..) rfl <| .then (State.setDp_moves ..) rfl hu23
          · exact .then (State.spareLost_moves ..) rfl hx13
        · exact .ite (.then (State.rowApplied_moves ..) rfl hx13) hx13
    · exact hx13
  clear_value u12
  extract_lets +onlyGivenNames -merge u26
  have hu26 : Moves 0x231483C s u26 := by
    unfold u26
    refine .foldl _ hu12 fun x27 _ hx27 => ?_
    refine .ite ?_ ?_
    · split
      · exact .then (State.noteApplied_moves ..) rfl <| .then (State.setMaps_moves ..) rfl hx27
      · exact .then (State.retireUnit_moves ..) rfl <| .then (State.setDp_moves ..) rfl hx27
    · exact hx27
  clear_value u26
  exact .foldl _ hu26 fun _ _ hx34 => .ite hx34 (.ite (.then (State.substSlice_moves ..) rfl <| .then (State.setDp_moves ..) rfl hx34) hx34)

theorem State.noteWire_moves (s : State) (n : Nat) (dir : Nat) (g : Nat) (w : Nat) (cause : Nat) : Moves 0x201483C s (State.noteWire s n dir g w cause) := by
  unfold State.noteWire
  extract_lets +onlyGivenNames -merge u0 u1
  exact .ite (.refl ..) (.then (State.noteApplied_moves ..) rfl <| .refl ..)

theorem State.wireMargins_moves (s : State) (n : Nat) (dir : Nat) (eyes : List (Nat × Nat × Nat)) : Moves 0x201083C s (State.wireMargins s n dir eyes) := by
  unfold State.wireMargins
  exact .foldl _ (.refl ..) fun _ _ hx0 => .ite (.then (State.queueEntry_moves ..) rfl hx0) hx0

theorem State.queueLane_moves (s : State) (p : Nat) (k : Nat) : Moves 0x201083C s (State.queueLane s p k) := by
  unfold State.queueLane
  exact .then (State.queueEntry_moves ..) rfl <| .refl ..

theorem State.laneMargins_moves (s : State) (p : Nat) (margins : List Nat) : Moves 0x201083C s (State.laneMargins s p margins) := by
  unfold State.laneMargins
  exact .foldl _ (.refl ..) fun _ _ hx0 => .ite (.then (State.queueLane_moves ..) rfl hx0) hx0

theorem State.queuedWires_moves (s : State) (n : Nat) (dir : Nat) (spares : Tab Nat) : MovesF 0x201483C s (State.queuedWires s n dir spares) := by
  unfold State.queuedWires
  refine .foldl _ (.mk <| .refl ..) fun x0 _ hx0 => ?_
  split
  · refine .ite ?_ ?_
    · extract_lets +onlyGivenNames -merge u5
      exact .ite (.mk <| .then (State.remapDone_moves ..) rfl <| .then (State.moveEntry_moves ..) rfl <| MovesF.fst hx0) (.mk <| .then (State.moveEntry_moves
        ..) rfl <| MovesF.fst hx0)
    · exact hx0
  · exact hx0

theorem State.loadDefects_moves (s : State) (f : FlashLoad) : Moves 0x201083C s (State.loadDefects s f) := by
  unfold State.loadDefects
  extract_lets +onlyGivenNames -merge u0
  refine .ite ?_ ?_
  · split
    rename_i x1 x2 x3 x4
    exact .then (State.repairFlag_moves ..) rfl <| .then (State.setRep_moves ..) rfl <| MovesP.of (.then (State.takeFree_moves ..) rfl <| .refl ..) x4
  · extract_lets +onlyGivenNames -merge u5 u6
    exact .then (State.setRep_moves ..) rfl <| .refl ..

theorem State.placeRetained_moves (s : State) : Moves 0x4000 s (State.placeRetained s) := by
  unfold State.placeRetained
  split
  · exact .refl ..
  · exact .flt _ rfl rfl <| .refl ..

theorem State.bracketBank_moves (s : State) (n : Nat) : Moves 0x4000 s (State.bracketBank s n) := by
  unfold State.bracketBank
  split
  · exact .ite (.flt _ rfl rfl <| .refl ..) (.refl ..)
  · exact .refl ..

theorem State.clearAging_moves (s : State) (n : Nat) : Moves 0x2000000 s (State.clearAging s n) := by
  unfold State.clearAging
  exact .then (State.setRep_moves ..) rfl <| .refl ..

/-! ### Machine/Sched.lean -/

theorem State.noteReady_moves (s : State) (c : Nat) : Moves 0x1000 s (State.noteReady s c) := by
  unfold State.noteReady
  split
  · exact .ite (.then (State.setDesc_moves ..) rfl <| .refl ..) (.refl ..)
  · exact .refl ..

theorem State.markReady_moves (s : State) : Moves 0x80020 s (State.markReady s) := by
  unfold State.markReady
  extract_lets +onlyGivenNames -merge u0 u1 u2 u3 u4 u5 u6 u7
  have hu7 : Moves 0x80020 s u7 := .then (State.setWork_moves ..) rfl <| .refl ..
  clear_value u7
  extract_lets +onlyGivenNames -merge u8 u9
  have hu9 : Moves 0x80020 s u9 := .foldl _ hu7 fun _ _ hx10 => .then (State.due_moves ..) rfl hx10
  clear_value u9
  exact .ite hu9 (.foldl _ hu9 fun _ _ hx12 => .then (State.setVt_moves ..) rfl hx12)

theorem State.fillStore_moves (s : State) (k : Nat) : Moves 0x80000 s (State.fillStore s k) := by
  unfold State.fillStore
  refine .foldl _ (.refl ..) fun x0 _ hx0 => ?_
  refine .ite hx0 ?_
  extract_lets +onlyGivenNames -merge u2 u3
  exact .then (State.setJob_moves ..) rfl hx0

theorem State.noteDeferral_moves (s : State) (c : Nat) (idx : Nat) (gi : Nat) (g : Group) : Moves 0x80020 s (State.noteDeferral s c idx gi g) := by
  unfold State.noteDeferral
  refine .ite (.refl ..) ?_
  split
  · exact .then (State.bump_moves ..) rfl <| .then (State.bump_moves ..) rfl <| .then (State.setJob_moves ..) rfl <| .refl ..
  · exact .refl ..

theorem State.issue_moves (s : State) (c : Nat) (idx : Nat) (gi : Nat) (g : Group) (p : Nat) : Moves 0x1080428 s (State.issue s c idx gi g p) := by
  unfold State.issue
  split
  · exact .refl ..
  · extract_lets +onlyGivenNames -merge u5 u6 u7 u8 u9
    have hu9 : Moves 0x1080428 s u9 := .then (State.setJob_moves ..) rfl <| .refl ..
    clear_value u9
    extract_lets +onlyGivenNames -merge u10
    have hu10 : Moves 0x1080428 s u10 := .then (State.sendCmd_moves ..) rfl hu9
    clear_value u10
    extract_lets +onlyGivenNames -merge u11
    have hu11 : Moves 0x1080428 s u11 := .then (State.reserve_moves ..) rfl <| .then (State.setOccupant_moves ..) rfl hu10
    clear_value u11
    extract_lets +onlyGivenNames -merge u12
    have hu12 : Moves 0x1080428 s u12 := .then (State.bump64_moves ..) rfl hu11
    clear_value u12
    extract_lets +onlyGivenNames -merge u13
    have hu13 : Moves 0x1080428 s u13 := by
      unfold u13
      split
      · exact .ite hu12 (.then (State.bump_moves ..) rfl hu12)
      · exact hu12
    clear_value u13
    exact .then (State.fillStore_moves ..) rfl hu13

theorem State.tryBallast_moves (s : State) (p : Nat) : Moves 0x1000020 s (State.tryBallast s p) := by
  unfold State.tryBallast
  exact .ite (.then (State.reserve_moves ..) rfl <| .pwr _ rfl <| .refl ..) (.refl ..)

theorem State.noteBallast_moves (s : State) (uj : Nat) : Moves 0x1000020 s (State.noteBallast s uj) := by
  unfold State.noteBallast
  extract_lets +onlyGivenNames -merge u0
  exact .then (State.bump_moves ..) rfl <| .pwr _ rfl <| .refl ..

theorem State.cutBallast_moves (s : State) (p : Nat) : Moves 0x1080024 s (State.cutBallast s p) := by
  unfold State.cutBallast
  split
  rename_i x0 x1 x2 x3
  extract_lets +onlyGivenNames -merge u4 u5 u6
  have hu6 : Moves 0x1080024 s u6 := .then (State.due_moves ..) rfl <| .pwr _ rfl <| MovesP.of (.then (State.takeFree_moves ..) rfl <| .refl ..) x3
  clear_value u6
  exact .then (State.noteBallast_moves ..) rfl <| .then (State.settle_moves ..) rfl hu6

theorem State.trimBallast_moves (s : State) : Moves 0x1080024 s (State.trimBallast s) := by
  unfold State.trimBallast
  exact .foldl _ (.refl ..) fun _ _ hx0 => .ite (.then (State.cutBallast_moves ..) rfl hx0) hx0

theorem State.decideFor_moves (s : State) (left : Option Nat) (p : Nat) : Moves 0x1080428 s (State.decideFor s left p) := by
  unfold State.decideFor
  refine .ite (.refl ..) ?_
  extract_lets +onlyGivenNames -merge u0 u1 u2
  have hu2 : Moves 0x1080428 s u2 := .foldl _ (.refl ..) fun _ _ hx3 => .then (State.noteDeferral_moves ..) rfl hx3
  clear_value u2
  extract_lets +onlyGivenNames -merge u5
  split
  · extract_lets +onlyGivenNames -merge u8
    have hu8 : Moves 0x1080428 s u8 := .ite hu2 (.then (State.setFld_moves ..) rfl hu2)
    clear_value u8
    exact .then (State.tryBallast_moves ..) rfl hu8
  · extract_lets +onlyGivenNames -merge u15
    have hu15 : Moves 0x1080428 s u15 := by
      unfold u15
      split
      · exact .ite (.then (State.bump_moves ..) rfl hu2) hu2
      · exact hu2
    clear_value u15
    exact .then (State.issue_moves ..) rfl hu15

theorem State.schedule_moves (s : State) (left : Option (Nat × Nat)) : Moves 0x108042C s (State.schedule s left) := by
  unfold State.schedule
  extract_lets +onlyGivenNames -merge u0
  have hu0 : Moves 0x108042C s u0 := .then (State.markReady_moves ..) rfl <| .then (State.trimBallast_moves ..) rfl <| .then (State.rebase_moves ..) rfl <|
    .refl ..
  clear_value u0
  extract_lets +onlyGivenNames -merge u1 u2 u3
  have hu3 : Moves 0x108042C s u3 := .then (State.setWork_moves ..) rfl hu0
  clear_value u3
  exact .then (State.noteIdle_moves ..) rfl <| .foldl _ hu3 fun _ _ hx4 => .then (State.decideFor_moves ..) rfl hx4

theorem State.scheduleAll_moves (s : State) : Moves 0x108042C s (State.scheduleAll s) := by
  unfold State.scheduleAll
  exact .then (State.schedule_moves ..) rfl <| .foldl _ (.refl ..) fun _ _ hx0 => .then (State.due_moves ..) rfl hx0

/-! ### Machine/Strobe.lean -/

theorem State.strobeDecision_moves (s : State) : Moves 0x108142C s (State.strobeDecision s) := by
  unfold State.strobeDecision
  extract_lets +onlyGivenNames -merge u0
  have hu0 : Moves 0x108142C s u0 := .foldl _ (.refl ..) fun _ _ hx1 => .then (State.noteReady_moves ..) rfl hx1
  clear_value u0
  exact .ite (.then (State.noteIdle_moves ..) rfl hu0) (.then (State.scheduleAll_moves ..) rfl hu0)

theorem execMinuteStrobe_moves (s : State) : MovesR 0x148162E s (execMinuteStrobe s) := by
  unfold execMinuteStrobe
  refine .ite (.next <| .refl ..) ?_
  extract_lets +onlyGivenNames -merge u0 u1 u2
  have hu2 : Moves 0x148162E s u2 := .then (State.setDay_moves ..) rfl <| .refl ..
  clear_value u2
  extract_lets +onlyGivenNames -merge u3
  have hu3 : Moves 0x148162E s u3 := .then (State.reachClk_moves ..) rfl hu2
  clear_value u3
  extract_lets +onlyGivenNames -merge u4
  have hu4 : Moves 0x148162E s u4 := .foldl _ hu3 fun _ _ hx5 => .then (State.setBank_moves ..) rfl hx5
  clear_value u4
  extract_lets +onlyGivenNames -merge u7
  have hu7 : Moves 0x148162E s u7 := .foldl _ hu4 fun _ _ hx8 => .then (State.setPort_moves ..) rfl hx8
  clear_value u7
  extract_lets +onlyGivenNames -merge u10
  have hu10 : Moves 0x148162E s u10 := .then (State.send_moves ..) rfl hu7
  clear_value u10
  extract_lets +onlyGivenNames -merge u11
  have hu11 : Moves 0x148162E s u11 := .foldl _ hu10 fun _ _ hx12 => .ite (.then (State.sendCtl_moves ..) rfl hx12) hx12
  clear_value u11
  extract_lets +onlyGivenNames -merge u14 u15
  have hu15 : Moves 0x148162E s u15 := .then (State.setDay_moves ..) rfl hu11
  clear_value u15
  exact .next <| .then (State.strobeDecision_moves ..) rfl hu15

/-! ### Machine/Start.lean -/

theorem State.finish_moves (s : State) (c : Nat) (d : Desc) (code : Nat) (detail : Nat) : Moves 0x1001020 s (State.finish s c d code detail) := by
  unfold State.finish
  exact .then (State.endDesc_moves ..) rfl <| .refl ..

theorem State.finishOk_moves (s : State) (c : Nat) (d : Desc) (detail : Nat) : Moves 0x1001020 s (State.finishOk s c d detail) := by
  unfold State.finishOk
  exact .then (State.finish_moves ..) rfl <| .refl ..

theorem State.bracketFail_moves (s : State) (c : Nat) (d : Desc) (reason : Nat) (code : Nat) (detail : Nat) : Moves 0x101583C s (State.bracketFail s c d reason code
  detail) := by
  unfold State.bracketFail
  extract_lets +onlyGivenNames -merge u0 u1
  have hu1 : Moves 0x101583C s u1 := .then (State.finish_moves ..) rfl <| .then (State.rollback_moves ..) rfl <| .refl ..
  clear_value u1
  exact .then (State.setRing_moves ..) rfl hu1

theorem State.finishFail_moves (s : State) (c : Nat) (d : Desc) (code : Nat) (detail : Nat) : Moves 0x101583C s (State.finishFail s c d code detail) := by
  unfold State.finishFail
  exact .ite (.then (State.bracketFail_moves ..) rfl <| .refl ..) (.then (State.finish_moves ..) rfl <| .refl ..)

theorem State.abortDesc_moves (s : State) (c : Nat) (idx : Nat) (code : Nat) (detail : Nat) : Moves 0x1EF5D3C s (State.abortDesc s c idx code detail) := by
  unfold State.abortDesc
  extract_lets +onlyGivenNames -merge u0
  have hu0 : Moves 0x1EF5D3C s u0 := .then (State.endJobs_moves ..) rfl <| .refl ..
  clear_value u0
  extract_lets +onlyGivenNames -merge u1 u2
  have hu2 : Moves 0x1EF5D3C s u2 := by
    unfold u2
    split
    · exact .ite (.then (State.setCmb_moves ..) rfl <| .foldl _ hu0 fun _ _ hx6 => .then (State.moveSlot_moves ..) rfl hx6) hu0
    · exact hu0
  clear_value u2
  extract_lets +onlyGivenNames -merge u10
  have hu10 : Moves 0x1EF5D3C s u10 := .then (State.dropSend_moves ..) rfl hu2
  clear_value u10
  extract_lets +onlyGivenNames -merge u11
  have hu11 : Moves 0x1EF5D3C s u11 := .foldl _ hu10 fun _ _ hx12 => .then (State.dropRecv_moves ..) rfl hx12
  clear_value u11
  extract_lets +onlyGivenNames -merge u14
  have hu14 : Moves 0x1EF5D3C s u14 := .foldl _ hu11 fun _ _ hx15 => .then (State.dropColl_moves ..) rfl hx15
  clear_value u14
  extract_lets +onlyGivenNames -merge u17
  have hu17 : Moves 0x1EF5D3C s u17 := .foldl _ hu14 fun _ _ hx18 => .then (State.dropDawn_moves ..) rfl hx18
  clear_value u17
  extract_lets +onlyGivenNames -merge u20 u21
  have hu21 : Moves 0x1EF5D3C s u21 := .then (State.setLnk_moves ..) rfl hu17
  clear_value u21
  extract_lets +onlyGivenNames -merge u22
  have hu22 : Moves 0x1EF5D3C s u22 := .then (State.failPiped_moves ..) rfl hu21
  clear_value u22
  exact .then (State.schedule_moves ..) rfl <| .then (State.endDesc_moves ..) rfl hu22

theorem State.faultDesc_moves (s : State) (c : Nat) (idx : Nat) (f : XFault) : Moves 0x1EF7D3C s (State.faultDesc s c idx f) := by
  unfold State.faultDesc
  exact .ite (.then (State.lacks_moves ..) rfl <| .refl ..) (.ite (.then (State.abortDesc_moves ..) rfl <| .refl ..) (.then (State.contextFault_moves ..) rfl
    <| .then (State.noteXFault_moves ..) rfl <| .refl ..))

theorem State.chargeDesc_moves (s : State) (c : Nat) (idx : Nat) (uj : Nat) : Moves 0x1001020 s (State.chargeDesc s c idx uj) := by
  unfold State.chargeDesc
  extract_lets +onlyGivenNames -merge u0
  have hu0 : Moves 0x1001020 s u0 := .then (State.settleDesc_moves ..) rfl <| .refl ..
  clear_value u0
  split
  · exact .then (State.setDesc_moves ..) rfl hu0
  · exact hu0

theorem State.openBracket_moves (s : State) (c : Nat) : Moves 0x4000 s (State.openBracket s c) := by
  unfold State.openBracket
  extract_lets +onlyGivenNames -merge u0
  have hu0 : Moves 0x4000 s u0 := .then (State.grantLease_moves ..) rfl <| .refl ..
  clear_value u0
  extract_lets +onlyGivenNames -merge u1
  exact .flt _ rfl rfl hu0

theorem State.countBracket_moves (s : State) : Moves 0x4000 s (State.countBracket s) := by
  unfold State.countBracket
  split
  · exact .flt _ rfl rfl <| .refl ..
  · exact .refl ..

theorem State.deferDesc_moves (s : State) (c : Nat) (d : Desc) : Moves 0x1020 s (State.deferDesc s c d) := by
  unfold State.deferDesc
  exact .ite (.refl ..) (.then (State.bump_moves ..) rfl <| .then (State.bump_moves ..) rfl <| .then (State.setDesc_moves ..) rfl <| .refl ..)

theorem State.begin_moves (s : State) (c : Nat) (mine : Desc → Bool) (room : Desc → Bool) (est : Desc → Nat) (checks : Desc → List (Bool × Nat)) : MovesT 0x101583C
  s (State.begin s c mine room est checks) := by
  unfold State.begin
  extract_lets +onlyGivenNames -merge u0
  have hu0 : Moves 0x101583C s u0 := .then (State.noteReady_moves ..) rfl <| .refl ..
  clear_value u0
  split
  · exact .no hu0
  · refine .ite (.no hu0) ?_
    extract_lets +onlyGivenNames -merge u6
    split
    · extract_lets +onlyGivenNames -merge u9
      have hu9 : Moves 0x101583C s u9 := .then (State.setRing_moves ..) rfl hu0
      clear_value u9
      exact .no <| .then (State.finish_moves ..) rfl hu9
    · extract_lets +onlyGivenNames -merge u13
      have hu13 : Moves 0x101583C s u13 := .then (State.setRing_moves ..) rfl hu0
      clear_value u13
      exact .no <| .then (State.finish_moves ..) rfl hu13
    · split
      · exact .no <| .then (State.finishFail_moves ..) rfl hu0
      · refine .ite (.no hu0) ?_
        refine .ite (.no <| .then (State.deferDesc_moves ..) rfl hu0) ?_
        extract_lets +onlyGivenNames -merge u21
        have hu21 : Moves 0x101583C s u21 := .then (State.bump64_moves ..) rfl hu0
        clear_value u21
        extract_lets +onlyGivenNames -merge u22 u23
        have hu23 : Moves 0x101583C s u23 := .then (State.noteReady_moves ..) rfl <| .then (State.setDesc_moves ..) rfl hu21
        clear_value u23
        extract_lets +onlyGivenNames -merge u24
        have hu24 : Moves 0x101583C s u24 := .ite hu23 (.then (State.reserve_moves ..) rfl hu23)
        clear_value u24
        refine .ite ?_ ?_
        · split
          · extract_lets +onlyGivenNames -merge u29 u30
            have hu30 : Moves 0x101583C s u30 := .then (State.setRing_moves ..) rfl hu24
            clear_value u30
            exact .no <| .then (State.finish_moves ..) rfl hu30
          · exact .go <| .then (State.countBracket_moves ..) rfl <| .then (State.openBracket_moves ..) rfl hu24
        · exact .ite (.ite (.no <| .then (State.bracketFail_moves ..) rfl hu24) (.go <| .then (State.countBracket_moves ..) rfl hu24)) (.go hu24)

theorem State.starting_moves {m : Nat} {o : State} {s : State} {c : Nat} {f : State → Result} (em : m ||| 0x410838 = m) (h0 : Moves m o s) (hf : ∀ y0, Moves m o
  y0 → MovesR m o (f y0)) : MovesR m o (State.starting s c f) := by
  unfold State.starting
  split
  · exact State.remotely_moves (within rfl em) h0 (fun x3 hx4 => hf _ hx4)
  · exact hf _ h0

theorem State.applied_moves (s : State) (c : Nat) (d : Desc) (detail : Nat) : Moves 0x1005020 s (State.applied s c d detail) := by
  unfold State.applied
  refine .ite ?_ ?_
  · split
    · extract_lets +onlyGivenNames -merge u3
      have hu3 : Moves 0x1005020 s u3 := .then (State.setDesc_moves ..) rfl <| .refl ..
      clear_value u3
      exact .flt _ rfl rfl hu3
    · exact .then (State.finishOk_moves ..) rfl <| .refl ..
  · exact .then (State.finishOk_moves ..) rfl <| .refl ..

/-! ### Machine/Engines.lean -/

theorem State.stopDesc_moves (s : State) (c : Nat) (d : Desc) (z3 : Stop) : Moves 0x1EF7D3C s (State.stopDesc s c d z3) := by
  unfold State.stopDesc
  split
  · exact .then (State.finishFail_moves ..) rfl <| .refl ..
  · exact .then (State.faultDesc_moves ..) rfl <| .refl ..
  · exact .ite (.then (State.finishFail_moves ..) rfl <| .refl ..) (.then (State.contextFault_moves ..) rfl <| .refl ..)

theorem State.endJob_moves (s : State) (j : Job) (detail : Nat) : Moves 0x1081020 s (State.endJob s j detail) := by
  unfold State.endJob
  extract_lets +onlyGivenNames -merge u0
  have hu0 : Moves 0x1081020 s u0 := .then (State.dropJob_moves ..) rfl <| .refl ..
  clear_value u0
  split
  · exact .then (State.finishOk_moves ..) rfl hu0
  · exact hu0

theorem groupedOp_moves (c : CtxId) (s : State) : MovesR 0x1EF7D3C s (groupedOp c s) := by
  unfold groupedOp
  split
  · rename_i x0 x1 x2
    exact .next <| MovesT.ofNo (.then (State.begin_moves ..) rfl <| .refl ..) x2
  · rename_i x3 x4 x5 x6
    split
    · exact .next <| .then (State.stopDesc_moves ..) rfl <| MovesT.ofGo (.then (State.begin_moves ..) rfl <| .refl ..) x6
    · extract_lets +onlyGivenNames -merge u13 u14
      exact .ite (.next <| .then (State.endJob_moves ..) rfl <| .then (State.addJob_moves ..) rfl <| MovesT.ofGo (.then (State.begin_moves ..) rfl <| .refl
        ..) x6) (.next <| .then (State.addJob_moves ..) rfl <| MovesT.ofGo (.then (State.begin_moves ..) rfl <| .refl ..) x6)

theorem execGroupedOp_moves (c : CtxId) (s : State) : MovesR 0x1EF7D3C s (execGroupedOp c s) := by
  unfold execGroupedOp
  exact State.starting_moves rfl (.refl ..) (fun x0 hx1 => .then (groupedOp_moves _ _) rfl hx1)

theorem State.startPass_moves (s : State) (c : Nat) (mine : Nat → Bool) : Moves 0x1EF7D3C s (State.startPass s c mine) := by
  unfold State.startPass
  split
  · rename_i x0 x1 x2
    exact MovesT.ofNo (.then (State.begin_moves ..) rfl <| .refl ..) x2
  · rename_i x3 x4 x5 x6
    split
    · exact .then (State.stopDesc_moves ..) rfl <| MovesT.ofGo (.then (State.begin_moves ..) rfl <| .refl ..) x6
    · extract_lets +onlyGivenNames -merge u16 u17 u18 u19
      exact .then (State.schedule_moves ..) rfl <| .then (State.fillStore_moves ..) rfl <| .then (State.addJob_moves ..) rfl <| MovesT.ofGo (.then
        (State.begin_moves ..) rfl <| .refl ..) x6

theorem passElementwise_moves (c : CtxId) (s : State) : MovesR 0x1EF7D3C s (passElementwise c s) := by
  unfold passElementwise
  exact .next <| .then (State.startPass_moves ..) rfl <| .refl ..

theorem execSfuPassElementwise_moves (c : CtxId) (s : State) : MovesR 0x1EF7D3C s (execSfuPassElementwise c s) := by
  unfold execSfuPassElementwise
  exact State.starting_moves rfl (.refl ..) (fun x0 hx1 => .then (passElementwise_moves _ _) rfl hx1)

theorem passSoftmax_moves (c : CtxId) (s : State) : MovesR 0x1EF7D3C s (passSoftmax c s) := by
  unfold passSoftmax
  exact .next <| .then (State.startPass_moves ..) rfl <| .refl ..

theorem execSfuPassSoftmax_moves (c : CtxId) (s : State) : MovesR 0x1EF7D3C s (execSfuPassSoftmax c s) := by
  unfold execSfuPassSoftmax
  exact State.starting_moves rfl (.refl ..) (fun x0 hx1 => .then (passSoftmax_moves _ _) rfl hx1)

theorem passLayerNorm_moves (c : CtxId) (s : State) : MovesR 0x1EF7D3C s (passLayerNorm c s) := by
  unfold passLayerNorm
  exact .next <| .then (State.startPass_moves ..) rfl <| .refl ..

theorem execSfuPassLayerNorm_moves (c : CtxId) (s : State) : MovesR 0x1EF7D3C s (execSfuPassLayerNorm c s) := by
  unfold execSfuPassLayerNorm
  exact State.starting_moves rfl (.refl ..) (fun x0 hx1 => .then (passLayerNorm_moves _ _) rfl hx1)

theorem passRmsNorm_moves (c : CtxId) (s : State) : MovesR 0x1EF7D3C s (passRmsNorm c s) := by
  unfold passRmsNorm
  exact .next <| .then (State.startPass_moves ..) rfl <| .refl ..

theorem execSfuPassRmsNorm_moves (c : CtxId) (s : State) : MovesR 0x1EF7D3C s (execSfuPassRmsNorm c s) := by
  unfold execSfuPassRmsNorm
  exact State.starting_moves rfl (.refl ..) (fun x0 hx1 => .then (passRmsNorm_moves _ _) rfl hx1)

theorem State.splitRows_moves (s : State) (c : Nat) (idx : Nat) (z3 : Nat) : Moves 0x80000 s (State.splitRows s c idx z3) := by
  induction z3 generalizing s c idx with
  | zero =>
    unfold State.splitRows
    exact .refl ..
  | succ n0 ih =>
    unfold State.splitRows
    split
    · exact .refl ..
    · split
      · exact .then (State.setJob_moves ..) rfl <| .refl ..
      · refine .ite (.refl ..) ?_
        extract_lets +onlyGivenNames -merge u11
        exact .then (ih _ _ _) rfl <| .then (State.fillStore_moves ..) rfl <| .then (State.setJob_moves ..) rfl <| .refl ..

theorem execTableSplit_moves (k : Fin 4) (s : State) : MovesR 0x108042C s (execTableSplit k s) := by
  unfold execTableSplit
  split
  · exact .next <| .refl ..
  · exact .next <| .then (State.schedule_moves ..) rfl <| .then (State.splitRows_moves ..) rfl <| .refl ..

theorem execEngineCommandRx_moves (p : PosId) (s : State) : MovesR 0x90C3C s (execEngineCommandRx p s) := by
  unfold execEngineCommandRx
  split
  · exact .next <| .refl ..
  · split
    · exact .next <| .refl ..
    · split
      · exact .next <| .refl ..
      · refine .ite (.next <| .refl ..) ?_
        refine .ite (.next <| .then (State.setJob_moves ..) rfl <| .refl ..) ?_
        extract_lets +onlyGivenNames -merge u15 u16
        have hu16 : Moves 0x90C3C s u16 := .then (State.sendCmd_moves ..) rfl <| .then (State.setJob_moves ..) rfl <| .refl ..
        clear_value u16
        exact .next <| .then (State.flagOpen_moves ..) rfl hu16

theorem execEngineMapHoldExpiry_moves (s : State) : MovesR 0x100000 s (execEngineMapHoldExpiry s) := by
  unfold execEngineMapHoldExpiry
  split
  · exact .next <| .ite (.then (State.setMaps_moves ..) rfl <| .refl ..) (.refl ..)
  · exact .next <| .refl ..

theorem State.stageEnd_moves (s : State) (j : Job) : Moves 0x1081020 s (State.stageEnd s j) := by
  unfold State.stageEnd
  refine .ite (.refl ..) ?_
  split
  · extract_lets +onlyGivenNames -merge u3
    have hu3 : Moves 0x1081020 s u3 := .then (State.setJob_moves ..) rfl <| .refl ..
    clear_value u3
    exact .then (State.setWork_moves ..) rfl hu3
  · extract_lets +onlyGivenNames -merge u9
    have hu9 : Moves 0x1081020 s u9 := .then (State.setJob_moves ..) rfl <| .refl ..
    clear_value u9
    exact .then (State.setWork_moves ..) rfl hu9
  · exact .then (State.endJob_moves ..) rfl <| .refl ..
  · exact .then (State.endJob_moves ..) rfl <| .refl ..
  · exact .refl ..

theorem groupEnd_moves (p : PosId) (ns : Nat) (s : State) : MovesR 0x1EF7D3C s (groupEnd p ns s) := by
  unfold groupEnd
  split
  · exact .next <| .refl ..
  · split
    · exact .next <| .then (State.setOccupant_moves ..) rfl <| .refl ..
    · split
      · exact .next <| .then (State.setOccupant_moves ..) rfl <| .refl ..
      · refine .ite (.next <| .refl ..) ?_
        split
        rename_i x15 x16 x17 x18 x19
        refine .ite (.next <| .refl ..) ?_
        extract_lets +onlyGivenNames -merge u20
        have hu20 : Moves 0x1EF7D3C s u20 := .then (State.sendCmd_moves ..) rfl <| .then (State.setOccupant_moves ..) rfl <| MovesF.of (.then
          (State.writeGroup_moves ..) rfl <| .refl ..) x19
        clear_value u20
        extract_lets +onlyGivenNames -merge u21 u22
        have hu22 : Moves 0x1EF7D3C s u22 := .then (State.countOccupancy_moves ..) rfl <| .then (State.settle_moves ..) rfl hu20
        clear_value u22
        extract_lets +onlyGivenNames -merge u23
        have hu23 : Moves 0x1EF7D3C s u23 := .ite (.then (State.bump_moves ..) rfl <| .then (State.bump64_moves ..) rfl hu22) hu22
        clear_value u23
        extract_lets +onlyGivenNames -merge u24
        have hu24 : Moves 0x1EF7D3C s u24 := by
          unfold u24
          split
          · exact .then (State.setDesc_moves ..) rfl hu23
          · exact hu23
        clear_value u24
        split
        · exact .next <| .then (State.schedule_moves ..) rfl <| .then (State.faultDesc_moves ..) rfl hu24
        · extract_lets +onlyGivenNames -merge u33 u34
          exact .next <| .then (State.schedule_moves ..) rfl <| .then (State.stageEnd_moves ..) rfl <| .then (State.setJob_moves ..) rfl hu24

theorem execGroupEnd_moves (p : PosId) (ns : Nat) (s : State) : MovesR 0x1EF7D3C s (execGroupEnd p ns s) := by
  unfold execGroupEnd
  split
  · exact State.remotely_moves rfl (.refl ..) (fun x3 hx4 => .then (groupEnd_moves _ _ _) rfl hx4)
  · exact .next <| .refl ..

theorem State.engineFault_moves (s : State) (c : Nat) (idx : Nat) (detail : Nat) (unit : Nat) : Moves 0x1EF7D3C s (State.engineFault s c idx detail unit) := by
  unfold State.engineFault
  exact .then (State.contextFault_moves ..) rfl <| .refl ..

theorem State.abandon_moves (s : State) (p : Nat) (detail : Nat) (unit : Nat) : MovesF 0x1EF7D3C s (State.abandon s p detail unit) := by
  unfold State.abandon
  split
  · exact .mk <| .refl ..
  · split
    · exact .mk <| .then (State.setOccupant_moves ..) rfl <| .refl ..
    · extract_lets +onlyGivenNames -merge u11 u12
      have hu12 : Moves 0x1EF7D3C s u12 := .then (State.abandonGroup_moves ..) rfl <| .refl ..
      clear_value u12
      refine .ite (.mk <| .then (State.engineFault_moves ..) rfl hu12) ?_
      extract_lets +onlyGivenNames -merge u13
      have hu13 : Moves 0x1EF7D3C s u13 := by
        unfold u13
        split
        · exact .then (State.setJob_moves ..) rfl hu12
        · exact hu12
      clear_value u13
      exact .mk <| .ite (.then (State.flagOpen_moves ..) rfl <| .then (State.bump_moves ..) rfl hu13) hu13

theorem State.leaveEngine_moves (s : State) (p : Nat) (v : Nat) : Moves 0x1EF7D3C s (State.leaveEngine s p v) := by
  unfold State.leaveEngine
  exact .ite (.refl ..) (MovesF.fst <| .then (State.abandon_moves ..) rfl <| .refl ..)

theorem State.engineFails_moves (s : State) (p : Nat) : Moves 0x3FF7D3C s (State.engineFails s p) := by
  unfold State.engineFails
  extract_lets +onlyGivenNames -merge u0
  have hu0 : Moves 0x3FF7D3C s u0 := .then (State.flagOpen_moves ..) rfl <| .then (State.setDp_moves ..) rfl <| .refl ..
  clear_value u0
  extract_lets +onlyGivenNames -merge u1
  have hu1 : Moves 0x3FF7D3C s u1 := .then (State.leaveEngine_moves ..) rfl hu0
  clear_value u1
  exact .then (State.schedule_moves ..) rfl <| .then (State.substEngine_moves ..) rfl hu1

theorem execEngineError_moves (p : Fin 16) (corrected : Bool) (s : State) : MovesR 0x3FF7D3C s (execEngineError p corrected s) := by
  unfold execEngineError
  exact .ite (.next <| .then (State.bump_moves ..) rfl <| .refl ..) (.next <| .then (State.engineFails_moves ..) rfl <| .refl ..)

theorem execEngineResultBad_moves (p : PosId) (sfu : Bool) (s : State) : MovesR 0x1EF7D3C s (execEngineResultBad p sfu s) := by
  unfold execEngineResultBad
  split
  · exact .next <| .refl ..
  · refine .ite (.next <| .then (State.schedule_moves ..) rfl <| .then (State.engineFault_moves ..) rfl <| .then (State.flagOpen_moves ..) rfl <| .refl ..) ?_
    extract_lets +onlyGivenNames -merge u5
    exact .next <| .then (State.schedule_moves ..) rfl <| .then (State.engineFault_moves ..) rfl <| .then (State.flagOpen_moves ..) rfl <| .refl ..

theorem execEngineWatchdog_moves (p : Fin 16) (t : Nat) (s : State) : MovesR 0x3FF7D3E s (execEngineWatchdog p t s) := by
  unfold execEngineWatchdog
  extract_lets +onlyGivenNames -merge u0
  have hu0 : Moves 0x3FF7D3E s u0 := .then (State.reachClk_moves ..) rfl <| .refl ..
  clear_value u0
  split
  · exact .next hu0
  · extract_lets +onlyGivenNames -merge u6
    exact .next <| .ite (.then (State.engineFails_moves ..) rfl hu0) hu0

theorem execSfuError_moves (b : BankId) (corrected : Bool) (tile : Option (Fin 4)) (s : State) : MovesR 0x1EF7D3C s (execSfuError b corrected tile s) := by
  unfold execSfuError
  extract_lets +onlyGivenNames -merge u0
  refine .ite (.next <| .then (State.bump_moves ..) rfl <| .refl ..) ?_
  extract_lets +onlyGivenNames -merge u1 u2 u3
  have hu3 : Moves 0x1EF7D3C s u3 := .then (State.setWork_moves ..) rfl <| .refl ..
  clear_value u3
  split
  rename_i x4 x5 x6 x7
  exact .next <| .then (State.schedule_moves ..) rfl <| .ite (.then (State.flagOpen_moves ..) rfl <| .then (State.bump_moves ..) rfl <| MovesF.of (.then
    (State.abandon_moves ..) rfl hu3) x7) (MovesF.of (.then (State.abandon_moves ..) rfl hu3) x7)

theorem execSfuSelfTest_moves (b : BankId) (ok : Bool) (s : State) : MovesR 0x1094C3C s (execSfuSelfTest b ok s) := by
  unfold execSfuSelfTest
  refine .ite (.next <| .refl ..) ?_
  extract_lets +onlyGivenNames -merge u0 u1
  have hu1 : Moves 0x1094C3C s u1 := .then (State.setWork_moves ..) rfl <| .refl ..
  clear_value u1
  extract_lets +onlyGivenNames -merge u2
  have hu2 : Moves 0x1094C3C s u2 := .ite hu1 (.then (State.flagOpen_moves ..) rfl <| .then (State.setDp_moves ..) rfl hu1)
  clear_value u2
  exact .next <| .then (State.schedule_moves ..) rfl <| .then (State.dueBank_moves ..) rfl hu2

theorem execBallastEnd_moves (p : PosId) (s : State) : MovesR 0x108042C s (execBallastEnd p s) := by
  unfold execBallastEnd
  refine .ite ?_ ?_
  · extract_lets +onlyGivenNames -merge u0 u1 u2
    have hu2 : Moves 0x108042C s u2 := .pwr _ rfl <| .refl ..
    clear_value u2
    exact .next <| .then (State.schedule_moves ..) rfl <| .then (State.due_moves ..) rfl <| .then (State.noteBallast_moves ..) rfl <| .then
      (State.settle_moves ..) rfl hu2
  · exact .next <| .refl ..

theorem State.dueSpill_moves (s : State) (old : State) : Moves 0x80000 s (State.dueSpill s old) := by
  unfold State.dueSpill
  extract_lets +onlyGivenNames -merge u0
  exact .foldl _ (.refl ..) fun _ _ hx1 => .then (State.due_moves ..) rfl hx1

theorem execSpillDelayExpiry_moves (t : Nat) (s : State) : MovesR 0x108042E s (execSpillDelayExpiry t s) := by
  unfold execSpillDelayExpiry
  exact .next <| .then (State.schedule_moves ..) rfl <| .then (State.dueSpill_moves ..) rfl <| .then (State.reachClk_moves ..) rfl <| .refl ..

theorem State.coreFails_moves (s : State) (k : Nat) : Moves 0x3FF7F3C s (State.coreFails s k) := by
  unfold State.coreFails
  exact .then (State.scheduleAll_moves ..) rfl <| .then (State.substCore_moves ..) rfl <| .then (State.setDp_moves ..) rfl <| .refl ..

theorem execControlCoreHeartbeatMiss_moves (k : Fin 4) (s : State) : MovesR 0x3FF7F3C s (execControlCoreHeartbeatMiss k s) := by
  unfold execControlCoreHeartbeatMiss
  exact .next <| .then (State.coreFails_moves ..) rfl <| .refl ..

theorem execControlCoreError_moves (k : Fin 4) (s : State) : MovesR 0x3FF7F3C s (execControlCoreError k s) := by
  unfold execControlCoreError
  exact .next <| .then (State.coreFails_moves ..) rfl <| .refl ..

end Sys2Proof.Machine
end

