-- ==== Sys2Proof/Laws/MovesFlow.lean ====
section
/-! SUPPORT. Laws/MovesFlow.lean: what each operation and meaning of collectives, groups, DAWN and Combine can do (Laws/Moves.lean says what the relation means):
the least mask of parts it changes, one lemma per definition. -/

namespace Sys2Proof.Machine

/-! ### Machine/Collect.lean -/

theorem State.takeSlice_moves (s : State) (x : Coll) (step : Nat) (flags : Nat) (chunk : Nat) : MovesO 0x800000 s (State.takeSlice s x step flags chunk) := by
  unfold State.takeSlice
  refine .ite (.some <| .refl ..) ?_
  split
  · exact .some <| .then (State.setCol_moves ..) rfl <| .refl ..
  · exact .none

theorem State.dropSlice_moves (s : State) (x : Coll) (step : Nat) (flags : Nat) (chunk : Nat) : Moves 0x800000 s (State.dropSlice s x step flags chunk) := by
  unfold State.dropSlice
  exact .then (State.setCol_moves ..) rfl <| .refl ..

theorem State.askOrFault_moves (s : State) (c : Nat) (idx : Nat) (f : XFault) : Moves 0x1EF7D3C s (State.askOrFault s c idx f) := by
  unfold State.askOrFault
  refine .ite ?_ ?_
  · extract_lets +onlyGivenNames -merge u0 u1
    have hu1 : Moves 0x1EF7D3C s u1 := .then (State.askRemote_moves ..) rfl <| .then (State.setLnk_moves ..) rfl <| .refl ..
    clear_value u1
    exact .then (State.setLnk_moves ..) rfl hu1
  · exact .then (State.faultDesc_moves ..) rfl <| .refl ..

theorem State.writeResult_moves (s : State) (x : Coll) (g : GroupSlot) (o : Nat) (els : List Nat) : Moves 0x1EF7D3C s (State.writeResult s x g o els) := by
  unfold State.writeResult
  extract_lets +onlyGivenNames -merge u0 u1 u2 u3 u4
  refine .ite (.refl ..) ?_
  extract_lets +onlyGivenNames -merge u5 u6
  have hu6 : Moves 0x1EF7D3C s u6 := .then (State.setLnk_moves ..) rfl <| .refl ..
  clear_value u6
  split
  rename_i x7 x8 x9 x10
  extract_lets +onlyGivenNames -merge u11 u12
  have hu12 : Moves 0x1EF7D3C s u12 := .then (State.setLnk_moves ..) rfl <| MovesF.of (.then (State.outWrite_moves ..) rfl hu6) x10
  clear_value u12
  split
  · exact .then (State.faultDesc_moves ..) rfl hu12
  · exact hu12

theorem State.sendChunk_moves (s : State) (x : Coll) (c : ColSend) : Moves 0x410838 s (State.sendChunk s x c) := by
  unfold State.sendChunk
  exact .then (State.colMsg_moves ..) rfl <| .refl ..

theorem State.pumpColl_moves (s : State) (g : Nat) (cseq : Nat) (z3 : Nat) : Moves 0xC10838 s (State.pumpColl s g cseq z3) := by
  induction z3 generalizing s g cseq with
  | zero =>
    unfold State.pumpColl
    exact .refl ..
  | succ n0 ih =>
    unfold State.pumpColl
    split
    · exact .refl ..
    · split
      · exact .refl ..
      · exact .ite (.then (ih _ _ _) rfl <| .then (State.sendChunk_moves ..) rfl <| .then (State.setColl_moves ..) rfl <| .refl ..) (.refl ..)

theorem State.takeRing_moves (s : State) (x : Coll) (g : GroupSlot) (v : RingView) (e : ColEarly) : MovesO 0x1EF7D3C s (State.takeRing s x g v e) := by
  unfold State.takeRing
  extract_lets +onlyGivenNames -merge u0 u1 u2 u3 u4 u5
  refine .ite ?_ ?_
  · extract_lets +onlyGivenNames -merge u6 u7
    exact .some <| .then (State.writeResult_moves ..) rfl <| .then (State.setColl_moves ..) rfl <| .refl ..
  · split
    · exact .none
    · rename_i x10 x11 x12
      extract_lets +onlyGivenNames -merge u13 u14 u15
      have hu15 : Moves 0x1EF7D3C s u15 := .then (State.chargeDesc_moves ..) rfl <| .then (State.colCount_moves ..) rfl <| MovesO.of (.then
        (State.takeSlice_moves _ _ _ _ _) rfl <| .refl ..) x12
      clear_value u15
      exact .ite (.some <| .then (State.setColl_moves ..) rfl hu15) (.some <| .then (State.dropSlice_moves ..) rfl <| .then (State.setColl_moves ..) rfl hu15)

theorem State.nextStage_moves (s : State) (x : Coll) (g : GroupSlot) (v : RingView) : Moves 0x1EF7D3C s (State.nextStage s x g v) := by
  unfold State.nextStage
  extract_lets +onlyGivenNames -merge u0 u1 u2 u3 u4 u5 u6
  have hu6 : Moves 0x1EF7D3C s u6 := .then (State.setColl_moves ..) rfl <| .refl ..
  clear_value u6
  exact .ite (.then (State.writeResult_moves ..) rfl hu6) hu6

theorem State.deliver_moves (s : State) (x : Coll) (g : GroupSlot) (own : Nat) (k : Nat) : Moves 0x1EF7D3C s (State.deliver s x g own k) := by
  unfold State.deliver
  extract_lets +onlyGivenNames -merge u0 u1 u2 u3
  exact .then (State.writeResult_moves ..) rfl <| .then (State.setColl_moves ..) rfl <| .refl ..

theorem State.risen_moves (s : State) (x : Coll) (g : GroupSlot) (own : Nat) (k : Nat) : Moves 0x1EF7D3C s (State.risen s x g own k) := by
  unfold State.risen
  extract_lets +onlyGivenNames -merge u0 u1 u2 u3
  refine .ite ?_ ?_
  · extract_lets +onlyGivenNames -merge u4
    exact .then (State.deliver_moves ..) rfl <| .then (State.setColl_moves ..) rfl <| .refl ..
  · exact .then (State.setColl_moves ..) rfl <| .refl ..

theorem State.takeTree_moves (s : State) (x : Coll) (g : GroupSlot) (own : Nat) (e : ColEarly) : MovesO 0x1EF7D3C s (State.takeTree s x g own e) := by
  unfold State.takeTree
  extract_lets +onlyGivenNames -merge u0 u1 u2 u3 u4 u5 u6
  refine .ite ?_ ?_
  · refine .ite ?_ ?_
    · extract_lets +onlyGivenNames -merge u7
      exact .some <| .then (State.risen_moves ..) rfl <| .then (State.setColl_moves ..) rfl <| .refl ..
    · split
      · exact .none
      · rename_i x10 x11 x12
        extract_lets +onlyGivenNames -merge u13 u14 u15 u16
        have hu16 : Moves 0x1EF7D3C s u16 := .then (State.chargeDesc_moves ..) rfl <| .then (State.colCount_moves ..) rfl <| MovesO.of (.then
          (State.takeSlice_moves _ _ _ _ _) rfl <| .refl ..) x12
        clear_value u16
        refine .ite ?_ ?_
        · extract_lets +onlyGivenNames -merge u17
          have hu17 : Moves 0x1EF7D3C s u17 := .then (State.risen_moves ..) rfl <| .then (State.setColl_moves ..) rfl hu16
          clear_value u17
          exact .some <| .ite (.then (State.dropSlice_moves ..) rfl hu17) hu17
        · exact .some <| .then (State.setColl_moves ..) rfl hu16
  · extract_lets +onlyGivenNames -merge u18
    exact .some <| .then (State.deliver_moves ..) rfl <| .then (State.setColl_moves ..) rfl <| .refl ..

theorem State.ackChunk_moves (s : State) (g : Nat) (cseq : Nat) (e : ColEarly) : Moves 0x410838 s (State.ackChunk s g cseq e) := by
  unfold State.ackChunk
  exact .then (State.colMsg_moves ..) rfl <| .refl ..

theorem State.takeOne_moves (s : State) (x : Coll) (g : GroupSlot) : MovesO 0x1EF7D3C s (State.takeOne s x g) := by
  unfold State.takeOne
  refine .findSome _ fun a0 => ?_
  refine .ite ?_ ?_
  · extract_lets +onlyGivenNames -merge u1
    have hu1 : MovesO 0x1EF7D3C s u1 := .ite (.bind fun a2 => .then (State.takeRing_moves _ _ _ _ _) rfl <| .refl ..) (.then (State.takeTree_moves _ _ _ _ _)
      rfl <| .refl ..)
    clear_value u1
    exact .map hu1 fun _ hx3 => .then (State.ackChunk_moves ..) rfl hx3
  · exact .none

theorem State.collDone_moves (s : State) (x : Coll) (g : GroupSlot) : Moves 0x1801020 s (State.collDone s x g) := by
  unfold State.collDone
  extract_lets +onlyGivenNames -merge u0
  have hu0 : Moves 0x1801020 s u0 := .then (State.colCount_moves ..) rfl <| .then (State.dropColl_moves ..) rfl <| .refl ..
  clear_value u0
  split
  · exact hu0
  · exact .ite (.then (State.finishOk_moves ..) rfl hu0) (.then (State.finish_moves ..) rfl hu0)

theorem State.runColl_moves (s : State) (g : Nat) (cseq : Nat) (z3 : Nat) : Moves 0x1EF7D3C s (State.runColl s g cseq z3) := by
  induction z3 generalizing s g cseq with
  | zero =>
    unfold State.runColl
    exact .refl ..
  | succ n0 ih =>
    unfold State.runColl
    split
    · exact .refl ..
    · refine .ite (.refl ..) ?_
      extract_lets +onlyGivenNames -merge u5
      split
      · rename_i x6 x7 x8
        exact .then (ih _ _ _) rfl <| MovesO.of (.then (State.takeOne_moves _ _ _) rfl <| .refl ..) x8
      · split
        · exact .ite (.then (ih _ _ _) rfl <| .then (State.nextStage_moves ..) rfl <| .refl ..) (.then (State.pumpColl_moves ..) rfl <| .refl ..)
        · extract_lets +onlyGivenNames -merge u16
          have hu16 : Moves 0x1EF7D3C s u16 := .then (State.pumpColl_moves ..) rfl <| .refl ..
          clear_value u16
          exact .ite (.then (State.collDone_moves ..) rfl hu16) hu16

theorem State.runColls_moves (s : State) : Moves 0x1EF7D3C s (State.runColls s) := by
  unfold State.runColls
  exact .foldl _ (.refl ..) fun _ _ hx0 => .then (State.runColl_moves ..) rfl hx0

theorem State.beginColl_moves (s : State) (x : Coll) (bs : List Byte) : Moves 0x1EF7D3C s (State.beginColl s x bs) := by
  unfold State.beginColl
  extract_lets +onlyGivenNames -merge u0 u1 u2 u3
  refine .ite ?_ ?_
  · extract_lets +onlyGivenNames -merge u4 u5
    have hu5 : Moves 0x1EF7D3C s u5 := .then (State.setColl_moves ..) rfl <| .refl ..
    clear_value u5
    extract_lets +onlyGivenNames -merge u6
    have hu6 : Moves 0x1EF7D3C s u6 := .ite (.then (State.writeResult_moves ..) rfl hu5) hu5
    clear_value u6
    exact .then (State.runColl_moves ..) rfl hu6
  · extract_lets +onlyGivenNames -merge u7 u8
    have hu8 : Moves 0x1EF7D3C s u8 := .then (State.setColl_moves ..) rfl <| .refl ..
    clear_value u8
    extract_lets +onlyGivenNames -merge u9
    have hu9 : Moves 0x1EF7D3C s u9 := by
      unfold u9
      refine .foldl _ hu8 fun x10 _ hx10 => ?_
      split
      · exact hx10
      · extract_lets +onlyGivenNames -merge u17
        exact .ite (.ite (.then (State.deliver_moves ..) rfl hx10) hx10) (.ite (.ite (.then (State.risen_moves ..) rfl hx10) hx10) (.ite (.then
          (State.risen_moves ..) rfl hx10) hx10))
    clear_value u9
    exact .then (State.runColl_moves ..) rfl hu9

theorem State.tryLaunch_moves (s : State) (g : Nat) (cseq : Nat) : Moves 0x1EF7D3C s (State.tryLaunch s g cseq) := by
  unfold State.tryLaunch
  split
  · exact .refl ..
  · extract_lets +onlyGivenNames -merge u5
    refine .ite (.refl ..) ?_
    refine .ite ?_ ?_
    · split
      · exact .then (State.askOrFault_moves ..) rfl <| .refl ..
      · exact .then (State.beginColl_moves ..) rfl <| .refl ..
    · exact .then (State.beginColl_moves ..) rfl <| .refl ..

theorem State.reserveNext_moves (s : State) (z1 : Nat) : Moves 0x1EF7D3C s (State.reserveNext s z1) := by
  induction z1 generalizing s with
  | zero =>
    unfold State.reserveNext
    exact .refl ..
  | succ n0 ih =>
    unfold State.reserveNext
    split
    · exact .refl ..
    · split
      · exact .then (ih _) rfl <| .then (State.setCol_moves ..) rfl <| .refl ..
      · refine .ite ?_ ?_
        · extract_lets +onlyGivenNames -merge u12 u13
          have hu13 : Moves 0x1EF7D3C s u13 := .then (State.setCol_moves ..) rfl <| .refl ..
          clear_value u13
          exact .then (ih _) rfl <| .then (State.tryLaunch_moves ..) rfl <| .then (State.setColl_moves ..) rfl hu13
        · exact .refl ..

/-! ### Machine/Collective.lean -/

theorem State.refuseStart_moves (s : State) (c : Nat) (d : Desc) (g : Nat) (reason : Nat) : Moves 0x181583C s (State.refuseStart s c d g reason) := by
  unfold State.refuseStart
  exact .then (State.finishFail_moves ..) rfl <| .then (State.colCount_moves ..) rfl <| .then (State.setGroup_moves ..) rfl <| .refl ..

theorem State.staleStart_moves (s : State) (c : Nat) (d : Desc) (g : Nat) : Moves 0x101583C s (State.staleStart s c d g) := by
  unfold State.staleStart
  exact .ite (.then (State.bracketFail_moves ..) rfl <| .then (State.bump_moves ..) rfl <| .refl ..) (.then (State.staleUse_moves ..) rfl <| .refl ..)

theorem State.judgeSlot_moves (s : State) (c : Nat) (d : Desc) (g : Nat) (dissolve : Bool) : MovesO 0x181583C s (State.judgeSlot s c d g dissolve) := by
  unfold State.judgeSlot
  extract_lets +onlyGivenNames -merge u0
  refine .ite (.some <| .then (State.refuseStart_moves ..) rfl <| .refl ..) ?_
  refine .ite (.some <| .then (State.staleStart_moves ..) rfl <| .refl ..) ?_
  refine .ite .none ?_
  split
  · exact .some <| .then (State.refuseStart_moves ..) rfl <| .refl ..
  · exact .some <| .then (State.refuseStart_moves ..) rfl <| .refl ..
  · exact .some <| .then (State.refuseStart_moves ..) rfl <| .refl ..
  · exact .none

theorem State.announce_moves (s : State) (x : Coll) : Moves 0xC10838 s (State.announce s x) := by
  unfold State.announce
  refine .ite (.then (State.setCol_moves ..) rfl <| .refl ..) ?_
  split
  · exact .then (State.colMsg_moves ..) rfl <| .refl ..
  · exact .refl ..

theorem State.startColl_moves (s : State) (c : Nat) (mine : Nat → Bool) : Moves 0x1C1583C s (State.startColl s c mine) := by
  unfold State.startColl
  split
  · rename_i x0 x1 x2
    exact MovesT.ofNo (.then (State.begin_moves ..) rfl <| .refl ..) x2
  · rename_i x3 x4 x5 x6
    split
    · rename_i x7 x8 x9
      exact MovesO.of (.then (State.judgeSlot_moves _ _ _ _ _) rfl <| MovesT.ofGo (.then (State.begin_moves ..) rfl <| .refl ..) x6) x9
    · extract_lets +onlyGivenNames -merge u12 u13 u14
      have hu14 : Moves 0x1C1583C s u14 := .then (State.setGroup_moves ..) rfl <| MovesT.ofGo (.then (State.begin_moves ..) rfl <| .refl ..) x6
      clear_value u14
      exact .then (State.announce_moves ..) rfl <| .then (State.setCol_moves ..) rfl hu14

theorem execCollectiveAllReduce_moves (c : CtxId) (s : State) : MovesR 0x1C1583C s (execCollectiveAllReduce c s) := by
  unfold execCollectiveAllReduce
  exact .next <| .then (State.startColl_moves ..) rfl <| .refl ..

theorem execCollectiveReduceScatter_moves (c : CtxId) (s : State) : MovesR 0x1C1583C s (execCollectiveReduceScatter c s) := by
  unfold execCollectiveReduceScatter
  exact .next <| .then (State.startColl_moves ..) rfl <| .refl ..

theorem execCollectiveAllGather_moves (c : CtxId) (s : State) : MovesR 0x1C1583C s (execCollectiveAllGather c s) := by
  unfold execCollectiveAllGather
  exact .next <| .then (State.startColl_moves ..) rfl <| .refl ..

theorem execCollectiveBroadcast_moves (c : CtxId) (s : State) : MovesR 0x1C1583C s (execCollectiveBroadcast c s) := by
  unfold execCollectiveBroadcast
  exact .next <| .then (State.startColl_moves ..) rfl <| .refl ..

theorem execCollectiveReduce_moves (c : CtxId) (s : State) : MovesR 0x1C1583C s (execCollectiveReduce c s) := by
  unfold execCollectiveReduce
  exact .next <| .then (State.startColl_moves ..) rfl <| .refl ..

theorem State.answerAnnounces_moves (s : State) (z1 : Nat) : Moves 0xC10838 s (State.answerAnnounces s z1) := by
  induction z1 generalizing s with
  | zero =>
    unfold State.answerAnnounces
    exact .refl ..
  | succ n0 ih =>
    unfold State.answerAnnounces
    split
    · exact .refl ..
    · extract_lets +onlyGivenNames -merge u7 u8 u9
      have hu9 : Moves 0xC10838 s u9 := .then (State.setCol_moves ..) rfl <| .refl ..
      clear_value u9
      split
      · exact .then (ih _) rfl <| .then (State.tell_moves ..) rfl hu9
      · extract_lets +onlyGivenNames -merge u22
        have hu22 : Moves 0xC10838 s u22 := .then (State.setGroup_moves ..) rfl hu9
        clear_value u22
        exact .then (ih _) rfl <| .then (State.tell_moves ..) rfl hu22
      · exact hu9

theorem execAnnounceRx_moves (from_ : Nat) (g : Fin 64) (gepoch : Nat) (cseq : Nat) (a : Announce) (valid : Bool) (s : State) : MovesR 0x3C10838 s (execAnnounceRx
  from_ g gepoch cseq a valid s) := by
  unfold execAnnounceRx
  refine State.arrive_moves rfl (.refl ..) (fun x0 hx1 => ?_)
  extract_lets +onlyGivenNames -merge u2
  refine .ite (.next hx1) ?_
  extract_lets +onlyGivenNames -merge u3 u4 u5
  exact .next <| .then (State.answerAnnounces_moves ..) rfl <| .then (State.setCol_moves ..) rfl hx1

theorem State.refuseColl_moves (s : State) (x : Coll) (reason : Nat) : Moves 0x1801020 s (State.refuseColl s x reason) := by
  unfold State.refuseColl
  exact .then (State.groupRefused_moves ..) rfl <| .then (State.dropColl_moves ..) rfl <| .refl ..

theorem execGoRx_moves (g : Fin 64) (gepoch : Nat) (cseq : Nat) (ring : Bool) (s : State) : MovesR 0x3EF7D3C s (execGoRx g gepoch cseq ring s) := by
  unfold execGoRx
  refine State.arrive_moves rfl (.refl ..) (fun x0 hx1 => ?_)
  split
  · exact .next hx1
  · extract_lets +onlyGivenNames -merge u7 u8
    have hu8 : Moves 0x3EF7D3C s u8 := .then (State.setGroup_moves ..) rfl hx1
    clear_value u8
    refine .ite (.next <| .then (State.refuseColl_moves ..) rfl hu8) ?_
    extract_lets +onlyGivenNames -merge u9
    have hu9 : Moves 0x3EF7D3C s u9 := .then (State.setColl_moves ..) rfl hu8
    clear_value u9
    exact .next <| .then (State.reserveNext_moves ..) rfl <| .then (State.setCol_moves ..) rfl hu9

theorem execRefuseRx_moves (g : Fin 64) (gepoch : Nat) (cseq : Nat) (reason : Nat) (s : State) : MovesR 0x3801020 s (execRefuseRx g gepoch cseq reason s) := by
  unfold execRefuseRx
  refine State.arrive_moves rfl (.refl ..) (fun x0 hx1 => ?_)
  split
  · exact .next hx1
  · exact .next <| .then (State.refuseColl_moves ..) rfl hx1

theorem execStagingReserved_moves (s : State) : MovesR 0x1EF7D3C s (execStagingReserved s) := by
  unfold execStagingReserved
  exact .next <| .then (State.reserveNext_moves ..) rfl <| .refl ..

theorem execCollectiveLaunch_moves (g : Fin 64) (cseq : Nat) (s : State) : MovesR 0x1EF7F3C s (execCollectiveLaunch g cseq s) := by
  unfold execCollectiveLaunch
  exact .ite (.next <| .then (State.tryLaunch_moves ..) rfl <| .then (State.fired_moves ..) rfl <| .refl ..) (.next <| .refl ..)

theorem execCollectiveChunkRx_moves (from_ : Nat) (h : ChunkHead) (data : List Byte) (crc : BitVec 32) (s : State) : MovesR 0x3EF7D3C s (execCollectiveChunkRx
  from_ h data crc s) := by
  unfold execCollectiveChunkRx
  refine State.arrive_moves rfl (.refl ..) (fun x0 hx1 => ?_)
  extract_lets +onlyGivenNames -merge u2 u3 u4
  refine .ite (.next hx1) ?_
  refine .ite (.next <| .then (State.colMsg_moves ..) rfl <| .then (State.colCount_moves ..) rfl hx1) ?_
  split
  · exact .next <| .ite (.then (State.ackChunk_moves ..) rfl hx1) hx1
  · exact .ite (.next <| .then (State.ackChunk_moves ..) rfl hx1) (.ite (.next hx1) (.next <| .then (State.runColl_moves ..) rfl <| .then
      (State.setColl_moves ..) rfl hx1))

theorem State.leaseStalls_moves (s : State) (x : Coll) (ps : List Nat) : Moves 0xC10838 s (State.leaseStalls s x ps) := by
  unfold State.leaseStalls
  extract_lets +onlyGivenNames -merge u0
  have hu0 : Moves 0xC10838 s u0 := .then (State.colFlag_moves ..) rfl <| .then (State.colCount_moves ..) rfl <| .then (State.setColl_moves ..) rfl <| .refl
    ..
  clear_value u0
  exact .foldl _ hu0 fun _ _ hx1 => .then (State.suspect_moves ..) rfl hx1

theorem execCollectiveAckRx_moves (from_ : Nat) (h : ChunkHead) (nack : Bool) (s : State) : MovesR 0x3EF7D3C s (execCollectiveAckRx from_ h nack s) := by
  unfold execCollectiveAckRx
  refine State.arrive_moves rfl (.refl ..) (fun x0 hx1 => ?_)
  extract_lets +onlyGivenNames -merge u2 u3
  split
  · exact .next hx1
  · split
    · exact .next hx1
    · refine .ite ?_ ?_
      · refine .ite (.next <| .then (State.leaseStalls_moves ..) rfl hx1) ?_
        extract_lets +onlyGivenNames -merge u14
        exact .next <| .then (State.sendChunk_moves ..) rfl <| .then (State.colCount_moves ..) rfl <| .then (State.setColl_moves ..) rfl hx1
      · extract_lets +onlyGivenNames -merge u15
        have hu15 : Moves 0x3EF7D3C s u15 := .then (State.setColl_moves ..) rfl hx1
        clear_value u15
        extract_lets +onlyGivenNames -merge u16
        have hu16 : Moves 0x3EF7D3C s u16 := .then (State.dropSlice_moves ..) rfl hu15
        clear_value u16
        extract_lets +onlyGivenNames -merge u17
        have hu17 : Moves 0x3EF7D3C s u17 := .then (State.chargeDesc_moves ..) rfl hu16
        clear_value u17
        exact .next <| .then (State.runColls_moves ..) rfl <| .then (State.runColl_moves ..) rfl hu17

theorem execCollectiveLeaseExpiry_moves (g : Fin 64) (cseq : Nat) (s : State) : MovesR 0xC10A38 s (execCollectiveLeaseExpiry g cseq s) := by
  unfold execCollectiveLeaseExpiry
  refine .ite (.next <| .refl ..) ?_
  extract_lets +onlyGivenNames -merge u0
  have hu0 : Moves 0xC10A38 s u0 := .then (State.fired_moves ..) rfl <| .refl ..
  clear_value u0
  split
  · exact .next hu0
  · extract_lets +onlyGivenNames -merge u6 u7
    exact .next <| .then (State.leaseStalls_moves ..) rfl hu0

theorem State.sliceFails_moves (s : State) (n : Nat) (cause : Nat) : Moves 0x2D1483C s (State.sliceFails s n cause) := by
  unfold State.sliceFails
  extract_lets +onlyGivenNames -merge u0 u1 u2
  have hu2 : Moves 0x2D1483C s u2 := .then (State.substSlice_moves ..) rfl <| .then (State.colCount_moves ..) rfl <| .refl ..
  clear_value u2
  extract_lets +onlyGivenNames -merge u3
  have hu3 : Moves 0x2D1483C s u3 := .then (State.colFlag_moves ..) rfl hu2
  clear_value u3
  extract_lets +onlyGivenNames -merge u4 u5
  have hu5 : Moves 0x2D1483C s u5 := .then (State.setCol_moves ..) rfl hu3
  clear_value u5
  extract_lets +onlyGivenNames -merge u6 u7
  have hu7 : Moves 0x2D1483C s u7 := .then (State.setCol_moves ..) rfl hu5
  clear_value u7
  extract_lets +onlyGivenNames -merge u8
  have hu8 : Moves 0x2D1483C s u8 := by
    unfold u8
    refine .foldl _ hu7 fun x9 _ hx9 => ?_
    split
    · exact .then (State.setCol_moves ..) rfl hx9
    · exact hx9
  clear_value u8
  exact .ite hu8 (.then (State.suspectSelf_moves ..) rfl <| .then (State.colFlag_moves ..) rfl hu8)

theorem execResidueMismatch_moves (n : Fin 8) (s : State) : MovesR 0x2D1483C s (execResidueMismatch n s) := by
  unfold execResidueMismatch
  exact .ite (.next <| .refl ..) (.next <| .then (State.sliceFails_moves ..) rfl <| .then (State.setDp_moves ..) rfl <| .then (State.colCount_moves ..) rfl
    <| .refl ..)

/-! ### Machine/Group.lean -/

theorem State.startForm_moves (s : State) (c : Nat) (g : Nat) (w2 : Nat) (w3 : Nat) (idx : Option Nat) : Moves 0xC10838 s (State.startForm s c g w2 w3 idx) := by
  unfold State.startForm
  extract_lets +onlyGivenNames -merge u0 u1 u2 u3 u4 u5 u6
  have hu6 : Moves 0xC10838 s u6 := .then (State.setGroup_moves ..) rfl <| .refl ..
  clear_value u6
  exact .then (State.colMsg_moves ..) rfl hu6

theorem State.shadowForm_moves (s : State) (d : Desc) : Moves 0x4000 s (State.shadowForm s d) := by
  unfold State.shadowForm
  split
  · exact .refl ..
  · extract_lets +onlyGivenNames -merge u5
    exact .flt _ rfl rfl <| .refl ..

theorem execGroupForm_moves (c : CtxId) (s : State) : MovesR 0x1C1583C s (execGroupForm c s) := by
  unfold execGroupForm
  split
  · rename_i x0 x1 x2
    exact .next <| MovesT.ofNo (.then (State.begin_moves ..) rfl <| .refl ..) x2
  · rename_i x3 x4 x5 x6
    extract_lets +onlyGivenNames -merge u7
    split
    · exact .next <| .then (State.refuseStart_moves ..) rfl <| MovesT.ofGo (.then (State.begin_moves ..) rfl <| .refl ..) x6
    · refine .ite (.next <| .then (State.bracketFail_moves ..) rfl <| MovesT.ofGo (.then (State.begin_moves ..) rfl <| .refl ..) x6) ?_
      refine .ite ?_ ?_
      · split
        rename_i x13 x14 x15 x16
        exact .next <| .then (State.applied_moves ..) rfl <| MovesP.of (.then (State.takeFree_moves ..) rfl <| .then (State.shadowForm_moves ..) rfl <|
          MovesT.ofGo (.then (State.begin_moves ..) rfl <| .refl ..) x6) x16
      · exact .next <| .then (State.startForm_moves ..) rfl <| MovesT.ofGo (.then (State.begin_moves ..) rfl <| .refl ..) x6

theorem State.endRefused_moves (g : Nat) (reason : Nat) (z2 : State) (z3 : Nat) (z4 : Nat) : Moves 0x1801020 z2 (State.endRefused g reason z2 z3 z4) := by
  unfold State.endRefused
  exact .then (State.groupRefused_moves ..) rfl <| .refl ..

theorem State.dissolveSlot_moves (s : State) (g : Nat) : Moves 0x1C11838 s (State.dissolveSlot s g) := by
  unfold State.dissolveSlot
  extract_lets +onlyGivenNames -merge u0
  have hu0 : Moves 0x1C11838 s u0 := by
    unfold u0
    split
    · exact .then (State.groupRefused_moves ..) rfl <| .refl ..
    · exact .refl ..
  clear_value u0
  exact State.leaveGroup_moves rfl hu0 (fun x6 x7 x8 hx9 => .then (State.endRefused_moves ..) rfl hx9)

theorem execGroupDissolve_moves (c : CtxId) (s : State) : MovesR 0x1C1583C s (execGroupDissolve c s) := by
  unfold execGroupDissolve
  split
  · rename_i x0 x1 x2
    exact .next <| MovesT.ofNo (.then (State.begin_moves ..) rfl <| .refl ..) x2
  · rename_i x3 x4 x5 x6
    extract_lets +onlyGivenNames -merge u7
    split
    · rename_i x8 x9 x10
      exact .next <| MovesO.of (.then (State.judgeSlot_moves _ _ _ _ _) rfl <| MovesT.ofGo (.then (State.begin_moves ..) rfl <| .refl ..) x6) x10
    · exact .ite (.next <| .then (State.bracketFail_moves ..) rfl <| MovesT.ofGo (.then (State.begin_moves ..) rfl <| .refl ..) x6) (.ite (.next <| .then
        (State.applied_moves ..) rfl <| .then (State.shadowForm_moves ..) rfl <| MovesT.ofGo (.then (State.begin_moves ..) rfl <| .refl ..) x6) (.next <|
        .then (State.finishOk_moves ..) rfl <| .then (State.dissolveSlot_moves ..) rfl <| MovesT.ofGo (.then (State.begin_moves ..) rfl <| .refl ..) x6))

theorem State.answerJoins_moves (s : State) (g : Nat) (ps : List Nat) (kind : MsgKind) (v : Nat) : Moves 0xC10838 s (State.answerJoins s g ps kind v) := by
  unfold State.answerJoins
  exact .then (State.tell_moves ..) rfl <| .then (State.setGroup_moves ..) rfl <| .refl ..

theorem execJoinRx_moves (from_ : Nat) (g : Fin 64) (j : Join) (s : State) : MovesR 0x3C10838 s (execJoinRx from_ g j s) := by
  unfold execJoinRx
  refine State.arrive_moves rfl (.refl ..) (fun x0 hx1 => ?_)
  extract_lets +onlyGivenNames -merge u2
  refine .ite (.next hx1) ?_
  extract_lets +onlyGivenNames -merge u3 u4 u5 u6 u7
  exact .ite (.next <| .then (State.answerJoins_moves ..) rfl hx1) (.ite (.next <| .then (State.answerJoins_moves ..) rfl hx1) (.ite (.next <| .then
    (State.answerJoins_moves ..) rfl hx1) (.next <| .then (State.setGroup_moves ..) rfl hx1)))

theorem State.formFails_moves (s : State) (g : Nat) (reason : Nat) : Moves 0x1C1583C s (State.formFails s g reason) := by
  unfold State.formFails
  extract_lets +onlyGivenNames -merge u0 u1 u2
  have hu2 : Moves 0x1C1583C s u2 := .then (State.setGroup_moves ..) rfl <| .refl ..
  clear_value u2
  split
  · exact .then (State.groupRefused_moves ..) rfl hu2
  · extract_lets +onlyGivenNames -merge u8
    have hu8 : Moves 0x1C1583C s u8 := .then (State.colCount_moves ..) rfl hu2
    clear_value u8
    exact .ite (.then (State.rollbackFor_moves ..) rfl hu8) hu8

theorem execFormedRx_moves (g : Fin 64) (epoch : Nat) (reason : Nat) (s : State) : MovesR 0x3C1583C s (execFormedRx g epoch reason s) := by
  unfold execFormedRx
  refine State.arrive_moves rfl (.refl ..) (fun x0 hx1 => ?_)
  extract_lets +onlyGivenNames -merge u2
  refine .ite (.next hx1) ?_
  refine .ite (.next <| .then (State.formFails_moves ..) rfl hx1) ?_
  extract_lets +onlyGivenNames -merge u3 u4
  have hu4 : Moves 0x3C1583C s u4 := .then (State.setGroup_moves ..) rfl <| .then (State.setEpoch_moves ..) rfl hx1
  clear_value u4
  split
  · exact .next <| .then (State.endDesc_moves ..) rfl hu4
  · split
    · exact .next <| .flt _ rfl rfl hu4
    · exact .next hu4

theorem execFormLimitExpiry_moves (g : Fin 64) (s : State) : MovesR 0x1C1583C s (execFormLimitExpiry g s) := by
  unfold execFormLimitExpiry
  extract_lets +onlyGivenNames -merge u0
  split
  · exact .ite (.next <| .then (State.formFails_moves ..) rfl <| .refl ..) (.next <| .refl ..)
  · exact .next <| .refl ..

theorem State.dissolveFenced_moves (s : State) (g : Nat) : Moves 0x1C1583C s (State.dissolveFenced s g) := by
  unfold State.dissolveFenced
  split
  · exact .refl ..
  · refine .ite ?_ ?_
    · extract_lets +onlyGivenNames -merge u5
      exact .then (State.rollbackFor_moves ..) rfl <| .flt _ rfl rfl <| .refl ..
    · exact .refl ..

theorem State.reform_moves (s : State) (g : Nat) (epoch : Nat) (live : List Nat) (last : Option Nat) : Moves 0x1C1583C s (State.reform s g epoch live last) := by
  unfold State.reform
  extract_lets +onlyGivenNames -merge u0 u1
  have hu1 : Moves 0x1C1583C s u1 := .then (State.record_moves ..) rfl <| .then (State.setEpoch_moves ..) rfl <| .refl ..
  clear_value u1
  extract_lets +onlyGivenNames -merge u2
  have hu2 : Moves 0x1C1583C s u2 := .then (State.colCount_moves ..) rfl <| .then (State.bump_moves ..) rfl <| .then (State.record_moves ..) rfl hu1
  clear_value u2
  extract_lets +onlyGivenNames -merge u3 u4 u5 u6
  have hu6 : Moves 0x1C1583C s u6 := .ite (.then (State.record_moves ..) rfl hu2) hu2
  clear_value u6
  extract_lets +onlyGivenNames -merge u7
  have hu7 : Moves 0x1C1583C s u7 := by
    unfold u7
    refine .foldl _ hu6 fun x8 _ hx8 => ?_
    refine .ite (.then (State.setColl_moves ..) rfl <| .then (State.freeColl_moves ..) rfl hx8) ?_
    unfold u3
    exact .then (State.endDesc_moves ..) rfl <| .then (State.bump_moves ..) rfl <| .then (State.dropColl_moves ..) rfl hx8
  clear_value u7
  extract_lets +onlyGivenNames -merge u10
  have hu10 : Moves 0x1C1583C s u10 := by
    unfold u10
    refine .foldl _ hu7 fun x11 _ hx11 => ?_
    unfold u3
    exact .then (State.endDesc_moves ..) rfl <| .then (State.bump_moves ..) rfl <| .then (State.dropDawn_moves ..) rfl hx11
  clear_value u10
  extract_lets +onlyGivenNames -merge u13 u14
  have hu14 : Moves 0x1C1583C s u14 := .then (State.setGroup_moves ..) rfl <| .then (State.dropTraffic_moves ..) rfl hu10
  clear_value u14
  exact .then (State.dissolveFenced_moves ..) rfl <| .then (State.colFlag_moves ..) rfl hu14

theorem State.endSlot_moves (s : State) (g : Nat) (st : GroupState) (reason : Nat) : Moves 0x1811838 s (State.endSlot s g st reason) := by
  unfold State.endSlot
  extract_lets +onlyGivenNames -merge u0
  have hu0 : Moves 0x1811838 s u0 := State.endGroupWork_moves rfl (.refl ..) (fun x1 x2 x3 hx4 => .then (State.endRefused_moves ..) rfl hx4)
  clear_value u0
  exact .then (State.colFlag_moves ..) rfl <| .then (State.setGroup_moves ..) rfl hu0

theorem State.applyReform_moves (s : State) (g : Nat) (epoch : Nat) (live : List Nat) (last : Option Nat) : Moves 0x1C1583C s (State.applyReform s g epoch live last)
  := by
  unfold State.applyReform
  exact .ite (.then (State.endSlot_moves ..) rfl <| .refl ..) (.ite (.then (State.endSlot_moves ..) rfl <| .refl ..) (.then (State.reform_moves ..) rfl <|
    .refl ..))

theorem State.resume_moves (s : State) (g : Nat) : Moves 0xC10838 s (State.resume s g) := by
  unfold State.resume
  extract_lets +onlyGivenNames -merge u0 u1
  have hu1 : Moves 0xC10838 s u1 := .then (State.setGroup_moves ..) rfl <| .refl ..
  clear_value u1
  exact .foldl _ hu1 fun _ _ hx2 => .then (State.announce_moves ..) rfl hx2

theorem State.tryResume_moves (s : State) (g : Nat) : Moves 0xC10838 s (State.tryResume s g) := by
  unfold State.tryResume
  extract_lets +onlyGivenNames -merge u0
  exact .ite (.then (State.resume_moves ..) rfl <| .then (State.tell_moves ..) rfl <| .refl ..) (.refl ..)

theorem State.decideReform_moves (s : State) (g : Nat) : Moves 0x1C1583C s (State.decideReform s g) := by
  unfold State.decideReform
  extract_lets +onlyGivenNames -merge u0 u1 u2 u3 u4 u5
  have hu5 : Moves 0x1C1583C s u5 := .then (State.setGroup_moves ..) rfl <| .refl ..
  clear_value u5
  extract_lets +onlyGivenNames -merge u6 u7
  have hu7 : Moves 0x1C1583C s u7 := .then (State.applyReform_moves ..) rfl <| .then (State.tell_moves ..) rfl hu5
  clear_value u7
  exact .ite (.then (State.tryResume_moves ..) rfl <| .then (State.setGroup_moves ..) rfl hu7) hu7

theorem execSuspectRx_moves (from_ : Nat) (g : Fin 64) (gepoch : Nat) (lost : Nat) (t : Nat) (s : State) : MovesR 0x3800002 s (execSuspectRx from_ g gepoch lost t s)
  := by
  unfold execSuspectRx
  refine State.arrive_moves rfl (.refl ..) (fun x0 hx1 => ?_)
  extract_lets +onlyGivenNames -merge u2
  have hu2 : Moves 0x3800002 s u2 := .then (State.reachClk_moves ..) rfl hx1
  clear_value u2
  extract_lets +onlyGivenNames -merge u3
  refine .ite (.next hu2) ?_
  extract_lets +onlyGivenNames -merge u4
  exact .next <| .then (State.setGroup_moves ..) rfl hu2

theorem execSuspectGatherExpiry_moves (g : Fin 64) (t : Nat) (s : State) : MovesR 0x1C1583E s (execSuspectGatherExpiry g t s) := by
  unfold execSuspectGatherExpiry
  extract_lets +onlyGivenNames -merge u0
  have hu0 : Moves 0x1C1583E s u0 := .then (State.reachClk_moves ..) rfl <| .refl ..
  clear_value u0
  extract_lets +onlyGivenNames -merge u1
  split
  · exact .next hu0
  · refine .ite (.next hu0) ?_
    extract_lets +onlyGivenNames -merge u7 u8
    have hu8 : Moves 0x1C1583E s u8 := .then (State.setGroup_moves ..) rfl hu0
    clear_value u8
    extract_lets +onlyGivenNames -merge u9
    have hu9 : Moves 0x1C1583E s u9 := .then (State.tell_moves ..) rfl hu8
    clear_value u9
    exact .next <| .ite (.then (State.decideReform_moves ..) rfl hu9) hu9

theorem execProbeRx_moves (from_ : Nat) (g : Fin 64) (gepoch : Nat) (answer : Bool) (s : State) : MovesR 0x3C1583C s (execProbeRx from_ g gepoch answer s) := by
  unfold execProbeRx
  refine State.arrive_moves rfl (.refl ..) (fun x0 hx1 => ?_)
  extract_lets +onlyGivenNames -merge u2
  refine .ite (.next hx1) ?_
  refine .ite (.next <| .then (State.colMsg_moves ..) rfl hx1) ?_
  extract_lets +onlyGivenNames -merge u3 u4
  have hu4 : Moves 0x3C1583C s u4 := .then (State.setGroup_moves ..) rfl hx1
  clear_value u4
  exact .next <| .ite (.then (State.decideReform_moves ..) rfl hu4) hu4

theorem execProbeTimeout_moves (g : Fin 64) (t : Nat) (s : State) : MovesR 0x1C1583E s (execProbeTimeout g t s) := by
  unfold execProbeTimeout
  extract_lets +onlyGivenNames -merge u0
  have hu0 : Moves 0x1C1583E s u0 := .then (State.reachClk_moves ..) rfl <| .refl ..
  clear_value u0
  split
  · exact .next hu0
  · exact .ite (.next hu0) (.next <| .then (State.decideReform_moves ..) rfl hu0)

theorem execReformRx_moves (from_ : Nat) (g : Fin 64) (epoch : Nat) (live : List Nat) (last : Option Nat) (s : State) : MovesR 0x3C1583C s (execReformRx from_ g
  epoch live last s) := by
  unfold execReformRx
  refine State.arrive_moves rfl (.refl ..) (fun x0 hx1 => ?_)
  refine .ite (.next hx1) ?_
  extract_lets +onlyGivenNames -merge u2
  have hu2 : Moves 0x3C1583C s u2 := .then (State.applyReform_moves ..) rfl hx1
  clear_value u2
  exact .next <| .ite (.then (State.colMsg_moves ..) rfl hu2) hu2

theorem execReformAckRx_moves (from_ : Nat) (g : Fin 64) (epoch : Nat) (s : State) : MovesR 0x3C10838 s (execReformAckRx from_ g epoch s) := by
  unfold execReformAckRx
  refine State.arrive_moves rfl (.refl ..) (fun x0 hx1 => ?_)
  extract_lets +onlyGivenNames -merge u2
  exact .ite (.next <| .then (State.tryResume_moves ..) rfl <| .then (State.setGroup_moves ..) rfl hx1) (.next hx1)

theorem execResumeRx_moves (g : Fin 64) (epoch : Nat) (s : State) : MovesR 0x3C10838 s (execResumeRx g epoch s) := by
  unfold execResumeRx
  exact State.arrive_moves rfl (.refl ..) (fun x0 hx1 => .ite (.next <| .then (State.resume_moves ..) rfl hx1) (.next hx1))

/-! ### Machine/Dawn.lean -/

theorem State.queueValue_moves (s : State) (p : Nat) (v : Nat) : Moves 0x800028 s (State.queueValue s p v) := by
  unfold State.queueValue
  extract_lets +onlyGivenNames -merge u0
  refine .ite (.refl ..) ?_
  extract_lets +onlyGivenNames -merge u1 u2 u3
  have hu3 : Moves 0x800028 s u3 := .then (State.setCol_moves ..) rfl <| .refl ..
  clear_value u3
  exact .ite (.then (State.sendSlot_moves ..) rfl hu3) hu3

theorem State.passOn_moves (s : State) (x : GroupSlot) (a : Nat) (origin : Nat) (v : Nat) (dirs : List Bool) : Moves 0x800028 s (State.passOn s x a origin v dirs)
  := by
  unfold State.passOn
  exact .foldl _ (.refl ..) fun _ _ hx0 => .ite (.then (State.queueValue_moves ..) rfl hx0) hx0

theorem State.setDawn_moves (s : State) (d : DawnOp) : Moves 0x800000 s (State.setDawn s d) := by
  unfold State.setDawn
  exact .then (State.setCol_moves ..) rfl <| .refl ..

theorem State.sendValue_moves (s : State) (x : GroupSlot) (d : DawnOp) (bs : List Byte) (a : Nat) : Moves 0x800028 s (State.sendValue s x d bs a) := by
  unfold State.sendValue
  extract_lets +onlyGivenNames -merge u0
  exact .foldl _ (.refl ..) fun _ _ hx1 => .then (State.passOn_moves ..) rfl hx1

theorem State.dropValues_moves (s : State) (d : DawnOp) : Moves 0x800000 s (State.dropValues s d) := by
  unfold State.dropValues
  exact .then (State.setCol_moves ..) rfl <| .refl ..

theorem State.finishDawn_moves (s : State) (d : DawnOp) (bs : List Byte) : Moves 0x1EF7D3C s (State.finishDawn s d bs) := by
  unfold State.finishDawn
  extract_lets +onlyGivenNames -merge u0 u1
  have hu1 : Moves 0x1EF7D3C s u1 := .then (State.dropValues_moves ..) rfl <| .then (State.dropDawn_moves ..) rfl <| .refl ..
  clear_value u1
  split
  rename_i x2 x3 x4 x5
  split
  · refine .then (State.faultDesc_moves ..) rfl ?_
    refine MovesF.of ?_ x5
    refine .ite (.mk hu1) ?_
    refine .ite (.mk <| .then (State.toHost_moves ..) rfl hu1) ?_
    extract_lets +onlyGivenNames -merge u8 u9
    have hu9 : MovesF 0x1EF7D3C s u9 := .then (State.vwrite_moves _ _ _ _ _ _ _) rfl <| .then (State.setLnk_moves ..) rfl hu1
    clear_value u9
    exact .mk <| .then (State.setLnk_moves ..) rfl <| MovesF.fst hu9
  · extract_lets +onlyGivenNames -merge u11
    have hu11 : Moves 0x1EF7D3C s u11 := by
      unfold u11
      refine .then (State.colCount_moves ..) rfl ?_
      refine MovesF.of ?_ x5
      refine .ite (.mk hu1) ?_
      refine .ite (.mk <| .then (State.toHost_moves ..) rfl hu1) ?_
      extract_lets +onlyGivenNames -merge u12 u13
      have hu13 : MovesF 0x1EF7D3C s u13 := .then (State.vwrite_moves _ _ _ _ _ _ _) rfl <| .then (State.setLnk_moves ..) rfl hu1
      clear_value u13
      exact .mk <| .then (State.setLnk_moves ..) rfl <| MovesF.fst hu13
    clear_value u11
    split
    · exact hu11
    · refine .ite ?_ ?_
      · split
        rename_i x19 x20 x21 x22
        exact .then (State.finishOk_moves ..) rfl <| MovesP.of (.then (State.takeFree_moves ..) rfl hu11) x22
      · exact .then (State.finish_moves ..) rfl hu11

theorem State.refuseDawn_moves (s : State) (x : GroupSlot) (d : DawnOp) (axes : List Nat) (a : Nat) : Moves 0x1801028 s (State.refuseDawn s x d axes a) := by
  unfold State.refuseDawn
  extract_lets +onlyGivenNames -merge u0
  have hu0 : Moves 0x1801028 s u0 := .foldl _ (.refl ..) fun _ _ hx1 => .then (State.sendValue_moves ..) rfl hx1
  clear_value u0
  exact .then (State.groupRefused_moves ..) rfl <| .then (State.dropValues_moves ..) rfl <| .then (State.dropDawn_moves ..) rfl hu0

theorem State.runDawn_moves (s : State) (g : Nat) (dseq : Nat) (z3 : Nat) : Moves 0x1EF7D3C s (State.runDawn s g dseq z3) := by
  induction z3 generalizing s g dseq with
  | zero =>
    unfold State.runDawn
    exact .refl ..
  | succ n0 ih =>
    unfold State.runDawn
    split
    · exact .refl ..
    · rename_i x2 x3 x4
      extract_lets +onlyGivenNames -merge u5 u6 u7
      refine .ite ?_ ?_
      · split
        · exact .then (State.finishDawn_moves ..) rfl <| .refl ..
        · exact .refl ..
        · split
          · exact .refl ..
          · refine .ite (.then (State.refuseDawn_moves ..) rfl <| .refl ..) ?_
            extract_lets +onlyGivenNames -merge u27
            have hu27 : Moves 0x1EF7D3C s u27 := .then (State.setDawn_moves ..) rfl <| .refl ..
            clear_value u27
            extract_lets +onlyGivenNames -merge u28
            have hu28 : Moves 0x1EF7D3C s u28 := .foldl _ hu27 fun _ _ hx29 => .then (State.sendValue_moves ..) rfl hx29
            clear_value u28
            exact .then (State.finishDawn_moves ..) rfl hu28
      · split
        · exact .then (State.finishDawn_moves ..) rfl <| .refl ..
        · extract_lets +onlyGivenNames -merge u36 u37
          refine .ite (.refl ..) ?_
          refine .ite (.then (State.refuseDawn_moves ..) rfl <| .refl ..) ?_
          extract_lets +onlyGivenNames -merge u38 u39 u40 u41
          have hu41 : Moves 0x1EF7D3C s u41 := .then (State.setDawn_moves ..) rfl <| .refl ..
          clear_value u41
          extract_lets +onlyGivenNames -merge u42
          have hu42 : Moves 0x1EF7D3C s u42 := by
            unfold u42
            split
            · exact .then (State.sendValue_moves ..) rfl hu41
            · exact hu41
          clear_value u42
          exact .then (ih _ _ _) rfl hu42

theorem dawnStart_moves (c : CtxId) (mine : Nat → Bool) (data : HostData) (s0 : State) : MovesR 0x1EF7D3C s0 (dawnStart c mine data s0) := by
  unfold dawnStart
  split
  · rename_i x0 x1 x2
    exact .next <| MovesT.ofNo (.then (State.begin_moves ..) rfl <| .refl ..) x2
  · rename_i x3 x4 x5 x6
    extract_lets +onlyGivenNames -merge u7
    split
    · rename_i x8 x9 x10
      exact .next <| MovesO.of (.then (State.judgeSlot_moves _ _ _ _ _) rfl <| MovesT.ofGo (.then (State.begin_moves ..) rfl <| .refl ..) x6) x10
    · extract_lets +onlyGivenNames -merge u13 u14 u15
      refine .ite (.next <| .then (State.refuseStart_moves ..) rfl <| MovesT.ofGo (.then (State.begin_moves ..) rfl <| .refl ..) x6) ?_
      refine .ite (.next <| .then (State.refuseStart_moves ..) rfl <| .then (State.setGroup_moves ..) rfl <| MovesT.ofGo (.then (State.begin_moves ..) rfl <|
        .refl ..) x6) ?_
      extract_lets +onlyGivenNames -merge u16 u17
      have hu17 : Moves 0x1EF7D3C s0 u17 := .ite (.then (State.send_moves ..) rfl <| MovesT.ofGo (.then (State.begin_moves ..) rfl <| .refl ..) x6)
        (MovesT.ofGo (.then (State.begin_moves ..) rfl <| .refl ..) x6)
      clear_value u17
      split
      · exact .next <| .refl ..
      · exact .next <| .then (State.contextFault_moves ..) rfl hu17
      · exact .next <| .then (State.faultDesc_moves ..) rfl hu17
      · extract_lets +onlyGivenNames -merge u29 u30
        have hu30 : Moves 0x1EF7D3C s0 u30 := .then (State.setGroup_moves ..) rfl hu17
        clear_value u30
        extract_lets +onlyGivenNames -merge u31 u32
        have hu32 : Moves 0x1EF7D3C s0 u32 := .then (State.setCol_moves ..) rfl hu30
        clear_value u32
        extract_lets +onlyGivenNames -merge u33 u34
        have hu34 : Moves 0x1EF7D3C s0 u34 := by
          unfold u34
          refine .ite (.ite (.foldl _ hu32 fun _ _ hx35 => .then (State.sendValue_moves ..) rfl hx35) hu32) ?_
          clear_value u33
          split
          · exact .then (State.sendValue_moves ..) rfl hu32
          · exact hu32
        clear_value u34
        exact .next <| .then (State.runDawn_moves ..) rfl hu34

theorem execDawnAllReduce_moves (c : CtxId) (data : HostData) (s : State) : MovesR 0x1EF7D3C s (execDawnAllReduce c data s) := by
  unfold execDawnAllReduce
  exact State.starting_moves rfl (.refl ..) (fun x0 hx1 => .then (dawnStart_moves _ _ _ _) rfl hx1)

theorem execDawnBroadcast_moves (c : CtxId) (data : HostData) (s : State) : MovesR 0x1EF7D3C s (execDawnBroadcast c data s) := by
  unfold execDawnBroadcast
  exact State.starting_moves rfl (.refl ..) (fun x0 hx1 => .then (dawnStart_moves _ _ _ _) rfl hx1)

theorem execDawnBarrier_moves (c : CtxId) (s : State) : MovesR 0x1EF7D3C s (execDawnBarrier c s) := by
  unfold execDawnBarrier
  exact State.starting_moves rfl (.refl ..) (fun x0 hx1 => .then (dawnStart_moves _ _ _ _) rfl hx1)

theorem State.storePart_moves (s : State) (a : Nat) (v : Nat) : Moves 0x800000 s (State.storePart s a v) := by
  unfold State.storePart
  extract_lets +onlyGivenNames -merge u0 u1 u2 u3 u4
  exact .ite (.then (State.setCol_moves ..) rfl <| .refl ..) (.then (State.setCol_moves ..) rfl <| .refl ..)

theorem execDawnSlotRx_moves (p : TorusPort) (slot : List Byte) (t : Nat) (s : State) : MovesR 0x1EF7D3E s (execDawnSlotRx p slot t s) := by
  unfold execDawnSlotRx
  extract_lets +onlyGivenNames -merge u0
  have hu0 : Moves 0x1EF7D3E s u0 := .then (State.reachClk_moves ..) rfl <| .refl ..
  clear_value u0
  extract_lets +onlyGivenNames -merge u1 u2 u3
  refine .ite (.next hu0) ?_
  extract_lets +onlyGivenNames -merge u4 u5
  have hu5 : Moves 0x1EF7D3E s u5 := .ite (.then (State.sendSlot_moves ..) rfl hu0) hu0
  clear_value u5
  refine .ite (.next hu5) ?_
  extract_lets +onlyGivenNames -merge u6
  have hu6 : Moves 0x1EF7D3E s u6 := .then (State.passOn_moves ..) rfl <| .then (State.storePart_moves ..) rfl hu5
  clear_value u6
  exact .next <| .then (State.runDawn_moves ..) rfl hu6

theorem State.resendDawn_moves (s : State) (p : Nat) (again : Bool) : Moves 0x800028 s (State.resendDawn s p again) := by
  unfold State.resendDawn
  extract_lets +onlyGivenNames -merge u0 u1 u2
  refine .ite ?_ ?_
  · refine .foldl _ (.refl ..) fun x3 _ hx3 => ?_
    extract_lets +onlyGivenNames -merge u5 u6
    have hu6 : Moves 0x800028 s u6 := .then (State.setCol_moves ..) rfl hx3
    clear_value u6
    extract_lets +onlyGivenNames -merge u7
    have hu7 : Moves 0x800028 s u7 := .then (State.sendSlot_moves ..) rfl hu6
    clear_value u7
    exact .ite (.then (State.colCount_moves ..) rfl hu7) hu7
  · exact .refl ..

theorem execDawnAckRx_moves (p : TorusPort) (slot : List Byte) (s : State) : MovesR 0x800028 s (execDawnAckRx p slot s) := by
  unfold execDawnAckRx
  extract_lets +onlyGivenNames -merge u0
  refine .ite (.next <| .refl ..) ?_
  extract_lets +onlyGivenNames -merge u1 u2
  have hu2 : Moves 0x800028 s u2 := .then (State.setCol_moves ..) rfl <| .refl ..
  clear_value u2
  exact .next <| .then (State.resendDawn_moves ..) rfl hu2

theorem execDawnResendTimer_moves (p : TorusPort) (t : Nat) (s : State) : MovesR 0x80002A s (execDawnResendTimer p t s) := by
  unfold execDawnResendTimer
  exact .next <| .then (State.resendDawn_moves ..) rfl <| .then (State.reachClk_moves ..) rfl <| .refl ..

/-! ### Machine/Combine.lean -/

theorem State.cmbCount_moves (s : State) (k : Nat) (n : Nat) : Moves 0x20 s (State.cmbCount s k n) := by
  unfold State.cmbCount
  exact .then (State.bump_moves ..) rfl <| .refl ..

theorem State.cmbFlag_moves (s : State) (bit : Nat) (ctx : Nat) : Moves 0x1083C s (State.cmbFlag s bit ctx) := by
  unfold State.cmbFlag
  exact .then (State.flagOpen_moves ..) rfl <| .refl ..

theorem State.setRun_moves (s : State) (r : Option CombineRun) : Moves 0x200000 s (State.setRun s r) := by
  unfold State.setRun
  exact .then (State.setCmb_moves ..) rfl <| .refl ..

theorem State.takeSlots_moves (s : State) (n : Nat) (z2 : Nat) : Moves 0x200000 s (State.takeSlots s n z2) := by
  induction z2 generalizing s n with
  | zero =>
    unfold State.takeSlots
    exact .refl ..
  | succ n0 ih =>
    unfold State.takeSlots
    split
    · exact .refl ..
    · split
      · exact .refl ..
      · exact .then (ih _ _) rfl <| .then (State.setRun_moves ..) rfl <| .refl ..

theorem State.issueReads_moves (s : State) : Moves 0x200000 s (State.issueReads s) := by
  unfold State.issueReads
  split
  · exact .refl ..
  · extract_lets +onlyGivenNames -merge u7 u8
    exact .then (State.setRun_moves ..) rfl <| .refl ..

theorem State.refill_moves (s : State) (n : Nat) : Moves 0x200000 s (State.refill s n) := by
  unfold State.refill
  exact .then (State.issueReads_moves ..) rfl <| .then (State.takeSlots_moves ..) rfl <| .refl ..

theorem execCombineStage_moves (s : State) : MovesR 0x1EF7D3C s (execCombineStage s) := by
  unfold execCombineStage
  refine .ite (.next <| .refl ..) ?_
  split
  · exact .next <| .refl ..
  · extract_lets +onlyGivenNames -merge u6 u7
    have hu7 : Moves 0x1EF7D3C s u7 := .then (State.setWork_moves ..) rfl <| .refl ..
    clear_value u7
    split
    · exact .next hu7
    · exact .ite (.next <| .then (State.schedule_moves ..) rfl <| .then (State.engineFault_moves ..) rfl hu7) (.next <| .then (State.refill_moves ..) rfl <|
        .then (State.setRun_moves ..) rfl hu7)

theorem State.countToken_moves (s : State) (strip : Nat) (f : TokenForm) : Moves 0x20 s (State.countToken s strip f) := by
  unfold State.countToken
  refine .ite (.refl ..) ?_
  split
  · exact .then (State.cmbCount_moves ..) rfl <| .then (State.cmbCount_moves ..) rfl <| .refl ..
  · exact .then (State.cmbCount_moves ..) rfl <| .then (State.cmbCount_moves ..) rfl <| .refl ..
  · exact .then (State.cmbCount_moves ..) rfl <| .refl ..

theorem State.writeSlot_moves (s : State) (r : CombineRun) (j : Job) (l : Layer) (x : CmbSlot) : Moves 0x1EF7D3C s (State.writeSlot s r j l x) := by
  unfold State.writeSlot
  split
  · exact .refl ..
  · refine .ite (.refl ..) ?_
    extract_lets +onlyGivenNames -merge u5 u6
    split
    · rename_i x7 x8 x9 x10
      exact .then (State.schedule_moves ..) rfl <| .then (State.faultDesc_moves ..) rfl <| MovesF.of (.then (State.outWrite_moves ..) rfl <| .refl ..) x10
    · rename_i x11 x12 x13
      exact .then (State.setRun_moves ..) rfl <| .then (State.cmbCount_moves ..) rfl <| MovesF.of (.then (State.outWrite_moves ..) rfl <| .refl ..) x13

theorem readReturn_moves (slot : Nat) (epoch : Nat) (s : State) : MovesR 0x1EF7D3C s (readReturn slot epoch s) := by
  unfold readReturn
  split
  · exact .next <| .refl ..
  · split
    · exact .next <| .refl ..
    · refine .ite (.next <| .refl ..) ?_
      extract_lets +onlyGivenNames -merge u12 u13
      split
      · exact .next <| .then (State.schedule_moves ..) rfl <| .then (State.faultDesc_moves ..) rfl <| .refl ..
      · extract_lets +onlyGivenNames -merge u21 u22
        exact .next <| .then (State.issueReads_moves ..) rfl <| .then (State.writeSlot_moves ..) rfl <| .then (State.setRun_moves ..) rfl <| .then
          (State.countToken_moves ..) rfl <| .refl ..

theorem execCombineReadReturn_moves (slot : Fin 512) (epoch : Nat) (s : State) : MovesR 0x1EF7D3C s (execCombineReadReturn slot epoch s) := by
  unfold execCombineReadReturn
  split
  · exact State.remotely_moves rfl (.refl ..) (fun x3 hx4 => .then (readReturn_moves _ _ _) rfl hx4)
  · exact .next <| .refl ..

theorem State.combineEnd_moves (s : State) (j : Job) (l : Layer) : Moves 0x128142C s (State.combineEnd s j l) := by
  unfold State.combineEnd
  extract_lets +onlyGivenNames -merge u0
  exact .then (State.schedule_moves ..) rfl <| .then (State.endJob_moves ..) rfl <| .then (State.cmbCount_moves ..) rfl <| .then (State.setRun_moves ..) rfl
    <| .refl ..

theorem State.releaseSlot_moves (s : State) : Moves 0x1EF7D3C s (State.releaseSlot s) := by
  unfold State.releaseSlot
  split
  · exact .refl ..
  · split
    · exact .refl ..
    · refine .ite (.then (State.writeSlot_moves ..) rfl <| .refl ..) ?_
      refine .ite (.refl ..) ?_
      extract_lets +onlyGivenNames -merge u13 u14
      have hu14 : Moves 0x1EF7D3C s u14 := .then (State.refill_moves ..) rfl <| .then (State.setRun_moves ..) rfl <| .then (State.moveSlot_moves ..) rfl <|
        .refl ..
      clear_value u14
      exact .ite hu14 (.ite (.then (State.refill_moves ..) rfl <| .then (State.setRun_moves ..) rfl hu14) (.then (State.combineEnd_moves ..) rfl hu14))

end Sys2Proof.Machine
end

