-- ==== Sys2Proof/Laws/MovesHub.lean ====
section
/-! SUPPORT. Laws/MovesHub.lean: what each operation and meaning of the fabric, ingest, the Route stage and hand-off can do (Laws/Moves.lean says what the relation means):
the least mask of parts it changes, one lemma per definition. -/

namespace Sys2Proof.Machine

/-! ### Machine/Fabric.lean -/

theorem State.hubEvent_moves (s : State) (code : Nat) (unit : Nat) (detail : Nat) : Moves 0x1483C s (State.hubEvent s code unit detail) := by
  unfold State.hubEvent
  exact .then (State.alert_moves ..) rfl <| .then (State.event_moves ..) rfl <| .then (State.record_moves ..) rfl <| .refl ..

theorem State.startRetrain_moves (s : State) (n : Nat) (cause : Nat) : Moves 0x420 s (State.startRetrain s n cause) := by
  unfold State.startRetrain
  extract_lets +onlyGivenNames -merge u0
  exact .ite (.then (State.bump_moves ..) rfl <| .then (State.setBank_moves ..) rfl <| .refl ..) (.refl ..)

theorem State.wiresOut_moves (s : State) (n : Nat) (w : WireTest) : Moves 0x201083C s (State.wiresOut s n w) := by
  unfold State.wiresOut
  extract_lets +onlyGivenNames -merge u0 u1 u2
  unfold u2
  exact .foldl _ (.foldl _ (.refl ..) fun _ _ hx5 => .then (State.retire_moves ..) rfl hx5) fun _ _ hx3 => .then (State.retire_moves ..) rfl hx3

theorem State.trainBridge_moves (s : State) (n : Nat) (w : WireTest) (queued : Bool) : MovesO 0x2014C3C s (State.trainBridge s n w queued) := by
  unfold State.trainBridge
  extract_lets +onlyGivenNames -merge u0
  split
  · rename_i x1 x2 x3 x4 x5 x6
    refine .ite .none ?_
    extract_lets +onlyGivenNames -merge u7 u8 u9
    have hu9 : Moves 0x2014C3C s u9 := .foldl _ (.refl ..) fun _ _ hx10 => .then (State.noteWire_moves ..) rfl hx10
    clear_value u9
    extract_lets +onlyGivenNames -merge u12
    have hu12 : Moves 0x2014C3C s u12 := .foldl _ hu9 fun _ _ hx13 => .then (State.noteWire_moves ..) rfl hx13
    clear_value u12
    split
    rename_i x15 x16 x17 x18
    split
    rename_i x19 x20 x21 x22
    extract_lets +onlyGivenNames -merge u23
    have hu23 : Moves 0x2014C3C s u23 := .then (State.wireMargins_moves ..) rfl <| .then (State.wireMargins_moves ..) rfl <| MovesF.of (.ite (.then
      (State.queuedWires_moves ..) rfl <| MovesF.of (.ite (.then (State.queuedWires_moves ..) rfl hu12) (.mk hu12)) x18) (.mk <| MovesF.of (.ite (.then
      (State.queuedWires_moves ..) rfl hu12) (.mk hu12)) x18)) x22
    clear_value u23
    extract_lets +onlyGivenNames -merge u24 u25 u26 u27
    have hu27 : Moves 0x2014C3C s u27 := .then (State.setBank_moves ..) rfl hu23
    clear_value u27
    exact .some <| .ite (.then (State.hubEvent_moves ..) rfl hu27) hu27
  · exact .none

theorem State.haltBoot_moves (s : State) (code : Nat) (bank : Nat) (stage : Nat) : Moves 0x18420 s (State.haltBoot s code bank stage) := by
  unfold State.haltBoot
  extract_lets +onlyGivenNames -merge u0 u1
  have hu1 : Moves 0x18420 s u1 := .boot _ rfl <| .refl ..
  clear_value u1
  extract_lets +onlyGivenNames -merge u2
  have hu2 : Moves 0x18420 s u2 := .foldl _ hu1 fun _ _ hx3 => .then (State.setBank_moves ..) rfl hx3
  clear_value u2
  exact .then (State.alert_moves ..) rfl hu2

theorem State.startBringup_moves (s : State) (n : Nat) (at_ : Nat) : Moves 0x400 s (State.startBringup s n at_) := by
  unfold State.startBringup
  exact .then (State.setBank_moves ..) rfl <| .refl ..

theorem State.zeroPad_moves (s : State) (n : Nat) : Moves 0x20100 s (State.zeroPad s n) := by
  unfold State.zeroPad
  exact .then (State.unpoison_moves ..) rfl <| .then (State.zeroRange_moves ..) rfl <| .refl ..

theorem State.zeroStacks_moves (s : State) (n : Nat) : Moves 0x20100 s (State.zeroStacks s n) := by
  unfold State.zeroStacks
  exact .then (State.unpoison_moves ..) rfl <| .then (State.zeroRange_moves ..) rfl <| .refl ..

theorem State.zeroHub_moves (s : State) : Moves 0x20100 s (State.zeroHub s) := by
  unfold State.zeroHub
  exact .then (State.unpoison_moves ..) rfl <| .then (State.zeroRange_moves ..) rfl <| .refl ..

theorem State.midnightOver_moves (s : State) : Moves 0x101883C s (State.midnightOver s) := by
  unfold State.midnightOver
  refine .ite ?_ ?_
  · extract_lets +onlyGivenNames -merge u0
    have hu0 : Moves 0x101883C s u0 := .then (State.flagOpen_moves ..) rfl <| .refl ..
    clear_value u0
    extract_lets +onlyGivenNames -merge u1
    have hu1 : Moves 0x101883C s u1 := .ite (.then (State.flagOpen_moves ..) rfl hu0) hu0
    clear_value u1
    exact .upd (fun p => by cases p <;> first | exact fun _ => rfl | exact bit_in rfl) rfl hu1
  · exact .refl ..

theorem State.bootDone_moves (s : State) : Moves 0x1418E3C s (State.bootDone s) := by
  unfold State.bootDone
  exact .then (State.midnightOver_moves ..) rfl <| .then (State.bootReady_moves ..) rfl <| .then (State.tryAdoptStart_moves ..) rfl <| .boot _ rfl <| .refl ..

theorem State.bankFails_moves (s : State) (n : Nat) : Moves 0x14C3C s (State.bankFails s n) := by
  unfold State.bankFails
  extract_lets +onlyGivenNames -merge u0 u1
  have hu1 : Moves 0x14C3C s u1 := .then (State.setBank_moves ..) rfl <| .refl ..
  clear_value u1
  exact .then (State.hubEvent_moves ..) rfl <| .then (State.setDp_moves ..) rfl hu1

theorem State.bridgeFails_moves (s : State) (n : Nat) : Moves 0x14C3C s (State.bridgeFails s n) := by
  unfold State.bridgeFails
  exact .then (State.hubEvent_moves ..) rfl <| .then (State.setDp_moves ..) rfl <| .then (State.setBank_moves ..) rfl <| .refl ..

theorem State.bankActive_moves (s : State) (n : Nat) (badEngines : List Nat) (badSfu : Bool) (queued : Bool) : Moves 0x21B4D3C s (State.bankActive s n badEngines
  badSfu queued) := by
  unfold State.bankActive
  extract_lets +onlyGivenNames -merge u0 u1
  have hu1 : Moves 0x21B4D3C s u1 := .then (State.setBank_moves ..) rfl <| .refl ..
  clear_value u1
  exact .then (State.dueBank_moves ..) rfl <| .then (State.releaseWrites_moves ..) rfl <| .then (State.selfTest_moves ..) rfl <| .then (State.setDp_moves ..)
    rfl <| .then (State.setDp_moves ..) rfl hu1

theorem State.showStage_moves (s : State) : Moves 0x8000 s (State.showStage s) := by
  unfold State.showStage
  exact .boot _ rfl <| .refl ..

theorem State.bringupFailed_moves (s : State) (n : Nat) (step : Nat) (code : Nat) : Moves 0x141CE3C s (State.bringupFailed s n step code) := by
  unfold State.bringupFailed
  extract_lets +onlyGivenNames -merge u0
  refine .ite ?_ ?_
  · extract_lets +onlyGivenNames -merge u1
    have hu1 : Moves 0x141CE3C s u1 := .then (State.bankFails_moves ..) rfl <| .refl ..
    clear_value u1
    exact .ite (.then (State.haltBoot_moves ..) rfl hu1) (.ite (.then (State.bootDone_moves ..) rfl hu1) (.then (State.showStage_moves ..) rfl hu1))
  · exact .ite (.then (State.showStage_moves ..) rfl <| .then (State.startBringup_moves ..) rfl <| .then (State.setBank_moves ..) rfl <| .refl ..) (.then
      (State.haltBoot_moves ..) rfl <| .refl ..)

theorem State.bringupNext_moves (s : State) (n : Nat) (step : Nat) : Moves 0x8400 s (State.bringupNext s n step) := by
  unfold State.bringupNext
  exact .then (State.showStage_moves ..) rfl <| .then (State.setBank_moves ..) rfl <| .refl ..

theorem State.askIdentity_moves (s : State) (n : Nat) : Moves 0x408 s (State.askIdentity s n) := by
  unfold State.askIdentity
  exact .then (State.sendCtl_moves ..) rfl <| .refl ..

theorem State.identified_moves (s : State) (n : Nat) (r : FuseRecord) : Moves 0x1EF7F3C s (State.identified s n r) := by
  unfold State.identified
  extract_lets +onlyGivenNames -merge u0 u1 u2
  split
  · exact .then (State.setBank_moves ..) rfl <| .refl ..
  · extract_lets +onlyGivenNames -merge u8
    have hu8 : Moves 0x1EF7F3C s u8 := .then (State.setBank_moves ..) rfl <| .refl ..
    clear_value u8
    exact .ite hu8 (.then (State.packageFault_moves ..) rfl <| .then (State.alert_moves ..) rfl <| .then (State.event_moves ..) rfl hu8)

theorem State.bankTrains_moves (s : State) (n : Nat) (w : WireTest) (fuse : Option FuseRecord) (queued : Bool) : MovesO 0x3EF7F3C s (State.bankTrains s n w
  fuse queued) := by
  unfold State.bankTrains
  split
  · rename_i x0 x1 x2 x3 x4
    exact .ite (.some <| .then (State.identified_moves ..) rfl <| .then (State.askIdentity_moves ..) rfl <| .then (State.setBank_moves ..) rfl <| MovesO.of
      (.then (State.trainBridge_moves _ _ _ _) rfl <| .refl ..) x4) .none
  · exact .none

theorem State.startBanks_moves (s : State) : Moves 0x18424 s (State.startBanks s) := by
  unfold State.startBanks
  extract_lets +onlyGivenNames -merge u0
  have hu0 : Moves 0x18424 s u0 := .foldl _ (.refl ..) fun _ _ hx1 => .ite hx1 (.then (State.startBringup_moves ..) rfl hx1)
  clear_value u0
  refine .ite ?_ ?_
  · split
    rename_i x3 x4 x5 x6
    exact .then (State.haltBoot_moves ..) rfl <| MovesP.of (.then (State.takeFree_moves ..) rfl hu0) x6
  · exact hu0

theorem execBootStageDone_moves (code : Nat) (flash : FlashLoad) (badCores : List Nat) (badSlices : List Nat) (s : State) : MovesR 0x273CD3C s (execBootStageDone
  code flash badCores badSlices s) := by
  unfold execBootStageDone
  refine .ite (.next <| .refl ..) ?_
  refine .ite (.next <| .then (State.haltBoot_moves ..) rfl <| .refl ..) ?_
  refine .ite ?_ ?_
  · extract_lets +onlyGivenNames -merge u0
    have hu0 : Moves 0x273CD3C s u0 := .ite (.refl ..) (.then (State.placeRetained_moves ..) rfl <| .then (State.loadDefects_moves ..) rfl <| .refl ..)
    clear_value u0
    exact .next <| .boot _ rfl hu0
  · refine .ite ?_ ?_
    · refine .ite (.next <| .then (State.haltBoot_moves ..) rfl <| .refl ..) ?_
      extract_lets +onlyGivenNames -merge u1 u2
      have hu2 : Moves 0x273CD3C s u2 := .boot _ rfl <| .refl ..
      clear_value u2
      extract_lets +onlyGivenNames -merge u3
      have hu3 : Moves 0x273CD3C s u3 := .then (State.portsDetect_moves ..) rfl <| .then (State.zeroHub_moves ..) rfl <| .then (State.deriveHub_moves ..) rfl
        hu2
      clear_value u3
      exact .ite (.next <| .then (State.haltBoot_moves ..) rfl hu3) (.next <| .then (State.startBanks_moves ..) rfl hu3)
    · exact .next <| .refl ..

theorem State.bringupStep_moves (s : State) (n : Nat) (step : Nat) (wires : WireTest) (badRows : List (Nat × Nat × Nat)) (badEngines : List Nat) (badSfu : Bool) : Moves
  0x37BCF3C s (State.bringupStep s n step wires badRows badEngines badSfu) := by
  unfold State.bringupStep
  split
  · exact .then (State.bringupNext_moves ..) rfl <| .then (State.setBank_moves ..) rfl <| .refl ..
  · split
    · rename_i x2 x3 x4
      exact .then (State.askIdentity_moves ..) rfl <| .then (State.bringupNext_moves ..) rfl <| MovesO.of (.then (State.trainBridge_moves _ _ _ _) rfl <|
        .refl ..) x4
    · exact .then (State.bringupFailed_moves ..) rfl <| .then (State.wiresOut_moves ..) rfl <| .refl ..
  · exact .refl ..
  · exact .then (State.bringupNext_moves ..) rfl <| .then (State.setBank_moves ..) rfl <| .refl ..
  · exact .then (State.bringupNext_moves ..) rfl <| .then (State.queuedRows_moves ..) rfl <| .refl ..
  · extract_lets +onlyGivenNames -merge u11
    have hu11 : Moves 0x37BCF3C s u11 := .then (State.zeroPad_moves ..) rfl <| .then (State.zeroStacks_moves ..) rfl <| .refl ..
    clear_value u11
    extract_lets +onlyGivenNames -merge u12
    have hu12 : Moves 0x37BCF3C s u12 := .ite (.foldl _ hu11 fun _ _ hx13 => .then (State.rowFailed_moves ..) rfl hx13) hu11
    clear_value u12
    exact .then (State.bringupNext_moves ..) rfl hu12
  · extract_lets +onlyGivenNames -merge u22
    have hu22 : Moves 0x37BCF3C s u22 := .then (State.queuedRows_moves ..) rfl <| .refl ..
    clear_value u22
    extract_lets +onlyGivenNames -merge u23
    have hu23 : Moves 0x37BCF3C s u23 := .then (State.bankActive_moves ..) rfl hu22
    clear_value u23
    exact .ite (.then (State.bootDone_moves ..) rfl hu23) (.then (State.showStage_moves ..) rfl hu23)

theorem execBankBringupStepDone_moves (n : BankId) (code : Nat) (wires : WireTest) (badRows : List (Nat × Nat × Nat)) (badEngines : List Nat) (badSfu : Bool) (s :
  State) : MovesR 0x37BCF3E s (execBankBringupStepDone n code wires badRows badEngines badSfu s) := by
  unfold execBankBringupStepDone
  split
  · extract_lets +onlyGivenNames -merge u3
    have hu3 : Moves 0x37BCF3E s u3 := .ite (.then (State.reachClk_moves ..) rfl <| .refl ..) (.refl ..)
    clear_value u3
    exact .ite (.next hu3) (.ite (.next <| .then (State.bringupFailed_moves ..) rfl hu3) (.next <| .then (State.bringupStep_moves ..) rfl hu3))
  · exact .next <| .refl ..

theorem execBankDiscoveryResponse_moves (n : BankId) (r : FuseRecord) (s : State) : MovesR 0x1EFFF3C s (execBankDiscoveryResponse n r s) := by
  unfold execBankDiscoveryResponse
  split
  · exact .ite (.next <| .then (State.bringupFailed_moves ..) rfl <| .refl ..) (.next <| .then (State.bringupNext_moves ..) rfl <| .then
      (State.identified_moves ..) rfl <| .refl ..)
  · exact .next <| .refl ..

theorem State.takeDown_moves (s : State) (n : Nat) : Moves 0x400 s (State.takeDown s n) := by
  unfold State.takeDown
  extract_lets +onlyGivenNames -merge u0
  exact .ite (.refl ..) (.then (State.setBank_moves ..) rfl <| .refl ..)

theorem State.takeBanksDown_moves (s : State) : Moves 0x400 s (State.takeBanksDown s) := by
  unfold State.takeBanksDown
  exact .foldl _ (.refl ..) fun _ _ hx0 => .then (State.takeDown_moves ..) rfl hx0

theorem State.goDown_moves (s : State) : Moves 0x400 s (State.goDown s) := by
  unfold State.goDown
  exact .ite (.then (State.takeBanksDown_moves ..) rfl <| .refl ..) (.refl ..)

theorem State.badFrame_moves (s : State) (n : Nat) (toBank : Bool) : Moves 0x420 s (State.badFrame s n toBank) := by
  unfold State.badFrame
  extract_lets +onlyGivenNames -merge u0
  have hu0 : Moves 0x420 s u0 := .then (State.bump_moves ..) rfl <| .refl ..
  clear_value u0
  extract_lets +onlyGivenNames -merge u1 u2 u3
  have hu3 : Moves 0x420 s u3 := .then (State.setBank_moves ..) rfl hu0
  clear_value u3
  extract_lets +onlyGivenNames -merge u4
  exact .ite (.then (State.startRetrain_moves ..) rfl hu3) hu3

theorem State.nackFrame_moves (s : State) (n : Nat) (toBank : Bool) : Moves 0x428 s (State.nackFrame s n toBank) := by
  unfold State.nackFrame
  extract_lets +onlyGivenNames -merge u0 u1 u2 u3
  have hu3 : Moves 0x428 s u3 := .then (State.setBank_moves ..) rfl <| .refl ..
  clear_value u3
  extract_lets +onlyGivenNames -merge u4
  have hu4 : Moves 0x428 s u4 := .then (State.sendFrame_moves ..) rfl hu3
  clear_value u4
  exact .ite (.then (State.startRetrain_moves ..) rfl hu4) hu4

theorem execBridgeFrameRx_moves (n : BankId) (toBank : Bool) (frame : List Byte) (s : State) : MovesR 0x428 s (execBridgeFrameRx n toBank frame s) := by
  unfold execBridgeFrameRx
  extract_lets +onlyGivenNames -merge u0
  refine .ite (.next <| .refl ..) ?_
  refine .ite ?_ ?_
  · extract_lets +onlyGivenNames -merge u1
    have hu1 : Moves 0x428 s u1 := .then (State.frameReturns_moves ..) rfl <| .refl ..
    clear_value u1
    extract_lets +onlyGivenNames -merge u2
    have hu2 : Moves 0x428 s u2 := .ite (.then (State.takeFrame_moves ..) rfl hu1) hu1
    clear_value u2
    exact .next <| .ite (.then (State.startRetrain_moves ..) rfl hu2) (.then (State.goDown_moves ..) rfl <| .then (State.idleBridge_moves ..) rfl hu2)
  · exact .ite (.next <| .then (State.badFrame_moves ..) rfl <| .refl ..) (.next <| .then (State.badFrame_moves ..) rfl <| .then (State.nackFrame_moves ..)
      rfl <| .refl ..)

theorem execBridgeClockLoss_moves (n : BankId) (s : State) : MovesR 0x420 s (execBridgeClockLoss n s) := by
  unfold execBridgeClockLoss
  exact .next <| .then (State.startRetrain_moves ..) rfl <| .refl ..

theorem State.beginBankReset_moves (s : State) (n : Nat) (memFault : Bool) : Moves 0x400 s (State.beginBankReset s n memFault) := by
  unfold State.beginBankReset
  exact .then (State.setBank_moves ..) rfl <| .refl ..

theorem State.loseBank_moves (s : State) (n : Nat) (memory : Bool) : Moves 0x1EF7D3C s (State.loseBank s n memory) := by
  unfold State.loseBank
  extract_lets +onlyGivenNames -merge u0
  have hu0 : Moves 0x1EF7D3C s u0 := .then (State.setDp_moves ..) rfl <| .refl ..
  clear_value u0
  extract_lets +onlyGivenNames -merge u1 u2
  have hu2 : Moves 0x1EF7D3C s u2 := by
    unfold u2
    refine .foldl _ hu0 fun x3 _ hx3 => ?_
    split
    · exact .then (State.contextFault_moves ..) rfl hx3
    · exact hx3
  clear_value u2
  extract_lets +onlyGivenNames -merge u10 u11
  have hu11 : Moves 0x1EF7D3C s u11 := .then (State.setBank_moves ..) rfl hu2
  clear_value u11
  exact .then (State.schedule_moves ..) rfl <| .then (State.hubEvent_moves ..) rfl <| .then (State.bracketBank_moves ..) rfl <| .then
    (State.beginBankReset_moves ..) rfl hu11

theorem State.judgeReset_moves (s : State) (n : Nat) (who : Reader) : Moves 0x420 s (State.judgeReset s n who) := by
  unfold State.judgeReset
  exact .ite (.then (State.beginBankReset_moves ..) rfl <| .refl ..) (.then (State.locked_moves ..) rfl <| .refl ..)

theorem State.judgeWaiting_moves (s : State) (n : Nat) : Moves 0x420 s (State.judgeWaiting s n) := by
  unfold State.judgeWaiting
  exact .ite (.then (State.judgeReset_moves ..) rfl <| .then (State.setBank_moves ..) rfl <| .refl ..) (.refl ..)

theorem State.bridgeBack_moves (s : State) (n : Nat) : Moves 0x20508 s (State.bridgeBack s n) := by
  unfold State.bridgeBack
  extract_lets +onlyGivenNames -merge u0 u1
  have hu1 : Moves 0x20508 s u1 := .then (State.setBank_moves ..) rfl <| .refl ..
  clear_value u1
  extract_lets +onlyGivenNames -merge u2
  have hu2 : Moves 0x20508 s u2 := .then (State.pumpBridge_moves ..) rfl <| .then (State.replayBridge_moves ..) rfl <| .then (State.pumpBridge_moves ..) rfl
    <| .then (State.replayBridge_moves ..) rfl hu1
  clear_value u2
  exact .then (State.releaseWrites_moves ..) rfl hu2

theorem execBankTimeMsgRx_moves (n : BankId) (crcOk : Bool) (day : Nat) (minute : Nat) (strobeOk : Bool) (posOk : Bool) (s : State) : MovesR 0x14C3C s
  (execBankTimeMsgRx n crcOk day minute strobeOk posOk s) := by
  unfold execBankTimeMsgRx
  extract_lets +onlyGivenNames -merge u0 u1 u2 u3 u4 u5
  have hu5 : Moves 0x14C3C s u5 := .then (State.setBank_moves ..) rfl <| .refl ..
  clear_value u5
  exact .next <| .ite (.then (State.hubEvent_moves ..) rfl hu5) hu5

theorem execBankDieLost_moves (n : BankId) (memory : Bool) (pll : Bool) (s : State) : MovesR 0x1EF7D3C s (execBankDieLost n memory pll s) := by
  unfold execBankDieLost
  refine .ite ?_ ?_
  · extract_lets +onlyGivenNames -merge u0 u1
    have hu1 : Moves 0x1EF7D3C s u1 := .ite (.then (State.setBank_moves ..) rfl <| .refl ..) (.refl ..)
    clear_value u1
    exact .next <| .then (State.judgeWaiting_moves ..) rfl <| .then (State.loseBank_moves ..) rfl hu1
  · exact .next <| .refl ..

theorem State.writeBankCmd_moves (n : Nat) (v : Word) (who : Reader) (s : State) : Moves 0x420 s (State.writeBankCmd n v who s) := by
  unfold State.writeBankCmd
  extract_lets +onlyGivenNames -merge u0
  split
  · exact .ite (.then (State.setBank_moves ..) rfl <| .refl ..) (.then (State.judgeReset_moves ..) rfl <| .refl ..)
  · exact .ite (.then (State.beginBankReset_moves ..) rfl <| .then (State.setBank_moves ..) rfl <| .refl ..) (.refl ..)
  · exact .refl ..

theorem execBankResetCmd_moves (n : BankId) (s : State) : MovesR 0x4E0 s (execBankResetCmd n s) := by
  unfold execBankResetCmd
  exact .next <| State.onWrite_moves rfl (.refl ..) (fun x0 hx1 => .then (State.writeBankCmd_moves ..) rfl hx1)

theorem execBankRetryCmd_moves (n : BankId) (s : State) : MovesR 0x4E0 s (execBankRetryCmd n s) := by
  unfold execBankRetryCmd
  exact .next <| State.onWrite_moves rfl (.refl ..) (fun x0 hx1 => .then (State.writeBankCmd_moves ..) rfl hx1)

theorem State.loseReference_moves (s : State) (detail : Nat) : Moves 0x1EFFF3C s (State.loseReference s detail) := by
  unfold State.loseReference
  extract_lets +onlyGivenNames -merge u0 u1
  have hu1 : Moves 0x1EFFF3C s u1 := .boot _ rfl <| .refl ..
  clear_value u1
  extract_lets +onlyGivenNames -merge u2
  have hu2 : Moves 0x1EFFF3C s u2 := .foldl _ hu1 fun _ _ hx3 => .then (State.setBank_moves ..) rfl hx3
  clear_value u2
  extract_lets +onlyGivenNames -merge u5 u6
  have hu6 : Moves 0x1EFFF3C s u6 := .then (State.setDayState_moves ..) rfl <| .then (State.setDay_moves ..) rfl hu2
  clear_value u6
  extract_lets +onlyGivenNames -merge u7 u8
  have hu8 : Moves 0x1EFFF3C s u8 := .then (State.refreshValid_moves ..) rfl <| .then (State.setDay_moves ..) rfl hu6
  clear_value u8
  exact .then (State.packageFault_moves ..) rfl <| .then (State.alert_moves ..) rfl <| .then (State.event_moves ..) rfl hu8

theorem execRefclkLoss_moves (s : State) : MovesR 0x1EFFF3C s (execRefclkLoss s) := by
  unfold execRefclkLoss
  exact .next <| .then (State.loseReference_moves ..) rfl <| .refl ..

/-! ### Machine/Ingest.lean -/

theorem State.bindFault_moves (s : State) (k : Nat) (c : Nat) (f : XFault) : Moves 0x1EF7D3C s (State.bindFault s k c f) := by
  unfold State.bindFault
  exact .ite (.then (State.lacks_moves ..) rfl <| .refl ..) (.ite (.refl ..) (.then (State.schedule_moves ..) rfl <| .then (State.setBound_moves ..) rfl <|
    .then (State.contextFault_moves ..) rfl <| .then (State.ingFlag_moves ..) rfl <| .then (State.noteXFault_moves ..) rfl <| .refl ..))

theorem State.admitFrame_moves (s : State) (k : Nat) (b : Binding) (h : List Byte) (age : Nat) : Moves 0x40004 s (State.admitFrame s k b h age) := by
  unfold State.admitFrame
  extract_lets +onlyGivenNames -merge u0
  split
  split
  rename_i x6 x7 x8 x9
  extract_lets +onlyGivenNames -merge u10
  split
  extract_lets +onlyGivenNames -merge u15
  exact .then (State.setIng_moves ..) rfl <| .then (State.setBound_moves ..) rfl <| MovesP.of (.then (State.takeFree_moves ..) rfl <| .refl ..) x9

theorem State.judge_moves (s : State) (h : List Byte) (age : Nat) : Moves 0x1EF7D3C s (State.judge s h age) := by
  unfold State.judge
  extract_lets +onlyGivenNames -merge u0
  refine .ite (.then (State.ingFlag_moves ..) rfl <| .then (State.ingCount_moves ..) rfl <| .refl ..) ?_
  split
  · exact .then (State.ingCount_moves ..) rfl <| .refl ..
  · refine .ite (.then (State.ingFlag_moves ..) rfl <| .then (State.ingCount_moves ..) rfl <| .refl ..) ?_
    split
    · exact .then (State.bindFault_moves ..) rfl <| .refl ..
    · refine .ite ?_ ?_
      · extract_lets +onlyGivenNames -merge u12
        exact .then (State.ingFlag_moves ..) rfl <| .then (State.ingCount_moves ..) rfl <| .then (State.setBound_moves ..) rfl <| .refl ..
      · exact .ite (.then (State.ingFlag_moves ..) rfl <| .then (State.ingCount_moves ..) rfl <| .refl ..) (.then (State.admitFrame_moves ..) rfl <| .refl ..)

theorem State.headerOf_moves {m : Nat} {o : State} {s : State} {h : List Byte} {f : State → Result} (em : m ||| 0x410838 = m) (h0 : Moves m o s) (hf : ∀ y0,
  Moves m o y0 → MovesR m o (f y0)) : MovesR m o (State.headerOf s h f) := by
  unfold State.headerOf
  split
  · exact State.remotely_moves (within rfl em) h0 (fun x3 hx4 => hf _ hx4)
  · exact hf _ h0

theorem execIngestLaneUp_moves (lane : Fin 4) (s : State) : MovesR 0x4083C s (execIngestLaneUp lane s) := by
  unfold execIngestLaneUp
  exact .ite (.next <| .then (State.tryHunt_moves ..) rfl <| .then (State.setIng_moves ..) rfl <| .refl ..) (.next <| .refl ..)

theorem execAlignmentMarkerRx_moves (lane : Fin 4) (s : State) : MovesR 0x4083C s (execAlignmentMarkerRx lane s) := by
  unfold execAlignmentMarkerRx
  exact .ite (.next <| .then (State.tryHunt_moves ..) rfl <| .then (State.setIng_moves ..) rfl <| .refl ..) (.next <| .refl ..)

theorem execIngestCandidate_moves (pos : Nat) (hdr : List Byte) (s : State) : MovesR 0x4083C s (execIngestCandidate pos hdr s) := by
  unfold execIngestCandidate
  refine .ite ?_ ?_
  · extract_lets +onlyGivenNames -merge u0 u1
    have hu1 : Moves 0x4083C s u1 := .then (State.setIng_moves ..) rfl <| .refl ..
    clear_value u1
    exact .ite (.next hu1) (.ite (.next <| .then (State.ingCount_moves ..) rfl hu1) (.next <| .then (State.setAlign_moves ..) rfl <| .then
      (State.setIng_moves ..) rfl hu1))
  · exact .next <| .refl ..

theorem State.enterLock_moves (s : State) (pos : Nat) (hdr : List Byte) (age : Nat) : Moves 0x1EF7D3C s (State.enterLock s pos hdr age) := by
  unfold State.enterLock
  extract_lets +onlyGivenNames -merge u0 u1
  have hu1 : Moves 0x1EF7D3C s u1 := .then (State.setIng_moves ..) rfl <| .refl ..
  clear_value u1
  exact .then (State.endUnbinds_moves ..) rfl <| .then (State.judge_moves ..) rfl <| .then (State.ingCount_moves ..) rfl <| .then (State.setAlign_moves ..)
    rfl hu1

theorem verifyHeader_moves (pos : Nat) (hdr : List Byte) (age : Nat) (s : State) : MovesR 0x1EF7D3C s (verifyHeader pos hdr age s) := by
  unfold verifyHeader
  refine .ite (.next <| .refl ..) ?_
  split
  · exact .next <| .refl ..
  · extract_lets +onlyGivenNames -merge u6 u7
    refine .ite ?_ ?_
    · refine .ite (.next <| .then (State.enterLock_moves ..) rfl <| .refl ..) ?_
      extract_lets +onlyGivenNames -merge u8
      exact .next <| .then (State.setIng_moves ..) rfl <| .refl ..
    · extract_lets +onlyGivenNames -merge u9 u10
      have hu10 : Moves 0x1EF7D3C s u10 := .then (State.ingCount_moves ..) rfl <| .then (State.setIng_moves ..) rfl <| .refl ..
      clear_value u10
      exact .ite (.next <| .then (State.resync_moves ..) rfl hu10) (.next hu10)

theorem execIngestVerifyHeader_moves (pos : Nat) (hdr : List Byte) (age : Nat) (s : State) : MovesR 0x1EF7D3C s (execIngestVerifyHeader pos hdr age s) := by
  unfold execIngestVerifyHeader
  exact State.headerOf_moves rfl (.refl ..) (fun x0 hx1 => .then (verifyHeader_moves _ _ _ _) rfl hx1)

theorem State.missHeader_moves (s : State) : Moves 0x104183C s (State.missHeader s) := by
  unfold State.missHeader
  extract_lets +onlyGivenNames -merge u0
  have hu0 : Moves 0x104183C s u0 := .then (State.ingCount_moves ..) rfl <| .refl ..
  clear_value u0
  exact .ite (.then (State.resync_moves ..) rfl <| .then (State.ingFlag_moves ..) rfl <| .then (State.setIng_moves ..) rfl hu0) (.then (State.setIng_moves
    ..) rfl hu0)

theorem lockHeader_moves (hdr : List Byte) (age : Nat) (s : State) : MovesR 0x1EF7D3C s (lockHeader hdr age s) := by
  unfold lockHeader
  refine .ite (.next <| .refl ..) ?_
  refine .ite (.next <| .then (State.missHeader_moves ..) rfl <| .ite (.refl ..) (.then (State.ingCount_moves ..) rfl <| .refl ..)) ?_
  refine .ite (.next <| .then (State.missHeader_moves ..) rfl <| .then (State.judge_moves ..) rfl <| .refl ..) ?_
  extract_lets +onlyGivenNames -merge u0
  exact .next <| .then (State.judge_moves ..) rfl <| .then (State.setIng_moves ..) rfl <| .refl ..

theorem execIngestLockHeader_moves (hdr : List Byte) (age : Nat) (s : State) : MovesR 0x1EF7D3C s (execIngestLockHeader hdr age s) := by
  unfold execIngestLockHeader
  exact State.headerOf_moves rfl (.refl ..) (fun x0 hx1 => .then (lockHeader_moves _ _ _) rfl hx1)

theorem State.vwrites_moves (s : State) (c : Nat) (l : List (Nat × List Byte)) (ing : Bool) : MovesF 0x430D3C s (State.vwrites s c l ing) := by
  induction l generalizing s c ing with
  | nil =>
    unfold State.vwrites
    exact .mk <| .refl ..
  | cons a0 l0 ih =>
    unfold State.vwrites
    split
    · rename_i x0 x1 x2
      exact .then (ih _ _ _) rfl <| MovesF.of (.then (State.vwrite_moves _ _ _ _ _ _ _) rfl <| .refl ..) x2
    · rename_i x3 x4 x5 x6
      exact .mk <| MovesF.of (.then (State.vwrite_moves _ _ _ _ _ _ _) rfl <| .refl ..) x6

theorem State.endFrame_moves (s : State) (f : FrameIn) (payload : List Byte) (crcRx : Nat) (broken : Bool) : Moves 0x1EF7D3C s (State.endFrame s f payload
  crcRx broken) := by
  unfold State.endFrame
  split
  · exact .then (State.setIng_moves ..) rfl <| .refl ..
  · rename_i x2 x3 x4
    extract_lets +onlyGivenNames -merge u5 u6 u7 u8 u9 u10 u11 u12 u13 u14 u15
    have hu15 : Moves 0x1EF7D3C s u15 := .refl ..
    clear_value u15
    extract_lets +onlyGivenNames -merge u16
    have hu16 : Moves 0x1EF7D3C s u16 := .ite (.then (State.ingCount_moves ..) rfl <| .refl ..) (.refl ..)
    clear_value u16
    extract_lets +onlyGivenNames -merge u17
    have hu17 : Moves 0x1EF7D3C s u17 := .ite (.then (State.ingCount_moves ..) rfl hu16) hu16
    clear_value u17
    extract_lets +onlyGivenNames -merge u18
    have hu18 : Moves 0x1EF7D3C s u18 := .ite (.then (State.ingCount_moves ..) rfl hu17) hu17
    clear_value u18
    split
    · rename_i x19 x20 x21 x22
      exact .then (State.bindFault_moves ..) rfl <| MovesF.of (.then (State.vwrites_moves _ _ _ _) rfl hu18) x22
    · rename_i x23 x24 x25
      refine .ite (.then (State.abandonFrame_moves ..) rfl hu15) ?_
      extract_lets +onlyGivenNames -merge u26
      have hu26 : Moves 0x1EF7D3C s u26 := .then (State.setBound_moves ..) rfl <| MovesF.of (.then (State.vwrites_moves _ _ _ _) rfl hu18) x25
      clear_value u26
      exact .then (State.setIng_moves ..) rfl hu26

theorem execIngestFrameEnd_moves (payload : List Byte) (crc : BitVec 32) (s : State) : MovesR 0x1EF7D3C s (execIngestFrameEnd payload crc s) := by
  unfold execIngestFrameEnd
  split
  · exact .next <| .refl ..
  · exact .next <| .then (State.endFrame_moves ..) rfl <| .refl ..

theorem execIngestLaneLost_moves (lane : Fin 4) (got : List Byte) (s : State) : MovesR 0x1EF7D3C s (execIngestLaneLost lane got s) := by
  unfold execIngestLaneLost
  refine .ite ?_ ?_
  · extract_lets +onlyGivenNames -merge u0
    have hu0 : Moves 0x1EF7D3C s u0 := .then (State.ingFlag_moves ..) rfl <| .refl ..
    clear_value u0
    extract_lets +onlyGivenNames -merge u1
    have hu1 : Moves 0x1EF7D3C s u1 := by
      unfold u1
      split
      · split
        rename_i x5 x6 x7 x8
        exact .then (State.endFrame_moves ..) rfl <| MovesP.of (.then (State.takeFree_moves ..) rfl hu0) x8
      · exact hu0
    clear_value u1
    extract_lets +onlyGivenNames -merge u11
    exact .next <| .then (State.endUnbinds_moves ..) rfl <| .then (State.setAlign_moves ..) rfl <| .then (State.firstAgain_moves ..) rfl <| .then
      (State.setIng_moves ..) rfl hu1
  · exact .next <| .refl ..

theorem execIngestPublish_moves (stream : Fin 16) (s : State) : MovesR 0x3EF7D3C s (execIngestPublish stream s) := by
  unfold execIngestPublish
  extract_lets +onlyGivenNames -merge u0 u1
  have hu1 : Moves 0x3EF7D3C s u1 := .refl ..
  clear_value u1
  refine .ite ?_ ?_
  · extract_lets +onlyGivenNames -merge u2 u3
    have hu3 : Moves 0x3EF7D3C s u3 := .then (State.setIng_moves ..) rfl <| .refl ..
    clear_value u3
    split
    · exact .next hu3
    · refine .ite (.next hu1) ?_
      split
      · rename_i x9 x10 x11 x12
        exact .next <| .then (State.bindFault_moves ..) rfl <| MovesF.of (.then (State.vwrite_moves _ _ _ _ _ _ _) rfl hu3) x12
      · rename_i x13 x14 x15
        exact .next <| .then (State.beginExit_moves ..) rfl <| .then (State.endUnbind_moves ..) rfl <| .then (State.ingCount_moves ..) rfl <| .then
          (State.setBound_moves ..) rfl <| MovesF.of (.then (State.vwrite_moves _ _ _ _ _ _ _) rfl hu3) x15
  · exact .next <| .refl ..

theorem execIngestBufferFull_moves (got : Nat) (s : State) : MovesR 0x104183C s (execIngestBufferFull got s) := by
  unfold execIngestBufferFull
  split
  · exact .next <| .ite (.then (State.endUnbinds_moves ..) rfl <| .then (State.abandonFrame_moves ..) rfl <| .refl ..) (.refl ..)
  · exact .next <| .refl ..

theorem State.ingCmd_moves (v : Word) (s : State) : Moves 0x104183C s (State.ingCmd v s) := by
  unfold State.ingCmd
  exact .ite (.then (State.resync_moves ..) rfl <| .refl ..) (.refl ..)

theorem execIngestResyncCmd_moves (s : State) : MovesR 0x10418FC s (execIngestResyncCmd s) := by
  unfold execIngestResyncCmd
  exact .next <| State.onWrite_moves rfl (.refl ..) (fun x0 hx1 => .then (State.ingCmd_moves ..) rfl hx1)

theorem State.writePortCfg_moves (v : Word) (who : Reader) (s : State) : Moves 0x104183C s (State.writePortCfg v who s) := by
  unfold State.writePortCfg
  extract_lets +onlyGivenNames -merge u0 u1
  refine .ite (.then (State.locked_moves ..) rfl <| .refl ..) ?_
  extract_lets +onlyGivenNames -merge u2
  have hu2 : Moves 0x104183C s u2 := .then (State.setReg_moves ..) rfl <| .refl ..
  clear_value u2
  exact .ite (.then (State.portDown_moves ..) rfl hu2) (.then (State.tryHunt_moves ..) rfl hu2)

theorem execIngestBind_moves (c : CtxId) (s : State) : MovesR 0x105583C s (execIngestBind c s) := by
  unfold execIngestBind
  split
  · rename_i x0 x1 x2
    exact .next <| MovesT.ofNo (.then (State.begin_moves ..) rfl <| .refl ..) x2
  · rename_i x3 x4 x5 x6
    extract_lets +onlyGivenNames -merge u7
    exact .next <| .then (State.finishOk_moves ..) rfl <| .then (State.setBound_moves ..) rfl <| MovesT.ofGo (.then (State.begin_moves ..) rfl <| .refl ..) x6

theorem execIngestUnbind_moves (c : CtxId) (s : State) : MovesR 0x105583C s (execIngestUnbind c s) := by
  unfold execIngestUnbind
  split
  · rename_i x0 x1 x2
    exact .next <| MovesT.ofNo (.then (State.begin_moves ..) rfl <| .refl ..) x2
  · rename_i x3 x4 x5 x6
    split
    · exact .next <| .then (State.endUnbind_moves ..) rfl <| .then (State.setBound_moves ..) rfl <| MovesT.ofGo (.then (State.begin_moves ..) rfl <| .refl
        ..) x6
    · exact .next <| MovesT.ofGo (.then (State.begin_moves ..) rfl <| .refl ..) x6

theorem keepMapStart_moves (c : CtxId) (s : State) : MovesR 0x1EF7D3C s (keepMapStart c s) := by
  unfold keepMapStart
  split
  · rename_i x0 x1 x2
    exact .next <| MovesT.ofNo (.then (State.begin_moves ..) rfl <| .refl ..) x2
  · rename_i x3 x4 x5 x6
    extract_lets +onlyGivenNames -merge u7 u8 u9
    split
    · exact .next <| .then (State.stopDesc_moves ..) rfl <| MovesT.ofGo (.then (State.begin_moves ..) rfl <| .refl ..) x6
    · split
      · exact .next <| MovesT.ofGo (.then (State.begin_moves ..) rfl <| .refl ..) x6
      · extract_lets +onlyGivenNames -merge u21 u22
        exact .ite (.next <| .then (State.finish_moves ..) rfl <| MovesT.ofGo (.then (State.begin_moves ..) rfl <| .refl ..) x6) (.next <| .then
          (State.finishOk_moves ..) rfl <| .then (State.setBound_moves ..) rfl <| MovesT.ofGo (.then (State.begin_moves ..) rfl <| .refl ..) x6)

theorem execKeepMap_moves (c : CtxId) (s : State) : MovesR 0x1EF7D3C s (execKeepMap c s) := by
  unfold execKeepMap
  exact State.starting_moves rfl (.refl ..) (fun x0 hx1 => .then (keepMapStart_moves _ _) rfl hx1)

/-! ### Machine/Route.lean -/

theorem State.setOut_moves (s : State) (c : Nat) (idx : Nat) (base : Nat) : Moves 0x1000 s (State.setOut s c idx base) := by
  unfold State.setOut
  split
  · exact .then (State.setDesc_moves ..) rfl <| .refl ..
  · exact .refl ..

theorem State.noteOut_moves (s : State) (c : Nat) (d : Desc) : Moves 0x1000 s (State.noteOut s c d) := by
  unfold State.noteOut
  split
  · exact .then (State.setOut_moves ..) rfl <| .refl ..
  · exact .refl ..

theorem layerStart_moves (c : CtxId) (s : State) : MovesR 0x1EF7D3C s (layerStart c s) := by
  unfold layerStart
  split
  · rename_i x0 x1 x2
    exact .next <| MovesT.ofNo (.then (State.begin_moves ..) rfl <| .refl ..) x2
  · rename_i x3 x4 x5 x6
    extract_lets +onlyGivenNames -merge u7 u8 u9 u10 u11 u12
    split
    · exact .next <| .then (State.setOut_moves ..) rfl <| .then (State.addJob_moves ..) rfl <| MovesT.ofGo (.then (State.begin_moves ..) rfl <| .refl ..) x6
    · exact .next <| .then (State.stopDesc_moves ..) rfl <| .then (State.noteOut_moves ..) rfl <| MovesT.ofGo (.then (State.begin_moves ..) rfl <| .refl ..)
        x6
    · exact .next <| MovesT.ofGo (.then (State.begin_moves ..) rfl <| .refl ..) x6

theorem execLayer_moves (c : CtxId) (s : State) : MovesR 0x1EF7D3C s (execLayer c s) := by
  unfold execLayer
  exact State.starting_moves rfl (.refl ..) (fun x0 hx1 => .then (layerStart_moves _ _) rfl hx1)

theorem layerSkipStart_moves (c : CtxId) (s : State) : MovesR 0x1EF7D3C s (layerSkipStart c s) := by
  unfold layerSkipStart
  split
  · rename_i x0 x1 x2
    exact .next <| MovesT.ofNo (.then (State.begin_moves ..) rfl <| .refl ..) x2
  · rename_i x3 x4 x5 x6
    extract_lets +onlyGivenNames -merge u7
    split
    · extract_lets +onlyGivenNames -merge u14 u15 u16
      have hu16 : Moves 0x1EF7D3C s u16 := .then (State.setOut_moves ..) rfl <| .then (State.addJob_moves ..) rfl <| MovesT.ofGo (.then (State.begin_moves
        ..) rfl <| .refl ..) x6
      clear_value u16
      exact .next <| .then (State.setWork_moves ..) rfl hu16
    · exact .next <| .then (State.stopDesc_moves ..) rfl <| .then (State.noteOut_moves ..) rfl <| MovesT.ofGo (.then (State.begin_moves ..) rfl <| .refl ..)
        x6
    · exact .next <| MovesT.ofGo (.then (State.begin_moves ..) rfl <| .refl ..) x6

theorem execLayerSkip_moves (c : CtxId) (s : State) : MovesR 0x1EF7D3C s (execLayerSkip c s) := by
  unfold execLayerSkip
  exact State.starting_moves rfl (.refl ..) (fun x0 hx1 => .then (layerSkipStart_moves _ _) rfl hx1)

theorem State.rteCount_moves (s : State) (k : Nat) (n : Nat) : Moves 0x20 s (State.rteCount s k n) := by
  unfold State.rteCount
  exact .then (State.bump_moves ..) rfl <| .refl ..

theorem State.rteFlag_moves (s : State) (bit : Nat) : Moves 0x1083C s (State.rteFlag s bit) := by
  unfold State.rteFlag
  exact .then (State.flagOpen_moves ..) rfl <| .refl ..

theorem State.unqueueRoute_moves (s : State) (j : Job) : Moves 0x80000 s (State.unqueueRoute s j) := by
  unfold State.unqueueRoute
  exact .then (State.setWork_moves ..) rfl <| .refl ..

theorem State.routeFault_moves (s : State) (j : Job) (detail : Nat) : Moves 0x1EF7D3C s (State.routeFault s j detail) := by
  unfold State.routeFault
  exact .then (State.schedule_moves ..) rfl <| .then (State.contextFault_moves ..) rfl <| .then (State.unqueueRoute_moves ..) rfl <| .refl ..

theorem State.routeBatch_moves (s : State) (j : Job) (l : Layer) : Moves 0x1EF7D3C s (State.routeBatch s j l) := by
  unfold State.routeBatch
  refine .ite (.then (State.routeFault_moves ..) rfl <| .refl ..) ?_
  split
  · exact .then (State.schedule_moves ..) rfl <| .then (State.faultDesc_moves ..) rfl <| .then (State.unqueueRoute_moves ..) rfl <| .refl ..
  · extract_lets +onlyGivenNames -merge u7 u8
    have hu8 : Moves 0x1EF7D3C s u8 := .ite (.then (State.countLoad_moves ..) rfl <| .refl ..) (.refl ..)
    clear_value u8
    extract_lets +onlyGivenNames -merge u9 u10
    split
    · rename_i x11 x12 x13 x14
      exact .then (State.schedule_moves ..) rfl <| .then (State.faultDesc_moves ..) rfl <| .then (State.unqueueRoute_moves ..) rfl <| MovesF.of (.then
        (State.vwrites_moves _ _ _ _) rfl hu8) x14
    · rename_i x15 x16 x17
      extract_lets +onlyGivenNames -merge u18
      have hu18 : Moves 0x1EF7D3C s u18 := .then (State.rteCount_moves ..) rfl <| .then (State.rteCount_moves ..) rfl <| .then (State.rteCount_moves ..) rfl
        <| .then (State.rteCount_moves ..) rfl <| .then (State.rteCount_moves ..) rfl <| .then (State.rteCount_moves ..) rfl <| MovesF.of (.then
        (State.vwrites_moves _ _ _ _) rfl hu8) x17
      clear_value u18
      exact .then (State.schedule_moves ..) rfl <| .then (State.stageEnd_moves ..) rfl <| .then (State.setJob_moves ..) rfl <| .then
        (State.unqueueRoute_moves ..) rfl hu18

theorem routeStage_moves (s : State) : MovesR 0x1EF7D3C s (routeStage s) := by
  unfold routeStage
  refine .ite (.next <| .refl ..) ?_
  split
  · exact .next <| .refl ..
  · exact .ite (.next <| .then (State.routeFault_moves ..) rfl <| .refl ..) (.ite (.next <| .refl ..) (.next <| .then (State.routeBatch_moves ..) rfl <|
      .refl ..))

theorem execRouteStage_moves (s : State) : MovesR 0x1EF7D3C s (execRouteStage s) := by
  unfold execRouteStage
  split
  · exact State.remotely_moves rfl (.refl ..) (fun x4 hx5 => .then (routeStage_moves _) rfl hx5)
  · exact .next <| .refl ..

theorem execRouteParityError_moves (s : State) : MovesR 0x1EF7D3C s (execRouteParityError s) := by
  unfold execRouteParityError
  extract_lets +onlyGivenNames -merge u0 u1
  have hu1 : Moves 0x1EF7D3C s u1 := .then (State.setWork_moves ..) rfl <| .then (State.rteFlag_moves ..) rfl <| .refl ..
  clear_value u1
  split
  · exact .next hu1
  · exact .next <| .then (State.routeFault_moves ..) rfl <| .then (State.partLoad_moves ..) rfl hu1

theorem execRouteSelfTest_moves (ok : Bool) (s : State) : MovesR 0x9483C s (execRouteSelfTest ok s) := by
  unfold execRouteSelfTest
  refine .ite (.next <| .refl ..) ?_
  extract_lets +onlyGivenNames -merge u0 u1
  have hu1 : Moves 0x9483C s u1 := .then (State.setWork_moves ..) rfl <| .refl ..
  clear_value u1
  exact .next <| .ite hu1 (.then (State.setDp_moves ..) rfl hu1)

theorem execBiasTableUe_moves (k : Fin 16) (corrected : Bool) (s : State) : MovesR 0x1C1583C s (execBiasTableUe k corrected s) := by
  unfold execBiasTableUe
  refine .ite (.next <| .then (State.rteCount_moves ..) rfl <| .refl ..) ?_
  extract_lets +onlyGivenNames -merge u0 u1
  have hu1 : Moves 0x1C1583C s u1 := .then (State.rteFlag_moves ..) rfl <| .then (State.setFld_moves ..) rfl <| .refl ..
  clear_value u1
  split
  · exact .ite (.next <| .then (State.rollbackFor_moves ..) rfl hu1) (.next hu1)
  · exact .next hu1

theorem State.putBiases_moves (s : State) (k : Nat) (first : Nat) (z3 : List Nat) : Moves 0x20 s (State.putBiases s k first z3) := by
  induction z3 generalizing s k first with
  | nil =>
    unfold State.putBiases
    exact .refl ..
  | cons a0 l0 ih =>
    unfold State.putBiases
    exact .then (ih _ _ _) rfl <| .then (State.setReg_moves ..) rfl <| .refl ..

theorem State.clearLoads_moves (s : State) (k : Nat) (es : List Nat) : Moves 0x20 s (State.clearLoads s k es) := by
  unfold State.clearLoads
  exact .foldl _ (.refl ..) fun _ _ hx0 => .then (State.setReg_moves ..) rfl hx0

theorem State.useSet_moves {m : Nat} {o : State} {s : State} {c : Nat} {d : Desc} {k : Nat} {direct : State → State} {inShadow : ShadowSet → ShadowSet} {detail :
  ShadowSet → Nat} (em : m ||| 0x101583C = m) (h0 : Moves m o s) (hdirect : ∀ y0, Moves m o y0 → Moves m o (direct y0)) : Moves m o (State.useSet s c d k
  direct inShadow detail) := by
  unfold State.useSet
  extract_lets +onlyGivenNames -merge u0 u1
  refine .ite (.ite (.then (State.bracketFail_moves ..) (within rfl em) <| .then (State.bump_moves ..) (within rfl em) h0) (.then (State.staleUse_moves ..)
    (within rfl em) h0)) ?_
  refine .ite ?_ ?_
  · split
    · exact h0
    · extract_lets +onlyGivenNames -merge u7
      exact .ite (.then (State.bracketFail_moves ..) (within rfl em) h0) (.then (State.applied_moves ..) (within rfl em) <| .flt _ (within rfl em) rfl h0)
  · extract_lets +onlyGivenNames -merge u8
    exact .then (State.finishOk_moves ..) (within rfl em) <| hdirect _ h0

theorem biasWrite_moves (c : CtxId) (s : State) : MovesR 0x1EF7D3C s (biasWrite c s) := by
  unfold biasWrite
  split
  · rename_i x0 x1 x2
    exact .next <| MovesT.ofNo (.then (State.begin_moves ..) rfl <| .refl ..) x2
  · rename_i x3 x4 x5 x6
    extract_lets +onlyGivenNames -merge u7 u8 u9 u10 u11 u12 u13
    split
    · exact .next <| .then (State.stopDesc_moves ..) rfl <| MovesT.ofGo (.then (State.begin_moves ..) rfl <| .refl ..) x6
    · extract_lets +onlyGivenNames -merge u20
      refine .ite (.next <| .then (State.finishFail_moves ..) rfl <| MovesT.ofGo (.then (State.begin_moves ..) rfl <| .refl ..) x6) ?_
      refine .next ?_
      refine State.useSet_moves rfl (MovesT.ofGo (.then (State.begin_moves ..) rfl <| .refl ..) x6) (fun x21 hx22 => ?_)
      extract_lets +onlyGivenNames -merge u23
      have hu23 : Moves 0x1EF7D3C s u23 := .then (State.clearLoads_moves ..) rfl <| .then (State.putBiases_moves ..) rfl hx22
      clear_value u23
      exact .ite (.then (State.setFld_moves ..) rfl hu23) hu23

theorem execBiasWrite_moves (c : CtxId) (s : State) : MovesR 0x1EF7D3C s (execBiasWrite c s) := by
  unfold execBiasWrite
  exact State.starting_moves rfl (.refl ..) (fun x0 hx1 => .then (biasWrite_moves _ _) rfl hx1)

theorem execRouteVersion_moves (c : CtxId) (s : State) : MovesR 0x101583C s (execRouteVersion c s) := by
  unfold execRouteVersion
  split
  · rename_i x0 x1 x2
    exact .next <| MovesT.ofNo (.then (State.begin_moves ..) rfl <| .refl ..) x2
  · rename_i x3 x4 x5 x6
    extract_lets +onlyGivenNames -merge u7 u8
    exact .next <| State.useSet_moves rfl (MovesT.ofGo (.then (State.begin_moves ..) rfl <| .refl ..) x6) (fun x9 hx10 => .then (State.setReg_moves ..) rfl
      hx10)

theorem State.commitSet_moves (s : State) (x : ShadowSet) : Moves 0x20 s (State.commitSet s x) := by
  unfold State.commitSet
  extract_lets +onlyGivenNames -merge u0
  have hu0 : Moves 0x20 s u0 := .then (State.clearLoads_moves ..) rfl <| .then (State.putBiases_moves ..) rfl <| .refl ..
  clear_value u0
  extract_lets +onlyGivenNames -merge u1
  have hu1 : Moves 0x20 s u1 := .then (State.setReg_moves ..) rfl hu0
  clear_value u1
  exact .ite (.then (State.setFld_moves ..) rfl hu1) hu1

theorem State.eveningSet_moves (s : State) (k : Nat) : Moves 0x1083C s (State.eveningSet s k) := by
  unfold State.eveningSet
  extract_lets +onlyGivenNames -merge u0
  refine .ite (.then (State.rteFlag_moves ..) rfl <| .then (State.rteCount_moves ..) rfl <| .refl ..) ?_
  extract_lets +onlyGivenNames -merge u1 u2 u3 u4
  refine .ite (.refl ..) ?_
  extract_lets +onlyGivenNames -merge u5 u6 u7 u8
  exact .then (State.rteCount_moves ..) rfl <| .then (State.setReg_moves ..) rfl <| .then (State.clearLoads_moves ..) rfl <| .then (State.putBiases_moves ..)
    rfl <| .refl ..

theorem execEveningLoop_moves (k : Fin 16) (s : State) : MovesR 0x10A3C s (execEveningLoop k s) := by
  unfold execEveningLoop
  exact .ite (.next <| .then (State.fired_moves ..) rfl <| .then (State.eveningSet_moves ..) rfl <| .refl ..) (.next <| .refl ..)

theorem State.writeEveParam_moves (off : Nat) (v : Word) (s : State) : Moves 0x1083C s (State.writeEveParam off v s) := by
  unfold State.writeEveParam
  exact .ite (.then (State.rteFlag_moves ..) rfl <| .then (State.setReg_moves ..) rfl <| .refl ..) (.then (State.setReg_moves ..) rfl <| .refl ..)

theorem execRteEveParamWrite_moves (k : Fin 16) (limit : Bool) (v : Word) (s : State) : MovesR 0x108FC s (execRteEveParamWrite k limit v s) := by
  unfold execRteEveParamWrite
  extract_lets +onlyGivenNames -merge u0
  exact .next <| State.onWrite_moves rfl (.refl ..) (fun x1 hx2 => .then (State.writeEveParam_moves ..) rfl hx2)

/-! ### Machine/Handoff.lean -/

theorem State.endSend_moves (s : State) (w : SendWin) (code : Nat) (detail : Nat) (epoch : Nat) : Moves 0x1611838 s (State.endSend s w code detail epoch) := by
  unfold State.endSend
  exact .then (State.endDesc_moves ..) rfl <| .then (State.dropSend_moves ..) rfl <| .refl ..

theorem State.sendOffer_moves (s : State) (w : SendWin) : Moves 0x1611838 s (State.sendOffer s w) := by
  unfold State.sendOffer
  exact .ite (.then (State.endSend_moves ..) rfl <| .refl ..) (.then (State.sendMsg_moves ..) rfl <| .refl ..)

theorem State.sendDone_moves (s : State) (w : SendWin) : Moves 0x1611838 s (State.sendDone s w) := by
  unfold State.sendDone
  refine .ite ?_ ?_
  · split
    · extract_lets +onlyGivenNames -merge u3
      exact .then (State.finishOk_moves ..) rfl <| .then (State.dropSend_moves ..) rfl <| .refl ..
    · exact .then (State.dropSend_moves ..) rfl <| .refl ..
  · exact .refl ..

theorem State.sendStuck_moves (s : State) (w : SendWin) (f : XFault) : Moves 0x1EF7D3C s (State.sendStuck s w f) := by
  unfold State.sendStuck
  refine .ite ?_ ?_
  · extract_lets +onlyGivenNames -merge u0 u1
    have hu1 : Moves 0x1EF7D3C s u1 := .then (State.setLnk_moves ..) rfl <| .refl ..
    clear_value u1
    extract_lets +onlyGivenNames -merge u2
    have hu2 : Moves 0x1EF7D3C s u2 := .then (State.askRemote_moves ..) rfl hu1
    clear_value u2
    exact .then (State.setLnk_moves ..) rfl hu2
  · exact .then (State.faultDesc_moves ..) rfl <| .refl ..

theorem State.pumpSend_moves (s : State) (c : Nat) (idx : Nat) (z3 : Nat) : Moves 0x1EF7D3C s (State.pumpSend s c idx z3) := by
  induction z3 generalizing s c idx with
  | zero =>
    unfold State.pumpSend
    exact .refl ..
  | succ n0 ih =>
    unfold State.pumpSend
    split
    · exact .refl ..
    · extract_lets +onlyGivenNames -merge u5 u6
      have hu6 : Moves 0x1EF7D3C s u6 := .then (State.setLnk_moves ..) rfl <| .refl ..
      clear_value u6
      refine .ite (.refl ..) ?_
      refine .ite (.then (State.endSend_moves ..) rfl <| .refl ..) ?_
      refine .ite ?_ ?_
      · split
        · exact .then (State.sendStuck_moves ..) rfl <| .refl ..
        · exact .then (ih _ _ _) rfl <| .then (State.sendMsg_moves ..) rfl <| .then (State.setSend_moves ..) rfl <| .refl ..
      · refine .ite (.refl ..) ?_
        extract_lets +onlyGivenNames -merge u13
        split
        · exact .refl ..
        · split
          · exact .then (State.sendStuck_moves ..) rfl <| .refl ..
          · extract_lets +onlyGivenNames -merge u25 u26 u27
            have hu27 : Moves 0x1EF7D3C s u27 := .then (State.cmbCount_moves ..) rfl <| .then (State.setSend_moves ..) rfl <| .refl ..
            clear_value u27
            exact .then (ih _ _ _) rfl <| .then (State.sendMsg_moves ..) rfl hu27

theorem State.pumpSends_moves (s : State) (c : Nat) : Moves 0x1EF7D3C s (State.pumpSends s c) := by
  unfold State.pumpSends
  exact .foldl _ (.refl ..) fun _ _ hx0 => .then (State.pumpSend_moves ..) rfl hx0

theorem execCombineSlotRelease_moves (s : State) : MovesR 0x1EF7D3C s (execCombineSlotRelease s) := by
  unfold execCombineSlotRelease
  split
  · exact .next <| .then (State.pumpSends_moves ..) rfl <| .then (State.releaseSlot_moves ..) rfl <| .refl ..
  · exact .next <| .refl ..

theorem sendStart_moves (c : CtxId) (s : State) : MovesR 0x1EF7D3C s (sendStart c s) := by
  unfold sendStart
  split
  · rename_i x0 x1 x2
    exact .next <| MovesT.ofNo (.then (State.begin_moves ..) rfl <| .refl ..) x2
  · rename_i x3 x4 x5 x6
    split
    · exact .next <| .then (State.stopDesc_moves ..) rfl <| MovesT.ofGo (.then (State.begin_moves ..) rfl <| .refl ..) x6
    · extract_lets +onlyGivenNames -merge u13 u14 u15
      split
      · exact .next <| .then (State.finishFail_moves ..) rfl <| MovesT.ofGo (.then (State.begin_moves ..) rfl <| .refl ..) x6
      · refine .ite (.next <| .then (State.finishFail_moves ..) rfl <| MovesT.ofGo (.then (State.begin_moves ..) rfl <| .refl ..) x6) ?_
        extract_lets +onlyGivenNames -merge u22 u23
        exact .next <| .then (State.sendOffer_moves ..) rfl <| .then (State.setCmb_moves ..) rfl <| MovesT.ofGo (.then (State.begin_moves ..) rfl <| .refl
          ..) x6

theorem execHandoffSend_moves (c : CtxId) (s : State) : MovesR 0x1EF7D3C s (execHandoffSend c s) := by
  unfold execHandoffSend
  exact State.starting_moves rfl (.refl ..) (fun x0 hx1 => .then (sendStart_moves _ _) rfl hx1)

theorem execHandoffGrantRx_moves (from_ : Peer) (channel : Fin 256) (seq : Nat) (handle : Nat) (epoch : Nat) (credits : Nat) (refused : Bool) (s : State) : MovesR
  0x3EF7D3C s (execHandoffGrantRx from_ channel seq handle epoch credits refused s) := by
  unfold execHandoffGrantRx
  refine State.arrive_moves rfl (.refl ..) (fun x0 hx1 => ?_)
  split
  · exact .next hx1
  · extract_lets +onlyGivenNames -merge u7
    have hu7 : Moves 0x3EF7D3C s u7 := .then (State.closeKey_moves ..) rfl hx1
    clear_value u7
    refine .ite (.next <| .then (State.endSend_moves ..) rfl hu7) ?_
    extract_lets +onlyGivenNames -merge u8
    exact .next <| .then (State.pumpSend_moves ..) rfl <| .then (State.setSend_moves ..) rfl hu7

theorem execHandoffBusyRx_moves (from_ : Peer) (channel : Fin 256) (seq : Nat) (s : State) : MovesR 0x3610838 s (execHandoffBusyRx from_ channel seq s) := by
  unfold execHandoffBusyRx
  refine State.arrive_moves rfl (.refl ..) (fun x0 hx1 => ?_)
  split
  · exact .next hx1
  · exact .next <| .then (State.setSend_moves ..) rfl <| .then (State.closeKey_moves ..) rfl hx1

theorem execHandoffOfferRetry_moves (c : CtxId) (idx : Nat) (t : Nat) (s : State) : MovesR 0x161183A s (execHandoffOfferRetry c idx t s) := by
  unfold execHandoffOfferRetry
  extract_lets +onlyGivenNames -merge u0
  have hu0 : Moves 0x161183A s u0 := .then (State.reachClk_moves ..) rfl <| .refl ..
  clear_value u0
  split
  · exact .next hu0
  · split
    · exact .ite (.next <| .then (State.sendOffer_moves ..) rfl <| .then (State.setSend_moves ..) rfl hu0) (.next hu0)
    · exact .next hu0

theorem execHandoffAckRx_moves (from_ : Peer) (handle : Fin 64) (chunk : Nat) (credits : Nat) (s : State) : MovesR 0x3EF7D3C s (execHandoffAckRx from_ handle
  chunk credits s) := by
  unfold execHandoffAckRx
  refine State.arrive_moves rfl (.refl ..) (fun x0 hx1 => ?_)
  split
  · exact .next hx1
  · extract_lets +onlyGivenNames -merge u7 u8 u9 u10
    have hu10 : Moves 0x3EF7D3C s u10 := .ite (.then (State.chargeDesc_moves ..) rfl hx1) hx1
    clear_value u10
    extract_lets +onlyGivenNames -merge u11 u12
    have hu12 : Moves 0x3EF7D3C s u12 := .then (State.pumpSend_moves ..) rfl <| .then (State.setSend_moves ..) rfl <| .then (State.closeKey_moves ..) rfl hu10
    clear_value u12
    split
    · exact .next <| .then (State.sendDone_moves ..) rfl hu12
    · exact .next hu12

theorem execHandoffNackRx_moves (from_ : Peer) (handle : Fin 64) (chunk : Option Nat) (s : State) : MovesR 0x3EF7D3C s (execHandoffNackRx from_ handle chunk s)
  := by
  unfold execHandoffNackRx
  refine State.arrive_moves rfl (.refl ..) (fun x0 hx1 => ?_)
  split
  · exact .next hx1
  · split
    · exact .next <| .then (State.pumpSend_moves ..) rfl <| .then (State.setSend_moves ..) rfl hx1
    · extract_lets +onlyGivenNames -merge u10
      refine .ite (.next <| .then (State.schedule_moves ..) rfl <| .then (State.engineFault_moves ..) rfl hx1) ?_
      extract_lets +onlyGivenNames -merge u11
      exact .next <| .then (State.pumpSend_moves ..) rfl <| .then (State.setSend_moves ..) rfl <| .then (State.cmbFlag_moves ..) rfl hx1

theorem execHandoffStaleRx_moves (from_ : Peer) (handle : Fin 64) (epoch : Nat) (s : State) : MovesR 0x3611838 s (execHandoffStaleRx from_ handle epoch s) := by
  unfold execHandoffStaleRx
  refine State.arrive_moves rfl (.refl ..) (fun x0 hx1 => ?_)
  split
  · exact .next hx1
  · exact .next <| .then (State.endSend_moves ..) rfl hx1

theorem State.answer_moves (s : State) (p : Peer) (kind : MsgKind) (args : List Nat) : Moves 0x410838 s (State.answer s p kind args) := by
  unfold State.answer
  exact .then (State.sendMsg_moves ..) rfl <| .refl ..

theorem State.grant_moves (s : State) (h : Nat) : Moves 0x610838 s (State.grant s h) := by
  unfold State.grant
  split
  · exact .refl ..
  · extract_lets +onlyGivenNames -merge u5 u6 u7
    exact .ite (.refl ..) (.then (State.answer_moves ..) rfl <| .then (State.setRecv_moves ..) rfl <| .refl ..)

theorem State.grantAll_moves (s : State) : Moves 0x610838 s (State.grantAll s) := by
  unfold State.grantAll
  exact .foldl _ (.refl ..) fun _ _ hx0 => .then (State.grant_moves ..) rfl hx0

theorem State.matchOffers_moves (s : State) : Moves 0x614838 s (State.matchOffers s) := by
  unfold State.matchOffers
  refine .ite (.refl ..) ?_
  extract_lets +onlyGivenNames -merge u0
  have hu0 : Moves 0x614838 s u0 := by
    unfold u0
    refine .foldl _ (.refl ..) fun x1 _ hx1 => ?_
    split
    · exact hx1
    · extract_lets +onlyGivenNames -merge u8 u9
      have hu9 : Moves 0x614838 s u9 := .then (State.setCmb_moves ..) rfl hx1
      clear_value u9
      exact .ite (.then (State.setRecv_moves ..) rfl <| .then (State.setEpoch_moves ..) rfl hu9) (.then (State.answer_moves ..) rfl hu9)
  clear_value u0
  exact .then (State.grantAll_moves ..) rfl hu0

theorem execHandoffOfferRx_moves (from_ : Peer) (channel : Fin 256) (seq : Nat) (n : Nat) (d : Nat) (wire : Nat) (mask : Bool) (s : State) : MovesR 0x361483C s
  (execHandoffOfferRx from_ channel seq n d wire mask s) := by
  unfold execHandoffOfferRx
  refine State.arrive_moves rfl (.refl ..) (fun x0 hx1 => ?_)
  extract_lets +onlyGivenNames -merge u2 u3 u4
  have hu4 : Moves 0x361483C s u4 := .then (State.matchOffers_moves ..) rfl <| .then (State.setCmb_moves ..) rfl hx1
  clear_value u4
  exact .ite (.next hu4) (.next <| .then (State.answer_moves ..) rfl <| .then (State.cmbFlag_moves ..) rfl <| .then (State.cmbCount_moves ..) rfl hx1)

theorem recvStart_moves (c : CtxId) (s : State) : MovesR 0x1EF7D3C s (recvStart c s) := by
  unfold recvStart
  split
  · rename_i x0 x1 x2
    exact .next <| MovesT.ofNo (.then (State.begin_moves ..) rfl <| .refl ..) x2
  · rename_i x3 x4 x5 x6
    extract_lets +onlyGivenNames -merge u7 u8
    split
    · exact .next <| .then (State.stopDesc_moves ..) rfl <| MovesT.ofGo (.then (State.begin_moves ..) rfl <| .refl ..) x6
    · extract_lets +onlyGivenNames -merge u15 u16
      exact .next <| .then (State.matchOffers_moves ..) rfl <| .then (State.setOut_moves ..) rfl <| .then (State.setCmb_moves ..) rfl <| MovesT.ofGo (.then
        (State.begin_moves ..) rfl <| .refl ..) x6

theorem execHandoffRecv_moves (c : CtxId) (s : State) : MovesR 0x1EF7D3C s (execHandoffRecv c s) := by
  unfold execHandoffRecv
  exact State.starting_moves rfl (.refl ..) (fun x0 hx1 => .then (recvStart_moves _ _) rfl hx1)

theorem State.recvLost_moves (s : State) (r : RecvWin) : Moves 0x161583C s (State.recvLost s r) := by
  unfold State.recvLost
  exact .then (State.grantAll_moves ..) rfl <| .then (State.endDesc_moves ..) rfl <| .then (State.dropRecv_moves ..) rfl <| .refl ..

theorem State.forTransfer_moves {m : Nat} {o : State} {s : State} {p : Peer} {h : Nat} {epoch : Nat} {f : RecvWin → State → State} (em : m ||| 0x610838 = m) (h0 :
  Moves m o s) (hf : ∀ y0 y1, Moves m o y1 → Moves m o (f y0 y1)) : Moves m o (State.forTransfer s p h epoch f) := by
  unfold State.forTransfer
  split
  · exact hf _ _ <| .then (State.setRecv_moves ..) (within rfl em) h0
  · exact .then (State.answer_moves ..) (within rfl em) h0

theorem State.nackHand_moves (s : State) (r : RecvWin) (k : Nat) : Moves 0x161583C s (State.nackHand s r k) := by
  unfold State.nackHand
  extract_lets +onlyGivenNames -merge u0 u1
  have hu1 : Moves 0x161583C s u1 := .then (State.answer_moves ..) rfl <| .then (State.cmbCount_moves ..) rfl <| .refl ..
  clear_value u1
  exact .ite (.then (State.recvLost_moves ..) rfl hu1) (.then (State.setRecv_moves ..) rfl hu1)

theorem State.recvDone_moves (s : State) (h : Nat) : Moves 0x1EF7D3C s (State.recvDone s h) := by
  unfold State.recvDone
  split
  · exact .refl ..
  · rename_i x2 x3 x4
    split
    · exact .refl ..
    · refine .ite (.refl ..) ?_
      extract_lets +onlyGivenNames -merge u10 u11
      have hu11 : Moves 0x1EF7D3C s u11 := .then (State.setLnk_moves ..) rfl <| .refl ..
      clear_value u11
      split
      rename_i x12 x13 x14 x15
      extract_lets +onlyGivenNames -merge u16 u17
      have hu17 : Moves 0x1EF7D3C s u17 := .then (State.setLnk_moves ..) rfl <| MovesF.of (.ite (.then (State.vwrite_moves _ _ _ _ _ _ _) rfl hu11) (.mk
        hu11)) x15
      clear_value u17
      split
      · exact .then (State.faultDesc_moves ..) rfl hu17
      · extract_lets +onlyGivenNames -merge u25 u26
        have hu26 : Moves 0x1EF7D3C s u26 := .foldl _ (.then (State.setCmb_moves ..) rfl hu17) fun _ _ hx27 => .then (State.moveSlot_moves ..) rfl hx27
        clear_value u26
        exact .then (State.grantAll_moves ..) rfl <| .then (State.finishOk_moves ..) rfl hu26
      · exact hu17

theorem State.recvWrite_moves (s : State) (r : RecvWin) (ws : List (Nat × List Byte)) : MovesF 0x4B0D3C s (State.recvWrite s r ws) := by
  unfold State.recvWrite
  extract_lets +onlyGivenNames -merge u0 u1
  have hu1 : Moves 0x4B0D3C s u1 := .then (State.setLnk_moves ..) rfl <| .refl ..
  clear_value u1
  split
  rename_i x2 x3 x4 x5
  refine .mk ?_
  refine .then (State.setLnk_moves ..) rfl ?_
  refine MovesF.of ?_ x5
  refine .foldl _ (.mk hu1) fun x6 _ hx6 => ?_
  split
  · exact .mk <| MovesF.fst hx6
  · exact .then (State.outWrite_moves ..) rfl <| MovesF.fst hx6

theorem execHandoffMaskRx_moves (from_ : Peer) (handle : Fin 64) (epoch : Nat) (data : List Byte) (crc : BitVec 32) (s : State) : MovesR 0x3EF7D3C s
  (execHandoffMaskRx from_ handle epoch data crc s) := by
  unfold execHandoffMaskRx
  refine State.arrive_moves rfl (.refl ..) (fun x0 hx1 => ?_)
  refine .next ?_
  refine State.forTransfer_moves rfl hx1 (fun x2 x3 hx4 => ?_)
  refine .ite (.then (State.answer_moves ..) rfl hx4) ?_
  split
  · rename_i x5 x6 x7 x8
    exact .then (State.faultDesc_moves ..) rfl <| MovesF.of (.then (State.recvWrite_moves ..) rfl hx4) x8
  · rename_i x9 x10 x11
    exact .then (State.recvDone_moves ..) rfl <| .then (State.setRecv_moves ..) rfl <| MovesF.of (.then (State.recvWrite_moves ..) rfl hx4) x11

theorem execHandoffChunkRx_moves (from_ : Peer) (handle : Fin 64) (epoch : Nat) (chunk : Nat) (data : List Byte) (crc : BitVec 32) (s : State) : MovesR 0x3EF7D3C
  s (execHandoffChunkRx from_ handle epoch chunk data crc s) := by
  unfold execHandoffChunkRx
  refine State.arrive_moves rfl (.refl ..) (fun x0 hx1 => ?_)
  refine .next ?_
  refine State.forTransfer_moves rfl hx1 (fun x2 x3 hx4 => ?_)
  split
  · exact hx4
  · refine .ite (.then (State.nackHand_moves ..) rfl hx4) ?_
    refine .ite (.then (State.answer_moves ..) rfl hx4) ?_
    refine .ite hx4 ?_
    split
    · exact hx4
    · extract_lets +onlyGivenNames -merge u16
      have hu16 : Moves 0x3EF7D3C s u16 := .then (State.setRecv_moves ..) rfl <| .then (State.cmbCount_moves ..) rfl hx4
      clear_value u16
      split
      · rename_i x17 x18 x19 x20
        exact .then (State.faultDesc_moves ..) rfl <| MovesF.of (.then (State.recvWrite_moves ..) rfl hu16) x20
      · rename_i x21 x22 x23
        exact MovesF.of (.then (State.recvWrite_moves ..) rfl hu16) x23

theorem execHandoffChunkWriteDone_moves (handle : Fin 64) (chunk : Nat) (s : State) : MovesR 0x1EF7D3C s (execHandoffChunkWriteDone handle chunk s) := by
  unfold execHandoffChunkWriteDone
  split
  · exact .next <| .refl ..
  · split
    · exact .next <| .refl ..
    · refine .ite (.next <| .refl ..) ?_
      extract_lets +onlyGivenNames -merge u11 u12 u13
      have hu13 : Moves 0x1EF7D3C s u13 := .then (State.setRecv_moves ..) rfl <| .then (State.moveSlot_moves ..) rfl <| .refl ..
      clear_value u13
      exact .next <| .then (State.grantAll_moves ..) rfl <| .then (State.recvDone_moves ..) rfl <| .then (State.answer_moves ..) rfl hu13

theorem execRecvLeaseExpiry_moves (handle : Fin 64) (s : State) : MovesR 0x1615A3C s (execRecvLeaseExpiry handle s) := by
  unfold execRecvLeaseExpiry
  refine .next ?_
  refine .ite ?_ ?_
  · refine .then (State.fired_moves ..) rfl ?_
    split
    · exact .then (State.recvLost_moves ..) rfl <| .then (State.cmbFlag_moves ..) rfl <| .then (State.cmbCount_moves ..) rfl <| .refl ..
    · exact .refl ..
  · exact .refl ..

theorem State.slotFails_moves (s : State) (i : Nat) (detail : Nat) : Moves 0x1EF7D3C s (State.slotFails s i detail) := by
  unfold State.slotFails
  split
  · exact .ite (.then (State.schedule_moves ..) rfl <| .then (State.engineFault_moves ..) rfl <| .refl ..) (.refl ..)
  · exact .then (State.schedule_moves ..) rfl <| .then (State.engineFault_moves ..) rfl <| .refl ..
  · exact .refl ..

theorem execReorderSlotUe_moves (slot : Fin 512) (row : Fin 64) (corrected : Bool) (s : State) : MovesR 0x3EF7D3C s (execReorderSlotUe slot row corrected s)
  := by
  unfold execReorderSlotUe
  extract_lets +onlyGivenNames -merge u0
  refine .ite (.next <| .then (State.countRow_moves ..) rfl <| .then (State.cmbCount_moves ..) rfl <| .refl ..) ?_
  split
  rename_i x1 x2 x3 x4
  extract_lets +onlyGivenNames -merge u5
  have hu5 : Moves 0x3EF7D3C s u5 := .then (State.record_moves ..) rfl <| .then (State.moveSlot_moves ..) rfl <| MovesP.of (.then (State.takeFree_moves ..)
    rfl <| .then (State.rowWorn_moves ..) rfl <| .refl ..) x4
  clear_value u5
  extract_lets +onlyGivenNames -merge u6
  have hu6 : Moves 0x3EF7D3C s u6 := .then (State.cmbFlag_moves ..) rfl hu5
  clear_value u6
  extract_lets +onlyGivenNames -merge u7
  have hu7 : Moves 0x3EF7D3C s u7 := .then (State.slotFails_moves ..) rfl hu6
  clear_value u7
  exact .next <| .then (State.setCmb_moves ..) rfl hu7

theorem execSlotWatchdog_moves (slot : Fin 512) (t : Nat) (s : State) : MovesR 0x1EF7D3E s (execSlotWatchdog slot t s) := by
  unfold execSlotWatchdog
  extract_lets +onlyGivenNames -merge u0
  have hu0 : Moves 0x1EF7D3E s u0 := .then (State.reachClk_moves ..) rfl <| .refl ..
  clear_value u0
  split
  · exact .next hu0
  · exact .ite (.next <| .then (State.slotFails_moves ..) rfl <| .then (State.cmbFlag_moves ..) rfl hu0) (.next hu0)

end Sys2Proof.Machine
end

