-- ==== Sys2Proof/Laws/MovesLink.lean ====
section
/-! SUPPORT. Laws/MovesLink.lean: what each operation and meaning of Eriovan Link, remote access, bank dies, the Host Interface, contexts and copies can do (Laws/Moves.lean says what the relation means):
the least mask of parts it changes, one lemma per definition. -/

namespace Sys2Proof.Machine

/-! ### Machine/Link.lean -/

theorem State.failMsg_moves (s : State) (m : Msg) (code : Nat) : Moves 0x1EF5D3C s (State.failMsg s m code) := by
  unfold State.failMsg
  extract_lets +onlyGivenNames -merge u0
  have hu0 : Moves 0x1EF5D3C s u0 := by
    unfold u0
    split
    · exact .then (State.freeTag_moves ..) rfl <| .refl ..
    · exact .then (State.freeTag_moves ..) rfl <| .refl ..
    · exact .then (State.freeTag_moves ..) rfl <| .refl ..
    · exact .then (State.closeKey_moves ..) rfl <| .refl ..
    · exact .refl ..
  clear_value u0
  split
  · exact .ite (.then (State.abortDesc_moves ..) rfl hu0) hu0
  · exact hu0

theorem State.loseWaiting_moves (s : State) (gone : Peer → Bool) : Moves 0x1EF5D3C s (State.loseWaiting s gone) := by
  unfold State.loseWaiting
  extract_lets +onlyGivenNames -merge u0 u1
  have hu1 : Moves 0x1EF5D3C s u1 := .then (State.setCmb_moves ..) rfl <| .refl ..
  clear_value u1
  extract_lets +onlyGivenNames -merge u2
  have hu2 : Moves 0x1EF5D3C s u2 := by
    unfold u2
    refine .foldl _ hu1 fun x3 _ hx3 => ?_
    extract_lets +onlyGivenNames -merge u5 u6
    have hu6 : Moves 0x1EF5D3C s u6 := .then (State.setLnk_moves ..) rfl hx3
    clear_value u6
    exact .ite (.then (State.abortDesc_moves ..) rfl hu6) hu6
  clear_value u2
  exact .foldl _ hu2 fun _ _ hx7 => .then (State.failMsg_moves ..) rfl <| .then (State.setLnk_moves ..) rfl hx7

theorem State.losePeer_moves (s : State) (gone : Peer → Bool) : Moves 0x1EF5D3C s (State.losePeer s gone) := by
  unfold State.losePeer
  extract_lets +onlyGivenNames -merge u0
  have hu0 : Moves 0x1EF5D3C s u0 := .foldl _ (.refl ..) fun _ _ hx1 => .then (State.abortDesc_moves ..) rfl hx1
  clear_value u0
  extract_lets +onlyGivenNames -merge u3
  have hu3 : Moves 0x1EF5D3C s u3 := by
    unfold u3
    refine .foldl _ hu0 fun x4 _ hx4 => ?_
    refine .ite ?_ ?_
    · extract_lets +onlyGivenNames -merge u6
      have hu6 : Moves 0x1EF5D3C s u6 := .then (State.freeTag_moves ..) rfl hx4
      clear_value u6
      exact .ite (.then (State.abortDesc_moves ..) rfl hu6) hu6
    · exact hx4
  clear_value u3
  exact .then (State.loseWaiting_moves ..) rfl hu3

theorem State.settleHold_moves (s : State) : Moves 0x1EF5D3C s (State.settleHold s) := by
  unfold State.settleHold
  extract_lets +onlyGivenNames -merge u0
  exact .foldl _ (.refl ..) fun _ _ hx1 => .then (State.failMsg_moves ..) rfl <| .then (State.setLnk_moves ..) rfl hx1

theorem State.reissue_moves (s : State) (m : Msg) : Moves 0x1EF5D3C s (State.reissue s m) := by
  unfold State.reissue
  exact .ite (.refl ..) (.ite (.then (State.sendMsg_moves ..) rfl <| .refl ..) (.ite (.then (State.sendMsg_moves ..) rfl <| .refl ..) (.then
    (State.failMsg_moves ..) rfl <| .refl ..)))

theorem State.returned_moves (s : State) (m : Msg) : Moves 0x1EF5D3C s (State.returned s m) := by
  unfold State.returned
  refine .ite (.refl ..) ?_
  extract_lets +onlyGivenNames -merge u0
  have hu0 : Moves 0x1EF5D3C s u0 := .then (State.settleHold_moves ..) rfl <| .then (State.holdMsg_moves ..) rfl <| .refl ..
  clear_value u0
  exact .ite hu0 (.ite (.then (State.reissue_moves ..) rfl <| .then (State.setLnk_moves ..) rfl hu0) hu0)

theorem State.closeOwn_moves (s : State) (ms : List Msg) : Moves 0x400000 s (State.closeOwn s ms) := by
  unfold State.closeOwn
  exact .then (State.setLnk_moves ..) rfl <| .refl ..

theorem State.emptyPort_moves (s : State) (p : Nat) : Moves 0x1EF5D3C s (State.emptyPort s p) := by
  unfold State.emptyPort
  extract_lets +onlyGivenNames -merge u0 u1 u2 u3 u4 u5
  have hu5 : Moves 0x1EF5D3C s u5 := .then (State.setPort_moves ..) rfl <| .refl ..
  clear_value u5
  extract_lets +onlyGivenNames -merge u6 u7
  have hu7 : Moves 0x1EF5D3C s u7 := .ite (.foldl _ (.then (State.closeOwn_moves ..) rfl hu5) fun _ _ hx8 => .then (State.returned_moves ..) rfl <| .then
    (State.lnkFlag_moves ..) rfl <| .then (State.lnkCount_moves ..) rfl hx8) hu5
  clear_value u7
  extract_lets +onlyGivenNames -merge u10
  have hu10 : Moves 0x1EF5D3C s u10 := .foldl _ hu7 fun _ _ hx11 => .ite (.then (State.bounce_moves ..) rfl hx11) hx11
  clear_value u10
  exact .then (State.unpark_moves ..) rfl <| .foldl _ hu10 fun _ _ hx13 => .ite (.then (State.bounce_moves ..) rfl <| .then (State.giveCredit_moves ..) rfl
    hx13) hx13

theorem State.portStops_moves (s : State) (p : Nat) : Moves 0x1EF5D3C s (State.portStops s p) := by
  unfold State.portStops
  extract_lets +onlyGivenNames -merge u0
  have hu0 : Moves 0x1EF5D3C s u0 := .then (State.emptyPort_moves ..) rfl <| .refl ..
  clear_value u0
  exact .ite (.then (State.losePeer_moves ..) rfl hu0) hu0

theorem State.portGone_moves (s : State) (p : Nat) : Moves 0x1EF5F3C s (State.portGone s p) := by
  unfold State.portGone
  refine .ite ?_ ?_
  · extract_lets +onlyGivenNames -merge u0 u1 u2
    have hu2 : Moves 0x1EF5F3C s u2 := .then (State.setLnk_moves ..) rfl <| .refl ..
    clear_value u2
    extract_lets +onlyGivenNames -merge u3
    have hu3 : Moves 0x1EF5F3C s u3 := .then (State.portStops_moves ..) rfl hu2
    clear_value u3
    exact .ite (.then (State.record_moves ..) rfl hu3) hu3
  · exact .then (State.parentLost_moves ..) rfl <| .then (State.portStops_moves ..) rfl <| .refl ..

theorem State.holdPort_moves (s : State) (p : Nat) (reason : Nat) : Moves 0x1EF5F3C s (State.holdPort s p reason) := by
  unfold State.holdPort
  extract_lets +onlyGivenNames -merge u0 u1 u2
  have hu2 : Moves 0x1EF5F3C s u2 := .then (State.setPort_moves ..) rfl <| .refl ..
  clear_value u2
  extract_lets +onlyGivenNames -merge u3
  have hu3 : Moves 0x1EF5F3C s u3 := .then (State.record_moves ..) rfl <| .then (State.lnkFlag_moves ..) rfl <| .then (State.portTo_moves ..) rfl hu2
  clear_value u3
  exact .ite (.then (State.portGone_moves ..) rfl hu3) hu3

theorem State.failPort_moves (s : State) (p : Nat) : Moves 0x1EF5F3C s (State.failPort s p) := by
  unfold State.failPort
  extract_lets +onlyGivenNames -merge u0 u1
  have hu1 : Moves 0x1EF5F3C s u1 := .then (State.setPort_moves ..) rfl <| .refl ..
  clear_value u1
  extract_lets +onlyGivenNames -merge u2
  have hu2 : Moves 0x1EF5F3C s u2 := .then (State.record_moves ..) rfl <| .then (State.lnkFlag_moves ..) rfl <| .then (State.portTo_moves ..) rfl hu1
  clear_value u2
  extract_lets +onlyGivenNames -merge u3
  have hu3 : Moves 0x1EF5F3C s u3 := .then (State.portGone_moves ..) rfl <| .then (State.setDp_moves ..) rfl hu2
  clear_value u3
  refine .ite hu3 ?_
  extract_lets +onlyGivenNames -merge u4
  exact .ite (.then (State.suspectPeer_moves ..) rfl hu3) hu3

theorem State.downPort_moves (s : State) (p : Nat) : Moves 0x1EF5F3C s (State.downPort s p) := by
  unfold State.downPort
  extract_lets +onlyGivenNames -merge u0 u1 u2
  have hu2 : Moves 0x1EF5F3C s u2 := .then (State.setPort_moves ..) rfl <| .refl ..
  clear_value u2
  extract_lets +onlyGivenNames -merge u3
  have hu3 : Moves 0x1EF5F3C s u3 := .then (State.portTo_moves ..) rfl hu2
  clear_value u3
  exact .ite (.then (State.portGone_moves ..) rfl hu3) hu3

theorem State.beginRetrain_moves (s : State) (p : Nat) : Moves 0x41483C s (State.beginRetrain s p) := by
  unfold State.beginRetrain
  exact .then (State.record_moves ..) rfl <| .then (State.retrainPort_moves ..) rfl <| .refl ..

theorem State.askRetrain_moves (s : State) (p : Nat) : Moves 0x41483C s (State.askRetrain s p) := by
  unfold State.askRetrain
  exact .then (State.beginRetrain_moves ..) rfl <| .then (State.sendControl_moves ..) rfl <| .refl ..

theorem execLinkRecordsRx_moves (p : PortId) (r : TrainRecord) (s : State) : MovesR 0x1EF5F3C s (execLinkRecordsRx p r s) := by
  unfold execLinkRecordsRx
  extract_lets +onlyGivenNames -merge u0
  refine .ite (.next <| .refl ..) ?_
  extract_lets +onlyGivenNames -merge u1
  have hu1 : Moves 0x1EF5F3C s u1 := .then (State.send_moves ..) rfl <| .then (State.portTo_moves ..) rfl <| .then (State.portTo_moves ..) rfl <| .refl ..
  clear_value u1
  split
  · exact .next <| .then (State.holdPort_moves ..) rfl hu1
  · extract_lets +onlyGivenNames -merge u7 u8 u9
    have hu9 : Moves 0x1EF5F3C s u9 := .then (State.setPort_moves ..) rfl hu1
    clear_value u9
    extract_lets +onlyGivenNames -merge u10
    have hu10 : Moves 0x1EF5F3C s u10 := by
      unfold u10
      refine .ite ?_ ?_
      · split
        · exact .then (State.setReg_moves ..) rfl hu9
        · exact hu9
      · exact hu9
    clear_value u10
    exact .next <| .then (State.portTo_moves ..) rfl hu10

theorem State.laneApplied_moves (s : State) (p : Nat) (k : Nat) (cause : Nat) : Moves 0x201483C s (State.laneApplied s p k cause) := by
  unfold State.laneApplied
  refine .ite (.refl ..) ?_
  split
  · split
    · exact .then (State.remapDone_moves ..) rfl <| .then (State.moveEntry_moves ..) rfl <| .refl ..
    · exact .refl ..
  · exact .then (State.noteApplied_moves ..) rfl <| .refl ..

theorem State.lanesUnspared_moves (s : State) (p : Nat) : Moves 0x2000000 s (State.lanesUnspared s p) := by
  unfold State.lanesUnspared
  refine .foldl _ (.refl ..) fun x0 _ hx0 => ?_
  split
  · exact .then (State.moveEntry_moves ..) rfl hx0
  · exact hx0

theorem State.lanesOut_moves (s : State) (p : Nat) (bad : List Nat) (cause : Nat) : Moves 0x201083C s (State.lanesOut s p bad cause) := by
  unfold State.lanesOut
  exact .foldl _ (.refl ..) fun _ _ hx0 => .then (State.retire_moves ..) rfl hx0

theorem State.lanesHeld_moves (s : State) (p : Nat) (good : Nat) (cause : Nat) : Moves 0x201083C s (State.lanesHeld s p good cause) := by
  unfold State.lanesHeld
  extract_lets +onlyGivenNames -merge u0
  exact .then (State.lanesOut_moves ..) rfl <| .refl ..

theorem State.trainLanes_moves (s : State) (p : Nat) (good : Nat) (cause : Nat) : MovesO 0x241483C s (State.trainLanes s p good cause) := by
  unfold State.trainLanes
  extract_lets +onlyGivenNames -merge u0 u1 u2 u3 u4 u5 u6
  clear_value u6
  split
  · exact .some <| .then (State.setPort_moves ..) rfl <| .refl ..
  · refine .ite ?_ ?_
    · extract_lets +onlyGivenNames -merge u10 u11
      have hu11 : Moves 0x241483C s u11 := .then (State.setPort_moves ..) rfl <| .refl ..
      clear_value u11
      exact .some <| .then (State.lnkFlag_moves ..) rfl <| .then (State.lanesUnspared_moves ..) rfl <| .then (State.laneApplied_moves ..) rfl hu11
    · extract_lets +onlyGivenNames -merge u12
      refine .ite ?_ ?_
      · extract_lets +onlyGivenNames -merge u13
        have hu13 : Moves 0x241483C s u13 := .then (State.setPort_moves ..) rfl <| .refl ..
        clear_value u13
        exact .some <| .then (State.lnkFlag_moves ..) rfl <| .then (State.lanesOut_moves ..) rfl <| .then (State.lanesUnspared_moves ..) rfl hu13
      · exact .none

theorem execLinkTrainDone_moves (p : PortId) (good : Nat) (margins : List Nat) (s : State) : MovesR 0x3EF5F3C s (execLinkTrainDone p good margins s) := by
  unfold execLinkTrainDone
  refine .ite (.next <| .refl ..) ?_
  split
  · rename_i x0 x1 x2
    exact .next <| .then (State.enterConfirm_moves ..) rfl <| .then (State.laneMargins_moves ..) rfl <| MovesO.of (.then (State.trainLanes_moves _ _ _ _) rfl
      <| .refl ..) x2
  · exact .next <| .then (State.holdPort_moves ..) rfl <| .then (State.lanesHeld_moves ..) rfl <| .refl ..

theorem State.tellPlace_moves (s : State) (p : Nat) : Moves 0x400028 s (State.tellPlace s p) := by
  unfold State.tellPlace
  split
  · exact .then (State.sendNear_moves ..) rfl <| .refl ..
  · exact .then (State.sendNear_moves ..) rfl <| .refl ..
  · exact .refl ..

theorem State.tellAll_moves (s : State) : Moves 0x400028 s (State.tellAll s) := by
  unfold State.tellAll
  exact .foldl _ (.refl ..) fun _ _ hx0 => .ite (.then (State.tellPlace_moves ..) rfl hx0) hx0

theorem State.sendProbe_moves (s : State) (p : Nat) (origin : Nat) (hops : Nat) : Moves 0x400028 s (State.sendProbe s p origin hops) := by
  unfold State.sendProbe
  exact .then (State.sendNear_moves ..) rfl <| .refl ..

theorem execLinkConfirmDone_moves (p : PortId) (credits : List Nat) (window : Nat) (s : State) : MovesR 0x41483C s (execLinkConfirmDone p credits window s) := by
  unfold execLinkConfirmDone
  extract_lets +onlyGivenNames -merge u0
  refine .ite (.next <| .refl ..) ?_
  extract_lets +onlyGivenNames -merge u1 u2
  have hu2 : Moves 0x41483C s u2 := .then (State.setDp_moves ..) rfl <| .then (State.portTo_moves ..) rfl <| .then (State.setPort_moves ..) rfl <| .refl ..
  clear_value u2
  extract_lets +onlyGivenNames -merge u3 u4
  have hu4 : Moves 0x41483C s u4 := .then (State.setLnk_moves ..) rfl hu2
  clear_value u4
  extract_lets +onlyGivenNames -merge u5
  have hu5 : Moves 0x41483C s u5 := .ite (.then (State.sendProbe_moves ..) rfl hu4) hu4
  clear_value u5
  extract_lets +onlyGivenNames -merge u6
  have hu6 : Moves 0x41483C s u6 := .ite (.then (State.replay_moves ..) rfl <| .then (State.payCredits_moves ..) rfl hu2) (.ite hu2 (.then
    (State.tellPlace_moves ..) rfl hu5))
  clear_value u6
  exact .next <| .then (State.pump_moves ..) rfl hu6

theorem execReplayStall_moves (p : PortId) (t : Nat) (s : State) : MovesR 0x41483E s (execReplayStall p t s) := by
  unfold execReplayStall
  extract_lets +onlyGivenNames -merge u0
  have hu0 : Moves 0x41483E s u0 := .then (State.reachClk_moves ..) rfl <| .refl ..
  clear_value u0
  split
  · exact .ite (.next <| .then (State.askRetrain_moves ..) rfl hu0) (.next hu0)
  · exact .next hu0

theorem execLinkRetrainDone_moves (p : PortId) (ok : Bool) (good : Nat) (margins : List Nat) (s : State) : MovesR 0x3EF5F3C s (execLinkRetrainDone p ok good
  margins s) := by
  unfold execLinkRetrainDone
  extract_lets +onlyGivenNames -merge u0
  refine .ite (.next <| .refl ..) ?_
  refine .ite ?_ ?_
  · extract_lets +onlyGivenNames -merge u1
    have hu1 : Moves 0x3EF5F3C s u1 := .then (State.setPort_moves ..) rfl <| .refl ..
    clear_value u1
    exact .next <| .ite (.then (State.failPort_moves ..) rfl hu1) (.then (State.beginRetrain_moves ..) rfl hu1)
  · split
    · exact .next <| .then (State.holdPort_moves ..) rfl <| .then (State.lanesHeld_moves ..) rfl <| .refl ..
    · rename_i x4 x5 x6
      exact .next <| .then (State.enterConfirm_moves ..) rfl <| .then (State.laneMargins_moves ..) rfl <| MovesO.of (.then (State.trainLanes_moves _ _ _ _)
        rfl <| .refl ..) x6

theorem State.writeLnkCfg_moves (p : Nat) (v : Word) (_who : Reader) (s : State) : Moves 0x1EF5F3C s (State.writeLnkCfg p v _who s) := by
  unfold State.writeLnkCfg
  extract_lets +onlyGivenNames -merge u0 u1
  have hu1 : Moves 0x1EF5F3C s u1 := .then (State.setReg_moves ..) rfl <| .refl ..
  clear_value u1
  extract_lets +onlyGivenNames -merge u2
  refine .ite (.then (State.downPort_moves ..) rfl hu1) ?_
  extract_lets +onlyGivenNames -merge u3
  have hu3 : Moves 0x1EF5F3C s u3 := .ite (.then (State.detectPort_moves ..) rfl hu1) hu1
  clear_value u3
  refine .ite hu3 ?_
  split
  · exact .then (State.enterDetect_moves ..) rfl hu3
  · exact .then (State.askRetrain_moves ..) rfl hu3
  · exact .then (State.beginRetrain_moves ..) rfl hu3
  · exact hu3

theorem execLnkRetrainCmd_moves (p : PortId) (s : State) : MovesR 0x1EF5FFC s (execLnkRetrainCmd p s) := by
  unfold execLnkRetrainCmd
  exact .next <| State.onWrite_moves rfl (.refl ..) (fun x0 hx1 => .then (State.writeLnkCfg_moves ..) rfl hx1)

theorem execLnkEnableWrite_moves (p : PortId) (v : Word) (s : State) : MovesR 0x1EF5FFC s (execLnkEnableWrite p v s) := by
  unfold execLnkEnableWrite
  exact .next <| State.onWrite_moves rfl (.refl ..) (fun x0 hx1 => .then (State.writeLnkCfg_moves ..) rfl hx1)

theorem State.nackFlit_moves (s : State) (p : Nat) : Moves 0x41483C s (State.nackFlit s p) := by
  unfold State.nackFlit
  extract_lets +onlyGivenNames -merge u0 u1 u2
  have hu2 : Moves 0x41483C s u2 := .then (State.lnkCount_moves ..) rfl <| .then (State.sendAck_moves ..) rfl <| .then (State.setPort_moves ..) rfl <| .refl
    ..
  clear_value u2
  exact .ite (.then (State.askRetrain_moves ..) rfl hu2) hu2

theorem State.badFlit_moves (s : State) (p : Nat) (flit : List Byte) : Moves 0x41483C s (State.badFlit s p flit) := by
  unfold State.badFlit
  extract_lets +onlyGivenNames -merge u0
  have hu0 : Moves 0x41483C s u0 := .then (State.lnkCount_moves ..) rfl <| .refl ..
  clear_value u0
  extract_lets +onlyGivenNames -merge u1 u2
  have hu2 : Moves 0x41483C s u2 := .then (State.setPort_moves ..) rfl hu0
  clear_value u2
  extract_lets +onlyGivenNames -merge u3
  have hu3 : Moves 0x41483C s u3 := .ite (.then (State.askRetrain_moves ..) rfl hu2) hu2
  clear_value u3
  exact .ite hu3 (.then (State.nackFlit_moves ..) rfl hu3)

theorem State.flitReturns_moves (s : State) (p : Nat) (flit : List Byte) : Moves 0x41483C s (State.flitReturns s p flit) := by
  unfold State.flitReturns
  extract_lets +onlyGivenNames -merge u0 u1 u2
  have hu2 : Moves 0x41483C s u2 := .then (State.setPort_moves ..) rfl <| .refl ..
  clear_value u2
  extract_lets +onlyGivenNames -merge u3
  split
  · exact .then (State.setPort_moves ..) rfl hu2
  · extract_lets +onlyGivenNames -merge u8 u9 u10
    have hu10 : Moves 0x41483C s u10 := .then (State.setPort_moves ..) rfl hu2
    clear_value u10
    exact .ite (.then (State.askRetrain_moves ..) rfl hu10) (.then (State.replay_moves ..) rfl hu10)
  · exact hu2

theorem State.sequenced_moves {m : Nat} {o : State} {s : State} {p : Nat} {flit : List Byte} {f : State → State} (em : m ||| 0x41483C = m) (h0 : Moves m o s) (hf
  : ∀ y0, Moves m o y0 → Moves m o (f y0)) : Moves m o (State.sequenced s p flit f) := by
  unfold State.sequenced
  extract_lets +onlyGivenNames -merge u0 u1
  exact .ite (hf _ <| .then (State.sendAck_moves ..) (within rfl em) <| .then (State.setPort_moves ..) (within rfl em) h0) (.ite (.then (State.sendAck_moves
    ..) (within rfl em) h0) (.ite (.then (State.nackFlit_moves ..) (within rfl em) h0) h0))

theorem execFlitRx_moves (p : PortId) (flit : List Byte) (retrain : Bool) (s : State) : MovesR 0x41483C s (execFlitRx p flit retrain s) := by
  unfold execFlitRx
  refine .ite (.next <| .refl ..) ?_
  extract_lets +onlyGivenNames -merge u0
  have hu0 : Moves 0x41483C s u0 := .then (State.lnkCount_moves ..) rfl <| .refl ..
  clear_value u0
  refine .ite (.next <| .then (State.badFlit_moves ..) rfl hu0) ?_
  extract_lets +onlyGivenNames -merge u1
  have hu1 : Moves 0x41483C s u1 := .then (State.flitReturns_moves ..) rfl hu0
  clear_value u1
  extract_lets +onlyGivenNames -merge u2 u3
  have hu3 : Moves 0x41483C s u3 := .ite (.then (State.send_moves ..) rfl hu1) hu1
  clear_value u3
  extract_lets +onlyGivenNames -merge u4
  have hu4 : Moves 0x41483C s u4 := by
    unfold u4
    split
    · exact State.sequenced_moves rfl hu3 (fun x7 hx8 => .then (State.takeData_moves ..) rfl hx8)
    · exact State.sequenced_moves rfl hu3 (fun x11 hx12 => .ite (.then (State.beginRetrain_moves ..) rfl hx12) hx12)
    · exact hu3
  clear_value u4
  exact .next <| .then (State.pump_moves ..) rfl hu4

/-! ### Machine/Remote.lean -/

theorem execRouteStaleRx_moves (m : Msg) (s : State) : MovesR 0x1EF5D3C s (execRouteStaleRx m s) := by
  unfold execRouteStaleRx
  extract_lets +onlyGivenNames -merge u0
  have hu0 : Moves 0x1EF5D3C s u0 := by
    unfold u0
    split
    · exact .then (State.closeKey_moves ..) rfl <| .refl ..
    · exact .refl ..
  clear_value u0
  exact .next <| .then (State.returned_moves ..) rfl hu0

theorem execStaleHoldExpiry_moves (s : State) : MovesR 0x1EF5D3C s (execStaleHoldExpiry s) := by
  unfold execStaleHoldExpiry
  extract_lets +onlyGivenNames -merge u0
  have hu0 : Moves 0x1EF5D3C s u0 := .then (State.settleHold_moves ..) rfl <| .refl ..
  clear_value u0
  split
  · exact .next hu0
  · exact .ite (.next <| .then (State.unpark_moves ..) rfl <| .then (State.failMsg_moves ..) rfl <| .then (State.setLnk_moves ..) rfl hu0) (.next hu0)

theorem State.releaseHold_moves (s : State) : Moves 0x1EF5D3C s (State.releaseHold s) := by
  unfold State.releaseHold
  extract_lets +onlyGivenNames -merge u0
  have hu0 : Moves 0x1EF5D3C s u0 := .then (State.settleHold_moves ..) rfl <| .refl ..
  clear_value u0
  exact .foldl _ (.then (State.setLnk_moves ..) rfl hu0) fun _ _ hx1 => .then (State.reissue_moves ..) rfl hx1

theorem State.changeover_moves (s : State) (epoch : Nat) (t : RouteTable) (late : Bool) : Moves 0x1EF5D3C s (State.changeover s epoch t late) := by
  unfold State.changeover
  extract_lets +onlyGivenNames -merge u0 u1
  have hu1 : Moves 0x1EF5D3C s u1 := .then (State.setLnk_moves ..) rfl <| .refl ..
  clear_value u1
  extract_lets +onlyGivenNames -merge u2
  have hu2 : Moves 0x1EF5D3C s u2 := .then (State.flagOpen_moves ..) rfl <| .then (State.setReg_moves ..) rfl hu1
  clear_value u2
  exact .then (State.unpark_moves ..) rfl <| .then (State.releaseHold_moves ..) rfl <| .ite (.then (State.flagOpen_moves ..) rfl hu2) hu2

theorem State.writeRouteCmd_moves (v : Word) (who : Reader) (s : State) : Moves 0x1EF5D3C s (State.writeRouteCmd v who s) := by
  unfold State.writeRouteCmd
  extract_lets +onlyGivenNames -merge u0 u1
  have hu1 : Moves 0x1EF5D3C s u1 := .ite (.then (State.unpark_moves ..) rfl <| .then (State.setLnk_moves ..) rfl <| .refl ..) (.refl ..)
  clear_value u1
  refine .ite hu1 ?_
  extract_lets +onlyGivenNames -merge u2 u3 u4
  refine .ite (.then (State.locked_moves ..) rfl hu1) ?_
  extract_lets +onlyGivenNames -merge u5
  exact .ite (.then (State.changeover_moves ..) rfl hu1) (.then (State.setLnk_moves ..) rfl hu1)

theorem execRouteArm_moves (s : State) : MovesR 0x1EF5DFC s (execRouteArm s) := by
  unfold execRouteArm
  exact .next <| State.onWrite_moves rfl (.refl ..) (fun x0 hx1 => .then (State.writeRouteCmd_moves ..) rfl hx1)

theorem execRouteDefault_moves (s : State) : MovesR 0x1EF5DFC s (execRouteDefault s) := by
  unfold execRouteDefault
  exact .next <| State.onWrite_moves rfl (.refl ..) (fun x0 hx1 => .then (State.writeRouteCmd_moves ..) rfl hx1)

theorem execRouteChangeover_moves (s : State) : MovesR 0x1EF5D3C s (execRouteChangeover s) := by
  unfold execRouteChangeover
  split
  · exact .ite (.next <| .then (State.changeover_moves ..) rfl <| .refl ..) (.next <| .refl ..)
  · exact .next <| .refl ..

theorem execPreviousRouteDiscard_moves (s : State) : MovesR 0x400000 s (execPreviousRouteDiscard s) := by
  unfold execPreviousRouteDiscard
  split
  · exact .ite (.next <| .then (State.setLnk_moves ..) rfl <| .refl ..) (.next <| .refl ..)
  · exact .next <| .refl ..

theorem State.reply_moves (s : State) (to_ : Peer) (kind : MsgKind) (args : List Nat) (data : List Byte) : Moves 0x410838 s (State.reply s to_ kind args data)
  := by
  unfold State.reply
  exact .then (State.sendMsg_moves ..) rfl <| .refl ..

theorem State.refuseRemote_moves (s : State) (p : Nat) (to_ : Peer) (tag : Nat) : Moves 0x410838 s (State.refuseRemote s p to_ tag) := by
  unfold State.refuseRemote
  extract_lets +onlyGivenNames -merge u0
  have hu0 : Moves 0x410838 s u0 := .ite (.then (State.lnkFlag_moves ..) rfl <| .then (State.lnkCount_moves ..) rfl <| .refl ..) (.refl ..)
  clear_value u0
  exact .then (State.reply_moves ..) rfl hu0

theorem execRemoteRequestRx_moves (p : Fin 9) (from_ : Peer) (tag : Nat) (apt : Fin 64) (write : Bool) (ra : Nat) (len : Nat) (data : List Byte) (s : State) :
  MovesR 0x3430D3C s (execRemoteRequestRx p from_ tag apt write ra len data s) := by
  unfold execRemoteRequestRx
  refine State.arrive_moves rfl (.refl ..) (fun x0 hx1 => ?_)
  split
  · exact .next <| .then (State.refuseRemote_moves ..) rfl hx1
  · extract_lets +onlyGivenNames -merge u7
    refine .ite ?_ ?_
    · split
      · rename_i x8 x9 x10 x11
        unfold u7
        exact .ite (.next <| .then (State.setLnk_moves ..) rfl <| MovesF.of (.then (State.vwrite_moves _ _ _ _ _ _ _) rfl hx1) x11) (.next <| .then
          (State.reply_moves ..) rfl <| .then (State.noteXFault_moves ..) rfl <| MovesF.of (.then (State.vwrite_moves _ _ _ _ _ _ _) rfl hx1) x11)
      · rename_i x12 x13 x14
        exact .next <| .then (State.reply_moves ..) rfl <| MovesF.of (.then (State.vwrite_moves _ _ _ _ _ _ _) rfl hx1) x14
    · split
      · unfold u7
        exact .ite (.next <| .then (State.setLnk_moves ..) rfl hx1) (.next <| .then (State.reply_moves ..) rfl <| .then (State.noteXFault_moves ..) rfl hx1)
      · exact .next <| .then (State.reply_moves ..) rfl hx1

theorem execInterruptRx_moves (p : Fin 9) (from_ : Peer) (tag : Nat) (apt : Fin 64) (value : DWord) (s : State) : MovesR 0x3410838 s (execInterruptRx p from_
  tag apt value s) := by
  unfold execInterruptRx
  refine State.arrive_moves rfl (.refl ..) (fun x0 hx1 => ?_)
  split
  · exact .next <| .then (State.refuseRemote_moves ..) rfl hx1
  · exact .next <| .then (State.reply_moves ..) rfl <| .then (State.event_moves ..) rfl hx1

theorem State.retryRemote_moves (s : State) (c : Nat) : Moves 0x1EF7D3C s (State.retryRemote s c) := by
  unfold State.retryRemote
  extract_lets +onlyGivenNames -merge u0
  have hu0 : Moves 0x1EF7D3C s u0 := .then (State.pumpSends_moves ..) rfl <| .refl ..
  clear_value u0
  exact .foldl _ hu0 fun _ _ hx1 => .then (State.tryLaunch_moves ..) rfl hx1

theorem State.requestFails_moves (s : State) (r : RemoteReq) (code : Nat) (detail : Nat) : Moves 0x1EF7D3C s (State.requestFails s r code detail) := by
  unfold State.requestFails
  exact .ite (.refl ..) (.ite (.then (State.schedule_moves ..) rfl <| .then (State.contextFault_moves ..) rfl <| .refl ..) (.then (State.abortDesc_moves ..)
    rfl <| .refl ..))

theorem execRemoteResponseRx_moves (tag : Nat) (outcome : Fin 5) (data : List Byte) (s : State) : MovesR 0x1EF7D3C s (execRemoteResponseRx tag outcome data s)
  := by
  unfold execRemoteResponseRx
  split
  · exact .next <| .refl ..
  · extract_lets +onlyGivenNames -merge u5
    have hu5 : Moves 0x1EF7D3C s u5 := .then (State.freeTag_moves ..) rfl <| .refl ..
    clear_value u5
    refine .ite (.next hu5) ?_
    split
    · refine .ite (.next hu5) ?_
      extract_lets +onlyGivenNames -merge u8
      exact .next <| .then (State.retryRemote_moves ..) rfl <| .then (State.setLnk_moves ..) rfl hu5
    · exact .next <| .then (State.requestFails_moves ..) rfl hu5
    · exact .next <| .then (State.requestFails_moves ..) rfl hu5
    · exact .next <| .then (State.requestFails_moves ..) rfl hu5
    · exact .next <| .then (State.requestFails_moves ..) rfl hu5

theorem execRemoteRequestTimeout_moves (tag : Nat) (t : Nat) (s : State) : MovesR 0x1EF7D3E s (execRemoteRequestTimeout tag t s) := by
  unfold execRemoteRequestTimeout
  extract_lets +onlyGivenNames -merge u0
  have hu0 : Moves 0x1EF7D3E s u0 := .then (State.reachClk_moves ..) rfl <| .refl ..
  clear_value u0
  split
  · exact .next hu0
  · exact .ite (.next <| .then (State.requestFails_moves ..) rfl <| .then (State.freeTag_moves ..) rfl hu0) (.next hu0)

theorem execPeerListRx_moves (b : Fin 2) (peers : List (Nat × Nat)) (s : State) : MovesR 0x1EF5D3C s (execPeerListRx b peers s) := by
  unfold execPeerListRx
  extract_lets +onlyGivenNames -merge u0 u1 u2
  refine .ite (.next <| .refl ..) ?_
  extract_lets +onlyGivenNames -merge u3 u4
  have hu4 : Moves 0x1EF5D3C s u4 := .then (State.lnkFlag_moves ..) rfl <| .then (State.setLnk_moves ..) rfl <| .refl ..
  clear_value u4
  extract_lets +onlyGivenNames -merge u5 u6
  have hu6 : Moves 0x1EF5D3C s u6 := .foldl _ hu4 fun _ _ hx7 => .then (State.record_moves ..) rfl hx7
  clear_value u6
  extract_lets +onlyGivenNames -merge u9
  refine .ite ?_ ?_
  · extract_lets +onlyGivenNames -merge u10 u11
    have hu11 : Moves 0x1EF5D3C s u11 := .then (State.setLnk_moves ..) rfl hu6
    clear_value u11
    extract_lets +onlyGivenNames -merge u12
    exact .next <| .then (State.loseWaiting_moves ..) rfl <| .foldl _ hu11 fun _ _ hx13 => .then (State.abortDesc_moves ..) rfl hx13
  · extract_lets +onlyGivenNames -merge u15
    have hu15 : Moves 0x1EF5D3C s u15 := .then (State.losePeer_moves ..) rfl hu6
    clear_value u15
    extract_lets +onlyGivenNames -merge u16
    exact .next <| .then (State.setLnk_moves ..) rfl hu15

theorem State.posFault_moves (s : State) (port : Option Nat) : Moves 0x1EF5F3C s (State.posFault s port) := by
  unfold State.posFault
  extract_lets +onlyGivenNames -merge u0 u1
  have hu1 : Moves 0x1EF5F3C s u1 := .then (State.setLnk_moves ..) rfl <| .refl ..
  clear_value u1
  extract_lets +onlyGivenNames -merge u2
  have hu2 : Moves 0x1EF5F3C s u2 := by
    unfold u2
    split
    · exact .then (State.lnkFlag_moves ..) rfl hu1
    · exact .then (State.flagOpen_moves ..) rfl hu1
  clear_value u2
  exact .foldl _ hu2 fun _ _ hx6 => .ite (.then (State.holdPort_moves ..) rfl hx6) hx6

theorem State.learnPos_moves (s : State) (at_ : ℤ × ℤ × ℤ) (origin : Bool) : Moves 0x1EFDF3C s (State.learnPos s at_ origin) := by
  unfold State.learnPos
  split
  · exact .refl ..
  · refine .ite (.then (State.posFault_moves ..) rfl <| .refl ..) ?_
    extract_lets +onlyGivenNames -merge u7 u8 u9
    have hu9 : Moves 0x1EFDF3C s u9 := .then (State.setLnk_moves ..) rfl <| .refl ..
    clear_value u9
    exact .then (State.tryAdoptStart_moves ..) rfl <| .then (State.unpark_moves ..) rfl <| .then (State.tellAll_moves ..) rfl hu9

theorem State.tryAdoptPos_moves (s : State) : Moves 0x1EFDF3C s (State.tryAdoptPos s) := by
  unfold State.tryAdoptPos
  split
  · exact .then (State.learnPos_moves ..) rfl <| .refl ..
  · exact .refl ..

theorem execDiscoveryProbeRx_moves (p : TorusPort) (origin : Nat) (hops : Nat) (s : State) : MovesR 0x1EFDF3C s (execDiscoveryProbeRx p origin hops s) := by
  unfold execDiscoveryProbeRx
  refine .ite (.next <| .refl ..) ?_
  extract_lets +onlyGivenNames -merge u0
  exact .ite (.next <| .then (State.tryAdoptPos_moves ..) rfl <| .then (State.setLnk_moves ..) rfl <| .refl ..) (.next <| .then (State.sendProbe_moves ..)
    rfl <| .refl ..)

theorem execDiscoveryRecordRx_moves (p : TorusPort) (r : DiscRecord) (t : Nat) (s : State) : MovesR 0x1EFDF3E s (execDiscoveryRecordRx p r t s) := by
  unfold execDiscoveryRecordRx
  extract_lets +onlyGivenNames -merge u0
  have hu0 : Moves 0x1EFDF3E s u0 := .then (State.reachClk_moves ..) rfl <| .refl ..
  clear_value u0
  refine .ite (.next hu0) ?_
  split
  · extract_lets +onlyGivenNames -merge u5
    split
    · exact .ite (.next hu0) (.next <| .then (State.posFault_moves ..) rfl hu0)
    · exact .next <| .then (State.tryAdoptPos_moves ..) rfl <| .then (State.setLnk_moves ..) rfl hu0
    · refine .ite (.next <| .then (State.tryAdoptPos_moves ..) rfl hu0) ?_
      split
      · exact .ite (.next <| .then (State.tryAdoptPos_moves ..) rfl hu0) (.next <| .then (State.posFault_moves ..) rfl hu0)
      · exact .next <| .then (State.posFault_moves ..) rfl hu0
  · refine .ite (.next <| .then (State.tellPlace_moves ..) rfl hu0) ?_
    extract_lets +onlyGivenNames -merge u31
    refine .ite ?_ ?_
    · extract_lets +onlyGivenNames -merge u32
      exact .next <| .then (State.tellAll_moves ..) rfl <| .then (State.setLnk_moves ..) rfl hu0
    · exact .next hu0

theorem execDiscoveryElectionTimer_moves (t : Nat) (s : State) : MovesR 0x40002A s (execDiscoveryElectionTimer t s) := by
  unfold execDiscoveryElectionTimer
  extract_lets +onlyGivenNames -merge u0
  have hu0 : Moves 0x40002A s u0 := .then (State.reachClk_moves ..) rfl <| .refl ..
  clear_value u0
  split
  · exact .next hu0
  · refine .ite (.next hu0) ?_
    split
    · exact .next <| .then (State.tellAll_moves ..) rfl hu0
    · exact .next <| .then (State.tellAll_moves ..) rfl <| .then (State.setLnk_moves ..) rfl hu0

theorem execDiscoverySettle_moves (t : Nat) (s : State) : MovesR 0x1EFDF3E s (execDiscoverySettle t s) := by
  unfold execDiscoverySettle
  extract_lets +onlyGivenNames -merge u0
  have hu0 : Moves 0x1EFDF3E s u0 := .then (State.reachClk_moves ..) rfl <| .refl ..
  clear_value u0
  refine .ite (.next hu0) ?_
  split
  · exact .next <| .then (State.learnPos_moves ..) rfl hu0
  · exact .next <| .then (State.learnPos_moves ..) rfl hu0
  · exact .next hu0

theorem State.writeAperture_moves (a : Nat) (v : Word) (_who : Reader) (s : State) : Moves 0x400020 s (State.writeAperture a v _who s) := by
  unfold State.writeAperture
  extract_lets +onlyGivenNames -merge u0
  have hu0 : Moves 0x400020 s u0 := .then (State.setReg_moves ..) rfl <| .refl ..
  clear_value u0
  exact .ite (.then (State.setLnk_moves ..) rfl hu0) hu0

theorem execApertureBind_moves (a : Fin 64) (v : Word) (s : State) : MovesR 0x4000E0 s (execApertureBind a v s) := by
  unfold execApertureBind
  exact .next <| State.onWrite_moves rfl (.refl ..) (fun x0 hx1 => .then (State.writeAperture_moves ..) rfl hx1)

theorem State.writeWindow_moves (c : Nat) (w : Nat) (v : Word) (who : Reader) (s : State) : Moves 0x20 s (State.writeWindow c w v who s) := by
  unfold State.writeWindow
  exact .ite (.then (State.locked_moves ..) rfl <| .refl ..) (.ite (.then (State.locked_moves ..) rfl <| .refl ..) (.then (State.setReg_moves ..) rfl <|
    .refl ..))

theorem execRwinEnable_moves (c : CtxId) (w : Fin 4) (v : Word) (s : State) : MovesR 0xE0 s (execRwinEnable c w v s) := by
  unfold execRwinEnable
  exact .next <| State.onWrite_moves rfl (.refl ..) (fun x0 hx1 => .then (State.writeWindow_moves ..) rfl hx1)

/-! ### Machine/Bank.lean -/

theorem State.retryWaiting_moves (s : State) : Moves 0x1EF7D3C s (State.retryWaiting s) := by
  unfold State.retryWaiting
  extract_lets +onlyGivenNames -merge u0
  have hu0 : Moves 0x1EF7D3C s u0 := .foldl _ (.refl ..) fun _ _ hx1 => .then (State.retryRemote_moves ..) rfl hx1
  clear_value u0
  extract_lets +onlyGivenNames -merge u3 u4 u5
  have hu5 : Moves 0x1EF7D3C s u5 := .then (State.setLnk_moves ..) rfl hu0
  clear_value u5
  exact .pwr _ rfl hu5

theorem execBridgeRetrainDone_moves (n : BankId) (ok : Bool) (wires : WireTest) (s : State) : MovesR 0x3EF7D3C s (execBridgeRetrainDone n ok wires s) := by
  unfold execBridgeRetrainDone
  extract_lets +onlyGivenNames -merge u0
  refine .ite (.next <| .refl ..) ?_
  split
  · rename_i x1 x2 x3
    exact .next <| .then (State.retryWaiting_moves ..) rfl <| .then (State.judgeWaiting_moves ..) rfl <| .then (State.hubEvent_moves ..) rfl <| .then
      (State.bridgeBack_moves ..) rfl <| MovesO.of (.ite (.then (State.trainBridge_moves _ _ _ _) rfl <| .refl ..) .none) x3
  · extract_lets +onlyGivenNames -merge u6 u7
    have hu7 : Moves 0x3EF7D3C s u7 := .ite (.then (State.wiresOut_moves ..) rfl <| .refl ..) (.refl ..)
    clear_value u7
    extract_lets +onlyGivenNames -merge u8
    have hu8 : Moves 0x3EF7D3C s u8 := .then (State.setBank_moves ..) rfl hu7
    clear_value u8
    exact .ite (.next hu8) (.next <| .then (State.judgeWaiting_moves ..) rfl <| .then (State.loseBank_moves ..) rfl <| .then (State.bridgeFails_moves ..) rfl
      hu8)

theorem execBankResetDone_moves (n : BankId) (ok : Bool) (wires : WireTest) (fuse : Option FuseRecord) (badEngines : List Nat) (badSfu : Bool) (s : State) :
  MovesR 0x3FF7F3C s (execBankResetDone n ok wires fuse badEngines badSfu s) := by
  unfold execBankResetDone
  refine .ite (.next <| .refl ..) ?_
  split
  · rename_i x0 x1 x2
    extract_lets +onlyGivenNames -merge u3 u4
    have hu4 : Moves 0x3FF7F3C s u4 := .then (State.emptyCache_moves ..) rfl <| .then (State.lostBit_moves ..) rfl <| .then (State.lostBit_moves ..) rfl <|
      .then (State.zeroPad_moves ..) rfl <| MovesO.of (.ite (.then (State.bankTrains_moves _ _ _ _ _) rfl <| .refl ..) .none) x2
    clear_value u4
    extract_lets +onlyGivenNames -merge u5 u6
    have hu6 : Moves 0x3FF7F3C s u6 := .ite (.then (State.setBank_moves ..) rfl <| .then (State.rootsLostOn_moves ..) rfl <| .then (State.lostBit_moves ..)
      rfl <| .then (State.zeroStacks_moves ..) rfl hu4) hu4
    clear_value u6
    extract_lets +onlyGivenNames -merge u7
    have hu7 : Moves 0x3FF7F3C s u7 := .then (State.clearAging_moves ..) rfl hu6
    clear_value u7
    exact .next <| .then (State.retryWaiting_moves ..) rfl <| .then (State.hubEvent_moves ..) rfl <| .then (State.bankActive_moves ..) rfl hu7
  · exact .next <| .then (State.bankFails_moves ..) rfl <| .ite (.then (State.wiresOut_moves ..) rfl <| .refl ..) (.refl ..)

/-! ### Machine/Host.lean -/

theorem State.pollBlock_moves (s : State) (b : Nat) : Moves 0x808 s (State.pollBlock s b) := by
  unfold State.pollBlock
  exact .ite (.refl ..) (.then (State.send_moves ..) rfl <| .host _ rfl ⟨rfl, rfl⟩ <| .refl ..)

theorem State.pollBoth_moves (s : State) : Moves 0x808 s (State.pollBoth s) := by
  unfold State.pollBoth
  exact .foldl _ (.refl ..) fun _ _ hx0 => .then (State.pollBlock_moves ..) rfl hx0

theorem State.fetch_moves (s : State) (c : Nat) : Moves 0x1008 s (State.fetch s c) := by
  unfold State.fetch
  extract_lets +onlyGivenNames -merge u0 u1 u2
  exact .ite (.then (State.send_moves ..) rfl <| .then (State.setRing_moves ..) rfl <| .refl ..) (.refl ..)

theorem State.fetchAll_moves (s : State) : Moves 0x1001008 s (State.fetchAll s) := by
  unfold State.fetchAll
  exact .then (State.noteIdle_moves ..) rfl <| .foldl _ (.refl ..) fun _ _ hx0 => .then (State.fetch_moves ..) rfl hx0

theorem execDoorbellPoll_moves (t : Nat) (s : State) : MovesR 0x80A s (execDoorbellPoll t s) := by
  unfold execDoorbellPoll
  extract_lets +onlyGivenNames -merge u0
  have hu0 : Moves 0x80A s u0 := .then (State.reachClk_moves ..) rfl <| .refl ..
  clear_value u0
  refine .next ?_
  refine .ite hu0 ?_
  split
  · exact .then (State.pollBoth_moves ..) rfl <| .host _ rfl ⟨rfl, rfl⟩ hu0
  · exact .then (State.pollBoth_moves ..) rfl <| .host _ rfl ⟨rfl, rfl⟩ hu0
  · exact hu0
  · exact .ite (.then (State.pollBoth_moves ..) rfl <| .host _ rfl ⟨rfl, rfl⟩ hu0) hu0

theorem State.doorbellFailed_moves (s : State) : Moves 0x1083C s (State.doorbellFailed s) := by
  unfold State.doorbellFailed
  extract_lets +onlyGivenNames -merge u0 u1 u2
  have hu2 : Moves 0x1083C s u2 := .then (State.bump_moves ..) rfl <| .host _ rfl ⟨rfl, rfl⟩ <| .refl ..
  clear_value u2
  refine .ite ?_ ?_
  · split
    rename_i x3 x4 x5 x6
    exact .then (State.alert_moves ..) rfl <| .then (State.event_moves ..) rfl <| MovesP.of (.then (State.takeFree_moves ..) rfl hu2) x6
  · exact hu2

theorem State.doorbellWord_moves (s : State) (c : Nat) (tail : Nat) : Moves 0x1EF7D3C s (State.doorbellWord s c tail) := by
  unfold State.doorbellWord
  extract_lets +onlyGivenNames -merge u0
  exact .ite (.refl ..) (.ite (.then (State.schedule_moves ..) rfl <| .then (State.contextFault_moves ..) rfl <| .refl ..) (.then (State.setRing_moves ..)
    rfl <| .refl ..))

theorem State.dbReturned_moves (s : State) (b : Nat) : Moves 0x808 s (State.dbReturned s b) := by
  unfold State.dbReturned
  extract_lets +onlyGivenNames -merge u0 u1 u2
  have hu2 : Moves 0x808 s u2 := .host _ rfl ⟨rfl, rfl⟩ <| .refl ..
  clear_value u2
  exact .ite (.then (State.pollBlock_moves ..) rfl hu2) hu2

theorem execDoorbellReadDone_moves (b : Fin 2) (data : Option (List Byte)) (s : State) : MovesR 0x3EF7D3C s (execDoorbellReadDone b data s) := by
  unfold execDoorbellReadDone
  refine .ite (.next <| .refl ..) ?_
  extract_lets +onlyGivenNames -merge u0
  have hu0 : Moves 0x3EF7D3C s u0 := .then (State.dbReturned_moves ..) rfl <| .refl ..
  clear_value u0
  refine .ite (.next hu0) ?_
  split
  · exact .next <| .then (State.doorbellFailed_moves ..) rfl hu0
  · extract_lets +onlyGivenNames -merge u4 u5
    have hu5 : Moves 0x3EF7D3C s u5 := .host _ rfl ⟨rfl, rfl⟩ hu0
    clear_value u5
    extract_lets +onlyGivenNames -merge u6 u7
    have hu7 : Moves 0x3EF7D3C s u7 := .foldl _ hu5 fun _ _ hx8 => .then (State.doorbellWord_moves ..) rfl hx8
    clear_value u7
    extract_lets +onlyGivenNames -merge u10
    have hu10 : Moves 0x3EF7D3C s u10 := .ite (.then (State.beginExit_moves ..) rfl hu7) hu7
    clear_value u10
    exact .next <| .then (State.noteIdle_moves ..) rfl <| .foldl _ hu10 fun _ _ hx11 => .then (State.fetch_moves ..) rfl hx11

theorem State.wake_moves (s : State) : Moves 0x3000808 s (State.wake s) := by
  unfold State.wake
  extract_lets +onlyGivenNames -merge u0
  have hu0 : Moves 0x3000808 s u0 := .then (State.beginExit_moves ..) rfl <| .refl ..
  clear_value u0
  refine .ite ?_ ?_
  · extract_lets +onlyGivenNames -merge u1
    exact .then (State.pollBoth_moves ..) rfl <| .host _ rfl ⟨rfl, rfl⟩ hu0
  · exact hu0

theorem execHubWakePoll_moves (s : State) : MovesR 0x30008E8 s (execHubWakePoll s) := by
  unfold execHubWakePoll
  exact .next <| State.onWrite_moves rfl (.refl ..) (fun x0 hx1 => .then (State.wake_moves ..) rfl hx1)

theorem State.fetchFailed_moves (s : State) (c : Nat) : Moves 0x1EF7D3C s (State.fetchFailed s c) := by
  unfold State.fetchFailed
  extract_lets +onlyGivenNames -merge u0
  exact .then (State.schedule_moves ..) rfl <| .then (State.contextFault_moves ..) rfl <| .refl ..

theorem State.takeDescs_moves (s : State) (c : Nat) (ds : List (List DWord)) : Moves 0x1800 s (State.takeDescs s c ds) := by
  unfold State.takeDescs
  extract_lets +onlyGivenNames -merge u0 u1 u2 u3
  have hu3 : Moves 0x1800 s u3 := .host _ rfl ⟨rfl, rfl⟩ <| .refl ..
  clear_value u3
  exact .then (State.noteReady_moves ..) rfl <| .then (State.setRing_moves ..) rfl hu3

theorem execDescriptorFetchDone_moves (c : CtxId) (data : Option (List (List DWord))) (s : State) :
    MovesR 0x1EF7D3C s (execDescriptorFetchDone c data s) := by
  unfold execDescriptorFetchDone
  extract_lets +onlyGivenNames -merge u0
  refine .ite (.next <| .refl ..) ?_
  refine .ite (.next <| .then (State.setRing_moves ..) rfl <| .refl ..) ?_
  split
  · exact .next <| .then (State.fetchFailed_moves ..) rfl <| .then (State.setRing_moves ..) rfl <| .refl ..
  · exact .next <| .ite (.then (State.fetch_moves ..) rfl <| .then (State.takeDescs_moves ..) rfl <| .refl ..) (.refl ..)

theorem execDescriptorComplete_moves (c : CtxId) (idx : Nat) (s : State) : MovesR 0x10C143C s (execDescriptorComplete c idx s) := by
  unfold execDescriptorComplete
  split
  · split
    · exact .next <| .ite (.refl ..) (.then (State.schedule_moves ..) rfl <| .then (State.fetch_moves ..) rfl <| .then (State.noteReady_moves ..) rfl <|
        .then (State.complete_moves ..) rfl <| .refl ..)
    · exact .next <| .refl ..
  · exact .next <| .refl ..

theorem State.takeHead_moves (s : State) (c : Nat) (h : Nat) : Moves 0x1000 s (State.takeHead s c h) := by
  unfold State.takeHead
  extract_lets +onlyGivenNames -merge u0
  exact .ite (.refl ..) (.then (State.setRing_moves ..) rfl <| .refl ..)

theorem State.takeHeads_moves (s : State) (bs : List Byte) : Moves 0x1038 s (State.takeHeads s bs) := by
  unfold State.takeHeads
  exact .foldl _ (.refl ..) fun _ _ hx0 => .then (State.writeCpls_moves ..) rfl <| .then (State.takeHead_moves ..) rfl hx0

theorem State.takeEvqHead_moves (s : State) (h : Nat) : Moves 0x838 s (State.takeEvqHead s h) := by
  unfold State.takeEvqHead
  exact .then (State.writeEvents_moves ..) rfl <| .host _ rfl ⟨rfl, rfl⟩ <| .refl ..

theorem execCompletionHeadRead_moves (data : Option (List Byte)) (s : State) : MovesR 0x1001838 s (execCompletionHeadRead data s) := by
  unfold execCompletionHeadRead
  refine .ite (.next <| .refl ..) ?_
  extract_lets +onlyGivenNames -merge u0 u1
  have hu1 : Moves 0x1001838 s u1 := .then (State.send_moves ..) rfl <| .host _ rfl ⟨rfl, rfl⟩ <| .refl ..
  clear_value u1
  split
  · exact .next hu1
  · exact .next <| .then (State.fetchAll_moves ..) rfl <| .then (State.takeEvqHead_moves ..) rfl <| .then (State.takeHeads_moves ..) rfl hu1

theorem execIrqDelayExpiry_moves (c : CtxId) (t : Nat) (s : State) : MovesR 0x103A s (execIrqDelayExpiry c t s) := by
  unfold execIrqDelayExpiry
  extract_lets +onlyGivenNames -merge u0
  have hu0 : Moves 0x103A s u0 := .then (State.reachClk_moves ..) rfl <| .refl ..
  clear_value u0
  extract_lets +onlyGivenNames -merge u1
  refine .next ?_
  split
  · exact .ite (.then (State.signalRing_moves ..) rfl hu0) hu0
  · exact hu0

theorem State.hostBack_moves (s : State) : Moves 0x1001838 s (State.hostBack s) := by
  unfold State.hostBack
  extract_lets +onlyGivenNames -merge u0
  have hu0 : Moves 0x1001838 s u0 := .foldl _ (.refl ..) fun _ _ hx1 => .then (State.writeCpls_moves ..) rfl hx1
  clear_value u0
  exact .then (State.fetchAll_moves ..) rfl <| .then (State.writeEvents_moves ..) rfl hu0

theorem State.sendHeld_moves (s : State) : Moves 0x18 s (State.sendHeld s) := by
  exact ⟨fun p => by cases p <;> first | exact fun _ => rfl | exact bit_in rfl, rfl, Nat.le_refl _, Nat.le_refl _, List.suffix_append _ _,
    fun i => ⟨i.mem, i.regs, i.evq, i.lost, i.retained, i.addr, i.tables⟩⟩

theorem execPcieLinkReturn_moves (width : Nat) (speed : Nat) (s : State) : MovesR 0x1001838 s (execPcieLinkReturn width speed s) := by
  unfold execPcieLinkReturn
  refine .ite (.next <| .refl ..) ?_
  extract_lets +onlyGivenNames -merge u0 u1
  have hu1 : Moves 0x1001838 s u1 := .host _ rfl ⟨rfl, rfl⟩ <| .refl ..
  clear_value u1
  exact .next <| .then (State.hostBack_moves ..) rfl <| .then (State.sendHeld_moves ..) rfl hu1

theorem execD3hotEntry_moves (s : State) : MovesR 0x800 s (execD3hotEntry s) := by
  unfold execD3hotEntry
  exact .next <| .ite (.refl ..) (.host _ rfl ⟨rfl, rfl⟩ <| .refl ..)

theorem execD0Return_moves (s : State) : MovesR 0x1001838 s (execD0Return s) := by
  unfold execD0Return
  exact .next <| .then (State.hostBack_moves ..) rfl <| .host _ rfl ⟨rfl, rfl⟩ <| .refl ..

theorem State.writeRingCfg_moves (c : Nat) (v : Word) (who : Reader) (s : State) : Moves 0x1020 s (State.writeRingCfg c v who s) := by
  unfold State.writeRingCfg
  extract_lets +onlyGivenNames -merge u0 u1 u2 u3 u4 u5
  refine .ite (.then (State.locked_moves ..) rfl <| .refl ..) ?_
  refine .ite (.ite (.then (State.setRing_moves ..) rfl <| .then (State.setReg_moves ..) rfl <| .refl ..) (.then (State.locked_moves ..) rfl <| .refl ..)) ?_
  refine .ite (.then (State.setReg_moves ..) rfl <| .refl ..) ?_
  extract_lets +onlyGivenNames -merge u6
  have hu6 : Moves 0x1020 s u6 := .then (State.setReg_moves ..) rfl <| .refl ..
  clear_value u6
  split
  · exact .then (State.drained_moves ..) rfl <| .then (State.setRing_moves ..) rfl hu6
  · exact .then (State.setRing_moves ..) rfl hu6
  · exact hu6

theorem execRingEnable_moves (c : CtxId) (v : Word) (s : State) : MovesR 0x10E0 s (execRingEnable c v s) := by
  unfold execRingEnable
  exact .next <| State.onWrite_moves rfl (.refl ..) (fun x0 hx1 => .then (State.writeRingCfg_moves ..) rfl hx1)

theorem execRingDisable_moves (c : CtxId) (v : Word) (s : State) : MovesR 0x10E0 s (execRingDisable c v s) := by
  unfold execRingDisable
  exact .next <| State.onWrite_moves rfl (.refl ..) (fun x0 hx1 => .then (State.writeRingCfg_moves ..) rfl hx1)

theorem State.noteWritten_moves (s : State) (off : Nat) : Moves 0x800 s (State.noteWritten s off) := by
  unfold State.noteWritten
  exact .ite (.refl ..) (.host _ rfl ⟨rfl, rfl⟩ <| .refl ..)

theorem State.writeEvqCfg_moves (v : Word) (who : Reader) (s : State) : Moves 0x838 s (State.writeEvqCfg v who s) := by
  unfold State.writeEvqCfg
  extract_lets +onlyGivenNames -merge u0 u1 u2
  refine .ite (.then (State.locked_moves ..) rfl <| .refl ..) ?_
  refine .ite ?_ ?_
  · refine .ite ?_ ?_
    · extract_lets +onlyGivenNames -merge u3
      have hu3 : Moves 0x838 s u3 := .then (State.noteWritten_moves ..) rfl <| .then (State.setReg_moves ..) rfl <| .refl ..
      clear_value u3
      exact .then (State.writeEvents_moves ..) rfl <| .host _ rfl ⟨rfl, rfl⟩ hu3
    · exact .then (State.locked_moves ..) rfl <| .refl ..
  · exact .then (State.noteWritten_moves ..) rfl <| .then (State.setReg_moves ..) rfl <| .refl ..

theorem execEvqEnable_moves (v : Word) (s : State) : MovesR 0x8F8 s (execEvqEnable v s) := by
  unfold execEvqEnable
  exact .next <| State.onWrite_moves rfl (.refl ..) (fun x0 hx1 => .then (State.writeEvqCfg_moves ..) rfl hx1)

/-! ### Machine/Context.lean -/

theorem State.clearCounters_moves (s : State) (c : Nat) : Moves 0x20 s (State.clearCounters s c) := by
  unfold State.clearCounters
  exact .foldl _ (.refl ..) fun _ _ hx0 => .then (State.setReg_moves ..) rfl hx0

theorem State.openContext_moves (c : Nat) (who : Reader) (s : State) : Moves 0x2020 s (State.openContext c who s) := by
  unfold State.openContext
  refine .ite ?_ ?_
  · extract_lets +onlyGivenNames -merge u0 u1
    exact .then (State.setCtx_moves ..) rfl <| .then (State.setVt_moves ..) rfl <| .then (State.clearCounters_moves ..) rfl <| .refl ..
  · exact .then (State.locked_moves ..) rfl <| .refl ..

theorem State.closeContext_moves (c : Nat) (who : Reader) (s : State) : Moves 0x1EF7D3C s (State.closeContext c who s) := by
  unfold State.closeContext
  refine .ite (.then (State.locked_moves ..) rfl <| .refl ..) ?_
  split
  · extract_lets +onlyGivenNames -merge u2
    have hu2 : Moves 0x1EF7D3C s u2 := .then (State.fenceContext_moves ..) rfl <| .then (State.dropWork_moves ..) rfl <| .refl ..
    clear_value u2
    exact .then (State.schedule_moves ..) rfl <| .then (State.setCtx_moves ..) rfl hu2
  · exact .then (State.setCtx_moves ..) rfl <| .refl ..
  · exact .then (State.locked_moves ..) rfl <| .refl ..

theorem State.tearDown_moves (c : Nat) (who : Reader) (s : State) : Moves 0x1EF7D3C s (State.tearDown c who s) := by
  unfold State.tearDown
  exact .ite (.then (State.schedule_moves ..) rfl <| .then (State.contextFault_moves ..) rfl <| .refl ..) (.then (State.locked_moves ..) rfl <| .refl ..)

theorem execCtxOpen_moves (c : CtxId) (s : State) : MovesR 0x20E0 s (execCtxOpen c s) := by
  unfold execCtxOpen
  exact .next <| State.onWrite_moves rfl (.refl ..) (fun x0 hx1 => .then (State.openContext_moves ..) rfl hx1)

theorem execCtxClose_moves (c : CtxId) (s : State) : MovesR 0x1EF7DFC s (execCtxClose c s) := by
  unfold execCtxClose
  exact .next <| State.onWrite_moves rfl (.refl ..) (fun x0 hx1 => .then (State.closeContext_moves ..) rfl hx1)

theorem execCtxTeardown_moves (c : CtxId) (s : State) : MovesR 0x1EF7DFC s (execCtxTeardown c s) := by
  unfold execCtxTeardown
  exact .next <| State.onWrite_moves rfl (.refl ..) (fun x0 hx1 => .then (State.tearDown_moves ..) rfl hx1)

theorem execTeardownDone_moves (c : CtxId) (s : State) : MovesR 0x2020 s (execTeardownDone c s) := by
  unfold execTeardownDone
  extract_lets +onlyGivenNames -merge u0 u1
  exact .next <| .ite (.foldl _ (.then (State.setCtx_moves ..) rfl <| .refl ..) fun _ _ hx2 => .then (State.lostBit_moves ..) rfl hx2) (.refl ..)

/-! ### Machine/Copy.lean -/

theorem State.freeBytes_moves (s : State) (n : Nat) : MovesP 0x4 s (State.freeBytes s n) := by
  unfold State.freeBytes
  exact .mk <| .freeUp _ rfl <| .refl ..

theorem State.putEnd_moves (s : State) (c : Nat) (idx : Nat) (va : Nat) (host : Bool) (relaxed : Bool) (bs : List Byte) : MovesF 0x4B0D3C s (State.putEnd s c idx
  va host relaxed bs) := by
  unfold State.putEnd
  exact .ite (.mk <| .ite (.refl ..) (.then (State.toHost_moves ..) rfl <| .refl ..)) (.then (State.outWrite_moves ..) rfl <| .refl ..)

theorem State.endMove_moves (s : State) (c : Nat) (d : Desc) (va : Nat) (host : Bool) (bs : List Byte) (counts : List Nat) : Moves 0x1EF7D3C s (State.endMove s c d
  va host bs counts) := by
  unfold State.endMove
  split
  · rename_i x0 x1 x2 x3
    exact .then (State.faultDesc_moves ..) rfl <| MovesF.of (.then (State.putEnd_moves ..) rfl <| .refl ..) x3
  · rename_i x4 x5 x6
    extract_lets +onlyGivenNames -merge u7
    have hu7 : Moves 0x1EF7D3C s u7 := .then (State.chargeDesc_moves ..) rfl <| MovesF.of (.then (State.putEnd_moves ..) rfl <| .refl ..) x6
    clear_value u7
    split
    · exact .then (State.finishOk_moves ..) rfl hu7
    · exact hu7

theorem execNop_moves (c : CtxId) (s : State) : MovesR 0x101583C s (execNop c s) := by
  unfold execNop
  split
  · rename_i x0 x1 x2
    exact .next <| MovesT.ofNo (.then (State.begin_moves ..) rfl <| .refl ..) x2
  · rename_i x3 x4 x5 x6
    split
    rename_i x7 x8 x9 x10
    exact .next <| .then (State.finishOk_moves ..) rfl <| MovesP.of (.then (State.takeFree_moves ..) rfl <| MovesT.ofGo (.then (State.begin_moves ..) rfl <|
      .refl ..) x6) x10

theorem copyStart_moves (c : CtxId) (data : HostData) (s0 : State) : MovesR 0x1EF7D3C s0 (copyStart c data s0) := by
  unfold copyStart
  split
  · rename_i x0 x1 x2
    exact .next <| MovesT.ofNo (.then (State.begin_moves ..) rfl <| .refl ..) x2
  · rename_i x3 x4 x5 x6
    extract_lets +onlyGivenNames -merge u7 u8 u9 u10 u11 u12
    split
    · exact .next <| .then (State.finishFail_moves ..) rfl <| MovesT.ofGo (.then (State.begin_moves ..) rfl <| .refl ..) x6
    · refine .ite ?_ ?_
      · extract_lets +onlyGivenNames -merge u19
        have hu19 : Moves 0x1EF7D3C s0 u19 := .then (State.send_moves ..) rfl <| MovesT.ofGo (.then (State.begin_moves ..) rfl <| .refl ..) x6
        clear_value u19
        split
        · exact .next <| .then (State.schedule_moves ..) rfl <| .then (State.contextFault_moves ..) rfl hu19
        · exact .ite (.next <| .then (State.endMove_moves ..) rfl hu19) (.next <| .refl ..)
      · split
        · refine .ite ?_ ?_
          · split
            rename_i x27 x28 x29 x30
            exact .next <| .then (State.endMove_moves ..) rfl <| MovesP.of (.then (State.freeBytes_moves ..) rfl <| MovesT.ofGo (.then (State.begin_moves ..)
              rfl <| .refl ..) x6) x30
          · exact .next <| .then (State.endMove_moves ..) rfl <| MovesT.ofGo (.then (State.begin_moves ..) rfl <| .refl ..) x6
        · refine .ite (.next <| .then (State.faultDesc_moves ..) rfl <| MovesT.ofGo (.then (State.begin_moves ..) rfl <| .refl ..) x6) ?_
          extract_lets +onlyGivenNames -merge u34
          split
          rename_i x35 x36 x37 x38
          split
          rename_i x39 x40 x41 x42
          exact .next <| .then (State.faultDesc_moves ..) rfl <| MovesF.of (.then (State.putEnd_moves ..) rfl <| MovesP.of (.then (State.takeFree_moves ..)
            rfl <| MovesT.ofGo (.then (State.begin_moves ..) rfl <| .refl ..) x6) x38) x42

theorem execCopy_moves (c : CtxId) (data : HostData) (s : State) : MovesR 0x1EF7D3C s (execCopy c data s) := by
  unfold execCopy
  exact State.starting_moves rfl (.refl ..) (fun x0 hx1 => .then (copyStart_moves _ _ _) rfl hx1)

theorem execFill_moves (c : CtxId) (s : State) : MovesR 0x1EF7D3C s (execFill c s) := by
  unfold execFill
  extract_lets +onlyGivenNames -merge u0
  refine State.starting_moves rfl (.refl ..) (fun x1 hx2 => ?_)
  split
  · rename_i x3 x4 x5
    exact .next <| MovesT.ofNo (.then (State.begin_moves ..) rfl hx2) x5
  · rename_i x6 x7 x8 x9
    split
    · exact .next <| .then (State.finishFail_moves ..) rfl <| MovesT.ofGo (.then (State.begin_moves ..) rfl hx2) x9
    · exact .next <| .then (State.endMove_moves ..) rfl <| MovesT.ofGo (.then (State.begin_moves ..) rfl hx2) x9

theorem State.notify_moves (s : State) (c : Nat) (idx : Nat) (va : Nat) (value : Nat) : Moves 0x410838 s (State.notify s c idx va value) := by
  unfold State.notify
  extract_lets +onlyGivenNames -merge u0 u1
  have hu1 : Moves 0x410838 s u1 := .then (State.setLnk_moves ..) rfl <| .refl ..
  clear_value u1
  split
  · extract_lets +onlyGivenNames -merge u5
    have hu5 : Moves 0x410838 s u5 := .then (State.issueReq_moves ..) rfl hu1
    clear_value u5
    exact .then (State.setLnk_moves ..) rfl hu5
  · exact hu1

theorem execSignal_moves (c : CtxId) (s : State) : MovesR 0x1EF7D3C s (execSignal c s) := by
  unfold execSignal
  extract_lets +onlyGivenNames -merge u0
  refine State.starting_moves rfl (.refl ..) (fun x1 hx2 => ?_)
  split
  · rename_i x3 x4 x5
    exact .next <| MovesT.ofNo (.then (State.begin_moves ..) rfl hx2) x5
  · rename_i x6 x7 x8 x9
    extract_lets +onlyGivenNames -merge u10 u11 u12 u13
    split
    · exact .next <| .then (State.finishFail_moves ..) rfl <| MovesT.ofGo (.then (State.begin_moves ..) rfl hx2) x9
    · extract_lets +onlyGivenNames -merge u20
      refine .ite (.next <| .then (State.finishFail_moves ..) rfl <| MovesT.ofGo (.then (State.begin_moves ..) rfl hx2) x9) ?_
      split
      · rename_i x21 x22 x23 x24
        exact .next <| .then (State.faultDesc_moves ..) rfl <| MovesF.of (.then (State.putEnd_moves ..) rfl <| MovesT.ofGo (.then (State.begin_moves ..) rfl
          hx2) x9) x24
      · rename_i x25 x26 x27
        extract_lets +onlyGivenNames -merge u28
        have hu28 : Moves 0x1EF7D3C s u28 := .then (State.chargeDesc_moves ..) rfl <| MovesF.of (.then (State.putEnd_moves ..) rfl <| MovesT.ofGo (.then
          (State.begin_moves ..) rfl hx2) x9) x27
        clear_value u28
        extract_lets +onlyGivenNames -merge u29
        have hu29 : Moves 0x1EF7D3C s u29 := .ite (.then (State.notify_moves ..) rfl hu28) hu28
        clear_value u29
        split
        · exact .next <| .then (State.finishOk_moves ..) rfl hu29
        · exact .next hu29

theorem State.waitRead_moves (s : State) (c : Nat) (d : Desc) : Moves 0x1EF7D3C s (State.waitRead s c d) := by
  unfold State.waitRead
  split
  · exact .then (State.faultDesc_moves ..) rfl <| .refl ..
  · extract_lets +onlyGivenNames -merge u6
    have hu6 : Moves 0x1EF7D3C s u6 := .then (State.chargeDesc_moves ..) rfl <| .refl ..
    clear_value u6
    split
    · exact hu6
    · exact .ite (.then (State.finishOk_moves ..) rfl hu6) (.then (State.setDesc_moves ..) rfl hu6)

theorem execWait_moves (c : CtxId) (s : State) : MovesR 0x1EF7D3C s (execWait c s) := by
  unfold execWait
  refine State.starting_moves rfl (.refl ..) (fun x0 hx1 => ?_)
  split
  · rename_i x2 x3 x4
    exact .next <| MovesT.ofNo (.then (State.begin_moves ..) rfl hx1) x4
  · rename_i x5 x6 x7 x8
    split
    · exact .next <| .then (State.finishFail_moves ..) rfl <| MovesT.ofGo (.then (State.begin_moves ..) rfl hx1) x8
    · exact .next <| .then (State.waitRead_moves ..) rfl <| MovesT.ofGo (.then (State.begin_moves ..) rfl hx1) x8

theorem execWaitPoll_moves (c : CtxId) (s : State) : MovesR 0x1EF7D3C s (execWaitPoll c s) := by
  unfold execWaitPoll
  split
  · exact .next <| .refl ..
  · exact State.remotely_moves rfl (.refl ..) (fun x5 hx6 => .next <| .then (State.waitRead_moves ..) rfl hx6)

theorem execWaitTimeout_moves (c : CtxId) (s : State) : MovesR 0x1001020 s (execWaitTimeout c s) := by
  unfold execWaitTimeout
  split
  · exact .next <| .refl ..
  · extract_lets +onlyGivenNames -merge u5
    exact .ite (.next <| .then (State.finish_moves ..) rfl <| .refl ..) (.next <| .refl ..)

theorem execHostReadTimeout_moves (r : HostRead) (s : State) : MovesR 0x1EF7D3E s (execHostReadTimeout r s) := by
  unfold execHostReadTimeout
  split
  · split
    · exact .next <| .then (State.doorbellFailed_moves ..) rfl <| .then (State.dbReturned_moves ..) rfl <| .then (State.reachClk_moves ..) rfl <| .refl ..
    · exact .next <| .refl ..
  · exact .ite (.next <| .refl ..) (.then (execDescriptorFetchDone_moves _ _ _) rfl <| .then (State.reachClk_moves ..) rfl <| .refl ..)
  · exact .next <| .then (State.reachClk_moves ..) rfl <| .refl ..
  · extract_lets +onlyGivenNames -merge u14
    have hu14 : Moves 0x1EF7D3E s u14 := .then (State.reachClk_moves ..) rfl <| .refl ..
    clear_value u14
    split
    · exact .next hu14
    · exact .ite (.next hu14) (.ite (.then (copyStart_moves _ _ _) rfl hu14) (.ite (.then (dawnStart_moves _ _ _ _) rfl hu14) (.next hu14)))

end Sys2Proof.Machine
end

