-- ==== Sys2Proof/Laws/MovesReset.lean ====
section
/-! SUPPORT. Laws/MovesReset.lean: what each operation and meaning of resets, self-repair, power and memory errors can do (Laws/Moves.lean says what the relation means):
the least mask of parts it changes, one lemma per definition. -/

namespace Sys2Proof.Machine

/-! ### Machine/Reset.lean -/

theorem State.noteReset_moves (s : State) (kind : Nat) : Moves 0x8000 s (State.noteReset s kind) := by
  unfold State.noteReset
  exact .boot _ rfl <| .refl ..

theorem State.cutAllBallast_moves (s : State) : Moves 0x1080024 s (State.cutAllBallast s) := by
  unfold State.cutAllBallast
  exact .foldl _ (.refl ..) fun _ _ hx0 => .then (State.cutBallast_moves ..) rfl hx0

theorem State.dropHost_moves (s : State) : Moves 0x810 s (State.dropHost s) := by
  unfold State.dropHost
  have h : Moves 0x810 s { s with held := [] } := .held [] rfl (.refl _ s)
  exact .hostIn (s := { s with held := [] }) _ rfl (fun v => ⟨Nat.zero_le _, v.lost⟩) h

theorem State.calmPower_moves (s : State) : Moves 0x1000000 s (State.calmPower s) := by
  unfold State.calmPower
  exact .pwr _ rfl <| .refl ..

theorem State.dropOffers_moves (s : State) : Moves 0x200000 s (State.dropOffers s) := by
  unfold State.dropOffers
  exact .then (State.setCmb_moves ..) rfl <| .refl ..

theorem State.coldStart_moves (s : State) (kind : Nat) : Moves 0x3FFFFF0 s (State.coldStart s kind) := by
  unfold State.coldStart
  exact ⟨fun p => by cases p <;> first | exact fun _ => rfl | exact bit_in rfl, rfl, Nat.le_refl _, Nat.le_refl _, List.suffix_refl _,
    fun i => ⟨rfl, rfl, Nat.zero_le _, Nat.zero_le _, i.retained, i.addr, rfl, rfl, rfl, rfl, rfl⟩⟩

theorem State.sampleStraps_moves (s : State) (straps : Nat) : Moves 0x18000 s (State.sampleStraps s straps) := by
  unfold State.sampleStraps
  exact .boot { s.boot with sstatTerm := bitAt straps 2, testMode := bitAt straps 3 } rfl <|
    .mgtIn { s.mgt with addr := 0x58 + straps % 4 } rfl (fun _ => by show 0x58 ≤ 0x58 + straps % 4 ∧ 0x58 + straps % 4 ≤ 0x5B; omega) <| .refl _ s

theorem execPowerOn_moves (straps : Nat) (s : State) : MovesR 0x3FFFFF0 s (execPowerOn straps s) := by
  unfold execPowerOn
  extract_lets +onlyGivenNames -merge u0 u1
  have hu1 : Moves 0x3FFFFF0 s u1 := .boot _ rfl <| .refl ..
  clear_value u1
  exact .next <| .ite (.then (State.coldStart_moves ..) rfl <| .then (State.sampleStraps_moves ..) rfl hu1) (.boot _ rfl hu1)

theorem State.holdReset_moves (s : State) : Moves 0x3FFFFF0 s (State.holdReset s) := by
  unfold State.holdReset
  extract_lets +onlyGivenNames -merge u0 u1
  have hu1 : Moves 0x3FFFFF0 s u1 := .boot _ rfl <| .refl ..
  clear_value u1
  extract_lets +onlyGivenNames -merge u2
  have hu2 : Moves 0x3FFFFF0 s u2 := .then (State.coldStart_moves ..) rfl hu1
  clear_value u2
  exact .boot _ rfl hu2

theorem execPkgRstNAssert_moves (ns : Nat) (s : State) : MovesR 0x3FFFFF4 s (execPkgRstNAssert ns s) := by
  unfold execPkgRstNAssert
  refine .ite (.next <| .refl ..) ?_
  refine .ite (.next <| .then (State.holdReset_moves ..) rfl <| .refl ..) ?_
  split
  rename_i x0 x1 x2 x3
  exact .next <| .ite (MovesP.of (.then (State.takeFree_moves ..) rfl <| .refl ..) x3) (.then (State.holdReset_moves ..) rfl <| MovesP.of (.then
    (State.takeFree_moves ..) rfl <| .refl ..) x3)

theorem execPkgRstNRelease_moves (straps : Nat) (s : State) : MovesR 0x7FFFFF0 s (execPkgRstNRelease straps s) := by
  unfold execPkgRstNRelease
  refine .ite (.next <| .refl ..) ?_
  extract_lets +onlyGivenNames -merge u0 u1 u2
  have hu2 : Moves 0x7FFFFF0 s u2 := .upd (fun p => by cases p <;> first | exact fun _ => rfl | exact bit_in rfl) rfl <| .refl ..
  clear_value u2
  exact .next <| .ite (.then (State.coldStart_moves ..) rfl <| .then (State.sampleStraps_moves ..) rfl hu2) hu2

theorem execColdStartDelay_moves (t : Nat) (s : State) : MovesR 0x3FFFFF2 s (execColdStartDelay t s) := by
  unfold execColdStartDelay
  extract_lets +onlyGivenNames -merge u0
  have hu0 : Moves 0x3FFFFF2 s u0 := .then (State.reachClk_moves ..) rfl <| .refl ..
  clear_value u0
  refine .next ?_
  split
  · exact .ite (.then (State.coldStart_moves ..) rfl hu0) hu0
  · exact hu0

theorem execSupplyBrownout_moves (rail : Fin 20) (s : State) : MovesR 0x3FFFFFC s (execSupplyBrownout rail s) := by
  unfold execSupplyBrownout
  extract_lets +onlyGivenNames -merge u0
  refine .ite ?_ ?_
  · extract_lets +onlyGivenNames -merge u1 u2
    have hu2 : Moves 0x3FFFFFC s u2 := .boot _ rfl <| .refl ..
    clear_value u2
    exact .next <| .then (State.coldStart_moves ..) rfl hu2
  · refine .ite (.next <| .then (State.loseReference_moves ..) rfl <| .refl ..) ?_
    extract_lets +onlyGivenNames -merge u3 u4 u5 u6
    have hu6 : Moves 0x3FFFFFC s u6 := .then (State.setBank_moves ..) rfl <| .refl ..
    clear_value u6
    refine .next ?_
    split
    · exact .then (State.loseBank_moves ..) rfl hu6
    · exact .ite (.then (State.setBank_moves ..) rfl hu6) hu6
    · exact hu6

theorem State.startHostReset_moves (s : State) (kind : Nat) : Moves 0x1EFFD3C s (State.startHostReset s kind) := by
  unfold State.startHostReset
  extract_lets +onlyGivenNames -merge u0
  have hu0 : Moves 0x1EFFD3C s u0 := .then (State.closeRings_moves ..) rfl <| .then (State.closeContexts_moves ..) rfl <| .then (State.noteReset_moves ..)
    rfl <| .refl ..
  clear_value u0
  extract_lets +onlyGivenNames -merge u1
  have hu1 : Moves 0x1EFFD3C s u1 := .then (State.cutAllBallast_moves ..) rfl <| .then (State.calmPower_moves ..) rfl <| .then (State.dropOffers_moves ..)
    rfl <| .then (State.dropHost_moves ..) rfl hu0
  clear_value u1
  exact .upd (fun p => by cases p <;> first | exact fun _ => rfl | exact bit_in rfl) rfl hu1

theorem execPerstAssert_moves (s : State) : MovesR 0x1EFFD3C s (execPerstAssert s) := by
  unfold execPerstAssert
  extract_lets +onlyGivenNames -merge u0 u1
  have hu1 : Moves 0x1EFFD3C s u1 := .host _ rfl ⟨rfl, rfl⟩ <| .refl ..
  exact .next <| .ite hu1 (.then (State.startHostReset_moves ..) rfl hu1)

theorem execFunctionLevelReset_moves (hot : Bool) (s : State) : MovesR 0x1EFFD3C s (execFunctionLevelReset hot s) := by
  unfold execFunctionLevelReset
  refine .ite (.next <| .refl ..) ?_
  extract_lets +onlyGivenNames -merge u0
  have hu0 : Moves 0x1EFFD3C s u0 := .then (State.startHostReset_moves ..) rfl <| .refl ..
  clear_value u0
  exact .next <| .host _ rfl ⟨rfl, rfl⟩ hu0

theorem execPcieLinkLoss_moves (ns : Nat) (s : State) : MovesR 0x1EFFD3C s (execPcieLinkLoss ns s) := by
  unfold execPcieLinkLoss
  extract_lets +onlyGivenNames -merge u0 u1
  have hu1 : Moves 0x1EFFD3C s u1 := .host _ rfl ⟨rfl, rfl⟩ <| .refl ..
  exact .next <| .ite (.then (State.startHostReset_moves ..) rfl hu1) hu1

theorem State.hostSettings_moves (s : State) : Moves 0x106183C s (State.hostSettings s) := by
  unfold State.hostSettings
  exact .then (State.emptyCaches_moves ..) rfl <| .then (State.loseRows_moves ..) rfl <| .then (State.portDown_moves ..) rfl <| .then
    (State.dropBindings_moves ..) rfl <| .foldl _ (.refl ..) fun _ _ hx0 => .then (State.loseRoot_moves ..) rfl hx0

theorem State.hostResetOver_moves (s : State) : Moves 0x141883C s (State.hostResetOver s) := by
  unfold State.hostResetOver
  extract_lets u host b t
  have h0 : Moves 0x141883c s { s with boot := { s.boot with hostReset := false } } := .boot _ rfl (.refl _ s)
  have h1 : Moves 0x141883c s { s with boot := { s.boot with hostReset := false }, host := host } :=
    .hostIn (s := { s with boot := { s.boot with hostReset := false } }) host rfl (fun v => ⟨v.evq, Nat.zero_le _⟩) h0
  have ht : Moves 0x141883c s t := .then (State.checkReady_moves ..) rfl h1
  clear_value t
  exact .ite (.then (State.portsDetect_moves ..) rfl ht) ht

theorem execHostResetDone_moves (s : State) : MovesR 0x147983C s (execHostResetDone s) := by
  unfold execHostResetDone
  exact .ite (.next <| .refl ..) (.next <| .then (State.hostResetOver_moves ..) rfl <| .then (State.hostSettings_moves ..) rfl <| .refl ..)

theorem State.enterMidnight_moves (s : State) : Moves 0x3FFFF7C s (State.enterMidnight s) := by
  unfold State.enterMidnight
  refine .ite (.refl ..) ?_
  extract_lets t1 t p1 pwr h1 host b1 boot b2 banks ctxs m1 maps
  have ht : Moves 0x3ffff7c s t := .then (State.flagRoots_moves ..) rfl <| .then (State.loseRows_moves ..) rfl <| .then (State.portsLost_moves ..) rfl <|
    .then (State.dropHost_moves ..) rfl <| .then (State.closeRings_moves ..) rfl <| .then (State.closeContexts_moves ..) rfl <| .refl _ s
  have hb : tabWf (fun _ => Bank.reset) banks = true := tabWf_foldl _ _ _ _ rfl
  have hc : Inv t → tabWf (fun _ => Ctx.reset) ctxs = true := fun i =>
    tabWf_mapFilter _ (fun c => { c with gen := 0 }) _ i.tables.2.2.1
  clear_value t banks ctxs
  refine .then (n := 0x3febf40) (s := t) ?_ rfl ht
  exact ⟨fun p => by cases p <;> first | exact fun _ => rfl | exact bit_in rfl, rfl, Nat.le_refl _, Nat.le_refl _, List.suffix_refl _,
    fun i => ⟨rfl, i.regs, Nat.zero_le _, Nat.zero_le _, i.retained, i.addr, hb, rfl, hc i, rfl, i.tables.2.2.2.2⟩⟩

theorem State.exitMidnight_moves (s : State) : Moves 0x101C83C s (State.exitMidnight s) := by
  unfold State.exitMidnight
  extract_lets +onlyGivenNames -merge u0
  have hu0 : Moves 0x101C83C s u0 := .then (State.noteReset_moves ..) rfl <| .refl ..
  clear_value u0
  extract_lets +onlyGivenNames -merge u1 u2 u3 u4
  have hu4 : Moves 0x101C83C s u4 := .upd (fun p => by cases p <;> first | exact fun _ => rfl | exact bit_in rfl) rfl hu0
  clear_value u4
  exact .foldl _ hu4 fun _ _ hx5 => .then (State.setDp_moves ..) rfl hx5

theorem State.askExit_moves (s : State) : Moves 0x101C83C s (State.askExit s) := by
  unfold State.askExit
  exact .ite (.refl ..) (.ite (.then (State.exitMidnight_moves ..) rfl <| .refl ..) (.pwr _ rfl <| .refl ..))

theorem execPerstDeassert_moves (width : Nat) (speed : Nat) (s : State) : MovesR 0x101C83C s (execPerstDeassert width speed s) := by
  unfold execPerstDeassert
  extract_lets +onlyGivenNames -merge u0 u1 u2
  have hu2 : Moves 0x101C83C s u2 := .upd (fun p => by cases p <;> first | exact fun _ => rfl | exact bit_in rfl) rfl <| .refl ..
  clear_value u2
  exact .next <| .then (State.askExit_moves ..) rfl hu2

theorem State.trip_moves (s : State) : Moves 0x3FFFF7C s (State.trip s) := by
  unfold State.trip
  refine .ite (.refl ..) ?_
  split
  rename_i x0 x1 x2 x3
  split
  rename_i x4 x5 x6 x7
  extract_lets +onlyGivenNames -merge u8 u9
  have hu9 : Moves 0x3FFFF7C s u9 := .pwr _ rfl <| MovesP.of (.then (State.takeFree_moves ..) rfl <| MovesP.of (.then (State.takeFree_moves ..) rfl <| .refl
    ..) x3) x7
  clear_value u9
  exact .then (State.enterMidnight_moves ..) rfl <| .then (State.packageFault_moves ..) rfl hu9

theorem State.clearSwitch_moves (s : State) : Moves 0x400028 s (State.clearSwitch s) := by
  unfold State.clearSwitch
  extract_lets +onlyGivenNames -merge u0
  have hu0 : Moves 0x400028 s u0 := by
    unfold u0
    refine .foldl _ (.refl ..) fun x1 _ hx1 => ?_
    extract_lets +onlyGivenNames -merge u3
    exact .foldl _ (.then (State.setPort_moves ..) rfl hx1) fun _ _ hx4 => .then (State.giveCredit_moves ..) rfl hx4
  clear_value u0
  exact .then (State.setLnk_moves ..) rfl hu0

theorem State.retrainAll_moves (s : State) : Moves 0x41483C s (State.retrainAll s) := by
  unfold State.retrainAll
  refine .foldl _ (.refl ..) fun x0 _ hx0 => ?_
  split
  · exact .then (State.askRetrain_moves ..) rfl hx0
  · exact .then (State.beginRetrain_moves ..) rfl hx0
  · exact .then (State.detectPort_moves ..) rfl hx0
  · exact hx0

theorem State.warmSteps_moves (s : State) : Moves 0x3EFFD3C s (State.warmSteps s) := by
  unfold State.warmSteps
  extract_lets +onlyGivenNames -merge u0
  have hu0 : Moves 0x3EFFD3C s u0 := .then (State.cutAllBallast_moves ..) rfl <| .then (State.calmPower_moves ..) rfl <| .then (State.dropOffers_moves ..)
    rfl <| .then (State.dropHost_moves ..) rfl <| .then (State.closeRings_moves ..) rfl <| .then (State.closeContexts_moves ..) rfl <| .refl ..
  clear_value u0
  extract_lets +onlyGivenNames -merge u1
  have hu1 : Moves 0x3EFFD3C s u1 := .then (State.clearSwitch_moves ..) rfl <| .then (State.retrainAll_moves ..) rfl hu0
  clear_value u1
  exact .then (State.goDown_moves ..) rfl <| .upd (fun p => by cases p <;> first | exact fun _ => rfl | exact bit_in rfl) rfl hu1

theorem State.startWarm_moves (s : State) (kind : Nat) : Moves 0x3EFFD3C s (State.startWarm s kind) := by
  unfold State.startWarm
  extract_lets +onlyGivenNames -merge u0
  have hu0 : Moves 0x3EFFD3C s u0 := .then (State.noteReset_moves ..) rfl <| .refl ..
  clear_value u0
  extract_lets +onlyGivenNames -merge u1 u2 u3
  have hu3 : Moves 0x3EFFD3C s u3 := .boot _ rfl hu0
  clear_value u3
  exact .ite hu3 (.then (State.warmSteps_moves ..) rfl hu3)

theorem State.writeResetCmd_moves (v : Word) (who : Reader) (s : State) : Moves 0x3EFFD3C s (State.writeResetCmd v who s) := by
  unfold State.writeResetCmd
  exact .ite (.refl ..) (.ite (.then (State.startWarm_moves ..) rfl <| .refl ..) (.then (State.locked_moves ..) rfl <| .refl ..))

theorem execWarmReset_moves (v : Word) (s : State) : MovesR 0x3EFFDFC s (execWarmReset v s) := by
  unfold execWarmReset
  exact .next <| State.onWrite_moves rfl (.refl ..) (fun x0 hx1 => .then (State.writeResetCmd_moves ..) rfl hx1)

theorem State.bankReturns_moves (s : State) (n : Nat) (u : BankUp) (warm : Bool) : Moves 0x3FF7F3C s (State.bankReturns s n u warm) := by
  unfold State.bankReturns
  refine .ite (.refl ..) ?_
  split
  · rename_i x0 x1 x2
    extract_lets +onlyGivenNames -merge u3 u4
    have hu4 : Moves 0x3FF7F3C s u4 := .then (State.emptyCache_moves ..) rfl <| MovesO.of (.ite (.then (State.bankTrains_moves _ _ _ _ _) rfl <| .refl ..)
      .none) x2
    clear_value u4
    extract_lets +onlyGivenNames -merge u5
    have hu5 : Moves 0x3FF7F3C s u5 := .ite (.then (State.queuedRows_moves ..) rfl <| .then (State.zeroPad_moves ..) rfl hu4) hu4
    clear_value u5
    extract_lets +onlyGivenNames -merge u6 u7
    have hu7 : Moves 0x3FF7F3C s u7 := .ite (.then (State.setBank_moves ..) rfl <| .then (State.rootsLostOn_moves ..) rfl <| .then (State.lostBit_moves ..)
      rfl <| .then (State.zeroStacks_moves ..) rfl hu5) hu5
    clear_value u7
    exact .then (State.bankActive_moves ..) rfl hu7
  · exact .then (State.bankFails_moves ..) rfl <| .ite (.then (State.wiresOut_moves ..) rfl <| .refl ..) (.refl ..)

theorem State.banksReturn_moves (s : State) (banks : List BankUp) (warm : Bool) : Moves 0x3FF7F3C s (State.banksReturn s banks warm) := by
  unfold State.banksReturn
  exact .foldl _ (.refl ..) fun _ _ hx0 => .ite (.then (State.bankReturns_moves ..) rfl hx0) hx0

theorem State.warmSettings_moves (s : State) : Moves 0x20 s (State.warmSettings s) := by
  unfold State.warmSettings
  extract_lets +onlyGivenNames -merge u0
  have hu0 : Moves 0x20 s u0 := .then (State.loseRows_moves ..) rfl <| .refl ..
  clear_value u0
  extract_lets +onlyGivenNames -merge u1
  have hu1 : Moves 0x20 s u1 := .then (State.lostBit_moves ..) rfl <| .then (State.lostBit_moves ..) rfl <| .then (State.setFld_moves ..) rfl <| .then
    (State.setFld_moves ..) rfl hu0
  clear_value u1
  extract_lets +onlyGivenNames -merge u2
  have hu2 : Moves 0x20 s u2 := .foldl _ hu1 fun _ _ hx3 => .then (State.setFld_moves ..) rfl hx3
  clear_value u2
  refine .foldl _ hu2 fun x5 _ hx5 => ?_
  split
  · exact .ite hx5 (.then (State.lostBit_moves ..) rfl <| .then (State.loseRoot_moves ..) rfl hx5)
  · exact .then (State.lostBit_moves ..) rfl <| .then (State.loseRoot_moves ..) rfl hx5

theorem State.warmHalt_moves (s : State) (banks : List BankUp) : Moves 0x18420 s (State.warmHalt s banks) := by
  unfold State.warmHalt
  split
  · extract_lets +onlyGivenNames -merge u4
    exact .then (State.haltBoot_moves ..) rfl <| .refl ..
  · exact .then (State.haltBoot_moves ..) rfl <| .refl ..

theorem State.warmIngest_moves (s : State) : Moves 0x104183C s (State.warmIngest s) := by
  unfold State.warmIngest
  exact .ite (.refl ..) (.then (State.resync_moves ..) rfl <| .refl ..)

theorem State.warmFault_moves (s : State) : Moves 0x4800 s (State.warmFault s) := by
  unfold State.warmFault
  exact .upd (fun p => by cases p <;> first | exact fun _ => rfl | exact bit_in rfl) rfl <| .refl ..

theorem State.warmEnds_moves (s : State) : Moves 0x14FDE3C s (State.warmEnds s) := by
  unfold State.warmEnds
  extract_lets +onlyGivenNames -merge u0
  have hu0 : Moves 0x14FDE3C s u0 := .then (State.elect_moves ..) rfl <| .then (State.afternoon_moves ..) rfl <| .then (State.tryHunt_moves ..) rfl <| .then
    (State.setPower_moves ..) rfl <| .then (State.warmFault_moves ..) rfl <| .then (State.warmIngest_moves ..) rfl <| .then (State.dropBindings_moves ..) rfl
    <| .then (State.emptyCaches_moves ..) rfl <| .then (State.warmSettings_moves ..) rfl <| .refl ..
  clear_value u0
  exact .then (State.scheduleAll_moves ..) rfl <| .ite hu0 (.then (State.checkReady_moves ..) rfl hu0)

theorem State.warmReturn_moves (s : State) (banks : List BankUp) (badCores : List Nat) (badSlices : List Nat) : Moves 0x3FFFF3C s (State.warmReturn s banks
  badCores badSlices) := by
  unfold State.warmReturn
  extract_lets +onlyGivenNames -merge u0
  have hu0 : Moves 0x3FFFF3C s u0 := .then (State.banksReturn_moves ..) rfl <| .then (State.zeroHub_moves ..) rfl <| .then (State.deriveHub_moves ..) rfl <|
    .then (State.takeBanksDown_moves ..) rfl <| .refl ..
  clear_value u0
  exact .boot _ rfl hu0

theorem State.warmOver_moves (s : State) (banks : List BankUp) : Moves 0x14FDE3C s (State.warmOver s banks) := by
  unfold State.warmOver
  exact .ite (.then (State.warmHalt_moves ..) rfl <| .refl ..) (.then (State.warmEnds_moves ..) rfl <| .refl ..)

theorem execWarmResetDone_moves (banks : List BankUp) (badCores : List Nat) (badSlices : List Nat) (s : State) : MovesR 0x3FFFF3C s (execWarmResetDone banks
  badCores badSlices s) := by
  unfold execWarmResetDone
  exact .ite (.next <| .refl ..) (.next <| .then (State.warmOver_moves ..) rfl <| .then (State.warmReturn_moves ..) rfl <| .ite (.then (State.warmSteps_moves
    ..) rfl <| .refl ..) (.refl ..))

theorem execResetTimeout_moves (t : Nat) (s : State) : MovesR 0x1EFFF3E s (execResetTimeout t s) := by
  unfold execResetTimeout
  extract_lets +onlyGivenNames -merge u0
  have hu0 : Moves 0x1EFFF3E s u0 := .then (State.reachClk_moves ..) rfl <| .refl ..
  clear_value u0
  refine .ite ?_ ?_
  · split
    rename_i x1 x2 x3 x4
    split
    rename_i x5 x6 x7 x8
    extract_lets +onlyGivenNames -merge u9 u10
    have hu10 : Moves 0x1EFFF3E s u10 := .boot _ rfl <| MovesP.of (.then (State.takeFree_moves ..) rfl <| MovesP.of (.then (State.takeFree_moves ..) rfl hu0)
      x4) x8
    clear_value u10
    exact .next <| .then (State.packageFault_moves ..) rfl hu10
  · exact .next hu0

/-! ### Machine/Repair.lean -/

theorem State.engineAged_moves (s : State) (b : Nat) (e : Nat) : Moves 0x211083C s (State.engineAged s b e) := by
  unfold State.engineAged
  split
  · exact .then (State.queueEntry_moves ..) rfl <| .refl ..
  · exact .then (State.markEngine_moves ..) rfl <| .refl ..

theorem State.coreAged_moves (s : State) (e : Nat) : Moves 0x211083C s (State.coreAged s e) := by
  unfold State.coreAged
  split
  · exact .then (State.queueEntry_moves ..) rfl <| .refl ..
  · exact .then (State.markCore_moves ..) rfl <| .refl ..

theorem State.sliceAged_moves (s : State) (e : Nat) : Moves 0x211083C s (State.sliceAged s e) := by
  unfold State.sliceAged
  split
  · exact .then (State.queueEntry_moves ..) rfl <| .refl ..
  · exact .then (State.markSlice_moves ..) rfl <| .refl ..

theorem execAgingMonitorSample_moves (kind : Fin 4) (unit : Nat) (value : Nat) (s : State) : MovesR 0x211083C s (execAgingMonitorSample kind unit value s) := by
  unfold execAgingMonitorSample
  exact .next <| .ite (.refl ..) (.ite (.ite (.then (State.queueLane_moves ..) rfl <| .refl ..) (.refl ..)) (.ite (.refl ..) (.ite (.ite (.then
    (State.engineAged_moves ..) rfl <| .refl ..) (.refl ..)) (.ite (.ite (.then (State.coreAged_moves ..) rfl <| .refl ..) (.refl ..)) (.ite (.then
    (State.sliceAged_moves ..) rfl <| .refl ..) (.refl ..))))))

theorem State.bankRepairs_moves (s : State) (n : Nat) (ppr : Bool) : Moves 0x400 s (State.bankRepairs s n ppr) := by
  unfold State.bankRepairs
  extract_lets +onlyGivenNames -merge u0
  exact .ite (.then (State.setBank_moves ..) rfl <| .refl ..) (.refl ..)

theorem State.restBank_moves (s : State) (n : Nat) : Moves 0x400 s (State.restBank s n) := by
  unfold State.restBank
  extract_lets +onlyGivenNames -merge u0 u1
  exact .ite (.then (State.setBank_moves ..) rfl <| .refl ..) (.refl ..)

theorem State.beginStep_moves (s : State) (i : Nat) (e : DEntry) : Moves 0x2414C3C s (State.beginStep s i e) := by
  unfold State.beginStep
  extract_lets +onlyGivenNames -merge u0 u1
  have hu1 : Moves 0x2414C3C s u1 := .then (State.setRep_moves ..) rfl <| .refl ..
  extract_lets +onlyGivenNames -merge u2
  have hu2 : Moves 0x2414C3C s u2 := by
    unfold u2
    split
    · exact .then (State.bankRepairs_moves ..) rfl hu1
    · exact hu1
  exact .ite (.then (State.askRetrain_moves ..) rfl <| .then (State.setPort_moves ..) rfl hu2) hu2

theorem State.repairNext_moves (s : State) : Moves 0x2414C3C s (State.repairNext s) := by
  unfold State.repairNext
  refine .ite (.refl ..) ?_
  extract_lets +onlyGivenNames -merge u0
  have hu0 : Moves 0x2414C3C s u0 := by
    unfold u0
    refine .foldl _ (.refl ..) fun x1 _ hx1 => ?_
    split
    · exact .ite hx1 (.ite (.then (State.beginStep_moves ..) rfl hx1) (.then (State.moveEntry_moves ..) rfl hx1))
    · exact hx1
  clear_value u0
  exact .ite hu0 (.then (State.setRep_moves ..) rfl hu0)

theorem State.stepPassed_moves (s : State) (i : Nat) (e : DEntry) : Moves 0x211483C s (State.stepPassed s i e) := by
  unfold State.stepPassed
  extract_lets +onlyGivenNames -merge u0
  split
  · unfold u0
    exact .then (State.remapDone_moves ..) rfl <| .then (State.moveEntry_moves ..) rfl <| .then (State.markEngine_moves ..) rfl <| .refl ..
  · extract_lets +onlyGivenNames -merge u5
    have hu5 : Moves 0x211483C s u5 := .then (State.markCore_moves ..) rfl <| .refl ..
    clear_value u5
    extract_lets +onlyGivenNames -merge u6 u7
    have hu7 : Moves 0x211483C s u7 := .then (State.setMaps_moves ..) rfl hu5
    clear_value u7
    unfold u0
    exact .then (State.remapDone_moves ..) rfl <| .then (State.moveEntry_moves ..) rfl <| .then (State.setDp_moves ..) rfl hu7
  · extract_lets +onlyGivenNames -merge u10
    have hu10 : Moves 0x211483C s u10 := .ite (.refl ..) (.then (State.markSlice_moves ..) rfl <| .refl ..)
    clear_value u10
    extract_lets +onlyGivenNames -merge u11 u12
    have hu12 : Moves 0x211483C s u12 := .then (State.setMaps_moves ..) rfl hu10
    clear_value u12
    unfold u0
    exact .then (State.remapDone_moves ..) rfl <| .then (State.moveEntry_moves ..) rfl <| .then (State.setDp_moves ..) rfl hu12
  · unfold u0
    exact .then (State.remapDone_moves ..) rfl <| .then (State.moveEntry_moves ..) rfl <| .refl ..
  · extract_lets +onlyGivenNames -merge u17 u18
    have hu18 : Moves 0x211483C s u18 := .ite (.then (State.setRep_moves ..) rfl <| .refl ..) (.refl ..)
    clear_value u18
    unfold u0
    exact .then (State.remapDone_moves ..) rfl <| .then (State.moveEntry_moves ..) rfl hu18
  · unfold u0
    exact .then (State.remapDone_moves ..) rfl <| .then (State.moveEntry_moves ..) rfl <| .refl ..

theorem State.stepFailed_moves (s : State) (i : Nat) (e : DEntry) : Moves 0x2110838 s (State.stepFailed s i e) := by
  unfold State.stepFailed
  extract_lets +onlyGivenNames -merge u0
  have hu0 : Moves 0x2110838 s u0 := .then (State.moveEntry_moves ..) rfl <| .refl ..
  clear_value u0
  split
  · exact .then (State.repairFlag_moves ..) rfl <| .then (State.markEngine_moves ..) rfl hu0
  · exact .then (State.repairFlag_moves ..) rfl <| .then (State.markCore_moves ..) rfl hu0
  · exact .then (State.repairFlag_moves ..) rfl <| .then (State.markSlice_moves ..) rfl hu0
  · exact .then (State.repairFlag_moves ..) rfl hu0
  · exact .then (State.repairFlag_moves ..) rfl hu0
  · exact .then (State.repairFlag_moves ..) rfl hu0

theorem State.stepOver_moves (s : State) : Moves 0x2414C3C s (State.stepOver s) := by
  unfold State.stepOver
  exact .foldl _ (.then (State.repairNext_moves ..) rfl <| .then (State.setRep_moves ..) rfl <| .refl ..) fun _ _ hx0 => .then (State.restBank_moves ..) rfl
    hx0

theorem execRepairStepDone_moves (ok : Bool) (s : State) : MovesR 0x2514C3C s (execRepairStepDone ok s) := by
  unfold execRepairStepDone
  refine .next ?_
  split
  · exact .refl ..
  · split
    · exact .then (State.stepOver_moves ..) rfl <| .refl ..
    · exact .ite (.ite (.refl ..) (.ite (.then (State.stepOver_moves ..) rfl <| .then (State.stepFailed_moves ..) rfl <| .refl ..) (.then
        (State.stepOver_moves ..) rfl <| .refl ..))) (.ite (.then (State.stepOver_moves ..) rfl <| .then (State.stepPassed_moves ..) rfl <| .refl ..) (.then
        (State.stepOver_moves ..) rfl <| .then (State.stepFailed_moves ..) rfl <| .refl ..))

theorem execRepairStepTimeout_moves (t : Nat) (s : State) : MovesR 0x2414C3E s (execRepairStepTimeout t s) := by
  unfold execRepairStepTimeout
  extract_lets +onlyGivenNames -merge u0
  have hu0 : Moves 0x2414C3E s u0 := .then (State.reachClk_moves ..) rfl <| .refl ..
  clear_value u0
  refine .next ?_
  split
  · exact hu0
  · split
    · refine .ite ?_ ?_
      · extract_lets +onlyGivenNames -merge u12
        have hu12 : Moves 0x2414C3E s u12 := .ite (.then (State.moveEntry_moves ..) rfl hu0) hu0
        clear_value u12
        exact .then (State.stepOver_moves ..) rfl <| .then (State.repairFlag_moves ..) rfl hu12
      · exact hu0
    · exact hu0

theorem State.writeRepairCmd_moves (v : Word) (_who : Reader) (s : State) : Moves 0x2000000 s (State.writeRepairCmd v _who s) := by
  unfold State.writeRepairCmd
  refine .ite ?_ ?_
  · refine .foldl _ (.refl ..) fun x0 _ hx0 => ?_
    split
    · exact .ite (.then (State.moveEntry_moves ..) rfl hx0) hx0
    · exact hx0
  · exact .refl ..

theorem execRepairCancel_moves (s : State) : MovesR 0x20000E0 s (execRepairCancel s) := by
  unfold execRepairCancel
  exact .next <| State.onWrite_moves rfl (.refl ..) (fun x0 hx1 => .then (State.writeRepairCmd_moves ..) rfl hx1)

theorem execDmapFlashWrite_moves (s : State) : MovesR 0x2000000 s (execDmapFlashWrite s) := by
  unfold execDmapFlashWrite
  refine .next ?_
  split
  · exact .ite (.then (State.setRep_moves ..) rfl <| .refl ..) (.refl ..)
  · refine .ite (.then (State.compactMap_moves ..) rfl <| .refl ..) ?_
    extract_lets +onlyGivenNames -merge u6 u7
    exact .then (State.setRep_moves ..) rfl <| .refl ..

/-! ### Machine/Power.lean -/

theorem State.setPwr_moves (s : State) (p : PwrUnit) : Moves 0x1000000 s (State.setPwr s p) := by
  unfold State.setPwr
  exact .pwr _ rfl <| .refl ..

theorem State.reHour_moves (s : State) : Moves 0x101083C s (State.reHour s) := by
  unfold State.reHour
  exact .ite (.then (State.recompute_moves ..) rfl <| .refl ..) (.then (State.afternoon_moves ..) rfl <| .refl ..)

theorem State.startRide_moves (s : State) : Moves 0x1090C3C s (State.startRide s) := by
  unfold State.startRide
  extract_lets +onlyGivenNames -merge u0 u1
  have hu1 : Moves 0x1090C3C s u1 := .then (State.reHour_moves ..) rfl <| .then (State.setPwr_moves ..) rfl <| .refl ..
  clear_value u1
  exact .then (State.schedule_moves ..) rfl <| .then (State.flagOpen_moves ..) rfl <| .then (State.bump_moves ..) rfl hu1

theorem State.sagChange_moves (s : State) (was : Bool) : Moves 0x1090C3C s (State.sagChange s was) := by
  unfold State.sagChange
  exact .ite (.ite (.refl ..) (.then (State.startRide_moves ..) rfl <| .refl ..)) (.ite (.then (State.setPwr_moves ..) rfl <| .refl ..) (.refl ..))

theorem State.takeSstat_moves (s : State) (frame : List Byte) : Moves 0x1090C3C s (State.takeSstat s frame) := by
  unfold State.takeSstat
  extract_lets +onlyGivenNames -merge u0 u1 u2 u3
  have hu3 : Moves 0x1090C3C s u3 := .then (State.setPwr_moves ..) rfl <| .refl ..
  clear_value u3
  extract_lets +onlyGivenNames -merge u4
  have hu4 : Moves 0x1090C3C s u4 := .ite (.then (State.flagOpen_moves ..) rfl hu3) hu3
  clear_value u4
  exact .then (State.sagChange_moves ..) rfl hu4

theorem execSstatFrameRx_moves (frame : List Byte) (t : Nat) (s : State) : MovesR 0x1090C3E s (execSstatFrameRx frame t s) := by
  unfold execSstatFrameRx
  extract_lets +onlyGivenNames -merge u0
  have hu0 : Moves 0x1090C3E s u0 := .then (State.reachClk_moves ..) rfl <| .refl ..
  clear_value u0
  exact .next <| .ite hu0 (.ite (.then (State.takeSstat_moves ..) rfl hu0) (.then (State.flagOpen_moves ..) rfl <| .then (State.bump_moves ..) rfl hu0))

theorem execSstatLoss_moves (t : Nat) (s : State) : MovesR 0x1090C3E s (execSstatLoss t s) := by
  unfold execSstatLoss
  extract_lets +onlyGivenNames -merge u0
  have hu0 : Moves 0x1090C3E s u0 := .then (State.reachClk_moves ..) rfl <| .refl ..
  clear_value u0
  refine .next ?_
  refine .ite ?_ ?_
  · extract_lets +onlyGivenNames -merge u1 u2 u3
    have hu3 : Moves 0x1090C3E s u3 := .then (State.setPwr_moves ..) rfl hu0
    clear_value u3
    exact .then (State.sagChange_moves ..) rfl <| .then (State.flagOpen_moves ..) rfl <| .then (State.bump_moves ..) rfl hu3
  · exact hu0

theorem State.railReads_moves (s : State) (m : Nat) (nominal : Nat) (mv : Nat) (plausible : Bool) :
    Moves 0x1090C3C s (State.railReads s m nominal mv plausible) := by
  unfold State.railReads
  extract_lets +onlyGivenNames -merge u0 u1 u2 u3
  have hu3 : Moves 0x1090C3C s u3 := .then (State.setPwr_moves ..) rfl <| .refl ..
  clear_value u3
  exact .then (State.sagChange_moves ..) rfl hu3

theorem execRailSag_moves (m : Fin 10) (nominal : Nat) (mv : Nat) (plausible : Bool) (s : State) : MovesR 0x1090C3C s (execRailSag m nominal mv plausible s) := by
  unfold execRailSag
  exact .next <| .ite (.refl ..) (.then (State.railReads_moves ..) rfl <| .refl ..)

theorem execRailSagEnd_moves (m : Fin 10) (nominal : Nat) (mv : Nat) (plausible : Bool) (s : State) : MovesR 0x1090C3C s (execRailSagEnd m nominal mv plausible
  s) := by
  unfold execRailSagEnd
  exact .next <| .ite (.refl ..) (.then (State.railReads_moves ..) rfl <| .refl ..)

theorem execRideThroughEnd_moves (s : State) : MovesR 0x1090C3C s (execRideThroughEnd s) := by
  unfold execRideThroughEnd
  exact .next <| .ite (.then (State.scheduleAll_moves ..) rfl <| .then (State.reHour_moves ..) rfl <| .then (State.setPwr_moves ..) rfl <| .refl ..) (.refl
    ..)

theorem State.writePwrCfg_moves (v : Word) (_who : Reader) (s : State) : Moves 0x1090C3C s (State.writePwrCfg v _who s) := by
  unfold State.writePwrCfg
  extract_lets +onlyGivenNames -merge u0
  exact .then (State.sagChange_moves ..) rfl <| .then (State.setReg_moves ..) rfl <| .refl ..

theorem execHourAccounting_moves (m : Nat) (s : State) : MovesR 0x1091E3C s (execHourAccounting m s) := by
  unfold execHourAccounting
  refine .next ?_
  refine .ite ?_ ?_
  · extract_lets +onlyGivenNames -merge u0
    exact .then (State.strobeDecision_moves ..) rfl <| .then (State.fired_moves ..) rfl <| .then (State.account_moves ..) rfl <| .refl ..
  · exact .refl ..

theorem State.setStep_moves (s : State) (i : Nat) (x : Option (Nat × Bool)) : Moves 0x1000000 s (State.setStep s i x) := by
  unfold State.setStep
  exact .then (State.setPwr_moves ..) rfl <| .refl ..

theorem State.writeStepVal_moves (i : Nat) (v : Word) (who : Reader) (s : State) : Moves 0x1000020 s (State.writeStepVal i v who s) := by
  unfold State.writeStepVal
  extract_lets +onlyGivenNames -merge u0 u1 u2
  refine .ite (.then (State.locked_moves ..) rfl <| .refl ..) ?_
  refine .ite ?_ ?_
  · refine .ite (.refl ..) ?_
    refine .ite (.then (State.locked_moves ..) rfl <| .refl ..) ?_
    extract_lets +onlyGivenNames -merge u3
    exact .then (State.setStep_moves ..) rfl <| .then (State.setReg_moves ..) rfl <| .refl ..
  · exact .then (State.setStep_moves ..) rfl <| .then (State.setReg_moves ..) rfl <| .refl ..

theorem execLoadStepArm_moves (i : Fin 4) (v : Word) (who : Reader) (s : State) : MovesR 0x10000E0 s (execLoadStepArm i v who s) := by
  unfold execLoadStepArm
  exact .next <| State.onWrite_moves rfl (.refl ..) (fun x0 hx1 => .then (State.writeStepVal_moves ..) rfl hx1)

theorem State.actStep_moves (s : State) (i : Nat) (late : Bool) : Moves 0x101083C s (State.actStep s i late) := by
  unfold State.actStep
  extract_lets +onlyGivenNames -merge u0 u1 u2
  have hu2 : Moves 0x101083C s u2 := .then (State.setStep_moves ..) rfl <| .then (State.setFld_moves ..) rfl <| .then (State.setFld_moves ..) rfl <| .refl ..
  clear_value u2
  extract_lets +onlyGivenNames -merge u3
  have hu3 : Moves 0x101083C s u3 := .ite (.then (State.recompute_moves ..) rfl hu2) hu2
  clear_value u3
  extract_lets +onlyGivenNames -merge u4
  have hu4 : Moves 0x101083C s u4 := .then (State.flagOpen_moves ..) rfl hu3
  clear_value u4
  exact .ite (.then (State.flagOpen_moves ..) rfl hu4) hu4

theorem execLoadStep_moves (i : Fin 4) (s : State) : MovesR 0x1091E3C s (execLoadStep i s) := by
  unfold execLoadStep
  refine .next ?_
  refine .ite ?_ ?_
  · split
    · exact .then (State.strobeDecision_moves ..) rfl <| .then (State.fired_moves ..) rfl <| .then (State.actStep_moves ..) rfl <| .refl ..
    · exact .then (State.fired_moves ..) rfl <| .refl ..
  · exact .refl ..

theorem State.setTemps_moves (s : State) (d : Nat) (a : Nat) (b : Nat) : Moves 0x1000000 s (State.setTemps s d a b) := by
  unfold State.setTemps
  exact .then (State.setPwr_moves ..) rfl <| .refl ..

theorem State.notePeak_moves (s : State) (d : Nat) (r : Nat) : Moves 0x1000000 s (State.notePeak s d r) := by
  unfold State.notePeak
  exact .ite (.then (State.setPwr_moves ..) rfl <| .refl ..) (.refl ..)

theorem State.sampled_moves (s : State) (d : Nat) (a : Nat) (b : Nat) (before : Nat) : Moves 0x1090C3C s (State.sampled s d a b before) := by
  unfold State.sampled
  extract_lets +onlyGivenNames -merge u0
  have hu0 : Moves 0x1090C3C s u0 := .then (State.notePeak_moves ..) rfl <| .then (State.notePeak_moves ..) rfl <| .refl ..
  clear_value u0
  extract_lets +onlyGivenNames -merge u1
  have hu1 : Moves 0x1090C3C s u1 := .ite (.then (State.flagOpen_moves ..) rfl hu0) hu0
  clear_value u1
  extract_lets +onlyGivenNames -merge u2
  have hu2 : Moves 0x1090C3C s u2 := .ite (.then (State.flagOpen_moves ..) rfl hu1) hu1
  clear_value u2
  exact .then (State.schedule_moves ..) rfl <| .then (State.afternoon_moves ..) rfl hu2

theorem execTemperatureSample_moves (d : Fin 5) (a : Nat) (b : Nat) (s : State) : MovesR 0x3FFFF7C s (execTemperatureSample d a b s) := by
  unfold execTemperatureSample
  extract_lets +onlyGivenNames -merge u0 u1 u2 u3
  have hu3 : Moves 0x3FFFF7C s u3 := .then (State.setTemps_moves ..) rfl <| .refl ..
  clear_value u3
  exact .next <| .ite (.ite (.then (State.askExit_moves ..) rfl hu3) hu3) (.ite (.then (State.trip_moves ..) rfl <| .then (State.notePeak_moves ..) rfl <|
    .then (State.notePeak_moves ..) rfl hu3) (.then (State.sampled_moves ..) rfl hu3))

theorem execThermalTrip_moves (d : Fin 5) (b : Bool) (c : Nat) (s : State) : MovesR 0x3FFFF7C s (execThermalTrip d b c s) := by
  unfold execThermalTrip
  refine .ite ?_ ?_
  · extract_lets +onlyGivenNames -merge u0
    exact .next <| .then (State.trip_moves ..) rfl <| .then (State.setTemps_moves ..) rfl <| .refl ..
  · exact .next <| .refl ..

theorem State.announceLate_moves (s : State) : Moves 0xC10838 s (State.announceLate s) := by
  unfold State.announceLate
  extract_lets +onlyGivenNames -merge u0 u1 u2
  have hu2 : Moves 0xC10838 s u2 := .then (State.setCol_moves ..) rfl <| .refl ..
  clear_value u2
  exact .foldl _ hu2 fun _ _ hx3 => .then (State.announce_moves ..) rfl hx3

theorem State.goOn_moves (s : State) : Moves 0x1E95C3C s (State.goOn s) := by
  unfold State.goOn
  exact .then (State.scheduleAll_moves ..) rfl <| .then (State.fetchAll_moves ..) rfl <| .then (State.matchOffers_moves ..) rfl <| .then
    (State.announceLate_moves ..) rfl <| .refl ..

theorem State.requestNoon_moves (s : State) : Moves 0x3E95C3C s (State.requestNoon s) := by
  unfold State.requestNoon
  exact .then (State.goOn_moves ..) rfl <| .then (State.beginExit_moves ..) rfl <| .then (State.setPwr_moves ..) rfl <| .refl ..

theorem State.requestDusk_moves (s : State) : Moves 0x1010C3C s (State.requestDusk s) := by
  unfold State.requestDusk
  exact .ite (.refl ..) (.ite (.then (State.enterDusk_moves ..) rfl <| .refl ..) (.then (State.setPwr_moves ..) rfl <| .refl ..))

theorem State.requestNight_moves (s : State) : Moves 0x1000000 s (State.requestNight s) := by
  unfold State.requestNight
  exact .ite (.refl ..) (.then (State.setPwr_moves ..) rfl <| .refl ..)

theorem State.writePwrCmd_moves (v : Word) (_who : Reader) (s : State) : Moves 0x3FFFF7C s (State.writePwrCmd v _who s) := by
  unfold State.writePwrCmd
  split
  · exact .then (State.requestNoon_moves ..) rfl <| .refl ..
  · exact .then (State.requestDusk_moves ..) rfl <| .refl ..
  · exact .then (State.requestNight_moves ..) rfl <| .refl ..
  · exact .then (State.enterMidnight_moves ..) rfl <| .refl ..
  · exact .refl ..

theorem execPowerReqNoon_moves (s : State) : MovesR 0x3FFFFFC s (execPowerReqNoon s) := by
  unfold execPowerReqNoon
  exact .next <| State.onWrite_moves rfl (.refl ..) (fun x0 hx1 => .then (State.writePwrCmd_moves ..) rfl hx1)

theorem execPowerReqDusk_moves (s : State) : MovesR 0x3FFFFFC s (execPowerReqDusk s) := by
  unfold execPowerReqDusk
  exact .next <| State.onWrite_moves rfl (.refl ..) (fun x0 hx1 => .then (State.writePwrCmd_moves ..) rfl hx1)

theorem execPowerReqNight_moves (s : State) : MovesR 0x3FFFFFC s (execPowerReqNight s) := by
  unfold execPowerReqNight
  exact .next <| State.onWrite_moves rfl (.refl ..) (fun x0 hx1 => .then (State.writePwrCmd_moves ..) rfl hx1)

theorem execPowerReqMidnight_moves (s : State) : MovesR 0x3FFFFFC s (execPowerReqMidnight s) := by
  unfold execPowerReqMidnight
  exact .next <| State.onWrite_moves rfl (.refl ..) (fun x0 hx1 => .then (State.writePwrCmd_moves ..) rfl hx1)

theorem execDuskEntry_moves (s : State) : MovesR 0x1010C3C s (execDuskEntry s) := by
  unfold execDuskEntry
  exact .next <| .ite (.then (State.enterDusk_moves ..) rfl <| .refl ..) (.refl ..)

theorem State.backToNoon_moves (s : State) : Moves 0x1E95C3C s (State.backToNoon s) := by
  unfold State.backToNoon
  extract_lets +onlyGivenNames -merge u0 u1 u2
  have hu2 : Moves 0x1E95C3C s u2 := .upd (fun p => by cases p <;> first | exact fun _ => rfl | exact bit_in rfl) rfl <| .refl ..
  clear_value u2
  exact .then (State.goOn_moves ..) rfl <| .then (State.afternoon_moves ..) rfl <| .then (State.setPower_moves ..) rfl hu2

theorem execDuskExitDone_moves (s : State) : MovesR 0x1E95C3C s (execDuskExitDone s) := by
  unfold execDuskExitDone
  exact .next <| .ite (.then (State.backToNoon_moves ..) rfl <| .foldl _ (.refl ..) fun _ _ hx0 => .ite (.then (State.setBank_moves ..) rfl hx0) hx0) (.refl
    ..)

theorem execNightAuto_moves (s : State) : MovesR 0x1000000 s (execNightAuto s) := by
  unfold execNightAuto
  extract_lets +onlyGivenNames -merge u0 u1
  exact .next <| .ite (.then (State.requestNight_moves ..) rfl <| .refl ..) (.refl ..)

theorem State.ingestNight_moves (s : State) : Moves 0x104183C s (State.ingestNight s) := by
  unfold State.ingestNight
  extract_lets +onlyGivenNames -merge u0
  have hu0 : Moves 0x104183C s u0 := .then (State.abandonFrame_moves ..) rfl <| .refl ..
  clear_value u0
  exact .then (State.endUnbinds_moves ..) rfl <| .then (State.setAlign_moves ..) rfl <| .then (State.firstAgain_moves ..) rfl <| .then (State.setIng_moves
    ..) rfl hu0

theorem State.enterNight_moves (s : State) : Moves 0x3475C3C s (State.enterNight s) := by
  unfold State.enterNight
  extract_lets +onlyGivenNames -merge u0
  have hu0 : Moves 0x3475C3C s u0 := .foldl _ (.then (State.takeBanksDown_moves ..) rfl <| .refl ..) fun _ _ hx1 => .then (State.emptyCache_moves ..) rfl hx1
  clear_value u0
  extract_lets +onlyGivenNames -merge u3 u4
  have hu4 : Moves 0x3475C3C s u4 := .pwr _ rfl hu0
  clear_value u4
  extract_lets +onlyGivenNames -merge u5
  have hu5 : Moves 0x3475C3C s u5 := .then (State.ingestNight_moves ..) rfl <| .then (State.setPower_moves ..) rfl hu4
  clear_value u5
  exact .then (State.repairNext_moves ..) rfl <| .then (State.setRep_moves ..) rfl hu5

theorem execNightEntry_moves (s : State) : MovesR 0x3475C3C s (execNightEntry s) := by
  unfold execNightEntry
  extract_lets +onlyGivenNames -merge u0 u1
  exact .next <| .ite (.then (State.enterNight_moves ..) rfl <| .refl ..) (.refl ..)

theorem State.unfenceRows_moves (s : State) : Moves 0x2200000 s (State.unfenceRows s) := by
  unfold State.unfenceRows
  extract_lets +onlyGivenNames -merge u0
  have hu0 : Moves 0x2200000 s u0 := .foldl _ (.refl ..) fun _ _ hx1 => .then (State.unfenceRow_moves ..) rfl hx1
  clear_value u0
  exact .then (State.setRep_moves ..) rfl hu0

theorem execNightExitDone_moves (banks : List BankUp) (s : State) : MovesR 0x3FF7F3C s (execNightExitDone banks s) := by
  unfold execNightExitDone
  exact .next <| .ite (.then (State.tryHunt_moves ..) rfl <| .then (State.backToNoon_moves ..) rfl <| .then (State.unfenceRows_moves ..) rfl <| .then
    (State.banksReturn_moves ..) rfl <| .refl ..) (.refl ..)

/-! ### Machine/Memory.lean -/

theorem execPageWalkDone_moves (unit : Fin 5) (c : CtxId) (va : Nat) (s : State) : MovesR 0x20020 s (execPageWalkDone unit c va s) := by
  unfold execPageWalkDone
  extract_lets +onlyGivenNames -merge u0
  have hu0 : Moves 0x20020 s u0 := .then (State.bump_moves ..) rfl <| .refl ..
  clear_value u0
  refine .ite (.next hu0) ?_
  split
  · exact .next hu0
  · extract_lets +onlyGivenNames -merge u8 u9 u10 u11 u12
    exact .next <| .atp _ rfl hu0

theorem State.writeRoot_moves (c : Nat) (hi : Bool) (v : Word) (who : Reader) (s : State) : Moves 0x20120 s (State.writeRoot c hi v who s) := by
  unfold State.writeRoot
  extract_lets +onlyGivenNames -merge u0 u1 u2 u3 u4
  refine .ite (.ite (.refl ..) (.then (State.locked_moves ..) rfl <| .refl ..)) ?_
  refine .ite ?_ ?_
  · extract_lets +onlyGivenNames -merge u5
    refine .ite (.then (State.setReg_moves ..) rfl <| .refl ..) ?_
    refine .ite (.refl ..) ?_
    extract_lets +onlyGivenNames -merge u6
    exact .ite (.then (State.setReg_moves ..) rfl <| .then (State.zeroFill_moves ..) rfl <| .refl ..) (.then (State.locked_moves ..) rfl <| .refl ..)
  · exact .ite (.refl ..) (.then (State.setFld_moves ..) rfl <| .then (State.setReg_moves ..) rfl <| .refl ..)

theorem execAtpRootWrite_moves (c : CtxId) (hi : Bool) (v : Word) (who : Reader) (s : State) : MovesR 0x201E0 s (execAtpRootWrite c hi v who s) := by
  unfold execAtpRootWrite
  exact .next <| State.onWrite_moves rfl (.refl ..) (fun x0 hx1 => .then (State.writeRoot_moves ..) rfl hx1)

theorem execAtpUpdate_moves (c : CtxId) (s : State) : MovesR 0x1EF7D3C s (execAtpUpdate c s) := by
  unfold execAtpUpdate
  split
  · rename_i x0 x1 x2
    exact .next <| MovesT.ofNo (.then (State.begin_moves ..) rfl <| .refl ..) x2
  · rename_i x3 x4 x5 x6
    extract_lets +onlyGivenNames -merge u7 u8 u9 u10
    split
    · exact .next <| .then (State.faultDesc_moves ..) rfl <| MovesT.ofGo (.then (State.begin_moves ..) rfl <| .refl ..) x6
    · extract_lets +onlyGivenNames -merge u17
      have hu17 : Moves 0x1EF7D3C s u17 := .then (State.bump_moves ..) rfl <| MovesT.ofGo (.then (State.begin_moves ..) rfl <| .refl ..) x6
      clear_value u17
      split
      · exact .next <| .then (State.faultDesc_moves ..) rfl hu17
      · exact .next <| .then (State.finishFail_moves ..) rfl hu17
      · split
        · exact .next <| .then (State.faultDesc_moves ..) rfl hu17
        · extract_lets +onlyGivenNames -merge u32 u33
          have hu33 : Moves 0x1EF7D3C s u33 := .ite (.then (State.zeroFill_moves ..) rfl hu17) hu17
          clear_value u33
          refine .ite (.next <| .then (State.bracketFail_moves ..) rfl hu33) ?_
          refine .ite ?_ ?_
          · split
            · extract_lets +onlyGivenNames -merge u37 u38
              exact .next <| .then (State.applied_moves ..) rfl <| .flt _ rfl rfl hu33
            · exact .next hu33
          · extract_lets +onlyGivenNames -merge u41
            have hu41 : Moves 0x1EF7D3C s u41 := .then (State.discardCached_moves ..) rfl <| .then (State.pwrite_moves ..) rfl hu33
            clear_value u41
            exact .next <| .then (State.finishOk_moves ..) rfl hu41

theorem execMemoryCe_moves (pa : Nat) (loc : Nat) (row : Nat) (s : State) : MovesR 0x201083C s (execMemoryCe pa loc row s) := by
  unfold execMemoryCe
  extract_lets +onlyGivenNames -merge u0
  refine .ite (.next <| .refl ..) ?_
  extract_lets +onlyGivenNames -merge u1 u2
  have hu2 : Moves 0x201083C s u2 := .mgt _ rfl rfl <| .refl ..
  clear_value u2
  exact .next <| .then (State.countRow_moves ..) rfl <| .then (State.bump_moves ..) rfl hu2

theorem execMemoryUe_moves (pa : Nat) (loc : Nat) (row : Nat) (reader : Option (CtxId × Nat)) (s : State) :
    MovesR 0x3EF7F3C s (execMemoryUe pa loc row reader s) := by
  unfold execMemoryUe
  extract_lets +onlyGivenNames -merge u0
  refine .ite (.next <| .refl ..) ?_
  extract_lets +onlyGivenNames -merge u1
  have hu1 : Moves 0x3EF7F3C s u1 := .then (State.rowWorn_moves ..) rfl <| .then (State.bump_moves ..) rfl <| .refl ..
  clear_value u1
  refine .ite ?_ ?_
  · split
    rename_i x2 x3 x4 x5
    split
    rename_i x6 x7 x8 x9
    exact .next <| .then (State.packageFault_moves ..) rfl <| MovesP.of (.then (State.takeFree_moves ..) rfl <| MovesP.of (.then (State.takeFree_moves ..)
      rfl hu1) x5) x9
  · extract_lets +onlyGivenNames -merge u10
    have hu10 : Moves 0x3EF7F3C s u10 := .then (State.setPoison_moves ..) rfl hu1
    clear_value u10
    refine .next ?_
    split
    · exact .then (State.schedule_moves ..) rfl <| .then (State.contextFault_moves ..) rfl hu10
    · exact hu10

end Sys2Proof.Machine
end

