-- ==== Sys2Proof/Laws/MovesRegs.lean ====
section
/-! SUPPORT. Laws/MovesRegs.lean: what each operation and meaning of leases, registers, the Management Port and the test port can do (Laws/Moves.lean says what the relation means):
the least mask of parts it changes, one lemma per definition. -/

namespace Sys2Proof.Machine

/-! ### Machine/Leases.lean -/

theorem execLeaseTake_moves (c : CtxId) (s : State) : MovesR 0x101583C s (execLeaseTake c s) := by
  unfold execLeaseTake
  split
  · rename_i x0 x1 x2
    exact .next <| MovesT.ofNo (.then (State.begin_moves ..) rfl <| .refl ..) x2
  · rename_i x3 x4 x5 x6
    extract_lets +onlyGivenNames -merge u7 u8 u9
    refine .ite ?_ ?_
    · extract_lets +onlyGivenNames -merge u10
      have hu10 : Moves 0x101583C s u10 := .then (State.grantLease_moves ..) rfl <| MovesT.ofGo (.then (State.begin_moves ..) rfl <| .refl ..) x6
      clear_value u10
      exact .next <| .then (State.finishOk_moves ..) rfl hu10
    · exact .next <| .then (State.setLease_moves ..) rfl <| MovesT.ofGo (.then (State.begin_moves ..) rfl <| .refl ..) x6

theorem State.renew_moves (s : State) (res : Nat) (n : Nat) : Moves 0x4000 s (State.renew s res n) := by
  unfold State.renew
  exact .ite (.then (State.setLease_moves ..) rfl <| .refl ..) (.refl ..)

theorem State.release_moves (s : State) (res : Nat) : Moves 0x1005020 s (State.release s res) := by
  unfold State.release
  exact .then (State.grantNext_moves ..) rfl <| .then (State.setLease_moves ..) rfl <| .refl ..

theorem State.notHeld_moves (s : State) (c : Nat) (d : Desc) : Moves 0x101583C s (State.notHeld s c d) := by
  unfold State.notHeld
  exact .ite (.then (State.bracketFail_moves ..) rfl <| .then (State.bump_moves ..) rfl <| .refl ..) (.then (State.staleUse_moves ..) rfl <| .refl ..)

theorem State.shadowLease_moves (s : State) (d : Desc) : Moves 0x4000 s (State.shadowLease s d) := by
  unfold State.shadowLease
  split
  · exact .flt _ rfl rfl <| .refl ..
  · exact .refl ..

theorem execLeaseRenew_moves (c : CtxId) (s : State) : MovesR 0x101583C s (execLeaseRenew c s) := by
  unfold execLeaseRenew
  split
  · rename_i x0 x1 x2
    exact .next <| MovesT.ofNo (.then (State.begin_moves ..) rfl <| .refl ..) x2
  · rename_i x3 x4 x5 x6
    extract_lets +onlyGivenNames -merge u7
    refine .ite (.next <| .then (State.notHeld_moves ..) rfl <| MovesT.ofGo (.then (State.begin_moves ..) rfl <| .refl ..) x6) ?_
    refine .ite (.next <| .then (State.applied_moves ..) rfl <| .then (State.shadowLease_moves ..) rfl <| MovesT.ofGo (.then (State.begin_moves ..) rfl <|
      .refl ..) x6) ?_
    refine .ite ?_ ?_
    · split
      rename_i x8 x9 x10 x11
      exact .next <| .then (State.finishOk_moves ..) rfl <| .then (State.renew_moves ..) rfl <| MovesP.of (.then (State.takeFree_moves ..) rfl <| MovesT.ofGo
        (.then (State.begin_moves ..) rfl <| .refl ..) x6) x11
    · exact .next <| .then (State.finishOk_moves ..) rfl <| MovesT.ofGo (.then (State.begin_moves ..) rfl <| .refl ..) x6

theorem execLeaseRelease_moves (c : CtxId) (s : State) : MovesR 0x101583C s (execLeaseRelease c s) := by
  unfold execLeaseRelease
  split
  · rename_i x0 x1 x2
    exact .next <| MovesT.ofNo (.then (State.begin_moves ..) rfl <| .refl ..) x2
  · rename_i x3 x4 x5 x6
    exact .ite (.next <| .then (State.notHeld_moves ..) rfl <| MovesT.ofGo (.then (State.begin_moves ..) rfl <| .refl ..) x6) (.ite (.next <| .then
      (State.applied_moves ..) rfl <| .then (State.shadowLease_moves ..) rfl <| MovesT.ofGo (.then (State.begin_moves ..) rfl <| .refl ..) x6) (.next <|
      .then (State.finishOk_moves ..) rfl <| .then (State.release_moves ..) rfl <| MovesT.ofGo (.then (State.begin_moves ..) rfl <| .refl ..) x6))

theorem State.expireLease_moves (s : State) (res : Nat) : Moves 0x1C1583C s (State.expireLease s res) := by
  unfold State.expireLease
  extract_lets +onlyGivenNames -merge u0
  refine .ite ?_ ?_
  · split
    · refine .ite (.refl ..) ?_
      refine .then (State.rollbackFor_moves ..) rfl ?_
      unfold u0
      exact .then (State.flagOpen_moves ..) rfl <| .then (State.bump_moves ..) rfl <| .refl ..
    · exact .refl ..
  · extract_lets +onlyGivenNames -merge u6 u7 u8
    have hu8 : Moves 0x1C1583C s u8 := by
      unfold u8
      refine .then (State.fence_moves ..) rfl ?_
      unfold u0
      exact .then (State.flagOpen_moves ..) rfl <| .then (State.bump_moves ..) rfl <| .refl ..
    clear_value u8
    exact .ite (.then (State.rollbackFor_moves ..) rfl hu8) hu8

theorem execLeaseExpiry_moves (res : Nat) (s : State) : MovesR 0x1C15A3C s (execLeaseExpiry res s) := by
  unfold execLeaseExpiry
  refine .next ?_
  refine .ite ?_ ?_
  · extract_lets +onlyGivenNames -merge u0
    exact .then (State.fired_moves ..) rfl <| .ite (.then (State.expireLease_moves ..) rfl <| .refl ..) (.refl ..)
  · exact .refl ..

theorem State.noteBegun_moves (s : State) (idx : Nat) : Moves 0x4000 s (State.noteBegun s idx) := by
  unfold State.noteBegun
  split
  · exact .flt _ rfl rfl <| .refl ..
  · exact .refl ..

theorem State.beginForms_moves (s : State) (b : Bracket) : Moves 0x1C1583C s (State.beginForms s b) := by
  unfold State.beginForms
  extract_lets +onlyGivenNames -merge u0
  split
  · rename_i x1 x2 x3 x4
    refine .then (State.rollbackFor_moves ..) rfl ?_
    refine MovesF.of ?_ x4
    refine .foldl _ (.mk <| .refl ..) fun x5 _ hx5 => ?_
    unfold u0
    split
    · exact hx5
    · refine .ite hx5 ?_
      split
      · exact .mk <| .then (State.colCount_moves ..) rfl <| .then (State.setGroup_moves ..) rfl <| MovesF.fst hx5
      · exact .mk <| .then (State.startForm_moves ..) rfl <| .then (State.noteBegun_moves ..) rfl <| MovesF.fst hx5
  · rename_i x17 x18 x19
    refine MovesF.of ?_ x19
    refine .foldl _ (.mk <| .refl ..) fun x20 _ hx20 => ?_
    unfold u0
    split
    · exact hx20
    · refine .ite hx20 ?_
      split
      · exact .mk <| .then (State.colCount_moves ..) rfl <| .then (State.setGroup_moves ..) rfl <| MovesF.fst hx20
      · exact .mk <| .then (State.startForm_moves ..) rfl <| .then (State.noteBegun_moves ..) rfl <| MovesF.fst hx20

theorem State.switchBracket_moves (s : State) (b : Bracket) : Moves 0x1C35938 s (State.switchBracket s b) := by
  unfold State.switchBracket
  extract_lets +onlyGivenNames -merge u0 u1
  have hu1 : Moves 0x1C35938 s u1 := .flt _ rfl rfl <| .refl ..
  clear_value u1
  extract_lets +onlyGivenNames -merge u2
  have hu2 : Moves 0x1C35938 s u2 := .foldl _ hu1 fun _ _ hx3 => .then (State.discardCached_moves ..) rfl <| .then (State.pwrite_moves ..) rfl hx3
  clear_value u2
  extract_lets +onlyGivenNames -merge u5
  have hu5 : Moves 0x1C35938 s u5 := .foldl _ hu2 fun _ _ hx6 => .then (State.commitSet_moves ..) rfl hx6
  clear_value u5
  extract_lets +onlyGivenNames -merge u8
  have hu8 : Moves 0x1C35938 s u8 := .foldl _ hu5 fun _ _ hx9 => .ite (.then (State.dissolveSlot_moves ..) rfl hx9) hx9
  clear_value u8
  extract_lets +onlyGivenNames -merge u11
  have hu11 : Moves 0x1C35938 s u11 := .foldl _ hu8 fun _ _ hx12 => .ite (.then (State.renew_moves ..) rfl hx12) (.then (State.release_moves ..) rfl hx12)
  clear_value u11
  extract_lets +onlyGivenNames -merge u14
  have hu14 : Moves 0x1C35938 s u14 := .then (State.bump_moves ..) rfl <| .then (State.release_moves ..) rfl hu11
  clear_value u14
  split
  · exact .then (State.finishOk_moves ..) rfl hu14
  · exact hu14

theorem execBracketCommit_moves (s : State) : MovesR 0x1C3593C s (execBracketCommit s) := by
  unfold execBracketCommit
  refine .next ?_
  split
  · exact .refl ..
  · extract_lets +onlyGivenNames -merge u5
    refine .ite (.refl ..) ?_
    refine .ite (.then (State.beginForms_moves ..) rfl <| .refl ..) ?_
    refine .ite (.refl ..) ?_
    split
    · exact .then (State.rollbackFor_moves ..) rfl <| .refl ..
    · exact .then (State.switchBracket_moves ..) rfl <| .refl ..

theorem State.writeFltCmd_moves (v : Word) (_who : Reader) (s : State) : Moves 0x1C1583C s (State.writeFltCmd v _who s) := by
  unfold State.writeFltCmd
  split
  · exact .then (State.rollbackFor_moves ..) rfl <| .refl ..
  · exact .flt _ rfl rfl <| .refl ..
  · exact .refl ..

theorem execSeqAbort_moves (s : State) : MovesR 0x1C158FC s (execSeqAbort s) := by
  unfold execSeqAbort
  exact .next <| State.onWrite_moves rfl (.refl ..) (fun x0 hx1 => .then (State.writeFltCmd_moves ..) rfl hx1)

theorem execUnpin_moves (s : State) : MovesR 0x1C158FC s (execUnpin s) := by
  unfold execUnpin
  exact .next <| State.onWrite_moves rfl (.refl ..) (fun x0 hx1 => .then (State.writeFltCmd_moves ..) rfl hx1)

theorem State.unitStops_moves (s : State) (v : Nat) : Moves 0x1EF5D3C s (State.unitStops s v) := by
  unfold State.unitStops
  exact .ite (.then (State.cmbFlag_moves ..) rfl <| .refl ..) (.ite (.then (State.portStops_moves ..) rfl <| .refl ..) (.refl ..))

theorem State.unitGoesOn_moves (s : State) (v : Nat) : Moves 0x1E95C3C s (State.unitGoesOn s v) := by
  unfold State.unitGoesOn
  extract_lets +onlyGivenNames -merge u0
  have hu0 : Moves 0x1E95C3C s u0 := .ite (.then (State.pump_moves ..) rfl <| .refl ..) (.ite (.then (State.unpark_moves ..) rfl <| .refl ..) (.refl ..))
  clear_value u0
  exact .then (State.goOn_moves ..) rfl hu0

theorem State.manageView_moves (s : State) (v : Nat) (failed : Bool) : Moves 0x1EF5D3C s (State.manageView s v failed) := by
  unfold State.manageView
  extract_lets +onlyGivenNames -merge u0 u1
  have hu1 : Moves 0x1EF5D3C s u1 := .then (State.setMgmt_moves ..) rfl <| .refl ..
  clear_value u1
  exact .ite (.then (State.unitStops_moves ..) rfl hu1) (.ite (.then (State.unitGoesOn_moves ..) rfl hu1) hu1)

theorem State.onSpare_moves (s : State) (v : Nat) : Moves 0x1483C s (State.onSpare s v) := by
  unfold State.onSpare
  exact .ite (.refl ..) (.then (State.setMgmt_moves ..) rfl <| .refl ..)

theorem State.reconcileUnit_moves (s : State) (v : Nat) (had : Bool) : Moves 0x3FF7F3C s (State.reconcileUnit s v had) := by
  unfold State.reconcileUnit
  refine .ite ?_ ?_
  · extract_lets +onlyGivenNames -merge u0
    refine .ite (.refl ..) ?_
    extract_lets +onlyGivenNames -merge u1
    have hu1 : Moves 0x3FF7F3C s u1 := .then (State.leaveEngine_moves ..) rfl <| .then (State.flagOpen_moves ..) rfl <| .refl ..
    clear_value u1
    exact .then (State.onSpare_moves ..) rfl <| .then (State.substEngine_moves ..) rfl hu1
  · exact .ite (.ite (.refl ..) (MovesF.fst <| .then (State.abandon_moves ..) rfl <| .then (State.flagOpen_moves ..) rfl <| .refl ..)) (.ite (.ite (.refl ..)
      (.then (State.onSpare_moves ..) rfl <| .then (State.substCore_moves ..) rfl <| .refl ..)) (.ite (.ite (.refl ..) (.then (State.onSpare_moves ..) rfl <|
      .then (State.sliceFails_moves ..) rfl <| .refl ..)) (.then (State.unitStops_moves ..) rfl <| .refl ..)))

theorem State.reconcile_moves (s : State) (v : Nat) (target : Nat) : MovesP 0x3FF7F3C s (State.reconcile s v target) := by
  unfold State.reconcile
  refine .ite ?_ ?_
  · extract_lets +onlyGivenNames -merge u0 u1
    have hu1 : Moves 0x3FF7F3C s u1 := .then (State.record_moves ..) rfl <| .refl ..
    clear_value u1
    refine .mk ?_
    extract_lets +onlyGivenNames -merge u2
    have hu2 : Moves 0x3FF7F3C s u2 := .then (State.reconcileUnit_moves ..) rfl <| .then (State.setViews_moves ..) rfl hu1
    clear_value u2
    exact .ite (.then (State.scheduleAll_moves ..) rfl hu2) (.then (State.schedule_moves ..) rfl hu2)
  · exact .ite (.mk <| .then (State.flagOpen_moves ..) rfl <| .then (State.record_moves ..) rfl <| .refl ..) (.mk <| .then (State.manageView_moves ..) rfl <|
      .then (State.record_moves ..) rfl <| .refl ..)

theorem State.writeReconcile_moves (v : Word) (who : Reader) (s : State) : Moves 0x3FF7F3C s (State.writeReconcile v who s) := by
  unfold State.writeReconcile
  extract_lets +onlyGivenNames -merge u0 u1
  exact .ite (.refl ..) (.ite (.then (State.locked_moves ..) rfl <| .refl ..) (MovesP.snd <| .then (State.reconcile_moves ..) rfl <| .refl ..))

theorem execReconcile_moves (v : Word) (s : State) : MovesR 0x3FF7FFC s (execReconcile v s) := by
  unfold execReconcile
  exact .next <| State.onWrite_moves rfl (.refl ..) (fun x0 hx1 => .then (State.writeReconcile_moves ..) rfl hx1)

theorem execShadowStoreUe_moves (s : State) : MovesR 0x1C1583C s (execShadowStoreUe s) := by
  unfold execShadowStoreUe
  exact .next <| .ite (.then (State.rollbackFor_moves ..) rfl <| .then (State.flagOpen_moves ..) rfl <| .refl ..) (.refl ..)

theorem execRecordStoreUe_moves (i : Fin 128) (s : State) : MovesR 0x1483C s (execRecordStoreUe i s) := by
  unfold execRecordStoreUe
  extract_lets +onlyGivenNames -merge u0
  refine .next ?_
  refine .ite ?_ ?_
  · extract_lets +onlyGivenNames -merge u1 u2
    have hu2 : Moves 0x1483C s u2 := .flt _ rfl rfl <| .refl ..
    clear_value u2
    exact .then (State.bump_moves ..) rfl <| .then (State.flagOpen_moves ..) rfl hu2
  · exact .refl ..

theorem execHubStateUe_moves (where_ : Fin 6) (s : State) : MovesR 0x1EF7F3C s (execHubStateUe where_ s) := by
  unfold execHubStateUe
  refine .ite (.next <| .refl ..) ?_
  refine .ite (.next <| .then (State.endUnbinds_moves ..) rfl <| .then (State.abandonFrame_moves ..) rfl <| .refl ..) ?_
  refine .ite ?_ ?_
  · extract_lets +onlyGivenNames -merge u0
    have hu0 : Moves 0x1EF7F3C s u0 := .then (State.flagOpen_moves ..) rfl <| .refl ..
    clear_value u0
    exact .next <| .then (State.setPwr_moves ..) rfl <| .then (State.setReg_moves ..) rfl hu0
  · split
    rename_i x1 x2 x3 x4
    split
    rename_i x5 x6 x7 x8
    extract_lets +onlyGivenNames -merge u9
    exact .next <| .then (State.packageFault_moves ..) rfl <| MovesP.of (.then (State.takeFree_moves ..) rfl <| MovesP.of (.then (State.takeFree_moves ..)
      rfl <| .refl ..) x4) x8

theorem execPackageFault_moves (source : Nat) (code : Nat) (unit : Nat) (s : State) : MovesR 0x1EF7F3C s (execPackageFault source code unit s) := by
  unfold execPackageFault
  refine .ite (.next <| .refl ..) ?_
  split
  rename_i x0 x1 x2 x3
  exact .next <| .then (State.packageFault_moves ..) rfl <| MovesP.of (.then (State.takeFree_moves ..) rfl <| .refl ..) x3

/-! ### Machine/RegRead.lean -/

theorem State.setLatch_moves (s : State) (who : Reader) (off : Nat) (v : Option Word) : Moves 0xC0 s (State.setLatch s who off v) := by
  unfold State.setLatch
  cases who
  · exact ⟨fun p => by cases p <;> first | exact fun _ => rfl | exact bit_in rfl, rfl, Nat.le_refl _, Nat.le_refl _, List.suffix_refl _,
      fun i => ⟨i.mem, i.regs, i.evq, i.lost, i.retained, i.addr, i.tables.1, i.tables.2.1, i.tables.2.2.1, tabWf_tabSet _ _ _ _ i.tables.2.2.2.1,
        i.tables.2.2.2.2⟩⟩
  · exact ⟨fun p => by cases p <;> first | exact fun _ => rfl | exact bit_in rfl, rfl, Nat.le_refl _, Nat.le_refl _, List.suffix_refl _,
      fun i => ⟨i.mem, i.regs, i.evq, i.lost, i.retained, i.addr, i.tables.1, i.tables.2.1, i.tables.2.2.1, i.tables.2.2.2.1,
        tabWf_tabSet _ _ _ _ i.tables.2.2.2.2⟩⟩

theorem State.clearRc_moves (s : State) (off : Nat) : Moves 0x1000C20 s (State.clearRc s off) := by
  unfold State.clearRc
  split
  · exact .refl ..
  · extract_lets +onlyGivenNames -merge u5
    have hu5 : Moves 0x1000C20 s u5 := .ite (.refl ..) (.then (State.setReg_moves ..) rfl <| .refl ..)
    clear_value u5
    split
    · exact .then (State.setBank_moves ..) rfl hu5
    · exact .then (State.setPwr_moves ..) rfl hu5
    · exact .then (State.setPwr_moves ..) rfl hu5
    · exact .ite (.hostIn _ rfl (fun v => ⟨v.evq, Nat.zero_le _⟩) hu5) hu5

theorem State.walksSeen_moves (s : State) : Moves 0x24 s (State.walksSeen s) := by
  unfold State.walksSeen
  split
  rename_i x0 x1 x2 x3
  exact .then (State.bump_moves ..) rfl <| MovesP.of (.then (State.takeFree_moves ..) rfl <| .refl ..) x3

theorem State.readAt_moves (s : State) (who : Reader) (off : Nat) : MovesP 0x1000CE4 s (State.readAt s who off) := by
  unfold State.readAt
  extract_lets +onlyGivenNames -merge u0
  have hu0 : Moves 0x1000CE4 s u0 := .ite (.then (State.walksSeen_moves ..) rfl <| .refl ..) (.refl ..)
  clear_value u0
  extract_lets +onlyGivenNames -merge u1 u2 u3
  have hu3 : Moves 0x1000CE4 s u3 := .ite (.then (State.setLatch_moves ..) rfl hu0) hu0
  clear_value u3
  extract_lets +onlyGivenNames -merge u4
  have hu4 : Moves 0x1000CE4 s u4 := .foldl _ hu3 fun _ _ hx5 => .then (State.setLatch_moves ..) rfl hx5
  clear_value u4
  exact .mk <| .ite (.then (State.clearRc_moves ..) rfl hu4) hu4

theorem State.readOut_moves (s : State) (who : Reader) (off : Nat) : Moves 0x1000CEC s (State.readOut s who off) := by
  unfold State.readOut
  refine .ite ?_ ?_
  · extract_lets +onlyGivenNames -merge u0
    have hu0 : MovesP 0x1000CEC s u0 := .then (State.readAt_moves ..) rfl <| .refl ..
    clear_value u0
    exact .then (State.send_moves ..) rfl <| MovesP.snd hu0
  · exact .refl ..

theorem execDayNowLoRead_moves (who : Reader) (s : State) : MovesR 0x1000CEC s (execDayNowLoRead who s) := by
  unfold execDayNowLoRead
  exact .next <| .then (State.readOut_moves ..) rfl <| .refl ..

theorem execPairLoRead_moves (off : Nat) (who : Reader) (s : State) : MovesR 0x1000CEC s (execPairLoRead off who s) := by
  unfold execPairLoRead
  exact .next <| .then (State.readOut_moves ..) rfl <| .refl ..

theorem execRcRead_moves (off : Nat) (s : State) : MovesR 0x1000CEC s (execRcRead off s) := by
  unfold execRcRead
  exact .next <| .then (State.readOut_moves ..) rfl <| .refl ..

theorem execDmapEntryRead_moves (who : Reader) (s : State) : MovesR 0x1000CEC s (execDmapEntryRead who s) := by
  unfold execDmapEntryRead
  exact .next <| .then (State.readOut_moves ..) rfl <| .refl ..

theorem execDebugRequestRx_moves (p : PortId) (from_ : Peer) (write : Bool) (off : Nat) (s : State) : MovesR 0x1410CFC s (execDebugRequestRx p from_ write off
  s) := by
  unfold execDebugRequestRx
  extract_lets +onlyGivenNames -merge u0 u1
  have hu1 : MovesP 0x1410CFC s u1 := .ite (.then (State.readAt_moves ..) rfl <| .refl ..) (.mk <| .refl ..)
  clear_value u1
  extract_lets +onlyGivenNames -merge u2
  exact .next <| .ite (.refl ..) (.then (State.sendMsg_moves ..) rfl <| MovesP.snd hu1)

/-! ### Machine/RegWrite.lean -/

theorem State.plainWrite_moves (s : State) (r : RegRow) (off : Nat) (v : Word) (who : Reader) : Moves 0x20 s (State.plainWrite s r off v who) := by
  unfold State.plainWrite
  extract_lets +onlyGivenNames -merge u0 u1
  refine .ite (.then (State.locked_moves ..) rfl <| .refl ..) ?_
  extract_lets +onlyGivenNames -merge u2
  exact .ite (.refl ..) (.then (State.setReg_moves ..) rfl <| .refl ..)

theorem State.noteBase_moves (s : State) (off : Nat) : Moves 0x800 s (State.noteBase s off) := by
  unfold State.noteBase
  exact .ite (.then (State.noteWritten_moves ..) rfl <| .refl ..) (.refl ..)

theorem State.writeBankPresent_moves (s : State) (v : Word) : Moves 0x400 s (State.writeBankPresent s v) := by
  unfold State.writeBankPresent
  exact .foldl _ (.refl ..) fun _ _ hx0 => .ite (.then (State.setBank_moves ..) rfl hx0) hx0

theorem State.clearHubErr_moves (v : Word) (s : State) : Moves 0x20 s (State.clearHubErr v s) := by
  unfold State.clearHubErr
  exact .ite (.then (State.setReg_moves ..) rfl <| .refl ..) (.refl ..)

theorem State.writeCtxCmd_moves (c : Nat) (v : Word) (who : Reader) (s : State) : Moves 0x1EF7D3C s (State.writeCtxCmd c v who s) := by
  unfold State.writeCtxCmd
  split
  · exact .refl ..
  · exact .then (State.openContext_moves ..) rfl <| .refl ..
  · exact .then (State.closeContext_moves ..) rfl <| .refl ..
  · exact .then (State.tearDown_moves ..) rfl <| .refl ..
  · exact .then (State.locked_moves ..) rfl <| .refl ..

theorem State.writeMsix_moves (r : RegRow) (off : Nat) (v : Word) (who : Reader) (s : State) : Moves 0x38 s (State.writeMsix r off v who s) := by
  unfold State.writeMsix
  extract_lets +onlyGivenNames -merge u0 u1
  have hu1 : Moves 0x38 s u1 := .then (State.plainWrite_moves ..) rfl <| .refl ..
  clear_value u1
  extract_lets +onlyGivenNames -merge u2
  exact .ite (.then (State.signalVector_moves ..) rfl <| .then (State.setFld_moves ..) rfl hu1) hu1

theorem State.writeHub_moves (r : RegRow) (off : Nat) (v : Word) (who : Reader) (s : State) : Moves 0x3EFFD3C s (State.writeHub r off v who s) := by
  unfold State.writeHub
  extract_lets +onlyGivenNames -merge u0 u1
  exact .ite (.then (State.clearHubErr_moves ..) rfl <| .refl ..) (.ite (.then (State.writeBankPresent_moves ..) rfl <| .refl ..) (.ite (.then
    (State.writeBankCmd_moves ..) rfl <| .refl ..) (.ite (.ite (.then (State.wake_moves ..) rfl <| .refl ..) (.refl ..)) (.ite (.then
    (State.writeEvqCfg_moves ..) rfl <| .refl ..) (.ite (.then (State.writeRepairCmd_moves ..) rfl <| .refl ..) (.ite (.then (State.writeResetCmd_moves ..)
    rfl <| .refl ..) (.ite (.then (State.noteBase_moves ..) rfl <| .then (State.plainWrite_moves ..) rfl <| .refl ..) (.ite (.then (State.writeRingCfg_moves
    ..) rfl <| .refl ..) (.ite (.ite (.then (State.setRing_moves ..) rfl <| .refl ..) (.refl ..)) (.ite (.then (State.writeCtxCmd_moves ..) rfl <| .refl ..)
    (.then (State.plainWrite_moves ..) rfl <| .refl ..)))))))))))

theorem State.writeDay_moves (r : RegRow) (off : Nat) (v : Word) (who : Reader) (s : State) : Moves 0x1418E3C s (State.writeDay r off v who s) := by
  unfold State.writeDay
  split
  · exact .then (State.writeDayCtrl_moves ..) rfl <| .refl ..
  · exact .then (State.writeHourOfs_moves ..) rfl <| .refl ..
  · exact .then (State.writeHoldLimit_moves ..) rfl <| .refl ..
  · exact .then (State.writeDayStartHi_moves ..) rfl <| .refl ..
  · exact .then (State.writeDayCmd_moves ..) rfl <| .refl ..
  · exact .then (State.refreshValid_moves ..) rfl <| .then (State.plainWrite_moves ..) rfl <| .refl ..
  · exact .then (State.plainWrite_moves ..) rfl <| .refl ..

theorem State.writePower_moves (r : RegRow) (off : Nat) (v : Word) (who : Reader) (s : State) : Moves 0x3FFFF7C s (State.writePower r off v who s) := by
  unfold State.writePower
  exact .ite (.then (State.writeStepVal_moves ..) rfl <| .refl ..) (.ite (.then (State.writePwrCfg_moves ..) rfl <| .refl ..) (.ite (.then
    (State.writePwrCmd_moves ..) rfl <| .refl ..) (.then (State.plainWrite_moves ..) rfl <| .refl ..)))

theorem State.writeRoute_moves (r : RegRow) (off : Nat) (v : Word) (who : Reader) (s : State) : Moves 0x1083C s (State.writeRoute r off v who s) := by
  unfold State.writeRoute
  exact .ite (.then (State.writeEveParam_moves ..) rfl <| .refl ..) (.then (State.plainWrite_moves ..) rfl <| .refl ..)

theorem State.writeLink_moves (r : RegRow) (off : Nat) (v : Word) (who : Reader) (s : State) : Moves 0x1EF5F3C s (State.writeLink r off v who s) := by
  unfold State.writeLink
  exact .ite (.then (State.writeRouteCmd_moves ..) rfl <| .refl ..) (.ite (.then (State.writeLnkCfg_moves ..) rfl <| .refl ..) (.ite (.then
    (State.writeAperture_moves ..) rfl <| .refl ..) (.ite (.then (State.writeWindow_moves ..) rfl <| .refl ..) (.then (State.plainWrite_moves ..) rfl <|
    .refl ..))))

theorem State.writeIng_moves (r : RegRow) (off : Nat) (v : Word) (who : Reader) (s : State) : Moves 0x106193C s (State.writeIng r off v who s) := by
  unfold State.writeIng
  exact .ite (.then (State.writePortCfg_moves ..) rfl <| .refl ..) (.ite (.then (State.ingCmd_moves ..) rfl <| .refl ..) (.ite (.then (State.writeRoot_moves
    ..) rfl <| .refl ..) (.then (State.plainWrite_moves ..) rfl <| .refl ..)))

theorem State.writeFlt_moves (r : RegRow) (off : Nat) (v : Word) (who : Reader) (s : State) : Moves 0x3FF7F3C s (State.writeFlt r off v who s) := by
  unfold State.writeFlt
  split
  · exact .then (State.writeFltCmd_moves ..) rfl <| .refl ..
  · exact .then (State.writeReconcile_moves ..) rfl <| .refl ..
  · exact .then (State.plainWrite_moves ..) rfl <| .refl ..

theorem State.applyWrite_moves (off : Nat) (v : Word) (who : Reader) (s : State) : Moves 0x3FFFF7C s (State.applyWrite off v who s) := by
  unfold State.applyWrite
  split
  · exact .refl ..
  · split
    · exact .then (State.writeHub_moves ..) rfl <| .refl ..
    · exact .then (State.writeDay_moves ..) rfl <| .refl ..
    · exact .then (State.writePower_moves ..) rfl <| .refl ..
    · exact .then (State.writePower_moves ..) rfl <| .refl ..
    · exact .then (State.writeRoute_moves ..) rfl <| .refl ..
    · exact .then (State.writeLink_moves ..) rfl <| .refl ..
    · exact .then (State.writeLink_moves ..) rfl <| .refl ..
    · exact .then (State.writeIng_moves ..) rfl <| .refl ..
    · exact .then (State.writeIng_moves ..) rfl <| .refl ..
    · exact .then (State.writeFlt_moves ..) rfl <| .refl ..
    · exact .then (State.writeMsix_moves ..) rfl <| .refl ..
    · exact .then (State.plainWrite_moves ..) rfl <| .refl ..

theorem State.writeReg_moves (off : Nat) (v : Word) (who : Reader) (s : State) : Moves 0x3FFFFFC s (State.writeReg off v who s) := by
  unfold State.writeReg
  exact .ite (.refl ..) (State.onWrite_moves rfl (.refl ..) (fun x0 hx1 => .then (State.applyWrite_moves ..) rfl hx1))

theorem State.readWhole_moves (s : State) (z1 : List Nat) : MovesP 0x1000CE4 s (State.readWhole s z1) := by
  induction z1 generalizing s with
  | nil =>
    unfold State.readWhole
    exact .mk <| .refl ..
  | cons a0 l0 ih =>
    unfold State.readWhole
    extract_lets +onlyGivenNames -merge u0
    have hu0 : MovesP 0x1000CE4 s u0 := .then (State.readAt_moves ..) rfl <| .refl ..
    clear_value u0
    extract_lets +onlyGivenNames -merge u1
    have hu1 : MovesP 0x1000CE4 s u1 := .then (ih _) rfl <| MovesP.snd hu0
    clear_value u1
    exact .mk <| MovesP.snd hu1

theorem State.barRead_moves (off : Nat) (len : Nat) (s : State) : Moves 0x1000CEC s (State.barRead off len s) := by
  unfold State.barRead
  refine .ite ?_ ?_
  · extract_lets +onlyGivenNames -merge u0 u1
    have hu1 : MovesP 0x1000CEC s u1 := .then (State.readWhole_moves ..) rfl <| .refl ..
    clear_value u1
    exact .then (State.send_moves ..) rfl <| MovesP.snd hu1
  · exact .then (State.send_moves ..) rfl <| .then (State.hubErr_moves ..) rfl <| .refl ..

theorem State.barWord_moves (off : Nat) (data : List Byte) (s : State) (r : Nat) : Moves 0x3FFFFFC s (State.barWord off data s r) := by
  unfold State.barWord
  exact .ite (.then (State.writeReg_moves ..) rfl <| .refl ..) (.ite (.refl ..) (.then (State.hubErr_moves ..) rfl <| .refl ..))

theorem State.barWrite_moves (off : Nat) (data : List Byte) (s : State) : Moves 0x3FFFFFC s (State.barWrite off data s) := by
  unfold State.barWrite
  exact .ite (.foldl _ (.refl ..) fun _ _ hx0 => .then (State.barWord_moves ..) rfl hx0) (.ite (.refl ..) (.then (State.hubErr_moves ..) rfl <| .refl ..))

theorem execBar0IllegalAccess_moves (write : Bool) (off : Nat) (len : Nat) (data : List Byte) (s : State) : MovesR 0x3FFFFFC s (execBar0IllegalAccess write off
  len data s) := by
  unfold execBar0IllegalAccess
  exact .next <| .ite (.refl ..) (.ite (.ite (.refl ..) (.then (State.barWrite_moves ..) rfl <| .refl ..)) (.ite (.refl ..) (.then (State.barRead_moves ..)
    rfl <| .refl ..)))

theorem execHubErrClear_moves (who : Reader) (s : State) : MovesR 0xE0 s (execHubErrClear who s) := by
  unfold execHubErrClear
  exact .next <| State.onWrite_moves rfl (.refl ..) (fun x0 hx1 => .then (State.clearHubErr_moves ..) rfl hx1)

theorem execRegisterWrite_moves (off : Nat) (v : Word) (who : Reader) (s : State) : MovesR 0x3FFFFFC s (execRegisterWrite off v who s) := by
  unfold execRegisterWrite
  refine .next ?_
  split
  · exact .ite (.then (State.writeReg_moves ..) rfl <| .refl ..) (.ite (.then (State.barWrite_moves ..) rfl <| .refl ..) (.refl ..))
  · exact .ite (.then (State.writeReg_moves ..) rfl <| .refl ..) (.refl ..)

/-! ### Machine/Mgt.lean -/

theorem State.portError_moves (s : State) (k : Nat) : Moves 0x10020 s (State.portError s k) := by
  unfold State.portError
  exact .then (State.alert_moves ..) rfl <| .then (State.bump_moves ..) rfl <| .refl ..

theorem refuse_moves (st : Nat) (s : State) : MovesQ 0x0 s (refuse st s) := by
  unfold refuse
  exact .mk <| .refl ..

theorem mgtAnswer_moves {m : Nat} {o : State} {code : Nat} {tag : Byte} {r : Nat × List Byte × State} (e : m ||| 0x10020 = m) (h : MovesQ m o r) :
    Moves m o (mgtAnswer code tag r) := by
  unfold mgtAnswer
  extract_lets t u v w
  have hv : Moves m o v := State.setMgt_moves (within (b := 0x10000) rfl e) rfl h
  have hw : Moves m o w := .then (State.bump_moves ..) (within rfl e) hv
  exact .ite (.then (State.bump_moves ..) (within rfl e) hw) hw

theorem State.replaceResponse_moves (s : State) : Moves 0x10020 s (State.replaceResponse s) := by
  unfold State.replaceResponse
  exact .ite (.then (State.portError_moves ..) rfl <| .refl ..) (.refl ..)

theorem State.mgtRun_moves {m : Nat} {o : State} {s : State} {r : MgtReq} {code : Nat} {len : Nat} {g : Gate} {act : MgtAct} (em : m ||| 0x10020 = m) (h0 : Moves m
  o s) (hact : ∀ y0 y1, Moves m o y1 → MovesQ m o (act y0 y1)) : Moves m o (State.mgtRun s r code len g act) := by
  unfold State.mgtRun
  refine .ite h0 ?_
  refine .ite (.then (State.portError_moves ..) (within rfl em) h0) ?_
  extract_lets +onlyGivenNames -merge u0
  have hu0 : Moves m o u0 := .then (State.replaceResponse_moves ..) (within rfl em) h0
  clear_value u0
  refine .ite (mgtAnswer_moves (within rfl em) <| .then (refuse_moves ..) (within rfl em) hu0) ?_
  split
  · exact mgtAnswer_moves (within rfl em) <| .then (refuse_moves ..) (within rfl em) hu0
  · exact mgtAnswer_moves (within rfl em) <| hact _ _ hu0

theorem State.mgtWrite_moves {m : Nat} {o : State} {s : State} {i : Instr} {r : MgtReq} {code : Nat} {len : Nat} {g : Gate} {act : MgtAct} (em : m ||| 0x1010020 =
  m) (h0 : Moves m o s) (hact : ∀ y0 y1, Moves m o y1 → MovesQ m o (act y0 y1)) : Moves m o (State.mgtWrite s i r code len g act) := by
  unfold State.mgtWrite
  refine .ite ?_ ?_
  · extract_lets +onlyGivenNames -merge u0
    have hu0 : Moves m o u0 := .then (State.replaceResponse_moves ..) (within rfl em) h0
    clear_value u0
    extract_lets +onlyGivenNames -merge u1 u2
    have hu2 : Moves m o u2 := State.setMgt_moves (within rfl em) rfl hu0
    clear_value u2
    exact .then (State.setPwr_moves ..) (within rfl em) hu2
  · exact State.mgtRun_moves (within rfl em) h0 (fun x3 x4 hx5 => hact _ _ hx5)

theorem reads_moves (f : State → List Byte) (z1 : List Byte) (z2 : State) : MovesQ 0x0 z2 (reads f z1 z2) := by
  unfold reads
  exact .mk <| .refl ..

theorem execMgtGetId_moves (code : Byte) (r : MgtReq) (s : State) : MovesR 0x10020 s (execMgtGetId code r s) := by
  unfold execMgtGetId
  exact .next <| .ite (State.mgtRun_moves rfl (.refl ..) (fun x0 x1 hx2 => .then (reads_moves ..) rfl hx2)) (.ite (.refl ..) (State.mgtRun_moves rfl (.refl
    ..) (fun x3 x4 hx5 => .then (refuse_moves ..) rfl hx5)))

theorem execMgtGetState_moves (r : MgtReq) (s : State) : MovesR 0x10020 s (execMgtGetState r s) := by
  unfold execMgtGetState
  exact .next <| State.mgtRun_moves rfl (.refl ..) (fun x0 x1 hx2 => .then (reads_moves ..) rfl hx2)

theorem mgtRead_moves (z0 : List Byte) (z1 : State) : MovesQ 0x1000CE4 z1 (mgtRead z0 z1) := by
  unfold mgtRead
  extract_lets +onlyGivenNames -merge u0
  refine .ite (.then (refuse_moves ..) rfl <| .refl ..) ?_
  extract_lets +onlyGivenNames -merge u1
  have hu1 : MovesP 0x1000CE4 z1 u1 := .then (State.readAt_moves ..) rfl <| .refl ..
  clear_value u1
  exact .mk <| MovesP.snd hu1

theorem execMgtReadReg_moves (r : MgtReq) (s : State) : MovesR 0x1010CE4 s (execMgtReadReg r s) := by
  unfold execMgtReadReg
  exact .next <| State.mgtRun_moves rfl (.refl ..) (fun x0 x1 hx2 => .then (mgtRead_moves ..) rfl hx2)

theorem mgtWriteAct_moves (z0 : List Byte) (z1 : State) : MovesQ 0x3FFFFFC z1 (mgtWriteAct z0 z1) := by
  unfold mgtWriteAct
  extract_lets +onlyGivenNames -merge u0 u1
  exact .ite (.then (refuse_moves ..) rfl <| .refl ..) (.ite (.mk <| .then (State.writeReg_moves ..) rfl <| .refl ..) (.mk <| .then (State.bump_moves ..) rfl
    <| .then (State.writeReg_moves ..) rfl <| .refl ..))

theorem execMgtWriteReg_moves (r : MgtReq) (s : State) : MovesR 0x3FFFFFC s (execMgtWriteReg r s) := by
  unfold execMgtWriteReg
  exact .next <| State.mgtWrite_moves rfl (.refl ..) (fun x0 x1 hx2 => .then (mgtWriteAct_moves ..) rfl hx2)

theorem State.lastDraw_moves (s : State) : MovesP 0x4 s (State.lastDraw s) := by
  unfold State.lastDraw
  extract_lets +onlyGivenNames -merge u0 u1
  refine .ite ?_ ?_
  · split
    rename_i x2 x3 x4 x5
    exact .mk <| MovesP.of (.then (State.takeFree_moves ..) rfl <| .refl ..) x5
  · exact .mk <| .refl ..

theorem mgtPage_moves (z0 : List Byte) (z1 : State) : MovesQ 0x4 z1 (mgtPage z0 z1) := by
  unfold mgtPage
  extract_lets +onlyGivenNames -merge u0
  refine .ite (.then (refuse_moves ..) rfl <| .refl ..) ?_
  refine .ite (.then (refuse_moves ..) rfl <| .refl ..) ?_
  refine .ite (.then (refuse_moves ..) rfl <| .refl ..) ?_
  refine .ite ?_ ?_
  · extract_lets +onlyGivenNames -merge u1
    have hu1 : MovesP 0x4 z1 u1 := .then (State.lastDraw_moves ..) rfl <| .refl ..
    clear_value u1
    extract_lets +onlyGivenNames -merge u2
    exact .mk <| MovesP.snd hu1
  · exact .mk <| .refl ..

theorem execMgtTelemetry_moves (r : MgtReq) (s : State) : MovesR 0x10024 s (execMgtTelemetry r s) := by
  unfold execMgtTelemetry
  exact .next <| State.mgtRun_moves rfl (.refl ..) (fun x0 x1 hx2 => .then (mgtPage_moves ..) rfl hx2)

theorem mgtView_moves (z0 : List Byte) (z1 : State) : MovesQ 0x0 z1 (mgtView z0 z1) := by
  unfold mgtView
  extract_lets +onlyGivenNames -merge u0
  exact .ite (.then (refuse_moves ..) rfl <| .refl ..) (.mk <| .refl ..)

theorem execMgtGetView_moves (r : MgtReq) (s : State) : MovesR 0x10020 s (execMgtGetView r s) := by
  unfold execMgtGetView
  exact .next <| State.mgtRun_moves rfl (.refl ..) (fun x0 x1 hx2 => .then (mgtView_moves ..) rfl hx2)

theorem mgtSetView_moves (z0 : List Byte) (z1 : State) : MovesQ 0x1EF5D3C z1 (mgtSetView z0 z1) := by
  unfold mgtSetView
  extract_lets +onlyGivenNames -merge u0 u1
  refine .ite ?_ ?_
  · split
    rename_i x2 x3 x4 x5
    exact .then (refuse_moves ..) rfl <| .then (State.locked_moves ..) rfl <| MovesP.of (.then (State.takeFree_moves ..) rfl <| .refl ..) x5
  · refine .ite (.then (refuse_moves ..) rfl <| .refl ..) ?_
    extract_lets +onlyGivenNames -merge u6
    have hu6 : Moves 0x1EF5D3C z1 u6 := .then (State.schedule_moves ..) rfl <| .then (State.manageView_moves ..) rfl <| .refl ..
    clear_value u6
    exact .mk hu6

theorem execMgtSetMgmtView_moves (r : MgtReq) (s : State) : MovesR 0x1EF5D3C s (execMgtSetMgmtView r s) := by
  unfold execMgtSetMgmtView
  exact .next <| State.mgtWrite_moves rfl (.refl ..) (fun x0 x1 hx2 => .then (mgtSetView_moves ..) rfl hx2)

theorem mgtReconcileAct_moves (z0 : List Byte) (z1 : State) : MovesQ 0x3FF7F3C z1 (mgtReconcileAct z0 z1) := by
  unfold mgtReconcileAct
  extract_lets +onlyGivenNames -merge u0 u1
  refine .ite (.then (refuse_moves ..) rfl <| .then (State.locked_moves ..) rfl <| .refl ..) ?_
  refine .ite (.then (refuse_moves ..) rfl <| .refl ..) ?_
  extract_lets +onlyGivenNames -merge u2
  have hu2 : MovesP 0x3FF7F3C z1 u2 := .then (State.reconcile_moves ..) rfl <| .refl ..
  clear_value u2
  exact .ite (.mk <| MovesP.snd hu2) (.mk <| MovesP.snd hu2)

theorem execMgtReconcile_moves (r : MgtReq) (s : State) : MovesR 0x3FF7F3C s (execMgtReconcile r s) := by
  unfold execMgtReconcile
  exact .next <| State.mgtWrite_moves rfl (.refl ..) (fun x0 x1 hx2 => .then (mgtReconcileAct_moves ..) rfl hx2)

theorem execMgtSeqAbort_moves (r : MgtReq) (s : State) : MovesR 0x1C1583C s (execMgtSeqAbort r s) := by
  unfold execMgtSeqAbort
  exact .next <| State.mgtWrite_moves rfl (.refl ..) (fun x0 x1 hx2 => .mk <| .then (State.writeFltCmd_moves ..) rfl hx2)

theorem mgtPower_moves (z0 : List Byte) (z1 : State) : MovesQ 0x3FFFF7C z1 (mgtPower z0 z1) := by
  unfold mgtPower
  extract_lets +onlyGivenNames -merge u0
  exact .ite (.then (refuse_moves ..) rfl <| .refl ..) (.ite (.ite (.then (refuse_moves ..) rfl <| .refl ..) (.mk <| .then (State.askExit_moves ..) rfl <|
    .refl ..)) (.ite (.then (refuse_moves ..) rfl <| .refl ..) (.mk <| .then (State.writePwrCmd_moves ..) rfl <| .refl ..)))

theorem execMgtPowerReq_moves (r : MgtReq) (s : State) : MovesR 0x3FFFF7C s (execMgtPowerReq r s) := by
  unfold execMgtPowerReq
  exact .next <| State.mgtWrite_moves rfl (.refl ..) (fun x0 x1 hx2 => .then (mgtPower_moves ..) rfl hx2)

theorem execMgtMidnightExit_moves (r : MgtReq) (s : State) : MovesR 0x3FFFF7C s (execMgtMidnightExit r s) := by
  unfold execMgtMidnightExit
  exact .next <| State.mgtWrite_moves rfl (.refl ..) (fun x0 x1 hx2 => .then (mgtPower_moves ..) rfl hx2)

theorem mgtWarm_moves (z0 : List Byte) (z1 : State) : MovesQ 0x3EFFD3C z1 (mgtWarm z0 z1) := by
  unfold mgtWarm
  exact .ite (.then (refuse_moves ..) rfl <| .refl ..) (.ite (.then (refuse_moves ..) rfl <| .refl ..) (.mk <| .then (State.startWarm_moves ..) rfl <| .refl
    ..))

theorem execMgtWarmReset_moves (r : MgtReq) (s : State) : MovesR 0x3EFFD3C s (execMgtWarmReset r s) := by
  unfold execMgtWarmReset
  exact .next <| State.mgtWrite_moves rfl (.refl ..) (fun x0 x1 hx2 => .then (mgtWarm_moves ..) rfl hx2)

theorem mgtCold_moves (t : Nat) (z1 : List Byte) (z2 : State) : MovesQ 0x8000 z2 (mgtCold t z1 z2) := by
  unfold mgtCold
  exact .ite (.then (refuse_moves ..) rfl <| .refl ..) (.mk <| .boot _ rfl <| .refl ..)

theorem execMgtColdStart_moves (r : MgtReq) (t : Nat) (s : State) : MovesR 0x18022 s (execMgtColdStart r t s) := by
  unfold execMgtColdStart
  extract_lets +onlyGivenNames -merge u0
  have hu0 : Moves 0x18022 s u0 := .then (State.reachClk_moves ..) rfl <| .refl ..
  clear_value u0
  exact .next <| State.mgtRun_moves rfl hu0 (fun x1 x2 hx3 => .then (mgtCold_moves ..) rfl hx3)

theorem mgtRecord_moves (z0 : List Byte) (z1 : State) : MovesQ 0x0 z1 (mgtRecord z0 z1) := by
  unfold mgtRecord
  extract_lets +onlyGivenNames -merge u0
  exact .ite (.then (refuse_moves ..) rfl <| .refl ..) (.mk <| .refl ..)

theorem execMgtReadRecord_moves (r : MgtReq) (s : State) : MovesR 0x10020 s (execMgtReadRecord r s) := by
  unfold execMgtReadRecord
  exact .next <| State.mgtRun_moves rfl (.refl ..) (fun x0 x1 hx2 => .then (mgtRecord_moves ..) rfl hx2)

theorem mgtDmap_moves (z0 : List Byte) (z1 : State) : MovesQ 0x0 z1 (mgtDmap z0 z1) := by
  unfold mgtDmap
  exact .mk <| .refl ..

theorem execMgtReadDmap_moves (r : MgtReq) (s : State) : MovesR 0x10020 s (execMgtReadDmap r s) := by
  unfold execMgtReadDmap
  exact .next <| State.mgtRun_moves rfl (.refl ..) (fun x0 x1 hx2 => .then (mgtDmap_moves ..) rfl hx2)

theorem execMgtUnpin_moves (r : MgtReq) (s : State) : MovesR 0x1C1583C s (execMgtUnpin r s) := by
  unfold execMgtUnpin
  exact .next <| State.mgtWrite_moves rfl (.refl ..) (fun x0 x1 hx2 => .mk <| .then (State.writeFltCmd_moves ..) rfl hx2)

theorem execMgtAlertStatus_moves (r : MgtReq) (s : State) : MovesR 0x10020 s (execMgtAlertStatus r s) := by
  unfold execMgtAlertStatus
  exact .next <| State.mgtRun_moves rfl (.refl ..) (fun x0 x1 hx2 => .then (reads_moves ..) rfl hx2)

theorem mgtAck_moves (z0 : List Byte) (z1 : State) : MovesQ 0x20 z1 (mgtAck z0 z1) := by
  unfold mgtAck
  extract_lets +onlyGivenNames -merge u0
  have hu0 : Moves 0x20 z1 u0 := .then (State.setReg_moves ..) rfl <| .refl ..
  clear_value u0
  exact .mk hu0

theorem execMgtAlertAck_moves (r : MgtReq) (s : State) : MovesR 0x1010020 s (execMgtAlertAck r s) := by
  unfold execMgtAlertAck
  exact .next <| State.mgtWrite_moves rfl (.refl ..) (fun x0 x1 hx2 => .then (mgtAck_moves ..) rfl hx2)

theorem State.readResponse_moves (s : State) (bs : List Byte) : Moves 0x18008 s (State.readResponse s bs) := by
  unfold State.readResponse
  extract_lets +onlyGivenNames -merge u0 u1 u2
  have hu2 : Moves 0x18008 s u2 := .then (State.send_moves ..) rfl <| State.setMgt_moves rfl rfl <| .refl ..
  clear_value u2
  exact .ite (.boot _ rfl hu2) hu2

theorem execMgtReadResponse_moves (t : Nat) (s : State) : MovesR 0x1800E s (execMgtReadResponse t s) := by
  unfold execMgtReadResponse
  extract_lets +onlyGivenNames -merge u0
  have hu0 : Moves 0x1800E s u0 := .then (State.reachClk_moves ..) rfl <| .refl ..
  clear_value u0
  refine .next ?_
  refine .ite hu0 ?_
  split
  · exact .then (State.readResponse_moves ..) rfl hu0
  · exact .then (State.send_moves ..) rfl hu0
  · split
    rename_i x14 x15 x16 x17
    exact .then (State.send_moves ..) rfl <| MovesP.of (.then (State.takeFree_moves ..) rfl hu0) x17

theorem execMgtAlertResponse_moves (s : State) : MovesR 0x10008 s (execMgtAlertResponse s) := by
  unfold execMgtAlertResponse
  exact .next <| .ite (.then (State.send_moves ..) rfl <| State.setMgt_moves rfl rfl <| .refl ..) (.refl ..)

theorem execMgtBusTimeout_moves (ue : Bool) (s : State) : MovesR 0x10020 s (execMgtBusTimeout ue s) := by
  unfold execMgtBusTimeout
  refine .next ?_
  refine .ite (.refl ..) ?_
  extract_lets +onlyGivenNames -merge u0 u1
  have hu1 : Moves 0x10020 s u1 := .ite (State.setMgt_moves rfl rfl <| .refl ..) (.refl ..)
  clear_value u1
  exact .then (State.portError_moves ..) rfl hu1

/-! ### Machine/Test.lean -/

theorem State.loadTest_moves (s : State) (code : Nat) : Moves 0x4000000 s (State.loadTest s code) := by
  unfold State.loadTest
  exact .ite (.test _ rfl <| .refl ..) (.refl ..)

theorem execJtagExtest_moves (bits : Nat) (s : State) : MovesR 0x4000000 s (execJtagExtest bits s) := by
  unfold execJtagExtest
  extract_lets +onlyGivenNames -merge u0
  have hu0 : Moves 0x4000000 s u0 := .then (State.loadTest_moves ..) rfl <| .refl ..
  clear_value u0
  exact .next <| .ite (.test _ rfl hu0) hu0

theorem execJtagIdcode_moves (s : State) : MovesR 0x4000008 s (execJtagIdcode s) := by
  unfold execJtagIdcode
  exact .next <| .ite (.then (State.send_moves ..) rfl <| .then (State.loadTest_moves ..) rfl <| .refl ..) (.refl ..)

theorem execJtagSamplePreload_moves (pins : Nat) (bits : Nat) (s : State) : MovesR 0x4000008 s (execJtagSamplePreload pins bits s) := by
  unfold execJtagSamplePreload
  extract_lets +onlyGivenNames -merge u0
  have hu0 : Moves 0x4000008 s u0 := .then (State.loadTest_moves ..) rfl <| .refl ..
  clear_value u0
  exact .next <| .ite (.then (State.send_moves ..) rfl <| .test _ rfl hu0) hu0

theorem execJtagClamp_moves (s : State) : MovesR 0x4000000 s (execJtagClamp s) := by
  unfold execJtagClamp
  exact .next <| .then (State.loadTest_moves ..) rfl <| .refl ..

theorem execJtagHighz_moves (s : State) : MovesR 0x4000000 s (execJtagHighz s) := by
  unfold execJtagHighz
  exact .next <| .then (State.loadTest_moves ..) rfl <| .refl ..

theorem execJtagBypass_moves (code : Nat) (s : State) : MovesR 0x4000000 s (execJtagBypass code s) := by
  unfold execJtagBypass
  exact .next <| .ite (.refl ..) (.then (State.loadTest_moves ..) rfl <| .refl ..)

theorem execJtagTestLogicReset_moves (s : State) : MovesR 0x4000000 s (execJtagTestLogicReset s) := by
  unfold execJtagTestLogicReset
  exact .next <| .test _ rfl <| .refl ..

theorem execHbmTemperatureReport_moves (u : Fin 8) (c : Nat) (s : State) : MovesR 0x1000000 s (execHbmTemperatureReport u c s) := by
  unfold execHbmTemperatureReport
  exact .next <| .ite (.refl ..) (.then (State.setPwr_moves ..) rfl <| .refl ..)

end Sys2Proof.Machine
end

