-- ==== Sys2Proof/Laws/Reports.lean ====
section
/-! SUPPORT. Laws/Reports.lean: for the operations that end most meanings (flags, events, records, completions, the scheduler), the parts of the state that they leave. -/

namespace Sys2Proof.Machine

@[simp] theorem State.toHost_pending (s : State) (o : Out) : (State.toHost s o).pending = s.pending := (State.toHost_moves ..).off .queue rfl
@[simp] theorem State.toHost_clk (s : State) (o : Out) : (State.toHost s o).clk = s.clk := (State.toHost_moves ..).off .clock rfl
@[simp] theorem State.toHost_free (s : State) (o : Out) : (State.toHost s o).free = s.free := (State.toHost_moves ..).off .freeCount rfl
@[simp] theorem State.toHost_regs (s : State) (o : Out) : (State.toHost s o).regs = s.regs := (State.toHost_moves ..).off .registers rfl
@[simp] theorem State.toHost_latchHost (s : State) (o : Out) : (State.toHost s o).latchHost = s.latchHost := (State.toHost_moves ..).off .hostLatches rfl
@[simp] theorem State.toHost_latchMgmt (s : State) (o : Out) : (State.toHost s o).latchMgmt = s.latchMgmt := (State.toHost_moves ..).off .mgmtLatches rfl
@[simp] theorem State.toHost_mem (s : State) (o : Out) : (State.toHost s o).mem = s.mem := (State.toHost_moves ..).off .memory rfl
@[simp] theorem State.toHost_day (s : State) (o : Out) : (State.toHost s o).day = s.day := (State.toHost_moves ..).off .day rfl
@[simp] theorem State.toHost_banks (s : State) (o : Out) : (State.toHost s o).banks = s.banks := (State.toHost_moves ..).off .banks rfl
@[simp] theorem State.toHost_host (s : State) (o : Out) : (State.toHost s o).host = s.host := (State.toHost_moves ..).off .host rfl
@[simp] theorem State.toHost_rings (s : State) (o : Out) : (State.toHost s o).rings = s.rings := (State.toHost_moves ..).off .rings rfl
@[simp] theorem State.toHost_ctxs (s : State) (o : Out) : (State.toHost s o).ctxs = s.ctxs := (State.toHost_moves ..).off .contexts rfl
@[simp] theorem State.toHost_flt (s : State) (o : Out) : (State.toHost s o).flt = s.flt := (State.toHost_moves ..).off .faults rfl
@[simp] theorem State.toHost_boot (s : State) (o : Out) : (State.toHost s o).boot = s.boot := (State.toHost_moves ..).off .boot rfl
@[simp] theorem State.toHost_mgt (s : State) (o : Out) : (State.toHost s o).mgt = s.mgt := (State.toHost_moves ..).off .mgt rfl
@[simp] theorem State.toHost_atp (s : State) (o : Out) : (State.toHost s o).atp = s.atp := (State.toHost_moves ..).off .atp rfl
@[simp] theorem State.toHost_ing (s : State) (o : Out) : (State.toHost s o).ing = s.ing := (State.toHost_moves ..).off .ingest rfl
@[simp] theorem State.toHost_work (s : State) (o : Out) : (State.toHost s o).work = s.work := (State.toHost_moves ..).off .work rfl
@[simp] theorem State.toHost_maps (s : State) (o : Out) : (State.toHost s o).maps = s.maps := (State.toHost_moves ..).off .maps rfl
@[simp] theorem State.toHost_cmb (s : State) (o : Out) : (State.toHost s o).cmb = s.cmb := (State.toHost_moves ..).off .combine rfl
@[simp] theorem State.toHost_lnk (s : State) (o : Out) : (State.toHost s o).lnk = s.lnk := (State.toHost_moves ..).off .links rfl
@[simp] theorem State.toHost_col (s : State) (o : Out) : (State.toHost s o).col = s.col := (State.toHost_moves ..).off .collectives rfl
@[simp] theorem State.toHost_pwr (s : State) (o : Out) : (State.toHost s o).pwr = s.pwr := (State.toHost_moves ..).off .power rfl
@[simp] theorem State.toHost_rep (s : State) (o : Out) : (State.toHost s o).rep = s.rep := (State.toHost_moves ..).off .repair rfl
@[simp] theorem State.toHost_test (s : State) (o : Out) : (State.toHost s o).test = s.test := (State.toHost_moves ..).off .test rfl

@[simp] theorem State.signalVector_pending (s : State) (v : Nat) : (State.signalVector s v).pending = s.pending := (State.signalVector_moves ..).off .queue rfl
@[simp] theorem State.signalVector_clk (s : State) (v : Nat) : (State.signalVector s v).clk = s.clk := (State.signalVector_moves ..).off .clock rfl
@[simp] theorem State.signalVector_free (s : State) (v : Nat) : (State.signalVector s v).free = s.free := (State.signalVector_moves ..).off .freeCount rfl
@[simp] theorem State.signalVector_latchHost (s : State) (v : Nat) : (State.signalVector s v).latchHost = s.latchHost :=
  (State.signalVector_moves ..).off .hostLatches rfl
@[simp] theorem State.signalVector_latchMgmt (s : State) (v : Nat) : (State.signalVector s v).latchMgmt = s.latchMgmt :=
  (State.signalVector_moves ..).off .mgmtLatches rfl
@[simp] theorem State.signalVector_mem (s : State) (v : Nat) : (State.signalVector s v).mem = s.mem := (State.signalVector_moves ..).off .memory rfl
@[simp] theorem State.signalVector_day (s : State) (v : Nat) : (State.signalVector s v).day = s.day := (State.signalVector_moves ..).off .day rfl
@[simp] theorem State.signalVector_banks (s : State) (v : Nat) : (State.signalVector s v).banks = s.banks := (State.signalVector_moves ..).off .banks rfl
@[simp] theorem State.signalVector_host (s : State) (v : Nat) : (State.signalVector s v).host = s.host := (State.signalVector_moves ..).off .host rfl
@[simp] theorem State.signalVector_rings (s : State) (v : Nat) : (State.signalVector s v).rings = s.rings := (State.signalVector_moves ..).off .rings rfl
@[simp] theorem State.signalVector_ctxs (s : State) (v : Nat) : (State.signalVector s v).ctxs = s.ctxs := (State.signalVector_moves ..).off .contexts rfl
@[simp] theorem State.signalVector_flt (s : State) (v : Nat) : (State.signalVector s v).flt = s.flt := (State.signalVector_moves ..).off .faults rfl
@[simp] theorem State.signalVector_boot (s : State) (v : Nat) : (State.signalVector s v).boot = s.boot := (State.signalVector_moves ..).off .boot rfl
@[simp] theorem State.signalVector_mgt (s : State) (v : Nat) : (State.signalVector s v).mgt = s.mgt := (State.signalVector_moves ..).off .mgt rfl
@[simp] theorem State.signalVector_atp (s : State) (v : Nat) : (State.signalVector s v).atp = s.atp := (State.signalVector_moves ..).off .atp rfl
@[simp] theorem State.signalVector_ing (s : State) (v : Nat) : (State.signalVector s v).ing = s.ing := (State.signalVector_moves ..).off .ingest rfl
@[simp] theorem State.signalVector_work (s : State) (v : Nat) : (State.signalVector s v).work = s.work := (State.signalVector_moves ..).off .work rfl
@[simp] theorem State.signalVector_maps (s : State) (v : Nat) : (State.signalVector s v).maps = s.maps := (State.signalVector_moves ..).off .maps rfl
@[simp] theorem State.signalVector_cmb (s : State) (v : Nat) : (State.signalVector s v).cmb = s.cmb := (State.signalVector_moves ..).off .combine rfl
@[simp] theorem State.signalVector_lnk (s : State) (v : Nat) : (State.signalVector s v).lnk = s.lnk := (State.signalVector_moves ..).off .links rfl
@[simp] theorem State.signalVector_col (s : State) (v : Nat) : (State.signalVector s v).col = s.col := (State.signalVector_moves ..).off .collectives rfl
@[simp] theorem State.signalVector_pwr (s : State) (v : Nat) : (State.signalVector s v).pwr = s.pwr := (State.signalVector_moves ..).off .power rfl
@[simp] theorem State.signalVector_rep (s : State) (v : Nat) : (State.signalVector s v).rep = s.rep := (State.signalVector_moves ..).off .repair rfl
@[simp] theorem State.signalVector_test (s : State) (v : Nat) : (State.signalVector s v).test = s.test := (State.signalVector_moves ..).off .test rfl

@[simp] theorem State.writeEvent_pending (s : State) : (State.writeEvent s).pending = s.pending := (State.writeEvent_moves ..).off .queue rfl
@[simp] theorem State.writeEvent_clk (s : State) : (State.writeEvent s).clk = s.clk := (State.writeEvent_moves ..).off .clock rfl
@[simp] theorem State.writeEvent_free (s : State) : (State.writeEvent s).free = s.free := (State.writeEvent_moves ..).off .freeCount rfl
@[simp] theorem State.writeEvent_latchHost (s : State) : (State.writeEvent s).latchHost = s.latchHost := (State.writeEvent_moves ..).off .hostLatches rfl
@[simp] theorem State.writeEvent_latchMgmt (s : State) : (State.writeEvent s).latchMgmt = s.latchMgmt := (State.writeEvent_moves ..).off .mgmtLatches rfl
@[simp] theorem State.writeEvent_mem (s : State) : (State.writeEvent s).mem = s.mem := (State.writeEvent_moves ..).off .memory rfl
@[simp] theorem State.writeEvent_day (s : State) : (State.writeEvent s).day = s.day := (State.writeEvent_moves ..).off .day rfl
@[simp] theorem State.writeEvent_banks (s : State) : (State.writeEvent s).banks = s.banks := (State.writeEvent_moves ..).off .banks rfl
@[simp] theorem State.writeEvent_rings (s : State) : (State.writeEvent s).rings = s.rings := (State.writeEvent_moves ..).off .rings rfl
@[simp] theorem State.writeEvent_ctxs (s : State) : (State.writeEvent s).ctxs = s.ctxs := (State.writeEvent_moves ..).off .contexts rfl
@[simp] theorem State.writeEvent_flt (s : State) : (State.writeEvent s).flt = s.flt := (State.writeEvent_moves ..).off .faults rfl
@[simp] theorem State.writeEvent_boot (s : State) : (State.writeEvent s).boot = s.boot := (State.writeEvent_moves ..).off .boot rfl
@[simp] theorem State.writeEvent_mgt (s : State) : (State.writeEvent s).mgt = s.mgt := (State.writeEvent_moves ..).off .mgt rfl
@[simp] theorem State.writeEvent_atp (s : State) : (State.writeEvent s).atp = s.atp := (State.writeEvent_moves ..).off .atp rfl
@[simp] theorem State.writeEvent_ing (s : State) : (State.writeEvent s).ing = s.ing := (State.writeEvent_moves ..).off .ingest rfl
@[simp] theorem State.writeEvent_work (s : State) : (State.writeEvent s).work = s.work := (State.writeEvent_moves ..).off .work rfl
@[simp] theorem State.writeEvent_maps (s : State) : (State.writeEvent s).maps = s.maps := (State.writeEvent_moves ..).off .maps rfl
@[simp] theorem State.writeEvent_cmb (s : State) : (State.writeEvent s).cmb = s.cmb := (State.writeEvent_moves ..).off .combine rfl
@[simp] theorem State.writeEvent_lnk (s : State) : (State.writeEvent s).lnk = s.lnk := (State.writeEvent_moves ..).off .links rfl
@[simp] theorem State.writeEvent_col (s : State) : (State.writeEvent s).col = s.col := (State.writeEvent_moves ..).off .collectives rfl
@[simp] theorem State.writeEvent_pwr (s : State) : (State.writeEvent s).pwr = s.pwr := (State.writeEvent_moves ..).off .power rfl
@[simp] theorem State.writeEvent_rep (s : State) : (State.writeEvent s).rep = s.rep := (State.writeEvent_moves ..).off .repair rfl
@[simp] theorem State.writeEvent_test (s : State) : (State.writeEvent s).test = s.test := (State.writeEvent_moves ..).off .test rfl

@[simp] theorem State.writeEvents_pending (s : State) (z1 : Nat) : (State.writeEvents s z1).pending = s.pending := (State.writeEvents_moves ..).off .queue rfl
@[simp] theorem State.writeEvents_clk (s : State) (z1 : Nat) : (State.writeEvents s z1).clk = s.clk := (State.writeEvents_moves ..).off .clock rfl
@[simp] theorem State.writeEvents_free (s : State) (z1 : Nat) : (State.writeEvents s z1).free = s.free := (State.writeEvents_moves ..).off .freeCount rfl
@[simp] theorem State.writeEvents_latchHost (s : State) (z1 : Nat) : (State.writeEvents s z1).latchHost = s.latchHost :=
  (State.writeEvents_moves ..).off .hostLatches rfl
@[simp] theorem State.writeEvents_latchMgmt (s : State) (z1 : Nat) : (State.writeEvents s z1).latchMgmt = s.latchMgmt :=
  (State.writeEvents_moves ..).off .mgmtLatches rfl
@[simp] theorem State.writeEvents_mem (s : State) (z1 : Nat) : (State.writeEvents s z1).mem = s.mem := (State.writeEvents_moves ..).off .memory rfl
@[simp] theorem State.writeEvents_day (s : State) (z1 : Nat) : (State.writeEvents s z1).day = s.day := (State.writeEvents_moves ..).off .day rfl
@[simp] theorem State.writeEvents_banks (s : State) (z1 : Nat) : (State.writeEvents s z1).banks = s.banks := (State.writeEvents_moves ..).off .banks rfl
@[simp] theorem State.writeEvents_rings (s : State) (z1 : Nat) : (State.writeEvents s z1).rings = s.rings := (State.writeEvents_moves ..).off .rings rfl
@[simp] theorem State.writeEvents_ctxs (s : State) (z1 : Nat) : (State.writeEvents s z1).ctxs = s.ctxs := (State.writeEvents_moves ..).off .contexts rfl
@[simp] theorem State.writeEvents_flt (s : State) (z1 : Nat) : (State.writeEvents s z1).flt = s.flt := (State.writeEvents_moves ..).off .faults rfl
@[simp] theorem State.writeEvents_boot (s : State) (z1 : Nat) : (State.writeEvents s z1).boot = s.boot := (State.writeEvents_moves ..).off .boot rfl
@[simp] theorem State.writeEvents_mgt (s : State) (z1 : Nat) : (State.writeEvents s z1).mgt = s.mgt := (State.writeEvents_moves ..).off .mgt rfl
@[simp] theorem State.writeEvents_atp (s : State) (z1 : Nat) : (State.writeEvents s z1).atp = s.atp := (State.writeEvents_moves ..).off .atp rfl
@[simp] theorem State.writeEvents_ing (s : State) (z1 : Nat) : (State.writeEvents s z1).ing = s.ing := (State.writeEvents_moves ..).off .ingest rfl
@[simp] theorem State.writeEvents_work (s : State) (z1 : Nat) : (State.writeEvents s z1).work = s.work := (State.writeEvents_moves ..).off .work rfl
@[simp] theorem State.writeEvents_maps (s : State) (z1 : Nat) : (State.writeEvents s z1).maps = s.maps := (State.writeEvents_moves ..).off .maps rfl
@[simp] theorem State.writeEvents_cmb (s : State) (z1 : Nat) : (State.writeEvents s z1).cmb = s.cmb := (State.writeEvents_moves ..).off .combine rfl
@[simp] theorem State.writeEvents_lnk (s : State) (z1 : Nat) : (State.writeEvents s z1).lnk = s.lnk := (State.writeEvents_moves ..).off .links rfl
@[simp] theorem State.writeEvents_col (s : State) (z1 : Nat) : (State.writeEvents s z1).col = s.col := (State.writeEvents_moves ..).off .collectives rfl
@[simp] theorem State.writeEvents_pwr (s : State) (z1 : Nat) : (State.writeEvents s z1).pwr = s.pwr := (State.writeEvents_moves ..).off .power rfl
@[simp] theorem State.writeEvents_rep (s : State) (z1 : Nat) : (State.writeEvents s z1).rep = s.rep := (State.writeEvents_moves ..).off .repair rfl
@[simp] theorem State.writeEvents_test (s : State) (z1 : Nat) : (State.writeEvents s z1).test = s.test := (State.writeEvents_moves ..).off .test rfl

@[simp] theorem State.event_pending (s : State) (source : Nat) (code : Nat) (ctx : Nat) (detail : Nat) : (State.event s source code ctx detail).pending = s.pending :=
  (State.event_moves ..).off .queue rfl
@[simp] theorem State.event_clk (s : State) (source : Nat) (code : Nat) (ctx : Nat) (detail : Nat) : (State.event s source code ctx detail).clk = s.clk :=
  (State.event_moves ..).off .clock rfl
@[simp] theorem State.event_free (s : State) (source : Nat) (code : Nat) (ctx : Nat) (detail : Nat) : (State.event s source code ctx detail).free = s.free :=
  (State.event_moves ..).off .freeCount rfl
@[simp] theorem State.event_latchHost (s : State) (source : Nat) (code : Nat) (ctx : Nat) (detail : Nat) : (State.event s source code ctx detail).latchHost = s.latchHost :=
  (State.event_moves ..).off .hostLatches rfl
@[simp] theorem State.event_latchMgmt (s : State) (source : Nat) (code : Nat) (ctx : Nat) (detail : Nat) : (State.event s source code ctx detail).latchMgmt = s.latchMgmt :=
  (State.event_moves ..).off .mgmtLatches rfl
@[simp] theorem State.event_mem (s : State) (source : Nat) (code : Nat) (ctx : Nat) (detail : Nat) : (State.event s source code ctx detail).mem = s.mem :=
  (State.event_moves ..).off .memory rfl
@[simp] theorem State.event_day (s : State) (source : Nat) (code : Nat) (ctx : Nat) (detail : Nat) : (State.event s source code ctx detail).day = s.day :=
  (State.event_moves ..).off .day rfl
@[simp] theorem State.event_banks (s : State) (source : Nat) (code : Nat) (ctx : Nat) (detail : Nat) : (State.event s source code ctx detail).banks = s.banks :=
  (State.event_moves ..).off .banks rfl
@[simp] theorem State.event_rings (s : State) (source : Nat) (code : Nat) (ctx : Nat) (detail : Nat) : (State.event s source code ctx detail).rings = s.rings :=
  (State.event_moves ..).off .rings rfl
@[simp] theorem State.event_ctxs (s : State) (source : Nat) (code : Nat) (ctx : Nat) (detail : Nat) : (State.event s source code ctx detail).ctxs = s.ctxs :=
  (State.event_moves ..).off .contexts rfl
@[simp] theorem State.event_flt (s : State) (source : Nat) (code : Nat) (ctx : Nat) (detail : Nat) : (State.event s source code ctx detail).flt = s.flt :=
  (State.event_moves ..).off .faults rfl
@[simp] theorem State.event_boot (s : State) (source : Nat) (code : Nat) (ctx : Nat) (detail : Nat) : (State.event s source code ctx detail).boot = s.boot :=
  (State.event_moves ..).off .boot rfl
@[simp] theorem State.event_mgt (s : State) (source : Nat) (code : Nat) (ctx : Nat) (detail : Nat) : (State.event s source code ctx detail).mgt = s.mgt :=
  (State.event_moves ..).off .mgt rfl
@[simp] theorem State.event_atp (s : State) (source : Nat) (code : Nat) (ctx : Nat) (detail : Nat) : (State.event s source code ctx detail).atp = s.atp :=
  (State.event_moves ..).off .atp rfl
@[simp] theorem State.event_ing (s : State) (source : Nat) (code : Nat) (ctx : Nat) (detail : Nat) : (State.event s source code ctx detail).ing = s.ing :=
  (State.event_moves ..).off .ingest rfl
@[simp] theorem State.event_work (s : State) (source : Nat) (code : Nat) (ctx : Nat) (detail : Nat) : (State.event s source code ctx detail).work = s.work :=
  (State.event_moves ..).off .work rfl
@[simp] theorem State.event_maps (s : State) (source : Nat) (code : Nat) (ctx : Nat) (detail : Nat) : (State.event s source code ctx detail).maps = s.maps :=
  (State.event_moves ..).off .maps rfl
@[simp] theorem State.event_cmb (s : State) (source : Nat) (code : Nat) (ctx : Nat) (detail : Nat) : (State.event s source code ctx detail).cmb = s.cmb :=
  (State.event_moves ..).off .combine rfl
@[simp] theorem State.event_lnk (s : State) (source : Nat) (code : Nat) (ctx : Nat) (detail : Nat) : (State.event s source code ctx detail).lnk = s.lnk :=
  (State.event_moves ..).off .links rfl
@[simp] theorem State.event_col (s : State) (source : Nat) (code : Nat) (ctx : Nat) (detail : Nat) : (State.event s source code ctx detail).col = s.col :=
  (State.event_moves ..).off .collectives rfl
@[simp] theorem State.event_pwr (s : State) (source : Nat) (code : Nat) (ctx : Nat) (detail : Nat) : (State.event s source code ctx detail).pwr = s.pwr :=
  (State.event_moves ..).off .power rfl
@[simp] theorem State.event_rep (s : State) (source : Nat) (code : Nat) (ctx : Nat) (detail : Nat) : (State.event s source code ctx detail).rep = s.rep :=
  (State.event_moves ..).off .repair rfl
@[simp] theorem State.event_test (s : State) (source : Nat) (code : Nat) (ctx : Nat) (detail : Nat) : (State.event s source code ctx detail).test = s.test :=
  (State.event_moves ..).off .test rfl

@[simp] theorem State.alert_pending (s : State) (b : Nat) : (State.alert s b).pending = s.pending := (State.alert_moves ..).off .queue rfl
@[simp] theorem State.alert_clk (s : State) (b : Nat) : (State.alert s b).clk = s.clk := (State.alert_moves ..).off .clock rfl
@[simp] theorem State.alert_free (s : State) (b : Nat) : (State.alert s b).free = s.free := (State.alert_moves ..).off .freeCount rfl
@[simp] theorem State.alert_sent (s : State) (b : Nat) : (State.alert s b).sent = s.sent := (State.alert_moves ..).off .sent rfl
@[simp] theorem State.alert_held (s : State) (b : Nat) : (State.alert s b).held = s.held := (State.alert_moves ..).off .held rfl
@[simp] theorem State.alert_latchHost (s : State) (b : Nat) : (State.alert s b).latchHost = s.latchHost := (State.alert_moves ..).off .hostLatches rfl
@[simp] theorem State.alert_latchMgmt (s : State) (b : Nat) : (State.alert s b).latchMgmt = s.latchMgmt := (State.alert_moves ..).off .mgmtLatches rfl
@[simp] theorem State.alert_mem (s : State) (b : Nat) : (State.alert s b).mem = s.mem := (State.alert_moves ..).off .memory rfl
@[simp] theorem State.alert_day (s : State) (b : Nat) : (State.alert s b).day = s.day := (State.alert_moves ..).off .day rfl
@[simp] theorem State.alert_banks (s : State) (b : Nat) : (State.alert s b).banks = s.banks := (State.alert_moves ..).off .banks rfl
@[simp] theorem State.alert_host (s : State) (b : Nat) : (State.alert s b).host = s.host := (State.alert_moves ..).off .host rfl
@[simp] theorem State.alert_rings (s : State) (b : Nat) : (State.alert s b).rings = s.rings := (State.alert_moves ..).off .rings rfl
@[simp] theorem State.alert_ctxs (s : State) (b : Nat) : (State.alert s b).ctxs = s.ctxs := (State.alert_moves ..).off .contexts rfl
@[simp] theorem State.alert_flt (s : State) (b : Nat) : (State.alert s b).flt = s.flt := (State.alert_moves ..).off .faults rfl
@[simp] theorem State.alert_boot (s : State) (b : Nat) : (State.alert s b).boot = s.boot := (State.alert_moves ..).off .boot rfl
@[simp] theorem State.alert_atp (s : State) (b : Nat) : (State.alert s b).atp = s.atp := (State.alert_moves ..).off .atp rfl
@[simp] theorem State.alert_ing (s : State) (b : Nat) : (State.alert s b).ing = s.ing := (State.alert_moves ..).off .ingest rfl
@[simp] theorem State.alert_work (s : State) (b : Nat) : (State.alert s b).work = s.work := (State.alert_moves ..).off .work rfl
@[simp] theorem State.alert_maps (s : State) (b : Nat) : (State.alert s b).maps = s.maps := (State.alert_moves ..).off .maps rfl
@[simp] theorem State.alert_cmb (s : State) (b : Nat) : (State.alert s b).cmb = s.cmb := (State.alert_moves ..).off .combine rfl
@[simp] theorem State.alert_lnk (s : State) (b : Nat) : (State.alert s b).lnk = s.lnk := (State.alert_moves ..).off .links rfl
@[simp] theorem State.alert_col (s : State) (b : Nat) : (State.alert s b).col = s.col := (State.alert_moves ..).off .collectives rfl
@[simp] theorem State.alert_pwr (s : State) (b : Nat) : (State.alert s b).pwr = s.pwr := (State.alert_moves ..).off .power rfl
@[simp] theorem State.alert_rep (s : State) (b : Nat) : (State.alert s b).rep = s.rep := (State.alert_moves ..).off .repair rfl
@[simp] theorem State.alert_test (s : State) (b : Nat) : (State.alert s b).test = s.test := (State.alert_moves ..).off .test rfl

@[simp] theorem State.flag_pending (s : State) (off : Nat) (bit : Nat) (source : Nat) (ctx : Nat) (detail : Nat) : (State.flag s off bit source ctx detail).pending = s.pending :=
  (State.flag_moves ..).off .queue rfl
@[simp] theorem State.flag_clk (s : State) (off : Nat) (bit : Nat) (source : Nat) (ctx : Nat) (detail : Nat) : (State.flag s off bit source ctx detail).clk = s.clk :=
  (State.flag_moves ..).off .clock rfl
@[simp] theorem State.flag_free (s : State) (off : Nat) (bit : Nat) (source : Nat) (ctx : Nat) (detail : Nat) : (State.flag s off bit source ctx detail).free = s.free :=
  (State.flag_moves ..).off .freeCount rfl
@[simp] theorem State.flag_latchHost (s : State) (off : Nat) (bit : Nat) (source : Nat) (ctx : Nat) (detail : Nat) : (State.flag s off bit source ctx detail).latchHost = s.latchHost :=
  (State.flag_moves ..).off .hostLatches rfl
@[simp] theorem State.flag_latchMgmt (s : State) (off : Nat) (bit : Nat) (source : Nat) (ctx : Nat) (detail : Nat) : (State.flag s off bit source ctx detail).latchMgmt = s.latchMgmt :=
  (State.flag_moves ..).off .mgmtLatches rfl
@[simp] theorem State.flag_mem (s : State) (off : Nat) (bit : Nat) (source : Nat) (ctx : Nat) (detail : Nat) : (State.flag s off bit source ctx detail).mem = s.mem :=
  (State.flag_moves ..).off .memory rfl
@[simp] theorem State.flag_day (s : State) (off : Nat) (bit : Nat) (source : Nat) (ctx : Nat) (detail : Nat) : (State.flag s off bit source ctx detail).day = s.day :=
  (State.flag_moves ..).off .day rfl
@[simp] theorem State.flag_banks (s : State) (off : Nat) (bit : Nat) (source : Nat) (ctx : Nat) (detail : Nat) : (State.flag s off bit source ctx detail).banks = s.banks :=
  (State.flag_moves ..).off .banks rfl
@[simp] theorem State.flag_rings (s : State) (off : Nat) (bit : Nat) (source : Nat) (ctx : Nat) (detail : Nat) : (State.flag s off bit source ctx detail).rings = s.rings :=
  (State.flag_moves ..).off .rings rfl
@[simp] theorem State.flag_ctxs (s : State) (off : Nat) (bit : Nat) (source : Nat) (ctx : Nat) (detail : Nat) : (State.flag s off bit source ctx detail).ctxs = s.ctxs :=
  (State.flag_moves ..).off .contexts rfl
@[simp] theorem State.flag_flt (s : State) (off : Nat) (bit : Nat) (source : Nat) (ctx : Nat) (detail : Nat) : (State.flag s off bit source ctx detail).flt = s.flt :=
  (State.flag_moves ..).off .faults rfl
@[simp] theorem State.flag_boot (s : State) (off : Nat) (bit : Nat) (source : Nat) (ctx : Nat) (detail : Nat) : (State.flag s off bit source ctx detail).boot = s.boot :=
  (State.flag_moves ..).off .boot rfl
@[simp] theorem State.flag_atp (s : State) (off : Nat) (bit : Nat) (source : Nat) (ctx : Nat) (detail : Nat) : (State.flag s off bit source ctx detail).atp = s.atp :=
  (State.flag_moves ..).off .atp rfl
@[simp] theorem State.flag_ing (s : State) (off : Nat) (bit : Nat) (source : Nat) (ctx : Nat) (detail : Nat) : (State.flag s off bit source ctx detail).ing = s.ing :=
  (State.flag_moves ..).off .ingest rfl
@[simp] theorem State.flag_work (s : State) (off : Nat) (bit : Nat) (source : Nat) (ctx : Nat) (detail : Nat) : (State.flag s off bit source ctx detail).work = s.work :=
  (State.flag_moves ..).off .work rfl
@[simp] theorem State.flag_maps (s : State) (off : Nat) (bit : Nat) (source : Nat) (ctx : Nat) (detail : Nat) : (State.flag s off bit source ctx detail).maps = s.maps :=
  (State.flag_moves ..).off .maps rfl
@[simp] theorem State.flag_cmb (s : State) (off : Nat) (bit : Nat) (source : Nat) (ctx : Nat) (detail : Nat) : (State.flag s off bit source ctx detail).cmb = s.cmb :=
  (State.flag_moves ..).off .combine rfl
@[simp] theorem State.flag_lnk (s : State) (off : Nat) (bit : Nat) (source : Nat) (ctx : Nat) (detail : Nat) : (State.flag s off bit source ctx detail).lnk = s.lnk :=
  (State.flag_moves ..).off .links rfl
@[simp] theorem State.flag_col (s : State) (off : Nat) (bit : Nat) (source : Nat) (ctx : Nat) (detail : Nat) : (State.flag s off bit source ctx detail).col = s.col :=
  (State.flag_moves ..).off .collectives rfl
@[simp] theorem State.flag_pwr (s : State) (off : Nat) (bit : Nat) (source : Nat) (ctx : Nat) (detail : Nat) : (State.flag s off bit source ctx detail).pwr = s.pwr :=
  (State.flag_moves ..).off .power rfl
@[simp] theorem State.flag_rep (s : State) (off : Nat) (bit : Nat) (source : Nat) (ctx : Nat) (detail : Nat) : (State.flag s off bit source ctx detail).rep = s.rep :=
  (State.flag_moves ..).off .repair rfl
@[simp] theorem State.flag_test (s : State) (off : Nat) (bit : Nat) (source : Nat) (ctx : Nat) (detail : Nat) : (State.flag s off bit source ctx detail).test = s.test :=
  (State.flag_moves ..).off .test rfl

@[simp] theorem State.flagOpen_pending (s : State) (off : Nat) (bit : Nat) (source : Nat) (ctx : Nat) : (State.flagOpen s off bit source ctx).pending = s.pending :=
  (State.flagOpen_moves ..).off .queue rfl
@[simp] theorem State.flagOpen_clk (s : State) (off : Nat) (bit : Nat) (source : Nat) (ctx : Nat) : (State.flagOpen s off bit source ctx).clk = s.clk :=
  (State.flagOpen_moves ..).off .clock rfl
@[simp] theorem State.flagOpen_latchHost (s : State) (off : Nat) (bit : Nat) (source : Nat) (ctx : Nat) : (State.flagOpen s off bit source ctx).latchHost = s.latchHost :=
  (State.flagOpen_moves ..).off .hostLatches rfl
@[simp] theorem State.flagOpen_latchMgmt (s : State) (off : Nat) (bit : Nat) (source : Nat) (ctx : Nat) : (State.flagOpen s off bit source ctx).latchMgmt = s.latchMgmt :=
  (State.flagOpen_moves ..).off .mgmtLatches rfl
@[simp] theorem State.flagOpen_mem (s : State) (off : Nat) (bit : Nat) (source : Nat) (ctx : Nat) : (State.flagOpen s off bit source ctx).mem = s.mem :=
  (State.flagOpen_moves ..).off .memory rfl
@[simp] theorem State.flagOpen_day (s : State) (off : Nat) (bit : Nat) (source : Nat) (ctx : Nat) : (State.flagOpen s off bit source ctx).day = s.day :=
  (State.flagOpen_moves ..).off .day rfl
@[simp] theorem State.flagOpen_banks (s : State) (off : Nat) (bit : Nat) (source : Nat) (ctx : Nat) : (State.flagOpen s off bit source ctx).banks = s.banks :=
  (State.flagOpen_moves ..).off .banks rfl
@[simp] theorem State.flagOpen_rings (s : State) (off : Nat) (bit : Nat) (source : Nat) (ctx : Nat) : (State.flagOpen s off bit source ctx).rings = s.rings :=
  (State.flagOpen_moves ..).off .rings rfl
@[simp] theorem State.flagOpen_ctxs (s : State) (off : Nat) (bit : Nat) (source : Nat) (ctx : Nat) : (State.flagOpen s off bit source ctx).ctxs = s.ctxs :=
  (State.flagOpen_moves ..).off .contexts rfl
@[simp] theorem State.flagOpen_flt (s : State) (off : Nat) (bit : Nat) (source : Nat) (ctx : Nat) : (State.flagOpen s off bit source ctx).flt = s.flt :=
  (State.flagOpen_moves ..).off .faults rfl
@[simp] theorem State.flagOpen_boot (s : State) (off : Nat) (bit : Nat) (source : Nat) (ctx : Nat) : (State.flagOpen s off bit source ctx).boot = s.boot :=
  (State.flagOpen_moves ..).off .boot rfl
@[simp] theorem State.flagOpen_atp (s : State) (off : Nat) (bit : Nat) (source : Nat) (ctx : Nat) : (State.flagOpen s off bit source ctx).atp = s.atp :=
  (State.flagOpen_moves ..).off .atp rfl
@[simp] theorem State.flagOpen_ing (s : State) (off : Nat) (bit : Nat) (source : Nat) (ctx : Nat) : (State.flagOpen s off bit source ctx).ing = s.ing :=
  (State.flagOpen_moves ..).off .ingest rfl
@[simp] theorem State.flagOpen_work (s : State) (off : Nat) (bit : Nat) (source : Nat) (ctx : Nat) : (State.flagOpen s off bit source ctx).work = s.work :=
  (State.flagOpen_moves ..).off .work rfl
@[simp] theorem State.flagOpen_maps (s : State) (off : Nat) (bit : Nat) (source : Nat) (ctx : Nat) : (State.flagOpen s off bit source ctx).maps = s.maps :=
  (State.flagOpen_moves ..).off .maps rfl
@[simp] theorem State.flagOpen_cmb (s : State) (off : Nat) (bit : Nat) (source : Nat) (ctx : Nat) : (State.flagOpen s off bit source ctx).cmb = s.cmb :=
  (State.flagOpen_moves ..).off .combine rfl
@[simp] theorem State.flagOpen_lnk (s : State) (off : Nat) (bit : Nat) (source : Nat) (ctx : Nat) : (State.flagOpen s off bit source ctx).lnk = s.lnk :=
  (State.flagOpen_moves ..).off .links rfl
@[simp] theorem State.flagOpen_col (s : State) (off : Nat) (bit : Nat) (source : Nat) (ctx : Nat) : (State.flagOpen s off bit source ctx).col = s.col :=
  (State.flagOpen_moves ..).off .collectives rfl
@[simp] theorem State.flagOpen_pwr (s : State) (off : Nat) (bit : Nat) (source : Nat) (ctx : Nat) : (State.flagOpen s off bit source ctx).pwr = s.pwr :=
  (State.flagOpen_moves ..).off .power rfl
@[simp] theorem State.flagOpen_rep (s : State) (off : Nat) (bit : Nat) (source : Nat) (ctx : Nat) : (State.flagOpen s off bit source ctx).rep = s.rep :=
  (State.flagOpen_moves ..).off .repair rfl
@[simp] theorem State.flagOpen_test (s : State) (off : Nat) (bit : Nat) (source : Nat) (ctx : Nat) : (State.flagOpen s off bit source ctx).test = s.test :=
  (State.flagOpen_moves ..).off .test rfl

@[simp] theorem State.flagQuiet_pending (s : State) (off : Nat) (bit : Nat) (source : Nat) (ctx : Nat) : (State.flagQuiet s off bit source ctx).pending = s.pending :=
  (State.flagQuiet_moves ..).off .queue rfl
@[simp] theorem State.flagQuiet_clk (s : State) (off : Nat) (bit : Nat) (source : Nat) (ctx : Nat) : (State.flagQuiet s off bit source ctx).clk = s.clk :=
  (State.flagQuiet_moves ..).off .clock rfl
@[simp] theorem State.flagQuiet_latchHost (s : State) (off : Nat) (bit : Nat) (source : Nat) (ctx : Nat) : (State.flagQuiet s off bit source ctx).latchHost = s.latchHost :=
  (State.flagQuiet_moves ..).off .hostLatches rfl
@[simp] theorem State.flagQuiet_latchMgmt (s : State) (off : Nat) (bit : Nat) (source : Nat) (ctx : Nat) : (State.flagQuiet s off bit source ctx).latchMgmt = s.latchMgmt :=
  (State.flagQuiet_moves ..).off .mgmtLatches rfl
@[simp] theorem State.flagQuiet_mem (s : State) (off : Nat) (bit : Nat) (source : Nat) (ctx : Nat) : (State.flagQuiet s off bit source ctx).mem = s.mem :=
  (State.flagQuiet_moves ..).off .memory rfl
@[simp] theorem State.flagQuiet_day (s : State) (off : Nat) (bit : Nat) (source : Nat) (ctx : Nat) : (State.flagQuiet s off bit source ctx).day = s.day :=
  (State.flagQuiet_moves ..).off .day rfl
@[simp] theorem State.flagQuiet_banks (s : State) (off : Nat) (bit : Nat) (source : Nat) (ctx : Nat) : (State.flagQuiet s off bit source ctx).banks = s.banks :=
  (State.flagQuiet_moves ..).off .banks rfl
@[simp] theorem State.flagQuiet_rings (s : State) (off : Nat) (bit : Nat) (source : Nat) (ctx : Nat) : (State.flagQuiet s off bit source ctx).rings = s.rings :=
  (State.flagQuiet_moves ..).off .rings rfl
@[simp] theorem State.flagQuiet_ctxs (s : State) (off : Nat) (bit : Nat) (source : Nat) (ctx : Nat) : (State.flagQuiet s off bit source ctx).ctxs = s.ctxs :=
  (State.flagQuiet_moves ..).off .contexts rfl
@[simp] theorem State.flagQuiet_flt (s : State) (off : Nat) (bit : Nat) (source : Nat) (ctx : Nat) : (State.flagQuiet s off bit source ctx).flt = s.flt :=
  (State.flagQuiet_moves ..).off .faults rfl
@[simp] theorem State.flagQuiet_boot (s : State) (off : Nat) (bit : Nat) (source : Nat) (ctx : Nat) : (State.flagQuiet s off bit source ctx).boot = s.boot :=
  (State.flagQuiet_moves ..).off .boot rfl
@[simp] theorem State.flagQuiet_mgt (s : State) (off : Nat) (bit : Nat) (source : Nat) (ctx : Nat) : (State.flagQuiet s off bit source ctx).mgt = s.mgt :=
  (State.flagQuiet_moves ..).off .mgt rfl
@[simp] theorem State.flagQuiet_atp (s : State) (off : Nat) (bit : Nat) (source : Nat) (ctx : Nat) : (State.flagQuiet s off bit source ctx).atp = s.atp :=
  (State.flagQuiet_moves ..).off .atp rfl
@[simp] theorem State.flagQuiet_ing (s : State) (off : Nat) (bit : Nat) (source : Nat) (ctx : Nat) : (State.flagQuiet s off bit source ctx).ing = s.ing :=
  (State.flagQuiet_moves ..).off .ingest rfl
@[simp] theorem State.flagQuiet_work (s : State) (off : Nat) (bit : Nat) (source : Nat) (ctx : Nat) : (State.flagQuiet s off bit source ctx).work = s.work :=
  (State.flagQuiet_moves ..).off .work rfl
@[simp] theorem State.flagQuiet_maps (s : State) (off : Nat) (bit : Nat) (source : Nat) (ctx : Nat) : (State.flagQuiet s off bit source ctx).maps = s.maps :=
  (State.flagQuiet_moves ..).off .maps rfl
@[simp] theorem State.flagQuiet_cmb (s : State) (off : Nat) (bit : Nat) (source : Nat) (ctx : Nat) : (State.flagQuiet s off bit source ctx).cmb = s.cmb :=
  (State.flagQuiet_moves ..).off .combine rfl
@[simp] theorem State.flagQuiet_lnk (s : State) (off : Nat) (bit : Nat) (source : Nat) (ctx : Nat) : (State.flagQuiet s off bit source ctx).lnk = s.lnk :=
  (State.flagQuiet_moves ..).off .links rfl
@[simp] theorem State.flagQuiet_col (s : State) (off : Nat) (bit : Nat) (source : Nat) (ctx : Nat) : (State.flagQuiet s off bit source ctx).col = s.col :=
  (State.flagQuiet_moves ..).off .collectives rfl
@[simp] theorem State.flagQuiet_pwr (s : State) (off : Nat) (bit : Nat) (source : Nat) (ctx : Nat) : (State.flagQuiet s off bit source ctx).pwr = s.pwr :=
  (State.flagQuiet_moves ..).off .power rfl
@[simp] theorem State.flagQuiet_rep (s : State) (off : Nat) (bit : Nat) (source : Nat) (ctx : Nat) : (State.flagQuiet s off bit source ctx).rep = s.rep :=
  (State.flagQuiet_moves ..).off .repair rfl
@[simp] theorem State.flagQuiet_test (s : State) (off : Nat) (bit : Nat) (source : Nat) (ctx : Nat) : (State.flagQuiet s off bit source ctx).test = s.test :=
  (State.flagQuiet_moves ..).off .test rfl

@[simp] theorem State.record_pending (s : State) (class_ : Nat) (source : Nat) (code : Nat) (ctx : Nat) (unit : Nat) (detail : Nat) : (State.record s class_ source code ctx unit detail).pending = s.pending :=
  (State.record_moves ..).off .queue rfl
@[simp] theorem State.record_clk (s : State) (class_ : Nat) (source : Nat) (code : Nat) (ctx : Nat) (unit : Nat) (detail : Nat) : (State.record s class_ source code ctx unit detail).clk = s.clk :=
  (State.record_moves ..).off .clock rfl
@[simp] theorem State.record_latchHost (s : State) (class_ : Nat) (source : Nat) (code : Nat) (ctx : Nat) (unit : Nat) (detail : Nat) : (State.record s class_ source code ctx unit detail).latchHost = s.latchHost :=
  (State.record_moves ..).off .hostLatches rfl
@[simp] theorem State.record_latchMgmt (s : State) (class_ : Nat) (source : Nat) (code : Nat) (ctx : Nat) (unit : Nat) (detail : Nat) : (State.record s class_ source code ctx unit detail).latchMgmt = s.latchMgmt :=
  (State.record_moves ..).off .mgmtLatches rfl
@[simp] theorem State.record_mem (s : State) (class_ : Nat) (source : Nat) (code : Nat) (ctx : Nat) (unit : Nat) (detail : Nat) : (State.record s class_ source code ctx unit detail).mem = s.mem :=
  (State.record_moves ..).off .memory rfl
@[simp] theorem State.record_day (s : State) (class_ : Nat) (source : Nat) (code : Nat) (ctx : Nat) (unit : Nat) (detail : Nat) : (State.record s class_ source code ctx unit detail).day = s.day :=
  (State.record_moves ..).off .day rfl
@[simp] theorem State.record_banks (s : State) (class_ : Nat) (source : Nat) (code : Nat) (ctx : Nat) (unit : Nat) (detail : Nat) : (State.record s class_ source code ctx unit detail).banks = s.banks :=
  (State.record_moves ..).off .banks rfl
@[simp] theorem State.record_rings (s : State) (class_ : Nat) (source : Nat) (code : Nat) (ctx : Nat) (unit : Nat) (detail : Nat) : (State.record s class_ source code ctx unit detail).rings = s.rings :=
  (State.record_moves ..).off .rings rfl
@[simp] theorem State.record_ctxs (s : State) (class_ : Nat) (source : Nat) (code : Nat) (ctx : Nat) (unit : Nat) (detail : Nat) : (State.record s class_ source code ctx unit detail).ctxs = s.ctxs :=
  (State.record_moves ..).off .contexts rfl
@[simp] theorem State.record_boot (s : State) (class_ : Nat) (source : Nat) (code : Nat) (ctx : Nat) (unit : Nat) (detail : Nat) : (State.record s class_ source code ctx unit detail).boot = s.boot :=
  (State.record_moves ..).off .boot rfl
@[simp] theorem State.record_atp (s : State) (class_ : Nat) (source : Nat) (code : Nat) (ctx : Nat) (unit : Nat) (detail : Nat) : (State.record s class_ source code ctx unit detail).atp = s.atp :=
  (State.record_moves ..).off .atp rfl
@[simp] theorem State.record_ing (s : State) (class_ : Nat) (source : Nat) (code : Nat) (ctx : Nat) (unit : Nat) (detail : Nat) : (State.record s class_ source code ctx unit detail).ing = s.ing :=
  (State.record_moves ..).off .ingest rfl
@[simp] theorem State.record_work (s : State) (class_ : Nat) (source : Nat) (code : Nat) (ctx : Nat) (unit : Nat) (detail : Nat) : (State.record s class_ source code ctx unit detail).work = s.work :=
  (State.record_moves ..).off .work rfl
@[simp] theorem State.record_maps (s : State) (class_ : Nat) (source : Nat) (code : Nat) (ctx : Nat) (unit : Nat) (detail : Nat) : (State.record s class_ source code ctx unit detail).maps = s.maps :=
  (State.record_moves ..).off .maps rfl
@[simp] theorem State.record_cmb (s : State) (class_ : Nat) (source : Nat) (code : Nat) (ctx : Nat) (unit : Nat) (detail : Nat) : (State.record s class_ source code ctx unit detail).cmb = s.cmb :=
  (State.record_moves ..).off .combine rfl
@[simp] theorem State.record_lnk (s : State) (class_ : Nat) (source : Nat) (code : Nat) (ctx : Nat) (unit : Nat) (detail : Nat) : (State.record s class_ source code ctx unit detail).lnk = s.lnk :=
  (State.record_moves ..).off .links rfl
@[simp] theorem State.record_col (s : State) (class_ : Nat) (source : Nat) (code : Nat) (ctx : Nat) (unit : Nat) (detail : Nat) : (State.record s class_ source code ctx unit detail).col = s.col :=
  (State.record_moves ..).off .collectives rfl
@[simp] theorem State.record_pwr (s : State) (class_ : Nat) (source : Nat) (code : Nat) (ctx : Nat) (unit : Nat) (detail : Nat) : (State.record s class_ source code ctx unit detail).pwr = s.pwr :=
  (State.record_moves ..).off .power rfl
@[simp] theorem State.record_rep (s : State) (class_ : Nat) (source : Nat) (code : Nat) (ctx : Nat) (unit : Nat) (detail : Nat) : (State.record s class_ source code ctx unit detail).rep = s.rep :=
  (State.record_moves ..).off .repair rfl
@[simp] theorem State.record_test (s : State) (class_ : Nat) (source : Nat) (code : Nat) (ctx : Nat) (unit : Nat) (detail : Nat) : (State.record s class_ source code ctx unit detail).test = s.test :=
  (State.record_moves ..).off .test rfl

@[simp] theorem State.setViews_pending (s : State) (v : Nat) (dp : Bool) (mgmt : Bool) : (State.setViews s v dp mgmt).pending = s.pending :=
  (State.setViews_moves ..).off .queue rfl
@[simp] theorem State.setViews_clk (s : State) (v : Nat) (dp : Bool) (mgmt : Bool) : (State.setViews s v dp mgmt).clk = s.clk :=
  (State.setViews_moves ..).off .clock rfl
@[simp] theorem State.setViews_latchHost (s : State) (v : Nat) (dp : Bool) (mgmt : Bool) : (State.setViews s v dp mgmt).latchHost = s.latchHost :=
  (State.setViews_moves ..).off .hostLatches rfl
@[simp] theorem State.setViews_latchMgmt (s : State) (v : Nat) (dp : Bool) (mgmt : Bool) : (State.setViews s v dp mgmt).latchMgmt = s.latchMgmt :=
  (State.setViews_moves ..).off .mgmtLatches rfl
@[simp] theorem State.setViews_mem (s : State) (v : Nat) (dp : Bool) (mgmt : Bool) : (State.setViews s v dp mgmt).mem = s.mem :=
  (State.setViews_moves ..).off .memory rfl
@[simp] theorem State.setViews_day (s : State) (v : Nat) (dp : Bool) (mgmt : Bool) : (State.setViews s v dp mgmt).day = s.day :=
  (State.setViews_moves ..).off .day rfl
@[simp] theorem State.setViews_banks (s : State) (v : Nat) (dp : Bool) (mgmt : Bool) : (State.setViews s v dp mgmt).banks = s.banks :=
  (State.setViews_moves ..).off .banks rfl
@[simp] theorem State.setViews_rings (s : State) (v : Nat) (dp : Bool) (mgmt : Bool) : (State.setViews s v dp mgmt).rings = s.rings :=
  (State.setViews_moves ..).off .rings rfl
@[simp] theorem State.setViews_ctxs (s : State) (v : Nat) (dp : Bool) (mgmt : Bool) : (State.setViews s v dp mgmt).ctxs = s.ctxs :=
  (State.setViews_moves ..).off .contexts rfl
@[simp] theorem State.setViews_boot (s : State) (v : Nat) (dp : Bool) (mgmt : Bool) : (State.setViews s v dp mgmt).boot = s.boot :=
  (State.setViews_moves ..).off .boot rfl
@[simp] theorem State.setViews_atp (s : State) (v : Nat) (dp : Bool) (mgmt : Bool) : (State.setViews s v dp mgmt).atp = s.atp :=
  (State.setViews_moves ..).off .atp rfl
@[simp] theorem State.setViews_ing (s : State) (v : Nat) (dp : Bool) (mgmt : Bool) : (State.setViews s v dp mgmt).ing = s.ing :=
  (State.setViews_moves ..).off .ingest rfl
@[simp] theorem State.setViews_work (s : State) (v : Nat) (dp : Bool) (mgmt : Bool) : (State.setViews s v dp mgmt).work = s.work :=
  (State.setViews_moves ..).off .work rfl
@[simp] theorem State.setViews_maps (s : State) (v : Nat) (dp : Bool) (mgmt : Bool) : (State.setViews s v dp mgmt).maps = s.maps :=
  (State.setViews_moves ..).off .maps rfl
@[simp] theorem State.setViews_cmb (s : State) (v : Nat) (dp : Bool) (mgmt : Bool) : (State.setViews s v dp mgmt).cmb = s.cmb :=
  (State.setViews_moves ..).off .combine rfl
@[simp] theorem State.setViews_lnk (s : State) (v : Nat) (dp : Bool) (mgmt : Bool) : (State.setViews s v dp mgmt).lnk = s.lnk :=
  (State.setViews_moves ..).off .links rfl
@[simp] theorem State.setViews_col (s : State) (v : Nat) (dp : Bool) (mgmt : Bool) : (State.setViews s v dp mgmt).col = s.col :=
  (State.setViews_moves ..).off .collectives rfl
@[simp] theorem State.setViews_pwr (s : State) (v : Nat) (dp : Bool) (mgmt : Bool) : (State.setViews s v dp mgmt).pwr = s.pwr :=
  (State.setViews_moves ..).off .power rfl
@[simp] theorem State.setViews_rep (s : State) (v : Nat) (dp : Bool) (mgmt : Bool) : (State.setViews s v dp mgmt).rep = s.rep :=
  (State.setViews_moves ..).off .repair rfl
@[simp] theorem State.setViews_test (s : State) (v : Nat) (dp : Bool) (mgmt : Bool) : (State.setViews s v dp mgmt).test = s.test :=
  (State.setViews_moves ..).off .test rfl

@[simp] theorem State.setDp_pending (s : State) (v : Nat) (failed : Bool) : (State.setDp s v failed).pending = s.pending :=
  (State.setDp_moves ..).off .queue rfl
@[simp] theorem State.setDp_clk (s : State) (v : Nat) (failed : Bool) : (State.setDp s v failed).clk = s.clk := (State.setDp_moves ..).off .clock rfl
@[simp] theorem State.setDp_latchHost (s : State) (v : Nat) (failed : Bool) : (State.setDp s v failed).latchHost = s.latchHost :=
  (State.setDp_moves ..).off .hostLatches rfl
@[simp] theorem State.setDp_latchMgmt (s : State) (v : Nat) (failed : Bool) : (State.setDp s v failed).latchMgmt = s.latchMgmt :=
  (State.setDp_moves ..).off .mgmtLatches rfl
@[simp] theorem State.setDp_mem (s : State) (v : Nat) (failed : Bool) : (State.setDp s v failed).mem = s.mem := (State.setDp_moves ..).off .memory rfl
@[simp] theorem State.setDp_day (s : State) (v : Nat) (failed : Bool) : (State.setDp s v failed).day = s.day := (State.setDp_moves ..).off .day rfl
@[simp] theorem State.setDp_banks (s : State) (v : Nat) (failed : Bool) : (State.setDp s v failed).banks = s.banks := (State.setDp_moves ..).off .banks rfl
@[simp] theorem State.setDp_rings (s : State) (v : Nat) (failed : Bool) : (State.setDp s v failed).rings = s.rings := (State.setDp_moves ..).off .rings rfl
@[simp] theorem State.setDp_ctxs (s : State) (v : Nat) (failed : Bool) : (State.setDp s v failed).ctxs = s.ctxs := (State.setDp_moves ..).off .contexts rfl
@[simp] theorem State.setDp_boot (s : State) (v : Nat) (failed : Bool) : (State.setDp s v failed).boot = s.boot := (State.setDp_moves ..).off .boot rfl
@[simp] theorem State.setDp_atp (s : State) (v : Nat) (failed : Bool) : (State.setDp s v failed).atp = s.atp := (State.setDp_moves ..).off .atp rfl
@[simp] theorem State.setDp_ing (s : State) (v : Nat) (failed : Bool) : (State.setDp s v failed).ing = s.ing := (State.setDp_moves ..).off .ingest rfl
@[simp] theorem State.setDp_work (s : State) (v : Nat) (failed : Bool) : (State.setDp s v failed).work = s.work := (State.setDp_moves ..).off .work rfl
@[simp] theorem State.setDp_maps (s : State) (v : Nat) (failed : Bool) : (State.setDp s v failed).maps = s.maps := (State.setDp_moves ..).off .maps rfl
@[simp] theorem State.setDp_cmb (s : State) (v : Nat) (failed : Bool) : (State.setDp s v failed).cmb = s.cmb := (State.setDp_moves ..).off .combine rfl
@[simp] theorem State.setDp_lnk (s : State) (v : Nat) (failed : Bool) : (State.setDp s v failed).lnk = s.lnk := (State.setDp_moves ..).off .links rfl
@[simp] theorem State.setDp_col (s : State) (v : Nat) (failed : Bool) : (State.setDp s v failed).col = s.col := (State.setDp_moves ..).off .collectives rfl
@[simp] theorem State.setDp_pwr (s : State) (v : Nat) (failed : Bool) : (State.setDp s v failed).pwr = s.pwr := (State.setDp_moves ..).off .power rfl
@[simp] theorem State.setDp_rep (s : State) (v : Nat) (failed : Bool) : (State.setDp s v failed).rep = s.rep := (State.setDp_moves ..).off .repair rfl
@[simp] theorem State.setDp_test (s : State) (v : Nat) (failed : Bool) : (State.setDp s v failed).test = s.test := (State.setDp_moves ..).off .test rfl

@[simp] theorem State.setMgmt_pending (s : State) (v : Nat) (failed : Bool) : (State.setMgmt s v failed).pending = s.pending :=
  (State.setMgmt_moves ..).off .queue rfl
@[simp] theorem State.setMgmt_clk (s : State) (v : Nat) (failed : Bool) : (State.setMgmt s v failed).clk = s.clk := (State.setMgmt_moves ..).off .clock rfl
@[simp] theorem State.setMgmt_latchHost (s : State) (v : Nat) (failed : Bool) : (State.setMgmt s v failed).latchHost = s.latchHost :=
  (State.setMgmt_moves ..).off .hostLatches rfl
@[simp] theorem State.setMgmt_latchMgmt (s : State) (v : Nat) (failed : Bool) : (State.setMgmt s v failed).latchMgmt = s.latchMgmt :=
  (State.setMgmt_moves ..).off .mgmtLatches rfl
@[simp] theorem State.setMgmt_mem (s : State) (v : Nat) (failed : Bool) : (State.setMgmt s v failed).mem = s.mem := (State.setMgmt_moves ..).off .memory rfl
@[simp] theorem State.setMgmt_day (s : State) (v : Nat) (failed : Bool) : (State.setMgmt s v failed).day = s.day := (State.setMgmt_moves ..).off .day rfl
@[simp] theorem State.setMgmt_banks (s : State) (v : Nat) (failed : Bool) : (State.setMgmt s v failed).banks = s.banks :=
  (State.setMgmt_moves ..).off .banks rfl
@[simp] theorem State.setMgmt_rings (s : State) (v : Nat) (failed : Bool) : (State.setMgmt s v failed).rings = s.rings :=
  (State.setMgmt_moves ..).off .rings rfl
@[simp] theorem State.setMgmt_ctxs (s : State) (v : Nat) (failed : Bool) : (State.setMgmt s v failed).ctxs = s.ctxs :=
  (State.setMgmt_moves ..).off .contexts rfl
@[simp] theorem State.setMgmt_boot (s : State) (v : Nat) (failed : Bool) : (State.setMgmt s v failed).boot = s.boot := (State.setMgmt_moves ..).off .boot rfl
@[simp] theorem State.setMgmt_atp (s : State) (v : Nat) (failed : Bool) : (State.setMgmt s v failed).atp = s.atp := (State.setMgmt_moves ..).off .atp rfl
@[simp] theorem State.setMgmt_ing (s : State) (v : Nat) (failed : Bool) : (State.setMgmt s v failed).ing = s.ing := (State.setMgmt_moves ..).off .ingest rfl
@[simp] theorem State.setMgmt_work (s : State) (v : Nat) (failed : Bool) : (State.setMgmt s v failed).work = s.work := (State.setMgmt_moves ..).off .work rfl
@[simp] theorem State.setMgmt_maps (s : State) (v : Nat) (failed : Bool) : (State.setMgmt s v failed).maps = s.maps := (State.setMgmt_moves ..).off .maps rfl
@[simp] theorem State.setMgmt_cmb (s : State) (v : Nat) (failed : Bool) : (State.setMgmt s v failed).cmb = s.cmb := (State.setMgmt_moves ..).off .combine rfl
@[simp] theorem State.setMgmt_lnk (s : State) (v : Nat) (failed : Bool) : (State.setMgmt s v failed).lnk = s.lnk := (State.setMgmt_moves ..).off .links rfl
@[simp] theorem State.setMgmt_col (s : State) (v : Nat) (failed : Bool) : (State.setMgmt s v failed).col = s.col :=
  (State.setMgmt_moves ..).off .collectives rfl
@[simp] theorem State.setMgmt_pwr (s : State) (v : Nat) (failed : Bool) : (State.setMgmt s v failed).pwr = s.pwr := (State.setMgmt_moves ..).off .power rfl
@[simp] theorem State.setMgmt_rep (s : State) (v : Nat) (failed : Bool) : (State.setMgmt s v failed).rep = s.rep := (State.setMgmt_moves ..).off .repair rfl
@[simp] theorem State.setMgmt_test (s : State) (v : Nat) (failed : Bool) : (State.setMgmt s v failed).test = s.test := (State.setMgmt_moves ..).off .test rfl

@[simp] theorem State.hubErr_pending (s : State) (off : Nat) (cause : Nat) (who : Reader) : (State.hubErr s off cause who).pending = s.pending :=
  (State.hubErr_moves ..).off .queue rfl
@[simp] theorem State.hubErr_clk (s : State) (off : Nat) (cause : Nat) (who : Reader) : (State.hubErr s off cause who).clk = s.clk :=
  (State.hubErr_moves ..).off .clock rfl
@[simp] theorem State.hubErr_free (s : State) (off : Nat) (cause : Nat) (who : Reader) : (State.hubErr s off cause who).free = s.free :=
  (State.hubErr_moves ..).off .freeCount rfl
@[simp] theorem State.hubErr_sent (s : State) (off : Nat) (cause : Nat) (who : Reader) : (State.hubErr s off cause who).sent = s.sent :=
  (State.hubErr_moves ..).off .sent rfl
@[simp] theorem State.hubErr_held (s : State) (off : Nat) (cause : Nat) (who : Reader) : (State.hubErr s off cause who).held = s.held :=
  (State.hubErr_moves ..).off .held rfl
@[simp] theorem State.hubErr_latchHost (s : State) (off : Nat) (cause : Nat) (who : Reader) : (State.hubErr s off cause who).latchHost = s.latchHost :=
  (State.hubErr_moves ..).off .hostLatches rfl
@[simp] theorem State.hubErr_latchMgmt (s : State) (off : Nat) (cause : Nat) (who : Reader) : (State.hubErr s off cause who).latchMgmt = s.latchMgmt :=
  (State.hubErr_moves ..).off .mgmtLatches rfl
@[simp] theorem State.hubErr_mem (s : State) (off : Nat) (cause : Nat) (who : Reader) : (State.hubErr s off cause who).mem = s.mem :=
  (State.hubErr_moves ..).off .memory rfl
@[simp] theorem State.hubErr_day (s : State) (off : Nat) (cause : Nat) (who : Reader) : (State.hubErr s off cause who).day = s.day :=
  (State.hubErr_moves ..).off .day rfl
@[simp] theorem State.hubErr_banks (s : State) (off : Nat) (cause : Nat) (who : Reader) : (State.hubErr s off cause who).banks = s.banks :=
  (State.hubErr_moves ..).off .banks rfl
@[simp] theorem State.hubErr_host (s : State) (off : Nat) (cause : Nat) (who : Reader) : (State.hubErr s off cause who).host = s.host :=
  (State.hubErr_moves ..).off .host rfl
@[simp] theorem State.hubErr_rings (s : State) (off : Nat) (cause : Nat) (who : Reader) : (State.hubErr s off cause who).rings = s.rings :=
  (State.hubErr_moves ..).off .rings rfl
@[simp] theorem State.hubErr_ctxs (s : State) (off : Nat) (cause : Nat) (who : Reader) : (State.hubErr s off cause who).ctxs = s.ctxs :=
  (State.hubErr_moves ..).off .contexts rfl
@[simp] theorem State.hubErr_flt (s : State) (off : Nat) (cause : Nat) (who : Reader) : (State.hubErr s off cause who).flt = s.flt :=
  (State.hubErr_moves ..).off .faults rfl
@[simp] theorem State.hubErr_boot (s : State) (off : Nat) (cause : Nat) (who : Reader) : (State.hubErr s off cause who).boot = s.boot :=
  (State.hubErr_moves ..).off .boot rfl
@[simp] theorem State.hubErr_mgt (s : State) (off : Nat) (cause : Nat) (who : Reader) : (State.hubErr s off cause who).mgt = s.mgt :=
  (State.hubErr_moves ..).off .mgt rfl
@[simp] theorem State.hubErr_atp (s : State) (off : Nat) (cause : Nat) (who : Reader) : (State.hubErr s off cause who).atp = s.atp :=
  (State.hubErr_moves ..).off .atp rfl
@[simp] theorem State.hubErr_ing (s : State) (off : Nat) (cause : Nat) (who : Reader) : (State.hubErr s off cause who).ing = s.ing :=
  (State.hubErr_moves ..).off .ingest rfl
@[simp] theorem State.hubErr_work (s : State) (off : Nat) (cause : Nat) (who : Reader) : (State.hubErr s off cause who).work = s.work :=
  (State.hubErr_moves ..).off .work rfl
@[simp] theorem State.hubErr_maps (s : State) (off : Nat) (cause : Nat) (who : Reader) : (State.hubErr s off cause who).maps = s.maps :=
  (State.hubErr_moves ..).off .maps rfl
@[simp] theorem State.hubErr_cmb (s : State) (off : Nat) (cause : Nat) (who : Reader) : (State.hubErr s off cause who).cmb = s.cmb :=
  (State.hubErr_moves ..).off .combine rfl
@[simp] theorem State.hubErr_lnk (s : State) (off : Nat) (cause : Nat) (who : Reader) : (State.hubErr s off cause who).lnk = s.lnk :=
  (State.hubErr_moves ..).off .links rfl
@[simp] theorem State.hubErr_col (s : State) (off : Nat) (cause : Nat) (who : Reader) : (State.hubErr s off cause who).col = s.col :=
  (State.hubErr_moves ..).off .collectives rfl
@[simp] theorem State.hubErr_pwr (s : State) (off : Nat) (cause : Nat) (who : Reader) : (State.hubErr s off cause who).pwr = s.pwr :=
  (State.hubErr_moves ..).off .power rfl
@[simp] theorem State.hubErr_rep (s : State) (off : Nat) (cause : Nat) (who : Reader) : (State.hubErr s off cause who).rep = s.rep :=
  (State.hubErr_moves ..).off .repair rfl
@[simp] theorem State.hubErr_test (s : State) (off : Nat) (cause : Nat) (who : Reader) : (State.hubErr s off cause who).test = s.test :=
  (State.hubErr_moves ..).off .test rfl

@[simp] theorem State.locked_pending (s : State) (off : Nat) (who : Reader) : (State.locked s off who).pending = s.pending :=
  (State.locked_moves ..).off .queue rfl
@[simp] theorem State.locked_clk (s : State) (off : Nat) (who : Reader) : (State.locked s off who).clk = s.clk := (State.locked_moves ..).off .clock rfl
@[simp] theorem State.locked_free (s : State) (off : Nat) (who : Reader) : (State.locked s off who).free = s.free := (State.locked_moves ..).off .freeCount rfl
@[simp] theorem State.locked_sent (s : State) (off : Nat) (who : Reader) : (State.locked s off who).sent = s.sent := (State.locked_moves ..).off .sent rfl
@[simp] theorem State.locked_held (s : State) (off : Nat) (who : Reader) : (State.locked s off who).held = s.held := (State.locked_moves ..).off .held rfl
@[simp] theorem State.locked_latchHost (s : State) (off : Nat) (who : Reader) : (State.locked s off who).latchHost = s.latchHost :=
  (State.locked_moves ..).off .hostLatches rfl
@[simp] theorem State.locked_latchMgmt (s : State) (off : Nat) (who : Reader) : (State.locked s off who).latchMgmt = s.latchMgmt :=
  (State.locked_moves ..).off .mgmtLatches rfl
@[simp] theorem State.locked_mem (s : State) (off : Nat) (who : Reader) : (State.locked s off who).mem = s.mem := (State.locked_moves ..).off .memory rfl
@[simp] theorem State.locked_day (s : State) (off : Nat) (who : Reader) : (State.locked s off who).day = s.day := (State.locked_moves ..).off .day rfl
@[simp] theorem State.locked_banks (s : State) (off : Nat) (who : Reader) : (State.locked s off who).banks = s.banks := (State.locked_moves ..).off .banks rfl
@[simp] theorem State.locked_host (s : State) (off : Nat) (who : Reader) : (State.locked s off who).host = s.host := (State.locked_moves ..).off .host rfl
@[simp] theorem State.locked_rings (s : State) (off : Nat) (who : Reader) : (State.locked s off who).rings = s.rings := (State.locked_moves ..).off .rings rfl
@[simp] theorem State.locked_ctxs (s : State) (off : Nat) (who : Reader) : (State.locked s off who).ctxs = s.ctxs := (State.locked_moves ..).off .contexts rfl
@[simp] theorem State.locked_flt (s : State) (off : Nat) (who : Reader) : (State.locked s off who).flt = s.flt := (State.locked_moves ..).off .faults rfl
@[simp] theorem State.locked_boot (s : State) (off : Nat) (who : Reader) : (State.locked s off who).boot = s.boot := (State.locked_moves ..).off .boot rfl
@[simp] theorem State.locked_mgt (s : State) (off : Nat) (who : Reader) : (State.locked s off who).mgt = s.mgt := (State.locked_moves ..).off .mgt rfl
@[simp] theorem State.locked_atp (s : State) (off : Nat) (who : Reader) : (State.locked s off who).atp = s.atp := (State.locked_moves ..).off .atp rfl
@[simp] theorem State.locked_ing (s : State) (off : Nat) (who : Reader) : (State.locked s off who).ing = s.ing := (State.locked_moves ..).off .ingest rfl
@[simp] theorem State.locked_work (s : State) (off : Nat) (who : Reader) : (State.locked s off who).work = s.work := (State.locked_moves ..).off .work rfl
@[simp] theorem State.locked_maps (s : State) (off : Nat) (who : Reader) : (State.locked s off who).maps = s.maps := (State.locked_moves ..).off .maps rfl
@[simp] theorem State.locked_cmb (s : State) (off : Nat) (who : Reader) : (State.locked s off who).cmb = s.cmb := (State.locked_moves ..).off .combine rfl
@[simp] theorem State.locked_lnk (s : State) (off : Nat) (who : Reader) : (State.locked s off who).lnk = s.lnk := (State.locked_moves ..).off .links rfl
@[simp] theorem State.locked_col (s : State) (off : Nat) (who : Reader) : (State.locked s off who).col = s.col := (State.locked_moves ..).off .collectives rfl
@[simp] theorem State.locked_pwr (s : State) (off : Nat) (who : Reader) : (State.locked s off who).pwr = s.pwr := (State.locked_moves ..).off .power rfl
@[simp] theorem State.locked_rep (s : State) (off : Nat) (who : Reader) : (State.locked s off who).rep = s.rep := (State.locked_moves ..).off .repair rfl
@[simp] theorem State.locked_test (s : State) (off : Nat) (who : Reader) : (State.locked s off who).test = s.test := (State.locked_moves ..).off .test rfl

@[simp] theorem State.lostBit_pending (s : State) (k : Nat) : (State.lostBit s k).pending = s.pending := (State.lostBit_moves ..).off .queue rfl
@[simp] theorem State.lostBit_clk (s : State) (k : Nat) : (State.lostBit s k).clk = s.clk := (State.lostBit_moves ..).off .clock rfl
@[simp] theorem State.lostBit_free (s : State) (k : Nat) : (State.lostBit s k).free = s.free := (State.lostBit_moves ..).off .freeCount rfl
@[simp] theorem State.lostBit_sent (s : State) (k : Nat) : (State.lostBit s k).sent = s.sent := (State.lostBit_moves ..).off .sent rfl
@[simp] theorem State.lostBit_held (s : State) (k : Nat) : (State.lostBit s k).held = s.held := (State.lostBit_moves ..).off .held rfl
@[simp] theorem State.lostBit_latchHost (s : State) (k : Nat) : (State.lostBit s k).latchHost = s.latchHost := (State.lostBit_moves ..).off .hostLatches rfl
@[simp] theorem State.lostBit_latchMgmt (s : State) (k : Nat) : (State.lostBit s k).latchMgmt = s.latchMgmt := (State.lostBit_moves ..).off .mgmtLatches rfl
@[simp] theorem State.lostBit_mem (s : State) (k : Nat) : (State.lostBit s k).mem = s.mem := (State.lostBit_moves ..).off .memory rfl
@[simp] theorem State.lostBit_day (s : State) (k : Nat) : (State.lostBit s k).day = s.day := (State.lostBit_moves ..).off .day rfl
@[simp] theorem State.lostBit_banks (s : State) (k : Nat) : (State.lostBit s k).banks = s.banks := (State.lostBit_moves ..).off .banks rfl
@[simp] theorem State.lostBit_host (s : State) (k : Nat) : (State.lostBit s k).host = s.host := (State.lostBit_moves ..).off .host rfl
@[simp] theorem State.lostBit_rings (s : State) (k : Nat) : (State.lostBit s k).rings = s.rings := (State.lostBit_moves ..).off .rings rfl
@[simp] theorem State.lostBit_ctxs (s : State) (k : Nat) : (State.lostBit s k).ctxs = s.ctxs := (State.lostBit_moves ..).off .contexts rfl
@[simp] theorem State.lostBit_flt (s : State) (k : Nat) : (State.lostBit s k).flt = s.flt := (State.lostBit_moves ..).off .faults rfl
@[simp] theorem State.lostBit_boot (s : State) (k : Nat) : (State.lostBit s k).boot = s.boot := (State.lostBit_moves ..).off .boot rfl
@[simp] theorem State.lostBit_mgt (s : State) (k : Nat) : (State.lostBit s k).mgt = s.mgt := (State.lostBit_moves ..).off .mgt rfl
@[simp] theorem State.lostBit_atp (s : State) (k : Nat) : (State.lostBit s k).atp = s.atp := (State.lostBit_moves ..).off .atp rfl
@[simp] theorem State.lostBit_ing (s : State) (k : Nat) : (State.lostBit s k).ing = s.ing := (State.lostBit_moves ..).off .ingest rfl
@[simp] theorem State.lostBit_work (s : State) (k : Nat) : (State.lostBit s k).work = s.work := (State.lostBit_moves ..).off .work rfl
@[simp] theorem State.lostBit_maps (s : State) (k : Nat) : (State.lostBit s k).maps = s.maps := (State.lostBit_moves ..).off .maps rfl
@[simp] theorem State.lostBit_cmb (s : State) (k : Nat) : (State.lostBit s k).cmb = s.cmb := (State.lostBit_moves ..).off .combine rfl
@[simp] theorem State.lostBit_lnk (s : State) (k : Nat) : (State.lostBit s k).lnk = s.lnk := (State.lostBit_moves ..).off .links rfl
@[simp] theorem State.lostBit_col (s : State) (k : Nat) : (State.lostBit s k).col = s.col := (State.lostBit_moves ..).off .collectives rfl
@[simp] theorem State.lostBit_pwr (s : State) (k : Nat) : (State.lostBit s k).pwr = s.pwr := (State.lostBit_moves ..).off .power rfl
@[simp] theorem State.lostBit_rep (s : State) (k : Nat) : (State.lostBit s k).rep = s.rep := (State.lostBit_moves ..).off .repair rfl
@[simp] theorem State.lostBit_test (s : State) (k : Nat) : (State.lostBit s k).test = s.test := (State.lostBit_moves ..).off .test rfl

@[simp] theorem State.setBytes_pending (s : State) (a : Nat) (z2 : List Byte) : (State.setBytes s a z2).pending = s.pending :=
  (State.setBytes_moves ..).off .queue rfl
@[simp] theorem State.setBytes_clk (s : State) (a : Nat) (z2 : List Byte) : (State.setBytes s a z2).clk = s.clk := (State.setBytes_moves ..).off .clock rfl
@[simp] theorem State.setBytes_free (s : State) (a : Nat) (z2 : List Byte) : (State.setBytes s a z2).free = s.free :=
  (State.setBytes_moves ..).off .freeCount rfl
@[simp] theorem State.setBytes_sent (s : State) (a : Nat) (z2 : List Byte) : (State.setBytes s a z2).sent = s.sent := (State.setBytes_moves ..).off .sent rfl
@[simp] theorem State.setBytes_held (s : State) (a : Nat) (z2 : List Byte) : (State.setBytes s a z2).held = s.held := (State.setBytes_moves ..).off .held rfl
@[simp] theorem State.setBytes_regs (s : State) (a : Nat) (z2 : List Byte) : (State.setBytes s a z2).regs = s.regs :=
  (State.setBytes_moves ..).off .registers rfl
@[simp] theorem State.setBytes_latchHost (s : State) (a : Nat) (z2 : List Byte) : (State.setBytes s a z2).latchHost = s.latchHost :=
  (State.setBytes_moves ..).off .hostLatches rfl
@[simp] theorem State.setBytes_latchMgmt (s : State) (a : Nat) (z2 : List Byte) : (State.setBytes s a z2).latchMgmt = s.latchMgmt :=
  (State.setBytes_moves ..).off .mgmtLatches rfl
@[simp] theorem State.setBytes_day (s : State) (a : Nat) (z2 : List Byte) : (State.setBytes s a z2).day = s.day := (State.setBytes_moves ..).off .day rfl
@[simp] theorem State.setBytes_banks (s : State) (a : Nat) (z2 : List Byte) : (State.setBytes s a z2).banks = s.banks :=
  (State.setBytes_moves ..).off .banks rfl
@[simp] theorem State.setBytes_host (s : State) (a : Nat) (z2 : List Byte) : (State.setBytes s a z2).host = s.host := (State.setBytes_moves ..).off .host rfl
@[simp] theorem State.setBytes_rings (s : State) (a : Nat) (z2 : List Byte) : (State.setBytes s a z2).rings = s.rings :=
  (State.setBytes_moves ..).off .rings rfl
@[simp] theorem State.setBytes_ctxs (s : State) (a : Nat) (z2 : List Byte) : (State.setBytes s a z2).ctxs = s.ctxs :=
  (State.setBytes_moves ..).off .contexts rfl
@[simp] theorem State.setBytes_flt (s : State) (a : Nat) (z2 : List Byte) : (State.setBytes s a z2).flt = s.flt := (State.setBytes_moves ..).off .faults rfl
@[simp] theorem State.setBytes_boot (s : State) (a : Nat) (z2 : List Byte) : (State.setBytes s a z2).boot = s.boot := (State.setBytes_moves ..).off .boot rfl
@[simp] theorem State.setBytes_mgt (s : State) (a : Nat) (z2 : List Byte) : (State.setBytes s a z2).mgt = s.mgt := (State.setBytes_moves ..).off .mgt rfl
@[simp] theorem State.setBytes_atp (s : State) (a : Nat) (z2 : List Byte) : (State.setBytes s a z2).atp = s.atp := (State.setBytes_moves ..).off .atp rfl
@[simp] theorem State.setBytes_ing (s : State) (a : Nat) (z2 : List Byte) : (State.setBytes s a z2).ing = s.ing := (State.setBytes_moves ..).off .ingest rfl
@[simp] theorem State.setBytes_work (s : State) (a : Nat) (z2 : List Byte) : (State.setBytes s a z2).work = s.work := (State.setBytes_moves ..).off .work rfl
@[simp] theorem State.setBytes_maps (s : State) (a : Nat) (z2 : List Byte) : (State.setBytes s a z2).maps = s.maps := (State.setBytes_moves ..).off .maps rfl
@[simp] theorem State.setBytes_cmb (s : State) (a : Nat) (z2 : List Byte) : (State.setBytes s a z2).cmb = s.cmb := (State.setBytes_moves ..).off .combine rfl
@[simp] theorem State.setBytes_lnk (s : State) (a : Nat) (z2 : List Byte) : (State.setBytes s a z2).lnk = s.lnk := (State.setBytes_moves ..).off .links rfl
@[simp] theorem State.setBytes_col (s : State) (a : Nat) (z2 : List Byte) : (State.setBytes s a z2).col = s.col :=
  (State.setBytes_moves ..).off .collectives rfl
@[simp] theorem State.setBytes_pwr (s : State) (a : Nat) (z2 : List Byte) : (State.setBytes s a z2).pwr = s.pwr := (State.setBytes_moves ..).off .power rfl
@[simp] theorem State.setBytes_rep (s : State) (a : Nat) (z2 : List Byte) : (State.setBytes s a z2).rep = s.rep := (State.setBytes_moves ..).off .repair rfl
@[simp] theorem State.setBytes_test (s : State) (a : Nat) (z2 : List Byte) : (State.setBytes s a z2).test = s.test := (State.setBytes_moves ..).off .test rfl

@[simp] theorem State.zeroRange_pending (s : State) (lo : Nat) (hi : Nat) : (State.zeroRange s lo hi).pending = s.pending :=
  (State.zeroRange_moves ..).off .queue rfl
@[simp] theorem State.zeroRange_clk (s : State) (lo : Nat) (hi : Nat) : (State.zeroRange s lo hi).clk = s.clk := (State.zeroRange_moves ..).off .clock rfl
@[simp] theorem State.zeroRange_free (s : State) (lo : Nat) (hi : Nat) : (State.zeroRange s lo hi).free = s.free :=
  (State.zeroRange_moves ..).off .freeCount rfl
@[simp] theorem State.zeroRange_sent (s : State) (lo : Nat) (hi : Nat) : (State.zeroRange s lo hi).sent = s.sent := (State.zeroRange_moves ..).off .sent rfl
@[simp] theorem State.zeroRange_held (s : State) (lo : Nat) (hi : Nat) : (State.zeroRange s lo hi).held = s.held := (State.zeroRange_moves ..).off .held rfl
@[simp] theorem State.zeroRange_regs (s : State) (lo : Nat) (hi : Nat) : (State.zeroRange s lo hi).regs = s.regs :=
  (State.zeroRange_moves ..).off .registers rfl
@[simp] theorem State.zeroRange_latchHost (s : State) (lo : Nat) (hi : Nat) : (State.zeroRange s lo hi).latchHost = s.latchHost :=
  (State.zeroRange_moves ..).off .hostLatches rfl
@[simp] theorem State.zeroRange_latchMgmt (s : State) (lo : Nat) (hi : Nat) : (State.zeroRange s lo hi).latchMgmt = s.latchMgmt :=
  (State.zeroRange_moves ..).off .mgmtLatches rfl
@[simp] theorem State.zeroRange_day (s : State) (lo : Nat) (hi : Nat) : (State.zeroRange s lo hi).day = s.day := (State.zeroRange_moves ..).off .day rfl
@[simp] theorem State.zeroRange_banks (s : State) (lo : Nat) (hi : Nat) : (State.zeroRange s lo hi).banks = s.banks := (State.zeroRange_moves ..).off .banks rfl
@[simp] theorem State.zeroRange_host (s : State) (lo : Nat) (hi : Nat) : (State.zeroRange s lo hi).host = s.host := (State.zeroRange_moves ..).off .host rfl
@[simp] theorem State.zeroRange_rings (s : State) (lo : Nat) (hi : Nat) : (State.zeroRange s lo hi).rings = s.rings := (State.zeroRange_moves ..).off .rings rfl
@[simp] theorem State.zeroRange_ctxs (s : State) (lo : Nat) (hi : Nat) : (State.zeroRange s lo hi).ctxs = s.ctxs := (State.zeroRange_moves ..).off .contexts rfl
@[simp] theorem State.zeroRange_flt (s : State) (lo : Nat) (hi : Nat) : (State.zeroRange s lo hi).flt = s.flt := (State.zeroRange_moves ..).off .faults rfl
@[simp] theorem State.zeroRange_boot (s : State) (lo : Nat) (hi : Nat) : (State.zeroRange s lo hi).boot = s.boot := (State.zeroRange_moves ..).off .boot rfl
@[simp] theorem State.zeroRange_mgt (s : State) (lo : Nat) (hi : Nat) : (State.zeroRange s lo hi).mgt = s.mgt := (State.zeroRange_moves ..).off .mgt rfl
@[simp] theorem State.zeroRange_atp (s : State) (lo : Nat) (hi : Nat) : (State.zeroRange s lo hi).atp = s.atp := (State.zeroRange_moves ..).off .atp rfl
@[simp] theorem State.zeroRange_ing (s : State) (lo : Nat) (hi : Nat) : (State.zeroRange s lo hi).ing = s.ing := (State.zeroRange_moves ..).off .ingest rfl
@[simp] theorem State.zeroRange_work (s : State) (lo : Nat) (hi : Nat) : (State.zeroRange s lo hi).work = s.work := (State.zeroRange_moves ..).off .work rfl
@[simp] theorem State.zeroRange_maps (s : State) (lo : Nat) (hi : Nat) : (State.zeroRange s lo hi).maps = s.maps := (State.zeroRange_moves ..).off .maps rfl
@[simp] theorem State.zeroRange_cmb (s : State) (lo : Nat) (hi : Nat) : (State.zeroRange s lo hi).cmb = s.cmb := (State.zeroRange_moves ..).off .combine rfl
@[simp] theorem State.zeroRange_lnk (s : State) (lo : Nat) (hi : Nat) : (State.zeroRange s lo hi).lnk = s.lnk := (State.zeroRange_moves ..).off .links rfl
@[simp] theorem State.zeroRange_col (s : State) (lo : Nat) (hi : Nat) : (State.zeroRange s lo hi).col = s.col := (State.zeroRange_moves ..).off .collectives rfl
@[simp] theorem State.zeroRange_pwr (s : State) (lo : Nat) (hi : Nat) : (State.zeroRange s lo hi).pwr = s.pwr := (State.zeroRange_moves ..).off .power rfl
@[simp] theorem State.zeroRange_rep (s : State) (lo : Nat) (hi : Nat) : (State.zeroRange s lo hi).rep = s.rep := (State.zeroRange_moves ..).off .repair rfl
@[simp] theorem State.zeroRange_test (s : State) (lo : Nat) (hi : Nat) : (State.zeroRange s lo hi).test = s.test := (State.zeroRange_moves ..).off .test rfl

@[simp] theorem State.writeCpl_pending (s : State) (c : Nat) : (State.writeCpl s c).pending = s.pending := (State.writeCpl_moves ..).off .queue rfl
@[simp] theorem State.writeCpl_clk (s : State) (c : Nat) : (State.writeCpl s c).clk = s.clk := (State.writeCpl_moves ..).off .clock rfl
@[simp] theorem State.writeCpl_free (s : State) (c : Nat) : (State.writeCpl s c).free = s.free := (State.writeCpl_moves ..).off .freeCount rfl
@[simp] theorem State.writeCpl_latchHost (s : State) (c : Nat) : (State.writeCpl s c).latchHost = s.latchHost := (State.writeCpl_moves ..).off .hostLatches rfl
@[simp] theorem State.writeCpl_latchMgmt (s : State) (c : Nat) : (State.writeCpl s c).latchMgmt = s.latchMgmt := (State.writeCpl_moves ..).off .mgmtLatches rfl
@[simp] theorem State.writeCpl_mem (s : State) (c : Nat) : (State.writeCpl s c).mem = s.mem := (State.writeCpl_moves ..).off .memory rfl
@[simp] theorem State.writeCpl_day (s : State) (c : Nat) : (State.writeCpl s c).day = s.day := (State.writeCpl_moves ..).off .day rfl
@[simp] theorem State.writeCpl_banks (s : State) (c : Nat) : (State.writeCpl s c).banks = s.banks := (State.writeCpl_moves ..).off .banks rfl
@[simp] theorem State.writeCpl_host (s : State) (c : Nat) : (State.writeCpl s c).host = s.host := (State.writeCpl_moves ..).off .host rfl
@[simp] theorem State.writeCpl_ctxs (s : State) (c : Nat) : (State.writeCpl s c).ctxs = s.ctxs := (State.writeCpl_moves ..).off .contexts rfl
@[simp] theorem State.writeCpl_flt (s : State) (c : Nat) : (State.writeCpl s c).flt = s.flt := (State.writeCpl_moves ..).off .faults rfl
@[simp] theorem State.writeCpl_boot (s : State) (c : Nat) : (State.writeCpl s c).boot = s.boot := (State.writeCpl_moves ..).off .boot rfl
@[simp] theorem State.writeCpl_mgt (s : State) (c : Nat) : (State.writeCpl s c).mgt = s.mgt := (State.writeCpl_moves ..).off .mgt rfl
@[simp] theorem State.writeCpl_atp (s : State) (c : Nat) : (State.writeCpl s c).atp = s.atp := (State.writeCpl_moves ..).off .atp rfl
@[simp] theorem State.writeCpl_ing (s : State) (c : Nat) : (State.writeCpl s c).ing = s.ing := (State.writeCpl_moves ..).off .ingest rfl
@[simp] theorem State.writeCpl_work (s : State) (c : Nat) : (State.writeCpl s c).work = s.work := (State.writeCpl_moves ..).off .work rfl
@[simp] theorem State.writeCpl_maps (s : State) (c : Nat) : (State.writeCpl s c).maps = s.maps := (State.writeCpl_moves ..).off .maps rfl
@[simp] theorem State.writeCpl_cmb (s : State) (c : Nat) : (State.writeCpl s c).cmb = s.cmb := (State.writeCpl_moves ..).off .combine rfl
@[simp] theorem State.writeCpl_lnk (s : State) (c : Nat) : (State.writeCpl s c).lnk = s.lnk := (State.writeCpl_moves ..).off .links rfl
@[simp] theorem State.writeCpl_col (s : State) (c : Nat) : (State.writeCpl s c).col = s.col := (State.writeCpl_moves ..).off .collectives rfl
@[simp] theorem State.writeCpl_pwr (s : State) (c : Nat) : (State.writeCpl s c).pwr = s.pwr := (State.writeCpl_moves ..).off .power rfl
@[simp] theorem State.writeCpl_rep (s : State) (c : Nat) : (State.writeCpl s c).rep = s.rep := (State.writeCpl_moves ..).off .repair rfl
@[simp] theorem State.writeCpl_test (s : State) (c : Nat) : (State.writeCpl s c).test = s.test := (State.writeCpl_moves ..).off .test rfl

@[simp] theorem State.writeCpls_pending (s : State) (c : Nat) (z2 : Nat) : (State.writeCpls s c z2).pending = s.pending :=
  (State.writeCpls_moves ..).off .queue rfl
@[simp] theorem State.writeCpls_clk (s : State) (c : Nat) (z2 : Nat) : (State.writeCpls s c z2).clk = s.clk := (State.writeCpls_moves ..).off .clock rfl
@[simp] theorem State.writeCpls_free (s : State) (c : Nat) (z2 : Nat) : (State.writeCpls s c z2).free = s.free := (State.writeCpls_moves ..).off .freeCount rfl
@[simp] theorem State.writeCpls_latchHost (s : State) (c : Nat) (z2 : Nat) : (State.writeCpls s c z2).latchHost = s.latchHost :=
  (State.writeCpls_moves ..).off .hostLatches rfl
@[simp] theorem State.writeCpls_latchMgmt (s : State) (c : Nat) (z2 : Nat) : (State.writeCpls s c z2).latchMgmt = s.latchMgmt :=
  (State.writeCpls_moves ..).off .mgmtLatches rfl
@[simp] theorem State.writeCpls_mem (s : State) (c : Nat) (z2 : Nat) : (State.writeCpls s c z2).mem = s.mem := (State.writeCpls_moves ..).off .memory rfl
@[simp] theorem State.writeCpls_day (s : State) (c : Nat) (z2 : Nat) : (State.writeCpls s c z2).day = s.day := (State.writeCpls_moves ..).off .day rfl
@[simp] theorem State.writeCpls_banks (s : State) (c : Nat) (z2 : Nat) : (State.writeCpls s c z2).banks = s.banks := (State.writeCpls_moves ..).off .banks rfl
@[simp] theorem State.writeCpls_host (s : State) (c : Nat) (z2 : Nat) : (State.writeCpls s c z2).host = s.host := (State.writeCpls_moves ..).off .host rfl
@[simp] theorem State.writeCpls_ctxs (s : State) (c : Nat) (z2 : Nat) : (State.writeCpls s c z2).ctxs = s.ctxs := (State.writeCpls_moves ..).off .contexts rfl
@[simp] theorem State.writeCpls_flt (s : State) (c : Nat) (z2 : Nat) : (State.writeCpls s c z2).flt = s.flt := (State.writeCpls_moves ..).off .faults rfl
@[simp] theorem State.writeCpls_boot (s : State) (c : Nat) (z2 : Nat) : (State.writeCpls s c z2).boot = s.boot := (State.writeCpls_moves ..).off .boot rfl
@[simp] theorem State.writeCpls_mgt (s : State) (c : Nat) (z2 : Nat) : (State.writeCpls s c z2).mgt = s.mgt := (State.writeCpls_moves ..).off .mgt rfl
@[simp] theorem State.writeCpls_atp (s : State) (c : Nat) (z2 : Nat) : (State.writeCpls s c z2).atp = s.atp := (State.writeCpls_moves ..).off .atp rfl
@[simp] theorem State.writeCpls_ing (s : State) (c : Nat) (z2 : Nat) : (State.writeCpls s c z2).ing = s.ing := (State.writeCpls_moves ..).off .ingest rfl
@[simp] theorem State.writeCpls_work (s : State) (c : Nat) (z2 : Nat) : (State.writeCpls s c z2).work = s.work := (State.writeCpls_moves ..).off .work rfl
@[simp] theorem State.writeCpls_maps (s : State) (c : Nat) (z2 : Nat) : (State.writeCpls s c z2).maps = s.maps := (State.writeCpls_moves ..).off .maps rfl
@[simp] theorem State.writeCpls_cmb (s : State) (c : Nat) (z2 : Nat) : (State.writeCpls s c z2).cmb = s.cmb := (State.writeCpls_moves ..).off .combine rfl
@[simp] theorem State.writeCpls_lnk (s : State) (c : Nat) (z2 : Nat) : (State.writeCpls s c z2).lnk = s.lnk := (State.writeCpls_moves ..).off .links rfl
@[simp] theorem State.writeCpls_col (s : State) (c : Nat) (z2 : Nat) : (State.writeCpls s c z2).col = s.col := (State.writeCpls_moves ..).off .collectives rfl
@[simp] theorem State.writeCpls_pwr (s : State) (c : Nat) (z2 : Nat) : (State.writeCpls s c z2).pwr = s.pwr := (State.writeCpls_moves ..).off .power rfl
@[simp] theorem State.writeCpls_rep (s : State) (c : Nat) (z2 : Nat) : (State.writeCpls s c z2).rep = s.rep := (State.writeCpls_moves ..).off .repair rfl
@[simp] theorem State.writeCpls_test (s : State) (c : Nat) (z2 : Nat) : (State.writeCpls s c z2).test = s.test := (State.writeCpls_moves ..).off .test rfl

@[simp] theorem State.complete_pending (s : State) (c : Nat) (d : Desc) (code : Nat) (detail : Nat) (epoch : Nat) : (State.complete s c d code detail epoch).pending = s.pending :=
  (State.complete_moves ..).off .queue rfl
@[simp] theorem State.complete_clk (s : State) (c : Nat) (d : Desc) (code : Nat) (detail : Nat) (epoch : Nat) : (State.complete s c d code detail epoch).clk = s.clk :=
  (State.complete_moves ..).off .clock rfl
@[simp] theorem State.complete_free (s : State) (c : Nat) (d : Desc) (code : Nat) (detail : Nat) (epoch : Nat) : (State.complete s c d code detail epoch).free = s.free :=
  (State.complete_moves ..).off .freeCount rfl
@[simp] theorem State.complete_latchHost (s : State) (c : Nat) (d : Desc) (code : Nat) (detail : Nat) (epoch : Nat) : (State.complete s c d code detail epoch).latchHost = s.latchHost :=
  (State.complete_moves ..).off .hostLatches rfl
@[simp] theorem State.complete_latchMgmt (s : State) (c : Nat) (d : Desc) (code : Nat) (detail : Nat) (epoch : Nat) : (State.complete s c d code detail epoch).latchMgmt = s.latchMgmt :=
  (State.complete_moves ..).off .mgmtLatches rfl
@[simp] theorem State.complete_mem (s : State) (c : Nat) (d : Desc) (code : Nat) (detail : Nat) (epoch : Nat) : (State.complete s c d code detail epoch).mem = s.mem :=
  (State.complete_moves ..).off .memory rfl
@[simp] theorem State.complete_day (s : State) (c : Nat) (d : Desc) (code : Nat) (detail : Nat) (epoch : Nat) : (State.complete s c d code detail epoch).day = s.day :=
  (State.complete_moves ..).off .day rfl
@[simp] theorem State.complete_banks (s : State) (c : Nat) (d : Desc) (code : Nat) (detail : Nat) (epoch : Nat) : (State.complete s c d code detail epoch).banks = s.banks :=
  (State.complete_moves ..).off .banks rfl
@[simp] theorem State.complete_host (s : State) (c : Nat) (d : Desc) (code : Nat) (detail : Nat) (epoch : Nat) : (State.complete s c d code detail epoch).host = s.host :=
  (State.complete_moves ..).off .host rfl
@[simp] theorem State.complete_ctxs (s : State) (c : Nat) (d : Desc) (code : Nat) (detail : Nat) (epoch : Nat) : (State.complete s c d code detail epoch).ctxs = s.ctxs :=
  (State.complete_moves ..).off .contexts rfl
@[simp] theorem State.complete_flt (s : State) (c : Nat) (d : Desc) (code : Nat) (detail : Nat) (epoch : Nat) : (State.complete s c d code detail epoch).flt = s.flt :=
  (State.complete_moves ..).off .faults rfl
@[simp] theorem State.complete_boot (s : State) (c : Nat) (d : Desc) (code : Nat) (detail : Nat) (epoch : Nat) : (State.complete s c d code detail epoch).boot = s.boot :=
  (State.complete_moves ..).off .boot rfl
@[simp] theorem State.complete_mgt (s : State) (c : Nat) (d : Desc) (code : Nat) (detail : Nat) (epoch : Nat) : (State.complete s c d code detail epoch).mgt = s.mgt :=
  (State.complete_moves ..).off .mgt rfl
@[simp] theorem State.complete_atp (s : State) (c : Nat) (d : Desc) (code : Nat) (detail : Nat) (epoch : Nat) : (State.complete s c d code detail epoch).atp = s.atp :=
  (State.complete_moves ..).off .atp rfl
@[simp] theorem State.complete_work (s : State) (c : Nat) (d : Desc) (code : Nat) (detail : Nat) (epoch : Nat) : (State.complete s c d code detail epoch).work = s.work :=
  (State.complete_moves ..).off .work rfl
@[simp] theorem State.complete_maps (s : State) (c : Nat) (d : Desc) (code : Nat) (detail : Nat) (epoch : Nat) : (State.complete s c d code detail epoch).maps = s.maps :=
  (State.complete_moves ..).off .maps rfl
@[simp] theorem State.complete_cmb (s : State) (c : Nat) (d : Desc) (code : Nat) (detail : Nat) (epoch : Nat) : (State.complete s c d code detail epoch).cmb = s.cmb :=
  (State.complete_moves ..).off .combine rfl
@[simp] theorem State.complete_lnk (s : State) (c : Nat) (d : Desc) (code : Nat) (detail : Nat) (epoch : Nat) : (State.complete s c d code detail epoch).lnk = s.lnk :=
  (State.complete_moves ..).off .links rfl
@[simp] theorem State.complete_col (s : State) (c : Nat) (d : Desc) (code : Nat) (detail : Nat) (epoch : Nat) : (State.complete s c d code detail epoch).col = s.col :=
  (State.complete_moves ..).off .collectives rfl
@[simp] theorem State.complete_pwr (s : State) (c : Nat) (d : Desc) (code : Nat) (detail : Nat) (epoch : Nat) : (State.complete s c d code detail epoch).pwr = s.pwr :=
  (State.complete_moves ..).off .power rfl
@[simp] theorem State.complete_rep (s : State) (c : Nat) (d : Desc) (code : Nat) (detail : Nat) (epoch : Nat) : (State.complete s c d code detail epoch).rep = s.rep :=
  (State.complete_moves ..).off .repair rfl
@[simp] theorem State.complete_test (s : State) (c : Nat) (d : Desc) (code : Nat) (detail : Nat) (epoch : Nat) : (State.complete s c d code detail epoch).test = s.test :=
  (State.complete_moves ..).off .test rfl

@[simp] theorem State.completeNone_pending (s : State) (c : Nat) (code : Nat) (detail : Nat) : (State.completeNone s c code detail).pending = s.pending :=
  (State.completeNone_moves ..).off .queue rfl
@[simp] theorem State.completeNone_clk (s : State) (c : Nat) (code : Nat) (detail : Nat) : (State.completeNone s c code detail).clk = s.clk :=
  (State.completeNone_moves ..).off .clock rfl
@[simp] theorem State.completeNone_free (s : State) (c : Nat) (code : Nat) (detail : Nat) : (State.completeNone s c code detail).free = s.free :=
  (State.completeNone_moves ..).off .freeCount rfl
@[simp] theorem State.completeNone_latchHost (s : State) (c : Nat) (code : Nat) (detail : Nat) : (State.completeNone s c code detail).latchHost = s.latchHost :=
  (State.completeNone_moves ..).off .hostLatches rfl
@[simp] theorem State.completeNone_latchMgmt (s : State) (c : Nat) (code : Nat) (detail : Nat) : (State.completeNone s c code detail).latchMgmt = s.latchMgmt :=
  (State.completeNone_moves ..).off .mgmtLatches rfl
@[simp] theorem State.completeNone_mem (s : State) (c : Nat) (code : Nat) (detail : Nat) : (State.completeNone s c code detail).mem = s.mem :=
  (State.completeNone_moves ..).off .memory rfl
@[simp] theorem State.completeNone_day (s : State) (c : Nat) (code : Nat) (detail : Nat) : (State.completeNone s c code detail).day = s.day :=
  (State.completeNone_moves ..).off .day rfl
@[simp] theorem State.completeNone_banks (s : State) (c : Nat) (code : Nat) (detail : Nat) : (State.completeNone s c code detail).banks = s.banks :=
  (State.completeNone_moves ..).off .banks rfl
@[simp] theorem State.completeNone_host (s : State) (c : Nat) (code : Nat) (detail : Nat) : (State.completeNone s c code detail).host = s.host :=
  (State.completeNone_moves ..).off .host rfl
@[simp] theorem State.completeNone_ctxs (s : State) (c : Nat) (code : Nat) (detail : Nat) : (State.completeNone s c code detail).ctxs = s.ctxs :=
  (State.completeNone_moves ..).off .contexts rfl
@[simp] theorem State.completeNone_flt (s : State) (c : Nat) (code : Nat) (detail : Nat) : (State.completeNone s c code detail).flt = s.flt :=
  (State.completeNone_moves ..).off .faults rfl
@[simp] theorem State.completeNone_boot (s : State) (c : Nat) (code : Nat) (detail : Nat) : (State.completeNone s c code detail).boot = s.boot :=
  (State.completeNone_moves ..).off .boot rfl
@[simp] theorem State.completeNone_mgt (s : State) (c : Nat) (code : Nat) (detail : Nat) : (State.completeNone s c code detail).mgt = s.mgt :=
  (State.completeNone_moves ..).off .mgt rfl
@[simp] theorem State.completeNone_atp (s : State) (c : Nat) (code : Nat) (detail : Nat) : (State.completeNone s c code detail).atp = s.atp :=
  (State.completeNone_moves ..).off .atp rfl
@[simp] theorem State.completeNone_ing (s : State) (c : Nat) (code : Nat) (detail : Nat) : (State.completeNone s c code detail).ing = s.ing :=
  (State.completeNone_moves ..).off .ingest rfl
@[simp] theorem State.completeNone_work (s : State) (c : Nat) (code : Nat) (detail : Nat) : (State.completeNone s c code detail).work = s.work :=
  (State.completeNone_moves ..).off .work rfl
@[simp] theorem State.completeNone_maps (s : State) (c : Nat) (code : Nat) (detail : Nat) : (State.completeNone s c code detail).maps = s.maps :=
  (State.completeNone_moves ..).off .maps rfl
@[simp] theorem State.completeNone_cmb (s : State) (c : Nat) (code : Nat) (detail : Nat) : (State.completeNone s c code detail).cmb = s.cmb :=
  (State.completeNone_moves ..).off .combine rfl
@[simp] theorem State.completeNone_lnk (s : State) (c : Nat) (code : Nat) (detail : Nat) : (State.completeNone s c code detail).lnk = s.lnk :=
  (State.completeNone_moves ..).off .links rfl
@[simp] theorem State.completeNone_col (s : State) (c : Nat) (code : Nat) (detail : Nat) : (State.completeNone s c code detail).col = s.col :=
  (State.completeNone_moves ..).off .collectives rfl
@[simp] theorem State.completeNone_pwr (s : State) (c : Nat) (code : Nat) (detail : Nat) : (State.completeNone s c code detail).pwr = s.pwr :=
  (State.completeNone_moves ..).off .power rfl
@[simp] theorem State.completeNone_rep (s : State) (c : Nat) (code : Nat) (detail : Nat) : (State.completeNone s c code detail).rep = s.rep :=
  (State.completeNone_moves ..).off .repair rfl
@[simp] theorem State.completeNone_test (s : State) (c : Nat) (code : Nat) (detail : Nat) : (State.completeNone s c code detail).test = s.test :=
  (State.completeNone_moves ..).off .test rfl

@[simp] theorem State.endDesc_pending (s : State) (c : Nat) (idx : Nat) (code : Nat) (detail : Nat) (epoch : Nat) : (State.endDesc s c idx code detail epoch).pending = s.pending :=
  (State.endDesc_moves ..).off .queue rfl
@[simp] theorem State.endDesc_clk (s : State) (c : Nat) (idx : Nat) (code : Nat) (detail : Nat) (epoch : Nat) : (State.endDesc s c idx code detail epoch).clk = s.clk :=
  (State.endDesc_moves ..).off .clock rfl
@[simp] theorem State.endDesc_free (s : State) (c : Nat) (idx : Nat) (code : Nat) (detail : Nat) (epoch : Nat) : (State.endDesc s c idx code detail epoch).free = s.free :=
  (State.endDesc_moves ..).off .freeCount rfl
@[simp] theorem State.endDesc_sent (s : State) (c : Nat) (idx : Nat) (code : Nat) (detail : Nat) (epoch : Nat) : (State.endDesc s c idx code detail epoch).sent = s.sent :=
  (State.endDesc_moves ..).off .sent rfl
@[simp] theorem State.endDesc_held (s : State) (c : Nat) (idx : Nat) (code : Nat) (detail : Nat) (epoch : Nat) : (State.endDesc s c idx code detail epoch).held = s.held :=
  (State.endDesc_moves ..).off .held rfl
@[simp] theorem State.endDesc_latchHost (s : State) (c : Nat) (idx : Nat) (code : Nat) (detail : Nat) (epoch : Nat) : (State.endDesc s c idx code detail epoch).latchHost = s.latchHost :=
  (State.endDesc_moves ..).off .hostLatches rfl
@[simp] theorem State.endDesc_latchMgmt (s : State) (c : Nat) (idx : Nat) (code : Nat) (detail : Nat) (epoch : Nat) : (State.endDesc s c idx code detail epoch).latchMgmt = s.latchMgmt :=
  (State.endDesc_moves ..).off .mgmtLatches rfl
@[simp] theorem State.endDesc_mem (s : State) (c : Nat) (idx : Nat) (code : Nat) (detail : Nat) (epoch : Nat) : (State.endDesc s c idx code detail epoch).mem = s.mem :=
  (State.endDesc_moves ..).off .memory rfl
@[simp] theorem State.endDesc_day (s : State) (c : Nat) (idx : Nat) (code : Nat) (detail : Nat) (epoch : Nat) : (State.endDesc s c idx code detail epoch).day = s.day :=
  (State.endDesc_moves ..).off .day rfl
@[simp] theorem State.endDesc_banks (s : State) (c : Nat) (idx : Nat) (code : Nat) (detail : Nat) (epoch : Nat) : (State.endDesc s c idx code detail epoch).banks = s.banks :=
  (State.endDesc_moves ..).off .banks rfl
@[simp] theorem State.endDesc_host (s : State) (c : Nat) (idx : Nat) (code : Nat) (detail : Nat) (epoch : Nat) : (State.endDesc s c idx code detail epoch).host = s.host :=
  (State.endDesc_moves ..).off .host rfl
@[simp] theorem State.endDesc_ctxs (s : State) (c : Nat) (idx : Nat) (code : Nat) (detail : Nat) (epoch : Nat) : (State.endDesc s c idx code detail epoch).ctxs = s.ctxs :=
  (State.endDesc_moves ..).off .contexts rfl
@[simp] theorem State.endDesc_flt (s : State) (c : Nat) (idx : Nat) (code : Nat) (detail : Nat) (epoch : Nat) : (State.endDesc s c idx code detail epoch).flt = s.flt :=
  (State.endDesc_moves ..).off .faults rfl
@[simp] theorem State.endDesc_boot (s : State) (c : Nat) (idx : Nat) (code : Nat) (detail : Nat) (epoch : Nat) : (State.endDesc s c idx code detail epoch).boot = s.boot :=
  (State.endDesc_moves ..).off .boot rfl
@[simp] theorem State.endDesc_mgt (s : State) (c : Nat) (idx : Nat) (code : Nat) (detail : Nat) (epoch : Nat) : (State.endDesc s c idx code detail epoch).mgt = s.mgt :=
  (State.endDesc_moves ..).off .mgt rfl
@[simp] theorem State.endDesc_atp (s : State) (c : Nat) (idx : Nat) (code : Nat) (detail : Nat) (epoch : Nat) : (State.endDesc s c idx code detail epoch).atp = s.atp :=
  (State.endDesc_moves ..).off .atp rfl
@[simp] theorem State.endDesc_ing (s : State) (c : Nat) (idx : Nat) (code : Nat) (detail : Nat) (epoch : Nat) : (State.endDesc s c idx code detail epoch).ing = s.ing :=
  (State.endDesc_moves ..).off .ingest rfl
@[simp] theorem State.endDesc_work (s : State) (c : Nat) (idx : Nat) (code : Nat) (detail : Nat) (epoch : Nat) : (State.endDesc s c idx code detail epoch).work = s.work :=
  (State.endDesc_moves ..).off .work rfl
@[simp] theorem State.endDesc_maps (s : State) (c : Nat) (idx : Nat) (code : Nat) (detail : Nat) (epoch : Nat) : (State.endDesc s c idx code detail epoch).maps = s.maps :=
  (State.endDesc_moves ..).off .maps rfl
@[simp] theorem State.endDesc_cmb (s : State) (c : Nat) (idx : Nat) (code : Nat) (detail : Nat) (epoch : Nat) : (State.endDesc s c idx code detail epoch).cmb = s.cmb :=
  (State.endDesc_moves ..).off .combine rfl
@[simp] theorem State.endDesc_lnk (s : State) (c : Nat) (idx : Nat) (code : Nat) (detail : Nat) (epoch : Nat) : (State.endDesc s c idx code detail epoch).lnk = s.lnk :=
  (State.endDesc_moves ..).off .links rfl
@[simp] theorem State.endDesc_col (s : State) (c : Nat) (idx : Nat) (code : Nat) (detail : Nat) (epoch : Nat) : (State.endDesc s c idx code detail epoch).col = s.col :=
  (State.endDesc_moves ..).off .collectives rfl
@[simp] theorem State.endDesc_rep (s : State) (c : Nat) (idx : Nat) (code : Nat) (detail : Nat) (epoch : Nat) : (State.endDesc s c idx code detail epoch).rep = s.rep :=
  (State.endDesc_moves ..).off .repair rfl
@[simp] theorem State.endDesc_test (s : State) (c : Nat) (idx : Nat) (code : Nat) (detail : Nat) (epoch : Nat) : (State.endDesc s c idx code detail epoch).test = s.test :=
  (State.endDesc_moves ..).off .test rfl

@[simp] theorem State.finish_pending (s : State) (c : Nat) (d : Desc) (code : Nat) (detail : Nat) : (State.finish s c d code detail).pending = s.pending :=
  (State.finish_moves ..).off .queue rfl
@[simp] theorem State.finish_clk (s : State) (c : Nat) (d : Desc) (code : Nat) (detail : Nat) : (State.finish s c d code detail).clk = s.clk :=
  (State.finish_moves ..).off .clock rfl
@[simp] theorem State.finish_free (s : State) (c : Nat) (d : Desc) (code : Nat) (detail : Nat) : (State.finish s c d code detail).free = s.free :=
  (State.finish_moves ..).off .freeCount rfl
@[simp] theorem State.finish_sent (s : State) (c : Nat) (d : Desc) (code : Nat) (detail : Nat) : (State.finish s c d code detail).sent = s.sent :=
  (State.finish_moves ..).off .sent rfl
@[simp] theorem State.finish_held (s : State) (c : Nat) (d : Desc) (code : Nat) (detail : Nat) : (State.finish s c d code detail).held = s.held :=
  (State.finish_moves ..).off .held rfl
@[simp] theorem State.finish_latchHost (s : State) (c : Nat) (d : Desc) (code : Nat) (detail : Nat) : (State.finish s c d code detail).latchHost = s.latchHost :=
  (State.finish_moves ..).off .hostLatches rfl
@[simp] theorem State.finish_latchMgmt (s : State) (c : Nat) (d : Desc) (code : Nat) (detail : Nat) : (State.finish s c d code detail).latchMgmt = s.latchMgmt :=
  (State.finish_moves ..).off .mgmtLatches rfl
@[simp] theorem State.finish_mem (s : State) (c : Nat) (d : Desc) (code : Nat) (detail : Nat) : (State.finish s c d code detail).mem = s.mem :=
  (State.finish_moves ..).off .memory rfl
@[simp] theorem State.finish_day (s : State) (c : Nat) (d : Desc) (code : Nat) (detail : Nat) : (State.finish s c d code detail).day = s.day :=
  (State.finish_moves ..).off .day rfl
@[simp] theorem State.finish_banks (s : State) (c : Nat) (d : Desc) (code : Nat) (detail : Nat) : (State.finish s c d code detail).banks = s.banks :=
  (State.finish_moves ..).off .banks rfl
@[simp] theorem State.finish_host (s : State) (c : Nat) (d : Desc) (code : Nat) (detail : Nat) : (State.finish s c d code detail).host = s.host :=
  (State.finish_moves ..).off .host rfl
@[simp] theorem State.finish_ctxs (s : State) (c : Nat) (d : Desc) (code : Nat) (detail : Nat) : (State.finish s c d code detail).ctxs = s.ctxs :=
  (State.finish_moves ..).off .contexts rfl
@[simp] theorem State.finish_flt (s : State) (c : Nat) (d : Desc) (code : Nat) (detail : Nat) : (State.finish s c d code detail).flt = s.flt :=
  (State.finish_moves ..).off .faults rfl
@[simp] theorem State.finish_boot (s : State) (c : Nat) (d : Desc) (code : Nat) (detail : Nat) : (State.finish s c d code detail).boot = s.boot :=
  (State.finish_moves ..).off .boot rfl
@[simp] theorem State.finish_mgt (s : State) (c : Nat) (d : Desc) (code : Nat) (detail : Nat) : (State.finish s c d code detail).mgt = s.mgt :=
  (State.finish_moves ..).off .mgt rfl
@[simp] theorem State.finish_atp (s : State) (c : Nat) (d : Desc) (code : Nat) (detail : Nat) : (State.finish s c d code detail).atp = s.atp :=
  (State.finish_moves ..).off .atp rfl
@[simp] theorem State.finish_ing (s : State) (c : Nat) (d : Desc) (code : Nat) (detail : Nat) : (State.finish s c d code detail).ing = s.ing :=
  (State.finish_moves ..).off .ingest rfl
@[simp] theorem State.finish_work (s : State) (c : Nat) (d : Desc) (code : Nat) (detail : Nat) : (State.finish s c d code detail).work = s.work :=
  (State.finish_moves ..).off .work rfl
@[simp] theorem State.finish_maps (s : State) (c : Nat) (d : Desc) (code : Nat) (detail : Nat) : (State.finish s c d code detail).maps = s.maps :=
  (State.finish_moves ..).off .maps rfl
@[simp] theorem State.finish_cmb (s : State) (c : Nat) (d : Desc) (code : Nat) (detail : Nat) : (State.finish s c d code detail).cmb = s.cmb :=
  (State.finish_moves ..).off .combine rfl
@[simp] theorem State.finish_lnk (s : State) (c : Nat) (d : Desc) (code : Nat) (detail : Nat) : (State.finish s c d code detail).lnk = s.lnk :=
  (State.finish_moves ..).off .links rfl
@[simp] theorem State.finish_col (s : State) (c : Nat) (d : Desc) (code : Nat) (detail : Nat) : (State.finish s c d code detail).col = s.col :=
  (State.finish_moves ..).off .collectives rfl
@[simp] theorem State.finish_rep (s : State) (c : Nat) (d : Desc) (code : Nat) (detail : Nat) : (State.finish s c d code detail).rep = s.rep :=
  (State.finish_moves ..).off .repair rfl
@[simp] theorem State.finish_test (s : State) (c : Nat) (d : Desc) (code : Nat) (detail : Nat) : (State.finish s c d code detail).test = s.test :=
  (State.finish_moves ..).off .test rfl

@[simp] theorem State.finishOk_pending (s : State) (c : Nat) (d : Desc) (detail : Nat) : (State.finishOk s c d detail).pending = s.pending :=
  (State.finishOk_moves ..).off .queue rfl
@[simp] theorem State.finishOk_clk (s : State) (c : Nat) (d : Desc) (detail : Nat) : (State.finishOk s c d detail).clk = s.clk :=
  (State.finishOk_moves ..).off .clock rfl
@[simp] theorem State.finishOk_free (s : State) (c : Nat) (d : Desc) (detail : Nat) : (State.finishOk s c d detail).free = s.free :=
  (State.finishOk_moves ..).off .freeCount rfl
@[simp] theorem State.finishOk_sent (s : State) (c : Nat) (d : Desc) (detail : Nat) : (State.finishOk s c d detail).sent = s.sent :=
  (State.finishOk_moves ..).off .sent rfl
@[simp] theorem State.finishOk_held (s : State) (c : Nat) (d : Desc) (detail : Nat) : (State.finishOk s c d detail).held = s.held :=
  (State.finishOk_moves ..).off .held rfl
@[simp] theorem State.finishOk_latchHost (s : State) (c : Nat) (d : Desc) (detail : Nat) : (State.finishOk s c d detail).latchHost = s.latchHost :=
  (State.finishOk_moves ..).off .hostLatches rfl
@[simp] theorem State.finishOk_latchMgmt (s : State) (c : Nat) (d : Desc) (detail : Nat) : (State.finishOk s c d detail).latchMgmt = s.latchMgmt :=
  (State.finishOk_moves ..).off .mgmtLatches rfl
@[simp] theorem State.finishOk_mem (s : State) (c : Nat) (d : Desc) (detail : Nat) : (State.finishOk s c d detail).mem = s.mem :=
  (State.finishOk_moves ..).off .memory rfl
@[simp] theorem State.finishOk_day (s : State) (c : Nat) (d : Desc) (detail : Nat) : (State.finishOk s c d detail).day = s.day :=
  (State.finishOk_moves ..).off .day rfl
@[simp] theorem State.finishOk_banks (s : State) (c : Nat) (d : Desc) (detail : Nat) : (State.finishOk s c d detail).banks = s.banks :=
  (State.finishOk_moves ..).off .banks rfl
@[simp] theorem State.finishOk_host (s : State) (c : Nat) (d : Desc) (detail : Nat) : (State.finishOk s c d detail).host = s.host :=
  (State.finishOk_moves ..).off .host rfl
@[simp] theorem State.finishOk_ctxs (s : State) (c : Nat) (d : Desc) (detail : Nat) : (State.finishOk s c d detail).ctxs = s.ctxs :=
  (State.finishOk_moves ..).off .contexts rfl
@[simp] theorem State.finishOk_flt (s : State) (c : Nat) (d : Desc) (detail : Nat) : (State.finishOk s c d detail).flt = s.flt :=
  (State.finishOk_moves ..).off .faults rfl
@[simp] theorem State.finishOk_boot (s : State) (c : Nat) (d : Desc) (detail : Nat) : (State.finishOk s c d detail).boot = s.boot :=
  (State.finishOk_moves ..).off .boot rfl
@[simp] theorem State.finishOk_mgt (s : State) (c : Nat) (d : Desc) (detail : Nat) : (State.finishOk s c d detail).mgt = s.mgt :=
  (State.finishOk_moves ..).off .mgt rfl
@[simp] theorem State.finishOk_atp (s : State) (c : Nat) (d : Desc) (detail : Nat) : (State.finishOk s c d detail).atp = s.atp :=
  (State.finishOk_moves ..).off .atp rfl
@[simp] theorem State.finishOk_ing (s : State) (c : Nat) (d : Desc) (detail : Nat) : (State.finishOk s c d detail).ing = s.ing :=
  (State.finishOk_moves ..).off .ingest rfl
@[simp] theorem State.finishOk_work (s : State) (c : Nat) (d : Desc) (detail : Nat) : (State.finishOk s c d detail).work = s.work :=
  (State.finishOk_moves ..).off .work rfl
@[simp] theorem State.finishOk_maps (s : State) (c : Nat) (d : Desc) (detail : Nat) : (State.finishOk s c d detail).maps = s.maps :=
  (State.finishOk_moves ..).off .maps rfl
@[simp] theorem State.finishOk_cmb (s : State) (c : Nat) (d : Desc) (detail : Nat) : (State.finishOk s c d detail).cmb = s.cmb :=
  (State.finishOk_moves ..).off .combine rfl
@[simp] theorem State.finishOk_lnk (s : State) (c : Nat) (d : Desc) (detail : Nat) : (State.finishOk s c d detail).lnk = s.lnk :=
  (State.finishOk_moves ..).off .links rfl
@[simp] theorem State.finishOk_col (s : State) (c : Nat) (d : Desc) (detail : Nat) : (State.finishOk s c d detail).col = s.col :=
  (State.finishOk_moves ..).off .collectives rfl
@[simp] theorem State.finishOk_rep (s : State) (c : Nat) (d : Desc) (detail : Nat) : (State.finishOk s c d detail).rep = s.rep :=
  (State.finishOk_moves ..).off .repair rfl
@[simp] theorem State.finishOk_test (s : State) (c : Nat) (d : Desc) (detail : Nat) : (State.finishOk s c d detail).test = s.test :=
  (State.finishOk_moves ..).off .test rfl

@[simp] theorem State.fence_pending (s : State) (res : Nat) (ctx : Nat) : (State.fence s res ctx).pending = s.pending := (State.fence_moves ..).off .queue rfl
@[simp] theorem State.fence_clk (s : State) (res : Nat) (ctx : Nat) : (State.fence s res ctx).clk = s.clk := (State.fence_moves ..).off .clock rfl
@[simp] theorem State.fence_latchHost (s : State) (res : Nat) (ctx : Nat) : (State.fence s res ctx).latchHost = s.latchHost :=
  (State.fence_moves ..).off .hostLatches rfl
@[simp] theorem State.fence_latchMgmt (s : State) (res : Nat) (ctx : Nat) : (State.fence s res ctx).latchMgmt = s.latchMgmt :=
  (State.fence_moves ..).off .mgmtLatches rfl
@[simp] theorem State.fence_mem (s : State) (res : Nat) (ctx : Nat) : (State.fence s res ctx).mem = s.mem := (State.fence_moves ..).off .memory rfl
@[simp] theorem State.fence_day (s : State) (res : Nat) (ctx : Nat) : (State.fence s res ctx).day = s.day := (State.fence_moves ..).off .day rfl
@[simp] theorem State.fence_banks (s : State) (res : Nat) (ctx : Nat) : (State.fence s res ctx).banks = s.banks := (State.fence_moves ..).off .banks rfl
@[simp] theorem State.fence_ctxs (s : State) (res : Nat) (ctx : Nat) : (State.fence s res ctx).ctxs = s.ctxs := (State.fence_moves ..).off .contexts rfl
@[simp] theorem State.fence_boot (s : State) (res : Nat) (ctx : Nat) : (State.fence s res ctx).boot = s.boot := (State.fence_moves ..).off .boot rfl
@[simp] theorem State.fence_atp (s : State) (res : Nat) (ctx : Nat) : (State.fence s res ctx).atp = s.atp := (State.fence_moves ..).off .atp rfl
@[simp] theorem State.fence_ing (s : State) (res : Nat) (ctx : Nat) : (State.fence s res ctx).ing = s.ing := (State.fence_moves ..).off .ingest rfl
@[simp] theorem State.fence_work (s : State) (res : Nat) (ctx : Nat) : (State.fence s res ctx).work = s.work := (State.fence_moves ..).off .work rfl
@[simp] theorem State.fence_maps (s : State) (res : Nat) (ctx : Nat) : (State.fence s res ctx).maps = s.maps := (State.fence_moves ..).off .maps rfl
@[simp] theorem State.fence_cmb (s : State) (res : Nat) (ctx : Nat) : (State.fence s res ctx).cmb = s.cmb := (State.fence_moves ..).off .combine rfl
@[simp] theorem State.fence_lnk (s : State) (res : Nat) (ctx : Nat) : (State.fence s res ctx).lnk = s.lnk := (State.fence_moves ..).off .links rfl
@[simp] theorem State.fence_col (s : State) (res : Nat) (ctx : Nat) : (State.fence s res ctx).col = s.col := (State.fence_moves ..).off .collectives rfl
@[simp] theorem State.fence_rep (s : State) (res : Nat) (ctx : Nat) : (State.fence s res ctx).rep = s.rep := (State.fence_moves ..).off .repair rfl
@[simp] theorem State.fence_test (s : State) (res : Nat) (ctx : Nat) : (State.fence s res ctx).test = s.test := (State.fence_moves ..).off .test rfl

@[simp] theorem State.refreshValid_pending (s : State) : (State.refreshValid s).pending = s.pending := (State.refreshValid_moves ..).off .queue rfl
@[simp] theorem State.refreshValid_clk (s : State) : (State.refreshValid s).clk = s.clk := (State.refreshValid_moves ..).off .clock rfl
@[simp] theorem State.refreshValid_free (s : State) : (State.refreshValid s).free = s.free := (State.refreshValid_moves ..).off .freeCount rfl
@[simp] theorem State.refreshValid_latchHost (s : State) : (State.refreshValid s).latchHost = s.latchHost := (State.refreshValid_moves ..).off .hostLatches rfl
@[simp] theorem State.refreshValid_latchMgmt (s : State) : (State.refreshValid s).latchMgmt = s.latchMgmt := (State.refreshValid_moves ..).off .mgmtLatches rfl
@[simp] theorem State.refreshValid_mem (s : State) : (State.refreshValid s).mem = s.mem := (State.refreshValid_moves ..).off .memory rfl
@[simp] theorem State.refreshValid_banks (s : State) : (State.refreshValid s).banks = s.banks := (State.refreshValid_moves ..).off .banks rfl
@[simp] theorem State.refreshValid_rings (s : State) : (State.refreshValid s).rings = s.rings := (State.refreshValid_moves ..).off .rings rfl
@[simp] theorem State.refreshValid_ctxs (s : State) : (State.refreshValid s).ctxs = s.ctxs := (State.refreshValid_moves ..).off .contexts rfl
@[simp] theorem State.refreshValid_flt (s : State) : (State.refreshValid s).flt = s.flt := (State.refreshValid_moves ..).off .faults rfl
@[simp] theorem State.refreshValid_boot (s : State) : (State.refreshValid s).boot = s.boot := (State.refreshValid_moves ..).off .boot rfl
@[simp] theorem State.refreshValid_atp (s : State) : (State.refreshValid s).atp = s.atp := (State.refreshValid_moves ..).off .atp rfl
@[simp] theorem State.refreshValid_ing (s : State) : (State.refreshValid s).ing = s.ing := (State.refreshValid_moves ..).off .ingest rfl
@[simp] theorem State.refreshValid_work (s : State) : (State.refreshValid s).work = s.work := (State.refreshValid_moves ..).off .work rfl
@[simp] theorem State.refreshValid_maps (s : State) : (State.refreshValid s).maps = s.maps := (State.refreshValid_moves ..).off .maps rfl
@[simp] theorem State.refreshValid_cmb (s : State) : (State.refreshValid s).cmb = s.cmb := (State.refreshValid_moves ..).off .combine rfl
@[simp] theorem State.refreshValid_col (s : State) : (State.refreshValid s).col = s.col := (State.refreshValid_moves ..).off .collectives rfl
@[simp] theorem State.refreshValid_pwr (s : State) : (State.refreshValid s).pwr = s.pwr := (State.refreshValid_moves ..).off .power rfl
@[simp] theorem State.refreshValid_rep (s : State) : (State.refreshValid s).rep = s.rep := (State.refreshValid_moves ..).off .repair rfl
@[simp] theorem State.refreshValid_test (s : State) : (State.refreshValid s).test = s.test := (State.refreshValid_moves ..).off .test rfl

@[simp] theorem State.setDayState_pending (s : State) (x : DayState) : (State.setDayState s x).pending = s.pending :=
  (State.setDayState_moves ..).off .queue rfl
@[simp] theorem State.setDayState_clk (s : State) (x : DayState) : (State.setDayState s x).clk = s.clk := (State.setDayState_moves ..).off .clock rfl
@[simp] theorem State.setDayState_latchHost (s : State) (x : DayState) : (State.setDayState s x).latchHost = s.latchHost :=
  (State.setDayState_moves ..).off .hostLatches rfl
@[simp] theorem State.setDayState_latchMgmt (s : State) (x : DayState) : (State.setDayState s x).latchMgmt = s.latchMgmt :=
  (State.setDayState_moves ..).off .mgmtLatches rfl
@[simp] theorem State.setDayState_mem (s : State) (x : DayState) : (State.setDayState s x).mem = s.mem := (State.setDayState_moves ..).off .memory rfl
@[simp] theorem State.setDayState_banks (s : State) (x : DayState) : (State.setDayState s x).banks = s.banks := (State.setDayState_moves ..).off .banks rfl
@[simp] theorem State.setDayState_rings (s : State) (x : DayState) : (State.setDayState s x).rings = s.rings := (State.setDayState_moves ..).off .rings rfl
@[simp] theorem State.setDayState_ctxs (s : State) (x : DayState) : (State.setDayState s x).ctxs = s.ctxs := (State.setDayState_moves ..).off .contexts rfl
@[simp] theorem State.setDayState_flt (s : State) (x : DayState) : (State.setDayState s x).flt = s.flt := (State.setDayState_moves ..).off .faults rfl
@[simp] theorem State.setDayState_boot (s : State) (x : DayState) : (State.setDayState s x).boot = s.boot := (State.setDayState_moves ..).off .boot rfl
@[simp] theorem State.setDayState_atp (s : State) (x : DayState) : (State.setDayState s x).atp = s.atp := (State.setDayState_moves ..).off .atp rfl
@[simp] theorem State.setDayState_ing (s : State) (x : DayState) : (State.setDayState s x).ing = s.ing := (State.setDayState_moves ..).off .ingest rfl
@[simp] theorem State.setDayState_work (s : State) (x : DayState) : (State.setDayState s x).work = s.work := (State.setDayState_moves ..).off .work rfl
@[simp] theorem State.setDayState_maps (s : State) (x : DayState) : (State.setDayState s x).maps = s.maps := (State.setDayState_moves ..).off .maps rfl
@[simp] theorem State.setDayState_cmb (s : State) (x : DayState) : (State.setDayState s x).cmb = s.cmb := (State.setDayState_moves ..).off .combine rfl
@[simp] theorem State.setDayState_col (s : State) (x : DayState) : (State.setDayState s x).col = s.col := (State.setDayState_moves ..).off .collectives rfl
@[simp] theorem State.setDayState_pwr (s : State) (x : DayState) : (State.setDayState s x).pwr = s.pwr := (State.setDayState_moves ..).off .power rfl
@[simp] theorem State.setDayState_rep (s : State) (x : DayState) : (State.setDayState s x).rep = s.rep := (State.setDayState_moves ..).off .repair rfl
@[simp] theorem State.setDayState_test (s : State) (x : DayState) : (State.setDayState s x).test = s.test := (State.setDayState_moves ..).off .test rfl

@[simp] theorem State.elect_pending (s : State) : (State.elect s).pending = s.pending := (State.elect_moves ..).off .queue rfl
@[simp] theorem State.elect_clk (s : State) : (State.elect s).clk = s.clk := (State.elect_moves ..).off .clock rfl
@[simp] theorem State.elect_latchHost (s : State) : (State.elect s).latchHost = s.latchHost := (State.elect_moves ..).off .hostLatches rfl
@[simp] theorem State.elect_latchMgmt (s : State) : (State.elect s).latchMgmt = s.latchMgmt := (State.elect_moves ..).off .mgmtLatches rfl
@[simp] theorem State.elect_mem (s : State) : (State.elect s).mem = s.mem := (State.elect_moves ..).off .memory rfl
@[simp] theorem State.elect_banks (s : State) : (State.elect s).banks = s.banks := (State.elect_moves ..).off .banks rfl
@[simp] theorem State.elect_rings (s : State) : (State.elect s).rings = s.rings := (State.elect_moves ..).off .rings rfl
@[simp] theorem State.elect_ctxs (s : State) : (State.elect s).ctxs = s.ctxs := (State.elect_moves ..).off .contexts rfl
@[simp] theorem State.elect_flt (s : State) : (State.elect s).flt = s.flt := (State.elect_moves ..).off .faults rfl
@[simp] theorem State.elect_boot (s : State) : (State.elect s).boot = s.boot := (State.elect_moves ..).off .boot rfl
@[simp] theorem State.elect_atp (s : State) : (State.elect s).atp = s.atp := (State.elect_moves ..).off .atp rfl
@[simp] theorem State.elect_ing (s : State) : (State.elect s).ing = s.ing := (State.elect_moves ..).off .ingest rfl
@[simp] theorem State.elect_work (s : State) : (State.elect s).work = s.work := (State.elect_moves ..).off .work rfl
@[simp] theorem State.elect_maps (s : State) : (State.elect s).maps = s.maps := (State.elect_moves ..).off .maps rfl
@[simp] theorem State.elect_cmb (s : State) : (State.elect s).cmb = s.cmb := (State.elect_moves ..).off .combine rfl
@[simp] theorem State.elect_col (s : State) : (State.elect s).col = s.col := (State.elect_moves ..).off .collectives rfl
@[simp] theorem State.elect_pwr (s : State) : (State.elect s).pwr = s.pwr := (State.elect_moves ..).off .power rfl
@[simp] theorem State.elect_rep (s : State) : (State.elect s).rep = s.rep := (State.elect_moves ..).off .repair rfl
@[simp] theorem State.elect_test (s : State) : (State.elect s).test = s.test := (State.elect_moves ..).off .test rfl

@[simp] theorem State.checkReady_pending (s : State) : (State.checkReady s).pending = s.pending := (State.checkReady_moves ..).off .queue rfl
@[simp] theorem State.checkReady_clk (s : State) : (State.checkReady s).clk = s.clk := (State.checkReady_moves ..).off .clock rfl
@[simp] theorem State.checkReady_latchHost (s : State) : (State.checkReady s).latchHost = s.latchHost := (State.checkReady_moves ..).off .hostLatches rfl
@[simp] theorem State.checkReady_latchMgmt (s : State) : (State.checkReady s).latchMgmt = s.latchMgmt := (State.checkReady_moves ..).off .mgmtLatches rfl
@[simp] theorem State.checkReady_mem (s : State) : (State.checkReady s).mem = s.mem := (State.checkReady_moves ..).off .memory rfl
@[simp] theorem State.checkReady_day (s : State) : (State.checkReady s).day = s.day := (State.checkReady_moves ..).off .day rfl
@[simp] theorem State.checkReady_banks (s : State) : (State.checkReady s).banks = s.banks := (State.checkReady_moves ..).off .banks rfl
@[simp] theorem State.checkReady_rings (s : State) : (State.checkReady s).rings = s.rings := (State.checkReady_moves ..).off .rings rfl
@[simp] theorem State.checkReady_ctxs (s : State) : (State.checkReady s).ctxs = s.ctxs := (State.checkReady_moves ..).off .contexts rfl
@[simp] theorem State.checkReady_flt (s : State) : (State.checkReady s).flt = s.flt := (State.checkReady_moves ..).off .faults rfl
@[simp] theorem State.checkReady_atp (s : State) : (State.checkReady s).atp = s.atp := (State.checkReady_moves ..).off .atp rfl
@[simp] theorem State.checkReady_ing (s : State) : (State.checkReady s).ing = s.ing := (State.checkReady_moves ..).off .ingest rfl
@[simp] theorem State.checkReady_work (s : State) : (State.checkReady s).work = s.work := (State.checkReady_moves ..).off .work rfl
@[simp] theorem State.checkReady_maps (s : State) : (State.checkReady s).maps = s.maps := (State.checkReady_moves ..).off .maps rfl
@[simp] theorem State.checkReady_cmb (s : State) : (State.checkReady s).cmb = s.cmb := (State.checkReady_moves ..).off .combine rfl
@[simp] theorem State.checkReady_lnk (s : State) : (State.checkReady s).lnk = s.lnk := (State.checkReady_moves ..).off .links rfl
@[simp] theorem State.checkReady_col (s : State) : (State.checkReady s).col = s.col := (State.checkReady_moves ..).off .collectives rfl
@[simp] theorem State.checkReady_rep (s : State) : (State.checkReady s).rep = s.rep := (State.checkReady_moves ..).off .repair rfl
@[simp] theorem State.checkReady_test (s : State) : (State.checkReady s).test = s.test := (State.checkReady_moves ..).off .test rfl

@[simp] theorem State.noteIdle_pending (s : State) : (State.noteIdle s).pending = s.pending := (State.noteIdle_moves ..).off .queue rfl
@[simp] theorem State.noteIdle_clk (s : State) : (State.noteIdle s).clk = s.clk := (State.noteIdle_moves ..).off .clock rfl
@[simp] theorem State.noteIdle_free (s : State) : (State.noteIdle s).free = s.free := (State.noteIdle_moves ..).off .freeCount rfl
@[simp] theorem State.noteIdle_sent (s : State) : (State.noteIdle s).sent = s.sent := (State.noteIdle_moves ..).off .sent rfl
@[simp] theorem State.noteIdle_held (s : State) : (State.noteIdle s).held = s.held := (State.noteIdle_moves ..).off .held rfl
@[simp] theorem State.noteIdle_regs (s : State) : (State.noteIdle s).regs = s.regs := (State.noteIdle_moves ..).off .registers rfl
@[simp] theorem State.noteIdle_latchHost (s : State) : (State.noteIdle s).latchHost = s.latchHost := (State.noteIdle_moves ..).off .hostLatches rfl
@[simp] theorem State.noteIdle_latchMgmt (s : State) : (State.noteIdle s).latchMgmt = s.latchMgmt := (State.noteIdle_moves ..).off .mgmtLatches rfl
@[simp] theorem State.noteIdle_mem (s : State) : (State.noteIdle s).mem = s.mem := (State.noteIdle_moves ..).off .memory rfl
@[simp] theorem State.noteIdle_day (s : State) : (State.noteIdle s).day = s.day := (State.noteIdle_moves ..).off .day rfl
@[simp] theorem State.noteIdle_banks (s : State) : (State.noteIdle s).banks = s.banks := (State.noteIdle_moves ..).off .banks rfl
@[simp] theorem State.noteIdle_host (s : State) : (State.noteIdle s).host = s.host := (State.noteIdle_moves ..).off .host rfl
@[simp] theorem State.noteIdle_rings (s : State) : (State.noteIdle s).rings = s.rings := (State.noteIdle_moves ..).off .rings rfl
@[simp] theorem State.noteIdle_ctxs (s : State) : (State.noteIdle s).ctxs = s.ctxs := (State.noteIdle_moves ..).off .contexts rfl
@[simp] theorem State.noteIdle_flt (s : State) : (State.noteIdle s).flt = s.flt := (State.noteIdle_moves ..).off .faults rfl
@[simp] theorem State.noteIdle_boot (s : State) : (State.noteIdle s).boot = s.boot := (State.noteIdle_moves ..).off .boot rfl
@[simp] theorem State.noteIdle_mgt (s : State) : (State.noteIdle s).mgt = s.mgt := (State.noteIdle_moves ..).off .mgt rfl
@[simp] theorem State.noteIdle_atp (s : State) : (State.noteIdle s).atp = s.atp := (State.noteIdle_moves ..).off .atp rfl
@[simp] theorem State.noteIdle_ing (s : State) : (State.noteIdle s).ing = s.ing := (State.noteIdle_moves ..).off .ingest rfl
@[simp] theorem State.noteIdle_work (s : State) : (State.noteIdle s).work = s.work := (State.noteIdle_moves ..).off .work rfl
@[simp] theorem State.noteIdle_maps (s : State) : (State.noteIdle s).maps = s.maps := (State.noteIdle_moves ..).off .maps rfl
@[simp] theorem State.noteIdle_cmb (s : State) : (State.noteIdle s).cmb = s.cmb := (State.noteIdle_moves ..).off .combine rfl
@[simp] theorem State.noteIdle_lnk (s : State) : (State.noteIdle s).lnk = s.lnk := (State.noteIdle_moves ..).off .links rfl
@[simp] theorem State.noteIdle_col (s : State) : (State.noteIdle s).col = s.col := (State.noteIdle_moves ..).off .collectives rfl
@[simp] theorem State.noteIdle_rep (s : State) : (State.noteIdle s).rep = s.rep := (State.noteIdle_moves ..).off .repair rfl
@[simp] theorem State.noteIdle_test (s : State) : (State.noteIdle s).test = s.test := (State.noteIdle_moves ..).off .test rfl

@[simp] theorem State.schedule_pending (s : State) (left : Option (Nat × Nat)) : (State.schedule s left).pending = s.pending :=
  (State.schedule_moves ..).off .queue rfl
@[simp] theorem State.schedule_clk (s : State) (left : Option (Nat × Nat)) : (State.schedule s left).clk = s.clk := (State.schedule_moves ..).off .clock rfl
@[simp] theorem State.schedule_held (s : State) (left : Option (Nat × Nat)) : (State.schedule s left).held = s.held := (State.schedule_moves ..).off .held rfl
@[simp] theorem State.schedule_latchHost (s : State) (left : Option (Nat × Nat)) : (State.schedule s left).latchHost = s.latchHost :=
  (State.schedule_moves ..).off .hostLatches rfl
@[simp] theorem State.schedule_latchMgmt (s : State) (left : Option (Nat × Nat)) : (State.schedule s left).latchMgmt = s.latchMgmt :=
  (State.schedule_moves ..).off .mgmtLatches rfl
@[simp] theorem State.schedule_mem (s : State) (left : Option (Nat × Nat)) : (State.schedule s left).mem = s.mem := (State.schedule_moves ..).off .memory rfl
@[simp] theorem State.schedule_day (s : State) (left : Option (Nat × Nat)) : (State.schedule s left).day = s.day := (State.schedule_moves ..).off .day rfl
@[simp] theorem State.schedule_host (s : State) (left : Option (Nat × Nat)) : (State.schedule s left).host = s.host := (State.schedule_moves ..).off .host rfl
@[simp] theorem State.schedule_rings (s : State) (left : Option (Nat × Nat)) : (State.schedule s left).rings = s.rings :=
  (State.schedule_moves ..).off .rings rfl
@[simp] theorem State.schedule_ctxs (s : State) (left : Option (Nat × Nat)) : (State.schedule s left).ctxs = s.ctxs :=
  (State.schedule_moves ..).off .contexts rfl
@[simp] theorem State.schedule_flt (s : State) (left : Option (Nat × Nat)) : (State.schedule s left).flt = s.flt := (State.schedule_moves ..).off .faults rfl
@[simp] theorem State.schedule_boot (s : State) (left : Option (Nat × Nat)) : (State.schedule s left).boot = s.boot := (State.schedule_moves ..).off .boot rfl
@[simp] theorem State.schedule_mgt (s : State) (left : Option (Nat × Nat)) : (State.schedule s left).mgt = s.mgt := (State.schedule_moves ..).off .mgt rfl
@[simp] theorem State.schedule_atp (s : State) (left : Option (Nat × Nat)) : (State.schedule s left).atp = s.atp := (State.schedule_moves ..).off .atp rfl
@[simp] theorem State.schedule_ing (s : State) (left : Option (Nat × Nat)) : (State.schedule s left).ing = s.ing := (State.schedule_moves ..).off .ingest rfl
@[simp] theorem State.schedule_maps (s : State) (left : Option (Nat × Nat)) : (State.schedule s left).maps = s.maps := (State.schedule_moves ..).off .maps rfl
@[simp] theorem State.schedule_cmb (s : State) (left : Option (Nat × Nat)) : (State.schedule s left).cmb = s.cmb := (State.schedule_moves ..).off .combine rfl
@[simp] theorem State.schedule_lnk (s : State) (left : Option (Nat × Nat)) : (State.schedule s left).lnk = s.lnk := (State.schedule_moves ..).off .links rfl
@[simp] theorem State.schedule_col (s : State) (left : Option (Nat × Nat)) : (State.schedule s left).col = s.col :=
  (State.schedule_moves ..).off .collectives rfl
@[simp] theorem State.schedule_rep (s : State) (left : Option (Nat × Nat)) : (State.schedule s left).rep = s.rep := (State.schedule_moves ..).off .repair rfl
@[simp] theorem State.schedule_test (s : State) (left : Option (Nat × Nat)) : (State.schedule s left).test = s.test := (State.schedule_moves ..).off .test rfl

@[simp] theorem State.fetch_pending (s : State) (c : Nat) : (State.fetch s c).pending = s.pending := (State.fetch_moves ..).off .queue rfl
@[simp] theorem State.fetch_clk (s : State) (c : Nat) : (State.fetch s c).clk = s.clk := (State.fetch_moves ..).off .clock rfl
@[simp] theorem State.fetch_free (s : State) (c : Nat) : (State.fetch s c).free = s.free := (State.fetch_moves ..).off .freeCount rfl
@[simp] theorem State.fetch_held (s : State) (c : Nat) : (State.fetch s c).held = s.held := (State.fetch_moves ..).off .held rfl
@[simp] theorem State.fetch_regs (s : State) (c : Nat) : (State.fetch s c).regs = s.regs := (State.fetch_moves ..).off .registers rfl
@[simp] theorem State.fetch_latchHost (s : State) (c : Nat) : (State.fetch s c).latchHost = s.latchHost := (State.fetch_moves ..).off .hostLatches rfl
@[simp] theorem State.fetch_latchMgmt (s : State) (c : Nat) : (State.fetch s c).latchMgmt = s.latchMgmt := (State.fetch_moves ..).off .mgmtLatches rfl
@[simp] theorem State.fetch_mem (s : State) (c : Nat) : (State.fetch s c).mem = s.mem := (State.fetch_moves ..).off .memory rfl
@[simp] theorem State.fetch_day (s : State) (c : Nat) : (State.fetch s c).day = s.day := (State.fetch_moves ..).off .day rfl
@[simp] theorem State.fetch_banks (s : State) (c : Nat) : (State.fetch s c).banks = s.banks := (State.fetch_moves ..).off .banks rfl
@[simp] theorem State.fetch_host (s : State) (c : Nat) : (State.fetch s c).host = s.host := (State.fetch_moves ..).off .host rfl
@[simp] theorem State.fetch_ctxs (s : State) (c : Nat) : (State.fetch s c).ctxs = s.ctxs := (State.fetch_moves ..).off .contexts rfl
@[simp] theorem State.fetch_flt (s : State) (c : Nat) : (State.fetch s c).flt = s.flt := (State.fetch_moves ..).off .faults rfl
@[simp] theorem State.fetch_boot (s : State) (c : Nat) : (State.fetch s c).boot = s.boot := (State.fetch_moves ..).off .boot rfl
@[simp] theorem State.fetch_mgt (s : State) (c : Nat) : (State.fetch s c).mgt = s.mgt := (State.fetch_moves ..).off .mgt rfl
@[simp] theorem State.fetch_atp (s : State) (c : Nat) : (State.fetch s c).atp = s.atp := (State.fetch_moves ..).off .atp rfl
@[simp] theorem State.fetch_ing (s : State) (c : Nat) : (State.fetch s c).ing = s.ing := (State.fetch_moves ..).off .ingest rfl
@[simp] theorem State.fetch_work (s : State) (c : Nat) : (State.fetch s c).work = s.work := (State.fetch_moves ..).off .work rfl
@[simp] theorem State.fetch_maps (s : State) (c : Nat) : (State.fetch s c).maps = s.maps := (State.fetch_moves ..).off .maps rfl
@[simp] theorem State.fetch_cmb (s : State) (c : Nat) : (State.fetch s c).cmb = s.cmb := (State.fetch_moves ..).off .combine rfl
@[simp] theorem State.fetch_lnk (s : State) (c : Nat) : (State.fetch s c).lnk = s.lnk := (State.fetch_moves ..).off .links rfl
@[simp] theorem State.fetch_col (s : State) (c : Nat) : (State.fetch s c).col = s.col := (State.fetch_moves ..).off .collectives rfl
@[simp] theorem State.fetch_pwr (s : State) (c : Nat) : (State.fetch s c).pwr = s.pwr := (State.fetch_moves ..).off .power rfl
@[simp] theorem State.fetch_rep (s : State) (c : Nat) : (State.fetch s c).rep = s.rep := (State.fetch_moves ..).off .repair rfl
@[simp] theorem State.fetch_test (s : State) (c : Nat) : (State.fetch s c).test = s.test := (State.fetch_moves ..).off .test rfl

@[simp] theorem State.fetchAll_pending (s : State) : (State.fetchAll s).pending = s.pending := (State.fetchAll_moves ..).off .queue rfl
@[simp] theorem State.fetchAll_clk (s : State) : (State.fetchAll s).clk = s.clk := (State.fetchAll_moves ..).off .clock rfl
@[simp] theorem State.fetchAll_free (s : State) : (State.fetchAll s).free = s.free := (State.fetchAll_moves ..).off .freeCount rfl
@[simp] theorem State.fetchAll_held (s : State) : (State.fetchAll s).held = s.held := (State.fetchAll_moves ..).off .held rfl
@[simp] theorem State.fetchAll_regs (s : State) : (State.fetchAll s).regs = s.regs := (State.fetchAll_moves ..).off .registers rfl
@[simp] theorem State.fetchAll_latchHost (s : State) : (State.fetchAll s).latchHost = s.latchHost := (State.fetchAll_moves ..).off .hostLatches rfl
@[simp] theorem State.fetchAll_latchMgmt (s : State) : (State.fetchAll s).latchMgmt = s.latchMgmt := (State.fetchAll_moves ..).off .mgmtLatches rfl
@[simp] theorem State.fetchAll_mem (s : State) : (State.fetchAll s).mem = s.mem := (State.fetchAll_moves ..).off .memory rfl
@[simp] theorem State.fetchAll_day (s : State) : (State.fetchAll s).day = s.day := (State.fetchAll_moves ..).off .day rfl
@[simp] theorem State.fetchAll_banks (s : State) : (State.fetchAll s).banks = s.banks := (State.fetchAll_moves ..).off .banks rfl
@[simp] theorem State.fetchAll_host (s : State) : (State.fetchAll s).host = s.host := (State.fetchAll_moves ..).off .host rfl
@[simp] theorem State.fetchAll_ctxs (s : State) : (State.fetchAll s).ctxs = s.ctxs := (State.fetchAll_moves ..).off .contexts rfl
@[simp] theorem State.fetchAll_flt (s : State) : (State.fetchAll s).flt = s.flt := (State.fetchAll_moves ..).off .faults rfl
@[simp] theorem State.fetchAll_boot (s : State) : (State.fetchAll s).boot = s.boot := (State.fetchAll_moves ..).off .boot rfl
@[simp] theorem State.fetchAll_mgt (s : State) : (State.fetchAll s).mgt = s.mgt := (State.fetchAll_moves ..).off .mgt rfl
@[simp] theorem State.fetchAll_atp (s : State) : (State.fetchAll s).atp = s.atp := (State.fetchAll_moves ..).off .atp rfl
@[simp] theorem State.fetchAll_ing (s : State) : (State.fetchAll s).ing = s.ing := (State.fetchAll_moves ..).off .ingest rfl
@[simp] theorem State.fetchAll_work (s : State) : (State.fetchAll s).work = s.work := (State.fetchAll_moves ..).off .work rfl
@[simp] theorem State.fetchAll_maps (s : State) : (State.fetchAll s).maps = s.maps := (State.fetchAll_moves ..).off .maps rfl
@[simp] theorem State.fetchAll_cmb (s : State) : (State.fetchAll s).cmb = s.cmb := (State.fetchAll_moves ..).off .combine rfl
@[simp] theorem State.fetchAll_lnk (s : State) : (State.fetchAll s).lnk = s.lnk := (State.fetchAll_moves ..).off .links rfl
@[simp] theorem State.fetchAll_col (s : State) : (State.fetchAll s).col = s.col := (State.fetchAll_moves ..).off .collectives rfl
@[simp] theorem State.fetchAll_rep (s : State) : (State.fetchAll s).rep = s.rep := (State.fetchAll_moves ..).off .repair rfl
@[simp] theorem State.fetchAll_test (s : State) : (State.fetchAll s).test = s.test := (State.fetchAll_moves ..).off .test rfl

@[simp] theorem State.chargeDesc_pending (s : State) (c : Nat) (idx : Nat) (uj : Nat) : (State.chargeDesc s c idx uj).pending = s.pending :=
  (State.chargeDesc_moves ..).off .queue rfl
@[simp] theorem State.chargeDesc_clk (s : State) (c : Nat) (idx : Nat) (uj : Nat) : (State.chargeDesc s c idx uj).clk = s.clk :=
  (State.chargeDesc_moves ..).off .clock rfl
@[simp] theorem State.chargeDesc_free (s : State) (c : Nat) (idx : Nat) (uj : Nat) : (State.chargeDesc s c idx uj).free = s.free :=
  (State.chargeDesc_moves ..).off .freeCount rfl
@[simp] theorem State.chargeDesc_sent (s : State) (c : Nat) (idx : Nat) (uj : Nat) : (State.chargeDesc s c idx uj).sent = s.sent :=
  (State.chargeDesc_moves ..).off .sent rfl
@[simp] theorem State.chargeDesc_held (s : State) (c : Nat) (idx : Nat) (uj : Nat) : (State.chargeDesc s c idx uj).held = s.held :=
  (State.chargeDesc_moves ..).off .held rfl
@[simp] theorem State.chargeDesc_latchHost (s : State) (c : Nat) (idx : Nat) (uj : Nat) : (State.chargeDesc s c idx uj).latchHost = s.latchHost :=
  (State.chargeDesc_moves ..).off .hostLatches rfl
@[simp] theorem State.chargeDesc_latchMgmt (s : State) (c : Nat) (idx : Nat) (uj : Nat) : (State.chargeDesc s c idx uj).latchMgmt = s.latchMgmt :=
  (State.chargeDesc_moves ..).off .mgmtLatches rfl
@[simp] theorem State.chargeDesc_mem (s : State) (c : Nat) (idx : Nat) (uj : Nat) : (State.chargeDesc s c idx uj).mem = s.mem :=
  (State.chargeDesc_moves ..).off .memory rfl
@[simp] theorem State.chargeDesc_day (s : State) (c : Nat) (idx : Nat) (uj : Nat) : (State.chargeDesc s c idx uj).day = s.day :=
  (State.chargeDesc_moves ..).off .day rfl
@[simp] theorem State.chargeDesc_banks (s : State) (c : Nat) (idx : Nat) (uj : Nat) : (State.chargeDesc s c idx uj).banks = s.banks :=
  (State.chargeDesc_moves ..).off .banks rfl
@[simp] theorem State.chargeDesc_host (s : State) (c : Nat) (idx : Nat) (uj : Nat) : (State.chargeDesc s c idx uj).host = s.host :=
  (State.chargeDesc_moves ..).off .host rfl
@[simp] theorem State.chargeDesc_ctxs (s : State) (c : Nat) (idx : Nat) (uj : Nat) : (State.chargeDesc s c idx uj).ctxs = s.ctxs :=
  (State.chargeDesc_moves ..).off .contexts rfl
@[simp] theorem State.chargeDesc_flt (s : State) (c : Nat) (idx : Nat) (uj : Nat) : (State.chargeDesc s c idx uj).flt = s.flt :=
  (State.chargeDesc_moves ..).off .faults rfl
@[simp] theorem State.chargeDesc_boot (s : State) (c : Nat) (idx : Nat) (uj : Nat) : (State.chargeDesc s c idx uj).boot = s.boot :=
  (State.chargeDesc_moves ..).off .boot rfl
@[simp] theorem State.chargeDesc_mgt (s : State) (c : Nat) (idx : Nat) (uj : Nat) : (State.chargeDesc s c idx uj).mgt = s.mgt :=
  (State.chargeDesc_moves ..).off .mgt rfl
@[simp] theorem State.chargeDesc_atp (s : State) (c : Nat) (idx : Nat) (uj : Nat) : (State.chargeDesc s c idx uj).atp = s.atp :=
  (State.chargeDesc_moves ..).off .atp rfl
@[simp] theorem State.chargeDesc_ing (s : State) (c : Nat) (idx : Nat) (uj : Nat) : (State.chargeDesc s c idx uj).ing = s.ing :=
  (State.chargeDesc_moves ..).off .ingest rfl
@[simp] theorem State.chargeDesc_work (s : State) (c : Nat) (idx : Nat) (uj : Nat) : (State.chargeDesc s c idx uj).work = s.work :=
  (State.chargeDesc_moves ..).off .work rfl
@[simp] theorem State.chargeDesc_maps (s : State) (c : Nat) (idx : Nat) (uj : Nat) : (State.chargeDesc s c idx uj).maps = s.maps :=
  (State.chargeDesc_moves ..).off .maps rfl
@[simp] theorem State.chargeDesc_cmb (s : State) (c : Nat) (idx : Nat) (uj : Nat) : (State.chargeDesc s c idx uj).cmb = s.cmb :=
  (State.chargeDesc_moves ..).off .combine rfl
@[simp] theorem State.chargeDesc_lnk (s : State) (c : Nat) (idx : Nat) (uj : Nat) : (State.chargeDesc s c idx uj).lnk = s.lnk :=
  (State.chargeDesc_moves ..).off .links rfl
@[simp] theorem State.chargeDesc_col (s : State) (c : Nat) (idx : Nat) (uj : Nat) : (State.chargeDesc s c idx uj).col = s.col :=
  (State.chargeDesc_moves ..).off .collectives rfl
@[simp] theorem State.chargeDesc_rep (s : State) (c : Nat) (idx : Nat) (uj : Nat) : (State.chargeDesc s c idx uj).rep = s.rep :=
  (State.chargeDesc_moves ..).off .repair rfl
@[simp] theorem State.chargeDesc_test (s : State) (c : Nat) (idx : Nat) (uj : Nat) : (State.chargeDesc s c idx uj).test = s.test :=
  (State.chargeDesc_moves ..).off .test rfl

@[simp] theorem State.charge_pending (s : State) (amount : Nat) : (State.charge s amount).pending = s.pending := (State.charge_moves ..).off .queue rfl
@[simp] theorem State.charge_clk (s : State) (amount : Nat) : (State.charge s amount).clk = s.clk := (State.charge_moves ..).off .clock rfl
@[simp] theorem State.charge_free (s : State) (amount : Nat) : (State.charge s amount).free = s.free := (State.charge_moves ..).off .freeCount rfl
@[simp] theorem State.charge_sent (s : State) (amount : Nat) : (State.charge s amount).sent = s.sent := (State.charge_moves ..).off .sent rfl
@[simp] theorem State.charge_held (s : State) (amount : Nat) : (State.charge s amount).held = s.held := (State.charge_moves ..).off .held rfl
@[simp] theorem State.charge_latchHost (s : State) (amount : Nat) : (State.charge s amount).latchHost = s.latchHost :=
  (State.charge_moves ..).off .hostLatches rfl
@[simp] theorem State.charge_latchMgmt (s : State) (amount : Nat) : (State.charge s amount).latchMgmt = s.latchMgmt :=
  (State.charge_moves ..).off .mgmtLatches rfl
@[simp] theorem State.charge_mem (s : State) (amount : Nat) : (State.charge s amount).mem = s.mem := (State.charge_moves ..).off .memory rfl
@[simp] theorem State.charge_day (s : State) (amount : Nat) : (State.charge s amount).day = s.day := (State.charge_moves ..).off .day rfl
@[simp] theorem State.charge_banks (s : State) (amount : Nat) : (State.charge s amount).banks = s.banks := (State.charge_moves ..).off .banks rfl
@[simp] theorem State.charge_host (s : State) (amount : Nat) : (State.charge s amount).host = s.host := (State.charge_moves ..).off .host rfl
@[simp] theorem State.charge_rings (s : State) (amount : Nat) : (State.charge s amount).rings = s.rings := (State.charge_moves ..).off .rings rfl
@[simp] theorem State.charge_ctxs (s : State) (amount : Nat) : (State.charge s amount).ctxs = s.ctxs := (State.charge_moves ..).off .contexts rfl
@[simp] theorem State.charge_flt (s : State) (amount : Nat) : (State.charge s amount).flt = s.flt := (State.charge_moves ..).off .faults rfl
@[simp] theorem State.charge_boot (s : State) (amount : Nat) : (State.charge s amount).boot = s.boot := (State.charge_moves ..).off .boot rfl
@[simp] theorem State.charge_mgt (s : State) (amount : Nat) : (State.charge s amount).mgt = s.mgt := (State.charge_moves ..).off .mgt rfl
@[simp] theorem State.charge_atp (s : State) (amount : Nat) : (State.charge s amount).atp = s.atp := (State.charge_moves ..).off .atp rfl
@[simp] theorem State.charge_ing (s : State) (amount : Nat) : (State.charge s amount).ing = s.ing := (State.charge_moves ..).off .ingest rfl
@[simp] theorem State.charge_work (s : State) (amount : Nat) : (State.charge s amount).work = s.work := (State.charge_moves ..).off .work rfl
@[simp] theorem State.charge_maps (s : State) (amount : Nat) : (State.charge s amount).maps = s.maps := (State.charge_moves ..).off .maps rfl
@[simp] theorem State.charge_cmb (s : State) (amount : Nat) : (State.charge s amount).cmb = s.cmb := (State.charge_moves ..).off .combine rfl
@[simp] theorem State.charge_lnk (s : State) (amount : Nat) : (State.charge s amount).lnk = s.lnk := (State.charge_moves ..).off .links rfl
@[simp] theorem State.charge_col (s : State) (amount : Nat) : (State.charge s amount).col = s.col := (State.charge_moves ..).off .collectives rfl
@[simp] theorem State.charge_rep (s : State) (amount : Nat) : (State.charge s amount).rep = s.rep := (State.charge_moves ..).off .repair rfl
@[simp] theorem State.charge_test (s : State) (amount : Nat) : (State.charge s amount).test = s.test := (State.charge_moves ..).off .test rfl

@[simp] theorem State.packageFault_pending (s : State) (source : Nat) (code : Nat) (unit : Nat) (detail : Nat) (hostDead : Bool) : (State.packageFault s source code unit detail hostDead).pending = s.pending :=
  (State.packageFault_moves ..).off .queue rfl
@[simp] theorem State.packageFault_clk (s : State) (source : Nat) (code : Nat) (unit : Nat) (detail : Nat) (hostDead : Bool) : (State.packageFault s source code unit detail hostDead).clk = s.clk :=
  (State.packageFault_moves ..).off .clock rfl
@[simp] theorem State.packageFault_latchHost (s : State) (source : Nat) (code : Nat) (unit : Nat) (detail : Nat) (hostDead : Bool) : (State.packageFault s source code unit detail hostDead).latchHost = s.latchHost :=
  (State.packageFault_moves ..).off .hostLatches rfl
@[simp] theorem State.packageFault_latchMgmt (s : State) (source : Nat) (code : Nat) (unit : Nat) (detail : Nat) (hostDead : Bool) : (State.packageFault s source code unit detail hostDead).latchMgmt = s.latchMgmt :=
  (State.packageFault_moves ..).off .mgmtLatches rfl
@[simp] theorem State.packageFault_boot (s : State) (source : Nat) (code : Nat) (unit : Nat) (detail : Nat) (hostDead : Bool) : (State.packageFault s source code unit detail hostDead).boot = s.boot :=
  (State.packageFault_moves ..).off .boot rfl
@[simp] theorem State.packageFault_maps (s : State) (source : Nat) (code : Nat) (unit : Nat) (detail : Nat) (hostDead : Bool) : (State.packageFault s source code unit detail hostDead).maps = s.maps :=
  (State.packageFault_moves ..).off .maps rfl
@[simp] theorem State.packageFault_rep (s : State) (source : Nat) (code : Nat) (unit : Nat) (detail : Nat) (hostDead : Bool) : (State.packageFault s source code unit detail hostDead).rep = s.rep :=
  (State.packageFault_moves ..).off .repair rfl
@[simp] theorem State.packageFault_test (s : State) (source : Nat) (code : Nat) (unit : Nat) (detail : Nat) (hostDead : Bool) : (State.packageFault s source code unit detail hostDead).test = s.test :=
  (State.packageFault_moves ..).off .test rfl

@[simp] theorem State.setLatch_pending (s : State) (who : Reader) (off : Nat) (v : Option Word) : (State.setLatch s who off v).pending = s.pending :=
  (State.setLatch_moves ..).off .queue rfl
@[simp] theorem State.setLatch_clk (s : State) (who : Reader) (off : Nat) (v : Option Word) : (State.setLatch s who off v).clk = s.clk :=
  (State.setLatch_moves ..).off .clock rfl
@[simp] theorem State.setLatch_free (s : State) (who : Reader) (off : Nat) (v : Option Word) : (State.setLatch s who off v).free = s.free :=
  (State.setLatch_moves ..).off .freeCount rfl
@[simp] theorem State.setLatch_sent (s : State) (who : Reader) (off : Nat) (v : Option Word) : (State.setLatch s who off v).sent = s.sent :=
  (State.setLatch_moves ..).off .sent rfl
@[simp] theorem State.setLatch_held (s : State) (who : Reader) (off : Nat) (v : Option Word) : (State.setLatch s who off v).held = s.held :=
  (State.setLatch_moves ..).off .held rfl
@[simp] theorem State.setLatch_regs (s : State) (who : Reader) (off : Nat) (v : Option Word) : (State.setLatch s who off v).regs = s.regs :=
  (State.setLatch_moves ..).off .registers rfl
@[simp] theorem State.setLatch_mem (s : State) (who : Reader) (off : Nat) (v : Option Word) : (State.setLatch s who off v).mem = s.mem :=
  (State.setLatch_moves ..).off .memory rfl
@[simp] theorem State.setLatch_day (s : State) (who : Reader) (off : Nat) (v : Option Word) : (State.setLatch s who off v).day = s.day :=
  (State.setLatch_moves ..).off .day rfl
@[simp] theorem State.setLatch_banks (s : State) (who : Reader) (off : Nat) (v : Option Word) : (State.setLatch s who off v).banks = s.banks :=
  (State.setLatch_moves ..).off .banks rfl
@[simp] theorem State.setLatch_host (s : State) (who : Reader) (off : Nat) (v : Option Word) : (State.setLatch s who off v).host = s.host :=
  (State.setLatch_moves ..).off .host rfl
@[simp] theorem State.setLatch_rings (s : State) (who : Reader) (off : Nat) (v : Option Word) : (State.setLatch s who off v).rings = s.rings :=
  (State.setLatch_moves ..).off .rings rfl
@[simp] theorem State.setLatch_ctxs (s : State) (who : Reader) (off : Nat) (v : Option Word) : (State.setLatch s who off v).ctxs = s.ctxs :=
  (State.setLatch_moves ..).off .contexts rfl
@[simp] theorem State.setLatch_flt (s : State) (who : Reader) (off : Nat) (v : Option Word) : (State.setLatch s who off v).flt = s.flt :=
  (State.setLatch_moves ..).off .faults rfl
@[simp] theorem State.setLatch_boot (s : State) (who : Reader) (off : Nat) (v : Option Word) : (State.setLatch s who off v).boot = s.boot :=
  (State.setLatch_moves ..).off .boot rfl
@[simp] theorem State.setLatch_mgt (s : State) (who : Reader) (off : Nat) (v : Option Word) : (State.setLatch s who off v).mgt = s.mgt :=
  (State.setLatch_moves ..).off .mgt rfl
@[simp] theorem State.setLatch_atp (s : State) (who : Reader) (off : Nat) (v : Option Word) : (State.setLatch s who off v).atp = s.atp :=
  (State.setLatch_moves ..).off .atp rfl
@[simp] theorem State.setLatch_ing (s : State) (who : Reader) (off : Nat) (v : Option Word) : (State.setLatch s who off v).ing = s.ing :=
  (State.setLatch_moves ..).off .ingest rfl
@[simp] theorem State.setLatch_work (s : State) (who : Reader) (off : Nat) (v : Option Word) : (State.setLatch s who off v).work = s.work :=
  (State.setLatch_moves ..).off .work rfl
@[simp] theorem State.setLatch_maps (s : State) (who : Reader) (off : Nat) (v : Option Word) : (State.setLatch s who off v).maps = s.maps :=
  (State.setLatch_moves ..).off .maps rfl
@[simp] theorem State.setLatch_cmb (s : State) (who : Reader) (off : Nat) (v : Option Word) : (State.setLatch s who off v).cmb = s.cmb :=
  (State.setLatch_moves ..).off .combine rfl
@[simp] theorem State.setLatch_lnk (s : State) (who : Reader) (off : Nat) (v : Option Word) : (State.setLatch s who off v).lnk = s.lnk :=
  (State.setLatch_moves ..).off .links rfl
@[simp] theorem State.setLatch_col (s : State) (who : Reader) (off : Nat) (v : Option Word) : (State.setLatch s who off v).col = s.col :=
  (State.setLatch_moves ..).off .collectives rfl
@[simp] theorem State.setLatch_pwr (s : State) (who : Reader) (off : Nat) (v : Option Word) : (State.setLatch s who off v).pwr = s.pwr :=
  (State.setLatch_moves ..).off .power rfl
@[simp] theorem State.setLatch_rep (s : State) (who : Reader) (off : Nat) (v : Option Word) : (State.setLatch s who off v).rep = s.rep :=
  (State.setLatch_moves ..).off .repair rfl
@[simp] theorem State.setLatch_test (s : State) (who : Reader) (off : Nat) (v : Option Word) : (State.setLatch s who off v).test = s.test :=
  (State.setLatch_moves ..).off .test rfl

@[simp] theorem State.validFell_pending (s : State) : (State.validFell s).pending = s.pending := (State.validFell_moves ..).off .queue rfl
@[simp] theorem State.validFell_clk (s : State) : (State.validFell s).clk = s.clk := (State.validFell_moves ..).off .clock rfl
@[simp] theorem State.validFell_free (s : State) : (State.validFell s).free = s.free := (State.validFell_moves ..).off .freeCount rfl
@[simp] theorem State.validFell_latchHost (s : State) : (State.validFell s).latchHost = s.latchHost := (State.validFell_moves ..).off .hostLatches rfl
@[simp] theorem State.validFell_latchMgmt (s : State) : (State.validFell s).latchMgmt = s.latchMgmt := (State.validFell_moves ..).off .mgmtLatches rfl
@[simp] theorem State.validFell_mem (s : State) : (State.validFell s).mem = s.mem := (State.validFell_moves ..).off .memory rfl
@[simp] theorem State.validFell_day (s : State) : (State.validFell s).day = s.day := (State.validFell_moves ..).off .day rfl
@[simp] theorem State.validFell_banks (s : State) : (State.validFell s).banks = s.banks := (State.validFell_moves ..).off .banks rfl
@[simp] theorem State.validFell_rings (s : State) : (State.validFell s).rings = s.rings := (State.validFell_moves ..).off .rings rfl
@[simp] theorem State.validFell_ctxs (s : State) : (State.validFell s).ctxs = s.ctxs := (State.validFell_moves ..).off .contexts rfl
@[simp] theorem State.validFell_flt (s : State) : (State.validFell s).flt = s.flt := (State.validFell_moves ..).off .faults rfl
@[simp] theorem State.validFell_boot (s : State) : (State.validFell s).boot = s.boot := (State.validFell_moves ..).off .boot rfl
@[simp] theorem State.validFell_atp (s : State) : (State.validFell s).atp = s.atp := (State.validFell_moves ..).off .atp rfl
@[simp] theorem State.validFell_ing (s : State) : (State.validFell s).ing = s.ing := (State.validFell_moves ..).off .ingest rfl
@[simp] theorem State.validFell_work (s : State) : (State.validFell s).work = s.work := (State.validFell_moves ..).off .work rfl
@[simp] theorem State.validFell_maps (s : State) : (State.validFell s).maps = s.maps := (State.validFell_moves ..).off .maps rfl
@[simp] theorem State.validFell_cmb (s : State) : (State.validFell s).cmb = s.cmb := (State.validFell_moves ..).off .combine rfl
@[simp] theorem State.validFell_col (s : State) : (State.validFell s).col = s.col := (State.validFell_moves ..).off .collectives rfl
@[simp] theorem State.validFell_pwr (s : State) : (State.validFell s).pwr = s.pwr := (State.validFell_moves ..).off .power rfl
@[simp] theorem State.validFell_rep (s : State) : (State.validFell s).rep = s.rep := (State.validFell_moves ..).off .repair rfl
@[simp] theorem State.validFell_test (s : State) : (State.validFell s).test = s.test := (State.validFell_moves ..).off .test rfl

end Sys2Proof.Machine
end

