-- ==== Sys2Proof/Laws/Registers.lean ====
section
/-! SUPPORT. Laws/Registers.lean: the register store: what a register reads after a write, and which registers a report touches. -/

namespace Sys2Proof.Machine

variable {s : State}

theorem reg_setReg_same (h : Inv s) (off : Nat) (w : Word) : (s.setReg off w).reg off = w := tabGet_tabSet_same regDefault s.regs off w h.regs

theorem reg_setReg_other (s : State) {off x : Nat} (w : Word) (hx : x ≠ off) : (s.setReg off w).reg x = s.reg x :=
  tabGet_tabSet_other regDefault s.regs off x w hx

theorem reg_setFld_other (s : State) {off x : Nat} (lo len v : Nat) (hx : x ≠ off) : (s.setFld off lo len v).reg x = s.reg x :=
  reg_setReg_other s _ hx

theorem reg_bump_other (s : State) {off x : Nat} (w n : Nat) (hx : x ≠ off) : (s.bump off w n).reg x = s.reg x := reg_setReg_other s _ hx

/-- A vector's signal touches its pending bit alone. -/
theorem reg_signalVector (s : State) (v : Nat) {x : Nat} (hx : x ≠ 0xF1000 + 4 * (v / 32)) : (s.signalVector v).reg x = s.reg x := by
  unfold State.signalVector
  split
  · exact reg_setReg_other s _ hx
  · unfold State.toHost; split <;> rfl

theorem reg_writeEvent (s : State) {x : Nat} (hx : x ≠ 0xF1008) : s.writeEvent.reg x = s.reg x := by
  unfold State.writeEvent
  split
  · rfl
  · split
    · rw [reg_signalVector _ _ hx]
      unfold State.toHost; split <;> rfl
    · rfl

theorem reg_writeEvents {x : Nat} (hx : x ≠ 0xF1008) : ∀ (n : Nat) (s : State), (s.writeEvents n).reg x = s.reg x
  | 0, _ => rfl
  | n + 1, s => (reg_writeEvents hx n s.writeEvent).trans (reg_writeEvent s hx)

/-- An event entry touches the pending bit of vector 64 alone. -/
theorem reg_event (s : State) (a b c d : Nat) {x : Nat} (hx : x ≠ 0xF1008) : (s.event a b c d).reg x = s.reg x := by
  unfold State.event
  extract_lets e h0 h1
  split
  · exact reg_writeEvents hx 64 _
  · rfl

theorem reg_alert (s : State) (b : Nat) {x : Nat} (hx : x ≠ 0xC0008) : (s.alert b).reg x = s.reg x := by
  unfold State.alert
  split
  · rfl
  · exact reg_setFld_other s _ _ _ hx

/-- A flag touches its status register, the alert's and the pending bit of vector 64. -/
theorem reg_flag (s : State) (off bit source ctx detail : Nat) {x : Nat} (h1 : x ≠ off) (h2 : x ≠ 0xC0008) (h3 : x ≠ 0xF1008) :
    (s.flag off bit source ctx detail).reg x = s.reg x := by
  unfold State.flag
  split
  · rfl
  · rw [reg_alert _ _ h2, reg_event _ _ _ _ _ h3, reg_setFld_other _ _ _ _ h1]

theorem reg_flagOpen (s : State) (off bit source ctx : Nat) {x : Nat} (h1 : x ≠ off) (h2 : x ≠ 0xC0008) (h3 : x ≠ 0xF1008) :
    (s.flagOpen off bit source ctx).reg x = s.reg x := by
  unfold State.flagOpen
  split
  · rfl
  · exact reg_flag _ _ _ _ _ _ h1 h2 h3

end Sys2Proof.Machine
end

