-- ==== Sys2Proof/Laws/State.lean ====
section
/-! SUPPORT. Laws/State.lean: for each operation that writes one part of the state, that part and what it leaves of every other part, so that no proof unfolds
a record update. -/

namespace Sys2Proof.Machine

@[simp] theorem State.setDay_day (s : State) (d : DayUnit) : (s.setDay d).day = d := rfl
@[simp] theorem State.setCol_col (s : State) (u : ColUnit) : (s.setCol u).col = u := rfl
@[simp] theorem State.setIng_ing (s : State) (u : IngestUnit) : (s.setIng u).ing = u := rfl
@[simp] theorem State.setCmb_cmb (s : State) (u : CombineUnit) : (s.setCmb u).cmb = u := rfl
@[simp] theorem State.setPwr_pwr (s : State) (p : PwrUnit) : (s.setPwr p).pwr = p := rfl
@[simp] theorem State.setRep_rep (s : State) (r : RepairUnit) : (s.setRep r).rep = r := rfl
@[simp] theorem State.setMaps_maps (s : State) (m : UnitMaps) : (s.setMaps m).maps = m := rfl
@[simp] theorem State.setWork_work (s : State) (w : WorkUnit) : (s.setWork w).work = w := rfl
@[simp] theorem State.setLnk_lnk (s : State) (l : LinkUnit) : (s.setLnk l).lnk = l := rfl
@[simp] theorem State.setMgt_mgt (s : State) (m : MgtUnit) : (s.setMgt m).mgt = m := rfl
@[simp] theorem State.send_sent (s : State) (o : Out) : (s.send o).sent = o :: s.sent := rfl
@[simp] theorem State.reachClk_clk (s : State) (t : Nat) : (s.reachClk t).clk = max s.clk t := rfl

@[simp] theorem State.setReg_pending (s : State) (off : Nat) (w : Word) : (State.setReg s off w).pending = s.pending := rfl
@[simp] theorem State.setReg_clk (s : State) (off : Nat) (w : Word) : (State.setReg s off w).clk = s.clk := rfl
@[simp] theorem State.setReg_free (s : State) (off : Nat) (w : Word) : (State.setReg s off w).free = s.free := rfl
@[simp] theorem State.setReg_sent (s : State) (off : Nat) (w : Word) : (State.setReg s off w).sent = s.sent := rfl
@[simp] theorem State.setReg_held (s : State) (off : Nat) (w : Word) : (State.setReg s off w).held = s.held := rfl
@[simp] theorem State.setReg_latchHost (s : State) (off : Nat) (w : Word) : (State.setReg s off w).latchHost = s.latchHost := rfl
@[simp] theorem State.setReg_latchMgmt (s : State) (off : Nat) (w : Word) : (State.setReg s off w).latchMgmt = s.latchMgmt := rfl
@[simp] theorem State.setReg_mem (s : State) (off : Nat) (w : Word) : (State.setReg s off w).mem = s.mem := rfl
@[simp] theorem State.setReg_day (s : State) (off : Nat) (w : Word) : (State.setReg s off w).day = s.day := rfl
@[simp] theorem State.setReg_banks (s : State) (off : Nat) (w : Word) : (State.setReg s off w).banks = s.banks := rfl
@[simp] theorem State.setReg_host (s : State) (off : Nat) (w : Word) : (State.setReg s off w).host = s.host := rfl
@[simp] theorem State.setReg_rings (s : State) (off : Nat) (w : Word) : (State.setReg s off w).rings = s.rings := rfl
@[simp] theorem State.setReg_ctxs (s : State) (off : Nat) (w : Word) : (State.setReg s off w).ctxs = s.ctxs := rfl
@[simp] theorem State.setReg_flt (s : State) (off : Nat) (w : Word) : (State.setReg s off w).flt = s.flt := rfl
@[simp] theorem State.setReg_boot (s : State) (off : Nat) (w : Word) : (State.setReg s off w).boot = s.boot := rfl
@[simp] theorem State.setReg_mgt (s : State) (off : Nat) (w : Word) : (State.setReg s off w).mgt = s.mgt := rfl
@[simp] theorem State.setReg_atp (s : State) (off : Nat) (w : Word) : (State.setReg s off w).atp = s.atp := rfl
@[simp] theorem State.setReg_ing (s : State) (off : Nat) (w : Word) : (State.setReg s off w).ing = s.ing := rfl
@[simp] theorem State.setReg_work (s : State) (off : Nat) (w : Word) : (State.setReg s off w).work = s.work := rfl
@[simp] theorem State.setReg_maps (s : State) (off : Nat) (w : Word) : (State.setReg s off w).maps = s.maps := rfl
@[simp] theorem State.setReg_cmb (s : State) (off : Nat) (w : Word) : (State.setReg s off w).cmb = s.cmb := rfl
@[simp] theorem State.setReg_lnk (s : State) (off : Nat) (w : Word) : (State.setReg s off w).lnk = s.lnk := rfl
@[simp] theorem State.setReg_col (s : State) (off : Nat) (w : Word) : (State.setReg s off w).col = s.col := rfl
@[simp] theorem State.setReg_pwr (s : State) (off : Nat) (w : Word) : (State.setReg s off w).pwr = s.pwr := rfl
@[simp] theorem State.setReg_rep (s : State) (off : Nat) (w : Word) : (State.setReg s off w).rep = s.rep := rfl
@[simp] theorem State.setReg_test (s : State) (off : Nat) (w : Word) : (State.setReg s off w).test = s.test := rfl

@[simp] theorem State.setFld_pending (s : State) (off : Nat) (lo : Nat) (len : Nat) (v : Nat) : (State.setFld s off lo len v).pending = s.pending := rfl
@[simp] theorem State.setFld_clk (s : State) (off : Nat) (lo : Nat) (len : Nat) (v : Nat) : (State.setFld s off lo len v).clk = s.clk := rfl
@[simp] theorem State.setFld_free (s : State) (off : Nat) (lo : Nat) (len : Nat) (v : Nat) : (State.setFld s off lo len v).free = s.free := rfl
@[simp] theorem State.setFld_sent (s : State) (off : Nat) (lo : Nat) (len : Nat) (v : Nat) : (State.setFld s off lo len v).sent = s.sent := rfl
@[simp] theorem State.setFld_held (s : State) (off : Nat) (lo : Nat) (len : Nat) (v : Nat) : (State.setFld s off lo len v).held = s.held := rfl
@[simp] theorem State.setFld_latchHost (s : State) (off : Nat) (lo : Nat) (len : Nat) (v : Nat) : (State.setFld s off lo len v).latchHost = s.latchHost := rfl
@[simp] theorem State.setFld_latchMgmt (s : State) (off : Nat) (lo : Nat) (len : Nat) (v : Nat) : (State.setFld s off lo len v).latchMgmt = s.latchMgmt := rfl
@[simp] theorem State.setFld_mem (s : State) (off : Nat) (lo : Nat) (len : Nat) (v : Nat) : (State.setFld s off lo len v).mem = s.mem := rfl
@[simp] theorem State.setFld_day (s : State) (off : Nat) (lo : Nat) (len : Nat) (v : Nat) : (State.setFld s off lo len v).day = s.day := rfl
@[simp] theorem State.setFld_banks (s : State) (off : Nat) (lo : Nat) (len : Nat) (v : Nat) : (State.setFld s off lo len v).banks = s.banks := rfl
@[simp] theorem State.setFld_host (s : State) (off : Nat) (lo : Nat) (len : Nat) (v : Nat) : (State.setFld s off lo len v).host = s.host := rfl
@[simp] theorem State.setFld_rings (s : State) (off : Nat) (lo : Nat) (len : Nat) (v : Nat) : (State.setFld s off lo len v).rings = s.rings := rfl
@[simp] theorem State.setFld_ctxs (s : State) (off : Nat) (lo : Nat) (len : Nat) (v : Nat) : (State.setFld s off lo len v).ctxs = s.ctxs := rfl
@[simp] theorem State.setFld_flt (s : State) (off : Nat) (lo : Nat) (len : Nat) (v : Nat) : (State.setFld s off lo len v).flt = s.flt := rfl
@[simp] theorem State.setFld_boot (s : State) (off : Nat) (lo : Nat) (len : Nat) (v : Nat) : (State.setFld s off lo len v).boot = s.boot := rfl
@[simp] theorem State.setFld_mgt (s : State) (off : Nat) (lo : Nat) (len : Nat) (v : Nat) : (State.setFld s off lo len v).mgt = s.mgt := rfl
@[simp] theorem State.setFld_atp (s : State) (off : Nat) (lo : Nat) (len : Nat) (v : Nat) : (State.setFld s off lo len v).atp = s.atp := rfl
@[simp] theorem State.setFld_ing (s : State) (off : Nat) (lo : Nat) (len : Nat) (v : Nat) : (State.setFld s off lo len v).ing = s.ing := rfl
@[simp] theorem State.setFld_work (s : State) (off : Nat) (lo : Nat) (len : Nat) (v : Nat) : (State.setFld s off lo len v).work = s.work := rfl
@[simp] theorem State.setFld_maps (s : State) (off : Nat) (lo : Nat) (len : Nat) (v : Nat) : (State.setFld s off lo len v).maps = s.maps := rfl
@[simp] theorem State.setFld_cmb (s : State) (off : Nat) (lo : Nat) (len : Nat) (v : Nat) : (State.setFld s off lo len v).cmb = s.cmb := rfl
@[simp] theorem State.setFld_lnk (s : State) (off : Nat) (lo : Nat) (len : Nat) (v : Nat) : (State.setFld s off lo len v).lnk = s.lnk := rfl
@[simp] theorem State.setFld_col (s : State) (off : Nat) (lo : Nat) (len : Nat) (v : Nat) : (State.setFld s off lo len v).col = s.col := rfl
@[simp] theorem State.setFld_pwr (s : State) (off : Nat) (lo : Nat) (len : Nat) (v : Nat) : (State.setFld s off lo len v).pwr = s.pwr := rfl
@[simp] theorem State.setFld_rep (s : State) (off : Nat) (lo : Nat) (len : Nat) (v : Nat) : (State.setFld s off lo len v).rep = s.rep := rfl
@[simp] theorem State.setFld_test (s : State) (off : Nat) (lo : Nat) (len : Nat) (v : Nat) : (State.setFld s off lo len v).test = s.test := rfl

@[simp] theorem State.bump_pending (s : State) (off : Nat) (w : Nat) (n : Nat) : (State.bump s off w n).pending = s.pending := rfl
@[simp] theorem State.bump_clk (s : State) (off : Nat) (w : Nat) (n : Nat) : (State.bump s off w n).clk = s.clk := rfl
@[simp] theorem State.bump_free (s : State) (off : Nat) (w : Nat) (n : Nat) : (State.bump s off w n).free = s.free := rfl
@[simp] theorem State.bump_sent (s : State) (off : Nat) (w : Nat) (n : Nat) : (State.bump s off w n).sent = s.sent := rfl
@[simp] theorem State.bump_held (s : State) (off : Nat) (w : Nat) (n : Nat) : (State.bump s off w n).held = s.held := rfl
@[simp] theorem State.bump_latchHost (s : State) (off : Nat) (w : Nat) (n : Nat) : (State.bump s off w n).latchHost = s.latchHost := rfl
@[simp] theorem State.bump_latchMgmt (s : State) (off : Nat) (w : Nat) (n : Nat) : (State.bump s off w n).latchMgmt = s.latchMgmt := rfl
@[simp] theorem State.bump_mem (s : State) (off : Nat) (w : Nat) (n : Nat) : (State.bump s off w n).mem = s.mem := rfl
@[simp] theorem State.bump_day (s : State) (off : Nat) (w : Nat) (n : Nat) : (State.bump s off w n).day = s.day := rfl
@[simp] theorem State.bump_banks (s : State) (off : Nat) (w : Nat) (n : Nat) : (State.bump s off w n).banks = s.banks := rfl
@[simp] theorem State.bump_host (s : State) (off : Nat) (w : Nat) (n : Nat) : (State.bump s off w n).host = s.host := rfl
@[simp] theorem State.bump_rings (s : State) (off : Nat) (w : Nat) (n : Nat) : (State.bump s off w n).rings = s.rings := rfl
@[simp] theorem State.bump_ctxs (s : State) (off : Nat) (w : Nat) (n : Nat) : (State.bump s off w n).ctxs = s.ctxs := rfl
@[simp] theorem State.bump_flt (s : State) (off : Nat) (w : Nat) (n : Nat) : (State.bump s off w n).flt = s.flt := rfl
@[simp] theorem State.bump_boot (s : State) (off : Nat) (w : Nat) (n : Nat) : (State.bump s off w n).boot = s.boot := rfl
@[simp] theorem State.bump_mgt (s : State) (off : Nat) (w : Nat) (n : Nat) : (State.bump s off w n).mgt = s.mgt := rfl
@[simp] theorem State.bump_atp (s : State) (off : Nat) (w : Nat) (n : Nat) : (State.bump s off w n).atp = s.atp := rfl
@[simp] theorem State.bump_ing (s : State) (off : Nat) (w : Nat) (n : Nat) : (State.bump s off w n).ing = s.ing := rfl
@[simp] theorem State.bump_work (s : State) (off : Nat) (w : Nat) (n : Nat) : (State.bump s off w n).work = s.work := rfl
@[simp] theorem State.bump_maps (s : State) (off : Nat) (w : Nat) (n : Nat) : (State.bump s off w n).maps = s.maps := rfl
@[simp] theorem State.bump_cmb (s : State) (off : Nat) (w : Nat) (n : Nat) : (State.bump s off w n).cmb = s.cmb := rfl
@[simp] theorem State.bump_lnk (s : State) (off : Nat) (w : Nat) (n : Nat) : (State.bump s off w n).lnk = s.lnk := rfl
@[simp] theorem State.bump_col (s : State) (off : Nat) (w : Nat) (n : Nat) : (State.bump s off w n).col = s.col := rfl
@[simp] theorem State.bump_pwr (s : State) (off : Nat) (w : Nat) (n : Nat) : (State.bump s off w n).pwr = s.pwr := rfl
@[simp] theorem State.bump_rep (s : State) (off : Nat) (w : Nat) (n : Nat) : (State.bump s off w n).rep = s.rep := rfl
@[simp] theorem State.bump_test (s : State) (off : Nat) (w : Nat) (n : Nat) : (State.bump s off w n).test = s.test := rfl

@[simp] theorem State.setReg64_pending (s : State) (off : Nat) (v : Nat) : (State.setReg64 s off v).pending = s.pending := rfl
@[simp] theorem State.setReg64_clk (s : State) (off : Nat) (v : Nat) : (State.setReg64 s off v).clk = s.clk := rfl
@[simp] theorem State.setReg64_free (s : State) (off : Nat) (v : Nat) : (State.setReg64 s off v).free = s.free := rfl
@[simp] theorem State.setReg64_sent (s : State) (off : Nat) (v : Nat) : (State.setReg64 s off v).sent = s.sent := rfl
@[simp] theorem State.setReg64_held (s : State) (off : Nat) (v : Nat) : (State.setReg64 s off v).held = s.held := rfl
@[simp] theorem State.setReg64_latchHost (s : State) (off : Nat) (v : Nat) : (State.setReg64 s off v).latchHost = s.latchHost := rfl
@[simp] theorem State.setReg64_latchMgmt (s : State) (off : Nat) (v : Nat) : (State.setReg64 s off v).latchMgmt = s.latchMgmt := rfl
@[simp] theorem State.setReg64_mem (s : State) (off : Nat) (v : Nat) : (State.setReg64 s off v).mem = s.mem := rfl
@[simp] theorem State.setReg64_day (s : State) (off : Nat) (v : Nat) : (State.setReg64 s off v).day = s.day := rfl
@[simp] theorem State.setReg64_banks (s : State) (off : Nat) (v : Nat) : (State.setReg64 s off v).banks = s.banks := rfl
@[simp] theorem State.setReg64_host (s : State) (off : Nat) (v : Nat) : (State.setReg64 s off v).host = s.host := rfl
@[simp] theorem State.setReg64_rings (s : State) (off : Nat) (v : Nat) : (State.setReg64 s off v).rings = s.rings := rfl
@[simp] theorem State.setReg64_ctxs (s : State) (off : Nat) (v : Nat) : (State.setReg64 s off v).ctxs = s.ctxs := rfl
@[simp] theorem State.setReg64_flt (s : State) (off : Nat) (v : Nat) : (State.setReg64 s off v).flt = s.flt := rfl
@[simp] theorem State.setReg64_boot (s : State) (off : Nat) (v : Nat) : (State.setReg64 s off v).boot = s.boot := rfl
@[simp] theorem State.setReg64_mgt (s : State) (off : Nat) (v : Nat) : (State.setReg64 s off v).mgt = s.mgt := rfl
@[simp] theorem State.setReg64_atp (s : State) (off : Nat) (v : Nat) : (State.setReg64 s off v).atp = s.atp := rfl
@[simp] theorem State.setReg64_ing (s : State) (off : Nat) (v : Nat) : (State.setReg64 s off v).ing = s.ing := rfl
@[simp] theorem State.setReg64_work (s : State) (off : Nat) (v : Nat) : (State.setReg64 s off v).work = s.work := rfl
@[simp] theorem State.setReg64_maps (s : State) (off : Nat) (v : Nat) : (State.setReg64 s off v).maps = s.maps := rfl
@[simp] theorem State.setReg64_cmb (s : State) (off : Nat) (v : Nat) : (State.setReg64 s off v).cmb = s.cmb := rfl
@[simp] theorem State.setReg64_lnk (s : State) (off : Nat) (v : Nat) : (State.setReg64 s off v).lnk = s.lnk := rfl
@[simp] theorem State.setReg64_col (s : State) (off : Nat) (v : Nat) : (State.setReg64 s off v).col = s.col := rfl
@[simp] theorem State.setReg64_pwr (s : State) (off : Nat) (v : Nat) : (State.setReg64 s off v).pwr = s.pwr := rfl
@[simp] theorem State.setReg64_rep (s : State) (off : Nat) (v : Nat) : (State.setReg64 s off v).rep = s.rep := rfl
@[simp] theorem State.setReg64_test (s : State) (off : Nat) (v : Nat) : (State.setReg64 s off v).test = s.test := rfl

@[simp] theorem State.setCtx_pending (s : State) (c : Nat) (x : Ctx) : (State.setCtx s c x).pending = s.pending := rfl
@[simp] theorem State.setCtx_clk (s : State) (c : Nat) (x : Ctx) : (State.setCtx s c x).clk = s.clk := rfl
@[simp] theorem State.setCtx_free (s : State) (c : Nat) (x : Ctx) : (State.setCtx s c x).free = s.free := rfl
@[simp] theorem State.setCtx_sent (s : State) (c : Nat) (x : Ctx) : (State.setCtx s c x).sent = s.sent := rfl
@[simp] theorem State.setCtx_held (s : State) (c : Nat) (x : Ctx) : (State.setCtx s c x).held = s.held := rfl
@[simp] theorem State.setCtx_regs (s : State) (c : Nat) (x : Ctx) : (State.setCtx s c x).regs = s.regs := rfl
@[simp] theorem State.setCtx_latchHost (s : State) (c : Nat) (x : Ctx) : (State.setCtx s c x).latchHost = s.latchHost := rfl
@[simp] theorem State.setCtx_latchMgmt (s : State) (c : Nat) (x : Ctx) : (State.setCtx s c x).latchMgmt = s.latchMgmt := rfl
@[simp] theorem State.setCtx_mem (s : State) (c : Nat) (x : Ctx) : (State.setCtx s c x).mem = s.mem := rfl
@[simp] theorem State.setCtx_day (s : State) (c : Nat) (x : Ctx) : (State.setCtx s c x).day = s.day := rfl
@[simp] theorem State.setCtx_banks (s : State) (c : Nat) (x : Ctx) : (State.setCtx s c x).banks = s.banks := rfl
@[simp] theorem State.setCtx_host (s : State) (c : Nat) (x : Ctx) : (State.setCtx s c x).host = s.host := rfl
@[simp] theorem State.setCtx_rings (s : State) (c : Nat) (x : Ctx) : (State.setCtx s c x).rings = s.rings := rfl
@[simp] theorem State.setCtx_flt (s : State) (c : Nat) (x : Ctx) : (State.setCtx s c x).flt = s.flt := rfl
@[simp] theorem State.setCtx_boot (s : State) (c : Nat) (x : Ctx) : (State.setCtx s c x).boot = s.boot := rfl
@[simp] theorem State.setCtx_mgt (s : State) (c : Nat) (x : Ctx) : (State.setCtx s c x).mgt = s.mgt := rfl
@[simp] theorem State.setCtx_atp (s : State) (c : Nat) (x : Ctx) : (State.setCtx s c x).atp = s.atp := rfl
@[simp] theorem State.setCtx_ing (s : State) (c : Nat) (x : Ctx) : (State.setCtx s c x).ing = s.ing := rfl
@[simp] theorem State.setCtx_work (s : State) (c : Nat) (x : Ctx) : (State.setCtx s c x).work = s.work := rfl
@[simp] theorem State.setCtx_maps (s : State) (c : Nat) (x : Ctx) : (State.setCtx s c x).maps = s.maps := rfl
@[simp] theorem State.setCtx_cmb (s : State) (c : Nat) (x : Ctx) : (State.setCtx s c x).cmb = s.cmb := rfl
@[simp] theorem State.setCtx_lnk (s : State) (c : Nat) (x : Ctx) : (State.setCtx s c x).lnk = s.lnk := rfl
@[simp] theorem State.setCtx_col (s : State) (c : Nat) (x : Ctx) : (State.setCtx s c x).col = s.col := rfl
@[simp] theorem State.setCtx_pwr (s : State) (c : Nat) (x : Ctx) : (State.setCtx s c x).pwr = s.pwr := rfl
@[simp] theorem State.setCtx_rep (s : State) (c : Nat) (x : Ctx) : (State.setCtx s c x).rep = s.rep := rfl
@[simp] theorem State.setCtx_test (s : State) (c : Nat) (x : Ctx) : (State.setCtx s c x).test = s.test := rfl

@[simp] theorem State.setRing_pending (s : State) (c : Nat) (r : Ring) : (State.setRing s c r).pending = s.pending := rfl
@[simp] theorem State.setRing_clk (s : State) (c : Nat) (r : Ring) : (State.setRing s c r).clk = s.clk := rfl
@[simp] theorem State.setRing_free (s : State) (c : Nat) (r : Ring) : (State.setRing s c r).free = s.free := rfl
@[simp] theorem State.setRing_sent (s : State) (c : Nat) (r : Ring) : (State.setRing s c r).sent = s.sent := rfl
@[simp] theorem State.setRing_held (s : State) (c : Nat) (r : Ring) : (State.setRing s c r).held = s.held := rfl
@[simp] theorem State.setRing_regs (s : State) (c : Nat) (r : Ring) : (State.setRing s c r).regs = s.regs := rfl
@[simp] theorem State.setRing_latchHost (s : State) (c : Nat) (r : Ring) : (State.setRing s c r).latchHost = s.latchHost := rfl
@[simp] theorem State.setRing_latchMgmt (s : State) (c : Nat) (r : Ring) : (State.setRing s c r).latchMgmt = s.latchMgmt := rfl
@[simp] theorem State.setRing_mem (s : State) (c : Nat) (r : Ring) : (State.setRing s c r).mem = s.mem := rfl
@[simp] theorem State.setRing_day (s : State) (c : Nat) (r : Ring) : (State.setRing s c r).day = s.day := rfl
@[simp] theorem State.setRing_banks (s : State) (c : Nat) (r : Ring) : (State.setRing s c r).banks = s.banks := rfl
@[simp] theorem State.setRing_host (s : State) (c : Nat) (r : Ring) : (State.setRing s c r).host = s.host := rfl
@[simp] theorem State.setRing_ctxs (s : State) (c : Nat) (r : Ring) : (State.setRing s c r).ctxs = s.ctxs := rfl
@[simp] theorem State.setRing_flt (s : State) (c : Nat) (r : Ring) : (State.setRing s c r).flt = s.flt := rfl
@[simp] theorem State.setRing_boot (s : State) (c : Nat) (r : Ring) : (State.setRing s c r).boot = s.boot := rfl
@[simp] theorem State.setRing_mgt (s : State) (c : Nat) (r : Ring) : (State.setRing s c r).mgt = s.mgt := rfl
@[simp] theorem State.setRing_atp (s : State) (c : Nat) (r : Ring) : (State.setRing s c r).atp = s.atp := rfl
@[simp] theorem State.setRing_ing (s : State) (c : Nat) (r : Ring) : (State.setRing s c r).ing = s.ing := rfl
@[simp] theorem State.setRing_work (s : State) (c : Nat) (r : Ring) : (State.setRing s c r).work = s.work := rfl
@[simp] theorem State.setRing_maps (s : State) (c : Nat) (r : Ring) : (State.setRing s c r).maps = s.maps := rfl
@[simp] theorem State.setRing_cmb (s : State) (c : Nat) (r : Ring) : (State.setRing s c r).cmb = s.cmb := rfl
@[simp] theorem State.setRing_lnk (s : State) (c : Nat) (r : Ring) : (State.setRing s c r).lnk = s.lnk := rfl
@[simp] theorem State.setRing_col (s : State) (c : Nat) (r : Ring) : (State.setRing s c r).col = s.col := rfl
@[simp] theorem State.setRing_pwr (s : State) (c : Nat) (r : Ring) : (State.setRing s c r).pwr = s.pwr := rfl
@[simp] theorem State.setRing_rep (s : State) (c : Nat) (r : Ring) : (State.setRing s c r).rep = s.rep := rfl
@[simp] theorem State.setRing_test (s : State) (c : Nat) (r : Ring) : (State.setRing s c r).test = s.test := rfl

@[simp] theorem State.setBank_pending (s : State) (n : Nat) (b : Bank) : (State.setBank s n b).pending = s.pending := rfl
@[simp] theorem State.setBank_clk (s : State) (n : Nat) (b : Bank) : (State.setBank s n b).clk = s.clk := rfl
@[simp] theorem State.setBank_free (s : State) (n : Nat) (b : Bank) : (State.setBank s n b).free = s.free := rfl
@[simp] theorem State.setBank_sent (s : State) (n : Nat) (b : Bank) : (State.setBank s n b).sent = s.sent := rfl
@[simp] theorem State.setBank_held (s : State) (n : Nat) (b : Bank) : (State.setBank s n b).held = s.held := rfl
@[simp] theorem State.setBank_regs (s : State) (n : Nat) (b : Bank) : (State.setBank s n b).regs = s.regs := rfl
@[simp] theorem State.setBank_latchHost (s : State) (n : Nat) (b : Bank) : (State.setBank s n b).latchHost = s.latchHost := rfl
@[simp] theorem State.setBank_latchMgmt (s : State) (n : Nat) (b : Bank) : (State.setBank s n b).latchMgmt = s.latchMgmt := rfl
@[simp] theorem State.setBank_mem (s : State) (n : Nat) (b : Bank) : (State.setBank s n b).mem = s.mem := rfl
@[simp] theorem State.setBank_day (s : State) (n : Nat) (b : Bank) : (State.setBank s n b).day = s.day := rfl
@[simp] theorem State.setBank_host (s : State) (n : Nat) (b : Bank) : (State.setBank s n b).host = s.host := rfl
@[simp] theorem State.setBank_rings (s : State) (n : Nat) (b : Bank) : (State.setBank s n b).rings = s.rings := rfl
@[simp] theorem State.setBank_ctxs (s : State) (n : Nat) (b : Bank) : (State.setBank s n b).ctxs = s.ctxs := rfl
@[simp] theorem State.setBank_flt (s : State) (n : Nat) (b : Bank) : (State.setBank s n b).flt = s.flt := rfl
@[simp] theorem State.setBank_boot (s : State) (n : Nat) (b : Bank) : (State.setBank s n b).boot = s.boot := rfl
@[simp] theorem State.setBank_mgt (s : State) (n : Nat) (b : Bank) : (State.setBank s n b).mgt = s.mgt := rfl
@[simp] theorem State.setBank_atp (s : State) (n : Nat) (b : Bank) : (State.setBank s n b).atp = s.atp := rfl
@[simp] theorem State.setBank_ing (s : State) (n : Nat) (b : Bank) : (State.setBank s n b).ing = s.ing := rfl
@[simp] theorem State.setBank_work (s : State) (n : Nat) (b : Bank) : (State.setBank s n b).work = s.work := rfl
@[simp] theorem State.setBank_maps (s : State) (n : Nat) (b : Bank) : (State.setBank s n b).maps = s.maps := rfl
@[simp] theorem State.setBank_cmb (s : State) (n : Nat) (b : Bank) : (State.setBank s n b).cmb = s.cmb := rfl
@[simp] theorem State.setBank_lnk (s : State) (n : Nat) (b : Bank) : (State.setBank s n b).lnk = s.lnk := rfl
@[simp] theorem State.setBank_col (s : State) (n : Nat) (b : Bank) : (State.setBank s n b).col = s.col := rfl
@[simp] theorem State.setBank_pwr (s : State) (n : Nat) (b : Bank) : (State.setBank s n b).pwr = s.pwr := rfl
@[simp] theorem State.setBank_rep (s : State) (n : Nat) (b : Bank) : (State.setBank s n b).rep = s.rep := rfl
@[simp] theorem State.setBank_test (s : State) (n : Nat) (b : Bank) : (State.setBank s n b).test = s.test := rfl

@[simp] theorem State.setLease_pending (s : State) (res : Nat) (l : Lease) : (State.setLease s res l).pending = s.pending := rfl
@[simp] theorem State.setLease_clk (s : State) (res : Nat) (l : Lease) : (State.setLease s res l).clk = s.clk := rfl
@[simp] theorem State.setLease_free (s : State) (res : Nat) (l : Lease) : (State.setLease s res l).free = s.free := rfl
@[simp] theorem State.setLease_sent (s : State) (res : Nat) (l : Lease) : (State.setLease s res l).sent = s.sent := rfl
@[simp] theorem State.setLease_held (s : State) (res : Nat) (l : Lease) : (State.setLease s res l).held = s.held := rfl
@[simp] theorem State.setLease_regs (s : State) (res : Nat) (l : Lease) : (State.setLease s res l).regs = s.regs := rfl
@[simp] theorem State.setLease_latchHost (s : State) (res : Nat) (l : Lease) : (State.setLease s res l).latchHost = s.latchHost := rfl
@[simp] theorem State.setLease_latchMgmt (s : State) (res : Nat) (l : Lease) : (State.setLease s res l).latchMgmt = s.latchMgmt := rfl
@[simp] theorem State.setLease_mem (s : State) (res : Nat) (l : Lease) : (State.setLease s res l).mem = s.mem := rfl
@[simp] theorem State.setLease_day (s : State) (res : Nat) (l : Lease) : (State.setLease s res l).day = s.day := rfl
@[simp] theorem State.setLease_banks (s : State) (res : Nat) (l : Lease) : (State.setLease s res l).banks = s.banks := rfl
@[simp] theorem State.setLease_host (s : State) (res : Nat) (l : Lease) : (State.setLease s res l).host = s.host := rfl
@[simp] theorem State.setLease_rings (s : State) (res : Nat) (l : Lease) : (State.setLease s res l).rings = s.rings := rfl
@[simp] theorem State.setLease_ctxs (s : State) (res : Nat) (l : Lease) : (State.setLease s res l).ctxs = s.ctxs := rfl
@[simp] theorem State.setLease_boot (s : State) (res : Nat) (l : Lease) : (State.setLease s res l).boot = s.boot := rfl
@[simp] theorem State.setLease_mgt (s : State) (res : Nat) (l : Lease) : (State.setLease s res l).mgt = s.mgt := rfl
@[simp] theorem State.setLease_atp (s : State) (res : Nat) (l : Lease) : (State.setLease s res l).atp = s.atp := rfl
@[simp] theorem State.setLease_ing (s : State) (res : Nat) (l : Lease) : (State.setLease s res l).ing = s.ing := rfl
@[simp] theorem State.setLease_work (s : State) (res : Nat) (l : Lease) : (State.setLease s res l).work = s.work := rfl
@[simp] theorem State.setLease_maps (s : State) (res : Nat) (l : Lease) : (State.setLease s res l).maps = s.maps := rfl
@[simp] theorem State.setLease_cmb (s : State) (res : Nat) (l : Lease) : (State.setLease s res l).cmb = s.cmb := rfl
@[simp] theorem State.setLease_lnk (s : State) (res : Nat) (l : Lease) : (State.setLease s res l).lnk = s.lnk := rfl
@[simp] theorem State.setLease_col (s : State) (res : Nat) (l : Lease) : (State.setLease s res l).col = s.col := rfl
@[simp] theorem State.setLease_pwr (s : State) (res : Nat) (l : Lease) : (State.setLease s res l).pwr = s.pwr := rfl
@[simp] theorem State.setLease_rep (s : State) (res : Nat) (l : Lease) : (State.setLease s res l).rep = s.rep := rfl
@[simp] theorem State.setLease_test (s : State) (res : Nat) (l : Lease) : (State.setLease s res l).test = s.test := rfl

@[simp] theorem State.setEpoch_pending (s : State) (res : Nat) (e : Nat) : (State.setEpoch s res e).pending = s.pending := rfl
@[simp] theorem State.setEpoch_clk (s : State) (res : Nat) (e : Nat) : (State.setEpoch s res e).clk = s.clk := rfl
@[simp] theorem State.setEpoch_free (s : State) (res : Nat) (e : Nat) : (State.setEpoch s res e).free = s.free := rfl
@[simp] theorem State.setEpoch_sent (s : State) (res : Nat) (e : Nat) : (State.setEpoch s res e).sent = s.sent := rfl
@[simp] theorem State.setEpoch_held (s : State) (res : Nat) (e : Nat) : (State.setEpoch s res e).held = s.held := rfl
@[simp] theorem State.setEpoch_regs (s : State) (res : Nat) (e : Nat) : (State.setEpoch s res e).regs = s.regs := rfl
@[simp] theorem State.setEpoch_latchHost (s : State) (res : Nat) (e : Nat) : (State.setEpoch s res e).latchHost = s.latchHost := rfl
@[simp] theorem State.setEpoch_latchMgmt (s : State) (res : Nat) (e : Nat) : (State.setEpoch s res e).latchMgmt = s.latchMgmt := rfl
@[simp] theorem State.setEpoch_mem (s : State) (res : Nat) (e : Nat) : (State.setEpoch s res e).mem = s.mem := rfl
@[simp] theorem State.setEpoch_day (s : State) (res : Nat) (e : Nat) : (State.setEpoch s res e).day = s.day := rfl
@[simp] theorem State.setEpoch_banks (s : State) (res : Nat) (e : Nat) : (State.setEpoch s res e).banks = s.banks := rfl
@[simp] theorem State.setEpoch_host (s : State) (res : Nat) (e : Nat) : (State.setEpoch s res e).host = s.host := rfl
@[simp] theorem State.setEpoch_rings (s : State) (res : Nat) (e : Nat) : (State.setEpoch s res e).rings = s.rings := rfl
@[simp] theorem State.setEpoch_ctxs (s : State) (res : Nat) (e : Nat) : (State.setEpoch s res e).ctxs = s.ctxs := rfl
@[simp] theorem State.setEpoch_boot (s : State) (res : Nat) (e : Nat) : (State.setEpoch s res e).boot = s.boot := rfl
@[simp] theorem State.setEpoch_mgt (s : State) (res : Nat) (e : Nat) : (State.setEpoch s res e).mgt = s.mgt := rfl
@[simp] theorem State.setEpoch_atp (s : State) (res : Nat) (e : Nat) : (State.setEpoch s res e).atp = s.atp := rfl
@[simp] theorem State.setEpoch_ing (s : State) (res : Nat) (e : Nat) : (State.setEpoch s res e).ing = s.ing := rfl
@[simp] theorem State.setEpoch_work (s : State) (res : Nat) (e : Nat) : (State.setEpoch s res e).work = s.work := rfl
@[simp] theorem State.setEpoch_maps (s : State) (res : Nat) (e : Nat) : (State.setEpoch s res e).maps = s.maps := rfl
@[simp] theorem State.setEpoch_cmb (s : State) (res : Nat) (e : Nat) : (State.setEpoch s res e).cmb = s.cmb := rfl
@[simp] theorem State.setEpoch_lnk (s : State) (res : Nat) (e : Nat) : (State.setEpoch s res e).lnk = s.lnk := rfl
@[simp] theorem State.setEpoch_col (s : State) (res : Nat) (e : Nat) : (State.setEpoch s res e).col = s.col := rfl
@[simp] theorem State.setEpoch_pwr (s : State) (res : Nat) (e : Nat) : (State.setEpoch s res e).pwr = s.pwr := rfl
@[simp] theorem State.setEpoch_rep (s : State) (res : Nat) (e : Nat) : (State.setEpoch s res e).rep = s.rep := rfl
@[simp] theorem State.setEpoch_test (s : State) (res : Nat) (e : Nat) : (State.setEpoch s res e).test = s.test := rfl

@[simp] theorem State.setDay_pending (s : State) (d : DayUnit) : (State.setDay s d).pending = s.pending := rfl
@[simp] theorem State.setDay_clk (s : State) (d : DayUnit) : (State.setDay s d).clk = s.clk := rfl
@[simp] theorem State.setDay_free (s : State) (d : DayUnit) : (State.setDay s d).free = s.free := rfl
@[simp] theorem State.setDay_sent (s : State) (d : DayUnit) : (State.setDay s d).sent = s.sent := rfl
@[simp] theorem State.setDay_held (s : State) (d : DayUnit) : (State.setDay s d).held = s.held := rfl
@[simp] theorem State.setDay_regs (s : State) (d : DayUnit) : (State.setDay s d).regs = s.regs := rfl
@[simp] theorem State.setDay_latchHost (s : State) (d : DayUnit) : (State.setDay s d).latchHost = s.latchHost := rfl
@[simp] theorem State.setDay_latchMgmt (s : State) (d : DayUnit) : (State.setDay s d).latchMgmt = s.latchMgmt := rfl
@[simp] theorem State.setDay_mem (s : State) (d : DayUnit) : (State.setDay s d).mem = s.mem := rfl
@[simp] theorem State.setDay_banks (s : State) (d : DayUnit) : (State.setDay s d).banks = s.banks := rfl
@[simp] theorem State.setDay_host (s : State) (d : DayUnit) : (State.setDay s d).host = s.host := rfl
@[simp] theorem State.setDay_rings (s : State) (d : DayUnit) : (State.setDay s d).rings = s.rings := rfl
@[simp] theorem State.setDay_ctxs (s : State) (d : DayUnit) : (State.setDay s d).ctxs = s.ctxs := rfl
@[simp] theorem State.setDay_flt (s : State) (d : DayUnit) : (State.setDay s d).flt = s.flt := rfl
@[simp] theorem State.setDay_boot (s : State) (d : DayUnit) : (State.setDay s d).boot = s.boot := rfl
@[simp] theorem State.setDay_mgt (s : State) (d : DayUnit) : (State.setDay s d).mgt = s.mgt := rfl
@[simp] theorem State.setDay_atp (s : State) (d : DayUnit) : (State.setDay s d).atp = s.atp := rfl
@[simp] theorem State.setDay_ing (s : State) (d : DayUnit) : (State.setDay s d).ing = s.ing := rfl
@[simp] theorem State.setDay_work (s : State) (d : DayUnit) : (State.setDay s d).work = s.work := rfl
@[simp] theorem State.setDay_maps (s : State) (d : DayUnit) : (State.setDay s d).maps = s.maps := rfl
@[simp] theorem State.setDay_cmb (s : State) (d : DayUnit) : (State.setDay s d).cmb = s.cmb := rfl
@[simp] theorem State.setDay_lnk (s : State) (d : DayUnit) : (State.setDay s d).lnk = s.lnk := rfl
@[simp] theorem State.setDay_col (s : State) (d : DayUnit) : (State.setDay s d).col = s.col := rfl
@[simp] theorem State.setDay_pwr (s : State) (d : DayUnit) : (State.setDay s d).pwr = s.pwr := rfl
@[simp] theorem State.setDay_rep (s : State) (d : DayUnit) : (State.setDay s d).rep = s.rep := rfl
@[simp] theorem State.setDay_test (s : State) (d : DayUnit) : (State.setDay s d).test = s.test := rfl

@[simp] theorem State.setByte_pending (s : State) (a : Nat) (b : Byte) : (State.setByte s a b).pending = s.pending := rfl
@[simp] theorem State.setByte_clk (s : State) (a : Nat) (b : Byte) : (State.setByte s a b).clk = s.clk := rfl
@[simp] theorem State.setByte_free (s : State) (a : Nat) (b : Byte) : (State.setByte s a b).free = s.free := rfl
@[simp] theorem State.setByte_sent (s : State) (a : Nat) (b : Byte) : (State.setByte s a b).sent = s.sent := rfl
@[simp] theorem State.setByte_held (s : State) (a : Nat) (b : Byte) : (State.setByte s a b).held = s.held := rfl
@[simp] theorem State.setByte_regs (s : State) (a : Nat) (b : Byte) : (State.setByte s a b).regs = s.regs := rfl
@[simp] theorem State.setByte_latchHost (s : State) (a : Nat) (b : Byte) : (State.setByte s a b).latchHost = s.latchHost := rfl
@[simp] theorem State.setByte_latchMgmt (s : State) (a : Nat) (b : Byte) : (State.setByte s a b).latchMgmt = s.latchMgmt := rfl
@[simp] theorem State.setByte_day (s : State) (a : Nat) (b : Byte) : (State.setByte s a b).day = s.day := rfl
@[simp] theorem State.setByte_banks (s : State) (a : Nat) (b : Byte) : (State.setByte s a b).banks = s.banks := rfl
@[simp] theorem State.setByte_host (s : State) (a : Nat) (b : Byte) : (State.setByte s a b).host = s.host := rfl
@[simp] theorem State.setByte_rings (s : State) (a : Nat) (b : Byte) : (State.setByte s a b).rings = s.rings := rfl
@[simp] theorem State.setByte_ctxs (s : State) (a : Nat) (b : Byte) : (State.setByte s a b).ctxs = s.ctxs := rfl
@[simp] theorem State.setByte_flt (s : State) (a : Nat) (b : Byte) : (State.setByte s a b).flt = s.flt := rfl
@[simp] theorem State.setByte_boot (s : State) (a : Nat) (b : Byte) : (State.setByte s a b).boot = s.boot := rfl
@[simp] theorem State.setByte_mgt (s : State) (a : Nat) (b : Byte) : (State.setByte s a b).mgt = s.mgt := rfl
@[simp] theorem State.setByte_atp (s : State) (a : Nat) (b : Byte) : (State.setByte s a b).atp = s.atp := rfl
@[simp] theorem State.setByte_ing (s : State) (a : Nat) (b : Byte) : (State.setByte s a b).ing = s.ing := rfl
@[simp] theorem State.setByte_work (s : State) (a : Nat) (b : Byte) : (State.setByte s a b).work = s.work := rfl
@[simp] theorem State.setByte_maps (s : State) (a : Nat) (b : Byte) : (State.setByte s a b).maps = s.maps := rfl
@[simp] theorem State.setByte_cmb (s : State) (a : Nat) (b : Byte) : (State.setByte s a b).cmb = s.cmb := rfl
@[simp] theorem State.setByte_lnk (s : State) (a : Nat) (b : Byte) : (State.setByte s a b).lnk = s.lnk := rfl
@[simp] theorem State.setByte_col (s : State) (a : Nat) (b : Byte) : (State.setByte s a b).col = s.col := rfl
@[simp] theorem State.setByte_pwr (s : State) (a : Nat) (b : Byte) : (State.setByte s a b).pwr = s.pwr := rfl
@[simp] theorem State.setByte_rep (s : State) (a : Nat) (b : Byte) : (State.setByte s a b).rep = s.rep := rfl
@[simp] theorem State.setByte_test (s : State) (a : Nat) (b : Byte) : (State.setByte s a b).test = s.test := rfl

@[simp] theorem State.setDesc_pending (s : State) (c : Nat) (d : Desc) : (State.setDesc s c d).pending = s.pending := rfl
@[simp] theorem State.setDesc_clk (s : State) (c : Nat) (d : Desc) : (State.setDesc s c d).clk = s.clk := rfl
@[simp] theorem State.setDesc_free (s : State) (c : Nat) (d : Desc) : (State.setDesc s c d).free = s.free := rfl
@[simp] theorem State.setDesc_sent (s : State) (c : Nat) (d : Desc) : (State.setDesc s c d).sent = s.sent := rfl
@[simp] theorem State.setDesc_held (s : State) (c : Nat) (d : Desc) : (State.setDesc s c d).held = s.held := rfl
@[simp] theorem State.setDesc_regs (s : State) (c : Nat) (d : Desc) : (State.setDesc s c d).regs = s.regs := rfl
@[simp] theorem State.setDesc_latchHost (s : State) (c : Nat) (d : Desc) : (State.setDesc s c d).latchHost = s.latchHost := rfl
@[simp] theorem State.setDesc_latchMgmt (s : State) (c : Nat) (d : Desc) : (State.setDesc s c d).latchMgmt = s.latchMgmt := rfl
@[simp] theorem State.setDesc_mem (s : State) (c : Nat) (d : Desc) : (State.setDesc s c d).mem = s.mem := rfl
@[simp] theorem State.setDesc_day (s : State) (c : Nat) (d : Desc) : (State.setDesc s c d).day = s.day := rfl
@[simp] theorem State.setDesc_banks (s : State) (c : Nat) (d : Desc) : (State.setDesc s c d).banks = s.banks := rfl
@[simp] theorem State.setDesc_host (s : State) (c : Nat) (d : Desc) : (State.setDesc s c d).host = s.host := rfl
@[simp] theorem State.setDesc_ctxs (s : State) (c : Nat) (d : Desc) : (State.setDesc s c d).ctxs = s.ctxs := rfl
@[simp] theorem State.setDesc_flt (s : State) (c : Nat) (d : Desc) : (State.setDesc s c d).flt = s.flt := rfl
@[simp] theorem State.setDesc_boot (s : State) (c : Nat) (d : Desc) : (State.setDesc s c d).boot = s.boot := rfl
@[simp] theorem State.setDesc_mgt (s : State) (c : Nat) (d : Desc) : (State.setDesc s c d).mgt = s.mgt := rfl
@[simp] theorem State.setDesc_atp (s : State) (c : Nat) (d : Desc) : (State.setDesc s c d).atp = s.atp := rfl
@[simp] theorem State.setDesc_ing (s : State) (c : Nat) (d : Desc) : (State.setDesc s c d).ing = s.ing := rfl
@[simp] theorem State.setDesc_work (s : State) (c : Nat) (d : Desc) : (State.setDesc s c d).work = s.work := rfl
@[simp] theorem State.setDesc_maps (s : State) (c : Nat) (d : Desc) : (State.setDesc s c d).maps = s.maps := rfl
@[simp] theorem State.setDesc_cmb (s : State) (c : Nat) (d : Desc) : (State.setDesc s c d).cmb = s.cmb := rfl
@[simp] theorem State.setDesc_lnk (s : State) (c : Nat) (d : Desc) : (State.setDesc s c d).lnk = s.lnk := rfl
@[simp] theorem State.setDesc_col (s : State) (c : Nat) (d : Desc) : (State.setDesc s c d).col = s.col := rfl
@[simp] theorem State.setDesc_pwr (s : State) (c : Nat) (d : Desc) : (State.setDesc s c d).pwr = s.pwr := rfl
@[simp] theorem State.setDesc_rep (s : State) (c : Nat) (d : Desc) : (State.setDesc s c d).rep = s.rep := rfl
@[simp] theorem State.setDesc_test (s : State) (c : Nat) (d : Desc) : (State.setDesc s c d).test = s.test := rfl

@[simp] theorem State.send_pending (s : State) (o : Out) : (State.send s o).pending = s.pending := rfl
@[simp] theorem State.send_clk (s : State) (o : Out) : (State.send s o).clk = s.clk := rfl
@[simp] theorem State.send_free (s : State) (o : Out) : (State.send s o).free = s.free := rfl
@[simp] theorem State.send_held (s : State) (o : Out) : (State.send s o).held = s.held := rfl
@[simp] theorem State.send_regs (s : State) (o : Out) : (State.send s o).regs = s.regs := rfl
@[simp] theorem State.send_latchHost (s : State) (o : Out) : (State.send s o).latchHost = s.latchHost := rfl
@[simp] theorem State.send_latchMgmt (s : State) (o : Out) : (State.send s o).latchMgmt = s.latchMgmt := rfl
@[simp] theorem State.send_mem (s : State) (o : Out) : (State.send s o).mem = s.mem := rfl
@[simp] theorem State.send_day (s : State) (o : Out) : (State.send s o).day = s.day := rfl
@[simp] theorem State.send_banks (s : State) (o : Out) : (State.send s o).banks = s.banks := rfl
@[simp] theorem State.send_host (s : State) (o : Out) : (State.send s o).host = s.host := rfl
@[simp] theorem State.send_rings (s : State) (o : Out) : (State.send s o).rings = s.rings := rfl
@[simp] theorem State.send_ctxs (s : State) (o : Out) : (State.send s o).ctxs = s.ctxs := rfl
@[simp] theorem State.send_flt (s : State) (o : Out) : (State.send s o).flt = s.flt := rfl
@[simp] theorem State.send_boot (s : State) (o : Out) : (State.send s o).boot = s.boot := rfl
@[simp] theorem State.send_mgt (s : State) (o : Out) : (State.send s o).mgt = s.mgt := rfl
@[simp] theorem State.send_atp (s : State) (o : Out) : (State.send s o).atp = s.atp := rfl
@[simp] theorem State.send_ing (s : State) (o : Out) : (State.send s o).ing = s.ing := rfl
@[simp] theorem State.send_work (s : State) (o : Out) : (State.send s o).work = s.work := rfl
@[simp] theorem State.send_maps (s : State) (o : Out) : (State.send s o).maps = s.maps := rfl
@[simp] theorem State.send_cmb (s : State) (o : Out) : (State.send s o).cmb = s.cmb := rfl
@[simp] theorem State.send_lnk (s : State) (o : Out) : (State.send s o).lnk = s.lnk := rfl
@[simp] theorem State.send_col (s : State) (o : Out) : (State.send s o).col = s.col := rfl
@[simp] theorem State.send_pwr (s : State) (o : Out) : (State.send s o).pwr = s.pwr := rfl
@[simp] theorem State.send_rep (s : State) (o : Out) : (State.send s o).rep = s.rep := rfl
@[simp] theorem State.send_test (s : State) (o : Out) : (State.send s o).test = s.test := rfl

@[simp] theorem State.reachClk_pending (s : State) (t : Nat) : (State.reachClk s t).pending = s.pending := rfl
@[simp] theorem State.reachClk_free (s : State) (t : Nat) : (State.reachClk s t).free = s.free := rfl
@[simp] theorem State.reachClk_sent (s : State) (t : Nat) : (State.reachClk s t).sent = s.sent := rfl
@[simp] theorem State.reachClk_held (s : State) (t : Nat) : (State.reachClk s t).held = s.held := rfl
@[simp] theorem State.reachClk_regs (s : State) (t : Nat) : (State.reachClk s t).regs = s.regs := rfl
@[simp] theorem State.reachClk_latchHost (s : State) (t : Nat) : (State.reachClk s t).latchHost = s.latchHost := rfl
@[simp] theorem State.reachClk_latchMgmt (s : State) (t : Nat) : (State.reachClk s t).latchMgmt = s.latchMgmt := rfl
@[simp] theorem State.reachClk_mem (s : State) (t : Nat) : (State.reachClk s t).mem = s.mem := rfl
@[simp] theorem State.reachClk_day (s : State) (t : Nat) : (State.reachClk s t).day = s.day := rfl
@[simp] theorem State.reachClk_banks (s : State) (t : Nat) : (State.reachClk s t).banks = s.banks := rfl
@[simp] theorem State.reachClk_host (s : State) (t : Nat) : (State.reachClk s t).host = s.host := rfl
@[simp] theorem State.reachClk_rings (s : State) (t : Nat) : (State.reachClk s t).rings = s.rings := rfl
@[simp] theorem State.reachClk_ctxs (s : State) (t : Nat) : (State.reachClk s t).ctxs = s.ctxs := rfl
@[simp] theorem State.reachClk_flt (s : State) (t : Nat) : (State.reachClk s t).flt = s.flt := rfl
@[simp] theorem State.reachClk_boot (s : State) (t : Nat) : (State.reachClk s t).boot = s.boot := rfl
@[simp] theorem State.reachClk_mgt (s : State) (t : Nat) : (State.reachClk s t).mgt = s.mgt := rfl
@[simp] theorem State.reachClk_atp (s : State) (t : Nat) : (State.reachClk s t).atp = s.atp := rfl
@[simp] theorem State.reachClk_ing (s : State) (t : Nat) : (State.reachClk s t).ing = s.ing := rfl
@[simp] theorem State.reachClk_work (s : State) (t : Nat) : (State.reachClk s t).work = s.work := rfl
@[simp] theorem State.reachClk_maps (s : State) (t : Nat) : (State.reachClk s t).maps = s.maps := rfl
@[simp] theorem State.reachClk_cmb (s : State) (t : Nat) : (State.reachClk s t).cmb = s.cmb := rfl
@[simp] theorem State.reachClk_lnk (s : State) (t : Nat) : (State.reachClk s t).lnk = s.lnk := rfl
@[simp] theorem State.reachClk_col (s : State) (t : Nat) : (State.reachClk s t).col = s.col := rfl
@[simp] theorem State.reachClk_pwr (s : State) (t : Nat) : (State.reachClk s t).pwr = s.pwr := rfl
@[simp] theorem State.reachClk_rep (s : State) (t : Nat) : (State.reachClk s t).rep = s.rep := rfl
@[simp] theorem State.reachClk_test (s : State) (t : Nat) : (State.reachClk s t).test = s.test := rfl

@[simp] theorem State.setCol_pending (s : State) (u : ColUnit) : (State.setCol s u).pending = s.pending := rfl
@[simp] theorem State.setCol_clk (s : State) (u : ColUnit) : (State.setCol s u).clk = s.clk := rfl
@[simp] theorem State.setCol_free (s : State) (u : ColUnit) : (State.setCol s u).free = s.free := rfl
@[simp] theorem State.setCol_sent (s : State) (u : ColUnit) : (State.setCol s u).sent = s.sent := rfl
@[simp] theorem State.setCol_held (s : State) (u : ColUnit) : (State.setCol s u).held = s.held := rfl
@[simp] theorem State.setCol_regs (s : State) (u : ColUnit) : (State.setCol s u).regs = s.regs := rfl
@[simp] theorem State.setCol_latchHost (s : State) (u : ColUnit) : (State.setCol s u).latchHost = s.latchHost := rfl
@[simp] theorem State.setCol_latchMgmt (s : State) (u : ColUnit) : (State.setCol s u).latchMgmt = s.latchMgmt := rfl
@[simp] theorem State.setCol_mem (s : State) (u : ColUnit) : (State.setCol s u).mem = s.mem := rfl
@[simp] theorem State.setCol_day (s : State) (u : ColUnit) : (State.setCol s u).day = s.day := rfl
@[simp] theorem State.setCol_banks (s : State) (u : ColUnit) : (State.setCol s u).banks = s.banks := rfl
@[simp] theorem State.setCol_host (s : State) (u : ColUnit) : (State.setCol s u).host = s.host := rfl
@[simp] theorem State.setCol_rings (s : State) (u : ColUnit) : (State.setCol s u).rings = s.rings := rfl
@[simp] theorem State.setCol_ctxs (s : State) (u : ColUnit) : (State.setCol s u).ctxs = s.ctxs := rfl
@[simp] theorem State.setCol_flt (s : State) (u : ColUnit) : (State.setCol s u).flt = s.flt := rfl
@[simp] theorem State.setCol_boot (s : State) (u : ColUnit) : (State.setCol s u).boot = s.boot := rfl
@[simp] theorem State.setCol_mgt (s : State) (u : ColUnit) : (State.setCol s u).mgt = s.mgt := rfl
@[simp] theorem State.setCol_atp (s : State) (u : ColUnit) : (State.setCol s u).atp = s.atp := rfl
@[simp] theorem State.setCol_ing (s : State) (u : ColUnit) : (State.setCol s u).ing = s.ing := rfl
@[simp] theorem State.setCol_work (s : State) (u : ColUnit) : (State.setCol s u).work = s.work := rfl
@[simp] theorem State.setCol_maps (s : State) (u : ColUnit) : (State.setCol s u).maps = s.maps := rfl
@[simp] theorem State.setCol_cmb (s : State) (u : ColUnit) : (State.setCol s u).cmb = s.cmb := rfl
@[simp] theorem State.setCol_lnk (s : State) (u : ColUnit) : (State.setCol s u).lnk = s.lnk := rfl
@[simp] theorem State.setCol_pwr (s : State) (u : ColUnit) : (State.setCol s u).pwr = s.pwr := rfl
@[simp] theorem State.setCol_rep (s : State) (u : ColUnit) : (State.setCol s u).rep = s.rep := rfl
@[simp] theorem State.setCol_test (s : State) (u : ColUnit) : (State.setCol s u).test = s.test := rfl

@[simp] theorem State.setGroup_pending (s : State) (g : Nat) (x : GroupSlot) : (State.setGroup s g x).pending = s.pending := rfl
@[simp] theorem State.setGroup_clk (s : State) (g : Nat) (x : GroupSlot) : (State.setGroup s g x).clk = s.clk := rfl
@[simp] theorem State.setGroup_free (s : State) (g : Nat) (x : GroupSlot) : (State.setGroup s g x).free = s.free := rfl
@[simp] theorem State.setGroup_sent (s : State) (g : Nat) (x : GroupSlot) : (State.setGroup s g x).sent = s.sent := rfl
@[simp] theorem State.setGroup_held (s : State) (g : Nat) (x : GroupSlot) : (State.setGroup s g x).held = s.held := rfl
@[simp] theorem State.setGroup_regs (s : State) (g : Nat) (x : GroupSlot) : (State.setGroup s g x).regs = s.regs := rfl
@[simp] theorem State.setGroup_latchHost (s : State) (g : Nat) (x : GroupSlot) : (State.setGroup s g x).latchHost = s.latchHost := rfl
@[simp] theorem State.setGroup_latchMgmt (s : State) (g : Nat) (x : GroupSlot) : (State.setGroup s g x).latchMgmt = s.latchMgmt := rfl
@[simp] theorem State.setGroup_mem (s : State) (g : Nat) (x : GroupSlot) : (State.setGroup s g x).mem = s.mem := rfl
@[simp] theorem State.setGroup_day (s : State) (g : Nat) (x : GroupSlot) : (State.setGroup s g x).day = s.day := rfl
@[simp] theorem State.setGroup_banks (s : State) (g : Nat) (x : GroupSlot) : (State.setGroup s g x).banks = s.banks := rfl
@[simp] theorem State.setGroup_host (s : State) (g : Nat) (x : GroupSlot) : (State.setGroup s g x).host = s.host := rfl
@[simp] theorem State.setGroup_rings (s : State) (g : Nat) (x : GroupSlot) : (State.setGroup s g x).rings = s.rings := rfl
@[simp] theorem State.setGroup_ctxs (s : State) (g : Nat) (x : GroupSlot) : (State.setGroup s g x).ctxs = s.ctxs := rfl
@[simp] theorem State.setGroup_flt (s : State) (g : Nat) (x : GroupSlot) : (State.setGroup s g x).flt = s.flt := rfl
@[simp] theorem State.setGroup_boot (s : State) (g : Nat) (x : GroupSlot) : (State.setGroup s g x).boot = s.boot := rfl
@[simp] theorem State.setGroup_mgt (s : State) (g : Nat) (x : GroupSlot) : (State.setGroup s g x).mgt = s.mgt := rfl
@[simp] theorem State.setGroup_atp (s : State) (g : Nat) (x : GroupSlot) : (State.setGroup s g x).atp = s.atp := rfl
@[simp] theorem State.setGroup_ing (s : State) (g : Nat) (x : GroupSlot) : (State.setGroup s g x).ing = s.ing := rfl
@[simp] theorem State.setGroup_work (s : State) (g : Nat) (x : GroupSlot) : (State.setGroup s g x).work = s.work := rfl
@[simp] theorem State.setGroup_maps (s : State) (g : Nat) (x : GroupSlot) : (State.setGroup s g x).maps = s.maps := rfl
@[simp] theorem State.setGroup_cmb (s : State) (g : Nat) (x : GroupSlot) : (State.setGroup s g x).cmb = s.cmb := rfl
@[simp] theorem State.setGroup_lnk (s : State) (g : Nat) (x : GroupSlot) : (State.setGroup s g x).lnk = s.lnk := rfl
@[simp] theorem State.setGroup_pwr (s : State) (g : Nat) (x : GroupSlot) : (State.setGroup s g x).pwr = s.pwr := rfl
@[simp] theorem State.setGroup_rep (s : State) (g : Nat) (x : GroupSlot) : (State.setGroup s g x).rep = s.rep := rfl
@[simp] theorem State.setGroup_test (s : State) (g : Nat) (x : GroupSlot) : (State.setGroup s g x).test = s.test := rfl

@[simp] theorem State.setIng_pending (s : State) (u : IngestUnit) : (State.setIng s u).pending = s.pending := rfl
@[simp] theorem State.setIng_clk (s : State) (u : IngestUnit) : (State.setIng s u).clk = s.clk := rfl
@[simp] theorem State.setIng_free (s : State) (u : IngestUnit) : (State.setIng s u).free = s.free := rfl
@[simp] theorem State.setIng_sent (s : State) (u : IngestUnit) : (State.setIng s u).sent = s.sent := rfl
@[simp] theorem State.setIng_held (s : State) (u : IngestUnit) : (State.setIng s u).held = s.held := rfl
@[simp] theorem State.setIng_regs (s : State) (u : IngestUnit) : (State.setIng s u).regs = s.regs := rfl
@[simp] theorem State.setIng_latchHost (s : State) (u : IngestUnit) : (State.setIng s u).latchHost = s.latchHost := rfl
@[simp] theorem State.setIng_latchMgmt (s : State) (u : IngestUnit) : (State.setIng s u).latchMgmt = s.latchMgmt := rfl
@[simp] theorem State.setIng_mem (s : State) (u : IngestUnit) : (State.setIng s u).mem = s.mem := rfl
@[simp] theorem State.setIng_day (s : State) (u : IngestUnit) : (State.setIng s u).day = s.day := rfl
@[simp] theorem State.setIng_banks (s : State) (u : IngestUnit) : (State.setIng s u).banks = s.banks := rfl
@[simp] theorem State.setIng_host (s : State) (u : IngestUnit) : (State.setIng s u).host = s.host := rfl
@[simp] theorem State.setIng_rings (s : State) (u : IngestUnit) : (State.setIng s u).rings = s.rings := rfl
@[simp] theorem State.setIng_ctxs (s : State) (u : IngestUnit) : (State.setIng s u).ctxs = s.ctxs := rfl
@[simp] theorem State.setIng_flt (s : State) (u : IngestUnit) : (State.setIng s u).flt = s.flt := rfl
@[simp] theorem State.setIng_boot (s : State) (u : IngestUnit) : (State.setIng s u).boot = s.boot := rfl
@[simp] theorem State.setIng_mgt (s : State) (u : IngestUnit) : (State.setIng s u).mgt = s.mgt := rfl
@[simp] theorem State.setIng_atp (s : State) (u : IngestUnit) : (State.setIng s u).atp = s.atp := rfl
@[simp] theorem State.setIng_work (s : State) (u : IngestUnit) : (State.setIng s u).work = s.work := rfl
@[simp] theorem State.setIng_maps (s : State) (u : IngestUnit) : (State.setIng s u).maps = s.maps := rfl
@[simp] theorem State.setIng_cmb (s : State) (u : IngestUnit) : (State.setIng s u).cmb = s.cmb := rfl
@[simp] theorem State.setIng_lnk (s : State) (u : IngestUnit) : (State.setIng s u).lnk = s.lnk := rfl
@[simp] theorem State.setIng_col (s : State) (u : IngestUnit) : (State.setIng s u).col = s.col := rfl
@[simp] theorem State.setIng_pwr (s : State) (u : IngestUnit) : (State.setIng s u).pwr = s.pwr := rfl
@[simp] theorem State.setIng_rep (s : State) (u : IngestUnit) : (State.setIng s u).rep = s.rep := rfl
@[simp] theorem State.setIng_test (s : State) (u : IngestUnit) : (State.setIng s u).test = s.test := rfl

@[simp] theorem State.setCmb_pending (s : State) (u : CombineUnit) : (State.setCmb s u).pending = s.pending := rfl
@[simp] theorem State.setCmb_clk (s : State) (u : CombineUnit) : (State.setCmb s u).clk = s.clk := rfl
@[simp] theorem State.setCmb_free (s : State) (u : CombineUnit) : (State.setCmb s u).free = s.free := rfl
@[simp] theorem State.setCmb_sent (s : State) (u : CombineUnit) : (State.setCmb s u).sent = s.sent := rfl
@[simp] theorem State.setCmb_held (s : State) (u : CombineUnit) : (State.setCmb s u).held = s.held := rfl
@[simp] theorem State.setCmb_regs (s : State) (u : CombineUnit) : (State.setCmb s u).regs = s.regs := rfl
@[simp] theorem State.setCmb_latchHost (s : State) (u : CombineUnit) : (State.setCmb s u).latchHost = s.latchHost := rfl
@[simp] theorem State.setCmb_latchMgmt (s : State) (u : CombineUnit) : (State.setCmb s u).latchMgmt = s.latchMgmt := rfl
@[simp] theorem State.setCmb_mem (s : State) (u : CombineUnit) : (State.setCmb s u).mem = s.mem := rfl
@[simp] theorem State.setCmb_day (s : State) (u : CombineUnit) : (State.setCmb s u).day = s.day := rfl
@[simp] theorem State.setCmb_banks (s : State) (u : CombineUnit) : (State.setCmb s u).banks = s.banks := rfl
@[simp] theorem State.setCmb_host (s : State) (u : CombineUnit) : (State.setCmb s u).host = s.host := rfl
@[simp] theorem State.setCmb_rings (s : State) (u : CombineUnit) : (State.setCmb s u).rings = s.rings := rfl
@[simp] theorem State.setCmb_ctxs (s : State) (u : CombineUnit) : (State.setCmb s u).ctxs = s.ctxs := rfl
@[simp] theorem State.setCmb_flt (s : State) (u : CombineUnit) : (State.setCmb s u).flt = s.flt := rfl
@[simp] theorem State.setCmb_boot (s : State) (u : CombineUnit) : (State.setCmb s u).boot = s.boot := rfl
@[simp] theorem State.setCmb_mgt (s : State) (u : CombineUnit) : (State.setCmb s u).mgt = s.mgt := rfl
@[simp] theorem State.setCmb_atp (s : State) (u : CombineUnit) : (State.setCmb s u).atp = s.atp := rfl
@[simp] theorem State.setCmb_ing (s : State) (u : CombineUnit) : (State.setCmb s u).ing = s.ing := rfl
@[simp] theorem State.setCmb_work (s : State) (u : CombineUnit) : (State.setCmb s u).work = s.work := rfl
@[simp] theorem State.setCmb_maps (s : State) (u : CombineUnit) : (State.setCmb s u).maps = s.maps := rfl
@[simp] theorem State.setCmb_lnk (s : State) (u : CombineUnit) : (State.setCmb s u).lnk = s.lnk := rfl
@[simp] theorem State.setCmb_col (s : State) (u : CombineUnit) : (State.setCmb s u).col = s.col := rfl
@[simp] theorem State.setCmb_pwr (s : State) (u : CombineUnit) : (State.setCmb s u).pwr = s.pwr := rfl
@[simp] theorem State.setCmb_rep (s : State) (u : CombineUnit) : (State.setCmb s u).rep = s.rep := rfl
@[simp] theorem State.setCmb_test (s : State) (u : CombineUnit) : (State.setCmb s u).test = s.test := rfl

@[simp] theorem State.setPwr_pending (s : State) (p : PwrUnit) : (State.setPwr s p).pending = s.pending := rfl
@[simp] theorem State.setPwr_clk (s : State) (p : PwrUnit) : (State.setPwr s p).clk = s.clk := rfl
@[simp] theorem State.setPwr_free (s : State) (p : PwrUnit) : (State.setPwr s p).free = s.free := rfl
@[simp] theorem State.setPwr_sent (s : State) (p : PwrUnit) : (State.setPwr s p).sent = s.sent := rfl
@[simp] theorem State.setPwr_held (s : State) (p : PwrUnit) : (State.setPwr s p).held = s.held := rfl
@[simp] theorem State.setPwr_regs (s : State) (p : PwrUnit) : (State.setPwr s p).regs = s.regs := rfl
@[simp] theorem State.setPwr_latchHost (s : State) (p : PwrUnit) : (State.setPwr s p).latchHost = s.latchHost := rfl
@[simp] theorem State.setPwr_latchMgmt (s : State) (p : PwrUnit) : (State.setPwr s p).latchMgmt = s.latchMgmt := rfl
@[simp] theorem State.setPwr_mem (s : State) (p : PwrUnit) : (State.setPwr s p).mem = s.mem := rfl
@[simp] theorem State.setPwr_day (s : State) (p : PwrUnit) : (State.setPwr s p).day = s.day := rfl
@[simp] theorem State.setPwr_banks (s : State) (p : PwrUnit) : (State.setPwr s p).banks = s.banks := rfl
@[simp] theorem State.setPwr_host (s : State) (p : PwrUnit) : (State.setPwr s p).host = s.host := rfl
@[simp] theorem State.setPwr_rings (s : State) (p : PwrUnit) : (State.setPwr s p).rings = s.rings := rfl
@[simp] theorem State.setPwr_ctxs (s : State) (p : PwrUnit) : (State.setPwr s p).ctxs = s.ctxs := rfl
@[simp] theorem State.setPwr_flt (s : State) (p : PwrUnit) : (State.setPwr s p).flt = s.flt := rfl
@[simp] theorem State.setPwr_boot (s : State) (p : PwrUnit) : (State.setPwr s p).boot = s.boot := rfl
@[simp] theorem State.setPwr_mgt (s : State) (p : PwrUnit) : (State.setPwr s p).mgt = s.mgt := rfl
@[simp] theorem State.setPwr_atp (s : State) (p : PwrUnit) : (State.setPwr s p).atp = s.atp := rfl
@[simp] theorem State.setPwr_ing (s : State) (p : PwrUnit) : (State.setPwr s p).ing = s.ing := rfl
@[simp] theorem State.setPwr_work (s : State) (p : PwrUnit) : (State.setPwr s p).work = s.work := rfl
@[simp] theorem State.setPwr_maps (s : State) (p : PwrUnit) : (State.setPwr s p).maps = s.maps := rfl
@[simp] theorem State.setPwr_cmb (s : State) (p : PwrUnit) : (State.setPwr s p).cmb = s.cmb := rfl
@[simp] theorem State.setPwr_lnk (s : State) (p : PwrUnit) : (State.setPwr s p).lnk = s.lnk := rfl
@[simp] theorem State.setPwr_col (s : State) (p : PwrUnit) : (State.setPwr s p).col = s.col := rfl
@[simp] theorem State.setPwr_rep (s : State) (p : PwrUnit) : (State.setPwr s p).rep = s.rep := rfl
@[simp] theorem State.setPwr_test (s : State) (p : PwrUnit) : (State.setPwr s p).test = s.test := rfl

@[simp] theorem State.setRep_pending (s : State) (r : RepairUnit) : (State.setRep s r).pending = s.pending := rfl
@[simp] theorem State.setRep_clk (s : State) (r : RepairUnit) : (State.setRep s r).clk = s.clk := rfl
@[simp] theorem State.setRep_free (s : State) (r : RepairUnit) : (State.setRep s r).free = s.free := rfl
@[simp] theorem State.setRep_sent (s : State) (r : RepairUnit) : (State.setRep s r).sent = s.sent := rfl
@[simp] theorem State.setRep_held (s : State) (r : RepairUnit) : (State.setRep s r).held = s.held := rfl
@[simp] theorem State.setRep_regs (s : State) (r : RepairUnit) : (State.setRep s r).regs = s.regs := rfl
@[simp] theorem State.setRep_latchHost (s : State) (r : RepairUnit) : (State.setRep s r).latchHost = s.latchHost := rfl
@[simp] theorem State.setRep_latchMgmt (s : State) (r : RepairUnit) : (State.setRep s r).latchMgmt = s.latchMgmt := rfl
@[simp] theorem State.setRep_mem (s : State) (r : RepairUnit) : (State.setRep s r).mem = s.mem := rfl
@[simp] theorem State.setRep_day (s : State) (r : RepairUnit) : (State.setRep s r).day = s.day := rfl
@[simp] theorem State.setRep_banks (s : State) (r : RepairUnit) : (State.setRep s r).banks = s.banks := rfl
@[simp] theorem State.setRep_host (s : State) (r : RepairUnit) : (State.setRep s r).host = s.host := rfl
@[simp] theorem State.setRep_rings (s : State) (r : RepairUnit) : (State.setRep s r).rings = s.rings := rfl
@[simp] theorem State.setRep_ctxs (s : State) (r : RepairUnit) : (State.setRep s r).ctxs = s.ctxs := rfl
@[simp] theorem State.setRep_flt (s : State) (r : RepairUnit) : (State.setRep s r).flt = s.flt := rfl
@[simp] theorem State.setRep_boot (s : State) (r : RepairUnit) : (State.setRep s r).boot = s.boot := rfl
@[simp] theorem State.setRep_mgt (s : State) (r : RepairUnit) : (State.setRep s r).mgt = s.mgt := rfl
@[simp] theorem State.setRep_atp (s : State) (r : RepairUnit) : (State.setRep s r).atp = s.atp := rfl
@[simp] theorem State.setRep_ing (s : State) (r : RepairUnit) : (State.setRep s r).ing = s.ing := rfl
@[simp] theorem State.setRep_work (s : State) (r : RepairUnit) : (State.setRep s r).work = s.work := rfl
@[simp] theorem State.setRep_maps (s : State) (r : RepairUnit) : (State.setRep s r).maps = s.maps := rfl
@[simp] theorem State.setRep_cmb (s : State) (r : RepairUnit) : (State.setRep s r).cmb = s.cmb := rfl
@[simp] theorem State.setRep_lnk (s : State) (r : RepairUnit) : (State.setRep s r).lnk = s.lnk := rfl
@[simp] theorem State.setRep_col (s : State) (r : RepairUnit) : (State.setRep s r).col = s.col := rfl
@[simp] theorem State.setRep_pwr (s : State) (r : RepairUnit) : (State.setRep s r).pwr = s.pwr := rfl
@[simp] theorem State.setRep_test (s : State) (r : RepairUnit) : (State.setRep s r).test = s.test := rfl

@[simp] theorem State.setMaps_pending (s : State) (m : UnitMaps) : (State.setMaps s m).pending = s.pending := rfl
@[simp] theorem State.setMaps_clk (s : State) (m : UnitMaps) : (State.setMaps s m).clk = s.clk := rfl
@[simp] theorem State.setMaps_free (s : State) (m : UnitMaps) : (State.setMaps s m).free = s.free := rfl
@[simp] theorem State.setMaps_sent (s : State) (m : UnitMaps) : (State.setMaps s m).sent = s.sent := rfl
@[simp] theorem State.setMaps_held (s : State) (m : UnitMaps) : (State.setMaps s m).held = s.held := rfl
@[simp] theorem State.setMaps_regs (s : State) (m : UnitMaps) : (State.setMaps s m).regs = s.regs := rfl
@[simp] theorem State.setMaps_latchHost (s : State) (m : UnitMaps) : (State.setMaps s m).latchHost = s.latchHost := rfl
@[simp] theorem State.setMaps_latchMgmt (s : State) (m : UnitMaps) : (State.setMaps s m).latchMgmt = s.latchMgmt := rfl
@[simp] theorem State.setMaps_mem (s : State) (m : UnitMaps) : (State.setMaps s m).mem = s.mem := rfl
@[simp] theorem State.setMaps_day (s : State) (m : UnitMaps) : (State.setMaps s m).day = s.day := rfl
@[simp] theorem State.setMaps_banks (s : State) (m : UnitMaps) : (State.setMaps s m).banks = s.banks := rfl
@[simp] theorem State.setMaps_host (s : State) (m : UnitMaps) : (State.setMaps s m).host = s.host := rfl
@[simp] theorem State.setMaps_rings (s : State) (m : UnitMaps) : (State.setMaps s m).rings = s.rings := rfl
@[simp] theorem State.setMaps_ctxs (s : State) (m : UnitMaps) : (State.setMaps s m).ctxs = s.ctxs := rfl
@[simp] theorem State.setMaps_flt (s : State) (m : UnitMaps) : (State.setMaps s m).flt = s.flt := rfl
@[simp] theorem State.setMaps_boot (s : State) (m : UnitMaps) : (State.setMaps s m).boot = s.boot := rfl
@[simp] theorem State.setMaps_mgt (s : State) (m : UnitMaps) : (State.setMaps s m).mgt = s.mgt := rfl
@[simp] theorem State.setMaps_atp (s : State) (m : UnitMaps) : (State.setMaps s m).atp = s.atp := rfl
@[simp] theorem State.setMaps_ing (s : State) (m : UnitMaps) : (State.setMaps s m).ing = s.ing := rfl
@[simp] theorem State.setMaps_work (s : State) (m : UnitMaps) : (State.setMaps s m).work = s.work := rfl
@[simp] theorem State.setMaps_cmb (s : State) (m : UnitMaps) : (State.setMaps s m).cmb = s.cmb := rfl
@[simp] theorem State.setMaps_lnk (s : State) (m : UnitMaps) : (State.setMaps s m).lnk = s.lnk := rfl
@[simp] theorem State.setMaps_col (s : State) (m : UnitMaps) : (State.setMaps s m).col = s.col := rfl
@[simp] theorem State.setMaps_pwr (s : State) (m : UnitMaps) : (State.setMaps s m).pwr = s.pwr := rfl
@[simp] theorem State.setMaps_rep (s : State) (m : UnitMaps) : (State.setMaps s m).rep = s.rep := rfl
@[simp] theorem State.setMaps_test (s : State) (m : UnitMaps) : (State.setMaps s m).test = s.test := rfl

@[simp] theorem State.setWork_pending (s : State) (w : WorkUnit) : (State.setWork s w).pending = s.pending := rfl
@[simp] theorem State.setWork_clk (s : State) (w : WorkUnit) : (State.setWork s w).clk = s.clk := rfl
@[simp] theorem State.setWork_free (s : State) (w : WorkUnit) : (State.setWork s w).free = s.free := rfl
@[simp] theorem State.setWork_sent (s : State) (w : WorkUnit) : (State.setWork s w).sent = s.sent := rfl
@[simp] theorem State.setWork_held (s : State) (w : WorkUnit) : (State.setWork s w).held = s.held := rfl
@[simp] theorem State.setWork_regs (s : State) (w : WorkUnit) : (State.setWork s w).regs = s.regs := rfl
@[simp] theorem State.setWork_latchHost (s : State) (w : WorkUnit) : (State.setWork s w).latchHost = s.latchHost := rfl
@[simp] theorem State.setWork_latchMgmt (s : State) (w : WorkUnit) : (State.setWork s w).latchMgmt = s.latchMgmt := rfl
@[simp] theorem State.setWork_mem (s : State) (w : WorkUnit) : (State.setWork s w).mem = s.mem := rfl
@[simp] theorem State.setWork_day (s : State) (w : WorkUnit) : (State.setWork s w).day = s.day := rfl
@[simp] theorem State.setWork_banks (s : State) (w : WorkUnit) : (State.setWork s w).banks = s.banks := rfl
@[simp] theorem State.setWork_host (s : State) (w : WorkUnit) : (State.setWork s w).host = s.host := rfl
@[simp] theorem State.setWork_rings (s : State) (w : WorkUnit) : (State.setWork s w).rings = s.rings := rfl
@[simp] theorem State.setWork_ctxs (s : State) (w : WorkUnit) : (State.setWork s w).ctxs = s.ctxs := rfl
@[simp] theorem State.setWork_flt (s : State) (w : WorkUnit) : (State.setWork s w).flt = s.flt := rfl
@[simp] theorem State.setWork_boot (s : State) (w : WorkUnit) : (State.setWork s w).boot = s.boot := rfl
@[simp] theorem State.setWork_mgt (s : State) (w : WorkUnit) : (State.setWork s w).mgt = s.mgt := rfl
@[simp] theorem State.setWork_atp (s : State) (w : WorkUnit) : (State.setWork s w).atp = s.atp := rfl
@[simp] theorem State.setWork_ing (s : State) (w : WorkUnit) : (State.setWork s w).ing = s.ing := rfl
@[simp] theorem State.setWork_maps (s : State) (w : WorkUnit) : (State.setWork s w).maps = s.maps := rfl
@[simp] theorem State.setWork_cmb (s : State) (w : WorkUnit) : (State.setWork s w).cmb = s.cmb := rfl
@[simp] theorem State.setWork_lnk (s : State) (w : WorkUnit) : (State.setWork s w).lnk = s.lnk := rfl
@[simp] theorem State.setWork_col (s : State) (w : WorkUnit) : (State.setWork s w).col = s.col := rfl
@[simp] theorem State.setWork_pwr (s : State) (w : WorkUnit) : (State.setWork s w).pwr = s.pwr := rfl
@[simp] theorem State.setWork_rep (s : State) (w : WorkUnit) : (State.setWork s w).rep = s.rep := rfl
@[simp] theorem State.setWork_test (s : State) (w : WorkUnit) : (State.setWork s w).test = s.test := rfl

@[simp] theorem State.setLnk_pending (s : State) (l : LinkUnit) : (State.setLnk s l).pending = s.pending := rfl
@[simp] theorem State.setLnk_clk (s : State) (l : LinkUnit) : (State.setLnk s l).clk = s.clk := rfl
@[simp] theorem State.setLnk_free (s : State) (l : LinkUnit) : (State.setLnk s l).free = s.free := rfl
@[simp] theorem State.setLnk_sent (s : State) (l : LinkUnit) : (State.setLnk s l).sent = s.sent := rfl
@[simp] theorem State.setLnk_held (s : State) (l : LinkUnit) : (State.setLnk s l).held = s.held := rfl
@[simp] theorem State.setLnk_regs (s : State) (l : LinkUnit) : (State.setLnk s l).regs = s.regs := rfl
@[simp] theorem State.setLnk_latchHost (s : State) (l : LinkUnit) : (State.setLnk s l).latchHost = s.latchHost := rfl
@[simp] theorem State.setLnk_latchMgmt (s : State) (l : LinkUnit) : (State.setLnk s l).latchMgmt = s.latchMgmt := rfl
@[simp] theorem State.setLnk_mem (s : State) (l : LinkUnit) : (State.setLnk s l).mem = s.mem := rfl
@[simp] theorem State.setLnk_day (s : State) (l : LinkUnit) : (State.setLnk s l).day = s.day := rfl
@[simp] theorem State.setLnk_banks (s : State) (l : LinkUnit) : (State.setLnk s l).banks = s.banks := rfl
@[simp] theorem State.setLnk_host (s : State) (l : LinkUnit) : (State.setLnk s l).host = s.host := rfl
@[simp] theorem State.setLnk_rings (s : State) (l : LinkUnit) : (State.setLnk s l).rings = s.rings := rfl
@[simp] theorem State.setLnk_ctxs (s : State) (l : LinkUnit) : (State.setLnk s l).ctxs = s.ctxs := rfl
@[simp] theorem State.setLnk_flt (s : State) (l : LinkUnit) : (State.setLnk s l).flt = s.flt := rfl
@[simp] theorem State.setLnk_boot (s : State) (l : LinkUnit) : (State.setLnk s l).boot = s.boot := rfl
@[simp] theorem State.setLnk_mgt (s : State) (l : LinkUnit) : (State.setLnk s l).mgt = s.mgt := rfl
@[simp] theorem State.setLnk_atp (s : State) (l : LinkUnit) : (State.setLnk s l).atp = s.atp := rfl
@[simp] theorem State.setLnk_ing (s : State) (l : LinkUnit) : (State.setLnk s l).ing = s.ing := rfl
@[simp] theorem State.setLnk_work (s : State) (l : LinkUnit) : (State.setLnk s l).work = s.work := rfl
@[simp] theorem State.setLnk_maps (s : State) (l : LinkUnit) : (State.setLnk s l).maps = s.maps := rfl
@[simp] theorem State.setLnk_cmb (s : State) (l : LinkUnit) : (State.setLnk s l).cmb = s.cmb := rfl
@[simp] theorem State.setLnk_col (s : State) (l : LinkUnit) : (State.setLnk s l).col = s.col := rfl
@[simp] theorem State.setLnk_pwr (s : State) (l : LinkUnit) : (State.setLnk s l).pwr = s.pwr := rfl
@[simp] theorem State.setLnk_rep (s : State) (l : LinkUnit) : (State.setLnk s l).rep = s.rep := rfl
@[simp] theorem State.setLnk_test (s : State) (l : LinkUnit) : (State.setLnk s l).test = s.test := rfl

@[simp] theorem State.setPort_pending (s : State) (p : Nat) (q : Port) : (State.setPort s p q).pending = s.pending := rfl
@[simp] theorem State.setPort_clk (s : State) (p : Nat) (q : Port) : (State.setPort s p q).clk = s.clk := rfl
@[simp] theorem State.setPort_free (s : State) (p : Nat) (q : Port) : (State.setPort s p q).free = s.free := rfl
@[simp] theorem State.setPort_sent (s : State) (p : Nat) (q : Port) : (State.setPort s p q).sent = s.sent := rfl
@[simp] theorem State.setPort_held (s : State) (p : Nat) (q : Port) : (State.setPort s p q).held = s.held := rfl
@[simp] theorem State.setPort_regs (s : State) (p : Nat) (q : Port) : (State.setPort s p q).regs = s.regs := rfl
@[simp] theorem State.setPort_latchHost (s : State) (p : Nat) (q : Port) : (State.setPort s p q).latchHost = s.latchHost := rfl
@[simp] theorem State.setPort_latchMgmt (s : State) (p : Nat) (q : Port) : (State.setPort s p q).latchMgmt = s.latchMgmt := rfl
@[simp] theorem State.setPort_mem (s : State) (p : Nat) (q : Port) : (State.setPort s p q).mem = s.mem := rfl
@[simp] theorem State.setPort_day (s : State) (p : Nat) (q : Port) : (State.setPort s p q).day = s.day := rfl
@[simp] theorem State.setPort_banks (s : State) (p : Nat) (q : Port) : (State.setPort s p q).banks = s.banks := rfl
@[simp] theorem State.setPort_host (s : State) (p : Nat) (q : Port) : (State.setPort s p q).host = s.host := rfl
@[simp] theorem State.setPort_rings (s : State) (p : Nat) (q : Port) : (State.setPort s p q).rings = s.rings := rfl
@[simp] theorem State.setPort_ctxs (s : State) (p : Nat) (q : Port) : (State.setPort s p q).ctxs = s.ctxs := rfl
@[simp] theorem State.setPort_flt (s : State) (p : Nat) (q : Port) : (State.setPort s p q).flt = s.flt := rfl
@[simp] theorem State.setPort_boot (s : State) (p : Nat) (q : Port) : (State.setPort s p q).boot = s.boot := rfl
@[simp] theorem State.setPort_mgt (s : State) (p : Nat) (q : Port) : (State.setPort s p q).mgt = s.mgt := rfl
@[simp] theorem State.setPort_atp (s : State) (p : Nat) (q : Port) : (State.setPort s p q).atp = s.atp := rfl
@[simp] theorem State.setPort_ing (s : State) (p : Nat) (q : Port) : (State.setPort s p q).ing = s.ing := rfl
@[simp] theorem State.setPort_work (s : State) (p : Nat) (q : Port) : (State.setPort s p q).work = s.work := rfl
@[simp] theorem State.setPort_maps (s : State) (p : Nat) (q : Port) : (State.setPort s p q).maps = s.maps := rfl
@[simp] theorem State.setPort_cmb (s : State) (p : Nat) (q : Port) : (State.setPort s p q).cmb = s.cmb := rfl
@[simp] theorem State.setPort_col (s : State) (p : Nat) (q : Port) : (State.setPort s p q).col = s.col := rfl
@[simp] theorem State.setPort_pwr (s : State) (p : Nat) (q : Port) : (State.setPort s p q).pwr = s.pwr := rfl
@[simp] theorem State.setPort_rep (s : State) (p : Nat) (q : Port) : (State.setPort s p q).rep = s.rep := rfl
@[simp] theorem State.setPort_test (s : State) (p : Nat) (q : Port) : (State.setPort s p q).test = s.test := rfl

@[simp] theorem State.setMgt_pending (s : State) (m : MgtUnit) : (State.setMgt s m).pending = s.pending := rfl
@[simp] theorem State.setMgt_clk (s : State) (m : MgtUnit) : (State.setMgt s m).clk = s.clk := rfl
@[simp] theorem State.setMgt_free (s : State) (m : MgtUnit) : (State.setMgt s m).free = s.free := rfl
@[simp] theorem State.setMgt_sent (s : State) (m : MgtUnit) : (State.setMgt s m).sent = s.sent := rfl
@[simp] theorem State.setMgt_held (s : State) (m : MgtUnit) : (State.setMgt s m).held = s.held := rfl
@[simp] theorem State.setMgt_regs (s : State) (m : MgtUnit) : (State.setMgt s m).regs = s.regs := rfl
@[simp] theorem State.setMgt_latchHost (s : State) (m : MgtUnit) : (State.setMgt s m).latchHost = s.latchHost := rfl
@[simp] theorem State.setMgt_latchMgmt (s : State) (m : MgtUnit) : (State.setMgt s m).latchMgmt = s.latchMgmt := rfl
@[simp] theorem State.setMgt_mem (s : State) (m : MgtUnit) : (State.setMgt s m).mem = s.mem := rfl
@[simp] theorem State.setMgt_day (s : State) (m : MgtUnit) : (State.setMgt s m).day = s.day := rfl
@[simp] theorem State.setMgt_banks (s : State) (m : MgtUnit) : (State.setMgt s m).banks = s.banks := rfl
@[simp] theorem State.setMgt_host (s : State) (m : MgtUnit) : (State.setMgt s m).host = s.host := rfl
@[simp] theorem State.setMgt_rings (s : State) (m : MgtUnit) : (State.setMgt s m).rings = s.rings := rfl
@[simp] theorem State.setMgt_ctxs (s : State) (m : MgtUnit) : (State.setMgt s m).ctxs = s.ctxs := rfl
@[simp] theorem State.setMgt_flt (s : State) (m : MgtUnit) : (State.setMgt s m).flt = s.flt := rfl
@[simp] theorem State.setMgt_boot (s : State) (m : MgtUnit) : (State.setMgt s m).boot = s.boot := rfl
@[simp] theorem State.setMgt_atp (s : State) (m : MgtUnit) : (State.setMgt s m).atp = s.atp := rfl
@[simp] theorem State.setMgt_ing (s : State) (m : MgtUnit) : (State.setMgt s m).ing = s.ing := rfl
@[simp] theorem State.setMgt_work (s : State) (m : MgtUnit) : (State.setMgt s m).work = s.work := rfl
@[simp] theorem State.setMgt_maps (s : State) (m : MgtUnit) : (State.setMgt s m).maps = s.maps := rfl
@[simp] theorem State.setMgt_cmb (s : State) (m : MgtUnit) : (State.setMgt s m).cmb = s.cmb := rfl
@[simp] theorem State.setMgt_lnk (s : State) (m : MgtUnit) : (State.setMgt s m).lnk = s.lnk := rfl
@[simp] theorem State.setMgt_col (s : State) (m : MgtUnit) : (State.setMgt s m).col = s.col := rfl
@[simp] theorem State.setMgt_pwr (s : State) (m : MgtUnit) : (State.setMgt s m).pwr = s.pwr := rfl
@[simp] theorem State.setMgt_rep (s : State) (m : MgtUnit) : (State.setMgt s m).rep = s.rep := rfl
@[simp] theorem State.setMgt_test (s : State) (m : MgtUnit) : (State.setMgt s m).test = s.test := rfl

end Sys2Proof.Machine
end

