-- ==== Sys2Proof/Tests/Slice0.lean ====
section
/-! SUPPORT. Tests/Slice0.lean: the checks of WellFormed, the spec's worked cases, and for each clause of each statement a state and operands that meet its hypotheses. -/

open Sys2Proof Sys2Proof.Machine

namespace Sys2Proof.Tests

set_option linter.unusedVariables false
set_option Elab.async false

/-- A decidable fact that the kernel evaluates. -/
theorem met {p : Prop} (h : p := by decide +kernel) : p := h

/-! ### States -/

/-- A package that runs: boot done, the host's link up, every bank die active. -/
def up : State :=
  { State.reset with
    boot := { Boot.reset with stage := 8, done := true, hubLock := true, backup := false, ready := true }
    host := { HostIf.reset with linkUp := true, width := 16, speed := 5 }
    banks := (List.range 4).map (fun n => (n, { Bank.reset with phase := .active, bridge := .up, pllLock := true })) }

/-- A wire test that found nothing. -/
def goodWires : WireTest := ⟨[], [], [], [], []⟩

/-- `up` with the bridge of BANK_1 in a retrain. -/
def retr : State := { up with banks := [(1, { Bank.reset with phase := .active, bridge := .retrain })] }

/-- A data frame of zeros with sequence number 0 and its CRC-32C. -/
def goodFrame : List Byte :=
  let f : List Byte := List.replicate 520 0 ++ [4, 0, 0, 0]
  f ++ leBytes 4 (crc32c f)

/-- The invariant from its parts, each of which can be evaluated. -/
theorem inv_of {s : State}
    (h : Memory.wf s.mem = true ∧ Regs.wf s.regs = true ∧ s.host.evq.length ≤ 64 ∧ s.host.lost ≤ 0xFF ∧ s.flt.retained.length ≤ 8 ∧
      (0x58 ≤ s.mgt.addr ∧ s.mgt.addr ≤ 0x5B) ∧ tabWf (fun _ => Bank.reset) s.banks = true ∧ tabWf (fun _ => Ring.reset) s.rings = true ∧
      tabWf (fun _ => Ctx.reset) s.ctxs = true ∧ tabWf (fun _ => none) s.latchHost = true ∧ tabWf (fun _ => none) s.latchMgmt = true) :
    Inv s :=
  ⟨h.1, h.2.1, h.2.2.1, h.2.2.2.1, h.2.2.2.2.1, h.2.2.2.2.2.1, h.2.2.2.2.2.2⟩

/-- `up` with context 0 OPEN, its rings of 16 entries ACTIVE and polled, and page tables that map the first 2 MiB of its virtual
addresses to 0x200000. -/
def run0 : State :=
  { up with
    pwr := { PwrUnit.reset with ledger := { Ledger.reset with running := true, allowance := 10 ^ 12 } }
    host := { up.host with written := [0x210, 0x218, 0x220, 0x228, 0x230] }
    regs := [(0x200, 1), (0x1010, 0x84400000), (0x90100, 0x10000), (0x90104, 0x80000000)]
    ctxs := [(0, { state := .open_, cause := 0, gen := 1 })]
    rings := [(0, { Ring.reset with state := .active })]
    mem := [(0x10000, 1), (0x10001, 0x10), (0x10002, 1), (0x11000, 1), (0x11001, 0x20), (0x11002, 1), (0x12000, 0x1F), (0x12002, 0x20)] }

/-- A NOP whose work has ended OK. -/
def ended0 : Desc :=
  { idx := 0, words := [], phase := .ended 0 7 0, late := false, start := none, readyAt := none, deferred := false, energy := 0,
    outBase := none, cursor := 0, startMin := 0, seq := 0 }

/-- The state with one fetched descriptor of context 0, as its first words. -/
def withDesc (s : State) (ws : List Nat) : State :=
  let d := { ended0 with words := (ws ++ List.replicate (8 - ws.length) 0).map (BitVec.ofNat 64), phase := .waiting }
  { s with rings := [(0, { Ring.reset with state := .active, sqHead := 1, sqTail := 1, window := [d] })] }

/-- A WAIT of context 0 for the value 5 at 0x300 that waits, with a LIMIT of 3 Minutes. -/
def waits0 : State :=
  let d := { ended0 with words := [4, 0, 0x300, 5, 3, 0, 0, 0], phase := .running, cursor := 1 }
  { run0 with rings := [(0, { Ring.reset with state := .active, sqHead := 1, sqTail := 1, window := [d] })] }

/-- `run0` with the lease of bias set 2 held by context 0 under epoch 7. -/
def held0 : State := (run0.setLease 0x102 { holder := some (0, 1), expire := 9, waiting := [] }).setEpoch 0x102 7

/-- The descriptor of a start that goes on. -/
def goD : Started → Desc
  | .go d _ => d
  | .no _ => ended0

/-- The state in which a start that goes on acts. -/
def goS : Started → State
  | .go _ s => s
  | .no s => s

/-- Whether a start goes on. -/
def goB : Started → Bool
  | .go _ _ => true
  | .no _ => false

theorem go_eq {x : Started} (h : goB x = true) : x = .go (goD x) (goS x) := by
  cases x with
  | go d s => rfl
  | no s => cases h

/-- The value of an access that does not fault. -/
def okD {ε α : Type} (x : Except ε α) (d : α) : α := match x with
  | .ok v => v
  | .error _ => d

/-- The value of an access that is known not to fault. -/
def okOf {ε α : Type} : (x : Except ε α) → x.isOk = true → α
  | .ok v, _ => v

theorem ok_eq {ε α : Type} {x : Except ε α} (h : x.isOk = true) : x = Except.ok (okOf x h) := by
  cases x with
  | ok v => rfl
  | error e => cases h

theorem ok_some_eq {ε α : Type} {x : Except ε (Option α)} (h : x.isOk = true) (g : (okOf x h).isSome = true) :
    x = Except.ok (some ((okOf x h).get g)) := by
  rw [Option.some_get]; exact ok_eq h

theorem some_eq {α : Type} {x : Option α} (h : x.isSome = true) : x = some (x.get h) := (Option.some_get h).symm

theorem pair_eq {α β : Type} {x : α × Option β} (h : x.2.isNone = true) : x = (x.1, none) := by
  obtain ⟨a, b⟩ := x
  cases b with
  | none => rfl
  | some v => cases h

/-- A 1 by 1 tensor in BF16. -/
def ten (base : Nat) : List Nat := [base, 0x206, 1 + 2 ^ 32, 0, 0, 0, 0, 0]

def tenIn : Tensor := { base := 0x3000, scaleOfs := 0, format := 6, dims := [(1, 0, 0, 0), (1, 0, 0, 0)] }
def tenOut : Tensor := { tenIn with base := 0x3040 }
def tenW : Tensor := { tenIn with base := 0x3080 }

/-- The bytes of words at a virtual address of context 0 in `run0`, as memory lists them. -/
def cells (va : Nat) (ws : List Nat) : List (Nat × Byte) :=
  ((wordBytes ws).zipIdx.map (fun p => (0x200000 + va + p.2, p.1))).filter (fun p => decide (p.2 ≠ 0))

/-- `run0` with tensors, a layer record, an expert and a grouped-operation table of one row in memory. -/
def mem0 : State :=
  { run0 with
    mem := run0.mem ++ cells 0x1000 (ten 0x3000) ++ cells 0x1040 (ten 0x3040) ++ cells 0x1080 (ten 0x3080)
      ++ cells 0x1100 [0x1080, 0x1140, 1 + 2 ^ 40, 0, 6, 0, 0, 0] ++ cells 0x1140 [0x1080, 0x1080, 0, 0, 6 * 2 ^ 24, 0x3F800000, 0, 0]
      ++ cells 0x1200 [2 ^ 32 + 2 ^ 16 + 1, 2 ^ 32 + 1, 0x1280, 0, 0x4000, 0, 0, 0] ++ cells 0x1240 [2 ^ 16, 0x1140, 0, 0, 0, 0, 0, 0, 0] }

/-- A GROUPED_OP of context 0 whose table is handed to its control core, with every row split. -/
def job0 : Job := { Job.blank 0 1 0 tenIn with stage := .experts, handed := true }

/-- A group at a place. -/
def grp0 (a : GroupPhase) : Group :=
  { row := 0, phase := 0, m0 := 0, m := 1, c0 := 0, cols := 1, home := none, est := 1, uj := 1, at_ := a, ready := some 0, deferred := false,
    attempts := 0, epoch := 0, sat := false, issuedAt := 0, kept := [] }

/-- `run0` with a group running on position 1. -/
def run1 : State :=
  { run0 with work := { WorkUnit.reset with jobs := [{ job0 with groups := [grp0 (.running 1)] }], positions := [(1, some { ctx := 0, idx := 0, group := 0 })] } }

/-- A SOFTMAX pass over one row in front of context 0. -/
def softmax0 : State := withDesc mem0 [0x12, 0, 0x1000, 0x1040, 0, 0, 0x20 + 0x3F800000 * 2 ^ 32]

/-- A valid ingest header: stream 0, one pixel of one BF16 channel. -/
def hdr0 : List Byte :=
  let body : List Byte := [0x10, 0, 0, 6, 0, 0, 0, 1, 0, 1, 0, 1, 0, 1, 1, 1, 0, 0, 0, 2, 0, 0, 0, 0, 0, 0, 0, 0, 0, 0]
  let crc := crc16 body
  [0xB7, 0xC2, 0x4E, 0x19] ++ body ++ [BitVec.ofNat 8 (crc / 256), BitVec.ofNat 8 crc]

/-- A live binding of stream 0 to context 0. -/
def bind0 : Binding :=
  { ctx := 0, due := none, since := 0, height := 1, width := 1, channels := 1, patchH := 1, patchW := 1, format := 6, refreshK := 1, replay := false,
    keepEn := false, fill := 0, outBase := 0x5000, ctrl := 0x6000, shufEpoch := 0, slots := 2, seed := 0, produced := 0, done := 0,
    first := true, last := none, map := none, unbind := none }

/-- The admitted frame of `hdr0`. -/
def frame0 : FrameIn := { stream := 0, seq := 1, payLen := 2, srcTime := 0, arrival := 0, arrivalTick := 0, ids := [0], flags := 0 }

/-- `run0` with the Ingest Port enabled for one lane, and this state of the Ingest Unit. -/
def ingS (u : IngestUnit) : State := { (run0.setReg 0x80000 0x80000000) with ing := u }

/-- A layer of one expert with its work area at 0. -/
def layer0 : Layer :=
  { lrec := 0, work := 0, skipLayer := false, gateW := none, set := 0, biasEn := false, gating := 0, renorm := false, dropOrder := false,
    topK := 1, experts := 1, capMax := 0, capMin := 0, capFactor := 0, expFmt := 6, skip := 0, ids := 0, patches := 0, scoreKind := false,
    scoreMode := 0, out := tenOut, version := 0, dropped := 0, bare := 0 }

/-- A LAYER of one token in a stage. -/
def layerJob (st : Stage) : Job := { Job.blank 0 1 0 tenIn with stage := st, layer := some layer0, expOut := 0x1000 }

/-- `run0` with that LAYER at work. -/
def layerS (st : Stage) : State :=
  let s := withDesc run0 [0x10]
  { s with work := { WorkUnit.reset with jobs := [layerJob st], routeQueue := if st = .route then [(0, 0)] else [],
                                         combineQueue := if st = .combine then [(0, 0)] else [] } }

/-- That LAYER in the Combine Unit, its only token's segment written or not. -/
def combineRun (w : Bool) : CombineRun :=
  { ctx := 0, gen := 1, idx := 0, strip := 0, next := 1, slots := [⟨0, 3, 0, if w then none else some 7, if w then some [0] else none, w⟩], released := 0 }
def combineS (w : Bool) : State :=
  { layerS .combine with work := { WorkUnit.reset with jobs := [layerJob .combine] }, cmb := { CombineUnit.reset with run := some (combineRun w) } }

/-- The package itself as a peer. -/
def self0 : Peer := ⟨0, 0, 0⟩

/-- The Link of a package at position 0 that reaches itself and position 1. -/
def lnk0 : LinkUnit := { LinkUnit.reset with pos := some (0, 0, 0), table := { entries := [(0, 0xE), (1, 0)], dimOrder := false } }

/-- `mem0` at that position, with this descriptor of context 0 at work or waiting. -/
def handS (ph : DescPhase) (ws : List Nat) : State :=
  let d := { ended0 with words := (ws ++ List.replicate (8 - ws.length) 0).map (BitVec.ofNat 64), phase := ph }
  { mem0 with lnk := lnk0, rings := [(0, { Ring.reset with state := .active, sqHead := 1, sqTail := 1, window := [d] })] }

/-- A SEND of one chunk. -/
def send0 : SendWin :=
  { ctx := 0, gen := 1, idx := 0, peer := self0, channel := 1, seq := 5, tensor := tenIn, mask := 0, maskOn := false, sat := false, wire := 6,
    piped := none, phase := .offered, handle := 0, epoch := 0, credits := 0, next := 0, unacked := [], again := [], resent := 0,
    maskDue := false, nacks := [] }

/-- A package with that SEND at work. -/
def sendS (w : SendWin) : State := { handS .running [0x28] with cmb := { CombineUnit.reset with sends := [w] } }

/-- The OFFER of that SEND, and a receive of one row matched to it or not. -/
def offer0 : Offer := ⟨self0, 1, 5, 1, 1, 6, false⟩
def recv0 (o : Option Offer) (slots : List (Nat × Option (Nat × Nat × List Byte))) : RecvWin :=
  { handle := 0, ctx := 0, gen := 1, idx := 0, peer := self0, channel := 1, seq := 5, tensor := tenOut, mask := 0, sat := false, offer := o,
    slots := slots, done := [], maskDone := false, nacks := [], nacked := 0, last := 0 }

/-- A package with that receive posted. -/
def recvS (r : RecvWin) : State := { handS .running [0x29] with cmb := { CombineUnit.reset with recvs := [r] } }

/-- A port in a state, with revision 3 and every capability in use. -/
def port0 (st : PortState) : Port := { Port.reset with state := st, rev := 3, kind := 3, width := 8, inUse := 0xFFF }

/-- `run0` at position 0 with torus port 0. -/
def portS (q : Port) : State := { run0 with lnk := { lnk0 with ports := [(0, q)] } }

/-- A flit from bits of its header, with its CRC. -/
def flitOf (hdr : Nat) : List Byte :=
  let f := leBytes 14 hdr ++ List.replicate 240 0
  f ++ leBytes 2 (crcT10 f)

/-- A write request of the descriptor of `handS`, with or without a return before. -/
def msg0 (r : Bool) : Msg := { kind := .writeRequest, src := 0, dst := ⟨0, 1, 0⟩, epoch := 0, args := [], data := [], owner := some (0, 1, 0), reissued := r }

/-- A remote request of that descriptor. -/
def req0 (w : Bool) : RemoteReq :=
  { ctx := 0, gen := 1, idx := 0, pos := 99, write := w, notify := false, va := 0x3000, len := 2, data := [], dst := ⟨0, 1, 0⟩, apt := 0, ra := 0, at_ := 0 }

/-- `handS` with a change of its Link. -/
def lnkS (f : LinkUnit → LinkUnit) : State := { handS .running [1] with lnk := f lnk0 }

/-- `run0` with torus port 0 UP and no position yet. -/
def lostS (f : LinkUnit → LinkUnit) : State := { run0 with lnk := f { LinkUnit.reset with ports := [(0, port0 .up), (1, port0 .up)] } }

/-- `run0` with aperture 0 bound to context 0 for port 1. -/
def aptS : State := { (run0.setReg 0x60400 0x80008000) with lnk := { lnk0 with aptGen := [(0, 1)] } }

/-- Group slot 0 of positions 0 and 1, formed by context 0. -/
def group0 : GroupSlot :=
  { GroupSlot.reset with state := .formed, ctx := 0, gen := 1, shape := 0, anchor := (0, 0, 0), members := [0, 1], live := [0, 1], minLive := 1 }

/-- `handS` at position 0 with that slot under epoch 1. -/
def colS (x : GroupSlot) (ph : DescPhase) (ws : List Nat) : State := ((handS ph ws).setEpoch 0x200 1).setGroup 0 x

/-- A BROADCAST from position 1 under CSEQ 0. -/
def coll0 : Coll :=
  { slot := 0, cseq := 0, ctx := 0, gen := 1, idx := 0,
    spec := { op := 3, red := 0, dtype := 7, wide := false, algo := 2, count := 16, root := 1, chunkLog := 14, timed := false, start := 0 },
    src := 0x3000, dst := 0x3040, phase := .announced, ring := false, staged := 0, buf := [], stage := 0, got := [], partials := [], delivered := [],
    early := [], outq := [], sent := [], resent := 0, last := 0, untold := false }

/-- A group of two whose leader, this package, holds its own announcement under CSEQ 0. -/
def tableS : State :=
  let s := colS group0 .running [1]
  s.setCol { s.col with table := [(0, 0, [(0, coll0.spec, true)])] }

/-- `colS` with that COLLECTIVE at work. -/
def workS (x : Coll) : State :=
  let s := colS { group0 with cseq := 1 } .running [0x20]
  s.setCol { s.col with colls := [x] }

/-- A chunk of it. -/
def head0 : ChunkHead := { slot := 0, gepoch := 1, cseq := 0, flags := 0, step := 0, chunk := 0 }
def send1 : ColSend := { dst := 1, flags := 0, step := 0, chunk := 0, data := [1], nacks := 0 }

/-- That COLLECTIVE of a descriptor to start at Minute 9. -/
def lateS (x : Coll) : State :=
  let s := workS x
  { s with rings := [(0, { s.ring 0 with window := (s.ring 0).window.map (fun d => { d with start := some 9 }) })] }

/-- `colS` with its torus ports UP and these Dawn slots sent or waiting. -/
def dawnS (q : List (Nat × Nat × Option Nat)) : State :=
  let s := colS group0 .running [0x22]
  { s with lnk := { lnk0 with ports := [(0, port0 .up), (1, port0 .up)] }, col := { s.col with sendq := q } }

/-- A value of position 1 received on axis 0. -/
def copyS : State :=
  let s := dawnS []
  s.setCol { s.col with values := [{ slot := 0, dseq := 0, axis := 0, origin := 1, op := 0, red := 0, dtype := 0, nbytes := 4, parts := [(0, 7)], count := some 1 }] }

/-- A valid SSTAT frame: a sag, three of four shelves on line. -/
def sstat0 : List Byte :=
  let f : List Byte := [0xA5, 1, 0, 5, 0x34, 1, 0]
  f ++ [BitVec.ofNat 8 (crc8 f)]

/-- A bank die that comes back without error. -/
def bankUp0 : BankUp := ⟨0, goodWires, none, [], false⟩

/-- A bracket of context 0 whose commit has begun. -/
def br0 : Bracket :=
  { ctx := 0, gen := 1, count := 1, sets := [], ptes := [], forms := [], renews := [], bankLost := [], closeIdx := some 0, committing := true }

/-- `handS` with that bracket open and the sequence lock held. -/
def brS (b : Bracket) : State :=
  let s := handS .running [0x3D]
  { s with flt := { s.flt with bracket := some b, leases := [(1, { holder := some (0, 1), expire := 9, waiting := [] })] } }

/-- A QUEUED entry for engine position 0 of BANK_0. -/
def ent0 : DEntry := { kind := 1, cause := 3, state := deQueued, loc := 0, target := 0, spare := 4, minute := 0, day := 0, pa := 0 }

/-- `run0` in its repair phase with these entries and the step of one under way. -/
def repS (es : List DEntry) (st : Option Nat) : State := { run0 with rep := { RepairUnit.reset with entries := es, step := st, phase := true } }

/-- A warm reset under way, its bank dies held. -/
def warmS : State :=
  { run0 with
    boot := { run0.boot with warm := true, ready := false }
    ctxs := [], rings := []
    banks := (List.range 4).map (fun n => (n, { Bank.reset with phase := .retained })) }

/-- Whether a result is a next state with a property. -/
def goes (r : Result) (p : State → Bool) : Bool := match r with
  | .next u => p u
  | _ => false

/-- `up` with a reference at tick 1,000. -/
def ref0 : State := { up with day := { up.day with reference := some 1000 } }

/-- `up` at position 0. -/
def pos0 : State := { up with lnk := lnk0 }

/-- A management request of no bytes. -/
def req1 : MgtReq := ⟨7, [], true⟩

/-- The fault of an access that is known to fault. -/
def errOf {ε α : Type} : (x : Except ε α) → x.isOk = false → ε
  | .error e, _ => e

theorem error_eq {ε α : Type} {x : Except ε α} (h : x.isOk = false) : x = Except.error (errOf x h) := by
  cases x with
  | ok v => cases h
  | error e => rfl

theorem pair_some_eq {α β : Type} {x : α × Option β} (h : x.2.isSome = true) : x = (x.1, some (x.2.get h)) := by
  rw [Option.some_get]

theorem ok_pair_eq {ε α β : Type} {x : Except ε (α × β)} (h : x.isOk = true) : x = Except.ok ((okOf x h).1, (okOf x h).2) := ok_eq h

/-- The fuse record that position `n` of this package wants passes its checks. -/
theorem fuse_ok (n serial : Nat) : fuseCode n ⟨n, true, Config.pkgBind, serial, true⟩ = 0 := by simp [fuseCode]


/-! ### WellFormed: for each check a command that it refuses, and one at its bound that it lets through -/

/-- What a neighbour with nothing adopted says of itself. -/
def info0 : TimeInfo := { state := 0, hops := 0, leader := 0, adopted := false, pos := ⟨0, 0, 0⟩ }

theorem test_wf_refuses_days_and_minutes :
    [Instr.timeRequestRx 0 info0 ⟨2 ^ 48, 0, 0⟩ 0 0, .timeRequestRx 0 { info0 with pos := ⟨0, 1440, 0⟩ } ⟨0, 0, 0⟩ 0 0,
     .timeResponseRx 0 info0 ⟨0, 0, 0⟩ ⟨0, 0, 2 ^ 14⟩ ⟨0, 0, 0⟩ 0, .dayVoteMismatch ⟨0, 0, 0⟩ ⟨0, 0, 0⟩ ⟨0, 1440, 0⟩,
     .bankTimeMsgRx 0 true 0 1440 true true, .bankTimeMsgRx 0 true (2 ^ 48) 0 true true].all (fun i => !i.wf) = true ∧
    [Instr.dayVoteMismatch ⟨2 ^ 48 - 1, 1439, 2 ^ 14 - 1⟩ ⟨0, 0, 0⟩ ⟨0, 0, 0⟩, .bankTimeMsgRx 0 true (2 ^ 48 - 1) 1439 true true].all Instr.wf = true :=
  met

theorem test_wf_refuses_register_offsets :
    [Instr.pairLoRead 2 .host, .rcRead 0x1000000, .debugRequestRx 0 self0 false 6, .registerWrite 0x1000000 0 .host,
     .bar0IllegalAccess true 0 2 [], .bar0IllegalAccess false 0x1000000 4 []].all (fun i => !i.wf) = true ∧
    [Instr.pairLoRead 0xFFFFFC .host, .registerWrite 0xFFFFFC 0 .host, .bar0IllegalAccess true 1 2 [0, 0]].all Instr.wf = true := met

theorem test_wf_refuses_units :
    [Instr.bootStageDone 0 ⟨true, true, []⟩ [5] [], .bootStageDone 0 ⟨true, true, []⟩ [] [10], .bankBringupStepDone 0 0 goodWires [] [5] false,
     .bankBringupStepDone 0 10 goodWires [] [] false, .bankBringupStepDone 0 0 goodWires [(192, 0, 0)] [] false,
     .bankBringupStepDone 0 0 ⟨[(32, 0)], [], [], [], []⟩ [] [] false, .bridgeRetrainDone 0 true ⟨[], [], [], [], [(7, 0)]⟩,
     .bankDiscoveryResponse 0 ⟨4, true, 0, 0, true⟩, .bankResetDone 0 true goodWires (some ⟨0, true, 0, 2 ^ 48, true⟩) [] false,
     .bankResetDone 0 true goodWires none [5] false, .nightExitDone [bankUp0], .warmResetDone [bankUp0, bankUp0, bankUp0, bankUp0] [] [10],
     .agingMonitorSample 0 20 0, .agingMonitorSample 1 5 0, .agingMonitorSample 2 10 0, .agingMonitorSample 3 64 0, .leaseExpiry 0x110, .leaseExpiry 0,
     .packageFault 16 0 0, .packageFault 0 65536 0, .packageFault 0 0 65536, .powerOn 16, .pkgRstNRelease 16, .jtagBypass 256].all
      (fun i => !i.wf) = true ∧
    [Instr.bootStageDone 0 ⟨true, true, []⟩ [4] [9], .bankBringupStepDone 0 9 ⟨[(31, 32)], [], [], [], [(6, 1)]⟩ [(191, 1023, 0)] [4] true,
     .bankDiscoveryResponse 0 ⟨3, true, 0, 2 ^ 48 - 1, true⟩, .nightExitDone [bankUp0, bankUp0, bankUp0, bankUp0], .agingMonitorSample 0 19 0,
     .leaseExpiry 0x10F, .leaseExpiry 1, .powerOn 15].all Instr.wf = true := met

theorem test_wf_refuses_lengths :
    [Instr.bridgeFrameRx 0 true [], .doorbellReadDone 0 (some []), .descriptorFetchDone 0 (some []), .descriptorFetchDone 0 (some [[]]),
     .completionHeadRead (some []), .ingestCandidate 0 [], .ingestVerifyHeader 0 [] 0, .ingestLockHeader [] 0, .linkTrainDone 0 512 (List.replicate 8 0),
     .linkTrainDone 0 0 [], .linkRetrainDone 0 true 0 [], .flitRx 0 [] false, .remoteRequestRx 0 self0 0 0 true 0 2 [],
     .peerListRx 0 (List.replicate 257 (0, 0)), .dawnSlotRx 0 [] 0, .dawnAckRx 0 [], .sstatFrameRx [] 0,
     .linkConfirmDone 0 [] 512, .linkConfirmDone 0 (List.replicate 16 193) 512, .linkConfirmDone 0 (List.replicate 16 192) 513, .combineReadReturn 0 (2 ^ 32)].all (fun i => !i.wf) = true ∧
    [Instr.bridgeFrameRx 0 true goodFrame, .doorbellReadDone 0 none, .descriptorFetchDone 0 (some [List.replicate 8 0]), .ingestCandidate 0 hdr0,
     .linkTrainDone 0 511 (List.replicate 8 0), .peerListRx 0 (List.replicate 256 (0, 0)), .sstatFrameRx sstat0 0,
     .linkConfirmDone 0 (List.replicate 16 192) 512, .combineReadReturn 0 (2 ^ 32 - 1)].all Instr.wf = true := met

theorem test_wf_refuses_values :
    [Instr.perstDeassert 3 1, .perstDeassert 16 6, .pcieLinkReturn 0 1, .pcieLinkReturn 16 0, .railSag 0 0 0 true, .railSag 0 1000 65536 true,
     .railSagEnd 0 0 0 true, .thermalTrip 0 false 256, .temperatureSample 0 256 0, .temperatureSample 0 0 256].all (fun i => !i.wf) = true ∧
    [Instr.perstDeassert 16 5, .pcieLinkReturn 1 1, .railSag 0 1 65535 false, .temperatureSample 0 255 255].all Instr.wf = true := met

theorem test_wf_refuses_positions :
    [Instr.joinRx 128 0 ⟨0, (0, 0, 0), 0, 0, 0, true⟩, .announceRx 128 0 0 0 ⟨0, 0, 0, false, 0, 0, 0, 0, false, 0⟩ true,
     .collectiveChunkRx 128 head0 [] 0, .collectiveAckRx 128 head0 false, .suspectRx 128 0 0 0 0, .suspectRx 0 0 0 128 0, .probeRx 128 0 0 false,
     .reformRx 128 0 0 [] none, .reformRx 0 0 0 [128] none, .reformAckRx 128 0 0].all (fun i => !i.wf) = true ∧
    [Instr.joinRx 127 0 ⟨0, (0, 0, 0), 0, 0, 0, true⟩, .suspectRx 127 0 0 127 0, .reformRx 127 0 0 [127] none, .mgtGetState req1].all Instr.wf = true :=
  met

/-! ### The spec's worked cases -/

/-- Chapter 2's case at 50 Hz: where Minutes 1, 2, 8, 9 and 720 and the next Day start. -/
theorem test_minutes_at_50_hz :
    [1, 2, 8, 9, 720].map DayUnit.reset.minuteStart = [13888, 27777, 111111, 125000, 10000000] ∧ DayUnit.reset.nextDayStart = 20000000 :=
  met

/-- Chapter 2's case at 60 Hz: Minutes 1 and 720, and the fraction that the next Day carries. -/
theorem test_day_at_60_hz :
    let d : DayUnit := { DayUnit.reset with pd := 2133333333, period := 2133333333 }
    [1, 720].map d.minuteStart = [11574, 8333333] ∧
    goes (exec .dayBoundary { up with day := { d with minute := 1439, strobed := true } }) (fun u => u.day.dayStart == 16666666 && u.day.acc == 85 && u.day.day == 1) = true :=
  met

/-- Chapter 3's case: 0x1A_0000_3000 lies at 0x1_0000_1000 in STACK_5 of BANK_2. -/
theorem test_place_of_address : placeOf 0x1A00003000 = .stack 2 5 0x100001000 := met

/-- Chapter 4's case: WHEN of Day 412,907, Minute 401. -/
theorem test_when : ({ up with day := { DayUnit.reset with day := 412907, minute := 401 } } : State).stamp = 0x0191000000064CEB := met

/-- Chapter 6's case: package (1, 2, 0) finds element (5, 276, 4101) of its shard at 17,428,485. -/
theorem test_linear_offset :
    let s : State := { up with lnk := { lnk0 with pos := some (1, 2, 0), zLen := 2 } }
    let t : Tensor := { base := 0x30040000000, scaleOfs := 0xC000, format := 2, dims := [(8, 0, 0, 0), (2048, 2, 1, 128), (6144, 0, 0, 0)] }
    t.dims.map s.extent = [8, 512, 6144] ∧ s.dataBytes t = 12582912 ∧ s.linear t [5, 276, 4101] = 17428485 := met

/-- Chapter 6's case: entry 6 of level 3, 1 of level 2 and 4 of level 1, a 2 MiB leaf, map the address to 0x18_0044_F802. -/
theorem test_page_walk :
    let s : State := { run0 with mem := [] }
    let s := ((s.setBytes (0x10000 + 8 * 6) (wordBytes [0x11001])).setBytes (0x11000 + 8) (wordBytes [0x12001])).setBytes (0x12000 + 8 * 4) (wordBytes [0x180040001F])
    okD (s.walk 0 0 0x3004084F802 .read) (0, 9) = (0x180040001F, 1) ∧ leafAddr 0x180040001F 1 0x3004084F802 = 0x180044F802 := met

/-- Chapter 7's case: ROW_BYTES and the slot stride of a 480 by 640 stream of three INT8 channels in 16 by 16 patches. -/
theorem test_slot_stride :
    let b : Binding := { bind0 with height := 480, width := 640, channels := 3, patchH := 16, patchW := 16, format := 3 }
    (b.patches, b.payload, b.rowBytes, b.stride) = (1200, 921600, 768, 931264) := met

/-- The layer of chapter 8's case. -/
def layer8 : Layer := { layer0 with experts := 4, topK := 2, gating := 1, biasEn := true, capFactor := 256 }

/-- Its logits as FP32 patterns. -/
def logits8 : List (List Nat) :=
  [[0x3F800000, 0x40000000, 0, 0x3F000000], [0, 0x40400000, 0x3F800000, 0], [0x40000000, 0x3FC00000, 0x3FC00000, 0],
   [0, 0x40200000, 0, 0x3F800000], [0x3F800000, 0x40000000, 0, 0], [0x3F000000, 0x3F800000, 0, 0x40000000],
   [0, 0, 0x40000000, 0x3F800000], [0, 0x3F800000, 0, 0]]

def choices8 : List Choice := logits8.map (choose layer8 (some [0, 0, 0x3F000000, 0]))

/-- Chapter 8's case: the selections. -/
theorem test_route_selections :
    choices8.map (fun c => c.sel) = [[1, 0], [1, 2], [0, 2], [1, 3], [1, 0], [3, 1], [2, 3], [1, 2]] := met

/-- Chapter 8's case: capacity, drops, the sorted list and token 7's slots. -/
theorem test_route_capacity :
    let r := applyCapacity layer8 (choices8.map some)
    (capacity layer8 8, r.counts, r.drops, offsetsOf 0 r.counts, r.slot 7 0, r.slot 7 1) =
      (4, [3, 4, 4, 3], [0, 2, 0, 0], [0, 3, 7, 11], 0xFFFF, 10) := met

/-- Chapter 11's case: fmul(0.26894142, 3.0) in BF16. -/
theorem test_combine_product : (narrow 6 false (f32 (fmul 0x3E89B2B1 0x40400000))).bits = 0x3F4F := met

/-- Chapter 12's case: from (1, 3, 5) to (3, 0, 1) on an axis of 8: X in the N direction, then Y in the P direction, then Z in the N direction. -/
theorem test_default_route :
    [(1, 3, 5), (0, 3, 5), (3, 3, 5), (3, 0, 5), (3, 0, 2), (3, 0, 1)].map (fun p => dimPort p 8 93 19) = [1, 1, 2, 5, 5, 0xE] := met

/-- Chapter 13's case: a PLANE_XY at z = 0 of a 4 by 4 by 4 installation: 16 members, rank 6 of position 6, MIN_LIVE 9. -/
theorem test_group_members :
    shapeMembers 3 (0, 0, 0) 4 = List.range 16 ∧ rankIn (shapeMembers 3 (0, 0, 0) 4) 6 = 6 ∧ minLiveOf 16 0 = 9 := met

/-- Chapter 14's case at the start of local Hour `h`: the Hour before measured `m` and charged `c` over `t` ns. -/
def hour14 (minute h c t : Nat) : State :=
  let s := ((run0.setReg 0x20000 (BitVec.ofNat 32 (2 ^ 30 + 100 + 50 * 2 ^ 16))).setReg 0x20004 850000)
  { s with
    clk := h, day := { DayUnit.reset with minute := minute, strobed := true, hourOfs := 5, due := [.hourAccounting] }
    pwr := { s.pwr with tempA := (List.range 5).map (fun d => (d, 71)), tempB := (List.range 5).map (fun d => (d, 71)),
                        ledger := { s.pwr.ledger with measured := true, charged := c, hourLen := t } } }

/-- Chapter 14's case: A and W of local Hours 07 and 08. -/
theorem test_hour_accounting :
    goes (exec (.hourAccounting 500000) (hour14 120 1666666 240000 833333)) (fun u => u.reg 0x20014 == 583333 && u.reg 0x20018 == 323333) = true ∧
    goes (exec (.hourAccounting 580100) (hour14 180 2500000 321600 833334)) (fun u => u.reg 0x20014 == 663432 && u.reg 0x20018 == 404932) = true :=
  met

/-- An item of 150 uJ in an untouched Hour of 100 uJ (R147): nothing is left while it runs, and its charge leaves a debt of 50 uJ (R423). -/
theorem test_oversized_item_leaves_debt :
    let s := (up.setReg 0x20018 100).reserve { kind := 0, a := 3, b := 0, est := 150 }
    s.reg 0x20018 = 0 ∧ (s.settle 0 3 0 150).reg 0x20018 = 0 ∧ (s.settle 0 3 0 150).reg 0x2001C = 50 ∧ (s.settle 0 3 0 90).reg 0x20018 = 10 :=
  met

/-- Chapter 15's case: a TAKE of bias set 2 for 600 Minutes in Minute 605 of Day 1,200, its epoch at 6. -/
theorem test_lease_take :
    let s := (withDesc run0 [0x38, 0, 0x25800000102]).setEpoch 0x102 6
    goes (exec (.leaseTake 0) { s with day := { s.day with day := 1200, minute := 605 } })
      (fun u => (u.outcome 0 0).map (fun o => o.2.1) == some 0x25800000007 && (u.lease 0x102).expire == 1200 * 1440 + 1206) = true :=
  met

/-- Chapter 16's case: the words of the entry that the aging monitor queues. -/
theorem test_defect_entry :
    ({ kind := 1, cause := 3, state := deQueued, loc := 2, target := 1, spare := 4, minute := 197, day := 4211, pa := 0 } : DEntry).words =
      [0x1300000200010004, 0x00C5000000001073] := met

/-- Chapter 18's case: SET_MGMT_VIEW of BANK_3 as failed answers with FLT_VIEW_3. -/
theorem test_set_mgmt_view :
    goes (exec (.mgtSetMgmtView ⟨7, [3, 1], true⟩) up) (fun u => u.mgt.response == some [7, 0, 0x90, 0, 1, 0] && (u.reg 0xC0008).toNat.testBit 15) = true :=
  met

/-- Chapter 20's case: a write that would change SQ_SIZE of an ACTIVE ring changes nothing and is recorded. -/
theorem test_locked_write :
    let s := { run0 with rings := [(9, { Ring.reset with state := .active })], regs := [(0x1130, 0x88000000)] }
    goes (exec (.registerWrite 0x1130 0x0C000000 .host) s) (fun u => u.reg 4 == 0x90001130 && u.reg 0x1130 == 0x88000000) = true :=
  met

/-! ### Witnesses of the statements, in their order: one state and operands for each clause that has hypotheses -/

theorem witness_idle_step :
    (∃ s : State, s.pending = [] ∧ s.pwr.wakeWork = []) ∧
    (∃ (s : State) (c : Instr) (rest : List Instr), s.pending = [] ∧ s.pwr.wakeWork = c :: rest ∧ s.awake = true) :=
  ⟨⟨State.reset, met⟩, ⟨{ up with pwr := { PwrUnit.reset with wakeWork := [.nop 0] } }, .nop 0, [], met⟩⟩

theorem witness_step_keeps_invariant : ∃ s t : State, Inv s ∧ step s = .next t := ⟨State.reset, _, inv_of met, rfl⟩

theorem witness_commands_keep_queue_and_history : ∃ (c : Instr) (s t : State), exec c s = .next t := ⟨.nop 0, State.reset, _, rfl⟩

theorem witness_commands_leave_other_parts : ∃ (c : Instr) (s t : State) (p : Part), exec c s = .next t ∧ p ∉ c.touches :=
  ⟨.nop 0, State.reset, _, .day, rfl, met⟩

theorem witness_phref_commands :
    (∃ (t : Nat) (s : State), s.day.refLost = false ∧ (∀ r, s.day.reference = some r → (s.day.period : Int) ≤ ((t : Int) - r) * 256)) ∧
    (∃ (t : Nat) (s : State) (r : Int), Inv s ∧ s.day.refLost = false ∧ s.day.reference = some r ∧ ((t : Int) - r) * 256 < s.day.period) ∧
    (∃ (t : Nat) (s : State) (r : Int), s.day.refLost = false ∧ s.day.reference = some r ∧ 5 * (s.day.period : Int) ≤ ((t : Int) - r) * 512) ∧
    (∃ (t : Nat) (s : State) (r : Int), s.day.refLost = false ∧ s.day.reference = some r ∧ ((t : Int) - r) * 512 < 5 * (s.day.period : Int)) ∧
    (∃ (s : State), s.day.refLost = true) :=
  ⟨⟨10001000, ref0, met⟩,
   ⟨10000999, ref0, 1000, inv_of met, met⟩,
   ⟨25001000, ref0, 1000, met⟩,
   ⟨25000999, ref0, 1000, met⟩,
   ⟨{ ref0 with day := { ref0.day with refLost := true } }, met⟩⟩

theorem witness_day_and_minute_starts :
    (∃ (s : State), s.day.strobed = true ∧ s.day.minute = 1439) ∧
    (∃ (s : State), ¬(s.day.strobed = true ∧ s.day.minute = 1439)) ∧
    (∃ (s : State), Inv s ∧ ¬(s.day.strobed = true ∧ s.day.minute = 1439)) ∧
    (∃ (s : State), s.day.strobed = true ∧ s.day.minute = 1439) ∧
    (∃ (s : State), s.day.state = .holdover ∧ (s.fld 0x10024 0 16 * 1440 = s.day.heldFor ∨ s.fld 0x10024 0 16 * 1440 < s.day.heldFor ∧
      s.day.minute = 0)) ∧
    (∃ (s : State), (s.day.state ≠ .holdover ∨ s.day.heldFor < s.fld 0x10024 0 16 * 1440)) ∧
    (∃ (s : State), s.day.state = .acquire) ∧
    (∃ (s : State), s.day.state ≠ .acquire) :=
  ⟨⟨{ up with day := { up.day with strobed := true, minute := 1439, day := 2 ^ 48 - 1 } }, met⟩,
   ⟨{ up with day := { up.day with strobed := true, minute := 1438 } }, met⟩,
   ⟨{ up with day := { up.day with strobed := true, minute := 1438, due := [.evening 3] } }, inv_of met, met⟩,
   ⟨{ up with day := { up.day with strobed := true, minute := 1439 } }, met⟩,
   ⟨{ up.setReg 0x10024 3 with day := { up.day with state := .holdover, holdDays := 3, holdMin := 310, minute := 310 } }, met⟩,
   ⟨{ up.setReg 0x10024 3 with day := { up.day with state := .holdover, holdDays := 3, holdMin := 310, minute := 309 } }, met⟩,
   ⟨{ up with day := { up.day with state := .acquire } }, met⟩,
   ⟨{ up with day := { up.day with state := .free } }, met⟩⟩

theorem witness_time_messages :
    (∃ (s : State), s.day.minute % 60 = 30) ∧
    (∃ (s : State), s.day.minute % 60 ≠ 30) ∧
    (∃ (s : State), s.day.adopted = false) ∧
    (∃ (s : State), s.day.adopted = true) ∧
    (∃ (i : TimeInfo) (s : State), s.day.refLost = false ∧ s.day.adopted = false ∧ s.boot.done = true ∧
      (DayState.ofCode i.state = .locked ∨ DayState.ofCode i.state = .follow) ∧ i.adopted = true) ∧
    (∃ (p : TorusPort) (i : TimeInfo) (t1 t2 t3 : DayPos) (t4 : Nat) (s : State), s.day.refLost = false ∧ s.day.adopted = true ∧
      ((s.reachClk t4).hear p.val i t3 (s.day.told i s.absMin t1 t2 t3 t4).at_).elect.day.parent = p.val + 1) :=
  ⟨⟨{ portS (port0 .up) with day := { up.day with minute := 30 } }, met⟩,
   ⟨{ portS (port0 .up) with day := { up.day with minute := 31 } }, met⟩,
   ⟨portS (port0 .up), met⟩,
   ⟨{ portS (port0 .up) with day := { up.day with adopted := true } }, met⟩,
   ⟨⟨2, 1, 0, true, ⟨5, 3, 0⟩⟩, portS (port0 .up), met⟩,
   ⟨0, ⟨2, 1, 4, true, ⟨0, 3, 0⟩⟩, ⟨0, 0, 100⟩, ⟨0, 0, 110⟩, ⟨0, 0, 120⟩, 200, { portS (port0 .up) with day := { up.day with adopted := true } }, met⟩⟩

theorem witness_day_adoption :
    (∃ (s : State), Inv s ∧ s.served ∧ s.day.adopted = false ∧ ¬(s.boot.done = true ∧ s.posValid = true ∧ s.position = 0)) ∧
    (∃ (s : State), Inv s ∧ s.served ∧ s.day.adopted = false ∧ s.boot.done = true ∧ s.posValid = true ∧ s.position = 0) ∧
    (∃ (v : Word) (s : State), s.served ∧ s.day.adopted = true ∧ wfld v 0 16 ≠ s.fld 0x1002C 0 16) ∧
    (∃ (s : State), s.boot.done = true ∧ s.day.adopted = false ∧ s.posValid = true ∧ s.position = 0) ∧
    (∃ (s : State), s.boot.done = true ∧ s.day.adopted = false ∧ ¬(s.posValid = true ∧ s.position = 0)) ∧
    (∃ (s : State), s.boot.done = true ∧ s.day.adopted = false ∧ s.day.parent = 0) ∧
    (∃ (s : State), (s.boot.done = false ∨ s.day.adopted = true ∨ s.day.parent ≠ 0)) :=
  ⟨⟨up, inv_of met, met⟩,
   ⟨pos0, inv_of met, met⟩,
   ⟨0x12345, { pos0 with day := { up.day with adopted := true } }, met⟩,
   ⟨pos0, met⟩,
   ⟨up, met⟩,
   ⟨up, met⟩,
   ⟨{ up with day := { up.day with parent := 1 } }, met⟩⟩

theorem witness_day_settings :
    (∃ (v : Word) (s : State), Inv s ∧ s.served ∧ v.toNat % 32 < 24) ∧
    (∃ (v : Word) (s : State), Inv s ∧ s.served ∧ 24 ≤ v.toNat % 32) ∧
    (∃ (s : State), Inv s ∧ s.served) ∧
    (∃ (s : State), Inv s ∧ s.served) ∧
    (∃ (pos : DayPos) (at_ : Int) (s : State), s.served ∧ (∀ r ∈ leaseResources, (s.lease r).holder = none) ∧ s.dayEventPending = false ∧
      (∀ c ∈ ctxRange, (s.ctx c).state ≠ .open_) ∧ s.day.parent ≠ 0 ∧ s.parentPos = some (pos, at_)) ∧
    (∃ (s : State), s.served ∧ (s.day.parent = 0 ∨ s.dayEventPending = true ∨ (∃ r ∈ leaseResources, (s.lease r).holder ≠ none) ∨ ∃ c ∈ ctxRange,
      (s.ctx c).state = .open_)) ∧
    (∃ (a b : DayPos) (i : Instr) (s : State), Inv s ∧ a ≠ b ∧ (i = .dayVoteMismatch a a b ∨ i = .dayVoteMismatch a b a ∨ i = .dayVoteMismatch b a a)) ∧
    (∃ (a b c : DayPos), a ≠ b ∧ b ≠ c ∧ a ≠ c) :=
  ⟨⟨23, up, inv_of met, met⟩,
   ⟨24, up, inv_of met, met⟩,
   ⟨up, inv_of met, met⟩,
   ⟨{ up with day := { up.day with state := .acquire } }, inv_of met, met⟩,
   ⟨⟨7, 100, 5⟩, -3, { up with day := { up.day with parent := 6, voteFail := true, neighbours := [(6, some { state := .locked, hops := 0, leader := 4, adopted := true, heard := 0, pos := ⟨7, 100, 5⟩, at_ := -3 })] } },
     met⟩,
   ⟨{ up with day := { up.day with parent := 6, due := [.evening 1] } }, met⟩,
   ⟨⟨0, 0, 0⟩, ⟨0, 0, 1⟩, .dayVoteMismatch ⟨0, 0, 0⟩ ⟨0, 0, 1⟩ ⟨0, 0, 0⟩, up, inv_of met, met⟩,
   ⟨⟨0, 0, 0⟩, ⟨0, 1, 0⟩, ⟨1, 0, 0⟩, met⟩⟩

theorem witness_day_now_reads (who : Reader) (h : who = .host ∨ who = .mgmt) :
    up.reaches who 0x10008 = true ∧ tabGet (fun _ => none) (up.latches who) 0x10008 = none ∧
      ∃ u, exec (.dayNowLoRead who) up = .next u ∧ u.reaches who 0x1000C = true ∧ u.reaches who 0x10010 = true := by
  rcases h with rfl | rfl <;> exact ⟨met, met, _, rfl, met, met⟩

theorem witness_register_reads :
    (∃ (off : Nat) (who : Reader) (s : State), s.reaches who (off / 4 * 4) = true ∧ off / 4 * 4 ≠ 0x9001C ∧ tabWf (fun _ => none)
      (s.latches who) = true) ∧
    (∃ (off : Nat) (r : RegRow) (s : State), Inv s ∧ s.barServed = true ∧ regRow (off / 4 * 4) = some r) ∧
    (∃ (s : State), s.barServed = true ∧ tabWf (fun _ => 0) s.pwr.railLow = true) ∧
    (∃ (s : State), s.barServed = true ∧ tabWf (fun _ => 0) s.pwr.peak = true) ∧
    (∃ (i : Instr) (who : Reader) (s : State), Inv s ∧ ((i = .rcRead 0x9001C ∧ who = .host) ∨ i = .pairLoRead 0x9001C who) ∧
      s.reaches who 0x9001C = true ∧ tabGet (fun _ => none) (s.latches who) 0x9001C = none) ∧
    (∃ (who : Reader) (s : State), tabWf (fun _ => none) (s.latches who) = true ∧ s.reaches who 0x408 = true) ∧
    (∃ (off : Nat) (s : State), s.barServed = true ∧ regRow (off / 4 * 4) = none) ∧
    (∃ (off : Nat) (who : Reader) (i : Instr) (s : State), ((i = .pairLoRead off who ∧ s.reaches who (off / 4 * 4) = false) ∨ (i = .rcRead off ∧
      s.barServed = false) ∨ (i = .dmapEntryRead who ∧ s.reaches who 0x408 = false) ∨ (i = .dayNowLoRead who ∧ s.reaches who 0x10008 = false))) :=
  ⟨⟨0x1000A, .mgmt, up, met⟩,
   ⟨0x10038, (regRow 0x10038).getD ⟨0, 0, 0, 0, 0, 0, 0, 0, 0, 0, 0, 0⟩, up.setReg 0x10038 5, inv_of met, met⟩,
   ⟨{ up with pwr := { up.pwr with railLow := [(9, 4)] } }, met⟩,
   ⟨{ up with pwr := { up.pwr with peak := [(4, 4)] } }, met⟩,
   ⟨.rcRead 0x9001C, .host, up.setReg 0x9001C 5, inv_of met, met⟩,
   ⟨.mgmt, up, met⟩,
   ⟨0x2030, up, met⟩,
   ⟨0, .host, .dayNowLoRead .host, { up with host := { up.host with linkUp := false } }, met⟩⟩

theorem witness_boot_and_bringup :
    (∃ (s : State), s.bootRuns ∧ s.boot.stage = 0) ∧
    (∃ (s : State), s.bootRuns ∧ s.boot.stage = 1 ∧ s.boot.refOk = true ∧ (∀ n < 4, (s.bank n).phase ≠ .failed)) ∧
    (∃ (s : State), s.bootRuns ∧ s.boot.stage = 1 ∧ s.boot.refOk = false) ∧
    (∃ (code : Nat) (s : State), Inv s ∧ s.bootRuns ∧ code ≠ 0) ∧
    (∃ (n : BankId) (s : State), (s.bank n.val).phase = .bringup 1) ∧
    (∃ (n : BankId) (k code : Nat) (s : State), (s.bank n.val).phase = .bringup k ∧ 1 ≤ k ∧ k ≤ 4 ∧ code ≠ 0 ∧ s.boot.midnightExit = false ∧
      (s.bank n.val).repeats < 2) ∧
    (∃ (n : BankId) (k code : Nat) (s : State), (s.bank n.val).phase = .bringup k ∧ 1 ≤ k ∧ k ≤ 4 ∧ code ≠ 0 ∧ s.boot.midnightExit = false ∧ 2 ≤
      (s.bank n.val).repeats) ∧
    (∃ (n : BankId) (r : FuseRecord) (s : State), r.pkgBind = Config.pkgBind ∧ (s.bank n.val).phase = .bringup 3 ∧ (s.bank n.val).serial = none ∧
      r.eccOk = true ∧ r.posValid = true ∧ r.pos = n.val) ∧
    (∃ (n : BankId) (r : FuseRecord) (s : State), (s.bank n.val).phase = .bringup 3 ∧ s.boot.midnightExit = false ∧ (s.bank n.val).repeats < 2 ∧
      (r.eccOk = false ∨ r.posValid = false ∨ r.pos ≠ n.val ∨ r.pkgBind ≠ Config.pkgBind)) ∧
    (∃ (n : BankId) (s : State), ((s.bank n.val).phase = .down ∨ (s.bank n.val).phase = .active ∨ (s.bank n.val).phase = .resetting ∨
      (s.bank n.val).phase = .failed ∨ (s.bank n.val).phase = .retained)) ∧
    (∃ (n : BankId) (s : State), (s.bank n.val).phase ≠ .bringup 3) :=
  ⟨⟨{ State.reset with boot := { Boot.reset with powered := true, rstN := true } }, met⟩,
   ⟨{ State.reset with clk := 5, boot := { Boot.reset with powered := true, rstN := true, refOk := true, stage := 1 } }, met⟩,
   ⟨{ State.reset with boot := { Boot.reset with powered := true, rstN := true, refOk := false, stage := 1 } }, met⟩,
   ⟨12, { State.reset with boot := { Boot.reset with powered := true, rstN := true, stage := 1 } }, inv_of met, met⟩,
   ⟨2, { State.reset with banks := [(2, { Bank.reset with phase := .bringup 1, startAt := 40000 })] }, met⟩,
   ⟨3, 4, 6, { State.reset with banks := [(3, { Bank.reset with phase := .bringup 4, repeats := 1 })] }, met⟩,
   ⟨3, 1, 6, { State.reset with banks := [(3, { Bank.reset with phase := .bringup 1, repeats := 2 })] }, met⟩,
   ⟨1, ⟨1, true, Config.pkgBind, 0x77, true⟩, { State.reset with banks := [(1, { Bank.reset with phase := .bringup 3 })] }, rfl, met⟩,
   ⟨1, ⟨2, true, Config.pkgBind, 0x77, true⟩, { State.reset with banks := [(1, { Bank.reset with phase := .bringup 3 })] }, met⟩,
   ⟨1, up, met⟩,
   ⟨1, up, met⟩⟩

theorem witness_bank_die_loss_and_reset :
    (∃ (n : BankId) (s : State), (s.bank n.val).phase = .active) ∧
    (∃ (n : BankId) (s : State), (s.bank n.val).phase ≠ .active) ∧
    (∃ (n : BankId) (s : State), s.served ∧ (s.bank n.val).phase = .active ∧ (s.bank n.val).bridge ≠ .retrain ∧ s.bankWork n.val = [] ∧
      s.ingestOnBank n.val = false) ∧
    (∃ (n : BankId) (s : State), s.served ∧ (s.bank n.val).phase = .active ∧ (s.bank n.val).bridge = .retrain) ∧
    (∃ (n : BankId) (s : State), s.served ∧ ((s.bank n.val).phase ≠ .active ∨ ((s.bank n.val).bridge ≠ .retrain ∧ (s.bankWork n.val ≠
      [] ∨ s.ingestOnBank n.val = true)))) ∧
    (∃ (n : BankId) (s : State), s.served ∧ (s.bank n.val).phase = .failed) ∧
    (∃ (n : BankId) (s : State), s.served ∧ (s.bank n.val).phase ≠ .failed) ∧
    (∃ (n : BankId) (w : WireTest) (r : FuseRecord) (s : State), Inv s ∧ fuseCode n.val r = 0 ∧ (s.bank n.val).phase = .resetting ∧ (assignSpares
      (s.bank n.val).h2b.spares (s.mapWires n.val 0 deApplied ++ w.badH2b)).isSome = true ∧ (assignSpares (s.bank n.val).b2h.spares
      (s.mapWires n.val 1 deApplied ++ w.badB2h)).isSome = true ∧ w.pairDead = false ∧ ((s.bank n.val).serial = none ∨
      (s.bank n.val).serial = some r.serial) ∧ (s.bank n.val).waiting = [] ∧ s.cmb.sends = [] ∧ s.col.colls = []) ∧
    (∃ (n : BankId) (ok : Bool) (r : Option FuseRecord) (s : State), (s.bank n.val).phase = .resetting ∧ (ok = false ∨ r = none ∨ (r.map
      (fuseCode n.val)).getD 0 ≠ 0)) ∧
    (∃ (s : State), Inv s) :=
  ⟨⟨3, up, met⟩,
   ⟨3, retr, met⟩,
   ⟨3, up, met⟩,
   ⟨1, retr, met⟩,
   ⟨1, { up with banks := [(1, { Bank.reset with phase := .failed })] }, met⟩,
   ⟨1, { up with banks := [(1, { Bank.reset with phase := .failed, memFault := true })] }, met⟩,
   ⟨1, up, met⟩,
   ⟨1, goodWires, ⟨1, true, Config.pkgBind, 0x77, true⟩,
     { up with banks := [(1, { Bank.reset with phase := .resetting, memFault := true, serial := some 0x77 })], mem := [(0xC00000000, 5), (0x4003FFFFFF, 1), (0x4004000000, 2)] },
     inv_of met, fuse_ok _ _, met⟩,
   ⟨1, true, some ⟨2, true, Config.pkgBind, 0x77, true⟩, { up with banks := [(1, { Bank.reset with phase := .resetting, memFault := true })] }, met⟩,
   ⟨up, inv_of met⟩⟩

set_option maxRecDepth 1000000 in
theorem witness_bridge_commands :
    (∃ (n : BankId) (toBank : Bool) (frame : List Byte) (s : State), frameOk frame = true ∧ (s.bank n.val).carries = true ∧ s.boot.warm = false ∧
      bitsOf (sideband frame) 66 3 = 1 ∧ bitsOf (sideband frame) 0 10 = ((s.bank n.val).dir toBank).expect) ∧
    (∃ (n : BankId) (toBank : Bool) (frame : List Byte) (s : State), frameOk frame = true ∧ (s.bank n.val).carries = true ∧ s.boot.warm = false ∧
      bitsOf (sideband frame) 66 3 = 1 ∧ bitsOf (sideband frame) 0 10 ≠ ((s.bank n.val).dir toBank).expect) ∧
    (∃ (n : BankId) (frame : List Byte) (s : State), Inv s ∧ frameOk frame = false ∧ (s.bank n.val).carries = true ∧ ¬(bitsOf
      (sideband frame) 66 3 = 0 ∧ frame.length = 528)) ∧
    (∃ (n : BankId) (frame : List Byte) (s : State), Inv s ∧ frameOk frame = false ∧ (s.bank n.val).carries = true ∧ bitsOf
      (sideband frame) 66 3 = 0 ∧ frame.length = 528) ∧
    (∃ (n : BankId) (toBank : Bool) (frame : List Byte) (s : State), frameOk frame = true ∧ (s.bank n.val).carries = true ∧ s.boot.warm = false ∧
      ((s.bank n.val).dir (!toBank)).queue = []) ∧
    (∃ (n : BankId) (s : State), (s.bank n.val).carries = false) ∧
    (∃ (n : BankId) (s : State), ((s.bank n.val).bridge = .up ∨ (s.bank n.val).bridge = .idle)) ∧
    (∃ (n : BankId) (s : State), (s.bank n.val).bridge ≠ .up ∧ (s.bank n.val).bridge ≠ .idle) ∧
    (∃ (n : BankId) (w : WireTest) (s : State), (s.bank n.val).bridge = .retrain ∧ (s.bank n.val).resetWait = false ∧ (assignSpares
      (s.bank n.val).h2b.spares (s.mapWires n.val 0 deApplied ++ w.badH2b)).isSome = true ∧ (assignSpares (s.bank n.val).b2h.spares
      (s.mapWires n.val 1 deApplied ++ w.badB2h)).isSome = true ∧ w.pairDead = false) ∧
    (∃ (n : BankId) (s : State), (s.bank n.val).bridge = .retrain ∧ (s.bank n.val).badRetrains + 1 < 3) ∧
    (∃ (n : BankId) (s : State), (s.bank n.val).bridge = .retrain ∧ 3 ≤ (s.bank n.val).badRetrains + 1) ∧
    (∃ (n : BankId) (s : State), (s.bank n.val).bridge ≠ .retrain) ∧
    (∃ (s : State), Inv s) :=
  ⟨⟨1, true, goodFrame, up, met, met⟩,
   ⟨1, false, goodFrame,
     { up with banks := [(1, { Bank.reset with phase := .active, bridge := .up, b2h := { BridgeDir.reset with expect := 3 } })] }, met, met⟩,
   ⟨1, goodFrame.drop 1, up, inv_of met, met, met⟩,
   ⟨1, List.replicate 528 0, up, inv_of met, met, met⟩,
   ⟨1, true, makeFrame 0 0 (2, 6) [] (0, 0) (0, 0),
     { up with banks := [(1, { Bank.reset with phase := .active, bridge := .up, b2h := { BridgeDir.reset with unacked := [(5, []), (6, [])] } })] },
     met, met⟩,
   ⟨1, retr, met⟩,
   ⟨1, up, met⟩,
   ⟨1, retr, met⟩,
   ⟨1, goodWires, { up with banks := [(1, { Bank.reset with phase := .active, bridge := .retrain, badRetrains := 2, h2b := { BridgeDir.reset with unacked := [(5, []), (6, [])] } })] },
     met⟩,
   ⟨1, retr, met⟩,
   ⟨1, { up with banks := [(1, { Bank.reset with phase := .active, bridge := .retrain, badRetrains := 2 })] }, met⟩,
   ⟨1, up, met⟩,
   ⟨up, inv_of met⟩⟩

theorem witness_polls_and_fetches :
    (∃ (t : Nat) (s : State), s.polls = true ∧ s.host.nextPoll ≤ max s.clk t ∧ s.awake = true) ∧
    (∃ (t : Nat) (s : State), (s.polls = false ∨ max s.clk t < s.host.nextPoll ∨ s.pwr.exiting = true)) ∧
    (∃ (s : State), s.served ∧ s.polls = true ∧ s.awake = true) ∧
    (∃ (s : State), s.served ∧ s.polls = false ∧ s.awake = true) ∧
    (∃ (b : Fin 2) (bs : List Byte) (s : State), (∃ x ∈ s.host.dbOut, x.1 = b.val) ∧ s.flt.pkgFault = false ∧ (∀ c ∈ ctxRange, c / 32 = b.val →
      (s.ring c).state = .active → (s.ctx c).state = .open_ → (leNat ((bs.drop (2 * (c % 32))).take 2) + 65536 -
      (s.ring c).sqHead) % 65536 ≤ s.sqSize c)) ∧
    (∃ (b : Fin 2) (s : State), (∀ x ∈ s.host.dbOut, x.1 ≠ b.val)) ∧
    (∃ (c : CtxId) (ds : List (List DWord)) (s : State), (s.ring c.val).fetching = ds.length ∧ ds ≠ [] ∧ ((s.ring c.val).state = .active ∨
      (s.ring c.val).state = .draining)) ∧
    (∃ (c : CtxId) (s : State), (s.ring c.val).fetching = 0) ∧
    (∃ (s : State), Inv s ∧ s.anyFull = true ∧ s.hostAlive = true ∧ s.host.linkUp = true ∧ s.host.headPoll ≤ s.clk) ∧
    (∃ (s : State), (s.anyFull = false ∨ s.hostAlive = false ∨ s.host.linkUp = false ∨ s.clk < s.host.headPoll)) ∧
    (∃ (b : Fin 2) (s : State), Inv s ∧ (∃ x ∈ s.host.dbOut, x.1 = b.val)) ∧
    (∃ (c : CtxId) (s : State), Inv s ∧ (s.ring c.val).fetching ≠ 0 ∧ ((s.ring c.val).state = .active ∨ (s.ring c.val).state = .draining) ∧
      (s.ctx c.val).state = .open_) :=
  ⟨⟨5000, run0, met⟩,
   ⟨7, up, met⟩,
   ⟨run0, met⟩,
   ⟨up, met⟩,
   ⟨0, [3, 0], { run0 with host := { run0.host with dbOut := [(0, 0)], dbFails := 3 } }, met⟩,
   ⟨1, run0, met⟩,
   ⟨0, [[1, 2], [3]], { run0 with rings := [(0, { Ring.reset with state := .active, fetching := 2, sqHead := 65535 })] }, met⟩,
   ⟨0, run0, met⟩,
   ⟨{ run0 with rings := [(0, { Ring.reset with state := .active, cqTail := 16 })] }, inv_of met, met⟩,
   ⟨run0, met⟩,
   ⟨0, { run0 with host := { run0.host with dbOut := [(0, 0)], dbFails := 3 } }, inv_of met, met⟩,
   ⟨0, { run0 with rings := [(0, { Ring.reset with state := .active, fetching := 2 })] }, inv_of met, met⟩⟩

theorem witness_completions_and_rings :
    (∃ (c : CtxId) (d : Desc) (code detail epoch : Nat) (s : State), Inv s ∧ s.desc c.val d.idx = some d ∧ d.phase = .ended code detail epoch ∧
      s.unacked c.val d.idx = false ∧ ¬(d.noCpl = true ∧ code < 0x10) ∧ (s.ring c.val).reserve = [] ∧ s.hostAlive = true ∧ s.host.linkUp = true ∧
      s.cqRoom c.val = true) ∧
    (∃ (c : CtxId) (d : Desc) (code detail epoch : Nat) (s : State), Inv s ∧ s.desc c.val d.idx = some d ∧ d.phase = .ended code detail epoch ∧
      s.unacked c.val d.idx = false ∧ ¬(d.noCpl = true ∧ code < 0x10) ∧ s.cqRoom c.val = false) ∧
    (∃ (c : CtxId) (d : Desc) (code detail epoch : Nat) (s : State), Inv s ∧ s.desc c.val d.idx = some d ∧ d.phase = .ended code detail epoch ∧
      s.unacked c.val d.idx = false ∧ d.noCpl = true ∧ code < 0x10) ∧
    (∃ (c : CtxId) (idx : Nat) (s : State), s.unacked c.val idx = true) ∧
    (∃ (c : CtxId) (t t0 : Nat) (s : State), Inv s ∧ (s.ring c.val).firstUnsig = some t0 ∧ s.fld (0x1010 + 0x20 * c.val) 16 4 ≠ 0 ∧ t0 + 2 ^ (s.fld
      (0x1010 + 0x20 * c.val) 16 4 - 1) * 1000 ≤ max s.clk t ∧ s.hostAlive = true) ∧
    (∃ (c : CtxId) (t t0 : Nat) (s : State), (s.ring c.val).firstUnsig = some t0 ∧ max s.clk t < t0 + 2 ^ (s.fld
      (0x1010 + 0x20 * c.val) 16 4 - 1) * 1000) ∧
    (∃ (c : CtxId) (v : Word) (s : State), Inv s ∧ s.served ∧ (s.ctx c.val).state = .open_ ∧ (s.ring c.val).state = .closed ∧ s.rbit
      (0x1010 + 0x20 * c.val) 31 = false ∧ 4 ≤ wfld v 24 4 ∧ wfld v 24 4 ≤ 12 ∧ 4 ≤ wfld v 20 4 ∧ wfld v 20 4 ≤ 12) ∧
    (∃ (c : CtxId) (v : Word) (s : State), s.served ∧ (s.ring c.val).state = .closed ∧ s.rbit (0x1010 + 0x20 * c.val) 31 = false ∧
      ((s.ctx c.val).state ≠ .open_ ∨ wfld v 24 4 < 4 ∨ 12 < wfld v 24 4 ∨ wfld v 20 4 < 4 ∨ 12 < wfld v 20 4)) ∧
    (∃ (c : CtxId) (v : Word) (s : State), Inv s ∧ s.served ∧ (s.ring c.val).state = .active ∧ (s.reg
      (0x1010 + 0x20 * c.val) ^^^ v) &&& 0x0FFFFF3F = 0) ∧
    (∃ (c : CtxId) (s : State), Inv s ∧ s.served ∧ (s.ring c.val).state = .stopped) ∧
    (∃ (v : Word) (s : State), Inv s ∧ s.served ∧ s.rbit 0x230 31 = false ∧ bitAt v.toNat 31 = true ∧ 4 ≤ wfld v 0 4 ∧ wfld v 0 4 ≤ 12 ∧ s.host.evq =
      []) ∧
    (∃ (v : Word) (s : State), s.served ∧ s.rbit 0x230 31 = false ∧ bitAt v.toNat 31 = true ∧ (wfld v 0 4 < 4 ∨ 12 < wfld v 0 4)) :=
  ⟨⟨0, { ended0 with phase := .ended 0 7 0 }, 0, 7, 0,
     { run0 with rings := [(0, { Ring.reset with state := .active, sqHead := 1, sqTail := 1, window := [{ ended0 with phase := .ended 0 7 0 }] })] },
     inv_of met, met⟩,
   ⟨0, { ended0 with phase := .ended 0 7 0 }, 0, 7, 0,
     { run0 with rings := [(0, { Ring.reset with state := .active, cqTail := 16, sqHead := 1, sqTail := 1, window := [{ ended0 with phase := .ended 0 7 0 }] })] },
     inv_of met, met⟩,
   ⟨0, { ended0 with words := [0x800], phase := .ended 0 7 0 }, 0, 7, 0,
     { run0 with rings := [(0, { Ring.reset with state := .active, sqHead := 1, sqTail := 1, window := [{ ended0 with words := [0x800], phase := .ended 0 7 0 }] })] },
     inv_of met, met⟩,
   ⟨0, 0, { run0 with banks := [(1, { Bank.reset with waiting := [⟨0, 0, 0, [1], false⟩] })] }, met⟩,
   ⟨0, 2000, 0, { run0 with regs := [(0x200, 1), (0x1010, 0x84410000)], rings := [(0, { Ring.reset with state := .active, firstUnsig := some 0, unsignalled := 1 })] },
     inv_of met, met⟩,
   ⟨0, 999, 0, { run0 with regs := [(0x200, 1), (0x1010, 0x84410000)], rings := [(0, { Ring.reset with state := .active, firstUnsig := some 0, unsignalled := 1 })] },
     met⟩,
   ⟨63, 0x0C400000, { up with ctxs := [(63, { state := .open_, cause := 0, gen := 1 })] }, inv_of met, met⟩,
   ⟨0, 0x03400000, { up with ctxs := [(0, { state := .open_, cause := 0, gen := 1 })] }, met⟩,
   ⟨0, 0x04400000, run0, inv_of met, met⟩,
   ⟨0, { run0 with rings := [(0, { Ring.reset with state := .stopped })] }, inv_of met, met⟩,
   ⟨0x8000000C, up, inv_of met, met⟩,
   ⟨0x8000000D, up, met⟩⟩

theorem witness_host_link_and_resets :
    (∃ (ns : Nat) (s : State), 10000000 < ns ∧ s.pwr.state ≠ .midnight ∧ s.host.perst = false ∧ s.boot.hostReset = false) ∧
    (∃ (ns : Nat), ns ≤ 10000000) ∧
    (∃ (s : State), s.host.perst = false) ∧
    (∃ (s : State), s.host.perst = true) ∧
    (∃ (s : State), s.pwr.state ≠ .midnight) ∧
    (∃ (s : State), Inv s ∧ s.pwr.state ≠ .midnight) ∧
    (∃ (s : State), s.pwr.state = .midnight) ∧
    (∃ (s : State), Inv s ∧ s.pwr.state ≠ .midnight ∧ s.host.linkUp = true ∧ 2 ≤ s.boot.stage) ∧
    (∃ (s : State), (s.pwr.state = .midnight ∨ s.host.linkUp = false ∨ s.boot.stage < 2)) ∧
    (∃ (s : State), Inv s ∧ s.boot.hostReset = true ∧ s.host.perst = false) ∧
    (∃ (s : State), (s.boot.hostReset = false ∨ s.host.perst = true)) ∧
    (∃ (s : State), s.pwr.state ≠ .midnight) :=
  ⟨⟨10000001, run0, met⟩,
   ⟨10000000, met⟩,
   ⟨{ run0 with host := { run0.host with linkUp := false }, held := [.interrupt 0 0 0] }, met⟩,
   ⟨{ run0 with host := { run0.host with perst := true } }, met⟩,
   ⟨up, met⟩,
   ⟨run0, inv_of met, met⟩,
   ⟨{ State.reset with pwr := { PwrUnit.reset with state := .midnight } }, met⟩,
   ⟨run0, inv_of met, met⟩,
   ⟨State.reset, met⟩,
   ⟨{ run0 with boot := { run0.boot with hostReset := true } }, inv_of met, met⟩,
   ⟨run0, met⟩,
   ⟨{ up with host := { up.host with perst := true, linkUp := false } }, met⟩⟩

theorem witness_move_descriptors :
    (∃ (c : Nat) (mine room : Desc → Bool) (est : Desc → Nat) (checks : Desc → List (Bool × Nat)) (s : State) (d : Desc),
      (s.noteReady c).nextDesc c = some d ∧ mine d = true ∧ (s.noteReady c).startable c d = true ∧ ((s.noteReady c).ring c).br = .none ∧ malformedAt
      (headerChecks d.words ++ bracketChecks ((s.noteReady c).inBracket c) d.words ++ checks d) = none ∧ (s.noteReady c).canIssue = true ∧
      room d = true ∧ (s.noteReady c).fitsLedger (est d) = true ∧ d.brOpen = false ∧ s.inBracket c = false) ∧
    (∃ (c : CtxId) (s : State) (d : Desc) (s1 : State), s.startsNop c.val = .go d s1) ∧
    (∃ (c : CtxId) (s : State) (d0 d : Desc) (s1 : State) (bs : List Byte) (s2 : State), s.nextDesc c.val = some d0 ∧
      (s.asked c.val d0.idx).startsCopy c.val = .go d s1 ∧ s1.vread 0 c.val (dword d.words 2) (dword d.words 4) = Except.ok bs ∧
      s1.putEnd c.val d.idx (dword d.words 3) (dbit d.words 5 1) true bs = (s2, none) ∧ dbit d.words 5 0 = false ∧ s1.noWayTo c.val
      (dword d.words 2) = none ∧ (dbit d.words 5 1 = true ∨ s1.noWayTo c.val (dword d.words 3) = none) ∧ copyOverlaps d = false ∧ s2.lnk.need = none) ∧
    (∃ (c : CtxId) (s : State) (d0 d : Desc) (s1 : State) (bs : List Byte) (s2 : State), s.nextDesc c.val = some d0 ∧
      (s.asked c.val d0.idx).startsCopy c.val = .go d s1 ∧ s1.vread 0 c.val (dword d.words 2) (dword d.words 4) = Except.ok bs ∧ (s1.freeBytes
      (dword d.words 4)).2.putEnd c.val d.idx (dword d.words 3) false true (s1.freeBytes (dword d.words 4)).1 = (s2, none) ∧ s1.noWayTo c.val
      (dword d.words 2) = none ∧ s1.noWayTo c.val (dword d.words 3) = none ∧ copyOverlaps d = true ∧ s2.lnk.need = none) ∧
    (∃ (c : CtxId) (bs : List Byte) (s : State) (d0 d : Desc) (s1 s2 : State), s.nextDesc c.val = some d0 ∧
      (s.asked c.val d0.idx).startsCopy c.val = .go d s1 ∧ (s1.send (.hostRead (s1.pasid c.val) (dword d.words 2)
      (dword d.words 4))).putEnd c.val d.idx (dword d.words 3) false true bs = (s2, none) ∧ dbit d.words 5 0 = true ∧ dbit d.words 5 1 = false ∧
      s1.noWayTo c.val (dword d.words 3) = none ∧ bs.length = dword d.words 4 ∧ s2.lnk.need = none) ∧
    (∃ (c : CtxId) (s : State) (d0 d : Desc) (s1 s2 : State), s.nextDesc c.val = some d0 ∧ (s.asked c.val d0.idx).startsFill c.val = .go d s1 ∧
      s1.putEnd c.val d.idx (dword d.words 2) (dbit d.words 5 1) true (repeated (dword d.words 4) (dword d.words 3)) = (s2, none) ∧
      (dbit d.words 5 1 = true ∨ s1.noWayTo c.val (dword d.words 2) = none) ∧ s2.lnk.need = none) ∧
    (∃ (c : CtxId) (s : State) (d0 d : Desc) (s1 s2 : State), s.nextDesc c.val = some d0 ∧ (s.asked c.val d0.idx).startsSignal c.val = .go d s1 ∧
      s1.putEnd c.val d.idx (dword d.words 2) (dbit d.words 5 1) false (leBytes 8 (dword d.words 3)) = (s2, none) ∧
      (dbit d.words 5 1 = true ∨ s1.windowOf c.val (dword d.words 2) = none) ∧ s2.lnk.need = none) :=
  ⟨⟨0, (fun d => d.kind == kindNop), noRoom, noEst, (fun _ => []), withDesc run0 [0], (((withDesc run0 [0]).noteReady 0).nextDesc 0).getD ended0, met⟩,
   ⟨0, withDesc run0 [0], _, _, go_eq met⟩,
   ⟨0, withDesc run0 [1, 0, 0x100, 0x300, 16, 0], _, _, _, _, _, some_eq met, go_eq met, ok_eq met, pair_eq met, met⟩,
   ⟨0, withDesc run0 [1, 0, 0x100, 0x108, 16, 0], _, _, _, _, _, some_eq met, go_eq met, ok_eq met, pair_eq met, met⟩,
   ⟨0, [1, 2, 3], withDesc run0 [1, 0, 0x100, 0x108, 3, 1], _, _, _, _, some_eq met, go_eq met, pair_eq met, met⟩,
   ⟨0, withDesc run0 [2, 0, 0x300, 5, 0x0807060504030201, 0], _, _, _, _, some_eq met, go_eq met, pair_eq met, met⟩,
   ⟨0, withDesc run0 [3, 0, 0x300, 77, 0, 0], _, _, _, _, some_eq met, go_eq met, pair_eq met, met⟩⟩

theorem witness_wait_descriptors :
    (∃ (c : CtxId) (s : State) (d0 d : Desc) (s1 : State) (v : Nat), s.nextDesc c.val = some d0 ∧
      (s.asked c.val d0.idx).startsWait c.val = .go d s1 ∧ s1.vreadNat 0 c.val (dword d.words 2) 8 = Except.ok v ∧ s1.noWayTo c.val
      (dword d.words 2) = none ∧ s1.lnk.need = none) ∧
    (∃ (c : CtxId) (s : State) (d : Desc) (v : Nat), s.waiting c.val = some d ∧ (s.asked c.val d.idx).vreadNat 0 c.val
      (dword d.words 2) 8 = Except.ok v ∧ s.lnk.need = none ∧ s.desc c.val d.idx = some d) ∧
    (∃ (c : CtxId) (s : State) (d : Desc), s.waiting c.val = some d ∧ s.desc c.val d.idx = some d ∧ dfld d.words 4 0 16 ≠ 0 ∧
      d.startMin + dfld d.words 4 0 16 ≤ s.absMin) ∧
    (∃ (c : CtxId) (s : State) (d : Desc), s.waiting c.val = some d ∧ (dfld d.words 4 0 16 = 0 ∨ s.absMin < d.startMin + dfld d.words 4 0 16)) ∧
    (∃ (c : CtxId) (i : Instr) (s : State), s.waiting c.val = none ∧ (i = .waitPoll c ∨ i = .waitTimeout c)) :=
  ⟨⟨0, withDesc run0 [4, 0, 0x300, 0, 5], _, _, _, _, some_eq met, go_eq met, ok_eq met, met⟩,
   ⟨0, waits0, _, _, some_eq met, ok_eq met, met⟩,
   ⟨0, { waits0 with day := { waits0.day with minute := 9 } }, _, some_eq met, met⟩,
   ⟨0, { waits0 with day := { waits0.day with minute := 2 } }, _, some_eq met, met⟩,
   ⟨0, .waitPoll 0, run0, met⟩⟩

theorem witness_lease_descriptors :
    (∃ (c : CtxId) (s : State) (d : Desc) (s1 : State), s.startsLease c.val (fun a => a == 0 || a == 3) = .go d s1 ∧ (s1.lease
      (leaseRes d)).holder = none) ∧
    (∃ (c : CtxId) (h : Nat × Nat) (s : State) (d : Desc) (s1 : State), s.startsLease c.val (fun a => a == 0 || a == 3) = .go d s1 ∧ (s1.lease
      (leaseRes d)).holder = some h) ∧
    (∃ (c : CtxId) (s : State) (d : Desc) (s1 : State), s.startsLease c.val (fun a => a == 1) = .go d s1 ∧ s1.holdsLease c.val d = true ∧
      s1.inBracket c.val = false ∧ (s1.lease (leaseRes d)).waiting = []) ∧
    (∃ (c : CtxId) (s : State) (d : Desc) (s1 : State), s.startsLease c.val (fun a => a == 1) = .go d s1 ∧ s1.holdsLease c.val d = true ∧
      s1.inBracket c.val = false ∧ (s1.lease (leaseRes d)).waiting ≠ []) ∧
    (∃ (c : CtxId) (s : State) (d : Desc) (s1 : State), s.startsLease c.val (fun a => a == 2) = .go d s1 ∧ s1.holdsLease c.val d = true ∧
      s1.inBracket c.val = false ∧ (s1.lease (leaseRes d)).waiting = [] ∧ tabWf (fun _ => Lease.reset) s.flt.leases = true) ∧
    (∃ (c : CtxId) (w : Nat × Nat × Nat × Nat) (rest : List (Nat × Nat × Nat × Nat)) (s : State) (d : Desc) (s1 : State), s.startsLease c.val
      (fun a => a == 2) = .go d s1 ∧ s1.holdsLease c.val d = true ∧ s1.inBracket c.val = false ∧ (s1.lease (leaseRes d)).waiting = w :: rest ∧
      (w.1 ≠ c.val ∨ w.2.2.1 ≠ d.idx)) ∧
    (∃ (c : CtxId) (k : Nat) (i : Instr) (s : State) (d : Desc) (s1 : State), s.startsLease c.val (fun a => a == k) = .go d s1 ∧ (k = 1 ∧
      i = .leaseRenew c ∨ k = 2 ∧ i = .leaseRelease c) ∧ s1.holdsLease c.val d = false ∧ s1.inBracket c.val = false) ∧
    (∃ (c : CtxId) (k : Nat) (i : Instr) (s : State) (d : Desc) (s1 : State) (b : Bracket), s.startsLease c.val (fun a => a == k) = .go d s1 ∧
      s1.flt.bracket = some b ∧ (k = 1 ∧ i = .leaseRenew c ∨ k = 2 ∧ i = .leaseRelease c) ∧ s1.holdsLease c.val d = true ∧
      s1.inBracket c.val = true ∧ d.brClose = false) :=
  ⟨⟨0, withDesc run0 [0x38, 0, 0x500000102], _, _, go_eq met, met⟩,
   ⟨0, (5, 1), (withDesc run0 [0x38, 0, 0x500000102]).setLease 0x102 { holder := some (5, 1), expire := 9, waiting := [] }, _, _, go_eq met, met⟩,
   ⟨0, withDesc held0 [0x38 + 7 * 2 ^ 32, 0, 0x500010102], _, _, go_eq met, met⟩,
   ⟨0, (withDesc held0 [0x38 + 7 * 2 ^ 32, 0, 0x500010102]).setLease 0x102 { holder := some (0, 1), expire := 9, waiting := [(5, 1, 0, 3)] }, _, _,
     go_eq met, met⟩,
   ⟨0, withDesc held0 [0x38 + 7 * 2 ^ 32, 0, 0x000020102], _, _, go_eq met, met⟩,
   ⟨0, (5, 1, 0, 3), [], (withDesc held0 [0x38 + 7 * 2 ^ 32, 0, 0x000020102]).setLease 0x102
     { holder := some (0, 1), expire := 9, waiting := [(5, 1, 0, 3)] }, _, _, go_eq met, met⟩,
   ⟨0, 2, .leaseRelease 0, withDesc held0 [0x38 + 6 * 2 ^ 32, 0, 0x000020102], _, _, go_eq met, met⟩,
   ⟨0, 1, .leaseRenew 0,
     { withDesc held0 [0x38 + 7 * 2 ^ 32, 0, 0x500010102] with flt := { held0.flt with bracket := some { br0 with committing := false, closeIdx := none } } },
     _, _, _, go_eq met, some_eq met, met⟩⟩

theorem witness_table_descriptors :
    (∃ (c : CtxId) (s : State) (d : Desc) (s1 : State) (t pa old : Nat), Inv s ∧ s.startsAtp c.val = .go d s1 ∧ s1.rootOf c.val
      (dword d.words 2) = Except.ok t ∧ (s1.bump 0x9001C 32 1).entryAddr c.val (dword d.words 2) (dfld d.words 4 0 2) 3 t = Except.ok (some pa) ∧
      (s1.bump 0x9001C 32 1).pteReader c.val pa = Except.ok old ∧ s1.inBracket c.val = false) ∧
    (∃ (c : CtxId) (s : State) (d0 d : Desc) (s1 : State) (bs : List Byte), Inv s ∧ s.nextDesc c.val = some d0 ∧
      (s.asked c.val d0.idx).startsBias c.val = .go d s1 ∧ s1.get c.val (dword d.words 2) (4 * dfld d.words 3 16 9) = Except.ok bs ∧ (s1.lease
      (resSet (dfld d.words 3 48 4))).holder = some (c.val, (s1.ctx c.val).gen) ∧ s1.epoch (resSet (dfld d.words 3 48 4)) = d.epoch ∧
      s1.inBracket c.val = false ∧ (elemBits 32 0 (dfld d.words 3 16 9) bs).all f32Fin = true ∧ s1.lnk.need = none) ∧
    (∃ (c : CtxId) (s : State) (d : Desc) (s1 : State), Inv s ∧ s.startsVersion c.val = .go d s1 ∧ (s1.lease (resSet
      (dfld d.words 2 48 4))).holder = some (c.val, (s1.ctx c.val).gen) ∧ s1.epoch (resSet (dfld d.words 2 48 4)) = d.epoch ∧
      s1.inBracket c.val = false) ∧
    (∃ (c : CtxId) (s : State) (d0 d : Desc) (s1 : State), s.nextDesc c.val = some d0 ∧ (s.asked c.val d0.idx).startsBias c.val = .go d s1 ∧
      ((s1.lease (resSet (dfld d.words 3 48 4))).holder ≠ some (c.val, (s1.ctx c.val).gen) ∨ s1.epoch (resSet (dfld d.words 3 48 4)) ≠ d.epoch) ∧
      s1.inBracket c.val = false ∧ s1.lnk.need = none) ∧
    (∃ (c : CtxId) (s : State) (d : Desc) (s1 : State), s.startsVersion c.val = .go d s1 ∧ ((s1.lease (resSet (dfld d.words 2 48 4))).holder ≠ some
      (c.val, (s1.ctx c.val).gen) ∨ s1.epoch (resSet (dfld d.words 2 48 4)) ≠ d.epoch) ∧ s1.inBracket c.val = false) :=
  ⟨⟨0, withDesc run0 [0x40, 0, 0x200000, 0x40000F, 1], _, _, _, _, _, inv_of met, go_eq met, ok_eq met, ok_some_eq met met, ok_eq met, met⟩,
   ⟨0, (withDesc held0 [0x18 + 7 * 2 ^ 32, 0, 0x300, 2 * 2 ^ 48 + 4 * 2 ^ 40 + 2 * 2 ^ 16]).setBytes 0x200300 [0, 0, 0x80, 0x3F, 0, 0, 0, 0x40], _,
     _, _, _, inv_of met, some_eq met, go_eq met, ok_eq met, met⟩,
   ⟨0, withDesc held0 [0x19 + 7 * 2 ^ 32, 0, 2 * 2 ^ 48 + 55], _, _, inv_of met, go_eq met, met⟩,
   ⟨0, withDesc held0 [0x18 + 6 * 2 ^ 32, 0, 0x300, 2 * 2 ^ 48 + 4 * 2 ^ 40 + 2 * 2 ^ 16], _, _, _, some_eq met, go_eq met, met⟩,
   ⟨0, withDesc held0 [0x19 + 6 * 2 ^ 32, 0, 2 * 2 ^ 48 + 55], _, _, go_eq met, met⟩⟩

theorem witness_layer_descriptors :
    (∃ (c : CtxId) (a out g : Tensor) (r b : List Nat) (s : State) (d0 d : Desc) (s1 : State) (es : List Expert), s.nextDesc c.val = some d0 ∧
      (s.asked c.val d0.idx).startsLayer c.val false = .go d s1 ∧ s1.layerEntries c.val d.words = Except.ok es ∧ layerStatic d.words = Except.ok () ∧
      s1.layerTensors c.val d.words = Except.ok (a, out) ∧ a.size 0 ≤ 16384 ∧ s1.layerRecord c.val d.words = Except.ok r ∧
      s1.layerGate c.val d.words = Except.ok g ∧ s1.layerBatch c.val d.words = Except.ok b ∧ s1.lnk.need = none) ∧
    (∃ (c : CtxId) (a out : Tensor) (s : State) (d0 d : Desc) (s1 : State), s.nextDesc c.val = some d0 ∧
      (s.asked c.val d0.idx).startsLayer c.val true = .go d s1 ∧ layerStatic d.words = Except.ok () ∧ s1.layerTensors c.val d.words = Except.ok (a,
      out) ∧ a.size 0 ≤ 16384 ∧ s1.lnk.need = none) ∧
    (∃ (c : CtxId) (skip : Bool) (off : Nat) (i : Instr) (s : State) (d0 d : Desc) (s1 : State), s.nextDesc c.val = some d0 ∧
      (s.asked c.val d0.idx).startsLayer c.val skip = .go d s1 ∧ (skip = false ∧ i = .layer c ∨ skip = true ∧ i = .layerSkip c) ∧
      layerStatic d.words = Except.error (.bad off) ∧ s1.inBracket c.val = false ∧ s1.lnk.need = none) :=
  ⟨⟨0, tenIn, tenOut, tenW, [0x1080, 0x1140, 1 + 2 ^ 40, 0, 6, 0, 0, 0], [], withDesc mem0 [0x10, 0, 0x1100, 0x1000, 0x1040, 0x200000, 0, 0], _, _,
     _, _, some_eq met, go_eq met, ok_eq met, met⟩,
   ⟨0, tenIn, tenOut, withDesc mem0 [0x10, 0, 0x1100, 0x1000, 0x1040, 0x200000, 0, 1], _, _, _, some_eq met, go_eq met, met⟩,
   ⟨0, true, 40, .layerSkip 0, withDesc mem0 [0x10, 0, 0x1100, 0x1000, 0x1040, 0x200001, 0, 1], _, _, _, some_eq met, go_eq met, met⟩⟩

theorem witness_grouped_descriptors :
    (∃ (c : CtxId) (s : State) (d0 d : Desc) (s1 : State) (t : GroupedTable), s.nextDesc c.val = some d0 ∧
      (s.asked c.val d0.idx).startsGrouped c.val = .go d s1 ∧ s1.getGrouped c.val d.words = Except.ok t ∧ malformedAt
      (groupedChecks d.words) = none ∧ s1.lnk.need = none ∧ s1.job c.val d.idx = none) ∧
    (∃ (c : CtxId) (a out : Tensor) (pa pb : Option (List Nat)) (k : Nat) (i : Instr) (s : State) (d0 d : Desc) (s1 : State),
      s.nextDesc c.val = some d0 ∧ (s.asked c.val d0.idx).startsPass c.val
      (fun op => if k = 0 then op != 0x20 && op != 0x21 && op != 0x22 else op == k) = .go d s1 ∧ ((i = .sfuPassElementwise c ∧ k = 0) ∨
      (i = .sfuPassSoftmax c ∧ k = 0x20) ∨ (i = .sfuPassLayerNorm c ∧ k = 0x21) ∨ (i = .sfuPassRmsNorm c ∧ k = 0x22)) ∧ malformedAt
      (passChecks d.words) = none ∧ s1.getPass c.val d.words = Except.ok (a, out, pa, pb) ∧ 0 < a.size 0 ∧ s1.job c.val d.idx = none ∧
      s1.lnk.need = none) ∧
    (∃ (c : CtxId) (off : Nat) (s : State) (d0 d : Desc) (s1 : State), s.nextDesc c.val = some d0 ∧
      (s.asked c.val d0.idx).startsGrouped c.val = .go d s1 ∧ malformedAt (groupedChecks d.words) = some off ∧ s1.inBracket c.val = false ∧
      s1.lnk.need = none) ∧
    (∃ (c : CtxId) (off k : Nat) (i : Instr) (s : State) (d0 d : Desc) (s1 : State), s.nextDesc c.val = some d0 ∧
      (s.asked c.val d0.idx).startsPass c.val (fun op => if k = 0 then op != 0x20 && op != 0x21 && op != 0x22 else op == k) = .go d s1 ∧
      ((i = .sfuPassElementwise c ∧ k = 0) ∨ (i = .sfuPassSoftmax c ∧ k = 0x20) ∨ (i = .sfuPassLayerNorm c ∧ k = 0x21) ∨ (i = .sfuPassRmsNorm c ∧
      k = 0x22)) ∧ malformedAt (passChecks d.words) = some off ∧ s1.inBracket c.val = false ∧ s1.lnk.need = none) :=
  ⟨⟨0, withDesc mem0 [0x11, 0, 0x1200, 0x1000, 0x7000, 6 * 2 ^ 32 + 1], _, _, _, _, some_eq met, go_eq met, ok_eq met, met⟩,
   ⟨0, tenIn, tenOut, none, none, 0x20, .sfuPassSoftmax 0, softmax0, _, _, _, some_eq met, go_eq met, met⟩,
   ⟨0, 32, withDesc mem0 [0x11, 0, 0x1200, 0x1000, 0x7001, 6 * 2 ^ 32 + 1], _, _, _, some_eq met, go_eq met, met⟩,
   ⟨0, 48, 0, .sfuPassElementwise 0, withDesc mem0 [0x12, 0, 0x1000, 0x1040, 0, 0, 0x1F + 0x3F800000 * 2 ^ 32], _, _, _, some_eq met, go_eq met, met⟩⟩

theorem witness_group_life :
    (∃ (k : Fin 4) (j : Job) (s : State), (s.work.jobs.find? fun j => j.handed && j.ctx % 4 == k.val) = some j ∧ s.job j.ctx j.idx = some j) ∧
    (∃ (k : Fin 4) (s : State), (s.work.jobs.find? fun j => j.handed && j.ctx % 4 == k.val) = none) ∧
    (∃ (p : PosId) (o : Occupant) (j : Job) (g : Group) (s : State), s.occupant p.val = some o ∧ s.job o.ctx o.idx = some j ∧
      j.group o.group = some g ∧ g.at_ = .issued p.val ∧ s.bridgeHeld (posBank p.val) = false ∧ (16 ≤ p.val ∨ s.engineUnder g.epoch p.val = some
      (s.engineAt p.val))) ∧
    (∃ (p : PosId) (o : Occupant) (j : Job) (g : Group) (s : State), Inv s ∧ s.occupant p.val = some o ∧ s.job o.ctx o.idx = some j ∧
      j.group o.group = some g ∧ g.at_ = .issued p.val ∧ s.bridgeHeld (posBank p.val) = false ∧ p.val < 16 ∧ s.engineUnder g.epoch p.val ≠ some
      (s.engineAt p.val)) ∧
    (∃ (p : PosId) (s : State), s.bridgeHeld (posBank p.val) = true) ∧
    (∃ (p : PosId) (sat : Nat) (o : Occupant) (j : Job) (g : Group) (s s2 : State), Inv s ∧ s.occupant p.val = some o ∧
      (s.asked o.ctx o.idx p.val).job o.ctx o.idx = some j ∧ j.group o.group = some g ∧ g.at_ = .running p.val ∧
      (s.asked o.ctx o.idx p.val).writeGroup j g p.val = (s2, none, sat) ∧ s.bridgeHeld (posBank p.val) = false ∧ s2.heldWrites ≤ s.heldWrites ∧
      s2.lnk.need = none) ∧
    (∃ (p : PosId) (o : Occupant) (j : Job) (g : Group) (s : State), s.occupant p.val = some o ∧ s.job o.ctx o.idx = some j ∧
      j.group o.group = some g ∧ s.bridgeHeld (posBank p.val) = true ∧ s.lnk.need = none) ∧
    (∃ (p : PosId) (s : State), Inv s ∧ tabGet (fun _ => false) s.pwr.ballast p.val = true) ∧
    (∃ (m : Nat) (s : State), s.maps.prevUntil = some m ∧ m ≤ s.absMin) ∧
    (∃ (m : Nat) (s : State), s.maps.prevUntil = some m ∧ s.absMin < m) :=
  ⟨⟨0, job0, { mem0 with work := { WorkUnit.reset with jobs := [job0] } }, met⟩,
   ⟨0, run0, met⟩,
   ⟨1, { ctx := 0, idx := 0, group := 0 }, { job0 with groups := [grp0 (.issued 1)] }, grp0 (.issued 1),
     { mem0 with work := { WorkUnit.reset with jobs := [{ job0 with groups := [grp0 (.issued 1)] }], positions := [(1, some { ctx := 0, idx := 0, group := 0 })] } },
     met⟩,
   ⟨1, { ctx := 0, idx := 0, group := 0 }, { job0 with groups := [{ grp0 (.issued 1) with epoch := 3 }] }, { grp0 (.issued 1) with epoch := 3 },
     { mem0 with work := { WorkUnit.reset with jobs := [{ job0 with groups := [{ grp0 (.issued 1) with epoch := 3 }] }], positions := [(1, some { ctx := 0, idx := 0, group := 0 })] } },
     inv_of met, met⟩,
   ⟨4, retr, met⟩,
   ⟨1, 0, { ctx := 0, idx := 0, group := 0 }, { job0 with groups := [grp0 (.running 1)] }, grp0 (.running 1), run1, run1.asked 0 0 1, inv_of met, met⟩,
   ⟨1, { ctx := 0, idx := 0, group := 0 }, { job0 with groups := [grp0 (.running 1)] }, grp0 (.running 1),
     { run1 with banks := [(0, { Bank.reset with phase := .active, bridge := .retrain })] }, met⟩,
   ⟨2, { run0 with pwr := { run0.pwr with ballast := [(2, true)] } }, inv_of met, met⟩,
   ⟨0, { up with maps := { UnitMaps.reset with prevUntil := some 0 } }, met⟩,
   ⟨1, { up with maps := { UnitMaps.reset with prevUntil := some 1 } }, met⟩⟩

theorem witness_unit_errors :
    (∃ (s : State), Inv s) ∧
    (∃ (s : State), Inv s) ∧
    (∃ (p : Fin 16) (t : Nat) (o : Occupant) (j : Job) (g : Group) (s : State), Inv s ∧ s.occupant p.val = some o ∧ s.job o.ctx o.idx = some j ∧
      j.group o.group = some g ∧ max 1 (s.fld 0xA0000 8 8) * g.est / 2048000 + 10000 < max s.clk t - g.issuedAt) ∧
    (∃ (p : Fin 16) (t : Nat) (o : Occupant) (j : Job) (g : Group) (s : State), s.occupant p.val = some o ∧ s.job o.ctx o.idx = some j ∧
      j.group o.group = some g ∧ max s.clk t - g.issuedAt ≤ max 1 (s.fld 0xA0000 8 8) * g.est / 2048000 + 10000) ∧
    (∃ (p : PosId) (o : Occupant) (s : State), Inv s ∧ s.occupant p.val = some o ∧ (s.ctx o.ctx).state = .open_) ∧
    (∃ (p : PosId) (s : State), s.occupant p.val = none) ∧
    (∃ (s : State), Inv s) ∧
    (∃ (s : State), Inv s) ∧
    (∃ (b : BankId) (tile : Option (Fin 4)) (p : Nat) (o : Occupant) (j : Job) (g : Group) (s : State), Inv s ∧ p =
      (match tile with | some e => 4 * b.val + e.val | none => 16 + b.val) ∧ s.occupant p = some o ∧ s.job o.ctx o.idx = some j ∧
      j.group o.group = some g ∧ g.attempts + 1 < s.reissueLimit) ∧
    (∃ (b : BankId) (s : State), tabGet (fun _ => false) s.work.sfuTest b.val = true ∧ tabWf (fun _ => false) s.work.sfuTest = true) ∧
    (∃ (b : BankId) (s : State), tabGet (fun _ => false) s.work.sfuTest b.val = false) ∧
    (∃ (k : Fin 4) (i : Instr), (i = .controlCoreHeartbeatMiss k ∨ i = .controlCoreError k)) :=
  ⟨⟨run0, inv_of met⟩,
   ⟨run0, inv_of met⟩,
   ⟨1, 20000, { ctx := 0, idx := 0, group := 0 }, { job0 with groups := [grp0 (.running 1)] }, grp0 (.running 1), run1, inv_of met, met⟩,
   ⟨1, 10000, { ctx := 0, idx := 0, group := 0 }, { job0 with groups := [grp0 (.running 1)] }, grp0 (.running 1), run1, met⟩,
   ⟨1, { ctx := 0, idx := 0, group := 0 }, run1, inv_of met, met⟩,
   ⟨1, run0, met⟩,
   ⟨run0, inv_of met⟩,
   ⟨run0, inv_of met⟩,
   ⟨0, some 1, 1, { ctx := 0, idx := 0, group := 0 }, { job0 with groups := [grp0 (.running 1)] }, grp0 (.running 1), run1, inv_of met, met⟩,
   ⟨2, { run0 with work := { WorkUnit.reset with sfuTest := [(2, true)] } }, met⟩,
   ⟨2, run0, met⟩,
   ⟨1, .controlCoreError 1, met⟩⟩

theorem witness_context_commands :
    (∃ (c : CtxId) (s : State), Inv s ∧ s.served ∧ (s.ctx c.val).state = .free ∧ (s.ring c.val).state = .closed ∧ s.rootValid c.val = true) ∧
    (∃ (c : CtxId) (s : State), s.served ∧ ((s.ctx c.val).state ≠ .free ∨ (s.ring c.val).state ≠ .closed ∨ s.rootValid c.val = false)) ∧
    (∃ (c : CtxId) (s : State), Inv s ∧ s.served ∧ (s.ring c.val).state = .closed ∧ ((s.ctx c.val).state = .faulted ∨ (s.ctx c.val).state = .open_)) ∧
    (∃ (c : CtxId) (s : State), s.served ∧ ((s.ring c.val).state ≠ .closed ∨ (s.ctx c.val).state = .free ∨ (s.ctx c.val).state = .teardown)) ∧
    (∃ (c : CtxId) (s : State), Inv s ∧ s.served ∧ (s.ctx c.val).state = .open_) ∧
    (∃ (c : CtxId) (s : State), s.served ∧ (s.ctx c.val).state ≠ .open_) ∧
    (∃ (c : CtxId) (s : State), Inv s ∧ (s.ctx c.val).state = .teardown ∧ (∀ t ∈ s.lnk.tags, ∀ r, t.2 = some r → r.ctx ≠ c.val) ∧
      (s.ring c.val).fetching = 0 ∧ s.writesHeld c.val = false) ∧
    (∃ (c : CtxId) (s : State), ((s.ctx c.val).state ≠ .teardown ∨ (s.ring c.val).fetching ≠ 0 ∨ s.writesHeld c.val = true)) :=
  ⟨⟨0, { run0 with ctxs := [], rings := [] }, inv_of met, met⟩,
   ⟨0, run0, met⟩,
   ⟨0, { run0 with rings := [] }, inv_of met, met⟩,
   ⟨0, run0, met⟩,
   ⟨0, run0, inv_of met, met⟩,
   ⟨3, run0, met⟩,
   ⟨0, { run0 with ctxs := [(0, { state := .teardown, cause := 0, gen := 1 })] }, inv_of met, met⟩,
   ⟨0, { run0 with ctxs := [(0, { state := .teardown, cause := 0, gen := 1 })], rings := [(0, { Ring.reset with fetching := 3 })] }, met⟩⟩

theorem witness_translation_and_memory_errors :
    (∃ (k : Fin 5) (c : CtxId) (va e l : Nat) (s : State), Inv s ∧ (s.ctx c.val).state ≠ .teardown ∧
      (s.bump 0x9001C 32 1).walk k.val c.val va .write = Except.ok (e, l)) ∧
    (∃ (c : CtxId) (s : State), Inv s ∧ (s.ctx c.val).state = .teardown) ∧
    (∃ (c : CtxId) (v : Word) (s : State), Inv s ∧ s.served ∧ (s.ctx c.val).state = .free ∧ bitAt v.toNat 31 = true ∧ s.rbit
      (0x90104 + 8 * c.val) 31 = false ∧ s.targetOk (s.fld (0x90100 + 8 * c.val) 12 20 * 0x1000 + wfld v 0 8 * 0x100000000) 0x1000 = true) ∧
    (∃ (c : CtxId) (v : Word) (s : State), s.served ∧ (s.ctx c.val).state = .free ∧ bitAt v.toNat 31 = true ∧ s.rbit
      (0x90104 + 8 * c.val) 31 = false ∧ s.targetOk (s.fld (0x90100 + 8 * c.val) 12 20 * 0x1000 + wfld v 0 8 * 0x100000000) 0x1000 = false) ∧
    (∃ (c : CtxId) (v : Word) (s : State), Inv s ∧ s.served ∧ (s.ctx c.val).state = .free ∧ v &&& 0xFFFFF000 ≠ s.reg (0x90100 + 8 * c.val)) ∧
    (∃ (c : CtxId) (v : Word) (s : State), s.served ∧ (s.ctx c.val).state ≠ .free ∧ v &&& 0xFFFFF000 ≠ s.reg (0x90100 + 8 * c.val)) ∧
    (∃ (c : CtxId) (v : Word) (s : State), s.served ∧ (s.ctx c.val).state ≠ .free ∧ v &&& 0x800000FF ≠ s.reg (0x90104 + 8 * c.val)) ∧
    (∃ (pa : Nat) (s : State), Inv s ∧ memUnit pa ≤ 12) ∧
    (∃ (pa : Nat) (c : CtxId) (s : State), Inv s ∧ memUnit pa < 12 ∧ (s.ctx c.val).state = .open_) ∧
    (∃ (pa : Nat) (s : State), Inv s ∧ memUnit pa < 12 ∧ tabWf (fun _ => false) s.atp.poison = true) ∧
    (∃ (pa : Nat), memUnit pa = 12) ∧
    (∃ (pa loc row : Nat) (r : Option (CtxId × Nat)) (i : Instr), 12 < memUnit pa ∧ (i = .memoryCe pa loc row ∨ i = .memoryUe pa loc row r)) :=
  ⟨⟨1, 0, 0x30000, 0x20001F, 1, run0, inv_of met, met⟩,
   ⟨0, { run0 with ctxs := [(0, { state := .teardown, cause := 0, gen := 1 })] }, inv_of met, met⟩,
   ⟨0, 0x80000000, { run0 with ctxs := [], rings := [], regs := [(0x90100, 0x10000)] }, inv_of met, met⟩,
   ⟨0, 0x800000FF, { run0 with ctxs := [], rings := [], regs := [(0x90100, 0x10000)] }, met⟩,
   ⟨0, 0x20000, { run0 with ctxs := [], rings := [] }, inv_of met, met⟩,
   ⟨0, 0x20000, run0, met⟩,
   ⟨0, 0, run0, met⟩,
   ⟨0x2000, run0, inv_of met, met⟩,
   ⟨0x2000, 0, run0, inv_of met, met⟩,
   ⟨0x2000, run0, inv_of met, met⟩,
   ⟨0x4010000000, met⟩,
   ⟨0x5000000000, 3, 4, none, .memoryCe 0x5000000000 3 4, met⟩⟩

theorem witness_ingest_port :
    (∃ (l : Fin 4) (s : State), s.framerRuns = true ∧ l.val < s.lanes) ∧
    (∃ (l : Fin 4) (s : State), s.framerRuns = true ∧ l.val < s.lanes ∧ tabGet (fun _ => false) s.ing.up l.val = true) ∧
    (∃ (l : Fin 4) (i : Instr) (s : State), s.ingOn = false ∧ (i = .ingestLaneUp l ∨ i = .alignmentMarkerRx l)) ∧
    (∃ (l : Fin 4) (s : State), Inv s ∧ tabGet (fun _ => false) s.ing.up l.val = true ∧ tabWf (fun _ => false) s.ing.up = true) ∧
    (∃ (l : Fin 4) (s : State), tabGet (fun _ => false) s.ing.up l.val = false) ∧
    (∃ (pos : Nat) (h : List Byte) (s : State), Inv s ∧ (s.ing.align = .hunt ∨ s.ing.align = .verify) ∧ s.ing.scan ≤ pos ∧ pos % 8 = 0 ∧
      s.frameStart h = true) ∧
    (∃ (pos : Nat) (h : List Byte) (s : State), (s.ing.align = .hunt ∨ s.ing.align = .verify) ∧ s.ing.scan ≤ pos ∧ pos % 8 = 0 ∧
      s.frameStart h = false) ∧
    (∃ (pos : Nat) (h : List Byte) (s : State), Inv s ∧ s.ing.align = .verify ∧ (pos, 2) ∈ s.ing.verifiers ∧ s.frameStart h = true ∧ s.bound
      (hfield h 5 1 % 16) = none) ∧
    (∃ (pos : Nat) (h : List Byte) (s : State), s.ing.align = .verify ∧ s.ing.verifiers.find? (fun v => decide (v.1 = pos)) = some (pos, 1) ∧ ¬ (pos,
      2) ∈ s.ing.verifiers ∧ s.ing.verifiers.all (fun v => decide (v.2 ≤ 2)) = true ∧ s.frameStart h = true ∧ s.lnk.need = none) ∧
    (∃ (pos k : Nat) (h : List Byte) (s : State), s.ing.align = .verify ∧ s.ing.verifiers = [(pos, k)] ∧ s.frameStart h = false ∧ s.lnk.need = none) ∧
    (∃ (h : List Byte) (age : Nat) (b : Binding) (s : State) (n : Nat), Inv s ∧ (s.asked b.ctx (2 ^ 17 + hfield h 5 1 % 16)).vreadNat 0 b.ctx
      (b.ctrl + 8) 8 = Except.ok n ∧ s.ing.align = .lock ∧ s.ing.rx = none ∧ syncOk h = true ∧ headerValid h = true ∧ s.limitsOk h = true ∧ s.bound
      (hfield h 5 1 % 16) = some b ∧ b.due = none ∧ b.unbind = none ∧ b.since + age ≤ s.clk ∧ b.matches_ h = true ∧
      (b.produced + 2 ^ 64 - n) % 2 ^ 64 < b.slots ∧ s.admits 35 = true ∧ s.lnk.need = none) ∧
    (∃ (h : List Byte) (s : State), s.ing.align = .lock ∧ s.ing.rx = none ∧ syncOk h = false ∧ s.lnk.need = none) ∧
    (∃ (got : Nat) (f : FrameIn) (s : State), Inv s ∧ s.ing.rx = some f ∧ rcvDepth ≤ min got f.payLen + s.rcvHeld) ∧
    (∃ (got : Nat) (s : State), got + s.rcvHeld < rcvDepth) ∧
    (∃ (s : State), s.served ∧ (s.ing.align = .verify ∨ s.ing.align = .lock)) ∧
    (∃ (s : State), s.served ∧ (s.ing.align = .hunt ∨ s.ing.align = .down)) :=
  ⟨⟨0, ingS { IngestUnit.reset with marked := [(0, true)] }, met⟩,
   ⟨0, ingS { IngestUnit.reset with up := [(0, true)] }, met⟩,
   ⟨0, .ingestLaneUp 0, run0, met⟩,
   ⟨0, ingS { IngestUnit.reset with up := [(0, true)], align := .lock }, inv_of met, met⟩,
   ⟨0, run0, met⟩,
   ⟨16, hdr0, ingS { IngestUnit.reset with align := .hunt }, inv_of met, met⟩,
   ⟨16, [], ingS { IngestUnit.reset with align := .hunt }, met⟩,
   ⟨48, hdr0, ingS { IngestUnit.reset with align := .verify, verifiers := [(48, 2)] }, inv_of met, met⟩,
   ⟨48, hdr0, ingS { IngestUnit.reset with align := .verify, verifiers := [(48, 1)] }, met⟩,
   ⟨48, 1, [], ingS { IngestUnit.reset with align := .verify, verifiers := [(48, 1)] }, met⟩,
   ⟨hdr0, 0, bind0, ingS { IngestUnit.reset with align := .lock, binds := [(0, some bind0)] }, _, inv_of met, ok_eq met, met⟩,
   ⟨[1], ingS { IngestUnit.reset with align := .lock, misses := 2, expect := 96 }, met⟩,
   ⟨524288, { frame0 with payLen := 600000 }, ingS { IngestUnit.reset with align := .lock, rx := some { frame0 with payLen := 600000 } }, inv_of met,
     met⟩,
   ⟨524287, ingS { IngestUnit.reset with align := .lock, rx := some { frame0 with payLen := 600000 } }, met⟩,
   ⟨ingS { IngestUnit.reset with align := .lock, rx := some frame0, binds := [(0, some bind0)] }, met⟩,
   ⟨run0, met⟩⟩

theorem witness_ingest_streams :
    (∃ (c : CtxId) (s : State) (d : Desc) (s1 : State), s.startsBind c.val = .go d s1) ∧
    (∃ (c : CtxId) (b : Binding) (s : State) (d : Desc) (s1 : State), s.startsUnbind c.val = .go d s1 ∧ s1.bound (streamOf d) = some b ∧ tabWf
      (fun _ => none) s1.ing.binds = true) ∧
    (∃ (c : CtxId) (b : Binding) (s : State) (d0 d : Desc) (s1 : State) (ids : List Nat), s.nextDesc c.val = some d0 ∧
      (s.asked c.val d0.idx).startsKeep c.val = .go d s1 ∧ s1.keptPatches c.val b.patches d.words = Except.ok ids ∧ malformedAt
      (s1.keepChecks c.val d.words) = none ∧ s1.bound (dfld d.words 3 28 4) = some b ∧ (∀ l, b.last = some l → l ≠ dfld d.words 3 32 32 ∧ seqOlder
      (dfld d.words 3 32 32) l = false) ∧ s1.lnk.need = none) ∧
    (∃ (c : CtxId) (l : Nat) (b : Binding) (s : State) (d0 d : Desc) (s1 : State) (ids : List Nat), s.nextDesc c.val = some d0 ∧
      (s.asked c.val d0.idx).startsKeep c.val = .go d s1 ∧ s1.keptPatches c.val b.patches d.words = Except.ok ids ∧ malformedAt
      (s1.keepChecks c.val d.words) = none ∧ s1.bound (dfld d.words 3 28 4) = some b ∧ b.last = some l ∧ (l = dfld d.words 3 32 32 ∨ seqOlder
      (dfld d.words 3 32 32) l = true) ∧ s1.lnk.need = none) ∧
    (∃ (payload : List Byte) (crc : BitVec 32) (f : FrameIn) (b : Binding) (s s2 : State), s.vwrites b.ctx (f.writes b payload
      (crc32c payload)) true = (s2, none) ∧ crc.toNat = crc32c payload ∧ s.ing.rx = some f ∧ s.bound f.stream = some b ∧ payload.length = b.payload ∧
      f.payLen = b.payload ∧ s2.rcvHeld ≤ rcvDepth) ∧
    (∃ (s : State), s.ing.rx = none) ∧
    (∃ (k : Fin 16) (b : Binding) (s s2 : State), Inv s ∧ (s.setIng { s.ing with waiting := s.ing.waiting.erase k.val }).vwrite 0 b.ctx b.ctrl
      (leBytes 8 (b.done + 1)) = (s2, none) ∧ k.val ∈ s.ing.waiting ∧ s.bound k.val = some b ∧ b.unbind = none ∧ s.rcvWaits b.ctx = false) ∧
    (∃ (k : Fin 16) (b : Binding) (s : State), (¬ k.val ∈ s.ing.waiting ∨ s.rcvWaits b.ctx = true) ∧ s.bound k.val = some b) :=
  ⟨⟨0, withDesc run0 [0x30, 0, 0x0001000100010101, 0x0600010000000000 + 0x10000000000, 0x5000, 0x6000, 2], _, _, go_eq met⟩,
   ⟨0, bind0, { withDesc run0 [0x30, 0, 0, 0x1000000000] with ing := { IngestUnit.reset with binds := [(0, some bind0)] } }, _, _, go_eq met, met⟩,
   ⟨0, { bind0 with keepEn := true },
     { withDesc run0 [0x31, 0, 0x3000, 0x900000000 + 0x1000000] with ing := { IngestUnit.reset with binds := [(0, some { bind0 with keepEn := true })] } },
     _, _, _, _, some_eq met, go_eq met, ok_eq met, met⟩,
   ⟨0, 9, { bind0 with keepEn := true, last := some 9 },
     { withDesc run0 [0x31, 0, 0x3000, 0x900000000 + 0x1000000] with ing := { IngestUnit.reset with binds := [(0, some { bind0 with keepEn := true, last := some 9 })] } },
     _, _, _, _, some_eq met, go_eq met, ok_eq met, met⟩,
   ⟨[1, 2], BitVec.ofNat 32 (crc32c [1, 2]), frame0, bind0, ingS
     { IngestUnit.reset with align := .lock, rx := some frame0, binds := [(0, some bind0)] }, _, pair_eq met, met⟩,
   ⟨run0, met⟩,
   ⟨0, bind0, ingS { IngestUnit.reset with waiting := [0], binds := [(0, some bind0)] }, _, inv_of met, pair_eq met, met⟩,
   ⟨0, bind0, ingS { IngestUnit.reset with binds := [(0, some bind0)] }, met⟩⟩

theorem witness_routing_engine :
    (∃ (s : State) (j : Job) (l : Layer) (toks : List (Option Choice)) (ids : List Nat) (s2 : State),
      (s.asked j.ctx j.idx).routeTokens j l = Except.ok (toks, ids) ∧ (((s.asked j.ctx j.idx).counted l toks).vwrites j.ctx
      (((s.asked j.ctx j.idx).counted l toks).routeWrites (((s.asked j.ctx j.idx).counted l toks).expertsJob j l (applyCapacity l toks))
      ((((s.asked j.ctx j.idx).counted l toks).expertsJob j l (applyCapacity l toks)).layer.getD l) (applyCapacity l toks) ids)) = (s2, none) ∧
      s.inRoute = some (j, l) ∧ s.work.routeTest = false ∧ s.pwr.state ≠ .night ∧ s.pwr.state ≠ .midnight ∧ s.flt.pkgFault = false ∧
      s.admits 32 = true ∧ s.tableHeld j.ctx = false ∧ (l.biasEn && s.setPoisoned l.set) = false ∧ s2.lnk.need = none) ∧
    (∃ (s : State), s.work.routeTest = true ∧ s.lnk.need = none) ∧
    (∃ (s : State), Inv s) ∧
    (∃ (s : State), s.work.routeTest = true) ∧
    (∃ (s : State), s.work.routeTest = false) ∧
    (∃ (s : State), Inv s) ∧
    (∃ (k : Fin 16) (s : State), Inv s ∧ s.turn (.evening k.val) = true ∧ (s.lease (resSet k)).holder = none ∧ s.flt.bracket = none ∧
      s.setPoisoned k.val = false ∧ s.pwr.state ≠ .night ∧ ((List.range (s.setExperts k.val)).map fun e => (s.reg
      (0x38000 + 0x400 * k.val + 4 * e)).toNat).foldl (· + ·) 0 ≠ 0) ∧
    (∃ (k : Fin 16) (s : State), s.turn (.evening k.val) = true ∧ ((s.lease (resSet k)).holder.isSome || s.setPoisoned k.val) = true) ∧
    (∃ (k : Fin 16) (s : State), s.turn (.evening k.val) = false) ∧
    (∃ (s : State), Inv s ∧ s.served) :=
  ⟨⟨layerS .route, layerJob .route, layer0, _, _, _, ok_pair_eq met, pair_eq met, met⟩,
   ⟨{ run0 with work := { run0.work with routeTest := true } }, met⟩,
   ⟨layerS .route, inv_of met⟩,
   ⟨{ run0 with work := { run0.work with routeTest := true } }, met⟩,
   ⟨run0, met⟩,
   ⟨brS { br0 with sets := [{ set := 3, epoch := 0, version := 0, biases := [], clearLoad := [], whole := false }] }, inv_of met⟩,
   ⟨1, { run0 with regs := [(0x200, 1), (0x1010, 0x84400000), (0x30110, 4), (0x38404, 5), (0x90100, 0x10000), (0x90104, 0x80000000)], day := { run0.day with due := [.evening 1] } },
     inv_of met, met⟩,
   ⟨2, { held0 with day := { run0.day with due := [.evening 2] } }, met⟩,
   ⟨1, run0, met⟩,
   ⟨run0, inv_of met, met⟩⟩

theorem witness_combine_unit :
    (∃ (c idx : Nat) (j : Job) (s : State), s.cmb.run = none ∧ s.flt.pkgFault = false ∧ s.pwr.state ≠ .midnight ∧ (s.work.combineQueue.find? fun x =>
      ((s.job x.1 x.2).map (fun j => s.inputComplete j)).getD true) = some (c, idx) ∧ s.job c idx = some j ∧ s.admits 33 = true) ∧
    (∃ (s : State), s.cmb.run.isSome = true) ∧
    (∃ (k : Fin 512) (r : CombineRun) (x : CmbSlot) (j : Job) (l : Layer) (s : State) (f : TokenForm) (ys : List Nat) (s1 s2 : State), Inv s ∧
      (s.asked r.ctx r.idx 98).tokenForm j l x.token = Except.ok f ∧ (s.asked r.ctx r.idx 98).tokenSeg j l f x.token (r.strip * 4096) (min 4096
      (j.input.size 1 - r.strip * 4096)) = Except.ok ys ∧ s1 = (((s.asked r.ctx r.idx 98).countToken r.strip f).setRun (some (r.put
      { x with reads := some 0, vals := some ys }))) ∧ s1.outWrite 0 j.ctx j.idx (l.out.base + (x.token * j.input.size 1 + r.strip * 4096) *
      (fmtBits l.out.format / 8)) (s1.combineBytes l ys) = (s2, none) ∧ s.combining = some (r, j, l) ∧ r.slots.find?
      (fun x => decide (x.slot = k.val) && x.reads.isSome && x.vals.isNone) = some x ∧ x.written = false ∧ (s.ctx r.ctx).gen = r.gen ∧
      s1.writesOut j.ctx < 128 ∧ s2.lnk.need = none) ∧
    (∃ (k : Fin 512) (e : Nat) (s : State), s.epoch (resSlot k.val) ≠ e ∧ s.lnk.need = none) ∧
    (∃ (r : CombineRun) (x : CmbSlot) (rest : List CmbSlot) (j : Job) (l : Layer) (s : State), s.combining = some (r, j, l) ∧ r.slots = x :: rest ∧
      x.written = true ∧ s.unacked r.ctx r.idx = false ∧ s.cmb.sends.any (fun w => decide (w.ctx = r.ctx)) = false) ∧
    (∃ (s : State), s.cmb.run = none) :=
  ⟨⟨0, 0, layerJob .combine, layerS .combine, met⟩,
   ⟨combineS false, met⟩,
   ⟨3, combineRun false, ⟨0, 3, 0, some 7, none, false⟩, layerJob .combine, layer0, combineS false, _, _, _, _, inv_of met, ok_eq met, ok_eq met,
     rfl, pair_eq met, met⟩,
   ⟨3, 77, combineS false, met⟩,
   ⟨combineRun true, ⟨0, 3, 0, none, some [0], true⟩, [], layerJob .combine, layer0, combineS true, met⟩,
   ⟨run0, met⟩⟩

theorem witness_handoff_sender :
    (∃ (c : CtxId) (s : State) (t : Tensor) (d0 d : Desc) (s1 : State), s.nextDesc c.val = some d0 ∧
      (s.asked c.val d0.idx).startsSend c.val = .go d s1 ∧ malformedAt (handChecks true d.words) = none ∧ s1.handTensor c.val d.words = Except.ok t ∧
      s1.failedLayer c.val d = none ∧ s1.noWay (peerOf d.words) = none ∧ (decide ((peerOf d.words).route = 0) || s1.capable (5 +
      (peerOf d.words).route) 4 || decide (6 ≤ dfld d.words 5 0 8)) = true ∧ s1.sendWin c.val d.idx = none ∧ s1.lnk.need = none) ∧
    (∃ (p : Peer) (ch : Fin 256) (seq : Nat) (w : SendWin) (s : State) (d : Desc), s.desc w.ctx w.idx = some d ∧ s.hears ∧
      s.offeredTo p ch.val seq = some w) ∧
    (∃ (p : Peer) (ch : Fin 256) (seq h e n : Nat) (w : SendWin) (s : State) (bs : List Byte), ((s.seen.closeKey (offerKey w.ctx w.idx)).sendReads
      { w with phase := .granted, handle := h, epoch := e, credits := w.credits + n }).chunkData
      { w with phase := .granted, handle := h, epoch := e, credits := w.credits + n } w.next = Except.ok bs ∧ s.hears ∧
      s.offeredTo p ch.val seq = some w ∧ s.sendWin w.ctx w.idx = some w ∧ s.sendLost w = false ∧ w.maskDue = false ∧ w.again = [] ∧ w.piped = none ∧
      w.next + 1 = w.chunks ∧ 0 < n) ∧
    (∃ (p : Peer) (ch : Fin 256) (seq : Nat) (w : SendWin) (s : State), s.hears ∧ s.offeredTo p ch.val seq = some w ∧
      s.sendWin w.ctx w.idx = some w ∧ w.phase = .offered) ∧
    (∃ (c : CtxId) (idx t t0 : Nat) (w : SendWin) (s : State), s.sendWin c.val idx = some w ∧ w.phase = .retry t0 ∧ s.sendLost w = false ∧
      t0 ≤ max s.clk t) ∧
    (∃ (p : Peer) (h : Fin 64) (k : Nat) (w : SendWin) (s : State) (d : Desc), s.desc w.ctx w.idx = some d ∧ s.hears ∧ s.grantedBy p h.val = some w ∧
      s.sendWin w.ctx w.idx = some w ∧ w.unacked = [k] ∧ w.again = [] ∧ w.next = w.chunks ∧ w.maskDue = false) ∧
    (∃ (p : Peer) (h : Fin 64) (k : Nat) (w : SendWin) (s : State) (bs : List Byte), ((s.seen.cmbFlag 0 w.ctx).sendReads
      { w with nacks := tabSet (fun _ => 0) w.nacks k (tabGet (fun _ => 0) w.nacks k + 1), unacked := w.unacked.filter (fun x => decide (x ≠ k)), again := [k], credits := 1, resent := w.resent + 1 }).chunkData
      { w with nacks := tabSet (fun _ => 0) w.nacks k (tabGet (fun _ => 0) w.nacks k + 1), unacked := w.unacked.filter (fun x => decide (x ≠ k)), again := [k], credits := 1, resent := w.resent + 1 } k = Except.ok bs ∧
      s.hears ∧ s.grantedBy p h.val = some w ∧ s.sendWin w.ctx w.idx = some w ∧ s.sendLost w = false ∧ w.credits = 0 ∧ w.maskDue = false ∧ w.again =
      [] ∧ w.piped = none ∧ tabGet (fun _ => 0) w.nacks k < 3) ∧
    (∃ (p : Peer) (h : Fin 64) (k : Nat) (w : SendWin) (s : State), Inv s ∧ s.hears ∧ s.grantedBy p h.val = some w ∧ 3 ≤ tabGet
      (fun _ => 0) w.nacks k ∧ (s.ctx w.ctx).state = .open_) ∧
    (∃ (p : Peer) (h : Fin 64) (w : SendWin) (s : State) (d : Desc), s.desc w.ctx w.idx = some d ∧ s.hears ∧ s.grantedBy p h.val = some w) ∧
    (∃ (p : Peer) (h : Fin 64) (w : SendWin) (s : State) (bs : List Byte), (s.seen.sendReads { w with maskDue := true }).vread 0 w.ctx w.mask
      (ceilDiv (w.tensor.size 0) 8) = Except.ok bs ∧ s.hears ∧ s.grantedBy p h.val = some w ∧ s.sendWin w.ctx w.idx = some w ∧ s.sendLost w = false ∧
      w.credits = 0) ∧
    (∃ (c : CtxId) (idx t : Nat) (s : State), ((s.sendWin c.val idx).map
      (fun w => match w.phase with | .retry t0 => decide (t0 ≤ max s.clk t) | _ => false)) ≠ some true) ∧
    (∃ (p : Peer) (ch : Fin 256) (seq k n e : Nat) (h : Fin 64) (rf : Bool) (o : Option Nat) (i : Instr) (s : State), s.hears ∧
      s.offeredTo p ch.val seq = none ∧ s.grantedBy p h.val = none ∧
      (i = .handoffGrantRx p ch seq k e n rf ∨ i = .handoffBusyRx p ch seq ∨ i = .handoffAckRx p h k n ∨ i = .handoffNackRx p h o ∨ i = .handoffStaleRx p h e)) ∧
    (∃ (p : Peer) (ch : Fin 256) (seq k n e : Nat) (h : Fin 64) (rf : Bool) (o : Option Nat) (i : Instr),
      (i = .handoffGrantRx p ch seq k e n rf ∨ i = .handoffBusyRx p ch seq ∨ i = .handoffAckRx p h k n ∨ i = .handoffNackRx p h o ∨ i = .handoffStaleRx p h e)) :=
  ⟨⟨0, handS .waiting [0x28, 0, 0x1000, 0, 0, 0x500010006], tenIn, _, _, _, some_eq met, go_eq met, met⟩,
   ⟨self0, 1, 5, send0, sendS send0, _, some_eq met, met⟩,
   ⟨self0, 1, 5, 0, 7, 1, send0, sendS send0, _, ok_eq met, met⟩,
   ⟨self0, 1, 5, send0, sendS send0, met⟩,
   ⟨0, 0, 9, 8, { send0 with phase := .retry 8 }, sendS { send0 with phase := .retry 8 }, met⟩,
   ⟨self0, 0, 0, { send0 with phase := .granted, next := 1, unacked := [0] }, sendS { send0 with phase := .granted, next := 1, unacked := [0] }, _,
     some_eq met, met⟩,
   ⟨self0, 0, 0, { send0 with phase := .granted, next := 1, unacked := [0] }, sendS { send0 with phase := .granted, next := 1, unacked := [0] }, _,
     ok_eq met, met⟩,
   ⟨self0, 0, 0, { send0 with phase := .granted, nacks := [(0, 3)] }, sendS { send0 with phase := .granted, nacks := [(0, 3)] }, inv_of met, met⟩,
   ⟨self0, 0, { send0 with phase := .granted }, sendS { send0 with phase := .granted }, _, some_eq met, met⟩,
   ⟨self0, 0, { send0 with phase := .granted, mask := 0x3000 }, sendS { send0 with phase := .granted, mask := 0x3000 }, _, ok_eq met, met⟩,
   ⟨0, 0, 7, sendS { send0 with phase := .retry 8 }, met⟩,
   ⟨self0, 1, 5, 0, 1, 0, 0, false, none, .handoffBusyRx self0 1 5, run0, met⟩,
   ⟨self0, 1, 5, 0, 1, 0, 0, false, none, .handoffBusyRx self0 1 5, met⟩⟩

theorem witness_handoff_receiver :
    (∃ (c : CtxId) (s : State) (t : Tensor) (d0 d : Desc) (s1 : State), s.nextDesc c.val = some d0 ∧
      (s.asked c.val d0.idx).startsRecv c.val = .go d s1 ∧ malformedAt (handChecks false d.words ++ [(s1.cmb.recvs.any
      (fun r => decide (r.channel = channelOf d.words) && decide (r.seq = seqOf d.words)), 40)]) = none ∧ s1.handTensor c.val d.words = Except.ok t ∧
      s1.lnk.need = none ∧ (List.range 64).any (fun h => (s1.recvWin h).isNone) = true) ∧
    (∃ (s : State), Inv s ∧ s.hears ∧ (∀ r ∈ s.cmb.recvs, r.offer.isSome = true)) ∧
    (∃ (p : Peer) (ch : Fin 256) (seq n d wire : Nat) (m : Bool) (r : RecvWin) (s : State), s.hears ∧ s.mayGrant = true ∧ s.cmb.offers = [] ∧
      (s.cmb.recvs.find? fun r => r.offer.isNone && decide (r.peer = p) && decide (r.channel = ch.val) && decide (r.seq = seq)) = some r ∧ r.fits ⟨p,
      ch.val, seq, n, d, wire, m⟩ = true) ∧
    (∃ (p : Peer) (h : Fin 64) (e : Nat) (data : List Byte) (crc : BitVec 32) (r : RecvWin) (o : Offer) (s s2 : State), (s.seen.setRecv
      { r with last := s.absMin }).recvWrite { r with last := s.absMin } [(r.mask, data.take (ceilDiv (r.tensor.size 0) 8))] = (s2, none) ∧ s.hears ∧
      s.transferOf p h.val e r o ∧ crc.toNat = crc32c data ∧ r.done.length < r.chunks) ∧
    (∃ (p : Peer) (h : Fin 64) (e k : Nat) (data : List Byte) (crc : BitVec 32) (r : RecvWin) (o : Offer) (s : State), Inv s ∧ s.hears ∧
      s.transferOf p h.val e r o ∧ crc.toNat ≠ crc32c data ∧ tabGet (fun _ => 0) r.nacks k < 3) ∧
    (∃ (p : Peer) (h : Fin 64) (e k i : Nat) (data : List Byte) (crc : BitVec 32) (r : RecvWin) (o : Offer) (s s2 : State), (((s.seen.setRecv
      { r with last := s.absMin }).cmbCount 6 1).setRecv
      { r with last := s.absMin, nacks := tabSet (fun _ => 0) r.nacks k 0, slots := r.slots.map (fun x => if x.1 = i then (i, some (k, s.clk, data)) else x) }).recvWrite
      { r with last := s.absMin } (r.rowWrites o k data) = (s2, none) ∧ s.hears ∧ s.transferOf p h.val e r o ∧ crc.toNat = crc32c data ∧
      ¬ k ∈ r.done ∧ r.slots.any (fun x => (x.2.map (fun y => y.1)) == some k) = false ∧ k < r.chunks ∧ (r.slots.find? fun x => x.2.isNone) = some
      (i, none)) ∧
    (∃ (p : Peer) (h : Fin 64) (e k : Nat) (data : List Byte) (crc : BitVec 32) (r : RecvWin) (o : Offer) (s : State), s.hears ∧
      s.transferOf p h.val e r o ∧ crc.toNat = crc32c data ∧ k ∈ r.done) ∧
    (∃ (h : Fin 64) (k i t : Nat) (data : List Byte) (r : RecvWin) (o : Offer) (s : State) (d : Desc), s.desc r.ctx r.idx = some d ∧
      s.recvWin h.val = some r ∧ (r.slots.find? fun x => (x.2.map (fun y => y.1)) == some k) = some (i, some (k, t, data)) ∧
      s.unacked r.ctx r.idx = false ∧ r.offer = some o ∧ r.done.length + 1 = r.chunks ∧ o.mask = false ∧ r.mask = 0 ∧ r.slots.length = 1) ∧
    (∃ (h : Fin 64) (k i : Nat) (v : Nat × Nat × List Byte) (r : RecvWin) (s : State), s.recvWin h.val = some r ∧ (r.slots.find? fun x => (x.2.map
      (fun y => y.1)) == some k) = some (i, some v) ∧ s.unacked r.ctx r.idx = false ∧ r.done.length + 1 < r.chunks) ∧
    (∃ (h : Fin 64) (k : Nat) (s : State), ((s.recvWin h.val).map
      (fun r => s.unacked r.ctx r.idx || !r.slots.any (fun x => (x.2.map (fun y => y.1)) == some k))) ≠ some false) ∧
    (∃ (h : Fin 64) (r : RecvWin) (s : State) (d : Desc), Inv s ∧ s.desc r.ctx r.idx = some d ∧ s.turn (.recvLease h.val) = true ∧
      s.recvWin h.val = some r ∧ s.recvExpired r = true) ∧
    (∃ (h : Fin 64) (s : State), s.turn (.recvLease h.val) = false) ∧
    (∃ (s : State), Inv s) ∧
    (∃ (i : Fin 512) (t t0 : Nat) (r : CombineRun) (s : State), Inv s ∧ s.cmb.takenAt i.val = some t0 ∧ t0 + max 1
      (s.fld 0x40004 0 16) * 1000 ≤ max s.clk t ∧ s.cmb.run = some r ∧ s.cmb.combHeld i.val = true ∧ s.cmb.recvHeld i.val = false ∧
      (s.ctx r.ctx).state = .open_) ∧
    (∃ (i : Fin 512) (t : Nat) (s : State), (s.cmb.takenAt i.val).all
      (fun t0 => decide (max s.clk t < t0 + max 1 (s.fld 0x40004 0 16) * 1000)) = true) ∧
    (∃ (p : Peer) (h : Fin 64) (e k : Nat) (data : List Byte) (crc : BitVec 32) (i : Instr) (s : State), s.hears ∧ s.recvWin h.val = none ∧
      (i = .handoffMaskRx p h e data crc ∨ i = .handoffChunkRx p h e k data crc)) ∧
    (∃ (p : Peer) (ch : Fin 256) (seq n d wire : Nat) (m : Bool) (h : Fin 64) (e k : Nat) (data : List Byte) (crc : BitVec 32) (i : Instr),
      (i = .handoffOfferRx p ch seq n d wire m ∨ i = .handoffMaskRx p h e data crc ∨ i = .handoffChunkRx p h e k data crc)) :=
  ⟨⟨0, handS .waiting [0x29, 0, 0x1040, 0, 0, 0x500010000], tenOut, _, _, _, some_eq met, go_eq met, met⟩,
   ⟨recvS (recv0 (some offer0) []), inv_of met, met⟩,
   ⟨self0, 1, 5, 1, 1, 6, false, recv0 none [], recvS (recv0 none []), met⟩,
   ⟨self0, 0, 0, [1], BitVec.ofNat 32 (crc32c [1]), recv0 (some { offer0 with mask := true }) [], { offer0 with mask := true }, recvS (recv0 (some
     { offer0 with mask := true }) []), _, pair_eq met, met⟩,
   ⟨self0, 0, 0, 0, [1], 0, recv0 (some offer0) [(508, none)], offer0, recvS (recv0 (some offer0) [(508, none)]), inv_of met, met⟩,
   ⟨self0, 0, 0, 0, 508, [1, 2], BitVec.ofNat 32 (crc32c [1, 2]), recv0 (some offer0) [(508, none)], offer0, recvS (recv0 (some offer0) [(508,
     none)]), _, pair_eq met, met⟩,
   ⟨self0, 0, 0, 0, [1], BitVec.ofNat 32 (crc32c [1]), { recv0 (some offer0) [] with done := [0] }, offer0, recvS
     { recv0 (some offer0) [] with done := [0] }, met⟩,
   ⟨0, 0, 508, 0, [1, 2], recv0 (some offer0) [(508, some (0, 0, [1, 2]))], offer0, recvS (recv0 (some offer0) [(508, some (0, 0, [1, 2]))]), _,
     some_eq met, met⟩,
   ⟨0, 0, 508, (0, 0, [1, 2]),
     { recv0 (some { offer0 with n := 16384 }) [(508, some (0, 0, [1, 2]))] with tensor := { tenOut with dims := [(16384, 0, 0, 0), (1, 0, 0, 0)] } },
     recvS { recv0 (some { offer0 with n := 16384 }) [(508, some (0, 0, [1, 2]))] with tensor := { tenOut with dims := [(16384, 0, 0, 0), (1, 0, 0, 0)] } },
     met⟩,
   ⟨0, 1, recvS (recv0 (some offer0) [(508, some (0, 0, [1, 2]))]), met⟩,
   ⟨0, recv0 (some offer0) [], { (recvS (recv0 (some offer0) [])) with day := { DayUnit.reset with minute := 100, due := [.recvLease 0] } }, _,
     inv_of met, some_eq met, met⟩,
   ⟨0, run0, met⟩,
   ⟨run0, inv_of met⟩,
   ⟨3, 100000000, 0, combineRun false, combineS false, inv_of met, met⟩,
   ⟨3, 0, combineS false, met⟩,
   ⟨self0, 0, 0, 0, [1], 0, .handoffMaskRx self0 0 0 [1] 0, run0, met⟩,
   ⟨self0, 2, 5, 1, 1, 6, false, 0, 0, 0, [1], 0, .handoffMaskRx self0 0 0 [1] 0, met⟩⟩

theorem witness_link_ports :
    (∃ (p : PortId) (s : State), ((s.port p.val).state = .detect ∨ (s.port p.val).state = .held)) ∧
    (∃ (p : PortId) (s : State), (s.port p.val).state ≠ .detect ∧ (s.port p.val).state ≠ .held) ∧
    (∃ (p : PortId) (good : Nat) (s : State), (s.port p.val).state = .train ∧ (s.port p.val).retraining = false ∧ (s.port p.val).treatBad = [] ∧
      good % 256 = 255 ∧ s.rep.entries.all (fun e => decide (e.kind ≠ 5)) = true) ∧
    (∃ (p : PortId) (good : Nat) (s : State), (s.port p.val).state = .train ∧ (s.port p.val).retraining = false ∧ s.trainLanes p.val good 1 = none) ∧
    (∃ (p : PortId) (s : State), (s.port p.val).state = .confirm ∧ tabWf (fun _ => false) s.flt.dp = true) ∧
    (∃ (p : PortId) (s : State), (s.port p.val).state ≠ .confirm) ∧
    (∃ (p : PortId) (t t0 : Nat) (s : State), Inv s ∧ (s.port p.val).fullSince = some t0 ∧ (s.port p.val).state = .up ∧ t0 + 100000 ≤ max s.clk t) ∧
    (∃ (p : PortId) (t : Nat) (s : State), (decide ((s.port p.val).state = .up) && ((s.port p.val).fullSince.map
      (fun t0 => decide (t0 + 100000 ≤ max s.clk t))).getD false) = false) ∧
    (∃ (p : PortId) (s : State), (s.port p.val).retraining = true ∧ (s.port p.val).state = .train ∧ (s.port p.val).badRetrains < 2) ∧
    (∃ (p : PortId) (s : State), (s.port p.val).retraining = true ∧ (s.port p.val).state = .train ∧ 2 ≤ (s.port p.val).badRetrains) ∧
    (∃ (p : PortId) (good : Nat) (s : State), (s.port p.val).retraining = true ∧ (s.port p.val).state = .train ∧ (s.port p.val).treatBad = [] ∧
      good % 256 = 255 ∧ s.rep.entries.all (fun e => decide (e.kind ≠ 5)) = true) ∧
    (∃ (p : PortId) (s : State), (s.port p.val).retraining = false) ∧
    (∃ (s : State), s.served) ∧
    (∃ (p : PortId) (v : Word) (s : State), Inv s ∧ s.served ∧ s.rbit (0x60100 + 0x40 * p.val) 31 = true ∧ bitAt v.toNat 31 = false ∧
      (s.port p.val).state ≠ .up ∧ (s.port p.val).state ≠ .train ∧ (s.port p.val).state ≠ .confirm ∧ tabWf (fun _ => Port.reset) s.lnk.ports = true) ∧
    (∃ (p : PortId) (v : Word) (s : State), Inv s ∧ s.served ∧ s.rbit (0x60100 + 0x40 * p.val) 31 = false ∧ bitAt v.toNat 31 = true ∧
      bitAt v.toNat 30 = false ∧ 2 ≤ s.boot.stage ∧ (s.port p.val).state = .down) ∧
    (∃ (p : PortId) (f : List Byte) (rt : Bool) (s : State), Inv s ∧ (s.port p.val).state = .up ∧ f.length = 256 ∧ crcT10 (f.take 254) = leNat
      (f.drop 254) ∧ (hdrFld f 63 3 = 1 ∨ (hdrFld f 63 3 = 2 ∧ rt = false)) ∧ hdrFld f 51 2 = 0 ∧ hdrFld f 27 12 = (s.port p.val).expect) ∧
    (∃ (p : PortId) (f : List Byte) (s : State), Inv s ∧ (s.port p.val).state = .up ∧ f.length = 256 ∧ crcT10 (f.take 254) ≠ leNat (f.drop 254)) ∧
    (∃ (p : PortId) (f : List Byte) (s : State), ((s.port p.val).state ≠ .up ∨ f.length ≠ 256)) :=
  ⟨⟨0, portS (port0 .detect), met⟩,
   ⟨0, portS (port0 .up), met⟩,
   ⟨0, 255, portS (port0 .train), met⟩,
   ⟨0, 1, portS (port0 .train), met⟩,
   ⟨0, portS (port0 .confirm), met⟩,
   ⟨0, portS (port0 .up), met⟩,
   ⟨0, 100000, 0, portS { port0 .up with fullSince := some 0 }, inv_of met, met⟩,
   ⟨0, 99999, portS { port0 .up with fullSince := some 0 }, met⟩,
   ⟨0, portS { port0 .train with retraining := true }, met⟩,
   ⟨0, portS { port0 .train with retraining := true, badRetrains := 2 }, met⟩,
   ⟨0, 255, portS { port0 .train with retraining := true }, met⟩,
   ⟨0, portS (port0 .up), met⟩,
   ⟨portS (port0 .up), met⟩,
   ⟨0, 0, portS (port0 .detect), inv_of met, met⟩,
   ⟨0, 0x80000003, { (portS (port0 .down)) with regs := (run0.setReg 0x60100 0).regs }, inv_of met, met⟩,
   ⟨0, flitOf (2 * 2 ^ 63), false, portS (port0 .up), inv_of met, met⟩,
   ⟨0, (flitOf (2 ^ 63)).take 255 ++ [(flitOf (2 ^ 63)).getD 255 0 + 1], portS (port0 .up), inv_of met, met⟩,
   ⟨0, [], portS (port0 .up), met⟩⟩

theorem witness_routes_and_windows :
    (∃ (m : Msg) (s : State), s.serves m = true ∧ m.dst.route = 0 ∧ m.epoch = s.routeEpoch ∧ s.lnk.hold = [] ∧ s.lnk.parked = [] ∧
      m.reissued = false ∧ m.kind ≠ .routeStale ∧ (m.owner.all fun o => (s.desc o.1 o.2.2).all fun d => !d.noReissue) = true) ∧
    (∃ (m : Msg) (c g i : Nat) (s : State) (d : Desc), s.desc c i = some d ∧ s.serves m = true ∧ s.lnk.hold = [] ∧ s.lnk.parked = [] ∧ s.lnk.reqs =
      [] ∧ m.kind.cls ≠ 3 ∧ m.kind ≠ .routeStale ∧ m.reissued = true ∧ m.owner = some (c, g, i) ∧ s.stillAt c g i = true) ∧
    (∃ (m : Msg) (c g i t : Nat) (s : State) (d : Desc), s.desc c i = some d ∧ s.lnk.hold = [(m, t)] ∧ m.reissued = false ∧ m.owner = some (c, g,
      i) ∧ s.stillAt c g i = true ∧ d.noReissue = false ∧ t + s.staleHold ≤ s.absMin) ∧
    (∃ (s : State), s.lnk.hold = []) ∧
    (∃ (s : State), Inv s ∧ s.served ∧ (s.lnk.staged.all fun x => decide (x.1 = (s.reg 0x50008).toNat)) = true ∧ stampBad (s.reg64 0x50010) = false) ∧
    (∃ (s : State), s.served ∧ ((s.lnk.staged.all fun x => decide (x.1 = (s.reg 0x50008).toNat)) = false ∨ stampBad (s.reg64 0x50010) = true)) ∧
    (∃ (s : State), s.served) ∧
    (∃ (e m : Nat) (t : RouteTable) (s : State), Inv s ∧ s.lnk.staged = some (e, t, m) ∧ m ≤ s.absMin ∧ s.day.due = []) ∧
    (∃ (s : State), (s.lnk.staged = none ∨ s.day.due ≠ [])) ∧
    (∃ (e m : Nat) (t : RouteTable) (s : State), s.lnk.prev = some (e, t, m) ∧ m ≤ s.absMin) ∧
    (∃ (s : State), (s.lnk.prev.all fun x => decide (s.absMin < x.2.2)) = true) ∧
    (∃ (s : State), Inv s ∧ s.served ∧ tabWf (fun _ => 0) s.lnk.aptGen = true) ∧
    (∃ (c : CtxId) (s : State), Inv s ∧ s.served ∧ (s.ctx c.val).state = .free) ∧
    (∃ (c : CtxId) (s : State), s.served ∧ (s.ctx c.val).state ≠ .free) :=
  ⟨⟨msg0 false, handS .running [1], met⟩,
   ⟨msg0 true, 0, 1, 0, handS .running [1], _, some_eq met, met⟩,
   ⟨msg0 false, 0, 1, 0, 0, { (lnkS fun l => { l with hold := [(msg0 false, 0)] }) with day := { DayUnit.reset with minute := 100 } }, _,
     some_eq met, met⟩,
   ⟨run0, met⟩,
   ⟨(run0.setReg 0x50008 5).setReg 0x50404 2, inv_of met, met⟩,
   ⟨{ run0 with lnk := { run0.lnk with staged := some (3, ⟨[(1, 2)], false⟩, 9) } }, met⟩,
   ⟨run0, met⟩,
   ⟨3, 0, ⟨[(1, 2)], false⟩, lnkS fun l => { l with staged := some (3, ⟨[(1, 2)], false⟩, 0) }, inv_of met, met⟩,
   ⟨run0, met⟩,
   ⟨3, 0, ⟨[(1, 2)], false⟩, lnkS fun l => { l with prev := some (3, ⟨[(1, 2)], false⟩, 0) }, met⟩,
   ⟨run0, met⟩,
   ⟨run0, inv_of met, met⟩,
   ⟨1, run0, inv_of met, met⟩,
   ⟨0, run0, met⟩⟩

theorem witness_remote_requests :
    (∃ (p : Fin 9) (a : Fin 64) (ra len c : Nat) (s : State) (bs : List Byte), s.seen.vread 0 c ra len .remoteRead = Except.ok bs ∧ s.hears ∧
      s.aperture p.val a.val = some c) ∧
    (∃ (p : Fin 9) (a : Fin 64) (ra c : Nat) (data : List Byte) (s s2 : State), s.seen.vwrite 0 c ra data .remoteWrite = (s2, none) ∧ s.hears ∧
      s.aperture p.val a.val = some c) ∧
    (∃ (p : Fin 9) (a : Fin 64) (ra len c : Nat) (s : State) (x : XFault), s.seen.vread 0 c ra len .remoteRead = Except.error x ∧ s.hears ∧
      s.aperture p.val a.val = some c ∧ x.reason ≠ 99) ∧
    (∃ (p : Fin 9) (a : Fin 64) (ra c : Nat) (data : List Byte) (s s2 : State) (x : XFault), s.seen.vwrite 0 c ra data .remoteWrite = (s2, some x) ∧
      s.hears ∧ s.aperture p.val a.val = some c ∧ x.reason ≠ 99) ∧
    (∃ (p : Fin 9) (c : Nat) (a : Fin 64) (s : State), s.hears ∧ s.aperture p.val a.val = some c) ∧
    (∃ (p : Fin 9) (f : Peer) (tag : Nat) (a : Fin 64) (wr : Bool) (ra len : Nat) (data : List Byte) (v : DWord) (i : Instr) (s : State), Inv s ∧
      s.hears ∧ s.aperture p.val a.val = none ∧ (i = .remoteRequestRx p f tag a wr ra len data ∨ i = .interruptRx p f tag a v)) ∧
    (∃ (p : Fin 9) (f : Peer) (tag : Nat) (a : Fin 64) (wr : Bool) (ra len : Nat) (data : List Byte) (v : DWord) (i : Instr),
      (i = .remoteRequestRx p f tag a wr ra len data ∨ i = .interruptRx p f tag a v)) ∧
    (∃ (tag : Nat) (r : RemoteReq) (s : State), s.tag tag = some r ∧ (s.ctx r.ctx).gen = r.gen ∧ r.write = false ∧ r.notify = false ∧ s.lnk.reqs =
      [] ∧ s.cmb.sends.any (fun w => decide (w.ctx = r.ctx)) = false ∧ s.col.colls.any (fun x => decide (x.ctx = r.ctx)) = false ∧ tabWf
      (fun _ => none) s.lnk.tags = true) ∧
    (∃ (tag : Nat) (r : RemoteReq) (s : State), s.tag tag = some r ∧ (r.write = true ∨ r.notify = true ∨ (s.ctx r.ctx).gen ≠ r.gen) ∧ s.lnk.reqs =
      [] ∧ tabWf (fun _ => none) s.lnk.tags = true) ∧
    (∃ (tag : Nat) (r : RemoteReq) (s : State) (d : Desc), s.desc r.ctx r.idx = some d ∧ s.tag tag = some r ∧ (s.ctx r.ctx).gen = r.gen ∧
      (s.ctx r.ctx).state = .open_) ∧
    (∃ (tag : Nat) (o : Fin 5) (r : RemoteReq) (s : State), Inv s ∧ s.tag tag = some r ∧ 2 ≤ o.val ∧ (s.ctx r.ctx).gen = r.gen ∧
      (s.ctx r.ctx).state = .open_) ∧
    (∃ (tag : Nat) (s : State), s.tag tag = none) ∧
    (∃ (tag t : Nat) (r : RemoteReq) (s : State) (d : Desc), s.desc r.ctx r.idx = some d ∧ s.tag tag = some r ∧ (s.ctx r.ctx).gen = r.gen ∧
      (s.ctx r.ctx).state = .open_ ∧ r.at_ + s.rdTimeout ≤ max s.clk t) ∧
    (∃ (tag t : Nat) (s : State), ((s.tag tag).all fun r => decide (max s.clk t < r.at_ + s.rdTimeout)) = true) ∧
    (∃ (p : PortId) (s : State), s.pwr.state ≠ .midnight ∧ s.capable p.val 2 = true ∧ s.rbit (0x60100 + 0x40 * p.val) 29 = true) ∧
    (∃ (p : PortId) (wr : Bool) (s : State), s.pwr.state ≠ .midnight ∧ s.capable p.val 2 = true ∧ (wr || !s.rbit (0x60100 + 0x40 * p.val) 29) = true) ∧
    (∃ (p : PortId) (s : State), (s.pwr.state = .midnight ∨ s.capable p.val 2 = false)) ∧
    (∃ (b : Fin 2) (ps : List (Nat × Nat)) (s : State), Inv s ∧ ((s.port (6 + b.val)).state = .up ∨ (s.port (6 + b.val)).state = .confirm) ∧ ps.all
      (fun x => decide (2 ≤ x.2) && decide (x.2 < 65536)) = true ∧ ps.length ≤ 256 ∧ ps ≠ tabGet (fun _ => []) s.lnk.peers b.val ∧ tabWf
      (fun _ => []) s.lnk.peers = true ∧ tabWf (fun _ => 0) s.lnk.peerEpoch = true) ∧
    (∃ (b : Fin 2) (ps : List (Nat × Nat)) (s : State), ps.all (fun x => decide (2 ≤ x.2) && decide (x.2 < 65536)) = true ∧ ps.length ≤ 256 ∧
      (ps = tabGet (fun _ => []) s.lnk.peers b.val ∨ ((s.port (6 + b.val)).state ≠ .up ∧ (s.port (6 + b.val)).state ≠ .confirm))) :=
  ⟨⟨1, 0, 0, 2, 0, aptS, _, ok_eq met, met⟩,
   ⟨1, 0, 0, 0, [], aptS, _, pair_eq met, met⟩,
   ⟨1, 0, 0x40000000, 2, 0, aptS, _, error_eq met, met⟩,
   ⟨1, 0, 0x40000000, 0, [1], aptS, _, _, pair_some_eq met, met⟩,
   ⟨1, 0, 0, aptS, met⟩,
   ⟨0, self0, 5, 0, true, 0, 2, [1], 0, .remoteRequestRx 0 self0 5 0 true 0 2 [1], aptS, inv_of met, met⟩,
   ⟨0, self0, 5, 0, true, 0, 2, [1], 0, .remoteRequestRx 0 self0 5 0 true 0 2 [1], met⟩,
   ⟨3, req0 false, lnkS fun l => { l with tags := [(3, some (req0 false))] }, met⟩,
   ⟨3, req0 true, lnkS fun l => { l with tags := [(3, some (req0 true))] }, met⟩,
   ⟨3, req0 true, lnkS fun l => { l with tags := [(3, some (req0 true))] }, _, some_eq met, met⟩,
   ⟨3, 4, req0 true, lnkS fun l => { l with tags := [(3, some (req0 true))] }, inv_of met, met⟩,
   ⟨3, run0, met⟩,
   ⟨3, 100000000, req0 true, lnkS fun l => { l with tags := [(3, some (req0 true))] }, _, some_eq met, met⟩,
   ⟨3, 5, lnkS fun l => { l with tags := [(3, some (req0 true))] }, met⟩,
   ⟨0, ((portS (port0 .up)).setReg 0x60100 0xA0000000), met⟩,
   ⟨0, true, portS (port0 .up), met⟩,
   ⟨0, run0, met⟩,
   ⟨1, [(1, 7)], { run0 with lnk := { lnk0 with ports := [(7, port0 .up)] } }, inv_of met, met⟩,
   ⟨1, [], run0, met⟩⟩

theorem witness_discovery :
    (∃ (p : TorusPort) (o : Nat) (s : State), o = Config.selfId.toNat ∧ (s.port p.val).state = .up ∧ (s.posValid = true ∨ s.lnk.heard = none)) ∧
    (∃ (p : TorusPort) (o : Nat) (s : State), o ≠ Config.selfId.toNat ∧ (s.port p.val).state = .up) ∧
    (∃ (p : TorusPort) (s : State), (s.port p.val).state ≠ .up) ∧
    (∃ (p : TorusPort) (s : State), (s.port p.val).state ≠ .up) ∧
    (∃ (p : TorusPort) (x y z : Nat) (s : State), s.posValid = true ∧ (s.port p.val).state = .up ∧ s.agreesAt p.val (x, y, z) = true) ∧
    (∃ (p : TorusPort) (x y z : Nat) (s : State), Inv s ∧ s.posValid = true ∧ (s.port p.val).state = .up ∧ s.agreesAt p.val (x, y, z) = false) ∧
    (∃ (p : TorusPort) (s : State), s.posValid = false ∧ s.lnk.heard = none ∧ (s.port p.val).state = .up ∧ s.axisLens = none) ∧
    (∃ (p : TorusPort) (lz : Nat) (s : State), s.posValid = false ∧ s.lnk.heard = none ∧ (s.port p.val).state = .up ∧ s.axisLens = some (4, 4, lz) ∧
      lz ≤ 8) ∧
    (∃ (p : TorusPort) (i : Nat) (s : State), s.posValid = false ∧ (s.port p.val).state = .up ∧ i <
      (s.lnk.elect.map fun e => e.1).getD Config.selfId.toNat) ∧
    (∃ (p : TorusPort) (i : Nat) (s : State), s.posValid = false ∧ (s.port p.val).state = .up ∧
      (s.lnk.elect.map fun e => e.1).getD Config.selfId.toNat ≤ i) ∧
    (∃ (p : TorusPort) (a b c : Nat) (s : State), s.lnk.pos = some (a, b, c) ∧ (s.port p.val).state = .up) ∧
    (∃ (t t0 : Nat) (s : State), s.lnk.firstUp = some t0 ∧ s.posValid = false ∧ s.lnk.heard = none ∧ s.lnk.elect = none ∧ t0 + 5000000 ≤ max s.clk t) ∧
    (∃ (t : Nat) (s : State), (s.posValid || s.lnk.firstUp.all (fun t0 => decide (max s.clk t < t0 + 5000000))) = true) ∧
    (∃ (t i lz : Nat) (x y z : Int) (s : State), s.posValid = false ∧ s.lnk.heard = none ∧ s.lnk.elect = some (i, x, y, z) ∧
      s.lnk.recAt + 100000 ≤ max s.clk t ∧ s.axisLens = some (4, 4, lz) ∧ lz ≤ 8) ∧
    (∃ (t lz : Nat) (x y z : Int) (s : State), s.posValid = false ∧ s.lnk.heard = some (x, y, z) ∧ s.lnk.recAt + 100000 ≤ max s.clk t ∧
      s.axisLens = some (4, 4, lz) ∧ lz ≤ 8) ∧
    (∃ (t : Nat) (s : State), (s.posValid || decide (max s.clk t < s.lnk.recAt + 100000)) = true) :=
  ⟨⟨0, Config.selfId.toNat, lostS id, rfl, met⟩,
   ⟨0, 2 ^ 64, lostS id, Nat.ne_of_gt Config.selfId.isLt, met⟩,
   ⟨2, lostS id, met⟩,
   ⟨2, lostS id, met⟩,
   ⟨0, 1, 0, 0, portS (port0 .up), met⟩,
   ⟨0, 2, 0, 0, portS (port0 .up), inv_of met, met⟩,
   ⟨0, lostS id, met⟩,
   ⟨0, 1, lostS fun l => { l with lens := [(0, 4), (1, 4)] }, met⟩,
   ⟨0, 3, lostS fun l => { l with elect := some (5, 0, 0, 0) }, met⟩,
   ⟨0, 5, lostS fun l => { l with elect := some (5, 0, 0, 0) }, met⟩,
   ⟨0, 0, 0, 0, portS (port0 .up), met⟩,
   ⟨5000000, 0, lostS fun l => { l with firstUp := some 0 }, met⟩,
   ⟨4999999, lostS fun l => { l with firstUp := some 0 }, met⟩,
   ⟨200000, 5, 1, 2, -1, 0, lostS fun l => { l with elect := some (5, 2, -1, 0), lens := [(0, 4), (1, 4)] }, met⟩,
   ⟨200000, 1, 2, -1, 0, lostS fun l => { l with heard := some (2, -1, 0), lens := [(0, 4), (1, 4)] }, met⟩,
   ⟨99999, lostS id, met⟩⟩

theorem witness_group_formation :
    (∃ (c : CtxId) (s : State) (d : Desc) (s1 : State), s.startsForm c.val = .go d s1 ∧ s1.flt.bracket = none ∧ s1.formReason (formSlot d)
      (dword d.words 2) = none) ∧
    (∃ (c : CtxId) (r : Nat) (s : State) (d : Desc) (s1 : State), s.startsForm c.val = .go d s1 ∧ s1.flt.bracket = none ∧ s1.formReason (formSlot d)
      (dword d.words 2) = some r ∧ s1.desc c.val d.idx = some d) ∧
    (∃ (c : CtxId) (b : Bracket) (s : State) (d : Desc) (s1 : State), s.startsForm c.val = .go d s1 ∧ s1.flt.bracket = some b ∧
      s1.inBracket c.val = true ∧ s1.formReason (formSlot d) (dword d.words 2) = none ∧ s1.shadowTakes (formSlot d) = false ∧ s1.formsFull = false ∧
      d.brClose = false) ∧
    (∃ (c : CtxId) (s : State) (d : Desc) (s1 : State), s.startsDissolve c.val = .go d s1 ∧ s1.flt.bracket = none ∧ s1.judgeSlot c.val d
      (formSlot d) true = none ∧ s1.desc c.val d.idx = some d ∧ tabWf (fun _ => GroupSlot.reset) s1.col.groups = true) ∧
    (∃ (c : CtxId) (s : State) (d : Desc) (s1 x : State), s.startsDissolve c.val = .go d s1 ∧ s1.judgeSlot c.val d (formSlot d) true = some x) ∧
    (∃ (p : Nat) (g : Fin 64) (j : Join) (s : State), s.hears ∧ p ∈ shapeMembers j.shape j.anchor s.lnk.zLen ∧
      (shapeMembers j.shape j.anchor s.lnk.zLen).head? = some s.position ∧ (s.group g.val).joins = [] ∧ tabWf
      (fun _ => GroupSlot.reset) s.col.groups = true) ∧
    (∃ (p q : Nat) (g : Fin 64) (j k : Join) (s : State), s.hears ∧ p ∈ shapeMembers j.shape j.anchor s.lnk.zLen ∧
      (shapeMembers j.shape j.anchor s.lnk.zLen).head? = some s.position ∧ (s.group g.val).joins = [(q, k)] ∧ q ≠ p ∧ k.tag ≠ j.tag ∧ tabWf
      (fun _ => GroupSlot.reset) s.col.groups = true) ∧
    (∃ (p : Nat) (j : Join) (s : State), s.hears ∧ (¬ p ∈ shapeMembers j.shape j.anchor s.lnk.zLen ∨
      (shapeMembers j.shape j.anchor s.lnk.zLen).head? ≠ some s.position)) ∧
    (∃ (g : Fin 64) (i : Nat) (s : State) (d : Desc), s.desc (s.group g.val).ctx i = some d ∧ s.hears ∧ (s.group g.val).state = .forming ∧
      (s.group g.val).idx = some i ∧ tabWf (fun _ => 0) s.flt.epochs = true) ∧
    (∃ (g : Fin 64) (r i : Nat) (s : State) (d : Desc), s.desc (s.group g.val).ctx i = some d ∧ s.hears ∧ (s.group g.val).state = .forming ∧
      (s.group g.val).idx = some i ∧ r ≠ 0) ∧
    (∃ (g : Fin 64) (m i : Nat) (s : State) (d : Desc), s.desc (s.group g.val).ctx i = some d ∧ (s.group g.val).state = .forming ∧
      (s.group g.val).limit = some m ∧ m ≤ s.absMin ∧ (s.group g.val).idx = some i) ∧
    (∃ (g : Fin 64) (s : State), s.hears ∧ (s.group g.val).state ≠ .forming) ∧
    (∃ (g : Fin 64) (s : State), ((s.group g.val).state ≠ .forming ∨ (s.group g.val).limit.all (fun m => decide (s.absMin < m)) = true)) ∧
    (∃ (p : Nat) (g : Fin 64) (j : Join) (e r : Nat) (i : Instr), (i = .joinRx p g j ∨ i = .formedRx g e r)) :=
  ⟨⟨0, handS .waiting [0x21], _, _, go_eq met, met⟩,
   ⟨0, 4, colS group0 .waiting [0x21], _, _, go_eq met, met⟩,
   ⟨0, { br0 with closeIdx := none, committing := false, count := 2 },
     (let s0 := handS .waiting [0x21]; { s0 with flt := { s0.flt with bracket := some { br0 with closeIdx := none, committing := false }, leases := [(1, { holder := some (0, 1), expire := 9, waiting := [] })] } }),
     _, _, go_eq met, met⟩,
   ⟨0, colS group0 .waiting [0x21 + 2 ^ 32, 0, 2 ^ 63], _, _, go_eq met, met⟩,
   ⟨0, handS .waiting [0x21 + 2 ^ 32, 0, 2 ^ 63], _, _, _, go_eq met, some_eq met⟩,
   ⟨1, 0, ⟨0, (0, 0, 0), 0, 0, 0, true⟩, handS .running [1], met⟩,
   ⟨1, 2, 0, ⟨0, (0, 0, 0), 0, 0, 0, true⟩, ⟨0, (0, 0, 0), 9, 0, 0, true⟩, (handS .running [1]).setGroup 0
     { GroupSlot.reset with joins := [(2, ⟨0, (0, 0, 0), 9, 0, 0, true⟩)] }, met⟩,
   ⟨99, ⟨0, (0, 0, 0), 0, 0, 0, true⟩, handS .running [1], met⟩,
   ⟨0, 0, colS { group0 with state := .forming, idx := some 0, live := [] } .running [0x21], _, some_eq met, met⟩,
   ⟨0, 5, 0, colS { group0 with state := .forming, idx := some 0, live := [] } .running [0x21], _, some_eq met, met⟩,
   ⟨0, 0, 0, colS { group0 with state := .forming, idx := some 0, live := [], limit := some 0 } .running [0x21], _, some_eq met, met⟩,
   ⟨0, run0, met⟩,
   ⟨0, run0, met⟩,
   ⟨1, 0, ⟨0, (0, 0, 0), 0, 0, 0, true⟩, 0, 0, .formedRx 0 0 0, met⟩⟩

theorem witness_group_recovery :
    (∃ (p : Nat) (g : Fin 64) (e lost : Nat) (s : State), s.hears ∧ (s.group g.val).alive = true ∧ e = s.gepoch g.val ∧ p ∈ (s.group g.val).live ∧
      lost ∈ (s.group g.val).live ∧ (s.group g.val).leader lost = some s.position ∧ (s.group g.val).gatherAt = none ∧ (s.group g.val).probeAt = none) ∧
    (∃ (g : Fin 64) (e : Nat) (s : State), s.hears ∧ ((s.group g.val).alive = false ∨ e ≠ s.gepoch g.val)) ∧
    (∃ (g : Fin 64) (t t0 : Nat) (s : State), (s.group g.val).gatherAt = some t0 ∧ t0 ≤ max s.clk t ∧ (s.group g.val).suspects.filter
      (fun p => !(s.group g.val).leavers.contains p && decide (p ≠ s.position)) ≠ []) ∧
    (∃ (g : Fin 64) (t : Nat) (s : State), (s.group g.val).gatherAt.all (fun t0 => decide (max s.clk t < t0)) = true) ∧
    (∃ (g : Fin 64) (e : Nat) (s : State), s.hears ∧ (s.group g.val).alive = true ∧ e = s.gepoch g.val) ∧
    (∃ (p : Nat) (g : Fin 64) (e : Nat) (s : State), s.hears ∧ (s.group g.val).alive = true ∧ e = s.gepoch g.val ∧ (s.group g.val).probing.any
      (fun q => decide (q ≠ p)) = true) ∧
    (∃ (p : Nat) (g : Fin 64) (e t0 : Nat) (s : State), s.hears ∧ (s.group g.val).alive = true ∧ e = s.gepoch g.val ∧ (s.group g.val).probing = [p] ∧
      (s.group g.val).probeAt = some t0 ∧ s.position ∈ ((s.group g.val).live.filter fun q => !(s.group g.val).leavers.contains q)) ∧
    (∃ (g : Fin 64) (t t0 : Nat) (s : State), (s.group g.val).probeAt = some t0 ∧ t0 ≤ max s.clk t ∧ s.position ∈
      ((s.group g.val).live.filter fun p => !(s.group g.val).probing.contains p && !(s.group g.val).leavers.contains p)) ∧
    (∃ (g : Fin 64) (t : Nat) (s : State), (s.group g.val).probeAt.all (fun t0 => decide (max s.clk t < t0)) = true) ∧
    (∃ (g : Fin 64) (e : Nat) (s : State), s.hears ∧ (s.group g.val).alive = true ∧ newerEpoch e (s.gepoch g.val) = true ∧ tabWf
      (fun _ => 0) s.flt.epochs = true) ∧
    (∃ (g : Fin 64) (e : Nat) (s : State), s.hears ∧ ((s.group g.val).alive = false ∨ newerEpoch e (s.gepoch g.val) = false)) ∧
    (∃ (p : Nat) (g : Fin 64) (e : Nat) (s : State), s.hears ∧ (s.group g.val).state = .reforming ∧ e = s.gepoch g.val ∧ p ∈ (s.group g.val).acks ∧
      (s.group g.val).gatherAt = none ∧ (s.group g.val).probeAt = none) ∧
    (∃ (p : Nat) (g : Fin 64) (s : State), s.hears ∧ ¬ p ∈ (s.group g.val).acks) ∧
    (∃ (g : Fin 64) (e : Nat) (s : State), s.hears ∧ (s.group g.val).state = .reforming ∧ e = s.gepoch g.val) ∧
    (∃ (g : Fin 64) (e : Nat) (s : State), s.hears ∧ ((s.group g.val).state ≠ .reforming ∨ e ≠ s.gepoch g.val)) ∧
    (∃ (p : Nat) (g : Fin 64) (e lost t : Nat) (a : Bool) (live : List Nat) (last : Option Nat) (i : Instr),
      (i = .suspectRx p g e lost t ∨ i = .probeRx p g e a ∨ i = .reformRx p g e live last ∨ i = .reformAckRx p g e ∨ i = .resumeRx g e)) :=
  ⟨⟨0, 0, 1, 1, colS group0 .running [1], met⟩,
   ⟨0, 2, colS group0 .running [1], met⟩,
   ⟨0, 6000, 5000, colS { group0 with suspects := [1], gatherAt := some 5000 } .running [1], met⟩,
   ⟨0, 4999, colS { group0 with suspects := [1], gatherAt := some 5000 } .running [1], met⟩,
   ⟨0, 1, colS group0 .running [1], met⟩,
   ⟨1, 0, 1, colS { group0 with probing := [1, 2], probeAt := some 9 } .running [1], met⟩,
   ⟨1, 0, 1, 9, colS { group0 with probing := [1], probeAt := some 9 } .running [1], met⟩,
   ⟨0, 20000, 15000, colS { group0 with probing := [1], probeAt := some 15000 } .running [1], met⟩,
   ⟨0, 14999, colS { group0 with probing := [1], probeAt := some 15000 } .running [1], met⟩,
   ⟨0, 2, colS group0 .running [1], met⟩,
   ⟨0, 1, colS group0 .running [1], met⟩,
   ⟨1, 0, 1, colS { group0 with state := .reforming, acks := [1] } .running [1], met⟩,
   ⟨1, 0, colS group0 .running [1], met⟩,
   ⟨0, 1, colS { group0 with state := .reforming } .running [1], met⟩,
   ⟨0, 2, colS { group0 with state := .reforming } .running [1], met⟩,
   ⟨0, 0, 1, 1, 9, true, [], none, .resumeRx 0 1, met⟩⟩

theorem witness_collectives :
    (∃ (c : CtxId) (s : State) (d : Desc) (s1 : State), s.startsColl c.val (fun op => op == 0 || decide (4 < op)) = .go d s1 ∧ s1.judgeSlot c.val d
      (collSlot d) false = none) ∧
    (∃ (c : CtxId) (s : State) (d : Desc) (s1 : State), s.startsColl c.val (fun op => op == 1) = .go d s1 ∧ s1.judgeSlot c.val d
      (collSlot d) false = none) ∧
    (∃ (c : CtxId) (s : State) (d : Desc) (s1 : State), s.startsColl c.val (fun op => op == 2) = .go d s1 ∧ s1.judgeSlot c.val d
      (collSlot d) false = none) ∧
    (∃ (c : CtxId) (s : State) (d : Desc) (s1 : State), s.startsColl c.val (fun op => op == 3) = .go d s1 ∧ s1.judgeSlot c.val d
      (collSlot d) false = none) ∧
    (∃ (c : CtxId) (s : State) (d : Desc) (s1 : State), s.startsColl c.val (fun op => op == 4) = .go d s1 ∧ s1.judgeSlot c.val d
      (collSlot d) false = none) ∧
    (∃ (c : CtxId) (s : State) (d : Desc) (s1 : State), s.startsColl c.val (fun op => op == 0 || decide (4 < op)) = .go d s1 ∧ (s1.group
      (collSlot d)).state = .dissolved ∧ (s1.group (collSlot d)).ctx = c.val ∧ (s1.group (collSlot d)).gen = (s1.ctx c.val).gen ∧ d.epoch = s1.gepoch
      (collSlot d) ∧ s1.desc c.val d.idx = some d) ∧
    (∃ (c : CtxId) (s : State) (d : Desc) (s1 : State), s.startsColl c.val (fun op => op == 1) = .go d s1 ∧ (s1.group
      (collSlot d)).state = .dissolved ∧ (s1.group (collSlot d)).ctx = c.val ∧ (s1.group (collSlot d)).gen = (s1.ctx c.val).gen ∧ d.epoch = s1.gepoch
      (collSlot d) ∧ s1.desc c.val d.idx = some d) ∧
    (∃ (c : CtxId) (s : State) (d : Desc) (s1 : State), s.startsColl c.val (fun op => op == 2) = .go d s1 ∧ (s1.group
      (collSlot d)).state = .dissolved ∧ (s1.group (collSlot d)).ctx = c.val ∧ (s1.group (collSlot d)).gen = (s1.ctx c.val).gen ∧ d.epoch = s1.gepoch
      (collSlot d) ∧ s1.desc c.val d.idx = some d) ∧
    (∃ (c : CtxId) (s : State) (d : Desc) (s1 : State), s.startsColl c.val (fun op => op == 3) = .go d s1 ∧ (s1.group
      (collSlot d)).state = .dissolved ∧ (s1.group (collSlot d)).ctx = c.val ∧ (s1.group (collSlot d)).gen = (s1.ctx c.val).gen ∧ d.epoch = s1.gepoch
      (collSlot d) ∧ s1.desc c.val d.idx = some d) ∧
    (∃ (c : CtxId) (s : State) (d : Desc) (s1 : State), s.startsColl c.val (fun op => op == 4) = .go d s1 ∧ (s1.group
      (collSlot d)).state = .dissolved ∧ (s1.group (collSlot d)).ctx = c.val ∧ (s1.group (collSlot d)).gen = (s1.ctx c.val).gen ∧ d.epoch = s1.gepoch
      (collSlot d) ∧ s1.desc c.val d.idx = some d) :=
  ⟨⟨0, colS group0 .waiting [0x20 + 2 ^ 32, 0, 0x3000, 0x3040, 1, 458752], _, _, go_eq met, met⟩,
   ⟨0, colS group0 .waiting [0x20 + 2 ^ 32, 0, 0x3000, 0x3040, 1, 459008], _, _, go_eq met, met⟩,
   ⟨0, colS group0 .waiting [0x20 + 2 ^ 32, 0, 0x3000, 0x3040, 1, 459264], _, _, go_eq met, met⟩,
   ⟨0, colS group0 .waiting [0x20 + 2 ^ 32, 0, 0x3000, 0x3040, 1, 459520], _, _, go_eq met, met⟩,
   ⟨0, colS group0 .waiting [0x20 + 2 ^ 32, 0, 0x3000, 0x3040, 1, 459776], _, _, go_eq met, met⟩,
   ⟨0, colS { group0 with state := .dissolved } .waiting [0x20 + 2 ^ 32, 0, 0x3000, 0x3040, 1, 458752], _, _, go_eq met, met⟩,
   ⟨0, colS { group0 with state := .dissolved } .waiting [0x20 + 2 ^ 32, 0, 0x3000, 0x3040, 1, 459008], _, _, go_eq met, met⟩,
   ⟨0, colS { group0 with state := .dissolved } .waiting [0x20 + 2 ^ 32, 0, 0x3000, 0x3040, 1, 459264], _, _, go_eq met, met⟩,
   ⟨0, colS { group0 with state := .dissolved } .waiting [0x20 + 2 ^ 32, 0, 0x3000, 0x3040, 1, 459520], _, _, go_eq met, met⟩,
   ⟨0, colS { group0 with state := .dissolved } .waiting [0x20 + 2 ^ 32, 0, 0x3000, 0x3040, 1, 459776], _, _, go_eq met, met⟩⟩

theorem witness_collective_agreement :
    (∃ (p : Nat) (g : Fin 64) (e : Nat) (s : State), s.hears ∧ (s.group g.val).alive = true ∧ e = s.gepoch g.val ∧ p ∈ (s.group g.val).live ∧
      (s.group g.val).leader 128 = some s.position ∧ s.col.table = [] ∧ (s.group g.val).live.any (fun q => decide (q ≠ p)) = true) ∧
    (∃ (p : Nat) (g : Fin 64) (e cseq : Nat) (a : Announce) (valid : Bool) (old : List (Nat × Announce × Bool)) (s : State), s.hears ∧
      (s.group g.val).alive = true ∧ e = s.gepoch g.val ∧ p ∈ (s.group g.val).live ∧ (s.group g.val).leader 128 = some s.position ∧ s.col.table =
      [(g.val, cseq, old)] ∧ (s.group g.val).live.all (fun q => decide (q = p) || old.any (fun x => decide (x.1 = q))) = true ∧ s.leaderReason
      (s.group g.val) (old.filter (fun x => decide (x.1 ≠ p)) ++ [(p, a, valid)]) = none) ∧
    (∃ (p : Nat) (g : Fin 64) (e cseq r : Nat) (a : Announce) (valid : Bool) (old : List (Nat × Announce × Bool)) (s : State), s.leaderReason
      (s.group g.val) (old.filter (fun x => decide (x.1 ≠ p)) ++ [(p, a, valid)]) = some r ∧ s.hears ∧ (s.group g.val).alive = true ∧
      e = s.gepoch g.val ∧ p ∈ (s.group g.val).live ∧ (s.group g.val).leader 128 = some s.position ∧ s.col.table = [(g.val, cseq, old)] ∧
      (s.group g.val).live.all (fun q => decide (q = p) || old.any (fun x => decide (x.1 = q))) = true) ∧
    (∃ (g : Fin 64) (e cseq : Nat) (x : Coll) (s : State) (d : Desc), s.desc x.ctx x.idx = some d ∧ s.hears ∧ s.coll g.val cseq = some x ∧
      x.phase = .announced ∧ e = s.gepoch g.val ∧ s.stageMib * 0x100000 < s.stagingFor x.spec) ∧
    (∃ (g : Fin 64) (e cseq m : Nat) (x : Coll) (s : State) (d : Desc), s.desc x.ctx x.idx = some d ∧ s.hears ∧ s.coll g.val cseq = some x ∧
      x.phase = .announced ∧ e = s.gepoch g.val ∧ s.col.goOrder = [] ∧ s.staged + s.stagingFor x.spec ≤ s.stageMib * 0x100000 ∧ x.staged = 0 ∧
      d.start = some m ∧ s.absMin < m) ∧
    (∃ (g : Fin 64) (e cseq : Nat) (x : Coll) (s : State) (d : Desc), s.desc x.ctx x.idx = some d ∧ s.hears ∧ s.coll g.val cseq = some x ∧
      x.phase = .announced ∧ e = s.gepoch g.val ∧ tabWf (fun _ => GroupSlot.reset) s.col.groups = true) ∧
    (∃ (g cseq m : Nat) (x : Coll) (s : State) (d : Desc), s.desc x.ctx x.idx = some d ∧ s.col.goOrder = [(g, cseq)] ∧ s.coll g cseq = some x ∧
      s.staged + s.stagingFor x.spec ≤ s.stageMib * 0x100000 ∧ d.start = some m ∧ s.absMin < m) ∧
    (∃ (g : Fin 64) (cseq : Nat) (x : Coll) (s : State) (d : Desc), s.desc x.ctx x.idx = some d ∧ s.turn (.launch g.val cseq) = true ∧
      s.coll g.val cseq = some x ∧ x.phase = .reserved ∧ (d.start.all fun m => decide (m ≤ s.absMin)) = true ∧ x.spec.op = 3 ∧
      x.spec.root ≠ s.position ∧ x.ring = false ∧ x.early = [] ∧ 0 < x.treeChunks (s.group g.val).live.length) ∧
    (∃ (g : Fin 64) (e : Nat) (s : State), s.hears ∧ ((s.group g.val).alive = false ∨ e ≠ s.gepoch g.val ∨
      (s.group g.val).leader 128 ≠ some s.position)) ∧
    (∃ (g : Fin 64) (e cseq r : Nat) (ring : Bool) (i : Instr) (s : State), s.hears ∧ (s.coll g.val cseq = none ∨ e ≠ s.gepoch g.val) ∧
      (i = .goRx g e cseq ring ∨ i = .refuseRx g e cseq r)) ∧
    (∃ (s : State), s.col.goOrder = []) ∧
    (∃ (g : Fin 64) (cseq : Nat) (s : State), s.turn (.launch g.val cseq) = false) ∧
    (∃ (p : Nat) (g : Fin 64) (e cseq r : Nat) (a : Announce) (valid ring : Bool) (i : Instr),
      (i = .announceRx p g e cseq a valid ∨ i = .goRx g e cseq ring ∨ i = .refuseRx g e cseq r)) :=
  ⟨⟨1, 0, 1, colS group0 .running [1], met⟩,
   ⟨1, 0, 1, 0, coll0.spec, true, [(0, coll0.spec, true)], tableS, met⟩,
   ⟨1, 0, 1, 0, 3, coll0.spec, false, [(0, coll0.spec, true)], tableS, met, met⟩,
   ⟨0, 1, 0, { coll0 with spec := { coll0.spec with chunkLog := 30 } }, workS { coll0 with spec := { coll0.spec with chunkLog := 30 } }, _,
     some_eq met, met⟩,
   ⟨0, 1, 0, 9, coll0, lateS coll0, _, some_eq met, met⟩,
   ⟨0, 1, 0, coll0, workS coll0, _, some_eq met, met⟩,
   ⟨0, 0, 9, { coll0 with phase := .staging }, (let s := lateS { coll0 with phase := .staging }; s.setCol { s.col with goOrder := [(0, 0)] }), _,
     some_eq met, met⟩,
   ⟨0, 0, { coll0 with phase := .reserved }, (let s := workS { coll0 with phase := .reserved }; s.setDay { s.day with due := [.launch 0 0] }), _,
     some_eq met, met⟩,
   ⟨0, 2, run0, met⟩,
   ⟨0, 2, 0, 0, false, .refuseRx 0 2 0 0, run0, met⟩,
   ⟨run0, met⟩,
   ⟨0, 0, run0, met⟩,
   ⟨1, 0, 1, 0, 0, coll0.spec, true, false, .goRx 0 1 0 false, met⟩⟩

theorem witness_collective_chunks :
    (∃ (h : ChunkHead) (bs : List Byte) (crc : BitVec 32) (s : State), Inv s ∧ s.hears ∧ (s.group h.slot.val).alive = true ∧
      h.gepoch = s.gepoch h.slot.val ∧ crc32c bs ≠ crc.toNat) ∧
    (∃ (h : ChunkHead) (bs : List Byte) (crc : BitVec 32) (x : Coll) (s : State), s.hears ∧ (s.group h.slot.val).alive = true ∧
      h.gepoch = s.gepoch h.slot.val ∧ crc32c bs = crc.toNat ∧ s.coll h.slot.val h.cseq = some x ∧ x.phase ≠ .running ∧ x.early = []) ∧
    (∃ (p : Nat) (h : ChunkHead) (bs : List Byte) (crc : BitVec 32) (x : Coll) (s : State), s.hears ∧ (s.group h.slot.val).alive = true ∧
      h.gepoch = s.gepoch h.slot.val ∧ crc32c bs = crc.toNat ∧ s.coll h.slot.val h.cseq = some x ∧ x.phase = .running ∧ x.taken
      (s.group h.slot.val) s.position ⟨p, h.flags, h.step, h.chunk, bs⟩ = true) ∧
    (∃ (p : Nat) (h : ChunkHead) (x : Coll) (a : ColSend) (s : State), Inv s ∧ s.hears ∧ h.gepoch = s.gepoch h.slot.val ∧
      s.coll h.slot.val h.cseq = some x ∧ x.sent = [a] ∧ a.dst = p ∧ a.flags = h.flags ∧ a.step = h.step ∧ a.chunk = h.chunk ∧ a.nacks < 3) ∧
    (∃ (p : Nat) (h : ChunkHead) (x : Coll) (a : ColSend) (s : State) (d : Desc), s.desc x.ctx x.idx = some d ∧ s.hears ∧
      h.gepoch = s.gepoch h.slot.val ∧ s.col.colls = [x] ∧ x.slot = h.slot.val ∧ x.cseq = h.cseq ∧ x.sent = [a] ∧ a.dst = p ∧ a.flags = h.flags ∧
      a.step = h.step ∧ a.chunk = h.chunk ∧ x.phase = .running ∧ x.ring = false ∧ x.early = [] ∧ x.outq = [] ∧ x.workDone
      (s.group x.slot) s.position = true ∧ (s.group x.slot).full = true) ∧
    (∃ (g : Fin 64) (cseq : Nat) (x : Coll) (s : State), Inv s ∧ s.turn (.collLease g.val cseq) = true ∧ s.coll g.val cseq = some x ∧ 0 < x.staged ∧
      x.last + s.colLease ≤ s.absMin) ∧
    (∃ (n : Fin 8) (s : State), Inv s ∧ s.sliceAt n.val ≠ 15) ∧
    (∃ (p : Nat) (h : ChunkHead) (x : Coll) (a : ColSend) (s : State), Inv s ∧ s.hears ∧ h.gepoch = s.gepoch h.slot.val ∧
      s.coll h.slot.val h.cseq = some x ∧ x.sent = [a] ∧ a.dst = p ∧ a.flags = h.flags ∧ a.step = h.step ∧ a.chunk = h.chunk ∧ 3 ≤ a.nacks) ∧
    (∃ (h : ChunkHead) (s : State), s.hears ∧ ((s.group h.slot.val).alive = false ∨ h.gepoch ≠ s.gepoch h.slot.val)) ∧
    (∃ (h : ChunkHead) (s : State), s.hears ∧ (s.coll h.slot.val h.cseq = none ∨ h.gepoch ≠ s.gepoch h.slot.val)) ∧
    (∃ (g : Fin 64) (cseq : Nat) (s : State), s.turn (.collLease g.val cseq) = false) ∧
    (∃ (n : Fin 8) (s : State), s.sliceAt n.val = 15) ∧
    (∃ (p : Nat) (h : ChunkHead) (bs : List Byte) (crc : BitVec 32) (nack : Bool) (i : Instr),
      (i = .collectiveChunkRx p h bs crc ∨ i = .collectiveAckRx p h nack)) :=
  ⟨⟨head0, [1], 0, workS coll0, inv_of met, met⟩,
   ⟨head0, [1], BitVec.ofNat 32 (crc32c [1]), coll0, workS coll0, met⟩,
   ⟨1, head0, [1], BitVec.ofNat 32 (crc32c [1]), { coll0 with phase := .running, delivered := [0] }, workS
     { coll0 with phase := .running, delivered := [0] }, met⟩,
   ⟨1, head0, { coll0 with phase := .running, sent := [send1] }, send1, workS { coll0 with phase := .running, sent := [send1] }, inv_of met, met⟩,
   ⟨1, head0, { coll0 with phase := .running, sent := [send1], delivered := [0] }, send1, workS
     { coll0 with phase := .running, sent := [send1], delivered := [0] }, _, some_eq met, met⟩,
   ⟨0, 0, { coll0 with phase := .running, staged := 1 },
     (let s := workS { coll0 with phase := .running, staged := 1 }; s.setDay { s.day with minute := 500, due := [.collLease 0 0] }), inv_of met, met⟩,
   ⟨0, workS coll0, inv_of met, met⟩,
   ⟨1, head0, { coll0 with phase := .running, sent := [{ send1 with nacks := 3 }] }, { send1 with nacks := 3 }, workS
     { coll0 with phase := .running, sent := [{ send1 with nacks := 3 }] }, inv_of met, met⟩,
   ⟨{ head0 with gepoch := 2 }, run0, met⟩,
   ⟨head0, run0, met⟩,
   ⟨0, 0, run0, met⟩,
   ⟨0, { run0 with maps := { run0.maps with slices := [(0, 15)] } }, met⟩,
   ⟨1, head0, [1], 0, true, .collectiveAckRx 1 head0 true, met⟩⟩

theorem witness_dawn_path :
    (∃ (s : State) (c : CtxId) (data : HostData) (d0 d : Desc) (bs : List Byte) (s1 : State), s.nextDesc c.val = some d0 ∧
      (s.asked c.val d0.idx).startsDawn c.val (fun op => op == 0 || op == 3) = .go d s1 ∧ s1.dawnClear c.val d ∧ s1.dawnSource c.val d data = some
      (.ok bs) ∧ dawnAxes (s1.group (dawnGroup d)) s1.position ≠ []) ∧
    (∃ (s : State) (c : CtxId) (data : HostData) (d0 d : Desc) (bs : List Byte) (s1 : State), s.nextDesc c.val = some d0 ∧
      (s.asked c.val d0.idx).startsDawn c.val (fun op => op == 0 || op == 3) = .go d s1 ∧ s1.dawnClear c.val d ∧ s1.dawnSource c.val d data = some
      (.ok bs) ∧ dawnAxes (s1.group (dawnGroup d)) s1.position = [] ∧ dbit d.words 4 40 = true ∧ s1.host.linkUp = true ∧ s1.desc c.val d.idx = some d) ∧
    (∃ (s : State) (c : CtxId) (data : HostData) (d0 : Desc) (i : Instr) (d : Desc) (bs : List Byte) (s1 s2 : State), s.nextDesc c.val = some d0 ∧
      ((i = .dawnAllReduce c data ∧ (s.asked c.val d0.idx).startsDawn c.val (fun op => op == 0 || op == 3) = .go d s1) ∨ (i = .dawnBroadcast c data ∧
      (s.asked c.val d0.idx).startsDawn c.val (fun op => op == 1) = .go d s1 ∧ dfld d.words 4 32 7 ∈ (s1.group (dawnGroup d)).live ∧
      dfld d.words 4 32 7 = s1.position)) ∧ (s1.dawnTaken c.val d).vwrite 0 c.val (dword d.words 3) bs = (s2, none) ∧ s1.dawnClear c.val d ∧
      s1.dawnSource c.val d data = some (.ok bs) ∧ dawnAxes (s1.group (dawnGroup d)) s1.position = [] ∧ dbit d.words 4 40 = false ∧
      s2.lnk.need = none ∧ s2.desc c.val d.idx = some d) ∧
    (∃ (s : State) (c : CtxId) (d0 d : Desc) (s1 : State), s.nextDesc c.val = some d0 ∧ (s.asked c.val d0.idx).startsDawn c.val
      (fun op => op == 1) = .go d s1 ∧ s1.dawnClear c.val d ∧ dfld d.words 4 32 7 ∈ (s1.group (dawnGroup d)).live ∧ dfld d.words 4 32 7 ≠ s1.position) ∧
    (∃ (s : State) (c : CtxId) (data : HostData) (d0 d : Desc) (bs : List Byte) (s1 : State), s.nextDesc c.val = some d0 ∧
      (s.asked c.val d0.idx).startsDawn c.val (fun op => op == 1) = .go d s1 ∧ s1.dawnClear c.val d ∧ dfld d.words 4 32 7 ∈ (s1.group
      (dawnGroup d)).live ∧ dfld d.words 4 32 7 = s1.position ∧ s1.dawnSource c.val d data = some (.ok bs) ∧ dbit d.words 4 40 = true ∧
      s1.host.linkUp = true ∧ s1.desc c.val d.idx = some d) ∧
    (∃ (s : State) (c : CtxId) (d0 d : Desc) (s1 : State), s.nextDesc c.val = some d0 ∧ (s.asked c.val d0.idx).startsDawn c.val
      (fun op => op == 2) = .go d s1 ∧ s1.dawnClear c.val d ∧ s1.desc c.val d.idx = some d) ∧
    (∃ (p : TorusPort) (slot : List Byte) (s : State), s.pwr.state ≠ .midnight ∧ slot.length = 16 ∧ dawnOk (leNat slot) = true ∧ bitsOf
      (leNat slot) 110 2 = 1 ∧ (s.group (bitsOf (leNat slot) 104 6)).alive = true ∧ bitsOf (leNat slot) 100 4 = s.gepoch (bitsOf
      (leNat slot) 104 6) % 16 ∧ s.dawnCopy (s.group (bitsOf (leNat slot) 104 6)) (p.val / 2) (leNat slot) = true) ∧
    (∃ (p : TorusPort) (slot : List Byte) (s : State), s.pwr.state ≠ .midnight ∧ slot.length = 16 ∧ dawnOk (leNat slot) = true ∧ bitsOf
      (leNat slot) 110 2 = 1 ∧ (s.group (bitsOf (leNat slot) 104 6)).alive = true ∧ bitsOf (leNat slot) 100 4 = s.gepoch (bitsOf
      (leNat slot) 104 6) % 16 ∧ s.dawnCopy (s.group (bitsOf (leNat slot) 104 6)) (p.val / 2) (leNat slot) = false ∧ (s.col.dawns.all
      (fun x => decide (x.slot ≠ bitsOf (leNat slot) 104 6 ∨ x.dseq ≠ bitsOf (leNat slot) 92 8)) = true)) ∧
    (∃ (p : TorusPort) (slot : List Byte) (d : DawnOp) (s : State) (y : Desc), s.desc d.ctx d.idx = some y ∧ s.pwr.state ≠ .midnight ∧
      slot.length = 16 ∧ dawnOk (leNat slot) = true ∧ bitsOf (leNat slot) 110 2 = 1 ∧ (s.group d.slot).alive = true ∧ (s.group d.slot).full = true ∧
      bitsOf (leNat slot) 100 4 = s.gepoch d.slot % 16 ∧ s.col.dawns = [d] ∧ s.col.values = [] ∧ d.op = 2 ∧ d.phase = 0 ∧ bitsOf
      (leNat slot) 104 6 = d.slot ∧ bitsOf (leNat slot) 92 8 = d.dseq ∧ bitsOf (leNat slot) 82 3 = 0 ∧ bitAt (leNat slot) 81 = true ∧ bitsOf
      (leNat slot) 79 2 = 2 ∧ bitsOf (leNat slot) 77 2 = d.red ∧ bitsOf (leNat slot) 75 2 = d.dtype ∧ bitsOf (leNat slot) 68 7 = d.nbytes ∧ dawnAxes
      (s.group d.slot) s.position = [p.val / 2] ∧ ((lineOf (s.group d.slot).live (p.val / 2) s.position).all
      (fun q => decide (q = s.position ∨ q = bitsOf (leNat slot) 85 7)) = true)) ∧
    (∃ (slot : List Byte) (s : State), (s.pwr.state = .midnight ∨ slot.length ≠ 16 ∨ dawnOk (leNat slot) = false ∨ bitsOf (leNat slot) 110 2 ≠ 1 ∨
      (s.group (bitsOf (leNat slot) 104 6)).alive = false ∨ bitsOf (leNat slot) 100 4 ≠ s.gepoch (bitsOf (leNat slot) 104 6) % 16)) ∧
    (∃ (slot : List Byte) (s : State), s.pwr.state ≠ .midnight ∧ slot.length = 16 ∧ dawnOk (leNat slot) = true ∧ bitsOf (leNat slot) 110 2 = 2) ∧
    (∃ (slot : List Byte) (s : State), (s.pwr.state = .midnight ∨ slot.length ≠ 16 ∨ dawnOk (leNat slot) = false ∨ bitsOf (leNat slot) 110 2 ≠ 2)) ∧
    (∃ (p : TorusPort) (v t0 : Nat) (s : State), Inv s ∧ s.dawnPort p.val = true ∧ s.col.sendq = [(p.val, v, some t0)]) ∧
    (∃ (p : TorusPort) (s : State), (s.dawnPort p.val = false ∨ s.col.sendq.all (fun e => decide (e.1 ≠ p.val)) = true)) :=
  ⟨⟨colS group0 .waiting [0x22 + 2 ^ 32, 0, 0, 0x3040, 0x20004000000], 0, (.ok [1, 0, 0, 0]), _, _, [1, 0, 0, 0], _, some_eq met, go_eq met, met⟩,
   ⟨colS { group0 with members := [0], live := [0] } .waiting [0x22 + 2 ^ 32, 0, 0, 0x3040, 0x30004000000], 0, (.ok [1, 0, 0, 0]), _, _, [1, 0, 0,
     0], _, some_eq met, go_eq met, met⟩,
   ⟨colS { group0 with members := [0], live := [0] } .waiting [0x22 + 2 ^ 32, 0, 0, 0x3040, 0x20004000000], 0, (.ok [1, 0, 0, 0]), _,
     (.dawnAllReduce 0 (.ok [1, 0, 0, 0])), _, [1, 0, 0, 0], _, _, some_eq met, .inl ⟨rfl, go_eq met⟩, pair_eq met, met⟩,
   ⟨colS group0 .waiting [0x22 + 2 ^ 32, 0, 0, 0x3040, 0x104000100], 0, _, _, _, some_eq met, go_eq met, met⟩,
   ⟨colS group0 .waiting [0x22 + 2 ^ 32, 0, 0, 0x3040, 0x30004000100], 0, (.ok [1, 0, 0, 0]), _, _, [1, 0, 0, 0], _, some_eq met, go_eq met, met⟩,
   ⟨colS { group0 with members := [0], live := [0] } .waiting [0x22 + 2 ^ 32, 0, 0, 0, 0x200], 0, _, _, _, some_eq met, go_eq met, met⟩,
   ⟨0, (leBytes 16 (valueSlot 0 1 0 1 0 true 0 0 0 4 7)), copyS, met⟩,
   ⟨0, (leBytes 16 (valueSlot 0 1 0 1 0 true 0 0 0 4 7)), dawnS [], met⟩,
   ⟨0, (leBytes 16 (valueSlot 0 1 0 1 0 true 2 0 0 0 0)),
     { slot := 0, dseq := 0, ctx := 0, gen := 0, idx := 0, op := 2, red := 0, dtype := 0, nbytes := 0, root := 0, dst := 0, dstHost := false, phase := 0, value := some [] },
     (let s := dawnS []; s.setCol { s.col with dawns := [{ slot := 0, dseq := 0, ctx := 0, gen := 0, idx := 0, op := 2, red := 0, dtype := 0, nbytes := 0, root := 0, dst := 0, dstHost := false, phase := 0, value := some [] }] }),
     _, some_eq met, met⟩,
   ⟨(leBytes 16 (valueSlot 0 1 0 1 0 true 0 0 0 4 7 + 1)), dawnS [], met⟩,
   ⟨(leBytes 16 (ackSlot (valueSlot 0 1 0 0 0 true 0 0 0 4 7))), dawnS [(0, valueSlot 0 1 0 0 0 true 0 0 0 4 7, some 5), (1, 9, none)], met⟩,
   ⟨(leBytes 16 (valueSlot 0 1 0 1 0 true 0 0 0 4 7)), dawnS [], met⟩,
   ⟨0, 9, 5, dawnS [(0, 9, some 5)], inv_of met, met⟩,
   ⟨0, dawnS [(1, 9, some 5)], met⟩⟩

theorem witness_supply_and_heat_monitors :
    (∃ (f : List Byte) (s : State), Inv s ∧ s.pwr.state ≠ .midnight ∧ sstatValid f = true) ∧
    (∃ (f : List Byte) (s : State), Inv s ∧ s.pwr.state ≠ .midnight ∧ sstatValid f = false) ∧
    (∃ (s : State), Inv s ∧ s.pwr.state ≠ .midnight ∧ s.pwr.sstatOk = true) ∧
    (∃ (f : List Byte) (t : Nat) (i : Instr) (s : State), ((s.pwr.state = .midnight ∧ (i = .sstatFrameRx f t ∨ i = .sstatLoss t)) ∨
      (s.pwr.sstatOk = false ∧ i = .sstatLoss t))) ∧
    (∃ (m : Fin 10) (nominal mv : Nat) (plausible : Bool) (i : Instr) (s : State), s.pwr.state ≠ .midnight ∧ plausible = true ∧
      s.sagOf nominal mv ≠ 0 ∧ (i = .railSag m nominal mv plausible ∨ i = .railSagEnd m nominal mv plausible)) ∧
    (∃ (m : Fin 10) (nominal mv k : Nat) (plausible : Bool) (i : Instr) (s : State), s.pwr.state ≠ .midnight ∧ s.pwr.sag = [(m.val, k)] ∧
      (s.rbit 0xD0000 0 && s.pwr.sstatOk && decide (bitsOf s.pwr.sstat 0 3 ≠ 0)) = false ∧ (plausible = false ∨ s.sagOf nominal mv = 0) ∧
      (i = .railSag m nominal mv plausible ∨ i = .railSagEnd m nominal mv plausible)) ∧
    (∃ (m : Fin 10) (nominal mv : Nat) (plausible : Bool) (i : Instr) (s : State), s.pwr.state ≠ .midnight ∧ s.sagNow = false ∧
      (plausible = false ∨ s.sagOf nominal mv = 0) ∧ (i = .railSag m nominal mv plausible ∨ i = .railSagEnd m nominal mv plausible)) ∧
    (∃ (m : Fin 10) (nominal mv : Nat) (plausible : Bool) (n : Fin 8) (c : Nat) (i : Instr) (s : State), s.pwr.state = .midnight ∧
      (i = .railSag m nominal mv plausible ∨ i = .railSagEnd m nominal mv plausible ∨ i = .hbmTemperatureReport n c)) ∧
    (∃ (s : State), s.pwr.ride = true ∧ s.sagNow = false ∧ s.pwr.rideClearFrom + s.rideHold ≤ s.absMin ∧ s.day.due.contains .hourAccounting = false) ∧
    (∃ (s : State), (s.pwr.ride = false ∨ s.sagNow = true ∨ s.absMin < s.pwr.rideClearFrom + s.rideHold ∨ s.day.due.contains .hourAccounting = true)) ∧
    (∃ (a b : Nat) (s : State), Inv s ∧ s.pwr.state ≠ .midnight ∧ sensorTrips (a % 256) = false ∧ sensorTrips (b % 256) = false) ∧
    (∃ (a b : Nat) (s : State), s.pwr.state ≠ .midnight ∧ (sensorTrips (a % 256) = true ∨ sensorTrips (b % 256) = true)) ∧
    (∃ (s : State), s.pwr.state = .midnight) ∧
    (∃ (c : Nat) (s : State), s.pwr.state ≠ .midnight ∧ sensorTrips (c % 256) = true) ∧
    (∃ (c : Nat) (s : State), s.pwr.state = .midnight ∧ sensorTrips (c % 256) = true) ∧
    (∃ (c : Nat), sensorTrips (c % 256) = false) ∧
    (∃ (s : State), s.pwr.state ≠ .midnight ∧ tabWf (fun _ => false) s.pwr.hbmHot = true) :=
  ⟨⟨sstat0, run0.setReg 0xD0000 1, inv_of met, met⟩,
   ⟨[], run0, inv_of met, met⟩,
   ⟨{ run0 with pwr := { run0.pwr with sstatOk := true } }, inv_of met, met⟩,
   ⟨[], 5, .sstatLoss 5, { run0 with pwr := { run0.pwr with state := .midnight } }, met⟩,
   ⟨3, 800, 700, true, .railSag 3 800 700 true, run0, met⟩,
   ⟨3, 800, 799, 1, true, .railSagEnd 3 800 799 true, { run0 with pwr := { run0.pwr with sag := [(3, 1)], ride := true } }, met⟩,
   ⟨3, 800, 799, true, .railSag 3 800 799 true, run0, met⟩,
   ⟨3, 800, 799, true, 0, 85, .hbmTemperatureReport 0 85, { run0 with pwr := { run0.pwr with state := .midnight } }, met⟩,
   ⟨(let s : State := { run0 with pwr := { run0.pwr with ride := true } }; s.setDay { s.day with minute := 500 }), met⟩,
   ⟨run0, met⟩,
   ⟨100, 80, run0, inv_of met, met⟩,
   ⟨80, 115, run0, met⟩,
   ⟨{ run0 with pwr := { run0.pwr with state := .midnight, exitAsked := true } }, met⟩,
   ⟨120, run0, met⟩,
   ⟨120, { run0 with pwr := { run0.pwr with state := .midnight } }, met⟩,
   ⟨20, met⟩,
   ⟨up, met⟩⟩

theorem witness_hours_and_load_steps :
    (∃ (s : State), Inv s ∧ s.turn .hourAccounting = true ∧ s.pwr.ledger.running = true ∧ s.pwr.ledger.measured = true ∧
      s.pwr.ledger.stateErr = false) ∧
    (∃ (s : State) (b : Nat), Inv s ∧ b = min 1050 (s.fld 0x20010 0 11) * s.hourTicks / 1000 ∧ s.turn .hourAccounting = true ∧
      s.pwr.ledger.running = true ∧ (s.pwr.ledger.measured = false ∨ s.pwr.ledger.stateErr = true)) ∧
    (∃ (s : State), s.turn .hourAccounting = false) ∧
    (∃ (i : Fin 4) (v : Word) (who : Reader) (s : State), Inv s ∧ (who = .mgmt ∨ s.barServed = true) ∧ s.boot.warm = false ∧ s.rbit
      (0x200C8 + 0x10 * i.val) 31 = false ∧ bitAt v.toNat 31 = true ∧ bitsOf (s.stepStamp i.val) 48 11 ≤ 1439) ∧
    (∃ (i : Fin 4) (v : Word) (who : Reader) (s : State), (who = .mgmt ∨ s.barServed = true) ∧ s.boot.warm = false ∧ ((s.rbit
      (0x200C8 + 0x10 * i.val) 31 = false ∧ bitAt v.toNat 31 = true ∧ 1439 < bitsOf (s.stepStamp i.val) 48 11) ∨ (s.rbit
      (0x200C8 + 0x10 * i.val) 31 = true ∧ wfld (v &&& 0x80FFFFFF) 0 24 ≠ s.fld (0x200C8 + 0x10 * i.val) 0 24))) ∧
    (∃ (i : Fin 4) (v : Word) (who : Reader) (s : State), (who = .mgmt ∨ s.barServed = true) ∧ s.boot.warm = false ∧ s.rbit
      (0x200C8 + 0x10 * i.val) 31 = true ∧ wfld (v &&& 0x80FFFFFF) 0 24 = s.fld (0x200C8 + 0x10 * i.val) 0 24 ∧ bitAt v.toNat 31 = true) ∧
    (∃ (i : Fin 4) (v : Word) (who : Reader) (s : State), Inv s ∧ tabWf (fun _ => none) s.pwr.ledger.steps = true ∧
      (who = .mgmt ∨ s.barServed = true) ∧ s.boot.warm = false ∧ (s.rbit (0x200C8 + 0x10 * i.val) 31 = false ∨ wfld (v &&& 0x80FFFFFF) 0 24 = s.fld
      (0x200C8 + 0x10 * i.val) 0 24) ∧ bitAt v.toNat 31 = false) ∧
    (∃ (s : State), s.barServed = false) ∧
    (∃ (who : Reader) (s : State), (who = .mgmt ∨ s.barServed = true) ∧ s.boot.warm = true) ∧
    (∃ (i : Fin 4) (m : Nat) (late : Bool) (s : State), Inv s ∧ s.turn (.loadStep i.val) = true ∧ tabGet
      (fun _ => none) s.pwr.ledger.steps i.val = some (m, late) ∧ tabWf (fun _ => none) s.pwr.ledger.steps = true) ∧
    (∃ (i : Fin 4) (s : State), s.turn (.loadStep i.val) = true ∧ tabGet (fun _ => none) s.pwr.ledger.steps i.val = none) ∧
    (∃ (i : Fin 4) (s : State), s.turn (.loadStep i.val) = false) :=
  ⟨⟨(let s : State := { run0 with pwr := { run0.pwr with ledger := { run0.pwr.ledger with running := true, measured := true, charged := 7 } } }; s.setDay { s.day with due := [.hourAccounting] }),
     inv_of met, met⟩,
   ⟨(let s : State := { run0 with pwr := { run0.pwr with ledger := { run0.pwr.ledger with running := true, measured := false, charged := 7 } } }; s.setDay { s.day with due := [.hourAccounting] }),
     _, inv_of met, rfl, met⟩,
   ⟨run0, met⟩,
   ⟨2, 0x80000064, .host, run0, inv_of met, met⟩,
   ⟨2, 0x80000063, .host, run0.setReg 0x200E8 0x80000064, met⟩,
   ⟨2, 0x80000064, .host, run0.setReg 0x200E8 0x80000064, met⟩,
   ⟨2, 0x64, .host, run0.setReg 0x200E8 0x80000064, inv_of met, met⟩,
   ⟨{ run0 with host := { run0.host with linkUp := false } }, met⟩,
   ⟨.host, { run0 with boot := { run0.boot with warm := true } }, met⟩,
   ⟨1, 0, true, (let s : State := { run0.setReg 0x200D8 0x80000064 with pwr := { run0.pwr with ledger := { run0.pwr.ledger with steps := [(1, some (0, true))] } } }; s.setDay { s.day with due := [.loadStep 1] }),
     inv_of met, met⟩,
   ⟨1, run0.setDay { run0.day with due := [.loadStep 1] }, met⟩,
   ⟨1, run0, met⟩⟩

theorem witness_power_states :
    (∃ (s : State), s.served) ∧
    (∃ (s : State), s.served ∧ s.pwr.pendingReq ≠ 3 ∧ s.awake = true ∧ s.boot.done = true ∧ s.duskIdle = true) ∧
    (∃ (s : State), s.served ∧ s.pwr.pendingReq ≠ 3 ∧ (s.awake = false ∨ s.boot.done = false ∨ s.duskIdle = false) ∧
      (s.asleep = false ∨ s.pwr.exiting = true)) ∧
    (∃ (s : State), s.served ∧ (s.pwr.pendingReq = 3 ∨ (s.asleep = true ∧ s.pwr.exiting = false))) ∧
    (∃ (s : State), s.served ∧ s.pwr.pendingReq ≠ 3 ∧ (s.pwr.state ≠ .night ∨ s.pwr.exiting = true)) ∧
    (∃ (s : State), s.served ∧ (s.pwr.pendingReq = 3 ∨ (s.pwr.state = .night ∧ s.pwr.exiting = false))) ∧
    (∃ (s : State), Inv s ∧ s.served) ∧
    (∃ (i : Instr) (s : State), s.barServed = false ∧ (i = .powerReqNoon ∨ i = .powerReqDusk ∨ i = .powerReqNight ∨ i = .powerReqMidnight)) ∧
    (∃ (i : Instr) (s : State), s.barServed = true ∧ s.boot.warm = true ∧
      (i = .powerReqNoon ∨ i = .powerReqDusk ∨ i = .powerReqNight ∨ i = .powerReqMidnight)) ∧
    (∃ (s : State), s.awake = true ∧ s.boot.done = true ∧ s.boot.warm = false ∧ s.duskIdle = true ∧ (s.duskDue = true ∨ s.pwr.pendingReq = 2)) ∧
    (∃ (s : State), (s.awake = false ∨ s.boot.done = false ∨ s.boot.warm = true ∨ s.duskIdle = false ∨ (s.duskDue = false ∧ s.pwr.pendingReq ≠ 2))) ∧
    (∃ (s : State), s.pwr.exiting = true ∧ s.pwr.state = .dusk) ∧
    (∃ (s : State), (s.pwr.exiting = false ∨ s.pwr.state ≠ .dusk)) ∧
    (∃ (s : State), s.pwr.state = .dusk ∧ s.pwr.exiting = false ∧ s.nightDue ∧ s.pwr.pendingReq ≠ 3) ∧
    (∃ (s : State), (s.pwr.state ≠ .dusk ∨ s.pwr.exiting = true ∨ ¬ s.nightDue ∨ s.pwr.pendingReq = 3)) ∧
    (∃ (s : State), s.pwr.pendingReq = 3 ∧ (s.awake = true ∨ (s.pwr.state = .dusk ∧ s.pwr.exiting = false)) ∧ s.boot.done = true ∧
      s.boot.warm = false ∧ s.onlyLaunches ∧ s.drainedForNight = true) ∧
    (∃ (s : State), (s.pwr.pendingReq ≠ 3 ∨ (s.awake = false ∧
      (s.pwr.state ≠ .dusk ∨ s.pwr.exiting = true)) ∨ s.boot.done = false ∨ s.boot.warm = true ∨ ¬ s.onlyLaunches ∨ s.drainedForNight = false)) ∧
    (∃ (bs : List BankUp) (s : State), s.pwr.state = .night ∧ s.pwr.exiting = true ∧ s.rep.step = none ∧ bs.length = 4) ∧
    (∃ (bs : List BankUp) (s : State), (s.pwr.state ≠ .night ∨ s.pwr.exiting = false ∨ s.rep.step ≠ none ∨ bs.length ≠ 4)) :=
  ⟨⟨{ run0 with pwr := { run0.pwr with state := .night, pendingReq := 2 } }, met⟩,
   ⟨up, met⟩,
   ⟨{ run0 with boot := { run0.boot with done := false } }, met⟩,
   ⟨{ run0 with pwr := { run0.pwr with state := .dusk } }, met⟩,
   ⟨run0, met⟩,
   ⟨{ run0 with pwr := { run0.pwr with state := .night } }, met⟩,
   ⟨run0, inv_of met, met⟩,
   ⟨.powerReqDusk, { run0 with host := { run0.host with linkUp := false } }, met⟩,
   ⟨.powerReqMidnight, { run0 with boot := { run0.boot with warm := true } }, met⟩,
   ⟨{ up with pwr := { up.pwr with pendingReq := 2 } }, met⟩,
   ⟨run0, met⟩,
   ⟨{ up with pwr := { up.pwr with state := .dusk, exiting := true } }, met⟩,
   ⟨run0, met⟩,
   ⟨(let s : State := { run0.setReg 0xD0000 0x10000 with pwr := { run0.pwr with state := .dusk } }; s.setDay { s.day with minute := 60 }), met⟩,
   ⟨run0, met⟩,
   ⟨{ up with pwr := { up.pwr with pendingReq := 3 } }, met⟩,
   ⟨run0, met⟩,
   ⟨(List.replicate 4 bankUp0), { up with pwr := { up.pwr with state := .night, exiting := true } }, met⟩,
   ⟨[], run0, met⟩⟩

theorem witness_leases_and_brackets :
    (∃ (res : Nat) (h : Nat × Nat) (s : State), Inv s ∧ s.turn (.leaseExpiry res) = true ∧ res ≠ resLock ∧ (s.lease res).holder = some h ∧
      (s.lease res).expire ≤ s.absMin ∧ (s.flt.bracket.map (fun b => decide (b.ctx = h.1) && b.relies res)).getD false = false ∧ tabWf
      (fun _ => Lease.reset) s.flt.leases = true) ∧
    (∃ (res : Nat) (h : Nat × Nat) (b : Bracket) (s : State), s.turn (.leaseExpiry res) = true ∧ res ≠ resLock ∧ (s.lease res).holder = some h ∧
      (s.lease res).expire ≤ s.absMin ∧ s.flt.bracket = some b ∧ b.ctx = h.1 ∧ b.relies res = true ∧ b.forms = [] ∧ b.closeIdx = none ∧
      (s.lease resLock).waiting = [] ∧ tabWf (fun _ => Lease.reset) s.flt.leases = true) ∧
    (∃ (b : Bracket) (s : State), s.turn (.leaseExpiry resLock) = true ∧ s.flt.bracket = some b ∧ b.committing = false ∧ b.forms = [] ∧
      b.closeIdx = none ∧ (s.lease resLock).holder.isSome = true ∧ (s.lease resLock).expire ≤ s.absMin ∧ (s.lease resLock).waiting = [] ∧ tabWf
      (fun _ => Lease.reset) s.flt.leases = true) ∧
    (∃ (res : Nat) (s : State), s.turn (.leaseExpiry res) = true ∧ ((s.lease res).holder = none ∨ s.absMin < (s.lease res).expire ∨ (res = resLock ∧
      (s.flt.bracket.map (fun b => b.committing)).getD true = true))) ∧
    (∃ (res : Nat) (s : State), s.turn (.leaseExpiry res) = false) ∧
    (∃ (b : Bracket) (p : ShadowPte) (i : Nat) (s : State) (d : Desc), s.desc b.ctx i = some d ∧ s.flt.bracket = some b ∧ b.committing = true ∧
      s.expiryDue = false ∧ b.forms = [] ∧ b.sets = [] ∧ b.renews = [] ∧ b.ptes = [p] ∧ s.lostPage b = none ∧ b.closeIdx = some i ∧
      (s.lease resLock).waiting = [] ∧ tabWf (fun _ => Lease.reset) s.flt.leases = true) ∧
    (∃ (b : Bracket) (res n e i : Nat) (s : State) (d : Desc), s.desc b.ctx i = some d ∧ s.flt.bracket = some b ∧ b.committing = true ∧
      s.expiryDue = false ∧ b.forms = [] ∧ b.sets = [] ∧ b.renews = [(res, 1, n, e)] ∧ b.ptes = [] ∧ res ≠ resLock ∧ (s.lease res).waiting = [] ∧
      b.closeIdx = some i ∧ (s.lease resLock).waiting = [] ∧ tabWf (fun _ => Lease.reset) s.flt.leases = true) ∧
    (∃ (b : Bracket) (n i : Nat) (s : State) (d : Desc), s.desc b.ctx i = some d ∧ s.flt.bracket = some b ∧ b.committing = true ∧
      s.expiryDue = false ∧ b.forms = [] ∧ s.lostPage b = some n ∧ b.closeIdx = some i ∧ (s.lease resLock).waiting = [] ∧ tabWf
      (fun _ => Lease.reset) s.flt.leases = true) ∧
    (∃ (s : State), ((s.flt.bracket.map (fun b => b.committing)).getD false = false ∨ s.expiryDue = true ∨ (s.flt.bracket.map
      (fun b => (b.forms.filter (fun f => !bitAt f.word2 63)).all (fun f => f.begun) && (b.forms.filter (fun f => !bitAt f.word2 63)).any (fun f => f.epoch.isNone))).getD false = true)) ∧
    (∃ (b : Bracket) (s : State), Inv s ∧ s.served ∧ s.flt.bracket = some b ∧ b.forms = [] ∧ (s.lease resLock).waiting = [] ∧ tabWf
      (fun _ => Lease.reset) s.flt.leases = true) ∧
    (∃ (s : State), s.served) ∧
    (∃ (b : Bracket) (s : State), Inv s ∧ s.flt.bracket = some b ∧ b.forms = [] ∧ (s.lease resLock).waiting = [] ∧ tabWf
      (fun _ => Lease.reset) s.flt.leases = true) ∧
    (∃ (s : State), s.flt.bracket = none) ∧
    (∃ (s : State), s.served ∧ s.flt.bracket = none) ∧
    (∃ (i : Instr) (s : State), s.barServed = false ∧ (i = .seqAbort ∨ i = .unpin)) ∧
    (∃ (i : Instr) (s : State), s.barServed = true ∧ s.boot.warm = true ∧ (i = .seqAbort ∨ i = .unpin)) :=
  ⟨⟨0x102, (0, 1), held0.setDay { held0.day with minute := 9, due := [.leaseExpiry 0x102] }, inv_of met, met⟩,
   ⟨0x102, (0, 1), { br0 with committing := false, closeIdx := none, renews := [(0x102, 1, 5, 1)] },
     (let s := held0.setDay { held0.day with minute := 9, due := [.leaseExpiry 0x102] }; { s with flt := { s.flt with bracket := some { br0 with committing := false, closeIdx := none, renews := [(0x102, 1, 5, 1)] } } }),
     met⟩,
   ⟨{ br0 with committing := false, closeIdx := none },
     (let s := brS { br0 with committing := false, closeIdx := none }; s.setDay { s.day with minute := 9, due := [.leaseExpiry 1] }), met⟩,
   ⟨0x102, run0.setDay { run0.day with minute := 9, due := [.leaseExpiry 0x102] }, met⟩,
   ⟨7, run0, met⟩,
   ⟨{ br0 with ptes := [⟨0x12010, 0x20001F, 0, 0, 0, 1⟩] }, ⟨0x12010, 0x20001F, 0, 0, 0, 1⟩, 0, brS
     { br0 with ptes := [⟨0x12010, 0x20001F, 0, 0, 0, 1⟩] }, _, some_eq met, met⟩,
   ⟨{ br0 with renews := [(0x102, 1, 5, 1)] }, 0x102, 5, 1, 0, brS { br0 with renews := [(0x102, 1, 5, 1)] }, _, some_eq met, met⟩,
   ⟨{ br0 with ptes := [⟨0x12010, 0x20001F, 0, 0, 0, 1⟩], bankLost := [0] }, 0, 0, brS
     { br0 with ptes := [⟨0x12010, 0x20001F, 0, 0, 0, 1⟩], bankLost := [0] }, _, some_eq met, met⟩,
   ⟨run0, met⟩,
   ⟨{ br0 with committing := false, closeIdx := none }, brS { br0 with committing := false, closeIdx := none }, inv_of met, met⟩,
   ⟨run0, met⟩,
   ⟨{ br0 with committing := false, closeIdx := none }, brS { br0 with committing := false, closeIdx := none }, inv_of met, met⟩,
   ⟨run0, met⟩,
   ⟨run0, met⟩,
   ⟨.unpin, { run0 with host := { run0.host with linkUp := false } }, met⟩,
   ⟨.seqAbort, { run0 with boot := { run0.boot with warm := true } }, met⟩⟩

theorem witness_fault_unit :
    (∃ (v : Word) (s : State), Inv s ∧ s.served ∧ wfld v 30 2 = 1 ∧ wfld v 0 6 < 52 ∧ s.dpFailed (wfld v 0 6) = true) ∧
    (∃ (v : Word) (s : State), s.served ∧ wfld v 30 2 = 1 ∧ wfld v 0 6 < 52 ∧ s.dpFailed (wfld v 0 6) = false ∧ tabWf
      (fun _ => false) s.flt.dp = true ∧ tabWf (fun _ => false) s.flt.mgmt = true) ∧
    (∃ (v : Word) (s : State), s.served ∧ wfld v 30 2 = 2 ∧ (wfld v 0 6 < 8 ∨ (32 ≤ wfld v 0 6 ∧ wfld v 0 6 < 36))) ∧
    (∃ (v : Word) (s : State), s.served ∧ wfld v 30 2 = 2 ∧ ((24 ≤ wfld v 0 6 ∧ wfld v 0 6 < 28) ∨ (36 ≤ wfld v 0 6 ∧ wfld v 0 6 < 44))) ∧
    (∃ (v : Word) (k e : Nat) (s : State), s.served ∧ wfld v 30 2 = 2 ∧ wfld v 0 6 = 8 + k ∧ k < 16 ∧ s.spareEngine (k / 4) = some e ∧ tabWf
      (fun _ => false) s.flt.dp = true ∧ tabWf (fun _ => false) s.flt.mgmt = true ∧ tabWf engDefault s.maps.engines = true) ∧
    (∃ (v : Word) (k e : Nat) (s : State), s.served ∧ wfld v 30 2 = 2 ∧ wfld v 0 6 = 28 + k ∧ k < 4 ∧ s.spareCore = some e ∧ tabWf
      (fun _ => false) s.flt.dp = true ∧ tabWf (fun _ => false) s.flt.mgmt = true ∧ tabWf (fun i => i) s.maps.cores = true) ∧
    (∃ (v : Word) (k e : Nat) (s : State), s.served ∧ wfld v 30 2 = 2 ∧ wfld v 0 6 = 44 + k ∧ k < 8 ∧ s.sliceAt k ≠ 15 ∧ s.spareSlice = some e ∧
      tabWf (fun _ => false) s.flt.dp = true ∧ tabWf (fun _ => false) s.flt.mgmt = true ∧ tabWf (fun i => i) s.maps.slices = true) ∧
    (∃ (v : Word) (k : Nat) (s : State), s.served ∧ wfld v 30 2 = 2 ∧ ((wfld v 0 6 = 8 + k ∧ k < 16 ∧ s.spareEngine (k / 4) = none) ∨
      (wfld v 0 6 = 28 + k ∧ k < 4 ∧ s.spareCore = none) ∨ (wfld v 0 6 = 44 + k ∧ k < 8 ∧ (s.sliceAt k = 15 ∨ s.spareSlice = none)))) ∧
    (∃ (v : Word) (s : State), s.served ∧ 52 ≤ wfld v 0 6 ∧ (wfld v 30 2 = 1 ∨ wfld v 30 2 = 2)) ∧
    (∃ (v : Word) (s : State), s.served ∧ (wfld v 30 2 = 0 ∨ wfld v 30 2 = 3)) ∧
    (∃ (s : State), s.barServed = false) ∧
    (∃ (s : State), s.barServed = true ∧ s.boot.warm = true) ∧
    (∃ (i : Fin 128) (s : State), Inv s ∧ (s.rec_ i.val).valid = true ∧ tabWf (fun _ => Rec.reset) s.flt.records = true) ∧
    (∃ (i : Fin 128) (s : State), (s.rec_ i.val).valid = false) ∧
    (∃ (s : State), Inv s ∧ s.pwr.state ≠ .midnight) ∧
    (∃ (s : State), Inv s ∧ s.pwr.state ≠ .midnight) ∧
    (∃ (a k n : Nat) (w : Fin 6) (i : Instr) (s : State), s.pwr.state = .midnight ∧ (i = .packageFault a k n ∨ i = .hubStateUe w)) :=
  ⟨⟨0x40000002, run0.setDp 2 true, inv_of met, met⟩,
   ⟨0x40000002, run0.setMgmt 2 true, met⟩,
   ⟨0x80000021, run0, met⟩,
   ⟨0x80000019, run0, met⟩,
   ⟨0x80000009, 1, 4, run0, met⟩,
   ⟨0x8000001D, 1, 4, run0, met⟩,
   ⟨0x8000002D, 1, 8, run0, met⟩,
   ⟨0x80000009, 1, run0.markEngine 4, met⟩,
   ⟨0x8000003F, run0, met⟩,
   ⟨0xC0000001, run0, met⟩,
   ⟨{ run0 with host := { run0.host with linkUp := false } }, met⟩,
   ⟨{ run0 with boot := { run0.boot with warm := true } }, met⟩,
   ⟨0, run0.setDp 2 true, inv_of met, met⟩,
   ⟨0, run0, met⟩,
   ⟨run0, inv_of met, met⟩,
   ⟨run0, inv_of met, met⟩,
   ⟨1, 0x16, 0x201, 0, .hubStateUe 0, { run0 with pwr := { run0.pwr with state := .midnight } }, met⟩⟩

theorem witness_repair_engine :
    (∃ (i v p : Nat) (s : State), Inv s ∧ s.boot.done = true ∧ s.pwr.state ≠ .midnight ∧ i < 20 ∧ s.agePct ≤ v ∧ (List.range 4).find?
      (fun p => decide (s.engineAt (4 * (i / 5) + p) = i % 5)) = some p ∧ s.rbit 0x418 31 = true ∧ s.rep.entries = []) ∧
    (∃ (i v p : Nat) (s : State), Inv s ∧ s.boot.done = true ∧ s.pwr.state ≠ .midnight ∧ i < 5 ∧ s.agePct ≤ v ∧ (List.range 4).find?
      (fun k => decide (s.coreAt k = i)) = some p ∧ s.rbit 0x418 31 = true ∧ s.rep.entries = []) ∧
    (∃ (i v p : Nat) (s : State), Inv s ∧ s.boot.done = true ∧ s.pwr.state ≠ .midnight ∧ i < 10 ∧ s.agePct ≤ v ∧ (List.range 8).find?
      (fun n => decide (s.sliceAt n = i)) = some p ∧ s.rbit 0x418 31 = true ∧ s.rep.entries = []) ∧
    (∃ (i v : Nat) (s : State), Inv s ∧ s.boot.done = true ∧ s.pwr.state ≠ .midnight ∧ i < 64 ∧ 2 ^ 20 < v ∧ 3 ≤ (s.port (i / 8)).rev ∧
      s.rbit 0x418 31 = true ∧ s.rep.entries = []) ∧
    (∃ (i v : Nat) (s : State), s.boot.done = true ∧ s.pwr.state ≠ .midnight ∧ i < 20 ∧ s.agePct ≤ v ∧ (List.range 4).find?
      (fun p => decide (s.engineAt (4 * (i / 5) + p) = i % 5)) = none) ∧
    (∃ (i v : Nat) (s : State), s.boot.done = true ∧ s.pwr.state ≠ .midnight ∧ i < 5 ∧ s.agePct ≤ v ∧ (List.range 4).find?
      (fun k => decide (s.coreAt k = i)) = none) ∧
    (∃ (i v : Nat) (s : State), s.boot.done = true ∧ s.pwr.state ≠ .midnight ∧ i < 10 ∧ s.agePct ≤ v ∧ (List.range 8).find?
      (fun n => decide (s.sliceAt n = i)) = none) ∧
    (∃ (k : Fin 4) (i v : Nat) (s : State), (s.boot.done = false ∨ s.pwr.state = .midnight ∨ (k ≠ 3 ∧ v < s.agePct) ∨ (k = 3 ∧ (64 ≤ i ∨ v ≤ 2 ^ 20 ∨
      (s.port (i / 8)).rev < 3)) ∨ (k = 0 ∧ 20 ≤ i) ∨ (k = 1 ∧ 5 ≤ i) ∨ (k = 2 ∧ 10 ≤ i) ∨ (s.rbit 0x418 31 = false ∧ (k = 3 ∨ (k = 0 ∧
      ((List.range 4).find? (fun p => decide (s.engineAt (4 * (i / 5) + p) = i % 5))).isSome = true) ∨ (k = 1 ∧ ((List.range 4).find?
      (fun p => decide (s.coreAt p = i))).isSome = true) ∨ (k = 2 ∧ ((List.range 8).find? (fun n => decide (s.sliceAt n = i))).isSome = true))))) ∧
    (∃ (i : Nat) (e : DEntry) (s : State), Inv s ∧ s.rep.step = some i ∧ s.dent i = some e ∧ e.kind ≠ 5) ∧
    (∃ (i : Nat) (e : DEntry) (s : State), s.rep.step = some i ∧ s.dent i = some e ∧ e.kind = 5 ∧ e.state = deQueued ∧
      (s.port e.loc).retraining = false) ∧
    (∃ (i : Nat) (e : DEntry) (s : State), s.rep.step = some i ∧ s.dent i = some e ∧ e.kind = 5 ∧ (s.port e.loc).retraining = true) ∧
    (∃ (s : State), s.rep.step = none) ∧
    (∃ (i lim : Nat) (e : DEntry) (s : State), Inv s ∧ s.rep.step = some i ∧ s.dent i = some e ∧ stepLimit e.kind = some lim ∧ e.state = deQueued) ∧
    (∃ (s : State), (s.rep.step.bind fun i => (s.dent i).bind fun e => stepLimit e.kind) = none) ∧
    (∃ (s : State), s.served) ∧
    (∃ (s : State), s.barServed = false) ∧
    (∃ (s : State), s.barServed = true ∧ s.boot.warm = true) ∧
    (∃ (i : Nat) (rest : List Nat) (s : State), s.rep.dirty = i :: rest) ∧
    (∃ (s : State), s.rep.dirty = []) :=
  ⟨⟨7, 20, 2, run0.setReg 0x418 0x81000000, inv_of met, met⟩,
   ⟨2, 20, 2, run0.setReg 0x418 0x81000000, inv_of met, met⟩,
   ⟨2, 20, 2, run0.setReg 0x418 0x81000000, inv_of met, met⟩,
   ⟨5, 2000000, (portS (port0 .up)).setReg 0x418 0x81000000, inv_of met, met⟩,
   ⟨9, 20, run0, met⟩,
   ⟨4, 20, run0, met⟩,
   ⟨9, 20, run0, met⟩,
   ⟨0, 9, 0, run0, met⟩,
   ⟨0, ent0, repS [ent0] (some 0), inv_of met, met⟩,
   ⟨0, { ent0 with kind := 5, loc := 0, target := 0 }, repS [{ ent0 with kind := 5, loc := 0, target := 0 }] (some 0), met⟩,
   ⟨0, { ent0 with kind := 5, loc := 0, target := 0 },
     (let s := repS [{ ent0 with kind := 5, loc := 0, target := 0 }] (some 0); { s with lnk := { lnk0 with ports := [(0, { port0 .up with retraining := true })] } }),
     met⟩,
   ⟨run0, met⟩,
   ⟨0, 2000000, ent0, repS [ent0] (some 0), inv_of met, met⟩,
   ⟨run0, met⟩,
   ⟨repS [ent0, { ent0 with target := 1 }] (some 0), met⟩,
   ⟨{ run0 with host := { run0.host with linkUp := false } }, met⟩,
   ⟨{ run0 with boot := { run0.boot with warm := true } }, met⟩,
   ⟨0, [], { repS [ent0] none with rep := { (repS [ent0] none).rep with dirty := [0] } }, met⟩,
   ⟨{ repS [ent0] none with rep := { (repS [ent0] none).rep with degraded := true } }, met⟩⟩

theorem witness_package_resets :
    (∃ (s : State), s.boot.rstN = true) ∧
    (∃ (s : State), s.boot.rstN = false) ∧
    (∃ (ns : Nat), ns < 1000) ∧
    (∃ (ns : Nat), 10000 ≤ ns) ∧
    (∃ (ns : Nat), 1000 ≤ ns ∧ ns < 10000) ∧
    (∃ (s : State), s.boot.rstN = false ∧ s.boot.powered = true) ∧
    (∃ (s : State), s.boot.rstN = false ∧ s.boot.powered = false) ∧
    (∃ (s : State), s.boot.rstN = true) ∧
    (∃ (t t0 : Nat) (s : State), s.boot.coldAt = some t0 ∧ t0 ≤ max s.clk t) ∧
    (∃ (t : Nat) (s : State), (s.boot.coldAt.all fun t0 => decide (max s.clk t < t0)) = true) ∧
    (∃ (r : Fin 20), 1 ≤ r.val ∧ r.val < 4) ∧
    (∃ (r : Fin 20) (s : State), 4 ≤ r.val ∧ (s.bank (r.val % 4)).phase = .active) ∧
    (∃ (r : Fin 20) (s : State), 4 ≤ r.val ∧ (s.bank (r.val % 4)).phase ≠ .active ∧ tabWf (fun _ => Bank.reset) s.banks = true) ∧
    (∃ (v : Word) (s : State), s.served ∧ v.toNat % 2 ^ 16 ≠ 0x57A3) ∧
    (∃ (v : Word) (s : State), s.served ∧ v.toNat % 2 ^ 16 = 0x57A3 ∧ s.boot.ready = false) ∧
    (∃ (v : Word) (s : State), Inv s ∧ s.served ∧ v.toNat % 2 ^ 16 = 0x57A3 ∧ s.boot.ready = true) ∧
    (∃ (bs : List BankUp) (s : State), s.boot.warm = true ∧ s.boot.warmWait = false ∧ s.rep.step = none ∧ bs.length = 4 ∧ (List.range 4).all
      (fun n => decide ((s.bank n).phase = .retained)) = true) ∧
    (∃ (bs : List BankUp) (s : State), (s.boot.warm = false ∨ (List.range 4).any
      (fun n => decide ((s.bank n).phase = .resetting)) = true ∨ s.rep.step ≠ none ∨ bs.length ≠ 4)) ∧
    (∃ (t : Nat) (s : State), ((s.boot.hostReset = true ∧ s.host.perst = false ∧ s.boot.resetStart + 1000000 ≤ max s.clk t) ∨ (s.boot.warm = true ∧
      s.boot.warmStart + 60000000 ≤ max s.clk t))) ∧
    (∃ (t : Nat) (s : State), (s.boot.hostReset = false ∨ s.host.perst = true ∨ max s.clk t < s.boot.resetStart + 1000000) ∧
      (s.boot.warm = false ∨ max s.clk t < s.boot.warmStart + 60000000)) ∧
    (∃ (s : State), s.barServed = false) ∧
    (∃ (s : State), s.barServed = true ∧ s.boot.warm = true) :=
  ⟨⟨run0, met⟩,
   ⟨{ run0 with boot := { run0.boot with rstN := false } }, met⟩,
   ⟨999, met⟩,
   ⟨10000, met⟩,
   ⟨1000, met⟩,
   ⟨{ run0 with boot := { run0.boot with rstN := false } }, met⟩,
   ⟨{ run0 with boot := { run0.boot with rstN := false, powered := false } }, met⟩,
   ⟨run0, met⟩,
   ⟨100, 50, { run0 with boot := { run0.boot with coldAt := some 50 } }, met⟩,
   ⟨10, { run0 with boot := { run0.boot with coldAt := some 50 } }, met⟩,
   ⟨2, met⟩,
   ⟨9, up, met⟩,
   ⟨9, warmS, met⟩,
   ⟨1, run0, met⟩,
   ⟨0x57A3, { run0 with boot := { run0.boot with ready := false } }, met⟩,
   ⟨0x57A3, up, inv_of met, met⟩,
   ⟨(List.replicate 4 { bankUp0 with code := 6 }), warmS, met⟩,
   ⟨[], run0, met⟩,
   ⟨60000000, warmS, met⟩,
   ⟨6000, warmS, met⟩,
   ⟨{ run0 with host := { run0.host with linkUp := false } }, met⟩,
   ⟨{ run0 with boot := { run0.boot with warm := true } }, met⟩⟩

theorem witness_test_access_port :
    (∃ (s : State), s.boot.powered = true) ∧
    (∃ (s : State), s.boot.powered = true) ∧
    (∃ (s : State), s.boot.powered = true) ∧
    (∃ (s : State), s.boot.powered = true) ∧
    (∃ (s : State), s.boot.powered = true) ∧
    (∃ (code : Nat) (s : State), s.boot.powered = true ∧ testCodes.contains (code % 256) = false) ∧
    (∃ (code : Nat), testCodes.contains (code % 256) = true) ∧
    (∃ (pins bits code : Nat) (i : Instr) (s : State), s.boot.powered = false ∧
      (i = .jtagIdcode ∨ i = .jtagSamplePreload pins bits ∨ i = .jtagExtest bits ∨ i = .jtagClamp ∨ i = .jtagHighz ∨ i = .jtagBypass code)) :=
  ⟨⟨run0, met⟩,
   ⟨run0, met⟩,
   ⟨{ run0 with boot := { run0.boot with rstN := false } }, met⟩,
   ⟨run0, met⟩,
   ⟨run0, met⟩,
   ⟨0xFF, run0, met⟩,
   ⟨4, met⟩,
   ⟨0, 0, 0xFF, .jtagBypass 0xFF, { run0 with boot := { run0.boot with powered := false } }, met⟩⟩

theorem witness_management_reads :
    (∃ (r : MgtReq) (s : State), Inv s ∧ s.mgtHears r 0) ∧
    (∃ (code : Byte) (r : MgtReq) (s : State), Inv s ∧ s.mgtHears r r.args.length ∧ r.args.length ≤ 63 ∧ mgtCodes.contains code.toNat = false) ∧
    (∃ (code : Byte), mgtCodes.contains code.toNat = true ∧ code ≠ 1) ∧
    (∃ (r : MgtReq) (i : Instr) (code len : Nat) (s : State), Inv s ∧ mgtReadRow i r code len ∧ s.mgtHears r r.args.length ∧ r.args.length ≤ 63 ∧
      r.args.length ≠ len) ∧
    (∃ (r : MgtReq) (i : Instr) (code len : Nat) (s : State), Inv s ∧ mgtReadRow i r code len ∧ s.mgtAnswers = true ∧ r.pecOk = false ∧
      r.args.length ≤ 63) ∧
    (∃ (r : MgtReq) (i : Instr) (code len : Nat) (s : State), mgtReadRow i r code len ∧ s.mgtAnswers = true ∧ r.pecOk = true ∧ r.args.length ≤ 63 ∧
      s.mgt.unread = true) ∧
    (∃ (r : MgtReq) (i : Instr) (code len : Nat) (s : State), mgtReadRow i r code len ∧ (s.mgtAnswers = false ∨ 63 < r.args.length)) ∧
    (∃ (r : MgtReq) (s : State), s.mgtHears r 0) ∧
    (∃ (r : MgtReq) (s : State), s.mgtHears r 4 ∧ (s.pwr.state ≠ .midnight ∨ alwaysOn (argNat r.args 0 4) = true) ∧ argNat r.args 0 4 ≠ 0x9001C) ∧
    (∃ (r : MgtReq) (s : State), s.mgtHears r 4 ∧ s.pwr.state ≠ .midnight ∧ argNat r.args 0 4 = 0x9001C) ∧
    (∃ (r : MgtReq) (s : State), s.mgtHears r 4 ∧ s.pwr.state = .midnight ∧ alwaysOn (argNat r.args 0 4) = false) ∧
    (∃ (r : MgtReq) (s : State), s.mgtHears r 1 ∧ s.booting = false ∧ s.pwr.state ≠ .midnight) ∧
    (∃ (r : MgtReq) (s : State), s.mgtHears r 1 ∧ (argNat r.args 0 1 = 2 ∨ argNat r.args 0 1 = 6)) ∧
    (∃ (r : MgtReq) (s : State), s.mgtHears r 1 ∧ argNat r.args 0 1 ≠ 2 ∧ argNat r.args 0 1 ≠ 6 ∧ (s.booting = true ∨ (s.pwr.state = .midnight ∧
      argNat r.args 0 1 ≤ 7))) ∧
    (∃ (r : MgtReq) (s : State), s.mgtHears r 1 ∧ s.booting = false ∧ s.pwr.state ≠ .midnight) ∧
    (∃ (r : MgtReq) (i : Instr) (code len : Nat) (s : State), s.mgtHears r len ∧ ((i = .mgtGetView r ∧ code = 0x11 ∧ len = 1) ∨ (i = .mgtReadDmap r ∧
      code = 0x31 ∧ len = 2)) ∧ (s.booting = true ∨ s.pwr.state = .midnight)) ∧
    (∃ (r : MgtReq) (s : State), s.mgtHears r 1) ∧
    (∃ (r : MgtReq) (s : State), s.mgtHears r 2 ∧ s.booting = false ∧ s.pwr.state ≠ .midnight) ∧
    (∃ (r : MgtReq) (s : State), s.mgtHears r 0) :=
  ⟨⟨⟨7, [], true⟩, run0, inv_of met, met⟩,
   ⟨0x77, ⟨7, [1, 2], true⟩, run0, inv_of met, met⟩,
   ⟨2, met⟩,
   ⟨⟨7, [1, 2], true⟩, .mgtGetId 1 ⟨7, [1, 2], true⟩, 1, 0, run0, inv_of met, met⟩,
   ⟨⟨7, [], false⟩, .mgtGetState ⟨7, [], false⟩, 2, 0, run0, inv_of met, met⟩,
   ⟨⟨7, [0, 0, 0, 0], true⟩, .mgtReadReg ⟨7, [0, 0, 0, 0], true⟩, 3, 4, { run0 with mgt := { run0.mgt with unread := true } }, met⟩,
   ⟨⟨7, [], true⟩, .mgtAlertStatus ⟨7, [], true⟩, 0x40, 0, { run0 with boot := { run0.boot with powered := false } }, met⟩,
   ⟨⟨7, [], true⟩, run0, met⟩,
   ⟨⟨7, [0, 0, 0, 0], true⟩, run0, met⟩,
   ⟨⟨7, [0x1C, 0, 9, 0], true⟩, run0, met⟩,
   ⟨⟨7, [0, 0, 7, 0], true⟩, { run0 with pwr := { run0.pwr with state := .midnight } }, met⟩,
   ⟨⟨7, [0], true⟩, run0, met⟩,
   ⟨⟨7, [6], true⟩, { run0 with pwr := { run0.pwr with state := .midnight } }, met⟩,
   ⟨⟨7, [0], true⟩, { run0 with pwr := { run0.pwr with state := .midnight } }, met⟩,
   ⟨⟨7, [63], true⟩, run0, met⟩,
   ⟨⟨7, [3], true⟩, .mgtGetView ⟨7, [3], true⟩, 0x11, 1, { run0 with pwr := { run0.pwr with state := .midnight } }, met⟩,
   ⟨⟨7, [127], true⟩, run0, met⟩,
   ⟨⟨7, [0, 0], true⟩, run0, met⟩,
   ⟨⟨7, [], true⟩, run0, met⟩⟩

theorem witness_management_writes :
    (∃ (r : MgtReq) (s : State), Inv s ∧ s.mgtHears r 8 ∧ s.booting = false ∧ s.boot.warm = false ∧ ¬(s.pwr.state = .night ∧ s.pwr.exiting = true)) ∧
    (∃ (r : MgtReq) (s : State), s.mgtHears r 2 ∧ s.mgtOpen ∧ argNat r.args 0 1 < 52 ∧ argNat r.args 1 1 ≤ 1 ∧ tabWf
      (fun _ => false) s.flt.mgmt = true ∧ tabWf (fun _ => false) s.flt.dp = true) ∧
    (∃ (r : MgtReq) (s : State), s.mgtHears r 2 ∧ s.mgtOpen ∧ (52 ≤ argNat r.args 0 1 ∨ 1 < argNat r.args 1 1)) ∧
    (∃ (r : MgtReq) (s : State), s.mgtHears r 2 ∧ s.mgtOpen ∧ argNat r.args 0 1 < 52 ∧ argNat r.args 1 1 = 1 ∧ tabWf
      (fun _ => false) s.flt.mgmt = true ∧ tabWf (fun _ => false) s.flt.dp = true) ∧
    (∃ (r : MgtReq) (s : State), s.mgtHears r 2 ∧ s.mgtOpen ∧ argNat r.args 0 1 < 52 ∧ argNat r.args 1 1 = 2) ∧
    (∃ (r : MgtReq) (s : State), s.mgtHears r 2 ∧ s.mgtOpen ∧ (52 ≤ argNat r.args 0 1 ∨ argNat r.args 1 1 = 0 ∨ 2 < argNat r.args 1 1)) ∧
    (∃ (r : MgtReq) (b : Bracket) (s : State), s.mgtHears r 0 ∧ s.mgtOpen ∧ s.flt.bracket = some b ∧ b.forms = [] ∧ (s.lease resLock).waiting = [] ∧
      tabWf (fun _ => Lease.reset) s.flt.leases = true) ∧
    (∃ (r : MgtReq) (s : State), s.mgtHears r 0 ∧ s.mgtOpen ∧ s.flt.bracket = none) ∧
    (∃ (r : MgtReq) (i : Instr) (s : State), s.mgtHears r 1 ∧ s.mgtOpen ∧ (i = .mgtPowerReq r ∨ i = .mgtMidnightExit r)) ∧
    (∃ (r : MgtReq) (i : Instr) (s : State), s.mgtHears r 1 ∧ s.pwr.state = .midnight ∧ s.boot.warm = false ∧
      (i = .mgtPowerReq r ∨ i = .mgtMidnightExit r)) ∧
    (∃ (r : MgtReq) (s : State), s.mgtHears r 2 ∧ s.mgtOpen) ∧
    (∃ (r : MgtReq) (s : State), s.mgtHears r 0 ∧ s.boot.warm = false ∧ ¬(s.pwr.state = .night ∧ s.pwr.exiting = true)) ∧
    (∃ (r : MgtReq) (i : Instr) (code len : Nat) (s : State), mgtWriteRow i r code len ∧ s.mgtHears r len ∧ s.boot.warm = false ∧
      s.pwr.state = .midnight ∧ (code = 0x12 ∨ code = 0x13 ∨ code = 0x14 ∨ code = 0x21)) ∧
    (∃ (r : MgtReq) (i : Instr) (code len : Nat) (s : State), mgtWriteRow i r code len ∧ s.mgtHears r len ∧ ¬(s.pwr.state = .night ∧
      s.pwr.exiting = true) ∧ (s.boot.warm = true ∨ (s.booting = true ∧ code ≠ 0x32 ∧ code ≠ 0x41))) ∧
    (∃ (r : MgtReq) (i : Instr) (code len : Nat) (s : State), mgtWriteRow i r code len ∧ s.mgtAnswers = true ∧ r.pecOk = true ∧ r.args.length ≤ 63 ∧
      s.pwr.state = .night ∧ s.pwr.exiting = true) ∧
    (∃ (r : MgtReq) (i : Instr) (code len : Nat) (s : State), mgtWriteRow i r code len ∧ s.mgtHears r r.args.length ∧ r.args.length ≤ 63 ∧
      r.args.length ≠ len ∧ ¬(s.pwr.state = .night ∧ s.pwr.exiting = true)) ∧
    (∃ (r : MgtReq) (i : Instr) (code len : Nat) (s : State), Inv s ∧ mgtWriteRow i r code len ∧ s.mgtAnswers = true ∧ r.pecOk = false ∧
      r.args.length ≤ 63) ∧
    (∃ (r : MgtReq) (i : Instr) (code len : Nat) (s : State), mgtWriteRow i r code len ∧ s.mgtAnswers = true ∧ r.pecOk = true ∧ r.args.length ≤ 63 ∧
      s.mgt.unread = true ∧ ¬(s.pwr.state = .night ∧ s.pwr.exiting = true)) ∧
    (∃ (r : MgtReq) (i : Instr) (code len : Nat) (s : State), mgtWriteRow i r code len ∧ (s.mgtAnswers = false ∨ 63 < r.args.length)) ∧
    (∃ (r : MgtReq) (s : State), s.mgtHears r 2) ∧
    (∃ (r : MgtReq) (s : State), s.mgtAnswers = true ∧ r.args.length ≤ 63 ∧ (r.pecOk = false ∨ r.args.length ≠ 2)) ∧
    (∃ (r : MgtReq) (s : State), (s.mgtAnswers = false ∨ 63 < r.args.length)) ∧
    (∃ (r : MgtReq) (s : State), s.mgtAnswers = true ∧ r.pecOk = true ∧ r.args.length ≤ 63 ∧ s.mgt.unread = true) :=
  ⟨⟨⟨7, [0, 0x10, 0, 0, 3, 0, 0, 0], true⟩, { run0 with pwr := { PwrUnit.reset with state := .midnight } }, inv_of met, met⟩,
   ⟨⟨7, [3, 1], true⟩, run0, met⟩,
   ⟨⟨7, [52, 1], true⟩, run0, met⟩,
   ⟨⟨7, [3, 1], true⟩, run0.setMgmt 3 true, met⟩,
   ⟨⟨7, [3, 2], true⟩, run0, met⟩,
   ⟨⟨7, [3, 0], true⟩, run0, met⟩,
   ⟨⟨7, [], true⟩, { br0 with committing := false, closeIdx := none }, brS { br0 with committing := false, closeIdx := none }, met⟩,
   ⟨⟨7, [], true⟩, run0, met⟩,
   ⟨⟨7, [0], true⟩, .mgtPowerReq ⟨7, [0], true⟩, up, met⟩,
   ⟨⟨7, [5], true⟩, .mgtMidnightExit ⟨7, [5], true⟩, { run0 with pwr := { PwrUnit.reset with state := .midnight } }, met⟩,
   ⟨⟨7, [0xA3, 0x57], true⟩, run0, met⟩,
   ⟨⟨7, [], true⟩, run0, met⟩,
   ⟨⟨7, [3, 1], true⟩, .mgtSetMgmtView ⟨7, [3, 1], true⟩, 0x12, 2, { run0 with pwr := { PwrUnit.reset with state := .midnight } }, met⟩,
   ⟨⟨7, [3, 1], true⟩, .mgtReconcile ⟨7, [3, 1], true⟩, 0x13, 2, { run0 with boot := { run0.boot with ready := false, done := false } }, met⟩,
   ⟨⟨7, [3, 1], true⟩, .mgtSetMgmtView ⟨7, [3, 1], true⟩, 0x12, 2, { run0 with pwr := { run0.pwr with state := .night, exiting := true } }, met⟩,
   ⟨⟨7, [3, 1], true⟩, .mgtSeqAbort ⟨7, [3, 1], true⟩, 0x14, 0, run0, met⟩,
   ⟨⟨7, [3, 1], false⟩, .mgtAlertAck ⟨7, [3, 1], false⟩, 0x41, 4, run0, inv_of met, met⟩,
   ⟨⟨7, [3], true⟩, .mgtPowerReq ⟨7, [3], true⟩, 0x20, 1, { run0 with mgt := { run0.mgt with unread := true } }, met⟩,
   ⟨⟨7, [3], true⟩, .mgtWriteReg ⟨7, [3], true⟩, 4, 8, { run0 with boot := { run0.boot with powered := false } }, met⟩,
   ⟨⟨7, [0x1D, 0xC0], true⟩, run0, met⟩,
   ⟨⟨7, [0x1D, 0xC0], false⟩, run0, met⟩,
   ⟨⟨7, [0x1D, 0xC0], true⟩, { run0 with boot := { run0.boot with powered := false } }, met⟩,
   ⟨⟨7, [0x1D, 0xC0], true⟩, { run0 with mgt := { run0.mgt with unread := true } }, met⟩⟩

theorem witness_management_bus :
    (∃ (r : MgtReq) (s : State), Inv s ∧ s.mgtHears r 4 ∧ s.boot.warm = false ∧ ¬(s.pwr.state = .night ∧ s.pwr.exiting = true)) ∧
    (∃ (bs : List Byte) (s : State), s.mgtAnswers = true ∧ s.mgt.response = some bs) ∧
    (∃ (g : Nat) (s : State), s.mgtAnswers = true ∧ s.mgt.response = none ∧ s.mgt.tag = some g) ∧
    (∃ (s : State), s.mgtAnswers = true ∧ s.mgt.response = none ∧ s.mgt.tag = none) ∧
    (∃ (s : State), s.mgtAnswers = true ∧ s.alertLow = true) ∧
    (∃ (s : State), (s.mgtAnswers = false ∨ s.alertLow = false)) ∧
    (∃ (s : State), Inv s ∧ s.mgtAnswers = true) ∧
    (∃ (s : State), s.mgtAnswers = false) ∧
    (∃ (s : State), s.mgtAnswers = false) :=
  ⟨⟨⟨7, [1, 0, 0, 0], true⟩, run0.setReg 0xC0008 3, inv_of met, met⟩,
   ⟨[7, 0], { run0 with mgt := { run0.mgt with response := some [7, 0], unread := true } }, met⟩,
   ⟨7, { run0 with mgt := { run0.mgt with tag := some 7 } }, met⟩,
   ⟨run0, met⟩,
   ⟨(run0.setReg 0xC0000 0xFFFFFFFF).alert 3, met⟩,
   ⟨{ run0 with boot := { run0.boot with powered := false } }, met⟩,
   ⟨{ run0 with mgt := { run0.mgt with response := some [7, 0], unread := true } }, inv_of met, met⟩,
   ⟨{ run0 with boot := { run0.boot with powered := false } }, met⟩,
   ⟨{ run0 with boot := { run0.boot with powered := false } }, met⟩⟩

theorem witness_reserved_offsets :
    (∃ (off : Nat), off % 4 = 0 ∧ off < 0x100000 ∧ regRow off = none) ∧
    (∃ (off : Nat) (who : Reader) (s : State), off % 4 = 0 ∧ regRow off = none ∧ s.reaches who off = true ∧
      tabGet (fun _ => none) (s.latches who) off = none) :=
  ⟨⟨0x2030, met⟩, ⟨0x2FFC, .host, up, met⟩⟩

theorem witness_roots_of_free_contexts :
    (∃ (c : CtxId) (hi : Bool) (v : Word) (who : Reader) (i : Instr) (s : State), (s.ctx c.val).state ≠ .free ∧
      (i = .atpRootWrite c hi v who ∨ i = .registerWrite (if hi then 0x90104 + 8 * c.val else 0x90100 + 8 * c.val) v who)) ∧
    (∃ (c : CtxId) (v : Word) (s : State), Inv s ∧ s.served ∧ (s.ctx c.val).state = .free ∧ bitAt v.toNat 31 = false) :=
  ⟨⟨0, true, 5, .host, _, run0, met, .inr rfl⟩, ⟨63, 0x7FFFFFFF, run0, inv_of met, met⟩⟩

theorem witness_register_access :
    (∃ (off : Nat) (v : Word) (who : Reader) (r : RegRow) (s : State), Inv s ∧ s.reaches who off = true ∧ (who = .mgmt → s.mgtMay off v = true) ∧
      s.boot.warm = false ∧ off % 4 = 0 ∧ off / 0x10000 ∈ [0x4, 0x7, 0xA, 0xB, 0xC] ∧ regRow off = some r ∧
      ((s.reg off ^^^ v) &&& BitVec.ofNat 32 r.rwl = 0 ∨ s.rwlOpen off = true)) ∧
    (∃ (off : Nat) (v : Word) (who : Reader) (r : RegRow) (s : State), s.reaches who off = true ∧ (who = .mgmt → s.mgtMay off v = true) ∧
      s.boot.warm = false ∧ off % 4 = 0 ∧ off / 0x10000 ∈ [0x4, 0x7, 0xA, 0xB, 0xC] ∧ regRow off = some r ∧
      (s.reg off ^^^ v) &&& BitVec.ofNat 32 r.rwl ≠ 0 ∧ s.rwlOpen off = false) ∧
    (∃ (i : Instr) (off : Nat) (v : Word), ownWrite i = some (off, v)) ∧
    (∃ (off : Nat) (v : Word) (s : State), (s.reaches .mgmt off = false ∨ s.mgtMay off v = false)) ∧
    (∃ (s : State), s.barServed = false) ∧
    (∃ (off : Nat) (v : Word) (who : Reader) (s : State), s.reaches who off = true ∧ (who = .mgmt → s.mgtMay off v = true) ∧ s.boot.warm = true ∧
      off % 4 = 0 ∧ off ≠ 0x510 ∧ off ≠ 0x514 ∧ (regRow off).isSome = true) ∧
    (∃ (off : Nat), off % 4 ≠ 0) ∧
    (∃ (off len : Nat) (s : State), Inv s ∧ s.barServed = true ∧ 0 < len ∧ inBlock off len = false) ∧
    (∃ (off len : Nat) (s : State), s.barServed = true ∧ 0 < len ∧ off % 4 + len ≤ 4) ∧
    (∃ (off len : Nat) (s : State), s.barServed = true ∧ inBlock off len = true ∧ off % 8 < 4 ∧ 4 < off % 8 + len) ∧
    (∃ (off : Nat) (data : List Byte) (s : State), s.barServed = true ∧ off % 4 = 0 ∧ data.length = 4) ∧
    (∃ (off : Nat) (data : List Byte) (s : State), s.barServed = true ∧ 0 < data.length ∧ data.length < 4 ∧ off % 4 + data.length ≤ 4) ∧
    (∃ (off : Nat) (data : List Byte) (s : State), s.barServed = true ∧ off % 8 < 4 ∧ 4 < off % 8 + data.length ∧ off % 8 + data.length ≤ 8) ∧
    (∃ (off : Nat) (data : List Byte) (s : State), s.barServed = true ∧ 0 < data.length ∧ inBlock off data.length = false) ∧
    (∃ (write : Bool) (len : Nat) (data : List Byte) (s : State), (s.barServed = false ∨ (write = true ∧ data = []) ∨ (write = false ∧ len = 0))) ∧
    (∃ (who : Reader) (s : State), Inv s ∧ (who = .host → s.barServed = true) ∧ s.boot.warm = false) ∧
    (∃ (s : State), s.barServed = false) ∧
    (∃ (who : Reader) (s : State), (who = .host → s.barServed = true) ∧ s.boot.warm = true) :=
  ⟨⟨0x70000, 0x123, .host, ((regRow 0x70000).getD ⟨0, 0, 0, 0, 0, 0, 0, 0, 0, 0, 0, 0⟩), run0, inv_of met, met⟩,
   ⟨0x40000, 0x1F0, .host, ((regRow 0x40000).getD ⟨0, 0, 0, 0, 0, 0, 0, 0, 0, 0, 0, 0⟩),
     { run0 with cmb := { run0.cmb with run := some (combineRun false) } }, met⟩,
   ⟨.bankResetCmd 3, 0x15C, 1, met⟩,
   ⟨0x1000, 1, run0, met⟩,
   ⟨{ run0 with host := { run0.host with linkUp := false } }, met⟩,
   ⟨0x70000, 1, .host, { run0 with boot := { run0.boot with warm := true } }, met⟩,
   ⟨6, met⟩,
   ⟨6, 4, run0, inv_of met, met⟩,
   ⟨6, 2, run0, met⟩,
   ⟨3, 4, run0, met⟩,
   ⟨0x70000, [1, 0, 0, 0], run0, met⟩,
   ⟨0x70001, [1, 0], run0, met⟩,
   ⟨0x70000, [1, 0, 0, 0, 2, 0, 0, 0], run0, met⟩,
   ⟨0x70006, [1, 0, 0, 0], run0, met⟩,
   ⟨true, 4, [], run0, met⟩,
   ⟨.mgmt, run0.setReg 4 0x80000000, inv_of met, met⟩,
   ⟨{ run0 with host := { run0.host with linkUp := false } }, met⟩,
   ⟨.mgmt, { run0 with boot := { run0.boot with warm := true } }, met⟩⟩

end Sys2Proof.Tests
end

section
/-! PROOFS. Reads of registers: what a read takes from the reader's latches, holds for the reader and clears, and the statement on reads (O14). -/

namespace Sys2Proof.Machine

variable {s : State}

/-! ### Which parts of the state a register's value rests on -/

@[simp] theorem State.liveReg_setLatch (s : State) (who : Reader) (o : Nat) (v : Option Word) (off : Nat) :
    (s.setLatch who o v).liveReg off = s.liveReg off := by
  cases who <;> rfl

@[simp] theorem State.liveReg_send (s : State) (o : Out) (off : Nat) : (s.send o).liveReg off = s.liveReg off := rfl

theorem State.liveReg_reserved (s : State) {off : Nat} (h : regRow off = none) : s.liveReg off = 0 := by
  simp [State.liveReg, h]

/-- ATP_WALK_CNT shows what is stored. -/
theorem State.liveReg_walkCnt (s : State) : s.liveReg 0x9001C = s.reg 0x9001C := rfl

/-- The four words that HUB_DMAP_DATA shows of the selected entry (R501). -/
theorem State.liveReg_dmap (s : State) (k : Fin 4) :
    s.liveReg (0x408 + 4 * k.val) = BitVec.ofNat 32 (s.dmapWord (s.fld 0x404 0 12) k.val) := by
  fin_cases k <;> rfl

/-- A latch set for a reader is what that reader then finds. -/
theorem latches_setLatch_same (s : State) (who : Reader) (o : Nat) (w : Word) :
    tabGet (fun _ => none) ((s.setLatch who o (some w)).latches who) o = some w := by
  cases who <;> exact tabGet_tabSet_ne (fun _ => none) _ o (some w) (by simp)

theorem latches_setLatch_other (s : State) (who : Reader) {o x : Nat} (v : Option Word) (hx : x ≠ o) :
    tabGet (fun _ => none) ((s.setLatch who o v).latches who) x = tabGet (fun _ => none) (s.latches who) x := by
  cases who <;> exact tabGet_tabSet_other (fun _ => none) _ o x v hx

/-! ### The parts of a read: walks counted, latches taken and set, RC fields cleared -/

/-- The state that a read of the register at `off` finds: ATP_WALK_CNT takes the walks that accesses started (R177). -/
def State.found (s : State) (off : Nat) : State := if off = 0x9001C then s.walksSeen else s

/-- Registers latched for a reader, one after another (R12). -/
def State.latchAll (who : Reader) (os : List Nat) (s : State) : State :=
  os.foldl (fun s o => s.setLatch who o (some (s.liveReg o))) s

/-- A read has taken the reader's latch of its register and holds the register's partners for the reader (R12, R45, R501). -/
def State.latchedFor (s : State) (who : Reader) (off : Nat) : State :=
  State.latchAll who (partners off)
    (if (tabGet (fun _ => none) (s.latches who) off).isSome then s.setLatch who off none else s)

theorem State.found_of_ne (s : State) {off : Nat} (h : off ≠ 0x9001C) : s.found off = s := if_neg h

theorem State.found_moves (s : State) (off : Nat) : Moves 0x24 s (s.found off) := .ite (State.walksSeen_moves s) (.refl ..)

@[simp] theorem State.latches_found (s : State) (off : Nat) (who : Reader) : (s.found off).latches who = s.latches who := by
  unfold State.found
  split <;> rfl

theorem State.latchAll_moves (who : Reader) (os : List Nat) (s : State) : Moves 0xC0 s (State.latchAll who os s) :=
  .foldl os (.refl ..) fun _ _ hx => .then (State.setLatch_moves ..) rfl hx

theorem State.latchedFor_moves (s : State) (who : Reader) (off : Nat) : Moves 0xC0 s (s.latchedFor who off) :=
  .then (State.latchAll_moves ..) rfl (.ite (State.setLatch_moves ..) (.refl ..))

theorem latches_latchAll_other (who : Reader) {o : Nat} (os : List Nat) (s : State) (h : o ∉ os) :
    tabGet (fun _ => none) ((State.latchAll who os s).latches who) o = tabGet (fun _ => none) (s.latches who) o := by
  induction os generalizing s with
  | nil => rfl
  | cons p os ih =>
    rw [List.mem_cons, not_or] at h
    exact (ih _ h.2).trans (latches_setLatch_other s who _ h.1)

/-- Every register of the list is then held with the value it had before any was latched. -/
theorem latches_latchAll_mem (who : Reader) {o : Nat} (os : List Nat) (s : State) (h : o ∈ os) :
    tabGet (fun _ => none) ((State.latchAll who os s).latches who) o = some (s.liveReg o) := by
  induction os generalizing s with
  | nil => exact absurd h (List.not_mem_nil)
  | cons p os ih =>
    by_cases ho : o ∈ os
    · exact (ih _ ho).trans (congrArg some (s.liveReg_setLatch who p _ o))
    · obtain rfl : o = p := (List.mem_cons.1 h).resolve_right ho
      exact (latches_latchAll_other who os _ ho).trans (latches_setLatch_same s who o _)

theorem latches_latchedFor_partner (s : State) (who : Reader) {off o : Nat} (h : o ∈ partners off) :
    tabGet (fun _ => none) ((s.latchedFor who off).latches who) o = some (s.liveReg o) := by
  unfold State.latchedFor
  rw [latches_latchAll_mem who _ _ h]
  split <;> simp

/-- What the Bank Bridges, the rails, the temperature peaks and the event ring show is cleared in their own state. -/
def State.clearShown (s : State) (off : Nat) : State :=
  match instOf off 0x110 0x10 4, instOf off 0xD0040 4 10, instOf off 0xD0080 4 5 with
  | some n, _, _ => s.setBank n { s.bank n with timeErr := 0 }
  | _, some m, _ => s.setPwr { s.pwr with railLow := tabSet (fun _ => 0) s.pwr.railLow m 0 }
  | _, _, some d => s.setPwr { s.pwr with peak := tabSet (fun _ => 0) s.pwr.peak d 0 }
  | _, _, _ => if off = 0x234 then { s with host := { s.host with lost := 0 } } else s

theorem State.clearRc_reserved (s : State) {off : Nat} (h : regRow off = none) : s.clearRc off = s := by
  simp [State.clearRc, h]

theorem State.clearRc_row (s : State) {off : Nat} {r : RegRow} (h : regRow off = some r) :
    s.clearRc off = (if r.rc = 0 then s else s.setReg off (s.reg off &&& ~~~BitVec.ofNat 32 r.rc)).clearShown off := by
  unfold State.clearRc
  rw [h]
  rfl

theorem State.clearShown_regs (s : State) (off : Nat) : (s.clearShown off).regs = s.regs := by
  unfold State.clearShown
  split
  · rfl
  · rfl
  · rfl
  · split <;> rfl

/-- A host read clears the RC fields of its register (R13). -/
theorem reg_clearRc_same (hi : Inv s) {off : Nat} {r : RegRow} (h : regRow off = some r) :
    (s.clearRc off).reg off = s.reg off &&& ~~~BitVec.ofNat 32 r.rc := by
  rw [s.clearRc_row h, State.reg, State.clearShown_regs]
  split
  · next h0 => rw [h0, show ~~~BitVec.ofNat 32 0 = BitVec.allOnes 32 by decide, BitVec.and_allOnes]; rfl
  · exact reg_setReg_same hi off _

theorem timeErr_clearShown (ht : tabWf (fun _ => Bank.reset) s.banks = true) {n : Nat} (hn : n < 4) :
    ((s.clearShown (0x110 + 0x10 * n)).bank n).timeErr = 0 := by
  have hinst : instOf (0x110 + 0x10 * n) 0x110 0x10 4 = some n := by simp [instOf, hn]
  unfold State.clearShown
  rw [hinst]
  exact congrArg Bank.timeErr (tabGet_tabSet_same (fun _ => Bank.reset) s.banks n _ ht)

theorem railLow_clearShown (ht : tabWf (fun _ => 0) s.pwr.railLow = true) (m : Fin 10) :
    tabGet (fun _ => 0) (s.clearShown (0xD0040 + 4 * m.val)).pwr.railLow m.val = 0 := by
  have hbank : instOf (0xD0040 + 4 * m.val) 0x110 0x10 4 = none := if_neg (by omega)
  have hrail : instOf (0xD0040 + 4 * m.val) 0xD0040 4 10 = some m.val := by simp [instOf]
  unfold State.clearShown
  rw [hbank, hrail]
  exact tabGet_tabSet_same (fun _ => 0) s.pwr.railLow m.val 0 ht

theorem peak_clearShown (ht : tabWf (fun _ => 0) s.pwr.peak = true) (d : Fin 5) :
    tabGet (fun _ => 0) (s.clearShown (0xD0080 + 4 * d.val)).pwr.peak d.val = 0 := by
  have hbank : instOf (0xD0080 + 4 * d.val) 0x110 0x10 4 = none := if_neg (by omega)
  have hrail : instOf (0xD0080 + 4 * d.val) 0xD0040 4 10 = none := if_neg (by omega)
  have hpeak : instOf (0xD0080 + 4 * d.val) 0xD0080 4 5 = some d.val := by simp [instOf]
  unfold State.clearShown
  rw [hbank, hrail, hpeak]
  exact tabGet_tabSet_same (fun _ => 0) s.pwr.peak d.val 0 ht

/-! ### A read as a whole -/

/-- The state that a read leaves. -/
def State.afterRead (s : State) (who : Reader) (off : Nat) : State :=
  if who = .host then ((s.found off).latchedFor who off).clearRc off else (s.found off).latchedFor who off

/-- A read answers the value latched for its reader, else the register's own. -/
theorem State.readAt_eq (s : State) (who : Reader) (off : Nat) :
    s.readAt who off = ((tabGet (fun _ => none) (s.latches who) off).getD ((s.found off).liveReg off), s.afterRead who off) := by
  rw [← s.latches_found off who]
  rfl

theorem State.readOut_of_reaches {who : Reader} {off : Nat} (h : s.reaches who off = true) :
    s.readOut who off = (s.afterRead who off).send
      (.readData who off ((tabGet (fun _ => none) (s.latches who) off).getD ((s.found off).liveReg off))) := by
  rw [State.readOut, if_pos h, s.readAt_eq]

theorem State.readOut_of_not_reaches {who : Reader} {off : Nat} (h : s.reaches who off = false) : s.readOut who off = s := by
  simp [State.readOut, h]

theorem State.afterRead_moves (s : State) (who : Reader) (off : Nat) : Moves 0x1000CE4 s (s.afterRead who off) := by
  have hl : Moves 0x1000CE4 s ((s.found off).latchedFor who off) := .then (State.latchedFor_moves ..) rfl ((s.found_moves off).mono rfl)
  exact .ite (.then (State.clearRc_moves ..) rfl hl) hl

theorem State.afterRead_sent (s : State) (who : Reader) (off : Nat) : (s.afterRead who off).sent = s.sent :=
  (s.afterRead_moves who off).off .sent rfl

theorem State.afterRead_mem (s : State) (who : Reader) (off : Nat) : (s.afterRead who off).mem = s.mem :=
  (s.afterRead_moves who off).off .memory rfl

/-- What leaves the package with a read: the answer alone. -/
theorem State.readOut_sent {who : Reader} {off : Nat} (h : s.reaches who off = true) :
    (s.readOut who off).sent =
      .readData who off ((tabGet (fun _ => none) (s.latches who) off).getD ((s.found off).liveReg off)) :: s.sent := by
  rw [State.readOut_of_reaches h, State.send_sent, State.afterRead_sent]

/-- Every partner is held for the reader as it was at the read. -/
theorem latches_afterRead_partner (s : State) (who : Reader) {off o : Nat} (hw : off ≠ 0x9001C) (h : o ∈ partners off) :
    tabGet (fun _ => none) ((s.afterRead who off).latches who) o = some (s.liveReg o) := by
  rw [← latches_latchedFor_partner s who h, State.afterRead, s.found_of_ne hw]
  cases who with
  | host => exact congrArg (tabGet (fun _ => none) · o) ((State.clearRc_moves (s.latchedFor .host off) off).off .hostLatches rfl)
  | mgmt => rfl

/-- The management controller's read of any register but ATP_WALK_CNT leaves the registers as they are (R13, R524). -/
theorem afterRead_mgmt_regs (s : State) {off : Nat} (hw : off ≠ 0x9001C) : (s.afterRead .mgmt off).regs = s.regs := by
  rw [State.afterRead, if_neg (by decide), s.found_of_ne hw]
  exact (s.latchedFor_moves .mgmt off).off .registers rfl

/-- The host's read of a register is the clearing of its RC fields in a state that differs from the one found in the latches alone. -/
theorem afterRead_host_eq (s : State) (off : Nat) : s.afterRead .host off = ((s.found off).latchedFor .host off).clearRc off := if_pos rfl

/-- The walks that join ATP_WALK_CNT at its read are cleared with it: its RC fields are all its bits. -/
theorem reg_found_masked (s : State) {off : Nat} {r : RegRow} (h : regRow off = some r) :
    (s.found off).reg off &&& ~~~BitVec.ofNat 32 r.rc = s.reg off &&& ~~~BitVec.ofNat 32 r.rc := by
  by_cases hw : off = 0x9001C
  · subst hw
    have hrow : (regRow 0x9001C).map RegRow.rc = some 0xFFFFFFFF := by decide
    rw [h, Option.map_some, Option.some_inj] at hrow
    rw [hrow, show ~~~BitVec.ofNat 32 0xFFFFFFFF = 0#32 by decide, BitVec.and_zero, BitVec.and_zero]
  · rw [s.found_of_ne hw]

theorem reg_afterRead_host (hi : Inv s) {off : Nat} {r : RegRow} (h : regRow off = some r) :
    (s.afterRead .host off).reg off = s.reg off &&& ~~~BitVec.ofNat 32 r.rc := by
  have hlatched := (s.found off).latchedFor_moves .host off
  have hregs : ((s.found off).latchedFor .host off).reg off = (s.found off).reg off :=
    congrArg (tabGet regDefault · off) (hlatched.off .registers rfl)
  rw [afterRead_host_eq, reg_clearRc_same (hlatched.inv ((s.found_moves off).inv hi)) h, hregs, reg_found_masked s h]

/-- ATP_WALK_CNT never falls as walks join it. -/
theorem reg_walksSeen_le (hi : Inv s) : (s.reg 0x9001C).toNat ≤ (s.walksSeen.reg 0x9001C).toNat := by
  have hfree : Inv (s.takeFree).2 := (State.takeFree_moves s).inv hi
  have hreg : s.walksSeen.reg 0x9001C = BitVec.ofNat 32 (satAdd (2 ^ 32 - 1) (s.reg 0x9001C).toNat (Config.freeNat s.free % 2 ^ 32)) :=
    reg_setReg_same hfree 0x9001C _
  have hlt := (s.reg 0x9001C).isLt
  rw [hreg, BitVec.toNat_ofNat, satAdd, Nat.mod_eq_of_lt (by omega)]
  omega

/-- What a host read clears beside the register store it clears in the state's own bank dies, rails, peaks and event ring. -/
theorem afterRead_host_shown {off : Nat} {r : RegRow} (h : regRow off = some r) :
    ∃ t : State, t.banks = s.banks ∧ t.pwr = s.pwr ∧ s.afterRead .host off = t.clearShown off := by
  have hl : Moves 0xE4 s ((s.found off).latchedFor .host off) := .then (State.latchedFor_moves ..) rfl ((s.found_moves off).mono rfl)
  have ht := Moves.ite (c := r.rc = 0) hl
    (.then (State.setReg_moves _ off (((s.found off).latchedFor .host off).reg off &&& ~~~BitVec.ofNat 32 r.rc)) rfl hl)
  exact ⟨_, ht.off .banks rfl, ht.off .power rfl, (afterRead_host_eq s off).trans (State.clearRc_row _ h)⟩

/-! ### The commands that read -/

theorem pairLoRead_latches (off : Nat) (who : Reader) (hr : s.reaches who (off / 4 * 4) = true) (hw : off / 4 * 4 ≠ 0x9001C) :
    ∃ u, exec (.pairLoRead off who) s = .next u ∧
      u.sent = .readData who (off / 4 * 4) ((tabGet (fun _ => none) (s.latches who) (off / 4 * 4)).getD (s.liveReg (off / 4 * 4))) :: s.sent ∧
      (∀ o ∈ partners (off / 4 * 4), tabGet (fun _ => none) (u.latches who) o = some (s.liveReg o)) ∧ (who = .mgmt → u.regs = s.regs) := by
  refine ⟨s.readOut who (off / 4 * 4), rfl, ?_, fun o ho => ?_, ?_⟩
  · rw [State.readOut_sent hr, s.found_of_ne hw]
  · rw [State.readOut_of_reaches hr]
    exact latches_afterRead_partner s who hw ho
  · rintro rfl
    rw [State.readOut_of_reaches hr]
    exact afterRead_mgmt_regs s hw

theorem rcRead_clears (off : Nat) (r : RegRow) (hi : Inv s) (hb : s.barServed = true) (h : regRow (off / 4 * 4) = some r) :
    ∃ u, exec (.rcRead off) s = .next u ∧ u.reg (off / 4 * 4) = s.reg (off / 4 * 4) &&& ~~~BitVec.ofNat 32 r.rc ∧
      (off / 4 * 4 ≠ 0x9001C →
        u.sent = .readData .host (off / 4 * 4) ((tabGet (fun _ => none) s.latchHost (off / 4 * 4)).getD (s.liveReg (off / 4 * 4))) :: s.sent) ∧
      (∀ n < 4, off / 4 * 4 = 0x110 + 0x10 * n → (u.bank n).timeErr = 0) ∧ (off / 4 * 4 = 0x234 → u.host.lost = 0) := by
  obtain ⟨t, hbanks, -, ht⟩ := afterRead_host_shown (s := s) h
  refine ⟨s.readOut .host (off / 4 * 4), rfl, ?_, fun hw => ?_, fun n hn hoff => ?_, fun hoff => ?_⟩
  · rw [State.readOut_of_reaches (who := .host) hb]
    exact reg_afterRead_host hi h
  · rw [State.readOut_sent (who := .host) hb, s.found_of_ne hw]
    rfl
  · rw [State.readOut_of_reaches (who := .host) hb, ht, hoff]
    exact timeErr_clearShown (hbanks ▸ hi.tables.1) hn
  · rw [State.readOut_of_reaches (who := .host) hb, ht, hoff]
    rfl

theorem rcRead_rail (m : Fin 10) (hb : s.barServed = true) (hw : tabWf (fun _ => 0) s.pwr.railLow = true) :
    ∃ u, exec (.rcRead (0xD0040 + 4 * m.val)) s = .next u ∧ tabGet (fun _ => 0) u.pwr.railLow m.val = 0 := by
  have hrow : (regRow (0xD0040 + 4 * m.val)).isSome := by revert m; decide
  obtain ⟨r, hr⟩ := Option.isSome_iff_exists.1 hrow
  obtain ⟨t, -, hpwr, ht⟩ := afterRead_host_shown (s := s) hr
  refine ⟨_, rfl, ?_⟩
  rw [show (0xD0040 + 4 * m.val) / 4 * 4 = 0xD0040 + 4 * m.val by omega, State.readOut_of_reaches (who := .host) hb, ht]
  exact railLow_clearShown (hpwr ▸ hw) m

theorem rcRead_peak (d : Fin 5) (hb : s.barServed = true) (hw : tabWf (fun _ => 0) s.pwr.peak = true) :
    ∃ u, exec (.rcRead (0xD0080 + 4 * d.val)) s = .next u ∧ tabGet (fun _ => 0) u.pwr.peak d.val = 0 := by
  have hrow : (regRow (0xD0080 + 4 * d.val)).isSome := by revert d; decide
  obtain ⟨r, hr⟩ := Option.isSome_iff_exists.1 hrow
  obtain ⟨t, -, hpwr, ht⟩ := afterRead_host_shown (s := s) hr
  refine ⟨_, rfl, ?_⟩
  rw [show (0xD0080 + 4 * d.val) / 4 * 4 = 0xD0080 + 4 * d.val by omega, State.readOut_of_reaches (who := .host) hb, ht]
  exact peak_clearShown (hpwr ▸ hw) d

/-- Either row that reads ATP_WALK_CNT answers at least what is stored. -/
theorem walkCnt_read (i : Instr) (who : Reader) (hi : Inv s) (h : (i = .rcRead 0x9001C ∧ who = .host) ∨ i = .pairLoRead 0x9001C who)
    (hr : s.reaches who 0x9001C = true) (hl : tabGet (fun _ => none) (s.latches who) 0x9001C = none) :
    ∃ u, exec i s = .next u ∧ ∃ v, u.sent = .readData who 0x9001C v :: s.sent ∧ (s.reg 0x9001C).toNat ≤ v.toNat := by
  have hexec : exec i s = .next (s.readOut who 0x9001C) := by
    obtain ⟨rfl, rfl⟩ | rfl := h <;> rfl
  refine ⟨_, hexec, _, State.readOut_sent hr, ?_⟩
  rw [hl, Option.getD_none, State.liveReg_walkCnt]
  exact reg_walksSeen_le hi

/-- A read of the first word of a defect-map entry holds the other three (R501). -/
theorem dmap_partner : ∀ k : Fin 4, k ≠ 0 → 0x408 + 4 * k.val ∈ partners 0x408 := by decide

theorem dmapEntryRead_answers (who : Reader) (hr : s.reaches who 0x408 = true) :
    ∃ u, exec (.dmapEntryRead who) s = .next u ∧
      u.sent = .readData who 0x408 ((tabGet (fun _ => none) (s.latches who) 0x408).getD (BitVec.ofNat 32 (s.dmapWord (s.fld 0x404 0 12) 0))) :: s.sent ∧
      ∀ k < 4, k ≠ 0 → tabGet (fun _ => none) (u.latches who) (0x408 + 4 * k) = some (BitVec.ofNat 32 (s.dmapWord (s.fld 0x404 0 12) k)) := by
  refine ⟨s.readOut who 0x408, rfl, ?_, fun k hk h0 => ?_⟩
  · rw [State.readOut_sent hr, s.found_of_ne (by decide)]
    exact congrArg (fun w => Out.readData who 0x408 (Option.getD _ w) :: s.sent) (s.liveReg_dmap 0)
  · have hp := dmap_partner ⟨k, hk⟩ (fun e => h0 (congrArg Fin.val e))
    rw [State.readOut_of_reaches hr, ← s.liveReg_dmap ⟨k, hk⟩]
    exact latches_afterRead_partner s who (by decide) hp

theorem rcRead_reserved (off : Nat) (hb : s.barServed = true) (h : regRow (off / 4 * 4) = none) :
    ∃ u, exec (.rcRead off) s = .next u ∧
      u.sent = .readData .host (off / 4 * 4) ((tabGet (fun _ => none) s.latchHost (off / 4 * 4)).getD 0) :: s.sent ∧ u.regs = s.regs ∧ u.mem = s.mem := by
  have hw : off / 4 * 4 ≠ 0x9001C := fun e => absurd (e ▸ h) (by decide)
  refine ⟨s.readOut .host (off / 4 * 4), rfl, ?_, ?_, ?_⟩
  · rw [State.readOut_sent (who := .host) hb, s.found_of_ne hw, s.liveReg_reserved h]
    rfl
  · rw [State.readOut_of_reaches (who := .host) hb, afterRead_host_eq, State.clearRc_reserved _ h, s.found_of_ne hw]
    exact (s.latchedFor_moves .host _).off .registers rfl
  · rw [State.readOut_of_reaches (who := .host) hb]
    exact s.afterRead_mem .host _

theorem read_unreached (off : Nat) (who : Reader) (i : Instr)
    (h : (i = .pairLoRead off who ∧ s.reaches who (off / 4 * 4) = false) ∨ (i = .rcRead off ∧ s.barServed = false) ∨
      (i = .dmapEntryRead who ∧ s.reaches who 0x408 = false) ∨ (i = .dayNowLoRead who ∧ s.reaches who 0x10008 = false)) :
    ∃ u, exec i s = .next u ∧ u = s := by
  obtain ⟨rfl, hr⟩ | ⟨rfl, hr⟩ | ⟨rfl, hr⟩ | ⟨rfl, hr⟩ := h
  · exact ⟨_, rfl, State.readOut_of_not_reaches hr⟩
  · exact ⟨_, rfl, State.readOut_of_not_reaches (who := .host) hr⟩
  · exact ⟨_, rfl, State.readOut_of_not_reaches hr⟩
  · exact ⟨_, rfl, State.readOut_of_not_reaches hr⟩

/-- Settles O14: each clause is what a read does (`State.readAt_eq`), by the command that reads. -/
theorem registerReads : Obligations.RegisterReads :=
  ⟨fun off who _ hr hw _ => pairLoRead_latches off who hr hw,
   fun off r _ hi hb h => rcRead_clears off r hi hb h,
   fun m _ hb hw => rcRead_rail m hb hw,
   fun d _ hb hw => rcRead_peak d hb hw,
   fun i who _ hi h hr hl => walkCnt_read i who hi h hr hl,
   fun who _ _ hr => dmapEntryRead_answers who hr,
   fun off _ hb h => rcRead_reserved off hb h,
   fun off who i _ h => read_unreached off who i h⟩

end Sys2Proof.Machine
end

section
/-! PROOFS. Writes of registers: what a write reaches, and what one by the access codes alone leaves. -/

namespace Sys2Proof.Machine

variable {s : State} {off : Nat} {v : Word} {who : Reader} {r : RegRow}

/-! ### What a write reaches (R95, R507) -/

theorem State.onWrite_unserved (f : State → State) (hb : s.barServed = false) : s.onWrite off .host f = s := by
  simp [State.onWrite, hb]

theorem State.onWrite_warm (f : State → State) (hb : who = .host → s.barServed = true) (hw : s.boot.warm = true) (h0 : off ≠ 0x510) (h4 : off ≠ 0x514) :
    s.onWrite off who f = s.locked off who := by
  rw [State.onWrite, if_neg (fun h => by simp [hb h.1] at h), if_pos ⟨hw, h0, h4⟩]

theorem State.onWrite_open (f : State → State) (hb : who = .host → s.barServed = true) (hw : s.boot.warm = false) :
    s.onWrite off who f = f (s.dropLatches off) := by
  rw [State.onWrite, if_neg (fun h => by simp [hb h.1] at h), if_neg (fun h => by simp [hw] at h)]

theorem State.writeReg_unserved (hb : s.barServed = false) : s.writeReg off v .host = s := by
  rw [State.writeReg, State.onWrite_unserved _ hb, ite_self]

theorem State.writeReg_row (h : (regRow off).isSome = true) : s.writeReg off v who = s.onWrite off who (State.applyWrite off v who) := by
  rw [State.writeReg, if_neg (by simpa using Option.isSome_iff_ne_none.1 h)]

/-- Where the host is served, or the management controller reaches the register, an access of either passes the host's gate. -/
theorem served_of_reaches (h : s.reaches who off = true) : who = .host → s.barServed = true := by
  rintro rfl
  exact h

/-- A REGISTER_WRITE of an aligned offset acts at the register, of the management controller where Table 18.4 permits it (R530). -/
theorem exec_registerWrite (hr : s.reaches who off = true) (hm : who = .mgmt → s.mgtMay off v = true) (h4 : off % 4 = 0) :
    exec (.registerWrite off v who) s = .next (s.writeReg off v who) := by
  cases who with
  | host => exact congrArg Host.Outcome.next (if_pos h4)
  | mgmt => exact congrArg Host.Outcome.next (if_pos (by rw [hr, hm rfl]; rfl))

theorem exec_registerWrite_host (h4 : off % 4 = 0) : exec (.registerWrite off v .host) s = .next (s.writeReg off v .host) :=
  congrArg Host.Outcome.next (if_pos h4)

/-! ### A write by access codes alone (R568, R569) -/

/-- Writing what a register holds changes nothing: the store has one form for each content. -/
theorem setReg_self (hi : Inv s) (off : Nat) : s.setReg off (s.reg off) = s := by
  have hregs : tabSet regDefault s.regs off (s.reg off) = s.regs :=
    tab_ext regDefault _ _ (tabWf_tabSet _ _ _ _ hi.regs) hi.regs fun k => by
      by_cases hk : k = off
      · subst hk
        exact reg_setReg_same hi k _
      · exact reg_setReg_other s _ hk
  rw [State.setReg, hregs]

/-- What a register holds after a write of `v`: its RW and RWL fields take the value, the WOC bits written 1 clear (Table 0.3). -/
def RegRow.taken (r : RegRow) (old v : Word) : Word :=
  (old &&& ~~~BitVec.ofNat 32 (r.rw ||| r.rwl) ||| v &&& BitVec.ofNat 32 (r.rw ||| r.rwl)) &&& ~~~(v &&& BitVec.ofNat 32 r.woc)

theorem State.plainWrite_taken (hi : Inv s) (h : (s.reg off ^^^ v) &&& BitVec.ofNat 32 r.rwl = 0 ∨ s.rwlOpen off = true) :
    s.plainWrite r off v who = s.setReg off (r.taken (s.reg off) v) := by
  have hopen : ¬((s.reg off ^^^ v) &&& BitVec.ofNat 32 r.rwl ≠ 0 ∧ (!s.rwlOpen off) = true) := by
    rintro ⟨h1, h2⟩
    rcases h with h | h
    · exact h1 h
    · simp [h] at h2
  rw [State.plainWrite, if_neg hopen]
  change (if r.taken (s.reg off) v = s.reg off then s else s.setReg off (r.taken (s.reg off) v)) = _
  split
  · next he => rw [he, setReg_self hi]
  · rfl

theorem State.plainWrite_locked (h : (s.reg off ^^^ v) &&& BitVec.ofNat 32 r.rwl ≠ 0) (hl : s.rwlOpen off = false) :
    s.plainWrite r off v who = s.locked off who := by
  rw [State.plainWrite, if_pos ⟨h, by rw [hl]; rfl⟩]

/-- In the Combine, collective, engine, Special Function Unit and management blocks no register has a rule of its own. -/
theorem State.applyWrite_plain (hb : off / 0x10000 ∈ [0x4, 0x7, 0xA, 0xB, 0xC]) (hr : regRow off = some r) :
    s.applyWrite off v who = s.plainWrite r off v who := by
  unfold State.applyWrite
  rw [hr]
  simp only [List.mem_cons, List.not_mem_nil, or_false] at hb
  rcases hb with h | h | h | h | h <;> rw [h] <;> rfl

theorem dropLatches_inv (hi : Inv s) (off : Nat) : Inv (s.dropLatches off) := (s.dropLatches_moves off).inv hi

end Sys2Proof.Machine
end

section
/-! PROOFS. The rules of registers that have a command of their own: what the host's write at each acts by, so that the command and the
REGISTER_WRITE of that register are one. -/

namespace Sys2Proof.Machine

variable {s : State} {off : Nat} {v : Word}

/-- The host's aligned 4-byte write of `v` to the register at `off` acts by `f`, once it reaches the register. -/
structure HostRule (off : Nat) (v : Word) (f : State → State) : Prop where
  aligned : off % 4 = 0
  row : (regRow off).isSome = true
  acts : ∀ x, State.applyWrite off v .host x = f x

/-- A row that acts by its register's rule acts as the host's REGISTER_WRITE of that register. -/
theorem HostRule.registerWrite {f : State → State} (h : HostRule off v f) {i : Instr} (hi : exec i s = .next (s.onWrite off .host f)) :
    ∃ u, exec (.registerWrite off v .host) s = .next u ∧ exec i s = .next u := by
  obtain rfl : State.applyWrite off v .host = f := funext h.acts
  exact ⟨_, exec_registerWrite_host h.aligned, by rw [hi, State.writeReg_row h.row]⟩

theorem hostRule_dayCtrl (v : Word) : HostRule 0x10000 v (State.writeDayCtrl v) := ⟨rfl, rfl, fun _ => rfl⟩

theorem hostRule_hourOfs (v : Word) : HostRule 0x10020 v (State.writeHourOfs v) := ⟨rfl, rfl, fun _ => rfl⟩

theorem hostRule_holdLimit (v : Word) : HostRule 0x10024 v (State.writeHoldLimit v) := ⟨rfl, rfl, fun _ => rfl⟩

theorem hostRule_dayStartHi (v : Word) : HostRule 0x1002C v (State.writeDayStartHi v .host) := ⟨rfl, rfl, fun _ => rfl⟩

theorem hostRule_dayCmd (v : Word) : HostRule 0x10030 v (State.writeDayCmd v .host) := ⟨rfl, rfl, fun _ => rfl⟩

theorem hostRule_wake : HostRule 0x20C 1 State.wake := ⟨rfl, rfl, fun _ => rfl⟩

theorem hostRule_evqCfg (v : Word) : HostRule 0x230 v (State.writeEvqCfg v .host) := ⟨rfl, rfl, fun _ => rfl⟩

theorem hostRule_repairCmd (v : Word) : HostRule 0x41C v (State.writeRepairCmd v .host) := ⟨rfl, rfl, fun _ => rfl⟩

theorem hostRule_resetCmd (v : Word) : HostRule 0x508 v (State.writeResetCmd v .host) := ⟨rfl, rfl, fun _ => rfl⟩

theorem hostRule_routeCmd (v : Word) : HostRule 0x50018 v (State.writeRouteCmd v .host) := ⟨rfl, rfl, fun _ => rfl⟩

theorem hostRule_ingCmd (v : Word) : HostRule 0x80010 v (State.ingCmd v) := ⟨rfl, rfl, fun _ => rfl⟩

theorem hostRule_fltCmd (v : Word) : HostRule 0xE000C v (State.writeFltCmd v .host) := ⟨rfl, rfl, fun _ => rfl⟩

theorem hostRule_reconcile (v : Word) : HostRule 0xE0010 v (State.writeReconcile v .host) := ⟨rfl, rfl, fun _ => rfl⟩

theorem hostRule_pwrCmd (v : Word) : HostRule 0xD0004 v (State.writePwrCmd v .host) := ⟨rfl, rfl, fun _ => rfl⟩

/-- The rule of each of `n` registers `st` bytes apart that the map lists as one set: every one of them has a row. -/
theorem HostRule.regN {b st n rw rwl woc wo rc dflt lost i : Nat} {f : State → State} (h : regN b st n rw rwl woc wo rc dflt lost ∈ regMap)
    (hst : 0 < st) (hi : i < n) (h4 : (b + st * i) % 4 = 0)
    (hf : ∀ r x, regRow (b + st * i) = some r → State.applyWrite (b + st * i) v .host x = f x) : HostRule (b + st * i) v f := by
  have hrow : (regRow (b + st * i)).isSome = true :=
    List.find?_isSome.2 ⟨_, h, by simp [RegRow.has, Machine.regN, Nat.mul_div_cancel_left _ hst, hi]⟩
  obtain ⟨r, hr⟩ := Option.isSome_iff_exists.1 hrow
  exact ⟨h4, hrow, fun x => hf r x hr⟩

theorem hostRule_bankCmd (n : BankId) (v : Word) : HostRule (0x150 + 4 * n.val) v (State.writeBankCmd n.val v .host) := by
  refine .regN (show regN 0x0150 4 4 0 0 0 3 0 0 rowS ∈ regMap by decide) (by decide) n.isLt (by omega) fun r x hr => ?_
  have hblock : (0x150 + 4 * n.val) / 0x10000 = 0 := by omega
  have hnum : (0x150 + 4 * n.val - 0x150) / 4 = n.val := by omega
  simp (disch := omega) only [State.applyWrite, State.writeHub, hr, hblock, hnum, if_pos, if_neg]

theorem hostRule_ringCfg (c : CtxId) (v : Word) : HostRule (0x1010 + 0x20 * c.val) v (State.writeRingCfg c.val v .host) := by
  refine .regN (show regN 0x1010 0x20 64 0x80000000 0x0FFFFF3F 0 0 0 0x04400100 4 ∈ regMap by decide) (by decide) c.isLt (by omega) fun r x hr => ?_
  have hblock : (0x1010 + 0x20 * c.val) / 0x10000 = 0 := by omega
  have hnum : (0x1010 + 0x20 * c.val - 0x1000) / 0x20 = c.val := by omega
  simp (disch := omega) only [State.applyWrite, State.writeHub, hr, hblock, hnum, if_pos, if_neg]

theorem hostRule_ctxCmd (c : CtxId) (v : Word) : HostRule (0x2004 + 0x40 * c.val) v (State.writeCtxCmd c.val v .host) := by
  refine .regN (show regN 0x2004 0x40 64 0 0 0 7 0 0 rowS ∈ regMap by decide) (by decide) c.isLt (by omega) fun r x hr => ?_
  have hblock : (0x2004 + 0x40 * c.val) / 0x10000 = 0 := by omega
  have hnum : (0x2004 + 0x40 * c.val - 0x2000) / 0x40 = c.val := by omega
  simp (disch := omega) only [State.applyWrite, State.writeHub, hr, hblock, hnum, if_pos, if_neg]

theorem hostRule_stepVal (i : Fin 4) (v : Word) : HostRule (0x200C8 + 0x10 * i.val) v (State.writeStepVal i.val v .host) := by
  refine .regN (show regN 0x200C8 0x10 4 0x80000000 0xFFFFFF 0 0 0 0 32 ∈ regMap by decide) (by decide) i.isLt (by omega) fun r x hr => ?_
  have hblock : (0x200C8 + 0x10 * i.val) / 0x10000 = 2 := by omega
  have hnum : (0x200C8 + 0x10 * i.val - 0x200C0) / 0x10 = i.val := by omega
  simp (disch := omega) only [State.applyWrite, State.writePower, hr, hblock, hnum, if_pos]

theorem hostRule_eveRate (k : Fin 16) (v : Word) :
    HostRule (0x30108 + 0x10 * k.val) v (State.writeEveParam (0x30108 + 0x10 * k.val) v) := by
  refine .regN (show regN 0x30108 0x10 16 allBits 0 0 0 0 0x3A83126F 17 ∈ regMap by decide) (by decide) k.isLt (by omega) fun r x hr => ?_
  have hblock : (0x30108 + 0x10 * k.val) / 0x10000 = 3 := by omega
  simp (disch := omega) only [State.applyWrite, State.writeRoute, hr, hblock, if_pos]

theorem hostRule_eveLimit (k : Fin 16) (v : Word) :
    HostRule (0x3010C + 0x10 * k.val) v (State.writeEveParam (0x3010C + 0x10 * k.val) v) := by
  refine .regN (show regN 0x3010C 0x10 16 allBits 0 0 0 0 0x40000000 17 ∈ regMap by decide) (by decide) k.isLt (by omega) fun r x hr => ?_
  have hblock : (0x3010C + 0x10 * k.val) / 0x10000 = 3 := by omega
  simp (disch := omega) only [State.applyWrite, State.writeRoute, hr, hblock, if_pos]

theorem hostRule_lnkCfg (p : PortId) (v : Word) : HostRule (0x60100 + 0x40 * p.val) v (State.writeLnkCfg p.val v .host) := by
  refine .regN (show regN 0x60100 0x40 8 0xA0FFF00F 0 0 0x40000000 0 0x80100008 27 ∈ regMap by decide) (by decide) p.isLt (by omega) fun r x hr => ?_
  have hblock : (0x60100 + 0x40 * p.val) / 0x10000 = 6 := by omega
  have hnum : (0x60100 + 0x40 * p.val - 0x60100) / 0x40 = p.val := by omega
  simp (disch := omega) only [State.applyWrite, State.writeLink, hr, hblock, hnum, if_pos, if_neg]

theorem hostRule_aperture (a : Fin 64) (v : Word) : HostRule (0x60400 + 4 * a.val) v (State.writeAperture a.val v .host) := by
  refine .regN (show regN 0x60400 4 64 0x803FC03F 0 0 0 0 0 26 ∈ regMap by decide) (by decide) a.isLt (by omega) fun r x hr => ?_
  have hblock : (0x60400 + 4 * a.val) / 0x10000 = 6 := by omega
  have hnum : (0x60400 + 4 * a.val - 0x60400) / 4 = a.val := by omega
  simp (disch := omega) only [State.applyWrite, State.writeLink, hr, hblock, hnum, if_pos, if_neg]

theorem hostRule_window (c : CtxId) (w : Fin 4) (v : Word) : HostRule (winReg c.val w.val 0) v (State.writeWindow c.val w.val v .host) := by
  have hoff : winReg c.val w.val 0 = 0x61000 + 0x10 * (4 * c.val + w.val) := by unfold winReg; omega
  rw [hoff]
  refine .regN (show regN 0x61000 0x10 256 0 0xF7FFFFFF 0 0 0 0 26 ∈ regMap by decide) (by decide) (show 4 * c.val + w.val < 256 by omega)
    (by omega) fun r x hr => ?_
  have hblock : (0x61000 + 0x10 * (4 * c.val + w.val)) / 0x10000 = 6 := by omega
  have hctx : (0x61000 + 0x10 * (4 * c.val + w.val) - 0x61000) / 0x40 = c.val := by omega
  have hwin : (0x61000 + 0x10 * (4 * c.val + w.val)) % 0x40 / 0x10 = w.val := by omega
  simp (disch := omega) only [State.applyWrite, State.writeLink, hr, hblock, hctx, hwin, if_pos, if_neg]

theorem hostRule_rootLo (c : CtxId) (v : Word) : HostRule (0x90100 + 8 * c.val) v (State.writeRoot c.val false v .host) := by
  refine .regN (show regN 0x90100 8 64 0 0xFFFFF000 0 0 0 0 9 ∈ regMap by decide) (by decide) c.isLt (by omega) fun r x hr => ?_
  have hblock : (0x90100 + 8 * c.val) / 0x10000 = 9 := by omega
  have hnum : (0x90100 + 8 * c.val - 0x90100) / 8 = c.val := by omega
  have hhalf : (0x90100 + 8 * c.val) % 8 = 0 := by omega
  simp (disch := omega) only [State.applyWrite, State.writeIng, hr, hblock, hnum, hhalf, if_pos, if_neg]
  rfl

theorem hostRule_rootHi (c : CtxId) (v : Word) : HostRule (0x90104 + 8 * c.val) v (State.writeRoot c.val true v .host) := by
  refine .regN (show regN 0x90104 8 64 0 0x800000FF 0 0 0 0 9 ∈ regMap by decide) (by decide) c.isLt (by omega) fun r x hr => ?_
  have hblock : (0x90104 + 8 * c.val) / 0x10000 = 9 := by omega
  have hnum : (0x90104 + 8 * c.val - 0x90100) / 8 = c.val := by omega
  have hhalf : (0x90104 + 8 * c.val) % 8 = 4 := by omega
  simp (disch := omega) only [State.applyWrite, State.writeIng, hr, hblock, hnum, hhalf, if_pos, if_neg]
  rfl

/-- A row of its own for one register is the host's REGISTER_WRITE of that register with its value. -/
theorem ownWrite_registerWrite (i : Instr) (h : ownWrite i = some (off, v)) :
    ∃ u, exec (.registerWrite off v .host) s = .next u ∧ exec i s = .next u := by
  cases i
  case dayCtrlWrite w => cases h; exact (hostRule_dayCtrl v).registerWrite rfl
  case dayHourOfsWrite w => cases h; exact (hostRule_hourOfs v).registerWrite rfl
  case dayHoldLimitWrite w => cases h; exact (hostRule_holdLimit v).registerWrite rfl
  case dayStartHiWrite w => cases h; exact (hostRule_dayStartHi v).registerWrite rfl
  case dayResync => cases h; exact (hostRule_dayCmd 1).registerWrite rfl
  case bankResetCmd n => cases h; exact (hostRule_bankCmd n 1).registerWrite rfl
  case bankRetryCmd n => cases h; exact (hostRule_bankCmd n 2).registerWrite rfl
  case hubWakePoll => cases h; exact hostRule_wake.registerWrite rfl
  case evqEnable w => cases h; exact (hostRule_evqCfg v).registerWrite rfl
  case repairCancel => cases h; exact (hostRule_repairCmd 1).registerWrite rfl
  case warmReset w => cases h; exact (hostRule_resetCmd v).registerWrite rfl
  case ringEnable c w => cases h; exact (hostRule_ringCfg c _).registerWrite rfl
  case ringDisable c w => cases h; exact (hostRule_ringCfg c _).registerWrite rfl
  case ctxOpen c => cases h; exact (hostRule_ctxCmd c 1).registerWrite rfl
  case ctxClose c => cases h; exact (hostRule_ctxCmd c 2).registerWrite rfl
  case ctxTeardown c => cases h; exact (hostRule_ctxCmd c 4).registerWrite rfl
  case loadStepArm i w who =>
    cases who <;> cases h
    exact (hostRule_stepVal i v).registerWrite rfl
  case rteEveParamWrite k limit w =>
    cases h
    cases limit with
    | false => exact (hostRule_eveRate k v).registerWrite rfl
    | true => exact (hostRule_eveLimit k v).registerWrite rfl
  case routeArm => cases h; exact (hostRule_routeCmd 1).registerWrite rfl
  case routeDefault => cases h; exact (hostRule_routeCmd 2).registerWrite rfl
  case lnkEnableWrite p w => cases h; exact (hostRule_lnkCfg p v).registerWrite rfl
  case apertureBind a w => cases h; exact (hostRule_aperture a v).registerWrite rfl
  case rwinEnable c w x => cases h; exact (hostRule_window c w v).registerWrite rfl
  case ingestResyncCmd => cases h; exact (hostRule_ingCmd 1).registerWrite rfl
  case atpRootWrite c hi w who =>
    cases who <;> cases h
    cases hi with
    | false => exact (hostRule_rootLo c v).registerWrite rfl
    | true => exact (hostRule_rootHi c v).registerWrite rfl
  case powerReqNoon => cases h; exact (hostRule_pwrCmd 1).registerWrite rfl
  case powerReqDusk => cases h; exact (hostRule_pwrCmd 2).registerWrite rfl
  case powerReqNight => cases h; exact (hostRule_pwrCmd 3).registerWrite rfl
  case powerReqMidnight => cases h; exact (hostRule_pwrCmd 4).registerWrite rfl
  case seqAbort => cases h; exact (hostRule_fltCmd 1).registerWrite rfl
  case unpin => cases h; exact (hostRule_fltCmd 2).registerWrite rfl
  case reconcile w => cases h; exact (hostRule_reconcile v).registerWrite rfl
  all_goals exact nomatch h

end Sys2Proof.Machine
end

section
/-! PROOFS. Host accesses of BAR 0 of any width and place, the clauses on REGISTER_WRITE and HUB_ERR, and the statement on accesses (O60). -/

namespace Sys2Proof.Machine

variable {s : State} {off : Nat}

/-! ### Which registers an access touches (R567) -/

theorem inBlock_iff {len : Nat} : inBlock off len = true ↔ 0 < len ∧ off % 8 + len ≤ 8 := by
  simp only [inBlock, Bool.and_eq_true, decide_eq_true_eq]
  omega

theorem inBlock_within {len : Nat} (h0 : 0 < len) (h : off % 4 + len ≤ 4) : inBlock off len = true := inBlock_iff.2 ⟨h0, by omega⟩

/-- An access within one register touches that register alone. -/
theorem regsTouched_within {len : Nat} (h0 : 0 < len) (h : off % 4 + len ≤ 4) : regsTouched off len = [off / 4 * 4] := by
  unfold regsTouched
  by_cases hlow : off % 8 < 4
  · rw [List.filter_cons_of_pos (by simp; omega), List.filter_cons_of_neg (by simp; omega), List.filter_nil, show off / 4 * 4 = off / 8 * 8 by omega]
  · rw [List.filter_cons_of_neg (by simp; omega), List.filter_cons_of_pos (by simp; omega), List.filter_nil,
      show off / 4 * 4 = off / 8 * 8 + 4 by omega]

/-- An access from the lower register of a block into the upper touches both, the lower first. -/
theorem regsTouched_both {len : Nat} (hlow : off % 8 < 4) (hup : 4 < off % 8 + len) : regsTouched off len = [off / 8 * 8, off / 8 * 8 + 4] := by
  unfold regsTouched
  rw [List.filter_cons_of_pos (by simp; omega), List.filter_cons_of_pos (by simp; omega), List.filter_nil]

/-! ### Reads of any width -/

/-- A message that leaves after what had left before. -/
theorem State.send_of_sent {l : List Out} (h : s.sent = l) (o : Out) : s.send o = { s with sent := o :: l } := by
  rw [← h]
  rfl

theorem State.found_send (s : State) (o : Out) (off : Nat) : (s.send o).found off = (s.found off).send o := by
  unfold State.found
  split <;> rfl

theorem State.setLatch_send (s : State) (o : Out) (who : Reader) (x : Nat) (w : Option Word) :
    (s.send o).setLatch who x w = (s.setLatch who x w).send o := by
  cases who <;> rfl

theorem State.latchAll_send (o : Out) (who : Reader) (os : List Nat) (s : State) :
    State.latchAll who os (s.send o) = (State.latchAll who os s).send o := by
  induction os generalizing s with
  | nil => rfl
  | cons x os ih => exact (congrArg (State.latchAll who os) (s.setLatch_send o who x _)).trans (ih _)

theorem State.latchedFor_send (s : State) (o : Out) (who : Reader) (off : Nat) : (s.send o).latchedFor who off = (s.latchedFor who off).send o := by
  have hl : (s.send o).latches who = s.latches who := by cases who <;> rfl
  unfold State.latchedFor
  rw [hl, ← State.latchAll_send]
  split
  · rw [State.setLatch_send]
  · rfl

theorem State.clearShown_send (s : State) (o : Out) (off : Nat) : (s.send o).clearShown off = (s.clearShown off).send o := by
  unfold State.clearShown
  split
  · rfl
  · rfl
  · rfl
  · split <;> rfl

theorem State.clearRc_send (s : State) (o : Out) (off : Nat) : (s.send o).clearRc off = (s.clearRc off).send o := by
  cases h : regRow off with
  | none => rw [State.clearRc_reserved _ h, State.clearRc_reserved _ h]
  | some r =>
    rw [State.clearRc_row _ h, State.clearRc_row _ h, ← State.clearShown_send]
    congr 1
    split <;> rfl

/-- What has left the package does not bear on a host read. -/
theorem State.readAt_send (s : State) (o : Out) (off : Nat) :
    (s.send o).readAt .host off = ((s.readAt .host off).1, (s.readAt .host off).2.send o) := by
  simp only [State.readAt_eq, afterRead_host_eq, State.found_send, State.latchedFor_send, State.clearRc_send, State.liveReg_send]
  rfl

theorem clearShown_barServed (s : State) (off : Nat) : (s.clearShown off).barServed = s.barServed := by
  unfold State.clearShown
  split
  · rfl
  · rfl
  · rfl
  · split <;> rfl

/-- A host read does not bear on whether BAR 0 is served. -/
theorem readAt_barServed (s : State) (off : Nat) : (s.readAt .host off).2.barServed = s.barServed := by
  have hl : Moves 0xE4 s ((s.found off).latchedFor .host off) := .then (State.latchedFor_moves ..) rfl ((s.found_moves off).mono rfl)
  have hserved : ((s.found off).latchedFor .host off).barServed = s.barServed := by
    unfold State.barServed
    rw [hl.off .host rfl, hl.off .boot rfl, hl.off .power rfl]
  rw [s.readAt_eq, ← hserved]
  change (s.afterRead .host off).barServed = _
  rw [afterRead_host_eq]
  cases h : regRow off with
  | none => rw [State.clearRc_reserved _ h]
  | some r =>
    rw [State.clearRc_row _ h, clearShown_barServed]
    split <;> rfl

theorem readAt_sent (s : State) (off : Nat) : (s.readAt .host off).2.sent = s.sent := by
  rw [s.readAt_eq]
  exact s.afterRead_sent .host off

/-- A served 4-byte host read is a read of its register with the answer sent. -/
theorem exec_rcRead (hb : s.barServed = true) (off : Nat) :
    exec (.rcRead off) s =
      .next ((s.readAt .host (off / 4 * 4)).2.send (.readData .host (off / 4 * 4) (s.readAt .host (off / 4 * 4)).1)) :=
  congrArg Host.Outcome.next (if_pos hb)

/-- A served host access of BAR 0 of one byte or more. -/
theorem exec_barRead (hb : s.barServed = true) (off : Nat) {len : Nat} (h0 : 0 < len) (data : List Byte) :
    exec (.bar0IllegalAccess false off len data) s = .next (s.barRead off len) := by
  change Host.Outcome.next _ = _
  rw [hb, if_neg (by decide), if_neg (by decide), if_neg (by omega)]

theorem exec_barWrite (hb : s.barServed = true) (off len : Nat) {data : List Byte} (h0 : 0 < data.length) :
    exec (.bar0IllegalAccess true off len data) s = .next (s.barWrite off data) := by
  have hne : data.isEmpty = false := by
    cases data with
    | nil => exact absurd h0 (by decide)
    | cons b bs => rfl
  change Host.Outcome.next _ = _
  rw [hb, if_neg (by decide), if_pos rfl, hne, if_neg (by decide)]

theorem barRead_across (off len : Nat) (data : List Byte) (hi : Inv s) (hb : s.barServed = true) (h0 : 0 < len) (h : inBlock off len = false) :
    ∃ u, exec (.bar0IllegalAccess false off len data) s = .next u ∧
      u.sent = .unsupported off :: s.sent ∧ (∀ o, o ≠ 4 → u.reg o = s.reg o) ∧ { u with regs := s.regs, sent := s.sent } = s ∧
      u.reg 4 = (if s.rbit 4 31 = true then s.reg 4 else BitVec.ofNat 32 (2 ^ 31 + 2 * 2 ^ 28 + off % 2 ^ 24)) := by
  refine ⟨(s.hubErr off 2 .host).send (.unsupported off), ?_, ?_⟩
  · rw [exec_barRead hb off h0, State.barRead, if_neg (by simp [h])]
  · unfold State.hubErr
    by_cases hv : s.rbit 4 31 = true
    · rw [if_pos hv, if_pos hv]
      exact ⟨rfl, fun _ _ => rfl, rfl, rfl⟩
    · rw [if_neg hv, if_neg hv]
      exact ⟨rfl, fun _ ho => reg_setReg_other s _ ho, rfl, reg_setReg_same hi 4 _⟩

theorem barRead_within (off len : Nat) (data : List Byte) (hb : s.barServed = true) (h0 : 0 < len) (h : off % 4 + len ≤ 4) :
    ∃ u, exec (.bar0IllegalAccess false off len data) s = .next u ∧
      ∃ s1 w, exec (.rcRead off) s = .next s1 ∧ s1.sent = .readData .host (off / 4 * 4) w :: s.sent ∧
        u = { s1 with sent := .readBytes off (((leBytes 4 w.toNat).drop (off % 4)).take len) :: s.sent } := by
  refine ⟨_, exec_barRead hb off h0 data, _, (s.readAt .host (off / 4 * 4)).1, exec_rcRead hb off, ?_, ?_⟩
  · rw [State.send_sent, readAt_sent]
  · rw [State.barRead, if_pos (inBlock_within h0 h), regsTouched_within h0 h]
    simp only [State.readWhole, List.append_nil, List.headD_cons, show off - off / 4 * 4 = off % 4 by omega]
    exact State.send_of_sent (readAt_sent s _) _

theorem barRead_both (off len : Nat) (data : List Byte) (hb : s.barServed = true) (hin : inBlock off len = true) (hlow : off % 8 < 4)
    (hup : 4 < off % 8 + len) :
    ∃ u, exec (.bar0IllegalAccess false off len data) s = .next u ∧
      ∃ s1 s2 w x, exec (.rcRead (off / 8 * 8)) s = .next s1 ∧ s1.sent = .readData .host (off / 8 * 8) w :: s.sent ∧
        exec (.rcRead (off / 8 * 8 + 4)) s1 = .next s2 ∧ s2.sent = .readData .host (off / 8 * 8 + 4) x :: s1.sent ∧
        u = { s2 with sent := .readBytes off (((leBytes 4 w.toNat ++ leBytes 4 x.toNat).drop (off % 8)).take len) :: s.sent } := by
  let low := s.readAt .host (off / 8 * 8)
  let up := low.2.readAt .host (off / 8 * 8 + 4)
  let s1 := low.2.send (.readData .host (off / 8 * 8) low.1)
  have hread1 : exec (.rcRead (off / 8 * 8)) s = .next s1 := by
    rw [exec_rcRead hb, show off / 8 * 8 / 4 * 4 = off / 8 * 8 by omega]
  have hread2 : exec (.rcRead (off / 8 * 8 + 4)) s1 =
      .next ((up.2.send (.readData .host (off / 8 * 8) low.1)).send (.readData .host (off / 8 * 8 + 4) up.1)) := by
    rw [exec_rcRead (show s1.barServed = true from (readAt_barServed s _).trans hb),
      show (off / 8 * 8 + 4) / 4 * 4 = off / 8 * 8 + 4 by omega, State.readAt_send]
  have hsent : up.2.sent = s.sent := (readAt_sent low.2 _).trans (readAt_sent s _)
  refine ⟨_, exec_barRead hb off (inBlock_iff.1 hin).1 data, s1, _, low.1, up.1, hread1, ?_, hread2, ?_, ?_⟩
  · exact congrArg _ (readAt_sent s _)
  · exact congrArg (fun l => _ :: _ :: l) (readAt_sent low.2 _)
  · rw [State.barRead, if_pos hin, regsTouched_both hlow hup]
    simp only [State.readWhole, List.append_nil, List.headD_cons, show off - off / 8 * 8 = off % 8 by omega]
    exact State.send_of_sent hsent _

/-! ### Writes of any width -/

theorem State.barWord_whole {data : List Byte} {r : Nat} (h : off ≤ r ∧ r + 4 ≤ off + data.length) :
    s.barWord off data r = s.writeReg r (BitVec.ofNat 32 (leNat ((data.drop (r - off)).take 4))) .host := if_pos h

/-- A register of which a write holds a part is left as it is, and the write recorded. -/
theorem State.barWord_part {data : List Byte} {r : Nat} (h : ¬(off ≤ r ∧ r + 4 ≤ off + data.length)) :
    s.barWord off data r = if (regRow r).isSome then s.hubErr r 2 .host else s := by
  rw [State.barWord, if_neg h]
  cases regRow r <;> rfl

theorem barWrite_whole (off len : Nat) (data : List Byte) (hb : s.barServed = true) (h4 : off % 4 = 0) (hlen : data.length = 4) :
    ∃ u, exec (.bar0IllegalAccess true off len data) s = .next u ∧ exec (.registerWrite off (BitVec.ofNat 32 (leNat data)) .host) s = .next u := by
  refine ⟨_, exec_barWrite hb off len (by omega), ?_⟩
  rw [exec_registerWrite_host h4, State.barWrite, if_pos (inBlock_within (by omega) (by omega)), regsTouched_within (by omega) (by omega),
    show off / 4 * 4 = off by omega, List.foldl_cons, List.foldl_nil, State.barWord_whole (by omega), Nat.sub_self, List.drop_zero,
    List.take_of_length_le (by omega)]

theorem barWrite_part (off len : Nat) (data : List Byte) (hb : s.barServed = true) (h0 : 0 < data.length) (hlt : data.length < 4)
    (h : off % 4 + data.length ≤ 4) :
    ∃ u, exec (.bar0IllegalAccess true off len data) s = .next u ∧
      u = (if (regRow (off / 4 * 4)).isSome then s.hubErr (off / 4 * 4) 2 .host else s) := by
  refine ⟨_, exec_barWrite hb off len h0, ?_⟩
  rw [State.barWrite, if_pos (inBlock_within h0 h), regsTouched_within h0 h, List.foldl_cons, List.foldl_nil, State.barWord_part (by omega)]

theorem barWrite_both (off len : Nat) (data : List Byte) (hb : s.barServed = true) (hlow : off % 8 < 4) (hup : 4 < off % 8 + data.length)
    (hend : off % 8 + data.length ≤ 8) :
    ∃ u, exec (.bar0IllegalAccess true off len data) s = .next u ∧
      ∃ s1, (if off % 8 = 0 then exec (.registerWrite off (BitVec.ofNat 32 (leNat (data.take 4))) .host) s = .next s1
          else s1 = (if (regRow (off / 8 * 8)).isSome then s.hubErr (off / 8 * 8) 2 .host else s)) ∧
        (if off % 8 + data.length = 8 then
            exec (.registerWrite (off / 8 * 8 + 4) (BitVec.ofNat 32 (leNat (data.drop (4 - off % 8)))) .host) s1 = .next u
          else u = (if (regRow (off / 8 * 8 + 4)).isSome then s1.hubErr (off / 8 * 8 + 4) 2 .host else s1)) := by
  have hwrite : s.barWrite off data = ((s.barWord off data (off / 8 * 8)).barWord off data (off / 8 * 8 + 4)) := by
    rw [State.barWrite, if_pos (inBlock_iff.2 ⟨by omega, hend⟩), regsTouched_both hlow hup, List.foldl_cons, List.foldl_cons, List.foldl_nil]
  refine ⟨_, exec_barWrite hb off len (by omega), s.barWord off data (off / 8 * 8), ?_, ?_⟩
  · split
    · next h8 =>
      rw [exec_registerWrite_host (by omega), show off / 8 * 8 = off by omega, State.barWord_whole (by omega), Nat.sub_self, List.drop_zero]
    · next h8 => exact State.barWord_part (by omega)
  · rw [hwrite]
    generalize State.barWord off data s (off / 8 * 8) = s1
    split
    · next h8 =>
      rw [exec_registerWrite_host (by omega), State.barWord_whole (by omega), show off / 8 * 8 + 4 - off = 4 - off % 8 by omega,
        List.take_of_length_le (by rw [List.length_drop]; omega)]
    · next h8 => exact State.barWord_part (by omega)

/-- A write that leaves its block is recorded if any of its bytes falls on a register (R566, R567). -/
theorem barWrite_across (off len : Nat) (data : List Byte) (hb : s.barServed = true) (h0 : 0 < data.length) (h : inBlock off data.length = false) :
    ∃ u, exec (.bar0IllegalAccess true off len data) s = .next u ∧
      u = (if (List.range (data.length / 4 + 2)).any (fun k => (regRow (off / 4 * 4 + 4 * k)).isSome && decide (off / 4 * 4 + 4 * k < off + data.length))
        then s.hubErr off 2 .host else s) := by
  have hnone : (List.range (data.length / 4 + 2)).all
      (fun k => (regRow (off / 4 * 4 + 4 * k)).isNone || decide (off + data.length ≤ off / 4 * 4 + 4 * k)) =
      !(List.range (data.length / 4 + 2)).any (fun k => (regRow (off / 4 * 4 + 4 * k)).isSome && decide (off / 4 * 4 + 4 * k < off + data.length)) := by
    rw [List.not_any_eq_all_not]
    congr 1
    funext k
    rw [Bool.not_and, Option.not_isSome, ← decide_not, decide_eq_decide.2 Nat.not_lt]
  refine ⟨_, exec_barWrite hb off len h0, ?_⟩
  rw [State.barWrite, if_neg (by simp [h]), hnone]
  cases List.any .. <;> rfl

theorem barAccess_nothing (write : Bool) (off len : Nat) (data : List Byte)
    (h : s.barServed = false ∨ (write = true ∧ data = []) ∨ (write = false ∧ len = 0)) :
    ∃ u, exec (.bar0IllegalAccess write off len data) s = .next u ∧ u = s := by
  refine ⟨_, rfl, ?_⟩
  obtain hb | ⟨rfl, rfl⟩ | ⟨rfl, rfl⟩ := h
  · rw [hb]
    rfl
  · exact ite_self s
  · exact ite_self s

/-! ### REGISTER_WRITE -/

theorem registerWrite_plain (off : Nat) (v : Word) (who : Reader) (r : RegRow) (hi : Inv s) (hr : s.reaches who off = true)
    (hm : who = .mgmt → s.mgtMay off v = true) (hw : s.boot.warm = false) (h4 : off % 4 = 0) (hb : off / 0x10000 ∈ [0x4, 0x7, 0xA, 0xB, 0xC])
    (hrow : regRow off = some r) (hopen : (s.reg off ^^^ v) &&& BitVec.ofNat 32 r.rwl = 0 ∨ s.rwlOpen off = true) :
    ∃ u, exec (.registerWrite off v who) s = .next u ∧ u.reg off = r.taken (s.reg off) v ∧
      (∀ o, o ≠ off → u.reg o = s.reg o) ∧ { u with regs := s.regs } = s.dropLatches off := by
  refine ⟨(s.dropLatches off).setReg off (r.taken (s.reg off) v), ?_, reg_setReg_same (dropLatches_inv hi off) off _,
    fun o ho => reg_setReg_other _ _ ho, rfl⟩
  rw [exec_registerWrite hr hm h4, State.writeReg_row (by rw [hrow]; rfl), State.onWrite_open _ (served_of_reaches hr) hw, State.applyWrite_plain hb hrow]
  exact congrArg _ (State.plainWrite_taken (dropLatches_inv hi off) hopen)

theorem registerWrite_locked (off : Nat) (v : Word) (who : Reader) (r : RegRow) (hr : s.reaches who off = true)
    (hm : who = .mgmt → s.mgtMay off v = true) (hw : s.boot.warm = false) (h4 : off % 4 = 0) (hb : off / 0x10000 ∈ [0x4, 0x7, 0xA, 0xB, 0xC])
    (hrow : regRow off = some r) (hlock : (s.reg off ^^^ v) &&& BitVec.ofNat 32 r.rwl ≠ 0) (hl : s.rwlOpen off = false) :
    ∃ u, exec (.registerWrite off v who) s = .next u ∧ u = (s.dropLatches off).locked off who := by
  refine ⟨_, exec_registerWrite hr hm h4, ?_⟩
  rw [State.writeReg_row (by rw [hrow]; rfl), State.onWrite_open _ (served_of_reaches hr) hw, State.applyWrite_plain hb hrow]
  exact State.plainWrite_locked hlock hl

theorem registerWrite_mgmt_refused (off : Nat) (v : Word) (h : s.reaches .mgmt off = false ∨ s.mgtMay off v = false) :
    ∃ u, exec (.registerWrite off v .mgmt) s = .next u ∧ u = s := by
  refine ⟨_, rfl, if_neg ?_⟩
  rw [Bool.and_eq_true]
  rintro ⟨hr, hm⟩
  rcases h with h | h
  · exact absurd hr (by simp [h])
  · exact absurd hm (by simp [h])

theorem registerWrite_host_unserved (off : Nat) (v : Word) (hb : s.barServed = false) :
    ∃ u, exec (.registerWrite off v .host) s = .next u ∧ u = s := by
  refine ⟨_, rfl, ?_⟩
  change (if off % 4 = 0 then s.writeReg off v .host else if s.barServed then s.barWrite off (leBytes 4 v.toNat) else s) = s
  rw [State.writeReg_unserved hb, hb]
  exact ite_self s

theorem registerWrite_warm (off : Nat) (v : Word) (who : Reader) (hr : s.reaches who off = true) (hm : who = .mgmt → s.mgtMay off v = true)
    (hw : s.boot.warm = true) (h4 : off % 4 = 0) (hlo : off ≠ 0x510) (hhi : off ≠ 0x514) (hrow : (regRow off).isSome = true) :
    ∃ u, exec (.registerWrite off v who) s = .next u ∧ u = s.locked off who := by
  refine ⟨_, exec_registerWrite hr hm h4, ?_⟩
  rw [State.writeReg_row hrow, State.onWrite_warm _ (served_of_reaches hr) hw hlo hhi]

theorem registerWrite_unaligned (off : Nat) (v : Word) (h4 : off % 4 ≠ 0) :
    ∃ u, exec (.registerWrite off v .host) s = .next u ∧ exec (.bar0IllegalAccess true off 4 (leBytes 4 v.toNat)) s = .next u := by
  refine ⟨if s.barServed then s.barWrite off (leBytes 4 v.toNat) else s, congrArg Host.Outcome.next (if_neg h4), ?_⟩
  cases hb : s.barServed with
  | true => exact exec_barWrite hb off 4 (Nat.succ_pos 3)
  | false => exact congrArg Host.Outcome.next (if_pos (by rw [hb]; rfl))

/-! ### HUB_ERR -/

theorem hubErrClear_clears (who : Reader) (hi : Inv s) (hb : who = .host → s.barServed = true) (hw : s.boot.warm = false) :
    ∃ u, exec (.hubErrClear who) s = .next u ∧ u.reg 4 = 0 ∧ (∀ o, o ≠ 4 → u.reg o = s.reg o) ∧ { u with regs := s.regs } = s.dropLatches 4 := by
  refine ⟨(s.dropLatches 4).setReg 4 0, congrArg Host.Outcome.next (State.onWrite_open _ hb hw), reg_setReg_same (dropLatches_inv hi 4) 4 0,
    fun o ho => reg_setReg_other _ _ ho, rfl⟩

theorem hubErrClear_unserved (hb : s.barServed = false) : ∃ u, exec (.hubErrClear .host) s = .next u ∧ u = s :=
  ⟨_, rfl, State.onWrite_unserved _ hb⟩

theorem hubErrClear_warm (who : Reader) (hb : who = .host → s.barServed = true) (hw : s.boot.warm = true) :
    ∃ u, exec (.hubErrClear who) s = .next u ∧ u = s.locked 4 who :=
  ⟨_, rfl, State.onWrite_warm _ hb hw (by decide) (by decide)⟩

/-- Settles O60: the gate of a write (`State.onWrite`), what each register's rule does, and the registers that an access touches, clause by clause. -/
theorem registerAccess : Obligations.RegisterAccess :=
  ⟨fun off v who r _ => registerWrite_plain off v who r,
   fun off v who r _ => registerWrite_locked off v who r,
   fun i _ _ _ => ownWrite_registerWrite i,
   fun off v _ => registerWrite_mgmt_refused off v,
   fun off v _ => registerWrite_host_unserved off v,
   fun off v who _ => registerWrite_warm off v who,
   fun off v _ => registerWrite_unaligned off v,
   fun off len data _ => barRead_across off len data,
   fun off len data _ => barRead_within off len data,
   fun off len data _ => barRead_both off len data,
   fun off len data _ => barWrite_whole off len data,
   fun off len data _ => barWrite_part off len data,
   fun off len data _ => barWrite_both off len data,
   fun off len data _ => barWrite_across off len data,
   fun write off len data _ => barAccess_nothing write off len data,
   fun who _ => hubErrClear_clears who,
   fun _ => hubErrClear_unserved,
   fun who _ => hubErrClear_warm who⟩

end Sys2Proof.Machine
end

section
/-! PROOFS. The Day Unit: what a change of its state, a choice of leader and parent, and INST_VALID leave of its count and of its registers. -/

namespace Sys2Proof.Machine

variable {o s t : State}

/-! ### Registers of the Day Unit's block -/

/-- The Day Unit's registers but DAY_EVT read the same before and after. -/
structure DayRegsKept (s t : State) : Prop where
  reads : ∀ x, x / 0x10000 = 1 → x ≠ 0x10034 → t.reg x = s.reg x

theorem DayRegsKept.refl (s : State) : DayRegsKept s s := ⟨fun _ _ _ => rfl⟩

theorem DayRegsKept.then (h' : DayRegsKept s t) (h : DayRegsKept o s) : DayRegsKept o t :=
  ⟨fun x hb he => (h'.reads x hb he).trans (h.reads x hb he)⟩

theorem DayRegsKept.ite {c : Prop} [Decidable c] {a b : State} (ha : DayRegsKept o a) (hb : DayRegsKept o b) : DayRegsKept o (if c then a else b) := by
  split <;> assumption

theorem DayRegsKept.foldl {α : Type} {f : State → α → State} (l : List α) (h : DayRegsKept o s) (hf : ∀ x a, DayRegsKept x (f x a)) :
    DayRegsKept o (l.foldl f s) := by
  induction l generalizing s with
  | nil => exact h
  | cons a l ih => exact ih ((hf s a).then h)

/-- What leaves every register leaves these. -/
theorem Moves.dayRegs {m : Nat} (h : Moves m s t) (hm : m.testBit 5 = false) : DayRegsKept s t :=
  ⟨fun x _ _ => congrArg (tabGet regDefault · x) (h.off .registers hm)⟩

theorem State.setReg_dayRegs (s : State) {off : Nat} (w : Word) (h : off / 0x10000 ≠ 1) : DayRegsKept s (s.setReg off w) :=
  ⟨fun _ hb _ => reg_setReg_other s w (fun e => h (e ▸ hb))⟩

theorem State.flag_dayRegs (s : State) {off : Nat} (bit source ctx detail : Nat) (h : off / 0x10000 ≠ 1 ∨ off = 0x10034) :
    DayRegsKept s (s.flag off bit source ctx detail) :=
  ⟨fun _ _ _ => reg_flag s off bit source ctx detail (by rintro rfl; omega) (by rintro rfl; omega) (by rintro rfl; omega)⟩

theorem State.flagOpen_dayRegs (s : State) {off : Nat} (bit source ctx : Nat) (h : off / 0x10000 ≠ 1 ∨ off = 0x10034) :
    DayRegsKept s (s.flagOpen off bit source ctx) :=
  ⟨fun _ _ _ => reg_flagOpen s off bit source ctx (by rintro rfl; omega) (by rintro rfl; omega) (by rintro rfl; omega)⟩

/-! ### What a message of this package leaves of them -/

theorem State.lnkCount_dayRegs (s : State) (p k n : Nat) : DayRegsKept s (s.lnkCount p k n) := s.setReg_dayRegs _ (by omega)

theorem State.giveCredit_dayRegs (s : State) (p cls : Nat) (dl : Bool) : DayRegsKept s (s.giveCredit p cls dl) := by
  unfold State.giveCredit State.sendIdle
  exact .ite (.ite ((State.lnkCount_dayRegs ..).then <| (State.send_moves ..).dayRegs rfl) (.refl _)) ((State.setPort_moves ..).dayRegs rfl)

theorem State.sendFlit_dayRegs (s : State) (p : Nat) (f : TxFlit) : DayRegsKept s (s.sendFlit p f) := by
  unfold State.sendFlit
  extract_lets q f' k un q' t
  have ht : DayRegsKept s t :=
    (State.lnkCount_dayRegs ..).then <| ((State.send_moves ..).dayRegs rfl).then <| (State.setPort_moves ..).dayRegs rfl
  exact .ite ((State.giveCredit_dayRegs ..).then ht) ht

theorem State.pump_dayRegs (p n : Nat) (s : State) : DayRegsKept s (s.pump p n) := by
  induction n generalizing s with
  | zero => exact .refl s
  | succ n ih =>
    unfold State.pump
    split
    · exact (ih _).then (State.sendFlit_dayRegs ..)
    · exact .refl s

theorem State.enqueue_dayRegs (s : State) (p : Nat) (fs : List TxFlit) : DayRegsKept s (s.enqueue p fs) :=
  (State.pump_dayRegs ..).then <| (State.setPort_moves ..).dayRegs rfl

theorem State.sendMsg_dayRegs (s : State) (m : Msg) : DayRegsKept s (s.sendMsg m) := by
  unfold State.sendMsg
  refine .ite ((State.setLnk_moves ..).dayRegs rfl) (.ite ?_ ?_)
  · extract_lets m' e t
    split
    · refine ((State.holdMsg_moves ..).dayRegs rfl).then ?_
      exact .ite ((State.flag_dayRegs _ _ _ _ _ (.inl (by decide))).then (State.lnkCount_dayRegs ..)) (.refl s)
    · exact .ite (((State.send_moves ..).dayRegs rfl).then <| (State.openMsg_moves ..).dayRegs rfl)
        ((State.enqueue_dayRegs ..).then <| (State.openMsg_moves ..).dayRegs rfl)
  · exact .ite ((State.enqueue_dayRegs ..).then <| (State.openMsg_moves ..).dayRegs rfl) (.refl s)

theorem State.validFell_dayRegs (s : State) : DayRegsKept s s.validFell := by
  unfold State.validFell State.suspectSelf
  refine .foldl _ (.refl s) fun x g => .ite ?_ (.refl x)
  unfold State.suspect
  split
  · exact State.sendMsg_dayRegs ..
  · exact .refl x

/-! ### INST_VALID, the state, leader and parent -/

/-- What of the Day Unit neither its state, nor INST_VALID, nor a choice of leader and parent speaks of: its count, its reference and its settings. -/
def DayUnit.core (d : DayUnit) : DayUnit :=
  { d with state := .free, instValid := false, leader := false, parent := 0, hops := 0, period := 0, rate := 0, corrLeft := 0, ownSkew := 0,
           leaderSkew := 0, leaderPos := none, leaderHeard := 0, ownLeader := false, holdDays := 0, holdMin := 0, third := 0, realign := false }

section

variable {d d' : DayUnit} (h : d'.core = d.core)

include h

theorem DayUnit.day_of_core : d'.day = d.day := (congrArg DayUnit.day h :)

theorem DayUnit.minute_of_core : d'.minute = d.minute := (congrArg DayUnit.minute h :)

theorem DayUnit.adopted_of_core : d'.adopted = d.adopted := (congrArg DayUnit.adopted h :)

theorem DayUnit.reference_of_core : d'.reference = d.reference := (congrArg DayUnit.reference h :)

theorem DayUnit.edges_of_core : d'.edges = d.edges := (congrArg DayUnit.edges h :)

theorem DayUnit.misses_of_core : d'.misses = d.misses := (congrArg DayUnit.misses h :)

theorem DayUnit.neighbours_of_core : d'.neighbours = d.neighbours := (congrArg DayUnit.neighbours h :)

theorem DayUnit.voteFail_of_core : d'.voteFail = d.voteFail := (congrArg DayUnit.voteFail h :)

theorem DayUnit.refLost_of_core : d'.refLost = d.refLost := (congrArg DayUnit.refLost h :)

end

/-- INST_VALID is all that a refresh of it changes of the Day Unit. -/
theorem State.refreshValid_day (s : State) : ∃ v, s.refreshValid.day = { s.day with instValid := v } := by
  unfold State.refreshValid
  extract_lets d counts v t
  refine ⟨v, ?_⟩
  split
  · rw [State.validFell_day, State.setDay_day]
  · rfl

theorem State.refreshValid_dayRegs (s : State) : DayRegsKept s s.refreshValid := by
  unfold State.refreshValid
  exact .ite ((State.validFell_dayRegs _).then <| (State.setDay_moves ..).dayRegs rfl) ((State.setDay_moves ..).dayRegs rfl)

/-- What a change of state leaves of the Day Unit, and what it makes of the state and of the Day length: HOLDOVER with a limit of 0 is EXPIRED (R49). -/
structure StateChange (x : DayState) (d d' : DayUnit) : Prop where
  core : d'.core = d.core
  state : d'.state = x ∨ x = .holdover ∧ d'.state = .expired
  period : x ≠ .free → x ≠ .acquire → d'.period = d.period
  parent : d'.parent = d.parent

theorem State.setDayState_day (s : State) (x : DayState) : StateChange x s.day (s.setDayState x).day := by
  unfold State.setDayState
  extract_lets d t leaves d' t1 t2
  split
  · next h => exact ⟨rfl, .inl h, fun _ _ => rfl, rfl⟩
  · split
    · next h =>
      obtain ⟨v, hv⟩ := t.refreshValid_day
      have ht : t.day = { d with state := .expired, rate := 0 } := by simp [t]
      rw [hv, ht]
      exact ⟨rfl, .inr ⟨h.1, rfl⟩, fun _ _ => rfl, rfl⟩
    · obtain ⟨v, hv⟩ := t2.refreshValid_day
      have ht : t2.day = d' := by
        have : t1.day = d' := State.flagOpen_day ..
        unfold t2
        split
        · rw [State.flagOpen_day, this]
        · exact this
      rw [hv, ht]
      exact ⟨rfl, .inl rfl, fun hf ha => if_neg (by simp [hf, ha]), rfl⟩

theorem State.setDayState_dayRegs (s : State) (x : DayState) : DayRegsKept s (s.setDayState x) := by
  unfold State.setDayState
  refine .ite (.refl s) (.ite ?_ ?_)
  · refine (State.refreshValid_dayRegs _).then <| (State.flagOpen_dayRegs _ _ _ _ (.inr rfl)).then <| (State.flagOpen_dayRegs _ _ _ _ (.inr rfl)).then ?_
    exact (State.setDay_moves ..).dayRegs rfl
  · refine (State.refreshValid_dayRegs _).then ?_
    have h : ∀ d : DayUnit, DayRegsKept s ((s.setDay d).flagOpen 0x10034 0 2 noCtx) := fun d =>
      (State.flagOpen_dayRegs _ _ _ _ (.inr rfl)).then <| (State.setDay_moves ..).dayRegs rfl
    exact .ite ((State.flagOpen_dayRegs _ _ _ _ (.inr rfl)).then (h _)) (h _)

/-- What a choice of leader and parent leaves of the Day Unit: only a package in FOLLOW changes its state by it, for HOLDOVER or EXPIRED (R53). -/
structure Elected (d d' : DayUnit) : Prop where
  core : d'.core = d.core
  state : d'.state = d.state ∨ d.state = .follow ∧ (d'.state = .holdover ∨ d'.state = .expired)
  period : d'.period = d.period

theorem State.settleDay_day (s : State) : Elected s.day s.settleDay.day := by
  unfold State.settleDay
  split
  · next h =>
    obtain ⟨hcore, hstate, hperiod, -⟩ := s.setDayState_day .holdover
    exact ⟨hcore, .inr ⟨h.1, hstate.imp_right And.right⟩, hperiod (by decide) (by decide)⟩
  · exact ⟨rfl, .inl rfl, rfl⟩

theorem State.elect_day (s : State) : Elected s.day s.elect.day := by
  unfold State.elect
  extract_lets d own heard alone leads isLead lead p hops who takesOver s1 s2 s3
  split
  · exact ⟨rfl, .inl rfl, rfl⟩
  · have h2 : s2.day = s1.day := by
      unfold s2; split
      · exact State.flagOpen_day ..
      · rfl
    have h3 : s3.day = s1.day := by
      rw [← h2]; unfold s3; split
      · exact State.flagOpen_day ..
      · rfl
    have hs := s3.settleDay_day
    rw [h3] at hs
    exact ⟨hs.core, hs.state, hs.period⟩

theorem State.elect_dayRegs (s : State) : DayRegsKept s s.elect := by
  unfold State.elect
  extract_lets d own heard alone leads isLead lead p hops who takesOver s1 s2 s3
  have h1 : DayRegsKept s s1 := (State.setDay_moves ..).dayRegs rfl
  have h2 : DayRegsKept s s2 := .ite ((State.flagOpen_dayRegs _ _ _ _ (.inr rfl)).then h1) h1
  have h3 : DayRegsKept s s3 := .ite ((State.flagOpen_dayRegs _ _ _ _ (.inr rfl)).then h2) h2
  unfold State.settleDay
  exact .ite (.refl s) (.ite ((State.setDayState_dayRegs ..).then h3) h3)

end Sys2Proof.Machine
end

section
/-! PROOFS. The reference PHREF: accepted edges, glitches and missed cycles, and the statement on them (O8). -/

namespace Sys2Proof.Machine

variable {s : State}

/-- After a loss of PHREF a unit in LOCKED is in another state (R53). -/
structure PhrefLost (d d' : DayUnit) : Prop where
  core : d'.core = d.core
  state : d.state = .locked → d'.state ≠ .locked

theorem State.losePhref_day (s : State) : PhrefLost s.day s.losePhref.day := by
  unfold State.losePhref
  split
  · generalize hx : (if s.day.parent ≠ 0 then DayState.follow else .holdover) = x
    have hne : x ≠ .locked := by rw [← hx]; split <;> decide
    obtain ⟨hcore, hstate, -, -⟩ := s.setDayState_day x
    obtain ⟨ecore, estate, -⟩ := (s.setDayState x).elect_day
    refine ⟨ecore.trans hcore, fun _ => ?_⟩
    rcases estate with h | ⟨-, h | h⟩ <;> rw [h]
    · rcases hstate with h | ⟨-, h⟩ <;> rw [h]
      · exact hne
      · decide
    all_goals decide
  · next h => exact ⟨rfl, fun hl => absurd hl h⟩

theorem State.enterLocked_core (s : State) (mean : Nat) : (s.enterLocked mean).day.core = s.day.core := by
  unfold State.enterLocked
  extract_lets d t
  have ht : t.day.core = s.day.core := ((State.elect_day _).core).trans ((State.setDayState_day _ _).core)
  obtain ⟨v, hv⟩ := (t.setDay { t.day with realign := t.day.realign && !(t.day.leader || t.day.ownLeader) }).refreshValid_day
  rw [hv]
  exact ht

/-- An accepted edge becomes the reference, ends a run of misses and joins the last 17 (R32, R35). -/
theorem State.acceptEdge_core (s : State) (t : Nat) : ∃ ps, (s.acceptEdge t).day.core =
    { s.day with reference := some (t : Int), edges := ((t : Int) :: s.day.edges).take 17, periods := ps, misses := 0 }.core := by
  unfold State.acceptEdge
  extract_lets d edges periods u
  refine ⟨periods, ?_⟩
  split
  · split
    · rw [(State.losePhref_day _).core, State.flagOpen_day]; rfl
    · rfl
  · split
    · split
      · rfl
      · exact State.enterLocked_core ..
    · rfl

theorem phrefEdge_accepted (t : Nat) (hl : s.day.refLost = false)
    (h : ∀ r, s.day.reference = some r → (s.day.period : Int) ≤ ((t : Int) - r) * 256) :
    exec (.phrefEdge t) s = .next ((s.reachClk t).acceptEdge t) := by
  show execPhrefEdge t s = _
  unfold execPhrefEdge
  cases hr : s.day.reference with
  | none => simp [hl, hr]
  | some r =>
    have hlate : ¬((t : Int) - r) * 256 < (s.day.period : Int) := by have := h r hr; omega
    simp [hl, hr, hlate]

theorem phrefEdge_reference (t : Nat) (s : State) (hl : s.day.refLost = false)
    (h : ∀ r, s.day.reference = some r → (s.day.period : Int) ≤ ((t : Int) - r) * 256) :
    ∃ u, exec (.phrefEdge t) s = .next u ∧ u.day.reference = some (t : Int) ∧ u.day.misses = 0 ∧ u.day.edges = ((t : Int) :: s.day.edges).take 17 := by
  obtain ⟨ps, hu⟩ := (s.reachClk t).acceptEdge_core t
  exact ⟨_, phrefEdge_accepted t hl h, congrArg DayUnit.reference hu, congrArg DayUnit.misses hu, congrArg DayUnit.edges hu⟩

theorem phrefEdge_glitch (t : Nat) (s : State) (r : Int) (hi : Inv s) (hl : s.day.refLost = false) (hr : s.day.reference = some r)
    (h : ((t : Int) - r) * 256 < s.day.period) :
    ∃ u, exec (.phrefEdge t) s = .next u ∧ u.day = s.day ∧ (u.reg 0x10038).toNat = min 65535 ((s.reg 0x10038).toNat + 1) := by
  have hexec : exec (.phrefEdge t) s = .next (((s.reachClk t).bump 0x10038 16 1).flagOpen 0x10034 1 2 noCtx) := by
    show execPhrefEdge t s = _
    simp [execPhrefEdge, hl, hr, h]
  refine ⟨_, hexec, by simp, ?_⟩
  rw [reg_flagOpen _ _ _ _ _ (by decide) (by decide) (by decide), State.bump, reg_setReg_same ((State.reachClk_moves ..).inv hi)]
  show (BitVec.ofNat 32 (min (2 ^ 16 - 1) ((s.reg 0x10038).toNat + 1))).toNat = _
  rw [BitVec.toNat_ofNat]
  omega

/-- A cycle counted missed: its predicted edge is the reference, and the edges start afresh (R32). -/
def State.missCycle (s : State) (r : Int) : State :=
  (s.setDay { s.day with reference := some (r + (s.day.period / 128 : Nat)), edges := [], misses := s.day.misses + 1 }).bump 0x1003C 16 1

theorem exec_phrefMissedCycle (t : Nat) (r : Int) (hl : s.day.refLost = false) (hr : s.day.reference = some r) :
    exec (.phrefMissedCycle t) s = .next (if ((t : Int) - r) * 512 < 5 * s.day.period then s.reachClk t
      else if 4 ≤ s.day.misses + 1 then ((s.reachClk t).missCycle r).losePhref else (s.reachClk t).missCycle r) := by
  have hlost : ¬(s.reachClk t).day.refLost = true := by simp [hl]
  have href : (s.reachClk t).day.reference = some r := hr
  show execPhrefMissedCycle t s = _
  simp only [execPhrefMissedCycle, if_neg hlost, href]
  rfl

theorem phrefMissedCycle_counted (t : Nat) (s : State) (r : Int) (hl : s.day.refLost = false) (hr : s.day.reference = some r)
    (h : 5 * (s.day.period : Int) ≤ ((t : Int) - r) * 512) :
    ∃ u, exec (.phrefMissedCycle t) s = .next u ∧ u.day.reference = some (r + (s.day.period / 128 : Nat)) ∧
      u.day.misses = s.day.misses + 1 ∧ u.day.edges = [] ∧
      (s.day.misses < 3 → u.day.state = s.day.state) ∧ (s.day.state = .locked → 3 ≤ s.day.misses → u.day.state ≠ .locked) := by
  refine ⟨_, exec_phrefMissedCycle t r hl hr, ?_⟩
  rw [if_neg (by omega)]
  obtain ⟨hcore, hstate⟩ := ((s.reachClk t).missCycle r).losePhref_day
  split
  · exact ⟨congrArg DayUnit.reference hcore, congrArg DayUnit.misses hcore, congrArg DayUnit.edges hcore, fun _ => by omega, fun hk _ => hstate hk⟩
  · exact ⟨rfl, rfl, rfl, fun _ => rfl, fun _ _ => by omega⟩

theorem phrefMissedCycle_early (t : Nat) (s : State) (r : Int) (hl : s.day.refLost = false) (hr : s.day.reference = some r)
    (h : ((t : Int) - r) * 512 < 5 * (s.day.period : Int)) : ∃ u, exec (.phrefMissedCycle t) s = .next u ∧ u.day = s.day :=
  ⟨_, exec_phrefMissedCycle t r hl hr, by rw [if_pos h]; rfl⟩

/-- After a loss of the board reference both commands only let the clock come to the tick (R50). -/
theorem phref_refLost (t : Nat) (s : State) (hl : s.day.refLost = true) :
    exec (.phrefEdge t) s = .next (s.reachClk t) ∧ exec (.phrefMissedCycle t) s = .next (s.reachClk t) :=
  ⟨congrArg Host.Outcome.next (if_pos hl), congrArg Host.Outcome.next (if_pos hl)⟩

/-- Settles O8: an edge or a missed cycle moves the reference, and what follows of it for state and leader leaves the reference alone. -/
theorem phrefCommands : Obligations.PhrefCommands :=
  ⟨fun t s hl h => phrefEdge_reference t s hl h, fun t s r hi hl hr h => phrefEdge_glitch t s r hi hl hr h,
   fun t s r hl hr h => phrefMissedCycle_counted t s r hl hr h, fun t s r hl hr h => phrefMissedCycle_early t s r hl hr h,
   fun t s hl => ⟨⟨_, (phref_refLost t s hl).1, rfl⟩, _, (phref_refLost t s hl).2, rfl⟩⟩

end Sys2Proof.Machine
end

section
/-! PROOFS. CRC failures of the bridges' Minute: the scheduler's and the strobe's frames do not count any. -/

namespace Sys2Proof.Machine

variable {o s t : State}

/-- The CRC failures of this Minute in the two directions of a bridge (R84). -/
def Bank.crcs (b : Bank) : Nat × Nat := (b.h2b.crcMinute, b.b2h.crcMinute)

/-- No bridge counted a CRC failure between two states. -/
structure CrcKept (s t : State) : Prop where
  keeps : tabWf (fun _ => Bank.reset) s.banks = true → tabWf (fun _ => Bank.reset) t.banks = true ∧ ∀ n, (t.bank n).crcs = (s.bank n).crcs

theorem CrcKept.refl (s : State) : CrcKept s s := ⟨fun h => ⟨h, fun _ => rfl⟩⟩

theorem CrcKept.then (h' : CrcKept s t) (h : CrcKept o s) : CrcKept o t := ⟨fun w =>
  have hs := h.keeps w
  have ht := h'.keeps hs.1
  ⟨ht.1, fun n => (ht.2 n).trans (hs.2 n)⟩⟩

theorem CrcKept.ite {c : Prop} [Decidable c] {a b : State} (ha : CrcKept o a) (hb : CrcKept o b) : CrcKept o (if c then a else b) := by
  split <;> assumption

theorem CrcKept.foldl {α : Type} {f : State → α → State} (l : List α) (h : CrcKept o s) (hf : ∀ x a, CrcKept x (f x a)) : CrcKept o (l.foldl f s) := by
  induction l generalizing s with
  | nil => exact h
  | cons a l ih => exact ih ((hf s a).then h)

/-- What leaves the bank dies counts nothing. -/
theorem Moves.crcs {m : Nat} (h : Moves m s t) (hm : m.testBit 10 = false) : CrcKept s t := by
  have hb : t.banks = s.banks := h.off .banks hm
  exact ⟨fun w => ⟨hb ▸ w, fun n => by rw [State.bank, hb]; rfl⟩⟩

theorem State.bank_setBank_same (h : tabWf (fun _ => Bank.reset) s.banks = true) (n : Nat) (b : Bank) : (s.setBank n b).bank n = b :=
  tabGet_tabSet_same _ s.banks n b h

theorem State.bank_setBank_other (s : State) {n m : Nat} (b : Bank) (h : m ≠ n) : (s.setBank n b).bank m = s.bank m :=
  tabGet_tabSet_other _ s.banks n m b h

theorem State.setBank_crcs (s : State) (n : Nat) (b : Bank) (hb : b.crcs = (s.bank n).crcs) : CrcKept s (s.setBank n b) :=
  ⟨fun w => ⟨tabWf_tabSet _ _ _ _ w, fun m => by
    by_cases h : m = n
    · subst h; rw [State.bank_setBank_same w, hb]
    · rw [State.bank_setBank_other s b h]⟩⟩

theorem BridgeDir.owes_crcMinute (d : BridgeDir) : d.owes.2.crcMinute = d.crcMinute := by
  unfold BridgeDir.owes
  split <;> rfl

theorem BridgeDir.pick_crcMinute (k : Nat) (d : BridgeDir) : (d.pick k).2.crcMinute = d.crcMinute := by
  induction k generalizing d with
  | zero => rfl
  | succ k ih =>
    unfold BridgeDir.pick
    split
    · rfl
    · split
      · rfl
      · exact ih _

/-- A direction changed within its own count of failures. -/
theorem Bank.setDir_crcs (b : Bank) (toBank : Bool) (d : BridgeDir) (h : d.crcMinute = (b.dir toBank).crcMinute) : (b.setDir toBank d).crcs = b.crcs := by
  cases toBank
  · exact congrArg (Prod.mk _) h
  · exact congrArg (Prod.mk · _) h

theorem Bank.dir_setDir_not (b : Bank) (toBank : Bool) (d : BridgeDir) : (b.setDir (!toBank) d).dir toBank = b.dir toBank := by cases toBank <;> rfl

theorem State.sendFrame_crcs (s : State) (n : Nat) (toBank : Bool) (ack : Nat × Nat) : CrcKept s (s.sendFrame n toBank ack) := by
  unfold State.sendFrame
  extract_lets b
  split
  · exact .refl s
  · obtain ⟨c0, back0, h0⟩ : ∃ c x, (b.dir !toBank).owes = (c, x) := ⟨_, _, rfl⟩
    obtain ⟨c1, back, h1⟩ : ∃ c x, back0.owes = (c, x) := ⟨_, _, rfl⟩
    have hback : back.crcMinute = (b.dir !toBank).crcMinute := by
      have := back0.owes_crcMinute
      have := (b.dir !toBank).owes_crcMinute
      simp_all
    have hb : (b.setDir (!toBank) back).crcs = b.crcs := b.setDir_crcs _ _ hback
    have hsent : (if (b.dir toBank).unacked.length < 256 then (b.dir toBank).pick 8 else ([], b.dir toBank)).2.crcMinute = (b.dir toBank).crcMinute := by
      split
      · exact BridgeDir.pick_crcMinute ..
      · rfl
    rw [h0]
    simp only [h1]
    generalize (if (b.dir toBank).unacked.length < 256 then (b.dir toBank).pick 8 else ([], b.dir toBank)) = p at hsent ⊢
    refine .ite (((State.send_moves ..).crcs rfl).then <| s.setBank_crcs _ _ hb) ?_
    refine ((State.send_moves ..).crcs rfl).then <| s.setBank_crcs _ _ ((Bank.setDir_crcs _ _ _ ?_).trans hb)
    rw [Bank.dir_setDir_not]
    exact hsent

theorem State.bridgeRun_crcs (n : Nat) (toBank : Bool) (k : Nat) (s : State) : CrcKept s (s.bridgeRun n toBank k) := by
  induction k generalizing s with
  | zero => exact .refl s
  | succ k ih =>
    unfold State.bridgeRun
    exact .ite ((ih _).then (State.sendFrame_crcs ..)) (.refl s)

theorem State.bridgePut_crcs (s : State) (n : Nat) (toBank : Bool) (vc : Nat) (slots : List (List Byte)) : CrcKept s (s.bridgePut n toBank vc slots) :=
  (State.bridgeRun_crcs ..).then <| s.setBank_crcs _ _ (Bank.setDir_crcs _ _ _ rfl)

theorem State.issue_crcs (s : State) (c idx gi : Nat) (g : Group) (p : Nat) : CrcKept s (s.issue c idx gi g p) := by
  unfold State.issue
  split
  · exact .refl s
  · extract_lets sat e g' waited s1 s2 s3 s4 s5
    have h2 : CrcKept s s2 := (State.bridgePut_crcs ..).then <| (State.setJob_moves ..).crcs rfl
    have h4 : CrcKept s s4 := ((State.bump64_moves ..).crcs rfl).then <| ((State.reserve_moves ..).crcs rfl).then <|
      ((State.setOccupant_moves ..).crcs rfl).then h2
    have h5 : CrcKept s s5 := by
      unfold s5
      split
      · exact .ite h4 (((State.bump_moves ..).crcs rfl).then h4)
      · exact h4
    exact ((State.fillStore_moves ..).crcs rfl).then h5

theorem State.decideFor_crcs (s : State) (left : Option Nat) (p : Nat) : CrcKept s (s.decideFor left p) := by
  unfold State.decideFor
  refine .ite (.refl s) ?_
  extract_lets ready fits u shared
  have hu : CrcKept s u := .foldl _ (.refl s) fun _ _ => (State.noteDeferral_moves ..).crcs rfl
  split
  · exact ((State.tryBallast_moves ..).crcs rfl).then <| .ite hu (((State.setFld_moves ..).crcs rfl).then hu)
  · refine (State.issue_crcs ..).then ?_
    split
    · exact .ite (((State.bump_moves ..).crcs rfl).then hu) hu
    · exact hu

theorem State.schedule_crcs (s : State) (left : Option (Nat × Nat)) : CrcKept s (s.schedule left) := by
  unfold State.schedule
  refine ((State.noteIdle_moves _).crcs rfl).then <| .foldl _ ?_ fun _ _ => State.decideFor_crcs ..
  exact ((State.setWork_moves ..).crcs rfl).then <| ((State.markReady_moves ..).crcs rfl).then <| ((State.trimBallast_moves ..).crcs rfl).then <|
    (State.rebase_moves ..).crcs rfl

theorem State.strobeDecision_crcs (s : State) : CrcKept s s.strobeDecision := by
  unfold State.strobeDecision
  have h : CrcKept s (ctxRange.foldl State.noteReady s) := .foldl _ (.refl s) fun _ _ => (State.noteReady_moves ..).crcs rfl
  refine .ite (((State.noteIdle_moves _).crcs rfl).then h) ((State.schedule_crcs ..).then <| .foldl _ h fun _ _ => (State.due_moves ..).crcs rfl)

/-- Bank dies changed one after another by `f`: those named read as `f` says, once. -/
theorem State.crcs_newMinute (l : List Nat) (s : State) (w : tabWf (fun _ => Bank.reset) s.banks = true) :
    tabWf (fun _ => Bank.reset) (l.foldl (fun s n => s.setBank n (s.bank n).newMinute) s).banks = true ∧
      ∀ n, n ∈ l ∨ (s.bank n).crcs = (0, 0) → ((l.foldl (fun s n => s.setBank n (s.bank n).newMinute) s).bank n).crcs = (0, 0) := by
  induction l generalizing s with
  | nil => exact ⟨w, fun n h => h.resolve_left List.not_mem_nil⟩
  | cons m l ih =>
    obtain ⟨hw, hz⟩ := ih (s.setBank m (s.bank m).newMinute) (tabWf_tabSet _ _ _ _ w)
    refine ⟨hw, fun n hn => hz n ?_⟩
    by_cases hm : n = m
    · subst hm
      exact .inr (by rw [State.bank_setBank_same w]; rfl)
    · rw [State.bank_setBank_other s _ hm]
      exact hn.imp_left fun h => (List.mem_cons.1 h).resolve_left hm

end Sys2Proof.Machine
end

section
/-! PROOFS. Boundaries of Days and Minutes, the ends of HOLDOVER and ACQUIRE, a silent leader, and the statement on them (O9). -/

namespace Sys2Proof.Machine

variable {s : State}

/-- The place of the Day under way and the length applied to it are not the average's. -/
theorem DayUnit.takeSkew_place (d : DayUnit) : d.takeSkew.acc = d.acc ∧ d.takeSkew.pd = d.pd ∧ d.takeSkew.day = d.day := by
  unfold DayUnit.takeSkew
  split <;> exact ⟨rfl, rfl, rfl⟩

/-- The Day after the one under way, at the tick where R33 places it. -/
theorem State.endDay_count (s : State) : s.endDay.day.day = (s.day.day + 1) % 2 ^ 48 ∧ s.endDay.day.minute = 0 ∧ s.endDay.day.strobed = false ∧
    s.endDay.day.dayStart = s.day.nextDayStart ∧ s.endDay.day.acc = (s.day.acc + s.day.pd) % 128 := by
  obtain ⟨hacc, hpd, hday⟩ := s.day.takeSkew_place
  unfold State.endDay
  extract_lets d start counts third takesOfs
  split
  extract_lets period corr d2 s1 s2 s3
  have h2 : s2.day = d2 := by
    unfold s2
    split
    · exact State.flagOpen_day ..
    · rfl
  have h3 : s3.day = d2 := by
    unfold s3
    split
    · rw [State.flagOpen_day, h2]
    · exact h2
  obtain ⟨v, hv⟩ := s3.refreshValid_day
  rw [hv, h3]
  exact ⟨by rw [← hday], rfl, rfl, rfl, by rw [← hacc, ← hpd]⟩

/-- The strobe of a Minute that follows in the Day (R44). -/
theorem minuteStrobe_next (s : State) (hi : Inv s) (h : ¬(s.day.strobed = true ∧ s.day.minute = 1439)) :
    ∃ u, exec .minuteStrobe s = .next u ∧ u.day.minute = (if s.day.strobed then s.day.minute + 1 else s.day.minute) ∧ u.day.strobed = true ∧
      u.day.day = s.day.day ∧ (∀ d ∈ s.day.due, d ∈ u.day.due) ∧
      .strobe u.day.day u.day.minute (u.localMin / 1440) u.localMinute ∈ u.sent ∧
      ∀ n < 4, (u.bank n).h2b.crcMinute = 0 ∧ (u.bank n).b2h.crcMinute = 0 := by
  show ∃ u, execMinuteStrobe s = .next u ∧ _
  unfold execMinuteStrobe
  rw [if_neg h]
  extract_lets m d0 s1 s2 s3 s4 s5 s6 d6 s7
  have hbanks : Moves 0x400 s2 s3 := .foldl (s := s2) _ (.refl ..) fun _ _ hx => .then (State.setBank_moves ..) rfl hx
  have hports : Moves 0x400000 s3 s4 := .foldl (s := s3) _ (.refl ..) fun _ _ hx => .then (State.setPort_moves ..) rfl hx
  have hctl : Moves 0x408 s5 s6 := .foldl (s := s5) _ (.refl ..) fun _ _ hx => .ite (.then (State.sendCtl_moves ..) rfl hx) hx
  have hdec : Moves 0x108142C s7 s7.strobeDecision := s7.strobeDecision_moves
  have hlast : CrcKept s3 s7.strobeDecision := (State.strobeDecision_crcs _).then <| ((State.setDay_moves ..).crcs rfl).then <|
    (CrcKept.foldl _ (.refl s5) fun _ _ => .ite (State.bridgePut_crcs ..) (.refl _)).then <|
    ((State.send_moves ..).crcs rfl).then <| hports.crcs rfl
  obtain ⟨hw3, hz3⟩ : tabWf (fun _ => Bank.reset) s3.banks = true ∧ ∀ n, n ∈ List.range 4 ∨ (s2.bank n).crcs = (0, 0) → (s3.bank n).crcs = (0, 0) :=
    State.crcs_newMinute (List.range 4) s2 hi.tables.1
  have hday2 : s2.day = { s.day with minute := m, strobed := true } := rfl
  clear_value s2 s3 s4
  have hday4 : s4.day = { s.day with minute := m, strobed := true } := (hports.off .day rfl).trans ((hbanks.off .day rfl).trans hday2)
  have hday5 : s5.day = s4.day := rfl
  have hstrobe : .strobe s4.day.day s4.day.minute (s4.localMin / 1440) s4.localMinute ∈ s5.sent := List.mem_cons_self
  clear_value s5 s6
  have hday6 : s6.day = { s.day with minute := m, strobed := true } := (hctl.off .day rfl).trans (hday5.trans hday4)
  have hday7 : s7.strobeDecision.day = { s6.day with due := s6.day.due ++ s6.dueNow.filter (fun e => !s6.day.due.contains e), evePassed := false } :=
    hdec.off .day rfl
  have hsent : s6.sent <:+ s7.strobeDecision.sent := hdec.sent
  clear_value s7
  rw [hday6] at hday7
  refine ⟨_, rfl, by rw [hday7], by rw [hday7], by rw [hday7], fun d hd => ?_, ?_, fun n hn => ?_⟩
  · rw [hday7]
    exact List.mem_append_left _ hd
  · have hlocal : ∀ x : State, x.localMin = x.day.day * 1440 + x.day.minute + x.day.hourOfs * 60 := fun _ => rfl
    rw [State.localMinute, hlocal, hday4] at hstrobe
    rw [State.localMinute, hlocal, hday7]
    exact hsent.subset (hctl.sent.subset hstrobe)
  · have hz : (s7.strobeDecision.bank n).crcs = (0, 0) := ((hlast.keeps hw3).2 n).trans (hz3 n (.inl (List.mem_range.2 hn)))
    exact Prod.mk.inj hz

theorem holdoverExpiry_expires (s : State) (hs : s.day.state = .holdover)
    (h : s.fld 0x10024 0 16 * 1440 = s.day.heldFor ∨ s.fld 0x10024 0 16 * 1440 < s.day.heldFor ∧ s.day.minute = 0) :
    ∃ u, exec .holdoverExpiry s = .next u ∧ u.day.state = .expired ∧ u.day.day = s.day.day ∧ u.day.minute = s.day.minute := by
  obtain ⟨hcore, hstate, -, -⟩ := s.setDayState_day .expired
  exact ⟨_, congrArg Host.Outcome.next (if_pos ⟨hs, h⟩), hstate.elim id And.right, DayUnit.day_of_core hcore, DayUnit.minute_of_core hcore⟩

theorem holdoverExpiry_waits (s : State) (h : s.day.state ≠ .holdover ∨ s.day.heldFor < s.fld 0x10024 0 16 * 1440) :
    ∃ u, exec .holdoverExpiry s = .next u ∧ u = s :=
  ⟨_, congrArg Host.Outcome.next (if_neg fun ⟨hs, ht⟩ => by
    rcases h with h | h
    · exact h hs
    · omega), rfl⟩

theorem acquireTimeout_ends (s : State) (hs : s.day.state = .acquire) :
    ∃ u, exec .acquireTimeout s = .next u ∧ (s.day.parent = 0 → u.day.state = .free) ∧ (s.day.parent ≠ 0 → u.day.state = .follow) := by
  have hstate : ∀ (x : State) (y : DayState), y ≠ .holdover → (x.setDayState y).day.state = y := fun x y hy =>
    (x.setDayState_day y).state.resolve_right fun h => hy h.1
  refine ⟨_, congrArg Host.Outcome.next (if_pos hs), fun hp => ?_, fun hp => ?_⟩
  · exact (hstate _ _ (by split <;> decide)).trans (if_neg (not_not_intro hp))
  · exact (hstate _ _ (by split <;> decide)).trans (if_pos hp)

theorem leaderTimeout_keeps (s : State) : ∃ u, exec .leaderTimeout s = .next u ∧ ∀ e ∈ u.day.neighbours, e ∈ s.day.neighbours ∧
    ∀ n, e.2 = some n → some n.leader ≠ s.day.leaderPos ∨ s.absMin < n.heard + 120 := by
  refine ⟨_, rfl, fun e he => ?_⟩
  rw [DayUnit.neighbours_of_core (State.elect_day _).core] at he
  obtain ⟨hmem, hkeep⟩ := List.mem_filter.1 he
  refine ⟨hmem, fun n hn => ?_⟩
  rw [hn] at hkeep
  simpa using hkeep

/-- Settles O9: each clause is what the command does in the state that the clause describes. -/
theorem dayAndMinuteStarts : Obligations.DayAndMinuteStarts :=
  ⟨fun s hst hm => ⟨_, congrArg Host.Outcome.next (if_pos ⟨hst, hm⟩), s.endDay_count⟩,
   fun _ h => ⟨_, congrArg Host.Outcome.next (if_neg h), rfl⟩,
   fun s hi h => minuteStrobe_next s hi h,
   fun _ hst hm => ⟨_, if_pos ⟨hst, hm⟩, rfl⟩,
   fun s hs h => holdoverExpiry_expires s hs h, fun s h => holdoverExpiry_waits s h,
   fun s hs => acquireTimeout_ends s hs, fun _ hs => ⟨_, congrArg Host.Outcome.next (if_neg hs), rfl⟩,
   fun s => leaderTimeout_keeps s⟩

end Sys2Proof.Machine
end

section
/-! PROOFS. The Day's position as a reader sees it: the statement on DAY_NOW (O13). -/

namespace Sys2Proof.Machine

variable {s w : State}

/-- DAY_NOW_LO shows the Day count of installation time (R45). -/
theorem State.liveReg_dayNowLo (s : State) : s.liveReg 0x10008 = BitVec.ofNat 32 s.day.day := by
  show BitVec.ofNat 32 (s.day.day % 2 ^ 32) = _
  exact BitVec.eq_of_toNat_eq (by simp)

/-- A read of DAY_NOW_LO that finds no latch answers the Day count, and holds the Minute and the tick of that moment (R45). -/
theorem dayNowLoRead_latches (who : Reader) (hr : s.reaches who 0x10008 = true) (hl : tabGet (fun _ => none) (s.latches who) 0x10008 = none) :
    (s.readOut who 0x10008).sent = .readData who 0x10008 (BitVec.ofNat 32 s.day.day) :: s.sent ∧
      ∀ o ∈ partners 0x10008, tabGet (fun _ => none) ((s.readOut who 0x10008).latches who) o = some (s.liveReg o) := by
  refine ⟨?_, fun o ho => ?_⟩
  · rw [State.readOut_sent hr, s.found_of_ne (by decide), hl, Option.getD_none, s.liveReg_dayNowLo]
  · rw [State.readOut_of_reaches hr]
    exact latches_afterRead_partner s who (by decide) ho

/-- A read of a register that is held for its reader answers what is held. -/
theorem pairLoRead_latched (who : Reader) {off : Nat} {x : Word} (h4 : off / 4 * 4 = off) (hr : w.reaches who off = true)
    (hl : tabGet (fun _ => none) (w.latches who) off = some x) :
    ∃ u, exec (.pairLoRead off who) w = .next u ∧ u.sent = .readData who off x :: w.sent := by
  refine ⟨w.readOut who (off / 4 * 4), rfl, ?_⟩
  rw [h4, State.readOut_sent hr, hl, Option.getD_some]

/-- Settles O13: the two registers are partners of DAY_NOW_LO, so its read holds them for the reader. -/
theorem dayNowReads : Obligations.DayNowReads := fun who s hr hl => by
  obtain ⟨hsent, hheld⟩ := dayNowLoRead_latches who hr hl
  refine ⟨_, rfl, hsent, fun off w hoff hw hlatch => ?_⟩
  have hpart : off ∈ partners 0x10008 ∧ off / 4 * 4 = off := by
    rcases hoff with rfl | rfl <;> decide
  exact pairLoRead_latched who hpart.2 hw (hlatch ▸ hheld off hpart.1)

end Sys2Proof.Machine
end

section
/-! PROOFS. Adoption from DAY_START, and the statement on it (O11). -/

namespace Sys2Proof.Machine

variable {s : State} {v : Word}

/-! ### What adoption leaves of the Day Unit and its registers -/

theorem State.setPower_dayRegs (s : State) (p : PowerState) : DayRegsKept s (s.setPower p) := by
  unfold State.setPower
  exact .ite (.refl s) ((State.flagOpen_dayRegs _ (off := 0xD0014) _ _ _ (.inl (by decide))).then ⟨fun _ _ _ => rfl⟩)

theorem State.afternoon_dayRegs (s : State) : DayRegsKept s s.afternoon := by
  unfold State.afternoon
  have h : DayRegsKept s { s with pwr := { s.pwr with cause := s.causes } } := ⟨fun _ _ _ => rfl⟩
  exact .ite ((State.setPower_dayRegs ..).then h) h

theorem State.setHour_dayRegs (s : State) (a u carried : Nat) : DayRegsKept s (s.setHour a u carried) := by
  unfold State.setHour
  exact (State.setReg_dayRegs _ (off := 0x2001C) _ (by decide)).then <| (State.setReg_dayRegs _ (off := 0x20018) _ (by decide)).then <|
    (State.setReg_dayRegs _ (off := 0x20014) _ (by decide)).then ⟨fun _ _ _ => rfl⟩

theorem State.account_dayRegs (s : State) (mOp n : Nat) : DayRegsKept s (s.account mOp n) := by
  unfold State.account
  extract_lets cool p1 g1 s1 s2 l base fresh m c tp u hh allow a f1 f carried l' p3 s3 s4 s5 s6
  have h2 : DayRegsKept s s2 := .ite ((State.flagOpen_dayRegs _ (off := 0xD0014) _ _ _ (.inl (by decide))).then ⟨fun _ _ _ => rfl⟩) ⟨fun _ _ _ => rfl⟩
  clear_value s2
  have h4 : DayRegsKept s s4 := (State.setReg_dayRegs _ (off := 0x20028) _ (by decide)).then <|
    (State.setReg_dayRegs _ (off := 0x20024) _ (by decide)).then <| (State.setReg_dayRegs _ (off := 0x20020) _ (by decide)).then ⟨h2.reads⟩
  have h5 : DayRegsKept s s5 := (State.setReg_dayRegs _ (off := 0x20180) _ (by decide)).then <| (State.setHour_dayRegs ..).then h4
  clear_value s5
  have h6 : DayRegsKept s s6 := .ite ((State.flagOpen_dayRegs _ (off := 0x2002C) _ _ _ (.inl (by decide))).then <|
    (State.setReg_dayRegs _ (off := 0x20184) _ (by decide)).then h5) h5
  exact (State.afternoon_dayRegs _).then h6

theorem State.bootReady_dayRegs (s : State) : DayRegsKept s s.bootReady := by
  have hready : DayRegsKept s s.checkReady := by
    unfold State.checkReady
    have halert : DayRegsKept s (({ s with boot := { s.boot with ready := true } } : State).alert 0) :=
      ⟨fun x hx _ => reg_alert _ _ (by rintro rfl; exact absurd hx (by decide))⟩
    exact .ite (((State.noteIdle_moves _).dayRegs rfl).then <| .ite halert ((State.account_dayRegs ..).then halert)) (.refl s)
  have hdusk : ∀ x : State, DayRegsKept x x.enterDusk := fun x => by
    unfold State.enterDusk
    refine .foldl _ ((State.setPower_dayRegs ..).then ⟨fun _ _ _ => rfl⟩) fun _ _ => (State.idleBridge_moves ..).dayRegs rfl
  exact .ite ((hdusk _).then hready) hready

theorem State.bootReady_day (s : State) : s.bootReady.day = s.day := s.bootReady_moves.off .day rfl

/-- A step marks what it passed: of the Day Unit the Evening loop's position alone (R40). -/
theorem State.markPassed_day (s : State) (old : Nat) : ∃ e, (s.markPassed old).day = { s.day with evePassed := e } := ⟨_, rfl⟩

/-- Adoption from DAY_START replaces the Day count, and says that the package has adopted (R40). -/
theorem State.adoptFromStart_day (s : State) (alone : Bool) : ∃ e i, (s.adoptFromStart alone).day =
    { s.day with day := s.reg64 0x10028 % 2 ^ 48, adopted := true, ownLeader := alone || s.day.ownLeader, evePassed := e, instValid := i } := by
  unfold State.adoptFromStart
  rw [State.bootReady_day]
  obtain ⟨i, hi⟩ := State.refreshValid_day (State.markPassed (State.syncBanks (s.setDay
    { s.day with day := s.reg64 0x10028 % 2 ^ 48, adopted := true, ownLeader := alone || s.day.ownLeader })) s.absMin)
  obtain ⟨e, he⟩ := State.markPassed_day (State.syncBanks (s.setDay
    { s.day with day := s.reg64 0x10028 % 2 ^ 48, adopted := true, ownLeader := alone || s.day.ownLeader })) s.absMin
  refine ⟨e, i, ?_⟩
  rw [hi, he, (State.syncBanks_moves _).off .day rfl]
  rfl

theorem State.adoptFromStart_dayRegs (s : State) (alone : Bool) : DayRegsKept s (s.adoptFromStart alone) :=
  (State.bootReady_dayRegs _).then <| (State.refreshValid_dayRegs _).then <| ((State.markPassed_moves ..).dayRegs rfl).then <|
    ((State.syncBanks_moves _).dayRegs rfl).then <| (State.setDay_moves ..).dayRegs rfl

/-- The clock does not move with an adoption. -/
theorem State.adoptFromStart_clk (s : State) (alone : Bool) : (s.adoptFromStart alone).clk = s.clk := (s.adoptFromStart_moves alone).off .clock rfl

/-! ### The commands -/

/-- Position 0 may adopt from DAY_START (R40, R504). -/
abbrev State.startsCount (s : State) : Prop := s.boot.done = true ∧ s.posValid = true ∧ s.position = 0

theorem State.tryAdoptStart_adopts (ha : s.day.adopted = false) (hw : s.day.startWritten = true) (h : s.startsCount) :
    s.tryAdoptStart = s.adoptFromStart false := by
  obtain ⟨hd, hv, hp⟩ := h
  exact if_pos (by simp [ha, hw, hd, hv, hp])

theorem State.tryAdoptStart_waits (h : ¬s.startsCount) : s.tryAdoptStart = s :=
  if_neg fun hc => h (by simp at hc; exact ⟨hc.1.1.2, hc.1.2, hc.2⟩)

/-- A served write of DAY_START_HI before adoption (R40): the register takes the value, and position 0 may adopt. -/
theorem exec_dayStartHiWrite (hs : s.served) (ha : s.day.adopted = false) : exec (.dayStartHiWrite v) s =
    .next (((s.dropLatches 0x1002C).setReg 0x1002C (v &&& 0xFFFF)).setDay { s.day with startWritten := true }).tryAdoptStart :=
  congrArg Host.Outcome.next ((State.onWrite_open _ (fun _ => hs.1) hs.2).trans (if_neg (Bool.eq_false_iff.1 ha)))

theorem dayStartHiWrite_waits (v : Word) (s : State) (hi : Inv s) (hs : s.served) (ha : s.day.adopted = false) (h : ¬s.startsCount) :
    ∃ u, exec (.dayStartHiWrite v) s = .next u ∧ u.reg 0x1002C = v &&& 0xFFFF ∧ u.day = { s.day with startWritten := true } := by
  refine ⟨_, exec_dayStartHiWrite hs ha, ?_⟩
  rw [State.tryAdoptStart_waits (by exact h)]
  exact ⟨reg_setReg_same (dropLatches_inv hi _) _ _, rfl⟩

theorem dayStartHiWrite_adopts (v : Word) (s : State) (hi : Inv s) (hs : s.served) (ha : s.day.adopted = false) (h : s.startsCount) :
    ∃ u, exec (.dayStartHiWrite v) s = .next u ∧ u.reg 0x1002C = v &&& 0xFFFF ∧ u.day.adopted = true ∧
      u.day.day = ((s.reg 0x10028).toNat + 2 ^ 32 * (v &&& 0xFFFF).toNat) % 2 ^ 48 := by
  refine ⟨_, exec_dayStartHiWrite hs ha, ?_⟩
  rw [State.tryAdoptStart_adopts (by exact ha) rfl (by exact h)]
  generalize hx : ((s.dropLatches 0x1002C).setReg 0x1002C (v &&& 0xFFFF)).setDay { s.day with startWritten := true } = x
  have hhi : x.reg 0x1002C = v &&& 0xFFFF := by rw [← hx]; exact reg_setReg_same (dropLatches_inv hi _) _ _
  have hlo : x.reg 0x10028 = s.reg 0x10028 := by rw [← hx]; exact reg_setReg_other _ _ (by decide)
  obtain ⟨e, i, hday⟩ := x.adoptFromStart_day false
  rw [hday]
  refine ⟨((x.adoptFromStart_dayRegs false).reads _ (by decide) (by decide)).trans hhi, rfl, ?_⟩
  rw [← hhi, ← hlo]
  rfl

theorem dayStartHiWrite_locked (v : Word) (s : State) (hs : s.served) (ha : s.day.adopted = true) (h : wfld v 0 16 ≠ s.fld 0x1002C 0 16) :
    ∃ u, exec (.dayStartHiWrite v) s = .next u ∧ u = (s.dropLatches 0x1002C).locked 0x1002C .host ∧ u.day = s.day := by
  have hlocked : State.writeDayStartHi v .host (s.dropLatches 0x1002C) = (s.dropLatches 0x1002C).locked 0x1002C .host :=
    (if_pos ha).trans (if_neg h)
  exact ⟨_, congrArg Host.Outcome.next ((State.onWrite_open _ (fun _ => hs.1) hs.2).trans hlocked), rfl, State.locked_day ..⟩

/-- The limit of R504 stands for the write of DAY_START at position 0. -/
theorem exec_adoptionLimit (hd : s.boot.done = true) (ha : s.day.adopted = false) :
    exec .adoptionLimit s = .next (((s.reachClk (s.boot.doneAt + 1000000000)).setDay { s.day with startWritten := true }).tryAdoptStart) :=
  congrArg Host.Outcome.next (if_pos (by rw [hd, ha]; rfl))

theorem adoptionLimit_adopts (s : State) (hd : s.boot.done = true) (ha : s.day.adopted = false) (hv : s.posValid = true) (hp : s.position = 0) :
    ∃ u, exec .adoptionLimit s = .next u ∧ u.day.adopted = true ∧ u.day.day = s.reg64 0x10028 % 2 ^ 48 ∧ s.boot.doneAt + 1000000000 ≤ u.clk := by
  refine ⟨_, exec_adoptionLimit hd ha, ?_⟩
  rw [State.tryAdoptStart_adopts (by exact ha) rfl (by exact ⟨hd, hv, hp⟩), State.adoptFromStart_clk]
  obtain ⟨e, i, hday⟩ := ((s.reachClk (s.boot.doneAt + 1000000000)).setDay { s.day with startWritten := true }).adoptFromStart_day false
  rw [hday]
  exact ⟨rfl, rfl, Nat.le_max_right _ _⟩

theorem adoptionLimit_waits (s : State) (hd : s.boot.done = true) (ha : s.day.adopted = false) (h : ¬(s.posValid = true ∧ s.position = 0)) :
    ∃ u, exec .adoptionLimit s = .next u ∧ u.day.adopted = false ∧ u.day.day = s.day.day := by
  refine ⟨_, exec_adoptionLimit hd ha, ?_⟩
  rw [State.tryAdoptStart_waits (by exact fun hc => h hc.2)]
  exact ⟨ha, rfl⟩

theorem adoptionFallback_adopts (s : State) (hd : s.boot.done = true) (ha : s.day.adopted = false) (hp : s.day.parent = 0) :
    ∃ u, exec .adoptionFallback s = .next u ∧ u.day.adopted = true ∧ u.day.ownLeader = true ∧ u.day.day = s.reg64 0x10028 % 2 ^ 48 ∧
      s.boot.doneAt + 1050000000 ≤ u.clk := by
  have hexec : exec .adoptionFallback s = .next ((s.reachClk (s.boot.doneAt + 1050000000)).adoptFromStart true) :=
    congrArg Host.Outcome.next (if_pos (by rw [hd, ha, hp]; rfl))
  refine ⟨_, hexec, ?_⟩
  obtain ⟨e, i, hday⟩ := (s.reachClk (s.boot.doneAt + 1050000000)).adoptFromStart_day true
  rw [hday, State.adoptFromStart_clk]
  exact ⟨rfl, rfl, rfl, Nat.le_max_right _ _⟩

theorem adoptionFallback_nothing (s : State) (h : s.boot.done = false ∨ s.day.adopted = true ∨ s.day.parent ≠ 0) :
    ∃ u, exec .adoptionFallback s = .next u ∧ u = s :=
  ⟨_, congrArg Host.Outcome.next (if_neg (by rcases h with h | h | h <;> simp [h])), rfl⟩

/-- Settles O11: the write and the two limits adopt by one operation, whose effect on the Day Unit is `State.adoptFromStart_day`. -/
theorem dayAdoption : Obligations.DayAdoption :=
  ⟨fun v s hi hs ha h => dayStartHiWrite_waits v s hi hs ha h,
   fun v s hi hs ha hd hv hp => dayStartHiWrite_adopts v s hi hs ha ⟨hd, hv, hp⟩,
   fun v s hs ha h => dayStartHiWrite_locked v s hs ha h, fun s hd ha hv hp => adoptionLimit_adopts s hd ha hv hp,
   fun s hd ha h => adoptionLimit_waits s hd ha h, fun s hd ha hp => adoptionFallback_adopts s hd ha hp, fun s h => adoptionFallback_nothing s h⟩

end Sys2Proof.Machine
end

section
/-! PROOFS. A package-class fault and the Day Unit: the count stands, and only a package in FOLLOW leaves its state. -/

namespace Sys2Proof.Machine

variable {o s t : State}

/-- The count stays, and so does the state of a unit that is not in FOLLOW: of the Day Unit only neighbours, leader and parent may have changed (R53). -/
structure ParentsLost (s t : State) : Prop where
  day : t.day.day = s.day.day
  minute : t.day.minute = s.day.minute
  voteFail : t.day.voteFail = s.day.voteFail
  state : s.day.state ≠ .follow → t.day.state = s.day.state

theorem ParentsLost.refl (s : State) : ParentsLost s s := ⟨rfl, rfl, rfl, fun _ => rfl⟩

theorem ParentsLost.then (h' : ParentsLost s t) (h : ParentsLost o s) : ParentsLost o t :=
  ⟨h'.day.trans h.day, h'.minute.trans h.minute, h'.voteFail.trans h.voteFail,
    fun hf => (h'.state (by rw [h.state hf]; exact hf)).trans (h.state hf)⟩

theorem ParentsLost.ite {c : Prop} [Decidable c] {a b : State} (ha : ParentsLost o a) (hb : ParentsLost o b) : ParentsLost o (if c then a else b) := by
  split <;> assumption

theorem ParentsLost.foldl {α : Type} {f : State → α → State} (l : List α) (h : ParentsLost o s) (hf : ∀ x a, ParentsLost x (f x a)) :
    ParentsLost o (l.foldl f s) := by
  induction l generalizing s with
  | nil => exact h
  | cons a l ih => exact ih ((hf s a).then h)

theorem Moves.parents {m : Nat} (h : Moves m s t) (hm : m.testBit 9 = false) : ParentsLost s t := by
  have hd : t.day = s.day := h.off .day hm
  exact ⟨by rw [hd], by rw [hd], by rw [hd], fun _ => by rw [hd]⟩

theorem Elected.parents (h : Elected s.day t.day) : ParentsLost s t :=
  ⟨DayUnit.day_of_core h.core, DayUnit.minute_of_core h.core, DayUnit.voteFail_of_core h.core,
    fun hf => h.state.resolve_right fun ⟨hs, _⟩ => hf hs⟩

theorem State.parentLost_parents (s : State) (p : Nat) : ParentsLost s (s.parentLost p) := by
  unfold State.parentLost
  extract_lets was d0 t d1 u
  have ht : ParentsLost s t := ⟨rfl, rfl, rfl, fun _ => rfl⟩
  have hset : ParentsLost t (t.setDay { t.day with parent := 0, hops := 0xFF }) := ⟨rfl, rfl, rfl, fun _ => rfl⟩
  have hu : ParentsLost s u :=
    .ite ht <| (State.settleDay_day _).parents.then <| ((State.flagOpen_moves ..).parents rfl).then <| hset.then ht
  exact .ite ((State.elect_day u).parents.then hu) hu

theorem State.portsLost_parents (s : State) : ParentsLost s s.portsLost := by
  unfold State.portsLost
  refine ((State.setLnk_moves ..).parents rfl).then <| .foldl _ (.refl s) fun x p => ?_
  unfold State.portLost
  extract_lets q t had l u
  have ht : ParentsLost x t := ((State.setPort_moves ..).parents rfl).then <| (State.portTo_moves ..).parents rfl
  have hu : ParentsLost x u := ((State.setLnk_moves ..).parents rfl).then ht
  exact .ite (.refl x) (.ite ((State.parentLost_parents ..).then ht) (.ite (((State.record_moves ..).parents rfl).then hu) hu))

/-- A package-class fault touches the Day Unit by the ports it takes down alone (R468). -/
theorem State.packageFault_parents (s : State) (source code unit detail : Nat) (hostDead : Bool) :
    ParentsLost s (s.packageFault source code unit detail hostDead) := by
  unfold State.packageFault
  extract_lets s1 slot cold dead f host s2 s3 s4 s5 s6 c6 s7 s8
  have h1 : ParentsLost s s1 := ((State.bump_moves ..).parents rfl).then <| (State.record_moves ..).parents rfl
  have h2 : ParentsLost s s2 := ⟨h1.day, h1.minute, h1.voteFail, h1.state⟩
  have h5 : ParentsLost s2 s5 := ((State.discardShadow_moves _).parents rfl).then <| ((State.loseRings_moves ..).parents rfl).then <|
    .foldl _ (.refl s2) fun _ _ => (State.dropJobs_moves ..).parents rfl
  have h6 : ParentsLost s5 s6 := .foldl _ (.refl s5) fun _ _ => .ite
    (((State.setCtx_moves ..).parents rfl).then <| ((State.fenceLeases_moves ..).parents rfl).then <|
      ((State.withdrawTakes_moves ..).parents rfl).then <| (State.dropWork_moves ..).parents rfl) (.refl _)
  have h7 : ParentsLost s6 s7 := (State.portsLost_parents _).then <| (State.setCmb_moves ..).parents rfl
  have h8 : ParentsLost s7 s8 := .foldl _ (.refl s7) fun _ _ => .ite ((State.setBank_moves ..).parents rfl) (.refl _)
  exact ((State.flag_moves ..).parents rfl).then <| h8.then <| h7.then <| h6.then <| h5.then h2

end Sys2Proof.Machine
end

section
/-! PROOFS. Writes of the Day Unit's settings, RESYNC and the vote, and the statement on them (O12). -/

namespace Sys2Proof.Machine

variable {s : State} {v : Word}

/-! ### A bit set, and a flag raised -/

theorem bitAt_wput_one (w : Word) {b : Nat} (hb : b < 32) : bitAt (wput w b 1 1).toNat b = true := by
  have hbit : ∀ n, bitAt n b = n.testBit b := fun n => Nat.testBit_eq_decide_div_mod_eq.symm
  have hput : putBits w.toNat b 1 1 / 2 ^ b % 2 = 1 := by
    have hv := Nat.div_add_mod w.toNat (2 ^ b)
    have hq := Nat.div_add_mod (w.toNat / 2 ^ b) 2
    unfold putBits bitsOf
    generalize w.toNat / 2 ^ b = q at *
    generalize hr : w.toNat % 2 ^ b = r at *
    have hlt : r < 2 ^ b := hr ▸ Nat.mod_lt _ (Nat.two_pow_pos b)
    have hsum : w.toNat - q % 2 ^ 1 * 2 ^ b + 1 % 2 ^ 1 * 2 ^ b = 2 ^ b * (2 * (q / 2) + 1) + r := by
      have hsplit : 2 ^ b * q = 2 ^ b * (2 * (q / 2)) + q % 2 * 2 ^ b := by
        conv_lhs => rw [← hq]
        ring
      rw [pow_one, Nat.mul_add]
      omega
    rw [hsum, Nat.mul_add_div (Nat.two_pow_pos b), Nat.div_eq_of_lt hlt]
    omega
  rw [hbit, wput, BitVec.toNat_ofNat, Nat.testBit_mod_two_pow, Nat.testBit_eq_decide_div_mod_eq]
  simp [hb, hput]

/-- A flag that lies in neither the alert's register nor the event ring's reads 1 once it is raised. -/
theorem rbit_flagOpen (hi : Inv s) {off bit : Nat} (source ctx : Nat) (hb : bit < 32) (ha : off ≠ 0xC0008) (he : off ≠ 0xF1008) :
    (s.flagOpen off bit source ctx).rbit off bit = true := by
  have hflag : ∀ {x : State} (d : Nat), Inv x → (x.flag off bit source ctx d).rbit off bit = true := by
    intro x d hx
    unfold State.flag
    split
    · assumption
    · unfold State.rbit State.setFld
      rw [reg_alert _ _ ha, reg_event _ _ _ _ _ he, reg_setReg_same hx]
      exact bitAt_wput_one _ hb
  unfold State.flagOpen
  split
  · assumption
  · exact hflag _ (s.takeFree_moves.inv hi)

/-! ### Settings -/

theorem hourOfs_stored (v : Word) (s : State) (hi : Inv s) (hs : s.served) (h : v.toNat % 32 < 24) :
    ∃ u, exec (.dayHourOfsWrite v) s = .next u ∧ u.reg 0x10020 = v &&& 0x1F ∧ u.day = { s.day with hourPend := some (v.toNat % 32, s.clk) } := by
  have hfld : wfld v 0 5 = v.toNat % 32 := by simp [wfld, bitsOf]
  have hw : State.writeHourOfs v (s.dropLatches 0x10020) =
      ((s.dropLatches 0x10020).setReg 0x10020 (v &&& 0x1F)).setDay { s.day with hourPend := some (wfld v 0 5, s.clk) } :=
    if_neg (by omega)
  exact ⟨_, congrArg Host.Outcome.next ((State.onWrite_open _ (fun _ => hs.1) hs.2).trans hw),
    reg_setReg_same (dropLatches_inv hi _) _ _, by rw [hfld]; rfl⟩

theorem hourOfs_refused (v : Word) (s : State) (hi : Inv s) (hs : s.served) (h : 24 ≤ v.toNat % 32) :
    ∃ u, exec (.dayHourOfsWrite v) s = .next u ∧ u.rbit 0x10034 10 = true ∧ u.reg 0x10020 = s.reg 0x10020 ∧ u.day = s.day := by
  have hfld : wfld v 0 5 = v.toNat % 32 := by simp [wfld, bitsOf]
  have hw : State.writeHourOfs v (s.dropLatches 0x10020) = (s.dropLatches 0x10020).flagOpen 0x10034 10 2 noCtx := if_pos (by omega)
  exact ⟨_, congrArg Host.Outcome.next ((State.onWrite_open _ (fun _ => hs.1) hs.2).trans hw),
    rbit_flagOpen (dropLatches_inv hi _) _ _ (by decide) (by decide) (by decide),
    reg_flagOpen _ _ _ _ _ (by decide) (by decide) (by decide), State.flagOpen_day ..⟩

theorem holdLimit_stored (v : Word) (s : State) (hi : Inv s) (hs : s.served) :
    ∃ u, exec (.dayHoldLimitWrite v) s = .next u ∧ u.reg 0x10024 = v &&& 0xFFFF ∧ (∀ off, off ≠ 0x10024 → u.reg off = s.reg off) ∧
      u.day = s.day :=
  ⟨_, congrArg Host.Outcome.next (State.onWrite_open _ (fun _ => hs.1) hs.2), reg_setReg_same (dropLatches_inv hi _) _ _,
    fun _ h => reg_setReg_other _ _ h, rfl⟩

theorem bitAt_mask_nominal (v : Word) : bitAt (v &&& 0xF06).toNat 2 = decide (v.toNat / 4 % 2 = 1) := by
  have hbit : bitAt (v &&& 0xF06).toNat 2 = (v &&& 0xF06).toNat.testBit 2 := Nat.testBit_eq_decide_div_mod_eq.symm
  rw [hbit, BitVec.toNat_and, Nat.testBit_and, Nat.testBit_eq_decide_div_mod_eq, show (0xF06 : Word).toNat.testBit 2 = true by decide, Bool.and_true]

theorem dayCtrl_stored (v : Word) (s : State) (hi : Inv s) (hs : s.served) :
    ∃ u, exec (.dayCtrlWrite v) s = .next u ∧ u.reg 0x10000 = v &&& 0xF06 ∧
      ((s.day.state = .acquire ∨ s.day.state = .free) → u.day.period = if v.toNat / 4 % 2 = 1 then 2133333333 else 2560000000) := by
  refine ⟨_, congrArg Host.Outcome.next (State.onWrite_open _ (fun _ => hs.1) hs.2), ?_⟩
  unfold State.writeDayCtrl
  extract_lets x d y
  have hx : x.reg 0x10000 = v &&& 0xF06 := reg_setReg_same (dropLatches_inv hi _) _ _
  have hy : DayRegsKept x y := .ite ((State.setDay_moves ..).dayRegs rfl) (.refl x)
  refine ⟨((State.elect_dayRegs y).reads _ (by decide) (by decide)).trans ((hy.reads _ (by decide) (by decide)).trans hx), fun h => ?_⟩
  have hyx : y = x.setDay { x.day with period := x.nominalPeriod } := if_pos (by exact h)
  have hperiod : y.day.period = x.nominalPeriod := by rw [hyx]; rfl
  rw [y.elect_day.period, hperiod, State.nominalPeriod, State.rbit, hx, bitAt_mask_nominal]
  simp

/-! ### RESYNC -/

theorem State.takeParent_core (s : State) (ofs : Int) : (s.takeParent ofs).day.core = s.day.core := by
  unfold State.takeParent
  extract_lets d
  split
  · exact (State.setDayState_day ..).core
  · rfl

theorem State.refreshValid_core (s : State) : s.refreshValid.day.core = s.day.core := by
  obtain ⟨v, hv⟩ := s.refreshValid_day
  rw [hv]
  rfl

/-- What RESYNC makes of a unit once it is let do so. -/
def State.resynced (s : State) (pos : DayPos) (at_ : Int) : State :=
  let s := (s.setFld 0x10034 6 1 0).setDay { s.day with voteFail := false }
  ((s.stepTo pos at_).refreshValid.bootReady.takeParent 0).refreshValid

/-- The Day Unit's core after a RESYNC is that of the step alone. -/
theorem State.resynced_core (s : State) (pos : DayPos) (at_ : Int) : (s.resynced pos at_).day.core =
    (((s.setFld 0x10034 6 1 0).setDay { s.day with voteFail := false }).stepTo pos at_).day.core := by
  unfold State.resynced
  rw [State.refreshValid_core, State.takeParent_core, State.bootReady_day, State.refreshValid_core]

/-- The conditions of R59 on a RESYNC. -/
def State.mayResync (s : State) : Prop :=
  (∀ r ∈ leaseResources, (s.lease r).holder = none) ∧ s.dayEventPending = false ∧ (∀ c ∈ ctxRange, (s.ctx c).state ≠ .open_) ∧ s.day.parent ≠ 0

theorem State.resyncDay_steps {pos : DayPos} {at_ : Int} (who : Reader) (h : s.mayResync) (hp : s.parentPos = some (pos, at_)) :
    s.resyncDay who = s.resynced pos at_ := by
  obtain ⟨hl, he, hc, hd⟩ := h
  have hok : (leaseResources.all (fun r => (s.lease r).holder.isNone) && !s.dayEventPending
      && ctxRange.all (fun c => decide ((s.ctx c).state ≠ .open_)) && decide (s.day.parent ≠ 0)) = true := by
    simpa [he, hd] using And.intro hl hc
  unfold State.resyncDay
  rw [hp]
  exact if_pos hok

theorem State.resyncDay_locked (who : Reader) (h : ¬s.mayResync) : s.resyncDay who = s.locked 0x10030 who := by
  unfold State.resyncDay
  split
  · refine if_neg fun hok => h ?_
    simp only [Bool.and_eq_true, List.all_eq_true, Option.isNone_iff_eq_none, Bool.not_eq_true', decide_eq_true_eq] at hok
    obtain ⟨⟨⟨hl, he⟩, hc⟩, hd⟩ := hok
    exact ⟨hl, he, hc, hd⟩
  · rfl

theorem exec_dayResync (hs : s.served) : exec .dayResync s = .next ((s.dropLatches 0x10030).resyncDay .host) :=
  congrArg Host.Outcome.next ((State.onWrite_open _ (fun _ => hs.1) hs.2).trans (if_pos rfl))

theorem dayResync_steps (pos : DayPos) (at_ : Int) (s : State) (hs : s.served) (h : s.mayResync) (hp : s.parentPos = some (pos, at_)) :
    ∃ u, exec .dayResync s = .next u ∧ u.day.day = ((s.day.steppedTo pos at_).posAt s.clk).day ∧
      u.day.minute = ((s.day.steppedTo pos at_).posAt s.clk).minute ∧ u.day.voteFail = false ∧ u.day.adopted = true := by
  refine ⟨_, exec_dayResync hs, ?_⟩
  rw [State.resyncDay_steps .host (by exact h) (by exact hp)]
  have hc := State.resynced_core (s.dropLatches 0x10030) pos at_
  have hd : ∀ x : State, x.syncBanks.day = x.day := fun x => (State.syncBanks_moves x).off .day rfl
  rw [State.stepTo, hd] at hc
  exact ⟨DayUnit.day_of_core hc, DayUnit.minute_of_core hc, DayUnit.voteFail_of_core hc, DayUnit.adopted_of_core hc⟩

theorem dayResync_locked (s : State) (hs : s.served) (h : ¬s.mayResync) :
    ∃ u, exec .dayResync s = .next u ∧ u = (s.dropLatches 0x10030).locked 0x10030 .host ∧ u.day = s.day := by
  refine ⟨_, exec_dayResync hs, ?_⟩
  rw [State.resyncDay_locked .host (by exact h)]
  exact ⟨rfl, State.locked_day ..⟩

/-! ### The vote (R57) -/

/-- The unit counts on from the position of one copy. -/
def State.loadCopy (s : State) (p : DayPos) : State :=
  s.setDay { s.day with day := p.day % 2 ^ 48, minute := p.minute,
                        dayStart := (s.clk : Int) - ((s.day.acc * 1440 + p.minute * s.day.pd : Nat) / 184320 + p.tick) }

theorem exec_vote_agree {a b : DayPos} {i : Instr} (hab : a ≠ b)
    (h : i = .dayVoteMismatch a a b ∨ i = .dayVoteMismatch a b a ∨ i = .dayVoteMismatch b a a) :
    exec i s = .next ((s.loadCopy a).flagOpen 0x10034 9 2 noCtx) := by
  rcases h with rfl | rfl | rfl
  · exact congrArg Host.Outcome.next ((if_neg fun h => hab h.2).trans (if_pos (.inl rfl)))
  · exact congrArg Host.Outcome.next ((if_neg fun h => hab h.1).trans (if_pos (.inr rfl)))
  · exact congrArg Host.Outcome.next ((if_neg fun h => hab h.1.symm).trans ((if_neg fun h => hab (h.elim Eq.symm Eq.symm)).trans (if_pos rfl)))

theorem vote_agree (a b : DayPos) (i : Instr) (s : State) (hi : Inv s) (hab : a ≠ b)
    (h : i = .dayVoteMismatch a a b ∨ i = .dayVoteMismatch a b a ∨ i = .dayVoteMismatch b a a) :
    ∃ u, exec i s = .next u ∧ u.day.day = a.day % 2 ^ 48 ∧ u.day.minute = a.minute ∧ u.rbit 0x10034 9 = true := by
  refine ⟨_, exec_vote_agree hab h, ?_⟩
  rw [State.flagOpen_day]
  exact ⟨rfl, rfl, rbit_flagOpen ((State.setDay_moves ..).inv hi) _ _ (by decide) (by decide) (by decide)⟩

/-- The unit that has lost the vote counts on from the first copy, in EXPIRED while the board reference is present (R50, R57). -/
def State.loseVote (s : State) (p : DayPos) : State :=
  let x := (s.loadCopy p).setDay { (s.loadCopy p).day with voteFail := true, corrLeft := 0 }
  if x.day.refLost then x else x.setDayState .expired

/-- The Day Unit of a lost vote, before the fault that follows. -/
structure VoteLost (p : DayPos) (d d' : DayUnit) : Prop where
  day : d'.day = p.day % 2 ^ 48
  minute : d'.minute = p.minute
  state : d.refLost = false → d'.state = .expired

theorem State.loseVote_day (s : State) (p : DayPos) : VoteLost p s.day (s.loseVote p).day := by
  unfold State.loseVote
  extract_lets d x
  split
  · next h => exact ⟨rfl, rfl, fun hr => absurd h (by exact Bool.eq_false_iff.1 hr)⟩
  · have hx := x.setDayState_day .expired
    exact ⟨DayUnit.day_of_core hx.core, DayUnit.minute_of_core hx.core, fun _ => hx.state.elim id And.right⟩

theorem exec_vote_differ {a b c : DayPos} (hab : a ≠ b) (hbc : b ≠ c) (hac : a ≠ c) : exec (.dayVoteMismatch a b c) s =
    .next (((s.loseVote a).setDay { (s.loseVote a).day with voteFail := true }).refreshValid.packageFault 2 9 0x200 0 false) :=
  congrArg Host.Outcome.next ((if_neg fun h => hab h.1).trans ((if_neg fun h => h.elim hab hac).trans (if_neg hbc)))

theorem vote_differ (a b c : DayPos) (s : State) (hab : a ≠ b) (hbc : b ≠ c) (hac : a ≠ c) :
    ∃ u, exec (.dayVoteMismatch a b c) s = .next u ∧ u.day.voteFail = true ∧ u.day.day = a.day % 2 ^ 48 ∧ u.day.minute = a.minute ∧
      (s.day.refLost = false → u.day.state = .expired) := by
  refine ⟨_, exec_vote_differ hab hbc hac, ?_⟩
  obtain ⟨hday, hminute, hstate⟩ := s.loseVote_day a
  obtain ⟨v, hv⟩ := ((s.loseVote a).setDay { (s.loseVote a).day with voteFail := true }).refreshValid_day
  generalize ((s.loseVote a).setDay { (s.loseVote a).day with voteFail := true }).refreshValid = w at hv
  rw [State.setDay_day] at hv
  obtain ⟨hfday, hfminute, hfvote, hfstate⟩ := w.packageFault_parents 2 9 0x200 0 false
  rw [hv] at hfday hfminute hfvote hfstate
  exact ⟨hfvote, hfday.trans hday, hfminute.trans hminute,
    fun hr => (hfstate fun hf => absurd ((hstate hr).symm.trans hf) (by decide)).trans (hstate hr)⟩

/-- Settles O12: each write stores its setting or raises its flag, RESYNC is one step of the count, and the vote loads one copy. -/
theorem daySettings : Obligations.DaySettings := by
  refine ⟨hourOfs_stored, hourOfs_refused, holdLimit_stored, dayCtrl_stored,
    fun pos at_ s hs hl he hc hd hp => dayResync_steps pos at_ s hs ⟨hl, he, hc, hd⟩ hp, fun s hs h => dayResync_locked s hs ?_,
    vote_agree, vote_differ, fun a s => ⟨_, congrArg Host.Outcome.next (if_pos ⟨rfl, rfl⟩), rfl⟩⟩
  rintro ⟨hl, he, hc, hd⟩
  rcases h with h | h | ⟨r, hr, h⟩ | ⟨c, hcr, h⟩
  · exact hd h
  · rw [he] at h
    exact absurd h (by decide)
  · exact h (hl r hr)
  · exact hc c hcr h

end Sys2Proof.Machine
end

section
/-! PROOFS. How a descriptor starts and how its work ends: the descriptor that stands in the fetch window, what a start that goes on has
changed, and the outcome its end leaves. -/

namespace Sys2Proof.Machine

variable {s t u s1 : State} {c : Nat} {d : Desc}

/-! ### The descriptor in the fetch window -/

/-- Descriptor `d` stands in the window of context `c`, and no other has its index. -/
structure State.Stands (s : State) (c : Nat) (d : Desc) : Prop where
  mem : d ∈ (s.ring c).window
  only : ∀ x ∈ (s.ring c).window, x.idx = d.idx → x = d

theorem State.Stands.of_rings (h : s.Stands c d) (e : t.rings = s.rings) : t.Stands c d := by
  have hr : t.ring c = s.ring c := congrArg (tabGet _ · c) e
  exact ⟨hr ▸ h.mem, hr ▸ h.only⟩

theorem State.Stands.desc (h : s.Stands c d) : s.desc c d.idx = some d := by
  have hsome : (s.desc c d.idx).isSome = true := List.find?_isSome.2 ⟨d, h.mem, beq_self_eq_true d.idx⟩
  obtain ⟨x, hx⟩ := Option.isSome_iff_exists.1 hsome
  have hidx : x.idx = d.idx := beq_iff_eq.1 (List.find?_some (p := fun y : Desc => y.idx == d.idx) hx)
  exact hx.trans (congrArg some (h.only x (List.mem_of_find?_eq_some hx) hidx))

theorem State.setDesc_window (h : (s.ring c).window ≠ []) :
    ((s.setDesc c d).ring c).window = (s.ring c).window.map (fun x => if x.idx = d.idx then d else x) := by
  unfold State.setDesc State.setRing State.ring
  rw [tabGet_tabSet_ne]
  intro e
  have hw : (s.ring c).window.map (fun x => if x.idx = d.idx then d else x) = [] := congrArg Ring.window e
  exact h (List.map_eq_nil_iff.1 hw)

/-- A descriptor written over one of its index stands in the window. -/
theorem State.setDesc_stands {x : Desc} (hx : x ∈ (s.ring c).window) (h : x.idx = d.idx) : (s.setDesc c d).Stands c d := by
  have hw := State.setDesc_window (d := d) (List.ne_nil_of_mem hx)
  refine ⟨hw ▸ List.mem_map.2 ⟨x, hx, if_pos h⟩, fun y hy hidx => ?_⟩
  obtain ⟨z, -, rfl⟩ := List.mem_map.1 (hw ▸ hy)
  split
  · rfl
  · next hz => exact absurd (by rwa [if_neg hz] at hidx) hz

/-- What is noted for the next descriptor to start leaves one that runs. -/
theorem State.noteReady_stands (h : s.Stands c d) (hp : d.phase ≠ .waiting) : (s.noteReady c).Stands c d := by
  unfold State.noteReady
  split
  · next x hx =>
    have hxmem := List.mem_of_find?_eq_some hx
    have hxp : x.phase = .waiting := by simpa using List.find?_some hx
    have hne : x.idx ≠ d.idx := fun e => hp (h.only x hxmem e ▸ hxp)
    split
    · have hw := State.setDesc_window (s := s) (c := c) (d := { x with readyAt := some s.clk }) (List.ne_nil_of_mem hxmem)
      refine ⟨hw ▸ List.mem_map.2 ⟨d, h.mem, if_neg (Ne.symm hne)⟩, fun y hy hidx => ?_⟩
      obtain ⟨z, hz, rfl⟩ := List.mem_map.1 (hw ▸ hy)
      dsimp only at hidx ⊢
      split at hidx
      · exact absurd hidx hne
      · next hzx => rw [if_neg hzx]; exact h.only z hz hidx
    · exact h
  · exact h

/-! ### A start that goes on -/

/-- The state in which descriptor `d0` of context `c` has been taken up to run, with its estimate reserved. -/
def State.takenUp (s : State) (c : Nat) (est : Nat) (d0 d : Desc) : State :=
  let t := ((s.bump64 (0x201C + 0x40 * c) (s.clk - d0.readyAt.getD s.clk)).setDesc c d).noteReady c
  if est = 0 then t else t.reserve { kind := 1, a := c, b := d.idx, est := est }

variable {mine room : Desc → Bool} {est : Desc → Nat} {checks : Desc → List (Bool × Nat)}

theorem State.noteReady_bump64_absMin (s : State) (c x n : Nat) : ((s.noteReady c).bump64 x n).absMin = s.absMin :=
  congrArg DayUnit.absMin ((((s.noteReady c).bump64_moves x n).then (m := 0x1020) rfl ((s.noteReady_moves c).mono rfl)).off .day rfl)

/-- A start that goes on takes the next descriptor up, and only the fault unit's bracket may change besides (R456). -/
theorem State.begin_go (h : s.begin c mine room est checks = .go d s1) :
    ∃ d0 e, (s.noteReady c).nextDesc c = some d0 ∧ d = { d0 with phase := .running, startMin := s.absMin } ∧
      Moves 0x4000 ((s.noteReady c).takenUp c e d0 d) s1 := by
  unfold State.begin at h
  extract_lets x at h
  split at h
  · cases h
  · next d0 hd0 =>
    split at h
    · cases h
    · extract_lets xr y d' y1 y2 ry xy at h
      split at h
      · cases h
      · cases h
      · split at h
        · cases h
        · have hd' : d' = { d0 with phase := .running, startMin := s.absMin } := by rw [← State.noteReady_bump64_absMin]
          have key : ∀ z, Moves 0x4000 y2 z → Started.go d' z = .go d s1 → ∃ d0' e, x.nextDesc c = some d0' ∧
              d = { d0' with phase := .running, startMin := s.absMin } ∧ Moves 0x4000 (x.takenUp c e d0' d) s1 := by
            intro z hz hgo
            obtain ⟨hd, rfl⟩ := Started.go.inj hgo
            exact ⟨d0, est d', hd0, hd.symm.trans hd', by rw [← hd]; exact hz⟩
          split at h
          · cases h
          · split at h
            · cases h
            · split at h
              · split at h
                · cases h
                · exact key _ (.then (State.countBracket_moves _) rfl (State.openBracket_moves ..)) h
              · split at h
                · split at h
                  · cases h
                  · exact key _ (State.countBracket_moves _) h
                · exact key _ (.refl _ _) h

/-- A start that goes on leaves descriptor `d` running in the window; of the other parts only registers, the bracket and the Ledger changed. -/
structure State.Began (s s1 : State) (c : Nat) (d : Desc) : Prop where
  moves : Moves 0x1005020 s s1
  stands : s1.Stands c d
  regs : ∀ x, x ≠ 0x201C + 0x40 * c → x ≠ 0x201C + 0x40 * c + 4 → x ≠ 0x20018 → s1.reg x = s.reg x

theorem Moves.reg {m : Nat} (h : Moves m s t) (hm : m.testBit 5 = false) (x : Nat) : t.reg x = s.reg x :=
  congrArg (tabGet regDefault · x) (h.off .registers hm)

theorem State.takenUp_moves (s : State) (c e : Nat) (d0 d : Desc) : Moves 0x1001020 s (s.takenUp c e d0 d) := by
  have ht : ∀ n, Moves 0x1001020 s (((s.bump64 (0x201C + 0x40 * c) n).setDesc c d).noteReady c) := fun _ =>
    .then (State.noteReady_moves ..) rfl <| .then (State.setDesc_moves ..) rfl <| (State.bump64_moves ..).mono rfl
  exact .ite (ht _) (.then (State.reserve_moves ..) rfl (ht _))

theorem State.takenUp_stands {x d0 : Desc} {e : Nat} (hx : x ∈ (s.ring c).window) (hi : x.idx = d.idx) (hp : d.phase = .running) :
    (s.takenUp c e d0 d).Stands c d := by
  have hbump : ∀ off n, (s.bump64 off n).rings = s.rings := fun off n => (s.bump64_moves off n).off .rings rfl
  unfold State.takenUp
  extract_lets t
  have ht : t.Stands c d := by
    refine State.noteReady_stands (State.setDesc_stands (x := x) ?_ hi) (by simp [hp])
    unfold State.ring
    rwa [hbump]
  split
  · exact ht
  · exact ht.of_rings ((State.reserve_moves ..).off .rings rfl)

/-- WAIT_NS and the remaining allowance are the registers that a start changes (R423, Table 5.2). -/
theorem State.takenUp_reg {x e : Nat} {d0 : Desc} (h1 : x ≠ 0x201C + 0x40 * c) (h2 : x ≠ 0x201C + 0x40 * c + 4) (h3 : x ≠ 0x20018) :
    (s.takenUp c e d0 d).reg x = s.reg x := by
  unfold State.takenUp
  extract_lets t
  have ht : t.reg x = s.reg x := by
    unfold t
    rw [(State.noteReady_moves ..).reg rfl, (State.setDesc_moves ..).reg rfl]
    exact (reg_setReg_other _ _ h2).trans (reg_setReg_other _ _ h1)
  split
  · exact ht
  · exact (reg_setReg_other _ _ h3).trans ht

theorem State.begin_began (h : s.begin c mine room est checks = .go d s1) : s.Began s1 c d := by
  obtain ⟨d0, e, hd0, hd, hs1⟩ := State.begin_go h
  have hup := State.takenUp_stands (d0 := d0) (e := e) (List.mem_of_find?_eq_some hd0) (congrArg Desc.idx hd).symm (congrArg Desc.phase hd)
  exact ⟨.then hs1 rfl <| .then (State.takenUp_moves ..) rfl <| (State.noteReady_moves ..).mono rfl, hup.of_rings (hs1.off .rings rfl),
    fun y h1 h2 h3 => (hs1.reg rfl y).trans <| (State.takenUp_reg h1 h2 h3).trans <| (State.noteReady_moves ..).reg rfl y⟩

/-- The conditions under which a start outside every bracket goes on (R104, R423). -/
theorem State.begin_starts (hd : (s.noteReady c).nextDesc c = some d) (hmine : mine d = true) (hstart : (s.noteReady c).startable c d = true)
    (hbr : ((s.noteReady c).ring c).br = .none)
    (hok : malformedAt (headerChecks d.words ++ bracketChecks ((s.noteReady c).inBracket c) d.words ++ checks d) = none)
    (hissue : (s.noteReady c).canIssue = true) (hroom : room d = true) (hfits : (s.noteReady c).fitsLedger (est d) = true)
    (hopen : d.brOpen = false) (hin : s.inBracket c = false) :
    ∃ s1, s.begin c mine room est checks = .go { d with phase := .running, startMin := s.absMin } s1 := by
  have hflt : ((s.noteReady c).takenUp c (est { d with phase := .running, startMin := s.absMin }) d { d with phase := .running, startMin := s.absMin }).flt
      = s.flt :=
    (Moves.then (State.takenUp_moves ..) (m := 0x1001020) rfl ((s.noteReady_moves c).mono rfl)).off .faults rfl
  have hin' := hin
  unfold State.inBracket at hin'
  rw [← hflt] at hin'
  unfold State.begin
  dsimp only
  rw [hd]
  dsimp only
  rw [if_neg (by simp [hmine, hstart]), hbr]
  dsimp only
  rw [hok]
  dsimp only
  rw [if_neg (by simp [hissue, hroom]), if_neg (by simp [hfits]), State.noteReady_bump64_absMin]
  exact ⟨_, (if_neg (ne_true_of_eq_false hopen)).trans (if_neg (ne_true_of_eq_false hin'))⟩

/-! ### The end of a descriptor's work -/

theorem State.endDesc_outcome {i : Nat} (h : s.desc c i = some d) (code detail e : Nat) :
    (s.endDesc c i code detail e).outcome c i = some (code, detail, e) := by
  have hrings : (s.unreserve (Reservation.ofDesc c i)).rings = s.rings := (s.unreserve_moves _).off .rings rfl
  have hd : (s.unreserve (Reservation.ofDesc c i)).desc c i = some d := by
    unfold State.desc State.ring at h ⊢
    rw [hrings]
    exact h
  obtain rfl : d.idx = i := beq_iff_eq.1 (List.find?_some (p := fun y : Desc => y.idx == i) hd)
  have hend : ((s.unreserve (Reservation.ofDesc c d.idx)).setDesc c { d with phase := .ended code detail e }).desc c d.idx =
      some { d with phase := .ended code detail e } :=
    (State.setDesc_stands (d := { d with phase := .ended code detail e }) (List.mem_of_find?_eq_some hd) rfl).desc
  unfold State.endDesc
  dsimp only
  rw [hd]
  dsimp only
  unfold State.outcome
  rw [hend]
  rfl

theorem State.finish_outcome (h : s.Stands c d) (code detail : Nat) : (s.finish c d code detail).outcome c d.idx = some (code, detail, d.epoch) :=
  State.endDesc_outcome h.desc _ _ _

/-- A charge leaves the descriptor in the window with its ENERGY grown (R422). -/
theorem State.chargeDesc_stands (h : s.Stands c d) (uj : Nat) : (s.chargeDesc c d.idx uj).Stands c { d with energy := d.energy + uj } := by
  have hu := h.of_rings ((s.settleDesc_moves c d.idx uj).off .rings rfl)
  unfold State.chargeDesc
  dsimp only
  rw [hu.desc]
  exact State.setDesc_stands hu.mem rfl

theorem State.chargeDesc_desc (h : s.Stands c d) (uj : Nat) : (s.chargeDesc c d.idx uj).desc c d.idx = some { d with energy := d.energy + uj } :=
  (State.chargeDesc_stands h uj).desc

/-- From `s` the work of descriptor `d` ends OK with this DETAIL. -/
structure State.EndsOk (s t : State) (c : Nat) (d : Desc) (detail : Nat) : Prop where
  outcome : t.outcome c d.idx = some (d.okCode, detail, d.epoch)
  moves : Moves 0x1001020 s t

theorem State.charged_endsOk (h : s.Stands c d) (uj detail : Nat) :
    s.EndsOk ((s.chargeDesc c d.idx uj).finishOk c { d with energy := d.energy + uj } detail) c d detail :=
  ⟨State.finish_outcome (State.chargeDesc_stands h uj) _ _, .then (State.finishOk_moves ..) rfl (State.chargeDesc_moves ..)⟩

/-! ### A command that starts a descriptor -/

theorem State.starting_next {f : State → Result} {d0 : Desc} (hd : s.nextDesc c = some d0) (h : f (s.asked c d0.idx) = .next t)
    (hn : t.lnk.need = none) : ∃ u, s.starting c f = .next u ∧ Moves 0x400000 t u := by
  unfold State.starting State.remotely
  unfold State.asked at h
  rw [hd]
  dsimp only
  rw [h]
  dsimp only
  rw [hn]
  exact ⟨_, rfl, .then (State.setLnk_moves ..) rfl (State.setLnk_moves ..)⟩

/-- A command whose start goes on from `s2` to a good end: what it leaves is memory as it stands in `s2`, and what `s2` sent is sent. -/
theorem State.starting_endsOk {f : State → Result} {d0 : Desc} {s2 : State} {detail : Nat} (hd : s.nextDesc c = some d0)
    (h : f (s.asked c d0.idx) = .next t) (he : s2.EndsOk t c d detail) (hn : s2.lnk.need = none) :
    ∃ u, s.starting c f = .next u ∧ u.outcome c d.idx = some (d.okCode, detail, d.epoch) ∧ u.mem = s2.mem ∧ ∀ o ∈ s2.sent, o ∈ u.sent := by
  have hlnk : t.lnk = s2.lnk := he.moves.off .links rfl
  obtain ⟨u, hu, hmoves⟩ := State.starting_next hd h (by rw [hlnk]; exact hn)
  have hrings : u.rings = t.rings := hmoves.off .rings rfl
  have hout : u.outcome c d.idx = t.outcome c d.idx := by
    unfold State.outcome State.desc State.ring
    rw [hrings]
  have hmem : u.mem = t.mem := hmoves.off .memory rfl
  exact ⟨u, hu, hout.trans he.outcome, hmem.trans (he.moves.off .memory rfl), fun o ho => (he.moves.sent.trans hmoves.sent).subset ho⟩

end Sys2Proof.Machine
end

section
/-! PROOFS. NOP, COPY, FILL and SIGNAL: the write that reaches the destination and the good end, and the statement on them (O21). -/

namespace Sys2Proof.Machine

variable {s s1 s2 : State} {c : Nat} {d : Desc} {bs : List Byte}

/-! ### The write that reaches the destination -/

theorem State.putEnd_stands {va : Nat} {host relaxed : Bool} {f : Option XFault} (h : s1.Stands c d)
    (hput : s1.putEnd c d.idx va host relaxed bs = (s2, f)) : s2.Stands c d :=
  h.of_rings ((MovesF.of (State.putEnd_moves ..) hput).off .rings rfl)

/-- With the link up the bytes go to the host in one write (Table 4.1). -/
theorem State.putEnd_host_sent {idx va : Nat} {relaxed : Bool} (hput : s1.putEnd c idx va true relaxed bs = (s2, none))
    (hl : s1.host.linkUp = true) (hbs : bs ≠ []) : .hostWrite (s1.pasid c) relaxed va bs ∈ s2.sent := by
  have hs2 : s1.toHost (.hostWrite (s1.pasid c) relaxed va bs) = s2 := by
    have hwrite : (if bs.isEmpty then s1 else s1.toHost (.hostWrite (s1.pasid c) relaxed va bs)) = s2 := congrArg Prod.fst hput
    rwa [if_neg (by simpa using hbs)] at hwrite
  rw [← hs2, State.toHost, if_pos hl]
  exact List.mem_cons_self

/-- A start keeps the PASID of the context (Table 4.15). -/
theorem State.Began.pasid (h : s.Began s1 c d) (hc : c < 64) : s1.pasid c = s.pasid c := by
  have hreg : s1.reg (0x101C + 0x20 * c) = s.reg (0x101C + 0x20 * c) := h.regs _ (by omega) (by omega) (by omega)
  unfold State.pasid State.rbit State.fld
  rw [hreg]

theorem State.Began.host (h : s.Began s1 c d) : s1.host = s.host := h.moves.off .host rfl

/-- A transfer whose destination takes its bytes ends OK with their number (R102). -/
theorem State.endMove_endsOk {va : Nat} {host : Bool} {counts : List Nat} (h : s1.Stands c d) (hput : s1.putEnd c d.idx va host true bs = (s2, none)) :
    s2.EndsOk (s1.endMove c d va host bs counts) c d bs.length := by
  have hst := State.putEnd_stands h hput
  unfold State.endMove
  rw [hput]
  dsimp only
  rw [State.chargeDesc_desc hst]
  exact State.charged_endsOk hst _ _

/-! ### NOP -/

theorem nop_ends (c : CtxId) (d : Desc) (s s1 : State) (h : s.startsNop c.val = .go d s1) :
    ∃ u, exec (.nop c) s = .next u ∧ u.outcome c.val d.idx = some (d.okCode, Config.freeNat s1.free % 2 ^ 64, d.epoch) ∧ u.mem = s.mem := by
  have hb := State.begin_began h
  have hexec : exec (.nop c) s = .next (s1.takeFree.2.finishOk c.val d (Config.freeNat s1.free % 2 ^ 64)) := by
    change execNop c s = _
    unfold execNop
    unfold State.startsNop at h
    rw [h]
    rfl
  exact ⟨_, hexec, State.finish_outcome (s := s1.takeFree.2) (hb.stands.of_rings rfl) _ _,
    (Moves.then (State.finishOk_moves ..) (m := 0x1005024) rfl (.then s1.takeFree_moves rfl (hb.moves.mono rfl))).off .memory rfl⟩

/-! ### COPY -/

/-- The way of a COPY: neither end lies in a remote window that cannot be reached (R357, R364). -/
structure State.CopyWay (s : State) (c : Nat) (d : Desc) : Prop where
  src : dbit d.words 5 0 = true ∨ s.noWayTo c (dword d.words 2) = none
  dst : dbit d.words 5 1 = true ∨ s.noWayTo c (dword d.words 3) = none

theorem State.CopyWay.noWay_none (h : s.CopyWay c d) : ((if dbit d.words 5 0 then none else s.noWayTo c (dword d.words 2)) <|>
    (if dbit d.words 5 1 then none else s.noWayTo c (dword d.words 3))) = none := by
  have hsrc : (if dbit d.words 5 0 then none else s.noWayTo c (dword d.words 2)) = none := by
    split
    · rfl
    · next hh => exact h.src.resolve_left hh
  have hdst : (if dbit d.words 5 1 then none else s.noWayTo c (dword d.words 3)) = none := by
    split
    · rfl
    · next hh => exact h.dst.resolve_left hh
  rw [hsrc, hdst]
  rfl

theorem copyStart_device {c : CtxId} {data : HostData} (hgo : s.startsCopy c.val = .go d s1) (hway : s1.CopyWay c.val d)
    (hfrom : dbit d.words 5 0 = false) (hread : s1.vread 0 c.val (dword d.words 2) (dword d.words 4) = .ok bs) :
    copyStart c data s = .next (if copyOverlaps d then
        (s1.freeBytes (dword d.words 4)).2.endMove c.val d (dword d.words 3) (dbit d.words 5 1) (s1.freeBytes (dword d.words 4)).1 (s1.copyCounts c.val d)
      else s1.endMove c.val d (dword d.words 3) (dbit d.words 5 1) bs (s1.copyCounts c.val d)) := by
  unfold copyStart
  unfold State.startsCopy at hgo
  rw [hgo]
  dsimp only
  rw [hway.noWay_none]
  dsimp only
  rw [if_neg (by simp [hfrom]), hread]
  dsimp only
  split <;> rfl

theorem copyStart_host {c : CtxId} (hgo : s.startsCopy c.val = .go d s1) (hway : s1.CopyWay c.val d) (hfrom : dbit d.words 5 0 = true)
    (hlen : bs.length = dword d.words 4) : copyStart c (.ok bs) s =
      .next ((s1.send (.hostRead (s1.pasid c.val) (dword d.words 2) (dword d.words 4))).endMove c.val d (dword d.words 3) (dbit d.words 5 1) bs
        (s1.copyCounts c.val d)) := by
  unfold copyStart
  unfold State.startsCopy at hgo
  rw [hgo]
  dsimp only
  rw [hway.noWay_none]
  dsimp only
  rw [if_pos hfrom, if_pos hlen]

theorem copy_device (c : CtxId) (data : HostData) (d0 d : Desc) (bs : List Byte) (s s1 s2 : State) (hd : s.nextDesc c.val = some d0)
    (hgo : (s.asked c.val d0.idx).startsCopy c.val = .go d s1) (hfrom : dbit d.words 5 0 = false)
    (hsrc : s1.noWayTo c.val (dword d.words 2) = none) (hdst : dbit d.words 5 1 = true ∨ s1.noWayTo c.val (dword d.words 3) = none)
    (hread : s1.vread 0 c.val (dword d.words 2) (dword d.words 4) = .ok bs) (hov : copyOverlaps d = false)
    (hput : s1.putEnd c.val d.idx (dword d.words 3) (dbit d.words 5 1) true bs = (s2, none)) (hneed : s2.lnk.need = none) :
    ∃ u, exec (.copy c data) s = .next u ∧ u.outcome c.val d.idx = some (d.okCode, bs.length, d.epoch) ∧ u.mem = s2.mem ∧
      (dbit d.words 5 1 = true → s.host.linkUp = true → bs ≠ [] → .hostWrite (s.pasid c.val) true (dword d.words 3) bs ∈ u.sent) := by
  have hb := State.begin_began hgo
  have hstart := (copyStart_device (data := data) hgo ⟨.inr hsrc, hdst⟩ hfrom hread).trans (congrArg Host.Outcome.next (if_neg (ne_true_of_eq_false hov)))
  obtain ⟨u, hu, hout, hmem, hsent⟩ := State.starting_endsOk hd hstart (State.endMove_endsOk hb.stands hput) hneed
  refine ⟨u, hu, hout, hmem, fun hto hl hbs => hsent _ ?_⟩
  rw [hto] at hput
  have hp : s1.pasid c.val = s.pasid c.val := hb.pasid c.isLt
  exact hp ▸ State.putEnd_host_sent hput (by rw [hb.host]; exact hl) hbs

theorem copy_overlapping (c : CtxId) (data : HostData) (d0 d : Desc) (bs : List Byte) (s s1 s2 : State) (hd : s.nextDesc c.val = some d0)
    (hgo : (s.asked c.val d0.idx).startsCopy c.val = .go d s1) (hsrc : s1.noWayTo c.val (dword d.words 2) = none)
    (hdst : s1.noWayTo c.val (dword d.words 3) = none) (hread : s1.vread 0 c.val (dword d.words 2) (dword d.words 4) = .ok bs)
    (hov : copyOverlaps d = true)
    (hput : (s1.freeBytes (dword d.words 4)).2.putEnd c.val d.idx (dword d.words 3) false true (s1.freeBytes (dword d.words 4)).1 = (s2, none))
    (hneed : s2.lnk.need = none) :
    ∃ u, exec (.copy c data) s = .next u ∧ u.outcome c.val d.idx = some (d.okCode, dword d.words 4, d.epoch) ∧ u.mem = s2.mem := by
  have hb := State.begin_began hgo
  obtain ⟨hfrom, hto⟩ : dbit d.words 5 0 = false ∧ dbit d.words 5 1 = false := by
    unfold copyOverlaps at hov
    simp only [Bool.and_eq_true, Bool.not_eq_true'] at hov
    exact ⟨hov.1.1.1.1, hov.1.1.1.2⟩
  have hstart := (copyStart_device (data := data) hgo ⟨.inr hsrc, .inr hdst⟩ hfrom hread).trans (congrArg Host.Outcome.next (if_pos hov))
  rw [hto] at hstart
  have hst : (s1.freeBytes (dword d.words 4)).2.Stands c.val d := hb.stands.of_rings rfl
  obtain ⟨u, hu, hout, hmem, -⟩ := State.starting_endsOk hd hstart (State.endMove_endsOk hst hput) hneed
  have hlen : (s1.freeBytes (dword d.words 4)).1.length = dword d.words 4 := by simp [State.freeBytes]
  exact ⟨u, hu, hlen ▸ hout, hmem⟩

theorem copy_host (c : CtxId) (d0 d : Desc) (bs : List Byte) (s s1 s2 : State) (hd : s.nextDesc c.val = some d0)
    (hgo : (s.asked c.val d0.idx).startsCopy c.val = .go d s1) (hfrom : dbit d.words 5 0 = true) (hto : dbit d.words 5 1 = false)
    (hdst : s1.noWayTo c.val (dword d.words 3) = none) (hlen : bs.length = dword d.words 4)
    (hput : (s1.send (.hostRead (s1.pasid c.val) (dword d.words 2) (dword d.words 4))).putEnd c.val d.idx (dword d.words 3) false true bs = (s2, none))
    (hneed : s2.lnk.need = none) :
    ∃ u, exec (.copy c (.ok bs)) s = .next u ∧ u.outcome c.val d.idx = some (d.okCode, dword d.words 4, d.epoch) ∧ u.mem = s2.mem ∧
      .hostRead (s.pasid c.val) (dword d.words 2) (dword d.words 4) ∈ u.sent := by
  have hb := State.begin_began hgo
  have hstart := copyStart_host hgo ⟨.inl hfrom, .inr hdst⟩ hfrom hlen
  rw [hto] at hstart
  have hst : (s1.send (.hostRead (s1.pasid c.val) (dword d.words 2) (dword d.words 4))).Stands c.val d := hb.stands.of_rings rfl
  obtain ⟨u, hu, hout, hmem, hsent⟩ := State.starting_endsOk hd hstart (State.endMove_endsOk hst hput) hneed
  have hp : s1.pasid c.val = s.pasid c.val := hb.pasid c.isLt
  exact ⟨u, hu, hlen ▸ hout, hmem, hp ▸ hsent _ ((MovesF.of (State.putEnd_moves ..) hput).sent.subset List.mem_cons_self)⟩

/-! ### FILL and SIGNAL -/

theorem repeated_length (pattern n : Nat) : (repeated pattern n).length = n := by simp [repeated]

theorem fill_ends (c : CtxId) (d0 d : Desc) (s s1 s2 : State) (hd : s.nextDesc c.val = some d0)
    (hgo : (s.asked c.val d0.idx).startsFill c.val = .go d s1) (hdst : dbit d.words 5 1 = true ∨ s1.noWayTo c.val (dword d.words 2) = none)
    (hput : s1.putEnd c.val d.idx (dword d.words 2) (dbit d.words 5 1) true (repeated (dword d.words 4) (dword d.words 3)) = (s2, none))
    (hneed : s2.lnk.need = none) :
    ∃ u, exec (.fill c) s = .next u ∧ u.outcome c.val d.idx = some (d.okCode, dword d.words 3, d.epoch) ∧ u.mem = s2.mem ∧
      (dbit d.words 5 1 = true → s.host.linkUp = true → dword d.words 3 ≠ 0 →
        .hostWrite (s.pasid c.val) true (dword d.words 2) (repeated (dword d.words 4) (dword d.words 3)) ∈ u.sent) := by
  have hb := State.begin_began hgo
  have hlen := repeated_length (dword d.words 4) (dword d.words 3)
  have hend := State.endMove_endsOk (counts := s1.endCounts c.val (dword d.words 2) (dword d.words 3) (dbit d.words 5 1)) hb.stands hput
  have hexec : ∃ u, exec (.fill c) s = .next u ∧ u.outcome c.val d.idx = some (d.okCode, dword d.words 3, d.epoch) ∧ u.mem = s2.mem ∧
      ∀ o ∈ s2.sent, o ∈ u.sent := by
    refine State.starting_endsOk hd ?_ (hlen ▸ hend) hneed
    unfold State.startsFill at hgo
    dsimp only
    rw [hgo]
    dsimp only
    have hway : (if dbit d.words 5 1 then none else s1.noWayTo c.val (dword d.words 2)) = none := by
      split
      · rfl
      · next hh => exact hdst.resolve_left hh
    rw [hway]
  obtain ⟨u, hu, hout, hmem, hsent⟩ := hexec
  refine ⟨u, hu, hout, hmem, fun hto hl hn => hsent _ ?_⟩
  rw [hto] at hput
  have hp : s1.pasid c.val = s.pasid c.val := hb.pasid c.isLt
  exact hp ▸ State.putEnd_host_sent hput (by rw [hb.host]; exact hl) (List.ne_nil_of_length_pos (by omega))

theorem signal_ends (c : CtxId) (d0 d : Desc) (s s1 s2 : State) (hd : s.nextDesc c.val = some d0)
    (hgo : (s.asked c.val d0.idx).startsSignal c.val = .go d s1) (hdst : dbit d.words 5 1 = true ∨ s1.windowOf c.val (dword d.words 2) = none)
    (hput : s1.putEnd c.val d.idx (dword d.words 2) (dbit d.words 5 1) false (leBytes 8 (dword d.words 3)) = (s2, none))
    (hneed : s2.lnk.need = none) :
    ∃ u, exec (.signal c) s = .next u ∧ u.outcome c.val d.idx = some (d.okCode, 0, d.epoch) ∧ u.mem = s2.mem ∧
      (dbit d.words 5 1 = true → s.host.linkUp = true →
        .hostWrite (s.pasid c.val) false (dword d.words 2) (leBytes 8 (dword d.words 3)) ∈ u.sent) := by
  have hb := State.begin_began hgo
  have hst := State.putEnd_stands hb.stands hput
  have hexec : ∃ u, exec (.signal c) s = .next u ∧ u.outcome c.val d.idx = some (d.okCode, 0, d.epoch) ∧ u.mem = s2.mem ∧
      ∀ o ∈ s2.sent, o ∈ u.sent := by
    refine State.starting_endsOk hd ?_
      (State.charged_endsOk hst (s2.moveEnergy (s2.endCounts c.val (dword d.words 2) 8 (dbit d.words 5 1))) 0) hneed
    unfold State.startsSignal at hgo
    dsimp only
    rw [hgo]
    dsimp only
    have hwin : (if dbit d.words 5 1 then none else s1.windowOf c.val (dword d.words 2)) = none := by
      split
      · rfl
      · next hh => exact hdst.resolve_left hh
    rw [hwin]
    dsimp only [Option.bind_none]
    rw [hput]
    simp only [Bool.false_and, Bool.false_eq_true, if_false]
    rw [State.chargeDesc_desc hst]
  obtain ⟨u, hu, hout, hmem, hsent⟩ := hexec
  refine ⟨u, hu, hout, hmem, fun hto hl => hsent _ ?_⟩
  rw [hto] at hput
  have hp : s1.pasid c.val = s.pasid c.val := hb.pasid c.isLt
  exact hp ▸ State.putEnd_host_sent hput (by rw [hb.host]; exact hl) (by simp [leBytes])

/-- Settles O21: a start that goes on leaves the descriptor running in the window, and each kind then ends it after its one write. -/
theorem moveDescriptors : Obligations.MoveDescriptors := by
  refine ⟨fun c mine room est checks d s hd hm hst hbr hok hi hr hf ho hin => ?_, nop_ends, copy_device, copy_overlapping, copy_host, fill_ends, signal_ends⟩
  obtain ⟨s1, hs1⟩ := State.begin_starts hd hm hst hbr hok hi hr hf ho hin
  exact ⟨s1, hs1, (State.begin_began hs1).moves.off .memory rfl⟩

end Sys2Proof.Machine
end

section
/-! PROOFS. The COLLECTIVEs at work in the unit: the entry of a slot's sequence number, a descriptor refused, staging reserved in the order of GO, and the
arrival of a message. -/

namespace Sys2Proof.Machine

variable {s t : State} {g n : Nat} {x y : Coll}

/-! ### A message that arrives (R434) -/

theorem State.arrive_hears (h : s.hears) (i : Instr) (f : State → Result) : s.arrive i f = f s.seen :=
  (if_neg h.1).trans (if_neg (ne_true_of_eq_false h.2))

/-- In Midnight a message changes nothing; in Dusk and Night it waits for the exit that it begins. -/
theorem State.arrive_next (i : Instr) {f : State → Result} (h : ∀ x, ∃ u, f x = .next u) :
    ∃ u, s.arrive i f = .next u ∧ (s.pwr.state = .midnight → u = s) ∧ (s.pwr.state ≠ .midnight → s.asleep = true →
      u = ({ s with pwr := { s.pwr with wakeWork := s.pwr.wakeWork ++ [i] } }).beginExit) := by
  unfold State.arrive
  split
  · next hm => exact ⟨s, rfl, fun _ => rfl, fun hn => absurd hm hn⟩
  · next hm =>
    split
    · exact ⟨_, rfl, fun h => absurd h hm, fun _ _ => rfl⟩
    · next ha =>
      obtain ⟨u, hu⟩ := h { s with pwr := { s.pwr with idleSince := s.pwr.idleSince.map (fun _ => s.absMin) } }
      exact ⟨u, hu, fun h => absurd h hm, fun _ h => absurd h ha⟩

/-! ### The entry of a slot's sequence number -/

theorem State.coll_key (h : s.coll g n = some x) : x.slot = g ∧ x.cseq = n := by
  have hp := List.find?_some (p := fun x : Coll => decide (x.slot = g) && decide (x.cseq = n)) h
  simpa using hp

theorem State.coll_setColl (h : s.coll g n = some x) (hg : y.slot = g) (hn : y.cseq = n) : (s.setColl y).coll g n = some y := by
  obtain ⟨hxg, hxn⟩ := State.coll_key h
  have hkey : (fun z : Coll => decide (z.slot = g) && decide (z.cseq = n)) ∘ (fun z => if z.slot = y.slot ∧ z.cseq = y.cseq then y else z) =
      fun z => decide (z.slot = g) && decide (z.cseq = n) := by
    funext z
    simp only [Function.comp]
    split
    · next hz => rw [hz.1, hz.2]
    · rfl
  change List.find? _ (List.map _ _) = _
  rw [List.find?_map, hkey, show List.find? _ s.col.colls = some x from h, Option.map_some, if_pos ⟨hxg.trans hg.symm, hxn.trans hn.symm⟩]

theorem State.coll_dropColl (s : State) (g n : Nat) : (s.dropColl g n).coll g n = none := by
  refine List.find?_eq_none.2 fun z hz => ?_
  have hf := (List.mem_filter.1 hz).2
  simpa [or_iff_not_imp_left] using hf

/-- Replacing an entry by one that holds no staging frees what its place held. -/
theorem State.staged_setColl_le (h : y.staged = 0) : (s.setColl y).staged ≤ s.staged := by
  have hsum : ∀ l : List Coll, (l.map (fun z => z.staged)).foldl (· + ·) 0 = (l.map (fun z => z.staged)).sum := fun l => List.sum_eq_foldl.symm
  unfold State.staged
  rw [hsum, hsum]
  change ((List.map _ s.col.colls).map _).sum ≤ _
  rw [List.map_map]
  refine List.sum_le_sum fun z _ => ?_
  simp only [Function.comp]
  split
  · omega
  · exact Nat.le_refl _

/-! ### A COLLECTIVE refused (R415) -/

/-- What a refusal leaves: the COLLECTIVE is gone, its descriptor has ended GROUP_REFUSED, and memory stands. -/
structure State.Refused (s u : State) (x : Coll) (d : Desc) (reason : Nat) : Prop where
  gone : u.coll x.slot x.cseq = none
  outcome : u.outcome x.ctx x.idx = some (0x30, reason, d.epoch)
  mem : u.mem = s.mem
  groups : u.col.groups = tabSet (fun _ => GroupSlot.reset) s.col.groups x.slot { s.group x.slot with reason := reason }

theorem State.refuseColl_refused {d : Desc} (hd : s.desc x.ctx x.idx = some d) (reason : Nat) : s.Refused (s.refuseColl x reason) x d reason := by
  unfold State.refuseColl State.groupRefused
  generalize hw : ((s.dropColl x.slot x.cseq).setGroup x.slot { (s.dropColl x.slot x.cseq).group x.slot with reason := reason }).colCount 9 1 = w
  have hwd : w.desc x.ctx x.idx = some d := by rw [← hw]; exact hd
  have hmoves := w.endDesc_moves x.ctx x.idx 0x30 reason (((w.desc x.ctx x.idx).map Desc.epoch).getD 0)
  have hcol : (w.endDesc x.ctx x.idx 0x30 reason (((w.desc x.ctx x.idx).map Desc.epoch).getD 0)).col = w.col := hmoves.off .collectives rfl
  have hmem : (w.endDesc x.ctx x.idx 0x30 reason (((w.desc x.ctx x.idx).map Desc.epoch).getD 0)).mem = w.mem := hmoves.off .memory rfl
  refine ⟨?_, ?_, hmem.trans (by rw [← hw]; rfl), ?_⟩
  · unfold State.coll
    rw [hcol, ← hw]
    exact State.coll_dropColl s x.slot x.cseq
  · have hout := State.endDesc_outcome hwd 0x30 reason (((w.desc x.ctx x.idx).map Desc.epoch).getD 0)
    rw [hout, hwd]
    rfl
  · rw [hcol, ← hw]
    rfl

/-! ### Staging in the order of GO (R390) -/

/-- A COLLECTIVE whose START Minute is still to come does not launch. -/
theorem State.tryLaunch_early {d : Desc} {m : Nat} (hx : s.coll g n = some x) (hd : s.desc x.ctx x.idx = some d) (hm : d.start = some m)
    (h : s.absMin < m) : s.tryLaunch g n = s := by
  unfold State.tryLaunch
  rw [hx]
  dsimp only
  rw [hd, Option.bind_some, hm]
  exact if_pos (.inr (decide_eq_true h))

/-- The only one waiting for staging reserves it when there is room. -/
theorem State.reserveNext_only {d : Desc} {m k : Nat} (ho : s.col.goOrder = [(g, n)]) (hx : s.coll g n = some x)
    (hroom : s.staged + s.stagingFor x.spec ≤ s.stageMib * 0x100000) (hd : s.desc x.ctx x.idx = some d) (hm : d.start = some m) (h : s.absMin < m) :
    s.reserveNext (k + 2) = (s.setCol { s.col with goOrder := [] }).setColl { x with phase := .reserved, staged := s.stagingFor x.spec } := by
  obtain ⟨hg, hn⟩ := State.coll_key hx
  have hy : ((s.setCol { s.col with goOrder := [] }).setColl { x with phase := .reserved, staged := s.stagingFor x.spec }).coll g n =
      some { x with phase := .reserved, staged := s.stagingFor x.spec } := State.coll_setColl (s := s.setCol { s.col with goOrder := [] }) hx hg hn
  rw [State.reserveNext, ho]
  dsimp only
  rw [hx]
  dsimp only
  rw [if_pos hroom]
  exact congrArg (State.reserveNext · (k + 1)) (State.tryLaunch_early hy hd hm h)

end Sys2Proof.Machine
end

section
/-! PROOFS. The agreement on a COLLECTIVE at the leader and at a member, its staging and its launch, and the statement on them (O44). -/

namespace Sys2Proof.Machine

variable {s : State} {n : Nat} {x : Coll}

/-! ### The leader's table (R388) -/

/-- One entry of the leader's table: slot, CSEQ and who announced what. -/
abbrev AnnounceEntry := Nat × Nat × List (Nat × Announce × Bool)

/-- The table once the member at `p` has announced. -/
def announced (table : List AnnounceEntry) (g n p : Nat) (a : Announce) (valid : Bool) : List AnnounceEntry :=
  let old := ((table.find? (fun e => decide (e.1 = g) && decide (e.2.1 = n))).map (fun e => e.2.2)).getD []
  let l := old.filter (fun e => decide (e.1 ≠ p)) ++ [(p, a, valid)]
  if table.any (fun e => decide (e.1 = g) && decide (e.2.1 = n)) then table.map (fun e => if e.1 = g ∧ e.2.1 = n then (g, n, l) else e)
  else table ++ [(g, n, l)]

theorem announced_empty (g n p : Nat) (a : Announce) (valid : Bool) : announced [] g n p a valid = [(g, n, [(p, a, valid)])] := rfl

theorem announced_only (g n p : Nat) (a : Announce) (valid : Bool) (old : List (Nat × Announce × Bool)) :
    announced [(g, n, old)] g n p a valid = [(g, n, old.filter (fun e => decide (e.1 ≠ p)) ++ [(p, a, valid)])] := by
  simp [announced]

/-- The leader takes an ANNOUNCE: it leads the slot, which is alive, and a live member sends it under its epoch. -/
structure State.TakesAnnounce (s : State) (g : Fin 64) (p e : Nat) : Prop where
  alive : (s.group g.val).alive = true
  epoch : e = s.gepoch g.val
  member : p ∈ (s.group g.val).live
  leads : (s.group g.val).leader 128 = some s.position

/-- The state in which the leader answers from a table. -/
def State.withTable (s : State) (t : List AnnounceEntry) : State := s.seen.setCol { s.col with table := t }

theorem exec_announceRx_taken {p e : Nat} {g : Fin 64} {a : Announce} {valid : Bool} (hh : s.hears) (h : s.TakesAnnounce g p e) :
    exec (.announceRx p g e n a valid) s = .next ((s.withTable (announced s.col.table g.val n p a valid)).answerAnnounces
      ((announced s.col.table g.val n p a valid).length + 1)) := by
  obtain ⟨halive, hepoch, hmember, hleads⟩ := h
  change execAnnounceRx p g e n a valid s = _
  unfold execAnnounceRx
  rw [State.arrive_hears hh]
  refine if_neg ?_
  have hok : (!(s.group g.val).alive || decide (e ≠ s.gepoch g.val) || !(s.group g.val).live.contains p ||
      decide ((s.group g.val).leader 128 ≠ some s.position)) = false := by
    simp [halive, hepoch, hmember, hleads]
  exact ne_true_of_eq_false hok

theorem exec_announceRx_ignored (p : Nat) (g : Fin 64) (e n : Nat) (a : Announce) (valid : Bool) (s : State) (hh : s.hears)
    (h : (s.group g.val).alive = false ∨ e ≠ s.gepoch g.val ∨ (s.group g.val).leader 128 ≠ some s.position) :
    ∃ u, exec (.announceRx p g e n a valid) s = .next u ∧ u = s.seen := by
  refine ⟨s.seen, ?_, rfl⟩
  change execAnnounceRx p g e n a valid s = _
  unfold execAnnounceRx
  rw [State.arrive_hears hh]
  refine if_pos ?_
  have hno : (!(s.group g.val).alive || decide (e ≠ s.gepoch g.val) || !(s.group g.val).live.contains p ||
      decide ((s.group g.val).leader 128 ≠ some s.position)) = true := by
    rcases h with h | h | h <;> simp [h]
  exact hno

/-- Whether every live member of slot `g` is among those that announced. -/
abbrev State.allAnnounced (s : State) (g : Nat) (l : List (Nat × Announce × Bool)) : Bool :=
  (s.group g).live.all (fun q => l.any (fun e => decide (e.1 = q)))

theorem State.answerAnnounces_empty {k : Nat} (h : s.col.table = []) : s.answerAnnounces k = s := by
  cases k with
  | zero => rfl
  | succ k => rw [State.answerAnnounces, h]; rfl

theorem State.find_allAnnounced {g : Nat} {l : List (Nat × Announce × Bool)} (h : s.col.table = [(g, n, l)]) :
    (s.col.table.take 64).find? (fun e => (s.group e.1).live.all (fun p => e.2.2.any (fun a => decide (a.1 = p)))) =
      if s.allAnnounced g l then some (g, n, l) else none := by
  rw [h]
  simp only [List.take_succ_cons, List.take_nil, List.find?_cons, List.find?_nil]
  split <;> simp_all

/-- The leader waits for the members that have not announced. -/
theorem State.answerAnnounces_waits {k g : Nat} {l : List (Nat × Announce × Bool)} (h : s.col.table = [(g, n, l)])
    (hl : s.allAnnounced g l = false) : s.answerAnnounces k = s := by
  cases k with
  | zero => rfl
  | succ k => rw [State.answerAnnounces, State.find_allAnnounced h, if_neg (ne_true_of_eq_false hl)]

/-- What an answer leaves: the entry is gone from the table, these are the slots, and memory stands. -/
structure State.Answered (s u : State) (groups : Tab GroupSlot) : Prop where
  table : u.col.table = []
  groups : u.col.groups = groups
  mem : u.mem = s.mem

theorem State.tell_answered {w : State} (ps : List Nat) (kind : MsgKind) (args : List Nat) (k : Nat) (ht : w.col.table = [])
    (hm : w.mem = s.mem) : s.Answered ((w.tell ps kind args).answerAnnounces k) w.col.groups := by
  have hcol : (w.tell ps kind args).col = w.col := (State.tell_moves ..).off .collectives rfl
  have hmem : (w.tell ps kind args).mem = w.mem := (State.tell_moves ..).off .memory rfl
  rw [State.answerAnnounces_empty (by rw [hcol, ht])]
  exact ⟨by rw [hcol, ht], by rw [hcol], hmem.trans hm⟩

theorem State.leaderReason_setCol (s : State) (u : ColUnit) (g : GroupSlot) (l : List (Nat × Announce × Bool)) :
    (s.setCol u).leaderReason g l = s.leaderReason g l := rfl

section

variable {g k : Nat} {l : List (Nat × Announce × Bool)} (h : s.col.table = [(g, n, l)]) (hl : s.allAnnounced g l = true) (hne : l ≠ [])

include h hl hne

/-- All have announced, and the leader finds a failing reason: the members are refused. -/
theorem State.answerAnnounces_refuse {r : Nat} (hr : s.leaderReason (s.group g) l = some r) : s.Answered (s.answerAnnounces (k + 1)) s.col.groups := by
  obtain ⟨e, rest, rfl⟩ := List.exists_cons_of_ne_nil hne
  rw [State.answerAnnounces, State.find_allAnnounced h, if_pos hl]
  dsimp only
  rw [State.leaderReason_setCol, hr]
  exact State.tell_answered (w := s.setCol { s.col with table := s.col.table.filter (fun e => !(decide (e.1 = g) && decide (e.2.1 = n))) }) _ _ _ _
    (by change List.filter _ s.col.table = []; rw [h]; simp) rfl

/-- All have announced, and the leader finds none: the CSEQ receives GO. -/
theorem State.answerAnnounces_go (hr : s.leaderReason (s.group g) l = none) : s.Answered (s.answerAnnounces (k + 1))
    (tabSet (fun _ => GroupSlot.reset) s.col.groups g { s.group g with goMax := maxGo (s.group g).goMax n }) := by
  obtain ⟨e, rest, rfl⟩ := List.exists_cons_of_ne_nil hne
  rw [State.answerAnnounces, State.find_allAnnounced h, if_pos hl]
  dsimp only
  rw [State.leaderReason_setCol, hr]
  exact State.tell_answered (w := (s.setCol { s.col with table := s.col.table.filter (fun e => !(decide (e.1 = g) && decide (e.2.1 = n))) }).setGroup g
    { s.group g with goMax := maxGo (s.group g).goMax n }) _ _ _ _ (by change List.filter _ s.col.table = []; rw [h]; simp) rfl

end

theorem announceRx_waits (p : Nat) (g : Fin 64) (e n : Nat) (a : Announce) (valid : Bool) (s : State) (hh : s.hears) (h : s.TakesAnnounce g p e)
    (ht : s.col.table = []) (hl : (s.group g.val).live.any (fun q => decide (q ≠ p)) = true) :
    ∃ u, exec (.announceRx p g e n a valid) s = .next u ∧ u.col.table = [(g.val, n, [(p, a, valid)])] ∧ u.mem = s.mem := by
  have hwaits : s.allAnnounced g.val [(p, a, valid)] = false := by
    obtain ⟨q, hq, hne⟩ := List.any_eq_true.1 hl
    refine List.all_eq_false.2 ⟨q, hq, ?_⟩
    have hpq : ¬p = q := fun heq => of_decide_eq_true hne heq.symm
    simp [hpq]
  refine ⟨_, exec_announceRx_taken hh h, ?_⟩
  rw [ht, announced_empty, State.answerAnnounces_waits (s := s.withTable _) rfl hwaits]
  exact ⟨rfl, rfl⟩

/-- The announcements of the only entry once the last member has sent its own. -/
theorem allAnnounced_last {g p : Nat} {a : Announce} {valid : Bool} {old : List (Nat × Announce × Bool)}
    (h : (s.group g).live.all (fun q => decide (q = p) || old.any (fun e => decide (e.1 = q))) = true) :
    s.allAnnounced g (old.filter (fun e => decide (e.1 ≠ p)) ++ [(p, a, valid)]) = true := by
  refine List.all_eq_true.2 fun q hq => ?_
  have hq' := List.all_eq_true.1 h q hq
  by_cases hqp : q = p
  · simp [hqp]
  · simp only [hqp, decide_false, Bool.false_or, List.any_eq_true] at hq'
    obtain ⟨e, he, heq⟩ := hq'
    refine List.any_eq_true.2 ⟨e, List.mem_append_left _ (List.mem_filter.2 ⟨he, ?_⟩), heq⟩
    simpa [of_decide_eq_true heq] using hqp

theorem announceRx_go (p : Nat) (g : Fin 64) (e n : Nat) (a : Announce) (valid : Bool) (old : List (Nat × Announce × Bool)) (s : State)
    (hh : s.hears) (h : s.TakesAnnounce g p e) (ht : s.col.table = [(g.val, n, old)])
    (hl : (s.group g.val).live.all (fun q => decide (q = p) || old.any (fun x => decide (x.1 = q))) = true)
    (hr : s.leaderReason (s.group g.val) (old.filter (fun x => decide (x.1 ≠ p)) ++ [(p, a, valid)]) = none) :
    ∃ u, exec (.announceRx p g e n a valid) s = .next u ∧ u.col.table = [] ∧ (u.group g.val).goMax = maxGo (s.group g.val).goMax n ∧ u.mem = s.mem := by
  refine ⟨_, exec_announceRx_taken hh h, ?_⟩
  rw [ht, announced_only, List.length_singleton]
  obtain ⟨htable, hgroups, hmem⟩ := State.answerAnnounces_go (k := 1) (s := s.withTable _) rfl
    (allAnnounced_last (valid := valid) (a := a) hl) (by simp) hr
  refine ⟨htable, ?_, hmem⟩
  unfold State.group at hgroups ⊢
  rw [hgroups, tabGet_tabSet_ne]
  · rfl
  · exact fun heq => nomatch congrArg GroupSlot.goMax heq

theorem announceRx_refuse (p : Nat) (g : Fin 64) (e n r : Nat) (a : Announce) (valid : Bool) (old : List (Nat × Announce × Bool)) (s : State)
    (hh : s.hears) (h : s.TakesAnnounce g p e) (ht : s.col.table = [(g.val, n, old)])
    (hl : (s.group g.val).live.all (fun q => decide (q = p) || old.any (fun x => decide (x.1 = q))) = true)
    (hr : s.leaderReason (s.group g.val) (old.filter (fun x => decide (x.1 ≠ p)) ++ [(p, a, valid)]) = some r) :
    ∃ u, exec (.announceRx p g e n a valid) s = .next u ∧ u.col.table = [] ∧ (u.group g.val).goMax = (s.group g.val).goMax ∧ u.mem = s.mem := by
  refine ⟨_, exec_announceRx_taken hh h, ?_⟩
  rw [ht, announced_only, List.length_singleton]
  obtain ⟨htable, hgroups, hmem⟩ := State.answerAnnounces_refuse (k := 1) (s := s.withTable _) rfl
    (allAnnounced_last (valid := valid) (a := a) hl) (by simp) hr
  refine ⟨htable, ?_, hmem⟩
  unfold State.group
  rw [hgroups]
  rfl

end Sys2Proof.Machine
end

section
/-! PROOFS. GO, REFUSE, staging and the launch of a COLLECTIVE at a member, and the statement on the agreement (O44). -/

namespace Sys2Proof.Machine

variable {s : State} {n : Nat} {x : Coll} {d : Desc}

/-! ### GO and REFUSE (R388 to R390) -/

/-- The COLLECTIVE that a GO or REFUSE under epoch `e` is for: announced here, under the slot's epoch. -/
abbrev State.awaited (s : State) (g e n : Nat) : Option Coll :=
  (s.coll g n).filter (fun x => decide (x.phase = .announced) && decide (e = s.gepoch g))

theorem State.awaited_some {g e : Nat} (hx : s.coll g n = some x) (hp : x.phase = .announced) (he : e = s.gepoch g) : s.awaited g e n = some x := by
  unfold State.awaited
  rw [hx, Option.filter_some, hp, he]
  simp

theorem State.awaited_none {g e : Nat} (h : s.coll g n = none ∨ e ≠ s.gepoch g) : s.awaited g e n = none := by
  unfold State.awaited
  rcases h with h | h
  · rw [h]; rfl
  · simp [h]

/-- The state in which a GO acts: the slot has noted its CSEQ. -/
def State.noteGo (s : State) (g n : Nat) : State := s.seen.setGroup g { s.group g with goMax := maxGo (s.group g).goMax n }

/-- The state in which a COLLECTIVE that received GO waits for its staging. -/
def State.queued (s : State) (g n : Nat) (x : Coll) (ring : Bool) : State :=
  let s1 := (s.noteGo g n).setColl { x with phase := .staging, ring := ring }
  s1.setCol { s1.col with goOrder := s1.col.goOrder ++ [(g, n)] }

theorem exec_goRx {g : Fin 64} {e : Nat} {ring : Bool} (hh : s.hears) (hx : s.coll g.val n = some x) (hp : x.phase = .announced)
    (he : e = s.gepoch g.val) : exec (.goRx g e n ring) s = .next (if s.stageMib * 0x100000 < s.stagingFor x.spec then (s.noteGo g.val n).refuseColl x 8
      else (s.queued g.val n x ring).reserveNext (s.col.goOrder.length + 2)) := by
  change execGoRx g e n ring s = _
  unfold execGoRx
  rw [State.arrive_hears hh]
  have hawaited : s.seen.awaited g.val e n = some x := State.awaited_some (s := s.seen) hx hp he
  unfold State.awaited at hawaited
  dsimp only
  rw [hawaited]
  dsimp only
  change (if s.stageMib * 0x100000 < s.stagingFor x.spec then _ else _) = _
  split <;> rfl

theorem goRx_refused (g : Fin 64) (e n : Nat) (ring : Bool) (x : Coll) (d : Desc) (s : State) (hh : s.hears) (hx : s.coll g.val n = some x)
    (hp : x.phase = .announced) (he : e = s.gepoch g.val) (hbig : s.stageMib * 0x100000 < s.stagingFor x.spec) (hd : s.desc x.ctx x.idx = some d) :
    ∃ u, exec (.goRx g e n ring) s = .next u ∧ u.coll g.val n = none ∧ u.outcome x.ctx x.idx = some (0x30, 8, d.epoch) ∧ u.mem = s.mem := by
  obtain ⟨hg, hn⟩ := State.coll_key hx
  obtain ⟨hgone, hout, hmem, -⟩ := State.refuseColl_refused (s := s.noteGo g.val n) (x := x) (d := d) hd 8
  rw [hg, hn] at hgone
  exact ⟨_, (exec_goRx hh hx hp he).trans (congrArg Host.Outcome.next (if_pos hbig)), hgone, hout, hmem⟩

/-- What the reservation of staging leaves: the COLLECTIVE reserved, nothing else waiting, memory as it was. -/
theorem State.reserveNext_reserved {g m k : Nat} (ho : s.col.goOrder = [(g, n)]) (hx : s.coll g n = some x)
    (hroom : s.staged + s.stagingFor x.spec ≤ s.stageMib * 0x100000) (hd : s.desc x.ctx x.idx = some d) (hm : d.start = some m) (h : s.absMin < m) :
    (s.reserveNext (k + 2)).coll g n = some { x with phase := .reserved, staged := s.stagingFor x.spec } ∧
      (s.reserveNext (k + 2)).col.goOrder = [] ∧ (s.reserveNext (k + 2)).mem = s.mem := by
  obtain ⟨hg, hn⟩ := State.coll_key hx
  rw [State.reserveNext_only ho hx hroom hd hm h]
  exact ⟨State.coll_setColl (s := s.setCol { s.col with goOrder := [] }) hx hg hn, rfl, rfl⟩

theorem goRx_reserves (g : Fin 64) (e n m : Nat) (ring : Bool) (x : Coll) (d : Desc) (s : State) (hh : s.hears) (hx : s.coll g.val n = some x)
    (hp : x.phase = .announced) (he : e = s.gepoch g.val) (ho : s.col.goOrder = []) (hroom : s.staged + s.stagingFor x.spec ≤ s.stageMib * 0x100000)
    (hst : x.staged = 0) (hd : s.desc x.ctx x.idx = some d) (hm : d.start = some m) (h : s.absMin < m) :
    ∃ u, exec (.goRx g e n ring) s = .next u ∧ u.coll g.val n = some { x with phase := .reserved, ring := ring, staged := s.stagingFor x.spec } ∧
      u.col.goOrder = [] ∧ u.mem = s.mem := by
  obtain ⟨hg, hn⟩ := State.coll_key hx
  have hexec := (exec_goRx (ring := ring) hh hx hp he).trans (congrArg Host.Outcome.next (if_neg (by omega)))
  rw [ho] at hexec
  have hless : (s.queued g.val n x ring).staged ≤ s.staged := State.staged_setColl_le (s := s.noteGo g.val n) (y := { x with phase := .staging, ring := ring }) hst
  have horder : (s.queued g.val n x ring).col.goOrder = [(g.val, n)] := congrArg (· ++ [(g.val, n)]) ho
  exact ⟨_, hexec, State.reserveNext_reserved (s := s.queued g.val n x ring) (x := { x with phase := .staging, ring := ring }) (k := 0) horder
    (State.coll_setColl (s := s.noteGo g.val n) hx hg hn) (Nat.le_trans (Nat.add_le_add_right hless _) hroom) hd hm h⟩

theorem refuseRx_refused (g : Fin 64) (e n r : Nat) (x : Coll) (d : Desc) (s : State) (hh : s.hears) (hx : s.coll g.val n = some x)
    (hp : x.phase = .announced) (he : e = s.gepoch g.val) (hd : s.desc x.ctx x.idx = some d)
    (hwf : tabWf (fun _ => GroupSlot.reset) s.col.groups = true) :
    ∃ u, exec (.refuseRx g e n r) s = .next u ∧ u.coll g.val n = none ∧ u.outcome x.ctx x.idx = some (0x30, r, d.epoch) ∧
      (u.group g.val).reason = r ∧ u.mem = s.mem := by
  obtain ⟨hg, hn⟩ := State.coll_key hx
  obtain ⟨hgone, hout, hmem, hgroups⟩ := State.refuseColl_refused (s := s.seen) (x := x) (d := d) hd r
  rw [hg, hn] at hgone
  have hexec : exec (.refuseRx g e n r) s = .next (s.seen.refuseColl x r) := by
    change execRefuseRx g e n r s = _
    unfold execRefuseRx
    rw [State.arrive_hears hh]
    have hawaited : s.seen.awaited g.val e n = some x := State.awaited_some (s := s.seen) hx hp he
    unfold State.awaited at hawaited
    rw [hawaited]
  refine ⟨_, hexec, hgone, hout, ?_, hmem⟩
  unfold State.group
  rw [hgroups, hg, tabGet_tabSet_same (fun _ => GroupSlot.reset) _ _ _ hwf]

theorem agreement_ignored (g : Fin 64) (e n r : Nat) (ring : Bool) (i : Instr) (s : State) (hh : s.hears) (h : s.coll g.val n = none ∨ e ≠ s.gepoch g.val)
    (hi : i = .goRx g e n ring ∨ i = .refuseRx g e n r) : ∃ u, exec i s = .next u ∧ u = s.seen := by
  have hnone : s.seen.awaited g.val e n = none := State.awaited_none (s := s.seen) h
  unfold State.awaited at hnone
  refine ⟨s.seen, ?_, rfl⟩
  rcases hi with rfl | rfl
  · change execGoRx g e n ring s = _
    unfold execGoRx
    rw [State.arrive_hears hh]
    dsimp only
    rw [hnone]
  · change execRefuseRx g e n r s = _
    unfold execRefuseRx
    rw [State.arrive_hears hh]
    rw [hnone]

/-! ### Staging and launch (R389, R390) -/

theorem stagingReserved_reserves (g n m : Nat) (x : Coll) (d : Desc) (s : State) (ho : s.col.goOrder = [(g, n)]) (hx : s.coll g n = some x)
    (hroom : s.staged + s.stagingFor x.spec ≤ s.stageMib * 0x100000) (hd : s.desc x.ctx x.idx = some d) (hm : d.start = some m) (h : s.absMin < m) :
    ∃ u, exec .stagingReserved s = .next u ∧ u.coll g n = some { x with phase := .reserved, staged := s.stagingFor x.spec } ∧ u.col.goOrder = [] ∧
      u.mem = s.mem := by
  have hexec : exec .stagingReserved s = .next (s.reserveNext (s.col.goOrder.length + 1)) := rfl
  rw [ho] at hexec
  exact ⟨_, hexec, State.reserveNext_reserved (k := 0) ho hx hroom hd hm h⟩

theorem stagingReserved_nothing (s : State) (ho : s.col.goOrder = []) : ∃ u, exec .stagingReserved s = .next u ∧ u = s := by
  have hexec : exec .stagingReserved s = .next (s.reserveNext (s.col.goOrder.length + 1)) := rfl
  refine ⟨_, hexec, ?_⟩
  rw [State.reserveNext, ho]

/-- The COLLECTIVE as it begins to move data: its own elements in place, nothing sent, nothing received. -/
def Coll.started (x : Coll) (g : GroupSlot) (own now : Nat) (bs : List Byte) : Coll :=
  { x with phase := .running, buf := x.fill g own bs, last := now, stage := 0, got := [], partials := [], delivered := [], outq := [], sent := [] }

/-- A BROADCAST in trees of which nothing has come has work left as long as its data has chunks. -/
theorem Coll.workDone_started {g : GroupSlot} {own now : Nat} {bs : List Byte} (hop : x.spec.op = 3) (hr : x.ring = false)
    (hk : 0 < x.treeChunks g.live.length) : (x.started g own now bs).workDone g own = false := by
  have hdown : ∀ k i, (x.started g own now bs).goesDown g k i = true := fun k i => by
    unfold Coll.goesDown
    rw [show (x.started g own now bs).spec.op = 3 from hop]
    rfl
  unfold Coll.workDone
  rw [show (x.started g own now bs).ring = false from hr]
  dsimp only
  rw [if_neg (by decide), Bool.and_eq_false_iff]
  refine .inr (List.all_eq_false.2 ⟨0, List.mem_range.2 hk, ?_⟩)
  rw [hdown, Bool.not_true, Bool.false_or]
  exact Bool.false_ne_true

/-- A BROADCAST in trees whose data comes from another member has nothing to do until a chunk comes. -/
theorem State.runColl_waits {k : Nat} (hx : s.coll x.slot n = some x) (hp : x.phase = .running) (he : x.early = []) (hr : x.ring = false)
    (hq : x.outq = []) (hw : x.workDone (s.group x.slot) s.position = false) : s.runColl x.slot n k = s := by
  have hpump : ∀ j, s.pumpColl x.slot n j = s := fun j => by
    cases j with
    | zero => rfl
    | succ j => rw [State.pumpColl, hx]; dsimp only; rw [hq]
  have htake : s.takeOne x (s.group x.slot) = none := by rw [State.takeOne, he]; rfl
  cases k with
  | zero => rfl
  | succ k =>
    rw [State.runColl, hx]
    dsimp only
    rw [if_neg (by simp [hp]), htake, hr, hpump, hw]
    simp

/-- A BROADCAST in trees rooted at another member begins by waiting for its chunks (R394). -/
theorem State.beginColl_broadcast (hx : s.coll x.slot x.cseq = some x) (hop : x.spec.op = 3) (hroot : x.spec.root ≠ s.position) (hr : x.ring = false)
    (he : x.early = []) (hk : 0 < x.treeChunks (s.group x.slot).live.length) :
    s.beginColl x [] = s.setColl (x.started (s.group x.slot) s.position s.absMin []) := by
  have hcoll := State.coll_setColl (y := x.started (s.group x.slot) s.position s.absMin []) hx rfl rfl
  unfold State.beginColl
  refine (if_neg (ne_true_of_eq_false hr)).trans ?_
  refine (congrArg (State.runColl · x.slot x.cseq _)
    (List.foldl_fixed' (a := s.setColl (x.started (s.group x.slot) s.position s.absMin [])) (fun k => ?_) _)).trans ?_
  · dsimp only
    split
    · rfl
    · rw [if_pos hop, if_neg hroot]
  · exact State.runColl_waits (x := x.started (s.group x.slot) s.position s.absMin []) hcoll rfl he hr rfl (Coll.workDone_started hop hr hk)

theorem State.tryLaunch_begins {g : Nat} (hx : s.coll g n = some x) (hd : s.desc x.ctx x.idx = some d)
    (hm : (d.start.all fun m => decide (m ≤ s.absMin)) = true) (hp : x.phase = .reserved) (hreads : x.reads s.position = false) :
    s.tryLaunch g n = s.beginColl x [] := by
  unfold State.tryLaunch
  rw [hx]
  dsimp only
  rw [hd, Option.bind_some]
  cases hstart : d.start with
  | none => exact (if_neg (by simp [hp])).trans (if_neg (ne_true_of_eq_false hreads))
  | some m =>
    rw [hstart, Option.all_some] at hm
    have hmin : m ≤ s.absMin := of_decide_eq_true hm
    exact (if_neg (by simp [hp, hmin])).trans (if_neg (ne_true_of_eq_false hreads))

theorem launch_broadcast (g : Fin 64) (n : Nat) (x : Coll) (d : Desc) (s : State) (ht : s.turn (.launch g.val n) = true) (hx : s.coll g.val n = some x)
    (hp : x.phase = .reserved) (hd : s.desc x.ctx x.idx = some d) (hm : (d.start.all fun m => decide (m ≤ s.absMin)) = true) (hop : x.spec.op = 3)
    (hroot : x.spec.root ≠ s.position) (hr : x.ring = false) (he : x.early = []) (hk : 0 < x.treeChunks (s.group g.val).live.length) :
    ∃ u, exec (.collectiveLaunch g n) s = .next u ∧ u.mem = s.mem ∧
      u.coll g.val n = some (x.started (s.group g.val) s.position s.absMin []) := by
  obtain ⟨hg, hn⟩ := State.coll_key hx
  have hreads : x.reads s.position = false := by simp [Coll.reads, hop, hroot]
  have hlaunch : (s.fired (.launch g.val n)).tryLaunch g.val n =
      (s.fired (.launch g.val n)).setColl (x.started (s.group g.val) s.position s.absMin []) := by
    rw [State.tryLaunch_begins (by exact hx) (by exact hd) (by exact hm) hp (by exact hreads)]
    have hx' : s.coll x.slot x.cseq = some x := by rw [hg, hn, hx]
    have hb := State.beginColl_broadcast (s := s.fired (.launch g.val n)) hx' hop hroot hr he (by rw [hg]; exact hk)
    rw [hg] at hb
    exact hb
  refine ⟨_, if_pos ht, ?_⟩
  rw [hlaunch]
  exact ⟨rfl, State.coll_setColl (s := s.fired (.launch g.val n)) hx hg hn⟩

theorem launch_outOfTurn (g : Fin 64) (n : Nat) (s : State) (h : s.turn (.launch g.val n) = false) :
    ∃ u, exec (.collectiveLaunch g n) s = .next u ∧ u = s := ⟨s, if_neg (ne_true_of_eq_false h), rfl⟩

/-- Each message of the agreement arrives as R434 says. -/
theorem agreement_arrives (p : Nat) (g : Fin 64) (e n r : Nat) (a : Announce) (valid ring : Bool) (i : Instr) (s : State)
    (hi : i = .announceRx p g e n a valid ∨ i = .goRx g e n ring ∨ i = .refuseRx g e n r) :
    ∃ u, exec i s = .next u ∧ (s.pwr.state = .midnight → u = s) ∧ (s.pwr.state ≠ .midnight → s.asleep = true →
      u = ({ s with pwr := { s.pwr with wakeWork := s.pwr.wakeWork ++ [i] } }).beginExit) := by
  rcases hi with rfl | rfl | rfl
  · change ∃ u, execAnnounceRx p g e n a valid s = .next u ∧ _
    unfold execAnnounceRx
    refine State.arrive_next _ fun x => ?_
    dsimp only
    split <;> exact ⟨_, rfl⟩
  · change ∃ u, execGoRx g e n ring s = .next u ∧ _
    unfold execGoRx
    refine State.arrive_next _ fun x => ?_
    split
    · exact ⟨_, rfl⟩
    · dsimp only
      split <;> exact ⟨_, rfl⟩
  · change ∃ u, execRefuseRx g e n r s = .next u ∧ _
    unfold execRefuseRx
    refine State.arrive_next _ fun x => ?_
    split <;> exact ⟨_, rfl⟩

/-- Settles O44: the leader's table, the member's entry, the order of GO and the launch, each by the lemma on its operation. -/
theorem collectiveAgreement : Obligations.CollectiveAgreement :=
  ⟨fun p g e n a valid s hh ha he hm hl ht hw => announceRx_waits p g e n a valid s hh ⟨ha, he, hm, hl⟩ ht hw,
   fun p g e n a valid old s hh ha he hm hl ht hall hr => announceRx_go p g e n a valid old s hh ⟨ha, he, hm, hl⟩ ht hall hr,
   fun p g e n r a valid old s hh ha he hm hl ht hall hr => announceRx_refuse p g e n r a valid old s hh ⟨ha, he, hm, hl⟩ ht hall hr,
   goRx_refused, goRx_reserves, refuseRx_refused, stagingReserved_reserves, launch_broadcast, exec_announceRx_ignored, agreement_ignored,
   stagingReserved_nothing, launch_outOfTurn, agreement_arrives⟩

end Sys2Proof.Machine
end

section
/-! PROOFS. What bank dies and bridges keep: a projection of every bank die read alike before and after, what a bridge's sender leaves of them, and that only
frames leave by it. -/

namespace Sys2Proof.Machine

variable {α β : Type} {f : Bank → α} {o s t : State}

/-! ### Reads of bank dies -/

/-- What is not the unlisted bank die is read back from any table. -/
theorem State.bank_setBank_ne (s : State) {n : Nat} {b : Bank} (h : b ≠ Bank.reset) : (s.setBank n b).bank n = b :=
  tabGet_tabSet_ne _ s.banks n b h

/-- A bank die that is not down is not the unlisted one. -/
theorem Bank.ne_reset_of_phase {b : Bank} (h : b.phase ≠ .down) : b ≠ Bank.reset := fun e => h (congrArg Bank.phase e)

/-- A bank die whose bridge is not down is not the unlisted one. -/
theorem Bank.ne_reset_of_bridge {b : Bank} (h : b.bridge ≠ .down) : b ≠ Bank.reset := fun e => h (congrArg Bank.bridge e)

/-- What `f` shows of every bank die is the same before and after, where the table is canonical or shows more than the unlisted bank die. -/
structure BankKept (f : Bank → α) (s t : State) : Prop where
  wf : tabWf (fun _ => Bank.reset) s.banks = true → tabWf (fun _ => Bank.reset) t.banks = true
  keeps : ∀ n, tabWf (fun _ => Bank.reset) s.banks = true ∨ f (s.bank n) ≠ f Bank.reset → f (t.bank n) = f (s.bank n)

theorem BankKept.refl (f : Bank → α) (s : State) : BankKept f s s := ⟨id, fun _ _ => rfl⟩

theorem BankKept.then (h' : BankKept f s t) (h : BankKept f o s) : BankKept f o t :=
  ⟨h'.wf ∘ h.wf, fun n hn => by
    have e := h.keeps n hn
    exact (h'.keeps n (hn.imp h.wf (by rw [e]; exact id))).trans e⟩

theorem BankKept.ite {c : Prop} [Decidable c] {a b : State} (ha : BankKept f o a) (hb : BankKept f o b) : BankKept f o (if c then a else b) := by
  split <;> assumption

theorem BankKept.foldl {γ : Type} {g : State → γ → State} (l : List γ) (h : BankKept f o s) (hg : ∀ x a, BankKept f x (g x a)) :
    BankKept f o (l.foldl g s) := by
  induction l generalizing s with
  | nil => exact h
  | cons a l ih => exact ih ((hg s a).then h)

/-- What shows less keeps as well. -/
theorem BankKept.comp (h : BankKept f s t) (g : α → β) : BankKept (fun b => g (f b)) s t :=
  ⟨h.wf, fun n hn => congrArg g (h.keeps n (hn.imp_right fun hne e => hne (congrArg g e)))⟩

/-- What leaves the bank dies keeps everything of them. -/
theorem Moves.bankKept {m : Nat} (h : Moves m s t) (hm : m.testBit 10 = false) : BankKept f s t := by
  have hb : t.banks = s.banks := h.off .banks hm
  exact ⟨fun w => hb ▸ w, fun n _ => by rw [State.bank, hb]; rfl⟩

theorem State.setBank_bankKept (s : State) (n : Nat) {b : Bank} (hb : f b = f (s.bank n)) : BankKept f s (s.setBank n b) :=
  ⟨fun w => tabWf_tabSet _ _ _ _ w, fun m hm => by
    by_cases h : m = n
    · subst h
      rcases hm with w | hne
      · rw [State.bank_setBank_same w, hb]
      · rw [State.bank_setBank_ne s (fun e => hne (by rw [← hb, e])), hb]
    · rw [State.bank_setBank_other s b h]⟩

/-! ### What a bridge's sender leaves of its bank die (R66, R67, R81) -/

/-- A direction but for what sending changes of it. -/
def BridgeDir.still (d : BridgeDir) : BridgeDir := { d with queue := [], nextSeq := 0, unacked := [], credits := [], rr := 0, owed := [] }

/-- A bank die but for what the senders of its bridge change. -/
def Bank.still (b : Bank) : Bank := { b with h2b := b.h2b.still, b2h := b.b2h.still }

/-- A bank die but for what the senders of its bridge and the writes that wait for it change. -/
def Bank.core (b : Bank) : Bank := { b.still with waiting := [] }

theorem Bank.still_setDir {b : Bank} {toBank : Bool} {d : BridgeDir} (h : d.still = (b.dir toBank).still) : (b.setDir toBank d).still = b.still := by
  cases toBank
  · exact congrArg (fun d => { b.still with b2h := d }) h
  · exact congrArg (fun d => { b.still with h2b := d }) h

/-- What the senders leave, and what they do with a direction's number: the two shown. -/
theorem Bank.dir_still {b b' : Bank} (h : b'.still = b.still) (toBank : Bool) : (b'.dir toBank).still = (b.dir toBank).still := by
  cases toBank
  · exact (congrArg Bank.b2h h :)
  · exact (congrArg Bank.h2b h :)

theorem Bank.expect_of_still {b b' : Bank} (h : b'.still = b.still) (toBank : Bool) : (b'.dir toBank).expect = (b.dir toBank).expect :=
  (congrArg BridgeDir.expect (Bank.dir_still h toBank) :)

theorem Bank.carries_of_still {b b' : Bank} (h : b'.still = b.still) : b'.carries = b.carries := by
  have hb : b'.bridge = b.bridge := (congrArg Bank.bridge h :)
  have hp : b'.phase = b.phase := (congrArg Bank.phase h :)
  rw [Bank.carries, Bank.carries, hb, hp]

theorem Bank.bridge_ne_down_of_carries {b : Bank} (h : b.carries = true) : b.bridge ≠ .down := by
  intro e
  simp [Bank.carries, e] at h

/-- A bank die whose bridge carries frames shows more than the unlisted one. -/
theorem Bank.still_ne_of_carries {b : Bank} (h : b.carries = true) : b.still ≠ Bank.reset.still := fun e =>
  Bank.bridge_ne_down_of_carries h (congrArg Bank.bridge e)

theorem BridgeDir.owes_still (d : BridgeDir) : d.owes.2.still = d.still := by
  unfold BridgeDir.owes
  split <;> rfl

theorem BridgeDir.pick_still (k : Nat) (d : BridgeDir) : (d.pick k).2.still = d.still := by
  induction k generalizing d with
  | zero => rfl
  | succ k ih =>
    unfold BridgeDir.pick
    split
    · rfl
    · split
      · rfl
      · exact ih _

/-- What the sender of a bridge does: it leaves the bank dies still, and only frames leave by it. -/
structure Framed (s t : State) : Prop where
  banks : BankKept Bank.still s t
  frames : ∀ x ∈ t.sent, x ∈ s.sent ∨ ∃ n d bs, x = .bridgeFrame n d bs

theorem Framed.refl (s : State) : Framed s s := ⟨.refl _ s, fun _ h => .inl h⟩

theorem Framed.then (h' : Framed s t) (h : Framed o s) : Framed o t :=
  ⟨h'.banks.then h.banks, fun x hx => (h'.frames x hx).elim (h.frames x) .inr⟩

theorem Framed.ite {c : Prop} [Decidable c] {a b : State} (ha : Framed o a) (hb : Framed o b) : Framed o (if c then a else b) := by
  split <;> assumption

theorem State.setBank_framed (s : State) (n : Nat) {b : Bank} (hb : b.still = (s.bank n).still) : Framed s (s.setBank n b) :=
  ⟨s.setBank_bankKept n hb, fun _ h => .inl h⟩

theorem State.send_framed (s : State) (n : Nat) (d : Bool) (bs : List Byte) : Framed s (s.send (.bridgeFrame n d bs)) :=
  ⟨(State.send_moves s _).bankKept rfl, fun _ h => (List.mem_cons.1 h).symm.imp_right fun e => ⟨n, d, bs, e⟩⟩

theorem BridgeDir.owes_unacked (d : BridgeDir) : d.owes.2.unacked = d.unacked := by
  unfold BridgeDir.owes
  split <;> rfl

/-- Nothing is picked of an empty queue. -/
theorem BridgeDir.pick_nil {d : BridgeDir} (h : d.queue = []) (k : Nat) : d.pick k = ([], d) := by
  cases k with
  | zero => rfl
  | succ k =>
    have hnone : d.order.find? d.ready = none := List.find?_eq_none.2 fun vc _ => by simp [BridgeDir.ready, h]
    rw [BridgeDir.pick, hnone]

theorem Bank.dir_setDir_same (b : Bank) (toBank : Bool) (d : BridgeDir) : (b.setDir toBank d).dir toBank = d := by cases toBank <;> rfl

theorem Bank.dir_setDir_back (b : Bank) (toBank : Bool) (d : BridgeDir) : (b.setDir toBank d).dir (!toBank) = b.dir (!toBank) := by cases toBank <;> rfl

/-- What the sender of one direction leaves of its bank die: it stays still, the other direction keeps its unacknowledged frames, and so does this one where
nothing is queued. -/
structure Bank.SentBy (toBank : Bool) (b b' : Bank) : Prop where
  still : b'.still = b.still
  back : (b'.dir !toBank).unacked = (b.dir !toBank).unacked
  idle : (b.dir toBank).queue = [] → (b'.dir toBank).unacked = (b.dir toBank).unacked

/-- The receiver of a direction once two returns of credit have left with a frame (R67). -/
def BridgeDir.returned (d : BridgeDir) : BridgeDir := d.owes.2.owes.2

/-- The slots that may go in one frame, and the sender once they went (R67, R81). -/
def BridgeDir.outgoing (d : BridgeDir) : List (Nat × List Byte) × BridgeDir := if d.unacked.length < 256 then d.pick 8 else ([], d)

theorem BridgeDir.returned_still (d : BridgeDir) : d.returned.still = d.still := (owes_still _).trans (owes_still d)

theorem BridgeDir.returned_unacked (d : BridgeDir) : d.returned.unacked = d.unacked := (owes_unacked _).trans (owes_unacked d)

theorem BridgeDir.outgoing_still (d : BridgeDir) : d.outgoing.2.still = d.still := by
  unfold BridgeDir.outgoing
  split
  · exact d.pick_still 8
  · rfl

theorem BridgeDir.outgoing_nil {d : BridgeDir} (h : d.queue = []) : d.outgoing.1 = [] := by
  rw [BridgeDir.outgoing, pick_nil h, ite_self]

theorem State.sendFrame_eq (s : State) (n : Nat) (toBank : Bool) (ack : Nat × Nat) : s.sendFrame n toBank ack =
    if !(s.bank n).carries then s
    else if ((s.bank n).dir toBank).outgoing.1.isEmpty then
      (s.setBank n ((s.bank n).setDir (!toBank) ((s.bank n).dir !toBank).returned)).send (.bridgeFrame n toBank
        (makeFrame 0 0 ack [] ((s.bank n).dir !toBank).owes.1 ((s.bank n).dir !toBank).owes.2.owes.1))
    else
      (s.setBank n (((s.bank n).setDir (!toBank) ((s.bank n).dir !toBank).returned).setDir toBank
        { ((s.bank n).dir toBank).outgoing.2 with
            nextSeq := (((s.bank n).dir toBank).nextSeq + 1) % 1024,
            unacked := ((s.bank n).dir toBank).unacked ++ [(((s.bank n).dir toBank).nextSeq, ((s.bank n).dir toBank).outgoing.1)] })).send
        (.bridgeFrame n toBank (makeFrame 1 ((s.bank n).dir toBank).nextSeq ack ((s.bank n).dir toBank).outgoing.1
          ((s.bank n).dir !toBank).owes.1 ((s.bank n).dir !toBank).owes.2.owes.1)) := rfl

/-- A bridge that carries frames sends one with this acknowledgement. -/
theorem State.sendFrame_sends (s : State) (n : Nat) (toBank : Bool) (ack : Nat × Nat) (hc : (s.bank n).carries = true) :
    ∃ b' ft sq slots c0 c1, (s.bank n).SentBy toBank b' ∧
      s.sendFrame n toBank ack = (s.setBank n b').send (.bridgeFrame n toBank (makeFrame ft sq ack slots c0 c1)) := by
  have hb : ((s.bank n).setDir (!toBank) ((s.bank n).dir !toBank).returned).still = (s.bank n).still := Bank.still_setDir (BridgeDir.returned_still _)
  rw [State.sendFrame_eq, hc]
  by_cases he : ((s.bank n).dir toBank).outgoing.1 = []
  · refine ⟨_, 0, 0, [], _, _, ⟨hb, ?_, fun _ => ?_⟩, by rw [he]; rfl⟩
    · rw [Bank.dir_setDir_same, BridgeDir.returned_unacked]
    · rw [Bank.dir_setDir_not]
  · refine ⟨_, 1, _, _, _, _, ⟨(Bank.still_setDir ?_).trans hb, ?_, fun hq => absurd (BridgeDir.outgoing_nil hq) he⟩,
      (if_neg Bool.false_ne_true).trans (if_neg (by simp [he]))⟩
    · rw [Bank.dir_setDir_not]
      exact (BridgeDir.outgoing_still _ :)
    · rw [Bank.dir_setDir_back, Bank.dir_setDir_same, BridgeDir.returned_unacked]

theorem State.sendFrame_framed (s : State) (n : Nat) (toBank : Bool) (ack : Nat × Nat) : Framed s (s.sendFrame n toBank ack) := by
  by_cases hc : (s.bank n).carries = true
  · obtain ⟨b', ft, sq, slots, c0, c1, hb, e⟩ := s.sendFrame_sends n toBank ack hc
    rw [e]
    exact (State.send_framed ..).then (s.setBank_framed n hb.still)
  · rw [State.sendFrame_eq, if_pos (by simp [hc])]
    exact .refl s

theorem State.bridgeRun_framed (n : Nat) (toBank : Bool) (k : Nat) (s : State) : Framed s (s.bridgeRun n toBank k) := by
  induction k generalizing s with
  | zero => exact .refl s
  | succ k ih =>
    unfold State.bridgeRun
    exact .ite ((ih _).then (s.sendFrame_framed n toBank _)) (.refl s)

theorem State.pumpBridge_framed (s : State) (n : Nat) (toBank : Bool) : Framed s (s.pumpBridge n toBank) := State.bridgeRun_framed ..

theorem State.bridgePut_framed (s : State) (n : Nat) (toBank : Bool) (vc : Nat) (slots : List (List Byte)) : Framed s (s.bridgePut n toBank vc slots) :=
  (State.pumpBridge_framed ..).then (s.setBank_framed n (Bank.still_setDir rfl))

theorem State.sendCmd_framed (s : State) (kind p : Nat) (fields : List Nat) : Framed s (s.sendCmd kind p fields) := State.bridgePut_framed ..

/-- A replay sends every frame not acknowledged again, with its own number (R83, R84). -/
theorem State.replayBridge_sent (s : State) (n : Nat) (toBank : Bool) : s.replayBridge n toBank = { s with sent :=
    (((s.bank n).dir toBank).unacked.map fun f => .bridgeFrame n toBank (makeFrame 1 f.1 (0, 0) f.2 (0, 0) (0, 0))).reverse ++ s.sent } := by
  unfold State.replayBridge
  generalize ((s.bank n).dir toBank).unacked = l
  induction l generalizing s with
  | nil => rfl
  | cons f l ih => rw [List.foldl_cons, ih]; simp [State.send]

theorem State.replayBridge_framed (s : State) (n : Nat) (toBank : Bool) : Framed s (s.replayBridge n toBank) := by
  refine ⟨(State.replayBridge_moves ..).bankKept rfl, fun x hx => ?_⟩
  rw [State.replayBridge_sent] at hx
  rcases List.mem_append.1 hx with h | h
  · obtain ⟨f, -, rfl⟩ := List.mem_map.1 (List.mem_reverse.1 h)
    exact .inr ⟨_, _, _, rfl⟩
  · exact .inl h

/-! ### Writes that wait for a bridge (R82) -/

theorem Framed.core (h : Framed s t) : BankKept Bank.core s t := h.banks.comp fun b => { b with waiting := [] }

theorem State.holdWrite_core (s : State) (n : Nat) (w : HeldWrite) : BankKept Bank.core s (s.holdWrite n w) := s.setBank_bankKept n rfl

theorem State.dieWrite_core (s : State) (w : HeldWrite) : BankKept Bank.core s (s.dieWrite w) := by
  unfold State.dieWrite
  split
  · exact State.holdWrite_core ..
  · exact (State.pwrite_moves ..).bankKept rfl

theorem State.releaseWrites_core (s : State) (n : Nat) : BankKept Bank.core s (s.releaseWrites n) := by
  unfold State.releaseWrites
  exact .foldl _ (s.setBank_bankKept n rfl) fun x w => x.dieWrite_core w

/-- Without a write that waits nothing is released. -/
theorem State.releaseWrites_mem {n : Nat} (h : (s.bank n).waiting = []) : (s.releaseWrites n).mem = s.mem := by
  unfold State.releaseWrites
  rw [h]
  rfl

end Sys2Proof.Machine
end

section
/-! PROOFS. What a round of the scheduler keeps: the bank dies but for what their bridges send, the positions that hold a group, the tables that jobs still
have to split, and two of the counters. -/

namespace Sys2Proof.Machine

variable {o s t : State} {x : Nat}

/-! ### Counters of groups ended and of ballast -/

/-- The counter of ballast, or that of the groups an engine has ended. -/
abbrev Tally (x : Nat) : Prop := x = 0x2018C ∨ 0xA0108 ≤ x ∧ x < 0xA0508 ∧ x % 0x40 = 8

/-- Counter `x` has not fallen, and only that of ballast has changed. -/
structure TallyKept (x : Nat) (s t : State) : Prop where
  inv : Inv s → Inv t
  grows : Inv s → (s.reg x).toNat ≤ (t.reg x).toNat
  same : x ≠ 0x2018C → t.reg x = s.reg x

theorem TallyKept.refl (x : Nat) (s : State) : TallyKept x s s := ⟨id, fun _ => Nat.le_refl _, fun _ => rfl⟩

theorem TallyKept.then (h' : TallyKept x s t) (h : TallyKept x o s) : TallyKept x o t :=
  ⟨h'.inv ∘ h.inv, fun i => (h.grows i).trans (h'.grows (h.inv i)), fun hx => (h'.same hx).trans (h.same hx)⟩

theorem TallyKept.ite {c : Prop} [Decidable c] {a b : State} (ha : TallyKept x o a) (hb : TallyKept x o b) : TallyKept x o (if c then a else b) := by
  split <;> assumption

theorem TallyKept.foldl {α : Type} {f : State → α → State} (l : List α) (h : TallyKept x o s) (hf : ∀ u, ∀ a ∈ l, TallyKept x u (f u a)) :
    TallyKept x o (l.foldl f s) := by
  induction l generalizing s with
  | nil => exact h
  | cons a l ih => exact ih ((hf s a List.mem_cons_self).then h) fun u b hb => hf u b (List.mem_cons_of_mem _ hb)

/-- An operation after which the counter reads the same. -/
theorem Moves.tallySame {m : Nat} (h : Moves m s t) (he : t.reg x = s.reg x) : TallyKept x s t := ⟨h.inv, fun _ => by rw [he], fun _ => he⟩

/-- What leaves every register leaves the counters. -/
theorem Moves.tally {m : Nat} (h : Moves m s t) (hm : m.testBit 5 = false) : TallyKept x s t := h.tallySame (h.reg hm x)

theorem State.setReg_tally (s : State) {off : Nat} (w : Word) (h : x ≠ off) : TallyKept x s (s.setReg off w) :=
  (State.setReg_moves ..).tallySame (reg_setReg_other s w h)

theorem State.bump_tally (s : State) {off : Nat} (w n : Nat) (h : x ≠ off) : TallyKept x s (s.bump off w n) := s.setReg_tally _ h

theorem State.setReg64_tally (s : State) {off : Nat} (v : Nat) (h : x ≠ off ∧ x ≠ off + 4) : TallyKept x s (s.setReg64 off v) :=
  (State.setReg_tally _ _ h.2).then (State.setReg_tally _ _ h.1)

/-- A VT of one of the 64 contexts. -/
theorem State.setVt_tally (s : State) {c : Nat} (v : Nat) (hx : Tally x) (hc : c ∈ ctxRange ∨ x ≠ 0x2018C) : TallyKept x s (s.setVt c v) := by
  have hc : c < 64 ∨ x ≠ 0x2018C := hc.imp_left List.mem_range.1
  exact s.setReg64_tally v (by omega)

theorem State.pwr_tally (s : State) (p : PwrUnit) : TallyKept x s { s with pwr := p } := (Moves.pwr (m := 0x1000000) p rfl (.refl _ s)).tally rfl

theorem State.unreserve_tally (s : State) (p : Reservation → Bool) (hx : Tally x) : TallyKept x s (s.unreserve p) := by
  unfold State.unreserve
  exact .ite ((State.setReg_tally _ _ (by omega)).then (s.pwr_tally _)) (.refl x s)

theorem State.charge_tally (s : State) (n : Nat) (hx : Tally x) : TallyKept x s (s.charge n) := by
  have hu := s.pwr_tally (x := x) { s.pwr with ledger := { s.pwr.ledger with charged := s.pwr.ledger.charged + n } }
  unfold State.charge
  exact .ite ((State.setReg_tally _ _ (by omega)).then hu) ((State.setReg_tally _ _ (by omega)).then <| (State.setReg_tally _ _ (by omega)).then hu)

theorem State.settle_tally (s : State) (kind a b n : Nat) (hx : Tally x) : TallyKept x s (s.settle kind a b n) :=
  (State.charge_tally _ _ hx).then (s.unreserve_tally _ hx)

theorem State.reserve_tally (s : State) (r : Reservation) (hx : Tally x) : TallyKept x s (s.reserve r) :=
  (State.setReg_tally _ _ (by omega)).then (s.pwr_tally _)

theorem State.rebase_tally (s : State) (hx : Tally x) : TallyKept x s s.rebase := by
  unfold State.rebase
  extract_lets open_ m
  refine .ite (.refl x s) ((State.setReg_tally _ _ (by omega)).then <| .foldl _ (.refl x s) fun u c hc => ?_)
  exact u.setVt_tally _ hx (.inl (List.mem_filter.1 hc).1)

/-- A counter of 32 bits that grows holds at its largest value. -/
theorem reg_bump_same (i : Inv s) (off n : Nat) : ((s.bump off 32 n).reg off).toNat = min 0xFFFFFFFF ((s.reg off).toNat + n) := by
  rw [State.bump, reg_setReg_same i, satAdd, BitVec.toNat_ofNat]
  exact Nat.mod_eq_of_lt (by omega)

/-- Ballast that ends counts in LDG_CNT_3, in whole mJ (R428). -/
theorem State.noteBallast_counts (s : State) (uj : Nat) (i : Inv s) :
    min 0xFFFFFFFF ((s.reg 0x2018C).toNat + uj / 1000) ≤ ((s.noteBallast uj).reg 0x2018C).toNat := by
  unfold State.noteBallast
  rw [reg_bump_same ((Moves.pwr (m := 0x1000000) _ rfl (.refl _ s)).inv i)]
  have hsum : uj / 1000 ≤ (s.pwr.ledger.ballastUj + uj) / 1000 := Nat.div_le_div_right (Nat.le_add_left ..)
  change _ ≤ min _ ((s.reg 0x2018C).toNat + _)
  omega

theorem State.noteBallast_tally (s : State) (uj : Nat) : TallyKept x s (s.noteBallast uj) := by
  by_cases hx : x = 0x2018C
  · subst hx
    refine ⟨(State.noteBallast_moves ..).inv, fun i => ?_, fun h => absurd rfl h⟩
    have := s.noteBallast_counts uj i
    have := (s.reg 0x2018C).isLt
    omega
  · exact (State.bump_tally _ _ _ hx).then (s.pwr_tally _)

/-! ### The jobs and the positions -/

/-- What of a job says how far its table is split: the rows left, whether the control core holds it, and how many groups it has. -/
def Job.shape (j : Job) : List TabRow × Bool × Nat := (j.rows, j.handed, j.groups.length)

/-- The jobs of descriptor `i` of context `c`, and there is one, have this shape. -/
structure State.Shaped (s : State) (c i : Nat) (k : List TabRow × Bool × Nat) : Prop where
  any : ∃ j ∈ s.work.jobs, j.key = (c, i)
  all : ∀ j ∈ s.work.jobs, j.key = (c, i) → j.shape = k

theorem State.job_key {c i : Nat} {j : Job} (h : s.job c i = some j) : j ∈ s.work.jobs ∧ j.key = (c, i) := by
  have hk := List.find?_some h
  simp only [Bool.and_eq_true, beq_iff_eq] at hk
  exact ⟨List.mem_of_find?_eq_some h, Prod.ext hk.1 hk.2⟩

theorem State.Shaped.job {c i : Nat} {k : List TabRow × Bool × Nat} (h : s.Shaped c i k) : ∃ j, s.job c i = some j ∧ j.shape = k := by
  obtain ⟨j, hj, hk⟩ := h.any
  obtain ⟨rfl, rfl⟩ : j.ctx = c ∧ j.idx = i := Prod.mk.inj hk
  cases hf : s.job j.ctx j.idx with
  | none => exact absurd (List.find?_eq_none.1 hf j hj) (by simp)
  | some y => exact ⟨y, rfl, h.all y (State.job_key hf).1 (State.job_key hf).2⟩

theorem State.mem_setJob {j y : Job} (h : y ∈ (s.setJob j).work.jobs) : y = j ∨ y ∈ s.work.jobs ∧ y.key ≠ j.key := by
  obtain ⟨z, hz, rfl⟩ := List.mem_map.1 h
  split
  · exact .inl rfl
  · next hk => exact .inr ⟨hz, fun e => hk (Prod.mk.inj e)⟩

/-- A write of job `j` leaves jobs of its key that are all like it. -/
theorem State.setJob_any {c i : Nat} (j : Job) (h : ∃ y ∈ s.work.jobs, y.key = (c, i)) : ∃ y ∈ (s.setJob j).work.jobs, y.key = (c, i) := by
  obtain ⟨y, hy, hk⟩ := h
  refine ⟨_, List.mem_map.2 ⟨y, hy, rfl⟩, ?_⟩
  split
  · next e => exact (Prod.ext e.1.symm e.2.symm).trans hk
  · exact hk

theorem State.setJob_shaped {j y : Job} (h : s.job j.ctx j.idx = some y) : (s.setJob j).Shaped j.ctx j.idx j.shape :=
  ⟨State.setJob_any j ⟨y, State.job_key h⟩, fun z hz hk => by
    rcases State.mem_setJob hz with rfl | ⟨-, hne⟩
    · rfl
    · exact absurd hk hne⟩

theorem State.Shaped.setJob {c i : Nat} {k : List TabRow × Bool × Nat} (h : s.Shaped c i k) {j : Job} (hj : j.key = (c, i) → j.shape = k) :
    (s.setJob j).Shaped c i k :=
  ⟨State.setJob_any j h.any, fun y hy hk => by
    rcases State.mem_setJob hy with rfl | ⟨hy, -⟩
    · exact hj hk
    · exact h.all y hy hk⟩

/-- What a round of the scheduler keeps. -/
structure Scheduled (s t : State) : Prop where
  banks : BankKept Bank.still s t
  jobs : ∀ c i k, s.Shaped c i k → t.Shaped c i k
  occupied : ∀ p o, s.occupant p = some o → t.occupant p = some o
  tally : ∀ x, Tally x → TallyKept x s t

theorem Scheduled.refl (s : State) : Scheduled s s := ⟨.refl _ s, fun _ _ _ => id, fun _ _ => id, fun x _ => .refl x s⟩

theorem Scheduled.then (h' : Scheduled s t) (h : Scheduled o s) : Scheduled o t :=
  ⟨h'.banks.then h.banks, fun c i k hk => h'.jobs c i k (h.jobs c i k hk), fun p y hy => h'.occupied p y (h.occupied p y hy),
    fun x hx => (h'.tally x hx).then (h.tally x hx)⟩

theorem Scheduled.ite {c : Prop} [Decidable c] {a b : State} (ha : Scheduled o a) (hb : Scheduled o b) : Scheduled o (if c then a else b) := by
  split <;> assumption

theorem Scheduled.foldl {α : Type} {f : State → α → State} (l : List α) (h : Scheduled o s) (hf : ∀ u, ∀ a ∈ l, Scheduled u (f u a)) :
    Scheduled o (l.foldl f s) := by
  induction l generalizing s with
  | nil => exact h
  | cons a l ih => exact ih ((hf s a List.mem_cons_self).then h) fun u b hb => hf u b (List.mem_cons_of_mem _ hb)

/-- An operation that leaves bank dies and work alone, and the two counters. -/
theorem Moves.scheduled {m : Nat} (h : Moves m s t) (hb : m.testBit 10 = false) (hw : m.testBit 19 = false) (ht : ∀ x, Tally x → TallyKept x s t) :
    Scheduled s t := by
  have hk : t.work = s.work := h.off .work hw
  exact ⟨h.bankKept hb, fun c i k hs => ⟨hk ▸ hs.any, hk ▸ hs.all⟩, fun p y hy => by rw [State.occupant, hk]; exact hy, ht⟩

/-- A change of the work that leaves its jobs' shapes and the positions. -/
theorem State.setWork_scheduled {w : WorkUnit} (hp : w.positions = s.work.positions)
    (hj : ∀ c i k, s.Shaped c i k → (s.setWork w).Shaped c i k) : Scheduled s (s.setWork w) :=
  ⟨(State.setWork_moves ..).bankKept rfl, hj, fun p _ hy => (congrArg (tabGet (fun _ => none) · p) hp).trans hy,
    fun _ _ => (State.setWork_moves ..).tally rfl⟩

theorem State.setJob_scheduled {j : Job} (hj : ∀ c i k, s.Shaped c i k → j.key = (c, i) → j.shape = k) : Scheduled s (s.setJob j) :=
  State.setWork_scheduled rfl fun c i k h => h.setJob (hj c i k h)

/-- One group of a job of the scheduler changed. -/
theorem State.setGroup_scheduled {c i : Nat} {j : Job} (h : s.job c i = some j) (gi : Nat) (f : Group → Group) : Scheduled s (s.setJob (j.setGroup gi f)) :=
  State.setJob_scheduled fun c' i' k hs hk => by
    rw [← hs.all j (State.job_key h).1 hk, Job.shape, Job.shape, Job.setGroup, List.length_modify]

theorem State.due_scheduled (s : State) (p : Nat) : Scheduled s (s.due p) := State.setWork_scheduled rfl fun _ _ _ h => ⟨h.any, h.all⟩

theorem State.dues_scheduled (l : List Nat) (s : State) : Scheduled s (l.foldl State.due s) := .foldl _ (.refl s) fun u p _ => u.due_scheduled p

/-! ### The steps of a round -/

theorem foldl_fst_length {γ δ : Type} {f : List γ × δ → γ → List γ × δ} (hf : ∀ a g, (f a g).1.length = a.1.length + 1) (l : List γ) (a : List γ × δ) :
    (l.foldl f a).1.length = a.1.length + l.length := by
  induction l generalizing a with
  | nil => rfl
  | cons g l ih => rw [List.foldl_cons, ih, hf, List.length_cons, Nat.add_assoc, Nat.add_comm 1]

theorem State.fillStore_positions (s : State) (k : Nat) : (s.fillStore k).work.positions = s.work.positions := by
  unfold State.fillStore
  refine List.foldlRecOn (motive := fun u : State => u.work.positions = s.work.positions) _ _ rfl fun u hu j _ => ?_
  split
  · exact hu
  · exact hu

theorem State.fillStore_scheduled (s : State) (k : Nat) : Scheduled s (s.fillStore k) := by
  refine ⟨(State.fillStore_moves ..).bankKept rfl, fun c i sh h => ?_, fun p y hy => (congrArg (tabGet (fun _ => none) · p) (s.fillStore_positions k)).trans hy,
    fun _ _ => (State.fillStore_moves ..).tally rfl⟩
  unfold State.fillStore
  refine List.foldlRecOn (motive := fun u : State => u.Shaped c i sh) _ _ h fun u hu j hj => ?_
  split
  · exact hu
  · refine hu.setJob fun hk => ?_
    rw [← h.all j hj hk, Job.shape, Job.shape, foldl_fst_length (fun a g => ?_), List.length_nil, Nat.zero_add]
    split <;> simp

theorem State.markReady_scheduled (s : State) : Scheduled s s.markReady := by
  unfold State.markReady
  extract_lets busy isNew fresh low jobs news w u open_ v
  have hu : Scheduled s u := State.setWork_scheduled rfl fun c i k h => by
    refine ⟨?_, fun j hj hk => ?_⟩
    · obtain ⟨j, hj, hk⟩ := h.any
      exact ⟨_, List.mem_map.2 ⟨j, hj, rfl⟩, hk⟩
    · obtain ⟨y, hy, rfl⟩ := List.mem_map.1 hj
      rw [← h.all y hy hk, Job.shape, Job.shape, List.length_map]
  have hv : Scheduled s v := (State.dues_scheduled _ u).then hu
  refine .ite hv (.then (.foldl _ (.refl v) fun w c hc => ?_) hv)
  exact (State.setVt_moves ..).scheduled rfl rfl fun x hx => w.setVt_tally _ hx (.inl (List.mem_filter.1 hc).1)

/-- A position that is free takes a group. -/
theorem State.setOccupant_scheduled {p : Nat} (y : Option Occupant) (hp : s.occupant p = none) : Scheduled s (s.setOccupant p y) :=
  ⟨(State.setOccupant_moves ..).bankKept rfl, fun _ _ _ h => ⟨h.any, h.all⟩, fun q z hz => by
    have hq : q ≠ p := by
      rintro rfl
      rw [hp] at hz
      exact absurd hz (by simp)
    exact (tabGet_tabSet_other _ s.work.positions p q y hq).trans hz, fun _ _ => (State.setOccupant_moves ..).tally rfl⟩

theorem State.sendCmd_scheduled (s : State) (kind p : Nat) (fields : List Nat) : Scheduled s (s.sendCmd kind p fields) := by
  have hm := State.sendCmd_moves s kind p fields
  have hw : (s.sendCmd kind p fields).work = s.work := hm.off .work rfl
  exact ⟨(State.sendCmd_framed ..).banks, fun _ _ _ h => ⟨hw ▸ h.any, hw ▸ h.all⟩, fun q y hy => by rw [State.occupant, hw]; exact hy,
    fun _ _ => hm.tally rfl⟩

/-- A group is issued to a position that is free. -/
theorem State.issue_scheduled (s : State) (c idx gi : Nat) (g : Group) {p : Nat} (hp : s.occupant p = none) : Scheduled s (s.issue c idx gi g p) := by
  unfold State.issue
  split
  · exact .refl s
  · next j hj =>
    extract_lets sat e g' waited s1 s2 s3 s4 s5
    have h1 : Scheduled s s1 := State.setGroup_scheduled hj gi _
    have h2 : Scheduled s s2 := (s1.sendCmd_scheduled ..).then h1
    have hp2 : s2.occupant p = none := by
      have hw : s2.work = s1.work := (State.sendCmd_moves ..).off .work rfl
      rw [State.occupant, hw]
      exact hp
    have h3 : Scheduled s s3 := ((State.reserve_moves ..).scheduled rfl rfl fun x hx => State.reserve_tally _ _ hx).then <|
      (State.setOccupant_scheduled _ hp2).then h2
    have h4 : Scheduled s s4 := ((State.bump64_moves ..).scheduled rfl rfl fun x hx => State.setReg64_tally _ _ (by omega)).then h3
    have h5 : Scheduled s s5 := by
      unfold s5
      split
      · exact .ite h4 (((State.bump_moves ..).scheduled rfl rfl fun x hx => State.bump_tally _ _ _ (by omega)).then h4)
      · exact h4
    exact (State.fillStore_scheduled ..).then h5

theorem State.noteDeferral_scheduled (s : State) (c idx gi : Nat) (g : Group) : Scheduled s (s.noteDeferral c idx gi g) := by
  unfold State.noteDeferral
  refine .ite (.refl s) ?_
  split
  · next j hj =>
    exact ((State.bump_moves ..).scheduled rfl rfl fun x hx => State.bump_tally _ _ _ (by omega)).then <|
      ((State.bump_moves ..).scheduled rfl rfl fun x hx => State.bump_tally _ _ _ (by omega)).then <| State.setGroup_scheduled hj gi _
  · exact .refl s

theorem State.tryBallast_scheduled (s : State) (p : Nat) : Scheduled s (s.tryBallast p) := by
  refine (State.tryBallast_moves ..).scheduled rfl rfl fun x hx => ?_
  unfold State.tryBallast
  exact .ite ((State.reserve_tally _ _ hx).then (s.pwr_tally _)) (.refl x s)

theorem State.cutBallast_scheduled (s : State) (p : Nat) : Scheduled s (s.cutBallast p) := by
  have hu : Scheduled s s.takeFree.2 := (State.takeFree_moves s).snd.scheduled rfl rfl fun x _ => (State.takeFree_moves s).snd.tally rfl
  unfold State.cutBallast
  generalize s.takeFree = kv at hu ⊢
  obtain ⟨k, u⟩ := kv
  have hp (pw : PwrUnit) : Scheduled u { u with pwr := pw } := (Moves.pwr (m := 0x1000000) pw rfl (.refl _ u)).scheduled rfl rfl fun x _ => u.pwr_tally pw
  exact ((State.noteBallast_moves ..).scheduled rfl rfl fun x _ => State.noteBallast_tally _ _).then <|
    ((State.settle_moves ..).scheduled rfl rfl fun x hx => State.settle_tally _ _ _ _ _ hx).then <| (State.due_scheduled ..).then <| (hp _).then hu

theorem State.trimBallast_scheduled (s : State) : Scheduled s s.trimBallast := by
  unfold State.trimBallast
  exact .foldl _ (.refl s) fun u e _ => .ite (u.cutBallast_scheduled e.1) (.refl u)

theorem State.noteDeferral_positions (s : State) (c idx gi : Nat) (g : Group) : (s.noteDeferral c idx gi g).work.positions = s.work.positions := by
  unfold State.noteDeferral
  split
  · rfl
  · split <;> rfl

theorem State.decideFor_scheduled (s : State) (left : Option Nat) (p : Nat) : Scheduled s (s.decideFor left p) := by
  by_cases h : (!(s.posFree p && s.posOpen p && s.canIssue)) = true
  · rw [State.decideFor, if_pos h]
    exact .refl s
  · have hfree : s.occupant p = none := by
      simp only [State.posFree, Bool.not_eq_true', Bool.not_eq_false, Bool.and_eq_true, Option.isNone_iff_eq_none] at h
      exact h.1.1.1
    rw [State.decideFor, if_neg h]
    extract_lets ready fits u shared
    have hu : Scheduled s u := .foldl _ (.refl s) fun w x _ => w.noteDeferral_scheduled ..
    have hpos : u.work.positions = s.work.positions :=
      List.foldlRecOn (motive := fun w : State => w.work.positions = s.work.positions) _ _ rfl fun w hw x _ => (w.noteDeferral_positions ..).trans hw
    split
    · exact (State.tryBallast_scheduled ..).then <| .ite hu <|
        ((State.setFld_moves ..).scheduled rfl rfl fun x hx => State.setReg_tally _ _ (by omega)).then hu
    · extract_lets v
      have hv : Scheduled u v ∧ v.work.positions = u.work.positions := by
        unfold v
        split
        · split
          · exact ⟨(State.bump_moves ..).scheduled rfl rfl fun x hx => State.bump_tally _ _ _ (by omega), rfl⟩
          · exact ⟨.refl u, rfl⟩
        · exact ⟨.refl u, rfl⟩
      exact (v.issue_scheduled _ _ _ _ (by rw [State.occupant, hv.2, hpos]; exact hfree)).then <| hv.1.then hu

theorem State.schedule_scheduled (s : State) (left : Option (Nat × Nat)) : Scheduled s (s.schedule left) := by
  unfold State.schedule
  extract_lets u due w0 v
  have hu : Scheduled s u := (State.markReady_scheduled _).then <| (State.trimBallast_scheduled _).then <|
    (State.rebase_moves s).scheduled rfl rfl fun x hx => s.rebase_tally hx
  have hv : Scheduled s v := (State.setWork_scheduled (w := { u.work with fell := [] }) rfl fun _ _ _ h => ⟨h.any, h.all⟩).then hu
  exact ((State.noteIdle_moves _).scheduled rfl rfl fun x _ => (State.noteIdle_moves _).tally rfl).then <|
    .then (.foldl _ (.refl v) fun y p _ => y.decideFor_scheduled _ p) hv

end Sys2Proof.Machine
end

section
/-! PROOFS. The data-path views and the mark of a package-class fault: a report, a fence or a fault of a context leaves them. -/

namespace Sys2Proof.Machine

variable {o s t : State}

/-- The data-path views and the mark of a package-class fault. -/
def State.views (s : State) : Tab Bool × Bool := (s.flt.dp, s.flt.pkgFault)

/-- The data-path views and the mark are the same before and after. -/
structure ViewsKept (s t : State) : Prop where
  views : t.views = s.views

theorem ViewsKept.refl (s : State) : ViewsKept s s := ⟨rfl⟩

theorem ViewsKept.then (h' : ViewsKept s t) (h : ViewsKept o s) : ViewsKept o t := ⟨h'.views.trans h.views⟩

theorem ViewsKept.ite {c : Prop} [Decidable c] {a b : State} (ha : ViewsKept o a) (hb : ViewsKept o b) : ViewsKept o (if c then a else b) := by
  split <;> assumption

theorem ViewsKept.foldl {α : Type} {f : State → α → State} (l : List α) (h : ViewsKept o s) (hf : ∀ x a, ViewsKept x (f x a)) :
    ViewsKept o (l.foldl f s) := by
  induction l generalizing s with
  | nil => exact h
  | cons a l ih => exact ih ((hf s a).then h)

theorem ViewsKept.dp (h : ViewsKept s t) (v : Nat) : t.dpFailed v = s.dpFailed v :=
  congrArg (tabGet (fun _ => false) · v) (congrArg Prod.fst h.views : t.flt.dp = s.flt.dp)

theorem ViewsKept.pkgFault (h : ViewsKept s t) : t.flt.pkgFault = s.flt.pkgFault := congrArg Prod.snd h.views

/-- What leaves chapter 15's state leaves the views. -/
theorem Moves.views {m : Nat} (h : Moves m s t) (hm : m.testBit 14 = false) : ViewsKept s t := by
  have hf : t.flt = s.flt := h.off .faults hm
  exact ⟨by rw [State.views, State.views, hf]⟩

theorem State.putRecord_views (s : State) (k source code ctx unit detail : Nat) : ViewsKept s (s.putRecord k source code ctx unit detail) := by
  unfold State.putRecord
  extract_lets r keep
  split
  · exact ((State.bump_moves ..).views rfl).then <| ((State.flagOpen_moves ..).views rfl).then ⟨rfl⟩
  · exact .ite (((State.bump_moves ..).views rfl).then ⟨rfl⟩) ⟨rfl⟩

theorem State.record_views (s : State) (k source code ctx unit detail : Nat) : ViewsKept s (s.record k source code ctx unit detail) := by
  have h := s.putRecord_views k source code ctx unit detail
  unfold State.record
  exact .ite (((State.bump_moves ..).views rfl).then h) h

theorem State.hubEvent_views (s : State) (code unit detail : Nat) : ViewsKept s (s.hubEvent code unit detail) :=
  ((State.alert_moves ..).views rfl).then <| ((State.event_moves ..).views rfl).then <| State.record_views ..

/-! ### A view that changes (R463, R464, R470) -/

theorem State.setViews_dp (s : State) (v : Nat) (dp mgmt : Bool) : (s.setViews v dp mgmt).flt.dp = tabSet (fun _ => false) s.flt.dp v dp := by
  unfold State.setViews
  extract_lets d0 m0 f u w x
  have hw : ViewsKept u w := .ite (.refl u) (State.record_views ..)
  have hx : ViewsKept u x := (ViewsKept.ite (.refl w) (State.record_views ..)).then hw
  have hd : ViewsKept x (x.disagree v) := ((State.flag_moves ..).views rfl).then <| ((State.bump_moves ..).views rfl).then ⟨rfl⟩
  exact congrArg Prod.fst ((ViewsKept.ite hd (.refl x)).then hx).views

/-- A unit whose data path fails reads so. -/
theorem State.dpFailed_setDp (s : State) (v : Nat) : (s.setDp v true).dpFailed v = true := by
  rw [State.dpFailed, State.setDp, State.setViews_dp]
  exact tabGet_tabSet_ne _ s.flt.dp v true (by decide)

theorem State.dpFailed_setDp_other (s : State) {v w : Nat} (b : Bool) (h : w ≠ v) : (s.setDp v b).dpFailed w = s.dpFailed w := by
  rw [State.dpFailed, State.setDp, State.setViews_dp]
  exact tabGet_tabSet_other _ s.flt.dp v w b h

/-! ### Fences, leases and the end of a context's work -/

theorem State.setEpoch_views (s : State) (res e : Nat) : ViewsKept s (s.setEpoch res e) := ⟨rfl⟩

theorem State.grantNext_views (s : State) (res : Nat) : ViewsKept s (s.grantNext res) := by
  unfold State.grantNext
  split
  · exact .refl s
  · exact ((State.endDesc_moves ..).views rfl).then ⟨rfl⟩

theorem State.fence_views (s : State) (res ctx : Nat) : ViewsKept s (s.fence res ctx) :=
  (State.grantNext_views ..).then <| (State.record_views ..).then ⟨rfl⟩

theorem State.rollback_views (s : State) (det : Nat) : ViewsKept s (s.rollback det) := by
  unfold State.rollback
  split
  · exact .refl s
  · exact ((State.flagOpen_moves ..).views rfl).then <| ((State.bump_moves ..).views rfl).then <| (State.record_views ..).then <|
      (State.fence_views ..).then ⟨rfl⟩

theorem State.dropRecv_views (s : State) (r : RecvWin) : ViewsKept s (s.dropRecv r) := by
  have h : ViewsKept s (r.slots.foldl (fun s x => s.moveSlot x.1)
      (s.setCmb { s.cmb with recvs := s.cmb.recvs.filter (fun x => decide (x.handle ≠ r.handle)) })) := .foldl _ ⟨rfl⟩ fun _ _ => ⟨rfl⟩
  unfold State.dropRecv
  exact .ite ((State.fence_views ..).then h) h

theorem State.dropCombine_views (s : State) (c : Nat) : ViewsKept s (s.dropCombine c) := by
  unfold State.dropCombine
  extract_lets u v
  have hu : ViewsKept s u := by
    unfold u
    split
    · next r _ =>
      have hr : ViewsKept s (r.slots.foldl (fun s x => s.moveSlot x.slot) s) := .foldl _ (.refl s) fun _ _ => ⟨rfl⟩
      have hr' (k : CombineUnit) : ViewsKept s ((r.slots.foldl (fun s x => s.moveSlot x.slot) s).setCmb k) := ((State.setCmb_moves ..).views rfl).then hr
      exact .ite (.ite (hr' _) ((State.record_views ..).then (hr' _))) (.refl s)
    · exact .refl s
  exact .foldl _ (.foldl _ hu fun _ _ => (State.dropSend_moves ..).views rfl) fun x r => x.dropRecv_views r

theorem State.dropCollect_views (s : State) (c : Nat) : ViewsKept s (s.dropCollect c) := by
  refine .foldl _ (.refl s) fun x g => .ite ?_ (.refl x)
  have h : ViewsKept x (x.leaveGroup g false fun s _ _ => s) :=
    (State.leaveGroup_moves (m := 0xC10838) rfl (.refl _ x) fun _ _ _ hy => hy).views rfl
  exact .ite ((State.record_views ..).then <| (State.setEpoch_views ..).then h) h

theorem State.dropWork_views (s : State) (c : Nat) : ViewsKept s (s.dropWork c) :=
  ((State.discardCached_moves ..).views rfl).then <| ((State.unreserve_moves ..).views rfl).then <| ((State.dropLink_moves ..).views rfl).then <|
    (State.dropCollect_views ..).then <| (State.dropCombine_views ..).then <| ((State.dropIngest_moves ..).views rfl).then
      ((State.dropJobs_moves ..).views rfl)

theorem State.withdrawTakes_views (s : State) (c : Nat) : ViewsKept s (s.withdrawTakes c) := .foldl _ (.refl s) fun _ _ => ⟨rfl⟩

theorem State.fenceLeases_views (s : State) (c : Nat) : ViewsKept s (s.fenceLeases c) :=
  .foldl _ (.refl s) fun x r => .ite (x.fence_views r c) (.refl x)

theorem State.fenceContext_views (s : State) (c : Nat) : ViewsKept s (s.fenceContext c) :=
  (State.fenceLeases_views ..).then <| .ite ((State.rollback_views ..).then (s.withdrawTakes_views c)) (s.withdrawTakes_views c)

theorem State.bracketBank_views (s : State) (n : Nat) : ViewsKept s (s.bracketBank n) := by
  unfold State.bracketBank
  split
  · split <;> exact ⟨rfl⟩
  · exact .refl s

end Sys2Proof.Machine
end

section
/-! PROOFS. What writes, the end of a descriptor's work, faults of a context and the retries of what waited keep of the bank dies: all but the writes that wait
for a bridge and what its senders change. -/

namespace Sys2Proof.Machine

variable {o s t : State}

/-! ### Writes to device memory -/

theorem State.writePieces_core (die c : Nat) (ing : Bool) (ps : List (Nat × Nat)) (s : State) (bs : List Byte) :
    BankKept Bank.core s (s.writePieces die c ing ps bs) := by
  induction ps generalizing s bs with
  | nil => exact .refl _ s
  | cons p ps ih => exact (ih _ _).then <| .ite ((State.remoteWrite_moves ..).bankKept rfl) (State.dieWrite_core ..)

theorem State.takeFree_core (s : State) : BankKept Bank.core s s.takeFree.2 := (State.takeFree_moves s).snd.bankKept rfl

theorem State.vwrite_core (s : State) (cache c va : Nat) (bs : List Byte) (acc : Acc) (ing : Bool) :
    BankKept Bank.core s (s.vwrite cache c va bs acc ing).1 := by
  unfold State.vwrite
  split
  · exact State.writePieces_core ..
  · exact (State.writePieces_core ..).then s.takeFree_core

theorem State.outWrite_core (s : State) (cache c idx va : Nat) (bs : List Byte) : BankKept Bank.core s (s.outWrite cache c idx va bs).1 := by
  unfold State.outWrite
  extract_lets ps mine l
  have hmix : BankKept Bank.core s (if l.isEmpty then (bs, s) else s.mixBytes l ps bs).2 := by
    split
    · exact .refl _ s
    · exact (State.mixBytes_moves ..).snd.bankKept rfl
  generalize (if l.isEmpty then (bs, s) else s.mixBytes l ps bs) = p at hmix ⊢
  exact (State.vwrite_core ..).then <| .ite hmix (((State.setWork_moves ..).bankKept rfl).then hmix)

/-! ### The end of work on engines (R138, R140) -/

theorem State.writeSome_core (cache c idx fo : Nat) (rows : List (Nat × List Narrow)) (s : State) : BankKept Bank.core s (s.writeSome cache c idx fo rows) := by
  induction rows generalizing s with
  | nil => exact .refl _ s
  | cons r rows ih => exact (ih _).then <| (State.outWrite_core ..).then s.takeFree_core

theorem State.partialOutput_core (s : State) (j : Job) (g : Group) (p : Nat) : BankKept Bank.core s (s.partialOutput j g p) := by
  unfold State.partialOutput
  extract_lets b
  split
  · split
    · exact .refl _ s
    · exact (State.writeSome_core ..).then ((Moves.freeUp (m := 4) _ rfl (.refl _ s)).bankKept rfl)
  · split
    · exact .refl _ s
    · split
      · exact .refl _ s
      · exact State.writeSome_core ..

theorem State.abandonGroup_core (s : State) (p : Nat) (j : Job) (g : Group) : BankKept Bank.core s (s.abandonGroup p j g) := by
  have hfree : BankKept Bank.core s (if g.at_ = .running p then s.partialOutput j g p else s).takeFree.2 :=
    (State.takeFree_core _).then <| .ite (s.partialOutput_core j g p) (.refl _ s)
  exact ((State.addEnergy_moves ..).bankKept rfl).then <| ((State.countOccupancy_moves ..).bankKept rfl).then <|
    ((State.settle_moves ..).bankKept rfl).then <| ((State.setOccupant_moves ..).bankKept rfl).then hfree

theorem State.endJobs_core (s : State) (gone : Nat × Nat → Bool) : BankKept Bank.core s (s.endJobs gone) := by
  unfold State.endJobs
  extract_lets u v
  have hu : BankKept Bank.core s u := .foldl _ (.refl _ s) fun x p => by
    split
    · refine .ite ?_ (.refl _ x)
      split
      · exact State.abandonGroup_core ..
      · exact (State.setOccupant_moves ..).bankKept rfl
    · exact .refl _ x
  exact ((State.setWork_moves ..).bankKept rfl).then <| .ite (((State.leaveRoute_moves ..).bankKept rfl).then hu) hu

theorem State.dropJobs_core (s : State) (c : Nat) : BankKept Bank.core s (s.dropJobs c) := State.endJobs_core ..

theorem State.dropWork_core (s : State) (c : Nat) : BankKept Bank.core s (s.dropWork c) :=
  ((State.discardCached_moves ..).bankKept rfl).then <| ((State.unreserve_moves ..).bankKept rfl).then <| ((State.dropLink_moves ..).bankKept rfl).then <|
    ((State.dropCollect_moves ..).bankKept rfl).then <| ((State.dropCombine_moves ..).bankKept rfl).then <|
      ((State.dropIngest_moves ..).bankKept rfl).then <| s.dropJobs_core c

/-! ### Context-class faults (R126) -/

/-- The bank dies are kept but for bridge traffic, and so are the data-path views. -/
structure Spared (s t : State) : Prop where
  banks : BankKept Bank.core s t
  views : ViewsKept s t

theorem Spared.refl (s : State) : Spared s s := ⟨.refl _ s, .refl s⟩

theorem Spared.then (h' : Spared s t) (h : Spared o s) : Spared o t := ⟨h'.banks.then h.banks, h'.views.then h.views⟩

theorem Spared.ite {c : Prop} [Decidable c] {a b : State} (ha : Spared o a) (hb : Spared o b) : Spared o (if c then a else b) := by
  split <;> assumption

theorem Spared.foldl {α : Type} {f : State → α → State} (l : List α) (h : Spared o s) (hf : ∀ x a, Spared x (f x a)) : Spared o (l.foldl f s) := by
  induction l generalizing s with
  | nil => exact h
  | cons a l ih => exact ih ((hf s a).then h)

theorem Moves.spared {m : Nat} (h : Moves m s t) (hb : m.testBit 10 = false) (hf : m.testBit 14 = false) : Spared s t := ⟨h.bankKept hb, h.views hf⟩

theorem State.record_spared (s : State) (k source code ctx unit detail : Nat) : Spared s (s.record k source code ctx unit detail) :=
  ⟨(State.record_moves ..).bankKept rfl, State.record_views ..⟩

theorem State.dropJobs_spared (s : State) (c : Nat) : Spared s (s.dropJobs c) := ⟨s.dropJobs_core c, (State.dropJobs_moves ..).views rfl⟩

theorem State.dropWork_spared (s : State) (c : Nat) : Spared s (s.dropWork c) := ⟨s.dropWork_core c, s.dropWork_views c⟩

theorem State.fenceContext_spared (s : State) (c : Nat) : Spared s (s.fenceContext c) :=
  ⟨(State.fenceContext_moves ..).bankKept rfl, s.fenceContext_views c⟩

theorem State.contextFault_spared (s : State) (c code detail : Nat) (idx : Option Nat) (entry : Bool) (unit : Nat) :
    Spared s (s.contextFault c code detail idx entry unit) := by
  unfold State.contextFault State.teardown
  split
  · extract_lets u v w x y z z' z''
    have hv : Spared s v := by
      have hu : Spared s u := s.dropJobs_spared c
      unfold v
      split
      · extract_lets send u'
        have hu' : Spared s u' := ((State.failPiped_moves ..).spared rfl rfl).then <| ((State.complete_moves ..).spared rfl rfl).then hu
        cases send with
        | some x => exact ((State.complete_moves ..).spared rfl rfl).then hu'
        | none => exact hu'
      · exact .ite (((State.completeNone_moves ..).spared rfl rfl).then hu) hu
    exact (State.fenceContext_spared ..).then <| (State.dropWork_spared ..).then <| ((State.setCtx_moves ..).spared rfl rfl).then <|
      ((State.event_moves ..).spared rfl rfl).then <| ((State.bump_moves ..).spared rfl rfl).then <| (State.record_spared ..).then <|
        ((State.setRing_moves ..).spared rfl rfl).then <| ((State.completeRest_moves ..).spared rfl rfl).then hv
  · exact ((State.bump_moves ..).spared rfl rfl).then (State.record_spared ..)

theorem State.schedule_core (s : State) (left : Option (Nat × Nat)) : BankKept Bank.core s (s.schedule left) :=
  (s.schedule_scheduled left).banks.comp fun b => { b with waiting := [] }

theorem State.abortDesc_core (s : State) (c idx code detail : Nat) : BankKept Bank.core s (s.abortDesc c idx code detail) := by
  unfold State.abortDesc
  extract_lets u k v w x y z l z1 z2
  have hv : BankKept Bank.core s v := by
    have hu : BankKept Bank.core s u := s.endJobs_core _
    unfold v
    split
    · exact .ite (((State.setCmb_moves ..).bankKept rfl).then <| .foldl _ hu fun _ _ => (State.moveSlot_moves ..).bankKept rfl) hu
    · exact hu
  have hx : BankKept Bank.core s x := .foldl _ (((State.dropSend_moves ..).bankKept rfl).then hv) fun _ _ => (State.dropRecv_moves ..).bankKept rfl
  have hz : BankKept Bank.core s z := .foldl _ (.foldl _ hx fun _ _ => (State.dropColl_moves ..).bankKept rfl) fun _ _ => (State.dropDawn_moves ..).bankKept rfl
  exact (State.schedule_core ..).then <| ((State.endDesc_moves ..).bankKept rfl).then <| ((State.failPiped_moves ..).bankKept rfl).then <|
    ((State.setLnk_moves ..).bankKept rfl).then hz

theorem State.faultDesc_core (s : State) (c idx : Nat) (f : XFault) : BankKept Bank.core s (s.faultDesc c idx f) := by
  unfold State.faultDesc
  exact .ite ((State.lacks_moves ..).bankKept rfl) <| .ite (State.abortDesc_core ..) <|
    (State.contextFault_spared ..).banks.then ((State.noteXFault_moves ..).bankKept rfl)

/-! ### Collectives and transfers that go on (R82) -/

theorem State.setLnk_core (s : State) (l : LinkUnit) : BankKept Bank.core s (s.setLnk l) := (State.setLnk_moves ..).bankKept rfl

theorem State.setColl_core (s : State) (x : Coll) : BankKept Bank.core s (s.setColl x) := (State.setColl_moves ..).bankKept rfl

theorem State.askOrFault_core (s : State) (c idx : Nat) (f : XFault) : BankKept Bank.core s (s.askOrFault c idx f) := by
  unfold State.askOrFault
  exact .ite ((State.setLnk_core ..).then <| ((State.askRemote_moves ..).bankKept rfl).then <| State.setLnk_core ..) (State.faultDesc_core ..)

theorem State.writeResult_core (s : State) (x : Coll) (g : GroupSlot) (k : Nat) (els : List Nat) : BankKept Bank.core s (s.writeResult x g k els) := by
  unfold State.writeResult
  extract_lets m lim lo hi at_ l u
  refine .ite (.refl _ s) ?_
  have hp : BankKept Bank.core s (u.outWrite 0 x.ctx x.idx (x.dst + at_ * x.spec.elem)
      (patternBytes (8 * x.spec.elem) ((els.drop (lo - k)).take (hi - lo)))).1 := (State.outWrite_core ..).then (State.setLnk_core ..)
  generalize u.outWrite 0 x.ctx x.idx (x.dst + at_ * x.spec.elem) (patternBytes (8 * x.spec.elem) ((els.drop (lo - k)).take (hi - lo))) = p at hp ⊢
  obtain ⟨w, f⟩ := p
  cases f with
  | some f => exact (State.faultDesc_core ..).then <| (State.setLnk_core ..).then hp
  | none => exact (State.setLnk_core ..).then hp

/-- A slice's data taken, where it could be, with the count and the charge of its addition. -/
theorem State.takeSlice_core {x : Coll} {step flags chunk : Nat} (h : s.takeSlice x step flags chunk = some t) : BankKept Bank.core s t :=
  (MovesO.of (State.takeSlice_moves _ _ _ _ _) h).bankKept rfl

theorem State.takeRing_core {x : Coll} {g : GroupSlot} {v : RingView} {e : ColEarly} (h : s.takeRing x g v e = some t) : BankKept Bank.core s t := by
  unfold State.takeRing at h
  extract_lets st n c els more x' at h
  split at h
  · cases h
    exact (State.writeResult_core ..).then (State.setColl_core ..)
  · split at h
    · cases h
    · next u hu =>
      have hw : BankKept Bank.core s ((u.colCount 1 1).chargeDesc x.ctx x.idx (u.colEnergy 0 e.data.length)) :=
        ((State.chargeDesc_moves ..).bankKept rfl).then <| ((State.colCount_moves ..).bankKept rfl).then (State.takeSlice_core hu)
      dsimp only at h
      split at h
      · cases h
        exact (State.setColl_core ..).then hw
      · cases h
        exact ((State.dropSlice_moves ..).bankKept rfl).then <| (State.setColl_core ..).then hw

theorem State.nextStage_core (s : State) (x : Coll) (g : GroupSlot) (v : RingView) : BankKept Bank.core s (s.nextStage x g v) := by
  unfold State.nextStage
  exact .ite ((State.writeResult_core ..).then (State.setColl_core ..)) (State.setColl_core ..)

theorem State.deliver_core (s : State) (x : Coll) (g : GroupSlot) (own k : Nat) : BankKept Bank.core s (s.deliver x g own k) :=
  (State.writeResult_core ..).then (State.setColl_core ..)

theorem State.risen_core (s : State) (x : Coll) (g : GroupSlot) (own k : Nat) : BankKept Bank.core s (s.risen x g own k) := by
  unfold State.risen
  exact .ite ((State.deliver_core ..).then (State.setColl_core ..)) (State.setColl_core ..)

theorem State.takeTree_core {x : Coll} {g : GroupSlot} {own : Nat} {e : ColEarly} (h : s.takeTree x g own e = some t) : BankKept Bank.core s t := by
  unfold State.takeTree at h
  extract_lets m q k i j sp x' at h
  split at h
  · split at h
    · cases h
      exact (State.risen_core ..).then (State.setColl_core ..)
    · split at h
      · cases h
      · next u hu =>
        have hw : BankKept Bank.core s ((u.colCount 1 1).chargeDesc x.ctx x.idx (u.colEnergy 0 e.data.length)) :=
          ((State.chargeDesc_moves ..).bankKept rfl).then <| ((State.colCount_moves ..).bankKept rfl).then (State.takeSlice_core hu)
        dsimp only at h
        split at h
        · cases h
          have hz := fun y => (State.risen_core _ y g own e.chunk).then <| (State.setColl_core _ y).then hw
          exact .ite (((State.dropSlice_moves ..).bankKept rfl).then (hz _)) (hz _)
        · cases h
          exact (State.setColl_core ..).then hw
  · cases h
    exact (State.deliver_core ..).then (State.setColl_core ..)

theorem State.takeOne_core {x : Coll} {g : GroupSlot} (h : s.takeOne x g = some t) : BankKept Bank.core s t := by
  obtain ⟨e, -, he⟩ := List.exists_of_findSome?_eq_some h
  split at he
  · extract_lets r at he
    obtain ⟨u, hu, rfl⟩ := Option.map_eq_some_iff.1 he
    refine ((State.ackChunk_moves ..).bankKept rfl).then ?_
    unfold r at hu
    split at hu
    · obtain ⟨v, -, hv⟩ := Option.bind_eq_some_iff.1 hu
      exact State.takeRing_core hv
    · exact State.takeTree_core hu
  · cases he

theorem State.runColl_core (g cseq k : Nat) (s : State) : BankKept Bank.core s (s.runColl g cseq k) := by
  induction k generalizing s with
  | zero => exact .refl _ s
  | succ k ih =>
    unfold State.runColl
    split
    · exact .refl _ s
    · next x hx =>
      refine .ite (.refl _ s) ?_
      extract_lets gs
      have hpump : BankKept Bank.core s (s.pumpColl g cseq (2 * s.colDepth)) := (State.pumpColl_moves ..).bankKept rfl
      split
      · next u hu => exact (ih u).then (State.takeOne_core hu)
      · split
        · exact .ite ((ih _).then (State.nextStage_core ..)) hpump
        · exact .ite (((State.collDone_moves ..).bankKept rfl).then hpump) hpump

theorem State.beginColl_core (s : State) (x : Coll) (bs : List Byte) : BankKept Bank.core s (s.beginColl x bs) := by
  unfold State.beginColl
  extract_lets gs own m y
  split
  · exact (State.runColl_core ..).then <| .ite ((State.writeResult_core ..).then (State.setColl_core ..)) (State.setColl_core ..)
  · refine (State.runColl_core ..).then <| .foldl _ (State.setColl_core ..) fun z k => ?_
    split
    · exact .refl _ z
    · exact .ite (.ite (State.deliver_core ..) (.refl _ z)) <| .ite (.ite (State.risen_core ..) (.refl _ z)) (.ite (State.risen_core ..) (.refl _ z))

theorem State.tryLaunch_core (s : State) (g cseq : Nat) : BankKept Bank.core s (s.tryLaunch g cseq) := by
  unfold State.tryLaunch
  split
  · exact .refl _ s
  · extract_lets early
    refine .ite (.refl _ s) (.ite ?_ (State.beginColl_core ..))
    split
    · exact State.askOrFault_core ..
    · exact State.beginColl_core ..

theorem State.sendStuck_core (s : State) (w : SendWin) (f : XFault) : BankKept Bank.core s (s.sendStuck w f) := by
  unfold State.sendStuck
  exact .ite ((State.setLnk_core ..).then <| ((State.askRemote_moves ..).bankKept rfl).then <| State.setLnk_core ..) (State.faultDesc_core ..)

theorem State.pumpSend_core (c idx k : Nat) (s : State) : BankKept Bank.core s (s.pumpSend c idx k) := by
  induction k generalizing s with
  | zero => exact .refl _ s
  | succ k ih =>
    unfold State.pumpSend
    split
    · exact .refl _ s
    · refine .ite (.refl _ s) (.ite ((State.endSend_moves ..).bankKept rfl) (.ite ?_ (.ite (.refl _ s) ?_)))
      · split
        · exact State.sendStuck_core ..
        · exact (ih _).then <| ((State.sendMsg_moves ..).bankKept rfl).then ((State.setSend_moves ..).bankKept rfl)
      · extract_lets pick
        split
        · exact .refl _ s
        · split
          · exact State.sendStuck_core ..
          · exact (ih _).then <| ((State.sendMsg_moves ..).bankKept rfl).then <| ((State.cmbCount_moves ..).bankKept rfl).then
              ((State.setSend_moves ..).bankKept rfl)

theorem State.retryRemote_core (s : State) (c : Nat) : BankKept Bank.core s (s.retryRemote c) :=
  .foldl _ (.foldl _ (.refl _ s) fun _ _ => State.pumpSend_core ..) fun _ _ => State.tryLaunch_core ..

/-- What waited for a bridge or a bank die is looked at again, and the bank dies stay as they are (R82). -/
theorem State.retryWaiting_core (s : State) : BankKept Bank.core s s.retryWaiting := by
  unfold State.retryWaiting
  exact ((Moves.pwr (m := 0x1000000) _ rfl (.refl ..)).bankKept rfl).then <| (State.setLnk_core ..).then <|
    .foldl _ (.refl _ s) fun x c => x.retryRemote_core c

/-- With no SEND and no COLLECTIVE there is nothing to look at again. -/
theorem State.retryRemote_none (c : Nat) (hs : s.cmb.sends = []) (hc : s.col.colls = []) : s.retryRemote c = s := by
  rw [State.retryRemote, State.pumpSends, hs]
  simp [hc]

end Sys2Proof.Machine
end

section
/-! PROOFS. Boot and the bring-up of bank dies (O15). -/

namespace Sys2Proof.Machine

variable {s : State}

/-! ### Boot halts -/

/-- A fold that changes bank dies alone changes nothing else. -/
theorem foldl_setBank (f : State → Nat → Bank) (l : List Nat) (s : State) :
    ∃ t, l.foldl (fun s n => s.setBank n (f s n)) s = { s with banks := t } := by
  induction l generalizing s with
  | nil => exact ⟨s.banks, rfl⟩
  | cons n l ih =>
    obtain ⟨t, ht⟩ := ih (s.setBank n (f s n))
    exact ⟨t, ht⟩

theorem State.alert_pends (s : State) {b : Nat} (hb : b < 32) (h : Regs.wf s.regs = true) : (s.alert b).rbit 0xC0008 b = true := by
  unfold State.alert
  split
  · assumption
  · unfold State.rbit State.setFld
    change bitAt ((s.setReg 0xC0008 (wput (s.reg 0xC0008) b 1 1)).reg 0xC0008).toNat b = true
    rw [State.reg, State.setReg, tabGet_tabSet_same regDefault s.regs _ _ h]
    exact bitAt_wput_one _ hb

/-- A halt of boot names its failure, holds the bank dies and raises the alert (R71, R516). -/
theorem State.haltBoot_eq (s : State) (code bank stage : Nat) : ∃ t, s.haltBoot code bank stage =
    ({ s with boot := { s.boot with halted := true, code := code, bank := bank, haltStage := stage, ready := false }, banks := t } : State).alert 0 := by
  unfold State.haltBoot
  extract_lets b u v
  obtain ⟨t, ht⟩ : ∃ t, v = { u with banks := t } := foldl_setBank _ _ u
  exact ⟨t, congrArg (State.alert · 0) ht⟩

theorem State.haltBoot_boot (s : State) (code bank stage : Nat) :
    (s.haltBoot code bank stage).boot = { s.boot with halted := true, code := code, bank := bank, haltStage := stage, ready := false } := by
  obtain ⟨t, ht⟩ := s.haltBoot_eq code bank stage
  rw [ht, State.alert_boot]

theorem State.haltBoot_alerts (s : State) (code bank stage : Nat) (h : Inv s) : (s.haltBoot code bank stage).rbit 0xC0008 0 = true := by
  obtain ⟨t, ht⟩ := s.haltBoot_eq code bank stage
  rw [ht]
  exact State.alert_pends _ (by decide) h.regs

/-! ### The bring-up starts -/

/-- A bank die in step 1 of its bring-up, from tick `at_`. -/
def State.StartsAt (s : State) (n at_ : Nat) : Prop := (s.bank n).phase = .bringup 1 ∧ (s.bank n).startAt = at_

theorem State.startBringup_startsAt (s : State) (n at_ : Nat) : (s.startBringup n at_).StartsAt n at_ := by
  unfold State.StartsAt State.startBringup
  rw [State.bank_setBank_ne _ (Bank.ne_reset_of_phase (by nofun))]
  exact ⟨rfl, rfl⟩

theorem State.StartsAt.setBank {n m at_ : Nat} {b : Bank} (h : s.StartsAt n at_) (hne : n ≠ m) : (s.setBank m b).StartsAt n at_ := by
  unfold State.StartsAt
  rw [State.bank_setBank_other _ _ hne]
  exact h

/-- Step 1 of the bring-up of each bank die listed that is not FAILED, 20 us apart (R73). -/
def State.startEach (s : State) (l : List Nat) : State :=
  l.foldl (fun s n => if (s.bank n).phase = .failed then s else s.startBringup n (s.clk + 20000 * n)) s

theorem State.startEach_cons (s : State) {n : Nat} (l : List Nat) (h : (s.bank n).phase ≠ .failed) :
    s.startEach (n :: l) = (s.startBringup n (s.clk + 20000 * n)).startEach l := by rw [State.startEach, List.foldl_cons, if_neg h]; rfl

theorem State.startEach_keeps {n at_ : Nat} (l : List Nat) (hn : n ∉ l) (h : s.StartsAt n at_) : (s.startEach l).StartsAt n at_ := by
  unfold State.startEach
  refine List.foldlRecOn (motive := fun u : State => u.StartsAt n at_) _ _ h fun u hu m hm => ?_
  split
  · exact hu
  · exact hu.setBank fun e => hn (e ▸ hm)

theorem State.startEach_starts (l : List Nat) (hl : l.Nodup) (s : State) (h : ∀ n ∈ l, (s.bank n).phase ≠ .failed) :
    ∀ n ∈ l, (s.startEach l).StartsAt n (s.clk + 20000 * n) := by
  induction l generalizing s with
  | nil => nofun
  | cons m l ih =>
    obtain ⟨hm, hl⟩ := List.nodup_cons.1 hl
    intro n hn
    rw [State.startEach_cons s l (h m List.mem_cons_self)]
    rcases List.mem_cons.1 hn with rfl | hn
    · exact State.startEach_keeps l hm (s.startBringup_startsAt ..)
    · refine ih hl (s.startBringup m (s.clk + 20000 * m)) (fun k hk => ?_) n hn
      have hne : k ≠ m := fun e => hm (e ▸ hk)
      rw [State.startBringup, State.bank_setBank_other _ _ hne]
      exact h k (List.mem_cons_of_mem _ hk)

/-- With no bank die FAILED, all four start step 1 and boot goes on (R73, R90). -/
theorem State.startBanks_eq (s : State) (h : ∀ n < 4, (s.bank n).phase ≠ .failed) : s.startBanks = s.startEach (List.range 4) := by
  have hs := State.startEach_starts (List.range 4) (by decide) s (fun n hn => h n (List.mem_range.1 hn)) 0 (by decide)
  refine if_neg fun hall => ?_
  have hf := of_decide_eq_true (List.all_eq_true.1 hall 0 (by decide))
  exact BankPhase.noConfusion (hs.1.symm.trans hf)

/-! ### The end of a stage of boot -/

theorem exec_bootStageDone_failed {code : Nat} (flash : FlashLoad) (bc bs : List Nat) (h : s.bootRuns) (hc : code ≠ 0) :
    exec (.bootStageDone code flash bc bs) s = .next (s.haltBoot code 0xF s.boot.stage) := by
  obtain ⟨h1, h2, h3, h4, h5, h6⟩ := h
  change execBootStageDone .. = _
  simp [execBootStageDone, *]

theorem exec_bootStageDone_zero (flash : FlashLoad) (bc bs : List Nat) (h : s.bootRuns) (hs : s.boot.stage = 0) :
    ∃ u, exec (.bootStageDone 0 flash bc bs) s = .next u ∧ u.boot.stage = 1 := by
  obtain ⟨h1, h2, h3, h4, h5, h6⟩ := h
  change ∃ u, execBootStageDone .. = _ ∧ _
  simp [execBootStageDone, *]

theorem exec_bootStageDone_noRef (flash : FlashLoad) (bc bs : List Nat) (h : s.bootRuns) (hs : s.boot.stage = 1) (hr : s.boot.refOk = false) :
    exec (.bootStageDone 0 flash bc bs) s = .next (s.haltBoot 11 0xF 1) := by
  obtain ⟨h1, h2, h3, h4, h5, h6⟩ := h
  change execBootStageDone .. = _
  simp [execBootStageDone, *]

/-- The state at the end of stage 1: the PLL of the hub is locked, its maps are derived, its scratchpad is zeros and the ports are detected. -/
def State.hubReady (s : State) (bc bs : List Nat) : State :=
  (({ s with boot := { s.boot with hubLock := true, backup := false, stage := 2 } }).deriveHub bc bs).zeroHub.portsDetect

theorem State.hubReady_moves (s : State) (bc bs : List Nat) :
    Moves 0x273493C { s with boot := { s.boot with hubLock := true, backup := false, stage := 2 } } (s.hubReady bc bs) :=
  (State.portsDetect_moves _).then rfl <| (State.zeroHub_moves _).then rfl <| (State.deriveHub_moves ..).mono rfl

theorem exec_bootStageDone_one (flash : FlashLoad) (bc bs : List Nat) (h : s.bootRuns) (hs : s.boot.stage = 1) (hr : s.boot.refOk = true) :
    exec (.bootStageDone 0 flash bc bs) s =
      .next (if (List.range 4).any (fun k => (s.hubReady bc bs).dpFailed (28 + k)) then (s.hubReady bc bs).haltBoot 10 0xF 1
        else (s.hubReady bc bs).startBanks) := by
  obtain ⟨h1, h2, h3, h4, h5, h6⟩ := h
  have h0 : ¬(s.boot.halted ∨ s.boot.done ∨ s.boot.testMode ∨ !s.boot.rstN ∨ !s.boot.powered ∨ s.pwr.state = .midnight) := by simp [*]
  have he : execBootStageDone 0 flash bc bs s = if (List.range 4).any (fun k => (s.hubReady bc bs).dpFailed (28 + k)) then
      .next ((s.hubReady bc bs).haltBoot 10 0xF 1) else .next (s.hubReady bc bs).startBanks :=
    (if_neg h0).trans <| (if_neg (not_not.2 rfl)).trans <| (if_neg (by omega)).trans <| (if_pos hs).trans (if_neg (by simp [hr]))
  exact he.trans (apply_ite _ ..).symm

theorem bootStage_one (flash : FlashLoad) (bc bs : List Nat) (h : s.bootRuns) (hs : s.boot.stage = 1) (hr : s.boot.refOk = true)
    (hf : ∀ n < 4, (s.bank n).phase ≠ .failed) :
    ∃ u, exec (.bootStageDone 0 flash bc bs) s = .next u ∧ u.boot.hubLock = true ∧ u.boot.backup = false ∧
      ((u.boot.halted = true ∧ u.boot.code = 10) ∨ (∀ n < 4, (u.bank n).phase = .bringup 1 ∧ (u.bank n).startAt = s.clk + 20000 * n)) := by
  have hm := s.hubReady_moves bc bs
  have hboot := hm.off .boot rfl
  have hbanks := hm.off .banks rfl
  have hclk := hm.off .clock rfl
  refine ⟨_, exec_bootStageDone_one flash bc bs h hs hr, ?_⟩
  generalize s.hubReady bc bs = w at hboot hbanks hclk ⊢
  change w.boot = _ at hboot
  change w.banks = s.banks at hbanks
  change w.clk = s.clk at hclk
  have hb (n : Nat) : w.bank n = s.bank n := congrArg (tabGet _ · n) hbanks
  split
  · rw [State.haltBoot_boot, hboot]
    exact ⟨rfl, rfl, .inl ⟨rfl, rfl⟩⟩
  · rw [State.startBanks_eq w fun n hn => hb n ▸ hf n hn]
    have hkeep : (w.startEach (List.range 4)).boot = w.boot :=
      List.foldlRecOn (motive := fun u : State => u.boot = w.boot) _ _ rfl fun u hu _ _ => by split <;> exact hu
    rw [hkeep, hboot, ← hclk]
    exact ⟨rfl, rfl, .inr fun n hn => State.startEach_starts _ (by decide) w (fun k hk => hb k ▸ hf k (List.mem_range.1 hk)) n (List.mem_range.2 hn)⟩

theorem bootStage_failed {code : Nat} (flash : FlashLoad) (bc bs : List Nat) (hi : Inv s) (h : s.bootRuns) (hc : code ≠ 0) :
    ∃ u, exec (.bootStageDone code flash bc bs) s = .next u ∧ u.boot.halted = true ∧ u.boot.code = code ∧ u.boot.bank = 0xF ∧
      u.rbit 0xC0008 0 = true := by
  refine ⟨_, exec_bootStageDone_failed flash bc bs h hc, ?_⟩
  rw [State.haltBoot_boot]
  exact ⟨rfl, rfl, rfl, State.haltBoot_alerts _ _ _ _ hi⟩

theorem bootStage_noRef (flash : FlashLoad) (bc bs : List Nat) (h : s.bootRuns) (hs : s.boot.stage = 1) (hr : s.boot.refOk = false) :
    ∃ u, exec (.bootStageDone 0 flash bc bs) s = .next u ∧ u.boot.halted = true ∧ u.boot.code = 11 := by
  refine ⟨_, exec_bootStageDone_noRef flash bc bs h hs hr, ?_⟩
  rw [State.haltBoot_boot]
  exact ⟨rfl, rfl⟩

/-! ### Steps of a bring-up -/

variable {n : BankId} {k code : Nat}

/-- A step from 1 to 4 may end whatever the other bank dies do; step 1 not before its start (R73). -/
theorem exec_bringupStepDone (w : WireTest) (br : List (Nat × Nat × Nat)) (be : List Nat) (sfu : Bool) (h : (s.bank n.val).phase = .bringup k)
    (hk : k ≤ 4) :
    exec (.bankBringupStepDone n code w br be sfu) s =
      let u := if k = 1 then s.reachClk (s.bank n.val).startAt else s
      .next (if code ≠ 0 then u.bringupFailed n.val k code else u.bringupStep n.val k w br be sfu) := by
  have hmay (u : State) : u.stepMayEnd n.val k = true := by
    unfold State.stepMayEnd
    rw [if_neg (by omega), if_neg (by omega)]
  change execBankBringupStepDone .. = _
  simp only [execBankBringupStepDone, h, hmay]
  exact (apply_ite _ ..).symm

theorem bringup_first (w : WireTest) (br : List (Nat × Nat × Nat)) (be : List Nat) (sfu : Bool) (h : (s.bank n.val).phase = .bringup 1) :
    ∃ u, exec (.bankBringupStepDone n 0 w br be sfu) s = .next u ∧ (u.bank n.val).phase = .bringup 2 ∧ (u.bank n.val).pllLock = true ∧
      u.clk = max s.clk (s.bank n.val).startAt := by
  refine ⟨_, exec_bringupStepDone w br be sfu h (by decide), ?_⟩
  have hb : ((s.reachClk (s.bank n.val).startAt).setBank n.val { s.bank n.val with pllLock := true, inReset := false }).bank n.val =
      { s.bank n.val with pllLock := true, inReset := false } :=
    State.bank_setBank_ne _ (Bank.ne_reset_of_phase (by rw [h]; nofun))
  have hn : (((s.reachClk (s.bank n.val).startAt).setBank n.val { s.bank n.val with pllLock := true, inReset := false }).bringupNext n.val 1).bank n.val =
      { s.bank n.val with pllLock := true, inReset := false, phase := .bringup 2 } := by
    unfold State.bringupNext
    rw [hb]
    exact State.bank_setBank_ne _ (Bank.ne_reset_of_phase nofun)
  exact ⟨congrArg Bank.phase hn, congrArg Bank.pllLock hn, rfl⟩

/-- A step that failed at a cold start, the first and the second time: the bring-up begins again (R71). -/
theorem State.bringupFailed_again (step : Nat) (hm : s.boot.midnightExit = false) (hr : (s.bank n.val).repeats < 2) :
    ((s.bringupFailed n.val step code).bank n.val).phase = .bringup 1 ∧
      ((s.bringupFailed n.val step code).bank n.val).repeats = (s.bank n.val).repeats + 1 := by
  have hb : (s.bringupFailed n.val step code).bank n.val =
      { ({ s.bank n.val with repeats := (s.bank n.val).repeats + 1 } : Bank).cleared with
        phase := .bringup 1, bridge := .training, pllLock := false, startAt := s.clk, inReset := true, waiting := [] } := by
    unfold State.bringupFailed
    rw [if_neg (by simp [hm]), if_pos hr]
    change ((s.setBank _ _).startBringup _ _).bank _ = _
    unfold State.startBringup
    rw [State.bank_setBank_ne s (n := n.val) fun e => absurd (congrArg Bank.repeats e) (Nat.succ_ne_zero _)]
    exact State.bank_setBank_ne _ (Bank.ne_reset_of_phase nofun)
  rw [hb]
  exact ⟨rfl, rfl⟩

/-- The next failure halts boot. -/
theorem State.bringupFailed_halts (step : Nat) (hm : s.boot.midnightExit = false) (hr : 2 ≤ (s.bank n.val).repeats) :
    (s.bringupFailed n.val step code).boot =
      { s.boot with halted := true, code := code, bank := n.val, haltStage := stageOf step, ready := false } := by
  unfold State.bringupFailed
  rw [if_neg (by simp [hm]), if_neg (Nat.not_lt.2 hr), State.haltBoot_boot]

theorem bringup_again (w : WireTest) (br : List (Nat × Nat × Nat)) (be : List Nat) (sfu : Bool) (h : (s.bank n.val).phase = .bringup k) (hk : k ≤ 4)
    (hc : code ≠ 0) (hm : s.boot.midnightExit = false) (hr : (s.bank n.val).repeats < 2) :
    ∃ u, exec (.bankBringupStepDone n code w br be sfu) s = .next u ∧ (u.bank n.val).phase = .bringup 1 ∧
      (u.bank n.val).repeats = (s.bank n.val).repeats + 1 := by
  refine ⟨_, exec_bringupStepDone w br be sfu h hk, ?_⟩
  rw [if_pos hc]
  split
  · exact State.bringupFailed_again (s := s.reachClk _) k hm hr
  · exact State.bringupFailed_again k hm hr

theorem bringup_halts (w : WireTest) (br : List (Nat × Nat × Nat)) (be : List Nat) (sfu : Bool) (h : (s.bank n.val).phase = .bringup k) (hk : k ≤ 4)
    (hc : code ≠ 0) (hm : s.boot.midnightExit = false) (hr : 2 ≤ (s.bank n.val).repeats) :
    ∃ u, exec (.bankBringupStepDone n code w br be sfu) s = .next u ∧ u.boot.halted = true ∧ u.boot.code = code ∧ u.boot.bank = n.val := by
  refine ⟨_, exec_bringupStepDone w br be sfu h hk, ?_⟩
  rw [if_pos hc]
  split
  · rw [State.bringupFailed_halts (s := s.reachClk _) k hm hr]
    exact ⟨rfl, rfl, rfl⟩
  · rw [State.bringupFailed_halts k hm hr]
    exact ⟨rfl, rfl, rfl⟩

theorem bringup_outside (w : WireTest) (br : List (Nat × Nat × Nat)) (be : List Nat) (sfu : Bool)
    (h : (s.bank n.val).phase = .down ∨ (s.bank n.val).phase = .active ∨ (s.bank n.val).phase = .resetting ∨ (s.bank n.val).phase = .failed ∨
      (s.bank n.val).phase = .retained) :
    ∃ u, exec (.bankBringupStepDone n code w br be sfu) s = .next u ∧ u = s := by
  refine ⟨s, ?_, rfl⟩
  change execBankBringupStepDone .. = _
  rcases h with h | h | h | h | h <;> simp only [execBankBringupStepDone, h]

/-! ### Discovery -/

variable {r : FuseRecord}

theorem exec_discovery (h : (s.bank n.val).phase = .bringup 3) :
    exec (.bankDiscoveryResponse n r) s =
      .next (if fuseCode n.val r ≠ 0 then s.bringupFailed n.val 3 (fuseCode n.val r) else (s.identified n.val r).bringupNext n.val 3) := by
  change execBankDiscoveryResponse .. = _
  simp only [execBankDiscoveryResponse, h]
  split <;> rfl

theorem fuseCode_good (h1 : r.eccOk = true) (h2 : r.posValid = true) (h3 : r.pos = n.val) (h4 : r.pkgBind = Config.pkgBind) : fuseCode n.val r = 0 := by
  simp [fuseCode, *]

theorem fuseCode_bad (h : r.eccOk = false ∨ r.posValid = false ∨ r.pos ≠ n.val ∨ r.pkgBind ≠ Config.pkgBind) : fuseCode n.val r ≠ 0 := by
  intro e
  unfold fuseCode at e
  split at e
  · cases e
  split at e
  · cases e
  split at e
  · cases e
  split at e
  · cases e
  · simp_all

theorem discovery_good (h : (s.bank n.val).phase = .bringup 3) (hs : (s.bank n.val).serial = none) (hf : fuseCode n.val r = 0) :
    ∃ u, exec (.bankDiscoveryResponse n r) s = .next u ∧ (u.bank n.val).phase = .bringup 4 ∧ (u.bank n.val).serial = some r.serial := by
  refine ⟨_, exec_discovery h, ?_⟩
  rw [if_neg (not_not.2 hf)]
  have hb : ((s.identified n.val r).bank n.val).serial = some r.serial := by
    unfold State.identified
    simp only [hs]
    rw [State.bank_setBank_ne s (Bank.ne_reset_of_phase (by rw [h]; nofun))]
  have hn : ((s.identified n.val r).bringupNext n.val 3).bank n.val = { (s.identified n.val r).bank n.val with phase := .bringup 4 } :=
    State.bank_setBank_ne _ (Bank.ne_reset_of_phase nofun)
  exact ⟨congrArg Bank.phase hn, (congrArg Bank.serial hn).trans hb⟩

theorem discovery_bad (h : (s.bank n.val).phase = .bringup 3) (hm : s.boot.midnightExit = false) (hr : (s.bank n.val).repeats < 2)
    (hf : fuseCode n.val r ≠ 0) :
    ∃ u, exec (.bankDiscoveryResponse n r) s = .next u ∧ (u.bank n.val).phase = .bringup 1 ∧
      (u.bank n.val).repeats = (s.bank n.val).repeats + 1 := by
  refine ⟨_, exec_discovery h, ?_⟩
  rw [if_pos hf]
  exact State.bringupFailed_again 3 hm hr

theorem discovery_outside (h : (s.bank n.val).phase ≠ .bringup 3) : ∃ u, exec (.bankDiscoveryResponse n r) s = .next u ∧ u = s := by
  refine ⟨s, ?_, rfl⟩
  change execBankDiscoveryResponse .. = _
  unfold execBankDiscoveryResponse
  split
  · exact absurd ‹_› h
  · rfl

/-- Settles O15: a halt of boot is one register of state, a bring-up one entry of the table of bank dies. -/
theorem bootAndBringup : Obligations.BootAndBringup :=
  ⟨fun flash bc bs _ h hs => exec_bootStageDone_zero flash bc bs h hs,
   fun flash bc bs _ h hs hr hf => bootStage_one flash bc bs h hs hr hf,
   fun flash bc bs _ h hs hr => bootStage_noRef flash bc bs h hs hr,
   fun _ flash bc bs _ hi h hc => bootStage_failed flash bc bs hi h hc,
   fun _ w br be sfu _ h => bringup_first w br be sfu h,
   fun _ _ _ w br be sfu _ h _ hk hc hm hr => bringup_again w br be sfu h hk hc hm hr,
   fun _ _ _ w br be sfu _ h _ hk hc hm hr => bringup_halts w br be sfu h hk hc hm hr,
   fun _ _ _ h hs h1 h2 h3 h4 => discovery_good h hs (fuseCode_good h1 h2 h3 h4),
   fun _ _ _ h hm hr hf => discovery_bad h hm hr (fuseCode_bad hf),
   fun _ _ w br be sfu _ h => bringup_outside w br be sfu h,
   fun _ _ _ h => discovery_outside h⟩

end Sys2Proof.Machine
end

section
/-! PROOFS. A bank die lost, a RESET that waited, and the training of a bridge: what O16 and O17 share. -/

namespace Sys2Proof.Machine

variable {s t u : State} {n : Nat}

/-! ### A bank die is lost (R86) -/

/-- What a bank die is still known by once it is down. -/
theorem Bank.core_ne_of_phase {b : Bank} (h : b.phase ≠ .down) : b.core ≠ Bank.reset.core := fun e => h (congrArg Bank.phase e)

theorem Bank.core_ne_of_bridge {b : Bank} (h : b.bridge ≠ .down) : b.core ≠ Bank.reset.core := fun e => h (congrArg Bank.bridge e)

/-- What two bank dies with the same core share. -/
theorem Bank.of_core {b b' : Bank} (h : b'.core = b.core) : b'.phase = b.phase ∧ b'.memFault = b.memFault ∧ b'.pllLock = b.pllLock ∧
    b'.bridge = b.bridge ∧ b'.badRetrains = b.badRetrains ∧ b'.memLost = b.memLost :=
  ⟨(congrArg Bank.phase h :), (congrArg Bank.memFault h :), (congrArg Bank.pllLock h :), (congrArg Bank.bridge h :), (congrArg Bank.badRetrains h :),
    (congrArg Bank.memLost h :)⟩

/-- The contexts with work on a bank die that is lost take a context-class fault (R86 step 1, R161). -/
def State.faultWork (s : State) (n : Nat) (hit : List (Nat × Option Nat)) : State := ctxRange.foldl (fun s c =>
  match hit.find? (fun x => decide (x.1 = c)) with
  | some x => s.contextFault c 0x43 n x.2 false n
  | none => s) s

theorem State.faultWork_spared (s : State) (n : Nat) (hit : List (Nat × Option Nat)) : Spared s (s.faultWork n hit) := .foldl _ (.refl s) fun x c => by
  split
  · exact State.contextFault_spared ..
  · exact .refl x

theorem State.beginBankReset_bank (s : State) (n : Nat) (memory : Bool) : (s.beginBankReset n memory).bank n =
    { (s.bank n).cleared with phase := .resetting, bridge := .training, memFault := memory, inReset := true, selfRefresh := true } :=
  State.bank_setBank_ne s (Bank.ne_reset_of_phase (by nofun))

/-- What follows the start of a bank reset leaves the bank dies and the views. -/
theorem State.loseBank_rest (s : State) (n : Nat) : Spared s (((s.bracketBank n).hubEvent 0x13 n n).schedule none) :=
  have h2 : Spared (s.bracketBank n) ((s.bracketBank n).hubEvent 0x13 n n) := ⟨(State.hubEvent_moves ..).bankKept rfl, State.hubEvent_views ..⟩
  have h3 : Spared ((s.bracketBank n).hubEvent 0x13 n n) (((s.bracketBank n).hubEvent 0x13 n n).schedule none) :=
    ⟨State.schedule_core .., (State.schedule_moves ..).views rfl⟩
  h3.then <| h2.then ⟨(State.bracketBank_moves ..).bankKept rfl, s.bracketBank_views n⟩

/-- The view fails and the work faults, then the bank reset begins. -/
theorem State.loseBank_steps (s : State) (n : Nat) (memory : Bool) :
    ∃ v, Spared (s.setDp n true) v ∧ Spared (v.beginBankReset n memory) (s.loseBank n memory) := by
  unfold State.loseBank
  extract_lets u hit v b w
  have hv : Spared u v := u.faultWork_spared n hit
  have hw : Spared v w := ⟨v.setBank_bankKept n rfl, (State.setBank_moves ..).views rfl⟩
  exact ⟨w, hw.then hv, State.loseBank_rest (w.beginBankReset n memory) n⟩

/-- The bank die that is lost resets, and its reset keeps where the fault lay (R86 step 3). -/
theorem State.loseBank_bank (s : State) (n : Nat) (memory : Bool) : ((s.loseBank n memory).bank n).phase = .resetting ∧
    ((s.loseBank n memory).bank n).memFault = memory := by
  obtain ⟨v, -, hr⟩ := s.loseBank_steps n memory
  have hb := v.beginBankReset_bank n memory
  have hk := hr.banks.keeps n (.inr (Bank.core_ne_of_phase (by rw [hb]; nofun)))
  rw [hb] at hk
  obtain ⟨hp, hm, -⟩ := Bank.of_core hk
  exact ⟨hp, hm⟩

/-- The PLL of a bank die that is lost stays as it is. -/
theorem State.loseBank_pllLock (memory : Bool) (hp : (s.bank n).phase ≠ .down) : ((s.loseBank n memory).bank n).pllLock = (s.bank n).pllLock := by
  obtain ⟨v, hv, hr⟩ := s.loseBank_steps n memory
  have hb := v.beginBankReset_bank n memory
  have hk := hr.banks.keeps n (.inr (Bank.core_ne_of_phase (by rw [hb]; nofun)))
  rw [hb] at hk
  have hu : (v.bank n).core = (s.bank n).core :=
    (hv.banks.then ((State.setDp_moves ..).bankKept rfl)).keeps n (.inr (Bank.core_ne_of_phase hp))
  obtain ⟨-, -, hl, -⟩ := Bank.of_core hk
  obtain ⟨-, -, hl', -⟩ := Bank.of_core hu
  exact hl.trans hl'

/-- The views after a bank die is lost are those before, with its own failed. -/
theorem State.loseBank_views (s : State) (n : Nat) (memory : Bool) : ViewsKept (s.setDp n true) (s.loseBank n memory) := by
  obtain ⟨v, hv, hr⟩ := s.loseBank_steps n memory
  have hb : ViewsKept v (v.beginBankReset n memory) := ⟨rfl⟩
  exact hr.views.then (hb.then hv.views)

/-- A RESET that waited is judged on a bank die that resets already: it is a locked write (R89). -/
theorem State.judgeWaiting_resetting (hp : (s.bank n).phase = .resetting) :
    (∃ w, (s.judgeWaiting n).bank n = { s.bank n with resetWait := w }) ∧ ViewsKept s (s.judgeWaiting n) := by
  unfold State.judgeWaiting
  split
  · have hb : (s.setBank n { s.bank n with resetWait := false }).bank n = { s.bank n with resetWait := false } :=
      State.bank_setBank_ne s (Bank.ne_reset_of_phase (by rw [hp]; nofun))
    unfold State.judgeReset
    rw [hb, if_neg (by simp [hp])]
    exact ⟨⟨false, (congrArg (tabGet _ · n) ((State.locked_moves ..).off .banks rfl)).trans hb⟩,
      ((State.locked_moves ..).views rfl).then ((State.setBank_moves ..).views rfl)⟩
  · exact ⟨⟨_, rfl⟩, .refl s⟩

/-! ### A bridge trains (R64, R78, R85) -/

/-- A direction but for what a training makes anew. -/
def BridgeDir.bare (d : BridgeDir) : BridgeDir := { d with spares := [], nackRun := 0, crcMinute := 0 }

/-- A bank die but for what a training of its bridge makes anew. -/
def Bank.bare (b : Bank) : Bank :=
  { b with degraded := false, onBackup := [], expDay := 0, expMinute := 0, h2b := b.h2b.bare, b2h := b.b2h.bare }

theorem State.trainBridge_bare {w : WireTest} {queued : Bool} (h : s.trainBridge n w queued = some t) : BankKept Bank.bare s t := by
  unfold State.trainBridge at h
  extract_lets b deg cause s1 s2 d1 d2 at h
  split at h
  · split at h
    · cases h
    · have h2 : Moves 0x201483C s s2 := .foldl _ (.foldl _ (.refl ..) fun _ _ hz => .then (State.noteWire_moves ..) rfl hz) fun _ _ hz =>
        .then (State.noteWire_moves ..) rfl hz
      split at h
      next s3 x e3 =>
      have h3 : Moves 0x201483C s s3 := MovesF.of (.ite (.then (State.queuedWires_moves ..) rfl h2) (.mk h2)) e3
      split at h
      next s4 y e4 =>
      have h4 : Moves 0x201483C s s4 := MovesF.of (.ite (.then (State.queuedWires_moves ..) rfl h3) (.mk h3)) e4
      extract_lets s5 at_ s6 at h
      have h5 : Moves 0x201483C s s5 := (State.wireMargins_moves ..).then rfl <| (State.wireMargins_moves ..).then rfl h4
      have hb : s5.bank n = b := congrArg (tabGet _ · n) (h5.off .banks rfl)
      have h6 : BankKept Bank.bare s s6 := (s5.setBank_bankKept n (by rw [hb]; rfl)).then (h5.bankKept rfl)
      cases h
      exact .ite (((State.hubEvent_moves ..).bankKept rfl).then h6) h6
  · cases h

/-- With spares for its failed wires and its duplicated pairs at work, a bridge trains. -/
theorem State.trainBridge_trains {w : WireTest} (queued : Bool)
    (hx : (assignSpares (s.bank n).h2b.spares (s.mapWires n 0 deApplied ++ w.badH2b)).isSome = true)
    (hy : (assignSpares (s.bank n).b2h.spares (s.mapWires n 1 deApplied ++ w.badB2h)).isSome = true) (hp : w.pairDead = false) :
    ∃ u, s.trainBridge n w queued = some u ∧ BankKept Bank.bare s u := by
  obtain ⟨x, hx⟩ := Option.isSome_iff_exists.1 hx
  obtain ⟨y, hy⟩ := Option.isSome_iff_exists.1 hy
  have ht : (s.trainBridge n w queued).isSome = true := by
    unfold State.trainBridge
    simp only [hx, hy, hp]
    rfl
  obtain ⟨u, hu⟩ := Option.isSome_iff_exists.1 ht
  exact ⟨u, hu, State.trainBridge_bare hu⟩

end Sys2Proof.Machine
end

section
/-! PROOFS. A package-class fault leaves the bank dies' PLLs and the mark of a lost reference, and it stands; and the loss of the board reference (R87, R468). -/

namespace Sys2Proof.Machine

variable {o s t : State}

/-- The views, the PLLs of the bank dies and the mark of a lost reference are the same before and after. -/
structure Severed (s t : State) : Prop where
  views : ViewsKept s t
  plls : BankKept Bank.pllLock s t
  lost : t.day.refLost = s.day.refLost

theorem Severed.refl (s : State) : Severed s s := ⟨.refl s, .refl _ s, rfl⟩

theorem Severed.then (h' : Severed s t) (h : Severed o s) : Severed o t := ⟨h'.views.then h.views, h'.plls.then h.plls, h'.lost.trans h.lost⟩

theorem Severed.ite {c : Prop} [Decidable c] {a b : State} (ha : Severed o a) (hb : Severed o b) : Severed o (if c then a else b) := by
  split <;> assumption

theorem Severed.foldl {α : Type} {f : State → α → State} (l : List α) (h : Severed o s) (hf : ∀ x a, Severed x (f x a)) : Severed o (l.foldl f s) := by
  induction l generalizing s with
  | nil => exact h
  | cons a l ih => exact ih ((hf s a).then h)

theorem Moves.severed {m : Nat} (h : Moves m s t) (hd : m.testBit 9 = false) (hb : m.testBit 10 = false) (hf : m.testBit 14 = false) : Severed s t := by
  have hday : t.day = s.day := h.off .day hd
  exact ⟨h.views hf, h.bankKept hb, by rw [hday]⟩

theorem State.setCtx_severed (s : State) (c : Nat) (x : Ctx) : Severed s (s.setCtx c x) := (State.setCtx_moves ..).severed rfl rfl rfl

theorem State.record_severed (s : State) (k source code ctx unit detail : Nat) : Severed s (s.record k source code ctx unit detail) :=
  ⟨State.record_views .., (State.record_moves ..).bankKept rfl, congrArg DayUnit.refLost ((State.record_moves ..).off .day rfl)⟩

theorem Spared.severed (h : Spared s t) (hd : t.day = s.day) : Severed s t := ⟨h.views, h.banks.comp Bank.pllLock, congrArg DayUnit.refLost hd⟩

theorem State.dropJobs_severed (s : State) (c : Nat) : Severed s (s.dropJobs c) := (s.dropJobs_spared c).severed ((State.dropJobs_moves ..).off .day rfl)

theorem State.dropWork_severed (s : State) (c : Nat) : Severed s (s.dropWork c) := (s.dropWork_spared c).severed ((State.dropWork_moves ..).off .day rfl)

theorem State.withdrawTakes_severed (s : State) (c : Nat) : Severed s (s.withdrawTakes c) :=
  ⟨s.withdrawTakes_views c, (State.withdrawTakes_moves ..).bankKept rfl, congrArg DayUnit.refLost ((State.withdrawTakes_moves ..).off .day rfl)⟩

theorem State.fenceLeases_severed (s : State) (c : Nat) : Severed s (s.fenceLeases c) :=
  ⟨s.fenceLeases_views c, (State.fenceLeases_moves ..).bankKept rfl, congrArg DayUnit.refLost ((State.fenceLeases_moves ..).off .day rfl)⟩

theorem State.discardShadow_severed (s : State) : Severed s s.discardShadow := by
  refine ⟨?_, (State.discardShadow_moves s).bankKept rfl, congrArg DayUnit.refLost ((State.discardShadow_moves s).off .day rfl)⟩
  unfold State.discardShadow
  split
  · exact .refl s
  · exact (State.fence_views ..).then ⟨rfl⟩

theorem State.parentLost_severed (s : State) (p : Nat) : Severed s (s.parentLost p) := by
  refine ⟨(State.parentLost_moves ..).views rfl, (State.parentLost_moves ..).bankKept rfl, ?_⟩
  unfold State.parentLost
  extract_lets was d0 t d1 u
  have ht : t.day.refLost = s.day.refLost := rfl
  have hu : u.day.refLost = s.day.refLost := by
    unfold u
    split
    · exact ht
    · refine (DayUnit.refLost_of_core (State.settleDay_day _).core).trans ?_
      rw [State.flagOpen_day]
      exact ht
  split
  · exact (DayUnit.refLost_of_core (State.elect_day u).core).trans hu
  · exact hu

theorem State.portsLost_severed (s : State) : Severed s s.portsLost := by
  unfold State.portsLost
  refine ((State.setLnk_moves ..).severed rfl rfl rfl).then <| .foldl _ (.refl s) fun x p => ?_
  unfold State.portLost
  extract_lets q t had l u
  have ht : Severed x t := ((State.setPort_moves ..).severed rfl rfl rfl).then <| (State.portTo_moves ..).severed rfl rfl rfl
  have hu : Severed x u := ((State.setLnk_moves ..).severed rfl rfl rfl).then ht
  exact .ite (.refl x) (.ite ((State.parentLost_severed ..).then ht) (.ite ((State.record_severed ..).then hu) hu))

/-- A package-class fault stands, and leaves the PLLs of the bank dies and the mark of a lost reference (R468). -/
theorem State.packageFault_severed (s : State) (source code unit detail : Nat) (hostDead : Bool) :
    let t := s.packageFault source code unit detail hostDead
    t.flt.pkgFault = true ∧ BankKept Bank.pllLock s t ∧ t.day.refLost = s.day.refLost := by
  unfold State.packageFault
  extract_lets s1 slot cold dead f host s2 s3 s4 s5 s6 c6 s7 s8
  have h1 : Severed s s1 := ((State.bump_moves ..).severed rfl rfl rfl).then <| State.record_severed ..
  have h5 : Severed s2 s5 := (State.discardShadow_severed _).then <| ((State.loseRings_moves ..).severed rfl rfl rfl).then <|
    .foldl _ (.refl s2) fun x c => x.dropJobs_severed c
  have h6 : Severed s5 s6 := .foldl _ (.refl s5) fun x c => .ite
    ((State.setCtx_severed ..).then <| (State.fenceLeases_severed ..).then <| (State.withdrawTakes_severed ..).then <| x.dropWork_severed c) (.refl _)
  have h7 : Severed s6 s7 := (State.portsLost_severed _).then <| (State.setCmb_moves ..).severed rfl rfl rfl
  have h8 : Severed s7 s8 := .foldl _ (.refl s7) fun x n => .ite
    ⟨(State.setBank_moves ..).views rfl, x.setBank_bankKept n rfl, rfl⟩ (.refl _)
  have h9 : Severed s2 (s8.flag 0xE0008 0 15 noCtx slot) :=
    ((State.flag_moves ..).severed rfl rfl rfl).then <| h8.then <| h7.then <| h6.then h5
  have hb : BankKept Bank.pllLock s s2 := ⟨h1.plls.wf, h1.plls.keeps⟩
  exact ⟨h9.views.pkgFault, h9.plls.then hb, h9.lost.trans h1.lost⟩

/-! ### The board reference is lost -/

/-- Every PLL listed is held unlocked. -/
theorem foldl_unlock (l : List Nat) (h : tabWf (fun _ => Bank.reset) s.banks = true) :
    let t := l.foldl (fun s n => s.setBank n { s.bank n with pllLock := false }) s
    tabWf (fun _ => Bank.reset) t.banks = true ∧ ∀ n, n ∈ l ∨ (s.bank n).pllLock = false → (t.bank n).pllLock = false := by
  induction l generalizing s with
  | nil => exact ⟨h, fun n hn => hn.resolve_left List.not_mem_nil⟩
  | cons m l ih =>
    obtain ⟨hw, hl⟩ := ih (s := s.setBank m { s.bank m with pllLock := false }) (tabWf_tabSet _ _ _ _ h)
    refine ⟨hw, fun n hn => hl n ?_⟩
    by_cases e : n = m
    · subst e
      exact .inr (congrArg Bank.pllLock (State.bank_setBank_same h ..))
    · rw [State.bank_setBank_other _ _ e]
      exact hn.imp_left fun hm => (List.mem_cons.1 hm).resolve_left e

/-- The hub's PLL is held, the always-on island runs on its backup oscillator, and every PLL of a bank die is held (R87). -/
def State.unclocked (s : State) : State :=
  (List.range 4).foldl (fun s n => s.setBank n { s.bank n with pllLock := false }) { s with boot := { s.boot with refOk := false, backup := true, hubLock := false } }

/-- The Day Unit has lost its reference: it is in FREE, with no parent and no leader. -/
def State.freed (s : State) : State :=
  let t := (s.setDay { s.day with refLost := true, parent := 0, leader := false, hops := 0xFF, leaderPos := none }).setDayState .free
  (t.setDay { t.day with realign := true }).refreshValid

theorem State.loseReference_eq (s : State) (detail : Nat) :
    s.loseReference detail = ((s.unclocked.freed.event 1 0x17 noCtx detail).alert 1).packageFault 1 0x17 0x206 detail true := rfl

theorem State.unclocked_boot (s : State) : s.unclocked.boot = { s.boot with refOk := false, backup := true, hubLock := false } := by
  obtain ⟨t, ht⟩ := foldl_setBank (fun s n => { s.bank n with pllLock := false }) (List.range 4)
    { s with boot := { s.boot with refOk := false, backup := true, hubLock := false } }
  exact congrArg State.boot ht

theorem State.freed_moves (s : State) : Moves 0x410A3C s s.freed :=
  (State.refreshValid_moves _).then rfl <| (State.setDay_moves ..).then rfl <| (State.setDayState_moves ..).then rfl <| (State.setDay_moves ..).mono rfl

theorem State.freed_day (s : State) : s.freed.day.refLost = true ∧ s.freed.day.state = .free := by
  unfold State.freed
  extract_lets d t
  have ht : StateChange .free (s.setDay { s.day with refLost := true, parent := 0, leader := false, hops := 0xFF, leaderPos := none }).day t.day :=
    State.setDayState_day ..
  obtain ⟨v, hv⟩ := (t.setDay { t.day with realign := true }).refreshValid_day
  rw [hv]
  exact ⟨DayUnit.refLost_of_core ht.core, ht.state.resolve_right (by nofun)⟩

theorem refclkLoss_frees (s : State) (hi : Inv s) :
    ∃ u, exec (.refclkLoss) s = .next u ∧ u.day.refLost = true ∧ u.day.state = .free ∧ u.boot.refOk = false ∧ u.boot.backup = true ∧
      u.boot.hubLock = false ∧ u.flt.pkgFault = true ∧ ∀ n < 4, (u.bank n).pllLock = false := by
  refine ⟨s.loseReference 0, rfl, ?_⟩
  rw [State.loseReference_eq]
  have hm : Moves 0x410A3C s.unclocked ((s.unclocked.freed.event 1 0x17 noCtx 0).alert 1) :=
    (State.alert_moves ..).then rfl <| (State.event_moves ..).then rfl s.unclocked.freed_moves
  have hday : ((s.unclocked.freed.event 1 0x17 noCtx 0).alert 1).day = s.unclocked.freed.day := by rw [State.alert_day, State.event_day]
  obtain ⟨hlost, hfree⟩ := s.unclocked.freed_day
  obtain ⟨hwf, hpll⟩ := foldl_unlock (s := { s with boot := { s.boot with refOk := false, backup := true, hubLock := false } }) (List.range 4) hi.tables.1
  generalize (s.unclocked.freed.event 1 0x17 noCtx 0).alert 1 = t at hm hday ⊢
  obtain ⟨hfault, hkept, href⟩ := t.packageFault_severed 1 0x17 0x206 0 true
  have hparents := t.packageFault_parents 1 0x17 0x206 0 true
  have hbanks : t.banks = s.unclocked.banks := hm.off .banks rfl
  have hboot : t.boot = s.unclocked.boot := hm.off .boot rfl
  rw [State.packageFault_boot, hboot, State.unclocked_boot, href, hday, hlost, hparents.state (by rw [hday, hfree]; nofun), hday, hfree]
  refine ⟨rfl, rfl, rfl, rfl, rfl, hfault, fun n hn => ?_⟩
  rw [hkept.keeps n (.inl (hbanks ▸ hwf)), State.bank, hbanks]
  exact hpll n (.inl (List.mem_range.2 hn))

end Sys2Proof.Machine
end

section
/-! PROOFS. The register latches take no part in what works on a bank die (R89). -/

namespace Sys2Proof.Machine

/-- A state with other latches. -/
def State.latched (s : State) (a b : Tab (Option Word)) : State := { s with latchHost := a, latchMgmt := b }

variable (s : State) (a b : Tab (Option Word))

theorem State.walkFrom_latched (rd : Nat → Except Nat Nat) (va level t : Nat) : (s.latched a b).walkFrom rd va level t = s.walkFrom rd va level t := by
  induction level generalizing t with
  | zero =>
    unfold State.walkFrom
    rfl
  | succ l ih =>
    unfold State.walkFrom
    simp only [ih]
    rfl

theorem State.walk_latched (cache c va : Nat) (acc : Acc) : (s.latched a b).walk cache c va acc = s.walk cache c va acc := by
  unfold State.walk
  simp only [State.walkFrom_latched]
  rfl

theorem State.xlateHere_latched (cache c va : Nat) (acc : Acc) : (s.latched a b).xlateHere cache c va acc = s.xlateHere cache c va acc := by
  unfold State.xlateHere
  simp only [State.walk_latched]
  rfl

theorem State.vaRange_latched (c va : Nat) : (s.latched a b).vaRange c va = s.vaRange c va := by
  unfold State.vaRange State.xlate
  simp only [State.xlateHere_latched]
  rfl

theorem State.onBank_latched (c n va : Nat) : (s.latched a b).onBank c n va = s.onBank c n va := by
  unfold State.onBank
  rw [State.vaRange_latched]

theorem State.meetsBank_latched (c n va len : Nat) : (s.latched a b).meetsBank c n va len = s.meetsBank c n va len := by
  unfold State.meetsBank
  simp only [State.onBank_latched]

theorem State.tensorOn_latched : (s.latched a b).tensorOn = s.tensorOn := by
  funext c n x
  unfold State.tensorOn
  rw [State.meetsBank_latched]
  rfl

theorem State.groupOn_latched (j : Job) (g : Group) (p n : Nat) : (s.latched a b).groupOn j g p n = s.groupOn j g p n := by
  unfold State.groupOn
  have hin : (s.latched a b).rIn = s.rIn := rfl
  have hout : (s.latched a b).ow = s.ow := rfl
  simp only [State.tensorOn_latched, State.meetsBank_latched, hin, hout]

theorem State.bankWork_latched (n : Nat) : (s.latched a b).bankWork n = s.bankWork n := by
  unfold State.bankWork
  simp only [State.tensorOn_latched, State.meetsBank_latched, State.groupOn_latched]
  rfl

theorem State.ingestOnBank_latched (n : Nat) : (s.latched a b).ingestOnBank n = s.ingestOnBank n := by
  unfold State.ingestOnBank
  simp only [State.onBank_latched, State.meetsBank_latched]
  rfl

end Sys2Proof.Machine
end

section
/-! PROOFS. A bank die lost, its resets by the host and what ends them (O16). -/

namespace Sys2Proof.Machine

variable {s : State} {n : BankId}

/-! ### A bank die is lost -/

theorem exec_bankDieLost (memory pll : Bool) (hp : (s.bank n.val).phase = .active) : exec (.bankDieLost n memory pll) s =
    .next (((if pll then s.setBank n.val { s.bank n.val with pllLock := false } else s).loseBank n.val memory).judgeWaiting n.val) := if_pos hp

theorem bankDieLost_active (memory pll : Bool) (hp : (s.bank n.val).phase = .active) :
    ∃ u, exec (.bankDieLost n memory pll) s = .next u ∧ (u.bank n.val).phase = .resetting ∧ (u.bank n.val).memFault = memory ∧
      (pll = true → (u.bank n.val).pllLock = false) ∧ u.dpFailed n.val = true := by
  refine ⟨_, exec_bankDieLost memory pll hp, ?_⟩
  have hpll : pll = true → (if pll then s.setBank n.val { s.bank n.val with pllLock := false } else s).bank n.val =
      { s.bank n.val with pllLock := false } := by
    rintro rfl
    exact State.bank_setBank_ne s (Bank.ne_reset_of_phase (by rw [hp]; nofun))
  generalize (if pll then s.setBank n.val { s.bank n.val with pllLock := false } else s) = t at hpll ⊢
  obtain ⟨hphase, hmem⟩ := t.loseBank_bank n.val memory
  have hlock : pll = true → ((t.loseBank n.val memory).bank n.val).pllLock = false := fun e => by
    rw [State.loseBank_pllLock memory (by rw [hpll e, hp]; nofun), hpll e]
  have hviews := t.loseBank_views n.val memory
  generalize t.loseBank n.val memory = v at hphase hmem hlock hviews ⊢
  obtain ⟨⟨w, hbank⟩, hkept⟩ := State.judgeWaiting_resetting hphase
  rw [hbank, hkept.dp, hviews.dp]
  exact ⟨hphase, hmem, hlock, State.dpFailed_setDp ..⟩

/-! ### Commands of the host -/

theorem exec_bankResetCmd (hs : s.served) : exec (.bankResetCmd n) s = .next (State.writeBankCmd n.val 1 .host (s.dropLatches (0x150 + 4 * n.val))) :=
  congrArg Host.Outcome.next (State.onWrite_open _ (fun _ => hs.1) hs.2)

theorem exec_bankRetryCmd (hs : s.served) : exec (.bankRetryCmd n) s = .next (State.writeBankCmd n.val 2 .host (s.dropLatches (0x150 + 4 * n.val))) :=
  congrArg Host.Outcome.next (State.onWrite_open _ (fun _ => hs.1) hs.2)

/-- RESET waits for a retrain of an active bank die, and is judged at once otherwise (R89). -/
theorem State.writeBankCmd_reset (s : State) (n : Nat) (who : Reader) : s.writeBankCmd n 1 who =
    if (s.bank n).phase = .active ∧ (s.bank n).bridge = .retrain then s.setBank n { s.bank n with resetWait := true } else s.judgeReset n who := rfl

/-- RETRY resets a FAILED bank die, its count of failed retrains at 0 (R86). -/
theorem State.writeBankCmd_retry (s : State) (n : Nat) (who : Reader) : s.writeBankCmd n 2 who =
    if (s.bank n).phase = .failed then (s.setBank n { s.bank n with badRetrains := 0 }).beginBankReset n (s.bank n).memFault else s := rfl

/-- The latches of a register dropped leave the bank dies and what works on them. -/
theorem State.dropLatches_bankWork (s : State) (off n : Nat) :
    (s.dropLatches off).bank n = s.bank n ∧ (s.dropLatches off).bankWork n = s.bankWork n ∧ (s.dropLatches off).ingestOnBank n = s.ingestOnBank n :=
  ⟨rfl, State.bankWork_latched .., State.ingestOnBank_latched ..⟩

theorem bankReset_begins (hs : s.served) (hp : (s.bank n.val).phase = .active) (hb : (s.bank n.val).bridge ≠ .retrain) (hw : s.bankWork n.val = [])
    (hi : s.ingestOnBank n.val = false) :
    ∃ u, exec (.bankResetCmd n) s = .next u ∧ (u.bank n.val).phase = .resetting ∧ (u.bank n.val).memFault = false := by
  refine ⟨_, exec_bankResetCmd hs, ?_⟩
  obtain ⟨hbank, hwork, hing⟩ := s.dropLatches_bankWork (0x150 + 4 * n.val) n.val
  rw [State.writeBankCmd_reset, State.judgeReset, hbank, hwork, hing, if_neg fun h => hb h.2, if_pos ⟨hp, by rw [hw]; rfl, by rw [hi]; rfl⟩,
    State.beginBankReset_bank]
  exact ⟨rfl, rfl⟩

theorem bankReset_waits (hs : s.served) (hp : (s.bank n.val).phase = .active) (hb : (s.bank n.val).bridge = .retrain) :
    ∃ u, exec (.bankResetCmd n) s = .next u ∧ u.bank n.val = { s.bank n.val with resetWait := true } := by
  refine ⟨_, exec_bankResetCmd hs, ?_⟩
  obtain ⟨hbank, -, -⟩ := s.dropLatches_bankWork (0x150 + 4 * n.val) n.val
  rw [State.writeBankCmd_reset, hbank, if_pos ⟨hp, hb⟩]
  exact State.bank_setBank_ne _ (Bank.ne_reset_of_phase (by rw [hp]; nofun))

theorem bankReset_locked (hs : s.served) (h : (s.bank n.val).phase ≠ .active ∨
      ((s.bank n.val).bridge ≠ .retrain ∧ (s.bankWork n.val ≠ [] ∨ s.ingestOnBank n.val = true))) :
    ∃ u, exec (.bankResetCmd n) s = .next u ∧ u = (s.dropLatches (0x150 + 4 * n.val)).locked (0x150 + 4 * n.val) .host := by
  refine ⟨_, exec_bankResetCmd hs, ?_⟩
  obtain ⟨hbank, hwork, hing⟩ := s.dropLatches_bankWork (0x150 + 4 * n.val) n.val
  rw [State.writeBankCmd_reset, State.judgeReset, hbank, hwork, hing, if_neg fun ⟨ha, hr⟩ => h.elim (· ha) (·.1 hr), if_neg]
  rintro ⟨ha, hempty, hing⟩
  rcases h with h | ⟨-, h | h⟩
  · exact h ha
  · exact h (List.isEmpty_iff.1 hempty)
  · rw [h] at hing
    cases hing

theorem bankRetry_begins (hs : s.served) (hp : (s.bank n.val).phase = .failed) :
    ∃ u, exec (.bankRetryCmd n) s = .next u ∧ (u.bank n.val).phase = .resetting ∧ (u.bank n.val).memFault = (s.bank n.val).memFault := by
  refine ⟨_, exec_bankRetryCmd hs, ?_⟩
  obtain ⟨hbank, -, -⟩ := s.dropLatches_bankWork (0x150 + 4 * n.val) n.val
  rw [State.writeBankCmd_retry, hbank, if_pos hp, State.beginBankReset_bank]
  exact ⟨rfl, rfl⟩

theorem bankRetry_ignored (hs : s.served) (hp : (s.bank n.val).phase ≠ .failed) :
    ∃ u, exec (.bankRetryCmd n) s = .next u ∧ u = s.dropLatches (0x150 + 4 * n.val) := by
  refine ⟨_, exec_bankRetryCmd hs, ?_⟩
  obtain ⟨hbank, -, -⟩ := s.dropLatches_bankWork (0x150 + 4 * n.val) n.val
  rw [State.writeBankCmd_retry, hbank, if_neg hp]

/-! ### The end of a bank reset -/

/-- A bank die whose reset failed stays FAILED in reset (R86 step 5). -/
theorem State.bankFails_bank (s : State) (n : Nat) : ((s.bankFails n).bank n).phase = .failed ∧ ((s.bankFails n).bank n).inReset = true := by
  have hb : (s.bankFails n).bank n = { (s.bank n).cleared with phase := .failed, bridge := .down, inReset := true, waiting := [] } :=
    (congrArg (tabGet _ · n) (((State.hubEvent_moves ..).then rfl (State.setDp_moves ..)).off .banks rfl)).trans
      (State.bank_setBank_ne s (Bank.ne_reset_of_phase (by nofun)))
  rw [hb]
  exact ⟨rfl, rfl⟩

theorem State.bankTrains_none {w : WireTest} {r : Option FuseRecord} {queued : Bool} (h : r = none ∨ (r.map (fuseCode n.val)).getD 0 ≠ 0) :
    s.bankTrains n.val w r queued = none := by
  unfold State.bankTrains
  split
  · next t f _ => exact if_neg (by simpa using h)
  · rfl

theorem bankReset_fails (ok : Bool) (w : WireTest) (r : Option FuseRecord) (be : List Nat) (sfu : Bool) (hp : (s.bank n.val).phase = .resetting)
    (h : ok = false ∨ r = none ∨ (r.map (fuseCode n.val)).getD 0 ≠ 0) :
    ∃ u, exec (.bankResetDone n ok w r be sfu) s = .next u ∧ (u.bank n.val).phase = .failed ∧ (u.bank n.val).inReset = true := by
  have hnone : (if ok then s.bankTrains n.val w r true else none) = none := by
    split
    · next hok => exact State.bankTrains_none (h.resolve_left (by simp [hok]))
    · rfl
  refine ⟨((if ok then s.wiresOut n.val w else s).bankFails n.val), ?_, State.bankFails_bank ..⟩
  change execBankResetDone .. = _
  rw [execBankResetDone, if_neg (not_not.2 hp), hnone]

end Sys2Proof.Machine
end

section
/-! PROOFS. A bank die is active again after its reset (R86, R90), and the statement on bank dies lost and reset (O16). -/

namespace Sys2Proof.Machine

variable {s t : State} {n : Nat}

/-! ### Training and identity -/

/-- What of a bank die its training leaves for the end of its reset. -/
def Bank.known (b : Bank) : BankPhase × Bool × List HeldWrite × Option Nat := (b.phase, b.memFault, b.waiting, b.serial)

/-- A die with no serial, or with this one, is known by it. -/
theorem State.identified_known {r : FuseRecord} (h : (s.bank n).serial = none ∨ (s.bank n).serial = some r.serial) :
    ∃ d, s.identified n r = s.setBank n { s.bank n with h2b := d, serial := some r.serial } := by
  refine ⟨({ (s.bank n).h2b with queue := [], unacked := [] }).setCredit 5 (creditDepth 5), ?_⟩
  unfold State.identified
  rcases h with h | h
  · simp only [h]
  · simp only [h, if_true]

theorem State.askIdentity_framed (s : State) (n : Nat) : Framed s (s.askIdentity n) := State.bridgePut_framed ..

/-- A bank die in reset trains and is identified, and its fault and what waits for it stay known (R86 step 4, R87). -/
theorem State.bankTrains_trains {w : WireTest} {r : FuseRecord} (hp : (s.bank n).phase = .resetting)
    (hx : (assignSpares (s.bank n).h2b.spares (s.mapWires n 0 deApplied ++ w.badH2b)).isSome = true)
    (hy : (assignSpares (s.bank n).b2h.spares (s.mapWires n 1 deApplied ++ w.badB2h)).isSome = true) (hd : w.pairDead = false)
    (hf : fuseCode n r = 0) (hs : (s.bank n).serial = none ∨ (s.bank n).serial = some r.serial) :
    ∃ u, s.bankTrains n w (some r) true = some u ∧ Moves 0x2014C3C s u ∧ (u.bank n).phase = .resetting ∧
      (u.bank n).memFault = (s.bank n).memFault ∧ (u.bank n).waiting = (s.bank n).waiting := by
  obtain ⟨t, ht, hbare⟩ := State.trainBridge_trains true hx hy hd
  have hm : Moves 0x2014C3C s ((t.setBank n { t.bank n with bridge := .up, inReset := false }).askIdentity n) :=
    (State.askIdentity_moves ..).then rfl <| (State.setBank_moves ..).then rfl <| State.trainBridge_moves _ _ _ _ _ ht
  have ht' : BankKept Bank.known s t := hbare.comp Bank.known
  have hup : BankKept Bank.known t (t.setBank n { t.bank n with bridge := .up, inReset := false }) := t.setBank_bankKept n rfl
  have hask : BankKept Bank.known (t.setBank n { t.bank n with bridge := .up, inReset := false })
      ((t.setBank n { t.bank n with bridge := .up, inReset := false }).askIdentity n) := (State.askIdentity_framed ..).banks.comp Bank.known
  have hk := hask.then (hup.then ht')
  have he : s.bankTrains n w (some r) true =
      some (((t.setBank n { t.bank n with bridge := .up, inReset := false }).askIdentity n).identified n r) := by
    unfold State.bankTrains
    simp only [ht, hf, if_true]
  generalize (t.setBank n { t.bank n with bridge := .up, inReset := false }).askIdentity n = v at hm hk he
  have hv := hk.keeps n (.inr fun e => absurd (hp.symm.trans (congrArg Prod.fst e)) (by nofun))
  simp only [Bank.known, Prod.mk.injEq] at hv
  obtain ⟨hphase, hmem, hwait, hserial⟩ := hv
  obtain ⟨d, hid⟩ := State.identified_known (s := v) (n := n) (r := r) (by rw [hserial]; exact hs)
  rw [hid] at he
  have hb : (v.setBank n { v.bank n with h2b := d, serial := some r.serial }).bank n = { v.bank n with h2b := d, serial := some r.serial } :=
    State.bank_setBank_ne v (Bank.ne_reset_of_phase (by rw [hphase, hp]; nofun))
  exact ⟨_, he, (State.setBank_moves ..).then rfl hm, by rw [hb, ← hp]; exact hphase, by rw [hb]; exact hmem, by rw [hb]; exact hwait⟩

/-! ### What is lost with the reset -/

/-- The scratchpad of BANK_n is zeros, and its translation cache is empty (R90, R198). -/
def State.padLost (s : State) (n : Nat) : State := (((s.zeroPad n).lostBit 1).lostBit 38).emptyCache (1 + n)

/-- The stacks of BANK_n are zeros, with MEM_LOST (R90). -/
def State.stacksLost (s : State) (n : Nat) : State :=
  (((s.zeroStacks n).lostBit 0).rootsLostOn n).setBank n { s.bank n with memLost := true, memFault := false }

/-- What a bank reset makes of BANK_n's memory: the stacks are lost where the fault lay in a memory controller. -/
def State.wiped (s : State) (n : Nat) : State :=
  (if (s.bank n).memFault then (s.padLost n).stacksLost n else s.padLost n).clearAging n

theorem State.padLost_moves (s : State) (n : Nat) : Moves 0x20120 s (s.padLost n) :=
  (State.emptyCache_moves ..).then rfl <| (State.lostBit_moves ..).then rfl <| (State.lostBit_moves ..).then rfl <| (State.zeroPad_moves ..).mono rfl

theorem State.stacksLost_moves (s : State) (n : Nat) : Moves 0x20520 s (s.stacksLost n) :=
  (State.setBank_moves ..).then rfl <| (State.rootsLostOn_moves ..).then rfl <| (State.lostBit_moves ..).then rfl <| (State.zeroStacks_moves ..).mono rfl

theorem State.wiped_moves (s : State) (n : Nat) : Moves 0x2020520 s (s.wiped n) :=
  (State.clearAging_moves ..).then rfl <| .ite ((State.stacksLost_moves ..).then rfl <| (s.padLost_moves n).mono rfl) ((s.padLost_moves n).mono rfl)

theorem State.byte_of_mem (h : t.mem = s.mem) (a : Nat) : t.byte a = s.byte a := congrArg (tabGet memDefault · a) h

theorem State.padLost_byte (h : Memory.wf s.mem = true) (n a : Nat) : (s.padLost n).byte a =
    if 0x4000000000 + 0x4000000 * n ≤ a ∧ a < 0x4003000000 + 0x4000000 * n then 0 else s.byte a := by
  have hm : Moves 0x20020 (s.zeroPad n) (s.padLost n) :=
    (State.emptyCache_moves ..).then rfl <| (State.lostBit_moves ..).then rfl <| (State.lostBit_moves ..).mono rfl
  rw [State.byte_of_mem (hm.off .memory rfl), show 0x4003000000 + 0x4000000 * n = 0x4000000000 + 0x4000000 * n + 0x3000000 by omega]
  exact byte_zeroRange h ..

theorem State.stacksLost_byte (h : Memory.wf s.mem = true) (n a : Nat) : (s.stacksLost n).byte a =
    if 0xC00000000 * n ≤ a ∧ a < 0xC00000000 * (n + 1) then 0 else s.byte a := by
  have hm : Moves 0x20420 (s.zeroStacks n) (s.stacksLost n) :=
    (State.setBank_moves ..).then rfl <| (State.rootsLostOn_moves ..).then rfl <| (State.lostBit_moves ..).mono rfl
  rw [State.byte_of_mem (hm.off .memory rfl)]
  exact byte_zeroRange h ..

/-- Which bytes a reset makes zeros: those of the scratchpad, and with a fault of a memory controller those of the stacks. -/
theorem State.wiped_byte (hi : Inv s) (n a : Nat) : (s.wiped n).byte a =
    if 0x4000000000 + 0x4000000 * n ≤ a ∧ a < 0x4003000000 + 0x4000000 * n then 0
    else if (s.bank n).memFault = true ∧ 0xC00000000 * n ≤ a ∧ a < 0xC00000000 * (n + 1) then 0 else s.byte a := by
  unfold State.wiped
  rw [State.byte_of_mem ((State.clearAging_moves ..).off .memory rfl)]
  cases (s.bank n).memFault
  · simp only [Bool.false_eq_true, false_and, if_false]
    exact State.padLost_byte hi.mem n a
  · rw [if_pos rfl, State.stacksLost_byte ((s.padLost_moves n).inv hi).mem, State.padLost_byte hi.mem]
    by_cases hs : 0xC00000000 * n ≤ a ∧ a < 0xC00000000 * (n + 1)
    · simp only [hs, if_true, and_self, ite_self]
    · simp only [hs, if_false, and_false]

theorem State.padLost_bank (s : State) (n : Nat) : (s.padLost n).bank n = s.bank n := congrArg (tabGet _ · n) ((s.padLost_moves n).off .banks rfl)

theorem State.wiped_bank (hp : (s.bank n).phase ≠ .down) : ((s.wiped n).bank n).waiting = (s.bank n).waiting ∧
    ((s.bank n).memFault = true → ((s.wiped n).bank n).memLost = true) := by
  have hw : (s.wiped n).bank n = (if (s.bank n).memFault then (s.padLost n).stacksLost n else s.padLost n).bank n :=
    congrArg (tabGet _ · n) ((State.clearAging_moves ..).off .banks rfl)
  rw [hw]
  cases (s.bank n).memFault
  · rw [if_neg Bool.false_ne_true, State.padLost_bank]
    exact ⟨rfl, nofun⟩
  · have hs : ((s.padLost n).stacksLost n).bank n = { (s.padLost n).bank n with memLost := true, memFault := false } :=
      State.bank_setBank_ne _ (Bank.ne_reset_of_phase (by rw [State.padLost_bank]; exact hp))
    rw [if_pos rfl, hs, State.padLost_bank]
    exact ⟨rfl, fun _ => rfl⟩

/-! ### Active again -/

/-- A bank die that is active, its bridge UP (R73 step 7). -/
def Bank.awake (b : Bank) : Bank :=
  { b with phase := .active, bridge := .up, repeats := 0, badRetrains := 0, pllLock := true, inReset := false, selfRefresh := false }

/-- A bank die without a write that waits becomes active, its bridge UP, and memory stays. -/
theorem State.bankActive_active {be : List Nat} {sfu queued : Bool} (hw : (s.bank n).waiting = []) (ht : s.bankActive n be sfu queued = t) :
    (t.bank n).phase = .active ∧ (t.bank n).bridge = .up ∧ (t.bank n).memLost = (s.bank n).memLost ∧ t.mem = s.mem := by
  subst ht
  unfold State.bankActive
  extract_lets b u
  have hu : u.bank n = (s.bank n).awake := State.bank_setBank_ne s (Bank.ne_reset_of_phase (by nofun))
  have hv : Moves 0x211483C u (((u.setDp n false).setDp (4 + n) false).selfTest n be sfu queued) :=
    (State.selfTest_moves ..).then rfl <| (State.setDp_moves ..).then rfl <| (State.setDp_moves ..).mono rfl
  generalize ((u.setDp n false).setDp (4 + n) false).selfTest n be sfu queued = v at hv ⊢
  have hb : v.bank n = (s.bank n).awake := (congrArg (tabGet _ · n) (hv.off .banks rfl)).trans hu
  have hcore : (((v.releaseWrites n).dueBank n).bank n).core = (v.bank n).core :=
    (((State.dueBank_moves ..).bankKept rfl).then (v.releaseWrites_core n)).keeps n (.inr (Bank.core_ne_of_phase (by rw [hb]; nofun)))
  have hmem : ((v.releaseWrites n).dueBank n).mem = s.mem := by
    calc ((v.releaseWrites n).dueBank n).mem = (v.releaseWrites n).mem := (State.dueBank_moves ..).off .memory rfl
      _ = v.mem := State.releaseWrites_mem (by rw [hb]; exact hw)
      _ = s.mem := hv.off .memory rfl
  obtain ⟨hphase, -, -, hbridge, -, hlost⟩ := Bank.of_core hcore
  rw [hb] at hphase hbridge hlost
  exact ⟨hphase, hbridge, hlost, hmem⟩

/-- With no SEND and no COLLECTIVE, memory stays when what waited is looked at again. -/
theorem State.retryWaiting_mem (hs : s.cmb.sends = []) (hc : s.col.colls = []) : s.retryWaiting.mem = s.mem := by
  have hr : ctxRange.foldl State.retryRemote s = s :=
    List.foldlRecOn (motive := fun u : State => u = s) _ _ rfl fun u hu c _ => by rw [hu, State.retryRemote_none c hs hc]
  unfold State.retryWaiting
  rw [hr]
  rfl

/-! ### The end of the reset -/

theorem exec_bankResetDone_done {n : BankId} {w : WireTest} {r : FuseRecord} {u : State} (be : List Nat) (sfu : Bool)
    (hp : (s.bank n.val).phase = .resetting) (hu : s.bankTrains n.val w (some r) true = some u) :
    exec (.bankResetDone n true w (some r) be sfu) s =
      .next (((u.wiped n.val).bankActive n.val be sfu false).hubEvent 0x14 n.val (n.val + 256 * b2n (u.bank n.val).memFault)).retryWaiting := by
  change execBankResetDone .. = _
  rw [execBankResetDone, if_neg (not_not.2 hp), if_pos rfl, hu]
  rfl

theorem bankReset_done {n : BankId} {w : WireTest} {r : FuseRecord} (be : List Nat) (sfu : Bool) (hi : Inv s) (hp : (s.bank n.val).phase = .resetting)
    (hx : (assignSpares (s.bank n.val).h2b.spares (s.mapWires n.val 0 deApplied ++ w.badH2b)).isSome = true)
    (hy : (assignSpares (s.bank n.val).b2h.spares (s.mapWires n.val 1 deApplied ++ w.badB2h)).isSome = true) (hd : w.pairDead = false)
    (hf : fuseCode n.val r = 0) (hs : (s.bank n.val).serial = none ∨ (s.bank n.val).serial = some r.serial) (hw : (s.bank n.val).waiting = [])
    (hsends : s.cmb.sends = []) (hcolls : s.col.colls = []) :
    ∃ u, exec (.bankResetDone n true w (some r) be sfu) s = .next u ∧ (u.bank n.val).phase = .active ∧ (u.bank n.val).bridge = .up ∧
      ((s.bank n.val).memFault = true → (u.bank n.val).memLost = true) ∧
      ∀ a, u.byte a = if 0x4000000000 + 0x4000000 * n.val ≤ a ∧ a < 0x4003000000 + 0x4000000 * n.val then 0
      else if (s.bank n.val).memFault = true ∧ 0xC00000000 * n.val ≤ a ∧ a < 0xC00000000 * (n.val + 1) then 0 else s.byte a := by
  obtain ⟨u, hu, hum, hup, humf, huw⟩ := State.bankTrains_trains hp hx hy hd hf hs
  obtain ⟨hvw, hvl⟩ := State.wiped_bank (s := u) (n := n.val) (by rw [hup]; nofun)
  have hvb := State.wiped_byte (hum.inv hi) n.val
  obtain ⟨hphase, hbridge, hlost, hmem⟩ := State.bankActive_active (s := u.wiped n.val) (be := be) (sfu := sfu) (queued := false) (by rw [hvw, huw, hw]) rfl
  have hm : Moves 0x21B4D3C s ((u.wiped n.val).bankActive n.val be sfu false) :=
    (State.bankActive_moves ..).then rfl <| (State.wiped_moves ..).then rfl <| hum.mono rfl
  refine ⟨_, exec_bankResetDone_done be sfu hp hu, ?_⟩
  generalize (u.wiped n.val).bankActive n.val be sfu false = x at hphase hbridge hlost hmem hm ⊢
  generalize n.val + 256 * b2n (u.bank n.val).memFault = det
  have he : Moves 0x1483C x (x.hubEvent 0x14 n.val det) := State.hubEvent_moves ..
  have hcore : (((x.hubEvent 0x14 n.val det).retryWaiting).bank n.val).core = (x.bank n.val).core :=
    ((State.retryWaiting_core _).then (he.bankKept rfl)).keeps n.val (.inr (Bank.core_ne_of_phase (by rw [hphase]; nofun)))
  have hrest : (x.hubEvent 0x14 n.val det).retryWaiting.mem = x.mem := by
    have hcmb : (x.hubEvent 0x14 n.val det).cmb = s.cmb := (he.off .combine rfl).trans (hm.off .combine rfl)
    have hcol : (x.hubEvent 0x14 n.val det).col = s.col := (he.off .collectives rfl).trans (hm.off .collectives rfl)
    rw [State.retryWaiting_mem (by rw [hcmb, hsends]) (by rw [hcol, hcolls])]
    exact he.off .memory rfl
  obtain ⟨hphase', -, -, hbridge', -, hlost'⟩ := Bank.of_core hcore
  refine ⟨hphase'.trans hphase, hbridge'.trans hbridge, fun h => hlost'.trans (hlost.trans (hvl (humf.trans h))), fun a => ?_⟩
  rw [State.byte_of_mem (hrest.trans hmem), hvb, humf, State.byte_of_mem (hum.off .memory rfl)]

/-- Settles O16: a bank die's entry of the table says where its reset stands, and memory changes only in the ranges that are wiped. -/
theorem bankDieLossAndReset : Obligations.BankDieLossAndReset :=
  ⟨fun _ memory pll _ hp => bankDieLost_active memory pll hp, fun _ _ _ s hp => ⟨s, if_neg hp, rfl⟩,
   fun _ _ hs hp hb hw hi => bankReset_begins hs hp hb hw hi, fun _ _ hs hp hb => bankReset_waits hs hp hb, fun _ _ hs h => bankReset_locked hs h,
   fun _ _ hs hp => bankRetry_begins hs hp, fun _ _ hs hp => bankRetry_ignored hs hp,
   fun _ _ _ be sfu _ hi hp hx hy hd hf hs hw hsends hcolls => bankReset_done be sfu hi hp hx hy hd hf hs hw hsends hcolls,
   fun _ ok w r be sfu _ hp h => bankReset_fails ok w r be sfu hp h, fun s hi => refclkLoss_frees s hi⟩

end Sys2Proof.Machine
end

section
/-! PROOFS. Frames that arrive on a Bank Bridge (O17; R66, R69, R83, R84). -/

namespace Sys2Proof.Machine

variable {s t : State} {n : Nat} {toBank : Bool}

/-! ### What a sender leaves -/

/-- A sender and the direction it does not serve: what stays of a bank die, with the frames that wait there for an acknowledgement. -/
def Bank.backed (toBank : Bool) (b : Bank) : Bank × List (Nat × List (Nat × List Byte)) := (b.still, (b.dir !toBank).unacked)

theorem State.sendFrame_backed (s : State) (n : Nat) (toBank : Bool) (ack : Nat × Nat) : BankKept (Bank.backed toBank) s (s.sendFrame n toBank ack) := by
  by_cases hc : (s.bank n).carries = true
  · obtain ⟨b', ft, sq, slots, c0, c1, hb, e⟩ := s.sendFrame_sends n toBank ack hc
    rw [e]
    exact ((State.send_moves ..).bankKept rfl).then (s.setBank_bankKept n (Prod.ext hb.still hb.back))
  · rw [State.sendFrame_eq, if_pos (by simp [hc])]
    exact .refl _ s

theorem State.bridgeRun_backed (n : Nat) (toBank : Bool) (k : Nat) (s : State) : BankKept (Bank.backed toBank) s (s.bridgeRun n toBank k) := by
  induction k generalizing s with
  | zero => exact .refl _ s
  | succ k ih =>
    unfold State.bridgeRun
    exact .ite ((ih _).then (s.sendFrame_backed n toBank _)) (.refl _ s)

theorem State.pumpBridge_backed (s : State) (n : Nat) (toBank : Bool) : BankKept (Bank.backed toBank) s (s.pumpBridge n toBank) :=
  State.bridgeRun_backed ..

/-- With nothing queued nothing goes. -/
theorem State.pumpBridge_idle (h : ((s.bank n).dir toBank).queue = []) : s.pumpBridge n toBank = s := by
  rw [State.pumpBridge, h]
  rfl

theorem Bank.ne_reset_of_carries {b : Bank} (h : b.carries = true) : b ≠ Bank.reset := Bank.ne_reset_of_bridge (Bank.bridge_ne_down_of_carries h)

/-- A bank die of a bridge that carries frames sends one: what it is after, and what left. -/
theorem State.sendFrame_bank (ack : Nat × Nat) (hc : (s.bank n).carries = true) :
    (s.bank n).SentBy toBank ((s.sendFrame n toBank ack).bank n) ∧
      ∃ ft sq slots c0 c1, (s.sendFrame n toBank ack).sent = .bridgeFrame n toBank (makeFrame ft sq ack slots c0 c1) :: s.sent := by
  obtain ⟨b', ft, sq, slots, c0, c1, hb, e⟩ := s.sendFrame_sends n toBank ack hc
  have hn : (s.setBank n b').bank n = b' := State.bank_setBank_ne s (Bank.ne_reset_of_carries (by rw [Bank.carries_of_still hb.still]; exact hc))
  rw [e]
  refine ⟨?_, ft, sq, slots, c0, c1, rfl⟩
  change Bank.SentBy _ _ ((s.setBank n b').bank n)
  rw [hn]
  exact hb

/-! ### A retrain begins, a bridge idles -/

/-- A retrain begins on a bridge that is UP or IDLE, with its cause (R84). -/
theorem State.startRetrain_begins (cause : Nat) (h : (s.bank n).bridge = .up ∨ (s.bank n).bridge = .idle) :
    (s.startRetrain n cause).bank n = { s.bank n with bridge := .retrain, cause := cause } := by
  unfold State.startRetrain
  rw [if_pos h]
  exact State.bank_setBank_ne s (Bank.ne_reset_of_bridge (by nofun))

theorem State.startRetrain_nothing (cause : Nat) (h : ¬((s.bank n).bridge = .up ∨ (s.bank n).bridge = .idle)) : s.startRetrain n cause = s := if_neg h

/-- A retrain that may begin leaves the directions, and the bridge does not go DOWN. -/
theorem State.startRetrain_dirs (s : State) (n cause : Nat) : (∀ d, ((s.startRetrain n cause).bank n).dir d = (s.bank n).dir d) ∧
    ((s.bank n).bridge ≠ .down → ((s.startRetrain n cause).bank n).bridge ≠ .down) := by
  by_cases h : (s.bank n).bridge = .up ∨ (s.bank n).bridge = .idle
  · rw [State.startRetrain_begins cause h]
    exact ⟨fun d => by cases d <;> rfl, fun _ => by nofun⟩
  · rw [State.startRetrain_nothing cause h]
    exact ⟨fun _ => rfl, id⟩

theorem State.startRetrain_reg (s : State) (n cause : Nat) {x : Nat} (hx : x ≠ 0x11C + 0x10 * n) : (s.startRetrain n cause).reg x = s.reg x := by
  unfold State.startRetrain
  extract_lets b
  split
  · exact reg_bump_other _ _ _ hx
  · rfl

theorem State.idleBridge_dirs (s : State) (n : Nat) (d : Bool) : ((s.idleBridge n).bank n).dir d = (s.bank n).dir d := by
  unfold State.idleBridge
  extract_lets b
  split
  · rw [State.bank_setBank_ne s (Bank.ne_reset_of_bridge (by nofun))]
    cases d <;> rfl
  · rfl

/-- What a good frame does last: a retrain asked for, or a bridge that idles. -/
def State.frameEnd (s : State) (n : Nat) (retrain : Bool) : State := if retrain then s.startRetrain n 4 else (s.idleBridge n).goDown

theorem State.goDown_nothing (h : s.boot.warm = false) : s.goDown = s := if_neg (by simp [h])

/-- It leaves the directions, what left and memory, outside a warm reset. -/
theorem State.frameEnd_keeps (retrain : Bool) (h : s.boot.warm = false) : (∀ d, ((s.frameEnd n retrain).bank n).dir d = (s.bank n).dir d) ∧
    (s.frameEnd n retrain).sent = s.sent ∧ (s.frameEnd n retrain).mem = s.mem := by
  unfold State.frameEnd
  split
  · exact ⟨(s.startRetrain_dirs n 4).1, (State.startRetrain_moves ..).off .sent rfl, (State.startRetrain_moves ..).off .memory rfl⟩
  · have hw : (s.idleBridge n).boot = s.boot := (State.idleBridge_moves ..).off .boot rfl
    rw [State.goDown_nothing (by rw [hw]; exact h)]
    exact ⟨s.idleBridge_dirs n, (State.idleBridge_moves ..).off .sent rfl, (State.idleBridge_moves ..).off .memory rfl⟩

/-! ### A good frame -/

/-- A direction once a frame's acknowledgement and credits have acted on it. -/
def BridgeDir.acknowledged (d : BridgeDir) (sb : Nat) : BridgeDir :=
  ({ d with unacked := d.acked (bitsOf sb 20 2) (bitsOf sb 10 10) }.give (bitsOf sb 46 3) (bitsOf sb 49 7)).give (bitsOf sb 56 3) (bitsOf sb 59 7)

theorem State.frameReturns_eq (s : State) (n : Nat) (toBank : Bool) (sb : Nat) : s.frameReturns n toBank sb =
    let u := s.setBank n ((s.bank n).setDir (!toBank) (((s.bank n).dir !toBank).acknowledged sb))
    (if bitsOf sb 20 2 = 2 then u.replayBridge n !toBank else u).pumpBridge n !toBank := rfl

theorem State.frameReturns_framed (s : State) (n : Nat) (toBank : Bool) (sb : Nat) : Framed s (s.frameReturns n toBank sb) := by
  rw [State.frameReturns_eq]
  extract_lets u
  have hu : Framed s u := s.setBank_framed n (Bank.still_setDir rfl)
  exact (State.pumpBridge_framed ..).then (.ite ((State.replayBridge_framed ..).then hu) hu)

/-- With nothing queued the other way, what the acknowledgement leaves stays there, and a NACK sends it again. -/
theorem State.frameReturns_idle (sb : Nat) (hc : (s.bank n).carries = true) (hq : ((s.bank n).dir !toBank).queue = []) :
    (s.frameReturns n toBank sb).bank n = (s.bank n).setDir (!toBank) (((s.bank n).dir !toBank).acknowledged sb) ∧
      (bitsOf sb 20 2 = 2 → ∀ f ∈ ((s.bank n).dir !toBank).acked (bitsOf sb 20 2) (bitsOf sb 10 10),
        .bridgeFrame n (!toBank) (makeFrame 1 f.1 (0, 0) f.2 (0, 0) (0, 0)) ∈ (s.frameReturns n toBank sb).sent) := by
  rw [State.frameReturns_eq]
  extract_lets u
  have hu : u.bank n = (s.bank n).setDir (!toBank) (((s.bank n).dir !toBank).acknowledged sb) :=
    State.bank_setBank_ne s (Bank.ne_reset_of_bridge (by
      have hb := Bank.bridge_ne_down_of_carries hc
      cases toBank <;> exact hb))
  have hd : (u.bank n).dir (!toBank) = ((s.bank n).dir !toBank).acknowledged sb := by rw [hu, Bank.dir_setDir_same]
  have hb : (if bitsOf sb 20 2 = 2 then u.replayBridge n !toBank else u).bank n = u.bank n := by
    split
    · rw [State.replayBridge_sent]
      rfl
    · rfl
  rw [State.pumpBridge_idle (by rw [hb, hd]; exact hq), hb]
  refine ⟨hu, fun h2 f hf => ?_⟩
  rw [if_pos h2, State.replayBridge_sent, hd]
  exact List.mem_append_left _ (List.mem_reverse.2 (List.mem_map.2 ⟨f, hf, rfl⟩))

/-- A frame taken is delivered, acknowledged, and the next one expected (R83). -/
theorem State.takeFrame_takes (frame : List Byte) (hc : (s.bank n).carries = true) :
    .bridgeDeliver n toBank ((s.bank n).dir toBank).expect (frameSlots frame) ∈ (s.takeFrame n toBank frame).sent ∧
      (∃ ft sq slots c0 c1, .bridgeFrame n (!toBank) (makeFrame ft sq (1, ((s.bank n).dir toBank).expect) slots c0 c1) ∈
        (s.takeFrame n toBank frame).sent) ∧
      (((s.takeFrame n toBank frame).bank n).dir toBank).expect = (((s.bank n).dir toBank).expect + 1) % 1024 ∧
      (((s.bank n).dir !toBank).queue = [] →
        (((s.takeFrame n toBank frame).bank n).dir !toBank).unacked = ((s.bank n).dir !toBank).unacked) := by
  unfold State.takeFrame
  extract_lets b d slots owed u
  obtain ⟨d', hd', hb⟩ : ∃ d', d'.expect = (d.expect + 1) % 1024 ∧ u.bank n = b.setDir toBank d' :=
    ⟨_, rfl, State.bank_setBank_ne s (Bank.ne_reset_of_bridge (by
      have hb := Bank.bridge_ne_down_of_carries hc
      cases toBank <;> exact hb))⟩
  have hc' : ((u.send (.bridgeDeliver n toBank d.expect slots)).bank n).carries = true := by
    change (u.bank n).carries = true
    rw [hb]
    cases toBank <;> exact hc
  obtain ⟨hby, ft, sq, sl, c0, c1, hsent⟩ := State.sendFrame_bank (toBank := !toBank) (1, d.expect) hc'
  have hself : ((u.send (.bridgeDeliver n toBank d.expect slots)).bank n).dir toBank = d' := by
    change (u.bank n).dir toBank = d'
    rw [hb, Bank.dir_setDir_same]
  have hback : ((u.send (.bridgeDeliver n toBank d.expect slots)).bank n).dir (!toBank) = b.dir !toBank := by
    change (u.bank n).dir (!toBank) = _
    rw [hb, Bank.dir_setDir_back]
  rw [hsent]
  refine ⟨.tail _ (.head _), ⟨ft, sq, sl, c0, c1, .head _⟩, ?_, fun hq => ?_⟩
  · rw [Bank.expect_of_still hby.still, hself, hd']
  · rw [hby.idle (by rw [hback]; exact hq), hback]

end Sys2Proof.Machine
end

section
/-! PROOFS. BRIDGE_FRAME_RX and BRIDGE_CLOCK_LOSS (O17; R66, R69, R83, R84). -/

namespace Sys2Proof.Machine

variable {s : State} {n : BankId} {toBank : Bool} {frame : List Byte}

/-! ### Good frames -/

/-- A good frame acts by its acknowledgement, is taken where it carries the number expected, and may ask for a retrain. -/
theorem exec_bridgeFrame_good (hc : (s.bank n.val).carries = true) (hf : frameOk frame = true) :
    exec (.bridgeFrameRx n toBank frame) s =
      let u := s.frameReturns n.val toBank (sideband frame)
      .next ((if bitsOf (sideband frame) 66 3 = 1 ∧ bitsOf (sideband frame) 0 10 = ((u.bank n.val).dir toBank).expect then
        u.takeFrame n.val toBank frame else u).frameEnd n.val (bitAt (sideband frame) 69)) := by
  change execBridgeFrameRx .. = _
  rw [execBridgeFrameRx, hc, if_neg (by simp), if_pos hf]
  rfl

theorem State.frameReturns_still (hc : (s.bank n.val).carries = true) (sb : Nat) :
    ((s.frameReturns n.val toBank sb).bank n.val).still = (s.bank n.val).still :=
  (s.frameReturns_framed n.val toBank sb).banks.keeps n.val (.inr (Bank.still_ne_of_carries hc))

theorem State.frameReturns_mem (s : State) (n : Nat) (toBank : Bool) (sb : Nat) : (s.frameReturns n toBank sb).mem = s.mem :=
  (State.frameReturns_moves ..).off .memory rfl

theorem State.frameReturns_boot (s : State) (n : Nat) (toBank : Bool) (sb : Nat) : (s.frameReturns n toBank sb).boot = s.boot :=
  (State.frameReturns_moves ..).off .boot rfl

theorem State.takeFrame_mem (s : State) (n : Nat) (toBank : Bool) (frame : List Byte) : (s.takeFrame n toBank frame).mem = s.mem :=
  (State.takeFrame_moves ..).off .memory rfl

theorem State.takeFrame_boot (s : State) (n : Nat) (toBank : Bool) (frame : List Byte) : (s.takeFrame n toBank frame).boot = s.boot :=
  (State.takeFrame_moves ..).off .boot rfl

theorem frame_delivered (hc : (s.bank n.val).carries = true) (hw : s.boot.warm = false) (hf : frameOk frame = true)
    (ht : bitsOf (sideband frame) 66 3 = 1) (hq : bitsOf (sideband frame) 0 10 = ((s.bank n.val).dir toBank).expect) :
    ∃ u, exec (.bridgeFrameRx n toBank frame) s = .next u ∧
      .bridgeDeliver n.val toBank ((s.bank n.val).dir toBank).expect (frameSlots frame) ∈ u.sent ∧
      (∃ ft sq slots c0 c1, .bridgeFrame n.val (!toBank) (makeFrame ft sq (1, ((s.bank n.val).dir toBank).expect) slots c0 c1) ∈ u.sent) ∧
      ((u.bank n.val).dir toBank).expect = (((s.bank n.val).dir toBank).expect + 1) % 1024 ∧ u.mem = s.mem := by
  refine ⟨_, exec_bridgeFrame_good hc hf, ?_⟩
  have hstill := State.frameReturns_still (toBank := toBank) hc (sideband frame)
  have hmem := s.frameReturns_mem n.val toBank (sideband frame)
  have hboot := s.frameReturns_boot n.val toBank (sideband frame)
  generalize s.frameReturns n.val toBank (sideband frame) = v at hstill hmem hboot ⊢
  have hexp := Bank.expect_of_still hstill toBank
  rw [if_pos ⟨ht, hq.trans hexp.symm⟩, ← hexp]
  obtain ⟨hdeliver, hack, hnext, -⟩ := State.takeFrame_takes (toBank := toBank) frame (by rw [Bank.carries_of_still hstill]; exact hc)
  obtain ⟨hdirs, hsent, hm⟩ := State.frameEnd_keeps (n := n.val) (bitAt (sideband frame) 69)
    (show (v.takeFrame n.val toBank frame).boot.warm = false by rw [State.takeFrame_boot, hboot]; exact hw)
  rw [hdirs, hsent, hm, State.takeFrame_mem]
  exact ⟨hdeliver, hack, hnext, hmem⟩

theorem frame_outOfOrder (hc : (s.bank n.val).carries = true) (hw : s.boot.warm = false) (hf : frameOk frame = true)
    (hq : bitsOf (sideband frame) 0 10 ≠ ((s.bank n.val).dir toBank).expect) :
    ∃ u, exec (.bridgeFrameRx n toBank frame) s = .next u ∧ (∀ q sl, .bridgeDeliver n.val toBank q sl ∈ u.sent → .bridgeDeliver n.val toBank q sl ∈ s.sent) ∧
      ((u.bank n.val).dir toBank).expect = ((s.bank n.val).dir toBank).expect ∧ u.mem = s.mem := by
  refine ⟨_, exec_bridgeFrame_good hc hf, ?_⟩
  have hframes := (s.frameReturns_framed n.val toBank (sideband frame)).frames
  have hexp := Bank.expect_of_still (State.frameReturns_still (toBank := toBank) hc (sideband frame)) toBank
  rw [if_neg fun h => hq (h.2.trans hexp)]
  obtain ⟨hdirs, hsent, hm⟩ := State.frameEnd_keeps (n := n.val) (bitAt (sideband frame) 69)
    (show (s.frameReturns n.val toBank (sideband frame)).boot.warm = false by rw [State.frameReturns_boot]; exact hw)
  rw [hdirs, hsent, hm, hexp, State.frameReturns_mem]
  refine ⟨fun q sl hx => (hframes _ hx).resolve_right ?_, rfl, rfl⟩
  rintro ⟨_, _, _, e⟩
  cases e

theorem frame_acknowledges (hc : (s.bank n.val).carries = true) (hw : s.boot.warm = false) (hf : frameOk frame = true)
    (hq : ((s.bank n.val).dir (!toBank)).queue = []) :
    ∃ u, exec (.bridgeFrameRx n toBank frame) s = .next u ∧
      ((u.bank n.val).dir (!toBank)).unacked =
        ((s.bank n.val).dir (!toBank)).acked (bitsOf (sideband frame) 20 2) (bitsOf (sideband frame) 10 10) ∧
      (bitsOf (sideband frame) 20 2 = 2 → ∀ f ∈ ((u.bank n.val).dir (!toBank)).unacked,
        .bridgeFrame n.val (!toBank) (makeFrame 1 f.1 (0, 0) f.2 (0, 0) (0, 0)) ∈ u.sent) := by
  refine ⟨_, exec_bridgeFrame_good hc hf, ?_⟩
  obtain ⟨hbank, hnack⟩ := State.frameReturns_idle (n := n.val) (toBank := toBank) (sideband frame) hc hq
  have hboot := s.frameReturns_boot n.val toBank (sideband frame)
  have hstill := State.frameReturns_still (toBank := toBank) hc (sideband frame)
  generalize s.frameReturns n.val toBank (sideband frame) = v at hbank hnack hboot hstill ⊢
  have hback : (v.bank n.val).dir (!toBank) = ((s.bank n.val).dir !toBank).acknowledged (sideband frame) := by rw [hbank, Bank.dir_setDir_same]
  have hkeep : ((((if bitsOf (sideband frame) 66 3 = 1 ∧ bitsOf (sideband frame) 0 10 = ((v.bank n.val).dir toBank).expect then
      v.takeFrame n.val toBank frame else v).bank n.val).dir !toBank).unacked = ((v.bank n.val).dir !toBank).unacked) := by
    split
    · obtain ⟨-, -, -, hidle⟩ := State.takeFrame_takes (toBank := toBank) frame (by rw [Bank.carries_of_still hstill]; exact hc)
      exact hidle (by rw [hback]; exact hq)
    · rfl
  have hm : Moves 0x408 v (if bitsOf (sideband frame) 66 3 = 1 ∧ bitsOf (sideband frame) 0 10 = ((v.bank n.val).dir toBank).expect then
      v.takeFrame n.val toBank frame else v) := .ite (State.takeFrame_moves ..) (.refl ..)
  generalize (if bitsOf (sideband frame) 66 3 = 1 ∧ bitsOf (sideband frame) 0 10 = ((v.bank n.val).dir toBank).expect then
      v.takeFrame n.val toBank frame else v) = x at hkeep hm ⊢
  have hwarm : x.boot.warm = false := by
    have hx : x.boot = v.boot := hm.off .boot rfl
    rw [hx, hboot, hw]
  obtain ⟨hdirs, hsent, -⟩ := State.frameEnd_keeps (n := n.val) (bitAt (sideband frame) 69) hwarm
  have hun : ((x.bank n.val).dir !toBank).unacked =
      ((s.bank n.val).dir (!toBank)).acked (bitsOf (sideband frame) 20 2) (bitsOf (sideband frame) 10 10) := by
    rw [hkeep, hback]
    rfl
  rw [hdirs, hsent, hun]
  exact ⟨rfl, fun h2 f hf => hm.sent.mem (hnack h2 f hf)⟩

/-! ### Bad frames -/

/-- A bad frame is counted in HUB_BRG_CRC_CNT, and no number is expected anew (R84). -/
theorem State.badFrame_counts (hi : Inv s) (hb : (s.bank n.val).bridge ≠ .down) :
    ((s.badFrame n.val toBank).reg (0x118 + 0x10 * n.val)).toNat = min 0xFFFFFFFF ((s.reg (0x118 + 0x10 * n.val)).toNat + 1) ∧
      (((s.badFrame n.val toBank).bank n.val).dir toBank).expect = ((s.bank n.val).dir toBank).expect := by
  unfold State.badFrame
  extract_lets u b d v lim
  have hu : (u.reg (0x118 + 0x10 * n.val)).toNat = min 0xFFFFFFFF ((s.reg (0x118 + 0x10 * n.val)).toNat + 1) := reg_bump_same hi _ 1
  have hv : (v.bank n.val).dir toBank = { d with crcMinute := d.crcMinute + 1 } := by
    rw [State.bank_setBank_ne u (Bank.ne_reset_of_bridge (by cases toBank <;> exact hb)), Bank.dir_setDir_same]
  split
  · rw [State.startRetrain_reg _ _ _ (by omega), (v.startRetrain_dirs n.val 2).1, hv]
    exact ⟨hu, rfl⟩
  · rw [hv]
    exact ⟨hu, rfl⟩

/-- A frame that did not arrive whole is answered with a frame that NACKs the number expected (R83). -/
theorem State.nackFrame_nacks (hc : (s.bank n.val).carries = true) :
    (∃ ft sq slots c0 c1, .bridgeFrame n.val (!toBank) (makeFrame ft sq (2, ((s.bank n.val).dir toBank).expect) slots c0 c1) ∈
      (s.nackFrame n.val toBank).sent) ∧
      (((s.nackFrame n.val toBank).bank n.val).dir toBank).expect = ((s.bank n.val).dir toBank).expect ∧
      ((s.nackFrame n.val toBank).bank n.val).bridge ≠ .down ∧
      (s.nackFrame n.val toBank).reg (0x118 + 0x10 * n.val) = s.reg (0x118 + 0x10 * n.val) := by
  unfold State.nackFrame
  extract_lets b d run u v
  have hu : u.bank n.val = b.setDir toBank { d with nackSeq := d.expect, nackRun := run } :=
    State.bank_setBank_ne s (Bank.ne_reset_of_bridge (by
      have hb := Bank.bridge_ne_down_of_carries hc
      cases toBank <;> exact hb))
  have hcu : (u.bank n.val).carries = true := by
    rw [hu]
    cases toBank <;> exact hc
  obtain ⟨hby, ft, sq, slots, c0, c1, hsent⟩ := State.sendFrame_bank (toBank := !toBank) (2, d.expect) hcu
  have hreg : v.reg (0x118 + 0x10 * n.val) = s.reg (0x118 + 0x10 * n.val) := (State.sendFrame_moves ..).reg rfl _
  have hexp : ((v.bank n.val).dir toBank).expect = d.expect := by
    rw [Bank.expect_of_still hby.still, hu, Bank.dir_setDir_same]
  have hbridge : (v.bank n.val).bridge ≠ .down := Bank.bridge_ne_down_of_carries (by rw [Bank.carries_of_still hby.still]; exact hcu)
  have hframe : ∃ ft sq slots c0 c1, .bridgeFrame n.val (!toBank) (makeFrame ft sq (2, d.expect) slots c0 c1) ∈ v.sent :=
    ⟨ft, sq, slots, c0, c1, by rw [hsent]; exact .head _⟩
  clear_value v
  split
  · obtain ⟨hdirs, hdown⟩ := v.startRetrain_dirs n.val 1
    have hs : (v.startRetrain n.val 1).sent = v.sent := (State.startRetrain_moves ..).off .sent rfl
    rw [hs, hdirs, State.startRetrain_reg _ _ _ (by omega)]
    exact ⟨hframe, hexp, hdown hbridge, hreg⟩
  · exact ⟨hframe, hexp, hbridge, hreg⟩

theorem exec_bridgeFrame_bad (hc : (s.bank n.val).carries = true) (hf : frameOk frame = false) : exec (.bridgeFrameRx n toBank frame) s =
    .next (if bitsOf (sideband frame) 66 3 = 0 ∧ frame.length = 528 then s.badFrame n.val toBank
      else (s.nackFrame n.val toBank).badFrame n.val toBank) := by
  change execBridgeFrameRx .. = _
  rw [execBridgeFrameRx, hc, if_neg (by simp), if_neg (by simp [hf])]
  exact (apply_ite _ ..).symm

theorem badFrame_nacked (hi : Inv s) (hc : (s.bank n.val).carries = true) (hf : frameOk frame = false)
    (hidle : ¬(bitsOf (sideband frame) 66 3 = 0 ∧ frame.length = 528)) :
    ∃ u, exec (.bridgeFrameRx n toBank frame) s = .next u ∧
      (∃ ft sq slots c0 c1, .bridgeFrame n.val (!toBank) (makeFrame ft sq (2, ((s.bank n.val).dir toBank).expect) slots c0 c1) ∈ u.sent) ∧
      (u.reg (0x118 + 0x10 * n.val)).toNat = min 0xFFFFFFFF ((s.reg (0x118 + 0x10 * n.val)).toNat + 1) ∧
      ((u.bank n.val).dir toBank).expect = ((s.bank n.val).dir toBank).expect ∧ u.mem = s.mem := by
  refine ⟨_, (exec_bridgeFrame_bad hc hf).trans (by rw [if_neg hidle]), ?_⟩
  obtain ⟨hframe, hexp, hbridge, hreg⟩ := State.nackFrame_nacks (toBank := toBank) hc
  have hm : Moves 0x428 s (s.nackFrame n.val toBank) := State.nackFrame_moves ..
  obtain ⟨hcount, hexp'⟩ := State.badFrame_counts (toBank := toBank) (hm.inv hi) hbridge
  have hs : ((s.nackFrame n.val toBank).badFrame n.val toBank).sent = (s.nackFrame n.val toBank).sent := (State.badFrame_moves ..).off .sent rfl
  have hmem : ((s.nackFrame n.val toBank).badFrame n.val toBank).mem = (s.nackFrame n.val toBank).mem := (State.badFrame_moves ..).off .memory rfl
  rw [hs, hcount, hreg, hexp', hexp, hmem]
  exact ⟨hframe, rfl, rfl, hm.off .memory rfl⟩

theorem badIdleFrame_counted (hi : Inv s) (hc : (s.bank n.val).carries = true) (hf : frameOk frame = false)
    (ht : bitsOf (sideband frame) 66 3 = 0) (hl : frame.length = 528) :
    ∃ u, exec (.bridgeFrameRx n toBank frame) s = .next u ∧ u.sent = s.sent ∧
      (u.reg (0x118 + 0x10 * n.val)).toNat = min 0xFFFFFFFF ((s.reg (0x118 + 0x10 * n.val)).toNat + 1) ∧ u.mem = s.mem := by
  refine ⟨_, (exec_bridgeFrame_bad hc hf).trans (by rw [if_pos ⟨ht, hl⟩]), (State.badFrame_moves ..).off .sent rfl, ?_,
    (State.badFrame_moves ..).off .memory rfl⟩
  obtain ⟨hcount, -⟩ := State.badFrame_counts (toBank := toBank) hi (Bank.bridge_ne_down_of_carries hc)
  exact hcount

/-! ### Bridges that carry none, and a lost clock -/

theorem frame_notCarried (hc : (s.bank n.val).carries = false) : ∃ u, exec (.bridgeFrameRx n toBank frame) s = .next u ∧ u = s :=
  ⟨s, if_pos (by simp [hc]), rfl⟩

theorem clockLoss_retrains (h : (s.bank n.val).bridge = .up ∨ (s.bank n.val).bridge = .idle) :
    ∃ u, exec (.bridgeClockLoss n) s = .next u ∧ (u.bank n.val).bridge = .retrain ∧ (u.bank n.val).cause = 3 := by
  refine ⟨s.startRetrain n.val 3, rfl, ?_⟩
  rw [State.startRetrain_begins 3 h]
  exact ⟨rfl, rfl⟩

theorem clockLoss_nothing (hu : (s.bank n.val).bridge ≠ .up) (hi : (s.bank n.val).bridge ≠ .idle) :
    ∃ u, exec (.bridgeClockLoss n) s = .next u ∧ u = s :=
  ⟨s.startRetrain n.val 3, rfl, State.startRetrain_nothing 3 fun h => h.elim hu hi⟩

end Sys2Proof.Machine
end

section
/-! PROOFS. The end of a retrain and the time message, and the statement on Bank Bridges (O17; R64, R69, R84, R85). -/

namespace Sys2Proof.Machine

variable {s t : State}

/-! ### A retrain that succeeds -/

/-- Every frame of a direction that waits for an acknowledgement has gone again. -/
def State.Replayed (t : State) (n : Nat) (toBank : Bool) (b : Bank) : Prop :=
  ∀ f ∈ (b.dir toBank).unacked, .bridgeFrame n toBank (makeFrame 1 f.1 (0, 0) f.2 (0, 0) (0, 0)) ∈ t.sent

theorem State.replayBridge_replayed (s : State) (n : Nat) (toBank : Bool) : (s.replayBridge n toBank).Replayed n toBank (s.bank n) := fun f hf => by
  rw [State.replayBridge_sent]
  exact List.mem_append_left _ (List.mem_reverse.2 (List.mem_map.2 ⟨f, hf, rfl⟩))

theorem State.Replayed.moves {n m : Nat} {toBank : Bool} {b : Bank} (h : s.Replayed n toBank b) (hm : Moves m s t) : t.Replayed n toBank b :=
  fun f hf => hm.sent.mem (h f hf)

/-- Both directions replay, and what is queued goes on (R82, R84). -/
def State.replayBoth (s : State) (n : Nat) : State := (((s.replayBridge n true).pumpBridge n true).replayBridge n false).pumpBridge n false

theorem State.replayBoth_framed (s : State) (n : Nat) : Framed s (s.replayBoth n) :=
  (State.pumpBridge_framed ..).then <| (State.replayBridge_framed ..).then <| (State.pumpBridge_framed ..).then (State.replayBridge_framed ..)

/-- What goes to the bank die leaves the frames that wait at it for an acknowledgement. -/
theorem State.replayBoth_replays {n : Nat} (hb : (s.bank n).bridge ≠ .down) (toBank : Bool) : (s.replayBoth n).Replayed n toBank (s.bank n) := by
  cases toBank with
  | true =>
    have hm : Moves 0x408 (s.replayBridge n true) (s.replayBoth n) :=
      (State.pumpBridge_moves ..).then rfl <| (State.replayBridge_moves ..).then rfl <| (State.pumpBridge_moves ..).mono rfl
    exact (s.replayBridge_replayed n true).moves hm
  | false =>
    have hkept : BankKept (Bank.backed true) s ((s.replayBridge n true).pumpBridge n true) :=
      (State.pumpBridge_backed ..).then ((State.replayBridge_moves ..).bankKept rfl)
    have hback : ((((s.replayBridge n true).pumpBridge n true).bank n).dir false).unacked = ((s.bank n).dir false).unacked :=
      congrArg Prod.snd (hkept.keeps n (.inr fun e => hb (congrArg (fun x => Bank.bridge (Prod.fst x)) e)))
    intro f hf
    exact (State.pumpBridge_moves ..).sent.mem (State.replayBridge_replayed _ n false f (hback.symm ▸ hf))

/-- A bank die whose bridge is back (R84). -/
def Bank.restored (b : Bank) : Bank := { b with bridge := .up, badRetrains := 0 }

theorem State.bridgeBack_eq (s : State) (n : Nat) : s.bridgeBack n = ((s.setBank n (s.bank n).restored).replayBoth n).releaseWrites n := rfl

/-- Both directions of a bridge that is back have replayed, and its bank die stays as it was, but UP and with no failed retrain (R84). -/
theorem State.bridgeBack_replays (s : State) (n : Nat) :
    ((s.bridgeBack n).bank n).core = (s.bank n).restored.core ∧ ∀ toBank, (s.bridgeBack n).Replayed n toBank (s.bank n) := by
  rw [State.bridgeBack_eq]
  have hu : (s.setBank n (s.bank n).restored).bank n = (s.bank n).restored := State.bank_setBank_ne s (Bank.ne_reset_of_bridge (by nofun))
  generalize s.setBank n (s.bank n).restored = u at hu ⊢
  have hup : (u.bank n).bridge ≠ .down := by rw [hu]; nofun
  have hcore : (((u.replayBoth n).releaseWrites n).bank n).core = (u.bank n).core :=
    ((State.releaseWrites_core ..).then (u.replayBoth_framed n).core).keeps n (.inr (Bank.core_ne_of_bridge hup))
  refine ⟨by rw [hcore, hu], fun toBank => .moves (fun f hf => ?_) (State.releaseWrites_moves ..)⟩
  refine State.replayBoth_replays hup toBank f ?_
  rw [hu]
  cases toBank <;> exact hf

/-- What a bridge's training leaves of its bank die: the frames that wait for an acknowledgement, the RESET that waits, and the bridge itself. -/
def Bank.trained (b : Bank) : (Bool → List (Nat × List (Nat × List Byte))) × Bool × BridgeState :=
  (fun toBank => (b.dir toBank).unacked, b.resetWait, b.bridge)

theorem Bank.trained_bare (b : Bank) : b.bare.trained = b.trained := by
  refine Prod.ext (funext fun toBank => ?_) rfl
  cases toBank <;> rfl

variable {n : BankId}

theorem exec_bridgeRetrainDone_trained {u : State} {w : WireTest} (hb : (s.bank n.val).bridge = .retrain) (hu : s.trainBridge n.val w false = some u) :
    exec (.bridgeRetrainDone n true w) s =
      .next (((u.bridgeBack n.val).hubEvent 0x10 (4 + n.val) (n.val + (s.bank n.val).cause * 256)).judgeWaiting n.val).retryWaiting := by
  change execBridgeRetrainDone .. = _
  rw [execBridgeRetrainDone, if_neg (not_not.2 hb), if_pos rfl, hu]

theorem retrain_succeeds {w : WireTest} (hb : (s.bank n.val).bridge = .retrain) (hr : (s.bank n.val).resetWait = false)
    (hx : (assignSpares (s.bank n.val).h2b.spares (s.mapWires n.val 0 deApplied ++ w.badH2b)).isSome = true)
    (hy : (assignSpares (s.bank n.val).b2h.spares (s.mapWires n.val 1 deApplied ++ w.badB2h)).isSome = true) (hd : w.pairDead = false) :
    ∃ u, exec (.bridgeRetrainDone n true w) s = .next u ∧ (u.bank n.val).bridge = .up ∧ (u.bank n.val).badRetrains = 0 ∧
      ∀ toBank, ∀ f ∈ ((s.bank n.val).dir toBank).unacked,
        .bridgeFrame n.val toBank (makeFrame 1 f.1 (0, 0) f.2 (0, 0) (0, 0)) ∈ u.sent := by
  obtain ⟨t, ht, hbare⟩ := State.trainBridge_trains false hx hy hd
  refine ⟨_, exec_bridgeRetrainDone_trained hb ht, ?_⟩
  have hbne : (s.bank n.val).bare ≠ Bank.reset.bare := fun e =>
    BridgeState.noConfusion (hb.symm.trans (congrArg Bank.bridge e :))
  have htrained : (t.bank n.val).trained = (s.bank n.val).trained := by
    rw [← Bank.trained_bare, ← (s.bank n.val).trained_bare]
    exact congrArg Bank.trained (hbare.keeps n.val (.inr hbne))
  have hwait : (t.bank n.val).resetWait = false := (congrArg (fun x => x.2.1) htrained).trans hr
  obtain ⟨hcore, hsent⟩ := t.bridgeBack_replays n.val
  generalize t.bridgeBack n.val = v at hcore hsent ⊢
  generalize n.val + (s.bank n.val).cause * 256 = det
  have he : Moves 0x1483C v (v.hubEvent 0x10 (4 + n.val) det) := State.hubEvent_moves ..
  have hcore' : ((v.hubEvent 0x10 (4 + n.val) det).bank n.val).core = (t.bank n.val).restored.core :=
    (congrArg (fun l => Bank.core (tabGet _ l n.val)) (he.off .banks rfl)).trans hcore
  have hjudge : (v.hubEvent 0x10 (4 + n.val) det).judgeWaiting n.val = v.hubEvent 0x10 (4 + n.val) det := by
    have hw : ((v.hubEvent 0x10 (4 + n.val) det).bank n.val).resetWait = (t.bank n.val).resetWait := (congrArg Bank.resetWait hcore' :)
    rw [State.judgeWaiting, if_neg (by rw [hw, hwait]; nofun)]
  rw [hjudge]
  have hup : ((v.hubEvent 0x10 (4 + n.val) det).bank n.val).bridge = .up := (congrArg Bank.bridge hcore' :)
  have hlast := (v.hubEvent 0x10 (4 + n.val) det).retryWaiting_core.keeps n.val (.inr (Bank.core_ne_of_bridge (by rw [hup]; nofun)))
  obtain ⟨-, -, -, hbridge, hbad, -⟩ := Bank.of_core (hlast.trans hcore')
  refine ⟨hbridge, hbad, fun toBank f hf => ?_⟩
  have hun : ((t.bank n.val).dir toBank).unacked = ((s.bank n.val).dir toBank).unacked := congrFun (congrArg Prod.fst htrained) toBank
  have hf' : f ∈ ((t.bank n.val).dir toBank).unacked := hun ▸ hf
  exact (State.retryWaiting_moves ..).sent.mem (he.sent.mem (hsent toBank f hf'))

/-! ### A retrain that fails -/

/-- A bank die whose bridge has failed one more retrain. -/
def Bank.retrainFailed (b : Bank) : Bank := { b with badRetrains := b.badRetrains + 1 }

theorem exec_bridgeRetrainDone_failed {w : WireTest} (hb : (s.bank n.val).bridge = .retrain) : exec (.bridgeRetrainDone n false w) s =
    .next (if (s.bank n.val).badRetrains + 1 < 3 then s.setBank n.val (s.bank n.val).retrainFailed
      else (((s.setBank n.val (s.bank n.val).retrainFailed).bridgeFails n.val).loseBank n.val false).judgeWaiting n.val) := by
  change execBridgeRetrainDone n false w s = _
  rw [execBridgeRetrainDone, if_neg (not_not.2 hb)]
  exact (apply_ite _ ..).symm

theorem retrain_again {w : WireTest} (hb : (s.bank n.val).bridge = .retrain) (hk : (s.bank n.val).badRetrains + 1 < 3) :
    ∃ u, exec (.bridgeRetrainDone n false w) s = .next u ∧ (u.bank n.val).bridge = .retrain ∧
      (u.bank n.val).badRetrains = (s.bank n.val).badRetrains + 1 := by
  refine ⟨_, exec_bridgeRetrainDone_failed hb, ?_⟩
  have hup : (s.bank n.val).retrainFailed.bridge ≠ .down := fun e => BridgeState.noConfusion (hb.symm.trans e)
  rw [if_pos hk, State.bank_setBank_ne s (Bank.ne_reset_of_bridge hup)]
  exact ⟨hb, rfl⟩

theorem State.bridgeFails_dp (s : State) (n : Nat) : (s.bridgeFails n).dpFailed (4 + n) = true :=
  ((State.hubEvent_views ..).dp _).trans (State.dpFailed_setDp _ _)

theorem retrain_gaveUp {w : WireTest} (hb : (s.bank n.val).bridge = .retrain) (hk : 3 ≤ (s.bank n.val).badRetrains + 1) :
    ∃ u, exec (.bridgeRetrainDone n false w) s = .next u ∧ u.dpFailed (4 + n.val) = true ∧ (u.bank n.val).phase = .resetting := by
  refine ⟨_, exec_bridgeRetrainDone_failed hb, ?_⟩
  rw [if_neg (Nat.not_lt.2 hk)]
  have hdp := (s.setBank n.val (s.bank n.val).retrainFailed).bridgeFails_dp n.val
  generalize (s.setBank n.val (s.bank n.val).retrainFailed).bridgeFails n.val = t at hdp ⊢
  obtain ⟨hphase, -⟩ := t.loseBank_bank n.val false
  have hviews := t.loseBank_views n.val false
  generalize t.loseBank n.val false = v at hphase hviews ⊢
  obtain ⟨⟨k, hbank⟩, hkept⟩ := State.judgeWaiting_resetting hphase
  rw [hbank, hkept.dp, hviews.dp, State.dpFailed_setDp_other _ _ (by omega)]
  exact ⟨hdp, hphase⟩

theorem retrain_nothing (ok : Bool) (w : WireTest) (hb : (s.bank n.val).bridge ≠ .retrain) :
    ∃ u, exec (.bridgeRetrainDone n ok w) s = .next u ∧ u = s := ⟨s, if_pos hb, rfl⟩

/-! ### The time message -/

theorem timeMsg_moves_position (ok : Bool) (day minute : Nat) (a b : Bool) (hi : Inv s) :
    ∃ u, exec (.bankTimeMsgRx n ok day minute a b) s = .next u ∧
      (u.bank n.val).expMinute = ((s.bank n.val).expMinute + 1) % 1440 ∧
      (u.bank n.val).expDay = (if (s.bank n.val).expMinute = 1439 then ((s.bank n.val).expDay + 1) % 2 ^ 48 else (s.bank n.val).expDay) ∧
      (u.bank n.val).timeErr = (if ok = true ∧ day = (u.bank n.val).expDay ∧ minute = (u.bank n.val).expMinute then (s.bank n.val).timeErr
        else min 0xFF ((s.bank n.val).timeErr + 1)) := by
  change ∃ u, execBankTimeMsgRx .. = _ ∧ _
  unfold execBankTimeMsgRx
  extract_lets x nextD nextM good deg t
  refine ⟨_, rfl, ?_⟩
  have ht : t.bank n.val = { x with expDay := nextD, expMinute := nextM, degraded := deg, timeErr := if good then x.timeErr else satAdd 0xFF x.timeErr 1 } :=
    State.bank_setBank_same hi.tables.1 ..
  have hb : (if deg && !x.degraded then t.hubEvent 0x12 (4 + n.val) n.val else t).bank n.val = t.bank n.val := by
    split
    · exact congrArg (tabGet _ · n.val) ((State.hubEvent_moves ..).off .banks rfl)
    · rfl
  rw [hb, ht]
  refine ⟨rfl, rfl, ?_⟩
  have hgood : good = true ↔ ok = true ∧ day = nextD ∧ minute = nextM := by simp [good, and_assoc]
  simp only [hgood]
  rfl

/-- Settles O17: a bridge's frames, acknowledgements and replays, its retrains and its time message, each by what it leaves of the bank die's entry. -/
theorem bridgeCommands : Obligations.BridgeCommands :=
  ⟨fun _ _ _ _ hc hw hf ht hq => frame_delivered hc hw hf ht hq, fun _ _ _ _ hc hw hf _ hq => frame_outOfOrder hc hw hf hq,
   fun _ _ _ _ hi hc hf hidle => badFrame_nacked hi hc hf hidle, fun _ _ _ _ hi hc hf ht hl => badIdleFrame_counted hi hc hf ht hl,
   fun _ _ _ _ hc hw hf hq => frame_acknowledges hc hw hf hq, fun _ _ _ _ hc => frame_notCarried hc,
   fun _ _ h => clockLoss_retrains h, fun _ _ hu hi => clockLoss_nothing hu hi,
   fun _ _ _ hb hr hx hy hd => retrain_succeeds hb hr hx hy hd, fun _ _ _ hb hk => retrain_again hb hk, fun _ _ _ hb hk => retrain_gaveUp hb hk,
   fun _ ok w _ hb => retrain_nothing ok w hb, fun _ ok day minute a b _ hi => timeMsg_moves_position ok day minute a b hi⟩

end Sys2Proof.Machine
end

section
/-! PROOFS. The counter of groups that an engine has ended: a group's output, its charge and the end of its stage leave it (O27; R151). -/

namespace Sys2Proof.Machine

variable {o s t : State} {x : Nat}

/-- The counter of the groups that one of the 16 engines has ended. -/
abbrev EndCount (x : Nat) : Prop := 0xA0108 ≤ x ∧ x < 0xA0508 ∧ x % 0x40 = 8

/-! ### Writes that leave for another package -/

theorem State.lnkCount_ended (s : State) (p n : Nat) {k : Nat} (hx : EndCount x) (hk : k < 8) : TallyKept x s (s.lnkCount p k n) :=
  s.bump_tally _ _ (by omega)

theorem State.giveCredit_ended (s : State) (p cls : Nat) (dl : Bool) (hx : EndCount x) : TallyKept x s (s.giveCredit p cls dl) := by
  unfold State.giveCredit State.sendIdle
  exact .ite (.ite ((State.lnkCount_ended _ _ _ hx (by decide)).then <| (State.send_moves ..).tally rfl) (.refl x _)) ((State.setPort_moves ..).tally rfl)

theorem State.sendFlit_ended (s : State) (p : Nat) (f : TxFlit) (hx : EndCount x) : TallyKept x s (s.sendFlit p f) := by
  unfold State.sendFlit
  extract_lets q f' k un q' t
  have ht : TallyKept x s t :=
    (State.lnkCount_ended _ _ _ hx (by decide)).then <| ((State.send_moves ..).tally rfl).then <| (State.setPort_moves ..).tally rfl
  exact .ite ((State.giveCredit_ended _ _ _ _ hx).then ht) ht

theorem State.pump_ended (p n : Nat) (s : State) (hx : EndCount x) : TallyKept x s (s.pump p n) := by
  induction n generalizing s with
  | zero => exact .refl x s
  | succ n ih =>
    unfold State.pump
    split
    · exact (ih _).then (State.sendFlit_ended _ _ _ hx)
    · exact .refl x s

theorem State.enqueue_ended (s : State) (p : Nat) (fs : List TxFlit) (hx : EndCount x) : TallyKept x s (s.enqueue p fs) :=
  (State.pump_ended _ _ _ hx).then <| (State.setPort_moves ..).tally rfl

theorem State.lnkFlag_ended (s : State) (bit p : Nat) (hx : EndCount x) : TallyKept x s (s.lnkFlag bit p) :=
  (State.lnkFlag_moves ..).tallySame (reg_flag _ _ _ _ _ _ (by omega) (by omega) (by omega))

theorem State.sendMsg_ended (s : State) (m : Msg) (hx : EndCount x) : TallyKept x s (s.sendMsg m) := by
  have hopen (u : State) (y : Msg) : TallyKept x u (u.openMsg y) := (State.openMsg_moves ..).tally rfl
  unfold State.sendMsg
  refine .ite ((State.setLnk_moves ..).tally rfl) (.ite ?_ ?_)
  · extract_lets m' e t
    split
    · exact ((State.holdMsg_moves ..).tally rfl).then <|
        .ite ((State.lnkFlag_ended _ _ _ hx).then (State.lnkCount_ended _ _ _ hx (by decide))) (.refl x s)
    · exact .ite (((State.send_moves ..).tally rfl).then (hopen ..)) ((State.enqueue_ended _ _ _ hx).then (hopen ..))
  · exact .ite ((State.enqueue_ended _ _ _ hx).then (hopen ..)) (.refl x s)

theorem State.issueReq_ended (s : State) (r : RemoteReq) (hx : EndCount x) : TallyKept x s (s.issueReq r) := by
  unfold State.issueReq
  split
  · exact (State.sendMsg_ended _ _ hx).then ((State.setTag_moves ..).tally rfl)
  · exact (State.setLnk_moves ..).tally rfl

theorem State.remoteWrite_ended (s : State) (c va : Nat) (bs : List Byte) (hx : EndCount x) : TallyKept x s (s.remoteWrite c va bs) := by
  unfold State.remoteWrite
  refine .foldl _ (.refl x s) fun u a _ => ?_
  split
  · exact u.issueReq_ended _ hx
  · exact .refl x u

/-! ### The output of a group -/

theorem State.writePieces_ended (die c : Nat) (ing : Bool) (hx : EndCount x) (ps : List (Nat × Nat)) (bs : List Byte) (s : State) :
    TallyKept x s (s.writePieces die c ing ps bs) := by
  induction ps generalizing s bs with
  | nil => exact .refl x s
  | cons p ps ih => exact (ih _ _).then (.ite (State.remoteWrite_ended _ _ _ _ hx) ((State.dieWrite_moves ..).tally rfl))

theorem State.vwrite_ended (s : State) (cache c va : Nat) (bs : List Byte) (acc : Acc) (ing : Bool) (hx : EndCount x) :
    TallyKept x s (s.vwrite cache c va bs acc ing).1 := by
  unfold State.vwrite
  split
  · exact State.writePieces_ended _ _ _ hx ..
  · exact (State.writePieces_ended _ _ _ hx ..).then ((State.takeFree_moves s).snd.tally rfl)

theorem State.outWrite_ended (s : State) (cache c idx va : Nat) (bs : List Byte) (hx : EndCount x) : TallyKept x s (s.outWrite cache c idx va bs).1 := by
  unfold State.outWrite
  extract_lets ps mine l
  have hmix : TallyKept x s (if l.isEmpty then (bs, s) else s.mixBytes l ps bs).2 := by
    split
    · exact .refl x s
    · exact (State.mixBytes_moves ..).snd.tally rfl
  generalize (if l.isEmpty then (bs, s) else s.mixBytes l ps bs) = p at hmix ⊢
  exact (State.vwrite_ended _ _ _ _ _ _ _ hx).then <| .ite hmix (((State.setWork_moves ..).tally rfl).then hmix)

theorem State.writeRows_ended (cache c idx fo : Nat) (hx : EndCount x) (rows : List (Nat × List Narrow)) (s : State) :
    TallyKept x s (s.writeRows cache c idx fo rows).1 := by
  induction rows generalizing s with
  | nil => exact .refl x s
  | cons r rows ih =>
    have h := s.outWrite_ended cache c idx r.1 (patternBytes (fmtBits fo) (r.2.map (fun o => o.bits))) hx
    unfold State.writeRows
    split
    · next u e => exact (ih u).then (by rw [e] at h; exact h)
    · next u f e => rw [e] at h; exact h

/-- The counters of a Special Function Unit are not an engine's. -/
theorem State.bump_unit (s : State) {off : Nat} (w n : Nat) (hx : EndCount x) (h : 0xB0100 ≤ off) : TallyKept x s (s.bump off w n) :=
  s.bump_tally w n (by omega)

theorem State.writeGroup_ended (s : State) (j : Job) (g : Group) (p : Nat) (hx : EndCount x) : TallyKept x s (s.writeGroup j g p).1 := by
  unfold State.writeGroup
  extract_lets b cnt
  split
  · split
    · exact .refl x s
    · have hfree : TallyKept x s { s with free := s.free + s.passFree j g } := (Moves.freeUp (m := 4) _ rfl (.refl _ s)).tally rfl
      exact (State.writeRows_ended _ _ _ _ hx _ _).then <| (State.bump_unit _ _ _ hx (by split <;> omega)).then <|
        (State.bump_unit _ _ _ hx (by omega)).then <| (State.bump_unit _ _ _ hx (by omega)).then <| (State.bump_unit _ _ _ hx (by omega)).then hfree
  · split
    · exact .refl x s
    · split
      · exact .refl x s
      · exact (State.writeRows_ended _ _ _ _ hx _ _).then <| (State.bump_unit _ _ _ hx (by omega)).then <|
          (State.bump_unit _ _ _ hx (by omega)).then (State.bump_unit _ _ _ hx (by omega))

/-! ### The account and the end of a stage -/

theorem State.countOccupancy_ended (s : State) (c ns : Nat) (hx : EndCount x) : TallyKept x s (s.countOccupancy c ns) := by
  unfold State.countOccupancy
  extract_lets u
  have hu : TallyKept x s u := s.setReg64_tally _ (by omega)
  exact .ite ((State.rebase_tally _ (.inr hx)).then <| (State.setVt_tally _ _ (.inr hx) (.inr (by omega))).then hu) hu

theorem State.stageEnd_ended (s : State) (j : Job) (hx : EndCount x) : TallyKept x s (s.stageEnd j) := by
  have hjob (u : State) (y : Job) : TallyKept x u (u.setJob y) := (State.setJob_moves ..).tally rfl
  have hend (n : Nat) : TallyKept x s (s.endJob j n) := by
    have hdrop : TallyKept x s (s.dropJob j.ctx j.idx) := (State.dropJob_moves ..).tally rfl
    unfold State.endJob State.finishOk State.finish State.endDesc
    extract_lets u
    split
    · extract_lets v
      have hv : TallyKept x s v := (State.unreserve_tally _ _ (.inr hx)).then hdrop
      split
      · exact ((State.setDesc_moves ..).tally rfl).then hv
      · exact hv
    · exact hdrop
  unfold State.stageEnd
  split
  · exact .refl x s
  · split
    · exact ((State.setWork_moves ..).tally rfl).then (hjob ..)
    · exact ((State.setWork_moves ..).tally rfl).then (hjob ..)
    · exact hend _
    · exact hend _
    · exact .refl x s

end Sys2Proof.Machine
end

section
/-! PROOFS. Tables that are split and groups that start (O27; R270, R272, R274). -/

namespace Sys2Proof.Machine

variable {s t : State}

/-! ### A table is split -/

/-- The groups of a table's next row. -/
def State.splitGroups (s : State) (j : Job) (r : TabRow) : List Group := match j.expertOf r with
  | some e => s.rowGroups j e r (j.all.length - j.rows.length)
  | none => []

section

variable {c i n : Nat} {j : Job} {r : TabRow} {rest : List TabRow}

theorem State.splitRows_done (h : s.job c i = some j) (hr : j.rows = []) : s.splitRows c i (n + 1) = s.setJob { j with handed := false } := by
  unfold State.splitRows
  simp only [h, hr]

theorem State.splitRows_full (h : s.job c i = some j) (hr : j.rows = r :: rest) (hs : 4096 ≤ s.storeUsed (c % 4)) : s.splitRows c i (n + 1) = s := by
  unfold State.splitRows
  simp only [h, hr, if_pos hs]

/-- One row of a table becomes groups while the split store has room. -/
theorem State.splitRows_row (h : s.job c i = some j) (hr : j.rows = r :: rest) (hs : s.storeUsed (c % 4) < 4096) :
    s.splitRows c i (n + 1) =
      ((s.setJob { j with rows := rest, groups := j.groups ++ s.splitGroups j r }).fillStore (c % 4)).splitRows c i n := by
  rw [State.splitRows]
  simp only [h, hr, if_neg (Nat.not_le.2 hs)]
  rw [← hr]
  rfl

end

/-- The row that is split leaves the table, and its groups are added. -/
theorem State.splitRow_shaped {c i : Nat} {j : Job} {r : TabRow} {rest : List TabRow} {gs : List Group} (h : s.job c i = some j) (hr : j.rows = r :: rest) :
    ∃ sh, ((s.setJob { j with rows := rest, groups := j.groups ++ gs }).fillStore (c % 4)).Shaped c i sh ∧ sh.1.length < j.rows.length ∧
      j.groups.length ≤ sh.2.2 := by
  obtain ⟨rfl, rfl⟩ : j.ctx = c ∧ j.idx = i := Prod.mk.inj (State.job_key h).2
  refine ⟨_, (State.fillStore_scheduled ..).jobs _ _ _ (State.setJob_shaped (j := { j with rows := rest, groups := j.groups ++ gs }) h), ?_, ?_⟩
  · change rest.length < j.rows.length
    rw [hr]
    exact Nat.lt_succ_self _
  · change j.groups.length ≤ (j.groups ++ gs).length
    rw [List.length_append]
    exact Nat.le_add_right ..

/-- Splitting never takes back a row or a group. -/
theorem State.splitRows_shaped {c i : Nat} (n : Nat) {s : State} {sh : List TabRow × Bool × Nat} (h : s.Shaped c i sh) :
    ∃ sh', (s.splitRows c i n).Shaped c i sh' ∧ sh'.1.length ≤ sh.1.length ∧ sh.2.2 ≤ sh'.2.2 := by
  induction n generalizing s sh with
  | zero => exact ⟨sh, h, Nat.le_refl _, Nat.le_refl _⟩
  | succ n ih =>
    obtain ⟨j, hj, rfl⟩ := h.job
    cases hr : j.rows with
    | nil =>
      obtain ⟨rfl, rfl⟩ : j.ctx = c ∧ j.idx = i := Prod.mk.inj (State.job_key hj).2
      rw [State.splitRows_done hj hr]
      exact ⟨_, State.setJob_shaped (j := { j with handed := false }) hj, Nat.le_refl _, Nat.le_refl _⟩
    | cons r rest =>
      by_cases hs : 4096 ≤ s.storeUsed (c % 4)
      · rw [State.splitRows_full hj hr hs]
        exact ⟨_, h, Nat.le_refl _, Nat.le_refl _⟩
      · obtain ⟨sh, hsh, hrows, hgroups⟩ := State.splitRow_shaped (gs := s.splitGroups j r) hj hr
        obtain ⟨sh', hsh', hrows', hgroups'⟩ := ih hsh
        rw [State.splitRows_row hj hr (Nat.not_le.1 hs)]
        exact ⟨sh', hsh', hrows'.trans hrows.le, hgroups.trans hgroups'⟩

theorem tableSplit_splits {k : Fin 4} {j : Job} (hf : (s.work.jobs.find? fun j => j.handed && j.ctx % 4 == k.val) = some j)
    (hj : s.job j.ctx j.idx = some j) :
    ∃ u, exec (.tableSplit k) s = .next u ∧
      u.mem = s.mem ∧ (j.rows = [] → ∃ x, u.job j.ctx j.idx = some x ∧ x.handed = false) ∧
      (j.rows ≠ [] → s.storeUsed (j.ctx % 4) < 4096 →
        ∃ x, u.job j.ctx j.idx = some x ∧ x.rows.length < j.rows.length ∧ j.groups.length ≤ x.groups.length) := by
  have he : exec (.tableSplit k) s = .next ((s.splitRows j.ctx j.idx (j.rows.length + 1)).schedule none) := by
    change execTableSplit k s = _
    rw [execTableSplit, hf]
  have hkept := (s.splitRows j.ctx j.idx (j.rows.length + 1)).schedule_scheduled none
  refine ⟨_, he, ((State.schedule_moves ..).off .memory rfl).trans ((State.splitRows_moves ..).off .memory rfl), fun hr => ?_, fun hr hs => ?_⟩
  · rw [State.splitRows_done hj hr] at hkept ⊢
    obtain ⟨x, hx, hsh⟩ := (hkept.jobs _ _ _ (State.setJob_shaped (j := { j with handed := false }) hj)).job
    exact ⟨x, hx, congrArg (fun sh => sh.2.1) hsh⟩
  · obtain ⟨r, rest, hr⟩ := List.exists_cons_of_ne_nil hr
    obtain ⟨sh, hsh, hrows, hgroups⟩ := State.splitRow_shaped (gs := s.splitGroups j r) hj hr
    obtain ⟨sh', hsh', hrows', hgroups'⟩ := State.splitRows_shaped j.rows.length hsh
    rw [State.splitRows_row hj hr hs] at hkept ⊢
    obtain ⟨x, hx, rfl⟩ := (hkept.jobs _ _ _ hsh').job
    exact ⟨x, hx, hrows'.trans_lt hrows, hgroups.trans hgroups'⟩

theorem tableSplit_nothing {k : Fin 4} (hf : (s.work.jobs.find? fun j => j.handed && j.ctx % 4 == k.val) = none) :
    ∃ u, exec (.tableSplit k) s = .next u ∧ u = s := by
  refine ⟨s, ?_, rfl⟩
  change execTableSplit k s = _
  rw [execTableSplit, hf]

/-! ### A group's command arrives -/

/-- A job put back is found under its key. -/
theorem State.job_setJob {c i : Nat} {y : Job} (j : Job) (h : s.job c i = some y) (hk : j.ctx = c ∧ j.idx = i) : (s.setJob j).job c i = some j := by
  obtain ⟨rfl, rfl⟩ := hk
  have hsh := State.setJob_any (s := s) j ⟨y, State.job_key h⟩
  cases hf : (s.setJob j).job j.ctx j.idx with
  | none =>
    obtain ⟨z, hz, hzk⟩ := hsh
    obtain ⟨hc, hi⟩ := Prod.mk.inj hzk
    exact absurd (List.find?_eq_none.1 hf z hz) (by simp [hc, hi])
  | some z =>
    obtain ⟨hz, hzk⟩ := State.job_key hf
    rcases State.mem_setJob hz with rfl | ⟨-, hne⟩
    · rfl
    · exact absurd hzk hne

section

variable {p : PosId} {o : Occupant} {j : Job} {g : Group}

/-- The command of a group in flight that no bridge holds back starts the group, or comes back map-stale (R272, R274). -/
theorem exec_engineCommand (ho : s.occupant p.val = some o) (hj : s.job o.ctx o.idx = some j) (hg : j.group o.group = some g)
    (hat : g.at_ = .issued p.val) (hb : s.bridgeHeld (posBank p.val) = false) : exec (.engineCommandRx p) s =
      .next (if 16 ≤ p.val ∨ s.engineUnder g.epoch p.val = some (s.engineAt p.val) then
          s.setJob (j.setGroup o.group (fun g => { g with at_ := .running p.val }))
        else ((s.setJob (j.setGroup o.group (fun _ => { g with epoch := (s.reg 0xA0004).toNat }))).sendCmd 0 p.val
          (s.commandFields j { g with epoch := (s.reg 0xA0004).toNat })).flagOpen 0xA0008 4 11 noCtx) := by
  change execEngineCommandRx p s = _
  simp only [execEngineCommandRx, ho, hj, hg]
  rw [if_neg (by simp [hat, hb])]
  exact (apply_ite _ ..).symm

theorem command_starts (ho : s.occupant p.val = some o) (hj : s.job o.ctx o.idx = some j) (hg : j.group o.group = some g)
    (hat : g.at_ = .issued p.val) (hb : s.bridgeHeld (posBank p.val) = false)
    (hm : 16 ≤ p.val ∨ s.engineUnder g.epoch p.val = some (s.engineAt p.val)) :
    ∃ u, exec (.engineCommandRx p) s = .next u ∧
      u.job o.ctx o.idx = some (j.setGroup o.group (fun g => { g with at_ := .running p.val })) ∧ u.mem = s.mem :=
  ⟨_, (exec_engineCommand ho hj hg hat hb).trans (by rw [if_pos hm]), State.job_setJob _ hj (Prod.mk.inj (State.job_key hj).2), rfl⟩

theorem command_mapStale (hi : Inv s) (ho : s.occupant p.val = some o) (hj : s.job o.ctx o.idx = some j) (hg : j.group o.group = some g)
    (hat : g.at_ = .issued p.val) (hb : s.bridgeHeld (posBank p.val) = false) (hp : p.val < 16)
    (hm : s.engineUnder g.epoch p.val ≠ some (s.engineAt p.val)) :
    ∃ u, exec (.engineCommandRx p) s = .next u ∧
      u.job o.ctx o.idx = some (j.setGroup o.group (fun _ => { g with epoch := (s.reg 0xA0004).toNat })) ∧ u.rbit 0xA0008 4 = true ∧
      u.mem = s.mem := by
  refine ⟨_, (exec_engineCommand ho hj hg hat hb).trans (by rw [if_neg (not_or.2 ⟨Nat.not_le.2 hp, hm⟩)]), ?_⟩
  generalize s.commandFields j { g with epoch := (s.reg 0xA0004).toNat } = fields
  have hjob := State.job_setJob (j.setGroup o.group (fun _ => { g with epoch := (s.reg 0xA0004).toNat })) hj (Prod.mk.inj (State.job_key hj).2)
  have hset : Moves 0x80000 s (s.setJob (j.setGroup o.group (fun _ => { g with epoch := (s.reg 0xA0004).toNat }))) := State.setJob_moves ..
  generalize s.setJob (j.setGroup o.group (fun _ => { g with epoch := (s.reg 0xA0004).toNat })) = v at hjob hset ⊢
  have hsend : Moves 0x408 v (v.sendCmd 0 p.val fields) := State.sendCmd_moves ..
  have hflag : Moves 0x10C3C v ((v.sendCmd 0 p.val fields).flagOpen 0xA0008 4 11 noCtx) := (State.flagOpen_moves ..).then rfl (hsend.mono rfl)
  have hw : ((v.sendCmd 0 p.val fields).flagOpen 0xA0008 4 11 noCtx).work = v.work := hflag.off .work rfl
  refine ⟨by rw [State.job, hw]; exact hjob, rbit_flagOpen (hsend.inv (hset.inv hi)) _ _ (by decide) (by decide) (by decide), ?_⟩
  exact (hflag.off .memory rfl).trans (hset.off .memory rfl)

theorem command_held (hb : s.bridgeHeld (posBank p.val) = true) : ∃ u, exec (.engineCommandRx p) s = .next u ∧ u = s := by
  refine ⟨s, ?_, rfl⟩
  change execEngineCommandRx p s = _
  unfold execEngineCommandRx
  split
  · rfl
  · split
    · rfl
    · split
      · rfl
      · exact if_pos (.inr hb)

end

end Sys2Proof.Machine
end

section
/-! PROOFS. Groups that end, ballast and spill delays, and the statement on them (O27; R82, R144, R150, R151, R428). -/

namespace Sys2Proof.Machine

variable {s t u : State} {p : PosId} {ns sat : Nat} {o : Occupant} {j : Job} {g : Group}

/-! ### The end of a group -/

/-- An access that lacks no remote data takes effect, and of the link unit forgets what it was about (R361). -/
theorem State.remotely_next {c idx pos : Nat} {f : State → Result} (hf : f (s.asked c idx pos) = .next t) (hn : t.lnk.need = none) :
    ∃ l, s.remotely c idx pos f = .next (t.setLnk l) := by
  refine ⟨{ t.lnk with got := t.lnk.got.filter (fun g => !(decide (g.ctx = c) && decide (g.idx = idx) && decide (g.pos = pos))), who := none, need := none }, ?_⟩
  unfold State.remotely
  extract_lets l v done
  have hv : f v = .next t := hf
  rw [hv]
  dsimp only
  rw [hn]
  rfl

theorem exec_groupEnd (ho : s.occupant p.val = some o) : exec (.groupEnd p ns) s = s.remotely o.ctx o.idx p.val (groupEnd p ns) := by
  change execGroupEnd p ns s = _
  rw [execGroupEnd, ho]

/-- The group's position is free, its report leaves, and its occupancy is charged and counted (R144, R272, R423). -/
def State.groupPaid (s t : State) (o : Occupant) (j : Job) (g : Group) (p ns : Nat) : State :=
  let v := (s.setOccupant p none).sendCmd 1 p (t.reportFields j g ns)
  (v.settle 0 p 0 (v.groupCharge j g p ns)).countOccupancy o.ctx ns

/-- An engine counts the group (R151). -/
def State.groupCounted (s : State) (p ns : Nat) : State :=
  if p < 16 then (s.bump64 (0xA0100 + 0x40 * p) ns).bump (0xA0108 + 0x40 * p) 32 1 else s

/-- The descriptor takes the group's energy, and the job goes on (R231, R269, R296). -/
def State.groupLeft (s : State) (o : Occupant) (j : Job) (p uj sat : Nat) : State :=
  let s := match s.desc o.ctx o.idx with
    | some d => s.setDesc o.ctx { d with energy := d.energy + uj }
    | none => s
  let j := { j.setGroup o.group (fun g => { g with at_ := .ended }) with saturated := j.saturated + sat }
  ((s.setJob j).stageEnd j).schedule (some (p, o.ctx))

theorem groupEnd_ends (ho : s.occupant p.val = some o) (hj : s.job o.ctx o.idx = some j) (hg : j.group o.group = some g)
    (hat : g.at_ = .running p.val) (hw : s.writeGroup j g p.val = (t, none, sat)) (hb : s.bridgeHeld (posBank p.val) = false)
    (hh : t.heldWrites ≤ s.heldWrites) :
    ∃ uj, groupEnd p ns s = .next (((t.groupPaid s o j g p.val ns).groupCounted p.val ns).groupLeft o j p.val uj sat) := by
  refine ⟨(((t.setOccupant p.val none).sendCmd 1 p.val (s.reportFields j g ns)).groupCharge j g p.val ns), ?_⟩
  unfold groupEnd
  simp only [ho, hj, hg, hw]
  rw [if_neg (not_not.2 hat), if_neg (by simp [hb, hh])]
  rfl

theorem State.groupPaid_moves (s t : State) (o : Occupant) (j : Job) (g : Group) (p ns : Nat) : Moves 0x1080428 s (s.groupPaid t o j g p ns) :=
  (State.countOccupancy_moves ..).then rfl <| (State.settle_moves ..).then rfl <| (State.sendCmd_moves ..).then rfl <| (State.setOccupant_moves ..).mono rfl

theorem State.groupCounted_moves (s : State) (p ns : Nat) : Moves 0x20 s (s.groupCounted p ns) :=
  .ite ((State.bump_moves ..).then rfl (State.bump64_moves ..)) (.refl ..)

theorem State.groupLeft_moves (s : State) (o : Occupant) (j : Job) (p uj sat : Nat) : Moves 0x108142C s (s.groupLeft o j p uj sat) := by
  unfold State.groupLeft
  extract_lets v y
  have hv : Moves 0x1000 s v := by
    unfold v
    split
    · exact State.setDesc_moves ..
    · exact .refl ..
  exact (State.schedule_moves ..).then rfl <| (State.stageEnd_moves ..).then rfl <| (State.setJob_moves ..).then rfl (hv.mono rfl)

theorem State.groupPaid_ended {x : Nat} (s t : State) (o : Occupant) (j : Job) (g : Group) (p ns : Nat) (hx : EndCount x) :
    TallyKept x s (s.groupPaid t o j g p ns) :=
  (State.countOccupancy_ended _ _ _ hx).then <| (State.settle_tally _ _ _ _ _ (.inr hx)).then <| ((State.sendCmd_moves ..).tally rfl).then
    ((State.setOccupant_moves ..).tally rfl)

theorem State.groupLeft_ended {x : Nat} (s : State) (o : Occupant) (j : Job) (p uj sat : Nat) (hx : EndCount x) : TallyKept x s (s.groupLeft o j p uj sat) := by
  unfold State.groupLeft
  extract_lets v y
  have hv : TallyKept x s v := by
    unfold v
    split
    · exact (State.setDesc_moves ..).tally rfl
    · exact .refl x s
  exact ((State.schedule_scheduled ..).tally x (.inr hx)).then <| (State.stageEnd_ended _ _ hx).then <| ((State.setJob_moves ..).tally rfl).then hv

/-- The engine's counter of groups ended grows by one (R151). -/
theorem State.groupCounted_counts (hi : Inv s) {p : Nat} (hp : p < 16) :
    ((s.groupCounted p ns).reg (0xA0108 + 0x40 * p)).toNat = min 0xFFFFFFFF ((s.reg (0xA0108 + 0x40 * p)).toNat + 1) := by
  have hb : TallyKept (0xA0108 + 0x40 * p) s (s.bump64 (0xA0100 + 0x40 * p) ns) := s.setReg64_tally _ (by omega)
  rw [State.groupCounted, if_pos hp, reg_bump_same (hb.inv hi), hb.same (by omega)]

theorem group_ends (hi : Inv s) (ho : s.occupant p.val = some o) (hj : (s.asked o.ctx o.idx p.val).job o.ctx o.idx = some j)
    (hg : j.group o.group = some g) (hat : g.at_ = .running p.val) (hw : (s.asked o.ctx o.idx p.val).writeGroup j g p.val = (t, none, sat))
    (hb : s.bridgeHeld (posBank p.val) = false) (hh : t.heldWrites ≤ s.heldWrites) (hn : t.lnk.need = none) :
    ∃ u, exec (.groupEnd p ns) s = .next u ∧ u.mem = t.mem ∧
      (p.val < 16 → (u.reg (0xA0108 + 0x40 * p.val)).toNat = min 0xFFFFFFFF ((s.reg (0xA0108 + 0x40 * p.val)).toNat + 1)) := by
  obtain ⟨uj, he⟩ := groupEnd_ends (ns := ns) (s := s.asked o.ctx o.idx p.val) ho hj hg hat hw hb hh
  have hask : TallyKept (0xA0108 + 0x40 * p.val) s (s.asked o.ctx o.idx p.val) := (State.setLnk_moves ..).tally rfl
  generalize ha : s.asked o.ctx o.idx p.val = a at hw he hask
  have hpaid := t.groupPaid_moves a o j g p.val ns
  have hcount (hx : EndCount (0xA0108 + 0x40 * p.val)) := t.groupPaid_ended a o j g p.val ns hx
  generalize t.groupPaid a o j g p.val ns = v at he hpaid hcount
  have hleft := (v.groupCounted p.val ns).groupLeft_moves o j p.val uj sat
  have hafter (hx : EndCount (0xA0108 + 0x40 * p.val)) := (v.groupCounted p.val ns).groupLeft_ended o j p.val uj sat hx
  generalize (v.groupCounted p.val ns).groupLeft o j p.val uj sat = w at he hleft hafter
  have hend : Moves 0x108142C t w := hleft.then rfl <| (v.groupCounted_moves p.val ns).then rfl (hpaid.mono rfl)
  have hlnk : w.lnk = t.lnk := hend.off .links rfl
  obtain ⟨l, hl⟩ := State.remotely_next (ha ▸ he) (by rw [hlnk]; exact hn)
  refine ⟨w.setLnk l, (exec_groupEnd ho).trans hl, hend.off .memory rfl, fun hp => ?_⟩
  have hx : EndCount (0xA0108 + 0x40 * p.val) := by constructor <;> omega
  have hne : 0xA0108 + 0x40 * p.val ≠ 0x2018C := by omega
  have hout := a.writeGroup_ended j g p.val hx
  rw [hw] at hout
  have hbefore := (hcount hx).then (hout.then hask)
  calc ((w.setLnk l).reg (0xA0108 + 0x40 * p.val)).toNat = ((v.groupCounted p.val ns).reg (0xA0108 + 0x40 * p.val)).toNat :=
        congrArg BitVec.toNat ((hafter hx).same hne)
    _ = min 0xFFFFFFFF ((v.reg (0xA0108 + 0x40 * p.val)).toNat + 1) := State.groupCounted_counts (hbefore.inv hi) hp
    _ = min 0xFFFFFFFF ((s.reg (0xA0108 + 0x40 * p.val)).toNat + 1) := by rw [hbefore.same hne]

/-- While its bridge holds it back a group does not end (R82). -/
theorem groupEnd_held (ho : s.occupant p.val = some o) (hj : s.job o.ctx o.idx = some j) (hg : j.group o.group = some g)
    (hb : s.bridgeHeld (posBank p.val) = true) : groupEnd p ns s = .next s := by
  unfold groupEnd
  simp only [ho, hj, hg]
  split
  · rfl
  · exact if_pos (.inl hb)

theorem group_held (ho : s.occupant p.val = some o) (hj : s.job o.ctx o.idx = some j) (hg : j.group o.group = some g)
    (hb : s.bridgeHeld (posBank p.val) = true) (hn : s.lnk.need = none) :
    ∃ u, exec (.groupEnd p ns) s = .next u ∧ u.mem = s.mem ∧ u.work = s.work := by
  obtain ⟨l, hl⟩ := State.remotely_next (groupEnd_held (ns := ns) (s := s.asked o.ctx o.idx p.val) ho hj hg hb) hn
  exact ⟨_, (exec_groupEnd ho).trans hl, rfl, rfl⟩

/-! ### Ballast, spill delays and the previous map -/

theorem ballast_ends (hi : Inv s) (hb : tabGet (fun _ => false) s.pwr.ballast p.val = true) :
    ∃ u, exec (.ballastEnd p) s = .next u ∧
      min 0xFFFFFFFF ((s.reg 0x2018C).toNat + s.energy { counts := [160000000], ns := 10000 } / 1000) ≤ (u.reg 0x2018C).toNat ∧ u.mem = s.mem := by
  refine ⟨_, if_pos hb, ?_⟩
  generalize s.energy { counts := [160000000], ns := 10000 } = uj
  generalize hv : ({ s with pwr := { s.pwr with ballast := tabSet (fun _ => false) s.pwr.ballast p.val false } } : State).settle 2 p.val 0 uj = v
  have hsettle : TallyKept 0x2018C s v := hv ▸ (State.settle_tally _ _ _ _ _ (.inl rfl)).then (s.pwr_tally _)
  have hvm : v.mem = s.mem := hv ▸ (State.settle_moves ..).off .memory rfl
  have hrest : TallyKept 0x2018C (v.noteBallast uj) (((v.noteBallast uj).due p.val).schedule none) :=
    ((State.schedule_scheduled ..).tally _ (.inl rfl)).then ((State.due_moves ..).tally rfl)
  have hcount := v.noteBallast_counts uj (hsettle.inv hi)
  have hbefore := hsettle.grows hi
  have hafter := hrest.grows ((State.noteBallast_moves ..).inv (hsettle.inv hi))
  refine ⟨by omega, ?_⟩
  calc (((v.noteBallast uj).due p.val).schedule none).mem = v.mem :=
        ((State.schedule_moves ..).then (m := 0x108042C) rfl <| (State.due_moves ..).then rfl <| (State.noteBallast_moves ..).mono rfl).off .memory rfl
    _ = s.mem := hvm

theorem State.dueSpill_scheduled (s old : State) : Scheduled s (s.dueSpill old) := State.dues_scheduled ..

theorem spillDelay_passes (t : Nat) (s : State) :
    ∃ u, exec (.spillDelayExpiry t) s = .next u ∧
      u.clk = max s.clk t ∧ u.mem = s.mem ∧ ∀ p o, s.occupant p = some o → u.occupant p = some o := by
  have hm : Moves 0x108042C (s.reachClk t) (((s.reachClk t).dueSpill s).schedule none) := (State.schedule_moves ..).then rfl <| (State.dueSpill_moves ..).mono rfl
  have hk : Scheduled (s.reachClk t) (((s.reachClk t).dueSpill s).schedule none) := (State.schedule_scheduled ..).then (State.dueSpill_scheduled ..)
  exact ⟨_, rfl, hm.off .clock rfl, hm.off .memory rfl, fun p o ho => hk.occupied p o ho⟩

theorem exec_engineMapHoldExpiry {m : Nat} (h : s.maps.prevUntil = some m) : exec (.engineMapHoldExpiry) s =
    .next (if m ≤ s.absMin then s.setMaps { s.maps with prevUntil := none, prevEngines := [] } else s) := by
  change execEngineMapHoldExpiry s = _
  rw [execEngineMapHoldExpiry, h]

/-- Settles O27: what a round of the scheduler keeps says what becomes of the table, the positions and the counters. -/
theorem groupLife : Obligations.GroupLife :=
  ⟨fun _ _ _ hf hj => tableSplit_splits hf hj, fun _ _ hf => tableSplit_nothing hf,
   fun _ _ _ _ _ ho hj hg hat hb hm => command_starts ho hj hg hat hb hm,
   fun _ _ _ _ _ hi ho hj hg hat hb hp hm => command_mapStale hi ho hj hg hat hb hp hm, fun _ _ hb => command_held hb,
   fun _ _ _ _ _ _ _ _ hi ho hj hg hat hw hb hh hn => group_ends hi ho hj hg hat hw hb hh hn,
   fun _ _ _ _ _ _ ho hj hg hb hn => group_held ho hj hg hb hn, fun _ _ hi hb => ballast_ends hi hb, fun t s => spillDelay_passes t s,
   fun _ _ h hm => ⟨_, exec_engineMapHoldExpiry h, if_pos hm⟩, fun _ _ h hm => ⟨_, exec_engineMapHoldExpiry h, if_neg (Nat.not_le.2 hm)⟩⟩

end Sys2Proof.Machine
end

section
/-! PROOFS. Every command keeps the invariant, and so does every step, from the state after reset on (O3, O4). -/

namespace Sys2Proof.Machine

variable {s t : State}

/-- The mask of a list of parts in the sense of `Moves`. -/
def partsMask (l : List Part) : Nat := l.foldl (fun m p => m ||| 2 ^ p.ctorIdx) 0

/-- Of every command at once: it moves what its list of touched parts says, by the law of its meaning. -/
theorem exec_moves (c : Instr) (s : State) : MovesR (partsMask c.touches) s (exec c s) :=
  match c with
  | .phrefEdge t => execPhrefEdge_moves t s
  | .phrefMissedCycle t => execPhrefMissedCycle_moves t s
  | .timeRequestRx p from_ t1 t2 t3 => execTimeRequestRx_moves p from_ t1 t2 t3 s
  | .timeResponseRx p from_ t1 t2 t3 t4 => execTimeResponseRx_moves p from_ t1 t2 t3 t4 s
  | .dayStartHiWrite v => execDayStartHiWrite_moves v s
  | .dayHourOfsWrite v => execDayHourOfsWrite_moves v s
  | .dayHoldLimitWrite v => execDayHoldLimitWrite_moves v s
  | .dayCtrlWrite v => execDayCtrlWrite_moves v s
  | .dayResync => execDayResync_moves s
  | .dayVoteMismatch c1 c2 c3 => execDayVoteMismatch_moves c1 c2 c3 s
  | .dayNowLoRead who => execDayNowLoRead_moves who s
  | .pairLoRead off who => execPairLoRead_moves off who s
  | .rcRead off => execRcRead_moves off s
  | .bootStageDone code flash badCores badSlices => execBootStageDone_moves code flash badCores badSlices s
  | .bankBringupStepDone n code wires badRows badEngines badSfu => execBankBringupStepDone_moves n code wires badRows badEngines badSfu s
  | .bankDiscoveryResponse n r => execBankDiscoveryResponse_moves n r s
  | .bridgeFrameRx n toBank frame => execBridgeFrameRx_moves n toBank frame s
  | .bridgeClockLoss n => execBridgeClockLoss_moves n s
  | .bridgeRetrainDone n ok wires => execBridgeRetrainDone_moves n ok wires s
  | .bankTimeMsgRx n crcOk day minute strobeOk posOk => execBankTimeMsgRx_moves n crcOk day minute strobeOk posOk s
  | .bankDieLost n memory pll => execBankDieLost_moves n memory pll s
  | .bankResetDone n ok wires fuse badEngines badSfu => execBankResetDone_moves n ok wires fuse badEngines badSfu s
  | .bankResetCmd n => execBankResetCmd_moves n s
  | .bankRetryCmd n => execBankRetryCmd_moves n s
  | .doorbellPoll t => execDoorbellPoll_moves t s
  | .doorbellReadDone b data => execDoorbellReadDone_moves b data s
  | .descriptorFetchDone c data => execDescriptorFetchDone_moves c data s
  | .nop c => execNop_moves c s
  | .copy c data => execCopy_moves c data s
  | .fill c => execFill_moves c s
  | .signal c => execSignal_moves c s
  | .wait c => execWait_moves c s
  | .waitPoll c => execWaitPoll_moves c s
  | .waitTimeout c => execWaitTimeout_moves c s
  | .layer c => execLayer_moves c s
  | .layerSkip c => execLayerSkip_moves c s
  | .groupedOp c => execGroupedOp_moves c s
  | .sfuPassElementwise c => execSfuPassElementwise_moves c s
  | .sfuPassSoftmax c => execSfuPassSoftmax_moves c s
  | .sfuPassLayerNorm c => execSfuPassLayerNorm_moves c s
  | .sfuPassRmsNorm c => execSfuPassRmsNorm_moves c s
  | .biasWrite c => execBiasWrite_moves c s
  | .routeVersion c => execRouteVersion_moves c s
  | .collectiveAllReduce c => execCollectiveAllReduce_moves c s
  | .collectiveReduceScatter c => execCollectiveReduceScatter_moves c s
  | .collectiveAllGather c => execCollectiveAllGather_moves c s
  | .collectiveBroadcast c => execCollectiveBroadcast_moves c s
  | .collectiveReduce c => execCollectiveReduce_moves c s
  | .groupForm c => execGroupForm_moves c s
  | .groupDissolve c => execGroupDissolve_moves c s
  | .dawnAllReduce c data => execDawnAllReduce_moves c data s
  | .dawnBroadcast c data => execDawnBroadcast_moves c data s
  | .dawnBarrier c => execDawnBarrier_moves c s
  | .handoffSend c => execHandoffSend_moves c s
  | .handoffRecv c => execHandoffRecv_moves c s
  | .ingestBind c => execIngestBind_moves c s
  | .ingestUnbind c => execIngestUnbind_moves c s
  | .keepMap c => execKeepMap_moves c s
  | .leaseTake c => execLeaseTake_moves c s
  | .leaseRenew c => execLeaseRenew_moves c s
  | .leaseRelease c => execLeaseRelease_moves c s
  | .atpUpdate c => execAtpUpdate_moves c s
  | .descriptorComplete c idx => execDescriptorComplete_moves c idx s
  | .completionHeadRead data => execCompletionHeadRead_moves data s
  | .irqDelayExpiry c t => execIrqDelayExpiry_moves c t s
  | .hostReadTimeout r => execHostReadTimeout_moves r s
  | .pcieLinkLoss ns => execPcieLinkLoss_moves ns s
  | .perstDeassert width speed => execPerstDeassert_moves width speed s
  | .functionLevelReset hot => execFunctionLevelReset_moves hot s
  | .ringEnable c v => execRingEnable_moves c v s
  | .ringDisable c v => execRingDisable_moves c v s
  | .evqEnable v => execEvqEnable_moves v s
  | .ctxOpen c => execCtxOpen_moves c s
  | .ctxClose c => execCtxClose_moves c s
  | .ctxTeardown c => execCtxTeardown_moves c s
  | .teardownDone c => execTeardownDone_moves c s
  | .groupEnd p ns => execGroupEnd_moves p ns s
  | .ballastEnd p => execBallastEnd_moves p s
  | .spillDelayExpiry t => execSpillDelayExpiry_moves t s
  | .controlCoreHeartbeatMiss k => execControlCoreHeartbeatMiss_moves k s
  | .controlCoreError k => execControlCoreError_moves k s
  | .pageWalkDone unit c va => execPageWalkDone_moves unit c va s
  | .atpRootWrite c hi v who => execAtpRootWrite_moves c hi v who s
  | .memoryCe pa loc row => execMemoryCe_moves pa loc row s
  | .memoryUe pa loc row reader => execMemoryUe_moves pa loc row reader s
  | .ingestLaneUp lane => execIngestLaneUp_moves lane s
  | .alignmentMarkerRx lane => execAlignmentMarkerRx_moves lane s
  | .ingestLaneLost lane got => execIngestLaneLost_moves lane got s
  | .ingestCandidate pos hdr => execIngestCandidate_moves pos hdr s
  | .ingestVerifyHeader pos hdr age => execIngestVerifyHeader_moves pos hdr age s
  | .ingestLockHeader hdr age => execIngestLockHeader_moves hdr age s
  | .ingestFrameEnd payload crc => execIngestFrameEnd_moves payload crc s
  | .ingestPublish stream => execIngestPublish_moves stream s
  | .tableSplit k => execTableSplit_moves k s
  | .combineReadReturn slot epoch => execCombineReadReturn_moves slot epoch s
  | .eveningLoop k => execEveningLoop_moves k s
  | .rteEveParamWrite k limit v => execRteEveParamWrite_moves k limit v s
  | .routeSelfTest ok => execRouteSelfTest_moves ok s
  | .biasTableUe k corrected => execBiasTableUe_moves k corrected s
  | .engineCommandRx p => execEngineCommandRx_moves p s
  | .engineError p corrected => execEngineError_moves p corrected s
  | .engineResultBad p sfu => execEngineResultBad_moves p sfu s
  | .engineWatchdog p t => execEngineWatchdog_moves p t s
  | .sfuError b corrected tile => execSfuError_moves b corrected tile s
  | .sfuSelfTest b ok => execSfuSelfTest_moves b ok s
  | .handoffOfferRx from_ channel seq n d wire mask => execHandoffOfferRx_moves from_ channel seq n d wire mask s
  | .handoffGrantRx from_ channel seq handle epoch credits refused => execHandoffGrantRx_moves from_ channel seq handle epoch credits refused s
  | .handoffBusyRx from_ channel seq => execHandoffBusyRx_moves from_ channel seq s
  | .handoffOfferRetry c idx t => execHandoffOfferRetry_moves c idx t s
  | .handoffMaskRx from_ handle epoch data crc => execHandoffMaskRx_moves from_ handle epoch data crc s
  | .handoffChunkRx from_ handle epoch chunk data crc => execHandoffChunkRx_moves from_ handle epoch chunk data crc s
  | .handoffChunkWriteDone handle chunk => execHandoffChunkWriteDone_moves handle chunk s
  | .handoffAckRx from_ handle chunk credits => execHandoffAckRx_moves from_ handle chunk credits s
  | .handoffNackRx from_ handle chunk => execHandoffNackRx_moves from_ handle chunk s
  | .handoffStaleRx from_ handle epoch => execHandoffStaleRx_moves from_ handle epoch s
  | .recvLeaseExpiry handle => execRecvLeaseExpiry_moves handle s
  | .reorderSlotUe slot row corrected => execReorderSlotUe_moves slot row corrected s
  | .slotWatchdog slot t => execSlotWatchdog_moves slot t s
  | .linkRecordsRx p r => execLinkRecordsRx_moves p r s
  | .linkTrainDone p good margins => execLinkTrainDone_moves p good margins s
  | .linkConfirmDone p credits window => execLinkConfirmDone_moves p credits window s
  | .flitRx p flit retrain => execFlitRx_moves p flit retrain s
  | .replayStall p t => execReplayStall_moves p t s
  | .linkRetrainDone p ok good margins => execLinkRetrainDone_moves p ok good margins s
  | .lnkRetrainCmd p => execLnkRetrainCmd_moves p s
  | .lnkEnableWrite p v => execLnkEnableWrite_moves p v s
  | .routeStaleRx m => execRouteStaleRx_moves m s
  | .remoteRequestRx p from_ tag apt write ra len data => execRemoteRequestRx_moves p from_ tag apt write ra len data s
  | .remoteResponseRx tag outcome data => execRemoteResponseRx_moves tag outcome data s
  | .remoteRequestTimeout tag t => execRemoteRequestTimeout_moves tag t s
  | .interruptRx p from_ tag apt value => execInterruptRx_moves p from_ tag apt value s
  | .debugRequestRx p from_ write off => execDebugRequestRx_moves p from_ write off s
  | .peerListRx b peers => execPeerListRx_moves b peers s
  | .discoveryProbeRx p origin hops => execDiscoveryProbeRx_moves p origin hops s
  | .discoveryRecordRx p r t => execDiscoveryRecordRx_moves p r t s
  | .discoveryElectionTimer t => execDiscoveryElectionTimer_moves t s
  | .discoverySettle t => execDiscoverySettle_moves t s
  | .apertureBind a v => execApertureBind_moves a v s
  | .rwinEnable c w v => execRwinEnable_moves c w v s
  | .joinRx from_ g j => execJoinRx_moves from_ g j s
  | .formedRx g epoch reason => execFormedRx_moves g epoch reason s
  | .formLimitExpiry g => execFormLimitExpiry_moves g s
  | .announceRx from_ g gepoch cseq a valid => execAnnounceRx_moves from_ g gepoch cseq a valid s
  | .goRx g gepoch cseq ring => execGoRx_moves g gepoch cseq ring s
  | .refuseRx g gepoch cseq reason => execRefuseRx_moves g gepoch cseq reason s
  | .collectiveLaunch g cseq => execCollectiveLaunch_moves g cseq s
  | .collectiveChunkRx from_ h data crc => execCollectiveChunkRx_moves from_ h data crc s
  | .collectiveAckRx from_ h nack => execCollectiveAckRx_moves from_ h nack s
  | .residueMismatch n => execResidueMismatch_moves n s
  | .collectiveLeaseExpiry g cseq => execCollectiveLeaseExpiry_moves g cseq s
  | .suspectRx from_ g gepoch lost t => execSuspectRx_moves from_ g gepoch lost t s
  | .suspectGatherExpiry g t => execSuspectGatherExpiry_moves g t s
  | .probeRx from_ g gepoch answer => execProbeRx_moves from_ g gepoch answer s
  | .probeTimeout g t => execProbeTimeout_moves g t s
  | .reformRx from_ g epoch live last => execReformRx_moves from_ g epoch live last s
  | .reformAckRx from_ g epoch => execReformAckRx_moves from_ g epoch s
  | .resumeRx g epoch => execResumeRx_moves g epoch s
  | .dawnSlotRx p slot t => execDawnSlotRx_moves p slot t s
  | .dawnAckRx p slot => execDawnAckRx_moves p slot s
  | .dawnResendTimer p t => execDawnResendTimer_moves p t s
  | .sstatFrameRx frame t => execSstatFrameRx_moves frame t s
  | .sstatLoss t => execSstatLoss_moves t s
  | .railSag m nominal mv plausible => execRailSag_moves m nominal mv plausible s
  | .hourAccounting m => execHourAccounting_moves m s
  | .loadStepArm idx v who => execLoadStepArm_moves idx v who s
  | .loadStep idx => execLoadStep_moves idx s
  | .thermalTrip d b c => execThermalTrip_moves d b c s
  | .nightExitDone banks => execNightExitDone_moves banks s
  | .leaseExpiry res => execLeaseExpiry_moves res s
  | .reconcile v => execReconcile_moves v s
  | .recordStoreUe idx => execRecordStoreUe_moves idx s
  | .hubStateUe where_ => execHubStateUe_moves where_ s
  | .packageFault source code unit => execPackageFault_moves source code unit s
  | .agingMonitorSample kind unit value => execAgingMonitorSample_moves kind unit value s
  | .repairStepDone ok => execRepairStepDone_moves ok s
  | .repairStepTimeout t => execRepairStepTimeout_moves t s
  | .dmapEntryRead who => execDmapEntryRead_moves who s
  | .powerOn straps => execPowerOn_moves straps s
  | .pkgRstNAssert ns => execPkgRstNAssert_moves ns s
  | .pkgRstNRelease straps => execPkgRstNRelease_moves straps s
  | .supplyBrownout rail => execSupplyBrownout_moves rail s
  | .warmReset v => execWarmReset_moves v s
  | .warmResetDone banks badCores badSlices => execWarmResetDone_moves banks badCores badSlices s
  | .resetTimeout t => execResetTimeout_moves t s
  | .mgtGetId code r => execMgtGetId_moves code r s
  | .mgtGetState r => execMgtGetState_moves r s
  | .mgtReadReg r => execMgtReadReg_moves r s
  | .mgtWriteReg r => execMgtWriteReg_moves r s
  | .mgtTelemetry r => execMgtTelemetry_moves r s
  | .mgtGetView r => execMgtGetView_moves r s
  | .mgtSetMgmtView r => execMgtSetMgmtView_moves r s
  | .mgtReconcile r => execMgtReconcile_moves r s
  | .mgtSeqAbort r => execMgtSeqAbort_moves r s
  | .mgtPowerReq r => execMgtPowerReq_moves r s
  | .mgtMidnightExit r => execMgtMidnightExit_moves r s
  | .mgtWarmReset r => execMgtWarmReset_moves r s
  | .mgtColdStart r t => execMgtColdStart_moves r t s
  | .coldStartDelay t => execColdStartDelay_moves t s
  | .mgtReadRecord r => execMgtReadRecord_moves r s
  | .mgtReadDmap r => execMgtReadDmap_moves r s
  | .mgtUnpin r => execMgtUnpin_moves r s
  | .mgtAlertStatus r => execMgtAlertStatus_moves r s
  | .mgtAlertAck r => execMgtAlertAck_moves r s
  | .mgtReadResponse t => execMgtReadResponse_moves t s
  | .mgtBusTimeout ue => execMgtBusTimeout_moves ue s
  | .jtagExtest bits => execJtagExtest_moves bits s
  | .jtagSamplePreload pins bits => execJtagSamplePreload_moves pins bits s
  | .jtagBypass code => execJtagBypass_moves code s
  | .hubErrClear who => execHubErrClear_moves who s
  | .bar0IllegalAccess write off len data => execBar0IllegalAccess_moves write off len data s
  | .registerWrite off v who => execRegisterWrite_moves off v who s
  | .temperatureSample d a b => execTemperatureSample_moves d a b s
  | .railSagEnd m nominal mv plausible => execRailSagEnd_moves m nominal mv plausible s
  | .pcieLinkReturn width speed => execPcieLinkReturn_moves width speed s
  | .hbmTemperatureReport u c => execHbmTemperatureReport_moves u c s
  | .dayBoundary => execDayBoundary_moves s
  | .minuteStrobe => execMinuteStrobe_moves s
  | .holdoverExpiry => execHoldoverExpiry_moves s
  | .acquireTimeout => execAcquireTimeout_moves s
  | .timeExchange => execTimeExchange_moves s
  | .leaderTimeout => execLeaderTimeout_moves s
  | .adoptRequestTimer => execAdoptRequestTimer_moves s
  | .adoptionLimit => execAdoptionLimit_moves s
  | .adoptionFallback => execAdoptionFallback_moves s
  | .refclkLoss => execRefclkLoss_moves s
  | .hubWakePoll => execHubWakePoll_moves s
  | .perstAssert => execPerstAssert_moves s
  | .hostResetDone => execHostResetDone_moves s
  | .d3hotEntry => execD3hotEntry_moves s
  | .d0Return => execD0Return_moves s
  | .ingestBufferFull got => execIngestBufferFull_moves got s
  | .ingestResyncCmd => execIngestResyncCmd_moves s
  | .routeStage => execRouteStage_moves s
  | .combineStage => execCombineStage_moves s
  | .combineSlotRelease => execCombineSlotRelease_moves s
  | .routeParityError => execRouteParityError_moves s
  | .engineMapHoldExpiry => execEngineMapHoldExpiry_moves s
  | .staleHoldExpiry => execStaleHoldExpiry_moves s
  | .routeArm => execRouteArm_moves s
  | .routeDefault => execRouteDefault_moves s
  | .routeChangeover => execRouteChangeover_moves s
  | .previousRouteDiscard => execPreviousRouteDiscard_moves s
  | .stagingReserved => execStagingReserved_moves s
  | .rideThroughEnd => execRideThroughEnd_moves s
  | .powerReqNoon => execPowerReqNoon_moves s
  | .powerReqDusk => execPowerReqDusk_moves s
  | .powerReqNight => execPowerReqNight_moves s
  | .powerReqMidnight => execPowerReqMidnight_moves s
  | .duskEntry => execDuskEntry_moves s
  | .nightAuto => execNightAuto_moves s
  | .nightEntry => execNightEntry_moves s
  | .bracketCommit => execBracketCommit_moves s
  | .seqAbort => execSeqAbort_moves s
  | .unpin => execUnpin_moves s
  | .shadowStoreUe => execShadowStoreUe_moves s
  | .repairCancel => execRepairCancel_moves s
  | .dmapFlashWrite => execDmapFlashWrite_moves s
  | .mgtAlertResponse => execMgtAlertResponse_moves s
  | .jtagIdcode => execJtagIdcode_moves s
  | .jtagClamp => execJtagClamp_moves s
  | .jtagHighz => execJtagHighz_moves s
  | .duskExitDone => execDuskExitDone_moves s
  | .jtagTestLogicReset => execJtagTestLogicReset_moves s

theorem exec_keeps_inv {c : Instr} (h : exec c s = .next t) (hi : Inv s) : Inv t := (exec_moves c s t h).inv hi

/-- Neither queue nor clock nor work held for a wake is what the invariant speaks of. -/
theorem Inv.of_spoken (hi : Inv s) (p : List Instr) (k : Nat) (w : PwrUnit) : Inv { s with pending := p, clk := k, pwr := w } :=
  ⟨hi.mem, hi.regs, hi.evq, hi.lost, hi.retained, hi.addr, hi.tables⟩

/-- An idle step lets a nanosecond pass or runs held work (R434). -/
theorem idle_keeps_inv (h : idle s = .next t) (hi : Inv s) : Inv t := by
  unfold idle at h
  split at h
  · next c rest _ =>
    split at h
    · exact exec_keeps_inv h (hi.of_spoken s.pending s.clk _)
    · cases h; exact hi.of_spoken s.pending _ s.pwr
  · cases h; exact hi.of_spoken s.pending _ s.pwr

/-- Settles O4: a step runs one command, or is idle. -/
theorem stepKeepsInvariant : Obligations.StepKeepsInvariant := by
  intro s t hi h
  unfold step at h
  split at h
  · next c rest _ => exact exec_keeps_inv h (hi.of_spoken rest s.clk s.pwr)
  · exact idle_keeps_inv h hi

theorem inv_reset : Inv State.reset where
  mem := rfl
  regs := rfl
  evq := by decide
  lost := by decide
  retained := by decide
  addr := by decide
  tables := ⟨rfl, rfl, rfl, rfl, rfl⟩

/-- Settles O3: every store is empty after reset, so it reads as its default. -/
theorem resetInvariant : Obligations.ResetInvariant := ⟨inv_reset, rfl, fun _ => rfl, fun _ => rfl⟩

end Sys2Proof.Machine
end

section
/-! PROOFS. WAIT, WAIT_POLL and WAIT_TIMEOUT, and the statement on them (O22; R102, R103, R118). -/

namespace Sys2Proof.Machine

variable {s s1 t : State} {c : Nat} {d : Desc} {v : Nat}

/-- A charge leaves the descriptor that the window shows with its ENERGY grown (R422). -/
theorem State.chargeDesc_stands_of_desc (h : s.desc c d.idx = some d) (uj : Nat) :
    (s.chargeDesc c d.idx uj).Stands c { d with energy := d.energy + uj } := by
  have hrings : (s.settleDesc c d.idx uj).rings = s.rings := (s.settleDesc_moves ..).off .rings rfl
  have hd : (s.settleDesc c d.idx uj).desc c d.idx = some d := by
    unfold State.desc State.ring at h ⊢
    rwa [hrings]
  unfold State.chargeDesc
  dsimp only
  rw [hd]
  exact State.setDesc_stands (List.mem_of_find?_eq_some hd) rfl

/-- From `s` to `t` the WAIT `d` has read `v`: it has ended with it, or has kept it and goes on; memory and link are as before. -/
structure State.WaitHasRead (s t : State) (c : Nat) (d : Desc) (v : Nat) : Prop where
  mem : t.mem = s.mem
  lnk : t.lnk = s.lnk
  ends : dword d.words 3 ≤ v → t.outcome c d.idx = some (d.okCode, v, d.epoch)
  goesOn : v < dword d.words 3 → ∃ x, t.desc c d.idx = some x ∧ x.phase = .running ∧ x.cursor = v

theorem State.waitRead_hasRead (h : s.desc c d.idx = some d) (hp : d.phase = .running) (hr : s.vreadNat 0 c (dword d.words 2) 8 = .ok v) :
    s.WaitHasRead (s.waitRead c d) c d v := by
  unfold State.waitRead
  rw [hr]
  dsimp only
  generalize s.moveEnergy (s.endCounts c (dword d.words 2) 8 false) = uj
  have hst := State.chargeDesc_stands_of_desc h uj
  have hdesc : (s.chargeDesc c d.idx uj).desc c d.idx = some { d with energy := d.energy + uj } := hst.desc
  rw [hdesc]
  dsimp only
  split
  · next hle =>
    have hm := Moves.then (State.finishOk_moves _ c { d with energy := d.energy + uj } v) (m := 0x1001020) rfl (s.chargeDesc_moves c d.idx uj)
    exact ⟨hm.off .memory rfl, hm.off .links rfl, fun _ => State.finish_outcome hst _ _, fun hlt => absurd hle (Nat.not_le.2 hlt)⟩
  · next hnot =>
    have hm := Moves.then (State.setDesc_moves _ c { d with energy := d.energy + uj, cursor := v }) (m := 0x1001020) rfl (s.chargeDesc_moves c d.idx uj)
    exact ⟨hm.off .memory rfl, hm.off .links rfl, fun hle => absurd hle hnot,
      fun _ => ⟨_, (State.setDesc_stands (d := { d with energy := d.energy + uj, cursor := v }) hst.mem rfl).desc, hp, rfl⟩⟩

/-- What a WAIT has read stays so when the command forgets what its access was about (R361). -/
theorem State.WaitHasRead.setLnk (h : s.WaitHasRead t c d v) (l : LinkUnit) : (t.setLnk l).mem = s.mem ∧
    (dword d.words 3 ≤ v → (t.setLnk l).outcome c d.idx = some (d.okCode, v, d.epoch)) ∧
    (v < dword d.words 3 → ∃ x, (t.setLnk l).desc c d.idx = some x ∧ x.phase = .running ∧ x.cursor = v) :=
  ⟨h.mem, h.ends, h.goesOn⟩

theorem wait_reads (c : CtxId) (d0 d : Desc) (v : Nat) (s s1 : State) (hd : s.nextDesc c.val = some d0)
    (hgo : (s.asked c.val d0.idx).startsWait c.val = .go d s1) (hway : s1.noWayTo c.val (dword d.words 2) = none)
    (hr : s1.vreadNat 0 c.val (dword d.words 2) 8 = .ok v) (hn : s1.lnk.need = none) :
    ∃ u, exec (.wait c) s = .next u ∧ u.mem = s.mem ∧ (dword d.words 3 ≤ v → u.outcome c.val d.idx = some (d.okCode, v, d.epoch)) ∧
      (v < dword d.words 3 → ∃ x, u.desc c.val d.idx = some x ∧ x.phase = .running ∧ x.cursor = v) := by
  have hb := State.begin_began hgo
  obtain ⟨_, _, _, hrun, -⟩ := State.begin_go hgo
  have hread := State.waitRead_hasRead hb.stands.desc (congrArg Desc.phase hrun) hr
  have hmem : s1.mem = s.mem := hb.moves.off .memory rfl
  obtain ⟨l, hl⟩ : ∃ l, exec (.wait c) s = .next ((s1.waitRead c.val d).setLnk l) := by
    change ∃ l, execWait c s = _
    unfold execWait State.starting
    rw [hd]
    refine State.remotely_next ?_ (hread.lnk ▸ hn)
    unfold State.startsWait at hgo
    rw [hgo]
    dsimp only
    rw [hway]
  obtain ⟨hm, hend, hon⟩ := hread.setLnk l
  exact ⟨_, hl, hm.trans hmem, hend, hon⟩

theorem State.waiting_running (h : s.waiting c = some d) : d.phase = .running := by
  have hk := List.find?_some h
  simp only [Bool.and_eq_true, decide_eq_true_eq] at hk
  exact hk.2

theorem waitPoll_reads (c : CtxId) (d : Desc) (v : Nat) (s : State) (hw : s.waiting c.val = some d)
    (hr : (s.asked c.val d.idx).vreadNat 0 c.val (dword d.words 2) 8 = .ok v) (hn : s.lnk.need = none) (hd : s.desc c.val d.idx = some d) :
    ∃ u, exec (.waitPoll c) s = .next u ∧ u.mem = s.mem ∧ (dword d.words 3 ≤ v → u.outcome c.val d.idx = some (d.okCode, v, d.epoch)) ∧
      (v < dword d.words 3 → ∃ x, u.desc c.val d.idx = some x ∧ x.phase = .running ∧ x.cursor = v) := by
  have hread := State.waitRead_hasRead (s := s.asked c.val d.idx) hd (State.waiting_running hw) hr
  obtain ⟨l, hl⟩ : ∃ l, exec (.waitPoll c) s = .next (((s.asked c.val d.idx).waitRead c.val d).setLnk l) := by
    change ∃ l, execWaitPoll c s = _
    unfold execWaitPoll
    rw [hw]
    exact State.remotely_next rfl ((congrArg LinkUnit.need hread.lnk).trans hn)
  exact ⟨_, hl, hread.setLnk l⟩

theorem exec_waitTimeout {c : CtxId} (hw : s.waiting c.val = some d) : exec (.waitTimeout c) s =
    if dfld d.words 4 0 16 ≠ 0 ∧ d.startMin + dfld d.words 4 0 16 ≤ s.absMin then .next (s.finish c.val d 0x27 d.cursor) else .next s := by
  change execWaitTimeout c s = _
  rw [execWaitTimeout, hw]

theorem waitTimeout_ends (c : CtxId) (d : Desc) (s : State) (hw : s.waiting c.val = some d) (hd : s.desc c.val d.idx = some d)
    (h0 : dfld d.words 4 0 16 ≠ 0) (hlim : d.startMin + dfld d.words 4 0 16 ≤ s.absMin) :
    ∃ u, exec (.waitTimeout c) s = .next u ∧ u.outcome c.val d.idx = some (0x27, d.cursor, d.epoch) ∧ u.mem = s.mem :=
  ⟨_, (exec_waitTimeout hw).trans (if_pos ⟨h0, hlim⟩), State.endDesc_outcome hd _ _ _, (State.finish_moves ..).off .memory rfl⟩

theorem waitTimeout_early (c : CtxId) (d : Desc) (s : State) (hw : s.waiting c.val = some d)
    (h : dfld d.words 4 0 16 = 0 ∨ s.absMin < d.startMin + dfld d.words 4 0 16) : ∃ u, exec (.waitTimeout c) s = .next u ∧ u = s :=
  ⟨s, (exec_waitTimeout hw).trans (if_neg fun ⟨h0, hle⟩ => h.elim h0 (Nat.not_lt.2 hle)), rfl⟩

theorem noWait_nothing (c : CtxId) (i : Instr) (s : State) (hw : s.waiting c.val = none) (hi : i = .waitPoll c ∨ i = .waitTimeout c) :
    ∃ u, exec i s = .next u ∧ u = s := by
  refine ⟨s, ?_, rfl⟩
  rcases hi with rfl | rfl
  · change execWaitPoll c s = _
    rw [execWaitPoll, hw]
  · change execWaitTimeout c s = _
    rw [execWaitTimeout, hw]

/-- Settles O22: start and poll make one and the same read, and the limit ends the WAIT with the value that the last of them kept. -/
theorem waitDescriptors : Obligations.WaitDescriptors :=
  ⟨wait_reads, waitPoll_reads, waitTimeout_ends, waitTimeout_early, noWait_nothing⟩

end Sys2Proof.Machine
end

section
/-! PROOFS. What reports, fences and the end of a context's work keep of the Host Interface: all but the events that wait (R110, R116). -/

namespace Sys2Proof.Machine

variable {o s t : State}

/-- The Host Interface but for its events: those that wait, those lost, the number of the next and the place it is written to. -/
def HostIf.bus (h : HostIf) : HostIf := { h with evqTail := 0, evq := [], lost := 0, evSeq := 0 }

/-- The Host Interface is the same before and after but for its events. -/
structure BusKept (s t : State) : Prop where
  bus : t.host.bus = s.host.bus

theorem BusKept.refl (s : State) : BusKept s s := ⟨rfl⟩

theorem BusKept.then (h' : BusKept s t) (h : BusKept o s) : BusKept o t := ⟨h'.bus.trans h.bus⟩

theorem BusKept.ite {c : Prop} [Decidable c] {a b : State} (ha : BusKept o a) (hb : BusKept o b) : BusKept o (if c then a else b) := by
  split <;> assumption

theorem BusKept.foldl {α : Type} {f : State → α → State} (l : List α) (h : BusKept o s) (hf : ∀ x a, BusKept x (f x a)) : BusKept o (l.foldl f s) := by
  induction l generalizing s with
  | nil => exact h
  | cons a l ih => exact ih ((hf s a).then h)

theorem BusKept.linkUp (h : BusKept s t) : t.host.linkUp = s.host.linkUp := (congrArg HostIf.linkUp h.bus : t.host.bus.linkUp = s.host.bus.linkUp)

theorem BusKept.width (h : BusKept s t) : t.host.width = s.host.width := (congrArg HostIf.width h.bus : t.host.bus.width = s.host.bus.width)

theorem BusKept.speed (h : BusKept s t) : t.host.speed = s.host.speed := (congrArg HostIf.speed h.bus : t.host.bus.speed = s.host.bus.speed)

theorem BusKept.d3hot (h : BusKept s t) : t.host.d3hot = s.host.d3hot := (congrArg HostIf.d3hot h.bus : t.host.bus.d3hot = s.host.bus.d3hot)

theorem BusKept.perst (h : BusKept s t) : t.host.perst = s.host.perst := (congrArg HostIf.perst h.bus : t.host.bus.perst = s.host.bus.perst)

theorem BusKept.evqHead (h : BusKept s t) : t.host.evqHead = s.host.evqHead := (congrArg HostIf.evqHead h.bus : t.host.bus.evqHead = s.host.bus.evqHead)

theorem BusKept.written (h : BusKept s t) : t.host.written = s.host.written := (congrArg HostIf.written h.bus : t.host.bus.written = s.host.bus.written)

/-- What leaves the Host Interface keeps it. -/
theorem Moves.bus {m : Nat} (h : Moves m s t) (hm : m.testBit 11 = false) : BusKept s t := ⟨congrArg HostIf.bus (h.off .host hm : t.host = s.host)⟩

/-! ### Events, flags and records -/

theorem State.writeEvent_bus (s : State) : BusKept s s.writeEvent := by
  unfold State.writeEvent
  split
  · exact .refl s
  · exact .ite (((State.signalVector_moves ..).bus rfl).then <| ((State.toHost_moves ..).bus rfl).then ⟨rfl⟩) (.refl s)

theorem State.writeEvents_bus (n : Nat) (s : State) : BusKept s (s.writeEvents n) := by
  induction n generalizing s with
  | zero => exact .refl s
  | succ n ih => exact (ih _).then s.writeEvent_bus

theorem State.event_bus (s : State) (source code ctx detail : Nat) : BusKept s (s.event source code ctx detail) := by
  unfold State.event
  exact .ite ((State.writeEvents_bus ..).then ⟨rfl⟩) ⟨rfl⟩

theorem State.flag_bus (s : State) (off bit source ctx detail : Nat) : BusKept s (s.flag off bit source ctx detail) := by
  unfold State.flag
  exact .ite (.refl s) (((State.alert_moves ..).bus rfl).then <| (State.event_bus ..).then <| (State.setFld_moves ..).bus rfl)

theorem State.flagOpen_bus (s : State) (off bit source ctx : Nat) : BusKept s (s.flagOpen off bit source ctx) := by
  unfold State.flagOpen
  exact .ite (.refl s) ((State.flag_bus ..).then ((State.takeFree_moves s).snd.bus rfl))

theorem State.flagQuiet_bus (s : State) (off bit source ctx : Nat) : BusKept s (s.flagQuiet off bit source ctx) := by
  unfold State.flagQuiet
  exact .ite (.refl s) ((State.event_bus ..).then <| ((State.setFld_moves ..).bus rfl).then ((State.takeFree_moves s).snd.bus rfl))

theorem State.putRecord_bus (s : State) (k source code ctx unit detail : Nat) : BusKept s (s.putRecord k source code ctx unit detail) := by
  unfold State.putRecord
  extract_lets r keep
  split
  · exact ((State.bump_moves ..).bus rfl).then <| (State.flagOpen_bus ..).then ⟨rfl⟩
  · exact .ite (((State.bump_moves ..).bus rfl).then ⟨rfl⟩) ⟨rfl⟩

theorem State.record_bus (s : State) (k source code ctx unit detail : Nat) : BusKept s (s.record k source code ctx unit detail) := by
  have h := s.putRecord_bus k source code ctx unit detail
  unfold State.record
  exact .ite (((State.bump_moves ..).bus rfl).then h) h

/-! ### Writes that leave for another package -/

theorem State.sendMsg_bus (s : State) (m : Msg) : BusKept s (s.sendMsg m) := by
  unfold State.sendMsg
  refine .ite ((State.setLnk_moves ..).bus rfl) (.ite ?_ ?_)
  · extract_lets m' e t
    split
    · exact ((State.holdMsg_moves ..).bus rfl).then <| .ite ((State.flag_bus ..).then ((State.lnkCount_moves ..).bus rfl)) (.refl s)
    · exact .ite (((State.send_moves ..).bus rfl).then ((State.openMsg_moves ..).bus rfl))
        (((State.enqueue_moves ..).bus rfl).then ((State.openMsg_moves ..).bus rfl))
  · exact .ite (((State.enqueue_moves ..).bus rfl).then ((State.openMsg_moves ..).bus rfl)) (.refl s)

theorem State.remoteWrite_bus (s : State) (c va : Nat) (bs : List Byte) : BusKept s (s.remoteWrite c va bs) := by
  unfold State.remoteWrite
  refine .foldl _ (.refl s) fun u a => ?_
  split
  · unfold State.issueReq
    split
    · exact (State.sendMsg_bus ..).then ((State.setTag_moves ..).bus rfl)
    · exact (State.setLnk_moves ..).bus rfl
  · exact .refl u

theorem State.writePieces_bus (die c : Nat) (ing : Bool) (ps : List (Nat × Nat)) (bs : List Byte) (s : State) :
    BusKept s (s.writePieces die c ing ps bs) := by
  induction ps generalizing s bs with
  | nil => exact .refl s
  | cons p ps ih => exact (ih _ _).then (.ite (State.remoteWrite_bus ..) ((State.dieWrite_moves ..).bus rfl))

theorem State.vwrite_bus (s : State) (cache c va : Nat) (bs : List Byte) (acc : Acc) (ing : Bool) : BusKept s (s.vwrite cache c va bs acc ing).1 := by
  unfold State.vwrite
  split
  · exact State.writePieces_bus ..
  · exact (State.writePieces_bus ..).then ((State.takeFree_moves s).snd.bus rfl)

theorem State.outWrite_bus (s : State) (cache c idx va : Nat) (bs : List Byte) : BusKept s (s.outWrite cache c idx va bs).1 := by
  unfold State.outWrite
  extract_lets ps mine l
  have hmix : BusKept s (if l.isEmpty then (bs, s) else s.mixBytes l ps bs).2 := by
    split
    · exact .refl s
    · exact (State.mixBytes_moves ..).snd.bus rfl
  generalize (if l.isEmpty then (bs, s) else s.mixBytes l ps bs) = p at hmix ⊢
  exact (State.vwrite_bus ..).then <| .ite hmix (((State.setWork_moves ..).bus rfl).then hmix)

/-! ### The end of a context's work (R138) -/

theorem State.writeSome_bus (cache c idx fo : Nat) (rows : List (Nat × List Narrow)) (s : State) : BusKept s (s.writeSome cache c idx fo rows) := by
  induction rows generalizing s with
  | nil => exact .refl s
  | cons r rows ih => exact (ih _).then <| (State.outWrite_bus ..).then ((State.takeFree_moves s).snd.bus rfl)

theorem State.partialOutput_bus (s : State) (j : Job) (g : Group) (p : Nat) : BusKept s (s.partialOutput j g p) := by
  unfold State.partialOutput
  extract_lets b
  split
  · split
    · exact .refl s
    · exact (State.writeSome_bus ..).then ⟨rfl⟩
  · split
    · exact .refl s
    · split
      · exact .refl s
      · exact State.writeSome_bus ..

theorem State.abandonGroup_bus (s : State) (p : Nat) (j : Job) (g : Group) : BusKept s (s.abandonGroup p j g) := by
  have hpart : BusKept s (if g.at_ = .running p then s.partialOutput j g p else s) := .ite (s.partialOutput_bus j g p) (.refl s)
  exact ((State.addEnergy_moves ..).bus rfl).then <| ((State.countOccupancy_moves ..).bus rfl).then <| ((State.settle_moves ..).bus rfl).then <|
    ((State.setOccupant_moves ..).bus rfl).then <| ((State.takeFree_moves _).snd.bus rfl).then hpart

theorem State.endJobs_bus (s : State) (gone : Nat × Nat → Bool) : BusKept s (s.endJobs gone) := by
  unfold State.endJobs
  extract_lets u v
  have hu : BusKept s u := .foldl _ (.refl s) fun x p => by
    split
    · refine .ite ?_ (.refl x)
      split
      · exact State.abandonGroup_bus ..
      · exact (State.setOccupant_moves ..).bus rfl
    · exact .refl x
  exact ((State.setWork_moves ..).bus rfl).then <| .ite (((State.leaveRoute_moves ..).bus rfl).then hu) hu

theorem State.ingFlag_bus (s : State) (bit ctx : Nat) : BusKept s (s.ingFlag bit ctx) := State.flagQuiet_bus ..

theorem State.abandonFrame_bus (s : State) : BusKept s s.abandonFrame := by
  unfold State.abandonFrame
  split
  · exact .refl s
  · exact (State.ingFlag_bus ..).then <| ((State.ingCount_moves ..).bus rfl).then ((State.setIng_moves ..).bus rfl)

theorem State.dropIngest_bus (s : State) (c : Nat) : BusKept s (s.dropIngest c) := by
  unfold State.dropIngest
  extract_lets mine u n v w
  have hu : BusKept s u := by
    unfold u
    split
    · exact .ite s.abandonFrame_bus (.refl s)
    · exact .refl s
  have hv : BusKept s v := .ite hu ((State.ingFlag_bus ..).then <| ((State.ingCount_moves ..).bus rfl).then hu)
  exact .foldl _ (((State.setIng_moves ..).bus rfl).then hv) fun x k => .ite ((State.setBound_moves ..).bus rfl) (.refl x)

theorem State.dropSend_bus (s : State) (c idx : Nat) : BusKept s (s.dropSend c idx) := by
  unfold State.dropSend State.unpark
  extract_lets _ u v
  have hu : BusKept s u := by
    unfold u
    split
    · exact (State.setCmb_moves ..).bus rfl
    · exact .refl s
  exact .foldl _ (((State.setLnk_moves ..).bus rfl).then <| ((State.setLnk_moves ..).bus rfl).then <| ((State.setCmb_moves ..).bus rfl).then hu)
    fun x m => x.sendMsg_bus m

theorem State.fence_bus (s : State) (res ctx : Nat) : BusKept s (s.fence res ctx) :=
  ((State.grantNext_moves ..).bus rfl).then <| (State.record_bus ..).then ⟨rfl⟩

theorem State.dropRecv_bus (s : State) (r : RecvWin) : BusKept s (s.dropRecv r) := by
  unfold State.dropRecv
  extract_lets _ u v
  have hv : BusKept s v := .foldl _ ((State.setCmb_moves ..).bus rfl) fun x a => (State.moveSlot_moves ..).bus rfl
  exact .ite ((State.fence_bus ..).then hv) hv

theorem State.dropCombine_bus (s : State) (c : Nat) : BusKept s (s.dropCombine c) := by
  unfold State.dropCombine
  extract_lets u v
  have hu : BusKept s u := by
    unfold u
    split
    · next r _ =>
      have hr : BusKept s ((r.slots.foldl (fun s x => s.moveSlot x.slot) s).setCmb
          { (r.slots.foldl (fun s x => s.moveSlot x.slot) s).cmb with run := none }) :=
        ((State.setCmb_moves ..).bus rfl).then <| .foldl _ (.refl s) fun x a => (State.moveSlot_moves ..).bus rfl
      exact .ite (.ite hr ((State.record_bus ..).then hr)) (.refl s)
    · exact .refl s
  exact .foldl _ (.foldl _ hu fun x w => x.dropSend_bus w.ctx w.idx) fun x r => x.dropRecv_bus r

/-- A group left without a word to its members. -/
theorem State.leaveGroup_bus (s : State) (g : Nat) : BusKept s (s.leaveGroup g false fun s _ _ => s) := by
  have hwork : Moves 0x800000 s (s.endGroupWork g fun s _ _ => s) := State.endGroupWork_moves rfl (.refl _ s) fun _ _ _ h => h
  exact ((State.setGroup_moves ..).bus rfl).then (hwork.bus rfl)

theorem State.dropCollect_bus (s : State) (c : Nat) : BusKept s (s.dropCollect c) := by
  refine .foldl _ (.refl s) fun x g => .ite ?_ (.refl x)
  have h := x.leaveGroup_bus g
  exact .ite ((State.record_bus ..).then <| ((State.setEpoch_moves ..).bus rfl).then h) h

theorem State.dropWork_bus (s : State) (c : Nat) : BusKept s (s.dropWork c) :=
  ((State.discardCached_moves ..).bus rfl).then <| ((State.unreserve_moves ..).bus rfl).then <| ((State.dropLink_moves ..).bus rfl).then <|
    (State.dropCollect_bus ..).then <| (State.dropCombine_bus ..).then <| (State.dropIngest_bus ..).then (State.endJobs_bus ..)

theorem State.fenceLeases_bus (s : State) (c : Nat) : BusKept s (s.fenceLeases c) := .foldl _ (.refl s) fun x r => .ite (x.fence_bus r c) (.refl x)

theorem State.discardShadow_bus (s : State) : BusKept s s.discardShadow := by
  unfold State.discardShadow
  split
  · exact .refl s
  · exact (State.fence_bus ..).then ⟨rfl⟩

theorem State.closeContexts_bus (s : State) : BusKept s s.closeContexts := by
  refine .foldl _ s.discardShadow_bus fun x c => ((State.setCtx_moves ..).bus rfl).then (.ite ?_ (.refl x))
  exact ((State.setCtx_moves ..).bus rfl).then <| (State.fenceLeases_bus ..).then <| ((State.withdrawTakes_moves ..).bus rfl).then (x.dropWork_bus c)

end Sys2Proof.Machine
end

section
/-! PROOFS. Loops whose every round does its own item's part, and what they leave of contexts and of the registers that follow rows of Table 17.4. -/

namespace Sys2Proof.Machine

variable {s t : State}

theorem foldl_stays {f : State → Nat → State} {P : State → Nat → Prop} (hP : ∀ x a k, k ≠ a → P x k → P (f x a) k) {k : Nat} (l : List Nat)
    (s : State) (hk : k ∉ l) (h : P s k) : P (l.foldl f s) k := by
  induction l generalizing s with
  | nil => exact h
  | cons a l ih =>
    obtain ⟨hne, hk⟩ := not_or.1 (List.mem_cons.not.1 hk)
    exact ih _ hk (hP s a k hne h)

/-- A loop over different items: what a round brings about for its item stays, where no round touches what another item needs or has. -/
theorem foldl_each {f : State → Nat → State} {Q P : State → Nat → Prop} (hnew : ∀ x a, Q x a → P (f x a) a)
    (hQ : ∀ x a k, k ≠ a → Q x k → Q (f x a) k) (hP : ∀ x a k, k ≠ a → P x k → P (f x a) k) (l : List Nat) (s : State) (hl : l.Nodup)
    (hs : ∀ k ∈ l, Q s k) : ∀ k ∈ l, P (l.foldl f s) k := by
  induction l generalizing s with
  | nil => exact fun k hk => absurd hk List.not_mem_nil
  | cons a l ih =>
    obtain ⟨ha, hl⟩ := List.nodup_cons.1 hl
    intro k hk
    rcases List.mem_cons.1 hk with rfl | hk
    · exact foldl_stays hP l _ ha (hnew s k (hs k List.mem_cons_self))
    · exact ih _ hl (fun i hi => hQ s a i (fun e => ha (e ▸ hi)) (hs i (List.mem_cons_of_mem _ hi))) k hk

theorem ctxRange_nodup : ctxRange.Nodup := List.nodup_range

/-! ### The contexts (R129, R506) -/

theorem State.ctx_setCtx_same (h : Inv s) (c : Nat) (x : Ctx) : (s.setCtx c x).ctx c = x := tabGet_tabSet_same _ s.ctxs c x h.tables.2.2.1

theorem State.ctx_setCtx_other (s : State) {c k : Nat} (x : Ctx) (h : k ≠ c) : (s.setCtx c x).ctx k = s.ctx k := tabGet_tabSet_other _ s.ctxs c k x h

theorem Moves.ctx {m : Nat} (h : Moves m s t) (hm : m.testBit 13 = false) (c : Nat) : t.ctx c = s.ctx c :=
  congrArg (tabGet (fun _ => Ctx.reset) · c) (h.off .contexts hm)

/-- A context that is at work gives up what it holds, without completions. -/
def State.tornDown (s : State) (c : Nat) : State :=
  if (s.ctx c).state = .open_ ∨ (s.ctx c).state = .teardown then
    let t := ((s.dropWork c).withdrawTakes c).fenceLeases c
    t.setCtx c { t.ctx c with cause := 3 }
  else s

theorem State.closeContexts_eq (s : State) :
    s.closeContexts = ctxRange.foldl (fun x c => (x.tornDown c).setCtx c { (x.tornDown c).ctx c with state := .free }) s.discardShadow := rfl

theorem State.tornDown_given (s : State) (c : Nat) : Moves 0x1EF5D3C s (((s.dropWork c).withdrawTakes c).fenceLeases c) :=
  .then (State.fenceLeases_moves ..) rfl <| .then (State.withdrawTakes_moves ..) rfl (s.dropWork_moves c)

theorem State.tornDown_inv (s : State) (c : Nat) (i : Inv s) : Inv (s.tornDown c) := by
  unfold State.tornDown
  split
  · exact (State.setCtx_moves ..).inv ((s.tornDown_given c).inv i)
  · exact i

theorem State.tornDown_other (s : State) (c k : Nat) (hk : k ≠ c) : (s.tornDown c).ctx k = s.ctx k := by
  unfold State.tornDown
  split
  · exact (State.ctx_setCtx_other _ _ hk).trans ((s.tornDown_given c).ctx rfl k)
  · rfl

theorem State.closeContexts_free (h : Inv s) : ∀ c ∈ ctxRange, (s.closeContexts.ctx c).state = .free := by
  rw [State.closeContexts_eq]
  refine foldl_each (Q := fun x _ => Inv x) (P := fun x k => (x.ctx k).state = .free) (fun x a i => ?_)
    (fun x a _ _ i => (State.setCtx_moves ..).inv (x.tornDown_inv a i)) (fun x a k hk e => ?_) ctxRange _ ctxRange_nodup
    fun _ _ => s.discardShadow_moves.inv h
  · rw [State.ctx_setCtx_same (x.tornDown_inv a i)]
  · rw [State.ctx_setCtx_other _ _ hk, x.tornDown_other a k hk, e]

/-! ### Rows of Table 17.4 that are lost (R508) -/

theorem tabGet_filter {α : Type} (d : Nat → α) (p : Nat → Bool) (t : Tab α) (k : Nat) :
    tabGet d (t.filter fun e => p e.1) k = if p k then tabGet d t k else d k := by
  induction t with
  | nil => simp [tabGet]
  | cons e t ih =>
    obtain ⟨i, v⟩ := e
    by_cases hi : p i = true
    · by_cases hk : k = i
      · subst hk; simp [hi, tabGet]
      · simp [hi, tabGet, hk, ih]
    · by_cases hk : k = i
      · subst hk; simp [hi, ih]
      · simp [hi, tabGet, hk, ih]

theorem State.reg_resetRow (s : State) (k off : Nat) : (s.resetRow k).reg off = if inLostRow k off then regDefault off else s.reg off := by
  have h := tabGet_filter regDefault (fun o => !inLostRow k o) s.regs off
  unfold State.resetRow State.reg
  rw [h]
  cases inLostRow k off <;> rfl

theorem State.reg_lostBit_other (s : State) (k : Nat) {off : Nat} (h0 : off ≠ 0x510) (h4 : off ≠ 0x514) : (s.lostBit k).reg off = s.reg off := by
  unfold State.lostBit
  split
  · exact reg_setFld_other _ _ _ _ h0
  · exact reg_setFld_other _ _ _ _ h4

theorem wput_one (w : Word) {b : Nat} (hb : b < 32) : wput w b 1 1 = w ||| BitVec.twoPow 32 b := by
  have hbits : bitsOf w.toNat b 1 = (w.getLsbD b).toNat := by
    rw [bitsOf, pow_one, BitVec.getLsbD, Nat.testBit_eq_decide_div_mod_eq]
    have := Nat.mod_two_eq_zero_or_one (w.toNat / 2 ^ b)
    rcases this with h | h <;> simp [h]
  have hpow : (BitVec.twoPow 32 b).toNat = 2 ^ b := BitVec.toNat_twoPow_of_lt hb
  unfold wput putBits
  rw [hbits]
  cases hset : w.getLsbD b with
  | true =>
    have hle : 2 ^ b ≤ w.toNat := Nat.ge_two_pow_of_testBit hset
    have hor : w ||| BitVec.twoPow 32 b = w := by
      ext j hj
      by_cases hjb : b = j
      · subst hjb; simp [hset, ← BitVec.getLsbD_eq_getElem]
      · have hbj : j ≠ b := Ne.symm hjb
        simp [hbj]
    rw [hor]
    refine BitVec.eq_of_toNat_eq ?_
    have := w.isLt
    simp only [Bool.toNat_true, one_mul, pow_one, BitVec.toNat_ofNat]
    omega
  | false =>
    have hand : w &&& BitVec.twoPow 32 b = 0 := by rw [BitVec.and_twoPow, hset]; rfl
    rw [← BitVec.add_eq_or_of_and_eq_zero _ _ hand]
    refine BitVec.eq_of_toNat_eq ?_
    rw [BitVec.toNat_add, hpow]
    simp

theorem bitAt_toNat (w : Word) (j : Nat) : bitAt w.toNat j = w.getLsbD j := Nat.testBit_eq_decide_div_mod_eq.symm

/-- A bit that stands stays when another is set. -/
theorem bitAt_wput_one_of_bitAt (w : Word) {b j : Nat} (hb : b < 32) (h : bitAt w.toNat j = true) : bitAt (wput w b 1 1).toNat j = true := by
  rw [bitAt_toNat] at h ⊢
  rw [wput_one w hb, BitVec.getLsbD_or, h, Bool.true_or]

theorem State.lostBit_sets (i : Inv s) {k : Nat} (hk : k < 32) : (s.lostBit k).rbit 0x510 k = true := by
  rw [State.lostBit, if_pos hk, State.rbit, State.setFld, reg_setReg_same i]
  exact bitAt_wput_one _ hk

theorem State.lostBit_keeps (i : Inv s) {k j : Nat} (h : s.rbit 0x510 j = true) : (s.lostBit k).rbit 0x510 j = true := by
  unfold State.lostBit
  split
  · next hk =>
    rw [State.rbit, State.setFld, reg_setReg_same i]
    exact bitAt_wput_one_of_bitAt _ hk h
  · rw [State.rbit, reg_setFld_other _ _ _ _ (by decide)]
    exact h

theorem State.loseRow_inv (s : State) (k : Nat) (i : Inv s) : Inv ((s.resetRow k).lostBit k) := (State.lostBit_moves ..).inv ((State.resetRow_moves ..).inv i)

/-- The reset-lost mask returns to default at a cold start only, so it is in no row that is lost (Table 20.3). -/
theorem State.resetRow_mask (s : State) {k : Nat} (h : k ≠ rowC) (j : Nat) : (s.resetRow k).rbit 0x510 j = s.rbit 0x510 j := by
  have hrow : inLostRow k 0x510 = (rowC == k) := rfl
  rw [State.rbit, State.rbit, State.reg_resetRow, hrow, if_neg (by simpa using Ne.symm h)]

theorem State.loseRows_keeps {ks : List Nat} (hks : rowC ∉ ks) {j : Nat} (i : Inv s) (h : s.rbit 0x510 j = true) :
    (s.loseRows ks).rbit 0x510 j = true := by
  induction ks generalizing s with
  | nil => exact h
  | cons a ks ih =>
    obtain ⟨ha, hks⟩ := not_or.1 (List.mem_cons.not.1 hks)
    exact ih hks (s.loseRow_inv a i) (State.lostBit_keeps ((s.resetRow_moves a).inv i) ((s.resetRow_mask (Ne.symm ha) j).trans h))

/-- The bits of the rows that are lost stand. -/
theorem State.loseRows_sets {ks : List Nat} (hks : rowC ∉ ks) {k : Nat} (hk : k ∈ ks) (h32 : k < 32) (i : Inv s) :
    (s.loseRows ks).rbit 0x510 k = true := by
  induction ks generalizing s with
  | nil => exact absurd hk List.not_mem_nil
  | cons a ks ih =>
    have hrest := (not_or.1 (List.mem_cons.not.1 hks)).2
    rcases List.mem_cons.1 hk with rfl | hk
    · exact State.loseRows_keeps hrest (s.loseRow_inv k i) (State.lostBit_sets ((s.resetRow_moves k).inv i) h32)
    · exact ih hrest hk (s.loseRow_inv a i)

/-- A register of a row that is lost reads its default, and one of no such row as before. -/
theorem State.reg_loseRows (ks : List Nat) (s : State) {off : Nat} (h0 : off ≠ 0x510) (h4 : off ≠ 0x514) :
    (s.loseRows ks).reg off = if ks.any (inLostRow · off) then regDefault off else s.reg off := by
  induction ks generalizing s with
  | nil => rfl
  | cons a ks ih =>
    refine (ih ((s.resetRow a).lostBit a)).trans ?_
    rw [State.reg_lostBit_other _ a h0 h4, State.reg_resetRow, List.any_cons]
    cases inLostRow a off <;> cases ks.any (inLostRow · off) <;> rfl

end Sys2Proof.Machine
end

section
/-! PROOFS. The PCI Express link, D3hot and the host resets, and the statement on them (O20; R94, R128, R129, R506, R509). -/

namespace Sys2Proof.Machine

variable {o s t : State}

/-! ### While the event ring is disabled -/

/-- The reset-lost mask and HUB_EVQ_CFG are the same before and after, the Host Interface but for its events, and while the event ring is disabled
the place of the next entry too. -/
structure EventsIdle (s t : State) : Prop where
  bus : BusKept s t
  mask : t.reg 0x510 = s.reg 0x510
  cfg : t.reg 0x230 = s.reg 0x230
  tail : s.rbit 0x230 31 = false → t.host.evqTail = s.host.evqTail

theorem EventsIdle.refl (s : State) : EventsIdle s s := ⟨.refl s, rfl, rfl, fun _ => rfl⟩

theorem EventsIdle.then (h' : EventsIdle s t) (h : EventsIdle o s) : EventsIdle o t :=
  ⟨h'.bus.then h.bus, h'.mask.trans h.mask, h'.cfg.trans h.cfg, fun off => (h'.tail (by rw [State.rbit, h.cfg]; exact off)).trans (h.tail off)⟩

theorem EventsIdle.ite {c : Prop} [Decidable c] {a b : State} (ha : EventsIdle o a) (hb : EventsIdle o b) : EventsIdle o (if c then a else b) := by
  split <;> assumption

/-- What leaves the Host Interface, and these two registers. -/
theorem Moves.eventsIdle {m : Nat} (h : Moves m s t) (hm : m.testBit 11 = false) (hmask : t.reg 0x510 = s.reg 0x510)
    (hcfg : t.reg 0x230 = s.reg 0x230) : EventsIdle s t :=
  ⟨h.bus hm, hmask, hcfg, fun _ => congrArg HostIf.evqTail (h.off .host hm : t.host = s.host)⟩

/-- What leaves the Host Interface and every register. -/
theorem Moves.eventsIdle_of_off {m : Nat} (h : Moves m s t) (hm : m.testBit 11 = false) (hr : m.testBit 5 = false) : EventsIdle s t :=
  h.eventsIdle hm (h.reg hr _) (h.reg hr _)

theorem State.setReg_eventsIdle (s : State) {off : Nat} (w : Word) (h0 : 0x510 ≠ off) (h1 : 0x230 ≠ off) : EventsIdle s (s.setReg off w) :=
  (State.setReg_moves ..).eventsIdle rfl (reg_setReg_other s w h0) (reg_setReg_other s w h1)

theorem State.writeEvents_disabled (n : Nat) (h : s.rbit 0x230 31 = false) : s.writeEvents n = s := by
  have h1 : s.writeEvent = s := by
    unfold State.writeEvent
    split
    · rfl
    · exact if_neg (by simp [h])
  induction n with
  | zero => rfl
  | succ n ih => rw [State.writeEvents, h1, ih]

theorem State.event_eventsIdle (s : State) (source code ctx detail : Nat) : EventsIdle s (s.event source code ctx detail) := by
  refine ⟨State.event_bus .., reg_event _ _ _ _ _ (by decide), reg_event _ _ _ _ _ (by decide), fun h => ?_⟩
  unfold State.event
  extract_lets e h' x
  split
  · have hsame := State.writeEvents_disabled (s := { s with host := { x with evq := x.evq ++ [e] } }) 64 h
    rw [hsame]
  · rfl

theorem State.alert_eventsIdle (s : State) (b : Nat) : EventsIdle s (s.alert b) :=
  (State.alert_moves ..).eventsIdle rfl (reg_alert s b (by decide)) (reg_alert s b (by decide))

theorem State.flag_eventsIdle (s : State) {off : Nat} (bit source ctx detail : Nat) (h0 : 0x510 ≠ off) (h1 : 0x230 ≠ off) :
    EventsIdle s (s.flag off bit source ctx detail) := by
  unfold State.flag
  exact .ite (.refl s) ((State.alert_eventsIdle ..).then <| (State.event_eventsIdle ..).then <| s.setReg_eventsIdle _ h0 h1)

theorem State.flagOpen_eventsIdle (s : State) {off : Nat} (bit source ctx : Nat) (h0 : 0x510 ≠ off) (h1 : 0x230 ≠ off) :
    EventsIdle s (s.flagOpen off bit source ctx) := by
  unfold State.flagOpen
  exact .ite (.refl s) ((State.flag_eventsIdle _ _ _ _ _ h0 h1).then <| (State.takeFree_moves s).snd.eventsIdle_of_off rfl rfl)

/-! ### The end of a host reset: READY, and the ports (R505, R509) -/

theorem State.pwr_eventsIdle (s : State) (p : PwrUnit) : EventsIdle s { s with pwr := p } := ⟨⟨rfl⟩, rfl, rfl, fun _ => rfl⟩

theorem State.afternoon_eventsIdle (s : State) : EventsIdle s s.afternoon := by
  have hset (x : State) (p : PowerState) : EventsIdle x (x.setPower p) := by
    unfold State.setPower
    exact .ite (.refl x) ((State.flagOpen_eventsIdle _ _ _ _ (by decide) (by decide)).then (x.pwr_eventsIdle _))
  unfold State.afternoon
  extract_lets _ u
  have hu : EventsIdle s u := s.pwr_eventsIdle _
  exact .ite ((hset ..).then hu) hu

theorem State.setHour_eventsIdle (s : State) (a u carried : Nat) : EventsIdle s (s.setHour a u carried) :=
  (State.setReg_eventsIdle _ _ (by decide) (by decide)).then <| (State.setReg_eventsIdle _ _ (by decide) (by decide)).then <|
    (State.setReg_eventsIdle _ _ (by decide) (by decide)).then (s.pwr_eventsIdle _)

theorem State.account_eventsIdle (s : State) (mOp n : Nat) : EventsIdle s (s.account mOp n) := by
  unfold State.account
  extract_lets +onlyGivenNames -merge cool src src' v0
  have h0 : EventsIdle s v0 := s.pwr_eventsIdle _
  extract_lets +onlyGivenNames -merge v1
  have h1 : EventsIdle s v1 := .ite ((State.flagOpen_eventsIdle _ _ _ _ (by decide) (by decide)).then h0) h0
  clear_value v1
  extract_lets +onlyGivenNames -merge l base fresh m c tp u hh allow a f1 f carried l' src2 v2
  have h2 : EventsIdle s v2 := (v1.pwr_eventsIdle _).then h1
  clear_value v2
  extract_lets +onlyGivenNames -merge v3
  have h3 : EventsIdle s v3 := (State.setReg_eventsIdle _ _ (by decide) (by decide)).then <| (State.setReg_eventsIdle _ _ (by decide) (by decide)).then <|
    (State.setReg_eventsIdle _ _ (by decide) (by decide)).then h2
  clear_value v3
  extract_lets +onlyGivenNames -merge v4
  have h4 : EventsIdle s v4 := (State.setReg_eventsIdle _ _ (by decide) (by decide)).then <| (State.setHour_eventsIdle ..).then h3
  clear_value v4
  extract_lets +onlyGivenNames -merge v5
  have h5 : EventsIdle s v5 := .ite ((State.flagOpen_eventsIdle _ _ _ _ (by decide) (by decide)).then <|
    (State.setReg_eventsIdle _ _ (by decide) (by decide)).then h4) h4
  exact v5.afternoon_eventsIdle.then h5

theorem State.checkReady_eventsIdle (s : State) : EventsIdle s s.checkReady := by
  unfold State.checkReady
  refine .ite ?_ (.refl s)
  extract_lets +onlyGivenNames -merge src u
  have hu : EventsIdle s u := (State.alert_eventsIdle { s with boot := { s.boot with ready := true } } 0).then ⟨⟨rfl⟩, rfl, rfl, fun _ => rfl⟩
  exact ((State.noteIdle_moves _).eventsIdle_of_off rfl rfl).then (.ite hu ((State.account_eventsIdle ..).then hu))

theorem State.portsDetect_eventsIdle (s : State) : EventsIdle s s.portsDetect := by
  have hport (x : State) (p : Nat) : EventsIdle x (x.detectPort p) := by
    have hto : EventsIdle x (x.portTo p .detect) := by
      unfold State.portTo
      exact .ite (.refl x) ((State.flag_eventsIdle _ _ _ _ _ (by decide) (by decide)).then <| (State.setPort_moves ..).eventsIdle_of_off rfl rfl)
    unfold State.detectPort
    exact .ite (((State.send_moves ..).eventsIdle_of_off rfl rfl).then hto) (.refl x)
  unfold State.portsDetect
  generalize List.range 8 = l
  induction l generalizing s with
  | nil => exact .refl s
  | cons p l ih => exact (ih _).then (hport s p)

/-! ### A host reset begins (R129, R506) -/

/-- From `s` a host reset of this kind has begun: every ring is closed, every context FREE, and nothing waits for the host. -/
structure State.HostResetBegun (s t : State) (kind : Nat) : Prop where
  bus : t.host.linkUp = s.host.linkUp ∧ t.host.perst = s.host.perst
  underWay : t.boot.hostReset = true
  last : t.boot.last = kind
  rings : t.rings = []
  held : t.held = []
  free : Inv s → ∀ c ∈ ctxRange, (t.ctx c).state = .free

theorem State.startHostReset_begun (s : State) (kind : Nat) : s.HostResetBegun (s.startHostReset kind) kind := by
  unfold State.startHostReset
  extract_lets u v
  have hclose : Moves 0x1EF7D3C (s.noteReset kind) u := .then (State.closeRings_moves ..) rfl ((State.closeContexts_moves _).mono rfl)
  have hbus : BusKept s u := ((State.closeRings_moves (s.noteReset kind).closeContexts false).bus rfl).then <|
    (s.noteReset kind).closeContexts_bus.then ((s.noteReset_moves kind).bus rfl)
  have hrings : u.rings = [] := rfl
  have hctx (c : Nat) : u.ctx c = (s.noteReset kind).closeContexts.ctx c := (State.closeRings_moves _ false).ctx rfl c
  have hcalm : Moves 0x1280024 u.dropHost v :=
    .then (State.cutAllBallast_moves _) rfl <| .then (State.calmPower_moves _) rfl <| (State.dropOffers_moves _).mono rfl
  clear_value v
  clear_value u
  have hhost : v.host = u.dropHost.host := hcalm.off .host rfl
  have hboot : v.boot = u.boot := hcalm.off .boot rfl
  have hlast : u.boot = (s.noteReset kind).boot := hclose.off .boot rfl
  have hv : v.rings = u.rings := hcalm.off .rings rfl
  refine ⟨⟨?_, ?_⟩, rfl, congrArg Boot.last (hboot.trans hlast), hv.trans hrings, hcalm.off .held rfl, fun i c hc => ?_⟩
  · exact (congrArg HostIf.linkUp hhost).trans hbus.linkUp
  · exact (congrArg HostIf.perst hhost).trans hbus.perst
  · have hdrop : v.ctx c = u.ctx c := hcalm.ctx rfl c
    exact (congrArg Ctx.state (hdrop.trans (hctx c))).trans (State.closeContexts_free ((s.noteReset_moves kind).inv i) c hc)

/-- The state with the link down. -/
def State.linkLost (s : State) (perst : Bool) : State := { s with host := { s.host with linkUp := false, perst := perst } }

theorem State.linkLost_inv (s : State) (perst : Bool) (i : Inv s) : Inv (s.linkLost perst) :=
  (Moves.host (m := 0x800) { s.host with linkUp := false, perst := perst } rfl ⟨rfl, rfl⟩ (.refl _ s)).inv i

theorem exec_pcieLinkLoss (ns : Nat) (s : State) : exec (.pcieLinkLoss ns) s =
    .next (if 10000000 < ns ∧ s.pwr.state ≠ .midnight ∧ (!s.host.perst) = true ∧ (!s.boot.hostReset) = true then (s.linkLost s.host.perst).startHostReset 7
      else s.linkLost s.host.perst) := rfl

theorem exec_perstAssert (s : State) : exec (.perstAssert) s =
    .next (if s.pwr.state = .midnight then s.linkLost true else (s.linkLost true).startHostReset 4) := rfl

theorem linkLoss_resets (ns : Nat) (s : State) (hns : 10000000 < ns) (hp : s.pwr.state ≠ .midnight) (hperst : s.host.perst = false)
    (hr : s.boot.hostReset = false) : ∃ u, exec (.pcieLinkLoss ns) s = .next u ∧
      u.host.linkUp = false ∧ u.boot.hostReset = true ∧ u.boot.last = 7 ∧ u.rings = [] := by
  have h := (s.linkLost s.host.perst).startHostReset_begun 7
  rw [exec_pcieLinkLoss, if_pos ⟨hns, hp, by simp [hperst], by simp [hr]⟩]
  exact ⟨_, rfl, h.bus.1, h.underWay, h.last, h.rings⟩

theorem linkLoss_short (ns : Nat) (s : State) (hns : ns ≤ 10000000) :
    ∃ u, exec (.pcieLinkLoss ns) s = .next u ∧ u = { s with host := { s.host with linkUp := false } } := by
  rw [exec_pcieLinkLoss, if_neg fun h => Nat.not_lt.2 hns h.1]
  exact ⟨_, rfl, rfl⟩

theorem perstAssert_resets (s : State) (i : Inv s) (hp : s.pwr.state ≠ .midnight) : ∃ u, exec (.perstAssert) s = .next u ∧
    u.host.perst = true ∧ u.host.linkUp = false ∧ u.boot.hostReset = true ∧ u.boot.last = 4 ∧ u.rings = [] ∧ u.held = [] ∧
      ∀ c ∈ ctxRange, (u.ctx c).state = .free := by
  have h := (s.linkLost true).startHostReset_begun 4
  rw [exec_perstAssert, if_neg hp]
  exact ⟨_, rfl, h.bus.2, h.bus.1, h.underWay, h.last, h.rings, h.held, h.free (s.linkLost_inv true i)⟩

theorem perstAssert_midnight (s : State) (hp : s.pwr.state = .midnight) :
    ∃ u, exec (.perstAssert) s = .next u ∧ u = { s with host := { s.host with perst := true, linkUp := false } } := by
  rw [exec_perstAssert, if_pos hp]
  exact ⟨_, rfl, rfl⟩

theorem exec_functionLevelReset {hot : Bool} (hp : s.pwr.state ≠ .midnight) (hl : s.host.linkUp = true) (hb : 2 ≤ s.boot.stage) :
    exec (.functionLevelReset hot) s = .next { s.startHostReset (if hot then 6 else 5) with
      host := { (s.startHostReset (if hot then 6 else 5)).host with linkUp := (s.startHostReset (if hot then 6 else 5)).host.linkUp && !hot } } := by
  have hgo : ¬(s.pwr.state = .midnight ∨ (!s.host.linkUp) = true ∨ s.boot.stage < 2) := by simp [hp, hl]; omega
  exact if_neg hgo

theorem functionLevelReset_resets (hot : Bool) (s : State) (i : Inv s) (hp : s.pwr.state ≠ .midnight) (hl : s.host.linkUp = true)
    (hb : 2 ≤ s.boot.stage) : ∃ u, exec (.functionLevelReset hot) s = .next u ∧ u.boot.hostReset = true ∧ u.boot.last = (if hot then 6 else 5) ∧
      u.rings = [] ∧ u.host.linkUp = !hot ∧ u.held = [] ∧ ∀ c ∈ ctxRange, (u.ctx c).state = .free := by
  rw [exec_functionLevelReset hp hl hb]
  have h := s.startHostReset_begun (if hot then 6 else 5)
  generalize s.startHostReset (if hot then 6 else 5) = t at h ⊢
  exact ⟨_, rfl, h.underWay, h.last, h.rings, by simp [h.bus.1, hl], h.held, h.free i⟩

theorem functionLevelReset_nothing (hot : Bool) (s : State) (h : s.pwr.state = .midnight ∨ s.host.linkUp = false ∨ s.boot.stage < 2) :
    ∃ u, exec (.functionLevelReset hot) s = .next u ∧ u = s :=
  ⟨s, if_pos (h.imp_right (Or.imp_left fun hl => by simp [hl])), rfl⟩

/-! ### Its end, and the link's return -/

/-- The event ring is disabled, and the lost rows are shown (R508, R509). -/
theorem State.hostSettings_lost (s : State) (i : Inv s) : s.hostSettings.rbit 0x230 31 = false ∧ s.hostSettings.rbit 0x510 4 = true ∧
    s.hostSettings.rbit 0x510 9 = true := by
  have it : Inv (ctxRange.foldl State.loseRoot s).dropBindings.portDown := (State.portDown_moves _).inv <| (State.dropBindings_moves _).inv <|
    (Moves.foldl (m := 0x20) ctxRange (.refl _ s) fun _ _ hx => .then (State.loseRoot_moves ..) rfl hx).inv i
  unfold State.hostSettings
  generalize (ctxRange.foldl State.loseRoot s).dropBindings.portDown = t at it ⊢
  have hrow : hostResetRows.any (inLostRow · 0x230) = true := List.any_eq_true.2 ⟨3, by decide, rfl⟩
  have hcfg : (t.loseRows hostResetRows).reg 0x230 = regDefault 0x230 := (State.reg_loseRows _ t (by decide) (by decide)).trans (if_pos hrow)
  have hmask (k : Nat) (hk : k ∈ hostResetRows) (h32 : k < 32) : (t.loseRows hostResetRows).rbit 0x510 k = true :=
    State.loseRows_sets (by decide) hk h32 it
  generalize t.loseRows hostResetRows = v at hcfg hmask ⊢
  exact ⟨(congrArg (fun w : Word => bitAt w.toNat 31) hcfg).trans rfl, hmask 4 (by decide) (by decide), hmask 9 (by decide) (by decide)⟩

/-- The state with the host reset over and the event ring empty. -/
def State.resetOver (s : State) : State :=
  { s with boot := { s.boot with hostReset := false }, host := { s.host with evqTail := 0, evqHead := 0, lost := 0, written := [] } }

theorem State.hostResetOver_idle (s : State) : EventsIdle s.resetOver s.hostResetOver ∧ s.hostResetOver.boot = s.resetOver.checkReady.boot := by
  have e : s.hostResetOver = if 2 ≤ s.resetOver.checkReady.boot.stage then s.resetOver.checkReady.portsDetect else s.resetOver.checkReady := rfl
  rw [e]
  split
  · exact ⟨(State.portsDetect_eventsIdle _).then s.resetOver.checkReady_eventsIdle, (State.portsDetect_moves _).off .boot rfl⟩
  · exact ⟨s.resetOver.checkReady_eventsIdle, rfl⟩

theorem State.checkReady_hostReset (s : State) : s.checkReady.boot.hostReset = s.boot.hostReset := by
  unfold State.checkReady
  split
  · extract_lets src u v
    have hu : u.boot = { s.boot with ready := true } := (State.alert_moves ..).off .boot rfl
    have hv : v.boot = u.boot := (Moves.ite (.refl 0x101083C u) (State.account_moves ..)).off .boot rfl
    have hidle : v.noteIdle.boot = v.boot := (State.noteIdle_moves v).off .boot rfl
    rw [hidle, hv, hu]
  · rfl

theorem hostReset_ends (s : State) (i : Inv s) (hr : s.boot.hostReset = true) (hp : s.host.perst = false) :
    ∃ u, exec (.hostResetDone) s = .next u ∧ u.boot.hostReset = false ∧ u.host.evqTail = 0 ∧ u.host.evqHead = 0 ∧ u.host.written = [] ∧
      u.rbit 0x510 4 = true ∧ u.rbit 0x510 9 = true := by
  have hexec : exec (.hostResetDone) s = .next s.hostSettings.hostResetOver := if_neg (by simp [hr, hp])
  obtain ⟨hoff, h4, h9⟩ := s.hostSettings_lost i
  rw [hexec]
  generalize s.hostSettings = t at hoff h4 h9 ⊢
  obtain ⟨hidle, hboot⟩ := t.hostResetOver_idle
  refine ⟨_, rfl, ?_, hidle.tail hoff, hidle.bus.evqHead, hidle.bus.written, ?_, ?_⟩
  · rw [hboot, State.checkReady_hostReset]
    rfl
  · rw [State.rbit, hidle.mask]; exact h4
  · rw [State.rbit, hidle.mask]; exact h9

theorem hostReset_none (s : State) (h : s.boot.hostReset = false ∨ s.host.perst = true) : ∃ u, exec (.hostResetDone) s = .next u ∧ u = s :=
  ⟨s, if_pos (by rcases h with h | h <;> simp [h]), rfl⟩

theorem State.hostBack_bus (s : State) : BusKept s s.hostBack := by
  unfold State.hostBack
  extract_lets t
  have hcpl : Moves 0x1038 s t := .foldl _ (.refl _ s) fun _ _ hx => .then (State.writeCpls_moves ..) rfl hx
  clear_value t
  exact ((State.fetchAll_moves _).bus rfl).then <| (State.writeEvents_bus 64 t).then (hcpl.bus rfl)

theorem linkReturn_up (w sp : Nat) (s : State) (hp : s.host.perst = false) : ∃ u, exec (.pcieLinkReturn w sp) s = .next u ∧
    u.host.linkUp = true ∧ u.host.width = w ∧ u.host.speed = sp ∧ (s.held ++ s.sent) <:+ u.sent := by
  have hexec : exec (.pcieLinkReturn w sp) s =
      .next (State.sendHeld { s with host := { s.host with linkUp := true, width := w, speed := sp } }).hostBack := if_neg (by simp [hp])
  have h := State.hostBack_bus (State.sendHeld { s with host := { s.host with linkUp := true, width := w, speed := sp } })
  have hsent := (State.hostBack_moves (State.sendHeld { s with host := { s.host with linkUp := true, width := w, speed := sp } })).sent
  exact ⟨_, hexec, h.linkUp, h.width, h.speed, hsent⟩

theorem linkReturn_perst (w sp : Nat) (s : State) (hp : s.host.perst = true) : ∃ u, exec (.pcieLinkReturn w sp) s = .next u ∧ u = s :=
  ⟨s, if_pos hp, rfl⟩

theorem d0Return_clears (s : State) : ∃ u, exec (.d0Return) s = .next u ∧ u.host.d3hot = false ∧ s.sent <:+ u.sent := by
  have hexec : exec (.d0Return) s = .next (State.hostBack { s with host := { s.host with d3hot := false } }) := rfl
  exact ⟨_, hexec, (State.hostBack_bus _).d3hot, (State.hostBack_moves { s with host := { s.host with d3hot := false } }).sent⟩

theorem d3hotEntry_sets (s : State) (hp : s.pwr.state ≠ .midnight) :
    ∃ u, exec (.d3hotEntry) s = .next u ∧ u = { s with host := { s.host with d3hot := true } } :=
  ⟨_, congrArg Host.Outcome.next (if_neg hp), rfl⟩

theorem perstDeassert_trains (w sp : Nat) (s : State) (hp : s.pwr.state ≠ .midnight) : ∃ u, exec (.perstDeassert w sp) s = .next u ∧
    u = { s with host := { s.host with perst := false, linkUp := true, width := w, speed := sp }, boot := { s.boot with resetStart := s.clk } } :=
  ⟨_, congrArg Host.Outcome.next (if_pos hp), rfl⟩

/-- Settles O20: every reset of the host begins by one operation, and what follows its end leaves an event ring that is disabled. -/
theorem hostLinkAndResets : Obligations.HostLinkAndResets :=
  ⟨linkLoss_resets, linkLoss_short, linkReturn_up, linkReturn_perst, d3hotEntry_sets, d0Return_clears, perstAssert_resets, perstAssert_midnight,
    functionLevelReset_resets, functionLevelReset_nothing, hostReset_ends, hostReset_none, perstDeassert_trains⟩

end Sys2Proof.Machine
end

section
/-! PROOFS. Completions that are written to their ring, or wait in the reserve (O19; R105, R106, R112, R113, R117). -/

namespace Sys2Proof.Machine

variable {s t : State} {c : Nat}

/-! ### Reads of a ring -/

theorem State.ring_setRing_same (i : Inv s) (c : Nat) (r : Ring) : (s.setRing c r).ring c = r := tabGet_tabSet_same _ s.rings c r i.tables.2.1

theorem State.setRing_inv (i : Inv s) (c : Nat) (r : Ring) : Inv (s.setRing c r) := (State.setRing_moves ..).inv i

theorem Moves.ring {m : Nat} (h : Moves m s t) (hm : m.testBit 12 = false) (c : Nat) : t.ring c = s.ring c :=
  congrArg (tabGet (fun _ => Ring.reset) · c) (h.off .rings hm)

theorem State.drained_ring (i : Inv s) (c : Nat) : ∃ x, (s.drained c).ring c = { s.ring c with state := x } := by
  unfold State.drained
  extract_lets r
  split
  · exact ⟨.closed, State.ring_setRing_same i c _⟩
  · exact ⟨(s.ring c).state, rfl⟩

theorem State.signalRing_ring (i : Inv s) (c : Nat) : (s.signalRing c).ring c = { s.ring c with unsignalled := 0, firstUnsig := none } := by
  unfold State.signalRing
  exact ((State.signalVector_moves ..).ring rfl c).trans (State.ring_setRing_same i c _)

theorem State.fetch_ring (i : Inv s) (c : Nat) : ∃ k a, (s.fetch c).ring c = { s.ring c with fetching := k, fetchAt := a } := by
  unfold State.fetch
  extract_lets r size k
  split
  · exact ⟨k, s.clk, ((State.send_moves ..).ring rfl c).trans (State.ring_setRing_same i c _)⟩
  · exact ⟨r.fetching, r.fetchAt, rfl⟩

/-- What is noted for the next descriptor to start is written over descriptors of its own index alone. -/
theorem State.noteReady_ring (i : Inv s) (c : Nat) : ∃ g : Desc → Desc, (s.noteReady c).ring c = { s.ring c with window := (s.ring c).window.map g } ∧
    ∀ x, (g x).idx = x.idx ∧ (g x = x ∨ ∃ y ∈ (s.ring c).window, y.phase = .waiting ∧ y.idx = x.idx) := by
  have hsame : ∃ g : Desc → Desc, s.ring c = { s.ring c with window := (s.ring c).window.map g } ∧
      ∀ x, (g x).idx = x.idx ∧ (g x = x ∨ ∃ y ∈ (s.ring c).window, y.phase = .waiting ∧ y.idx = x.idx) :=
    ⟨id, by rw [List.map_id], fun x => ⟨rfl, .inl rfl⟩⟩
  unfold State.noteReady
  split
  · next d hd =>
    split
    · refine ⟨fun x => if x.idx = d.idx then { d with readyAt := some s.clk } else x, State.ring_setRing_same i c _, fun x => ?_⟩
      have hwait : d.phase = .waiting := by simpa using List.find?_some hd
      dsimp only
      split
      · next hx => exact ⟨hx.symm, .inr ⟨d, List.mem_of_find?_eq_some hd, hwait, hx.symm⟩⟩
      · exact ⟨rfl, .inl rfl⟩
    · exact hsame
  · exact hsame

/-! ### What follows a completion -/

/-- After a completion the context's next descriptor is noted, its ring fetches and the scheduler decides. -/
def State.afterComplete (s : State) (c : Nat) : State := ((s.noteReady c).fetch c).schedule none

theorem exec_descriptorComplete {c : CtxId} {idx code detail epoch : Nat} {d : Desc} (hd : s.desc c.val idx = some d)
    (hp : d.phase = .ended code detail epoch) (hu : s.unacked c.val idx = false) :
    exec (.descriptorComplete c idx) s = .next ((s.complete c.val d code detail epoch).afterComplete c.val) := by
  change execDescriptorComplete c idx s = _
  rw [execDescriptorComplete, hd]
  dsimp only
  rw [hp]
  exact congrArg Host.Outcome.next (if_neg (by simp [hu]))

theorem State.afterComplete_moves (s : State) (c : Nat) : Moves 0x108142C s (s.afterComplete c) :=
  .then (State.schedule_moves ..) rfl <| .then (State.fetch_moves ..) rfl <| (State.noteReady_moves s c).mono rfl

/-- Of the ring only the fetch and what is noted in the window change. -/
theorem State.afterComplete_ring (i : Inv s) (c : Nat) : ∃ (g : Desc → Desc) (k a : Nat),
    (s.afterComplete c).ring c = { s.ring c with window := (s.ring c).window.map g, fetching := k, fetchAt := a } ∧
      ∀ x, (g x).idx = x.idx ∧ (g x = x ∨ ∃ y ∈ (s.ring c).window, y.phase = .waiting ∧ y.idx = x.idx) := by
  obtain ⟨g, hg, hidx⟩ := State.noteReady_ring i c
  obtain ⟨k, a, hk⟩ := State.fetch_ring ((State.noteReady_moves s c).inv i) c
  refine ⟨g, k, a, ?_, hidx⟩
  calc (s.afterComplete c).ring c = ((s.noteReady c).fetch c).ring c := (State.schedule_moves ..).ring rfl c
    _ = _ := by rw [hk, hg]

theorem State.desc_none_iff {idx : Nat} : s.desc c idx = none ↔ ∀ x ∈ (s.ring c).window, x.idx ≠ idx := by
  unfold State.desc
  rw [List.find?_eq_none]
  simp

theorem State.afterComplete_gone (i : Inv s) {idx : Nat} (h : ∀ x ∈ (s.ring c).window, x.idx ≠ idx) : (s.afterComplete c).desc c idx = none := by
  obtain ⟨g, k, a, hr, hg⟩ := State.afterComplete_ring i c
  rw [State.desc_none_iff, hr]
  intro x hx
  obtain ⟨y, hy, rfl⟩ := List.mem_map.1 hx
  rw [(hg y).1]
  exact h y hy

theorem State.afterComplete_placed (i : Inv s) {idx : Nat} (hex : ∃ x ∈ (s.ring c).window, x.idx = idx)
    (hall : ∀ x ∈ (s.ring c).window, x.idx = idx → x.phase = .placed) : ∃ x, (s.afterComplete c).desc c idx = some x ∧ x.phase = .placed := by
  obtain ⟨g, k, a, hr, hg⟩ := State.afterComplete_ring i c
  have hsome : (s.afterComplete c).desc c idx ≠ none := by
    rw [Ne, State.desc_none_iff, hr]
    obtain ⟨y, hy, hidx⟩ := hex
    exact fun h => h (g y) (List.mem_map.2 ⟨y, hy, rfl⟩) ((hg y).1.trans hidx)
  obtain ⟨x, hx⟩ := Option.ne_none_iff_exists'.1 hsome
  refine ⟨x, hx, ?_⟩
  have hidx : x.idx = idx := beq_iff_eq.1 (List.find?_some (p := fun y : Desc => y.idx == idx) hx)
  have hmem := List.mem_of_find?_eq_some hx
  rw [hr] at hmem
  obtain ⟨y, hy, rfl⟩ := List.mem_map.1 hmem
  have hy' : y.idx = idx := (hg y).1.symm.trans hidx
  rcases (hg y).2 with e | ⟨z, hz, hwait, hzi⟩
  · rw [e]; exact hall y hy hy'
  · exact absurd (hwait.symm.trans (hall z hz (hzi.trans hy'))) (by decide)

/-! ### The entry -/

/-- The entry of a completion of descriptor `d` (Table 4.6). -/
def State.cplOf (s : State) (d : Desc) (code detail epoch : Nat) : Cpl :=
  { idx := d.idx, tag := d.tag, code := code, kind := d.kind, detail := detail, when_ := s.stamp, epoch := if code = 0x20 then epoch else d.epoch,
    energy := d.energy, irq := d.irq }

/-- The ring with the failure of a LAYER noted (R326). -/
def Ring.noteFailed (r : Ring) (d : Desc) (code detail : Nat) : Ring :=
  match d.outBase with
  | some b => if d.kind = kindLayer ∧ 0x10 ≤ code then { r with failed := some (d.idx, b, code, detail) } else r
  | none => r

theorem Ring.noteFailed_eq (r : Ring) (d : Desc) (code detail : Nat) : ∃ f, r.noteFailed d code detail = { r with failed := f } := by
  unfold Ring.noteFailed
  split
  · split
    · exact ⟨_, rfl⟩
    · exact ⟨r.failed, rfl⟩
  · exact ⟨r.failed, rfl⟩

/-- The ring with the completion of descriptor `d` in its reserve. -/
def Ring.place (r : Ring) (d : Desc) (e : Cpl) : Ring :=
  { r with window := r.window.map (fun x => if x.idx = d.idx then { x with phase := .placed } else x), reserve := r.reserve ++ [e] }

theorem State.complete_placed (s : State) (c : Nat) {d : Desc} {code : Nat} (detail epoch : Nat) (h : ¬(d.noCpl = true ∧ code < 0x10)) :
    s.complete c d code detail epoch = ((s.bindLive c d.idx).setRing c (((s.ring c).noteFailed d code detail).place d
      (s.cplOf d code detail epoch))).writeCpls c 32 :=
  if_neg (by simpa using h)

theorem State.complete_silent (s : State) (c : Nat) {d : Desc} {code : Nat} (detail epoch : Nat) (hn : d.noCpl = true) (hc : code < 0x10) :
    s.complete c d code detail epoch = ((s.bindLive c d.idx).setRing c { (s.ring c).noteFailed d code detail with
      window := ((s.ring c).noteFailed d code detail).window.filter (fun x => decide (x.idx ≠ d.idx)) }).drained c :=
  if_pos (by simp [hn, hc])

theorem State.bindLive_inv (i : Inv s) (c idx : Nat) : Inv (s.bindLive c idx) := (State.bindLive_moves ..).inv i

theorem Ring.place_placed (r : Ring) (d : Desc) (e : Cpl) : ∀ x ∈ (r.place d e).window, x.idx = d.idx → x.phase = .placed := by
  intro x hx hidx
  obtain ⟨y, hy, rfl⟩ := List.mem_map.1 hx
  split
  · rfl
  · next h => exact absurd (by rwa [if_neg h] at hidx) h

/-! ### Writing to the ring (R106, R112) -/

theorem State.writeCpls_stuck (h : s.writeCpl c = s) (n : Nat) : s.writeCpls c n = s := by
  induction n with
  | zero => rfl
  | succ n ih => rw [State.writeCpls, h, ih]

theorem State.writeCpl_full (h : s.cqRoom c = false) : s.writeCpl c = s := by
  unfold State.writeCpl
  split
  · rfl
  · exact if_neg (by simp [h])

theorem State.writeCpl_nil (h : (s.ring c).reserve = []) : s.writeCpl c = s := by
  rw [State.writeCpl, h]

/-- The write of the entry at CQ_TAIL (Table 4.6). -/
def State.cplWrite (s : State) (c : Nat) (e : Cpl) : Out :=
  .hostWrite (s.pasid c) false (s.reg64 (0x1008 + 0x20 * c) + (s.ring c).cqTail % s.cqSize c * 32)
    (wordBytes (e.words (s.ring c).sqHead (phaseOf (s.ring c).cqTail (s.cqSize c))))

/-- The oldest completion of the reserve has been written, and its credit has returned. -/
structure State.CplWritten (s t : State) (c : Nat) (e : Cpl) (rest : List Cpl) : Prop where
  inv : Inv t
  reserve : (t.ring c).reserve = rest
  window : (t.ring c).window = (s.ring c).window.filter (fun d => decide (d.idx ≠ e.idx))
  sent : s.host.linkUp = true → s.cplWrite c e ∈ t.sent

theorem State.writeCpl_written (i : Inv s) {e : Cpl} {rest : List Cpl} (hr : (s.ring c).reserve = e :: rest) (ha : s.hostAlive = true)
    (hroom : s.cqRoom c = true) : s.CplWritten (s.writeCpl c) c e rest := by
  unfold State.writeCpl
  rw [hr]
  dsimp only
  rw [if_pos (by simp [ha, hroom])]
  generalize (e.irq || decide (0x40 ≤ e.code) || _) = sig
  generalize hr1 : ({ s.ring c with reserve := rest, cqTail := _, window := _, unsignalled := _, firstUnsig := _ } : Ring) = r1
  generalize hv : (s.setRing c r1).toHost _ = v
  have hput : Moves 0x1018 s v := by
    rw [← hv]
    exact .then (State.toHost_moves ..) rfl ((State.setRing_moves ..).mono rfl)
  have hring : v.ring c = r1 := by
    rw [← hv]
    exact ((State.toHost_moves ..).ring rfl c).trans (State.ring_setRing_same i c r1)
  have iv : Inv v := hput.inv i
  have hsig : Inv (if sig then v.signalRing c else v) ∧ (∃ n f, (if sig then v.signalRing c else v).ring c = { r1 with unsignalled := n, firstUnsig := f }) ∧
      v.sent <:+ (if sig then v.signalRing c else v).sent := by
    split
    · exact ⟨(State.signalRing_moves ..).inv iv, ⟨0, none, by rw [State.signalRing_ring iv, hring]⟩, (State.signalRing_moves v c).sent⟩
    · exact ⟨iv, ⟨r1.unsignalled, r1.firstUnsig, hring⟩, List.suffix_refl _⟩
  obtain ⟨iw, ⟨n, f, hw⟩, hsent⟩ := hsig
  generalize (if sig then v.signalRing c else v) = w at iw hw hsent ⊢
  obtain ⟨x, hx⟩ := State.drained_ring iw c
  refine ⟨(State.drained_moves ..).inv iw, by rw [hx, hw, ← hr1], by rw [hx, hw, ← hr1], fun hl => ((State.drained_moves w c).sent.subset (hsent.subset ?_))⟩
  have hup : (s.setRing c r1).host.linkUp = true := hl
  rw [← hv, State.toHost, if_pos hup]
  exact List.mem_cons_self

/-! ### The commands -/

theorem State.complete_writes (i : Inv s) {d : Desc} {code : Nat} (detail epoch : Nat) (h : ¬(d.noCpl = true ∧ code < 0x10))
    (hres : (s.ring c).reserve = []) (ha : s.hostAlive = true) (hroom : s.cqRoom c = true) (hl : s.host.linkUp = true) :
    Inv (s.complete c d code detail epoch) ∧ (∀ x ∈ ((s.complete c d code detail epoch).ring c).window, x.idx ≠ d.idx) ∧
      s.cplWrite c (s.cplOf d code detail epoch) ∈ (s.complete c d code detail epoch).sent := by
  rw [State.complete_placed s c detail epoch h]
  generalize he : s.cplOf d code detail epoch = e
  obtain ⟨f, hf⟩ := (s.ring c).noteFailed_eq d code detail
  generalize hr : ((s.ring c).noteFailed d code detail).place d e = r
  have hq : r.reserve = [e] ∧ r.cqTail = (s.ring c).cqTail ∧ r.cqHead = (s.ring c).cqHead ∧ r.sqHead = (s.ring c).sqHead := by
    rw [← hr, hf]
    exact ⟨by rw [Ring.place, hres]; rfl, rfl, rfl, rfl⟩
  obtain ⟨hqr, hqt, hqh, hqs⟩ := hq
  have ib := State.bindLive_inv i c d.idx
  have hring : ((s.bindLive c d.idx).setRing c r).ring c = r := State.ring_setRing_same ib c r
  have hroom' : ((s.bindLive c d.idx).setRing c r).cqRoom c = true := by
    rw [← hroom, State.cqRoom, State.cqRoom, hring, hqt, hqh]
    rfl
  have hw := State.writeCpl_written (State.setRing_inv ib c r) (hring ▸ hqr) ha hroom'
  have hstop := State.writeCpls_stuck (State.writeCpl_nil hw.reserve) 31
  have hout : ((s.bindLive c d.idx).setRing c r).cplWrite c e = s.cplWrite c e := by
    rw [State.cplWrite, hring, hqt, hqs]
    rfl
  rw [State.writeCpls, hstop]
  refine ⟨hw.inv, fun x hx => ?_, hout ▸ hw.sent hl⟩
  rw [hw.window] at hx
  have hne := of_decide_eq_true (List.mem_filter.1 hx).2
  rwa [← he] at hne

theorem completion_written (c : CtxId) (d : Desc) (code detail epoch : Nat) (s : State) (i : Inv s) (hd : s.desc c.val d.idx = some d)
    (hp : d.phase = .ended code detail epoch) (hu : s.unacked c.val d.idx = false) (h : ¬(d.noCpl = true ∧ code < 0x10))
    (hres : (s.ring c.val).reserve = []) (ha : s.hostAlive = true) (hl : s.host.linkUp = true) (hroom : s.cqRoom c.val = true) :
    ∃ u, exec (.descriptorComplete c d.idx) s = .next u ∧ u.desc c.val d.idx = none ∧
      .hostWrite (s.pasid c.val) false (s.reg64 (0x1008 + 0x20 * c.val) + (s.ring c.val).cqTail % s.cqSize c.val * 32)
        (wordBytes [d.tag * 2 ^ 48 + code * 2 ^ 40 + d.kind * 2 ^ 32 + (s.ring c.val).sqHead % 2 ^ 16 * 2 ^ 16 + phaseOf (s.ring c.val).cqTail (s.cqSize c.val),
        detail, s.stamp, (if code = 0x20 then epoch else d.epoch) % 2 ^ 32 * 2 ^ 32 + min d.energy 0xFFFFFFFF]) ∈ u.sent := by
  obtain ⟨iu, hgone, hsent⟩ := State.complete_writes i detail epoch h hres ha hroom hl
  exact ⟨_, exec_descriptorComplete hd hp hu, State.afterComplete_gone iu hgone, (State.afterComplete_moves ..).sent.subset hsent⟩

theorem completion_waits (c : CtxId) (d : Desc) (code detail epoch : Nat) (s : State) (i : Inv s) (hd : s.desc c.val d.idx = some d)
    (hp : d.phase = .ended code detail epoch) (hu : s.unacked c.val d.idx = false) (h : ¬(d.noCpl = true ∧ code < 0x10)) (hroom : s.cqRoom c.val = false) :
    ∃ u, exec (.descriptorComplete c d.idx) s = .next u ∧ (∃ x, u.desc c.val d.idx = some x ∧ x.phase = .placed) ∧
      (∃ e ∈ (u.ring c.val).reserve, e.idx = d.idx ∧ e.code = code ∧ e.detail = detail) ∧ (u.ring c.val).cqTail = (s.ring c.val).cqTail := by
  refine ⟨_, exec_descriptorComplete hd hp hu, ?_⟩
  rw [State.complete_placed s c.val detail epoch h]
  generalize he : s.cplOf d code detail epoch = e
  obtain ⟨f, hf⟩ := (s.ring c.val).noteFailed_eq d code detail
  generalize hr : ((s.ring c.val).noteFailed d code detail).place d e = r
  have hall : ∀ x ∈ r.window, x.idx = d.idx → x.phase = .placed := hr ▸ Ring.place_placed _ d e
  have hex : ∃ x ∈ r.window, x.idx = d.idx := by
    rw [← hr, hf]
    exact ⟨_, List.mem_map.2 ⟨d, List.mem_of_find?_eq_some hd, rfl⟩, by rw [if_pos rfl]⟩
  have hmem : e ∈ r.reserve := by
    rw [← hr]
    exact List.mem_append_right _ (List.mem_singleton.2 rfl)
  have hq : r.cqTail = (s.ring c.val).cqTail ∧ r.cqHead = (s.ring c.val).cqHead := by
    rw [← hr, hf]
    exact ⟨rfl, rfl⟩
  obtain ⟨hqt, hqh⟩ := hq
  have ib := State.bindLive_inv i c.val d.idx
  have hring : ((s.bindLive c.val d.idx).setRing c.val r).ring c.val = r := State.ring_setRing_same ib c.val r
  have hfull : ((s.bindLive c.val d.idx).setRing c.val r).cqRoom c.val = false := by
    rw [← hroom, State.cqRoom, State.cqRoom, hring, hqt, hqh]
    rfl
  rw [State.writeCpls_stuck (State.writeCpl_full hfull)]
  have it := State.setRing_inv ib c.val r
  generalize (s.bindLive c.val d.idx).setRing c.val r = t at it hring ⊢
  subst hring
  obtain ⟨g, k, a, hafter, -⟩ := State.afterComplete_ring it c.val
  refine ⟨State.afterComplete_placed it hex hall, ⟨e, by rw [hafter]; exact hmem, ?_⟩, by rw [hafter]; exact hqt⟩
  rw [← he]
  exact ⟨rfl, rfl, rfl⟩

theorem completion_silent (c : CtxId) (d : Desc) (code detail epoch : Nat) (s : State) (i : Inv s) (hd : s.desc c.val d.idx = some d)
    (hp : d.phase = .ended code detail epoch) (hu : s.unacked c.val d.idx = false) (hn : d.noCpl = true) (hc : code < 0x10) :
    ∃ u, exec (.descriptorComplete c d.idx) s = .next u ∧ u.desc c.val d.idx = none ∧ (u.ring c.val).cqTail = (s.ring c.val).cqTail ∧
      (u.ring c.val).reserve = (s.ring c.val).reserve := by
  refine ⟨_, exec_descriptorComplete hd hp hu, ?_⟩
  rw [State.complete_silent s c.val detail epoch hn hc]
  obtain ⟨f, hf⟩ := (s.ring c.val).noteFailed_eq d code detail
  generalize hr : ({ (s.ring c.val).noteFailed d code detail with window := _ } : Ring) = r
  have ib := State.bindLive_inv i c.val d.idx
  have hring : ((s.bindLive c.val d.idx).setRing c.val r).ring c.val = r := State.ring_setRing_same ib c.val r
  have it := State.setRing_inv ib c.val r
  generalize (s.bindLive c.val d.idx).setRing c.val r = t at it hring ⊢
  obtain ⟨x, hx⟩ := State.drained_ring it c.val
  have iu : Inv (t.drained c.val) := (State.drained_moves ..).inv it
  obtain ⟨g, k, a, hafter, -⟩ := State.afterComplete_ring iu c.val
  have hgone : ∀ y ∈ ((t.drained c.val).ring c.val).window, y.idx ≠ d.idx := by
    rw [hx, hring, ← hr]
    exact fun y hy => of_decide_eq_true (List.mem_filter.1 hy).2
  refine ⟨State.afterComplete_gone iu hgone, ?_, ?_⟩
  · rw [hafter, hx, hring, ← hr, hf]
  · rw [hafter, hx, hring, ← hr, hf]

theorem completion_unacked (c : CtxId) (idx : Nat) (s : State) (h : s.unacked c.val idx = true) :
    ∃ u, exec (.descriptorComplete c idx) s = .next u ∧ u = s := by
  refine ⟨s, ?_, rfl⟩
  change execDescriptorComplete c idx s = _
  unfold execDescriptorComplete
  split
  · split
    · exact congrArg Host.Outcome.next (if_pos h)
    · rfl
  · rfl

end Sys2Proof.Machine
end

section
/-! PROOFS. The interrupt delay, the ring and event ring registers, and the statement on completions and rings (O19; R110, R112, R119, R130, R131, R569). -/

namespace Sys2Proof.Machine

variable {s : State} {v : Word}

/-! ### The interrupt delay (R112) -/

/-- A vector's message goes out with the link up and MSI-X on and unmasked. -/
theorem State.signalVector_sends (s : State) (n : Nat) (hl : s.host.linkUp = true) (hon : s.host.msixOn = true) (hm : s.host.msixMask = false)
    (hv : s.rbit (0xF000C + 0x10 * n) 0 = false) :
    .interrupt n (s.reg64 (0xF0000 + 0x10 * n)) (s.reg (0xF0008 + 0x10 * n)).toNat ∈ (s.signalVector n).sent := by
  rw [State.signalVector, if_neg (by simp [hon, hm, hv]), State.toHost, if_pos hl]
  exact List.mem_cons_self

theorem exec_irqDelayExpiry {c : CtxId} {t t0 : Nat} (hf : (s.ring c.val).firstUnsig = some t0) : exec (.irqDelayExpiry c t) s =
    .next (if s.fld (0x1010 + 0x20 * c.val) 16 4 ≠ 0 ∧ t0 + 2 ^ (s.fld (0x1010 + 0x20 * c.val) 16 4 - 1) * 1000 ≤ max s.clk t ∧ s.hostAlive = true
      then (s.reachClk t).signalRing c.val else s.reachClk t) := by
  have hf' : ((s.reachClk t).ring c.val).firstUnsig = some t0 := hf
  change execIrqDelayExpiry c t s = _
  unfold execIrqDelayExpiry
  extract_lets x n
  rw [hf']
  rfl

theorem irqDelay_signals (c : CtxId) (t t0 : Nat) (s : State) (i : Inv s) (hf : (s.ring c.val).firstUnsig = some t0)
    (hn : s.fld (0x1010 + 0x20 * c.val) 16 4 ≠ 0) (ht : t0 + 2 ^ (s.fld (0x1010 + 0x20 * c.val) 16 4 - 1) * 1000 ≤ max s.clk t)
    (ha : s.hostAlive = true) : ∃ u, exec (.irqDelayExpiry c t) s = .next u ∧ (u.ring c.val).unsignalled = 0 ∧ (u.ring c.val).firstUnsig = none ∧
      u.clk = max s.clk t ∧ (s.host.linkUp = true → s.host.msixOn = true → s.host.msixMask = false →
        s.rbit (0xF000C + 0x10 * s.fld (0x1010 + 0x20 * c.val) 0 6) 0 = false →
        .interrupt (s.fld (0x1010 + 0x20 * c.val) 0 6) (s.reg64 (0xF0000 + 0x10 * s.fld (0x1010 + 0x20 * c.val) 0 6))
          (s.reg (0xF0008 + 0x10 * s.fld (0x1010 + 0x20 * c.val) 0 6)).toNat ∈ u.sent) := by
  have it : Inv (s.reachClk t) := i.of_spoken s.pending (max s.clk t) s.pwr
  have hring := State.signalRing_ring it c.val
  refine ⟨_, (exec_irqDelayExpiry hf).trans (congrArg Host.Outcome.next (if_pos ⟨hn, ht, ha⟩)), by rw [hring], by rw [hring],
    (State.signalRing_moves (s.reachClk t) c.val).off .clock rfl, fun hl hon hm hv => ?_⟩
  exact State.signalVector_sends ((s.reachClk t).setRing c.val _) _ hl hon hm hv

theorem irqDelay_early (c : CtxId) (t t0 : Nat) (s : State) (hf : (s.ring c.val).firstUnsig = some t0)
    (ht : max s.clk t < t0 + 2 ^ (s.fld (0x1010 + 0x20 * c.val) 16 4 - 1) * 1000) :
    ∃ u, exec (.irqDelayExpiry c t) s = .next u ∧ u = { s with clk := max s.clk t } :=
  ⟨_, (exec_irqDelayExpiry hf).trans (congrArg Host.Outcome.next (if_neg fun h => Nat.not_lt.2 h.2.1 ht)), rfl⟩

/-! ### Fields of a value written -/

/-- A field is its bits. -/
theorem wfld_congr {w x : Word} {lo len : Nat} (h : ∀ j < len, w.getLsbD (lo + j) = x.getLsbD (lo + j)) : wfld w lo len = wfld x lo len := by
  refine Nat.eq_of_testBit_eq fun j => ?_
  simp only [wfld, bitsOf, Nat.testBit_mod_two_pow, Nat.testBit_div_two_pow]
  by_cases hj : j < len
  · have hb := h j hj
    simp only [BitVec.getLsbD] at hb
    rw [Nat.add_comm j lo, hb]
  · simp [hj]

theorem wfld_enabled (v : Word) {lo : Nat} (h : lo = 20 ∨ lo = 24) : wfld ((v ||| 0x80000000) &&& 0x8FFFFF3F) lo 4 = wfld v lo 4 := by
  refine wfld_congr fun j hj => ?_
  rcases h with rfl | rfl <;> interval_cases j <;> simp

theorem bitAt_enabled (v : Word) : bitAt ((v ||| 0x80000000) &&& 0x8FFFFF3F).toNat 31 = true := by
  rw [bitAt_toNat]
  simp

theorem bitAt_disabled (v : Word) : bitAt (v &&& 0x7FFFFFFF &&& 0x8FFFFF3F).toNat 31 = false := by
  rw [bitAt_toNat]
  simp

theorem xor_and_mask (w x m : Word) : (w ^^^ x) &&& m = (w &&& m) ^^^ (x &&& m) := by
  ext j hj
  simp [Bool.and_xor_distrib_right]

/-- Settings that are the same but for ENABLE. -/
theorem settings_same {w v : Word} (h : (w ^^^ v) &&& 0x0FFFFF3F = 0) : (w ^^^ (v &&& 0x7FFFFFFF &&& 0x8FFFFF3F)) &&& 0x0FFFFF3F = 0 := by
  have hm : (0x7FFFFFFF &&& (0x8FFFFF3F &&& 0x0FFFFF3F) : Word) = 0x0FFFFF3F := by decide
  rw [xor_and_mask, BitVec.and_assoc, BitVec.and_assoc, hm, ← xor_and_mask, h]

/-! ### A ring is enabled (R130, R131) -/

theorem State.ringIdle_of_closed {c : Nat} (h : (s.ring c).state = .closed) : s.ringIdle c = true := by simp [State.ringIdle, h]

theorem State.ringIdle_of_stopped {c : Nat} (h : (s.ring c).state = .stopped) : s.ringIdle c = true := by simp [State.ringIdle, h]

/-- ENABLE set on a CLOSED ring. -/
theorem State.writeRingCfg_enable {c : Nat} {who : Reader} (hs : (s.ring c).state = .closed) (hoff : s.rbit (0x1010 + 0x20 * c) 31 = false) :
    s.writeRingCfg c (v ||| 0x80000000) who =
      if (s.ctx c).state = .open_ ∧ (s.ring c).state = .closed ∧ sizeOk (wfld v 24 4) = true ∧ sizeOk (wfld v 20 4) = true then
        (s.setReg (0x1010 + 0x20 * c) ((v ||| 0x80000000) &&& 0x8FFFFF3F)).setRing c
          { Ring.reset with state := .active, lastCode := (s.ring c).lastCode, headErr := (s.ring c).headErr }
      else s.locked (0x1010 + 0x20 * c) who := by
  have hwas : bitAt (s.reg (0x1010 + 0x20 * c)).toNat 31 = false := hoff
  rw [← wfld_enabled v (.inl rfl), ← wfld_enabled v (.inr rfl)]
  unfold State.writeRingCfg
  extract_lets off old w r was now
  have hnow : now = true := bitAt_enabled v
  have hwas' : was = false := hwas
  rw [if_neg (by simp [State.ringIdle_of_closed hs]), if_pos (by simp [hnow, hwas'])]

/-- ENABLE cleared where the write is not refused. -/
theorem State.writeRingCfg_disable {c : Nat} {who : Reader} (h : s.ringIdle c = true ∨ (s.reg (0x1010 + 0x20 * c) ^^^ v) &&& 0x0FFFFF3F = 0) :
    s.writeRingCfg c (v &&& 0x7FFFFFFF) who =
      match (s.ring c).state with
      | .active => ((s.setReg (0x1010 + 0x20 * c) (v &&& 0x7FFFFFFF &&& 0x8FFFFF3F)).setRing c { s.ring c with state := .draining }).drained c
      | .stopped => (s.setReg (0x1010 + 0x20 * c) (v &&& 0x7FFFFFFF &&& 0x8FFFFF3F)).setRing c { s.ring c with state := .closed }
      | _ => s.setReg (0x1010 + 0x20 * c) (v &&& 0x7FFFFFFF &&& 0x8FFFFF3F) := by
  unfold State.writeRingCfg
  extract_lets off old w r was now
  have hnow : now = false := bitAt_disabled v
  have hopen : ¬((!s.ringIdle c && decide ((old ^^^ w) &&& 0x0FFFFF3F ≠ 0)) = true) := by
    rcases h with h | h
    · simp [h]
    · have hsame : (old ^^^ w) &&& 0x0FFFFF3F = 0 := settings_same h
      rw [Bool.and_eq_true, decide_eq_true_eq]
      exact fun hopen => hopen.2 hsame
  exact (if_neg hopen).trans ((if_neg (by simp [hnow])).trans (if_neg (by simp [hnow])))

theorem exec_ringEnable {c : CtxId} (hs : s.served) : exec (.ringEnable c v) s =
    .next ((s.dropLatches (0x1010 + 0x20 * c.val)).writeRingCfg c.val (v ||| 0x80000000) .host) :=
  congrArg Host.Outcome.next (State.onWrite_open _ (fun _ => hs.1) hs.2)

theorem exec_ringDisable {c : CtxId} (hs : s.served) : exec (.ringDisable c v) s =
    .next ((s.dropLatches (0x1010 + 0x20 * c.val)).writeRingCfg c.val (v &&& 0x7FFFFFFF) .host) :=
  congrArg Host.Outcome.next (State.onWrite_open _ (fun _ => hs.1) hs.2)

theorem sizeOk_iff (n : Nat) : sizeOk n = true ↔ 4 ≤ n ∧ n ≤ 12 := by simp [sizeOk]

theorem ring_enabled (c : CtxId) (v : Word) (s : State) (i : Inv s) (hs : s.served) (hc : (s.ctx c.val).state = .open_)
    (hr : (s.ring c.val).state = .closed) (hoff : s.rbit (0x1010 + 0x20 * c.val) 31 = false) (h1 : 4 ≤ wfld v 24 4) (h2 : wfld v 24 4 ≤ 12)
    (h3 : 4 ≤ wfld v 20 4) (h4 : wfld v 20 4 ≤ 12) : ∃ u, exec (.ringEnable c v) s = .next u ∧ (u.ring c.val).state = .active ∧
      (u.ring c.val).sqHead = 0 ∧ (u.ring c.val).cqTail = 0 ∧ (u.ring c.val).window = [] ∧
      u.reg (0x1010 + 0x20 * c.val) = (v ||| 0x80000000) &&& 0x8FFFFF3F := by
  have id := dropLatches_inv i (0x1010 + 0x20 * c.val)
  rw [exec_ringEnable hs, State.writeRingCfg_enable (s := s.dropLatches _) hr hoff,
    if_pos ⟨hc, hr, (sizeOk_iff _).2 ⟨h1, h2⟩, (sizeOk_iff _).2 ⟨h3, h4⟩⟩]
  have hring := State.ring_setRing_same ((State.setReg_moves (s.dropLatches (0x1010 + 0x20 * c.val)) (0x1010 + 0x20 * c.val)
    ((v ||| 0x80000000) &&& 0x8FFFFF3F)).inv id) c.val { Ring.reset with state := .active, lastCode := (s.ring c.val).lastCode, headErr := (s.ring c.val).headErr }
  refine ⟨_, rfl, congrArg Ring.state hring, congrArg Ring.sqHead hring, congrArg Ring.cqTail hring, congrArg Ring.window hring, ?_⟩
  exact reg_setReg_same id _ _

theorem ring_notEnabled (c : CtxId) (v : Word) (s : State) (hs : s.served) (hr : (s.ring c.val).state = .closed)
    (hoff : s.rbit (0x1010 + 0x20 * c.val) 31 = false)
    (h : (s.ctx c.val).state ≠ .open_ ∨ wfld v 24 4 < 4 ∨ 12 < wfld v 24 4 ∨ wfld v 20 4 < 4 ∨ 12 < wfld v 20 4) :
    ∃ u, exec (.ringEnable c v) s = .next u ∧ u = (s.dropLatches (0x1010 + 0x20 * c.val)).locked (0x1010 + 0x20 * c.val) .host := by
  refine ⟨_, (exec_ringEnable hs).trans ?_, rfl⟩
  rw [State.writeRingCfg_enable (s := s.dropLatches _) hr hoff, if_neg]
  rintro ⟨hc, -, ha, hb⟩
  have hc' : (s.ctx c.val).state = .open_ := hc
  rw [sizeOk_iff] at ha hb
  rcases h with h | h | h | h | h
  · exact h hc'
  all_goals omega

/-! ### A ring is disabled (R119, R130) -/

theorem ring_disabled (c : CtxId) (v : Word) (s : State) (i : Inv s) (hs : s.served) (hr : (s.ring c.val).state = .active)
    (hv : (s.reg (0x1010 + 0x20 * c.val) ^^^ v) &&& 0x0FFFFF3F = 0) : ∃ u, exec (.ringDisable c v) s = .next u ∧
      (u.ring c.val).state = (if (s.ring c.val).window = [] ∧ (s.ring c.val).fetching = 0 then .closed else .draining) ∧
      u.rbit (0x1010 + 0x20 * c.val) 31 = false := by
  have id := dropLatches_inv i (0x1010 + 0x20 * c.val)
  rw [exec_ringDisable hs, State.writeRingCfg_disable (s := s.dropLatches _) (.inr hv), show ((s.dropLatches (0x1010 + 0x20 * c.val)).ring c.val).state = .active from hr]
  dsimp only
  generalize hw : v &&& 0x7FFFFFFF &&& 0x8FFFFF3F = w
  have ht : Inv ((s.dropLatches (0x1010 + 0x20 * c.val)).setReg (0x1010 + 0x20 * c.val) w) := (State.setReg_moves ..).inv id
  have hreg : ((s.dropLatches (0x1010 + 0x20 * c.val)).setReg (0x1010 + 0x20 * c.val) w).reg (0x1010 + 0x20 * c.val) = w := reg_setReg_same id _ _
  have hsame : ((s.dropLatches (0x1010 + 0x20 * c.val)).setReg (0x1010 + 0x20 * c.val) w).ring c.val = s.ring c.val := rfl
  have hsame' : (s.dropLatches (0x1010 + 0x20 * c.val)).ring c.val = s.ring c.val := rfl
  rw [hsame']
  generalize (s.dropLatches (0x1010 + 0x20 * c.val)).setReg (0x1010 + 0x20 * c.val) w = t at ht hreg hsame ⊢
  refine ⟨_, rfl, ?_, ?_⟩
  · have hring := State.ring_setRing_same ht c.val { s.ring c.val with state := .draining }
    unfold State.drained
    dsimp only
    rw [hring]
    by_cases hempty : (s.ring c.val).window = [] ∧ (s.ring c.val).fetching = 0
    · rw [if_pos ⟨rfl, hempty⟩, if_pos hempty, State.ring_setRing_same (State.setRing_inv ht c.val _)]
    · rw [if_neg fun h => hempty h.2, if_neg hempty, hring]
  · rw [State.rbit, (State.drained_moves ..).reg rfl, (State.setRing_moves ..).reg rfl, hreg, ← hw]
    exact bitAt_disabled v

theorem ring_stoppedDisabled (c : CtxId) (v : Word) (s : State) (i : Inv s) (hs : s.served) (hr : (s.ring c.val).state = .stopped) :
    ∃ u, exec (.ringDisable c v) s = .next u ∧ (u.ring c.val).state = .closed ∧ u.rbit (0x1010 + 0x20 * c.val) 31 = false := by
  have id := dropLatches_inv i (0x1010 + 0x20 * c.val)
  have hr' : ((s.dropLatches (0x1010 + 0x20 * c.val)).ring c.val).state = .stopped := hr
  rw [exec_ringDisable hs, State.writeRingCfg_disable (.inl (State.ringIdle_of_stopped hr')), hr']
  refine ⟨_, rfl, congrArg Ring.state (State.ring_setRing_same ((State.setReg_moves ..).inv id) _ _), ?_⟩
  rw [State.rbit, (State.setRing_moves ..).reg rfl, reg_setReg_same id]
  exact bitAt_disabled v

/-! ### The event ring (R110, R131) -/

theorem exec_evqEnable (hs : s.served) : exec (.evqEnable v) s = .next ((s.dropLatches 0x230).writeEvqCfg v .host) :=
  congrArg Host.Outcome.next (State.onWrite_open _ (fun _ => hs.1) hs.2)

theorem wfld_evq (v : Word) : wfld (v &&& 0x8000000F) 0 4 = wfld v 0 4 := wfld_congr fun j hj => by
  interval_cases j <;> simp

theorem bitAt_evq (v : Word) : bitAt (v &&& 0x8000000F).toNat 31 = bitAt v.toNat 31 := by
  rw [bitAt_toNat, bitAt_toNat]
  simp

/-- ENABLE set on an event ring that is disabled. -/
theorem State.writeEvqCfg_enable {who : Reader} (hoff : s.rbit 0x230 31 = false) (hon : bitAt v.toNat 31 = true) : s.writeEvqCfg v who =
    if sizeOk (wfld v 0 4) = true then
      let t := (s.setReg 0x230 (v &&& 0x8000000F)).noteWritten 0x230
      ({ t with host := { t.host with evqTail := 0, evqHead := 0 } } : State).writeEvents 64
    else s.locked 0x230 who := by
  have hwas : bitAt (s.reg 0x230).toNat 31 = false := hoff
  rw [← wfld_evq]
  unfold State.writeEvqCfg
  extract_lets old w was now
  have hnow : bitAt w.toNat 31 = true := (bitAt_evq v).trans hon
  have hwas' : was = false := hwas
  rw [if_neg (by simp [hwas']), if_pos (by simp [hnow, hwas'])]

theorem State.noteWritten_mem (s : State) (off : Nat) : off ∈ (s.noteWritten off).host.written := by
  unfold State.noteWritten
  split
  · next h => exact List.contains_iff_mem.1 h
  · exact List.mem_append_right _ (List.mem_singleton.2 rfl)

theorem State.writeEvents_none (h : s.host.evq = []) (n : Nat) : s.writeEvents n = s := by
  have h1 : s.writeEvent = s := by rw [State.writeEvent, h]
  induction n with
  | zero => rfl
  | succ n ih => rw [State.writeEvents, h1, ih]

theorem evq_enabled (v : Word) (s : State) (i : Inv s) (hs : s.served) (hoff : s.rbit 0x230 31 = false) (hon : bitAt v.toNat 31 = true)
    (h1 : 4 ≤ wfld v 0 4) (h2 : wfld v 0 4 ≤ 12) (hq : s.host.evq = []) : ∃ u, exec (.evqEnable v) s = .next u ∧
      u.reg 0x230 = v &&& 0x8000000F ∧ u.host.evqTail = 0 ∧ u.host.evqHead = 0 ∧ 0x230 ∈ u.host.written := by
  have id := dropLatches_inv i 0x230
  rw [exec_evqEnable hs, State.writeEvqCfg_enable (s := s.dropLatches 0x230) hoff hon, if_pos ((sizeOk_iff _).2 ⟨h1, h2⟩)]
  extract_lets t
  have hreg : t.reg 0x230 = v &&& 0x8000000F := ((State.noteWritten_moves ..).reg rfl _).trans (reg_setReg_same id _ _)
  have hmem : 0x230 ∈ t.host.written := State.noteWritten_mem _ _
  have hevq : t.host.evq = [] := by
    unfold t State.noteWritten
    split <;> exact hq
  clear_value t
  rw [State.writeEvents_none (s := { t with host := { t.host with evqTail := 0, evqHead := 0 } }) hevq]
  exact ⟨_, rfl, hreg, rfl, rfl, hmem⟩

theorem evq_notEnabled (v : Word) (s : State) (hs : s.served) (hoff : s.rbit 0x230 31 = false) (hon : bitAt v.toNat 31 = true)
    (h : wfld v 0 4 < 4 ∨ 12 < wfld v 0 4) : ∃ u, exec (.evqEnable v) s = .next u ∧ u = (s.dropLatches 0x230).locked 0x230 .host := by
  refine ⟨_, (exec_evqEnable hs).trans ?_, rfl⟩
  rw [State.writeEvqCfg_enable (s := s.dropLatches 0x230) hoff hon, if_neg]
  rw [sizeOk_iff]
  omega

/-- Settles O19: a completion is placed in its ring and what follows leaves it there, and a register's write is its rule. -/
theorem completionsAndRings : Obligations.CompletionsAndRings :=
  ⟨completion_written, completion_waits, completion_silent, completion_unacked, irqDelay_signals, irqDelay_early, ring_enabled, ring_notEnabled,
    ring_disabled, ring_stoppedDisabled, evq_enabled, evq_notEnabled⟩

end Sys2Proof.Machine
end

section

/-! PROOFS. Doorbell polls and descriptor fetches (O18; R104). A fetched descriptor waits for its resources at once, and `noteReady` writes that into
the window by index (`setDesc`). In a window that already holds a descriptor of the fetched index, the older one is written over as well, so the
window is not the old one with the fetched descriptor appended. -/

namespace Sys2Proof.Machine

/-- A descriptor of index 0 that has been placed. -/
def placedDesc : Desc :=
  { idx := 0, words := [1#64], phase := .placed, late := false, start := none, readyAt := none, deferred := false, energy := 0, outBase := none,
    cursor := 0, startMin := 0, seq := 0 }

/-- Ring 0 is ACTIVE with one fetch outstanding at SQ_HEAD 0, and its window still holds a descriptor of index 0. -/
def refetchState : State :=
  { State.reset with
    rings := [(0, { Ring.reset with state := .active, fetching := 1, window := [placedDesc] })]
    ctxs := [(0, { Ctx.reset with state := .open_ })] }

/-- The window of ring `c` after a command, by index and words. -/
def windowAfter (c : Nat) : Host.Outcome State Fault Refusal → List (Nat × List DWord)
  | .next u => (u.ring c).window.map (fun d => (d.idx, d.words))
  | _ => []

/-- The fetch of a second descriptor of index 0 writes over the words of the first. -/
theorem windowAfter_refetch : windowAfter 0 (exec (.descriptorFetchDone 0 (some [[2#64]])) refetchState) = [(0, [2#64]), (0, [2#64])] := by
  decide

/-- Refutes O18: in `refetchState` the descriptor that the fetch brings has the index of one still in the window, and DESCRIPTOR_FETCH_DONE writes over
that one. -/
theorem not_pollsAndFetches : ¬ Obligations.PollsAndFetches := by
  intro h
  obtain ⟨-, -, -, -, -, -, hfetch, -⟩ := h
  obtain ⟨u, hu, -, hwindow⟩ := hfetch 0 [[2#64]] refetchState rfl (by simp) (.inl rfl)
  have hover : windowAfter 0 (.next u) = [(0, [2#64]), (0, [2#64])] := hu ▸ windowAfter_refetch
  have happended : windowAfter 0 (.next u) = [(0, [1#64]), (0, [2#64])] := hwindow
  exact absurd (hover.symm.trans happended) (by decide)

end Sys2Proof.Machine

end

section
/-! PROOFS. Both views of every unit, and a bracket that is not open: reports, fences, and the end of a context's work leave them (R460, R463). -/

namespace Sys2Proof.Machine

variable {o s t : State}

/-- Both views of every unit are the same before and after, and no bracket was opened. -/
structure FltKept (s t : State) : Prop where
  dp : t.flt.dp = s.flt.dp
  mgmt : t.flt.mgmt = s.flt.mgmt
  shut : s.flt.bracket = none → t.flt.bracket = none

theorem FltKept.refl (s : State) : FltKept s s := ⟨rfl, rfl, id⟩

theorem FltKept.then (h' : FltKept s t) (h : FltKept o s) : FltKept o t := ⟨h'.dp.trans h.dp, h'.mgmt.trans h.mgmt, h'.shut ∘ h.shut⟩

theorem FltKept.ite {c : Prop} [Decidable c] {a b : State} (ha : FltKept o a) (hb : FltKept o b) : FltKept o (if c then a else b) := by
  split <;> assumption

theorem FltKept.foldl {α : Type} {f : State → α → State} (l : List α) (h : FltKept o s) (hf : ∀ x a, FltKept x (f x a)) : FltKept o (l.foldl f s) := by
  induction l generalizing s with
  | nil => exact h
  | cons a l ih => exact ih ((hf s a).then h)

theorem FltKept.dpFailed (h : FltKept s t) (v : Nat) : t.dpFailed v = s.dpFailed v := congrArg (tabGet (fun _ => false) · v) h.dp

theorem FltKept.mgmtFailed (h : FltKept s t) (v : Nat) : t.mgmtFailed v = s.mgmtFailed v := congrArg (tabGet (fun _ => false) · v) h.mgmt

/-- What leaves chapter 15's state leaves the views and the bracket. -/
theorem Moves.fltKept {m : Nat} (h : Moves m s t) (hm : m.testBit 14 = false) : FltKept s t := by
  have hf : t.flt = s.flt := h.off .faults hm
  exact ⟨by rw [hf], by rw [hf], by rw [hf]; exact id⟩

/-! ### Records, fences and rollbacks -/

theorem State.putRecord_fltKept (s : State) (k source code ctx unit detail : Nat) : FltKept s (s.putRecord k source code ctx unit detail) := by
  unfold State.putRecord
  extract_lets r keep
  split
  · exact ((State.bump_moves ..).fltKept rfl).then <| ((State.flagOpen_moves ..).fltKept rfl).then ⟨rfl, rfl, id⟩
  · exact .ite (((State.bump_moves ..).fltKept rfl).then ⟨rfl, rfl, id⟩) ⟨rfl, rfl, id⟩

theorem State.record_fltKept (s : State) (k source code ctx unit detail : Nat) : FltKept s (s.record k source code ctx unit detail) := by
  have h := s.putRecord_fltKept k source code ctx unit detail
  unfold State.record
  exact .ite (((State.bump_moves ..).fltKept rfl).then h) h

theorem State.setLease_fltKept (s : State) (res : Nat) (l : Lease) : FltKept s (s.setLease res l) := ⟨rfl, rfl, id⟩

theorem State.setEpoch_fltKept (s : State) (res e : Nat) : FltKept s (s.setEpoch res e) := ⟨rfl, rfl, id⟩

theorem State.grantNext_fltKept (s : State) (res : Nat) : FltKept s (s.grantNext res) := by
  unfold State.grantNext
  split
  · exact .refl s
  · exact ((State.endDesc_moves ..).fltKept rfl).then ⟨rfl, rfl, id⟩

theorem State.fence_fltKept (s : State) (res ctx : Nat) : FltKept s (s.fence res ctx) :=
  (State.grantNext_fltKept ..).then <| (State.record_fltKept ..).then <| (State.setLease_fltKept ..).then (State.setEpoch_fltKept ..)

theorem State.rollback_fltKept (s : State) (det : Nat) : FltKept s (s.rollback det) := by
  unfold State.rollback
  split
  · exact .refl s
  · exact ((State.flagOpen_moves ..).fltKept rfl).then <| ((State.bump_moves ..).fltKept rfl).then <| (State.record_fltKept ..).then <|
      (State.fence_fltKept ..).then ⟨rfl, rfl, fun _ => rfl⟩

theorem State.withdrawTakes_fltKept (s : State) (c : Nat) : FltKept s (s.withdrawTakes c) := .foldl _ (.refl s) fun _ _ => State.setLease_fltKept ..

theorem State.fenceLeases_fltKept (s : State) (c : Nat) : FltKept s (s.fenceLeases c) := .foldl _ (.refl s) fun x r => .ite (x.fence_fltKept r c) (.refl x)

theorem State.fenceContext_fltKept (s : State) (c : Nat) : FltKept s (s.fenceContext c) :=
  (State.fenceLeases_fltKept ..).then <| .ite ((State.rollback_fltKept ..).then (s.withdrawTakes_fltKept c)) (s.withdrawTakes_fltKept c)

/-- A shadow that is discarded leaves no bracket open (R460). -/
theorem State.discardShadow_shut (s : State) : FltKept s s.discardShadow ∧ s.discardShadow.flt.bracket = none := by
  unfold State.discardShadow
  split
  · next h => exact ⟨.refl s, h⟩
  · exact ⟨(State.fence_fltKept ..).then ⟨rfl, rfl, fun _ => rfl⟩, (State.fence_fltKept ..).shut rfl⟩

/-! ### The end of a context's work (R138, R163) -/

theorem State.moveSlot_fltKept (s : State) (k : Nat) : FltKept s (s.moveSlot k) := ⟨rfl, rfl, id⟩

theorem State.dropRecv_fltKept (s : State) (r : RecvWin) : FltKept s (s.dropRecv r) := by
  unfold State.dropRecv
  extract_lets _ u v
  have hv : FltKept s v := .foldl _ ((State.setCmb_moves ..).fltKept rfl) fun _ _ => State.moveSlot_fltKept ..
  exact .ite ((State.fence_fltKept ..).then hv) hv

theorem State.dropCombine_fltKept (s : State) (c : Nat) : FltKept s (s.dropCombine c) := by
  unfold State.dropCombine
  extract_lets u v
  have hu : FltKept s u := by
    unfold u
    split
    · next r _ =>
      have hr (k : CombineUnit) : FltKept s ((r.slots.foldl (fun s x => s.moveSlot x.slot) s).setCmb k) :=
        ((State.setCmb_moves ..).fltKept rfl).then <| .foldl _ (.refl s) fun _ _ => State.moveSlot_fltKept ..
      exact .ite (.ite (hr _) ((State.record_fltKept ..).then (hr _))) (.refl s)
    · exact .refl s
  exact .foldl _ (.foldl _ hu fun _ _ => (State.dropSend_moves ..).fltKept rfl) fun x r => x.dropRecv_fltKept r

theorem State.dropCollect_fltKept (s : State) (c : Nat) : FltKept s (s.dropCollect c) := by
  refine .foldl _ (.refl s) fun x g => .ite ?_ (.refl x)
  have h : FltKept x (x.leaveGroup g false fun s _ _ => s) :=
    (State.leaveGroup_moves (m := 0xC10838) rfl (.refl _ x) fun _ _ _ hy => hy).fltKept rfl
  exact .ite ((State.record_fltKept ..).then <| (State.setEpoch_fltKept ..).then h) h

theorem State.dropWork_fltKept (s : State) (c : Nat) : FltKept s (s.dropWork c) :=
  ((State.discardCached_moves ..).fltKept rfl).then <| ((State.unreserve_moves ..).fltKept rfl).then <| ((State.dropLink_moves ..).fltKept rfl).then <|
    (State.dropCollect_fltKept ..).then <| (State.dropCombine_fltKept ..).then <| ((State.dropIngest_moves ..).fltKept rfl).then
      ((State.dropJobs_moves ..).fltKept rfl)

theorem State.teardown_fltKept (s : State) (c cause : Nat) : FltKept s (s.teardown c cause) :=
  (State.fenceContext_fltKept ..).then <| (State.dropWork_fltKept ..).then ((State.setCtx_moves ..).fltKept rfl)

end Sys2Proof.Machine
end

section
/-! PROOFS. A fault of a context in parts: what its descriptors complete with, what is reported, and the teardown (R126, R138); and what such a fault, the
loss of a port and a change of the unit maps leave of the views (R163, R463, R468, R493). -/

namespace Sys2Proof.Machine

variable {o s t : State} {c code detail unit : Nat} {idx : Option Nat} {entry : Bool}

/-- The descriptor that caused a fault completes with its code, and with it the SENDs pipelined to a LAYER; without one an entry may be written. -/
def State.faultAnswered (s : State) (c code detail : Nat) (idx : Option Nat) (entry : Bool) : State :=
  match idx.bind (s.desc c) with
  | some d =>
    let send := if d.kind = kindLayer then s.nextSend c d.idx d.outBase else none
    let s := (s.complete c d code detail 0).failPiped c d.idx code detail
    match send with
    | some x => s.complete c x code detail 0
    | none => s
  | none => if entry then s.completeNone c code detail else s

/-- The ring stops with the code of the fault, and a record and an event report it. -/
def State.faultReported (s : State) (c code detail unit : Nat) : State :=
  (((s.setRing c { s.ring c with lastCode := code, state := .stopped }).record 1 1 code c unit detail).bump 0xE0040 32 1).event 1 code c detail

/-- A fault of an OPEN context up to its teardown. -/
def State.faulted (s : State) (c code detail : Nat) (idx : Option Nat) (entry : Bool) (unit : Nat) : State :=
  (((s.dropJobs c).faultAnswered c code detail idx entry).completeRest c 0x4E 0).faultReported c code detail unit

theorem State.contextFault_open (h : (s.ctx c).state = .open_) :
    s.contextFault c code detail idx entry unit = (s.faulted c code detail idx entry unit).teardown c (if code = 0x4E then 2 else 1) := if_pos h

theorem State.contextFault_closed (h : (s.ctx c).state ≠ .open_) :
    s.contextFault c code detail idx entry unit = (s.record 1 1 code c unit detail).bump 0xE0040 32 1 := if_neg h

theorem State.faultAnswered_moves (s : State) (c code detail : Nat) (idx : Option Nat) (entry : Bool) :
    Moves 0x651838 s (s.faultAnswered c code detail idx entry) := by
  unfold State.faultAnswered
  split
  · next d _ =>
    have h : Moves 0x651838 s ((s.complete c d code detail 0).failPiped c d.idx code detail) :=
      (State.failPiped_moves ..).then rfl <| (State.complete_moves ..).mono rfl
    dsimp only
    split
    · exact (State.complete_moves ..).then rfl h
    · exact h
  · exact .ite ((State.completeNone_moves ..).mono rfl) (.refl _ s)

theorem State.faultReported_moves (s : State) (c code detail unit : Nat) : Moves 0x1583C s (s.faultReported c code detail unit) :=
  (State.event_moves ..).then rfl <| (State.bump_moves ..).then rfl <| (State.record_moves ..).then rfl <| (State.setRing_moves ..).mono rfl

theorem State.faulted_moves (s : State) (c code detail : Nat) (idx : Option Nat) (entry : Bool) (unit : Nat) :
    Moves 0x16F5D3C s (s.faulted c code detail idx entry unit) :=
  (State.faultReported_moves ..).then rfl <| (State.completeRest_moves ..).then rfl <| (State.faultAnswered_moves ..).then rfl <|
    (State.dropJobs_moves ..).mono rfl

/-! ### Faults of contexts, and groups that are abandoned -/

theorem State.faulted_fltKept (s : State) (c code detail : Nat) (idx : Option Nat) (entry : Bool) (unit : Nat) :
    FltKept s (s.faulted c code detail idx entry unit) :=
  ((State.event_moves ..).fltKept rfl).then <| ((State.bump_moves ..).fltKept rfl).then <| (State.record_fltKept ..).then <|
    ((State.setRing_moves ..).fltKept rfl).then <| ((State.completeRest_moves ..).fltKept rfl).then <| ((State.faultAnswered_moves ..).fltKept rfl).then <|
      (State.dropJobs_moves ..).fltKept rfl

theorem State.contextFault_fltKept (s : State) (c code detail : Nat) (idx : Option Nat) (entry : Bool) (unit : Nat) :
    FltKept s (s.contextFault c code detail idx entry unit) := by
  by_cases h : (s.ctx c).state = .open_
  · rw [State.contextFault_open h]
    exact (State.teardown_fltKept ..).then (State.faulted_fltKept ..)
  · rw [State.contextFault_closed h]
    exact ((State.bump_moves ..).fltKept rfl).then (State.record_fltKept ..)

theorem State.engineFault_fltKept (s : State) (c idx detail unit : Nat) : FltKept s (s.engineFault c idx detail unit) := State.contextFault_fltKept ..

/-- A group that was abandoned waits again, with one attempt more; one of an engine is counted (R163, R279). -/
def State.readyAgain (s : State) (p : Nat) (o : Occupant) (kept : List (List Nat)) : State :=
  let s := match s.job o.ctx o.idx with
    | some j => s.setJob (j.setGroup o.group (fun g =>
        { g with at_ := .waiting, ready := some s.clk, attempts := g.attempts + 1, epoch := (s.reg 0xA0004).toNat, kept := kept }))
    | none => s
  if p < 16 then (s.bump (0xA010C + 0x40 * p) 32 1).flagOpen 0xA0008 0 11 noCtx else s

theorem State.abandon_free {p : Nat} (h : s.occupant p = none) : s.abandon p detail unit = (s, false) := by
  unfold State.abandon
  rw [h]

theorem State.abandon_lost {p : Nat} {y : Occupant} (h : s.occupant p = some y)
    (hg : (s.job y.ctx y.idx).bind (fun j => (j.group y.group).map (fun g => (j, g))) = none) :
    s.abandon p detail unit = (s.setOccupant p none, false) := by
  unfold State.abandon
  rw [h]
  dsimp only
  rw [hg]

/-- A group abandoned as often as REISSUE_LIMIT says ends its descriptor; any other is ready again. -/
theorem State.abandon_group {p : Nat} {y : Occupant} {j : Job} {g : Group} (h : s.occupant p = some y)
    (hg : (s.job y.ctx y.idx).bind (fun j => (j.group y.group).map (fun g => (j, g))) = some (j, g)) :
    s.abandon p detail unit = if (s.abandonGroup p j g).reissueLimit ≤ g.attempts + 1 then ((s.abandonGroup p j g).engineFault y.ctx y.idx detail unit, false)
      else ((s.abandonGroup p j g).readyAgain p y (s.keptRows p j g), true) := by
  unfold State.abandon
  rw [h]
  dsimp only
  rw [hg]
  rfl

theorem State.readyAgain_moves (s : State) (p : Nat) (y : Occupant) (kept : List (List Nat)) : Moves 0x9083C s (s.readyAgain p y kept) := by
  unfold State.readyAgain
  extract_lets u
  have hu : Moves 0x9083C s u := by
    unfold u
    split
    · exact (State.setJob_moves ..).mono rfl
    · exact .refl _ s
  exact .ite ((State.flagOpen_moves ..).then rfl <| (State.bump_moves ..).then rfl hu) hu

theorem State.abandon_fltKept (s : State) (p detail unit : Nat) : FltKept s (s.abandon p detail unit).1 := by
  cases h : s.occupant p with
  | none => rw [State.abandon_free h]; exact .refl s
  | some y =>
    cases hg : (s.job y.ctx y.idx).bind (fun j => (j.group y.group).map (fun g => (j, g))) with
    | none => rw [State.abandon_lost h hg]; exact (State.setOccupant_moves ..).fltKept rfl
    | some x =>
      have ha : FltKept s (s.abandonGroup p x.1 x.2) := (State.abandonGroup_moves ..).fltKept rfl
      rw [State.abandon_group h hg]
      split <;> dsimp only
      · exact (State.engineFault_fltKept ..).then ha
      · exact ((State.readyAgain_moves ..).fltKept rfl).then ha

theorem State.leaveEngine_fltKept (s : State) (p v : Nat) : FltKept s (s.leaveEngine p v) := .ite (.refl s) (s.abandon_fltKept ..)

theorem State.abortDesc_fltKept (s : State) (c idx code detail : Nat) : FltKept s (s.abortDesc c idx code detail) := by
  unfold State.abortDesc
  extract_lets u k v w x y z l
  have hv : FltKept s v := by
    have hu : FltKept s u := (State.endJobs_moves ..).fltKept rfl
    unfold v
    split
    · exact .ite (((State.setCmb_moves ..).fltKept rfl).then <| .foldl _ hu fun _ _ => State.moveSlot_fltKept ..) hu
    · exact hu
  have hx : FltKept s x := .foldl _ (((State.dropSend_moves ..).fltKept rfl).then hv) fun _ _ => State.dropRecv_fltKept ..
  have hz : FltKept s z := .foldl _ (.foldl _ hx fun _ _ => (State.dropColl_moves ..).fltKept rfl) fun _ _ => (State.dropDawn_moves ..).fltKept rfl
  exact ((State.schedule_moves ..).fltKept rfl).then <| ((State.endDesc_moves ..).fltKept rfl).then <| ((State.failPiped_moves ..).fltKept rfl).then <|
    ((State.setLnk_moves ..).fltKept rfl).then hz

/-! ### Ports whose traffic ends (R357, R376), and work that goes on -/

theorem State.failMsg_fltKept (s : State) (m : Msg) (code : Nat) : FltKept s (s.failMsg m code) := by
  unfold State.failMsg
  extract_lets u
  have hu : FltKept s u := by
    unfold u
    have htag (k : Nat) : FltKept s (s.freeTag k) := (State.freeTag_moves ..).fltKept rfl
    split
    · exact htag _
    · exact htag _
    · exact htag _
    · exact (State.closeKey_moves ..).fltKept rfl
    · exact .refl s
  split
  · exact .ite ((State.abortDesc_fltKept ..).then hu) hu
  · exact hu

theorem State.loseWaiting_fltKept (s : State) (gone : Peer → Bool) : FltKept s (s.loseWaiting gone) := by
  unfold State.loseWaiting
  exact .foldl _ (.foldl _ ((State.setCmb_moves ..).fltKept rfl) fun _ _ =>
      .ite ((State.abortDesc_fltKept ..).then ((State.setLnk_moves ..).fltKept rfl)) ((State.setLnk_moves ..).fltKept rfl))
    fun _ _ => (State.failMsg_fltKept ..).then ((State.setLnk_moves ..).fltKept rfl)

theorem State.losePeer_fltKept (s : State) (gone : Peer → Bool) : FltKept s (s.losePeer gone) := by
  unfold State.losePeer
  refine (State.loseWaiting_fltKept ..).then <| .foldl _ (.foldl _ (.refl s) fun _ _ => State.abortDesc_fltKept ..) fun x y => .ite ?_ (.refl x)
  have hx : FltKept x (x.freeTag y.1) := (State.freeTag_moves ..).fltKept rfl
  exact .ite ((State.abortDesc_fltKept ..).then hx) hx

theorem State.settleHold_fltKept (s : State) : FltKept s s.settleHold :=
  .foldl _ (.refl s) fun _ _ => (State.failMsg_fltKept ..).then ((State.setLnk_moves ..).fltKept rfl)

theorem State.reissue_fltKept (s : State) (m : Msg) : FltKept s (s.reissue m) := by
  have hs (y : Msg) : FltKept s (s.sendMsg y) := (State.sendMsg_moves ..).fltKept rfl
  unfold State.reissue
  exact .ite (.refl s) (.ite (hs _) (.ite (hs _) (s.failMsg_fltKept ..)))

theorem State.returned_fltKept (s : State) (m : Msg) : FltKept s (s.returned m) := by
  have hu : FltKept s (s.holdMsg m).settleHold := (State.settleHold_fltKept _).then ((State.holdMsg_moves ..).fltKept rfl)
  unfold State.returned
  exact .ite (.refl s) (.ite hu (.ite ((State.reissue_fltKept ..).then <| ((State.setLnk_moves ..).fltKept rfl).then hu) hu))

theorem State.emptyPort_fltKept (s : State) (p : Nat) : FltKept s (s.emptyPort p) := by
  have hbounce (x : State) (p cls : Nat) (dl : Bool) (src seg : Nat) (raw : List Byte) : FltKept x (x.bounce p cls dl src seg raw) :=
    (State.bounce_moves ..).fltKept rfl
  unfold State.emptyPort
  extract_lets q live sent probe q' u own v w
  have hu : FltKept s u := (State.setPort_moves ..).fltKept rfl
  have hv : FltKept s v := .ite (.foldl _ (((State.closeOwn_moves ..).fltKept rfl).then hu) fun _ _ =>
    (State.returned_fltKept ..).then <| ((State.lnkFlag_moves ..).fltKept rfl).then ((State.lnkCount_moves ..).fltKept rfl)) hu
  have hw : FltKept s w := .foldl _ hv fun x f => .ite (hbounce ..) (.refl x)
  exact ((State.unpark_moves _).fltKept rfl).then <| .foldl _ hw fun x f =>
    .ite ((hbounce ..).then ((State.giveCredit_moves ..).fltKept rfl)) (.refl x)

theorem State.portStops_fltKept (s : State) (p : Nat) : FltKept s (s.portStops p) :=
  .ite ((State.losePeer_fltKept ..).then (s.emptyPort_fltKept p)) (s.emptyPort_fltKept p)

theorem State.unitStops_fltKept (s : State) (v : Nat) : FltKept s (s.unitStops v) :=
  .ite ((State.cmbFlag_moves ..).fltKept rfl) (.ite (s.portStops_fltKept _) (.refl s))

theorem State.matchOffers_fltKept (s : State) : FltKept s s.matchOffers := by
  have hgrant (x : State) : FltKept x x.grantAll := (State.grantAll_moves x).fltKept rfl
  unfold State.matchOffers
  refine .ite (.refl s) ((hgrant _).then <| .foldl _ (.refl s) fun x y => ?_)
  split
  · exact .refl x
  · exact .ite (((State.setRecv_moves ..).fltKept rfl).then <| (State.setEpoch_fltKept ..).then ((State.setCmb_moves ..).fltKept rfl))
      (((State.answer_moves ..).fltKept rfl).then ((State.setCmb_moves ..).fltKept rfl))

theorem State.goOn_fltKept (s : State) : FltKept s s.goOn :=
  ((State.scheduleAll_moves _).fltKept rfl).then <| ((State.fetchAll_moves _).fltKept rfl).then <| (State.matchOffers_fltKept _).then
    ((State.announceLate_moves s).fltKept rfl)

theorem State.unitGoesOn_fltKept (s : State) (v : Nat) : FltKept s (s.unitGoesOn v) :=
  (State.goOn_fltKept _).then <| .ite ((State.pump_moves ..).fltKept rfl) (.ite ((State.unpark_moves s).fltKept rfl) (.refl s))

/-! ### Defect-map entries -/

theorem State.remapDone_fltKept (s : State) (idx : Nat) (e : DEntry) (unit : Nat) : FltKept s (s.remapDone idx e unit) :=
  ((State.repairFlag_moves ..).fltKept rfl).then (State.record_fltKept ..)

theorem State.noteApplied_fltKept (s : State) (e : DEntry) (unit : Nat) : FltKept s (s.noteApplied e unit) := by
  unfold State.noteApplied
  extract_lets e'
  have h : FltKept s ((s.supersede e').noteEntry e').2 := ((State.noteEntry_moves ..).snd.fltKept rfl).then ((State.supersede_moves ..).fltKept rfl)
  generalize (s.supersede e').noteEntry e' = x at h
  obtain ⟨i | i, u⟩ := x
  · exact (State.remapDone_fltKept ..).then <| ((State.takeFree_moves u).snd.fltKept rfl).then h
  · exact (State.remapDone_fltKept ..).then h

end Sys2Proof.Machine
end

section
/-! PROOFS. How a ring stands: its STATE and LAST_CODE are left by fences and by the end of a context's work, and a package-class fault stops every ring, shuts
the bracket and faults every context at work (R127, R138, R468). -/

namespace Sys2Proof.Machine

variable {o s t : State} {c : Nat}

/-- STATE and LAST_CODE of a ring. -/
def Ring.standing (r : Ring) : RingState × Nat := (r.state, r.lastCode)

/-- Every ring stands as before. -/
structure RingsStand (s t : State) : Prop where
  inv : Inv s → Inv t
  stand : Inv s → ∀ c, (t.ring c).standing = (s.ring c).standing

theorem RingsStand.refl (s : State) : RingsStand s s := ⟨id, fun _ _ => rfl⟩

theorem RingsStand.then (h' : RingsStand s t) (h : RingsStand o s) : RingsStand o t :=
  ⟨h'.inv ∘ h.inv, fun i c => (h'.stand (h.inv i) c).trans (h.stand i c)⟩

theorem RingsStand.ite {p : Prop} [Decidable p] {a b : State} (ha : RingsStand o a) (hb : RingsStand o b) : RingsStand o (if p then a else b) := by
  split <;> assumption

theorem RingsStand.foldl {α : Type} {f : State → α → State} (l : List α) (h : RingsStand o s) (hf : ∀ x a, RingsStand x (f x a)) :
    RingsStand o (l.foldl f s) := by
  induction l generalizing s with
  | nil => exact h
  | cons a l ih => exact ih ((hf s a).then h)

theorem RingsStand.state (h : RingsStand s t) (i : Inv s) (c : Nat) : (t.ring c).state = (s.ring c).state := congrArg Prod.fst (h.stand i c)

theorem RingsStand.lastCode (h : RingsStand s t) (i : Inv s) (c : Nat) : (t.ring c).lastCode = (s.ring c).lastCode := congrArg Prod.snd (h.stand i c)

/-- What leaves the rings leaves how they stand. -/
theorem Moves.ringsStand {m : Nat} (h : Moves m s t) (hm : m.testBit 12 = false) : RingsStand s t := ⟨h.inv, fun _ c => by rw [h.ring hm c]⟩

theorem State.ring_setRing_other (s : State) {k : Nat} (r : Ring) (h : k ≠ c) : (s.setRing c r).ring k = s.ring k :=
  tabGet_tabSet_other _ s.rings c k r h

/-! ### The end of a context's work -/

theorem State.setRing_ringsStand {r : Ring} (h : r.standing = (s.ring c).standing) : RingsStand s (s.setRing c r) := by
  refine ⟨fun i => State.setRing_inv i c r, fun i k => ?_⟩
  by_cases hk : k = c
  · subst hk
    rw [State.ring_setRing_same i, h]
  · rw [State.ring_setRing_other s r hk]

theorem State.setDesc_ringsStand (s : State) (c : Nat) (d : Desc) : RingsStand s (s.setDesc c d) := State.setRing_ringsStand rfl

theorem State.endDesc_ringsStand (s : State) (c idx code detail epoch : Nat) : RingsStand s (s.endDesc c idx code detail epoch) := by
  have h : RingsStand s (s.unreserve (Reservation.ofDesc c idx)) := (State.unreserve_moves ..).ringsStand rfl
  unfold State.endDesc
  dsimp only
  split
  · exact (State.setDesc_ringsStand ..).then h
  · exact h

theorem State.addEnergy_ringsStand (s : State) (c idx uj : Nat) : RingsStand s (s.addEnergy c idx uj) := by
  unfold State.addEnergy
  split
  · exact s.setDesc_ringsStand ..
  · exact .refl s

theorem State.abandonGroup_ringsStand (s : State) (p : Nat) (j : Job) (g : Group) : RingsStand s (s.abandonGroup p j g) := by
  have hpart : RingsStand s (if g.at_ = .running p then s.partialOutput j g p else s) := .ite ((State.partialOutput_moves ..).ringsStand rfl) (.refl s)
  exact (State.addEnergy_ringsStand ..).then <| ((State.countOccupancy_moves ..).ringsStand rfl).then <| ((State.settle_moves ..).ringsStand rfl).then <|
    ((State.setOccupant_moves ..).ringsStand rfl).then <| ((State.takeFree_moves _).snd.ringsStand rfl).then hpart

theorem State.endJobs_ringsStand (s : State) (gone : Nat × Nat → Bool) : RingsStand s (s.endJobs gone) := by
  unfold State.endJobs
  extract_lets u v
  have hu : RingsStand s u := .foldl _ (.refl s) fun x p => by
    split
    · refine .ite ?_ (.refl x)
      split
      · exact State.abandonGroup_ringsStand ..
      · exact (State.setOccupant_moves ..).ringsStand rfl
    · exact .refl x
  exact ((State.setWork_moves ..).ringsStand rfl).then <| .ite (((State.leaveRoute_moves ..).ringsStand rfl).then hu) hu

theorem State.grantNext_ringsStand (s : State) (res : Nat) : RingsStand s (s.grantNext res) := by
  unfold State.grantNext
  split
  · exact .refl s
  · exact (State.endDesc_ringsStand ..).then <| ((State.grantLease_moves ..).ringsStand rfl).then ((State.setLease_moves ..).ringsStand rfl)

theorem State.fence_ringsStand (s : State) (res ctx : Nat) : RingsStand s (s.fence res ctx) :=
  (State.grantNext_ringsStand ..).then <| ((State.record_moves ..).ringsStand rfl).then <| ((State.setLease_moves ..).ringsStand rfl).then <|
    (State.setEpoch_moves ..).ringsStand rfl

/-- Chapter 15's state with its bracket shut. -/
theorem shut_ringsStand (s : State) : RingsStand s { s with flt := { s.flt with bracket := none } } :=
  (Moves.flt (m := 0x4000) { s.flt with bracket := none } rfl rfl (.refl _ s)).ringsStand rfl

theorem State.rollback_ringsStand (s : State) (det : Nat) : RingsStand s (s.rollback det) := by
  unfold State.rollback
  split
  · exact .refl s
  · exact ((State.flagOpen_moves ..).ringsStand rfl).then <| ((State.bump_moves ..).ringsStand rfl).then <| ((State.record_moves ..).ringsStand rfl).then <|
      (State.fence_ringsStand ..).then (shut_ringsStand s)

theorem State.discardShadow_ringsStand (s : State) : RingsStand s s.discardShadow := by
  unfold State.discardShadow
  split
  · exact .refl s
  · exact (State.fence_ringsStand ..).then (shut_ringsStand s)

theorem State.dropRecv_ringsStand (s : State) (r : RecvWin) : RingsStand s (s.dropRecv r) := by
  unfold State.dropRecv
  extract_lets _ u v
  have hv : RingsStand s v := .foldl _ ((State.setCmb_moves ..).ringsStand rfl) fun _ _ => (State.moveSlot_moves ..).ringsStand rfl
  exact .ite ((State.fence_ringsStand ..).then hv) hv

theorem State.dropCombine_ringsStand (s : State) (c : Nat) : RingsStand s (s.dropCombine c) := by
  unfold State.dropCombine
  extract_lets u v
  have hu : RingsStand s u := by
    unfold u
    split
    · next r _ =>
      have hr (k : CombineUnit) : RingsStand s ((r.slots.foldl (fun s x => s.moveSlot x.slot) s).setCmb k) :=
        ((State.setCmb_moves ..).ringsStand rfl).then <| .foldl _ (.refl s) fun _ _ => (State.moveSlot_moves ..).ringsStand rfl
      exact .ite (.ite (hr _) (((State.record_moves ..).ringsStand rfl).then (hr _))) (.refl s)
    · exact .refl s
  exact .foldl _ (.foldl _ hu fun _ _ => (State.dropSend_moves ..).ringsStand rfl) fun x r => x.dropRecv_ringsStand r

theorem State.dropWork_ringsStand (s : State) (c : Nat) : RingsStand s (s.dropWork c) :=
  ((State.discardCached_moves ..).ringsStand rfl).then <| ((State.unreserve_moves ..).ringsStand rfl).then <|
    ((State.dropLink_moves ..).ringsStand rfl).then <| ((State.dropCollect_moves ..).ringsStand rfl).then <| (State.dropCombine_ringsStand ..).then <|
      ((State.dropIngest_moves ..).ringsStand rfl).then (State.endJobs_ringsStand ..)

theorem State.fenceLeases_ringsStand (s : State) (c : Nat) : RingsStand s (s.fenceLeases c) :=
  .foldl _ (.refl s) fun x r => .ite (x.fence_ringsStand r c) (.refl x)

theorem State.fenceContext_ringsStand (s : State) (c : Nat) : RingsStand s (s.fenceContext c) := by
  have h : RingsStand s (s.withdrawTakes c) := (State.withdrawTakes_moves ..).ringsStand rfl
  exact (State.fenceLeases_ringsStand ..).then <| .ite ((State.rollback_ringsStand ..).then h) h

theorem State.teardown_ringsStand (s : State) (c cause : Nat) : RingsStand s (s.teardown c cause) :=
  (State.fenceContext_ringsStand ..).then <| (State.dropWork_ringsStand ..).then ((State.setCtx_moves ..).ringsStand rfl)

/-! ### Completions of one context leave the rings of the others -/

/-- Every ring but that of context `c` is as before. -/
structure OtherRings (c : Nat) (s t : State) : Prop where
  other : ∀ k, k ≠ c → t.ring k = s.ring k

theorem OtherRings.refl (c : Nat) (s : State) : OtherRings c s s := ⟨fun _ _ => rfl⟩

theorem OtherRings.then (h' : OtherRings c s t) (h : OtherRings c o s) : OtherRings c o t := ⟨fun k hk => (h'.other k hk).trans (h.other k hk)⟩

theorem OtherRings.ite {p : Prop} [Decidable p] {a b : State} (ha : OtherRings c o a) (hb : OtherRings c o b) : OtherRings c o (if p then a else b) := by
  split <;> assumption

theorem OtherRings.foldl {α : Type} {f : State → α → State} (l : List α) (h : OtherRings c o s) (hf : ∀ x a, OtherRings c x (f x a)) :
    OtherRings c o (l.foldl f s) := by
  induction l generalizing s with
  | nil => exact h
  | cons a l ih => exact ih ((hf s a).then h)

theorem Moves.otherRings {m : Nat} (h : Moves m s t) (hm : m.testBit 12 = false) (c : Nat) : OtherRings c s t := ⟨fun k _ => h.ring hm k⟩

theorem State.setRing_otherRings (s : State) (c : Nat) (r : Ring) : OtherRings c s (s.setRing c r) := ⟨fun _ => State.ring_setRing_other s r⟩

theorem State.drained_otherRings (s : State) (c : Nat) : OtherRings c s (s.drained c) := .ite (s.setRing_otherRings c _) (.refl c s)

theorem State.signalRing_otherRings (s : State) (c : Nat) : OtherRings c s (s.signalRing c) :=
  ((State.signalVector_moves ..).otherRings rfl c).then (s.setRing_otherRings c _)

theorem State.writeCpl_otherRings (s : State) (c : Nat) : OtherRings c s (s.writeCpl c) := by
  unfold State.writeCpl
  split
  · exact .refl c s
  · refine .ite ?_ (.refl c s)
    extract_lets r i a n cnt sig first u
    have hu : OtherRings c s u := ((State.toHost_moves ..).otherRings rfl c).then (s.setRing_otherRings c _)
    exact (State.drained_otherRings ..).then <| .ite ((State.signalRing_otherRings ..).then hu) hu

theorem State.writeCpls_otherRings (c n : Nat) (s : State) : OtherRings c s (s.writeCpls c n) := by
  induction n generalizing s with
  | zero => exact .refl c s
  | succ n ih => exact (ih _).then (s.writeCpl_otherRings c)

theorem State.complete_otherRings (s : State) (c : Nat) (d : Desc) (code detail epoch : Nat) : OtherRings c s (s.complete c d code detail epoch) := by
  have hb (r : Ring) : OtherRings c s ((s.bindLive c d.idx).setRing c r) :=
    (State.setRing_otherRings ..).then ((State.bindLive_moves ..).otherRings rfl c)
  unfold State.complete
  exact .ite ((State.drained_otherRings ..).then (hb _)) ((State.writeCpls_otherRings ..).then (hb _))

theorem State.completeRest_otherRings (s : State) (c code detail : Nat) : OtherRings c s (s.completeRest c code detail) := by
  refine .foldl _ (.refl c s) fun x d => ?_
  split
  · exact x.complete_otherRings ..
  · exact x.complete_otherRings ..
  · exact .ite (x.complete_otherRings ..) (x.complete_otherRings ..)
  · exact .refl c x

/-! ### A package-class fault -/

/-- One ring's part of R127: its descriptors complete, and it stops. -/
def State.loseRing (slot : Nat) (hostDead : Bool) (s : State) (c : Nat) : State :=
  let active := decide ((s.ring c).state = .active) || decide ((s.ring c).state = .draining)
  let s := if hostDead then s.setRing c { s.ring c with window := [], reserve := [] } else s.completeRest c 0x4F slot
  let r := s.ring c
  s.setRing c { r with state := .stopped, lastCode := if active then 0x4F else r.lastCode }

theorem State.loseRings_eq (s : State) (slot : Nat) (hostDead : Bool) : s.loseRings slot hostDead = ctxRange.foldl (State.loseRing slot hostDead) s := rfl

theorem State.loseRing_otherRings (s : State) (slot : Nat) (hostDead : Bool) (c : Nat) : OtherRings c s (s.loseRing slot hostDead c) :=
  (State.setRing_otherRings ..).then <| .ite (s.setRing_otherRings c _) (s.completeRest_otherRings ..)

theorem State.loseRing_stops (i : Inv s) (slot : Nat) (hostDead : Bool) (c : Nat) :
    Inv (s.loseRing slot hostDead c) ∧ ((s.loseRing slot hostDead c).ring c).state = .stopped := by
  unfold State.loseRing
  extract_lets active _ u r
  have hu : Inv u := by
    unfold u
    split
    · exact State.setRing_inv i c _
    · exact (State.completeRest_moves ..).inv i
  exact ⟨State.setRing_inv hu c _, by rw [State.ring_setRing_same hu]⟩

theorem State.loseRings_stops (i : Inv s) (slot : Nat) (hostDead : Bool) : ∀ c ∈ ctxRange, ((s.loseRings slot hostDead).ring c).state = .stopped := by
  rw [State.loseRings_eq]
  refine foldl_each (Q := fun x _ => Inv x) (P := fun x k => (x.ring k).state = .stopped) (fun x a i => ?_) (fun x a _ _ i => ?_) (fun x a k hk e => ?_)
    ctxRange s ctxRange_nodup fun _ _ => i
  · exact (State.loseRing_stops i slot hostDead a).2
  · exact (State.loseRing_stops i slot hostDead a).1
  · rw [(x.loseRing_otherRings slot hostDead a).other k hk, e]

/-- One context's part of R468: what it holds is given up, and it is FAULTED. -/
def State.faultCtx (s : State) (c : Nat) : State :=
  if (s.ctx c).state = .open_ ∨ (s.ctx c).state = .teardown then
    let t := ((s.dropWork c).withdrawTakes c).fenceLeases c
    t.setCtx c { t.ctx c with state := .faulted }
  else s

theorem State.faultCtx_inv (s : State) (c : Nat) (i : Inv s) : Inv (s.faultCtx c) := by
  unfold State.faultCtx
  split
  · exact (State.setCtx_moves ..).inv ((s.tornDown_given c).inv i)
  · exact i

theorem State.faultCtx_other (s : State) {k : Nat} (hk : k ≠ c) : (s.faultCtx c).ctx k = s.ctx k := by
  unfold State.faultCtx
  split
  · exact (State.ctx_setCtx_other _ _ hk).trans ((s.tornDown_given c).ctx rfl k)
  · rfl

theorem State.faultCtx_faults (i : Inv s) (h : (s.ctx c).state = .open_ ∨ (s.ctx c).state = .teardown) : ((s.faultCtx c).ctx c).state = .faulted := by
  rw [State.faultCtx, if_pos h]
  exact congrArg Ctx.state (State.ctx_setCtx_same ((s.tornDown_given c).inv i) c _)

theorem State.faultCtx_fltKept (s : State) (c : Nat) : FltKept s (s.faultCtx c) :=
  .ite (((State.setCtx_moves ..).fltKept rfl).then <| (State.fenceLeases_fltKept ..).then <| (State.withdrawTakes_fltKept ..).then (s.dropWork_fltKept c))
    (.refl s)

theorem State.faultCtx_ringsStand (s : State) (c : Nat) : RingsStand s (s.faultCtx c) :=
  .ite (((State.setCtx_moves ..).ringsStand rfl).then <| (State.fenceLeases_ringsStand ..).then <|
    ((State.withdrawTakes_moves ..).ringsStand rfl).then (s.dropWork_ringsStand c)) (.refl s)

/-- Every context at work is FAULTED. -/
def State.faultCtxs (s : State) : State := ctxRange.foldl State.faultCtx s

theorem State.faultCtxs_faults (i : Inv s) :
    ∀ c ∈ ctxRange, (s.ctx c).state = .open_ ∨ (s.ctx c).state = .teardown → (s.faultCtxs.ctx c).state = .faulted :=
  foldl_each (Q := fun x k => Inv x ∧ x.ctx k = s.ctx k)
    (P := fun x k => (s.ctx k).state = .open_ ∨ (s.ctx k).state = .teardown → (x.ctx k).state = .faulted)
    (fun _ _ hx h => State.faultCtx_faults hx.1 (hx.2 ▸ h)) (fun x _ _ hk hx => ⟨x.faultCtx_inv _ hx.1, (x.faultCtx_other hk).trans hx.2⟩)
    (fun x _ _ hk e h => (congrArg Ctx.state (x.faultCtx_other hk)).trans (e h)) ctxRange s ctxRange_nodup fun _ _ => ⟨i, rfl⟩

theorem State.portsLost_fltKept (s : State) : FltKept s s.portsLost := by
  refine ((State.setLnk_moves ..).fltKept rfl).then <| .foldl _ (.refl s) fun x p => ?_
  unfold State.portLost
  extract_lets q t had l u
  have ht : FltKept x t := ((State.setPort_moves ..).fltKept rfl).then ((State.portTo_moves ..).fltKept rfl)
  have hu : FltKept x u := ((State.setLnk_moves ..).fltKept rfl).then ht
  exact .ite (.refl x) (.ite (((State.parentLost_moves ..).fltKept rfl).then ht) (.ite ((State.record_fltKept ..).then hu) hu))

/-- The stacks of the bank dies at work enter self-refresh. -/
def State.refreshStacks (s : State) : State :=
  (List.range 4).foldl (fun s n => if (s.bank n).phase = .active then s.setBank n { s.bank n with selfRefresh := true } else s) s

theorem State.refreshStacks_moves (s : State) : Moves 0x400 s s.refreshStacks :=
  .foldl _ (.refl _ s) fun _ _ h => .ite ((State.setBank_moves ..).then rfl h) h

/-- A package-class fault up to the rings: its record, its marks, and the groups that are abandoned. -/
def State.faultMarked (s : State) (source code unit detail : Nat) (hostDead : Bool) : State :=
  let s := (s.record 2 source code noCtx unit detail).bump 0xE0044 32 1
  let cold := s.flt.pkgCold || (decide (source = 1) && (decide (code = 0x16) || decide (code = 0x17)))
  let dead := s.host.dead || hostDead
  let s := { s with flt := { s.flt with pkgFault := true, pkgCold := cold }, host := { s.host with dead := dead } }
  ctxRange.foldl (fun s c => s.dropJobs c) s

/-- The slot of the record that is written first. -/
def State.faultSlot (s : State) (source code unit detail : Nat) : Nat := ((s.record 2 source code noCtx unit detail).bump 0xE0044 32 1).flt.head

/-- What a package-class fault leaves once the rings have stopped, up to its event flag. -/
def State.severed (s : State) : State :=
  let s := s.discardShadow.faultCtxs
  (s.setCmb { s.cmb with offers := [] }).portsLost.refreshStacks

theorem State.packageFault_eq (s : State) (source code unit detail : Nat) (hostDead : Bool) :
    s.packageFault source code unit detail hostDead =
      (((s.faultMarked source code unit detail hostDead).loseRings (s.faultSlot source code unit detail) hostDead).severed).flag 0xE0008 0 15 noCtx
        (s.faultSlot source code unit detail) := by
  unfold State.packageFault State.severed
  extract_lets s1 slot cold dead f host s2 s3 s4 s5 s6 c6 s7 s8 t5 c7
  have h8 : s8 = s7.refreshStacks := rfl
  have h7 : s7 = (s6.setCmb { s6.cmb with offers := [] }).portsLost := rfl
  have h6 : s6 = t5 := rfl
  rw [h8, h7, h6]
  rfl

theorem State.faultMarked_moves (s : State) (source code unit detail : Nat) (hostDead : Bool) :
    Moves 0x14B5D3C s (s.faultMarked source code unit detail hostDead) := by
  have h : Moves 0x14B5D3C s ((s.record 2 source code noCtx unit detail).bump 0xE0044 32 1) :=
    (State.bump_moves ..).then rfl <| (State.record_moves ..).mono rfl
  unfold State.faultMarked
  extract_lets u cold dead _ _ v
  have hv : Moves 0x14B5D3C s v := h.put (fun p => by cases p <;> first | exact fun _ => rfl | exact bit_in rfl) rfl
  exact .foldl _ hv fun _ _ hx => (State.dropJobs_moves ..).then rfl hx

theorem State.faultMarked_fltKept (s : State) (source code unit detail : Nat) (hostDead : Bool) :
    FltKept s (s.faultMarked source code unit detail hostDead) := by
  have h : FltKept s ((s.record 2 source code noCtx unit detail).bump 0xE0044 32 1) := ((State.bump_moves ..).fltKept rfl).then (State.record_fltKept ..)
  exact .foldl _ ⟨h.dp, h.mgmt, h.shut⟩ fun _ _ => (State.dropJobs_moves ..).fltKept rfl

theorem State.severed_fltKept (s : State) : FltKept s s.severed ∧ s.severed.flt.bracket = none := by
  obtain ⟨hd, hb⟩ := s.discardShadow_shut
  have hf : FltKept s.discardShadow s.severed := ((State.refreshStacks_moves _).fltKept rfl).then <| (State.portsLost_fltKept _).then <|
    ((State.setCmb_moves ..).fltKept rfl).then <| .foldl _ (.refl _) State.faultCtx_fltKept
  exact ⟨hf.then hd, hf.shut hb⟩

theorem State.severed_ringsStand (s : State) : RingsStand s s.severed :=
  ((State.refreshStacks_moves _).ringsStand rfl).then <| ((State.portsLost_moves _).ringsStand rfl).then <| ((State.setCmb_moves ..).ringsStand rfl).then <|
    .foldl _ s.discardShadow_ringsStand State.faultCtx_ringsStand

theorem State.severed_faults (i : Inv s) :
    ∀ c ∈ ctxRange, (s.ctx c).state = .open_ ∨ (s.ctx c).state = .teardown → (s.severed.ctx c).state = .faulted := by
  intro c hc h
  have hm : Moves 0x614E3C s.discardShadow.faultCtxs s.severed :=
    (State.refreshStacks_moves _).then rfl <| (State.portsLost_moves _).then rfl <| (State.setCmb_moves ..).mono rfl
  have hctx : s.discardShadow.ctx c = s.ctx c := (State.discardShadow_moves s).ctx rfl c
  rw [hm.ctx rfl c]
  exact State.faultCtxs_faults ((State.discardShadow_moves s).inv i) c hc (by rwa [hctx])

/-- A package-class fault leaves the views of every unit. -/
theorem State.packageFault_fltKept (s : State) (source code unit detail : Nat) (hostDead : Bool) :
    FltKept s (s.packageFault source code unit detail hostDead) := by
  rw [State.packageFault_eq]
  exact ((State.flag_moves ..).fltKept rfl).then <| (State.severed_fltKept _).1.then <| ((State.loseRings_moves ..).fltKept rfl).then <|
    s.faultMarked_fltKept ..

end Sys2Proof.Machine
end

section
/-! PROOFS. Contexts that open, close, are torn down and end their teardown (R134 to R138, R508), and the statement on them (O29). -/

namespace Sys2Proof.Machine

variable {s : State} {c : CtxId}

/-! ### OPEN (R135) -/

theorem exec_ctxOpen (hs : s.served) : exec (.ctxOpen c) s = .next ((s.dropLatches (0x2004 + 0x40 * c.val)).openContext c.val .host) :=
  congrArg Host.Outcome.next (State.onWrite_open _ (fun _ => hs.1) hs.2)

theorem State.clearCounters_zero (i : Inv s) (c : Nat) {k : Nat} (hk : k < 9) : (s.clearCounters c).reg (0x200C + 0x40 * c + 4 * k) = 0 := by
  refine foldl_each (Q := fun x _ => Inv x) (P := fun x k => x.reg (0x200C + 0x40 * c + 4 * k) = 0) (fun x a i => reg_setReg_same i _ _)
    (fun x a _ _ i => (State.setReg_moves ..).inv i) (fun x a k hne h => ?_) (List.range 9) s List.nodup_range (fun _ _ => i) k (List.mem_range.2 hk)
  rw [reg_setReg_other _ _ (by omega), h]

/-- OPEN leaves VT's own registers apart from the counters of Table 5.2, which read 0. -/
theorem State.openContext_opens (i : Inv s) {c : Nat} (hc : (s.ctx c).state = .free) (hr : (s.ring c).state = .closed) (hv : s.rootValid c = true)
    (who : Reader) : let u := s.openContext c who
    (u.ctx c).state = .open_ ∧ (u.ctx c).gen = ((s.ctx c).gen + 1) % 65536 ∧ u.mem = s.mem ∧ ∀ k < 7, u.reg (0x2014 + 0x40 * c + 4 * k) = 0 := by
  rw [State.openContext, if_pos ⟨hc, hr, hv⟩]
  extract_lets others vt x u
  have hclear : Moves 0x20 s (s.clearCounters c) := State.clearCounters_moves ..
  have hm : Moves 0x20 s ((s.clearCounters c).setVt c vt) := (State.setVt_moves ..).then rfl hclear
  have hctx : u.ctx c = { s.ctx c with state := .open_, gen := ((s.ctx c).gen + 1) % 65536 } := State.ctx_setCtx_same (hm.inv i) c _
  refine ⟨by rw [hctx], by rw [hctx], ((State.setCtx_moves ..).off .memory rfl).trans (hm.off .memory rfl), fun k hk => ?_⟩
  have hoff : 0x2014 + 0x40 * c + 4 * k = 0x200C + 0x40 * c + 4 * (k + 2) := by omega
  calc u.reg (0x2014 + 0x40 * c + 4 * k) = ((s.clearCounters c).setVt c vt).reg (0x2014 + 0x40 * c + 4 * k) := (State.setCtx_moves ..).reg rfl _
    _ = (s.clearCounters c).reg (0x2014 + 0x40 * c + 4 * k) :=
      (reg_setReg_other _ _ (by omega)).trans (reg_setReg_other _ _ (by omega))
    _ = 0 := by rw [hoff, State.clearCounters_zero i c (by omega)]

theorem State.openContext_locked {c : Nat} (h : (s.ctx c).state ≠ .free ∨ (s.ring c).state ≠ .closed ∨ s.rootValid c = false) (who : Reader) :
    s.openContext c who = s.locked (0x2004 + 0x40 * c) who := by
  rw [State.openContext, if_neg]
  rintro ⟨hc, hr, hv⟩
  rcases h with h | h | h
  · exact h hc
  · exact h hr
  · rw [hv] at h
    exact absurd h (by decide)

/-! ### CLOSE (R136) -/

theorem exec_ctxClose (hs : s.served) : exec (.ctxClose c) s = .next ((s.dropLatches (0x2004 + 0x40 * c.val)).closeContext c.val .host) :=
  congrArg Host.Outcome.next (State.onWrite_open _ (fun _ => hs.1) hs.2)

theorem State.closeContext_faulted {c : Nat} (hr : (s.ring c).state = .closed) (hc : (s.ctx c).state = .faulted) (who : Reader) :
    s.closeContext c who = s.setCtx c { s.ctx c with state := .free } := by
  rw [State.closeContext, if_neg (not_not.2 hr), hc]

theorem State.closeContext_open {c : Nat} (hr : (s.ring c).state = .closed) (hc : (s.ctx c).state = .open_) (who : Reader) :
    s.closeContext c who =
      (((s.dropWork c).fenceContext c).setCtx c { ((s.dropWork c).fenceContext c).ctx c with state := .free }).schedule none := by
  rw [State.closeContext, if_neg (not_not.2 hr), hc]

theorem State.closeContext_locked {c : Nat} (h : (s.ring c).state ≠ .closed ∨ (s.ctx c).state = .free ∨ (s.ctx c).state = .teardown) (who : Reader) :
    s.closeContext c who = s.locked (0x2004 + 0x40 * c) who := by
  unfold State.closeContext
  split
  · rfl
  · next hr =>
    rcases h with h | h | h
    · exact absurd h hr
    · rw [h]
    · rw [h]

theorem State.closeContext_frees (i : Inv s) {c : Nat} (hr : (s.ring c).state = .closed) (hc : (s.ctx c).state = .faulted ∨ (s.ctx c).state = .open_)
    (who : Reader) : ((s.closeContext c who).ctx c).state = .free ∧ ((s.closeContext c who).ctx c).gen = (s.ctx c).gen := by
  rcases hc with hc | hc
  · rw [State.closeContext_faulted hr hc, State.ctx_setCtx_same i]
    exact ⟨rfl, rfl⟩
  · have hm : Moves 0x1EF5D3C s ((s.dropWork c).fenceContext c) := (State.fenceContext_moves ..).then rfl (s.dropWork_moves c)
    rw [State.closeContext_open hr hc, (State.schedule_moves ..).ctx rfl c, State.ctx_setCtx_same (hm.inv i), hm.ctx rfl c]
    exact ⟨rfl, rfl⟩

/-! ### TEARDOWN (R137, R138) -/

theorem exec_ctxTeardown (hs : s.served) : exec (.ctxTeardown c) s = .next ((s.dropLatches (0x2004 + 0x40 * c.val)).tearDown c.val .host) :=
  congrArg Host.Outcome.next (State.onWrite_open _ (fun _ => hs.1) hs.2)

/-- A fault of an OPEN context leaves it in TEARDOWN, its ring stopped with the code of the fault (R126, R138). -/
theorem State.contextFault_stops (i : Inv s) {c code detail unit : Nat} {idx : Option Nat} {entry : Bool} (hc : (s.ctx c).state = .open_) :
    let u := s.contextFault c code detail idx entry unit
    (u.ctx c).state = .teardown ∧ (u.ring c).state = .stopped ∧ (u.ring c).lastCode = code := by
  rw [State.contextFault_open hc, State.faulted]
  generalize hv : ((s.dropJobs c).faultAnswered c code detail idx entry).completeRest c 0x4E 0 = v
  have iv : Inv v := hv ▸ (State.completeRest_moves ..).inv ((State.faultAnswered_moves ..).inv ((State.dropJobs_moves ..).inv i))
  have ir : Inv (v.faultReported c code detail unit) := (State.faultReported_moves ..).inv iv
  have hring : (v.faultReported c code detail unit).ring c = { v.ring c with lastCode := code, state := .stopped } :=
    (((State.event_moves ..).ring rfl c).trans <| ((State.bump_moves ..).ring rfl c).trans <| (State.record_moves ..).ring rfl c).trans
      (State.ring_setRing_same iv c _)
  have hstand := (State.teardown_ringsStand (v.faultReported c code detail unit) c (if code = 0x4E then 2 else 1))
  refine ⟨?_, by rw [hstand.state ir, hring], by rw [hstand.lastCode ir, hring]⟩
  have hm : Moves 0x1EF5D3C ((v.faultReported c code detail unit).setCtx c
        { (v.faultReported c code detail unit).ctx c with state := .teardown, cause := if code = 0x4E then 2 else 1 })
      ((v.faultReported c code detail unit).teardown c (if code = 0x4E then 2 else 1)) :=
    (State.fenceContext_moves ..).then rfl (State.dropWork_moves ..)
  rw [hm.ctx rfl c, State.ctx_setCtx_same ir]

theorem State.tearDown_stops (i : Inv s) {c : Nat} (hc : (s.ctx c).state = .open_) (who : Reader) :
    let u := s.tearDown c who
    (u.ctx c).state = .teardown ∧ (u.ring c).state = .stopped ∧ (u.ring c).lastCode = 0x4E := by
  rw [State.tearDown, if_pos hc]
  dsimp only
  rw [(State.schedule_moves ..).ctx rfl c, (State.schedule_moves ..).ring rfl c]
  exact State.contextFault_stops i hc

theorem State.tearDown_locked {c : Nat} (h : (s.ctx c).state ≠ .open_) (who : Reader) : s.tearDown c who = s.locked (0x2004 + 0x40 * c) who := if_neg h

/-! ### TEARDOWN_DONE (R138 step 6, R508) -/

theorem exec_teardownDone : exec (.teardownDone c) s = .next
    (if (s.ctx c.val).state = .teardown ∧ !(s.lnk.tags.any (fun t => (t.2.map (fun r => decide (r.ctx = c.val))).getD false) ||
          decide (0 < (s.ring c.val).fetching) || s.writesHeld c.val) then
      [13, 25, 30, 34].foldl State.lostBit (s.setCtx c.val { s.ctx c.val with state := .faulted })
    else s) := rfl

theorem State.lostBit_high (i : Inv s) {j : Nat} (hj : j < 32) : (s.lostBit (32 + j)).rbit 0x514 j = true := by
  rw [State.lostBit, if_neg (by omega), Nat.add_sub_cancel_left, State.rbit, State.setFld, reg_setReg_same i]
  exact bitAt_wput_one _ hj

/-- The bits of the rows that a teardown loses stand in the reset-lost mask. -/
theorem State.lostBits_teardown (i : Inv s) : let u := [13, 25, 30, 34].foldl State.lostBit s
    u.rbit 0x510 13 = true ∧ u.rbit 0x510 25 = true ∧ u.rbit 0x510 30 = true ∧ u.rbit 0x514 2 = true := by
  simp only [List.foldl_cons, List.foldl_nil]
  have i1 : Inv (s.lostBit 13) := (State.lostBit_moves ..).inv i
  have h1 : (s.lostBit 13).rbit 0x510 13 = true := State.lostBit_sets i (by decide)
  generalize s.lostBit 13 = t at i1 h1 ⊢
  have i2 : Inv (t.lostBit 25) := (State.lostBit_moves ..).inv i1
  have h2 : (t.lostBit 25).rbit 0x510 25 = true := State.lostBit_sets i1 (by decide)
  replace h1 : (t.lostBit 25).rbit 0x510 13 = true := State.lostBit_keeps i1 h1
  generalize t.lostBit 25 = t at i2 h1 h2 ⊢
  have i3 : Inv (t.lostBit 30) := (State.lostBit_moves ..).inv i2
  have h3 : (t.lostBit 30).rbit 0x510 30 = true := State.lostBit_sets i2 (by decide)
  replace h1 : (t.lostBit 30).rbit 0x510 13 = true := State.lostBit_keeps i2 h1
  replace h2 : (t.lostBit 30).rbit 0x510 25 = true := State.lostBit_keeps i2 h2
  generalize t.lostBit 30 = t at i3 h1 h2 h3 ⊢
  exact ⟨State.lostBit_keeps i3 h1, State.lostBit_keeps i3 h2, State.lostBit_keeps i3 h3, State.lostBit_high (j := 2) i3 (by decide)⟩

theorem teardown_ends (i : Inv s) (hc : (s.ctx c.val).state = .teardown) (ht : ∀ t ∈ s.lnk.tags, ∀ r, t.2 = some r → r.ctx ≠ c.val)
    (hf : (s.ring c.val).fetching = 0) (hw : s.writesHeld c.val = false) :
    ∃ u, exec (.teardownDone c) s = .next u ∧ (u.ctx c.val).state = .faulted ∧ u.rings = s.rings ∧ u.mem = s.mem ∧
      u.rbit 0x510 13 = true ∧ u.rbit 0x510 25 = true ∧ u.rbit 0x510 30 = true ∧ u.rbit 0x514 2 = true := by
  have hout : s.lnk.tags.any (fun t => (t.2.map (fun r => decide (r.ctx = c.val))).getD false) = false := by
    refine List.any_eq_false.2 fun t hmem => ?_
    cases hr : t.2 with
    | none => simp
    | some r => simpa using ht t hmem r hr
  rw [exec_teardownDone, if_pos ⟨hc, by rw [hout, hf, hw]; rfl⟩]
  generalize hx : ({ s.ctx c.val with state := .faulted } : Ctx) = x
  have hm : Moves 0x20 (s.setCtx c.val x) ([13, 25, 30, 34].foldl State.lostBit (s.setCtx c.val x)) :=
    .foldl _ (.refl _ _) fun _ _ h => (State.lostBit_moves ..).then rfl h
  refine ⟨_, rfl, ?_, hm.off .rings rfl, hm.off .memory rfl, State.lostBits_teardown ((State.setCtx_moves ..).inv i)⟩
  rw [hm.ctx rfl, State.ctx_setCtx_same i, ← hx]

theorem teardown_waits (h : (s.ctx c.val).state ≠ .teardown ∨ (s.ring c.val).fetching ≠ 0 ∨ s.writesHeld c.val = true) :
    ∃ u, exec (.teardownDone c) s = .next u ∧ u = s := by
  refine ⟨_, exec_teardownDone, if_neg ?_⟩
  rintro ⟨hc, hw⟩
  simp only [Bool.not_eq_true', Bool.or_eq_false_iff, decide_eq_false_iff_not] at hw
  obtain ⟨⟨-, hf⟩, hw⟩ := hw
  rcases h with h | h | h
  · exact h hc
  · omega
  · rw [hw] at h
    exact absurd h (by decide)

/-- Settles O29: a served command is its register's rule in the state without the latches, and each rule is one change of the context. -/
theorem contextCommands : Obligations.ContextCommands :=
  ⟨fun _ _ i hs hc hr hv => ⟨_, exec_ctxOpen hs, State.openContext_opens (dropLatches_inv i _) hc hr hv .host⟩,
   fun _ _ hs h => ⟨_, exec_ctxOpen hs, State.openContext_locked (s := State.dropLatches _ _) h .host⟩,
   fun _ s i hs hr hc =>
    have hfrees := State.closeContext_frees (s := s.dropLatches _) (dropLatches_inv i _) hr hc .host
    ⟨_, exec_ctxClose hs, hfrees.1, hfrees.2, fun hf => State.closeContext_faulted (s := s.dropLatches _) hr hf .host⟩,
   fun _ _ hs h => ⟨_, exec_ctxClose hs, State.closeContext_locked (s := State.dropLatches _ _) h .host⟩,
   fun _ _ i hs hc => ⟨_, exec_ctxTeardown hs, State.tearDown_stops (dropLatches_inv i _) hc .host⟩,
   fun _ _ hs hc => ⟨_, exec_ctxTeardown hs, State.tearDown_locked (s := State.dropLatches _ _) hc .host⟩,
   fun _ _ i hc ht hf hw => teardown_ends i hc ht hf hw, fun _ _ h => teardown_waits h⟩

end Sys2Proof.Machine
end

section
/-! PROOFS. Errors of the hub's own stores, and package-class faults (O51; R127, R413, R447, R468, R478). -/

namespace Sys2Proof.Machine

variable {s : State}

/-- A flag with its DETAIL, in neither the alert's register nor the event ring's, reads 1 once it is raised. -/
theorem rbit_flag (i : Inv s) {off bit : Nat} (source ctx detail : Nat) (hb : bit < 32) (ha : off ≠ 0xC0008) (he : off ≠ 0xF1008) :
    (s.flag off bit source ctx detail).rbit off bit = true := by
  unfold State.flag
  split
  · assumption
  · rw [State.rbit, reg_alert _ _ ha, reg_event _ _ _ _ _ he, State.setFld, reg_setReg_same i]
    exact bitAt_wput_one _ hb

/-! ### Package-class faults -/

/-- A package-class fault stops every ring, faults every context at work, shuts the bracket and reports itself (R127, R468). -/
theorem State.packageFault_ends (i : Inv s) (source code unit detail : Nat) (hostDead : Bool) : let u := s.packageFault source code unit detail hostDead
    u.flt.pkgFault = true ∧ u.rbit 0xE0008 0 = true ∧ u.flt.bracket = none ∧ (∀ c ∈ ctxRange, (u.ring c).state = .stopped) ∧
      ∀ c ∈ ctxRange, (s.ctx c).state = .open_ ∨ (s.ctx c).state = .teardown → (u.ctx c).state = .faulted := by
  refine ⟨(s.packageFault_severed source code unit detail hostDead).1, ?_⟩
  rw [State.packageFault_eq]
  have hmark : Moves 0x14B5D3C s (s.faultMarked source code unit detail hostDead) := State.faultMarked_moves ..
  have hrings := State.loseRings_stops (hmark.inv i) (s.faultSlot source code unit detail) hostDead
  have hlost : Moves 0x14F5D3C s ((s.faultMarked source code unit detail hostDead).loseRings (s.faultSlot source code unit detail) hostDead) :=
    (State.loseRings_moves ..).then rfl (hmark.mono rfl)
  generalize (s.faultMarked source code unit detail hostDead).loseRings (s.faultSlot source code unit detail) hostDead = v at hrings hlost ⊢
  have iv : Inv v := hlost.inv i
  have is : Inv v.severed := v.severed_ringsStand.inv iv
  have hflag : Moves 0x10838 v.severed (v.severed.flag 0xE0008 0 15 noCtx (s.faultSlot source code unit detail)) := State.flag_moves ..
  refine ⟨rbit_flag is _ _ _ (by decide) (by decide) (by decide), (hflag.fltKept rfl).shut v.severed_fltKept.2, fun c hc => ?_, fun c hc h => ?_⟩
  · rw [hflag.ring rfl c, v.severed_ringsStand.state iv c, hrings c hc]
  · rw [hflag.ctx rfl c]
    exact State.severed_faults iv c hc (by rwa [hlost.ctx rfl c])

theorem exec_packageFault (a k n : Nat) (h : s.pwr.state ≠ .midnight) : exec (.packageFault a k n) s =
    .next (s.takeFree.2.packageFault (a % 256) (k % 2 ^ 16) (n % 2 ^ 16) (s.takeFree.1 % 2 ^ 64) (decide (n = 0x201))) := if_neg h

theorem packageFault_ends (a k n : Nat) (i : Inv s) (h : s.pwr.state ≠ .midnight) : ∃ u, exec (.packageFault a k n) s = .next u ∧
    u.flt.pkgFault = true ∧ u.rbit 0xE0008 0 = true ∧ u.flt.bracket = none ∧ (∀ c ∈ ctxRange, (u.ring c).state = .stopped) ∧
      ∀ c ∈ ctxRange, (s.ctx c).state = .open_ ∨ (s.ctx c).state = .teardown → (u.ctx c).state = .faulted :=
  ⟨_, exec_packageFault a k n h, State.packageFault_ends ((State.takeFree_moves s).snd.inv i) ..⟩

theorem hubFaults_midnight {a k n : Nat} {w : Fin 6} {x : Instr} (h : s.pwr.state = .midnight) (hx : x = .packageFault a k n ∨ x = .hubStateUe w) :
    ∃ u, exec x s = .next u ∧ u = s := by
  rcases hx with rfl | rfl
  · exact ⟨s, if_pos h, rfl⟩
  · exact ⟨s, if_pos h, rfl⟩

/-! ### The hub's stores -/

theorem State.endUnbind_rx (s : State) (k : Nat) : (s.endUnbind k).ing.rx = s.ing.rx := by
  unfold State.endUnbind
  split
  · rfl
  · split
    · rfl
    · split
      · rfl
      · dsimp only
        exact (congrArg IngestUnit.rx ((State.endDesc_moves ..).off .ingest rfl)).trans rfl

theorem State.endUnbinds_rx (s : State) : s.endUnbinds.ing.rx = s.ing.rx := by
  unfold State.endUnbinds
  exact List.foldlRecOn (motive := fun x : State => x.ing.rx = s.ing.rx) _ _ rfl fun x h k _ => (x.endUnbind_rx k).trans h

theorem State.abandonFrame_rx (s : State) : s.abandonFrame.ing.rx = none := by
  unfold State.abandonFrame
  split
  · assumption
  · exact congrArg IngestUnit.rx (((State.ingFlag_moves ..).off .ingest rfl).trans ((State.ingCount_moves ..).off .ingest rfl))

/-- Nothing is left of the Hour's allowance, and the state error stands until the next accounting (Table 14.5). -/
def State.ledgerLost (s : State) : State :=
  let s := s.flagOpen 0x2002C 1 3 noCtx
  (s.setReg 0x20018 0).setPwr { s.pwr with ledger := { s.pwr.ledger with stateErr := true } }

theorem State.ledgerLost_loses (i : Inv s) :
    s.ledgerLost.reg 0x20018 = 0 ∧ s.ledgerLost.pwr.ledger.stateErr = true ∧ s.ledgerLost.rbit 0x2002C 1 = true ∧ s.ledgerLost.mem = s.mem := by
  have hf : Inv (s.flagOpen 0x2002C 1 3 noCtx) := (State.flagOpen_moves ..).inv i
  have hbit : ((s.flagOpen 0x2002C 1 3 noCtx).setReg 0x20018 0).reg 0x2002C = (s.flagOpen 0x2002C 1 3 noCtx).reg 0x2002C :=
    reg_setReg_other _ _ (by decide)
  refine ⟨reg_setReg_same hf _ _, rfl, ?_, (State.flagOpen_moves ..).off .memory rfl⟩
  exact (congrArg (fun w : Word => bitAt w.toNat 1) hbit).trans (rbit_flagOpen i 3 noCtx (by decide) (by decide) (by decide))

/-- Where an error of the hub's stores is package-class, it is of the Switch or of the hub, with a free CODE and DETAIL. -/
theorem exec_hubStateUe (w : Fin 6) (h : s.pwr.state ≠ .midnight) : exec (.hubStateUe w) s = .next
    (if w.val = 5 then s.abandonFrame.endUnbinds else if w.val = 4 then s.ledgerLost
    else s.takeFree.2.takeFree.2.packageFault (if w.val = 0 then 6 else 15) (256 + s.takeFree.1 % 2 ^ 15) (if w.val = 0 then 34 else 0x204)
      (s.takeFree.2.takeFree.1 % 2 ^ 64) false) := by
  change execHubStateUe w s = _
  rw [execHubStateUe, if_neg h]
  split
  · rfl
  · split <;> rfl

theorem hubStateUe_ends (w : Fin 6) (i : Inv s) (h : s.pwr.state ≠ .midnight) : ∃ u, exec (.hubStateUe w) s = .next u ∧
    (w = 4 → u.reg 0x20018 = 0 ∧ u.pwr.ledger.stateErr = true ∧ u.rbit 0x2002C 1 = true ∧ u.mem = s.mem) ∧
    (w = 5 → u.ing.rx = none ∧ u.mem = s.mem) ∧
    (w ≠ 4 → w ≠ 5 → u.flt.pkgFault = true ∧ u.rbit 0xE0008 0 = true ∧ u.flt.bracket = none ∧ (∀ c ∈ ctxRange, (u.ring c).state = .stopped) ∧
      ∀ c ∈ ctxRange, (s.ctx c).state = .open_ ∨ (s.ctx c).state = .teardown → (u.ctx c).state = .faulted) := by
  refine ⟨_, exec_hubStateUe w h, fun h4 => ?_, fun h5 => ?_, fun h4 h5 => ?_⟩
  · rw [if_neg (by rw [h4]; decide), if_pos (by rw [h4]; rfl)]
    exact State.ledgerLost_loses i
  · rw [if_pos (by rw [h5]; rfl)]
    exact ⟨(State.endUnbinds_rx _).trans s.abandonFrame_rx, ((State.endUnbinds_moves _).off .memory rfl).trans ((State.abandonFrame_moves s).off .memory rfl)⟩
  · have h5' : w.val ≠ 5 := fun e => h5 (Fin.ext e)
    have h4' : w.val ≠ 4 := fun e => h4 (Fin.ext e)
    rw [if_neg h5', if_neg h4']
    exact State.packageFault_ends ((State.takeFree_moves _).snd.inv ((State.takeFree_moves s).snd.inv i)) ..

/-! ### The record store -/

/-- A valid record is dropped, flagged and counted (R478). -/
def State.recordDropped (s : State) (k : Nat) : State :=
  let r := s.rec_ k
  let s := { s with flt := { s.flt with records := tabSet (fun _ => Rec.reset) s.flt.records k { r with valid := false, pinned := false } } }
  (s.flagOpen 0xE0008 5 15 noCtx).bump 0xE0064 32 1

theorem exec_recordStoreUe (k : Fin 128) : exec (.recordStoreUe k) s = .next (if (s.rec_ k.val).valid then s.recordDropped k.val else s) := rfl

theorem recordStoreUe_drops (k : Fin 128) (i : Inv s) (hv : (s.rec_ k.val).valid = true) (hw : tabWf (fun _ => Rec.reset) s.flt.records = true) :
    ∃ u, exec (.recordStoreUe k) s = .next u ∧ u.rec_ k.val = { s.rec_ k.val with valid := false, pinned := false } ∧ u.rbit 0xE0008 5 = true ∧
      u.reg 0xE0064 = BitVec.ofNat 32 (satAdd (2 ^ 32 - 1) (s.reg 0xE0064).toNat 1) ∧ u.mem = s.mem := by
  refine ⟨s.recordDropped k.val, by rw [exec_recordStoreUe, if_pos hv], ?_⟩
  unfold State.recordDropped
  extract_lets r _ t
  have ht : Moves 0x4000 s t := .flt _ rfl rfl (.refl _ s)
  have hflt : ((t.flagOpen 0xE0008 5 15 noCtx).bump 0xE0064 32 1).flt = t.flt :=
    ((State.bump_moves ..).off .faults rfl).trans ((State.flagOpen_moves ..).off .faults rfl)
  have it : Inv (t.flagOpen 0xE0008 5 15 noCtx) := (State.flagOpen_moves ..).inv (ht.inv i)
  have hcnt : (t.flagOpen 0xE0008 5 15 noCtx).reg 0xE0064 = s.reg 0xE0064 :=
    (reg_flagOpen _ _ _ _ _ (by decide) (by decide) (by decide)).trans (ht.reg rfl _)
  refine ⟨?_, ?_, ?_, ((State.bump_moves ..).off .memory rfl).trans <| ((State.flagOpen_moves ..).off .memory rfl).trans (ht.off .memory rfl)⟩
  · rw [State.rec_, hflt]
    exact tabGet_tabSet_same _ s.flt.records k.val _ hw
  · rw [State.rbit, reg_bump_other _ _ _ (by decide)]
    exact rbit_flagOpen (ht.inv i) 15 noCtx (by decide) (by decide) (by decide)
  · rw [State.bump, reg_setReg_same it, hcnt]

theorem recordStoreUe_nothing (k : Fin 128) (hv : (s.rec_ k.val).valid = false) : ∃ u, exec (.recordStoreUe k) s = .next u ∧ u = s :=
  ⟨_, exec_recordStoreUe k, if_neg (by simp [hv])⟩

end Sys2Proof.Machine
end

section
/-! PROOFS. Reconciles of views (O51; R162, R163, R413, R463, R465). -/

namespace Sys2Proof.Machine

variable {s t : State} {v : Word} {u k e : Nat}

/-! ### The views of one unit -/

/-- The tables of the views hold no default entry. -/
def State.viewsWf (s : State) : Prop := tabWf (fun _ => false) s.flt.dp = true ∧ tabWf (fun _ => false) s.flt.mgmt = true

theorem FltKept.viewsWf (h : FltKept s t) (hw : s.viewsWf) : t.viewsWf := by
  rwa [State.viewsWf, h.dp, h.mgmt]

theorem State.setViews_mgmt (s : State) (u : Nat) (dp mgmt : Bool) :
    (s.setViews u dp mgmt).flt.mgmt = tabSet (fun _ => false) s.flt.mgmt u mgmt := by
  unfold State.setViews
  extract_lets d0 m0 f w x y
  have hx : FltKept w x := .ite (.refl w) (State.record_fltKept ..)
  have hy : FltKept w y := (FltKept.ite (.refl x) (State.record_fltKept ..)).then hx
  have hd : FltKept y (y.disagree u) := ((State.flag_moves ..).fltKept rfl).then <| ((State.bump_moves ..).fltKept rfl).then ⟨rfl, rfl, id⟩
  exact ((FltKept.ite hd (.refl y)).then hy).mgmt

theorem State.setViews_viewsWf (hw : s.viewsWf) (u : Nat) (dp mgmt : Bool) : (s.setViews u dp mgmt).viewsWf := by
  rw [State.viewsWf, State.setViews_dp, State.setViews_mgmt]
  exact ⟨tabWf_tabSet _ _ _ _ hw.1, tabWf_tabSet _ _ _ _ hw.2⟩

theorem State.dpFailed_setViews (hw : s.viewsWf) (u : Nat) (dp mgmt : Bool) : (s.setViews u dp mgmt).dpFailed u = dp := by
  rw [State.dpFailed, State.setViews_dp]
  exact tabGet_tabSet_same _ _ _ _ hw.1

theorem State.mgmtFailed_setViews (hw : s.viewsWf) (u : Nat) (dp mgmt : Bool) : (s.setViews u dp mgmt).mgmtFailed u = mgmt := by
  rw [State.mgmtFailed, State.setViews_mgmt]
  exact tabGet_tabSet_same _ _ _ _ hw.2

/-- Both views of a unit are failed. -/
def State.bothFailed (s : State) (u : Nat) : Prop := s.dpFailed u = true ∧ s.mgmtFailed u = true

/-- Both views of a unit are healthy. -/
def State.bothHealthy (s : State) (u : Nat) : Prop := s.dpFailed u = false ∧ s.mgmtFailed u = false

theorem FltKept.bothFailed (h : FltKept s t) (hf : s.bothFailed u) : t.bothFailed u := ⟨(h.dpFailed u).trans hf.1, (h.mgmtFailed u).trans hf.2⟩

theorem FltKept.bothHealthy (h : FltKept s t) (hf : s.bothHealthy u) : t.bothHealthy u := ⟨(h.dpFailed u).trans hf.1, (h.mgmtFailed u).trans hf.2⟩

theorem State.setViews_bothFailed (s : State) (u : Nat) : (s.setViews u true true).bothFailed u := by
  rw [State.bothFailed, State.dpFailed, State.mgmtFailed, State.setViews_dp, State.setViews_mgmt]
  exact ⟨tabGet_tabSet_ne _ _ _ _ (by decide), tabGet_tabSet_ne _ _ _ _ (by decide)⟩

/-- The management view of a position whose data path still fails stays. -/
theorem State.onSpare_failed (h : s.bothFailed u) : s.onSpare u = s := if_pos h.1

theorem State.onSpare_healthy (hw : s.viewsWf) (h : s.dpFailed u = false) : (s.onSpare u).bothHealthy u := by
  rw [State.onSpare, if_neg (by rw [h]; decide), State.setMgmt, h]
  exact ⟨State.dpFailed_setViews hw .., State.mgmtFailed_setViews hw ..⟩

theorem State.onSpare_maps (s : State) (u : Nat) : (s.onSpare u).maps = s.maps := by
  unfold State.onSpare
  split
  · rfl
  · exact State.setMgmt_maps ..

/-! ### Spares -/

/-- What a position holds is no spare, so marking it bad changes no search for one. -/
theorem find_spare_marked {ix fills : Nat → Nat} {l ps : List Nat} {p : Nat} (bad : Tab Bool) (hix : ∀ a b, ix a = ix b → a = b) (hp : p ∈ ps) :
    l.find? (fun e => !tabGet (fun _ => false) (tabSet (fun _ => false) bad (ix (fills p)) true) (ix e) && ps.all (fun q => decide (fills q ≠ e))) =
      l.find? (fun e => !tabGet (fun _ => false) bad (ix e) && ps.all (fun q => decide (fills q ≠ e))) := by
  congr 1
  funext e
  by_cases he : fills p = e
  · have hall : ps.all (fun q => decide (fills q ≠ e)) = false := List.all_eq_false.2 ⟨p, hp, by simp [he]⟩
    rw [hall, Bool.and_false, Bool.and_false]
  · rw [tabGet_tabSet_other _ _ _ _ _ fun h => he (hix _ _ h).symm]

theorem State.spareEngine_markEngine (s : State) (k : Nat) : (s.markEngine (5 * (k / 4) + s.engineAt k)).spareEngine (k / 4) = s.spareEngine (k / 4) := by
  have h := find_spare_marked (l := List.range 5) (ix := fun e => 5 * (k / 4) + e) (fills := fun p => s.engineAt (4 * (k / 4) + p)) s.maps.engBad
    (fun _ _ => Nat.add_left_cancel) (List.mem_range.2 (Nat.mod_lt k (by decide) : k % 4 < 4))
  rw [Nat.div_add_mod] at h
  exact h

theorem State.spareCore_markCore (s : State) (hk : k < 4) : (s.markCore (s.coreAt k)).spareCore = s.spareCore :=
  find_spare_marked (ix := id) (fills := s.coreAt) s.maps.coreBad (fun _ _ => id) (List.mem_range.2 hk)

theorem State.spareSlice_markSlice (s : State) (hk : k < 8) : (s.markSlice (s.sliceAt k)).spareSlice = s.spareSlice :=
  find_spare_marked (ix := id) (fills := s.sliceAt) s.maps.sliceBad (fun _ _ => id) (List.mem_range.2 hk)

theorem State.spareEngine_congr (h : t.maps = s.maps) (b : Nat) : t.spareEngine b = s.spareEngine b := by
  unfold State.spareEngine State.engineAt
  rw [h]

theorem State.spareCore_congr (h : t.maps = s.maps) : t.spareCore = s.spareCore := by
  unfold State.spareCore State.coreAt
  rw [h]

theorem State.spareSlice_congr (h : t.maps = s.maps) : t.spareSlice = s.spareSlice := by
  unfold State.spareSlice State.sliceAt
  rw [h]

theorem State.setEngineMap_engines (s : State) (m : Tab Nat) : (s.setEngineMap m).maps.engines = m := by
  unfold State.setEngineMap
  split
  case isTrue h => exact h.symm
  · split
    · extract_lets old n _ w
      exact congrArg UnitMaps.engines ((State.flagOpen_moves (w.setReg 0xA0004 _) 0xA0008 2 11 noCtx).off .maps rfl)
    · rfl

/-- The spare serves: the position's data path is healthy, and the views are as well-formed as they were. -/
theorem State.setDp_serves (h : FltKept s t) (hw : s.viewsWf) (entry : DEntry) (u : Nat) :
    ((t.setDp u false).noteApplied entry u).viewsWf ∧ ((t.setDp u false).noteApplied entry u).dpFailed u = false := by
  have hn := State.noteApplied_fltKept (t.setDp u false) entry u
  exact ⟨hn.viewsWf (State.setViews_viewsWf (h.viewsWf hw) ..), (hn.dpFailed u).trans (State.dpFailed_setViews (h.viewsWf hw) ..)⟩

theorem State.noteApplied_setDp_maps (s : State) (b : Bool) (entry : DEntry) (u : Nat) : ((s.setDp u b).noteApplied entry u).maps = s.maps :=
  ((State.noteApplied_moves ..).off .maps rfl).trans (State.setDp_maps ..)

/-- The map of engines with the spare `e` of position `k`'s bank die in its place (R274, R488). -/
def State.spareInMap (s : State) (k e : Nat) : State := (s.markEngine (5 * (k / 4) + s.engineAt k)).setEngineMap (tabSet engDefault s.maps.engines k e)

theorem State.spareInMap_fltKept (s : State) (k e : Nat) : FltKept s (s.spareInMap k e) :=
  ((State.setEngineMap_moves ..).fltKept rfl).then ((State.markEngine_moves ..).fltKept rfl)

theorem State.substEngine_some (cause : Nat) (h : s.spareEngine (k / 4) = some e) :
    s.substEngine k cause = (((s.spareInMap k e).setDp (8 + k) false).noteApplied (unitEntry 1 cause (k / 4) (k % 4) e) (8 + k)).due k := by
  rw [← s.spareEngine_markEngine k] at h
  unfold State.substEngine
  dsimp only
  rw [h]
  rfl

theorem State.substEngine_spare (cause : Nat) (hw : s.viewsWf) (hm : tabWf engDefault s.maps.engines = true) (h : s.spareEngine (k / 4) = some e) :
    (s.substEngine k cause).engineAt k = e ∧ (s.substEngine k cause).viewsWf ∧ (s.substEngine k cause).dpFailed (8 + k) = false := by
  rw [State.substEngine_some cause h]
  obtain ⟨hwf, hdp⟩ := State.setDp_serves (s.spareInMap_fltKept k e) hw (unitEntry 1 cause (k / 4) (k % 4) e) (8 + k)
  have hdue := State.due_moves (((s.spareInMap k e).setDp (8 + k) false).noteApplied (unitEntry 1 cause (k / 4) (k % 4) e) (8 + k)) k
  refine ⟨?_, (hdue.fltKept rfl).viewsWf hwf, ((hdue.fltKept rfl).dpFailed _).trans hdp⟩
  have hmap : (s.spareInMap k e).maps.engines = tabSet engDefault s.maps.engines k e := State.setEngineMap_engines ..
  rw [State.engineAt, (hdue.off .maps rfl).trans (State.noteApplied_setDp_maps ..), hmap]
  exact tabGet_tabSet_same _ _ _ _ hm

theorem State.substEngine_none (cause : Nat) (h : s.spareEngine (k / 4) = none) : FltKept s (s.substEngine k cause) := by
  rw [← s.spareEngine_markEngine k] at h
  unfold State.substEngine
  dsimp only
  rw [h]
  exact ((State.retireUnit_moves ..).fltKept rfl).then ((State.markEngine_moves ..).fltKept rfl)

/-- The map of cores with the spare `e` in position `k` (R488). -/
def State.spareInCores (s : State) (k e : Nat) : State :=
  (s.markCore (s.coreAt k)).setMaps { (s.markCore (s.coreAt k)).maps with cores := tabSet (fun i => i) s.maps.cores k e }

theorem State.spareInCores_fltKept (s : State) (k e : Nat) : FltKept s (s.spareInCores k e) :=
  ((State.setMaps_moves ..).fltKept rfl).then ((State.markCore_moves ..).fltKept rfl)

theorem State.substCore_some (cause : Nat) (hk : k < 4) (h : s.spareCore = some e) :
    s.substCore k cause = ((s.spareInCores k e).setDp (28 + k) false).noteApplied (unitEntry 2 cause 0 k e) (28 + k) := by
  rw [← s.spareCore_markCore hk] at h
  unfold State.substCore
  dsimp only
  rw [h]
  rfl

theorem State.substCore_spare (cause : Nat) (hk : k < 4) (hw : s.viewsWf) (hm : tabWf (fun i => i) s.maps.cores = true) (h : s.spareCore = some e) :
    (s.substCore k cause).coreAt k = e ∧ (s.substCore k cause).viewsWf ∧ (s.substCore k cause).dpFailed (28 + k) = false := by
  rw [State.substCore_some cause hk h]
  refine ⟨?_, State.setDp_serves (s.spareInCores_fltKept k e) hw ..⟩
  have hmap : (s.spareInCores k e).maps.cores = tabSet (fun i => i) s.maps.cores k e := rfl
  rw [State.coreAt, State.noteApplied_setDp_maps, hmap]
  exact tabGet_tabSet_same _ _ _ _ hm

theorem State.substCore_none (cause : Nat) (hk : k < 4) (h : s.spareCore = none) :
    FltKept s (s.substCore k cause) ∧ (s.substCore k cause).flt.pkgFault = true := by
  rw [← s.spareCore_markCore hk] at h
  unfold State.substCore
  dsimp only
  rw [h]
  have hmark : FltKept s (s.markCore (s.coreAt k)) := (State.markCore_moves ..).fltKept rfl
  exact ⟨(State.packageFault_fltKept ..).then <| ((State.retireUnit_moves ..).fltKept rfl).then hmark, (State.packageFault_severed ..).1⟩

/-- The map of slices with the spare `e` in position `k` (R488). -/
def State.spareInSlices (s : State) (k e : Nat) : State :=
  (s.markSlice (s.sliceAt k)).setMaps { (s.markSlice (s.sliceAt k)).maps with slices := tabSet (fun i => i) s.maps.slices k e }

theorem State.spareInSlices_fltKept (s : State) (k e : Nat) : FltKept s (s.spareInSlices k e) :=
  ((State.setMaps_moves ..).fltKept rfl).then ((State.markSlice_moves ..).fltKept rfl)

theorem State.substSlice_some (cause : Nat) (hk : k < 8) (h : s.spareSlice = some e) :
    s.substSlice k cause = ((s.spareInSlices k e).setDp (44 + k) false).noteApplied (unitEntry 3 cause 0 k e) (44 + k) := by
  rw [← s.spareSlice_markSlice hk] at h
  unfold State.substSlice
  dsimp only
  rw [h]
  rfl

theorem State.substSlice_spare (cause : Nat) (hk : k < 8) (hw : s.viewsWf) (hm : tabWf (fun i => i) s.maps.slices = true) (h : s.spareSlice = some e) :
    (s.substSlice k cause).sliceAt k = e ∧ (s.substSlice k cause).viewsWf ∧ (s.substSlice k cause).dpFailed (44 + k) = false := by
  rw [State.substSlice_some cause hk h]
  refine ⟨?_, State.setDp_serves (s.spareInSlices_fltKept k e) hw ..⟩
  have hmap : (s.spareInSlices k e).maps.slices = tabSet (fun i => i) s.maps.slices k e := rfl
  rw [State.sliceAt, State.noteApplied_setDp_maps, hmap]
  exact tabGet_tabSet_same _ _ _ _ hm

theorem State.substSlice_none (cause : Nat) (hk : k < 8) (h : s.spareSlice = none) : FltKept s (s.substSlice k cause) := by
  rw [← s.spareSlice_markSlice hk] at h
  unfold State.substSlice
  dsimp only
  rw [h]
  exact ((State.retireUnit_moves ..).fltKept rfl).then (s := (s.markSlice (s.sliceAt k)).setMaps _) ⟨rfl, rfl, id⟩

/-- The chunks of a slice that its position lost: counted, and everything else of the failure but its place in the map and its view (R395, R412). -/
theorem State.sliceFails_subst (s : State) (n cause : Nat) : ∃ c, Moves 0xC10838 ((s.colCount 4 c).substSlice n cause) (s.sliceFails n cause) := by
  unfold State.sliceFails
  extract_lets phys moved a b _ d _ g f
  refine ⟨moved.length, ?_⟩
  change Moves _ a _
  have hb : Moves 0xC10838 a b := (State.colFlag_moves ..).mono rfl
  have hd : Moves 0xC10838 a d := (State.setCol_moves ..).then rfl hb
  have hg : Moves 0xC10838 a g := (State.setCol_moves ..).then rfl hd
  have hf : Moves 0xC10838 a f := .foldl moved hg fun x l hx => by
    split
    · exact (State.setCol_moves ..).then rfl hx
    · exact hx
  exact .ite hf ((State.suspectSelf_moves _).then rfl ((State.colFlag_moves ..).then rfl hf))

end Sys2Proof.Machine
end

section
/-! PROOFS. RECONCILE, and the obligation of the fault unit (O51; R463, R465). -/

namespace Sys2Proof.Machine

variable {s t : State} {v : Word} {u k e : Nat}

/-! ### What a reconcile to failed does to a unit of each kind -/

theorem State.reconcileUnit_engine (had : Bool) (hk : k < 16) : s.reconcileUnit (8 + k) had =
    if (had && (s.spareEngine (k / 4)).isNone) = true then s
    else (((s.flagOpen 0xA0008 1 11 noCtx).leaveEngine k (8 + k)).substEngine k 4).onSpare (8 + k) := by
  rw [State.reconcileUnit, if_pos (by omega), Nat.add_sub_cancel_left]

theorem State.reconcileUnit_sfu (had : Bool) (h24 : 24 ≤ u) (h28 : u < 28) : s.reconcileUnit u had =
    if had = true then s else ((s.flagOpen 0xB0008 1 12 noCtx).abandon (u - 8) (0x40000 + (u - 24)) u).1 := by
  rw [State.reconcileUnit, if_neg (by omega), if_pos ⟨h24, h28⟩]

theorem State.reconcileUnit_core (had : Bool) (hk : k < 4) : s.reconcileUnit (28 + k) had =
    if (had && s.spareCore.isNone) = true then s else (s.substCore k 4).onSpare (28 + k) := by
  rw [State.reconcileUnit, if_neg (by omega), if_neg (by omega), if_pos (by omega), Nat.add_sub_cancel_left]

theorem State.reconcileUnit_slice (had : Bool) (k : Nat) : s.reconcileUnit (44 + k) had =
    if s.sliceAt k = 15 then s else (s.sliceFails k 4).onSpare (44 + k) := by
  rw [State.reconcileUnit, if_neg (by omega), if_neg (by omega), if_neg (by omega), if_pos (by omega), Nat.add_sub_cancel_left]

theorem State.reconcileUnit_other (had : Bool) (h : u < 8 ∨ (32 ≤ u ∧ u < 44)) : s.reconcileUnit u had = s.unitStops u := by
  rw [State.reconcileUnit, if_neg (by omega), if_neg (by omega), if_neg (by omega), if_neg (by omega)]

theorem State.unitStops_mem (s : State) (h : u < 36) : (s.unitStops u).mem = s.mem := by
  unfold State.unitStops
  split
  · exact (State.cmbFlag_moves ..).off .memory rfl
  · rw [if_neg (by omega)]

theorem State.sfuStops_fltKept (s : State) (had : Bool) (h24 : 24 ≤ u) (h28 : u < 28) : FltKept s (s.reconcileUnit u had) := by
  rw [State.reconcileUnit_sfu had h24 h28]
  exact .ite (.refl s) ((State.abandon_fltKept ..).then ((State.flagOpen_moves ..).fltKept rfl))

/-- An engine position that its bank die's work has left: the views, the map and so the spare are what they were. -/
theorem State.engineLeft (s : State) (k : Nat) : let t := (s.flagOpen 0xA0008 1 11 noCtx).leaveEngine k (8 + k)
    FltKept s t ∧ t.maps = s.maps :=
  ⟨(State.leaveEngine_fltKept ..).then ((State.flagOpen_moves ..).fltKept rfl),
    ((State.leaveEngine_moves ..).off .maps rfl).trans ((State.flagOpen_moves ..).off .maps rfl)⟩

theorem State.reconcileUnit_engine_spare (had : Bool) (hk : k < 16) (hw : s.viewsWf) (hm : tabWf engDefault s.maps.engines = true)
    (h : s.spareEngine (k / 4) = some e) : (s.reconcileUnit (8 + k) had).engineAt k = e ∧ (s.reconcileUnit (8 + k) had).bothHealthy (8 + k) := by
  rw [State.reconcileUnit_engine had hk, if_neg (by simp [h])]
  obtain ⟨hkept, hmaps⟩ := s.engineLeft k
  obtain ⟨hat, hwf, hdp⟩ := State.substEngine_spare 4 (hkept.viewsWf hw) (by rwa [hmaps]) ((State.spareEngine_congr hmaps _).trans h)
  refine ⟨?_, State.onSpare_healthy hwf hdp⟩
  rw [State.engineAt, State.onSpare_maps]
  exact hat

theorem State.reconcileUnit_engine_none (had : Bool) (hk : k < 16) (hf : s.bothFailed (8 + k)) (h : s.spareEngine (k / 4) = none) :
    (s.reconcileUnit (8 + k) had).bothFailed (8 + k) := by
  rw [State.reconcileUnit_engine had hk]
  split
  · exact hf
  · obtain ⟨hkept, hmaps⟩ := s.engineLeft k
    have hend := ((State.substEngine_none 4 ((State.spareEngine_congr hmaps _).trans h)).then hkept).bothFailed hf
    rwa [State.onSpare_failed hend]

theorem State.reconcileUnit_core_spare (had : Bool) (hk : k < 4) (hw : s.viewsWf) (hm : tabWf (fun i => i) s.maps.cores = true)
    (h : s.spareCore = some e) : (s.reconcileUnit (28 + k) had).coreAt k = e ∧ (s.reconcileUnit (28 + k) had).bothHealthy (28 + k) := by
  rw [State.reconcileUnit_core had hk, if_neg (by simp [h])]
  obtain ⟨hat, hwf, hdp⟩ := State.substCore_spare 4 hk hw hm h
  refine ⟨?_, State.onSpare_healthy hwf hdp⟩
  rw [State.coreAt, State.onSpare_maps]
  exact hat

/-- The position that has no spare stays failed; where its data path had not failed before, that is a package-class fault (R162, R447). -/
theorem State.reconcileUnit_core_none (had : Bool) (hk : k < 4) (hf : s.bothFailed (28 + k)) (h : s.spareCore = none) :
    (s.reconcileUnit (28 + k) had).bothFailed (28 + k) ∧ (had = false → (s.reconcileUnit (28 + k) had).flt.pkgFault = true) := by
  rw [State.reconcileUnit_core had hk]
  split
  case isTrue hhad => exact ⟨hf, fun e => by simp [e] at hhad⟩
  · obtain ⟨hkept, hpkg⟩ := State.substCore_none 4 hk h
    rw [State.onSpare_failed (hkept.bothFailed hf)]
    exact ⟨hkept.bothFailed hf, fun _ => hpkg⟩

theorem State.reconcileUnit_slice_spare (had : Bool) (hk : k < 8) (hs : s.sliceAt k ≠ 15) (hw : s.viewsWf)
    (hm : tabWf (fun i => i) s.maps.slices = true) (h : s.spareSlice = some e) :
    (s.reconcileUnit (44 + k) had).sliceAt k = e ∧ (s.reconcileUnit (44 + k) had).bothHealthy (44 + k) := by
  rw [State.reconcileUnit_slice, if_neg hs]
  obtain ⟨c, hrest⟩ := s.sliceFails_subst k 4
  have hcount : Moves 0x20 s (s.colCount 4 c) := State.colCount_moves ..
  have hmaps : (s.colCount 4 c).maps = s.maps := hcount.off .maps rfl
  obtain ⟨hat, hwf, hdp⟩ := State.substSlice_spare 4 hk ((hcount.fltKept rfl).viewsWf hw) (by rwa [hmaps]) ((State.spareSlice_congr hmaps).trans h)
  refine ⟨?_, State.onSpare_healthy ((hrest.fltKept rfl).viewsWf hwf) (((hrest.fltKept rfl).dpFailed _).trans hdp)⟩
  rw [State.sliceAt, State.onSpare_maps, hrest.off .maps rfl]
  exact hat

theorem State.reconcileUnit_slice_none (had : Bool) (hk : k < 8) (hf : s.bothFailed (44 + k)) (h : s.sliceAt k = 15 ∨ s.spareSlice = none) :
    (s.reconcileUnit (44 + k) had).bothFailed (44 + k) := by
  rw [State.reconcileUnit_slice]
  split
  · exact hf
  case isFalse hs =>
    obtain ⟨c, hrest⟩ := s.sliceFails_subst k 4
    have hcount : Moves 0x20 s (s.colCount 4 c) := State.colCount_moves ..
    have hspare := (State.spareSlice_congr (hcount.off .maps rfl)).trans (h.resolve_left hs)
    have hend := ((hrest.fltKept rfl).then <| (State.substSlice_none 4 hk hspare).then (hcount.fltKept rfl)).bothFailed hf
    rwa [State.onSpare_failed hend]

/-! ### The write of FLT_RECONCILE -/

theorem exec_reconcile (hs : s.served) : exec (.reconcile v) s = .next (State.writeReconcile v .host (s.dropLatches 0xE0010)) :=
  congrArg Host.Outcome.next (State.onWrite_open _ (fun _ => hs.1) hs.2)

theorem State.writeReconcile_used (hg : wfld v 30 2 = 1 ∨ wfld v 30 2 = 2) (hu : wfld v 0 6 < 52) (s : State) :
    State.writeReconcile v .host s = (s.reconcile (wfld v 0 6) (wfld v 30 2)).2 := by
  rw [State.writeReconcile, if_neg (by omega), if_neg (by omega)]

/-- Both views of the unit are marked failed, with the record of the reconcile (R465). -/
def State.condemned (s : State) (u : Nat) : State := (s.record 0 15 0x102 noCtx u (u + 512)).setViews u true true

theorem State.condemned_moves (s : State) (u : Nat) : Moves 0x1483C s (s.condemned u) := (State.setViews_moves ..).then rfl (State.record_moves ..)

theorem State.condemned_viewsWf (hw : s.viewsWf) (u : Nat) : (s.condemned u).viewsWf :=
  State.setViews_viewsWf ((s.record_fltKept ..).viewsWf hw) ..

/-- A reconcile to failed ends in decisions of the schedule, which leave the views, the maps and memory. -/
theorem exec_reconcile_failed (hs : s.served) (hg : wfld v 30 2 = 2) (hu : wfld v 0 6 < 52) : ∃ x,
    exec (.reconcile v) s = .next x ∧
      Moves 0x108042C (((s.dropLatches 0xE0010).condemned (wfld v 0 6)).reconcileUnit (wfld v 0 6) (s.dpFailed (wfld v 0 6))) x := by
  refine ⟨_, (exec_reconcile hs).trans (congrArg _ (State.writeReconcile_used (.inr hg) hu _)), ?_⟩
  rw [hg, State.reconcile, if_pos rfl]
  exact .ite (State.scheduleAll_moves _) (State.schedule_moves ..)

theorem State.condemned_bothFailed (s : State) (u : Nat) : (s.condemned u).bothFailed u := State.setViews_bothFailed ..

/-- The write releases the latches of its pair, then the unit is condemned: no map, no memory and no context moves. -/
theorem State.condemned_dropLatches (s : State) (u : Nat) : Moves 0x148FC s ((s.dropLatches 0xE0010).condemned u) :=
  (State.condemned_moves ..).then rfl ((State.dropLatches_moves ..).mono rfl)

theorem State.condemned_dropLatches_viewsWf (hw : s.viewsWf) (u : Nat) : ((s.dropLatches 0xE0010).condemned u).viewsWf :=
  State.condemned_viewsWf (((State.dropLatches_moves s _).fltKept rfl).viewsWf hw) u

theorem reconcile_stops (hs : s.served) (hg : wfld v 30 2 = 2) (h : wfld v 0 6 < 8 ∨ (32 ≤ wfld v 0 6 ∧ wfld v 0 6 < 36)) :
    ∃ x, exec (.reconcile v) s = .next x ∧ x.dpFailed (wfld v 0 6) = true ∧ x.mgmtFailed (wfld v 0 6) = true ∧ x.mem = s.mem := by
  obtain ⟨x, hx, hm⟩ := exec_reconcile_failed hs hg (by omega)
  rw [State.reconcileUnit_other _ (by omega)] at hm
  obtain ⟨hdp, hmgmt⟩ := ((hm.fltKept rfl).then (State.unitStops_fltKept ..)).bothFailed (State.condemned_bothFailed _ _)
  exact ⟨x, hx, hdp, hmgmt, (hm.off .memory rfl).trans <| (State.unitStops_mem _ (by omega)).trans ((s.condemned_dropLatches _).off .memory rfl)⟩

theorem reconcile_fails (hs : s.served) (hg : wfld v 30 2 = 2) (h : (24 ≤ wfld v 0 6 ∧ wfld v 0 6 < 28) ∨ (36 ≤ wfld v 0 6 ∧ wfld v 0 6 < 44)) :
    ∃ x, exec (.reconcile v) s = .next x ∧ x.bothFailed (wfld v 0 6) := by
  obtain ⟨x, hx, hm⟩ := exec_reconcile_failed hs hg (by omega)
  refine ⟨x, hx, ((hm.fltKept rfl).then ?_).bothFailed ((s.dropLatches 0xE0010).condemned_bothFailed _)⟩
  rcases h with ⟨h24, h28⟩ | ⟨h36, h44⟩
  · exact State.sfuStops_fltKept _ _ h24 h28
  · rw [State.reconcileUnit_other _ (by omega)]
    exact State.unitStops_fltKept ..

theorem reconcile_engine_spare (hs : s.served) (hg : wfld v 30 2 = 2) (hu : wfld v 0 6 = 8 + k) (hk : k < 16) (h : s.spareEngine (k / 4) = some e)
    (hw : s.viewsWf) (hm : tabWf engDefault s.maps.engines = true) :
    ∃ x, exec (.reconcile v) s = .next x ∧ x.engineAt k = e ∧ x.bothHealthy (wfld v 0 6) := by
  obtain ⟨x, hx, hrest⟩ := exec_reconcile_failed hs hg (by omega)
  rw [hu] at hrest ⊢
  have hmaps := (s.condemned_dropLatches (8 + k)).off .maps rfl
  obtain ⟨hat, hviews⟩ := State.reconcileUnit_engine_spare (s.dpFailed (8 + k)) hk (State.condemned_dropLatches_viewsWf hw _) (by rwa [hmaps])
    ((State.spareEngine_congr hmaps _).trans h)
  refine ⟨x, hx, ?_, (hrest.fltKept rfl).bothHealthy hviews⟩
  rwa [State.engineAt, hrest.off .maps rfl]

theorem reconcile_core_spare (hs : s.served) (hg : wfld v 30 2 = 2) (hu : wfld v 0 6 = 28 + k) (hk : k < 4) (h : s.spareCore = some e)
    (hw : s.viewsWf) (hm : tabWf (fun i => i) s.maps.cores = true) :
    ∃ x, exec (.reconcile v) s = .next x ∧ x.coreAt k = e ∧ x.bothHealthy (wfld v 0 6) := by
  obtain ⟨x, hx, hrest⟩ := exec_reconcile_failed hs hg (by omega)
  rw [hu] at hrest ⊢
  have hmaps := (s.condemned_dropLatches (28 + k)).off .maps rfl
  obtain ⟨hat, hviews⟩ := State.reconcileUnit_core_spare (s.dpFailed (28 + k)) hk (State.condemned_dropLatches_viewsWf hw _) (by rwa [hmaps])
    ((State.spareCore_congr hmaps).trans h)
  refine ⟨x, hx, ?_, (hrest.fltKept rfl).bothHealthy hviews⟩
  rwa [State.coreAt, hrest.off .maps rfl]

theorem reconcile_slice_spare (hs : s.served) (hg : wfld v 30 2 = 2) (hu : wfld v 0 6 = 44 + k) (hk : k < 8) (h15 : s.sliceAt k ≠ 15)
    (h : s.spareSlice = some e) (hw : s.viewsWf) (hm : tabWf (fun i => i) s.maps.slices = true) :
    ∃ x, exec (.reconcile v) s = .next x ∧ x.sliceAt k = e ∧ x.bothHealthy (wfld v 0 6) := by
  obtain ⟨x, hx, hrest⟩ := exec_reconcile_failed hs hg (by omega)
  rw [hu] at hrest ⊢
  have hmaps := (s.condemned_dropLatches (44 + k)).off .maps rfl
  obtain ⟨hat, hviews⟩ := State.reconcileUnit_slice_spare (s.dpFailed (44 + k)) hk (by rwa [State.sliceAt, hmaps])
    (State.condemned_dropLatches_viewsWf hw _) (by rwa [hmaps]) ((State.spareSlice_congr hmaps).trans h)
  refine ⟨x, hx, ?_, (hrest.fltKept rfl).bothHealthy hviews⟩
  rwa [State.sliceAt, hrest.off .maps rfl]

theorem reconcile_noSpare (hs : s.served) (hg : wfld v 30 2 = 2) (h : (wfld v 0 6 = 8 + k ∧ k < 16 ∧ s.spareEngine (k / 4) = none) ∨
    (wfld v 0 6 = 28 + k ∧ k < 4 ∧ s.spareCore = none) ∨ (wfld v 0 6 = 44 + k ∧ k < 8 ∧ (s.sliceAt k = 15 ∨ s.spareSlice = none))) :
    ∃ x, exec (.reconcile v) s = .next x ∧ x.dpFailed (wfld v 0 6) = true ∧ x.mgmtFailed (wfld v 0 6) = true ∧
      (wfld v 0 6 = 28 + k → k < 4 → s.dpFailed (28 + k) = false → x.flt.pkgFault = true) := by
  obtain ⟨x, hx, hrest⟩ := exec_reconcile_failed hs hg (by omega)
  refine ⟨x, hx, ?_⟩
  have hflt : x.flt = _ := hrest.off .faults rfl
  have hkept := hrest.fltKept rfl
  have hmaps := (s.condemned_dropLatches (wfld v 0 6)).off .maps rfl
  have hfailed := (s.dropLatches 0xE0010).condemned_bothFailed (wfld v 0 6)
  rcases h with ⟨hu, hk, h⟩ | ⟨hu, hk, h⟩ | ⟨hu, hk, h⟩ <;> rw [hu] at hkept hmaps hfailed hflt ⊢
  · obtain ⟨hdp, hmgmt⟩ := hkept.bothFailed (State.reconcileUnit_engine_none _ hk hfailed ((State.spareEngine_congr hmaps _).trans h))
    exact ⟨hdp, hmgmt, fun e => by omega⟩
  · obtain ⟨hviews, hpkg⟩ := State.reconcileUnit_core_none (s.dpFailed (28 + k)) hk hfailed ((State.spareCore_congr hmaps).trans h)
    obtain ⟨hdp, hmgmt⟩ := hkept.bothFailed hviews
    exact ⟨hdp, hmgmt, fun _ _ had => by rw [hflt]; exact hpkg had⟩
  · obtain ⟨hdp, hmgmt⟩ := hkept.bothFailed (State.reconcileUnit_slice_none _ hk hfailed (h.imp
      (fun h15 => by rwa [State.sliceAt, hmaps]) (State.spareSlice_congr hmaps).trans))
    exact ⟨hdp, hmgmt, fun e => by omega⟩

theorem reconcile_unused (hs : s.served) (hu : 52 ≤ wfld v 0 6) (hg : wfld v 30 2 = 1 ∨ wfld v 30 2 = 2) :
    exec (.reconcile v) s = .next ((s.dropLatches 0xE0010).locked 0xE0010 .host) := by
  rw [exec_reconcile hs, State.writeReconcile, if_neg (by omega), if_pos hu]

theorem reconcile_otherTarget (hs : s.served) (hg : wfld v 30 2 = 0 ∨ wfld v 30 2 = 3) : exec (.reconcile v) s = .next (s.dropLatches 0xE0010) := by
  rw [exec_reconcile hs, State.writeReconcile, if_pos hg]

theorem reconcile_refused (i : Inv s) (hs : s.served) (hg : wfld v 30 2 = 1) (hu : wfld v 0 6 < 52) (hd : s.dpFailed (wfld v 0 6) = true) :
    ∃ x, exec (.reconcile v) s = .next x ∧
      x.dpFailed (wfld v 0 6) = true ∧ x.mgmtFailed (wfld v 0 6) = s.mgmtFailed (wfld v 0 6) ∧ x.rbit 0xE0008 4 = true ∧ x.mem = s.mem := by
  refine ⟨_, (exec_reconcile hs).trans (congrArg _ (State.writeReconcile_used (.inl hg) hu _)), ?_⟩
  generalize wfld v 0 6 = u at hd
  have hdrop : Moves 0xC0 s (s.dropLatches 0xE0010) := State.dropLatches_moves ..
  rw [hg, State.reconcile, if_neg (by decide), if_pos (by rw [(hdrop.fltKept rfl).dpFailed]; exact hd)]
  have hrec := State.record_moves (s.dropLatches 0xE0010) 0 15 0x102 noCtx u (u + 256 + 1024)
  have hkept := (State.record_fltKept (s.dropLatches 0xE0010) 0 15 0x102 noCtx u (u + 256 + 1024)).then (hdrop.fltKept rfl)
  generalize (s.dropLatches 0xE0010).record 0 15 0x102 noCtx u (u + 256 + 1024) = t at hrec hkept
  have hflag : Moves 0x1083C t (t.flagOpen 0xE0008 4 15 noCtx) := State.flagOpen_moves ..
  have hall := (hflag.fltKept rfl).then hkept
  exact ⟨(hall.dpFailed u).trans hd, hall.mgmtFailed u, rbit_flagOpen (hrec.inv (hdrop.inv i)) 15 noCtx (by decide) (by decide) (by decide),
    (hflag.off .memory rfl).trans <| (hrec.off .memory rfl).trans (hdrop.off .memory rfl)⟩

theorem State.manageView_healthy (hw : s.viewsWf) (hd : s.dpFailed u = false) :
    (s.manageView u false).bothHealthy u ∧ (s.manageView u false).mem = s.mem := by
  unfold State.manageView
  dsimp only
  rw [Bool.and_false, if_neg (by decide)]
  have hset : (s.setMgmt u false).bothHealthy u := by
    rw [State.setMgmt, hd]
    exact ⟨State.dpFailed_setViews hw .., State.mgmtFailed_setViews hw ..⟩
  split
  · exact ⟨(State.unitGoesOn_fltKept ..).bothHealthy hset, ((State.unitGoesOn_moves ..).off .memory rfl).trans (State.setMgmt_mem ..)⟩
  · exact ⟨hset, State.setMgmt_mem ..⟩

theorem reconcile_heals (hs : s.served) (hg : wfld v 30 2 = 1) (hu : wfld v 0 6 < 52) (hd : s.dpFailed (wfld v 0 6) = false) (hw : s.viewsWf) :
    ∃ x, exec (.reconcile v) s = .next x ∧ x.dpFailed (wfld v 0 6) = false ∧ x.mgmtFailed (wfld v 0 6) = false ∧ x.mem = s.mem := by
  refine ⟨_, (exec_reconcile hs).trans (congrArg _ (State.writeReconcile_used (.inl hg) hu _)), ?_⟩
  have hdrop : Moves 0xC0 s (s.dropLatches 0xE0010) := State.dropLatches_moves ..
  have hdrop' : (s.dropLatches 0xE0010).dpFailed (wfld v 0 6) = false := ((hdrop.fltKept rfl).dpFailed _).trans hd
  rw [hg, State.reconcile, if_neg (by decide), if_neg (by rw [hdrop']; decide)]
  have hkept := State.record_fltKept (s.dropLatches 0xE0010) 0 15 0x102 noCtx (wfld v 0 6) (wfld v 0 6 + 256)
  obtain ⟨⟨hdp, hmgmt⟩, hmem⟩ := State.manageView_healthy (hkept.viewsWf ((hdrop.fltKept rfl).viewsWf hw)) ((hkept.dpFailed _).trans hdrop')
  exact ⟨hdp, hmgmt, hmem.trans <| (State.record_mem ..).trans (hdrop.off .memory rfl)⟩

/-! ### The obligation -/

/-- Settles O51: a reconcile is its unit's own case of `reconcileUnit` between the marks of its views and the schedule's decisions, which leave
both; what a package-class fault does to rings and contexts is `State.packageFault_ends`. -/
theorem faultUnit : Obligations.FaultUnit := by
  unfold Obligations.FaultUnit
  refine ⟨fun v s i hs hg hu hd => reconcile_refused i hs hg hu hd, fun v s hs hg hu hd hdp hmgmt => reconcile_heals hs hg hu hd ⟨hdp, hmgmt⟩,
    fun v s hs hg h => reconcile_stops hs hg h, fun v s hs hg h => reconcile_fails hs hg h,
    fun v k e s hs hg hu hk h hdp hmgmt hm => reconcile_engine_spare hs hg hu hk h ⟨hdp, hmgmt⟩ hm,
    fun v k e s hs hg hu hk h hdp hmgmt hm => reconcile_core_spare hs hg hu hk h ⟨hdp, hmgmt⟩ hm,
    fun v k e s hs hg hu hk h15 h hdp hmgmt hm => reconcile_slice_spare hs hg hu hk h15 h ⟨hdp, hmgmt⟩ hm,
    fun v k s hs hg h => reconcile_noSpare hs hg h, fun v s hs hu hg => ⟨_, reconcile_unused hs hu hg, rfl⟩,
    fun v s hs hg => ⟨_, reconcile_otherTarget hs hg, rfl⟩,
    fun v s hb => ⟨_, congrArg Host.Outcome.next (State.onWrite_unserved _ hb), rfl⟩,
    fun v s hb hw => ⟨_, congrArg Host.Outcome.next (State.onWrite_warm _ (fun _ => hb) hw (by decide) (by decide)), rfl⟩,
    fun k s i hv hw => recordStoreUe_drops k i hv hw, fun k s hv => recordStoreUe_nothing k hv,
    fun w s i h => hubStateUe_ends w i h, fun a k n s i h => packageFault_ends a k n i h, fun a k n w x s h hx => hubFaults_midnight h hx⟩

end Sys2Proof.Machine
end

section
/-! PROOFS. The root registers of a context (R175): what the rule of their writes does, and the statement on when they may be written (O59). -/

namespace Sys2Proof.Machine

variable {s : State} {c : Nat} {hi : Bool} {v : Word} {who : Reader}

/-! ### What a write does at the root registers -/

/-- The offset of ATP_ROOT_HI_c or ATP_ROOT_LO_c. -/
def rootReg (c : Nat) (hi : Bool) : Nat := if hi then 0x90104 + 8 * c else 0x90100 + 8 * c

/-- The bits that the register takes of a value written. -/
def rootBits (hi : Bool) (v : Word) : Word := if hi then v &&& 0x800000FF else v &&& 0xFFFFF000

/-- An ignored write touches HUB_ERR alone (R573). -/
theorem reg_locked (s : State) (off : Nat) (who : Reader) {x : Nat} (hx : x ≠ 4) : (s.locked off who).reg x = s.reg x := by
  unfold State.locked State.hubErr
  split
  · rfl
  · exact reg_setReg_other s _ hx

/-- While the context is not FREE a change is ignored. -/
theorem State.writeRoot_held (h : (s.ctx c).state ≠ .free) (hi : Bool) (v : Word) (who : Reader) :
    s.writeRoot c hi v who = if s.reg (rootReg c hi) = rootBits hi v then s else s.locked (rootReg c hi) who := if_pos h

/-- While it is FREE a change of ATP_ROOT_LO_c clears VALID. -/
theorem State.writeRoot_lo (h : (s.ctx c).state = .free) (v : Word) (who : Reader) :
    s.writeRoot c false v who =
      if s.reg (0x90100 + 8 * c) = v &&& 0xFFFFF000 then s
      else (s.setReg (0x90100 + 8 * c) (v &&& 0xFFFFF000)).setFld (0x90104 + 8 * c) 31 1 0 := if_neg (not_not.2 h)

theorem bitAt_rootBits (v : Word) : bitAt (v &&& 0x800000FF).toNat 31 = bitAt v.toNat 31 := by
  rw [bitAt_toNat, bitAt_toNat]
  simp

theorem wfld_rootBits (v : Word) : wfld (v &&& 0x800000FF) 0 8 = wfld v 0 8 := wfld_congr fun j hj => by
  interval_cases j <;> simp

/-- The table that ATP_ROOT_LO_c and a value of ATP_ROOT_HI_c name. -/
def State.rootNamed (s : State) (c : Nat) (v : Word) : Nat := s.fld (0x90100 + 8 * c) 12 20 * 0x1000 + wfld v 0 8 * 0x100000000

theorem State.writeRoot_hi_clear (h : (s.ctx c).state = .free) (hv : bitAt v.toNat 31 = false) (who : Reader) :
    s.writeRoot c true v who = s.setReg (0x90104 + 8 * c) (v &&& 0x800000FF) := by
  have hclear : (!bitAt (v &&& 0x800000FF).toNat 31) = true := by rw [bitAt_rootBits, hv]; rfl
  unfold State.writeRoot
  dsimp only
  rw [if_neg (not_not.2 h), if_pos rfl, if_pos rfl, if_pos rfl, if_pos hclear]

/-- VALID written 1 where it was 0: the root is checked, and its table filled with zeros. -/
theorem State.writeRoot_hi_set (h : (s.ctx c).state = .free) (hv : bitAt v.toNat 31 = true) (h0 : s.rbit (0x90104 + 8 * c) 31 = false) (who : Reader) :
    s.writeRoot c true v who =
      if s.targetOk (s.rootNamed c v) 0x1000 then (s.zeroFill (s.rootNamed c v) 0x1000).setReg (0x90104 + 8 * c) (v &&& 0x800000FF)
      else s.locked (0x90104 + 8 * c) who := by
  have hset : ¬(!bitAt (v &&& 0x800000FF).toNat 31) = true := by rw [bitAt_rootBits, hv]; decide
  have hwas : bitAt (s.reg (0x90104 + 8 * c)).toNat 31 = false := h0
  unfold State.writeRoot State.rootNamed
  dsimp only
  rw [if_neg (not_not.2 h), if_pos rfl, if_pos rfl, if_pos rfl, if_neg hset, if_neg (by simp [hwas]), wfld_rootBits]

theorem State.dropLatches_ctx (s : State) (off c : Nat) : (s.dropLatches off).ctx c = s.ctx c := (s.dropLatches_moves off).ctx rfl c

theorem State.dropLatches_reg (s : State) (off x : Nat) : (s.dropLatches off).reg x = s.reg x := (s.dropLatches_moves off).reg rfl x

theorem State.dropLatches_rootNamed (s : State) (off c : Nat) (v : Word) : (s.dropLatches off).rootNamed c v = s.rootNamed c v := by
  unfold State.rootNamed State.fld
  rw [State.dropLatches_reg]

theorem State.dropLatches_targetOk (s : State) (off pa n : Nat) : (s.dropLatches off).targetOk pa n = s.targetOk pa n := by
  unfold State.targetOk State.stageBase State.stageMib State.fld
  rw [State.dropLatches_reg]

/-- The host's write of a root register, where it is served, is the register's rule in the state without the latches. -/
theorem exec_atpRootWrite (hs : s.served) (c : CtxId) (hi : Bool) (v : Word) :
    exec (.atpRootWrite c hi v .host) s = .next ((s.dropLatches (rootReg c.val hi)).writeRoot c.val hi v .host) :=
  congrArg Host.Outcome.next (State.onWrite_open _ (fun _ => hs.1) hs.2)

/-! ### Contexts that are not FREE -/

/-- Both root registers of context `c`. -/
def State.roots (s : State) (c : Nat) : Word × Word := (s.reg (0x90100 + 8 * c), s.reg (0x90104 + 8 * c))

theorem State.locked_roots (s : State) (off : Nat) (who : Reader) (c : Nat) : (s.locked off who).roots c = s.roots c :=
  Prod.ext (reg_locked s off who (by omega)) (reg_locked s off who (by omega))

/-- A write acts by its rule, is ignored, or does not reach the register. -/
theorem State.onWrite_cases (s : State) (off : Nat) (who : Reader) (f : State → State) :
    s.onWrite off who f = s ∨ s.onWrite off who f = s.locked off who ∨ s.onWrite off who f = f (s.dropLatches off) := by
  unfold State.onWrite
  split
  · exact .inl rfl
  · split
    · exact .inr (.inl rfl)
    · exact .inr (.inr rfl)

theorem atpRootWrite_held {c : CtxId} (h : (s.ctx c.val).state ≠ .free) (hi : Bool) (v : Word) (who : Reader) :
    ∃ u, exec (.atpRootWrite c hi v who) s = .next u ∧ u.roots c.val = s.roots c.val := by
  refine ⟨_, rfl, ?_⟩
  rcases State.onWrite_cases s (rootReg c.val hi) who (State.writeRoot c.val hi v who) with hw | hw | hw
  · exact congrArg (State.roots · c.val) hw
  · exact (congrArg (State.roots · c.val) hw).trans (State.locked_roots ..)
  · refine (congrArg (State.roots · c.val) hw).trans ?_
    rw [State.writeRoot_held (by rwa [State.dropLatches_ctx])]
    split
    · rfl
    · exact State.locked_roots ..

/-- Table 18.4 does not let the management controller write the roots (R530). -/
theorem State.mgtMay_root (s : State) (c : CtxId) (hi : Bool) (v : Word) : s.mgtMay (rootReg c.val hi) v = false := by
  unfold State.mgtMay rootReg
  cases hi <;> simp (disch := omega) only [if_neg, Bool.false_eq_true, if_false, if_true]

theorem registerWrite_root_held {c : CtxId} (h : (s.ctx c.val).state ≠ .free) (hi : Bool) (v : Word) (who : Reader) :
    ∃ u, exec (.registerWrite (rootReg c.val hi) v who) s = .next u ∧ u.roots c.val = s.roots c.val := by
  cases who with
  | host =>
    have hown : ownWrite (.atpRootWrite c hi v .host) = some (rootReg c.val hi, v) := by cases hi <;> rfl
    obtain ⟨u, hu, hroot⟩ := ownWrite_registerWrite (s := s) _ hown
    obtain ⟨x, hx, hkept⟩ := atpRootWrite_held h hi v .host
    obtain rfl : u = x := Host.Outcome.next.inj (hroot.symm.trans hx)
    exact ⟨u, hu, hkept⟩
  | mgmt =>
    obtain ⟨u, hu, rfl⟩ := registerWrite_mgmt_refused (s := s) _ v (.inr (s.mgtMay_root c hi v))
    exact ⟨u, hu, rfl⟩

/-! ### Contexts that are FREE -/

theorem State.writeRoot_lo_reg (i : Inv s) (h : (s.ctx c).state = .free) (v : Word) (who : Reader) :
    (s.writeRoot c false v who).reg (0x90100 + 8 * c) = v &&& 0xFFFFF000 := by
  rw [State.writeRoot_lo h]
  split
  · assumption
  · rw [reg_setFld_other _ _ _ _ (by omega), reg_setReg_same i]

/-- Without VALID, bits [7:0] are all that the register takes. -/
theorem State.writeRoot_hi_clear_reg (i : Inv s) (h : (s.ctx c).state = .free) (hv : bitAt v.toNat 31 = false) (who : Reader) :
    (s.writeRoot c true v who).reg (0x90104 + 8 * c) = v &&& 0xFF := by
  have hmsb : v.getLsbD 31 = false := (bitAt_toNat v 31).symm.trans hv
  rw [State.writeRoot_hi_clear h hv, reg_setReg_same i]
  have hsplit : (0x800000FF : Word) = 0xFF ||| BitVec.twoPow 32 31 := by decide
  have hoff : v &&& BitVec.twoPow 32 31 = 0 := by rw [BitVec.and_twoPow, hmsb]; rfl
  rw [hsplit, BitVec.and_or_distrib_left, hoff]
  exact BitVec.or_zero

/-- Settles O59: while the context is not FREE the rule of a root register changes none, and the management controller's writes do not reach it. -/
theorem rootsOfFreeContexts : Obligations.RootsOfFreeContexts := by
  refine ⟨fun c hi v who i s h hins => ?_, fun c v s i hs h => ⟨⟨_, exec_atpRootWrite hs c false v, ?_⟩, fun hv => ⟨_, exec_atpRootWrite hs c true v, ?_⟩⟩⟩
  · have hkept : ∃ u, exec i s = .next u ∧ u.roots c.val = s.roots c.val := by
      rcases hins with rfl | rfl
      · exact atpRootWrite_held h hi v who
      · exact registerWrite_root_held h hi v who
    obtain ⟨u, hu, hroots⟩ := hkept
    exact ⟨u, hu, congrArg Prod.fst hroots, congrArg Prod.snd hroots⟩
  · exact State.writeRoot_lo_reg (dropLatches_inv i _) (by rwa [State.dropLatches_ctx]) v .host
  · exact State.writeRoot_hi_clear_reg (dropLatches_inv i _) (by rwa [State.dropLatches_ctx]) hv .host

end Sys2Proof.Machine
end

section
/-! PROOFS. Page walks, the roots of FREE contexts, and errors of device memory, and the statement on them (O30; R168, R175, R177, R194, R197, R487, R578). -/

namespace Sys2Proof.Machine

variable {s : State}

/-! ### Memory filled with zeros -/

/-- A fill with zeros leaves every byte outside its range (R175, R178). -/
theorem byte_zeroFill (h : Memory.wf s.mem = true) (pa n a : Nat) : (s.zeroFill pa n).byte a = if pa ≤ a ∧ a < pa + n then 0 else s.byte a :=
  byte_zeroRange h pa (pa + n) a

/-! ### Page walks (R171, R177, R199) -/

theorem pageWalkDone_caches (k : Fin 5) (c : CtxId) (va e l : Nat) (i : Inv s) (hc : (s.ctx c.val).state ≠ .teardown)
    (hw : (s.bump 0x9001C 32 1).walk k.val c.val va .write = .ok (e, l)) :
    ∃ u, exec (.pageWalkDone k c va) s = .next u ∧
      u.atp.cache.head? = some ⟨k.val, c.val, (s.ctx c.val).gen, va / 0x10000, e, l⟩ ∧ u.mem = s.mem ∧
      (u.reg 0x9001C).toNat = min 0xFFFFFFFF ((s.reg 0x9001C).toNat + 1) := by
  have hexec : ∃ rest, exec (.pageWalkDone k c va) s = .next { s.bump 0x9001C 32 1 with
      atp := { s.atp with cache := ⟨k.val, c.val, (s.ctx c.val).gen, va / 0x10000, e, l⟩ :: rest } } := by
    change ∃ rest, execPageWalkDone k c va s = _
    unfold execPageWalkDone
    dsimp only
    rw [if_neg (show ((s.bump 0x9001C 32 1).ctx c.val).state ≠ .teardown from hc), hw]
    exact ⟨_, rfl⟩
  obtain ⟨rest, hu⟩ := hexec
  exact ⟨_, hu, rfl, rfl, reg_bump_same i 0x9001C 1⟩

theorem pageWalkDone_teardown (k : Fin 5) (c : CtxId) (va : Nat) (i : Inv s) (hc : (s.ctx c.val).state = .teardown) :
    ∃ u, exec (.pageWalkDone k c va) s = .next u ∧ u.atp = s.atp ∧ u.mem = s.mem ∧
      (u.reg 0x9001C).toNat = min 0xFFFFFFFF ((s.reg 0x9001C).toNat + 1) :=
  ⟨s.bump 0x9001C 32 1, if_pos hc, rfl, rfl, reg_bump_same i 0x9001C 1⟩

/-! ### Roots of FREE contexts (R175) -/

section

variable {c : CtxId} {v : Word}

/-- VALID written 1 where it was 0 acts by whether the root lies in memory. -/
theorem exec_atpRootWrite_set (hs : s.served) (hc : (s.ctx c.val).state = .free) (hv : bitAt v.toNat 31 = true)
    (h0 : s.rbit (0x90104 + 8 * c.val) 31 = false) :
    exec (.atpRootWrite c true v .host) s = .next (if s.targetOk (s.rootNamed c.val v) 0x1000 then
        ((s.dropLatches (0x90104 + 8 * c.val)).zeroFill (s.rootNamed c.val v) 0x1000).setReg (0x90104 + 8 * c.val) (v &&& 0x800000FF)
      else (s.dropLatches (0x90104 + 8 * c.val)).locked (0x90104 + 8 * c.val) .host) := by
  have h0' : (s.dropLatches (0x90104 + 8 * c.val)).rbit (0x90104 + 8 * c.val) 31 = false := by rwa [State.rbit, State.dropLatches_reg]
  have hrule := State.writeRoot_hi_set ((congrArg Ctx.state (s.dropLatches_ctx (0x90104 + 8 * c.val) c.val)).trans hc) hv h0' .host
  rw [State.dropLatches_rootNamed, State.dropLatches_targetOk] at hrule
  exact (exec_atpRootWrite hs c true v).trans (congrArg _ hrule)

/-- A root that lies in memory is taken, and its table is filled with zeros. -/
theorem atpRootWrite_takes (i : Inv s) (hs : s.served) (hc : (s.ctx c.val).state = .free) (hv : bitAt v.toNat 31 = true)
    (h0 : s.rbit (0x90104 + 8 * c.val) 31 = false) (ht : s.targetOk (s.rootNamed c.val v) 0x1000 = true) :
    ∃ u, exec (.atpRootWrite c true v .host) s = .next u ∧ u.reg (0x90104 + 8 * c.val) = v &&& 0x800000FF ∧
      ∀ a, u.byte a = if s.rootNamed c.val v ≤ a ∧ a < s.rootNamed c.val v + 0x1000 then 0 else s.byte a := by
  have it : Inv (s.dropLatches (0x90104 + 8 * c.val)) := dropLatches_inv i _
  refine ⟨_, (exec_atpRootWrite_set hs hc hv h0).trans (congrArg _ (if_pos ht)), reg_setReg_same ((State.zeroFill_moves ..).inv it) _ _, fun a => ?_⟩
  exact byte_zeroFill it.mem _ _ a

theorem atpRootWrite_refused (hs : s.served) (hc : (s.ctx c.val).state = .free) (hv : bitAt v.toNat 31 = true)
    (h0 : s.rbit (0x90104 + 8 * c.val) 31 = false) (ht : s.targetOk (s.rootNamed c.val v) 0x1000 = false) :
    ∃ u, exec (.atpRootWrite c true v .host) s = .next u ∧ u = (s.dropLatches (0x90104 + 8 * c.val)).locked (0x90104 + 8 * c.val) .host :=
  ⟨_, exec_atpRootWrite_set hs hc hv h0, if_neg (ne_true_of_eq_false ht)⟩

theorem bitAt_wput_zero (w : Word) : bitAt (wput w 31 1 0).toNat 31 = false := by
  have hw := w.isLt
  unfold bitAt wput putBits bitsOf
  rw [BitVec.toNat_ofNat]
  simp only [beq_eq_false_iff_ne]
  omega

/-- A change of ATP_ROOT_LO_c clears VALID. -/
theorem atpRootWrite_moves_table (i : Inv s) (hs : s.served) (hc : (s.ctx c.val).state = .free) (hv : v &&& 0xFFFFF000 ≠ s.reg (0x90100 + 8 * c.val)) :
    ∃ u, exec (.atpRootWrite c false v .host) s = .next u ∧ u.reg (0x90100 + 8 * c.val) = v &&& 0xFFFFF000 ∧
      u.rbit (0x90104 + 8 * c.val) 31 = false ∧ u.mem = s.mem := by
  have it : Inv (s.dropLatches (0x90100 + 8 * c.val)) := dropLatches_inv i _
  have hrule := (State.writeRoot_lo (s := s.dropLatches (0x90100 + 8 * c.val)) hc v .host).trans (if_neg (Ne.symm hv))
  refine ⟨_, (exec_atpRootWrite hs c false v).trans (congrArg _ hrule), ?_, ?_, rfl⟩
  · rw [reg_setFld_other _ _ _ _ (by omega), reg_setReg_same it]
  · rw [State.rbit, State.setFld, reg_setReg_same ((State.setReg_moves ..).inv it)]
    exact bitAt_wput_zero _

/-- A change of a root register of a context that is not FREE is a locked write. -/
theorem atpRootWrite_locked (hs : s.served) (hc : (s.ctx c.val).state ≠ .free) (hi : Bool) (hv : rootBits hi v ≠ s.reg (rootReg c.val hi)) :
    ∃ u, exec (.atpRootWrite c hi v .host) s = .next u ∧ u = (s.dropLatches (rootReg c.val hi)).locked (rootReg c.val hi) .host :=
  ⟨_, exec_atpRootWrite hs c hi v,
    (State.writeRoot_held (s := s.dropLatches (rootReg c.val hi)) hc hi v .host).trans (if_neg (Ne.symm hv))⟩

end

/-! ### Rows that wear out: what is reported of them (R487, R493, R497) -/

/-- A register that reports of repairs do not touch: neither HUB_REPAIR_EVT, nor the alert's, nor the pending bit of vector 64. -/
abbrev OffRepair (x : Nat) : Prop := x ≠ 0x420 ∧ x ≠ 0xC0008 ∧ x ≠ 0xF1008

section

variable {x : Nat} (hx : OffRepair x)
include hx

theorem reg_repairFlag (s : State) (bit idx pa : Nat) : (s.repairFlag bit idx pa).reg x = s.reg x := by
  unfold State.repairFlag
  split
  · rfl
  · rw [reg_alert _ _ hx.2.1, reg_event _ _ _ _ _ hx.2.2, reg_setFld_other _ _ _ _ hx.1]

theorem reg_noteEntry (s : State) (e : DEntry) : (s.noteEntry e).2.reg x = s.reg x := by
  unfold State.noteEntry
  extract_lets e' put
  split
  · rfl
  · split
    · rfl
    · exact reg_repairFlag hx _ _ _ _

theorem reg_queueEntry (s : State) (e : DEntry) : (s.queueEntry e).reg x = s.reg x := by
  unfold State.queueEntry
  extract_lets e' unitKind known
  split
  · rfl
  · have hnote := reg_noteEntry hx s e'
    split
    · next i t he =>
      rw [he] at hnote
      exact (reg_repairFlag hx t _ _ _).trans hnote
    · next t he =>
      rw [he] at hnote
      exact hnote

theorem reg_retire (s : State) (e : DEntry) : (s.retire e).reg x = s.reg x := by
  unfold State.retire
  extract_lets pa
  split
  · exact reg_repairFlag hx s _ _ _
  · have hnote := reg_noteEntry hx s e
    split
    · next i t he =>
      rw [he] at hnote
      exact (reg_repairFlag hx t _ _ _).trans hnote
    · next t he =>
      rw [he] at hnote
      exact (reg_repairFlag hx _ _ _ _).trans hnote

theorem reg_rowWorn (s : State) (kind pa loc row : Nat) : (s.rowWorn kind pa loc row).reg x = s.reg x := by
  unfold State.rowWorn
  extract_lets e used
  split
  · exact reg_queueEntry hx s _
  · split
    · exact reg_queueEntry hx s _
    · split
      · rfl
      · exact reg_retire hx s _

theorem reg_countRow (s : State) (u pa loc row : Nat) : (s.countRow u pa loc row).reg x = s.reg x := by
  unfold State.countRow
  extract_lets key n rows rep t
  by_cases hfull : n = 1 ∧ (if u < 8 then 64 else 16) ≤ rows
  · rw [if_pos hfull]
  · rw [if_neg hfull]
    split
    · exact reg_rowWorn hx t _ _ _ _
    · rfl

end

/-! ### Corrected and uncorrectable errors (R168, R197, R487, R578) -/

/-- A corrected error in the total of memory `u` that the management controller reads. -/
def State.ceTotaled (s : State) (u : Nat) : State :=
  { s with mgt := { s.mgt with ceTotal := tabSet (fun _ => 0) s.mgt.ceTotal u (satAdd 0xFFFF (tabGet (fun _ => 0) s.mgt.ceTotal u) 1) } }

theorem memoryCe_counts (pa loc row : Nat) (i : Inv s) (hu : memUnit pa ≤ 12) :
    ∃ u, exec (.memoryCe pa loc row) s = .next u ∧
      (u.reg (0x90020 + 4 * memUnit pa)).toNat = min 0xFFFFFFFF ((s.reg (0x90020 + 4 * memUnit pa)).toNat + 1) ∧ u.mem = s.mem := by
  have hm : Moves 0x10000 s (s.ceTotaled (memUnit pa)) := .mgt _ rfl rfl (.refl _ s)
  refine ⟨((s.ceTotaled (memUnit pa)).bump (0x90020 + 4 * memUnit pa) 32 1).countRow (memUnit pa) pa loc row, if_neg (Nat.not_lt.2 hu), ?_,
    (State.countRow_moves ..).off .memory rfl⟩
  rw [reg_countRow ⟨by omega, by omega, by omega⟩, reg_bump_same (hm.inv i), hm.reg rfl]

/-- An uncorrectable error as it is counted, with what it says of its row (R487). -/
def State.ueCounted (s : State) (pa loc row : Nat) : State :=
  (s.bump (0x90060 + 4 * memUnit pa) 32 1).rowWorn (if memUnit pa < 8 then 6 else 7) pa loc row

theorem State.ueCounted_moves (s : State) (pa loc row : Nat) : Moves 0x201083C s (s.ueCounted pa loc row) :=
  (State.rowWorn_moves ..).then rfl <| (State.bump_moves ..).mono rfl

/-- Outside the hub scratchpad the sector is poisoned, and the context that read it takes the fault. -/
theorem exec_memoryUe (pa loc row : Nat) (r : Option (CtxId × Nat)) (hu : memUnit pa < 12) :
    exec (.memoryUe pa loc row r) s = .next (match r with
      | some (c, idx) => (((s.ueCounted pa loc row).setPoison (pa / 32) true).contextFault c.val 0x45 (0x10000 + memUnit pa) (some idx) false
          (0x100 + memUnit pa)).schedule none
      | none => (s.ueCounted pa loc row).setPoison (pa / 32) true) :=
  (if_neg (by omega)).trans (if_neg (by omega))

theorem memoryUe_tearsDown (pa loc row : Nat) (c : CtxId) (idx : Nat) (i : Inv s) (hu : memUnit pa < 12) (hc : (s.ctx c.val).state = .open_) :
    ∃ u, exec (.memoryUe pa loc row (some (c, idx))) s = .next u ∧ (u.ctx c.val).state = .teardown ∧ (u.ring c.val).lastCode = 0x45 := by
  have hm : Moves 0x203083C s ((s.ueCounted pa loc row).setPoison (pa / 32) true) :=
    (State.setPoison_moves ..).then rfl <| (s.ueCounted_moves pa loc row).mono rfl
  obtain ⟨hstate, -, hcode⟩ := State.contextFault_stops (hm.inv i) (c := c.val) (code := 0x45) (detail := 0x10000 + memUnit pa)
    (unit := 0x100 + memUnit pa) (idx := some idx) (entry := false) (by rwa [hm.ctx rfl])
  refine ⟨_, exec_memoryUe pa loc row _ hu, ?_, ?_⟩
  · exact (congrArg Ctx.state ((State.schedule_moves ..).ctx rfl c.val)).trans hstate
  · exact (congrArg Ring.lastCode ((State.schedule_moves ..).ring rfl c.val)).trans hcode

theorem memoryUe_poisons (pa loc row : Nat) (i : Inv s) (hu : memUnit pa < 12) :
    ∃ u, exec (.memoryUe pa loc row none) s = .next u ∧
      (u.reg (0x90060 + 4 * memUnit pa)).toNat = min 0xFFFFFFFF ((s.reg (0x90060 + 4 * memUnit pa)).toNat + 1) ∧
      u.poisoned (pa / 32) = true ∧ u.mem = s.mem := by
  refine ⟨_, exec_memoryUe pa loc row none hu, ?_, tabGet_tabSet_ne _ _ _ _ (by decide), (s.ueCounted_moves pa loc row).off .memory rfl⟩
  rw [(State.setPoison_moves ..).reg rfl, State.ueCounted, reg_rowWorn ⟨by omega, by omega, by omega⟩, reg_bump_same i]

theorem memoryUe_hubPad (pa loc row : Nat) (r : Option (CtxId × Nat)) (hu : memUnit pa = 12) :
    ∃ u, exec (.memoryUe pa loc row r) s = .next u ∧ u.flt.pkgFault = true :=
  ⟨_, (if_neg (by omega)).trans (if_pos hu), (State.packageFault_severed ..).1⟩

theorem memoryError_hole (pa loc row : Nat) (r : Option (CtxId × Nat)) (i : Instr) (hu : 12 < memUnit pa)
    (h : i = .memoryCe pa loc row ∨ i = .memoryUe pa loc row r) : ∃ u, exec i s = .next u ∧ u = s := by
  rcases h with rfl | rfl
  · exact ⟨s, if_pos hu, rfl⟩
  · exact ⟨s, if_pos hu, rfl⟩

/-- Settles O30: a walk is one count and one line of a cache, a root register's write is its rule, and an error is counted before it acts on its reader. -/
theorem translationAndMemoryErrors : Obligations.TranslationAndMemoryErrors :=
  ⟨fun k c va e l _ i hc hw => pageWalkDone_caches k c va e l i hc hw, fun k c va _ i hc => pageWalkDone_teardown k c va i hc,
   fun _ _ _ i hs hc hv h0 ht => atpRootWrite_takes i hs hc hv h0 ht, fun _ _ _ hs hc hv h0 ht => atpRootWrite_refused hs hc hv h0 ht,
   fun _ _ _ i hs hc hv => atpRootWrite_moves_table i hs hc hv, fun _ _ _ hs hc hv => atpRootWrite_locked hs hc false hv,
   fun _ _ _ hs hc hv => atpRootWrite_locked hs hc true hv, fun pa loc row _ i hu => memoryCe_counts pa loc row i hu,
   fun pa loc row c idx _ i hu hc => memoryUe_tearsDown pa loc row c idx i hu hc, fun pa loc row _ i hu _ => memoryUe_poisons pa loc row i hu,
   fun pa loc row r _ hu => memoryUe_hubPad pa loc row r hu, fun pa loc row r i _ hu h => memoryError_hole pa loc row r i hu h⟩

end Sys2Proof.Machine
end

section
/-! PROOFS. ATP_UPDATE, BIAS_WRITE and ROUTE_VERSION outside a bracket, and the statement on them (O24; R178, R179, R199, R241, R254, R450). -/

namespace Sys2Proof.Machine

variable {s t s1 : State} {c : Nat} {d : Desc}

/-! ### What the end of a descriptor leaves of the registers -/

theorem reg_endDesc (s : State) (c idx code detail epoch : Nat) {x : Nat} (hx : x ≠ 0x20018) : (s.endDesc c idx code detail epoch).reg x = s.reg x := by
  have hrel : (s.unreserve (Reservation.ofDesc c idx)).reg x = s.reg x := by
    unfold State.unreserve
    extract_lets l
    split
    · exact reg_setReg_other _ _ hx
    · rfl
  unfold State.endDesc
  dsimp only
  split
  · exact ((State.setDesc_moves ..).reg rfl x).trans hrel
  · exact hrel

theorem reg_finishOk (s : State) (c : Nat) (d : Desc) (detail : Nat) {x : Nat} (hx : x ≠ 0x20018) : (s.finishOk c d detail).reg x = s.reg x :=
  reg_endDesc s c d.idx _ _ _ hx

/-- What leaves the rings leaves the outcome of every descriptor. -/
theorem Moves.outcome {m : Nat} (h : Moves m s t) (hm : m.testBit 12 = false) (c i : Nat) : t.outcome c i = s.outcome c i := by
  unfold State.outcome State.desc
  rw [h.ring hm c]

/-! ### ATP_UPDATE (R178, R179, R199) -/

/-- The bytes of a write read back, and every other byte reads as before. -/
theorem byte_pwrite (h : Memory.wf s.mem = true) (pa : Nat) (bs : List Byte) (a : Nat) :
    (s.pwrite pa bs).byte a = if pa ≤ a ∧ a < pa + bs.length then bs.getD (a - pa) 0 else s.byte a := by
  change (s.setBytes pa bs).byte a = _
  split
  · next hin =>
    have hlt : a - pa < bs.length := by omega
    have hsame := byte_setBytes_same bs s pa (a - pa) hlt h
    rw [Nat.add_sub_cancel' hin.1] at hsame
    rw [hsame, List.getD_eq_getElem _ _ hlt]
  · exact byte_setBytes_other bs s pa a (by omega)

/-- The entry of an ATP_UPDATE written at `pa`, with ZERO once the table that it names is filled with zeros. -/
def State.entryWritten (s : State) (d : Desc) (pa : Nat) : State :=
  (if dbit d.words 4 2 then s.zeroFill (pteAddr (dword d.words 3)) (targetSize (dfld d.words 4 0 2) false) else s).pwrite pa (leBytes 8 (dword d.words 3))

theorem State.entryWritten_moves (s : State) (d : Desc) (pa : Nat) : Moves 0x20100 s (s.entryWritten d pa) :=
  (State.pwrite_moves ..).then rfl <| .ite (State.zeroFill_moves ..) (.refl _ s)

theorem byte_entryWritten (i : Inv s) (d : Desc) (pa a : Nat) :
    (s.entryWritten d pa).byte a = if pa ≤ a ∧ a < pa + 8 then (leBytes 8 (dword d.words 3)).getD (a - pa) 0
      else if dbit d.words 4 2 = true ∧ pteAddr (dword d.words 3) ≤ a ∧ a < pteAddr (dword d.words 3) + targetSize (dfld d.words 4 0 2) false then 0
      else s.byte a := by
  unfold State.entryWritten
  by_cases hz : dbit d.words 4 2 = true
  · rw [if_pos hz, byte_pwrite ((State.zeroFill_moves ..).inv i).mem, byte_zeroFill i.mem]
    simp only [hz, true_and]
    rfl
  · rw [if_neg hz, byte_pwrite i.mem]
    simp only [hz, Bool.false_eq_true, false_and, if_false]
    rfl

theorem exec_atpUpdate_writes {c : CtxId} {r pa old : Nat} (hgo : s.startsAtp c.val = .go d s1) (hroot : s1.rootOf c.val (dword d.words 2) = .ok r)
    (hwalk : (s1.bump 0x9001C 32 1).entryAddr c.val (dword d.words 2) (dfld d.words 4 0 2) 3 r = .ok (some pa))
    (hold : (s1.bump 0x9001C 32 1).pteReader c.val pa = .ok old) (hin : s1.inBracket c.val = false) :
    exec (.atpUpdate c) s = .next ((((s1.bump 0x9001C 32 1).entryWritten d pa).discardCached c.val (dword d.words 2)
      (levelSpan (dfld d.words 4 0 2))).finishOk c.val d old) := by
  have hin' : (s1.bump 0x9001C 32 1).inBracket c.val = false := hin
  have hzero : (if dbit d.words 4 2 then (s1.bump 0x9001C 32 1).zeroFill (pteAddr (dword d.words 3)) (targetSize (dfld d.words 4 0 2) false)
      else s1.bump 0x9001C 32 1).inBracket c.val = false := by
    split
    · exact hin
    · exact hin
  change execAtpUpdate c s = _
  unfold State.startsAtp at hgo
  unfold execAtpUpdate
  rw [hgo]
  dsimp only
  rw [hroot]
  dsimp only
  rw [hwalk]
  dsimp only
  rw [hold]
  dsimp only
  rw [hin']
  simp only [Bool.false_and, Bool.not_false, Bool.and_true, Bool.false_eq_true, if_false]
  rw [if_neg (ne_true_of_eq_false hzero)]
  rfl

theorem atpUpdate_writes (c : CtxId) (d : Desc) (r pa old : Nat) (i : Inv s) (hgo : s.startsAtp c.val = .go d s1)
    (hroot : s1.rootOf c.val (dword d.words 2) = .ok r)
    (hwalk : (s1.bump 0x9001C 32 1).entryAddr c.val (dword d.words 2) (dfld d.words 4 0 2) 3 r = .ok (some pa))
    (hold : (s1.bump 0x9001C 32 1).pteReader c.val pa = .ok old) (hin : s1.inBracket c.val = false) :
    ∃ u, exec (.atpUpdate c) s = .next u ∧
      u.outcome c.val d.idx = some (d.okCode, old, d.epoch) ∧ (u.reg 0x9001C).toNat = min 0xFFFFFFFF ((s.reg 0x9001C).toNat + 1) ∧
      ∀ a, u.byte a = if pa ≤ a ∧ a < pa + 8 then (leBytes 8 (dword d.words 3)).getD (a - pa) 0
        else if dbit d.words 4 2 = true ∧ pteAddr (dword d.words 3) ≤ a ∧ a < pteAddr (dword d.words 3) + targetSize (dfld d.words 4 0 2) false then 0
        else s.byte a := by
  have hb := State.begin_began hgo
  have ib : Inv (s1.bump 0x9001C 32 1) := (State.bump_moves ..).inv (hb.moves.inv i)
  have hw : Moves 0x20100 (s1.bump 0x9001C 32 1)
      (((s1.bump 0x9001C 32 1).entryWritten d pa).discardCached c.val (dword d.words 2) (levelSpan (dfld d.words 4 0 2))) :=
    (State.discardCached_moves ..).then rfl (State.entryWritten_moves ..)
  have hc := c.isLt
  have hcnt : s1.reg 0x9001C = s.reg 0x9001C := hb.regs _ (by omega) (by omega) (by decide)
  have hmem : s1.mem = s.mem := hb.moves.off .memory rfl
  refine ⟨_, exec_atpUpdate_writes hgo hroot hwalk hold hin, State.finish_outcome (hb.stands.of_rings (hw.off .rings rfl)) _ _, ?_, fun a => ?_⟩
  · rw [reg_finishOk _ _ _ _ (by decide), hw.reg rfl, reg_bump_same (hb.moves.inv i), hcnt]
  · have hfin : ∀ x : State, (x.finishOk c.val d old).byte a = x.byte a := fun x =>
      congrArg (tabGet memDefault · a) ((State.finishOk_moves x c.val d old).off .memory rfl)
    have hbyte : (s1.bump 0x9001C 32 1).byte a = s.byte a := congrArg (tabGet memDefault · a) hmem
    rw [hfin, ← hbyte]
    exact byte_entryWritten ib d pa a

/-! ### Acting under the write lease of a set (R241, R450) -/

/-- Context `c` holds the write lease of set `k` under the descriptor's epoch. -/
abbrev State.holdsSet (s : State) (c : Nat) (d : Desc) (k : Nat) : Prop :=
  (s.lease (resSet k)).holder = some (c, (s.ctx c).gen) ∧ s.epoch (resSet k) = d.epoch

/-- A bracket of context `c` in which nothing stands. -/
def emptyBracket (c : Nat) : Bracket :=
  { ctx := c, gen := 0, count := 0, sets := [], ptes := [], forms := [], renews := [], bankLost := [], closeIdx := none, committing := false }

section

variable {k : Nat} {direct : State → State} {inShadow : ShadowSet → ShadowSet} {detail : ShadowSet → Nat}

theorem State.useSet_direct (hin : s.inBracket c = false) (h : s.holdsSet c d k) :
    s.useSet c d k direct inShadow detail = (direct s).finishOk c d (detail (s.shadowOf (emptyBracket c) k d.epoch)) := by
  unfold State.useSet
  dsimp only
  rw [hin, if_neg (by simp [h.1, h.2])]
  rfl

theorem State.useSet_stale (hin : s.inBracket c = false) (h : ¬s.holdsSet c d k) :
    s.useSet c d k direct inShadow detail = s.staleUse c d (resSet k) := by
  have hstale : (s.lease (resSet k)).holder ≠ some (c, (s.ctx c).gen) ∨ s.epoch (resSet k) ≠ d.epoch := not_and_or.1 h
  unfold State.useSet
  dsimp only
  rw [hin, if_pos (or_assoc.1 (.inl hstale))]
  rfl

end

theorem reg_staleUse (s : State) (c : Nat) (d : Desc) (res : Nat) {x : Nat} (hx : x ≠ 0x20018) (he : x ≠ 0xE0054) :
    (s.staleUse c d res).reg x = s.reg x := (reg_endDesc _ c d.idx _ _ _ hx).trans (reg_bump_other s _ _ he)

theorem State.staleUse_outcome (h : s.Stands c d) (res : Nat) : (s.staleUse c d res).outcome c d.idx = some (0x20, res, s.epoch res) :=
  State.endDesc_outcome (s := s.bump 0xE0054 32 1) (h.of_rings rfl).desc _ _ _

/-! ### BIAS_WRITE (R241, R254) -/

theorem dfld_lt (ws : List DWord) (i lo len : Nat) : dfld ws i lo len < 2 ^ len := Nat.mod_lt _ (Nat.two_pow_pos len)

theorem reg_putBiases_other (k : Nat) {x : Nat} : ∀ (vs : List Nat) (s : State) (first : Nat),
    (∀ i < vs.length, x ≠ 0x34000 + 0x400 * k + 4 * (first + i)) → (s.putBiases k first vs).reg x = s.reg x
  | [], _, _, _ => rfl
  | v :: vs, s, first, h => by
    rw [State.putBiases, reg_putBiases_other k vs _ _ fun i hi => ?_]
    · exact reg_setReg_other s _ (h 0 (Nat.succ_pos _))
    · have := h (i + 1) (Nat.succ_lt_succ hi)
      omega

theorem reg_putBiases_same (k : Nat) (vs : List Nat) {s : State} (first : Nat) (is : Inv s) : ∀ i < vs.length,
    (s.putBiases k first vs).reg (0x34000 + 0x400 * k + 4 * (first + i)) = BitVec.ofNat 32 (vs.getD i 0) := by
  induction vs generalizing s first with
  | nil => exact fun _ h => absurd h (Nat.not_lt_zero _)
  | cons v vs ih =>
    intro i h
    cases i with
    | zero =>
      rw [State.putBiases, reg_putBiases_other k vs _ _ (by omega)]
      exact reg_setReg_same is _ _
    | succ n =>
      have hrest := ih (s := s.setReg (0x34000 + 0x400 * k + 4 * first) (BitVec.ofNat 32 v)) (first + 1) ((State.setReg_moves ..).inv is) n
        (Nat.lt_of_succ_lt_succ h)
      rwa [show first + 1 + n = first + (n + 1) by omega] at hrest

theorem reg_clearLoads_other (k : Nat) {x : Nat} : ∀ (es : List Nat) (s : State), (∀ e ∈ es, x ≠ 0x38000 + 0x400 * k + 4 * e) →
    (s.clearLoads k es).reg x = s.reg x
  | [], _, _ => rfl
  | e :: es, s, h => (reg_clearLoads_other k es _ fun y hy => h y (List.mem_cons_of_mem _ hy)).trans
      (reg_setReg_other s _ (h e List.mem_cons_self))

/-- The experts whose LOAD counters a BIAS_WRITE clears. -/
def loadsCleared (d : Desc) : List Nat := if dbit d.words 3 0 then (List.range (dfld d.words 3 16 9)).map (fun i => dfld d.words 3 40 8 + i) else []

/-- The biases of a BIAS_WRITE put into its set; the whole set written clears its poison (R254). -/
def State.biasesPut (s : State) (d : Desc) (vals : List Nat) : State :=
  let t := (s.putBiases (dfld d.words 3 48 4) (dfld d.words 3 40 8) vals).clearLoads (dfld d.words 3 48 4) (loadsCleared d)
  if dfld d.words 3 40 8 = 0 ∧ dfld d.words 3 16 9 = 256 then t.setFld (0x30100 + 0x10 * dfld d.words 3 48 4) 30 1 0 else t

theorem State.biasesPut_moves (s : State) (d : Desc) (vals : List Nat) : Moves 0x20 s (s.biasesPut d vals) := by
  have ht : Moves 0x20 s ((s.putBiases (dfld d.words 3 48 4) (dfld d.words 3 40 8) vals).clearLoads (dfld d.words 3 48 4) (loadsCleared d)) :=
    (State.clearLoads_moves ..).then rfl (State.putBiases_moves ..)
  exact .ite ((State.setFld_moves ..).then rfl ht) ht

theorem reg_biasesPut (i : Inv s) (d : Desc) {vals : List Nat} {n : Nat} (hn : n < vals.length) (hlen : vals.length < 512) :
    (s.biasesPut d vals).reg (0x34000 + 0x400 * dfld d.words 3 48 4 + 4 * (dfld d.words 3 40 8 + n)) = BitVec.ofNat 32 (vals.getD n 0) := by
  have hk := dfld_lt d.words 3 48 4
  have hloads : ∀ e ∈ loadsCleared d, 0x34000 + 0x400 * dfld d.words 3 48 4 + 4 * (dfld d.words 3 40 8 + n) ≠
      0x38000 + 0x400 * dfld d.words 3 48 4 + 4 * e := by
    intro e he
    unfold loadsCleared at he
    split at he
    · obtain ⟨j, -, rfl⟩ := List.mem_map.1 he
      omega
    · exact absurd he List.not_mem_nil
  have ht := (reg_clearLoads_other (dfld d.words 3 48 4) (loadsCleared d) (s.putBiases (dfld d.words 3 48 4) (dfld d.words 3 40 8) vals) hloads).trans
    (reg_putBiases_same (dfld d.words 3 48 4) vals (dfld d.words 3 40 8) i n hn)
  unfold State.biasesPut
  extract_lets t
  split
  · exact (reg_setFld_other _ _ _ _ (by omega)).trans ht
  · exact ht

theorem biasWrite_puts {c : CtxId} {bs : List Byte} (hgo : s.startsBias c.val = .go d s1) (hh : s1.holdsSet c.val d (dfld d.words 3 48 4))
    (hin : s1.inBracket c.val = false) (hget : s1.get c.val (dword d.words 2) (4 * dfld d.words 3 16 9) = .ok bs)
    (hfin : (elemBits 32 0 (dfld d.words 3 16 9) bs).all f32Fin = true) :
    biasWrite c s = .next ((s1.biasesPut d (elemBits 32 0 (dfld d.words 3 16 9) bs)).finishOk c.val d (dfld d.words 3 16 9)) := by
  unfold State.startsBias at hgo
  unfold biasWrite
  rw [hgo]
  dsimp only
  rw [if_pos hh, hget]
  dsimp only
  rw [if_neg (by simp [hfin]), State.useSet_direct hin hh]
  rfl

theorem biasWrite_stale {c : CtxId} (hgo : s.startsBias c.val = .go d s1) (hh : ¬s1.holdsSet c.val d (dfld d.words 3 48 4))
    (hin : s1.inBracket c.val = false) : biasWrite c s = .next (s1.staleUse c.val d (resSet (dfld d.words 3 48 4))) := by
  unfold State.startsBias at hgo
  unfold biasWrite
  rw [hgo]
  dsimp only
  rw [if_neg hh]
  dsimp only
  rw [if_neg fun h => hh h.1, State.useSet_stale hin hh]

theorem biasWrite_ends (c : CtxId) (d0 d : Desc) (bs : List Byte) (i : Inv s) (hd : s.nextDesc c.val = some d0)
    (hgo : (s.asked c.val d0.idx).startsBias c.val = .go d s1) (hh : s1.holdsSet c.val d (dfld d.words 3 48 4)) (hin : s1.inBracket c.val = false)
    (hget : s1.get c.val (dword d.words 2) (4 * dfld d.words 3 16 9) = .ok bs)
    (hfin : (elemBits 32 0 (dfld d.words 3 16 9) bs).all f32Fin = true) (hn : s1.lnk.need = none) :
    ∃ u, exec (.biasWrite c) s = .next u ∧ u.outcome c.val d.idx = some (d.okCode, dfld d.words 3 16 9, d.epoch) ∧
      ∀ i < dfld d.words 3 16 9, u.reg (0x34000 + 0x400 * dfld d.words 3 48 4 + 4 * (dfld d.words 3 40 8 + i)) =
        BitVec.ofNat 32 ((elemBits 32 0 (dfld d.words 3 16 9) bs).getD i 0) := by
  have hb := State.begin_began hgo
  have hput := s1.biasesPut_moves d (elemBits 32 0 (dfld d.words 3 16 9) bs)
  have hm : Moves 0x1001020 s1 ((s1.biasesPut d (elemBits 32 0 (dfld d.words 3 16 9) bs)).finishOk c.val d (dfld d.words 3 16 9)) :=
    (State.finishOk_moves ..).then rfl (hput.mono rfl)
  have hlen : (elemBits 32 0 (dfld d.words 3 16 9) bs).length = dfld d.words 3 16 9 := by simp [elemBits]
  have hmax := dfld_lt d.words 3 16 9
  obtain ⟨u, hu, hend⟩ := State.starting_next hd (biasWrite_puts hgo hh hin hget hfin) (by rw [show _ = s1.lnk from hm.off .links rfl, hn])
  refine ⟨u, hu, (hend.outcome rfl _ _).trans (State.finish_outcome (hb.stands.of_rings (hput.off .rings rfl)) _ _), fun n hlt => ?_⟩
  have is1 : Inv s1 := hb.moves.inv ((State.setLnk_moves ..).inv i)
  rw [hend.reg rfl, reg_finishOk _ _ _ _ (by omega)]
  exact reg_biasesPut is1 d (by omega) (by omega)

theorem biasWrite_refused (c : CtxId) (d0 d : Desc) (hd : s.nextDesc c.val = some d0) (hgo : (s.asked c.val d0.idx).startsBias c.val = .go d s1)
    (hh : ¬s1.holdsSet c.val d (dfld d.words 3 48 4)) (hin : s1.inBracket c.val = false) (hn : s1.lnk.need = none) :
    ∃ u, exec (.biasWrite c) s = .next u ∧
      u.outcome c.val d.idx = some (0x20, resSet (dfld d.words 3 48 4), s1.epoch (resSet (dfld d.words 3 48 4))) ∧
      ∀ a, 0x34000 ≤ a → a < 0x38000 → u.reg a = s.reg a := by
  have hb := State.begin_began hgo
  obtain ⟨u, hu, hend⟩ := State.starting_next hd (biasWrite_stale hgo hh hin)
    (by rw [show _ = s1.lnk from (State.staleUse_moves ..).off .links rfl, hn])
  have hc := c.isLt
  refine ⟨u, hu, (hend.outcome rfl _ _).trans (State.staleUse_outcome hb.stands _), fun a hlo hhi => ?_⟩
  exact (hend.reg rfl a).trans <| (reg_staleUse _ _ _ _ (by omega) (by omega)).trans (hb.regs a (by omega) (by omega) (by omega))

/-! ### ROUTE_VERSION (R241) -/

theorem exec_routeVersion_stores {c : CtxId} (hgo : s.startsVersion c.val = .go d s1) (hh : s1.holdsSet c.val d (dfld d.words 2 48 4))
    (hin : s1.inBracket c.val = false) : exec (.routeVersion c) s = .next
      ((s1.setReg (0x30104 + 0x10 * dfld d.words 2 48 4) (BitVec.ofNat 32 (dfld d.words 2 0 32))).finishOk c.val d (s1.setVersion (dfld d.words 2 48 4))) := by
  change execRouteVersion c s = _
  unfold State.startsVersion at hgo
  unfold execRouteVersion
  rw [hgo]
  dsimp only
  rw [State.useSet_direct hin hh]
  rfl

theorem exec_routeVersion_stale {c : CtxId} (hgo : s.startsVersion c.val = .go d s1) (hh : ¬s1.holdsSet c.val d (dfld d.words 2 48 4))
    (hin : s1.inBracket c.val = false) : exec (.routeVersion c) s = .next (s1.staleUse c.val d (resSet (dfld d.words 2 48 4))) := by
  change execRouteVersion c s = _
  unfold State.startsVersion at hgo
  unfold execRouteVersion
  rw [hgo]
  dsimp only
  rw [State.useSet_stale hin hh]

/-- A start leaves the VERSION of every set. -/
theorem State.Began.setVersion (h : s.Began s1 c d) {k : Nat} (hk : k < 16) : s1.setVersion k = s.setVersion k :=
  congrArg BitVec.toNat (h.regs _ (by omega) (by omega) (by omega))

theorem routeVersion_ends (c : CtxId) (d : Desc) (i : Inv s) (hgo : s.startsVersion c.val = .go d s1)
    (hh : s1.holdsSet c.val d (dfld d.words 2 48 4)) (hin : s1.inBracket c.val = false) :
    ∃ u, exec (.routeVersion c) s = .next u ∧ u.outcome c.val d.idx = some (d.okCode, s.setVersion (dfld d.words 2 48 4), d.epoch) ∧
      u.reg (0x30104 + 0x10 * dfld d.words 2 48 4) = BitVec.ofNat 32 (dfld d.words 2 0 32) := by
  have hb := State.begin_began hgo
  have hold := hb.setVersion (dfld_lt d.words 2 48 4)
  have hk := dfld_lt d.words 2 48 4
  refine ⟨_, exec_routeVersion_stores hgo hh hin, ?_, ?_⟩
  · rw [← hold]
    exact State.finish_outcome (s := s1.setReg _ _) (hb.stands.of_rings rfl) _ _
  · rw [reg_finishOk _ _ _ _ (by omega), reg_setReg_same (hb.moves.inv i)]

theorem routeVersion_refused (c : CtxId) (d : Desc) (hgo : s.startsVersion c.val = .go d s1) (hh : ¬s1.holdsSet c.val d (dfld d.words 2 48 4))
    (hin : s1.inBracket c.val = false) :
    ∃ u, exec (.routeVersion c) s = .next u ∧
      u.outcome c.val d.idx = some (0x20, resSet (dfld d.words 2 48 4), s1.epoch (resSet (dfld d.words 2 48 4))) ∧
      ∀ k < 16, u.setVersion k = s.setVersion k := by
  have hb := State.begin_began hgo
  refine ⟨_, exec_routeVersion_stale hgo hh hin, State.staleUse_outcome hb.stands _, fun k hk => ?_⟩
  exact (congrArg BitVec.toNat (reg_staleUse _ _ _ _ (by omega) (by omega))).trans (hb.setVersion hk)

/-- Settles O24: outside a bracket each of the three acts at once and ends, and the two that need the write lease act on it through `State.useSet`. -/
theorem tableDescriptors : Obligations.TableDescriptors :=
  ⟨fun c d r pa old _ _ i hgo hroot hwalk hold hin => atpUpdate_writes c d r pa old i hgo hroot hwalk hold hin,
   fun c d0 d bs _ _ i hd hgo hl he hin hget hfin hn => biasWrite_ends c d0 d bs i hd hgo ⟨hl, he⟩ hin hget hfin hn,
   fun c d _ _ i hgo hl he hin => routeVersion_ends c d i hgo ⟨hl, he⟩ hin,
   fun c d0 d _ _ hd hgo hh hin hn => biasWrite_refused c d0 d hd hgo (not_and_or.2 hh) hin hn,
   fun c d _ _ hgo hh hin => routeVersion_refused c d hgo (not_and_or.2 hh) hin⟩

end Sys2Proof.Machine
end

section
/-! PROOFS. What a round of the scheduler keeps of a job: all of it but the state of its groups (R144, R273). -/

namespace Sys2Proof.Machine

variable {o s t : State} {c i : Nat} {k : Job × Nat}

/-- A job but for its groups, and how many groups it has. -/
def Job.plan (j : Job) : Job × Nat := ({ j with groups := [] }, j.groups.length)

/-- The jobs of descriptor `i` of context `c`, and there is one, have this plan. -/
structure State.Planned (s : State) (c i : Nat) (k : Job × Nat) : Prop where
  any : ∃ j ∈ s.work.jobs, j.key = (c, i)
  all : ∀ j ∈ s.work.jobs, j.key = (c, i) → j.plan = k

theorem State.Planned.job (h : s.Planned c i k) : ∃ j, s.job c i = some j ∧ j.plan = k := by
  obtain ⟨j, hj, hk⟩ := h.any
  obtain ⟨rfl, rfl⟩ : j.ctx = c ∧ j.idx = i := Prod.mk.inj hk
  cases hf : s.job j.ctx j.idx with
  | none => exact absurd (List.find?_eq_none.1 hf j hj) (by simp)
  | some y => exact ⟨y, rfl, h.all y (State.job_key hf).1 (State.job_key hf).2⟩

theorem State.Planned.of_jobs (h : s.Planned c i k) (e : t.work.jobs = s.work.jobs) : t.Planned c i k := ⟨e ▸ h.any, e ▸ h.all⟩

theorem State.Planned.setJob (h : s.Planned c i k) {j : Job} (hj : j.key = (c, i) → j.plan = k) : (s.setJob j).Planned c i k :=
  ⟨State.setJob_any j h.any, fun y hy hk => by
    rcases State.mem_setJob hy with rfl | ⟨hy, -⟩
    · exact hj hk
    · exact h.all y hy hk⟩

/-- A job that joins is the only one of its descriptor, where the descriptor had none. -/
theorem State.addJob_planned {j : Job} (h : s.job j.ctx j.idx = none) :
    (s.addJob j).Planned j.ctx j.idx ({ j with rivals := s.work.jobs.map Job.key } : Job).plan := by
  refine ⟨⟨_, List.mem_append_right _ (List.mem_singleton_self _), rfl⟩, fun y hy hk => ?_⟩
  rcases List.mem_append.1 hy with hy | hy
  · obtain ⟨z, hz, rfl⟩ := List.mem_map.1 hy
    obtain ⟨hctx, hidx⟩ := Prod.mk.inj hk
    exact absurd (List.find?_eq_none.1 h z hz) (by simpa using ⟨hctx, hidx⟩)
  · rw [List.mem_singleton.1 hy]

/-- Every job keeps its plan. -/
structure PlansKept (s t : State) : Prop where
  keeps : ∀ c i k, s.Planned c i k → t.Planned c i k

theorem PlansKept.refl (s : State) : PlansKept s s := ⟨fun _ _ _ => id⟩

theorem PlansKept.then (h' : PlansKept s t) (h : PlansKept o s) : PlansKept o t := ⟨fun c i k hk => h'.keeps c i k (h.keeps c i k hk)⟩

theorem PlansKept.ite {p : Prop} [Decidable p] {a b : State} (ha : PlansKept o a) (hb : PlansKept o b) : PlansKept o (if p then a else b) := by
  split <;> assumption

theorem PlansKept.foldl {α : Type} {f : State → α → State} (l : List α) (h : PlansKept o s) (hf : ∀ x a, PlansKept x (f x a)) :
    PlansKept o (l.foldl f s) := by
  induction l generalizing s with
  | nil => exact h
  | cons a l ih => exact ih ((hf s a).then h)

theorem PlansKept.of_jobs (e : t.work.jobs = s.work.jobs) : PlansKept s t := ⟨fun _ _ _ h => h.of_jobs e⟩

/-- What leaves the work leaves the plans. -/
theorem Moves.plansKept {m : Nat} (h : Moves m s t) (hm : m.testBit 19 = false) : PlansKept s t := .of_jobs (congrArg WorkUnit.jobs (h.off .work hm))

theorem State.setGroup_plansKept {j : Job} (h : s.job c i = some j) (g : Nat) (f : Group → Group) : PlansKept s (s.setJob (j.setGroup g f)) :=
  ⟨fun c' i' k hp => hp.setJob fun hk => by
    rw [← hp.all j (State.job_key h).1 hk, Job.plan, Job.plan, Job.setGroup, List.length_modify]⟩

theorem State.due_plansKept (s : State) (p : Nat) : PlansKept s (s.due p) := .of_jobs rfl

theorem State.fillStore_plansKept (s : State) (n : Nat) : PlansKept s (s.fillStore n) := ⟨fun c i k h => by
  unfold State.fillStore
  refine List.foldlRecOn (motive := fun u : State => u.Planned c i k) _ _ h fun u hu j hj => ?_
  split
  · exact hu
  · refine hu.setJob fun hk => ?_
    rw [← h.all j hj hk, Job.plan, Job.plan, foldl_fst_length (fun a g => ?_), List.length_nil, Nat.zero_add]
    split <;> simp⟩

theorem State.markReady_plansKept (s : State) : PlansKept s s.markReady := by
  unfold State.markReady
  extract_lets busy isNew fresh low jobs news w u open_ v
  have hu : PlansKept s u := ⟨fun c i k h => by
    obtain ⟨j, hj, hk⟩ := h.any
    refine ⟨⟨_, List.mem_map.2 ⟨j, hj, rfl⟩, hk⟩, fun x hx hk => ?_⟩
    obtain ⟨y, hy, rfl⟩ := List.mem_map.1 hx
    rw [← h.all y hy hk, Job.plan, Job.plan, List.length_map]⟩
  have hv : PlansKept s v := .then (.foldl _ (.refl u) State.due_plansKept) hu
  exact .ite hv (.foldl _ hv fun _ _ => (State.setVt_moves ..).plansKept rfl)

theorem State.issue_plansKept (s : State) (c idx gi : Nat) (g : Group) (p : Nat) : PlansKept s (s.issue c idx gi g p) := by
  unfold State.issue
  split
  · exact .refl s
  · next j hj =>
    extract_lets sat e g' waited s1 s2 s3 s4 s5
    have h4 : PlansKept s s4 := ((State.bump64_moves ..).plansKept rfl).then <| ((State.reserve_moves ..).plansKept rfl).then <|
      .then (.of_jobs (s := s2) rfl) <| ((State.sendCmd_moves ..).plansKept rfl).then <| State.setGroup_plansKept hj gi _
    have h5 : PlansKept s s5 := by
      unfold s5
      split
      · exact .ite h4 (((State.bump_moves ..).plansKept rfl).then h4)
      · exact h4
    exact (State.fillStore_plansKept ..).then h5

theorem State.noteDeferral_plansKept (s : State) (c idx gi : Nat) (g : Group) : PlansKept s (s.noteDeferral c idx gi g) := by
  unfold State.noteDeferral
  refine .ite (.refl s) ?_
  split
  · next j hj => exact ((State.bump_moves ..).plansKept rfl).then <| ((State.bump_moves ..).plansKept rfl).then <| State.setGroup_plansKept hj gi _
  · exact .refl s

theorem State.cutBallast_plansKept (s : State) (p : Nat) : PlansKept s (s.cutBallast p) :=
  ((State.noteBallast_moves ..).plansKept rfl).then <| ((State.settle_moves ..).plansKept rfl).then (.of_jobs rfl)

theorem State.trimBallast_plansKept (s : State) : PlansKept s s.trimBallast :=
  .foldl _ (.refl s) fun x e => .ite (x.cutBallast_plansKept e.1) (.refl x)

theorem State.decideFor_plansKept (s : State) (left : Option Nat) (p : Nat) : PlansKept s (s.decideFor left p) := by
  unfold State.decideFor
  extract_lets ready fits u shared
  refine .ite (.refl s) ?_
  have hu : PlansKept s u := .foldl _ (.refl s) fun x y => x.noteDeferral_plansKept ..
  split
  · exact ((State.tryBallast_moves ..).plansKept rfl).then <| .ite hu (((State.setFld_moves ..).plansKept rfl).then hu)
  · refine (State.issue_plansKept ..).then ?_
    split
    · exact .ite (((State.bump_moves ..).plansKept rfl).then hu) hu
    · exact hu

theorem State.schedule_plansKept (s : State) (left : Option (Nat × Nat)) : PlansKept s (s.schedule left) := by
  unfold State.schedule
  extract_lets u due w v
  have hu : PlansKept s u := (State.markReady_plansKept _).then <| (State.trimBallast_plansKept _).then ((State.rebase_moves s).plansKept rfl)
  exact ((State.noteIdle_moves _).plansKept rfl).then <| .foldl _ (.then (.of_jobs (s := u) rfl) hu) fun x p => x.decideFor_plansKept _ p

end Sys2Proof.Machine
end

section
/-! PROOFS. GROUPED_OP and SFU_PASS as they start, and the statement on them (O26; R184, R268, R269, R291, R292, R294 to R296). -/

namespace Sys2Proof.Machine

variable {s s1 : State} {d0 d : Desc}

/-! ### Malformed fields (R100) -/

/-- A malformed field stays the answer, at its offset or at a lower one that a read found. -/
theorem withStatic_malformed {α : Type} (off : Nat) (dyn : Except Stop α) : ∃ m ≤ off, withStatic (some off) dyn = .error (.bad m) := by
  unfold withStatic
  split
  · next h => exact absurd h (by simp)
  · next x e h => exact ⟨min x e, by simp_all, rfl⟩
  · next x h h' => exact ⟨x, by simp_all, rfl⟩

theorem withStatic_wellFormed {α : Type} {checks : List (Bool × Nat)} {x : α} {dyn : Except Stop α} (h : malformedAt checks = none) (hd : dyn = .ok x) :
    withStatic (malformedAt checks) dyn = .ok x := by rw [h, hd]; rfl

/-- A descriptor that is malformed at its start, outside a bracket, ends with the offset as DETAIL, and no job joins. -/
theorem State.starting_malformed {c m off : Nat} {f : State → Result} (hd : s.nextDesc c = some d0) (hb : (s.asked c d0.idx).Began s1 c d)
    (h : f (s.asked c d0.idx) = .next (s1.stopDesc c d (.bad m))) (hm : m ≤ off) (hin : s1.inBracket c = false) (hn : s1.lnk.need = none) :
    ∃ u, s.starting c f = .next u ∧ u.work.jobs = s.work.jobs ∧ ∃ o, u.outcome c d.idx = some o ∧ o.1 = 0x10 ∧ o.2.1 ≤ off := by
  have hstop : s1.stopDesc c d (.bad m) = s1.finish c d 0x10 m := if_neg (ne_true_of_eq_false hin)
  have hfin := State.finish_moves s1 c d 0x10 m
  rw [hstop] at h
  obtain ⟨u, hu, hend⟩ := State.starting_next hd h (by rw [show _ = s1.lnk from hfin.off .links rfl, hn])
  have hwork : u.work = s.work := ((hend.off .work rfl).trans (hfin.off .work rfl)).trans (hb.moves.off .work rfl)
  exact ⟨u, hu, congrArg WorkUnit.jobs hwork, _, (hend.outcome rfl _ _).trans (State.finish_outcome hb.stands _ _), rfl, hm⟩

/-! ### GROUPED_OP (R268, R269) -/

/-- The job of a GROUPED_OP, its table handed to the control core. -/
def State.groupedJob (s : State) (c : Nat) (d : Desc) (t : GroupedTable) : Job :=
  { Job.blank c (s.ctx c).gen d.idx t.input with
    entries := t.experts, rows := t.rows, all := t.rows, handed := true, tokens := t.tokens, inter := dword d.words 4, irow := s.irowOf t.experts,
    expOut := t.expOut, outFmt := dfld d.words 5 32 8, assign := t.assign, stage := .experts }

section

variable {c : CtxId} {t : GroupedTable}

theorem groupedOp_read (hgo : s.startsGrouped c.val = .go d s1) (hok : malformedAt (groupedChecks d.words) = none)
    (hget : s1.getGrouped c.val d.words = .ok t) :
    groupedOp c s = .next (if t.rows.isEmpty then (s1.addJob (s1.groupedJob c.val d t)).endJob (s1.groupedJob c.val d t) 0
      else s1.addJob (s1.groupedJob c.val d t)) := by
  unfold State.startsGrouped at hgo
  unfold groupedOp
  rw [hgo]
  dsimp only
  rw [withStatic_wellFormed hok hget]
  exact (apply_ite Host.Outcome.next _ _ _).symm

/-- A job without groups ends its descriptor OK. -/
theorem State.endJob_outcome {j : Job} (h : s.Stands j.ctx d) (hi : d.idx = j.idx) (detail : Nat) :
    (s.endJob j detail).outcome j.ctx d.idx = some (d.okCode, detail, d.epoch) := by
  have hst : (s.dropJob j.ctx j.idx).Stands j.ctx d := h.of_rings rfl
  unfold State.endJob
  dsimp only
  rw [← hi] at hst ⊢
  rw [hst.desc]
  exact State.finish_outcome hst _ _

theorem groupedOp_joins (hd : s.nextDesc c.val = some d0) (hgo : (s.asked c.val d0.idx).startsGrouped c.val = .go d s1)
    (hok : malformedAt (groupedChecks d.words) = none) (hget : s1.getGrouped c.val d.words = .ok t) (hn : s1.lnk.need = none) :
    ∃ u, exec (.groupedOp c) s = .next u ∧ u.mem = s.mem ∧ (t.rows = [] → u.outcome c.val d.idx = some (d.okCode, 0, d.epoch)) ∧
      (t.rows ≠ [] → ∃ j ∈ u.work.jobs, j.ctx = c.val ∧ j.idx = d.idx ∧ j.rows = t.rows ∧ j.entries = t.experts ∧ j.tokens = t.tokens ∧ j.handed = true) := by
  have hb := State.begin_began hgo
  have hread := groupedOp_read hgo hok hget
  by_cases hr : t.rows = []
  · rw [if_pos (List.isEmpty_iff.2 hr)] at hread
    have hend : Moves 0x1081020 s1 ((s1.addJob (s1.groupedJob c.val d t)).endJob (s1.groupedJob c.val d t) 0) :=
      (State.endJob_moves ..).then rfl <| (State.addJob_moves ..).mono rfl
    obtain ⟨u, hu, hlast⟩ := State.starting_next hd hread (by rw [show _ = s1.lnk from hend.off .links rfl, hn])
    refine ⟨u, hu, (hlast.off .memory rfl).trans <| (hend.off .memory rfl).trans (hb.moves.off .memory rfl), fun _ => ?_, fun h => absurd hr h⟩
    have hst : (s1.addJob (s1.groupedJob c.val d t)).Stands c.val d := hb.stands.of_rings rfl
    exact (hlast.outcome rfl _ _).trans (State.endJob_outcome (j := s1.groupedJob c.val d t) hst rfl 0)
  · rw [if_neg (by simpa using hr)] at hread
    obtain ⟨u, hu, hlast⟩ := State.starting_next hd hread hn
    refine ⟨u, hu, (hlast.off .memory rfl).trans (hb.moves.off .memory rfl), fun h => absurd h hr, fun _ => ?_⟩
    have hwork : u.work = (s1.addJob (s1.groupedJob c.val d t)).work := hlast.off .work rfl
    rw [hwork]
    exact ⟨_, List.mem_append_right _ (List.mem_singleton_self _), rfl, rfl, rfl, rfl, rfl, rfl⟩

theorem groupedOp_malformed {off : Nat} (hd : s.nextDesc c.val = some d0) (hgo : (s.asked c.val d0.idx).startsGrouped c.val = .go d s1)
    (hbad : malformedAt (groupedChecks d.words) = some off) (hin : s1.inBracket c.val = false) (hn : s1.lnk.need = none) :
    ∃ u, exec (.groupedOp c) s = .next u ∧ u.work.jobs = s.work.jobs ∧ ∃ o, u.outcome c.val d.idx = some o ∧ o.1 = 0x10 ∧ o.2.1 ≤ off := by
  obtain ⟨m, hm, hstop⟩ := withStatic_malformed off (s1.getGrouped c.val d.words)
  refine State.starting_malformed hd (State.begin_began hgo) ?_ hm hin hn
  unfold State.startsGrouped at hgo
  unfold groupedOp
  rw [hgo]
  dsimp only
  rw [hbad, hstop]

end

/-! ### SFU_PASS (R291, R292, R294 to R296) -/

/-- The OPs that the row of an SFU_PASS takes: one of its own, or (`k` = 0) every other one. -/
def passOps (k op : Nat) : Bool := if k = 0 then op != 0x20 && op != 0x21 && op != 0x22 else op == k

/-- The rows of SFU_PASS, each with its OPs. -/
abbrev PassRow (i : Instr) (c : CtxId) (k : Nat) : Prop :=
  (i = .sfuPassElementwise c ∧ k = 0) ∨ (i = .sfuPassSoftmax c ∧ k = 0x20) ∨ (i = .sfuPassLayerNorm c ∧ k = 0x21) ∨ (i = .sfuPassRmsNorm c ∧ k = 0x22)

theorem PassRow.exec {i : Instr} {c : CtxId} {k : Nat} (h : PassRow i c k) (s : State) :
    exec i s = s.starting c.val (fun s => .next (s.startPass c.val (passOps k))) := by
  rcases h with ⟨rfl, rfl⟩ | ⟨rfl, rfl⟩ | ⟨rfl, rfl⟩ | ⟨rfl, rfl⟩
  · rfl
  · rfl
  · rfl
  · rfl

section

variable {c : Nat} {mine : Nat → Bool} {a out : Tensor} {pa pb : Option (List Nat)}

/-- How many rows a group of an SFU_PASS takes (R296). -/
def State.passPer (s : State) (d : Desc) (a out : Tensor) : Nat :=
  rowsFit (a.size 1) (passSteps (sfuOpOf d)) (fmtBits a.format / 8) (fmtBits out.format / 8) (s.sliceUs * estUs) (a.size 0)

/-- The job of an SFU_PASS before its rows are split. -/
def State.passWhole (s : State) (c : Nat) (d : Desc) (a out : Tensor) (pa pb : Option (List Nat)) : Job :=
  { Job.blank c (s.ctx c).gen d.idx a with
    parA := pa, parB := pb, sfuOut := some out, sfuA := dword d.words 4, sfuB := dword d.words 5, sfuScale := dfld d.words 6 32 32,
    sfuSat := dbit d.words 6 8, sfuOp := sfuOpOf d, sfuEps := dfld d.words 7 0 32 }

/-- The job of an SFU_PASS, its rows split into groups. -/
def State.passJob (s : State) (c : Nat) (d : Desc) (a out : Tensor) (pa pb : Option (List Nat)) : Job :=
  { s.passWhole c d a out pa pb with
    groups := s.passGroups (s.passWhole c d a out pa pb) out (s.passPer d a out) (ceilDiv (a.size 0) (s.passPer d a out)) 0 }

theorem State.startPass_read (hgo : s.startsPass c mine = .go d s1) (hok : malformedAt (passChecks d.words) = none)
    (hget : s1.getPass c d.words = .ok (a, out, pa, pb)) :
    s.startPass c mine = ((s1.addJob (s1.passJob c d a out pa pb)).fillStore (c % 4)).schedule none := by
  unfold State.startsPass at hgo
  unfold State.startPass
  rw [hgo]
  dsimp only
  rw [withStatic_wellFormed hok hget]
  rfl

/-- An input of at least one row has a group. -/
theorem State.passJob_groups (s : State) (c : Nat) (d : Desc) (h : 0 < a.size 0) : (s.passJob c d a out pa pb).groups ≠ [] := by
  have hper : 0 < s.passPer d a out := by
    unfold State.passPer rowsFit
    exact Nat.lt_of_lt_of_le Nat.one_pos (Nat.le_max_left ..)
  have hcount : 0 < ceilDiv (a.size 0) (s.passPer d a out) := Nat.div_pos (by omega) hper
  obtain ⟨n, hn⟩ := Nat.exists_eq_succ_of_ne_zero hcount.ne'
  have hrows : ¬(s.passWhole c d a out pa pb).input.size 0 ≤ 0 := Nat.not_le.2 h
  unfold State.passJob
  rw [hn]
  dsimp only
  rw [State.passGroups, if_neg hrows]
  exact List.cons_ne_nil _ _

end

theorem sfuPass_joins {c : CtxId} {i : Instr} {k : Nat} {a out : Tensor} {pa pb : Option (List Nat)} (hrow : PassRow i c k)
    (hd : s.nextDesc c.val = some d0) (hgo : (s.asked c.val d0.idx).startsPass c.val (passOps k) = .go d s1)
    (hok : malformedAt (passChecks d.words) = none) (hget : s1.getPass c.val d.words = .ok (a, out, pa, pb)) (ha : 0 < a.size 0)
    (hj : s1.job c.val d.idx = none) (hn : s1.lnk.need = none) :
    ∃ u, exec i s = .next u ∧ u.mem = s.mem ∧ ∃ j, u.job c.val d.idx = some j ∧ j.input = a ∧ j.sfuOut = some out ∧ j.parA = pa ∧ j.parB = pb ∧
      j.sfuOp = sfuOpOf d ∧ j.stage = .pass ∧ j.groups ≠ [] := by
  have hb := State.begin_began hgo
  have hkept : PlansKept (s1.addJob (s1.passJob c.val d a out pa pb))
      (((s1.addJob (s1.passJob c.val d a out pa pb)).fillStore (c.val % 4)).schedule none) :=
    (State.schedule_plansKept ..).then (State.fillStore_plansKept ..)
  have hm : Moves 0x108042C s1 (((s1.addJob (s1.passJob c.val d a out pa pb)).fillStore (c.val % 4)).schedule none) :=
    (State.schedule_moves ..).then rfl <| (State.fillStore_moves ..).then rfl <| (State.addJob_moves ..).mono rfl
  obtain ⟨u, hu, hlast⟩ := State.starting_next (f := fun s => .next (s.startPass c.val (passOps k))) hd
    (congrArg Host.Outcome.next (State.startPass_read hgo hok hget)) (by rw [show _ = s1.lnk from hm.off .links rfl, hn])
  have hplan := (hlast.plansKept rfl).keeps _ _ _ (hkept.keeps _ _ _ (State.addJob_planned (j := s1.passJob c.val d a out pa pb) hj))
  obtain ⟨j, hjob, hsame⟩ := hplan.job
  have hrest := congrArg Prod.fst hsame
  have hlen : j.groups.length = (s1.passJob c.val d a out pa pb).groups.length := congrArg Prod.snd hsame
  refine ⟨u, (hrow.exec s).trans hu, (hlast.off .memory rfl).trans <| (hm.off .memory rfl).trans (hb.moves.off .memory rfl), j, hjob,
    congrArg Job.input hrest, congrArg Job.sfuOut hrest, congrArg Job.parA hrest, congrArg Job.parB hrest, congrArg Job.sfuOp hrest,
    congrArg Job.stage hrest, fun he => ?_⟩
  rw [he] at hlen
  exact s1.passJob_groups c.val d ha (List.length_eq_zero_iff.1 hlen.symm)

theorem sfuPass_malformed {c : CtxId} {i : Instr} {k off : Nat} (hrow : PassRow i c k) (hd : s.nextDesc c.val = some d0)
    (hgo : (s.asked c.val d0.idx).startsPass c.val (passOps k) = .go d s1) (hbad : malformedAt (passChecks d.words) = some off)
    (hin : s1.inBracket c.val = false) (hn : s1.lnk.need = none) :
    ∃ u, exec i s = .next u ∧ u.work.jobs = s.work.jobs ∧ ∃ o, u.outcome c.val d.idx = some o ∧ o.1 = 0x10 ∧ o.2.1 ≤ off := by
  obtain ⟨m, hm, hstop⟩ := withStatic_malformed off (s1.getPass c.val d.words)
  rw [hrow.exec s]
  refine State.starting_malformed hd (State.begin_began hgo) (congrArg Host.Outcome.next ?_) hm hin hn
  unfold State.startsPass at hgo
  unfold State.startPass
  rw [hgo]
  dsimp only
  rw [hbad, hstop]

/-- Settles O26: a start that reads all it needs adds one job, and the round of the scheduler after an SFU_PASS leaves it its plan. -/
theorem groupedDescriptors : Obligations.GroupedDescriptors :=
  ⟨fun _ _ _ _ _ _ hd hgo hok hget hn _ => groupedOp_joins hd hgo hok hget hn,
   fun _ _ _ _ _ _ _ _ _ _ _ hrow hd hgo hok hget ha hj hn => sfuPass_joins hrow hd hgo hok hget ha hj hn,
   fun _ _ _ _ _ _ hd hgo hbad hin hn => groupedOp_malformed hd hgo hbad hin hn,
   fun _ _ _ _ _ _ _ _ hrow hd hgo hbad hin hn => sfuPass_malformed hrow hd hgo hbad hin hn⟩

end Sys2Proof.Machine
end

section
/-! PROOFS. The Ingest Unit's framer: what the end of a waiting unbind, a change of ALIGN, an abandoned frame and a return to HUNT leave of the unit and of
its registers (R207, R209, R210, R224). -/

namespace Sys2Proof.Machine

variable {s t : State} {g g' g'' : IngestUnit} {x : Nat}

/-! ### Counters and flags of the Ingest Unit (Table 7.7, R224) -/

theorem reg_flagQuiet (s : State) (off bit source ctx : Nat) (h : x ≠ off) (he : x ≠ 0xF1008) :
    (s.flagQuiet off bit source ctx).reg x = s.reg x := by
  unfold State.flagQuiet
  split
  · rfl
  · exact (reg_event _ _ _ _ _ he).trans (reg_setFld_other _ _ _ _ h)

theorem rbit_flagQuiet (i : Inv s) {off bit : Nat} (source ctx : Nat) (hb : bit < 32) (he : off ≠ 0xF1008) :
    (s.flagQuiet off bit source ctx).rbit off bit = true := by
  unfold State.flagQuiet
  split
  · assumption
  · unfold State.rbit State.setFld
    rw [reg_event _ _ _ _ _ he, reg_setReg_same ((s.takeFree_moves).snd.inv i)]
    exact bitAt_wput_one _ hb

/-- A bit that stands in a status register stays when another of its bits is raised. -/
theorem rbit_flagQuiet_keeps (i : Inv s) {off bit j : Nat} (source ctx : Nat) (hb : bit < 32) (he : off ≠ 0xF1008) (h : s.rbit off j = true) :
    (s.flagQuiet off bit source ctx).rbit off j = true := by
  unfold State.flagQuiet
  split
  · exact h
  · unfold State.rbit State.setFld
    rw [reg_event _ _ _ _ _ he, reg_setReg_same ((s.takeFree_moves).snd.inv i)]
    exact bitAt_wput_one_of_bitAt _ hb h

theorem reg_ingCount_same (i : Inv s) (k n : Nat) :
    ((s.ingCount k n).reg (0x80040 + 4 * k)).toNat = min 0xFFFFFFFF ((s.reg (0x80040 + 4 * k)).toNat + n) := reg_bump_same i _ n

theorem reg_ingCount_other (s : State) (k n : Nat) (h : x ≠ 0x80040 + 4 * k) : (s.ingCount k n).reg x = s.reg x := reg_bump_other s 32 n h

theorem reg_setAlign (s : State) (a : AlignState) (h : x ≠ 0x80014) (he : x ≠ 0xF1008) : (s.setAlign a).reg x = s.reg x := by
  unfold State.setAlign
  split
  · rfl
  · exact reg_flagQuiet _ _ _ _ _ h he

theorem rbit_setAlign_keeps (i : Inv s) (a : AlignState) {j : Nat} (h : s.rbit 0x80014 j = true) :
    (s.setAlign a).rbit 0x80014 j = true := by
  unfold State.setAlign
  split
  · exact h
  · exact rbit_flagQuiet_keeps ((State.setIng_moves ..).inv i) 9 noCtx (by decide) (by decide) h

theorem reg_endUnbind (s : State) (k : Nat) (h : x ≠ 0x20018) : (s.endUnbind k).reg x = s.reg x := by
  unfold State.endUnbind
  split
  · rfl
  · split
    · rfl
    · split
      · rfl
      · exact reg_endDesc _ _ _ _ _ _ h

theorem reg_endUnbinds (s : State) (h : x ≠ 0x20018) : s.endUnbinds.reg x = s.reg x :=
  List.foldlRecOn (motive := fun t : State => t.reg x = s.reg x) _ _ rfl fun t ht k _ => (reg_endUnbind t k h).trans ht

theorem rbit_endUnbinds (s : State) (j : Nat) : s.endUnbinds.rbit 0x80014 j = s.rbit 0x80014 j :=
  congrArg (fun w : Word => bitAt w.toNat j) (reg_endUnbinds s (by decide))

/-! ### Unbinds that end (R210) -/

/-- From `g` to `g'` at most bindings went. -/
structure IngestUnit.Unbound (g g' : IngestUnit) : Prop where
  rest : { g' with binds := [] } = { g with binds := [] }
  binds : ∀ e ∈ g'.binds, e.2 = none ∨ e ∈ g.binds

theorem IngestUnit.Unbound.refl (g : IngestUnit) : g.Unbound g := ⟨rfl, fun _ h => .inr h⟩

theorem IngestUnit.Unbound.trans (h : g.Unbound g') (h' : g'.Unbound g'') : g.Unbound g'' :=
  ⟨h'.rest.trans h.rest, fun e he => (h'.binds e he).elim .inl (h.binds e)⟩

/-- Whatever does not look at the bindings reads as before. -/
theorem IngestUnit.Unbound.read {α : Type} (h : g.Unbound g') (f : IngestUnit → α)
    (hf : ∀ u : IngestUnit, f { u with binds := [] } = f u) : f g' = f g :=
  (hf g').symm.trans ((congrArg f h.rest).trans (hf g))

theorem IngestUnit.Unbound.align (h : g.Unbound g') : g'.align = g.align := h.read IngestUnit.align fun _ => rfl

theorem mem_tabSet {α : Type} [DecidableEq α] (d : Nat → α) {k : Nat} {v : α} {e : Nat × α} :
    ∀ t : Tab α, e ∈ tabSet d t k v → e = (k, v) ∨ e ∈ t
  | [], h => by
    unfold tabSet at h
    split at h
    · exact .inr h
    · exact .inl (List.mem_singleton.1 h)
  | (i, w) :: t, h => by
    unfold tabSet at h
    split at h
    · split at h
      · exact .inr h
      · exact List.mem_cons.1 h
    · split at h
      · split at h
        · exact .inr (List.mem_cons_of_mem _ h)
        · exact (List.mem_cons.1 h).imp_right (List.mem_cons_of_mem _)
      · rcases List.mem_cons.1 h with rfl | h
        · exact .inr List.mem_cons_self
        · exact (mem_tabSet d t h).imp_right (List.mem_cons_of_mem _)

theorem State.endUnbind_unbound (s : State) (k : Nat) : s.ing.Unbound (s.endUnbind k).ing := by
  unfold State.endUnbind
  split
  · exact .refl _
  · split
    · exact .refl _
    · split
      · exact .refl _
      · rw [State.endDesc_ing]
        exact ⟨rfl, fun e he => (mem_tabSet _ _ he).imp_left fun h => congrArg Prod.snd h⟩

theorem State.endUnbinds_unbound (s : State) : s.ing.Unbound s.endUnbinds.ing :=
  List.foldlRecOn (motive := fun t : State => s.ing.Unbound t.ing) _ _ (.refl _) fun t ht k _ => ht.trans (t.endUnbind_unbound k)

/-! ### ALIGN, frames abandoned and the return to HUNT (R207, R209) -/

theorem State.ingFlag_ing (s : State) (bit ctx : Nat) : (s.ingFlag bit ctx).ing = s.ing := State.flagQuiet_ing ..

theorem State.ingCount_ing (s : State) (k n : Nat) : (s.ingCount k n).ing = s.ing := rfl

theorem State.setAlign_ing (s : State) (a : AlignState) : (s.setAlign a).ing = { s.ing with align := a } := by
  unfold State.setAlign
  split
  · next h => rw [← h]
  · exact State.ingFlag_ing ..

theorem State.abandonFrame_ing (s : State) : s.abandonFrame.ing = { s.ing with rx := none } := by
  unfold State.abandonFrame
  split
  · next h => rw [← h]
  · exact State.ingFlag_ing ..

/-- The unit with the next frame of every stream to be full (R217). -/
def IngestUnit.allFirst (g : IngestUnit) : IngestUnit :=
  { g with binds := g.binds.map (fun e => (e.1, e.2.map (fun b => { b with first := true }))) }

theorem State.firstAgain_ing (s : State) : s.firstAgain.ing = s.ing.allFirst := rfl

/-- Lanes or framer start anew in ALIGN `a` from unit `g`: every next frame is full, and unbinds that waited end (R209, R210). -/
def State.realigned (s : State) (g : IngestUnit) (a : AlignState) : State := ((s.setIng g).firstAgain.setAlign a).endUnbinds

theorem State.realigned_moves (s : State) (g : IngestUnit) (a : AlignState) : Moves 0x104183C s (s.realigned g a) :=
  .then (State.endUnbinds_moves ..) rfl <| .then (State.setAlign_moves ..) rfl <| .then (State.firstAgain_moves ..) rfl <|
    (State.setIng_moves ..).mono rfl

theorem State.realigned_unbound (s : State) (g : IngestUnit) (a : AlignState) :
    IngestUnit.Unbound { g.allFirst with align := a } (s.realigned g a).ing := by
  have h := State.endUnbinds_unbound ((s.setIng g).firstAgain.setAlign a)
  rwa [State.setAlign_ing, State.firstAgain_ing, State.setIng_ing] at h

theorem State.resync_unbound (s : State) :
    IngestUnit.Unbound { s.ing.allFirst with rx := none, verifiers := [], misses := 0, align := .hunt } s.resync.ing := by
  have h := State.realigned_unbound s.abandonFrame { s.abandonFrame.ing with verifiers := [], misses := 0 } .hunt
  rw [State.abandonFrame_ing] at h
  unfold State.resync
  rw [State.abandonFrame_ing]
  exact h

theorem mem_of_tabGet_some {α : Type} {b : α} {k : Nat} : ∀ t : Tab (Option α), tabGet (fun _ => none) t k = some b → (k, some b) ∈ t
  | (i, w) :: t, h => by
    unfold tabGet at h
    split at h
    · next hk => rw [hk, ← h]; exact List.mem_cons_self
    · exact List.mem_cons_of_mem _ (mem_of_tabGet_some t h)

theorem State.bound_mem {k : Nat} {b : Binding} (h : s.bound k = some b) : (k, some b) ∈ s.ing.binds := mem_of_tabGet_some s.ing.binds h

theorem State.resync_first (s : State) {k : Nat} {b : Binding} (h : s.resync.bound k = some b) : b.first = true := by
  rcases s.resync_unbound.binds _ (State.bound_mem h) with hnone | hmem
  · cases hnone
  · obtain ⟨⟨_, old⟩, -, he⟩ := List.mem_map.1 hmem
    obtain ⟨b0, -, rfl⟩ := Option.map_eq_some_iff.1 (Prod.mk.inj he).2
    rfl

end Sys2Proof.Machine
end

section
/-! PROOFS. What a header of the ingest port decides: the boundary at which a frame may start, the judgement of a frame in LOCK and its admission, which
rest on the registers, memory and the bindings and not on the framer (R204, R207, R212, R217). -/

namespace Sys2Proof.Machine

variable {s t : State} {h : List Byte} {b : Binding} {age n : Nat}

/-! ### Limits (R204, R220) -/

theorem State.limitsOk_congr (h8 : t.reg 0x80008 = s.reg 0x80008) (hC : t.reg 0x8000C = s.reg 0x8000C) (h : List Byte) :
    t.limitsOk h = s.limitsOk h := by
  unfold State.limitsOk State.maxHeight State.maxWidth State.maxChannels State.payLimit State.fld
  rw [h8, hC]

theorem State.frameStart_of_regs (e : t.regs = s.regs) (h : List Byte) : t.frameStart h = s.frameStart h := by
  have hreg : ∀ x, t.reg x = s.reg x := fun x => congrArg (tabGet regDefault · x) e
  unfold State.frameStart
  rw [State.limitsOk_congr (hreg _) (hreg _)]

theorem State.limitsOk_of_frameStart (hf : s.frameStart h = true) : s.limitsOk h = true := (Bool.and_eq_true_iff.1 hf).2

theorem State.payLen_le_of_limitsOk (hl : s.limitsOk h = true) : payLen h ≤ s.payLimit := by
  unfold State.limitsOk at hl
  simp only [Bool.and_eq_true, decide_eq_true_eq] at hl
  exact hl.1.2

/-! ### Reads of memory do not look at the Ingest Unit (R171, R190) -/

section
variable (s : State) (g : IngestUnit)

theorem State.walkFrom_setIng (rd : Nat → Except Nat Nat) (va level a : Nat) : (s.setIng g).walkFrom rd va level a = s.walkFrom rd va level a := by
  induction level generalizing a with
  | zero => unfold State.walkFrom; rfl
  | succ l ih =>
    unfold State.walkFrom
    simp only [ih]
    rfl

theorem State.xlateHere_setIng (cache c va : Nat) (acc : Acc) : (s.setIng g).xlateHere cache c va acc = s.xlateHere cache c va acc := by
  unfold State.xlateHere State.walk
  simp only [State.walkFrom_setIng]
  rfl

theorem State.xlate_setIng (cache c va : Nat) (acc : Acc) : (s.setIng g).xlate cache c va acc = s.xlate cache c va acc := by
  unfold State.xlate
  simp only [State.xlateHere_setIng]
  rfl

theorem State.xlatePieces_setIng (cache c : Nat) (acc : Acc) (ps : List (Nat × Nat)) :
    (s.setIng g).xlatePieces cache c acc ps = s.xlatePieces cache c acc ps := by
  induction ps with
  | nil => rfl
  | cons p ps ih =>
    obtain ⟨va, n⟩ := p
    unfold State.xlatePieces
    rw [State.xlate_setIng, ih]

theorem State.readPieces_setIng (acc : Acc) (cache : Nat) (ps : List (Nat × Nat)) :
    (s.setIng g).readPieces acc cache ps = s.readPieces acc cache ps := by
  induction ps with
  | nil => rfl
  | cons p ps ih =>
    obtain ⟨pa, n⟩ := p
    unfold State.readPieces
    rw [ih]
    rfl

theorem State.vreadNat_setIng (cache c va n : Nat) : (s.setIng g).vreadNat cache c va n = s.vreadNat cache c va n := by
  unfold State.vreadNat State.vread State.pieces
  simp only [State.xlatePieces_setIng, State.readPieces_setIng]

end

/-! ### The judgement of a frame (R207, R212, R217) -/

/-- A frame within the limits that no live binding takes is counted. -/
theorem State.judge_unbound (hl : s.limitsOk h = true) (hb : s.bound (hfield h 5 1 % 16) = none) : s.judge h age = s.ingCount 5 1 := by
  unfold State.judge
  extract_lets k
  rw [if_neg (by simp [hl]), show s.bound k = none from hb]
  rfl

/-- A frame that fits its binding, while a slot is free and the unit takes work, is admitted. -/
theorem State.judge_admits (hl : s.limitsOk h = true) (hb : s.bound (hfield h 5 1 % 16) = some b) (ht : b.takes s.clk age = true)
    (hm : b.matches_ h = true) (hr : s.vreadNat 0 b.ctx (b.ctrl + 8) 8 = .ok n) (hslot : (b.produced + 2 ^ 64 - n) % 2 ^ 64 < b.slots)
    (ha : s.admits 35 = true) : s.judge h age = s.admitFrame (hfield h 5 1 % 16) b h age := by
  unfold State.judge
  extract_lets k
  rw [if_neg (by simp [hl]), show s.bound k = some b from hb, Option.filter_some, if_pos ht]
  dsimp only
  rw [if_neg (by simp [hm]), hr]
  dsimp only
  rw [if_neg (Nat.not_le.2 hslot), if_neg (by simp [ha])]

/-- The first frame after a binding or a resync is full. -/
theorem Binding.keep_first (hb : b.first = true) (seq : Nat) (refresh : Bool) : (b.keep seq refresh).1 = List.range b.patches := by
  unfold Binding.keep
  simp [hb]

/-- An admission takes the frame in with its stream, number, length and patches; of the unit it changes the binding besides. -/
theorem State.admitFrame_takes (s : State) (k : Nat) (b : Binding) (h : List Byte) (age : Nat) : ∃ f t,
    (s.admitFrame k b h age).ing = { s.ing with binds := t, rx := some f } ∧ f.stream = k ∧ f.seq = hfield h 8 4 ∧ f.payLen = payLen h ∧
      f.ids = b.order (hfield h 8 4) (b.keep (hfield h 8 4) (bitAt (hfield h 6 1) 0)).1 := ⟨_, _, rfl, rfl, rfl, rfl, rfl⟩

/-! ### The access to the mailbox of a header's stream (R361) -/

/-- What a header does to the Ingest Unit where it lacks no remote data. -/
theorem State.headerOf_ing {P : IngestUnit → Prop} {f : State → Result} (h : List Byte) (hn : s.lnk.need = none)
    (hf : ∀ t : State, t.ing = s.ing → t.regs = s.regs → t.lnk.need = none → ∃ u, f t = .next u ∧ u.lnk.need = none ∧ P u.ing) :
    ∃ u, s.headerOf h f = .next u ∧ P u.ing := by
  unfold State.headerOf
  split
  · next b _ =>
    obtain ⟨u, hu, hneed, hp⟩ := hf (s.asked b.ctx (2 ^ 17 + hfield h 5 1 % 16)) rfl rfl hn
    obtain ⟨l, hl⟩ := State.remotely_next hu hneed
    exact ⟨_, hl, hp⟩
  · obtain ⟨u, hu, -, hp⟩ := hf s rfl rfl hn
    exact ⟨u, hu, hp⟩

end Sys2Proof.Machine
end

section
/-! PROOFS. The Ingest Port: lanes, candidates, verifiers, headers in LOCK and the returns to HUNT, and the statement on them (O31; R202, R205 to R207, R209,
R212, R217, R221). -/

namespace Sys2Proof.Machine

variable {s : State} {l : Fin 4} {got h : List Byte} {pos age n k : Nat} {b : Binding} {f : FrameIn}

/-! ### Lanes (R202, R209) -/

theorem State.framerRuns_on (hf : s.framerRuns = true) : s.ingOn = true ∧ s.pwr.state ≠ .midnight := by
  unfold State.framerRuns at hf
  simp only [Bool.and_eq_true, decide_eq_true_eq] at hf
  exact ⟨hf.1.1, hf.2⟩

/-- A lane or marker noted in unit `g` leaves DOWN for HUNT once every lane is aligned, and leaves another state. -/
theorem State.tryHunt_tries (hf : s.framerRuns = true) (g : IngestUnit) : let u := (s.setIng g).tryHunt
    (∃ a, u.ing = { g with align := a }) ∧ (g.align = .down → u.lanesAligned = true → u.ing.align = .hunt) ∧
      (g.align ≠ .down → u.ing.align = g.align) := by
  intro u
  by_cases ha : g.align = .down ∧ (s.setIng g).framerRuns = true ∧ (s.setIng g).lanesAligned = true
  · have hu : u.ing = { g with align := .hunt } := (congrArg State.ing (if_pos ha)).trans (State.setAlign_ing (s.setIng g) .hunt)
    exact ⟨⟨_, hu⟩, fun _ _ => congrArg IngestUnit.align hu, fun hd => absurd ha.1 hd⟩
  · have hu : u = s.setIng g := if_neg ha
    exact ⟨⟨g.align, congrArg State.ing hu⟩, fun hd hl => absurd ⟨hd, hf, hu ▸ hl⟩ ha, fun _ => congrArg (fun t : State => t.ing.align) hu⟩

theorem ingestLaneUp_notes (l : Fin 4) (s : State) (hf : s.framerRuns = true) (hl : l.val < s.lanes) : ∃ u, exec (.ingestLaneUp l) s = .next u ∧
    tabGet (fun _ => false) u.ing.up l.val = true ∧ (s.ing.align = .down → u.lanesAligned = true → u.ing.align = .hunt) ∧
      (s.ing.align ≠ .down → u.ing.align = s.ing.align) := by
  obtain ⟨hon, hmid⟩ := State.framerRuns_on hf
  obtain ⟨⟨a, hu⟩, hhunt, hstay⟩ := State.tryHunt_tries hf { s.ing with up := tabSet (fun _ => false) s.ing.up l.val true }
  exact ⟨_, if_pos ⟨hon, hmid, hl⟩, by rw [hu]; exact tabGet_tabSet_ne _ _ _ _ (by decide), hhunt, hstay⟩

theorem alignmentMarkerRx_notes (l : Fin 4) (s : State) (hf : s.framerRuns = true) (hl : l.val < s.lanes)
    (hup : tabGet (fun _ => false) s.ing.up l.val = true) : ∃ u, exec (.alignmentMarkerRx l) s = .next u ∧
    tabGet (fun _ => false) u.ing.marked l.val = true ∧ (s.ing.align = .down → u.lanesAligned = true → u.ing.align = .hunt) ∧
      (s.ing.align ≠ .down → u.ing.align = s.ing.align) := by
  obtain ⟨hon, hmid⟩ := State.framerRuns_on hf
  obtain ⟨⟨a, hu⟩, hhunt, hstay⟩ := State.tryHunt_tries hf { s.ing with marked := tabSet (fun _ => false) s.ing.marked l.val true }
  exact ⟨_, if_pos ⟨hon, hmid, hl, hup⟩, by rw [hu]; exact tabGet_tabSet_ne _ _ _ _ (by decide), hhunt, hstay⟩

theorem ingestLane_disabled (l : Fin 4) (i : Instr) (s : State) (h : s.ingOn = false) (hi : i = .ingestLaneUp l ∨ i = .alignmentMarkerRx l) :
    ∃ u, exec i s = .next u ∧ u = s := by
  rcases hi with rfl | rfl <;> exact ⟨s, if_neg fun hc => by simp [h] at hc, rfl⟩

/-- What is left of a frame coming in when a lane is lost: it ends with the bytes received, BROKEN and with a free PAY_CRC (R209). -/
def State.frameBroken (s : State) (got : List Byte) : State :=
  match s.ing.rx with
  | some f => s.takeFree.2.endFrame f (got.take f.payLen) (s.takeFree.1 % 2 ^ 32) true
  | none => s

/-- The unit after the loss of a lane, before the framer goes DOWN. -/
def IngestUnit.laneLost (g : IngestUnit) (lane : Nat) : IngestUnit :=
  { g with up := tabSet (fun _ => false) g.up lane false, marked := [], verifiers := [], misses := 0 }

theorem exec_ingestLaneLost (hup : tabGet (fun _ => false) s.ing.up l.val = true) : exec (.ingestLaneLost l got) s = .next
    (((s.ingFlag 1 noCtx).frameBroken got).realigned (((s.ingFlag 1 noCtx).frameBroken got).ing.laneLost l.val) .down) :=
  (if_pos hup).trans rfl

theorem ingestLaneLost_down (l : Fin 4) (got : List Byte) (s : State) (i : Inv s) (hup : tabGet (fun _ => false) s.ing.up l.val = true)
    (hw : tabWf (fun _ => false) s.ing.up = true) : ∃ u, exec (.ingestLaneLost l got) s = .next u ∧
    u.ing.align = .down ∧ u.ing.marked = [] ∧ u.ing.verifiers = [] ∧
      (s.ing.rx = none → tabGet (fun _ => false) u.ing.up l.val = false ∧ u.rbit 0x80014 1 = true ∧ u.mem = s.mem) := by
  refine ⟨_, exec_ingestLaneLost hup, ?_⟩
  have hun := State.realigned_unbound ((s.ingFlag 1 noCtx).frameBroken got) (((s.ingFlag 1 noCtx).frameBroken got).ing.laneLost l.val) .down
  refine ⟨hun.align, hun.read IngestUnit.marked fun _ => rfl, hun.read IngestUnit.verifiers fun _ => rfl, fun hrx => ?_⟩
  have hquiet : (s.ingFlag 1 noCtx).frameBroken got = s.ingFlag 1 noCtx := by
    unfold State.frameBroken
    rw [State.ingFlag_ing, hrx]
  rw [hquiet] at hun ⊢
  rw [State.ingFlag_ing] at hun ⊢
  have hflag : Inv (s.ingFlag 1 noCtx) := (State.ingFlag_moves ..).inv i
  refine ⟨?_, ?_, ((State.realigned_moves ..).off .memory rfl).trans ((State.ingFlag_moves ..).off .memory rfl)⟩
  · rw [hun.read IngestUnit.up fun _ => rfl]
    exact tabGet_tabSet_same _ s.ing.up l.val false hw
  · unfold State.realigned
    rw [rbit_endUnbinds]
    exact rbit_setAlign_keeps ((State.setIng_moves ..).inv hflag) _ (rbit_flagQuiet i 9 noCtx (by decide) (by decide))

theorem ingestLaneLost_nothing (l : Fin 4) (got : List Byte) (s : State) (hup : tabGet (fun _ => false) s.ing.up l.val = false) :
    ∃ u, exec (.ingestLaneLost l got) s = .next u ∧ u = s := ⟨s, if_neg (by simp [hup]), rfl⟩

/-! ### Candidates (R205) -/

/-- The state in which the boundary at `pos` has been scanned. -/
def State.scanned (s : State) (pos : Nat) : State := s.setIng { s.ing with scan := pos + 8 }

theorem exec_ingestCandidate (ha : s.ing.align = .hunt ∨ s.ing.align = .verify) (hs : s.ing.scan ≤ pos) (h8 : pos % 8 = 0) :
    exec (.ingestCandidate pos h) s = if !s.frameStart h then .next (s.scanned pos)
      else if 4 ≤ s.ing.verifiers.length then .next ((s.scanned pos).ingCount 7 1)
      else .next (((s.scanned pos).setIng { (s.scanned pos).ing with verifiers := s.ing.verifiers ++ [(pos + frameBytes (payLen h), 1)] }).setAlign .verify) :=
  (if_pos ⟨ha, hs, h8⟩).trans rfl

theorem ingestCandidate_found (pos : Nat) (h : List Byte) (s : State) (i : Inv s) (ha : s.ing.align = .hunt ∨ s.ing.align = .verify)
    (hs : s.ing.scan ≤ pos) (h8 : pos % 8 = 0) (hf : s.frameStart h = true) : ∃ u, exec (.ingestCandidate pos h) s = .next u ∧
    u.ing.scan = pos + 8 ∧
    (s.ing.verifiers.length < 4 → u.ing.align = .verify ∧ u.ing.verifiers = s.ing.verifiers ++ [(pos + frameBytes (payLen h), 1)]) ∧
    (4 ≤ s.ing.verifiers.length → u.ing.verifiers = s.ing.verifiers ∧ (u.reg 0x8005C).toNat = min 0xFFFFFFFF ((s.reg 0x8005C).toNat + 1)) := by
  rw [exec_ingestCandidate ha hs h8, if_neg (by simp [hf])]
  by_cases hfull : 4 ≤ s.ing.verifiers.length
  · rw [if_pos hfull]
    exact ⟨_, rfl, rfl, fun hlt => absurd hfull (Nat.not_le.2 hlt), fun _ => ⟨rfl, reg_ingCount_same ((State.setIng_moves ..).inv i) 7 1⟩⟩
  · rw [if_neg hfull]
    refine ⟨_, rfl, ?_⟩
    rw [State.setAlign_ing]
    exact ⟨rfl, fun _ => ⟨rfl, rfl⟩, fun hle => absurd hle hfull⟩

theorem ingestCandidate_passed (pos : Nat) (h : List Byte) (s : State) (ha : s.ing.align = .hunt ∨ s.ing.align = .verify) (hs : s.ing.scan ≤ pos)
    (h8 : pos % 8 = 0) (hf : s.frameStart h = false) :
    ∃ u, exec (.ingestCandidate pos h) s = .next u ∧ u = s.setIng { s.ing with scan := pos + 8 } :=
  ⟨_, (exec_ingestCandidate ha hs h8).trans (if_pos (by simp [hf])), rfl⟩

/-! ### Verifiers (R206) -/

/-- The state in LOCK after the header at `pos`, before its frame is judged. -/
def State.inLock (s : State) (pos : Nat) (h : List Byte) : State :=
  (s.setIng { s.ing with verifiers := [], expect := pos + frameBytes (payLen h), lastLen := payLen h, misses := 0, scan := pos + 8 }).setAlign .lock

theorem State.inLock_moves (s : State) (pos : Nat) (h : List Byte) : Moves 0x4083C s (s.inLock pos h) :=
  .then (State.setAlign_moves ..) rfl <| (State.setIng_moves ..).mono rfl

theorem State.inLock_ing (s : State) (pos : Nat) (h : List Byte) : (s.inLock pos h).ing =
    { s.ing with verifiers := [], expect := pos + frameBytes (payLen h), lastLen := payLen h, misses := 0, scan := pos + 8, align := .lock } :=
  State.setAlign_ing _ .lock

theorem reg_inLock (s : State) (pos : Nat) (h : List Byte) {x : Nat} (h0 : x ≠ 0x80014) (he : x ≠ 0xF1008) : (s.inLock pos h).reg x = s.reg x :=
  reg_setAlign _ _ h0 he

/-- A third header counts, whichever of the verifiers at its place is found first. -/
theorem verifyHeader_locks (ha : s.ing.align = .verify) (hv : (pos, 2) ∈ s.ing.verifiers) (hf : s.frameStart h = true) :
    verifyHeader pos h age s = .next (((s.inLock pos h).ingCount 12 2).judge h age).endUnbinds := by
  have hsome : (s.ing.verifiers.find? (fun v => decide (v.1 = pos))).isSome = true := List.find?_isSome.2 ⟨_, hv, by simp⟩
  obtain ⟨⟨p, seen⟩, hfind⟩ := Option.isSome_iff_exists.1 hsome
  have hany : (s.ing.verifiers.filter (fun v => decide (v.1 = pos))).any (fun v => decide (2 ≤ v.2)) = true :=
    List.any_eq_true.2 ⟨(pos, 2), List.mem_filter.2 ⟨hv, by simp⟩, by simp⟩
  unfold verifyHeader
  rw [if_neg (by simp [ha]), hfind]
  dsimp only
  rw [if_pos hf, if_pos (.inl hany)]
  rfl

theorem ingestVerifyHeader_locks (pos age : Nat) (h : List Byte) (s : State) (i : Inv s) (ha : s.ing.align = .verify) (hv : (pos, 2) ∈ s.ing.verifiers)
    (hf : s.frameStart h = true) (hb : s.bound (hfield h 5 1 % 16) = none) : ∃ u, exec (.ingestVerifyHeader pos h age) s = .next u ∧
    u.ing.align = .lock ∧ u.ing.verifiers = [] ∧ u.ing.expect = pos + frameBytes (payLen h) ∧ u.ing.misses = 0 ∧
      (u.reg 0x80070).toNat = min 0xFFFFFFFF ((s.reg 0x80070).toNat + 2) ∧ (u.reg 0x80054).toNat = min 0xFFFFFFFF ((s.reg 0x80054).toNat + 1) := by
  have hexec : exec (.ingestVerifyHeader pos h age) s = verifyHeader pos h age s := by
    change s.headerOf h _ = _
    unfold State.headerOf
    rw [hb]
  have hlim : ((s.inLock pos h).ingCount 12 2).limitsOk h = true := by
    have hreg : ∀ x, x ≠ 0x80070 → x ≠ 0x80014 → x ≠ 0xF1008 → ((s.inLock pos h).ingCount 12 2).reg x = s.reg x := fun x hx h0 he =>
      (reg_ingCount_other _ 12 2 hx).trans (reg_inLock s pos h h0 he)
    rw [State.limitsOk_congr (hreg _ (by decide) (by decide) (by decide)) (hreg _ (by decide) (by decide) (by decide))]
    exact State.limitsOk_of_frameStart hf
  have hnone : ((s.inLock pos h).ingCount 12 2).bound (hfield h 5 1 % 16) = none := by
    unfold State.bound
    rw [State.ingCount_ing, State.inLock_ing]
    exact hb
  have hinv : Inv (s.inLock pos h) := (s.inLock_moves pos h).inv i
  have hun := State.endUnbinds_unbound (((s.inLock pos h).ingCount 12 2).ingCount 5 1)
  rw [State.ingCount_ing, State.ingCount_ing, State.inLock_ing] at hun
  rw [hexec, verifyHeader_locks ha hv hf, State.judge_unbound hlim hnone]
  refine ⟨_, rfl, hun.align, hun.read IngestUnit.verifiers fun _ => rfl, hun.read IngestUnit.expect fun _ => rfl,
    hun.read IngestUnit.misses fun _ => rfl, ?_, ?_⟩
  · rw [reg_endUnbinds _ (by decide), reg_ingCount_other _ _ _ (by decide), ← reg_inLock s pos h (by decide) (by decide)]
    exact reg_ingCount_same hinv 12 2
  · rw [reg_endUnbinds _ (by decide), ← reg_inLock s pos h (by decide) (by decide), ← reg_ingCount_other (s.inLock pos h) 12 2 (by decide)]
    exact reg_ingCount_same ((State.ingCount_moves ..).inv hinv) 5 1

/-- The second header of a verifier moves it on. -/
theorem verifyHeader_moves_on (ha : s.ing.align = .verify) (hfind : s.ing.verifiers.find? (fun v => decide (v.1 = pos)) = some (pos, 1))
    (hno : ¬(pos, 2) ∈ s.ing.verifiers) (hall : s.ing.verifiers.all (fun v => decide (v.2 ≤ 2)) = true) (hf : s.frameStart h = true) :
    verifyHeader pos h age s = .next (s.setIng { s.ing with verifiers := s.ing.verifiers.filter (fun v => decide (v.1 ≠ pos)) ++
      (s.ing.verifiers.filter (fun v => decide (v.1 = pos))).map (fun v => (pos + frameBytes (payLen h), v.2 + 1)) }) := by
  have hthird : ¬((s.ing.verifiers.filter (fun v => decide (v.1 = pos))).any (fun v => decide (2 ≤ v.2)) = true ∨ 2 ≤ 1) := by
    rintro (hany | h2)
    · obtain ⟨⟨p, seen⟩, hmem, h2⟩ := List.any_eq_true.1 hany
      obtain ⟨hv, hp⟩ := List.mem_filter.1 hmem
      obtain rfl : p = pos := of_decide_eq_true hp
      have hle : seen ≤ 2 := of_decide_eq_true (List.all_eq_true.1 hall _ hv)
      obtain rfl : seen = 2 := Nat.le_antisymm hle (of_decide_eq_true h2)
      exact hno hv
    · exact absurd h2 (by decide)
  unfold verifyHeader
  rw [if_neg (by simp [ha]), hfind]
  dsimp only
  rw [if_pos hf, if_neg hthird]

theorem ingestVerifyHeader_second (pos age : Nat) (h : List Byte) (s : State) (ha : s.ing.align = .verify)
    (hfind : s.ing.verifiers.find? (fun v => decide (v.1 = pos)) = some (pos, 1)) (hno : ¬(pos, 2) ∈ s.ing.verifiers)
    (hall : s.ing.verifiers.all (fun v => decide (v.2 ≤ 2)) = true) (hf : s.frameStart h = true) (hn : s.lnk.need = none) :
    ∃ u, exec (.ingestVerifyHeader pos h age) s = .next u ∧ u.ing.align = .verify ∧ (pos + frameBytes (payLen h), 2) ∈ u.ing.verifiers := by
  refine State.headerOf_ing (P := fun g => g.align = .verify ∧ (pos + frameBytes (payLen h), 2) ∈ g.verifiers) h hn fun t hi hr hneed => ?_
  have hmem : (pos, 1) ∈ s.ing.verifiers.filter (fun v => decide (v.1 = pos)) := List.mem_filter.2 ⟨List.mem_of_find?_eq_some hfind, by simp⟩
  rw [← hi] at ha hfind hno hall hmem
  rw [verifyHeader_moves_on ha hfind hno hall ((State.frameStart_of_regs hr h).trans hf)]
  exact ⟨_, rfl, hneed, ha, List.mem_append_right _ (List.mem_map.2 ⟨_, hmem, rfl⟩)⟩

theorem ingestVerifyHeader_dropped (pos age k : Nat) (h : List Byte) (s : State) (ha : s.ing.align = .verify) (hv : s.ing.verifiers = [(pos, k)])
    (hf : s.frameStart h = false) (hn : s.lnk.need = none) :
    ∃ u, exec (.ingestVerifyHeader pos h age) s = .next u ∧ u.ing.align = .hunt ∧ u.ing.verifiers = [] := by
  refine State.headerOf_ing (P := fun g => g.align = .hunt ∧ g.verifiers = []) h hn fun t hi hr hneed => ?_
  have hft : t.frameStart h = false := (State.frameStart_of_regs hr h).trans hf
  have hdrop : verifyHeader pos h age t = .next ((t.setIng { t.ing with verifiers := [] }).ingCount 7 1).resync := by
    unfold verifyHeader
    rw [hi, if_neg (by simp [ha]), hv]
    simp [hft]
  have hun := ((t.setIng { t.ing with verifiers := [] }).ingCount 7 1).resync_unbound
  refine ⟨_, hdrop, ?_, hun.align, hun.read IngestUnit.verifiers fun _ => rfl⟩
  exact (congrArg LinkUnit.need ((State.resync_moves ..).off .links rfl)).trans hneed

/-! ### Headers in LOCK (R207, R212) -/

/-- The state that expects the next header after the frame of this one. -/
def State.expects (s : State) (h : List Byte) : State :=
  s.setIng { s.ing with expect := s.ing.expect + frameBytes (payLen h), lastLen := payLen h, misses := 0 }

theorem lockHeader_judges (ha : s.ing.align = .lock) (hrx : s.ing.rx = none) (hsync : syncOk h = true) (hvalid : headerValid h = true)
    (hlim : s.limitsOk h = true) : lockHeader h age s = .next ((s.expects h).judge h age) := by
  unfold lockHeader
  rw [if_neg (by simp [ha, hrx]), if_neg (by simp [hsync, hvalid]), if_neg (Nat.not_lt.2 (State.payLen_le_of_limitsOk hlim))]
  rfl

/-- What an admission of the frame expected leaves: memory, the mark that remote data lacks, and the framer in LOCK with the frame coming in. -/
structure State.AdmittedBy (s u : State) (h : List Byte) (b : Binding) : Prop where
  mem : u.mem = s.mem
  lnk : u.lnk = s.lnk
  align : u.ing.align = s.ing.align
  expect : u.ing.expect = s.ing.expect + frameBytes (payLen h)
  misses : u.ing.misses = 0
  rx : ∃ f, u.ing.rx = some f ∧ f.stream = hfield h 5 1 % 16 ∧ f.seq = hfield h 8 4 ∧ f.payLen = payLen h ∧
    (b.first = true → f.ids = b.order (hfield h 8 4) (List.range b.patches))

theorem State.expects_admitted (s : State) (h : List Byte) (b : Binding) (age : Nat) :
    s.AdmittedBy ((s.expects h).admitFrame (hfield h 5 1 % 16) b h age) h b := by
  have hmoves := State.admitFrame_moves (s.expects h) (hfield h 5 1 % 16) b h age
  obtain ⟨f, t, hing, hstream, hseq, hlen, hids⟩ := (s.expects h).admitFrame_takes (hfield h 5 1 % 16) b h age
  exact ⟨hmoves.off .memory rfl, hmoves.off .links rfl, (congrArg IngestUnit.align hing :), (congrArg IngestUnit.expect hing :),
    (congrArg IngestUnit.misses hing :), f, (congrArg IngestUnit.rx hing :), hstream, hseq, hlen, fun hfirst => by rw [hids, Binding.keep_first hfirst]⟩

theorem lockHeader_admits (ha : s.ing.align = .lock) (hrx : s.ing.rx = none) (hsync : syncOk h = true) (hvalid : headerValid h = true)
    (hlim : s.limitsOk h = true) (hb : s.bound (hfield h 5 1 % 16) = some b) (ht : b.takes s.clk age = true) (hm : b.matches_ h = true)
    (hr : s.vreadNat 0 b.ctx (b.ctrl + 8) 8 = .ok n) (hslot : (b.produced + 2 ^ 64 - n) % 2 ^ 64 < b.slots) (hadm : s.admits 35 = true) :
    ∃ u, lockHeader h age s = .next u ∧ s.AdmittedBy u h b := by
  have hread : (s.expects h).vreadNat 0 b.ctx (b.ctrl + 8) 8 = .ok n := (State.vreadNat_setIng ..).trans hr
  refine ⟨_, ?_, s.expects_admitted h b age⟩
  rw [lockHeader_judges ha hrx hsync hvalid hlim, State.judge_admits (s := s.expects h) hlim hb ht hm hread hslot hadm]

theorem ingestLockHeader_admits (h : List Byte) (age n : Nat) (b : Binding) (s : State) (hlock : s.ing.align = .lock) (hrx : s.ing.rx = none)
    (hsync : syncOk h = true) (hvalid : headerValid h = true) (hlim : s.limitsOk h = true) (hb : s.bound (hfield h 5 1 % 16) = some b)
    (ht : b.takes s.clk age = true) (hm : b.matches_ h = true)
    (hr : (s.asked b.ctx (2 ^ 17 + hfield h 5 1 % 16)).vreadNat 0 b.ctx (b.ctrl + 8) 8 = .ok n)
    (hslot : (b.produced + 2 ^ 64 - n) % 2 ^ 64 < b.slots) (hadm : s.admits 35 = true) (hn : s.lnk.need = none) :
    ∃ u, exec (.ingestLockHeader h age) s = .next u ∧
      u.mem = s.mem ∧ u.ing.align = .lock ∧ u.ing.expect = s.ing.expect + frameBytes (payLen h) ∧ u.ing.misses = 0 ∧
      ∃ f, u.ing.rx = some f ∧ f.stream = hfield h 5 1 % 16 ∧ f.seq = hfield h 8 4 ∧ f.payLen = payLen h ∧
        (b.first = true → f.ids = b.order (hfield h 8 4) (List.range b.patches)) := by
  have hexec : exec (.ingestLockHeader h age) s = s.remotely b.ctx (2 ^ 17 + hfield h 5 1 % 16) 99 (lockHeader h age) := by
    change s.headerOf h _ = _
    unfold State.headerOf
    rw [hb]
  obtain ⟨t, hrun, had⟩ := lockHeader_admits (s := s.asked b.ctx (2 ^ 17 + hfield h 5 1 % 16)) hlock hrx hsync hvalid hlim hb ht hm hr hslot hadm
  obtain ⟨l, hl⟩ := State.remotely_next hrun ((congrArg LinkUnit.need had.lnk).trans hn)
  exact ⟨_, hexec.trans hl, had.mem, had.align.trans hlock, had.expect, had.misses, had.rx⟩

/-- A boundary without the sync word is a miss, whatever its header (R207). -/
theorem lockHeader_misses {t : State} (ha : t.ing.align = .lock) (hrx : t.ing.rx = none) (hsync : syncOk h = false) :
    ∃ v : State, lockHeader h age t = .next v.missHeader ∧ v.ing = t.ing ∧ v.lnk = t.lnk := by
  unfold lockHeader
  rw [if_neg (by simp [ha, hrx]), if_pos (.inl (by simp [hsync]))]
  split
  · exact ⟨t, rfl, rfl, rfl⟩
  · exact ⟨t.ingCount 1 1, rfl, rfl, rfl⟩

/-- The first and second miss in a row are counted, and the next header is expected after a frame of the last length. -/
theorem State.missHeader_on (hm : s.ing.misses < 2) : s.missHeader =
    (s.ingCount 2 1).setIng { s.ing with misses := s.ing.misses + 1, expect := s.ing.expect + frameBytes s.ing.lastLen } :=
  if_neg (show ¬3 ≤ s.ing.misses + 1 by omega)

/-- The third miss in a row returns the framer to HUNT at the position that was expected. -/
theorem State.missHeader_third (hm : 2 ≤ s.ing.misses) :
    s.missHeader = (((s.ingCount 2 1).setIng { s.ing with scan := s.ing.expect }).ingFlag 2 noCtx).resync :=
  if_pos (show 3 ≤ s.ing.misses + 1 by omega)

theorem State.missHeader_hunts (hm : 2 ≤ s.ing.misses) :
    s.missHeader.ing.align = .hunt ∧ s.missHeader.ing.scan = s.ing.expect ∧ s.missHeader.ing.misses = 0 := by
  have hun := (((s.ingCount 2 1).setIng { s.ing with scan := s.ing.expect }).ingFlag 2 noCtx).resync_unbound
  rw [← State.missHeader_third hm, State.ingFlag_ing, State.setIng_ing] at hun
  exact ⟨hun.align, hun.read IngestUnit.scan fun _ => rfl, hun.read IngestUnit.misses fun _ => rfl⟩

theorem ingestLockHeader_misses (h : List Byte) (age : Nat) (s : State) (ha : s.ing.align = .lock) (hrx : s.ing.rx = none) (hsync : syncOk h = false)
    (hn : s.lnk.need = none) : ∃ u, exec (.ingestLockHeader h age) s = .next u ∧
    (s.ing.misses < 2 → u.ing.align = .lock ∧ u.ing.misses = s.ing.misses + 1 ∧ u.ing.expect = s.ing.expect + frameBytes s.ing.lastLen) ∧
    (2 ≤ s.ing.misses → u.ing.align = .hunt ∧ u.ing.scan = s.ing.expect ∧ u.ing.misses = 0) := by
  refine State.headerOf_ing
    (P := fun g => (s.ing.misses < 2 → g.align = .lock ∧ g.misses = s.ing.misses + 1 ∧ g.expect = s.ing.expect + frameBytes s.ing.lastLen) ∧
      (2 ≤ s.ing.misses → g.align = .hunt ∧ g.scan = s.ing.expect ∧ g.misses = 0)) h hn fun t hi _ hneed => ?_
  obtain ⟨v, hrun, hving, hvlnk⟩ := lockHeader_misses (h := h) (age := age) (hi ▸ ha) (hi ▸ hrx) hsync
  rw [← hi, ← hving] at ha ⊢
  refine ⟨_, hrun, ?_, fun hlt => ?_, State.missHeader_hunts⟩
  · exact (congrArg LinkUnit.need (((State.missHeader_moves v).off .links rfl).trans hvlnk)).trans hneed
  · rw [State.missHeader_on hlt]
    exact ⟨ha, rfl, rfl⟩

/-! ### The receive buffer (R221) -/

theorem ingestBufferFull_abandons (got : Nat) (f : FrameIn) (s : State) (i : Inv s) (hrx : s.ing.rx = some f)
    (hfull : rcvDepth ≤ min got f.payLen + s.rcvHeld) : ∃ u, exec (.ingestBufferFull got) s = .next u ∧
    u.ing.rx = none ∧ u.ing.align = s.ing.align ∧ (u.reg 0x8006C).toNat = min 0xFFFFFFFF ((s.reg 0x8006C).toNat + 1) ∧ u.rbit 0x80014 5 = true := by
  have hexec : exec (.ingestBufferFull got) s = .next s.abandonFrame.endUnbinds := by
    change execIngestBufferFull got s = _
    unfold execIngestBufferFull
    rw [hrx]
    dsimp only
    rw [if_pos hfull]
  have hab : s.abandonFrame = ((s.setIng { s.ing with rx := none }).ingCount 11 1).ingFlag 5 noCtx := by
    unfold State.abandonFrame
    rw [hrx]
  have hset : Inv (s.setIng { s.ing with rx := none }) := (State.setIng_moves ..).inv i
  have halign : s.abandonFrame.endUnbinds.ing.align = s.abandonFrame.ing.align := s.abandonFrame.endUnbinds_unbound.align
  refine ⟨_, hexec, (State.endUnbinds_rx _).trans s.abandonFrame_rx, halign.trans (by rw [State.abandonFrame_ing]), ?_, ?_⟩
  · rw [reg_endUnbinds _ (by decide), hab, State.ingFlag, reg_flagQuiet _ _ _ _ _ (by decide) (by decide)]
    exact reg_ingCount_same hset 11 1
  · rw [rbit_endUnbinds, hab]
    exact rbit_flagQuiet ((State.ingCount_moves ..).inv hset) 9 noCtx (by decide) (by decide)

theorem ingestBufferFull_nothing (got : Nat) (s : State) (hroom : got + s.rcvHeld < rcvDepth) :
    ∃ u, exec (.ingestBufferFull got) s = .next u ∧ u = s := by
  refine ⟨s, ?_, rfl⟩
  change execIngestBufferFull got s = _
  unfold execIngestBufferFull
  split
  · next f _ => rw [if_neg (by have := Nat.min_le_left got f.payLen; omega)]
  · rfl

/-! ### ING_CMD.RESYNC (R209, Table 7.10) -/

theorem exec_ingestResyncCmd (hs : s.served) : exec .ingestResyncCmd s = .next ((s.dropLatches 0x80010).ingCmd 1) :=
  congrArg Host.Outcome.next (State.onWrite_open _ (fun _ => hs.1) hs.2)

theorem ingestResyncCmd_hunts (s : State) (hs : s.served) (ha : s.ing.align = .verify ∨ s.ing.align = .lock) :
    ∃ u, exec .ingestResyncCmd s = .next u ∧
      u.ing.align = .hunt ∧ u.ing.rx = none ∧ u.ing.verifiers = [] ∧ ∀ k b, u.bound k = some b → b.first = true := by
  have hun := (s.dropLatches 0x80010).resync_unbound
  refine ⟨_, (exec_ingestResyncCmd hs).trans (congrArg Host.Outcome.next (if_pos ⟨by decide, ha⟩)), hun.align, hun.read IngestUnit.rx fun _ => rfl,
    hun.read IngestUnit.verifiers fun _ => rfl, fun k b hb => State.resync_first _ hb⟩

theorem ingestResyncCmd_nothing (s : State) (hs : s.served) (ha : s.ing.align = .hunt ∨ s.ing.align = .down) :
    ∃ u, exec .ingestResyncCmd s = .next u ∧ u = s.dropLatches 0x80010 := by
  refine ⟨_, exec_ingestResyncCmd hs, if_neg fun hc => ?_⟩
  have hact : s.ing.align = .verify ∨ s.ing.align = .lock := hc.2
  rcases ha with ha | ha <;> simp [ha] at hact

/-- Settles O31: every row keeps to the part of the framer it names, and the unbinds that end on the way take at most bindings with them. -/
theorem ingestPort : Obligations.IngestPort :=
  ⟨ingestLaneUp_notes, alignmentMarkerRx_notes, ingestLane_disabled, ingestLaneLost_down, ingestLaneLost_nothing, ingestCandidate_found,
    ingestCandidate_passed, ingestVerifyHeader_locks, ingestVerifyHeader_second, ingestVerifyHeader_dropped,
    fun h age n b s _ hlock hrx hsync hvalid hlim hb hdue hunb hsince hm hr hslot hadm hn =>
      ingestLockHeader_admits h age n b s hlock hrx hsync hvalid hlim hb (by simp [Binding.takes, hdue, hunb, hsince]) hm hr hslot hadm hn,
    ingestLockHeader_misses, ingestBufferFull_abandons, ingestBufferFull_nothing, ingestResyncCmd_hunts, ingestResyncCmd_nothing⟩

end Sys2Proof.Machine
end

section
/-! PROOFS. INGEST_BIND, KEEP_MAP, the end of a frame and its publication, and the statement on them (O32; R210, R213 to R216, R222). -/

namespace Sys2Proof.Machine

variable {s t s1 s2 : State} {c : CtxId} {d d0 : Desc} {b : Binding} {f : FrameIn} {payload : List Byte} {ids : List Nat} {k idx : Nat}

/-! ### Bindings (R210) -/

theorem State.bound_of_ing (h : t.ing = s.ing) (k : Nat) : t.bound k = s.bound k := congrArg (fun g : IngestUnit => tabGet (fun _ => none) g.binds k) h

theorem State.bound_setBound_some (s : State) (k : Nat) (b : Binding) : (s.setBound k (some b)).bound k = some b :=
  tabGet_tabSet_ne _ _ _ _ (Option.some_ne_none b)

/-- An unbind of a stream with a frame coming in or to be published waits. -/
theorem State.endUnbind_waits (h : (s.ing.rx.map fun f => f.stream) = some k ∨ k ∈ s.ing.waiting) : s.endUnbind k = s := by
  unfold State.endUnbind
  split
  · rfl
  · split
    · rfl
    · rw [if_pos h]

/-- A binding that no unbind waits for stays. -/
theorem State.endUnbind_bound (hb : s.bound k = some b) (hu : b.unbind = none) : s.endUnbind k = s := by
  unfold State.endUnbind
  rw [hb]
  dsimp only
  rw [hu]

/-- An unbind of a stream with no frame under way removes its binding. -/
theorem State.endUnbind_removes (hb : s.bound k = some b) (hu : b.unbind = some idx) (h : ¬((s.ing.rx.map fun f => f.stream) = some k ∨ k ∈ s.ing.waiting))
    (hw : tabWf (fun _ => none) s.ing.binds = true) : (s.endUnbind k).bound k = none := by
  unfold State.endUnbind
  rw [hb]
  dsimp only
  rw [hu]
  dsimp only
  rw [if_neg h, State.bound_of_ing (State.endDesc_ing ..)]
  exact tabGet_tabSet_same _ _ _ _ hw

/-! ### INGEST_BIND -/

theorem State.Stands.setBound {c : Nat} (h : s.Stands c d) (k : Nat) (b : Option Binding) : (s.setBound k b).Stands c d := h.of_rings rfl

theorem State.finishOk_outcome {c : Nat} (h : s.Stands c d) (detail : Nat) :
    (s.finishOk c d detail).outcome c d.idx = some (d.okCode, detail, d.epoch) := State.finish_outcome h _ _

/-- The state in which descriptor `idx` is to unbind stream `k`. -/
def State.unbinding (s : State) (k : Nat) (b : Binding) (idx : Nat) : State := s.setBound k (some { b with unbind := some idx })

theorem ingestBind_binds (c : CtxId) (d : Desc) (s s1 : State) (hgo : s.startsBind c.val = .go d s1) : ∃ u, exec (.ingestBind c) s = .next u ∧
    u.bound (streamOf d) = some (bindingOf c.val d) ∧ u.outcome c.val d.idx = some (d.okCode, (bindingOf c.val d).stride, d.epoch) ∧ u.mem = s.mem := by
  have hb := State.begin_began hgo
  have hexec : exec (.ingestBind c) s =
      .next ((s1.setBound (streamOf d) (some (bindingOf c.val d))).finishOk c.val d (bindingOf c.val d).stride) := by
    change execIngestBind c s = _
    unfold State.startsBind at hgo
    unfold execIngestBind
    rw [hgo]
  refine ⟨_, hexec, ?_, State.finishOk_outcome (hb.stands.setBound ..) _, (State.finishOk_mem ..).trans (hb.moves.off .memory rfl)⟩
  rw [State.bound_of_ing (State.finishOk_ing ..)]
  exact State.bound_setBound_some ..

theorem ingestUnbind_unbinds (c : CtxId) (d : Desc) (b : Binding) (s s1 : State) (hgo : s.startsUnbind c.val = .go d s1)
    (hb : s1.bound (streamOf d) = some b) (hw : tabWf (fun _ => none) s1.ing.binds = true) : ∃ u, exec (.ingestUnbind c) s = .next u ∧
    u.mem = s.mem ∧ ((s1.ing.rx.map fun f => f.stream) ≠ some (streamOf d) → ¬ streamOf d ∈ s1.ing.waiting → u.bound (streamOf d) = none) ∧
    (((s1.ing.rx.map fun f => f.stream) = some (streamOf d) ∨ streamOf d ∈ s1.ing.waiting) →
      u.bound (streamOf d) = some { b with unbind := some d.idx }) := by
  have hexec : exec (.ingestUnbind c) s = .next ((s1.unbinding (streamOf d) b d.idx).endUnbind (streamOf d)) := by
    change execIngestUnbind c s = _
    unfold State.startsUnbind at hgo
    unfold execIngestUnbind
    rw [hgo]
    dsimp only
    rw [hb]
    rfl
  have hset : (s1.unbinding (streamOf d) b d.idx).bound (streamOf d) = some { b with unbind := some d.idx } := s1.bound_setBound_some ..
  refine ⟨_, hexec, ?_, fun hrx hwait => ?_, fun h => ?_⟩
  · exact ((State.endUnbind_moves ..).off .memory rfl).trans <| ((State.setBound_moves ..).off .memory rfl).trans
      ((State.begin_began hgo).moves.off .memory rfl)
  · exact State.endUnbind_removes hset rfl (not_or.2 ⟨hrx, hwait⟩) (tabWf_tabSet _ _ _ _ hw)
  · rw [State.endUnbind_waits (s := s1.unbinding (streamOf d) b d.idx) h]
    exact hset

/-! ### KEEP_MAP (R216, R222) -/

theorem check_false_of_wellFormed {x : Bool × Nat} {xs : List (Bool × Nat)} (h : malformedAt xs = none) (hx : x ∈ xs) : x.1 = false := by
  unfold malformedAt at h
  split at h
  · next hnil =>
    refine Bool.eq_false_iff.2 fun ht => ?_
    have hmem : x.2 ∈ (xs.filter (fun c => c.1)).map (fun c => c.2) := List.mem_map.2 ⟨x, List.mem_filter.2 ⟨hx, ht⟩, rfl⟩
    rw [hnil] at hmem
    exact List.not_mem_nil hmem
  · cases h

/-- A well-formed KEEP_MAP names a binding of its own context. -/
theorem State.keepTarget_of_wellFormed {ws : List DWord} {c : Nat} (hok : malformedAt (s.keepChecks c ws) = none) (hb : s.bound (dfld ws 3 28 4) = some b) :
    s.keepTarget c (dfld ws 3 28 4) = some b := by
  have hsome : (s.keepTarget c (dfld ws 3 28 4)).isNone = false :=
    check_false_of_wellFormed (x := ((s.keepTarget c (dfld ws 3 28 4)).isNone, 24)) hok (by unfold State.keepChecks; simp)
  unfold State.keepTarget at hsome ⊢
  rw [hb, Option.filter_some] at hsome ⊢
  split at hsome
  · next h => rw [if_pos h]
  · cases hsome

/-- Whether the map of frame `seq` comes too late: that frame or a later one was admitted (R222). -/
def Binding.pastSeq (b : Binding) (seq : Nat) : Bool :=
  match b.last with
  | some l => decide (l = seq) || seqOlder seq l
  | none => false

theorem keepMapStart_reads (hgo : s.startsKeep c.val = .go d s1) (hok : malformedAt (s1.keepChecks c.val d.words) = none)
    (hids : s1.keptPatches c.val b.patches d.words = .ok ids) (hb : s1.bound (dfld d.words 3 28 4) = some b) : keepMapStart c s =
    if b.pastSeq (dfld d.words 3 32 32) then .next (s1.finish c.val d 1 ids.length)
    else .next ((s1.setBound (dfld d.words 3 28 4) (some { b with map := some (dfld d.words 3 32 32, ids) })).finishOk c.val d ids.length) := by
  unfold State.startsKeep at hgo
  unfold keepMapStart
  rw [hgo]
  dsimp only
  rw [State.keepTarget_of_wellFormed hok hb, Option.map_some, Option.getD_some, withStatic_wellFormed hok hids]
  dsimp only
  rw [hb]
  rfl

theorem keepMap_keeps (c : CtxId) (d0 d : Desc) (ids : List Nat) (b : Binding) (s s1 : State) (hd : s.nextDesc c.val = some d0)
    (hgo : (s.asked c.val d0.idx).startsKeep c.val = .go d s1) (hok : malformedAt (s1.keepChecks c.val d.words) = none)
    (hids : s1.keptPatches c.val b.patches d.words = .ok ids) (hb : s1.bound (dfld d.words 3 28 4) = some b)
    (hlast : ∀ l, b.last = some l → l ≠ dfld d.words 3 32 32 ∧ seqOlder (dfld d.words 3 32 32) l = false) (hn : s1.lnk.need = none) :
    ∃ u, exec (.keepMap c) s = .next u ∧ u.bound (dfld d.words 3 28 4) = some { b with map := some (dfld d.words 3 32 32, ids) } ∧
      u.outcome c.val d.idx = some (d.okCode, ids.length, d.epoch) ∧ u.mem = s.mem := by
  have hbegan := State.begin_began hgo
  have hnot : b.pastSeq (dfld d.words 3 32 32) = false := by
    unfold Binding.pastSeq
    split
    · next l hl => simp [hlast l hl]
    · rfl
  have hrun := keepMapStart_reads hgo hok hids hb
  rw [if_neg (by simp [hnot])] at hrun
  obtain ⟨u, hu, hend⟩ := State.starting_next hd hrun (by rw [State.finishOk_lnk]; exact hn)
  refine ⟨u, hu, ?_, (hend.outcome rfl _ _).trans (State.finishOk_outcome (hbegan.stands.setBound ..) _), ?_⟩
  · rw [State.bound_of_ing (hend.off .ingest rfl), State.bound_of_ing (State.finishOk_ing ..)]
    exact State.bound_setBound_some ..
  · exact (hend.off .memory rfl).trans <| (State.finishOk_mem ..).trans (hbegan.moves.off .memory rfl)

theorem keepMap_late (c : CtxId) (d0 d : Desc) (ids : List Nat) (b : Binding) (l : Nat) (s s1 : State) (hd : s.nextDesc c.val = some d0)
    (hgo : (s.asked c.val d0.idx).startsKeep c.val = .go d s1) (hok : malformedAt (s1.keepChecks c.val d.words) = none)
    (hids : s1.keptPatches c.val b.patches d.words = .ok ids) (hb : s1.bound (dfld d.words 3 28 4) = some b) (hl : b.last = some l)
    (hlate : l = dfld d.words 3 32 32 ∨ seqOlder (dfld d.words 3 32 32) l = true) (hn : s1.lnk.need = none) :
    ∃ u, exec (.keepMap c) s = .next u ∧ u.bound (dfld d.words 3 28 4) = some b ∧ u.outcome c.val d.idx = some (1, ids.length, d.epoch) ∧
      u.mem = s.mem := by
  have hbegan := State.begin_began hgo
  have hpast : b.pastSeq (dfld d.words 3 32 32) = true := by
    unfold Binding.pastSeq
    rw [hl]
    simpa using hlate
  have hrun := keepMapStart_reads hgo hok hids hb
  rw [if_pos hpast] at hrun
  obtain ⟨u, hu, hend⟩ := State.starting_next hd hrun (by rw [State.finish_lnk]; exact hn)
  refine ⟨u, hu, ?_, (hend.outcome rfl _ _).trans (State.finish_outcome hbegan.stands _ _), ?_⟩
  · rw [State.bound_of_ing (hend.off .ingest rfl), State.bound_of_ing (State.finish_ing ..)]
    exact hb
  · exact (hend.off .memory rfl).trans <| (State.finish_mem ..).trans (hbegan.moves.off .memory rfl)

/-! ### The end of a frame (R213 to R215) -/

/-- The state in which a frame of stream `k` with this binding has been written and waits for its publication. -/
def State.framed (s : State) (k : Nat) (b : Binding) : State :=
  (s.setBound k (some { b with produced := b.produced + 1 })).setIng
    { (s.setBound k (some { b with produced := b.produced + 1 })).ing with rx := none, waiting := s.ing.waiting ++ [k] }

/-- A frame of the bound length with its CRC is written without a flag, where its writes meet no fault and fit. -/
theorem State.endFrame_writes (hb : s.bound f.stream = some b) (hlen : payload.length = b.payload) (hpl : f.payLen = b.payload)
    (hw : s.vwrites b.ctx (f.writes b payload (crc32c payload)) true = (s2, none)) (hfit : s2.rcvHeld ≤ rcvDepth) :
    s.endFrame f payload (crc32c payload) false = s2.framed f.stream b := by
  have hshort : (false || decide (f.payLen < b.payload) || decide (payload.length < b.payload)) = false := by simp [hlen, hpl]
  have hlong : decide (b.payload < f.payLen) = false := by simp [hpl]
  have hbad : decide (crc32c payload ≠ crc32c payload) = false := by simp
  unfold FrameIn.writes at hw
  unfold State.endFrame
  rw [hb]
  dsimp only at hw ⊢
  rw [hshort, hlong, hbad]
  simp only [b2n, Bool.false_eq_true, if_false, Nat.zero_mul, Nat.add_zero]
  rw [hw]
  dsimp only
  rw [if_neg (Nat.not_lt.2 hfit)]
  rfl

theorem ingestFrameEnd_writes (payload : List Byte) (crc : BitVec 32) (f : FrameIn) (b : Binding) (s s2 : State) (hcrc : crc.toNat = crc32c payload)
    (hrx : s.ing.rx = some f) (hb : s.bound f.stream = some b) (hlen : payload.length = b.payload) (hpl : f.payLen = b.payload)
    (hw : s.vwrites b.ctx (f.writes b payload (crc32c payload)) true = (s2, none)) (hfit : s2.rcvHeld ≤ rcvDepth) :
    ∃ u, exec (.ingestFrameEnd payload crc) s = .next u ∧
      u.mem = s2.mem ∧ u.ing.rx = none ∧ u.ing.waiting = s.ing.waiting ++ [f.stream] ∧ u.bound f.stream = some { b with produced := b.produced + 1 } := by
  have hexec : exec (.ingestFrameEnd payload crc) s = .next (s2.framed f.stream b) := by
    change execIngestFrameEnd payload crc s = _
    unfold execIngestFrameEnd
    rw [hrx]
    dsimp only
    rw [hcrc, List.take_of_length_le (by omega), State.endFrame_writes hb hlen hpl hw hfit]
  have hing : s2.ing = s.ing := (MovesF.of (State.vwrites_moves ..) hw).off .ingest rfl
  exact ⟨_, hexec, rfl, rfl, congrArg (fun g : IngestUnit => g.waiting ++ [f.stream]) hing, s2.bound_setBound_some ..⟩

theorem ingestFrameEnd_nothing (payload : List Byte) (crc : BitVec 32) (s : State) (hrx : s.ing.rx = none) :
    ∃ u, exec (.ingestFrameEnd payload crc) s = .next u ∧ u = s := by
  refine ⟨s, ?_, rfl⟩
  change execIngestFrameEnd payload crc s = _
  unfold execIngestFrameEnd
  rw [hrx]

/-! ### Publications (R215) -/

/-- The state in which stream `k` has one waiting frame fewer. -/
def State.unwait (s : State) (k : Nat) : State := s.setIng { s.ing with waiting := s.ing.waiting.erase k }

theorem exec_ingestPublish (k : Fin 16) (hk : k.val ∈ s.ing.waiting) (hb : s.bound k.val = some b) (hwaits : s.rcvWaits b.ctx = false)
    (hw : (s.unwait k.val).vwrite 0 b.ctx b.ctrl (leBytes 8 (b.done + 1)) = (s2, none)) : exec (.ingestPublish k) s =
    .next ((((s2.setBound k.val (some { b with done := b.done + 1 })).ingCount 0 1).endUnbind k.val).beginExit) := by
  have hb' : (s.setIng { s.ing with waiting := s.ing.waiting.erase k.val }).bound k.val = some b := hb
  change execIngestPublish k s = _
  unfold execIngestPublish
  dsimp only
  unfold State.unwait at hw
  rw [if_pos hk, hb']
  dsimp only
  rw [if_neg (by simp [hwaits]), hw]

theorem ingestPublish_counts (k : Fin 16) (b : Binding) (s s2 : State) (i : Inv s) (hk : k.val ∈ s.ing.waiting) (hb : s.bound k.val = some b)
    (hu : b.unbind = none) (hwaits : s.rcvWaits b.ctx = false)
    (hw : (s.unwait k.val).vwrite 0 b.ctx b.ctrl (leBytes 8 (b.done + 1)) = (s2, none)) : ∃ u, exec (.ingestPublish k) s = .next u ∧
    u.mem = s2.mem ∧ u.ing.waiting = s.ing.waiting.erase k.val ∧ u.bound k.val = some { b with done := b.done + 1 } ∧
      (u.reg 0x80040).toNat = min 0xFFFFFFFF ((s2.reg 0x80040).toNat + 1) := by
  have hmoves : Moves 0x430D3C (s.unwait k.val) s2 := MovesF.of (State.vwrite_moves ..) hw
  have hing : s2.ing = (s.unwait k.val).ing := hmoves.off .ingest rfl
  have hset := s2.bound_setBound_some k.val { b with done := b.done + 1 }
  have hinv : Inv (s2.setBound k.val (some { b with done := b.done + 1 })) :=
    (State.setBound_moves ..).inv (hmoves.inv ((State.setIng_moves ..).inv i))
  have hbound : ((s2.setBound k.val (some { b with done := b.done + 1 })).ingCount 0 1).bound k.val = some { b with done := b.done + 1 } := hset
  refine ⟨_, exec_ingestPublish k hk hb hwaits hw, ?_⟩
  rw [State.endUnbind_bound hbound hu]
  have hexit := State.beginExit_moves ((s2.setBound k.val (some { b with done := b.done + 1 })).ingCount 0 1)
  refine ⟨hexit.off .memory rfl, ?_, (State.bound_of_ing (hexit.off .ingest rfl) _).trans hset, ?_⟩
  · rw [show _ = _ from hexit.off .ingest rfl]
    exact congrArg IngestUnit.waiting hing
  · rw [hexit.reg rfl]
    exact reg_ingCount_same hinv 0 1

theorem ingestPublish_nothing (k : Fin 16) (b : Binding) (s : State) (h : ¬ k.val ∈ s.ing.waiting ∨ s.rcvWaits b.ctx = true)
    (hb : s.bound k.val = some b) : ∃ u, exec (.ingestPublish k) s = .next u ∧ u = s := by
  have hb' : (s.setIng { s.ing with waiting := s.ing.waiting.erase k.val }).bound k.val = some b := hb
  refine ⟨s, ?_, rfl⟩
  change execIngestPublish k s = _
  unfold execIngestPublish
  dsimp only
  split
  · next hk =>
    rw [hb']
    dsimp only
    rw [if_pos (h.resolve_left (not_not_intro hk))]
  · rfl

/-- Settles O32: a start's binding or map stands once its descriptor has ended, and what an end or a publication writes is the model's own write. -/
theorem ingestStreams : Obligations.IngestStreams :=
  ⟨ingestBind_binds, ingestUnbind_unbinds, keepMap_keeps, keepMap_late, ingestFrameEnd_writes, ingestFrameEnd_nothing, ingestPublish_counts,
    ingestPublish_nothing⟩

end Sys2Proof.Machine
end

section
/-! PROOFS. LAYER as it starts, with and without SKIP_LAYER, and the statement on it (O25; R229 to R231, R239, R246, R252, R267). -/

namespace Sys2Proof.Machine

variable {s s1 : State} {d0 d : Desc} {c : CtxId} {a out g : Tensor} {r b : List Nat} {es : List Expert} {off : Nat}

/-! ### What the start answers (R100, R229, R252) -/

/-- A malformed field in front stays the answer, at its offset or at a lower one that a read found. -/
theorem firstStop_malformed (off : Nat) (l : List (Except Stop Unit)) : ∃ m ≤ off, firstStop (.error (.bad off) :: l) = some (.bad m) :=
  ⟨_, List.foldl_min.trans_le (Nat.min_le_left ..), rfl⟩

/-- The tensors of a LAYER, of as many tokens as it may hold, stop nothing. -/
theorem tokensFit_ok {io : Except Stop (Tensor × Tensor)} (h : io = .ok (a, out)) (ha : a.size 0 ≤ 16384) :
    io.bind (fun x => tokensFit x.1) = .ok () := by
  rw [h]
  exact if_pos (decide_eq_true ha)

theorem State.startsLayer_full (s : State) (c : Nat) : s.startsLayer c false =
    s.begin c (fun d => d.kind == kindLayer && !dbit d.words 7 0) (fun _ => decide (s.layersQueued < 16)) noEst (fun _ => []) := by
  simp only [State.startsLayer, beq_false]

theorem State.startsLayer_skip (s : State) (c : Nat) : s.startsLayer c true =
    s.begin c (fun d => d.kind == kindLayer && dbit d.words 7 0) (fun _ => decide (s.layersQueued < 16)) noEst (fun _ => []) := by
  simp only [State.startsLayer, beq_true]

theorem layerStart_reads (hgo : s.startsLayer c.val false = .go d s1) (hst : layerStatic d.words = .ok ())
    (hio : s1.layerTensors c.val d.words = .ok (a, out)) (ha : a.size 0 ≤ 16384) (hr : s1.layerRecord c.val d.words = .ok r)
    (hg : s1.layerGate c.val d.words = .ok g) (hes : s1.layerEntries c.val d.words = .ok es) (hb : s1.layerBatch c.val d.words = .ok b) :
    layerStart c s = .next ((s1.addJob (s1.gateJob c.val d a out g r b es)).setOut c.val d.idx out.base) := by
  rw [State.startsLayer_full] at hgo
  unfold layerStart
  rw [hgo]
  dsimp only
  rw [hst, tokensFit_ok hio ha, hio, hr, hg, hes, hb]
  rfl

theorem layerStart_malformed (hgo : s.startsLayer c.val false = .go d s1) (hst : layerStatic d.words = .error (.bad off)) :
    ∃ m ≤ off, layerStart c s = .next ((s1.noteOut c.val d).stopDesc c.val d (.bad m)) := by
  rw [State.startsLayer_full] at hgo
  unfold layerStart
  rw [hgo]
  dsimp only
  rw [hst]
  obtain ⟨m, hm, hstop⟩ := firstStop_malformed off _
  refine ⟨m, hm, ?_⟩
  rw [hstop]

/-- The job of a LAYER with SKIP_LAYER, which begins with its Combine stage (R239). -/
def State.skipJob (s : State) (c : Nat) (d : Desc) (a out : Tensor) : Job :=
  { Job.blank c (s.ctx c).gen d.idx a with stage := .combine, stageAt := s.clk, layer := some (layerOf d.words out none [] []) }

/-- A descriptor's LAYER joins the queue of the Combine Unit. -/
def State.joinCombine (s : State) (c idx : Nat) : State := s.setWork { s.work with combineQueue := s.joinQueue (c, idx) s.work.combineQueue }

theorem layerSkipStart_reads (hgo : s.startsLayer c.val true = .go d s1) (hst : layerStatic d.words = .ok ())
    (hio : s1.layerTensors c.val d.words = .ok (a, out)) (ha : a.size 0 ≤ 16384) : layerSkipStart c s =
    .next (((s1.addJob (s1.skipJob c.val d a out)).setOut c.val d.idx out.base).joinCombine c.val d.idx) := by
  rw [State.startsLayer_skip] at hgo
  unfold layerSkipStart
  rw [hgo]
  dsimp only
  rw [hst, tokensFit_ok hio ha, hio]
  rfl

theorem layerSkipStart_malformed (hgo : s.startsLayer c.val true = .go d s1) (hst : layerStatic d.words = .error (.bad off)) :
    ∃ m ≤ off, layerSkipStart c s = .next ((s1.noteOut c.val d).stopDesc c.val d (.bad m)) := by
  rw [State.startsLayer_skip] at hgo
  unfold layerSkipStart
  rw [hgo]
  dsimp only
  rw [hst]
  obtain ⟨m, hm, hstop⟩ := firstStop_malformed off _
  refine ⟨m, hm, ?_⟩
  rw [hstop]

/-! ### What it leaves -/

theorem State.setOut_desc {c idx base : Nat} (h : s.desc c idx = some d) : ∃ d', (s.setOut c idx base).desc c idx = some d' := by
  obtain rfl : d.idx = idx := beq_iff_eq.1 (List.find?_some (p := fun y : Desc => y.idx == idx) h)
  unfold State.setOut
  rw [h]
  exact ⟨_, (State.setDesc_stands (d := { d with outBase := some base }) (List.mem_of_find?_eq_some h) rfl).desc⟩

theorem State.noteOut_desc {c : Nat} (h : s.Stands c d) : ∃ d', (s.noteOut c d).desc c d.idx = some d' := by
  unfold State.noteOut
  split
  · exact State.setOut_desc h.desc
  · exact ⟨d, h.desc⟩

/-- A LAYER that is malformed at its start, outside a bracket, ends with the offset as DETAIL, and no job joins. -/
theorem State.starting_layerMalformed {c m : Nat} {f : State → Result} (hd : s.nextDesc c = some d0) (hb : (s.asked c d0.idx).Began s1 c d)
    (h : f (s.asked c d0.idx) = .next ((s1.noteOut c d).stopDesc c d (.bad m))) (hm : m ≤ off) (hin : s1.inBracket c = false) (hn : s1.lnk.need = none) :
    ∃ u, s.starting c f = .next u ∧ u.work.jobs = s.work.jobs ∧ ∃ o, u.outcome c d.idx = some o ∧ o.1 = 0x10 ∧ o.2.1 ≤ off := by
  have hnote := State.noteOut_moves s1 c d
  have hin' : (s1.noteOut c d).inBracket c = false := by
    unfold State.inBracket at hin ⊢
    rwa [show (s1.noteOut c d).flt = s1.flt from hnote.off .faults rfl]
  have hstop : (s1.noteOut c d).stopDesc c d (.bad m) = (s1.noteOut c d).finish c d 0x10 m := if_neg (ne_true_of_eq_false hin')
  have hfin : Moves 0x1001020 s1 ((s1.noteOut c d).finish c d 0x10 m) := (State.finish_moves ..).then rfl (hnote.mono rfl)
  rw [hstop] at h
  obtain ⟨u, hu, hend⟩ := State.starting_next hd h (by rw [show _ = s1.lnk from hfin.off .links rfl, hn])
  have hwork : u.work = s.work := ((hend.off .work rfl).trans (hfin.off .work rfl)).trans (hb.moves.off .work rfl)
  obtain ⟨d', hdesc⟩ := State.noteOut_desc hb.stands
  exact ⟨u, hu, congrArg WorkUnit.jobs hwork, _, (hend.outcome rfl _ _).trans (State.endDesc_outcome hdesc _ _ _), rfl, hm⟩

/-- A LAYER that joins a queue stands in it, and every one that stood there stays. -/
theorem State.mem_joinQueue (s : State) (k x : Nat × Nat) (q : List (Nat × Nat)) : x ∈ s.joinQueue k q ↔ x = k ∨ x ∈ q := by
  induction q with
  | nil => simp [State.joinQueue]
  | cons y q ih =>
    unfold State.joinQueue
    split
    · exact List.mem_cons
    · rw [List.mem_cons, List.mem_cons, ih]
      exact or_left_comm

theorem State.addJob_mem (s : State) (j : Job) : { j with rivals := s.work.jobs.map Job.key } ∈ (s.addJob j).work.jobs :=
  List.mem_append_right _ (List.mem_singleton_self _)

theorem layer_joins (hd : s.nextDesc c.val = some d0) (hgo : (s.asked c.val d0.idx).startsLayer c.val false = .go d s1)
    (hst : layerStatic d.words = .ok ()) (hio : s1.layerTensors c.val d.words = .ok (a, out)) (ha : a.size 0 ≤ 16384)
    (hr : s1.layerRecord c.val d.words = .ok r) (hg : s1.layerGate c.val d.words = .ok g) (hes : s1.layerEntries c.val d.words = .ok es)
    (hb : s1.layerBatch c.val d.words = .ok b) (hn : s1.lnk.need = none) :
    ∃ u, exec (.layer c) s = .next u ∧ u.mem = s.mem ∧
      { s1.gateJob c.val d a out g r b es with rivals := s1.work.jobs.map Job.key } ∈ u.work.jobs := by
  have hbegan := State.begin_began hgo
  have hm : Moves 0x81000 s1 ((s1.addJob (s1.gateJob c.val d a out g r b es)).setOut c.val d.idx out.base) :=
    (State.setOut_moves ..).then rfl ((State.addJob_moves ..).mono rfl)
  obtain ⟨u, hu, hlast⟩ := State.starting_next hd (layerStart_reads hgo hst hio ha hr hg hes hb) (by rw [show _ = s1.lnk from hm.off .links rfl, hn])
  refine ⟨u, hu, (hlast.off .memory rfl).trans <| (hm.off .memory rfl).trans (hbegan.moves.off .memory rfl), ?_⟩
  have hwork : u.work = (s1.addJob (s1.gateJob c.val d a out g r b es)).work := (hlast.off .work rfl).trans ((State.setOut_moves ..).off .work rfl)
  rw [hwork]
  exact s1.addJob_mem _

theorem layerSkip_joins (hd : s.nextDesc c.val = some d0) (hgo : (s.asked c.val d0.idx).startsLayer c.val true = .go d s1)
    (hst : layerStatic d.words = .ok ()) (hio : s1.layerTensors c.val d.words = .ok (a, out)) (ha : a.size 0 ≤ 16384) (hn : s1.lnk.need = none) :
    ∃ u, exec (.layerSkip c) s = .next u ∧ u.mem = s.mem ∧ (c.val, d.idx) ∈ u.work.combineQueue ∧
      (∀ k ∈ s.work.combineQueue, k ∈ u.work.combineQueue) ∧
      ∃ j ∈ u.work.jobs, j.ctx = c.val ∧ j.idx = d.idx ∧ j.stage = .combine ∧ j.layer = some (layerOf d.words out none [] []) := by
  have hbegan := State.begin_began hgo
  have hset := State.setOut_moves (s1.addJob (s1.skipJob c.val d a out)) c.val d.idx out.base
  have hread := layerSkipStart_reads hgo hst hio ha
  generalize (s1.addJob (s1.skipJob c.val d a out)).setOut c.val d.idx out.base = t at hset hread
  have hm : Moves 0x81000 s1 (t.joinCombine c.val d.idx) :=
    (State.setWork_moves ..).then rfl <| hset.then rfl <| (State.addJob_moves ..).mono rfl
  obtain ⟨u, hu, hlast⟩ := State.starting_next hd hread (by rw [show _ = s1.lnk from hm.off .links rfl, hn])
  have hwork : u.work = (t.joinCombine c.val d.idx).work := hlast.off .work rfl
  have htwork : t.work = (s1.addJob (s1.skipJob c.val d a out)).work := hset.off .work rfl
  have hold : t.work.combineQueue = s.work.combineQueue := by
    have hs1 : s1.work = s.work := hbegan.moves.off .work rfl
    rw [htwork, ← hs1]
    rfl
  refine ⟨u, hu, ?_⟩
  rw [hwork]
  refine ⟨(hlast.off .memory rfl).trans <| (hm.off .memory rfl).trans (hbegan.moves.off .memory rfl),
    (t.mem_joinQueue ..).2 (.inl rfl), fun k hk => (t.mem_joinQueue ..).2 (.inr (hold ▸ hk)), ?_⟩
  have hjob := s1.addJob_mem (s1.skipJob c.val d a out)
  rw [← htwork] at hjob
  exact ⟨_, hjob, rfl, rfl, rfl, rfl⟩

theorem layer_malformed {skip : Bool} {i : Instr} (hrow : skip = false ∧ i = .layer c ∨ skip = true ∧ i = .layerSkip c)
    (hd : s.nextDesc c.val = some d0) (hgo : (s.asked c.val d0.idx).startsLayer c.val skip = .go d s1)
    (hst : layerStatic d.words = .error (.bad off)) (hin : s1.inBracket c.val = false) (hn : s1.lnk.need = none) :
    ∃ u, exec i s = .next u ∧ u.work.jobs = s.work.jobs ∧ ∃ o, u.outcome c.val d.idx = some o ∧ o.1 = 0x10 ∧ o.2.1 ≤ off := by
  have hb := State.begin_began hgo
  rcases hrow with ⟨rfl, rfl⟩ | ⟨rfl, rfl⟩
  · obtain ⟨m, hm, hstop⟩ := layerStart_malformed hgo hst
    exact State.starting_layerMalformed hd hb hstop hm hin hn
  · obtain ⟨m, hm, hstop⟩ := layerSkipStart_malformed hgo hst
    exact State.starting_layerMalformed hd hb hstop hm hin hn

/-- Settles O25: a start that reads all it needs adds the job of its first stage, and a malformed field is the first thing its answer looks for. -/
theorem layerDescriptors : Obligations.LayerDescriptors :=
  ⟨fun _ _ _ _ _ _ _ _ _ _ _ hd hgo hst hio ha hr hg hes hb hn => by
    obtain ⟨u, hu, hmem, hjob⟩ := layer_joins hd hgo hst hio ha hr hg hes hb hn
    exact ⟨u, hu, hmem, hjob, rfl, rfl, rfl⟩,
   fun _ _ _ _ _ _ _ hd hgo hst hio ha hn => layerSkip_joins hd hgo hst hio ha hn,
   fun _ _ _ _ _ _ _ _ hrow hd hgo hst hin hn => layer_malformed hrow hd hgo hst hin hn⟩

end Sys2Proof.Machine
end

section
/-! PROOFS. The Routing Engine beside other work: of the registers of its block and of its queue and its self-test, what messages, completions, fences, the end
of a context's work and rounds of the scheduler leave (R126, R138, R144). -/

namespace Sys2Proof.Machine

variable {α : Type} {f : WorkUnit → α} {x : Nat} {o s t : State}

/-- A register of the Routing Engine or of the Bias Table, the LOAD counters apart (Table 8.12). -/
abbrev RteReg (x : Nat) : Prop := 0x30000 ≤ x ∧ x < 0x38000

/-- Register `x` reads the same before and after, and so does `f` of the work. -/
structure RteKept (x : Nat) (f : WorkUnit → α) (s t : State) : Prop where
  reg : t.reg x = s.reg x
  work : f t.work = f s.work

theorem RteKept.refl (x : Nat) (f : WorkUnit → α) (s : State) : RteKept x f s s := ⟨rfl, rfl⟩

theorem RteKept.then (h' : RteKept x f s t) (h : RteKept x f o s) : RteKept x f o t := ⟨h'.reg.trans h.reg, h'.work.trans h.work⟩

theorem RteKept.ite {c : Prop} [Decidable c] {a b : State} (ha : RteKept x f o a) (hb : RteKept x f o b) : RteKept x f o (if c then a else b) := by
  split <;> assumption

theorem RteKept.foldl {β : Type} {g : State → β → State} (l : List β) (h : RteKept x f o s) (hg : ∀ u a, RteKept x f u (g u a)) :
    RteKept x f o (l.foldl g s) := by
  induction l generalizing s with
  | nil => exact h
  | cons a l ih => exact ih ((hg s a).then h)

/-- An operation that leaves the work, and the register. -/
theorem Moves.rteReg {m : Nat} (h : Moves m s t) (hw : m.testBit 19 = false) (e : t.reg x = s.reg x) : RteKept x f s t :=
  ⟨e, congrArg f (h.off .work hw : t.work = s.work)⟩

/-- What leaves the work and every register leaves these. -/
theorem Moves.rte {m : Nat} (h : Moves m s t) (hr : m.testBit 5 = false) (hw : m.testBit 19 = false) : RteKept x f s t := h.rteReg hw (h.reg hr x)

theorem State.setReg_rte (s : State) {off : Nat} (w : Word) (h : x ≠ off) : RteKept x f s (s.setReg off w) := ⟨reg_setReg_other s w h, rfl⟩

theorem State.bump_rte (s : State) {off : Nat} (w n : Nat) (h : x ≠ off) : RteKept x f s (s.bump off w n) := s.setReg_rte _ h

theorem State.setReg64_rte (s : State) {off : Nat} (v : Nat) (h : x ≠ off ∧ x ≠ off + 4) : RteKept x f s (s.setReg64 off v) :=
  (State.setReg_rte _ _ h.2).then (State.setReg_rte _ _ h.1)

theorem State.pwr_rte (s : State) (p : PwrUnit) : RteKept x f s { s with pwr := p } := ⟨rfl, rfl⟩

theorem State.takeFree_rte (s : State) : RteKept x f s s.takeFree.2 := ⟨rfl, rfl⟩

section

variable (hx : RteReg x)
include hx

/-- LOAD counters lie above (R235). -/
theorem State.countLoad_rte (s : State) (k : Nat) (toks : List (Option Choice)) : RteKept x f s (s.countLoad k toks) := by
  refine .foldl _ (.refl x f s) fun u y => ?_
  split
  · exact .foldl _ (.refl x f u) fun v e => v.bump_rte _ _ (by omega)
  · exact .refl x f u

/-! ### Flags, records and completions -/

theorem State.flag_rte (s : State) {off : Nat} (bit source ctx detail : Nat) (h : x ≠ off) : RteKept x f s (s.flag off bit source ctx detail) :=
  (State.flag_moves ..).rteReg rfl (reg_flag _ _ _ _ _ _ h (by omega) (by omega))

theorem State.flagOpen_rte (s : State) {off : Nat} (bit source ctx : Nat) (h : x ≠ off) : RteKept x f s (s.flagOpen off bit source ctx) :=
  (State.flagOpen_moves ..).rteReg rfl (reg_flagOpen _ _ _ _ _ h (by omega) (by omega))

theorem State.event_rte (s : State) (source code ctx detail : Nat) : RteKept x f s (s.event source code ctx detail) :=
  (State.event_moves ..).rteReg rfl (reg_event _ _ _ _ _ (by omega))

theorem State.record_rte (s : State) (k source code ctx unit detail : Nat) : RteKept x f s (s.record k source code ctx unit detail) := by
  have hput : RteKept x f s (s.putRecord k source code ctx unit detail) := by
    unfold State.putRecord
    extract_lets r keep
    split
    · exact (State.bump_rte _ _ _ (by omega)).then <| (State.flagOpen_rte hx _ _ _ _ (by omega)).then ⟨rfl, rfl⟩
    · exact .ite ((State.bump_rte _ _ _ (by omega)).then ⟨rfl, rfl⟩) ⟨rfl, rfl⟩
  unfold State.record
  exact .ite ((State.bump_rte _ _ _ (by omega)).then hput) hput

theorem State.writeCpl_rte (s : State) (c : Nat) : RteKept x f s (s.writeCpl c) := by
  have hdrained (u : State) : RteKept x f u (u.drained c) := (State.drained_moves ..).rte rfl rfl
  unfold State.writeCpl
  split
  · exact .refl x f s
  · refine .ite ?_ (.refl x f s)
    extract_lets r i a n cnt sig first u
    have hu : RteKept x f s u := ((State.toHost_moves ..).rte rfl rfl).then ((State.setRing_moves ..).rte rfl rfl)
    have hsignal : RteKept x f u (u.signalRing c) :=
      ((State.signalVector_moves ..).rteReg rfl (reg_signalVector _ _ (by omega))).then ((State.setRing_moves ..).rte rfl rfl)
    exact (hdrained _).then (.ite (hsignal.then hu) hu)

theorem State.writeCpls_rte (c n : Nat) (s : State) : RteKept x f s (s.writeCpls c n) := by
  induction n generalizing s with
  | zero => exact .refl x f s
  | succ n ih => exact (ih _).then (s.writeCpl_rte hx c)

theorem State.complete_rte (s : State) (c : Nat) (d : Desc) (code detail epoch : Nat) : RteKept x f s (s.complete c d code detail epoch) := by
  have hb (r : Ring) : RteKept x f s ((s.bindLive c d.idx).setRing c r) :=
    ((State.setRing_moves ..).rte rfl rfl).then ((State.bindLive_moves ..).rte rfl rfl)
  unfold State.complete
  exact .ite (((State.drained_moves ..).rte rfl rfl).then (hb _)) ((State.writeCpls_rte hx ..).then (hb _))

theorem State.completeRest_rte (s : State) (c code detail : Nat) : RteKept x f s (s.completeRest c code detail) := by
  refine .foldl _ (.refl x f s) fun u d => ?_
  split
  · exact u.complete_rte hx ..
  · exact u.complete_rte hx ..
  · exact .ite (u.complete_rte hx ..) (u.complete_rte hx ..)
  · exact .refl x f u

/-! ### Messages, and writes that leave for another package -/

theorem State.lnkCount_rte (s : State) (p k n : Nat) : RteKept x f s (s.lnkCount p k n) := s.bump_rte _ _ (by omega)

theorem State.giveCredit_rte (s : State) (p cls : Nat) (dl : Bool) : RteKept x f s (s.giveCredit p cls dl) := by
  unfold State.giveCredit State.sendIdle
  exact .ite (.ite ((State.lnkCount_rte hx ..).then <| (State.send_moves ..).rte rfl rfl) (.refl x f _)) ((State.setPort_moves ..).rte rfl rfl)

theorem State.sendFlit_rte (s : State) (p : Nat) (q : TxFlit) : RteKept x f s (s.sendFlit p q) := by
  unfold State.sendFlit
  extract_lets a b k un c u
  have hu : RteKept x f s u := (State.lnkCount_rte hx ..).then <| ((State.send_moves ..).rte rfl rfl).then <| (State.setPort_moves ..).rte rfl rfl
  exact .ite ((State.giveCredit_rte hx ..).then hu) hu

theorem State.pump_rte (p n : Nat) (s : State) : RteKept x f s (s.pump p n) := by
  induction n generalizing s with
  | zero => exact .refl x f s
  | succ n ih =>
    unfold State.pump
    split
    · exact (ih _).then (State.sendFlit_rte hx ..)
    · exact .refl x f s

theorem State.enqueue_rte (s : State) (p : Nat) (fs : List TxFlit) : RteKept x f s (s.enqueue p fs) :=
  (State.pump_rte hx ..).then <| (State.setPort_moves ..).rte rfl rfl

theorem State.sendMsg_rte (s : State) (m : Msg) : RteKept x f s (s.sendMsg m) := by
  have hopen (u : State) (y : Msg) : RteKept x f u (u.openMsg y) := (State.openMsg_moves ..).rte rfl rfl
  unfold State.sendMsg
  refine .ite ((State.setLnk_moves ..).rte rfl rfl) (.ite ?_ ?_)
  · extract_lets m' e u
    split
    · exact ((State.holdMsg_moves ..).rte rfl rfl).then <|
        .ite ((State.flag_rte hx _ _ _ _ _ (by omega)).then (State.lnkCount_rte hx ..)) (.refl x f s)
    · exact .ite (((State.send_moves ..).rte rfl rfl).then (hopen ..)) ((State.enqueue_rte hx ..).then (hopen ..))
  · exact .ite ((State.enqueue_rte hx ..).then (hopen ..)) (.refl x f s)

theorem State.remoteWrite_rte (s : State) (c va : Nat) (bs : List Byte) : RteKept x f s (s.remoteWrite c va bs) := by
  unfold State.remoteWrite
  refine .foldl _ (.refl x f s) fun u a => ?_
  split
  · unfold State.issueReq
    split
    · exact (State.sendMsg_rte hx ..).then ((State.setTag_moves ..).rte rfl rfl)
    · exact (State.setLnk_moves ..).rte rfl rfl
  · exact .refl x f u

theorem State.writePieces_rte (die c : Nat) (ing : Bool) (ps : List (Nat × Nat)) (bs : List Byte) (s : State) :
    RteKept x f s (s.writePieces die c ing ps bs) := by
  induction ps generalizing s bs with
  | nil => exact .refl x f s
  | cons p ps ih => exact (ih _ _).then (.ite (State.remoteWrite_rte hx ..) ((State.dieWrite_moves ..).rte rfl rfl))

theorem State.vwrite_rte (s : State) (cache c va : Nat) (bs : List Byte) (acc : Acc) (ing : Bool) :
    RteKept x f s (s.vwrite cache c va bs acc ing).1 := by
  unfold State.vwrite
  split
  · exact State.writePieces_rte hx ..
  · exact (State.writePieces_rte hx ..).then s.takeFree_rte

/-! ### Leases, and the bracket that rolls back (R449, R460) -/

theorem State.endDesc_rte (s : State) (c i code detail epoch : Nat) : RteKept x f s (s.endDesc c i code detail epoch) :=
  (State.endDesc_moves ..).rteReg rfl (reg_endDesc _ _ _ _ _ _ (by omega))

theorem State.fence_rte (s : State) (res ctx : Nat) : RteKept x f s (s.fence res ctx) := by
  have hgrant (u : State) : RteKept x f u (u.grantNext res) := by
    unfold State.grantNext
    split
    · exact .refl x f u
    · exact (State.endDesc_rte hx ..).then ⟨rfl, rfl⟩
  exact (hgrant _).then <| (State.record_rte hx ..).then ⟨rfl, rfl⟩

theorem State.rollback_rte (s : State) (det : Nat) : RteKept x f s (s.rollback det) := by
  unfold State.rollback
  split
  · exact .refl x f s
  · exact (State.flagOpen_rte hx _ _ _ _ (by omega)).then <| (State.bump_rte _ _ _ (by omega)).then <| (State.record_rte hx ..).then <|
      (State.fence_rte hx ..).then ⟨rfl, rfl⟩

theorem State.leaveGroup_rte (s : State) (g : Nat) (told : Bool) : RteKept x f s (s.leaveGroup g told fun s _ _ => s) := by
  have hwork (u : State) : RteKept x f u (u.endGroupWork g fun s _ _ => s) :=
    (State.endGroupWork_moves (m := 0x800000) rfl (.refl _ u) fun _ _ _ h => h).rte rfl rfl
  have hsuspect : RteKept x f s (s.suspect g s.position) := by
    unfold State.suspect
    split
    · exact State.sendMsg_rte hx ..
    · exact .refl x f s
  exact ((State.setGroup_moves ..).rte rfl rfl).then <| (hwork _).then <| .ite hsuspect (.refl x f s)

theorem State.rollbackFor_rte (s : State) (det : Nat) : RteKept x f s (s.rollbackFor det) := by
  have hundo (b : Bracket) : RteKept x f s (s.undoForms b) := .foldl _ (.refl x f s) fun u y => .ite (u.leaveGroup_rte hx _ _) (.refl x f u)
  have hreport (u : State) (b : Bracket) : RteKept x f u (u.rollbackReport b det) := by
    unfold State.rollbackReport
    split
    · exact State.endDesc_rte hx ..
    · exact (State.setRing_moves ..).rte rfl rfl
  unfold State.rollbackFor
  split
  · exact (hreport _ _).then <| (State.rollback_rte hx ..).then (hundo _)
  · exact .refl x f s

/-! ### The end of a context's work but for its jobs (R138) -/

theorem State.dropIngest_rte (s : State) (c : Nat) : RteKept x f s (s.dropIngest c) := by
  have hflag (u : State) (bit : Nat) : RteKept x f u (u.ingFlag bit noCtx) :=
    (State.ingFlag_moves ..).rteReg rfl (reg_flagQuiet _ _ _ _ _ (by omega) (by omega))
  have hcount (u : State) (n : Nat) : RteKept x f u (u.ingCount 11 n) := u.bump_rte _ _ (by omega)
  have hframe : RteKept x f s s.abandonFrame := by
    unfold State.abandonFrame
    split
    · exact .refl x f s
    · exact (hflag ..).then <| (hcount ..).then ((State.setIng_moves ..).rte rfl rfl)
  unfold State.dropIngest
  extract_lets mine u n v w
  have hu : RteKept x f s u := by
    unfold u
    split
    · exact .ite hframe (.refl x f s)
    · exact .refl x f s
  have hv : RteKept x f s v := .ite hu ((hflag ..).then <| (hcount ..).then hu)
  exact .foldl _ (((State.setIng_moves ..).rte rfl rfl).then hv) fun y k => .ite ((State.setBound_moves ..).rte rfl rfl) (.refl x f y)

theorem State.dropSend_rte (s : State) (c idx : Nat) : RteKept x f s (s.dropSend c idx) := by
  unfold State.dropSend State.unpark
  extract_lets _ u v
  have hu : RteKept x f s u := by
    unfold u
    split
    · exact (State.setCmb_moves ..).rte rfl rfl
    · exact .refl x f s
  exact .foldl _ (((State.setLnk_moves ..).rte rfl rfl).then <| ((State.setLnk_moves ..).rte rfl rfl).then <| ((State.setCmb_moves ..).rte rfl rfl).then hu)
    fun y m => y.sendMsg_rte hx m

theorem State.dropCombine_rte (s : State) (c : Nat) : RteKept x f s (s.dropCombine c) := by
  have hslots {β : Type} (l : List β) (k : β → Nat) (u : State) : RteKept x f u (l.foldl (fun s y => s.moveSlot (k y)) u) :=
    .foldl _ (.refl x f u) fun _ _ => (State.moveSlot_moves ..).rte rfl rfl
  have hrecv (u : State) (r : RecvWin) : RteKept x f u (u.dropRecv r) := by
    unfold State.dropRecv
    extract_lets _ a b
    have hb : RteKept x f u b := (hslots ..).then ((State.setCmb_moves ..).rte rfl rfl)
    exact .ite ((State.fence_rte hx ..).then hb) hb
  unfold State.dropCombine
  extract_lets u v
  have hu : RteKept x f s u := by
    unfold u
    split
    · next r _ =>
      have hr (k : CombineUnit) : RteKept x f s ((r.slots.foldl (fun s x => s.moveSlot x.slot) s).setCmb k) :=
        ((State.setCmb_moves ..).rte rfl rfl).then (hslots ..)
      exact .ite (.ite (hr _) ((State.record_rte hx ..).then (hr _))) (.refl x f s)
    · exact .refl x f s
  exact .foldl _ (.foldl _ hu fun y w => y.dropSend_rte hx w.ctx w.idx) hrecv

theorem State.dropCollect_rte (s : State) (c : Nat) : RteKept x f s (s.dropCollect c) := by
  refine .foldl _ (.refl x f s) fun u g => .ite ?_ (.refl x f u)
  have h := u.leaveGroup_rte (f := f) hx g false
  exact .ite ((State.record_rte hx ..).then <| ((State.setEpoch_moves ..).rte rfl rfl).then h) h

theorem State.fenceContext_rte (s : State) (c : Nat) : RteKept x f s (s.fenceContext c) := by
  have h : RteKept x f s (s.withdrawTakes c) := (State.withdrawTakes_moves ..).rte rfl rfl
  exact .foldl _ (.ite ((State.rollback_rte hx ..).then h) h) fun u r => .ite (u.fence_rte hx r c) (.refl x f u)

/-! ### A fault of a context up to its teardown, but for its jobs (R126) -/

theorem State.failPiped_rte (s : State) (c idx code detail : Nat) : RteKept x f s (s.failPiped c idx code detail) := by
  refine .foldl _ (.refl x f s) fun u w => ?_
  split
  · exact (State.complete_rte hx ..).then (State.dropSend_rte hx ..)
  · exact .refl x f u

theorem State.faultAnswered_rte (s : State) (c code detail : Nat) (idx : Option Nat) (entry : Bool) :
    RteKept x f s (s.faultAnswered c code detail idx entry) := by
  unfold State.faultAnswered
  split
  · next d _ =>
    have h : RteKept x f s ((s.complete c d code detail 0).failPiped c d.idx code detail) := (State.failPiped_rte hx ..).then (State.complete_rte hx ..)
    dsimp only
    split
    · exact (State.complete_rte hx ..).then h
    · exact h
  · exact .ite ((State.writeCpls_rte hx ..).then ((State.setRing_moves ..).rte rfl rfl)) (.refl x f s)

theorem State.faultReported_rte (s : State) (c code detail unit : Nat) : RteKept x f s (s.faultReported c code detail unit) :=
  (State.event_rte hx ..).then <| (State.bump_rte _ _ _ (by omega)).then <| (State.record_rte hx ..).then ((State.setRing_moves ..).rte rfl rfl)

/-! ### The Ledger (R423) -/

theorem State.unreserve_rte (s : State) (p : Reservation → Bool) : RteKept x f s (s.unreserve p) := by
  unfold State.unreserve
  exact .ite ((State.setReg_rte _ _ (by omega)).then (s.pwr_rte _)) (.refl x f s)

theorem State.reserve_rte (s : State) (r : Reservation) : RteKept x f s (s.reserve r) := (State.setReg_rte _ _ (by omega)).then (s.pwr_rte _)

theorem State.settle_rte (s : State) (kind a b n : Nat) : RteKept x f s (s.settle kind a b n) := by
  have hcharge (u : State) : RteKept x f u (u.charge n) := by
    have hu := u.pwr_rte (x := x) (f := f) { u.pwr with ledger := { u.pwr.ledger with charged := u.pwr.ledger.charged + n } }
    unfold State.charge
    exact .ite ((State.setReg_rte _ _ (by omega)).then hu) ((State.setReg_rte _ _ (by omega)).then <| (State.setReg_rte _ _ (by omega)).then hu)
  exact (hcharge _).then (s.unreserve_rte hx _)

end

/-! ### Rounds of the scheduler: RTE_EVT, the Routing Engine's queue and its self-test stay (R144) -/

/-- What the Routing Engine goes by besides its jobs: its queue, and whether it tests itself. -/
def WorkUnit.routing (w : WorkUnit) : List (Nat × Nat) × Bool := (w.routeQueue, w.routeTest)

/-- RTE_EVT, the queue and the self-test are the same before and after. -/
abbrev EngineKept (s t : State) : Prop := RteKept 0x30008 WorkUnit.routing s t

theorem rteEvt_reg : RteReg 0x30008 := by decide

theorem State.setWork_engine {w : WorkUnit} (h : w.routing = s.work.routing) : EngineKept s (s.setWork w) := ⟨rfl, h⟩

theorem State.setOccupant_engine (s : State) (p : Nat) (y : Option Occupant) : EngineKept s (s.setOccupant p y) := State.setWork_engine rfl

theorem State.due_engine (s : State) (p : Nat) : EngineKept s (s.due p) := State.setWork_engine rfl

theorem State.setJob_engine (s : State) (j : Job) : EngineKept s (s.setJob j) := State.setWork_engine rfl

theorem State.setVt_engine (s : State) (c v : Nat) : EngineKept s (s.setVt c v) := s.setReg64_rte v (by omega)

theorem State.rebase_engine (s : State) : EngineKept s s.rebase := by
  unfold State.rebase
  extract_lets open_ m
  exact .ite (.refl _ _ s) ((State.setReg_rte _ _ (by decide)).then <| .foldl _ (.refl _ _ s) fun u c => u.setVt_engine ..)

theorem State.countOccupancy_engine (s : State) (c ns : Nat) : EngineKept s (s.countOccupancy c ns) := by
  unfold State.countOccupancy
  extract_lets u
  have hu : EngineKept s u := s.setReg64_rte _ (by omega)
  exact .ite ((State.rebase_engine _).then <| (State.setVt_engine ..).then hu) hu

theorem State.fillStore_engine (s : State) (k : Nat) : EngineKept s (s.fillStore k) :=
  .foldl _ (.refl _ _ s) fun u _ => .ite (.refl _ _ u) (u.setJob_engine _)

theorem State.markReady_engine (s : State) : EngineKept s s.markReady := by
  unfold State.markReady
  extract_lets busy isNew fresh low jobs news w u open_ v
  have hu : EngineKept s u := State.setWork_engine rfl
  have hv : EngineKept s v := .foldl _ hu State.due_engine
  exact .ite hv (.foldl _ hv fun y c => y.setVt_engine ..)

theorem State.issue_engine (s : State) (c idx gi : Nat) (g : Group) (p : Nat) : EngineKept s (s.issue c idx gi g p) := by
  unfold State.issue
  split
  · exact .refl _ _ s
  · next j hj =>
    extract_lets sat e g' waited s1 s2 s3 s4 s5
    have h2 : EngineKept s s2 := ((State.sendCmd_moves ..).rte rfl rfl).then (s.setJob_engine _)
    have h3 : EngineKept s s3 := (State.reserve_rte rteEvt_reg ..).then <| (State.setOccupant_engine ..).then h2
    have h4 : EngineKept s s4 := (State.setReg64_rte _ _ (by omega)).then h3
    have h5 : EngineKept s s5 := by
      unfold s5
      split
      · exact .ite h4 ((State.bump_rte _ _ _ (by omega)).then h4)
      · exact h4
    exact (State.fillStore_engine ..).then h5

theorem State.noteDeferral_engine (s : State) (c idx gi : Nat) (g : Group) : EngineKept s (s.noteDeferral c idx gi g) := by
  unfold State.noteDeferral
  refine .ite (.refl _ _ s) ?_
  split
  · exact (State.bump_rte _ _ _ (by decide)).then <| (State.bump_rte _ _ _ (by omega)).then (s.setJob_engine _)
  · exact .refl _ _ s

theorem State.cutBallast_engine (s : State) (p : Nat) : EngineKept s (s.cutBallast p) := by
  have hnote (u : State) (n : Nat) : EngineKept u (u.noteBallast n) := (State.bump_rte _ _ _ (by decide)).then (u.pwr_rte _)
  exact (hnote ..).then <| (State.settle_rte rteEvt_reg ..).then <| (State.due_engine ..).then <| (State.pwr_rte _ _).then s.takeFree_rte

theorem State.tryBallast_engine (s : State) (p : Nat) : EngineKept s (s.tryBallast p) :=
  .ite ((State.reserve_rte rteEvt_reg ..).then (s.pwr_rte _)) (.refl _ _ s)

theorem State.decideFor_engine (s : State) (left : Option Nat) (p : Nat) : EngineKept s (s.decideFor left p) := by
  unfold State.decideFor
  extract_lets ready fits u shared
  refine .ite (.refl _ _ s) ?_
  have hu : EngineKept s u := .foldl _ (.refl _ _ s) fun y z => y.noteDeferral_engine ..
  split
  · exact (State.tryBallast_engine ..).then <| .ite hu ((State.setReg_rte _ _ (by decide)).then hu)
  · refine (State.issue_engine ..).then ?_
    split
    · exact .ite ((State.bump_rte _ _ _ (by omega)).then hu) hu
    · exact hu

theorem State.trimBallast_engine (s : State) : EngineKept s s.trimBallast :=
  .foldl _ (.refl _ _ s) fun u e => .ite (u.cutBallast_engine e.1) (.refl _ _ u)

theorem State.schedule_engine (s : State) (left : Option (Nat × Nat)) : EngineKept s (s.schedule left) := by
  unfold State.schedule
  extract_lets u due w v
  have hu : EngineKept s u := (State.markReady_engine _).then <| (State.trimBallast_engine _).then s.rebase_engine
  have hv : EngineKept s v := (State.setWork_engine (w := { u.work with fell := [] }) rfl).then hu
  exact ((State.noteIdle_moves _).rte rfl rfl).then <| .foldl _ hv fun y p => y.decideFor_engine _ p

/-! ### The end of a context's jobs, and its faults: RTE_EVT and the self-test stay (R126, R138) -/

/-- RTE_EVT and the self-test are the same before and after. -/
abbrev TestKept (s t : State) : Prop := RteKept 0x30008 WorkUnit.routeTest s t

theorem State.setWork_selfTest {w : WorkUnit} (h : w.routeTest = s.work.routeTest) : TestKept s (s.setWork w) := ⟨rfl, h⟩

theorem EngineKept.selfTest (h : EngineKept s t) : TestKept s t := ⟨h.reg, congrArg Prod.snd h.work⟩

theorem State.partLoad_selfTest (s : State) (j : Job) (l : Layer) : TestKept s (s.partLoad j l) := by
  have hu : TestKept s s.takeFree.2 := s.takeFree_rte
  unfold State.partLoad
  split
  next k u he =>
  rw [he] at hu
  split
  · exact (State.countLoad_rte rteEvt_reg ..).then hu
  · exact hu

theorem State.leaveRoute_selfTest (s : State) : TestKept s s.leaveRoute := by
  unfold State.leaveRoute
  split
  · exact State.partLoad_selfTest ..
  · exact .refl _ _ s

theorem State.outWrite_selfTest (s : State) (cache c idx va : Nat) (bs : List Byte) : TestKept s (s.outWrite cache c idx va bs).1 := by
  unfold State.outWrite
  extract_lets ps mine l
  have hmix : TestKept s (if l.isEmpty then (bs, s) else s.mixBytes l ps bs).2 := by
    split
    · exact .refl _ _ s
    · exact (State.mixBytes_moves ..).snd.rte rfl rfl
  generalize (if l.isEmpty then (bs, s) else s.mixBytes l ps bs) = p at hmix ⊢
  refine (State.vwrite_rte rteEvt_reg ..).then <| .ite hmix (.then ?_ hmix)
  exact State.setWork_selfTest rfl

theorem State.writeSome_selfTest (cache c idx fo : Nat) (rows : List (Nat × List Narrow)) (s : State) : TestKept s (s.writeSome cache c idx fo rows) := by
  induction rows generalizing s with
  | nil => exact .refl _ _ s
  | cons r rows ih => exact (ih _).then <| (State.outWrite_selfTest ..).then s.takeFree_rte

theorem State.partialOutput_selfTest (s : State) (j : Job) (g : Group) (p : Nat) : TestKept s (s.partialOutput j g p) := by
  unfold State.partialOutput
  extract_lets b
  split
  · split
    · exact .refl _ _ s
    · exact (State.writeSome_selfTest ..).then ⟨rfl, rfl⟩
  · split
    · exact .refl _ _ s
    · split
      · exact .refl _ _ s
      · exact State.writeSome_selfTest ..

theorem State.abandonGroup_selfTest (s : State) (p : Nat) (j : Job) (g : Group) : TestKept s (s.abandonGroup p j g) := by
  have hpart : TestKept s (if g.at_ = .running p then s.partialOutput j g p else s) := .ite (s.partialOutput_selfTest j g p) (.refl _ _ s)
  exact ((State.addEnergy_moves ..).rte rfl rfl).then <| (State.countOccupancy_engine ..).selfTest.then <|
    (State.settle_rte rteEvt_reg ..).then <| (State.setOccupant_engine ..).selfTest.then <| (State.takeFree_rte _).then hpart

theorem State.dropJobs_selfTest (s : State) (c : Nat) : TestKept s (s.dropJobs c) := by
  unfold State.dropJobs State.endJobs
  extract_lets u v
  have hu : TestKept s u := .foldl _ (.refl _ _ s) fun y p => by
    split
    · refine .ite ?_ (.refl _ _ y)
      split
      · exact State.abandonGroup_selfTest ..
      · exact (State.setOccupant_engine ..).selfTest
    · exact .refl _ _ y
  have hv : TestKept s v := .ite ((State.leaveRoute_selfTest u).then hu) hu
  clear_value v
  refine .then ?_ hv
  exact State.setWork_selfTest rfl

theorem State.teardown_selfTest (s : State) (c cause : Nat) : TestKept s (s.teardown c cause) :=
  (State.fenceContext_rte rteEvt_reg ..).then <| ((State.discardCached_moves ..).rte rfl rfl).then <| (State.unreserve_rte rteEvt_reg ..).then <|
    ((State.dropLink_moves ..).rte rfl rfl).then <| (State.dropCollect_rte rteEvt_reg ..).then <| (State.dropCombine_rte rteEvt_reg ..).then <|
      (State.dropIngest_rte rteEvt_reg ..).then <| (State.dropJobs_selfTest ..).then ((State.setCtx_moves ..).rte rfl rfl)

theorem State.contextFault_selfTest (s : State) (c code detail : Nat) (idx : Option Nat) (entry : Bool) (unit : Nat) :
    TestKept s (s.contextFault c code detail idx entry unit) := by
  by_cases h : (s.ctx c).state = .open_
  · rw [State.contextFault_open h]
    exact (State.teardown_selfTest ..).then <| (State.faultReported_rte rteEvt_reg ..).then <| (State.completeRest_rte rteEvt_reg ..).then <|
      (State.faultAnswered_rte rteEvt_reg ..).then (s.dropJobs_selfTest c)
  · rw [State.contextFault_closed h]
    exact (State.bump_rte _ _ _ (by decide)).then (State.record_rte rteEvt_reg ..)

end Sys2Proof.Machine
end

section
/-! PROOFS. A batch in Route: the rows of its stage, and parity errors and self-tests of the Routing Engine (O33; R231, R235 to R238, R255). -/

namespace Sys2Proof.Machine

variable {s s2 t q : State} {j x : Job} {l : Layer} {toks : List (Option Choice)} {ids : List Nat}

/-! ### The batch at the front of the queue -/

theorem State.job_of_jobs (e : t.work.jobs = s.work.jobs) (c i : Nat) : t.job c i = s.job c i := by
  unfold State.job
  rw [e]

theorem State.inRoute_job (h : s.inRoute = some (j, l)) : s.job j.ctx j.idx = some j := by
  unfold State.inRoute at h
  split at h
  · cases h
  · next c i _ _ =>
    obtain ⟨y, hy, hl⟩ := Option.bind_eq_some_iff.1 h
    obtain ⟨_, -, he⟩ := Option.map_eq_some_iff.1 hl
    obtain ⟨rfl, -⟩ := Prod.mk.inj he
    obtain ⟨rfl, rfl⟩ : y.ctx = c ∧ y.idx = i := Prod.mk.inj (State.job_key hy).2
    exact hy

/-- A job written over the one of its descriptor is the plan of that descriptor's. -/
theorem State.setJob_planned {y : Job} (h : s.job j.ctx j.idx = some y) : (s.setJob j).Planned j.ctx j.idx j.plan :=
  ⟨State.setJob_any j ⟨y, State.job_key h⟩, fun z hz hk => by
    rcases State.mem_setJob hz with rfl | ⟨-, hne⟩
    · rfl
    · exact absurd hk hne⟩

/-! ### ROUTE_STAGE (R231, R235 to R238) -/

/-- RTE_CNT_0 to RTE_CNT_5 count a batch that was routed (Table 8.13). -/
def State.routeCounted (s : State) (r : Routed) : State :=
  let live := r.toks.filterMap id
  (((((s.rteCount 0 1).rteCount 1 live.length).rteCount 2 r.sorted.length).rteCount 3 (r.drops.foldl (· + ·) 0)).rteCount 4
    (r.toks.length - live.length)).rteCount 5 (live.filter (fun ch => ch.nan)).length

/-- The batch has left Route as job `j`, and its table has gone to the control core. -/
def State.routed (s : State) (r : Routed) (j : Job) : State := (((s.routeCounted r).unqueueRoute j).setJob j).stageEnd j

theorem State.routeBatch_routes (hset : (l.biasEn && s.setPoisoned l.set) = false) (ht : s.routeTokens j l = .ok (toks, ids))
    (hq : q = s.counted l toks) (hx : x = q.expertsJob j l (applyCapacity l toks))
    (hw : q.vwrites x.ctx (q.routeWrites x (x.layer.getD l) (applyCapacity l toks) ids) = (s2, none)) :
    s.routeBatch j l = (s2.routed (applyCapacity l toks) x).schedule none := by
  subst hx hq
  unfold State.counted at hw ⊢
  unfold State.routeBatch
  rw [if_neg (by simpa using hset), ht]
  dsimp only
  rw [hw]
  rfl

theorem routeStage_routes (hin : s.inRoute = some (j, l)) (htest : s.work.routeTest = false) (hnight : s.pwr.state ≠ .night)
    (hmid : s.pwr.state ≠ .midnight) (hfault : s.flt.pkgFault = false) (hadm : s.admits 32 = true) (hheld : s.tableHeld j.ctx = false) :
    routeStage s = .next (s.routeBatch j l) := by
  unfold routeStage
  rw [if_neg (by simp [htest, hnight, hmid, hfault]), hin]
  dsimp only
  rw [if_neg (by simp [hadm]), if_neg (by simp [hheld])]

theorem routeStage_testing (htest : s.work.routeTest = true) : routeStage s = .next s := if_pos (.inl htest)

/-- The end of the Experts stage of a LAYER moves its job on to Combine, where every row and group of it has ended. -/
theorem State.stageEnd_experts (hs : j.stage = .experts) (hl : j.layer = some l) : s.stageEnd j = if j.stageDone then
    (s.setJob { j with stage := .combine, stageAt := s.clk }).joinCombine j.ctx j.idx else s := by
  unfold State.stageEnd
  rw [hs, hl]
  cases j.stageDone <;> rfl

/-- What a routed batch leaves of the work: its job with the sorted list, and a queue without it. -/
structure State.LeftRoute (s : State) (j : Job) : Prop where
  job : ∃ x, s.job j.ctx j.idx = some x ∧ x.tokens = j.tokens ∧ x.assign = j.assign
  queue : (j.ctx, j.idx) ∉ s.work.routeQueue

theorem State.LeftRoute.of_planned (hp : s.Planned j.ctx j.idx x.plan) (ht : x.tokens = j.tokens) (ha : x.assign = j.assign)
    (hq : (j.ctx, j.idx) ∉ s.work.routeQueue) : s.LeftRoute j := by
  obtain ⟨y, hy, he⟩ := hp.job
  have hrest := congrArg Prod.fst he
  exact ⟨⟨y, hy, (congrArg Job.tokens hrest).trans ht, (congrArg Job.assign hrest).trans ha⟩, hq⟩

/-- A round of the scheduler leaves it so. -/
theorem State.LeftRoute.schedule (hp : s.Planned j.ctx j.idx x.plan) (ht : x.tokens = j.tokens) (ha : x.assign = j.assign)
    (hq : (j.ctx, j.idx) ∉ s.work.routeQueue) : (s.schedule none).LeftRoute j := by
  have hqueue : (s.schedule none).work.routeQueue = s.work.routeQueue := congrArg Prod.fst (s.schedule_engine none).work
  exact .of_planned ((s.schedule_plansKept none).keeps _ _ _ hp) ht ha (hqueue ▸ hq)

theorem State.routeCounted_moves (s : State) (r : Routed) : Moves 0x20 s (s.routeCounted r) :=
  (State.rteCount_moves ..).then rfl <| (State.rteCount_moves ..).then rfl <| (State.rteCount_moves ..).then rfl <|
    (State.rteCount_moves ..).then rfl <| (State.rteCount_moves ..).then rfl (State.rteCount_moves ..)

theorem State.routed_moves (s : State) (r : Routed) (j : Job) : Moves 0x1081020 s (s.routed r j) :=
  (State.stageEnd_moves ..).then rfl <| (State.setJob_moves ..).then rfl <| (State.unqueueRoute_moves ..).then rfl <| (s.routeCounted_moves r).mono rfl

theorem State.routed_left {y : Job} (r : Routed) (hy : s.job j.ctx j.idx = some y) (hs : j.stage = .experts) (hl : j.layer = some l) :
    ((s.routed r j).schedule none).LeftRoute j := by
  have hwork : (s.routeCounted r).work = s.work := (s.routeCounted_moves r).off .work rfl
  unfold State.routed
  generalize s.routeCounted r = u at hwork ⊢
  have hjob : (u.unqueueRoute j).job j.ctx j.idx = some y := (State.job_of_jobs (congrArg WorkUnit.jobs hwork) ..).trans hy
  have hplan := State.setJob_planned hjob
  have hq : (j.ctx, j.idx) ∉ ((u.unqueueRoute j).setJob j).work.routeQueue := fun h => of_decide_eq_true (List.mem_filter.1 h).2 rfl
  generalize (u.unqueueRoute j).setJob j = v at hplan hq ⊢
  rw [State.stageEnd_experts hs hl]
  split
  · obtain ⟨z, hz, -⟩ := hplan.job
    have hlast := State.setJob_planned (j := { j with stage := .combine, stageAt := v.clk }) hz
    exact .schedule (x := { j with stage := .combine, stageAt := v.clk }) (hlast.of_jobs rfl) rfl rfl hq
  · exact .schedule hplan rfl rfl hq

theorem exec_routeStage (hin : s.inRoute = some (j, l)) : exec .routeStage s = s.remotely j.ctx j.idx 99 routeStage := by
  change execRouteStage s = _
  unfold execRouteStage
  rw [hin]

theorem State.counted_moves (s : State) (l : Layer) (toks : List (Option Choice)) : Moves 0x20 s (s.counted l toks) :=
  .ite (s.countLoad_moves l.set toks) (.refl _ s)

theorem routeStage_takes (hin : s.inRoute = some (j, l)) (htest : s.work.routeTest = false) (hnight : s.pwr.state ≠ .night)
    (hmid : s.pwr.state ≠ .midnight) (hfault : s.flt.pkgFault = false) (hadm : s.admits 32 = true) (hheld : s.tableHeld j.ctx = false)
    (hset : (l.biasEn && s.setPoisoned l.set) = false) (ht : (s.asked j.ctx j.idx).routeTokens j l = .ok (toks, ids))
    (hq : q = (s.asked j.ctx j.idx).counted l toks) (hx : x = q.expertsJob j l (applyCapacity l toks))
    (hw : q.vwrites x.ctx (q.routeWrites x (x.layer.getD l) (applyCapacity l toks) ids) = (s2, none)) (hn : s2.lnk.need = none) :
    ∃ u, exec .routeStage s = .next u ∧ u.mem = s2.mem ∧ u.LeftRoute x := by
  have hrun := (routeStage_routes (s := s.asked j.ctx j.idx) hin htest hnight hmid hfault hadm hheld).trans
    (congrArg Host.Outcome.next (State.routeBatch_routes (s := s.asked j.ctx j.idx) hset ht hq hx hw))
  have hm : Moves 0x108142C s2 ((s2.routed (applyCapacity l toks) x).schedule none) := (State.schedule_moves ..).then rfl ((s2.routed_moves _ _).mono rfl)
  have hwrites : s2.work = q.work := (MovesF.of (State.vwrites_moves ..) hw).off .work rfl
  have hcounted : q.work = s.work := hq ▸ (State.counted_moves ..).off .work rfl
  have hjob : s2.job j.ctx j.idx = some j := (State.job_of_jobs (congrArg WorkUnit.jobs (hwrites.trans hcounted)) ..).trans (State.inRoute_job hin)
  have hleft : ((s2.routed (applyCapacity l toks) x).schedule none).LeftRoute x := by
    subst hx
    exact State.routed_left _ hjob rfl rfl
  generalize (s2.routed (applyCapacity l toks) x).schedule none = v at hrun hm hleft
  obtain ⟨k, hu⟩ := State.remotely_next hrun (by rw [show v.lnk = s2.lnk from hm.off .links rfl, hn])
  exact ⟨_, (exec_routeStage hin).trans hu, hm.off .memory rfl, hleft.job, hleft.queue⟩

theorem routeStage_waits (s : State) (htest : s.work.routeTest = true) (hn : s.lnk.need = none) :
    ∃ u, exec .routeStage s = .next u ∧ u.mem = s.mem ∧ u.work = s.work := by
  cases hin : s.inRoute with
  | none =>
    refine ⟨s, ?_, rfl, rfl⟩
    change execRouteStage s = _
    unfold execRouteStage
    rw [hin]
  | some p =>
    obtain ⟨k, hu⟩ := State.remotely_next (f := routeStage) (routeStage_testing (s := s.asked p.1.ctx p.1.idx) htest) hn
    exact ⟨_, (exec_routeStage hin).trans hu, rfl, rfl⟩

/-! ### ROUTE_PARITY_ERROR (R255) -/

/-- The engine tests itself, with RTE_EVT bit 2. -/
def State.parityFound (s : State) : State := (s.rteFlag 2).setWork { (s.rteFlag 2).work with routeTest := true }

theorem State.parityFound_moves (s : State) : Moves 0x9083C s s.parityFound := (State.setWork_moves ..).then rfl ((s.rteFlag_moves 2).mono rfl)

theorem State.parityFound_inRoute (s : State) : s.parityFound.inRoute = s.inRoute := by
  have h : (s.rteFlag 2).work = s.work := (s.rteFlag_moves 2).off .work rfl
  change (s.rteFlag 2).inRoute = s.inRoute
  unfold State.inRoute State.job
  rw [h]

theorem State.parityFound_event (i : Inv s) : s.parityFound.work.routeTest = true ∧ s.parityFound.rbit 0x30008 2 = true :=
  ⟨rfl, rbit_flagOpen i 4 noCtx (by decide) (by decide) (by decide)⟩

/-- A batch in Route that ends with ENGINE_FAULT leaves the self-test and RTE_EVT. -/
theorem State.routeFault_selfTest (s : State) (j : Job) (detail : Nat) : TestKept s (s.routeFault j detail) :=
  (State.schedule_engine ..).selfTest.then <| (State.contextFault_selfTest ..).then (State.setWork_selfTest rfl)

theorem State.routeFault_stops (i : Inv s) (hc : (s.ctx j.ctx).state = .open_) (detail : Nat) :
    ((s.routeFault j detail).ctx j.ctx).state = .teardown ∧ ((s.routeFault j detail).ring j.ctx).lastCode = 0x45 := by
  have iu : Inv (s.unqueueRoute j) := (s.unqueueRoute_moves j).inv i
  obtain ⟨hstate, -, hcode⟩ := State.contextFault_stops iu (c := j.ctx) (code := 0x45) (detail := detail) (unit := 32) (idx := some j.idx)
    (entry := false) hc
  exact ⟨(congrArg Ctx.state ((State.schedule_moves ..).ctx rfl _)).trans hstate,
    (congrArg Ring.lastCode ((State.schedule_moves ..).ring rfl _)).trans hcode⟩

theorem exec_routeParityError_empty (h : s.inRoute = none) : exec .routeParityError s = .next s.parityFound := by
  have hin := s.parityFound_inRoute.trans h
  unfold State.parityFound at hin ⊢
  change execRouteParityError s = _
  unfold execRouteParityError
  dsimp only
  rw [hin]

theorem exec_routeParityError_batch (h : s.inRoute = some (j, l)) :
    exec .routeParityError s = .next ((s.parityFound.partLoad j l).routeFault j 0x20100) := by
  have hin := s.parityFound_inRoute.trans h
  unfold State.parityFound at hin ⊢
  change execRouteParityError s = _
  unfold execRouteParityError
  dsimp only
  rw [hin]

theorem routeParityError_tests (s : State) (i : Inv s) : ∃ u, exec .routeParityError s = .next u ∧ u.work.routeTest = true ∧ u.rbit 0x30008 2 = true ∧
    ∀ j l, s.inRoute = some (j, l) → (s.ctx j.ctx).state = .open_ → (u.ctx j.ctx).state = .teardown ∧ (u.ring j.ctx).lastCode = 0x45 := by
  obtain ⟨htest, hbit⟩ := s.parityFound_event i
  cases hin : s.inRoute with
  | none => exact ⟨_, exec_routeParityError_empty hin, htest, hbit, fun _ _ h => absurd h (by simp)⟩
  | some p =>
    obtain ⟨j, l⟩ := p
    have hkept : TestKept s.parityFound ((s.parityFound.partLoad j l).routeFault j 0x20100) :=
      (State.routeFault_selfTest ..).then (State.partLoad_selfTest ..)
    have hm : Moves 0x9083C s (s.parityFound.partLoad j l) := (State.partLoad_moves ..).then rfl s.parityFound_moves
    refine ⟨_, exec_routeParityError_batch hin, hkept.work.trans htest, ?_, ?_⟩
    · rw [State.rbit, hkept.reg]
      exact hbit
    · rintro _ _ ⟨⟩ hc
      exact State.routeFault_stops (hm.inv i) (by rwa [hm.ctx rfl]) _

/-! ### ROUTE_SELF_TEST (R255) -/

theorem routeSelfTest_ends (ok : Bool) (s : State) (htest : s.work.routeTest = true) : ∃ u, exec (.routeSelfTest ok) s = .next u ∧
    u.work.routeTest = false ∧ (ok = false → u.dpFailed 32 = true) ∧ (ok = true → u = s.setWork { s.work with routeTest := false }) := by
  refine ⟨_, if_neg (by simp [htest]), ?_⟩
  cases ok with
  | true => exact ⟨rfl, fun h => absurd h (by decide), fun _ => rfl⟩
  | false =>
    refine ⟨?_, fun _ => State.dpFailed_setDp .., fun h => absurd h (by decide)⟩
    exact congrArg WorkUnit.routeTest ((State.setDp_moves (s.setWork { s.work with routeTest := false }) 32 true).off .work rfl)

theorem routeSelfTest_idle (ok : Bool) (s : State) (htest : s.work.routeTest = false) : ∃ u, exec (.routeSelfTest ok) s = .next u ∧ u = s :=
  ⟨s, if_pos (by simp [htest]), rfl⟩

end Sys2Proof.Machine
end

section
/-! PROOFS. Errors of the Bias Table, the Evening loop and its settings, and the statement on the Routing Engine (O33; R244, R250, R254). -/

namespace Sys2Proof.Machine

variable {s : State} {k : Fin 16}

/-! ### BIAS_TABLE_UE (R254) -/

theorem State.rollback_shuts (s : State) (det : Nat) : (s.rollback det).flt.bracket = none := by
  unfold State.rollback
  split
  · next h => exact h
  · exact (((State.flagOpen_moves ..).fltKept rfl).then <| ((State.bump_moves ..).fltKept rfl).then <| (State.record_fltKept ..).then
      (State.fence_fltKept ..)).shut rfl

theorem State.rollbackFor_shuts (s : State) (det : Nat) : (s.rollbackFor det).flt.bracket = none := by
  unfold State.rollbackFor
  split
  · exact ((State.rollbackReport_moves ..).fltKept rfl).shut (State.rollback_shuts ..)
  · next h => exact h

/-- Set `k` is poisoned, with RTE_EVT bit 0. -/
def State.poisonedSet (s : State) (k : Nat) : State := (s.setFld (0x30100 + 0x10 * k) 30 1 1).rteFlag 0

theorem State.poisonedSet_moves (s : State) (k : Nat) : Moves 0x1083C s (s.poisonedSet k) :=
  (State.rteFlag_moves ..).then rfl ((State.setFld_moves ..).mono rfl)

theorem State.poisonedSet_poisoned (i : Inv s) (k : Fin 16) : (s.poisonedSet k.val).setPoisoned k.val = true := by
  unfold State.poisonedSet State.rteFlag State.setPoisoned State.rbit
  rw [reg_flagOpen _ _ _ _ _ (by omega) (by omega) (by omega), State.setFld, reg_setReg_same i]
  exact bitAt_wput_one _ (by decide)

theorem exec_biasTableUe_shut (hb : s.flt.bracket = none) : exec (.biasTableUe k false) s = .next (s.poisonedSet k.val) := by
  have hb' : (s.poisonedSet k.val).flt.bracket = none := (congrArg FltUnit.bracket ((s.poisonedSet_moves k.val).off .faults rfl)).trans hb
  unfold State.poisonedSet at hb' ⊢
  change execBiasTableUe k false s = _
  unfold execBiasTableUe
  dsimp only
  rw [if_neg (by decide), hb']

/-- An uncorrectable error rolls the bracket back that changes a set not poisoned before. -/
theorem exec_biasTableUe_bracket {b : Bracket} (hb : s.flt.bracket = some b) : exec (.biasTableUe k false) s =
    .next (if !s.setPoisoned k.val ∧ b.sets.any (fun x => decide (x.set = k.val)) then (s.poisonedSet k.val).rollbackFor (rollbackDetail 5 0 k.val)
      else s.poisonedSet k.val) := by
  have hb' : (s.poisonedSet k.val).flt.bracket = some b := (congrArg FltUnit.bracket ((s.poisonedSet_moves k.val).off .faults rfl)).trans hb
  unfold State.poisonedSet at hb' ⊢
  change execBiasTableUe k false s = _
  unfold execBiasTableUe
  dsimp only
  rw [if_neg (by decide), hb']
  exact (apply_ite Host.Outcome.next _ _ _).symm

theorem biasTableUe_poisons (k : Fin 16) (s : State) (i : Inv s) : ∃ u, exec (.biasTableUe k false) s = .next u ∧ u.setPoisoned k.val = true ∧
    ∀ b, s.flt.bracket = some b → s.setPoisoned k.val = false → b.sets.any (fun x => decide (x.set = k.val)) = true → u.flt.bracket = none := by
  have hset := State.poisonedSet_poisoned i k
  have hrolled : ((s.poisonedSet k.val).rollbackFor (rollbackDetail 5 0 k.val)).setPoisoned k.val = true := by
    have hreg := ((s.poisonedSet k.val).rollbackFor_rte (x := 0x30100 + 0x10 * k.val) (f := id) (by omega) (rollbackDetail 5 0 k.val)).reg
    unfold State.setPoisoned State.rbit at hset ⊢
    rwa [hreg]
  cases hb : s.flt.bracket with
  | none => exact ⟨_, exec_biasTableUe_shut hb, hset, fun _ h => absurd h (by simp)⟩
  | some b =>
    refine ⟨_, exec_biasTableUe_bracket hb, ?_⟩
    split
    · exact ⟨hrolled, fun _ _ _ _ => State.rollbackFor_shuts ..⟩
    · next hno =>
      refine ⟨hset, ?_⟩
      rintro _ ⟨⟩ hfresh hany
      exact absurd ⟨by simp [hfresh], hany⟩ hno

/-! ### EVENING_LOOP (R244) -/

theorem exec_eveningLoop_turn (h : s.turn (.evening k.val) = true) : exec (.eveningLoop k) s = .next ((s.eveningSet k.val).fired (.evening k.val)) :=
  if_pos h

theorem eveningLoop_waits (k : Fin 16) (s : State) (h : s.turn (.evening k.val) = false) : ∃ u, exec (.eveningLoop k) s = .next u ∧ u = s :=
  ⟨s, if_neg (by simp [h]), rfl⟩

theorem eveningLoop_skips (k : Fin 16) (s : State) (h : s.turn (.evening k.val) = true)
    (hheld : ((s.lease (resSet k)).holder.isSome || s.setPoisoned k.val) = true) :
    ∃ u, exec (.eveningLoop k) s = .next u ∧ u = ((s.rteCount 7 1).rteFlag 1).fired (.evening k.val) := by
  have hskip : s.eveningSet k.val = (s.rteCount 7 1).rteFlag 1 := by
    refine if_pos ?_
    simp only [Bool.or_eq_true] at hheld ⊢
    exact hheld.imp_left .inl
  exact ⟨_, exec_eveningLoop_turn h, congrArg (State.fired · _) hskip⟩

/-- The selections of the Day that set `k` counts (R235). -/
def State.loadTotal (s : State) (k : Nat) : Nat :=
  ((List.range (s.setExperts k)).map fun e => (s.reg (0x38000 + 0x400 * k + 4 * e)).toNat).foldl (· + ·) 0

/-- The bias of expert `e` of set `k` after the Evening loop. -/
def State.movedBias (s : State) (k e : Nat) : Nat :=
  eveningBias (s.bias k e) (s.reg (0x38000 + 0x400 * k + 4 * e)).toNat (s.setExperts k) (s.loadTotal k) (s.reg (0x30108 + 0x10 * k)).toNat
    (s.reg (0x3010C + 0x10 * k)).toNat

/-- The biases of set `k` moved and its LOAD counters cleared. -/
def State.rebalanced (s : State) (k : Nat) : State :=
  (s.putBiases k 0 ((List.range (s.setExperts k)).map (s.movedBias k))).clearLoads k (List.range (s.setExperts k))

theorem State.eveningSet_runs {k : Nat} (hl : (s.lease (resSet k)).holder = none) (hb : s.flt.bracket = none) (hp : s.setPoisoned k = false)
    (hn : s.pwr.state ≠ .night) (ht : s.loadTotal k ≠ 0) : s.eveningSet k =
      ((s.rebalanced k).setReg (0x30104 + 0x10 * k) (BitVec.ofNat 32 ((s.setVersion k + 1) % 2 ^ 32))).rteCount 6 1 := by
  refine (if_neg (by simp [hl, hb, hp])).trans (if_neg ?_)
  rintro (h | h)
  · exact ht h
  · exact hn h

theorem State.setExperts_le (s : State) (k : Nat) : s.setExperts k ≤ 256 := by
  unfold State.setExperts
  dsimp only
  split <;> omega

theorem reg_clearLoads_same (k : Nat) {e : Nat} (es : List Nat) {s : State} (i : Inv s) (he : e ∈ es) :
    (s.clearLoads k es).reg (0x38000 + 0x400 * k + 4 * e) = 0 := by
  induction es generalizing s with
  | nil => exact absurd he List.not_mem_nil
  | cons y es ih =>
    by_cases h : e ∈ es
    · exact ih ((State.setReg_moves ..).inv i) h
    · obtain rfl : e = y := (List.mem_cons.1 he).resolve_right h
      refine (reg_clearLoads_other k es (s.setReg _ 0) fun z hz hx => h ?_).trans (reg_setReg_same i _ _)
      obtain rfl : e = z := by omega
      exact hz

theorem State.rebalanced_moves (s : State) (k : Nat) : Moves 0x20 s (s.rebalanced k) := (State.clearLoads_moves ..).then rfl (State.putBiases_moves ..)

theorem reg_rebalanced_load (i : Inv s) {k e : Nat} (he : e < s.setExperts k) : (s.rebalanced k).reg (0x38000 + 0x400 * k + 4 * e) = 0 :=
  reg_clearLoads_same k _ ((State.putBiases_moves ..).inv i) (List.mem_range.2 he)

theorem reg_rebalanced_bias (i : Inv s) (k : Fin 16) {e : Nat} (he : e < s.setExperts k.val) :
    (s.rebalanced k.val).reg (0x34000 + 0x400 * k.val + 4 * e) = BitVec.ofNat 32 (s.movedBias k.val e) := by
  have hmax := s.setExperts_le k.val
  have hput := reg_putBiases_same k.val ((List.range (s.setExperts k.val)).map (s.movedBias k.val)) 0 i e (by simpa using he)
  rw [Nat.zero_add] at hput
  unfold State.rebalanced
  rw [reg_clearLoads_other k.val _ _ (by omega), hput]
  simp [List.getD_eq_getElem?_getD, he]

theorem eveningLoop_runs (k : Fin 16) (s : State) (i : Inv s) (h : s.turn (.evening k.val) = true) (hl : (s.lease (resSet k)).holder = none)
    (hb : s.flt.bracket = none) (hp : s.setPoisoned k.val = false) (hn : s.pwr.state ≠ .night) (ht : s.loadTotal k.val ≠ 0) :
    ∃ u, exec (.eveningLoop k) s = .next u ∧ u.setVersion k.val = (s.setVersion k.val + 1) % 2 ^ 32 ∧ u.mem = s.mem ∧
      ¬ Due.evening k.val ∈ u.day.due ∧ ∀ e < s.setExperts k.val, u.reg (0x38000 + 0x400 * k.val + 4 * e) = 0 ∧
        u.reg (0x34000 + 0x400 * k.val + 4 * e) = BitVec.ofNat 32 (s.movedBias k.val e) := by
  have hmax := s.setExperts_le k.val
  have hmem : (s.eveningSet k.val).mem = s.mem := (s.eveningSet_moves k.val).off .memory rfl
  have hreg (x : Nat) (hv : x ≠ 0x30104 + 0x10 * k.val) (hc : x ≠ 0x30058) : (s.eveningSet k.val).reg x = (s.rebalanced k.val).reg x := by
    rw [State.eveningSet_runs hl hb hp hn ht, State.rteCount, reg_bump_other _ _ _ hc, reg_setReg_other _ _ hv]
  have hversion : (s.eveningSet k.val).setVersion k.val = (s.setVersion k.val + 1) % 2 ^ 32 := by
    rw [State.eveningSet_runs hl hb hp hn ht, State.setVersion, State.rteCount, reg_bump_other _ _ _ (by omega),
      reg_setReg_same ((s.rebalanced_moves k.val).inv i), BitVec.toNat_ofNat, Nat.mod_mod]
  refine ⟨_, exec_eveningLoop_turn h, hversion, hmem, fun hd => of_decide_eq_true (List.mem_filter.1 hd).2 rfl, fun e he => ⟨?_, ?_⟩⟩
  · exact (hreg _ (by omega) (by omega)).trans (reg_rebalanced_load i he)
  · exact (hreg _ (by omega) (by omega)).trans (reg_rebalanced_bias i k he)

/-! ### RTE_EVE_PARAM_WRITE (R250) -/

theorem reg_writeEveParam (i : Inv s) {off : Nat} (h : 0x30100 ≤ off ∧ off < 0x30200) (v : Word) :
    (State.writeEveParam off v s).reg off = if f32Fin v.toNat = true ∧ (f32 v.toNat).lt (f32 0) = false then v else 0 := by
  unfold State.writeEveParam
  by_cases hv : f32Fin v.toNat = true ∧ (f32 v.toNat).lt (f32 0) = false
  · rw [if_pos hv, if_neg (by simp [hv.1, hv.2]), reg_setReg_same i]
  · have hbad : (!f32Fin v.toNat || (f32 v.toNat).lt (f32 0)) = true := by
      rw [Bool.or_eq_true, Bool.not_eq_true', or_iff_not_imp_left]
      exact fun hf => Bool.eq_true_of_not_eq_false fun hlt => hv ⟨Bool.eq_true_of_not_eq_false hf, hlt⟩
    rw [if_neg hv, if_pos hbad, State.rteFlag, reg_flagOpen _ _ _ _ _ (by omega) (by omega) (by omega), reg_setReg_same i]

/-- The place of RTE_EVE_RATE_s, or of RTE_EVE_LIMIT_s. -/
def eveParam (k : Nat) (lim : Bool) : Nat := (if lim then 0x3010C else 0x30108) + 0x10 * k

theorem rteEveParamWrite_stores (k : Fin 16) (lim : Bool) (v : Word) (s : State) (i : Inv s) (hs : s.served) :
    ∃ u, exec (.rteEveParamWrite k lim v) s = .next u ∧
      u.reg (eveParam k.val lim) = (if f32Fin v.toNat = true ∧ (f32 v.toNat).lt (f32 0) = false then v else 0) ∧ u.mem = s.mem := by
  have hoff : 0x30100 ≤ eveParam k.val lim ∧ eveParam k.val lim < 0x30200 := by
    unfold eveParam
    cases lim <;> simp <;> omega
  have hdrop := s.dropLatches_moves (eveParam k.val lim)
  refine ⟨_, congrArg Host.Outcome.next (State.onWrite_open _ (fun _ => hs.1) hs.2), reg_writeEveParam (hdrop.inv i) hoff v, ?_⟩
  exact ((State.writeEveParam_moves ..).off .memory rfl).trans (hdrop.off .memory rfl)

/-- Settles O33: a routed batch leaves its queue with its job planned, a fault of a batch leaves the self-test and RTE_EVT, and the Evening loop's writes are
the model's own. -/
theorem routingEngine : Obligations.RoutingEngine :=
  ⟨fun _ _ _ _ _ _ hin htest hnight hmid hfault hadm hheld hset ht hw hn => by
    obtain ⟨u, hu, hmem, hleft⟩ := routeStage_takes hin htest hnight hmid hfault hadm hheld hset ht rfl rfl hw hn
    exact ⟨u, hu, hmem, hleft.queue, hleft.job⟩,
   routeStage_waits, routeParityError_tests, routeSelfTest_ends, routeSelfTest_idle, biasTableUe_poisons, fun _ s => ⟨s.bump 0x30060 32 1, rfl, rfl⟩,
   fun k s i h hl hb hp hn ht => eveningLoop_runs k s i h hl hb hp hn ht, eveningLoop_skips, eveningLoop_waits, rteEveParamWrite_stores⟩

end Sys2Proof.Machine
end
